-- ==== Sys2Proof/Word.lean ====
section
/-!
DEFINITION. The word types of the NDR-4096 model and the plainest arithmetic on unsigned and signed fields.
Register fields are held as natural numbers already cut to their width (R3, R5); Spire registers are bit vectors.
-/
namespace Sys2Proof

/-- A 32-bit Spire or register word. -/
abbrev Word := BitVec 32
/-- A byte of memory. -/
abbrev Byte := BitVec 8

/-- Bit `k` of a number. -/
def bit (v k : Nat) : Bool := v.testBit k
/-- The field of `w` bits that begins at bit `lsb`. -/
def bits (v lsb w : Nat) : Nat := (v / 2 ^ lsb) % 2 ^ w
/-- A field of `w` bits read as a two's-complement number. -/
def sx (w v : Nat) : Int := if v % 2 ^ w < 2 ^ (w - 1) then (v % 2 ^ w : Nat) else ((v % 2 ^ w : Nat) : Int) - 2 ^ w
/-- The `w`-bit two's-complement code of an integer (modulo 2^w). -/
def uz (w : Nat) (z : Int) : Nat := (z % (2 ^ w : Nat)).toNat
/-- Clamp an integer into a closed range. -/
def clampInt (lo hi z : Int) : Int := if z < lo then lo else if hi < z then hi else z
/-- A Boolean as 0 or 1. -/
def b2n (b : Bool) : Nat := if b then 1 else 0
/-- Ceiling division. -/
def ceilDiv (a b : Nat) : Nat := (a + b - 1) / b
/-- Saturate an unsigned number at `2^w − 1`. -/
def satU (w v : Nat) : Nat := min v (2 ^ w - 1)

end Sys2Proof
end

