-- ==== Sys2Proof/Machine/Base.lean ====
section
/-!
DEFINITION. Sparse tables: the plain-data form of every indexed piece of state. A table is a list of
(key, value) pairs in rising key order; a key that is not listed holds the table's default.
-/
namespace Sys2Proof.Machine

/-- A sparse table from natural keys. -/
abbrev Sp (α : Type) := List (Nat × α)

/-- The value a table holds at a key, `d` where the key is not listed. -/
def Sp.get {α : Type} (d : α) : Sp α → Nat → α
  | [], _ => d
  | (k, v) :: t, n => if n = k then v else Sp.get d t n

/-- The table with one key's value replaced, kept in rising key order. -/
def Sp.set {α : Type} : Sp α → Nat → α → Sp α
  | [], n, x => [(n, x)]
  | (k, v) :: t, n, x =>
    if n < k then (n, x) :: (k, v) :: t
    else if n = k then (n, x) :: t
    else (k, v) :: Sp.set t n x

/-- One entry changed by a function. -/
def Sp.upd {α : Type} (d : α) (m : Sp α) (n : Nat) (f : α → α) : Sp α := Sp.set m n (f (Sp.get d m n))

/-- The first `n` naturals folded over, lowest first. -/
def forN {σ : Type} : Nat → (Nat → σ → σ) → σ → σ
  | 0, _, s => s
  | n + 1, f, s => f n (forN n f s)

/-- The element of a list at an index, `d` past its end. -/
def nth {α : Type} (d : α) : List α → Nat → α
  | [], _ => d
  | x :: _, 0 => x
  | _ :: t, n + 1 => nth d t n

/-- A list with the element at an index replaced; unchanged past its end. -/
def setNth {α : Type} : List α → Nat → α → List α
  | [], _, _ => []
  | _ :: t, 0, y => y :: t
  | x :: t, n + 1, y => x :: setNth t n y

/-- The sum of a function over a list. -/
def sumOf {α : Type} (f : α → Nat) : List α → Nat
  | [] => 0
  | x :: t => f x + sumOf f t

/-- A list of the naturals below `n`, rising. -/
def upTo (n : Nat) : List Nat := List.range n

end Sys2Proof.Machine
end

