-- ==== Sys2Proof/Machine/StateCells.lean ====
section
/-!
DEFINITION. State of the cell path (chapters 02 to 05): status images, frames, terminals, cell-store entries and the
hidden state of the rings, arms and gate command stage. Software-visible registers live in the register file.
-/
namespace Sys2Proof.Machine

/-- The status field of a slot (R38): the sixteen bytes a terminal writes. -/
structure Stat where
  vcap : Nat := 0
  vpack : Nat := 0
  ipack : Nat := 0
  tempPack : Nat := 0
  tempSw : Nat := 0
  stateNow : Nat := 0
  dcdcOn : Bool := false
  cmdMissed : Bool := false
  staleEpoch : Bool := false
  dupMismatch : Bool := false
  cmdBad : Bool := false
  fault : Nat := 0
  crcErrs : Nat := 0
  alive : Nat := 0
  present : Bool := false
  fullBridge : Bool := false
  intlkMode : Bool := false
  latched : Bool := false
  losU : Bool := false
  losD : Bool := false
  wrapping : Bool := false
  testing : Bool := false
  sampleAge : Nat := 0
  deriving DecidableEq, Repr

/-- The command field of a slot (R37). -/
structure Cmd where
  iref : Nat := 0
  state : Nat := 0
  dcdcEn : Bool := false
  deriving DecidableEq, Repr

/-- The frame header (R36). -/
structure Hdr where
  version : Nat := 1
  ftype : Nat := 1
  dir : Bool := false
  holder : Bool := false
  relay : Bool := false
  ring16 : Bool := false
  wrapped : Bool := false
  epoch : Nat := 0
  cycleNo : Nat := 0
  cycleLen : Nat := 0
  ringId : Nat := 0
  cells : Nat := 0
  dev : Nat := 0
  mPos : Nat := 0
  mWrite : Bool := false
  mReq : Bool := false
  mAck : Bool := false
  mAddr : Nat := 0
  mData : Nat := 0
  mTag : Nat := 0
  mStat : Nat := 0
  deriving DecidableEq, Repr

/-- A cycle frame (R35): header and one command and one status per position. -/
structure Frame where
  hdr : Hdr := {}
  cmds : List Cmd := []
  stats : List Stat := []
  deriving DecidableEq, Repr

/-- The SEL word of an entry (R92). -/
structure Sel where
  dec : Nat := 0
  ins : Bool := false
  pinned : Bool := false
  forced : Bool := false
  elig : Bool := false
  spent : Nat := 0
  rank : Nat := 0
  deriving DecidableEq, Repr

/-- The GATE word of an entry (R121). -/
structure Gate where
  eff : Nat := 0
  effPrev : Nat := 0
  holdSent : Bool := false
  dcdc : Bool := false
  illegal : Bool := false
  flt : Bool := false
  cp : Bool := false
  fromBlk : Bool := false
  rfsh : Bool := false
  byp : Nat := 0
  misCnt : Nat := 0
  why : Nat := 0
  hsRun : Nat := 0
  deriving DecidableEq, Repr

/-- A cell-store entry (R65). `selCmd` is the pack-current reference the selector hands on (R95), `cmd` the slot
assembled for the next launch, `lastCmd` the slot of the last launch (R37), `gatePre` the GATE word before the
present assembly (R108 samples rows 1 to 5 again at the set-up point), `bad` the offsets of 8-byte words under an
uncorrectable error (R78), `single` those with an error of one bit, which the next read corrects (R78). -/
structure Entry where
  img : Stat := {}
  key : Nat := 0
  soe : Nat := 0
  qual : Nat := 0
  src : Bool := false
  avail : Bool := false
  estim : Bool := false
  ecAdj : Bool := false
  fb : Bool := false
  corrupt : Bool := false
  heldRun : Nat := 0
  eDis : Nat := 0
  eChg : Nat := 0
  resDis : Nat := 0
  resChg : Nat := 0
  ec : Nat := 0
  estJ : Nat := 0
  swCount : Nat := 0
  tpackMax : Nat := 0x8000
  tswMax : Nat := 0x8000
  faultCnt : Nat := 0
  lastState : Nat := 0
  seq : Nat := 0
  sel : Sel := {}
  gate : Gate := {}
  capJ : Nat := 0
  ecSet : Nat := 0
  hw : Nat := 0
  leaseId : Nat := 0
  leaseEn : Bool := false
  swBlock : Bool := false
  ecSetPend : Bool := false
  clrMax : Bool := false
  clrCorrupt : Bool := false
  user : Nat := 0
  selCmd : Cmd := {}
  cmd : Cmd := {}
  lastCmd : Cmd := {}
  gatePre : Gate := {}
  bad : List Nat := []
  single : List Nat := []
  deriving DecidableEq, Repr

/-- A software write of bytes of an entry: its FAB edge, and whether it came over the fabric or from a scatter (R66, R184). -/
structure CellPut where
  edge : Nat
  off : Nat
  bytes : List Nat
  fabric : Bool
  deriving DecidableEq, Repr

/-- The latest software writes of an entry: the entry as it stood before them, and the writes in the order in which they commit.
Processing on an edge reads the entry without those of that edge and later (R66). -/
structure LateWrites where
  before : Entry
  puts : List CellPut
  deriving DecidableEq, Repr

/-- The Cell Driver Register Set of a terminal (R54), reset values as the table gives them. -/
structure Cdr where
  termVer : Nat := 0
  fullBridge : Bool := false
  hsCp : Bool := false
  dcdc : Bool := false
  bindRing : Nat := 0
  bindDev : Nat := 0
  bindAny : Bool := true
  intlkMode : Bool := false
  ovAction : Bool := false
  deadTime : Nat := 0x064
  intlkTo : Nat := 0x1F4
  vgOff : Nat := 0x14
  gateCur : List Nat := [0x277, 0x277, 0x277, 0x277]
  desatThr : Nat := 0x2BC
  hscThr : Nat := 0x3E8
  blank : Nat := 0x0C8
  ocThr : Nat := 0x1F40
  ovThr : Nat := 0x7530
  uvThr : Nat := 0
  test : Nat := 0
  pass : Nat := 0
  done : Nat := 0
  running : Bool := false
  fault : Nat := 0
  cmdBad : Bool := false
  faultRaw : Nat := 0
  epoch : Nat := 0
  lastCycle : Nat := 0
  crcErr : Nat := 0
  pos : Nat := 0
  posDir : Bool := false
  deriving DecidableEq, Repr

/-- A 66-bit block of a ring lane (R34): its sync header and its eight octets, the first in bits 7:0. -/
structure Block66 where
  sync : BitVec 2
  octets : BitVec 64
  deriving DecidableEq, Repr

/-- What the terminal's sensors show (R38, R49, R50): the sampled analogue values and the age of the sample in 10 ns, the
collector voltage of the switches that are on in 10 mV, the 10 ns since the last turn-on, and a gate or high-side supply below
its rating. -/
structure SensorIn where
  vcap : BitVec 16
  vpack : BitVec 16
  ipack : BitVec 16
  tempPack : BitVec 16
  tempSw : BitVec 16
  age : BitVec 16
  vce : BitVec 16
  sinceOn : BitVec 16
  supplyLow : Bool
  deriving DecidableEq, Repr

/-- What a terminal's interlock watches for a switch (R49), times in 10 ns: since its complement was commanded off, since the
apply that turns the switch on, the complement's off-confirmation, and the highest complementary gate voltage (signed, 100 mV)
over the latest `vgFor`. -/
structure LegIn where
  sinceOff : BitVec 32
  sinceApply : BitVec 32
  offConf : Bool
  vgMax : BitVec 8
  vgFor : BitVec 32
  deriving DecidableEq, Repr

/-- A management write a terminal has accepted from a header and applies with the frame (R52). -/
structure MgmtWrite where
  addr : Nat
  data : Nat
  tag : Nat
  deriving DecidableEq, Repr

/-- An event flag of status byte 10 (R39): seen and not yet sampled, and the CYCLE_NO its report began in. -/
structure EvFlag where
  pend : Bool := false
  cycle : Option Nat := none
  deriving DecidableEq, Repr

/-- What the addressed terminal puts into the forwarded header (R52). -/
structure MgmtOut where
  stat : Nat
  data : Option Nat
  deriving DecidableEq, Repr

/-- A cell terminal (R39 to R58, R98, R99). `state` is the commanded state, `on` the switches S1 to S4 that are on,
`wait` those whose turn-on waits on the interlock, `ovReact` a latched fault whose reaction is BYPASS, `hdrWrite` the
accepted management write, `hdrOut` what the forwarded header carries, `appliedCmd` the four bytes of the applied command (R46), `hdrFor` the position and the header octets both were
decided for as the header passed (R52), `tagA` and `tagB` the remembered tag per DIR (R53), `wdog` the expired watchdog (R51),
`out` the blocks last sent on, `back` those turned back while wrapping (R57). -/
structure Term where
  cdr : Cdr := {}
  epochUnset : Bool := true
  appliedOnce : Bool := false
  prevCycle : Option Nat := none
  appliedCmd : Nat := 0
  cycleLen : Nat := 0
  state : Nat := 0
  on : List Bool := [false, false, false, false]
  wait : List Bool := [false, false, false, false]
  dcdcOn : Bool := false
  iref : Nat := 0
  ovReact : Bool := false
  alive : Nat := 0
  wdog : Bool := false
  lockU : Bool := false
  lockD : Bool := false
  wiredU : Bool := false
  wiredD : Bool := false
  wrapping : Bool := false
  hdrWrite : Option MgmtWrite := none
  hdrOut : Option MgmtOut := none
  hdrFor : Option (Option Nat × BitVec 128) := none
  tagA : Option Nat := none
  tagB : Option Nat := none
  evStale : EvFlag := {}
  evDup : EvFlag := {}
  evBad : EvFlag := {}
  evMissed : Option Nat := none
  out : List Block66 := []
  back : List Block66 := []
  deriving DecidableEq, Repr

/-- A management request waiting in a RING_n request FIFO (R62, R63). -/
structure MgmtReq where
  pos : Nat
  write : Bool
  addr : Nat
  data : Nat
  deriving DecidableEq, Repr

/-- A management response (R62, R63). -/
structure MgmtRsp where
  stat : Nat
  noack : Bool
  tries : Nat
  data : Nat
  deriving DecidableEq, Repr

/-- Hidden state of RING_n: consecutive missed cycles (R56), consecutive incomplete cycles (R22) and whether they have been
found to reach the limit (R26), whether this cycle's frame was accepted or judged, the positions already processed (R69), the management FIFOs and the request in
flight (R63), status held for a twin's agreed processing (R328), the frame launched at the last tick, and
BLOCK in place of HOLD in the next frame of a unit in JOIN (R331). -/
structure RingSt where
  misses : Nat := 0
  ovr : Nat := 0
  ovrSeen : Bool := false
  accepted : Bool := false
  done : Nat := 0
  reqs : List MgmtReq := []
  rsps : List MgmtRsp := []
  tag : Nat := 0
  tries : Nat := 0
  carried : Bool := false
  own : Sp Stat := []
  relayed : Sp Stat := []
  relay : Bool := false
  tx : Option Frame := none
  mute : Bool := false
  deriving DecidableEq, Repr

/-- Hidden state of ARM_k: a count committed since the last cut-off (R21), the count formed at the cut-off, the
refill counter and a refill due (R89); whether the cut-off reused the count, and the STATUS bits it found, which a count that
commits on the cut-off's own edge brings back (R21). -/
structure ArmSt where
  committed : Bool := false
  n : Int := 0
  refill : Nat := 0
  refillDue : Bool := false
  reused : Bool := false
  hadReused : Bool := false
  hadClamped : Bool := false
  deriving DecidableEq, Repr

/-- A record of the gate event log (R117). -/
structure EvtRec where
  time : Nat
  src : Nat
  simul : Bool
  arms : Nat
  cell : Nat
  action : Nat
  deriving DecidableEq, Repr

/-- A cell reaction of action ARM or PAIR waiting for the grouping of R115. -/
structure GroupRec where
  cell : Nat
  src : Nat
  arm : Nat
  action : Nat
  deriving DecidableEq, Repr

/-- The gate command stage's log and grouping state (R114 to R117). -/
structure GcsSt where
  log : List EvtRec := []
  latched : Option EvtRec := none
  group : List GroupRec := []
  keepReq : Bool := false
  deriving DecidableEq, Repr

/-- The phase of the control cycle (R18, R25): which of the fixed edges of the cycle have passed; `held` the
rings the set-up point gave HOLD (R22); N_REUSED and ARM_REUSED as the cut-off found them (R21); the latest software writes of the cell store (R66). -/
structure PipeSt where
  running : Bool := false
  firstPending : Bool := false
  endPending : Bool := false
  tickEdge : Nat := 0
  tickTime : Nat := 0
  cycleFab : Nat := 0
  retPassed : Bool := false
  maskPassed : Bool := false
  cseDone : Bool := false
  leaseDone : Bool := false
  cutoff : Bool := false
  selDone : Bool := false
  gateDone : Bool := false
  setup : Bool := false
  lastArrival : Nat := 0
  anyLate : Bool := false
  overrun : Bool := false
  held : Nat := 0
  assembled : Bool := false
  vmeanLat : Sp Nat := []
  lwSnap : Sp Nat := []
  storeInit : Bool := true
  hadReused : Nat := 0
  late : Sp LateWrites := []
  deriving DecidableEq, Repr

end Sys2Proof.Machine
end

