-- ==== Sys2Proof/Machine/StateSignals.lean ====
section
/-!
DEFINITION. State of the converters, sampled-value streams, filter channels, Oculus, the PWM pairs, the trip block
and the driver bus (chapters 13 to 15) that no register shows.
-/
namespace Sys2Proof.Machine

/-- Hidden state of ADC_k: a run pending in its delay (the start in eighths of a FAB clock, R258), the run in progress
(its next entry and that entry's start in eighths), the edge of the last trigger taken, EN as last written, the entries completed
since the last comparison of R264 as a bit mask, consecutive exceedances, the edge and the difference of the last
comparison that reached CNT. -/
structure AdcSt where
  pend : Option Nat := none
  entry : Option Nat := none
  start8 : Nat := 0
  taken : Nat := 0
  on : Bool := false
  fresh : Nat := 0
  exceed : Nat := 0
  flag : Option (Nat × Nat) := none
  deriving DecidableEq, Repr

/-- One ASDU of an accepted frame (R266, R270): smpCnt, smpSynch, and the value and quality of each channel. -/
structure Asdu where
  smpCnt : Nat
  smpSynch : Nat
  chans : List (Nat × Nat)
  deriving DecidableEq, Repr

/-- What a stream has accepted (R269): the accept time of the last frame, or the tick EN took effect, the last ASDU, the frames
accepted since EN took effect, a frame accepted while STALE and no tick since. -/
structure SvSeen where
  last : Nat := 0
  asdu : Option Asdu := none
  count : Nat := 0
  resume : Bool := false
  deriving DecidableEq, Repr

/-- Hidden state of SV_s: what it has accepted, the edge of its last acceptance and what it had accepted before that edge (R269:
a frame accepted on the tick's own edge counts at the next tick), the ASDU of the last tick's snapshot (R270), QUAL of the
last tick, and the applied EN seen at it. -/
structure SvSt where
  now : SvSeen := {}
  was : SvSeen := {}
  edge : Nat := 0
  snap : Option Asdu := none
  qual : Nat := 0
  wasEn : Bool := false
  deriving DecidableEq, Repr

/-- A sample on its way to a filter channel (R272): the arrival edge and time, x, restart flag (R277). -/
structure Sample where
  edge : Nat
  time : Nat
  x : Int
  gap : Bool
  deriving DecidableEq, Repr

/-- The filter job in progress (R274): its channel, last edge, the output it forms (none for a decimated sample),
saturation, the quality of the output, the time of its sample, and whether it is the last output of a fade. -/
structure FiltJob where
  chan : Nat
  edge : Nat
  out : Option Int := none
  sat : Bool := false
  qual : Nat := 0
  time : Nat := 0
  fadeEnd : Bool := false
  deriving DecidableEq, Repr

/-- Hidden state of FILT_k: samples its source has delivered, the delay line newest first (R273), samples until the
next output, a restart due for a sample that arrives on an edge or later, and a preset asked for on an edge (R277), samples
entered since the restart, whether the line holds older ones and whether the next output is the restart's own, the output
step of a fade and its length (R276), the edge a SWAP committed on, the edge of the last arrival and the TIMEOUT sampled at
it, EN as last written. -/
structure FiltSt where
  offers : List Sample := []
  line : List Int := []
  decim : Nat := 0
  restart : Option Nat := none
  preset : Option Nat := none
  since : Nat := 0
  keepOld : Bool := false
  firstOut : Bool := false
  fade : Nat := 0
  fadeLen : Nat := 0
  swapEdge : Option Nat := none
  lastEdge : Nat := 0
  timeout : Nat := 0
  on : Bool := false
  deriving DecidableEq, Repr

/-- The filter engine (R274): samples waiting in arrival order with their channels, the job in progress, the edge on
which the previous job ended, and the coefficients by channel, bank and index. -/
structure FiltEng where
  queue : List (Nat × Sample) := []
  job : Option FiltJob := none
  freeEdge : Nat := 0
  coef : Sp Nat := []
  deriving DecidableEq, Repr

/-- One probe value with whether it was HELD (R281). -/
structure ProbeVal where
  v : Int
  held : Bool
  deriving DecidableEq, Repr

/-- A strobe: its time, the twelve probe values, the filter levels, filtered trips and captures as R284 reads them. -/
structure Strobe where
  time : Nat
  vals : List ProbeVal
  hi : Nat
  lo : Nat
  trips : Nat
  deriving DecidableEq, Repr

/-- A record of Oculus (R282) waiting in the FIFO of R283. -/
structure OcRec where
  time : Nat
  seq : Nat
  state : Nat
  flags : Nat
  vprobes : Nat
  words : List Nat
  deriving DecidableEq, Repr

/-- Oculus (R281 to R286): strobe source events since the last strobe, strobes due, the strobes of the interval, captures
and a FORCE seen in the interval, the FIFO, a drop since the last record written, the previous record's probe words,
consecutive records the condition has held and records evaluated in the state, STOP asked for, the record index of the
trigger, a violation in this capture, an interval complete, the cell store at the last engine completion, that of the one
before with the edge between them, and what results and outputs held before the edge of their last commit. -/
structure OculusSt where
  events : Nat := 0
  due : List Strobe := []
  interval : List Strobe := []
  caps : Nat := 0
  forced : Bool := false
  fifo : List OcRec := []
  gap : Bool := false
  prev : Option (List Nat) := none
  held : Nat := 0
  evals : Nat := 0
  stop : Bool := false
  trig : Option Nat := none
  violated : Bool := false
  closing : Bool := false
  snap : Sp Entry := []
  snapWas : Sp Entry := []
  snapEdge : Nat := 0
  was : Sp (Nat × ProbeVal) := []
  deriving DecidableEq, Repr

/-- A turn-on waiting for its dead time and interlock (R290, R291): output B, the edge of the change, the due edge. -/
structure TurnOn where
  isB : Bool
  off : Nat
  due : Nat
  deriving DecidableEq, Repr

/-- Hidden state of PWM_n: the edge of count 0 of the present period (R289), the edge and count of a peak at which it reloaded, the
edge the pair's events have reached, the edge of its last reload, the outputs and the edges of their last turn-on and
turn-off, a waiting turn-on, a bootstrap refresh and its end once B is on (R293), the edge of a GLOAD (R296), outputs off
until a reload (R302), the switch last turned off (R302), the edge on which the pair started (R295). -/
structure PwmSt where
  base : Int := 0
  top : Option (Nat × Nat) := none
  cur : Nat := 0
  reload : Option Nat := none
  onA : Bool := false
  onB : Bool := false
  aOn : Nat := 0
  aOff : Nat := 0
  bOn : Nat := 0
  bOff : Nat := 0
  pend : Option TurnOn := none
  refresh : Bool := false
  rfshEnd : Nat := 0
  gload : Option Nat := none
  wait : Bool := false
  lastOffB : Bool := false
  started : Nat := 0
  deriving DecidableEq, Repr

/-- A record of the trip event log (R303). -/
structure TripRec where
  time : Nat
  src : Nat
  deriving DecidableEq, Repr

/-- A request of the driver bus (R304). -/
structure DrvReq where
  drv : Nat
  write : Bool
  addr : Nat
  data : Nat
  deriving DecidableEq, Repr

/-- A response of the driver bus (R304, R305). -/
structure DrvRsp where
  stat : Nat
  noack : Bool
  data : Nat
  deriving DecidableEq, Repr

/-- The trip block and the driver bus: sources asserted, the latest edge on which sources rose with the sources and the arm
requests that did (R115, R303), the edge of each input's last FILT or POL write (R298), the log and its latched record (R303), the
driver FIFOs, the transaction in progress and its last edge. -/
structure TripSt where
  prev : Nat := 0
  riseEdge : Nat := 0
  riseSrc : Nat := 0
  riseArms : Nat := 0
  marks : Sp Nat := []
  log : List TripRec := []
  latched : Option TripRec := none
  reqs : List DrvReq := []
  rsps : List DrvRsp := []
  busy : Option DrvReq := none
  busEnd : Nat := 0
  deriving DecidableEq, Repr

/-- A measured value waiting in a twin for its delivery edge (R330): an ADC entry's result or the ASDUs of an accepted frame. -/
inductive Meas where
  | adc (k e value : Nat) (ovr : Bool) (run : Nat)
  | sv (s : Nat) (asdus : List Asdu) (gap : Nat) (wasStale : Bool)
  deriving DecidableEq, Repr

/-- Everything of chapters 13 to 15; `pulses` holds, by trigger source number of R259, the edge of the latest trigger,
`meas` the values of a twin waiting for their delivery edge, `own` the latest results of the unit's own converters. -/
structure SigSt where
  pulses : Sp Nat := []
  adcs : Sp AdcSt := []
  svs : Sp SvSt := []
  filts : Sp FiltSt := []
  eng : FiltEng := {}
  oc : OculusSt := {}
  pwms : Sp PwmSt := []
  trip : TripSt := {}
  meas : List (Nat × Meas) := []
  own : Sp Nat := []
  deriving DecidableEq, Repr

end Sys2Proof.Machine
end

