-- ==== Sys2Proof/Machine/StateMemory.lean ====
section
/-!
DEFINITION. State of the memories, the journal, Belfry, the spill queues and the ports (chapters 11, 12 and 21) that
no register shows.
-/
namespace Sys2Proof.Machine

/-- What a submitted record stands for, acted on at its acceptance (R229, R406): a host command (sequence, operation,
length, result), a ledger page, an acknowledgement written to LDG_ACK, a fault record. -/
inductive Work where
  | cmd (seq op len result : Nat)
  | page (ctx seq : Nat)
  | ack (ctx seq result : Nat)
  | fault
  deriving DecidableEq, Repr

/-- A journal record (R227, R228) as its ring holds it: region, sequence, key, epoch, unit, submission time, payload
bytes, the word of its header, the words of PAD before it and the words it takes; whether the local prepare, the
standby's PREPARED (or of a recovery a commit), a SOLO commit, the trailer's start have happened; the trailer's state (0 none, 1 COMMITTED,
2 ABORTED), a roll-forward, release, delivery; the edge of submission. -/
structure JrnRec where
  region : Nat
  jseq : Nat
  key : Nat
  epoch : Nat
  unit : Nat
  timeNs : Nat
  payload : List Nat
  word : Nat
  pad : Nat
  span : Nat
  edge : Nat
  work : Work
  localDone : Bool := false
  remote : Bool := false
  solo : Bool := false
  trailer : Bool := false
  state : Nat := 0
  rollfwd : Bool := false
  released : Bool := false
  foreign : Bool := false
  deriving DecidableEq, Repr

/-- A submission waiting because eight records of its region are in flight (R230). -/
structure JrnSub where
  region : Nat
  key : Nat
  payload : List Nat
  work : Work
  deriving DecidableEq, Repr

/-- The journal (R225 to R232): records of the rings in JSEQ order of each region, waiting submissions, each ring's
tail, recovery running, commits without the twin (R230), FAULT numbers used, submissions refused for a
power state or an orderly reset (R362, R381), the recovery of a unit that takes the token (R231), the twin seen in JOIN since
SOLO commits began (R230). -/
structure JrnSt where
  recs : List JrnRec := []
  waiting : List JrnSub := []
  tail : Sp Nat := []
  recovering : Bool := true
  solo : Bool := false
  faults : Nat := 0
  shut : Bool := false
  takeover : Bool := false
  rejoined : Bool := false
  deriving DecidableEq, Repr

/-- A memory controller: initialisation running, the next scrub line, the uncorrectable lines of this pass (R222), the edge of
the last refresh or of EN (R218), the CA parity errors that the channel's next commands meet (R218, log 114). -/
structure MemSt where
  initBusy : Bool := false
  line : Nat := 0
  passUe : Nat := 0
  refreshed : Nat := 0
  caErrs : Nat := 0
  deriving DecidableEq, Repr

/-- The scan engine (R234): the register state RESULT was formed from, before the final XOR; the present register
state, the address of the next byte, the bytes left, and the edge of GO with the bytes then asked for. -/
structure ScanSt where
  reg : Nat := 0
  cur : Nat := 0
  addr : Nat := 0
  left : Nat := 0
  goEdge : Nat := 0
  total : Nat := 0
  deriving DecidableEq, Repr

/-- A request at a Belfry resource (R237): the requester, the edge it was presented on, the granules of the transfer at this
resource, how many are done; of the present grant its edge, the granules it covers at most and how many of them are done. -/
structure BelReq where
  req : Nat
  edge : Nat
  total : Nat
  done : Nat := 0
  granted : Nat := 0
  limit : Nat := 0
  burst : Nat := 0
  deriving DecidableEq, Repr

/-- A Belfry resource (R237, R238): waiting requests, the holder of the grant, the requester last granted at each
level, and the edge until which a refresh or a dead clock occupies it. -/
structure BelRes where
  waiting : List BelReq := []
  holder : Option BelReq := none
  last : Sp Nat := []
  busyEdge : Nat := 0
  deriving DecidableEq, Repr

/-- A waiting LOCKACQ (R244). -/
structure Waiter where
  core : Nat
  edge : Nat
  deriving DecidableEq, Repr

/-- Belfry: its resources, 0 to 31 the Cupola banks and 32, 33 the DRAM channels, each token's waiters and the edge of its
last release. -/
structure BelSt where
  res : Sp BelRes := []
  waiters : Sp (List Waiter) := []
  freed : Sp Nat := []
  deriving DecidableEq, Repr

/-- A word of a spill queue with its tag (R249). -/
structure QWord where
  val : Nat
  valid : Nat
  fin : Bool
  start : Bool
  deriving DecidableEq, Repr

/-- A spilled granule (R249): its sequence, and the words the tail wrote to it. -/
structure Gran where
  seq : Nat
  words : List QWord
  deriving DecidableEq, Repr

/-- A spill queue (R248 to R255): head and tail buffers, the granules in the ring and the ring index of the oldest,
the next granule sequence, words of the open packet, a flush asked for, packets poppable, the edges on which others
become so, discarding to the next START, the word a POP_TAG read latched, PUSH_TAG and PUSH_LO as last written, the edge
since which the tail has held committed words while the ring held data, the edge of the last END with the words of its packet, and
the edge of the last abort (R251). -/
structure QueueSt where
  head : List QWord := []
  tail : List QWord := []
  ring : List Gran := []
  ringAt : Nat := 0
  seq : Nat := 0
  openLen : Nat := 0
  flushReq : Bool := false
  visible : Nat := 0
  soon : List Nat := []
  skip : Bool := false
  latched : Option QWord := none
  pushTag : Nat := 0
  pushLo : Nat := 0
  since : Option Nat := none
  ended : Nat × Nat := (0, 0)
  aborted : Nat := 0
  deriving DecidableEq, Repr

/-- A completion waiting for its order (R407): the entry's sequence, the status and result once final, the JSEQ of
its record. -/
structure Cpl where
  seq : Nat
  stat : Nat := 0
  result : Nat := 0
  jseq : Nat := 0
  final : Bool := false
  deriving DecidableEq, Repr

/-- The ports (chapter 21): completions in entry order, the CMD_TAIL wrap count and CPL phase, NEXT_SEQ as submissions
have it (R406), the MSI-X messages sent by vector (R398), the FW_DONE LO word waiting for its HI, frames a STATION
port has sent, UART bytes sent and those of a word not yet sent, the last firmware packet sent over PEER, the SAFETY transaction's and a UART register frame's answer, the test port's
instruction (R400). -/
structure PortSt where
  cpls : List Cpl := []
  cplPhase : Bool := true
  subSeq : Nat := 1
  msix : Sp Nat := []
  fwDoneLo : Nat := 0
  txFrame : Sp (List Nat) := []
  uartOut : List Nat := []
  uartBuf : List Nat := []
  peerOut : List Nat := []
  safetyOut : List Nat := []
  testInstr : Nat := 0
  pinsHeld : Bool := false
  deriving DecidableEq, Repr

end Sys2Proof.Machine
end

