-- ==== Sys2Proof/Machine/StateTwin.lean ====
section
/-!
DEFINITION. Messages and state of the cascade and the twin (chapter 17) that no register shows.
-/
namespace Sys2Proof.Machine

/-- A CYCLE message of the twin or of the cascade master (R321, R323, R328, R337, R338, R341): SYS.CYCLE_COUNT, the
length of the sender's next cycle, the send offset from its tick, epoch, holder, STATE, health; one bit per ring completely
supplied, the masks of the others, the rings launched under R22; REQ, GRANT with its tick, ACK; a replay result. -/
structure CycleMsg where
  count : Nat
  nextLen : Nat
  offset : Nat
  epoch : Nat
  holder : Bool
  state : Nat
  health : Nat
  full : Nat
  masks : Sp Nat
  held : Nat
  req : Bool
  grant : Option Nat
  ack : Bool
  replay : Option (Bool × Nat)
  deriving DecidableEq, Repr

/-- A SUMS record of an arm of a follower (R324), as its 32 bytes. -/
structure SumRec where
  arm : Nat
  bytes : List Nat
  deriving DecidableEq, Repr

/-- An item of a chase copy (R340): a cell-store entry as its 128 bytes; the registers of ARM_k, of the SYS pipeline and
gate stage, of CSE_ARM or of LEASE_n as their words in order of offset; a Law slot record, the list memory or the
exchange file as words; the retained records of a journal region. -/
inductive ChaseItem where
  | entry (cell : Nat) (bytes : List Nat)
  | arm (k : Nat) (words : List Nat)
  | sys (words : List Nat)
  | cseArm (words : List Nat)
  | lease (n : Nat) (words : List Nat)
  | slot (i : Nat) (words : List Nat)
  | lists (words : List Nat)
  | xf (words : List Nat)
  | journal (region : Nat) (recs : List JrnRec)
  deriving DecidableEq, Repr

/-- A record of the replay store (R336): its cycle, what the arm units and the gate stage had latched (the register
file, the entries, the arms' counts and the lease weights before the selection, the register file at the set-up point),
whether it was launched under R22, OUT_DIGEST and ARM_DIGEST. -/
structure ReplayRec where
  cycle : Nat
  regs : Sp Nat
  entries : Sp Entry
  arms : Sp ArmSt
  setup : Sp Nat := []
  held : Nat := 0
  lw : Sp Nat := []
  outDigest : Nat := 0
  armDigest : Nat := 0
  deriving DecidableEq, Repr

/-- A change of the token or state that acts at the next tick (R337, R338). -/
inductive NextTick where
  | take
  | drop (state : Nat)
  deriving DecidableEq, Repr

/-- The twin and cascade logic: the edge at which the wait for a holder's answer ends (R331); the twin's CYCLE message
of this cycle and the twin's STATE as it last gave it (R328); evidence of the holder and cycles without it (R332); rings whose holder
frame was accepted by RET_DEADLINE (R339); this cycle's mismatching rings with the lowest position of each, and the
mismatching cycle that is final (R335, R337); the replay store, the frozen record, its own result, the twin's; consecutive INPUT and FIRMWARE verdicts
and clean cycles (R337, R338); a YIELD asked for, REQ sent, the twin's
REQ, the tick granted, ACK seen (R338); a change at the next
tick; items copied and SYNC_DONE written (R340); rings the frames of this cycle were launched under R22; the length the
leader has set for the next cycle and what one correction of the skew adds to it (R321); a YIELD that waits for the set-up point
(R343); HEALTH_FATAL as taken at the last RET_DEADLINE (R341); cascade: the leader's tick adopted (R321), a SELF_FAULTY verdict of
a follower that moves with its master (R326), cycles without a CYCLE message
and, by follower, without SUMS, arrivals in this cycle, arms whose COUNT was refused (R323, R325); a MASK_LATE or
MEAS_DIFF in this cycle. -/
structure TwinSt where
  startEnd : Option Nat := none
  peer : Option CycleMsg := none
  peerState : Nat := 0
  evidence : Bool := false
  misses : Nat := 0
  holderRings : List Nat := []
  mismatch : Sp Nat := []
  mismatchCycle : Option Nat := none
  recs : List ReplayRec := []
  frozen : Option ReplayRec := none
  ownResult : Option (Bool × Nat) := none
  twinResult : Option (Bool × Nat) := none
  verdicts : Nat := 0
  clean : Nat := 0
  yield : Bool := false
  reqSent : Bool := false
  wants : Bool := false
  grant : Option Nat := none
  ack : Bool := false
  next : Option NextTick := none
  copied : List Nat := []
  syncDone : Bool := false
  heldRings : Nat := 0
  followLen : Option Nat := none
  followFix : Int := 0
  yieldAsked : Bool := false
  fatalMask : Nat := 0x008F
  joined : Bool := false
  selfFault : Bool := false
  masterMiss : Nat := 0
  masterSeen : Bool := false
  sumsMiss : Sp Nat := []
  sumsSeen : List Nat := []
  refused : Nat := 0
  dirty : Bool := false
  deriving DecidableEq, Repr

end Sys2Proof.Machine
end

