-- ==== Sys2Proof/Syntax.lean ====
section
/-!
DEFINITION. The commands and events of the NDR-4096: one constructor per row of the command table, with its operands
(log 9 says what the operands of the events are). Registers, cores and contexts are named by their index; `req` is the
requester that makes the access.
-/
namespace Sys2Proof

open Sys2Proof.Machine

/-- Who makes an access to the fabric (R28, R237, R402): a Spire core with its privilege, the host over PCIe, the
maintenance UART, the SAFETY SPI port. -/
inductive Req where
  | core (n : Fin 16) (task : Bool)
  | host
  | maint
  | safety
  deriving DecidableEq, Repr

/-- The address forms of R155. -/
inductive Form where
  | tcm | fabric | dram
  deriving DecidableEq, Repr

/-- The commands and events. -/
inductive Instr where
  /-- REGISTER_WRITE (R8). A register write with no row of its own is judged and applies all-or-nothing under its fields' access types and classes. -/
  | registerWrite (req : Req) (addr : BitVec 40) (data : BitVec 32)
  /-- ERR_CLEAR (R10). Writing ERR.CLEAR clears CODE, OFFSET, OFFSET_HI and MORE of a block's ERR register. -/
  | errClear (req : Req) (addr : BitVec 40)
  /-- UNMAPPED_ACCESS (R28). An access to an unmapped address or a powered-off block returns 0 with a bus error, reported per requester. -/
  | unmappedAccess (req : Req) (addr : BitVec 40) (write : Bool) (size : Fin 4) (data : BitVec 64)
  /-- HI_WORD_LATCH_READ (R434). A read of a LO word takes the whole value on one edge and latches its high part for the next read of HI. -/
  | hiWordLatchRead (req : Req) (addr : BitVec 40)
  /-- CYCLE_TICK (R25). At each cycle tick the count increments, tick-loaded S fields apply, the cycle latches are taken and frames launch. -/
  | cycleTick
  /-- PIPE_END (R25). After Campanile event 0 is disabled, the pipeline ends on the edge where the next tick would have fallen. -/
  | pipeEnd
  /-- RET_DEADLINE (R17). At the ring return deadline, rings without an accepted frame are processed with held status and RET_LATE is raised. -/
  | retDeadline
  /-- CSE_COMPLETION (R18). The Cell State Engine's completion event falls at a fixed count after RET_DEADLINE (plus MASK_WAIT in a twin). -/
  | cseCompletion
  /-- N_CUTOFF (R94). The radix passes end at a fixed edge after engine completion, fixing the insertion count used by each selector. -/
  | nCutoff
  /-- BUDGET_REFILL (R89). When an arm's refill counter reaches REFILL it returns to 0 and every cell's SPENT drops by one. -/
  | budgetRefill (k : Fin 8)
  /-- SELECTORS_DONE (R94). At the fixed selectors-done edge the mark pass results, SEL fields and arm results are handed to the gate command stage. -/
  | selectorsDone
  /-- GATE_STAGE_DONE (R104). The gate command stage finishes assembling every command slot of every ring and writes each cell's GATE field. -/
  | gateStageDone
  /-- LAUNCH_SETUP_POINT (R108). 25 FAB clocks before the tick the block latches are sampled and incomplete frames are handled. -/
  | launchSetupPoint (ready : BitVec 128)
  /-- OVR_LIMIT_REACHED (R22). A ring incomplete for OVR_LIMIT consecutive cycles is blocked, setting its PIPE_OVR bit, OVR_BLOCK and OVR_NEW. -/
  | ovrLimitReached (r : Fin 128)
  /-- PIPE_OVR_CLEAR (R26). Writing 1 to a ring's PIPE_OVR bit clears it, restarts its count and ends its BLOCK at the next qualifying launch. -/
  | pipeOvrClear (req : Req) (i : Fin 4) (mask : BitVec 32)
  /-- OVR_BLOCK_CLEAR (R26). Writing 1 to PIPE_STATUS.OVR_BLOCK clears every PIPE_OVR bit at once. -/
  | ovrBlockClear (req : Req)
  /-- RING_FRAME_RECEIVE (R55). RING_n receives a frame whole and accepts it only when unbroken, CRC-correct and matching the launch. -/
  | ringFrameReceive (r : Fin 128) (edge : Nat) (blocks : List Block66)
  /-- RING_STALE (R56). A second consecutive missed cycle sets the ring's STALE. -/
  | ringStale (r : Fin 128)
  /-- RING_LOST (R56). LOST_LIMIT consecutive missed cycles set LOST, after which the ring is launched with BLOCK. -/
  | ringLost (r : Fin 128)
  /-- RING_LOST_CLEAR (R56). Writing 1 to RING_n.STATUS.LOST ends the ring's BLOCK, refused with E_STATE while STALE. -/
  | ringLostClear (req : Req) (r : Fin 128)
  /-- RING_CLR_STATS (R62). Writing CTRL.CLR_STATS clears CRC_CNT, MISS_CNT and RET_TIME.MAX. -/
  | ringClrStats (req : Req) (r : Fin 128)
  /-- RING_LOCK_LOST (R43). A RING_n receiver loses block lock within 64 blocks of a failed signal and STATUS.LOCK clears. -/
  | ringLockLost (r : Fin 128)
  /-- RING_LOCK_REGAINED (R43). A RING_n receiver regains block lock after a valid signal returns. -/
  | ringLockRegained (r : Fin 128)
  /-- MGMT_REQ_PUSH (R63). A write of RING_n.MGMT_REQ pushes a management request into the 16-entry FIFO, refused with E_FULL when full. -/
  | mgmtReqPush (req : Req) (r : Fin 128) (data : BitVec 32)
  /-- MGMT_RSP_POP (R63). A read of RING_n.MGMT_RSP pops the oldest management response. -/
  | mgmtRspPop (req : Req) (r : Fin 128)
  /-- MGMT_NOACK (R63). After MGMT_RETRY + 1 frames without an accepted M_ACK, the request completes with NOACK and E_STATE. -/
  | mgmtNoack (r : Fin 128)
  /-- MGMT_RESPONSE_RETURN (R63). In a twin, a management response received at unit B is returned to unit A over PEER. -/
  | mgmtResponseReturn (r : Fin 128) (stat : BitVec 4) (data : BitVec 32) (noack : Bool)
  /-- TERM_RESET (R45). A terminal resets with its epoch unset, no applied command, BLOCK held and CDR at reset values. -/
  | termReset (c : Fin 4096) (ver : BitVec 8) (fullBridge hsCp dcdc : Bool)
  /-- TERM_FRAME_END (R47). At frame end a terminal judges validity, epoch and duplicate, then applies the commanding frame. -/
  | termFrameEnd (c : Fin 4096) (blocks : List Block66) (sensors : SensorIn)
  /-- TERM_MGMT_HEADER (R52). The addressed terminal handles the management request as the header passes, setting M_ACK and M_STAT. -/
  | termMgmtHeader (c : Fin 4096) (pos : Option (Fin 32)) (header : BitVec 128) (sensors : SensorIn)
  /-- TERM_SELF_TEST_COMPLETE (R54). The self-test completes, setting PASS and DONE bits and clearing RUNNING. -/
  | termSelfTestComplete (c : Fin 4096) (pass : BitVec 5)
  /-- TERM_FRAME_BREAK (R42). A frame that breaks off is discarded, and the terminal ends its outgoing frame with an error block. -/
  | termFrameBreak (c : Fin 4096) (blocks : List Block66)
  /-- TERM_WATCHDOG_EXPIRY (R48). With no commanding frame applied for three cycle lengths the terminal applies BLOCK and latches WDOG. -/
  | termWatchdogExpiry (c : Fin 4096) (since : BitVec 32)
  /-- TERM_SWITCH_TURN_ON (R99). A switch the new state adds turns on once its interlock condition against its complement is met. -/
  | termSwitchTurnOn (c : Fin 4096) (k : Fin 4) (leg : LegIn)
  /-- TERM_INTERLOCK_TIMEOUT (R49). An interlock condition not met within INTLK_TO makes the terminal apply BLOCK and latch INTLK. -/
  | termInterlockTimeout (c : Fin 4096) (k : Fin 4) (leg : LegIn)
  /-- TERM_COMPARATOR_TRIP (R50). A terminal comparator fault triggers its autonomous reaction and latches the fault. -/
  | termComparatorTrip (c : Fin 4096) (b : Fin 8) (sensors : SensorIn)
  /-- TERM_LOCK_LOST (R43). A terminal port loses block lock and reports LOS_U or LOS_D. -/
  | termLockLost (c : Fin 4096) (up : Bool)
  /-- TERM_LOCK_REGAINED (R43). A terminal port regains block lock. -/
  | termLockRegained (c : Fin 4096) (up : Bool)
  /-- TERM_WRAP_START (R57). At the first start block after a wired port loses lock, the terminal starts wrapping frames back. -/
  | termWrapStart (c : Fin 4096) (up : Bool)
  /-- TERM_WRAP_STOP (R57). At the first start block after the receiver regains lock, the terminal stops wrapping. -/
  | termWrapStop (c : Fin 4096) (up : Bool)
  /-- CELL_STORE_WRITE (R66). A software write of cell-store entry fields is judged under R66 and R67 and recorded in CSE_ERR when refused. -/
  | cellStoreWrite (req : Req) (c : Fin 4096) (idx : BitVec 7) (size : Fin 4) (val : BitVec 64)
  /-- EC_SET_PEND (R68). Setting EC_SET_PEND makes the engine set EC to EC_SET at its next processing of the cell. -/
  | ecSetPend (req : Req) (c : Fin 4096)
  /-- CLR_MAX (R65). Setting CLR_MAX makes the engine reset TPACK_MAX and TSW_MAX at its next processing. -/
  | clrMax (req : Req) (c : Fin 4096)
  /-- CLR_CORRUPT (R78). Setting CLR_CORRUPT ends an entry's corrupt condition at its next processing. -/
  | clrCorrupt (req : Req) (c : Fin 4096)
  /-- CSE_INIT (R79). Writing SYS.CSE_CTRL.INIT starts initialisation of the cell store. -/
  | cseInit (req : Req)
  /-- CSE_INIT_DONE (R79). Cell-store initialisation completes and INIT_DONE is set. -/
  | cseInitDone
  /-- LEASE_UPDATE (R196). After engine completion the ledger engine forms each enabled context's lease weight and updates its counts. -/
  | leaseUpdate
  /-- ARM_N_WRITE (R84). A write of ARM_k.N commits a direct insertion count, judged against the cut-off. -/
  | armNWrite (req : Req) (k : Fin 8) (data : BitVec 32)
  /-- ARM_VREF_ARM_WRITE (R84). A write of ARM_k.VREF_ARM commits an arm voltage reference for nearest-level mode. -/
  | armVrefArmWrite (req : Req) (k : Fin 8) (data : BitVec 32)
  /-- STATE_ERR (R110). A cell's handshake mismatch count reaching STATE_LIMIT raises the STATE_ERR reaction. -/
  | stateErr (c : Fin 4096)
  /-- GCS_SET_ARM (R114). Writing GCS_SET.ARM bits sets those arms' block latches with a source 14 record. -/
  | gcsSetArm (req : Req) (mask : BitVec 8)
  /-- GCS_SET_ALL (R114). Writing GCS_SET.ALL sets the ALL latch with a source 14 record. -/
  | gcsSetAll (req : Req)
  /-- GCS_SET_RING (R114). Writing GCS_SET.RING_GO with RING sets that ring's block latch with a source 14 record. -/
  | gcsSetRing (req : Req) (r : Fin 128)
  /-- GCS_ARM_CLEAR (R113). Writing 1 to a GCS_BLOCK.ARM bit clears the arm latch unless an arm runs or its request persists. -/
  | gcsArmClear (req : Req) (mask : BitVec 8)
  /-- GCS_ALL_CLEAR (R113). Clearing GCS_BLOCK.ALL is accepted only while every arm's applied MODE is OFF. -/
  | gcsAllClear (req : Req)
  /-- GCS_RING_CLEAR (R113). Writing 1 to a GCS_RING_BLK bit clears a ring latch, refused while its arm runs or requests a block. -/
  | gcsRingClear (req : Req) (i : Fin 4) (mask : BitVec 32)
  /-- GCS_CELL_CLR_FLT (R113). GCS_CELL_CLR with FLT clears a cell's GATE.FLT, refused with E_TRIP while the cell shows LATCHED. -/
  | gcsCellClrFlt (req : Req) (c : Fin 4096)
  /-- GCS_CELL_CLR_ILLEGAL (R113). GCS_CELL_CLR with ILLEGAL clears a cell's GATE.ILLEGAL. -/
  | gcsCellClrIllegal (req : Req) (c : Fin 4096)
  /-- GCS_EVT_LATCH (R117). A read of GCS_EVT0 latches the head event record and returns its low time word. -/
  | gcsEvtLatch (req : Req)
  /-- GCS_EVT_POP (R117). A read of GCS_EVT2 returns the rest of the latched record and removes it. -/
  | gcsEvtPop (req : Req)
  /-- LAW_LIST_START (R145). A queued list starts 8 FAB clocks after its LAWGO or when the previous list is done. -/
  | lawListStart
  /-- LAW_ENTRY_ISSUE (R145). A list entry issues once its interval, input and slot dependencies are met, reading its record and inputs. -/
  | lawEntryIssue
  /-- LAW_ENTRY_COMPLETE (R145). An entry completes L FAB clocks after issue, writing its outputs and state. -/
  | lawEntryComplete
  /-- SLOT_INIT (R136). A write of LAW.SLOT_INIT gives a slot its type and reset record, refused while a queued list names it. -/
  | slotInit (req : Req) (i : Fin 1024) (typ : BitVec 4)
  /-- LAW_INIT (R151). Writing LAW.CTRL.INIT starts initialisation of slots, XF and list memory. -/
  | lawInit (req : Req)
  /-- LAW_INIT_DONE (R151). Law engine initialisation completes and INIT_DONE is set. -/
  | lawInitDone
  /-- TEST_START (R148). TEST_CTRL.START begins the test signal at the next tick. -/
  | testStart (req : Req)
  /-- TEST_STOP (R148). TEST_CTRL.STOP ends the test at the next tick, ramping down when N is 0. -/
  | testStop (req : Req)
  /-- TEST_END (R148). The test ends after N values and ACTIVE clears. -/
  | testEnd
  /-- INTERRUPT_TAKEN (R164). A pending enabled interrupt source is taken at an instruction boundary as exception INT. -/
  | interruptTaken (c : Fin 16)
  /-- MSG_EXCEPTION (R161). A non-empty mailbox with MIE set is taken as exception MSG. -/
  | msgException (c : Fin 16)
  /-- WAITT_RELEASE (R166). Cores stalled in WAITT are released together on the eighth CORE clock after the tick. -/
  | waittRelease
  /-- BAR_RELEASE (R167). When every core in the mask waits in an identical BAR, all are released on one CORE edge. -/
  | barRelease (mask : BitVec 16)
  /-- BAR_TIMEOUT (R167). A BAR not released within BAR_TO completes with 1 and sets STATUS.BAR_TO. -/
  | barTimeout (c : Fin 16)
  /-- MESSAGE_ARRIVAL (R168). A sent mailbox message becomes visible in the target mailbox 6 FAB clocks after SEND. -/
  | messageArrival (c : Fin 16)
  /-- RECV_RELEASE (R168). A core stalled in RECV takes the oldest message once one is visible. -/
  | recvRelease (c : Fin 16)
  /-- STORE_COMMIT (R157). A posted fabric or DRAM store commits at its target from the write buffer in program order. -/
  | storeCommit (c : Fin 16)
  /-- LOAD_RETURN (R158). A fabric or DRAM load's data returns and the stalled core continues. -/
  | loadReturn (c : Fin 16)
  /-- LAWWT_RELEASE (R186). A core waiting in LAWWT continues on the first CORE edge after its list is done. -/
  | lawwtRelease (c : Fin 16)
  /-- LOCK_GRANT (R244). A released token passes to the first waiting LOCKACQ on the next FAB edge. -/
  | lockGrant (t : Fin 64)
  /-- SPIRE_RUN (R391). SPIRE_n.CTRL.RUN starts a core at ENTRY, refused unless its TCM image is verified. -/
  | spireRun (req : Req) (c : Fin 16)
  /-- SPIRE_HALT (R171). SPIRE_n.CTRL.HALT halts the core at the next boundary with cause HOST. -/
  | spireHalt (req : Req) (c : Fin 16)
  /-- SPIRE_TCM_INIT (R171). SPIRE_n.CTRL.TCM_INIT starts zeroing the halted core's TCM. -/
  | spireTcmInit (req : Req) (c : Fin 16)
  /-- SPIRE_TCM_INIT_DONE (R170). TCM zeroing completes and STATUS.INIT_DONE is set. -/
  | spireTcmInitDone (c : Fin 16)
  /-- SPIRE_LOAD_DATA (R171). An access of LOAD_DATA reads or writes the TCM word at LOAD_ADDR and advances it by 4. -/
  | spireLoadData (req : Req) (c : Fin 16) (write : Bool) (data : BitVec 32)
  /-- SPIRE_MBOX_SEND (R171). A write of MBOX_HI sends a host message with id 16, refused with E_FULL when the mailbox is full. -/
  | spireMboxSend (req : Req) (c : Fin 16) (data : BitVec 32)
  /-- ADD (R175). g[rd] gets g[rs1] + g[rs2]. -/
  | spAdd (c : Fin 16) (rd : BitVec 5) (rs1 : BitVec 5) (rs2 : BitVec 5)
  /-- SUB (R175). g[rd] gets g[rs1] − g[rs2]. -/
  | spSub (c : Fin 16) (rd : BitVec 5) (rs1 : BitVec 5) (rs2 : BitVec 5)
  /-- AND (R175). Bitwise AND of two registers. -/
  | spAnd (c : Fin 16) (rd : BitVec 5) (rs1 : BitVec 5) (rs2 : BitVec 5)
  /-- OR (R175). Bitwise OR of two registers. -/
  | spOr (c : Fin 16) (rd : BitVec 5) (rs1 : BitVec 5) (rs2 : BitVec 5)
  /-- XOR (R175). Bitwise XOR of two registers. -/
  | spXor (c : Fin 16) (rd : BitVec 5) (rs1 : BitVec 5) (rs2 : BitVec 5)
  /-- NOR (R175). Bitwise NOR of two registers. -/
  | spNor (c : Fin 16) (rd : BitVec 5) (rs1 : BitVec 5) (rs2 : BitVec 5)
  /-- SLT (R175). Signed set-less-than. -/
  | spSlt (c : Fin 16) (rd : BitVec 5) (rs1 : BitVec 5) (rs2 : BitVec 5)
  /-- SLTU (R175). Unsigned set-less-than. -/
  | spSltu (c : Fin 16) (rd : BitVec 5) (rs1 : BitVec 5) (rs2 : BitVec 5)
  /-- SLL (R175). Shift left by a register amount. -/
  | spSll (c : Fin 16) (rd : BitVec 5) (rs1 : BitVec 5) (rs2 : BitVec 5)
  /-- SRL (R175). Logical shift right by a register amount. -/
  | spSrl (c : Fin 16) (rd : BitVec 5) (rs1 : BitVec 5) (rs2 : BitVec 5)
  /-- SRA (R175). Arithmetic shift right by a register amount. -/
  | spSra (c : Fin 16) (rd : BitVec 5) (rs1 : BitVec 5) (rs2 : BitVec 5)
  /-- SLLI (R175). Shift left by an immediate amount. -/
  | spSlli (c : Fin 16) (rd : BitVec 5) (rs1 : BitVec 5) (rs2 : BitVec 5)
  /-- SRLI (R175). Logical shift right by an immediate amount. -/
  | spSrli (c : Fin 16) (rd : BitVec 5) (rs1 : BitVec 5) (rs2 : BitVec 5)
  /-- SRAI (R175). Arithmetic shift right by an immediate amount. -/
  | spSrai (c : Fin 16) (rd : BitVec 5) (rs1 : BitVec 5) (rs2 : BitVec 5)
  /-- MIN (R175). Signed minimum. -/
  | spMin (c : Fin 16) (rd : BitVec 5) (rs1 : BitVec 5) (rs2 : BitVec 5)
  /-- MAX (R175). Signed maximum. -/
  | spMax (c : Fin 16) (rd : BitVec 5) (rs1 : BitVec 5) (rs2 : BitVec 5)
  /-- MINU (R175). Unsigned minimum. -/
  | spMinu (c : Fin 16) (rd : BitVec 5) (rs1 : BitVec 5) (rs2 : BitVec 5)
  /-- MAXU (R175). Unsigned maximum. -/
  | spMaxu (c : Fin 16) (rd : BitVec 5) (rs1 : BitVec 5) (rs2 : BitVec 5)
  /-- ADDS (R175). Saturating signed add, setting ARITH.SAT on clamp. -/
  | spAdds (c : Fin 16) (rd : BitVec 5) (rs1 : BitVec 5) (rs2 : BitVec 5)
  /-- SUBS (R175). Saturating signed subtract, setting ARITH.SAT on clamp. -/
  | spSubs (c : Fin 16) (rd : BitVec 5) (rs1 : BitVec 5) (rs2 : BitVec 5)
  /-- CLZ (R175). Count leading zeros. -/
  | spClz (c : Fin 16) (rd : BitVec 5) (rs1 : BitVec 5) (rs2 : BitVec 5)
  /-- SEXTB (R175). Sign-extend the low byte. -/
  | spSextb (c : Fin 16) (rd : BitVec 5) (rs1 : BitVec 5) (rs2 : BitVec 5)
  /-- SEXTH (R175). Sign-extend the low halfword. -/
  | spSexth (c : Fin 16) (rd : BitVec 5) (rs1 : BitVec 5) (rs2 : BitVec 5)
  /-- ZEXTH (R175). Zero-extend the low halfword. -/
  | spZexth (c : Fin 16) (rd : BitVec 5) (rs1 : BitVec 5) (rs2 : BitVec 5)
  /-- ABS (R175). Saturating absolute value. -/
  | spAbs (c : Fin 16) (rd : BitVec 5) (rs1 : BitVec 5) (rs2 : BitVec 5)
  /-- ADDI (R175). Add a sign-extended immediate. -/
  | spAddi (c : Fin 16) (rd : BitVec 5) (rs1 : BitVec 5) (imm : BitVec 16)
  /-- ANDI (R175). Bitwise AND with a zero-extended immediate. -/
  | spAndi (c : Fin 16) (rd : BitVec 5) (rs1 : BitVec 5) (imm : BitVec 16)
  /-- ORI (R175). Bitwise OR with a zero-extended immediate. -/
  | spOri (c : Fin 16) (rd : BitVec 5) (rs1 : BitVec 5) (imm : BitVec 16)
  /-- XORI (R175). Bitwise XOR with a zero-extended immediate. -/
  | spXori (c : Fin 16) (rd : BitVec 5) (rs1 : BitVec 5) (imm : BitVec 16)
  /-- SLTI (R175). Signed compare with an immediate. -/
  | spSlti (c : Fin 16) (rd : BitVec 5) (rs1 : BitVec 5) (imm : BitVec 16)
  /-- SLTIU (R175). Unsigned compare with an immediate. -/
  | spSltiu (c : Fin 16) (rd : BitVec 5) (rs1 : BitVec 5) (imm : BitVec 16)
  /-- IMMH (R175). Load an immediate into the high half of a register. -/
  | spImmh (c : Fin 16) (rd : BitVec 5) (rs1 : BitVec 5) (imm : BitVec 16)
  /-- MUL (R176). Low 32 bits of the product. -/
  | spMul (c : Fin 16) (rd : BitVec 5) (rs1 : BitVec 5) (rs2 : BitVec 5)
  /-- MULH (R176). High 32 bits of the signed product. -/
  | spMulh (c : Fin 16) (rd : BitVec 5) (rs1 : BitVec 5) (rs2 : BitVec 5)
  /-- MULHU (R176). High 32 bits of the unsigned product. -/
  | spMulhu (c : Fin 16) (rd : BitVec 5) (rs1 : BitVec 5) (rs2 : BitVec 5)
  /-- MULQ (R176). Q1.31 product with convergent rounding and saturation. -/
  | spMulq (c : Fin 16) (rd : BitVec 5) (rs1 : BitVec 5) (rs2 : BitVec 5)
  /-- MAC (R176). Add the signed product to an accumulator. -/
  | spMac (c : Fin 16) (rd : BitVec 5) (rs1 : BitVec 5) (rs2 : BitVec 5)
  /-- MACU (R176). Add the unsigned product to an accumulator. -/
  | spMacu (c : Fin 16) (rd : BitVec 5) (rs1 : BitVec 5) (rs2 : BitVec 5)
  /-- MSU (R176). Subtract the signed product from an accumulator. -/
  | spMsu (c : Fin 16) (rd : BitVec 5) (rs1 : BitVec 5) (rs2 : BitVec 5)
  /-- MACS (R176). Saturating multiply-accumulate. -/
  | spMacs (c : Fin 16) (rd : BitVec 5) (rs1 : BitVec 5) (rs2 : BitVec 5)
  /-- MSUS (R176). Saturating multiply-subtract. -/
  | spMsus (c : Fin 16) (rd : BitVec 5) (rs1 : BitVec 5) (rs2 : BitVec 5)
  /-- ACRD (R176). Read an accumulator with convergent shift and saturation. -/
  | spAcrd (c : Fin 16) (rd : BitVec 5) (rs1 : BitVec 5) (rs2 : BitVec 5)
  /-- ACRDT (R176). Read an accumulator with truncating shift and saturation. -/
  | spAcrdt (c : Fin 16) (rd : BitVec 5) (rs1 : BitVec 5) (rs2 : BitVec 5)
  /-- ACRDL (R176). Read accumulator bits [31:0]. -/
  | spAcrdl (c : Fin 16) (rd : BitVec 5) (rs1 : BitVec 5) (rs2 : BitVec 5)
  /-- ACRDH (R176). Read accumulator bits [63:32]. -/
  | spAcrdh (c : Fin 16) (rd : BitVec 5) (rs1 : BitVec 5) (rs2 : BitVec 5)
  /-- ACRDX (R176). Read sign-extended accumulator bits [71:64]. -/
  | spAcrdx (c : Fin 16) (rd : BitVec 5) (rs1 : BitVec 5) (rs2 : BitVec 5)
  /-- ACWR (R176). Write an accumulator with a sign-extended register. -/
  | spAcwr (c : Fin 16) (rd : BitVec 5) (rs1 : BitVec 5) (rs2 : BitVec 5)
  /-- ACWRH (R176). Write accumulator bits [63:32]. -/
  | spAcwrh (c : Fin 16) (rd : BitVec 5) (rs1 : BitVec 5) (rs2 : BitVec 5)
  /-- ACWRX (R176). Write accumulator bits [71:64]. -/
  | spAcwrx (c : Fin 16) (rd : BitVec 5) (rs1 : BitVec 5) (rs2 : BitVec 5)
  /-- ACCLR (R176). Clear an accumulator. -/
  | spAcclr (c : Fin 16) (rd : BitVec 5) (rs1 : BitVec 5) (rs2 : BitVec 5)
  /-- FADD (R179). FP32 add. -/
  | spFadd (c : Fin 16) (rd : BitVec 5) (rs1 : BitVec 5) (rs2 : BitVec 5)
  /-- FSUB (R179). FP32 subtract. -/
  | spFsub (c : Fin 16) (rd : BitVec 5) (rs1 : BitVec 5) (rs2 : BitVec 5)
  /-- FMUL (R179). FP32 multiply. -/
  | spFmul (c : Fin 16) (rd : BitVec 5) (rs1 : BitVec 5) (rs2 : BitVec 5)
  /-- FDIV (R179). FP32 divide. -/
  | spFdiv (c : Fin 16) (rd : BitVec 5) (rs1 : BitVec 5) (rs2 : BitVec 5)
  /-- FSQRT (R179). FP32 square root. -/
  | spFsqrt (c : Fin 16) (rd : BitVec 5) (rs1 : BitVec 5) (rs2 : BitVec 5)
  /-- FMIN (R179). FP32 minimum. -/
  | spFmin (c : Fin 16) (rd : BitVec 5) (rs1 : BitVec 5) (rs2 : BitVec 5)
  /-- FMAX (R179). FP32 maximum. -/
  | spFmax (c : Fin 16) (rd : BitVec 5) (rs1 : BitVec 5) (rs2 : BitVec 5)
  /-- FABS (R179). Clear the sign bit. -/
  | spFabs (c : Fin 16) (rd : BitVec 5) (rs1 : BitVec 5) (rs2 : BitVec 5)
  /-- FNEG (R179). Invert the sign bit. -/
  | spFneg (c : Fin 16) (rd : BitVec 5) (rs1 : BitVec 5) (rs2 : BitVec 5)
  /-- FMV (R179). Copy an FP register. -/
  | spFmv (c : Fin 16) (rd : BitVec 5) (rs1 : BitVec 5) (rs2 : BitVec 5)
  /-- FEQ (R179). FP equality compare into a g register. -/
  | spFeq (c : Fin 16) (rd : BitVec 5) (rs1 : BitVec 5) (rs2 : BitVec 5)
  /-- FLT (R179). FP less-than compare into a g register. -/
  | spFlt (c : Fin 16) (rd : BitVec 5) (rs1 : BitVec 5) (rs2 : BitVec 5)
  /-- FLE (R179). FP less-or-equal compare into a g register. -/
  | spFle (c : Fin 16) (rd : BitVec 5) (rs1 : BitVec 5) (rs2 : BitVec 5)
  /-- FCVTSW (R179). Convert a signed integer to FP32. -/
  | spFcvtsw (c : Fin 16) (rd : BitVec 5) (rs1 : BitVec 5) (rs2 : BitVec 5)
  /-- FCVTW (R179). Convert FP32 to a saturated integer, rounding to nearest even. -/
  | spFcvtw (c : Fin 16) (rd : BitVec 5) (rs1 : BitVec 5) (rs2 : BitVec 5)
  /-- FCVTWT (R179). Convert FP32 to a saturated integer, rounding toward zero. -/
  | spFcvtwt (c : Fin 16) (rd : BitVec 5) (rs1 : BitVec 5) (rs2 : BitVec 5)
  /-- FMVGF (R179). Move g register bits to an f register. -/
  | spFmvgf (c : Fin 16) (rd : BitVec 5) (rs1 : BitVec 5) (rs2 : BitVec 5)
  /-- FMVFG (R179). Move f register bits to a g register. -/
  | spFmvfg (c : Fin 16) (rd : BitVec 5) (rs1 : BitVec 5) (rs2 : BitVec 5)
  /-- LDB (R181). Load a sign-extended byte in TCM, fabric or DRAM form. -/
  | spLdb (c : Fin 16) (form : Form) (rd : BitVec 5) (rs1 : BitVec 5) (imm : BitVec 16)
  /-- LDBU (R181). Load a zero-extended byte in the named address form. -/
  | spLdbu (c : Fin 16) (form : Form) (rd : BitVec 5) (rs1 : BitVec 5) (imm : BitVec 16)
  /-- LDH (R181). Load a sign-extended halfword in the named address form. -/
  | spLdh (c : Fin 16) (form : Form) (rd : BitVec 5) (rs1 : BitVec 5) (imm : BitVec 16)
  /-- LDHU (R181). Load a zero-extended halfword in the named address form. -/
  | spLdhu (c : Fin 16) (form : Form) (rd : BitVec 5) (rs1 : BitVec 5) (imm : BitVec 16)
  /-- LDW (R181). Load a word in the named address form. -/
  | spLdw (c : Fin 16) (form : Form) (rd : BitVec 5) (rs1 : BitVec 5) (imm : BitVec 16)
  /-- STB (R181). Store a byte in the named address form. -/
  | spStb (c : Fin 16) (form : Form) (rd : BitVec 5) (rs1 : BitVec 5) (imm : BitVec 16)
  /-- STH (R181). Store a halfword in the named address form. -/
  | spSth (c : Fin 16) (form : Form) (rd : BitVec 5) (rs1 : BitVec 5) (imm : BitVec 16)
  /-- STW (R181). Store a word in the named address form. -/
  | spStw (c : Fin 16) (form : Form) (rd : BitVec 5) (rs1 : BitVec 5) (imm : BitVec 16)
  /-- FLW (R181). Load an FP32 word in the named address form. -/
  | spFlw (c : Fin 16) (form : Form) (rd : BitVec 5) (rs1 : BitVec 5) (imm : BitVec 16)
  /-- FSW (R181). Store an FP32 word in the named address form. -/
  | spFsw (c : Fin 16) (form : Form) (rd : BitVec 5) (rs1 : BitVec 5) (imm : BitVec 16)
  /-- CGATH (R183). Gather one field of a range of cell entries into TCM. -/
  | spCgath (c : Fin 16) (rd : BitVec 5) (rs1 : BitVec 5) (rs2 : BitVec 5)
  /-- CGATHX (R183). Gather one field of listed cell entries into TCM. -/
  | spCgathx (c : Fin 16) (rd : BitVec 5) (rs1 : BitVec 5) (rs2 : BitVec 5)
  /-- CSCAT (R183). Scatter one field from TCM into a range of cell entries. -/
  | spCscat (c : Fin 16) (rd : BitVec 5) (rs1 : BitVec 5) (rs2 : BitVec 5)
  /-- CSCATX (R183). Scatter one field from TCM into listed cell entries. -/
  | spCscatx (c : Fin 16) (rd : BitVec 5) (rs1 : BitVec 5) (rs2 : BitVec 5)
  /-- LAWIN (R185). Write an f register to an XF word. -/
  | spLawin (c : Fin 16) (rd : BitVec 5) (rs1 : BitVec 5) (operand : BitVec 12)
  /-- LAWING (R185). Write a g register to an XF word. -/
  | spLawing (c : Fin 16) (rd : BitVec 5) (rs1 : BitVec 5) (operand : BitVec 12)
  /-- LAWOUT (R185). Read an XF word into an f register. -/
  | spLawout (c : Fin 16) (rd : BitVec 5) (rs1 : BitVec 5) (operand : BitVec 12)
  /-- LAWOUTG (R185). Read an XF word into a g register. -/
  | spLawoutg (c : Fin 16) (rd : BitVec 5) (rs1 : BitVec 5) (operand : BitVec 12)
  /-- LAWGO (R144). Queue list k and return a status code. -/
  | spLawgo (c : Fin 16) (rd : BitVec 5) (rs1 : BitVec 5) (operand : BitVec 12)
  /-- LAWWT (R186). Wait until list k is done. -/
  | spLawwt (c : Fin 16) (rd : BitVec 5) (rs1 : BitVec 5) (operand : BitVec 12)
  /-- LAWST (R185). Read LAW.LIST_k.STATUS into a register. -/
  | spLawst (c : Fin 16) (rd : BitVec 5) (rs1 : BitVec 5) (operand : BitVec 12)
  /-- WAITT (R166). Wait for the cycle tick or return the count of missed ticks. -/
  | spWaitt (c : Fin 16) (rd : BitVec 5) (rs1 : BitVec 5) (rs2 : BitVec 5)
  /-- BAR (R167). Arrive at a barrier of the cores in the mask. -/
  | spBar (c : Fin 16) (rd : BitVec 5) (rs1 : BitVec 5) (rs2 : BitVec 5)
  /-- FENCE (R157). Complete once every earlier store has committed. -/
  | spFence (c : Fin 16) (rd : BitVec 5) (rs1 : BitVec 5) (rs2 : BitVec 5)
  /-- SEND (R168). Send a 64-bit message to a core's mailbox, returning OK or E_FULL. -/
  | spSend (c : Fin 16) (rd : BitVec 5) (rs1 : BitVec 5) (rs2 : BitVec 5)
  /-- RECV (R168). Wait for and take the oldest mailbox message. -/
  | spRecv (c : Fin 16) (rd : BitVec 5) (rs1 : BitVec 5) (rs2 : BitVec 5)
  /-- RECVN (R168). Take the oldest mailbox message without waiting. -/
  | spRecvn (c : Fin 16) (rd : BitVec 5) (rs1 : BitVec 5) (rs2 : BitVec 5)
  /-- LOCKACQ (R189). Request a Belfry token and wait for its grant. -/
  | spLockacq (c : Fin 16) (rd : BitVec 5) (rs1 : BitVec 5) (operand : BitVec 12)
  /-- LOCKTRY (R189). Take a Belfry token when free. -/
  | spLocktry (c : Fin 16) (rd : BitVec 5) (rs1 : BitVec 5) (operand : BitVec 12)
  /-- LOCKREL (R189). Release a held Belfry token. -/
  | spLockrel (c : Fin 16) (rd : BitVec 5) (rs1 : BitVec 5) (operand : BitVec 12)
  /-- LOCKCLR (R189). Clear a held token's BROKEN flag. -/
  | spLockclr (c : Fin 16) (rd : BitVec 5) (rs1 : BitVec 5) (operand : BitVec 12)
  /-- CSRR (R191). Read a CSR. -/
  | spCsrr (c : Fin 16) (rd : BitVec 5) (rs1 : BitVec 5) (operand : BitVec 12)
  /-- CSRW (R191). Write a CSR and return its old value. -/
  | spCsrw (c : Fin 16) (rd : BitVec 5) (rs1 : BitVec 5) (operand : BitVec 12)
  /-- CSRS (R191). Set CSR bits and return the old value. -/
  | spCsrs (c : Fin 16) (rd : BitVec 5) (rs1 : BitVec 5) (operand : BitVec 12)
  /-- CSRC (R191). Clear CSR bits and return the old value. -/
  | spCsrc (c : Fin 16) (rd : BitVec 5) (rs1 : BitVec 5) (operand : BitVec 12)
  /-- BR (R192). Unconditional relative branch. -/
  | spBr (c : Fin 16) (off : BitVec 26)
  /-- BRL (R192). Relative branch with link in g31. -/
  | spBrl (c : Fin 16) (off : BitVec 26)
  /-- JALR (R192). Register-indirect jump with link. -/
  | spJalr (c : Fin 16) (rd : BitVec 5) (rs1 : BitVec 5) (imm : BitVec 16)
  /-- BEQ (R192). Branch when two registers are equal. -/
  | spBeq (c : Fin 16) (ra : BitVec 5) (rb : BitVec 5) (off : BitVec 16)
  /-- BNE (R192). Branch when two registers differ. -/
  | spBne (c : Fin 16) (ra : BitVec 5) (rb : BitVec 5) (off : BitVec 16)
  /-- BLT (R192). Branch on signed less-than. -/
  | spBlt (c : Fin 16) (ra : BitVec 5) (rb : BitVec 5) (off : BitVec 16)
  /-- BGE (R192). Branch on signed greater-or-equal. -/
  | spBge (c : Fin 16) (ra : BitVec 5) (rb : BitVec 5) (off : BitVec 16)
  /-- BLTU (R192). Branch on unsigned less-than. -/
  | spBltu (c : Fin 16) (ra : BitVec 5) (rb : BitVec 5) (off : BitVec 16)
  /-- BGEU (R192). Branch on unsigned greater-or-equal. -/
  | spBgeu (c : Fin 16) (ra : BitVec 5) (rb : BitVec 5) (off : BitVec 16)
  /-- BEQI (R192). Branch when a register equals an immediate. -/
  | spBeqi (c : Fin 16) (ra : BitVec 5) (simm : BitVec 5) (off : BitVec 16)
  /-- BNEI (R192). Branch when a register differs from an immediate. -/
  | spBnei (c : Fin 16) (ra : BitVec 5) (simm : BitVec 5) (off : BitVec 16)
  /-- BLTI (R192). Branch when a register is less than an immediate. -/
  | spBlti (c : Fin 16) (ra : BitVec 5) (simm : BitVec 5) (off : BitVec 16)
  /-- BGEI (R192). Branch when a register is at least an immediate. -/
  | spBgei (c : Fin 16) (ra : BitVec 5) (simm : BitVec 5) (off : BitVec 16)
  /-- XRET (R162). Return from an exception, restoring IE, MIE and PRIV from XSAVE. -/
  | spXret (c : Fin 16) (rd : BitVec 5) (rs1 : BitVec 5) (rs2 : BitVec 5)
  /-- HALT (R193). Halt the core with cause 3. -/
  | spHalt (c : Fin 16) (rd : BitVec 5) (rs1 : BitVec 5) (rs2 : BitVec 5)
  /-- TRAP (R193). Raise the TRAP exception with a 10-bit code. -/
  | spTrap (c : Fin 16) (rd : BitVec 5) (code : BitVec 10)
  /-- BREAK (R193). Raise the BREAK exception. -/
  | spBreak (c : Fin 16) (rd : BitVec 5) (rs1 : BitVec 5) (rs2 : BitVec 5)
  /-- LEASE_EN_WRITE (R200). Writing LEASE_n.CTRL.EN enables a context, or closes its period with FINAL when cleared. -/
  | leaseEnWrite (req : Req) (n : Fin 256) (set : Bool)
  /-- LEASE_SUSPEND (R198). Writing CTRL.SUSPEND suspends or resumes a context's cells. -/
  | leaseSuspend (req : Req) (n : Fin 256) (set : Bool)
  /-- CLOSE_NOW (R200). CTRL.CLOSE_NOW makes the period due at the next tick with FORCED. -/
  | closeNow (req : Req) (n : Fin 256)
  /-- CURVE_LOAD (R215). CTRL.CURVE_LOAD checks and applies the staged curve at the next tick. -/
  | curveLoad (req : Req) (n : Fin 256)
  /-- PERIOD_CLOSE (R201). At a due close tick the context captures its cells, freezes the period, forms its page and reopens. -/
  | periodClose (n : Fin 256)
  /-- PAGE_SIGN_COMPLETE (R206). SECURE completes both signatures of a page. -/
  | pageSignComplete
  /-- PAGE_RESEND (R208). A page not acknowledged within RESEND_S of its last offer is offered again. -/
  | pageResend
  /-- LDG_ACK (R209). A write of SYS.LDG_ACK submits a cumulative acknowledgement to the journal. -/
  | ldgAck (req : Req) (data : BitVec 32)
  /-- LDG_ACK_RSP_READ (R209). A read of LDG_ACK_RSP with VALID clears it and ends the pending acknowledgement. -/
  | ldgAckRspRead (req : Req)
  /-- CHECKPOINT_TIMER (R212). Every CKPT_S seconds the ledger starts writing a checkpoint generation. -/
  | checkpointTimer
  /-- CKPT_NOW (R212). Writing LDG_CTRL.CKPT_NOW starts a checkpoint generation at the next tick. -/
  | ckptNow (req : Req)
  /-- CHECKPOINT_COMPLETE (R212). A checkpoint generation completes and LDG_CKPT_GEN and LAST_CKPT_NS update. -/
  | checkpointComplete (good : Bool)
  /-- LDG_RESTORE (R214). Writing LDG_CTRL.RESTORE starts loading the newest valid checkpoint generation. -/
  | ldgRestore (req : Req)
  /-- RESTORE_COMPLETE (R214). The restore loads the contexts and EC_ADJ bits and sets RESTORED, or ends with E_ECC. -/
  | restoreComplete
  /-- SCRUB_READ (R222). A patrol scrubber reads and decodes one line every SCRUB.INT FAB clocks. -/
  | scrubRead (i : Fin 3)
  /-- MARK_FAIL (R222). Writing MEMC_n.CTRL.MARK_FAIL puts the channel into CH_FAIL. -/
  | markFail (req : Req) (c : Fin 2)
  /-- MEMC_INIT (R233). Writing MEMC_n.CTRL.INIT starts training and initialising the channel. -/
  | memcInit (req : Req) (c : Fin 2)
  /-- MEMC_INIT_DONE (R233). Channel initialisation completes and INIT_DONE is set. -/
  | memcInitDone (c : Fin 2)
  /-- LOCAL_PREPARE_DONE (R229). The holder's header and payload word writes complete. -/
  | localPrepareDone (r : Fin 3)
  /-- REMOTE_PREPARE (R229). The standby writes a received record at the same JSEQ and returns PREPARED, or refuses it. -/
  | remotePrepare (r : Fin 3) (jseq : BitVec 64) (key : BitVec 64) (epoch : BitVec 32) (unit : BitVec 2) (timeNs : BitVec 64) (payload : List (BitVec 8))
  /-- PREPARED_RECEIVE (R229). The holder receives PREPARED and writes its COMMITTED trailer. -/
  | preparedReceive (r : Fin 3) (jseq : BitVec 64)
  /-- JOURNAL_ACCEPT (R229). The holder's trailer write completes and the work becomes accepted and acted on. -/
  | journalAccept (r : Fin 3)
  /-- REMOTE_COMMIT (R229). The standby receives COMMIT and writes its own trailer. -/
  | remoteCommit (r : Fin 3) (jseq : BitVec 64)
  /-- PREPARE_TIMEOUT (R230). Without PREPARED within ACK_TO the holder commits with SOLO and sets TWIN_LOST. -/
  | prepareTimeout (r : Fin 3) (jseq : BitVec 64)
  /-- JOURNAL_RECOVER (R231). Writing JOURNAL.CTRL.RECOVER starts a rescan of the rings. -/
  | journalRecover (req : Req)
  /-- JOURNAL_RECOVERY_COMPLETE (R231). Recovery rebuilds head, tail and JSEQ, resolves PREPARED records and sets READY. -/
  | journalRecoveryComplete (held : List (Fin 3 × BitVec 64))
  /-- JOURNAL_FORMAT (R232). Writing JOURNAL.CTRL.FORMAT empties CMD, FAULT and LEDGER. -/
  | journalFormat (req : Req)
  /-- USER_STORE (R226). A fabric store to the MRAM USER region commits when its word write completes. -/
  | userStore (req : Req) (addr : BitVec 40) (size : Fin 4) (val : BitVec 64)
  /-- SCAN_GO (R234). Writing SCAN.CTRL.GO starts a CRC scan of a byte range. -/
  | scanGo (req : Req)
  /-- SCAN_ABORT (R235). Writing SCAN.CTRL.ABORT stops the scan at the next line without DONE. -/
  | scanAbort (req : Req)
  /-- SCAN_DONE (R234). The scan completes with RESULT valid and DONE set. -/
  | scanDone
  /-- SCAN_ECC_STOP (R234). An uncorrectable line stops the scan, setting ECC and FAIL_ADDR. -/
  | scanEccStop
  /-- BELFRY_REQUEST (R237). A requester presents a request to a Cupola bank or DRAM channel. -/
  | belfryRequest (q : Fin 32) (addr : BitVec 40) (total : BitVec 32)
  /-- BELFRY_GRANT (R238). A resource grants the highest-level waiting request, round-robin within a level. -/
  | belfryGrant (res : Fin 34)
  /-- BELFRY_WITHDRAW (R241). A request withdrawn after its grant costs the resource one dead FAB clock. -/
  | belfryWithdraw (res : Fin 34) (q : Fin 32)
  /-- STARVATION (R243). A request waiting longer than STARVE_LIM sets its STARVED bit. -/
  | starvation (q : Fin 32)
  /-- PRI_LEVEL_WRITE (R239). A write of PRI_r.LEVEL applies at the next arbitration clock to waiting and held grants. -/
  | priLevelWrite (req : Req) (q : Fin 32) (level : BitVec 3)
  /-- OWNER_FAULT (R245). An owner fault releases its tokens, sets BROKEN, increments EPOCH and sets STATUS.BROKE. -/
  | ownerFault (owner : Fin 17)
  /-- LOCK_CMD_TRY (R244). BELFRY.LOCK_CMD with OP 1 tries a token for the host. -/
  | lockCmdTry (req : Req) (t : Fin 64)
  /-- LOCK_CMD_REL (R244). BELFRY.LOCK_CMD with OP 2 releases a host token. -/
  | lockCmdRel (req : Req) (t : Fin 64)
  /-- LOCK_CMD_CLR (R244). BELFRY.LOCK_CMD with OP 3 clears a host token's BROKEN. -/
  | lockCmdClr (req : Req) (t : Fin 64)
  /-- QUEUE_PUSH (R256). A write of PUSH_HI pushes a tagged word into the queue, refused when it breaks packing or finds no room. -/
  | queuePush (req : Req) (k : Fin 32) (hi : BitVec 32)
  /-- QUEUE_POP_TAG (R254). A read of POP_TAG latches the head word and returns its tag. -/
  | queuePopTag (req : Req) (k : Fin 32)
  /-- QUEUE_POP (R254). A read of POP_HI returns the high word and removes the word from the queue. -/
  | queuePop (req : Req) (k : Fin 32)
  /-- QUEUE_ABORT (R251). CTRL.ABORT discards the open packet, spilled granules included, and sets ABORTED. -/
  | queueAbort (req : Req) (k : Fin 32)
  /-- QUEUE_FLUSH (R252). CTRL.FLUSH pads and writes the tail granule to the ring at the next packet boundary. -/
  | queueFlush (req : Req) (k : Fin 32)
  /-- QUEUE_CLEAR (R255). CTRL.CLEAR empties a stopped queue. -/
  | queueClear (req : Req) (k : Fin 32)
  /-- QUEUE_AUTO_FLUSH (R252). A tail holding words for FLUSH_TO × 16 FAB clocks while spilling is flushed automatically. -/
  | queueAutoFlush (k : Fin 32)
  /-- PACKET_VISIBLE (R250). A packet becomes poppable 2 FAB clocks after its END word commits. -/
  | packetVisible (k : Fin 32)
  /-- SPILL_READBACK (R255). The head reads back a spilled granule, discarding packets of a bad granule and setting ECC. -/
  | spillReadback (k : Fin 32)
  /-- ADC_TRIGGER (R259). A converter's selected trigger arrives and arms a run after DELAY, or is lost while busy. -/
  | adcTrigger (k : Fin 4)
  /-- ADC_RUN_START (R258). A run starts on the first CONV edge after trigger plus DELAY. -/
  | adcRunStart (k : Fin 4)
  /-- ADC_ENTRY_COMPLETE (R262). An entry's last conversion ends and RESULT_e takes VALUE, OVR and FRESH. -/
  | adcEntryComplete (k : Fin 4) (volts : List (Vector Int 9))
  /-- PLAUS_FLAG (R264). CNT consecutive exceedances set STATUS.PLAUS and PLAUS_DIFF. -/
  | plausFlag (pair : Fin 2)
  /-- ADC_ABORT (R262). CTRL.ABORT ends the run, holding incomplete entries with QUAL HELD. -/
  | adcAbort (req : Req) (k : Fin 4)
  /-- ADC_SWTRIG (R259). CTRL.SWTRIG triggers a run when TRIG_SRC is 0 and the converter is enabled. -/
  | adcSwtrig (req : Req) (k : Fin 4)
  /-- ADC_DISABLE (R262). Clearing CTRL.EN ends a run in progress early. -/
  | adcDisable (req : Req) (k : Fin 4)
  /-- SV_FRAME_RECEIVE (R267). A sampled-value frame is checked against its stream and accepted, discarded or rewound. -/
  | svFrameReceive (port : Fin 4) (octets : List (BitVec 8)) (cut : Bool)
  /-- SV_STALE (R269). At a tick with m ≥ 2 the stream is STALE and holds its values with QUAL HELD. -/
  | svStale (i : Fin 8)
  /-- SV_LOST (R269). At m ≥ LOST_LIMIT the stream sets LOST and, with ACTION, asserts SVTRIP_s. -/
  | svLost (i : Fin 8)
  /-- SV_LOST_CLEAR (R269). Writing 1 to SV LOST clears it and SVTRIP_s, refused with E_STATE while STALE. -/
  | svLostClear (req : Req) (i : Fin 8)
  /-- SV_CLR_STATS (R271). SV CTRL.CLR_STATS clears the stream's counters. -/
  | svClrStats (req : Req) (i : Fin 8)
  /-- FILT_SAMPLE_ARRIVAL (R274). A filter input sample arrives and becomes a job in the engine queue. -/
  | filtSampleArrival (k : Fin 16)
  /-- FILT_JOB_START (R274). A filter job starts when it has arrived and the previous job has ended. -/
  | filtJobStart
  /-- FILT_JOB_END (R274). A filter job ends and its output, quality and threshold state change. -/
  | filtJobEnd
  /-- FILT_SWAP (R276). CTRL.SWAP requests a bank swap, pending or refused with E_XFADE under a pending swap. -/
  | filtSwap (req : Req) (k : Fin 16)
  /-- FILT_PRESET (R277). CTRL.PRESET presets the delay line with the next sample. -/
  | filtPreset (req : Req) (k : Fin 16)
  /-- FILT_IN_WRITE (R272). A write of FILT_k.IN delivers a software sample. -/
  | filtInWrite (req : Req) (k : Fin 16) (data : BitVec 32)
  /-- FILT_TIMEOUT (R277). No sample for TIMEOUT × 256 FAB clocks turns the output quality HELD. -/
  | filtTimeout (k : Fin 16)
  /-- COEFFICIENT_WRITE (R275). A write of a filter coefficient, refused with E_BUSY on a bank in use. -/
  | coefficientWrite (req : Req) (addr : BitVec 40) (data : BitVec 32)
  /-- OCULUS_STROBE (R281). Every DIV-th strobe source event samples the twelve probes. -/
  | oculusStrobe
  /-- OCULUS_RECORD_CLOSE (R282). A record closes after 2^IAVG strobes and is mask-tested and evaluated by the sequencer. -/
  | oculusRecordClose
  /-- OCULUS_RECORD_WRITE (R283). A queued record is written to the DRAM ring. -/
  | oculusRecordWrite
  /-- OCULUS_ARM (R285). CTRL.ARM starts acquisition with the sequencer in state 0. -/
  | oculusArm (req : Req)
  /-- OCULUS_STOP (R285). CTRL.STOP ends acquisition after the closing record without DONE. -/
  | oculusStop (req : Req)
  /-- OCULUS_FORCE (R284). CTRL.FORCE makes condition SEL 6 true for the interval. -/
  | oculusForce (req : Req)
  /-- PWM_RELOAD (R289). A pair's carrier reaches a reload point and loads its staged fields. -/
  | pwmReload (n : Fin 12)
  /-- PWM_CARRIER_CHANGE (R290). The carrier count changes the commanded switch, turning one output off at once. -/
  | pwmCarrierChange (n : Fin 12)
  /-- PWM_TURN_ON (R291). The complementary output turns on after its dead time and interlock condition. -/
  | pwmTurnOn (n : Fin 12) (gfb : BitVec 2) (since : Nat)
  /-- PWM_INTERLOCK_TIMEOUT (R291). A turn-on not made within INTLK_TO turns both outputs off and latches INTLK. -/
  | pwmInterlockTimeout (n : Fin 12) (gfb : BitVec 2) (since : Nat)
  /-- PWM_SHOOT (R295). Both outputs commanded on, or both GFB deasserted for 4 edges, latches SHOOT and turns both off. -/
  | pwmShoot (n : Fin 12) (gfb : BitVec 2) (steady : Nat)
  /-- PWM_REFRESH_START (R293). A bootstrap high side on for HS_MAX goes off and REFRESH is set. -/
  | pwmRefreshStart (n : Fin 12)
  /-- PWM_REFRESH_END (R293). After RFSH_LEN the carrier's command resumes. -/
  | pwmRefreshEnd (n : Fin 12)
  /-- PWM_TRIGGER_PULSE (R297). The count equalling TRIG.CNT in the selected direction pulses the trigger output. -/
  | pwmTriggerPulse (n : Fin 12)
  /-- PWM_TRIP_CLEAR (R302). Writing 1 to STATUS.TRIP clears it unless a mapped source is asserted; outputs stay off until reload. -/
  | pwmTripClear (req : Req) (n : Fin 12)
  /-- PWM_SHOOT_CLEAR (R302). Writing 1 to STATUS.SHOOT clears it unless both outputs are still commanded on. -/
  | pwmShootClear (req : Req) (n : Fin 12)
  /-- PWM_INTLK_CLEAR (R302). Writing 1 to STATUS.INTLK clears it unless the last turned-off switch's GFB is deasserted. -/
  | pwmIntlkClear (req : Req) (n : Fin 12)
  /-- PWM_FORCE (R294). A write of FORCE forces outputs on or off, still under dead time. -/
  | pwmForce (req : Req) (n : Fin 12) (data : BitVec 32)
  /-- PWM_GLOAD (R296). A write of TRIP.GLOAD arms load-all pairs to load at their next reload. -/
  | pwmGload (req : Req) (mask : BitVec 12)
  /-- TRIP_FILTER_ASSERT (R298). A trip input steady for FILT edges asserts its filtered level. -/
  | tripFilterAssert (mask : BitVec 16) (levels : BitVec 16) (steady : Nat)
  /-- TRIP_FILTER_DEASSERT (R298). A trip input steady deasserted for FILT edges deasserts its filtered level. -/
  | tripFilterDeassert (mask : BitVec 16) (levels : BitVec 16) (steady : Nat)
  /-- TEVT_LATCH (R303). A read of TEVT0 latches the head trip record. -/
  | tevtLatch (req : Req)
  /-- TEVT_POP (R303). A read of TEVT3 returns the rest and removes the record. -/
  | tevtPop (req : Req)
  /-- DRV_REQ_PUSH (R305). A write of DRV_REQ pushes a driver bus request, refused with E_FULL when full. -/
  | drvReqPush (req : Req) (data : BitVec 32)
  /-- DRV_TRANSACTION_START (R304). The driver bus starts an 80-clock SPI transaction for the head request. -/
  | drvTransactionStart
  /-- DRV_TRANSACTION_END (R304). A driver bus transaction ends and its response, or NOACK, is queued. -/
  | drvTransactionEnd (resp : List (BitVec 8))
  /-- DRV_RSP_POP (R305). A read of DRV_RSP pops the oldest driver response. -/
  | drvRspPop (req : Req)
  /-- INCR_WRITE (R308). A write of INCR_NS applies the new increment from the next FAB edge. -/
  | incrWrite (req : Req) (data : BitVec 32)
  /-- STEP_GO (R310). ADJ_CTRL.STEP_GO steps Campanile time by ADJ on one edge. -/
  | stepGo (req : Req)
  /-- SLEW_GO (R310). ADJ_CTRL.SLEW_GO starts slewing time by ADJ at SLEW_STEP per edge. -/
  | slewGo (req : Req)
  /-- SLEW_END (R310). The slew completes its adjustment and SLEWING clears. -/
  | slewEnd
  /-- SET_GO (R310). ADJ_CTRL.SET_GO sets time to SET, clearing LOST and setting COARSE. -/
  | setGo (req : Req)
  /-- CLR_COARSE (R313). CLR.CLR_COARSE clears TIME_COARSE and UNCERT, refused while LOST. -/
  | clrCoarse (req : Req)
  /-- TICK_ENABLE (R314). TICK_CTRL.EN = 1 arms the first tick at START. -/
  | tickEnable (req : Req) (startNs : BitVec 64)
  /-- TICK_DISABLE (R314). TICK_CTRL.EN = 0 suppresses every later tick. -/
  | tickDisable (req : Req)
  /-- TIMER_FIRE (R315). An event timer reaches its target or offset, fires and records FIRE_NS. -/
  | timerFire (i : Fin 16)
  /-- TOUT_ACTIVE (R316). A timed output takes LEVEL on the edge reaching its target. -/
  | toutActive (j : Fin 4)
  /-- TOUT_IDLE (R316). A timed output returns to idle WIDTH ns later and sets DONE. -/
  | toutIdle (j : Fin 4)
  /-- CAPTURE_EDGE (R317). A selected edge on a capture input is timestamped into its FIFO. -/
  | captureEdge (k : Fin 4) (rise : Bool)
  /-- CAPTURE_LATCH (R317). A read of CI_k TS_LO latches the head capture record. -/
  | captureLatch (req : Req) (k : Fin 4)
  /-- CAPTURE_POP (R317). A read of TS_INFO returns the record's flags and removes it. -/
  | capturePop (req : Req) (k : Fin 4)
  /-- TXTS_POP (R312). A read of a TXTS entry's info word removes the transmit timestamp entry. -/
  | txtsPop (req : Req) (p : Fin 4)
  /-- PEER_LINK_UP (R319). A PEER or CASCADE link comes up after lock and identity exchange, measuring its latency. -/
  | peerLinkUp (link : Fin 4) (roundTrip : BitVec 32)
  /-- PEER_LINK_DOWN (R319). A PEER or CASCADE link goes down after loss of lock or eight discarded messages. -/
  | peerLinkDown (link : Fin 4)
  /-- CYCLE_MESSAGE_RECEIVE (R321). A unit receives its twin's or master's CYCLE message with count, length, supply, health and handshake. -/
  | cycleMessageReceive (fromMaster : Bool) (msg : CycleMsg)
  /-- CASC_TX_WRITE (R323). A master write of CASC_TX_f_k sends a COUNT message to follower f. -/
  | cascTxWrite (req : Req) (f : Fin 3) (k : Fin 8) (data : BitVec 32)
  /-- CASCADE_COUNT_RECEIVE (R323). A follower writes a received COUNT to ARM_k.N or VREF_ARM on its arrival edge. -/
  | cascadeCountReceive (k : Fin 8) (data : BitVec 32)
  /-- SUMS_RECEIVE (R324). The master writes a follower's SUMS records to Cupola. -/
  | sumsReceive (f : Fin 3) (recs : List SumRec)
  /-- MASTER_LOST (R325). A follower without CYCLE messages for LOSS_CYC cycles sets MASTER_LOST and the ALL latch. -/
  | masterLost
  /-- FOLLOWER_LOST (R325). A master without SUMS from a follower for LOSS_CYC cycles blocks that follower's arms. -/
  | followerLost (f : Fin 3)
  /-- MASK_WAIT_END (R328). At RET_DEADLINE + MASK_WAIT a twin processes agreed supply and finalises the command comparison. -/
  | maskWaitEnd
  /-- MISMATCH_NOTICE_RECEIVE (R335). The holder receives the standby's mismatch notice. -/
  | mismatchNoticeReceive (ring : Fin 128) (pos : Fin 32) (verdict : Fin 6)
  /-- STATUS_FORWARD_RECEIVE (R329). Forwarded status arriving by RET_DEADLINE supplies positions under source 2. -/
  | statusForwardReceive (r : Fin 128) (slots : List (Nat × Stat))
  /-- TWIN_MEAS_DELIVERY (R330). The holder's measurement values are delivered in both units on the same edge, checked at the standby. -/
  | twinMeasDelivery (values : List Meas)
  /-- REPLAY_COMPLETE (R337). The replay recomputes the frozen cycle's commands and sets OWN_OK against OUT_DIGEST. -/
  | replayComplete
  /-- LEASE_EXPIRY (R332). A standby without holder evidence for LEASE_MISS cycles takes the token with EPOCH + 1. -/
  | leaseExpiry
  /-- TWIN_START_TIMEOUT (R331). An enabled unit with no holder answering within 16 cycles becomes holder when preferred. -/
  | twinStartTimeout
  /-- HANDOVER (R338). At tick h of a return or yield the standby launches as holder and the old holder releases. -/
  | handover
  /-- TWIN_EN_WRITE (R331). Writing TWIN.CTRL.EN starts twin operation in HOLDER or JOIN, or returns to OFF. -/
  | twinEnWrite (req : Req) (en : Bool)
  /-- REJOIN (R331). TWIN.CTRL.REJOIN moves a FAULTY unit to JOIN. -/
  | rejoin (req : Req)
  /-- YIELD (R338). TWIN.CTRL.YIELD starts a handover of the token to the standby. -/
  | yieldToken (req : Req)
  /-- SYNC_DONE (R340). TWIN.CTRL.SYNC_DONE lets a joining unit enter STANDBY once every item is copied. -/
  | syncDone (req : Req)
  /-- CHASE_COPY_RECEIVE (R340). A joining unit installs a chase-copied item before its own update of it. -/
  | chaseCopyReceive (item : ChaseItem)
  /-- RELAY_COPY_RECEIVE (R339). The standby receives the holder's relay command copy and compares it. -/
  | relayCopyReceive (r : Fin 128) (bytes : List (BitVec 8))
  /-- KEEP_DEMAND (R347). A filtered safety input demand deasserts KGEN, raises the gate removal request and acts its function. -/
  | keepDemand (mask : BitVec 8)
  /-- KEEP_ACK_PULSE (R346). A valid ACK pulse on an ACK input requests a release. -/
  | keepAckPulse (i : Fin 8) (ms : BitVec 16)
  /-- KEEP_PAIR_FAULT (R346). Paired inputs disagreeing longer than DISC latch PAIR_FAULT. -/
  | keepPairFault (pair : Fin 4)
  /-- KEEP_RELEASE (R348). CTRL.RELEASE ends Safe Gate Removal and withdrawal when no demand or fault remains. -/
  | keepRelease (req : Req)
  /-- KEEP_SPW_REQ (R349). CTRL.SPW_REQ starts a Safe Power Withdrawal ramp. -/
  | keepSpwReq (req : Req)
  /-- KEEP_SGR_REQ (R358). CTRL.SGR_REQ demands Safe Gate Removal. -/
  | keepSgrReq (req : Req)
  /-- KEEP_RAMP_COMPARE (R349). Each completed ADC plausibility pair is checked against the falling withdrawal limit. -/
  | keepRampCompare
  /-- KEEP_RAMP_TIMEOUT (R349). No result pair for 1 ms or no completion by RAMP_T + GRACE sets RAMP_FAIL. -/
  | keepRampTimeout
  /-- KEEP_FB_DISCREPANCY (R351). A feedback pair DISCREPANT longer than DISC_T latches FB_FAULT. -/
  | keepFbDiscrepancy (m : Fin 4)
  /-- KEEP_FOLLOW_TIMEOUT (R351). A bound pair not OPEN within FOLLOW_T of its relay de-energising latches FOLLOW_FAULT. -/
  | keepFollowTimeout (m : Fin 4)
  /-- SAFE_FAULT (R353). A failed diagnostic enters SAFE_FAULT, squelching rings and de-energising every output. -/
  | safeFault (cause : BitVec 4)
  /-- KEEP_RELAY_TEST (R353). Keep periodically opens each relay driver's series switches in turn and checks readback. -/
  | keepRelayTest (index : Fin 8) (good : Bool)
  /-- KEEP_INPUT_TEST (R353). Keep periodically injects a test stimulus behind each input filter. -/
  | keepInputTest (index : Fin 8) (good : Bool)
  /-- KEEP_CONFIG_CHECK (R345). After reset Keep checks its stored configuration CRC, entering SAFE_FAULT on mismatch. -/
  | keepConfigCheck
  /-- KEEP_CONFIG_WRITE (R355). A write of a Keep configuration register changes the staged copy when unlocked from the same port. -/
  | keepConfigWrite (req : Req) (off : BitVec 12) (data : BitVec 32)
  /-- KEEP_UNLOCK (R356). CFG_CTRL.UNLOCK compares the password digest and unlocks, or logs AUTH_FAIL. -/
  | keepUnlock (req : Req)
  /-- KEEP_COMMIT (R356). CFG_CTRL.COMMIT applies the staged configuration on one KCLK edge and logs COMMIT. -/
  | keepCommit (req : Req)
  /-- KEEP_DISCARD (R356). CFG_CTRL.DISCARD restores the staged copy from the applied one. -/
  | keepDiscard (req : Req)
  /-- KEEP_LOCK (R358). CFG_CTRL.LOCK relocks the configuration. -/
  | keepLock (req : Req)
  /-- KEEP_SETPASS (R356). CFG_CTRL.SETPASS stores PASS0–3 as the new password and logs SETPASS. -/
  | keepSetpass (req : Req)
  /-- KEEP_LOG_CLEAR (R357). CFG_CTRL.LOG_CLEAR empties the log and writes one CLEARED record. -/
  | keepLogClear (req : Req)
  /-- KEEP_UNLOCK_EXPIRY (R356). The configuration relocks 300 s after an unlock. -/
  | keepUnlockExpiry
  /-- KEEP_LOCKOUT_END (R356). A 60 s lockout after three failed unlocks ends. -/
  | keepLockoutEnd
  /-- LANTERN_WAKE_REQUEST (R364). A REQ write of 0 requests a wake, stopping an entry and discarding a queued request. -/
  | lanternWakeRequest (req : Req)
  /-- LANTERN_STATE_REQUEST (R361). A REQ write of 1–4 requests a power state, judged, queued or refused. -/
  | lanternStateRequest (req : Req) (st : Fin 5)
  /-- LANTERN_AUTO_REQUEST (R365). A REQ write of 7 chooses the deepest state fitting the time to the next event and arms the alarm. -/
  | lanternAutoRequest (req : Req)
  /-- ENTRY_STEP_DONE (R362). A step of a power-state entry completes and the next begins, or the state is reached. -/
  | entryStepDone (good : Bool)
  /-- LANTERN_EXIT_COMPLETE (R367). Run is reached after a wake and latched wake events are replayed. -/
  | lanternExitComplete (ticks : BitVec 64)
  /-- LWAKE_EDGE (R366). An enabled edge on an LWAKE pin is latched as a wake event. -/
  | lwakeEdge (pin : Fin 4) (rise : Bool) (ticks : BitVec 64)
  /-- LANTERN_ALARM (R366). The Lantern tick reaching ALARM is latched as a wake event. -/
  | lanternAlarm
  /-- WAKE_PORT_MATCH (R368). An address match on the wake port acknowledges, stretches the clock or latches a wake by state. -/
  | wakePortMatch (read : Bool) (addr : BitVec 7) (ticks : BitVec 64)
  /-- VAON_LOW (R370). VAON falling below 2.00 V sets VAON_LOW and raises source 254. -/
  | vaonLow (mv : BitVec 12) (wasAbove : Bool)
  /-- BROWN_OUT (R370). VAON below 1.70 V holds the Lantern reset and loses the tick counter and wake state. -/
  | brownOut
  /-- BROWN_OUT_RELEASE (R370). VAON above 1.75 V for 1 ms ends the Lantern reset and sets BOR. -/
  | brownOutRelease (mv : BitVec 12)
  /-- OSC_STOP (R370). The Lantern oscillator stopping for over four ticks sets OSC_STOP and marks time lost. -/
  | oscStop
  /-- REF_ACCEPTED (R376). The reference monitor finds REFCLK within ±1,000 ppm and sets REF_OK. -/
  | refAccepted
  /-- PLL_LOCK (R374). The root PLL locks and the derived clocks start at the alignment point. -/
  | pllLock (band : Fin 32)
  /-- PLL_LOSS (R376). A loss of PLL lock asserts a device reset with cause PLL. -/
  | pllLoss
  /-- RESET_PIN (R379). RST_N low for at least 1 µs asserts a device reset with cause PIN. -/
  | resetPin
  /-- PGOOD_RISE (R379). PGOOD rising releases the device reset with cause PGOOD. -/
  | pgoodRise
  /-- PGOOD_FALL (R417). PGOOD falling outside a Sleep or Hibernate entry asserts a device reset and releases every pin. -/
  | pgoodFall
  /-- RST_ORDERLY (R381). RST_CTRL.ORDERLY completes journal work, writes a checkpoint and then resets the device. -/
  | rstOrderly (req : Req)
  /-- RST_FORCE (R381). RST_CTRL.FORCE resets the device at once. -/
  | rstForce (req : Req)
  /-- WDT_ENABLE (R382). WDT_CTRL.EN arms the device watchdog. -/
  | wdtEnable (req : Req)
  /-- WDT_KICK (R382). WDT_KICK.KICK restarts the watchdog count. -/
  | wdtKick (req : Req)
  /-- WDT_EXPIRY (R382). The watchdog count ends and a device reset with cause WDT asserts. -/
  | wdtExpiry
  /-- DEVICE_RESET_RELEASE (R380). A device reset ends 10 µs after its source releases and start-up begins. -/
  | deviceResetRelease (ref10 : Bool) (ticks : BitVec 64)
  /-- BOOT_SLOT_LOAD (R385). The boot loader copies, verifies and loads a flash slot, then starts core 0 or tries the other slot. -/
  | bootSlotLoad (slot : List (BitVec 8)) (good : Bool)
  /-- BOOT_HOST_GO (R385). BOOT_CTRL.HOST_GO makes the loader verify and boot a host-written staging image. -/
  | bootHostGo (req : Req)
  /-- SECURE_VERIFY (R387). SECURE command VERIFY checks a manifest's dual signatures, counter and image digests. -/
  | secureVerify (req : Req)
  /-- SECURE_VERIFY_TCM (R391). SECURE command VERIFY_TCM checks a halted core's TCM image and sets its TCM_OK bit. -/
  | secureVerifyTcm (req : Req) (c : Fin 16) (image : BitVec 4)
  /-- SECURE_KEY (R389). SECURE command KEY installs or revokes a firmware key pair from a signed message. -/
  | secureKey (req : Req)
  /-- SECURE_SVN_COMMIT (R390). SECURE command SVN_COMMIT raises an anti-rollback counter to the last accepted manifest's SVN. -/
  | secureSvnCommit (req : Req)
  /-- SECURE_ATTEST (R393). SECURE command ATTEST writes a signed attestation report for a nonce. -/
  | secureAttest (req : Req)
  /-- SECURE_COMMAND_COMPLETE (R394). A SECURE command completes and its status is placed in RSP with VALID. -/
  | secureCommandComplete
  /-- SECURE_RSP_READ (R396). A read of SECURE.RSP returns the result and clears VALID. -/
  | secureRspRead (req : Req)
  /-- HOST_LINK_EVENT (R403). A PCIe link-down, hot reset or function-level reset sets HOST_RESET and is a host owner fault. -/
  | hostLinkEvent (down : Bool)
  /-- HOST_DOORBELL (R398). A write of PORT.HOST_DOORBELL raises the named MSI-X vectors. -/
  | hostDoorbell (req : Req) (vec : BitVec 32)
  /-- CMD_TAIL_WRITE (R404). A write of PORT.CMD_TAIL hands new command entries to the engine. -/
  | cmdTailWrite (req : Req) (idx : BitVec 32)
  /-- CMD_ENTRY_READ (R405). The engine reads a command entry and judges it, answering at once or submitting it to the journal. -/
  | cmdEntryRead
  /-- COMPLETION_WRITE (R407). A completion entry is written in entry order and MSI-X vector 0 is raised. -/
  | completionWrite
  /-- FW_DONE_WRITE (R409). A write of PORT.FW_DONE releases delivered records, refused below its present value. -/
  | fwDoneWrite (req : Req) (data : BitVec 64)
  /-- STATION_FRAME_RECEIVE (R399). A STATION port sorts a received frame to the ingest or a receive queue with its timestamp. -/
  | stationFrameReceive (port : Fin 4) (frame : List (BitVec 8)) (ts : BitVec 64)
  /-- STATION_FRAME_TRANSMIT (R399). A STATION port takes a packet from its transmit queues at a frame boundary and sends it. -/
  | stationFrameTransmit (port : Fin 4)
  /-- UART_REGISTER_FRAME (R400). A MAINT UART register frame is executed and answered with status and data. -/
  | uartRegisterFrame (bytes : List (BitVec 8))
  /-- SAFETY_TRANSACTION (R401). A SAFETY SPI transaction reads or writes a KEEP offset. -/
  | safetyTransaction (bytes : List (BitVec 8))
  /-- TEST_PORT_INSTRUCTION (R400). An IEEE 1149.1 instruction is loaded into the MAINT test port. -/
  | testPortInstruction (code : BitVec 4)
  /-- KEEP_FEEDBACK_CHANGE (R351). A filtered change on a KFB contact moves its feedback pair between OPEN, CLOSED and DISCREPANT. -/
  | keepFeedbackChange (m : Fin 4) (no : Bool) (nc : Bool)
  /-- KEEP_DEMAND_RELEASE (R346). A safety input returns to no-demand after its filter, ending its filtered demand. -/
  | keepDemandRelease (mask : BitVec 8)
  /-- STATION_LINK_CHANGE (R412). A STATION port gains or loses block lock, updating ETH_UP and setting ETH_EV. -/
  | stationLinkChange (port : Fin 4) (up : Bool)
  /-- HOST_LINK_UP (R380). The PCIe link trains to L0 and PORT.STATUS.LINK_UP sets. -/
  | hostLinkUp
  /-- HOST_INBAND_WAKE (R366). A PCIe in-band wake from the host is latched as a wake event in Idle or Doze. -/
  | hostInbandWake
  /-- UART_BYTE_RECEIVE (R400). With UART_MODE = 1 a byte received on the MAINT UART is pushed to its spill queue. -/
  | uartByteReceive (b : BitVec 8)
  /-- UART_BYTE_TRANSMIT (R400). With UART_MODE = 1 the UART takes a byte from its transmit queue and sends it. -/
  | uartByteTransmit
  /-- PEER_FIRMWARE_PACKET_RECEIVE (R320). A firmware queue packet arriving over PEER is pushed to the queue whose producer is the PEER receive link. -/
  | peerFirmwarePacketReceive (bytes : List (BitVec 8))
  /-- PEER_FIRMWARE_PACKET_SEND (R320). PEER takes a packet from the firmware transmit queue and sends it to the twin. -/
  | peerFirmwarePacketSend
  /-- DRAM_REFRESH (R218). A DRAM channel issues a refresh every 7.8 µs, or 3.9 µs with TREF2X, occupying the channel. -/
  | dramRefresh (c : Fin 2)
  /-- CLKOUT_1PPS_EDGE (R378). A CLKOUT in 1PPS format rises on the edge reaching each whole Campanile second and falls WIDTH µs later. -/
  | clkout1ppsEdge (j : Fin 4)
  deriving DecidableEq, Repr

end Sys2Proof
end

