-- ==== Sys2Proof/Decode.lean ====
section
/-!
DEFINITION. The words of the command table, and the instruction words of a Spire core (R172, R173). The table gives none of its rows
any bits (every row's fields are empty), so no word spells a command; the word a core fetches selects the Spire row that executes.
-/
namespace Sys2Proof

/-- The command that a word spells: none, since the table gives no row any bits. -/
def decodeTableWord (_nbits _w : Nat) : Option Instr := none

/-! ### Spire instruction words (R172, R173) -/

/-- An ALU register form (R175). -/
def decodeAlu (c : Fin 16) (rd rs1 rs2 : BitVec 5) (func : Nat) : Option Instr :=
  match func with
  | 0x000 => some (.spAdd c rd rs1 rs2) | 0x001 => some (.spSub c rd rs1 rs2) | 0x002 => some (.spAnd c rd rs1 rs2)
  | 0x003 => some (.spOr c rd rs1 rs2) | 0x004 => some (.spXor c rd rs1 rs2) | 0x005 => some (.spNor c rd rs1 rs2)
  | 0x006 => some (.spSlt c rd rs1 rs2) | 0x007 => some (.spSltu c rd rs1 rs2) | 0x008 => some (.spSll c rd rs1 rs2)
  | 0x009 => some (.spSrl c rd rs1 rs2) | 0x00A => some (.spSra c rd rs1 rs2) | 0x00B => some (.spSlli c rd rs1 rs2)
  | 0x00C => some (.spSrli c rd rs1 rs2) | 0x00D => some (.spSrai c rd rs1 rs2) | 0x00E => some (.spMin c rd rs1 rs2)
  | 0x00F => some (.spMax c rd rs1 rs2) | 0x010 => some (.spMinu c rd rs1 rs2) | 0x011 => some (.spMaxu c rd rs1 rs2)
  | 0x012 => some (.spAdds c rd rs1 rs2) | 0x013 => some (.spSubs c rd rs1 rs2) | 0x014 => some (.spClz c rd rs1 rs2)
  | 0x015 => some (.spSextb c rd rs1 rs2) | 0x016 => some (.spSexth c rd rs1 rs2) | 0x017 => some (.spZexth c rd rs1 rs2)
  | 0x018 => some (.spAbs c rd rs1 rs2)
  | _ => none

/-- A MUL/MAC form (R176). -/
def decodeMul (c : Fin 16) (rd rs1 rs2 : BitVec 5) (func : Nat) : Option Instr :=
  match func with
  | 0x000 => some (.spMul c rd rs1 rs2) | 0x001 => some (.spMulh c rd rs1 rs2) | 0x002 => some (.spMulhu c rd rs1 rs2)
  | 0x003 => some (.spMulq c rd rs1 rs2) | 0x010 => some (.spMac c rd rs1 rs2) | 0x011 => some (.spMacu c rd rs1 rs2)
  | 0x012 => some (.spMsu c rd rs1 rs2) | 0x013 => some (.spMacs c rd rs1 rs2) | 0x014 => some (.spMsus c rd rs1 rs2)
  | 0x020 => some (.spAcrd c rd rs1 rs2) | 0x021 => some (.spAcrdt c rd rs1 rs2) | 0x022 => some (.spAcrdl c rd rs1 rs2)
  | 0x023 => some (.spAcrdh c rd rs1 rs2) | 0x024 => some (.spAcrdx c rd rs1 rs2) | 0x030 => some (.spAcwr c rd rs1 rs2)
  | 0x031 => some (.spAcwrh c rd rs1 rs2) | 0x032 => some (.spAcwrx c rd rs1 rs2) | 0x033 => some (.spAcclr c rd rs1 rs2)
  | _ => none

/-- An FP form (R179). -/
def decodeFp (c : Fin 16) (rd rs1 rs2 : BitVec 5) (func : Nat) : Option Instr :=
  match func with
  | 0x000 => some (.spFadd c rd rs1 rs2) | 0x001 => some (.spFsub c rd rs1 rs2) | 0x002 => some (.spFmul c rd rs1 rs2)
  | 0x003 => some (.spFdiv c rd rs1 rs2) | 0x004 => some (.spFsqrt c rd rs1 rs2) | 0x005 => some (.spFmin c rd rs1 rs2)
  | 0x006 => some (.spFmax c rd rs1 rs2) | 0x007 => some (.spFabs c rd rs1 rs2) | 0x008 => some (.spFneg c rd rs1 rs2)
  | 0x009 => some (.spFmv c rd rs1 rs2) | 0x00A => some (.spFeq c rd rs1 rs2) | 0x00B => some (.spFlt c rd rs1 rs2)
  | 0x00C => some (.spFle c rd rs1 rs2) | 0x00D => some (.spFcvtsw c rd rs1 rs2) | 0x00E => some (.spFcvtw c rd rs1 rs2)
  | 0x00F => some (.spFcvtwt c rd rs1 rs2) | 0x010 => some (.spFmvgf c rd rs1 rs2) | 0x011 => some (.spFmvfg c rd rs1 rs2)
  | _ => none

/-- A CELL (R183), SYNC (R187), MSG (R188) or SYS (R193) form by its major opcode; TRAP's code lies in bits [20:11]. -/
def decodeSmall (c : Fin 16) (op : Nat) (rd rs1 rs2 : BitVec 5) (func : Nat) : Option Instr :=
  match op, func with
  | 0x0A, 0 => some (.spCgath c rd rs1 rs2) | 0x0A, 1 => some (.spCgathx c rd rs1 rs2) | 0x0A, 2 => some (.spCscat c rd rs1 rs2)
  | 0x0A, 3 => some (.spCscatx c rd rs1 rs2)
  | 0x0C, 0 => some (.spWaitt c rd rs1 rs2) | 0x0C, 1 => some (.spBar c rd rs1 rs2) | 0x0C, 2 => some (.spFence c rd rs1 rs2)
  | 0x0D, 0 => some (.spSend c rd rs1 rs2) | 0x0D, 1 => some (.spRecv c rd rs1 rs2) | 0x0D, 2 => some (.spRecvn c rd rs1 rs2)
  | 0x10, 0 => some (.spXret c rd rs1 rs2) | 0x10, 1 => some (.spHalt c rd rs1 rs2) | 0x10, 2 => some (.spTrap c rd (rs1 ++ rs2))
  | 0x10, 3 => some (.spBreak c rd rs1 rs2)
  | _, _ => none

/-- A LAW (R185), LOCK (R189) or CSR (R191) form by its major opcode: the sub-operation lies in imm16[15:12]. -/
def decodeSub (c : Fin 16) (op : Nat) (rd rs1 : BitVec 5) (sub : Nat) (operand : BitVec 12) : Option Instr :=
  match op, sub with
  | 0x0B, 0 => some (.spLawin c rd rs1 operand) | 0x0B, 1 => some (.spLawing c rd rs1 operand)
  | 0x0B, 2 => some (.spLawout c rd rs1 operand) | 0x0B, 3 => some (.spLawoutg c rd rs1 operand)
  | 0x0B, 4 => some (.spLawgo c rd rs1 operand) | 0x0B, 5 => some (.spLawwt c rd rs1 operand)
  | 0x0B, 6 => some (.spLawst c rd rs1 operand)
  | 0x0E, 0 => some (.spLockacq c rd rs1 operand) | 0x0E, 1 => some (.spLocktry c rd rs1 operand)
  | 0x0E, 2 => some (.spLockrel c rd rs1 operand) | 0x0E, 3 => some (.spLockclr c rd rs1 operand)
  | 0x0F, 0 => some (.spCsrr c rd rs1 operand) | 0x0F, 1 => some (.spCsrw c rd rs1 operand)
  | 0x0F, 2 => some (.spCsrs c rd rs1 operand) | 0x0F, 3 => some (.spCsrc c rd rs1 operand)
  | _, _ => none

/-- A form with a 16-bit immediate or offset by its major opcode (R175, R192). -/
def decodeImm (c : Fin 16) (op : Nat) (rd rs1 : BitVec 5) (imm : BitVec 16) : Option Instr :=
  match op with
  | 0x01 => some (.spAddi c rd rs1 imm) | 0x02 => some (.spAndi c rd rs1 imm) | 0x03 => some (.spOri c rd rs1 imm)
  | 0x04 => some (.spXori c rd rs1 imm) | 0x05 => some (.spSlti c rd rs1 imm) | 0x06 => some (.spSltiu c rd rs1 imm)
  | 0x07 => some (.spImmh c rd rs1 imm) | 0x13 => some (.spJalr c rd rs1 imm)
  | 0x14 => some (.spBeq c rd rs1 imm) | 0x15 => some (.spBne c rd rs1 imm) | 0x16 => some (.spBlt c rd rs1 imm)
  | 0x17 => some (.spBge c rd rs1 imm) | 0x18 => some (.spBltu c rd rs1 imm) | 0x19 => some (.spBgeu c rd rs1 imm)
  | 0x1A => some (.spBeqi c rd rs1 imm) | 0x1B => some (.spBnei c rd rs1 imm) | 0x1C => some (.spBlti c rd rs1 imm)
  | 0x1D => some (.spBgei c rd rs1 imm)
  | _ => none

/-- A load or store by its kind and form (R181): form 3 carries the FP transfers, kinds 3 and 7 of it are undefined. -/
def decodeMem (c : Fin 16) (kind form : Nat) (rd rs1 : BitVec 5) (imm : BitVec 16) : Option Instr :=
  let f : Form := match form with | 0 => .tcm | 1 => .fabric | _ => .dram
  if form = 3 then
    match kind with
    | 0 => some (.spFlw c .tcm rd rs1 imm) | 1 => some (.spFlw c .fabric rd rs1 imm) | 2 => some (.spFlw c .dram rd rs1 imm)
    | 4 => some (.spFsw c .tcm rd rs1 imm) | 5 => some (.spFsw c .fabric rd rs1 imm) | 6 => some (.spFsw c .dram rd rs1 imm)
    | _ => none
  else
    match kind with
    | 0 => some (.spLdb c f rd rs1 imm) | 1 => some (.spLdbu c f rd rs1 imm) | 2 => some (.spLdh c f rd rs1 imm)
    | 3 => some (.spLdhu c f rd rs1 imm) | 4 => some (.spLdw c f rd rs1 imm) | 5 => some (.spStb c f rd rs1 imm)
    | 6 => some (.spSth c f rd rs1 imm) | 7 => some (.spStw c f rd rs1 imm)
    | _ => none

/-- The row that a word fetched by a core selects (R172, R173): none for an undefined major opcode, func, sub-operation or
combination. -/
def decodeSpire (c : Fin 16) (w : BitVec 32) : Option Instr :=
  let op := (w.extractLsb' 26 6).toNat
  let rd := w.extractLsb' 21 5
  let rs1 := w.extractLsb' 16 5
  let rs2 := w.extractLsb' 11 5
  let func := (w.extractLsb' 0 11).toNat
  let imm := w.extractLsb' 0 16
  if 0x20 ≤ op then decodeMem c (op / 4 % 8) (op % 4) rd rs1 imm
  else
    match op with
    | 0x00 => decodeAlu c rd rs1 rs2 func
    | 0x08 => decodeMul c rd rs1 rs2 func
    | 0x09 => decodeFp c rd rs1 rs2 func
    | 0x0A | 0x0C | 0x0D | 0x10 => decodeSmall c op rd rs1 rs2 func
    | 0x0B | 0x0E | 0x0F => decodeSub c op rd rs1 (w.extractLsb' 12 4).toNat (w.extractLsb' 0 12)
    | 0x11 => some (.spBr c (w.extractLsb' 0 26))
    | 0x12 => some (.spBrl c (w.extractLsb' 0 26))
    | _ => decodeImm c op rd rs1 imm

end Sys2Proof
end

