-- ==== Sys2Proof/Config.lean ====
section
/-!
DEFINITION. What one device fixes and the spec leaves open: opaque constants without a body, so that nothing can be
proved about their values. Each is named in the assumption log.
-/
namespace Sys2Proof.Config

/-- A value the spec leaves open, drawn afresh for each use from the counter in the state (log 5). -/
opaque freeNat : Nat → Nat

/-- The sine of the test generator's table at a phase of 2⁻³² turn, as an FP32 word, used where it keeps
the bound of R147 (log 6). -/
opaque sineFp : Nat → BitVec 32

/-- The device identity number (R388, log 8). -/
opaque devid : Nat

/-- The signature block of the identity record, made with Jijor's manufacturing keys, byte by byte (R392, log 8). -/
opaque identSig : Nat → BitVec 8

/-- Byte by byte, the public keys of a key slot as made at manufacture: slot 0 Jijor's release pair, 8 the identity
pair, 9 the ledger pair (R388, log 8). -/
opaque factoryKey : (slot k : Nat) → BitVec 8

/-- The private exponent of a slot's RSA key, which never leaves SECURE (R388, log 8). -/
opaque rsaSecret : (slot : Nat) → Nat

/-- Byte by byte, the seed of a slot's SLH-DSA secret values (R388, log 8). -/
opaque slhSeed : (slot k : Nat) → BitVec 8

/-- Byte by byte, the seed of a slot's SLH-DSA randomiser (R388, log 8). -/
opaque slhPrf : (slot k : Nat) → BitVec 8

end Sys2Proof.Config
end

