-- ==== Sys2Proof/Machine/Fld.lean ====
section
/-!
DEFINITION. What a register field is: the block it lies in, its place, its access type (R5) and class (R6), its
reset value and the range of values a write may give it. The tables themselves follow in the Regs files.
-/
namespace Sys2Proof.Machine

/-- The register blocks of the address map (R28, R432). -/
inductive Blk where
  | sys | lantern | campanile | keep | belfry | memc | journal | scan | port | twin | secure
  | adc | sv | filt | oculus | pwm | trip | law | arm | ring | lease | queue | spire
  deriving DecidableEq, Repr

/-- Access types of R5. -/
inductive Acc where
  | rw | ro | wo | w1c | w1s
  deriving DecidableEq, Repr

/-- Field classes of R6 with the load event of a staged field: `live` (class L taking effect where its reader
samples it), `held` (class H), `tick` (S or L fields loaded at the next cycle tick), `reload` (loaded at a PWM
pair's load event, R296), `curve` (CURVE_LOAD, R197), `commit` (a Keep COMMIT, R356). -/
inductive Cls where
  | live | held | tick | reload | curve | commit
  deriving DecidableEq, Repr

/-- One register field: block, offset in the instance, stride and count of a second index, lowest bit, width,
access type, class, reset value, least and greatest legal value. -/
structure Fld where
  blk : Blk
  off : Nat
  sub : Nat
  cnt : Nat
  lsb : Nat
  width : Nat
  acc : Acc
  cls : Cls
  reset : Nat
  lo : Nat
  hi : Nat
  deriving DecidableEq, Repr

/-- Base of instance 0 of a block (R28). -/
def Blk.base : Blk → Nat
  | .sys => 0x20000000 | .lantern => 0x20010000 | .campanile => 0x20020000 | .keep => 0x20030000
  | .belfry => 0x20040000 | .memc => 0x20050000 | .journal => 0x20060000 | .scan => 0x20070000
  | .port => 0x20080000 | .twin => 0x20090000 | .secure => 0x200A0000 | .adc => 0x20100000
  | .sv => 0x20100800 | .filt => 0x20110000 | .oculus => 0x20120000 | .pwm => 0x20130000
  | .trip => 0x20131000 | .law => 0x20140000 | .arm => 0x20200000 | .ring => 0x20300000
  | .lease => 0x20400000 | .queue => 0x20500000 | .spire => 0x20600000

/-- How many instances a block has (R28, R432). -/
def Blk.count : Blk → Nat
  | .memc => 2 | .adc => 4 | .sv => 8 | .filt => 16 | .pwm => 12 | .arm => 8 | .ring => 128
  | .lease => 256 | .queue => 32 | .spire => 16 | _ => 1

/-- Distance between instances (R28). Two SV instances lie in each ADC instance (R432). -/
def Blk.stride : Blk → Nat
  | .memc => 0x8000 | .adc => 0x1000 | .filt => 0x400 | .pwm => 0x100 | .arm => 0x1000 | .ring => 0x400
  | .lease => 0x100 | .queue => 0x100 | .spire => 0x1000 | _ => 0

/-- Base of an instance (R3). -/
def Blk.inst (b : Blk) (i : Nat) : Nat :=
  if b = .sv then 0x20100800 + (i / 2) * 0x1000 + (i % 2) * 0x100 else b.base + i * b.stride

/-- Physical address of a field's word. -/
def Fld.addr (f : Fld) (i j : Nat) : Nat := f.blk.inst i + f.off + j * f.sub

/-- The key under which the register file holds a field of instance `i`, second index `j`: its word address and
lowest bit. -/
def Fld.key (f : Fld) (i j : Nat) : Nat := f.addr i j * 32 + f.lsb

/-- A value is one a write may give the field. -/
def Fld.legal (f : Fld) (v : Nat) : Bool := f.lo ≤ v && v ≤ f.hi

end Sys2Proof.Machine
end

