-- ==== Sys2Proof/Machine/RegsCells.lean ====
section
/-!
DEFINITION. Register fields of the blocks RING, ARM, LAW, SPIRE, LEASE: one descriptor per row of the register tables of the chapters
(offset, second-index stride and count, lowest bit, width, access type (R5), class (R6), reset value, legal range).
-/
namespace Sys2Proof.Machine

-- RING.CTRL (R62)
/-- Launch frames -/
def RING_CTRL_EN : Fld := ⟨.ring, 0x0, 0x0, 1, 0, 1, .rw, .tick, 0, 0, 1⟩
/-- Ring wired to a twin -/
def RING_CTRL_TWIN : Fld := ⟨.ring, 0x0, 0x0, 1, 1, 1, .rw, .held, 0, 0, 1⟩
/-- 1: clear CRC_CNT, MISS_CNT, RET_TIME.MAX -/
def RING_CTRL_CLR_STATS : Fld := ⟨.ring, 0x0, 0x0, 1, 2, 1, .wo, .live, 0, 0, 1⟩
/-- Retries of a management request -/
def RING_CTRL_MGMT_RETRY : Fld := ⟨.ring, 0x0, 0x0, 1, 8, 3, .rw, .tick, 3, 0, 7⟩
-- RING.CFG (R62)
/-- Installed cells, 1–32; 0, values above 32, and 17–32 in 16-cell mode are refused with … -/
def RING_CFG_CELLS : Fld := ⟨.ring, 0x4, 0x0, 1, 0, 6, .rw, .held, 0x20, 1, 0x20⟩
/-- 3–64; other values refused with E_VALUE -/
def RING_CFG_LOST_LIMIT : Fld := ⟨.ring, 0x4, 0x0, 1, 8, 7, .rw, .tick, 8, 3, 0x40⟩
/-- Expected terminal interlock mode -/
def RING_CFG_INTLK_MODE : Fld := ⟨.ring, 0x4, 0x0, 1, 16, 1, .rw, .held, 0, 0, 1⟩
-- RING.STATUS (R62)
/-- Receiver block-locked -/
def RING_STATUS_LOCK : Fld := ⟨.ring, 0x8, 0x0, 1, 0, 1, .ro, .live, 0, 0, 1⟩
/-- R56 -/
def RING_STATUS_STALE : Fld := ⟨.ring, 0x8, 0x0, 1, 1, 1, .ro, .live, 0, 0, 1⟩
/-- R56 -/
def RING_STATUS_LOST : Fld := ⟨.ring, 0x8, 0x0, 1, 2, 1, .w1c, .live, 0, 0, 1⟩
/-- First accepted frame after a miss -/
def RING_STATUS_RESUMED : Fld := ⟨.ring, 0x8, 0x0, 1, 3, 1, .ro, .live, 0, 0, 1⟩
/-- R55 -/
def RING_STATUS_CRC_ERR : Fld := ⟨.ring, 0x8, 0x0, 1, 4, 1, .w1c, .live, 0, 0, 1⟩
/-- R55 -/
def RING_STATUS_SEQ_ERR : Fld := ⟨.ring, 0x8, 0x0, 1, 5, 1, .w1c, .live, 0, 0, 1⟩
/-- R55 -/
def RING_STATUS_PARTIAL : Fld := ⟨.ring, 0x8, 0x0, 1, 6, 1, .w1c, .live, 0, 0, 1⟩
/-- R59, or a reported INTLK_MODE differing from CFG -/
def RING_STATUS_POS_ERR : Fld := ⟨.ring, 0x8, 0x0, 1, 7, 1, .w1c, .live, 0, 0, 1⟩
/-- Accepted frame carried WRAPPED -/
def RING_STATUS_WRAPPED : Fld := ⟨.ring, 0x8, 0x0, 1, 8, 1, .ro, .live, 0, 0, 1⟩
/-- Relay in use this cycle -/
def RING_STATUS_RELAY : Fld := ⟨.ring, 0x8, 0x0, 1, 9, 1, .ro, .live, 0, 0, 1⟩
/-- A response completed with NOACK -/
def RING_STATUS_MGMT_FAIL : Fld := ⟨.ring, 0x8, 0x0, 1, 10, 1, .w1c, .live, 0, 0, 1⟩
/-- R60 -/
def RING_STATUS_BREAK_AFTER : Fld := ⟨.ring, 0x8, 0x0, 1, 16, 5, .ro, .live, 0, 0, 0x1f⟩
/-- R60 -/
def RING_STATUS_BREAK_VALID : Fld := ⟨.ring, 0x8, 0x0, 1, 21, 1, .ro, .live, 0, 0, 1⟩
-- RING.INT_EN (R62)
/-- Bit k enables STATUS bit k -/
def RING_INT_EN_EN : Fld := ⟨.ring, 0xc, 0x0, 1, 0, 11, .rw, .live, 0, 0, 0x7ff⟩
-- RING.CRC_CNT (R62)
/-- Frames received with a bad CRC, modulo 2³² -/
def RING_CRC_CNT_COUNT : Fld := ⟨.ring, 0x10, 0x0, 1, 0, 32, .ro, .live, 0, 0, 0xffffffff⟩
-- RING.MISS_CNT (R62)
/-- Missed cycles, modulo 2¹⁶ -/
def RING_MISS_CNT_GAP : Fld := ⟨.ring, 0x14, 0x0, 1, 0, 16, .ro, .live, 0, 0, 0xffff⟩
/-- Partial frames, modulo 2¹⁶ -/
def RING_MISS_CNT_PARTIAL : Fld := ⟨.ring, 0x14, 0x0, 1, 16, 16, .ro, .live, 0, 0, 0xffff⟩
-- RING.PRESENT (R62)
/-- Bit p: position p supplied this cycle (R59) -/
def RING_PRESENT_MASK : Fld := ⟨.ring, 0x18, 0x0, 1, 0, 32, .ro, .live, 0, 0, 0xffffffff⟩
-- RING.RET_TIME (R62)
/-- FAB clocks from tick to last block of the accepted frame -/
def RING_RET_TIME_LAST : Fld := ⟨.ring, 0x1c, 0x0, 1, 0, 16, .ro, .live, 0, 0, 0xffff⟩
/-- Largest LAST since the last clear -/
def RING_RET_TIME_MAX : Fld := ⟨.ring, 0x1c, 0x0, 1, 16, 16, .ro, .live, 0, 0, 0xffff⟩
-- RING.MGMT_REQ (R62)
/-- Request pushed into a 16-entry FIFO; full refused with E_FULL -/
def RING_MGMT_REQ_POS : Fld := ⟨.ring, 0x20, 0x0, 1, 0, 5, .wo, .live, 0, 0, 0x1f⟩
/-- 1: write -/
def RING_MGMT_REQ_WRITE : Fld := ⟨.ring, 0x20, 0x0, 1, 5, 1, .wo, .live, 0, 0, 1⟩
/-- CDR address -/
def RING_MGMT_REQ_ADDR : Fld := ⟨.ring, 0x20, 0x0, 1, 8, 8, .wo, .live, 0, 0, 0xff⟩
/-- Write data -/
def RING_MGMT_REQ_DATA : Fld := ⟨.ring, 0x20, 0x0, 1, 16, 16, .wo, .live, 0, 0, 0xffff⟩
-- RING.MGMT_RSP (R62)
/-- M_STAT returned; E_STATE with NOACK -/
def RING_MGMT_RSP_STAT : Fld := ⟨.ring, 0x24, 0x0, 1, 0, 8, .ro, .live, 0, 0, 0xff⟩
/-- No M_ACK within MGMT_RETRY + 1 frames -/
def RING_MGMT_RSP_NOACK : Fld := ⟨.ring, 0x24, 0x0, 1, 8, 1, .ro, .live, 0, 0, 1⟩
/-- 1: a response is present in the 16-entry response FIFO; the read pops it (R63) -/
def RING_MGMT_RSP_VALID : Fld := ⟨.ring, 0x24, 0x0, 1, 9, 1, .ro, .live, 0, 0, 1⟩
/-- Frames that carried the request, 1–8 -/
def RING_MGMT_RSP_TRIES : Fld := ⟨.ring, 0x24, 0x0, 1, 12, 4, .ro, .live, 0, 0, 0xf⟩
/-- Read data -/
def RING_MGMT_RSP_DATA : Fld := ⟨.ring, 0x24, 0x0, 1, 16, 16, .ro, .live, 0, 0, 0xffff⟩
-- RING.MGMT_LEVEL (R62)
/-- Requests waiting -/
def RING_MGMT_LEVEL_REQ : Fld := ⟨.ring, 0x28, 0x0, 1, 0, 5, .ro, .live, 0, 0, 0x1f⟩
/-- Responses waiting -/
def RING_MGMT_LEVEL_RSP : Fld := ⟨.ring, 0x28, 0x0, 1, 8, 5, .ro, .live, 0, 0, 0x1f⟩
-- RING.ERR_CODE (R26)
/-- First refusal code (R9, R10) -/
def RING_ERR_CODE : Fld := ⟨.ring, 0xf0, 0x0, 1, 0, 8, .ro, .live, 0, 0, 0xff⟩
-- RING.ERR_OFFSET (R26)
/-- Offset of the refused write -/
def RING_ERR_OFFSET : Fld := ⟨.ring, 0xf0, 0x0, 1, 8, 12, .ro, .live, 0, 0, 0xfff⟩
-- RING.ERR_OFFSET_HI (R26)
/-- Offset bits [21:12] -/
def RING_ERR_OFFSET_HI : Fld := ⟨.ring, 0xf0, 0x0, 1, 20, 10, .ro, .live, 0, 0, 0x3ff⟩
-- RING.ERR_CLEAR (R26)
/-- Clears CODE, OFFSET, OFFSET_HI and MORE -/
def RING_ERR_CLEAR : Fld := ⟨.ring, 0xf0, 0x0, 1, 30, 1, .wo, .live, 0, 0, 1⟩
-- RING.ERR_MORE (R26)
/-- A further refusal occurred (R10) -/
def RING_ERR_MORE : Fld := ⟨.ring, 0xf0, 0x0, 1, 31, 1, .w1c, .live, 0, 0, 1⟩

/-- Every field of block RING. -/
def RING_fields : List Fld :=
  [RING_CTRL_EN, RING_CTRL_TWIN, RING_CTRL_CLR_STATS, RING_CTRL_MGMT_RETRY, RING_CFG_CELLS, RING_CFG_LOST_LIMIT, RING_CFG_INTLK_MODE, RING_STATUS_LOCK, RING_STATUS_STALE, RING_STATUS_LOST, RING_STATUS_RESUMED, RING_STATUS_CRC_ERR, RING_STATUS_SEQ_ERR, RING_STATUS_PARTIAL, RING_STATUS_POS_ERR, RING_STATUS_WRAPPED, RING_STATUS_RELAY, RING_STATUS_MGMT_FAIL, RING_STATUS_BREAK_AFTER, RING_STATUS_BREAK_VALID, RING_INT_EN_EN, RING_CRC_CNT_COUNT, RING_MISS_CNT_GAP, RING_MISS_CNT_PARTIAL]
  ++ [RING_PRESENT_MASK, RING_RET_TIME_LAST, RING_RET_TIME_MAX, RING_MGMT_REQ_POS, RING_MGMT_REQ_WRITE, RING_MGMT_REQ_ADDR, RING_MGMT_REQ_DATA, RING_MGMT_RSP_STAT, RING_MGMT_RSP_NOACK, RING_MGMT_RSP_VALID, RING_MGMT_RSP_TRIES, RING_MGMT_RSP_DATA, RING_MGMT_LEVEL_REQ, RING_MGMT_LEVEL_RSP, RING_ERR_CODE, RING_ERR_OFFSET, RING_ERR_OFFSET_HI, RING_ERR_CLEAR, RING_ERR_MORE]

-- ARM.CTRL (R97)
/-- 0 OFF, 1 RUN, 2 HOLD, 3 BYPASS (R83) -/
def ARM_CTRL_MODE : Fld := ⟨.arm, 0x0, 0x0, 1, 0, 2, .rw, .tick, 0, 0, 3⟩
/-- 0: direct N; 1: nearest level from VREF_ARM (R84) -/
def ARM_CTRL_MOD_SRC : Fld := ⟨.arm, 0x0, 0x0, 1, 2, 1, .rw, .held, 0, 0, 1⟩
/-- Switching budget (R89) -/
def ARM_CTRL_BUDGET_EN : Fld := ⟨.arm, 0x0, 0x0, 1, 3, 1, .rw, .held, 0, 0, 1⟩
/-- DC/DC stages of available cells run -/
def ARM_CTRL_DCDC_EN : Fld := ⟨.arm, 0x0, 0x0, 1, 4, 1, .rw, .tick, 0, 0, 1⟩
-- ARM.N (R97)
/-- Signed count; outside ±1,024 refused with E_VALUE; beyond LIMIT refused with E_RANGE; … -/
def ARM_N_N : Fld := ⟨.arm, 0x4, 0x0, 1, 0, 12, .rw, .live, 0, 0, 0xfff⟩
-- ARM.VREF_ARM (R97)
/-- Arm voltage reference, signed, 50 mV per LSB; E_STATE when MOD_SRC = 0 -/
def ARM_VREF_ARM_V : Fld := ⟨.arm, 0x8, 0x0, 1, 0, 32, .rw, .live, 0, 0, 0xffffffff⟩
-- ARM.LIMIT (R97)
/-- 0–1,024; above refused with E_VALUE -/
def ARM_LIMIT_N_POS_MAX : Fld := ⟨.arm, 0xc, 0x0, 1, 0, 11, .rw, .held, 0x400, 0, 0x400⟩
/-- 0–1,024; above refused with E_VALUE -/
def ARM_LIMIT_N_NEG_MAX : Fld := ⟨.arm, 0xc, 0x0, 1, 16, 11, .rw, .held, 0, 0, 0x400⟩
-- ARM.BAND (R97)
/-- Tolerance band, KEY[31:16] units (R87) -/
def ARM_BAND_BAND : Fld := ⟨.arm, 0x10, 0x0, 1, 0, 16, .rw, .tick, 0, 0, 0xffff⟩
-- ARM.BUDGET (R97)
/-- Credit per cell, 1–255; 0 refused with E_VALUE -/
def ARM_BUDGET_CAP : Fld := ⟨.arm, 0x14, 0x0, 1, 0, 8, .rw, .tick, 4, 1, 0xff⟩
/-- Cycles per refill, 1–4,095; 0 refused with E_VALUE -/
def ARM_BUDGET_REFILL : Fld := ⟨.arm, 0x14, 0x0, 1, 8, 12, .rw, .tick, 0x3e8, 1, 0xfff⟩
-- ARM.IREF (R97)
/-- Signed, 50 mA per LSB (R95) -/
def ARM_IREF_BASE : Fld := ⟨.arm, 0x18, 0x0, 1, 0, 16, .rw, .tick, 0, 0, 0xffff⟩
/-- 50 mA per LSB, 0–0x7FFF; above refused with E_VALUE -/
def ARM_IREF_MAX : Fld := ⟨.arm, 0x18, 0x0, 1, 16, 16, .rw, .tick, 0, 0, 0x7fff⟩
-- ARM.TILT (R97)
/-- Signed, like BASE; 50 mA per LSB per full SOE span (R95) -/
def ARM_TILT_TILT : Fld := ⟨.arm, 0x1c, 0x0, 1, 0, 16, .rw, .tick, 0, 0, 0xffff⟩
-- ARM.RING_MASK (R97)
/-- Ring membership (R81) -/
def ARM_RING_MASK_MASK : Fld := ⟨.arm, 0x20, 0x4, 4, 0, 32, .rw, .held, 0, 0, 0xffffffff⟩
-- ARM.STATUS (R97)
/-- R91 -/
def ARM_STATUS_SHORT : Fld := ⟨.arm, 0x30, 0x0, 1, 0, 1, .w1c, .live, 0, 0, 1⟩
/-- R91 -/
def ARM_STATUS_BUDGET_OVR : Fld := ⟨.arm, 0x30, 0x0, 1, 1, 1, .w1c, .live, 0, 0, 1⟩
/-- R85 -/
def ARM_STATUS_CLAMPED : Fld := ⟨.arm, 0x30, 0x0, 1, 2, 1, .w1c, .live, 0, 0, 1⟩
/-- Count reused (R21) -/
def ARM_STATUS_REUSED : Fld := ⟨.arm, 0x30, 0x0, 1, 3, 1, .w1c, .live, 0, 0, 1⟩
/-- R86 -/
def ARM_STATUS_LATE_N : Fld := ⟨.arm, 0x30, 0x0, 1, 4, 1, .w1c, .live, 0, 0, 1⟩
/-- Applied MODE is not OFF -/
def ARM_STATUS_ACTIVE : Fld := ⟨.arm, 0x30, 0x0, 1, 9, 1, .ro, .live, 0, 0, 1⟩
-- ARM.INT_EN (R97)
/-- Bit j enables STATUS bit j -/
def ARM_INT_EN_EN : Fld := ⟨.arm, 0x34, 0x0, 1, 0, 5, .rw, .live, 0, 0, 0x1f⟩
-- ARM.RESULT (R97)
/-- Signed n used this cycle -/
def ARM_RESULT_N_USED : Fld := ⟨.arm, 0x38, 0x0, 1, 0, 12, .ro, .live, 0, 0, 0xfff⟩
/-- Cells inserted -/
def ARM_RESULT_N_ACT : Fld := ⟨.arm, 0x38, 0x0, 1, 16, 11, .ro, .live, 0, 0, 0x7ff⟩
-- ARM.COUNTS (R97)
/-- Cells with AVAIL = 1 -/
def ARM_COUNTS_AVAIL : Fld := ⟨.arm, 0x3c, 0x0, 1, 0, 11, .ro, .live, 0, 0, 0x7ff⟩
/-- Cells in L -/
def ARM_COUNTS_ELIGIBLE : Fld := ⟨.arm, 0x3c, 0x0, 1, 16, 11, .ro, .live, 0, 0, 0x7ff⟩
-- ARM.CHANGES (R97)
/-- Cells whose INS changed -/
def ARM_CHANGES_CHANGES : Fld := ⟨.arm, 0x40, 0x0, 1, 0, 11, .ro, .live, 0, 0, 0x7ff⟩
/-- Cells with FORCED = 1 -/
def ARM_CHANGES_FORCED : Fld := ⟨.arm, 0x40, 0x0, 1, 16, 11, .ro, .live, 0, 0, 0x7ff⟩
-- ARM.PINS (R97)
/-- abs(Pi) -/
def ARM_PINS_PIN_IN : Fld := ⟨.arm, 0x44, 0x0, 1, 0, 11, .ro, .live, 0, 0, 0x7ff⟩
/-- abs(Po) -/
def ARM_PINS_PIN_OUT : Fld := ⟨.arm, 0x44, 0x0, 1, 16, 11, .ro, .live, 0, 0, 0x7ff⟩
-- ARM.SUM_VCAP (R97)
/-- R96, 50 mV per LSB -/
def ARM_SUM_VCAP_SUM : Fld := ⟨.arm, 0x48, 0x0, 1, 0, 32, .ro, .live, 0, 0, 0xffffffff⟩
-- ARM.SUM_VINS (R97)
/-- R96, 50 mV per LSB -/
def ARM_SUM_VINS_SUM : Fld := ⟨.arm, 0x4c, 0x0, 1, 0, 32, .ro, .live, 0, 0, 0xffffffff⟩
-- ARM.SUM_VCAP2_LO and SUM_VCAP2_HI (R96, R97): one value of 42 bits; a read of LO latches HI (R434)
/-- Σ VCAP² over AVAIL cells -/
def ARM_SUM_VCAP2_SUM : Fld := ⟨.arm, 0x50, 0x0, 1, 0, 42, .ro, .live, 0, 0, 0x3ffffffffff⟩
-- ARM.SOE_MEAN (R97)
/-- Q0.16 (R95) -/
def ARM_SOE_MEAN_SOE : Fld := ⟨.arm, 0x58, 0x0, 1, 0, 16, .ro, .live, 0, 0, 0xffff⟩
-- ARM.LAST_KEY (R97)
/-- KEY of the inserted cell last in L; 0 when none -/
def ARM_LAST_KEY_KEY : Fld := ⟨.arm, 0x5c, 0x0, 1, 0, 32, .ro, .live, 0, 0, 0xffffffff⟩
-- ARM.GSTATUS (R123)
/-- A reaction on a cell of this arm (R112) -/
def ARM_GSTATUS_REACT : Fld := ⟨.arm, 0x60, 0x0, 1, 0, 1, .w1c, .live, 0, 0, 1⟩
/-- A ring of this arm was latched -/
def ARM_GSTATUS_RING_BLK : Fld := ⟨.arm, 0x60, 0x0, 1, 1, 1, .w1c, .live, 0, 0, 1⟩
/-- This arm's latch was set -/
def ARM_GSTATUS_ARM_BLK : Fld := ⟨.arm, 0x60, 0x0, 1, 2, 1, .w1c, .live, 0, 0, 1⟩
/-- The ALL latch was set -/
def ARM_GSTATUS_ALL_BLK : Fld := ⟨.arm, 0x60, 0x0, 1, 3, 1, .w1c, .live, 0, 0, 1⟩
/-- Row 8 on a cell of this arm -/
def ARM_GSTATUS_ILLEGAL : Fld := ⟨.arm, 0x60, 0x0, 1, 4, 1, .w1c, .live, 0, 0, 1⟩
/-- R110 on a cell of this arm -/
def ARM_GSTATUS_STATE_ERR : Fld := ⟨.arm, 0x60, 0x0, 1, 5, 1, .w1c, .live, 0, 0, 1⟩
/-- A refresh started (R106) -/
def ARM_GSTATUS_REFRESH : Fld := ⟨.arm, 0x60, 0x0, 1, 6, 1, .w1c, .live, 0, 0, 1⟩
/-- R115 -/
def ARM_GSTATUS_SIMUL : Fld := ⟨.arm, 0x60, 0x0, 1, 7, 1, .w1c, .live, 0, 0, 1⟩
/-- R119 -/
def ARM_GSTATUS_CHOP : Fld := ⟨.arm, 0x60, 0x0, 1, 8, 1, .w1c, .live, 0, 0, 1⟩
/-- GCOUNT.SUBST was non-zero -/
def ARM_GSTATUS_SUBST : Fld := ⟨.arm, 0x60, 0x0, 1, 9, 1, .w1c, .live, 0, 0, 1⟩
-- ARM.GINT_EN (R123)
/-- Bit j enables GSTATUS bit j -/
def ARM_GINT_EN_EN : Fld := ⟨.arm, 0x64, 0x0, 1, 0, 10, .rw, .live, 0, 0, 0x3ff⟩
-- ARM.GCOUNT (R123)
/-- R107 -/
def ARM_GCOUNT_SUBST : Fld := ⟨.arm, 0x68, 0x0, 1, 0, 11, .ro, .live, 0, 0, 0x7ff⟩
/-- Cells with RFSH = 1 (R107) -/
def ARM_GCOUNT_REFRESH : Fld := ⟨.arm, 0x68, 0x0, 1, 16, 11, .ro, .live, 0, 0, 0x7ff⟩
-- ARM.ERR_CODE (R26)
/-- First refusal code (R9, R10) -/
def ARM_ERR_CODE : Fld := ⟨.arm, 0xf0, 0x0, 1, 0, 8, .ro, .live, 0, 0, 0xff⟩
-- ARM.ERR_OFFSET (R26)
/-- Offset of the refused write -/
def ARM_ERR_OFFSET : Fld := ⟨.arm, 0xf0, 0x0, 1, 8, 12, .ro, .live, 0, 0, 0xfff⟩
-- ARM.ERR_OFFSET_HI (R26)
/-- Offset bits [21:12] -/
def ARM_ERR_OFFSET_HI : Fld := ⟨.arm, 0xf0, 0x0, 1, 20, 10, .ro, .live, 0, 0, 0x3ff⟩
-- ARM.ERR_CLEAR (R26)
/-- Clears CODE, OFFSET, OFFSET_HI and MORE -/
def ARM_ERR_CLEAR : Fld := ⟨.arm, 0xf0, 0x0, 1, 30, 1, .wo, .live, 0, 0, 1⟩
-- ARM.ERR_MORE (R26)
/-- A further refusal occurred (R10) -/
def ARM_ERR_MORE : Fld := ⟨.arm, 0xf0, 0x0, 1, 31, 1, .w1c, .live, 0, 0, 1⟩

/-- Every field of block ARM. -/
def ARM_fields : List Fld :=
  [ARM_CTRL_MODE, ARM_CTRL_MOD_SRC, ARM_CTRL_BUDGET_EN, ARM_CTRL_DCDC_EN, ARM_N_N, ARM_VREF_ARM_V, ARM_LIMIT_N_POS_MAX, ARM_LIMIT_N_NEG_MAX, ARM_BAND_BAND, ARM_BUDGET_CAP, ARM_BUDGET_REFILL, ARM_IREF_BASE, ARM_IREF_MAX, ARM_TILT_TILT, ARM_RING_MASK_MASK, ARM_STATUS_SHORT, ARM_STATUS_BUDGET_OVR, ARM_STATUS_CLAMPED, ARM_STATUS_REUSED, ARM_STATUS_LATE_N, ARM_STATUS_ACTIVE, ARM_INT_EN_EN, ARM_RESULT_N_USED, ARM_RESULT_N_ACT]
  ++ [ARM_COUNTS_AVAIL, ARM_COUNTS_ELIGIBLE, ARM_CHANGES_CHANGES, ARM_CHANGES_FORCED, ARM_PINS_PIN_IN, ARM_PINS_PIN_OUT, ARM_SUM_VCAP_SUM, ARM_SUM_VINS_SUM, ARM_SUM_VCAP2_SUM, ARM_SOE_MEAN_SOE, ARM_LAST_KEY_KEY, ARM_GSTATUS_REACT, ARM_GSTATUS_RING_BLK, ARM_GSTATUS_ARM_BLK, ARM_GSTATUS_ALL_BLK, ARM_GSTATUS_ILLEGAL, ARM_GSTATUS_STATE_ERR, ARM_GSTATUS_REFRESH, ARM_GSTATUS_SIMUL, ARM_GSTATUS_CHOP, ARM_GSTATUS_SUBST, ARM_GINT_EN_EN, ARM_GCOUNT_SUBST]
  ++ [ARM_GCOUNT_REFRESH, ARM_ERR_CODE, ARM_ERR_OFFSET, ARM_ERR_OFFSET_HI, ARM_ERR_CLEAR, ARM_ERR_MORE]

-- LAW.CTRL (R150)
/-- Lists may run; a clear lets the running list finish and empties the queue -/
def LAW_CTRL_EN : Fld := ⟨.law, 0x0, 0x0, 1, 0, 1, .rw, .live, 0, 0, 1⟩
/-- Initialise (R151); E_BUSY while a list is queued or running -/
def LAW_CTRL_INIT : Fld := ⟨.law, 0x0, 0x0, 1, 1, 1, .wo, .live, 0, 0, 1⟩
-- LAW.STATUS (R150)
/-- Initialisation complete -/
def LAW_STATUS_INIT_DONE : Fld := ⟨.law, 0x4, 0x0, 1, 0, 1, .ro, .live, 0, 0, 1⟩
/-- R146 -/
def LAW_STATUS_XF_COLL : Fld := ⟨.law, 0x4, 0x0, 1, 1, 1, .w1c, .live, 0, 0, 1⟩
/-- Lists queued, 0–8 -/
def LAW_STATUS_QLEVEL : Fld := ⟨.law, 0x4, 0x0, 1, 8, 4, .ro, .live, 0, 0, 0xf⟩
-- LAW.SLOT_INIT (R150)
/-- Slot -/
def LAW_SLOT_INIT_SLOT : Fld := ⟨.law, 0x8, 0x0, 1, 0, 10, .wo, .live, 0, 0, 0x3ff⟩
/-- Type code (R136) -/
def LAW_SLOT_INIT_TYPE : Fld := ⟨.law, 0x8, 0x0, 1, 16, 4, .wo, .live, 0, 0, 0xf⟩
-- LAW.TEST_CTRL (R150)
/-- Test slot -/
def LAW_TEST_CTRL_SLOT : Fld := ⟨.law, 0x10, 0x0, 1, 0, 10, .rw, .held, 0, 0, 0x3ff⟩
/-- 0: IN0; 1: IN1; 2: output; 3 refused with E_VALUE -/
def LAW_TEST_CTRL_POINT : Fld := ⟨.law, 0x10, 0x0, 1, 12, 2, .rw, .held, 0, 0, 2⟩
/-- 0 sine, 1 chirp, 2 PRBS; 3 refused with E_VALUE -/
def LAW_TEST_CTRL_WAVE : Fld := ⟨.law, 0x10, 0x0, 1, 16, 2, .rw, .held, 0, 0, 2⟩
/-- R148 -/
def LAW_TEST_CTRL_START : Fld := ⟨.law, 0x10, 0x0, 1, 24, 1, .wo, .tick, 0, 0, 1⟩
/-- R148 -/
def LAW_TEST_CTRL_STOP : Fld := ⟨.law, 0x10, 0x0, 1, 25, 1, .wo, .tick, 0, 0, 1⟩
/-- Test running -/
def LAW_TEST_CTRL_ACTIVE : Fld := ⟨.law, 0x10, 0x0, 1, 26, 1, .ro, .live, 0, 0, 1⟩
-- LAW.TEST_AMP (R150)
/-- FP32, finite, ≥ 0 -/
def LAW_TEST_AMP_AMP : Fld := ⟨.law, 0x14, 0x0, 1, 0, 32, .rw, .held, 0, 0, 0xffffffff⟩
-- LAW.TEST_INC0 (R150)
/-- Phase increment per value, 2⁻³² turn -/
def LAW_TEST_INC0_INC0 : Fld := ⟨.law, 0x18, 0x0, 1, 0, 32, .rw, .held, 0, 0, 0xffffffff⟩
-- LAW.TEST_INC1 (R150)
/-- Chirp final increment -/
def LAW_TEST_INC1_INC1 : Fld := ⟨.law, 0x1c, 0x0, 1, 0, 32, .rw, .held, 0, 0, 0xffffffff⟩
-- LAW.TEST_STEP (R150)
/-- Signed chirp step -/
def LAW_TEST_STEP_STEP : Fld := ⟨.law, 0x20, 0x0, 1, 0, 32, .rw, .held, 0, 0, 0xffffffff⟩
-- LAW.TEST_PRBS (R150)
/-- 0 refused with E_VALUE -/
def LAW_TEST_PRBS_SEED : Fld := ⟨.law, 0x24, 0x0, 1, 0, 15, .rw, .held, 1, 1, 0x7fff⟩
/-- Values per bit; 0 refused with E_VALUE -/
def LAW_TEST_PRBS_HOLD : Fld := ⟨.law, 0x24, 0x0, 1, 16, 16, .rw, .held, 1, 1, 0xffff⟩
-- LAW.TEST_COUNT (R150)
/-- Values; 0: until STOP -/
def LAW_TEST_COUNT_N : Fld := ⟨.law, 0x28, 0x0, 1, 0, 32, .rw, .held, 0, 0, 0xffffffff⟩
-- LAW.TEST_RAMP (R150)
/-- Values of amplitude ramp -/
def LAW_TEST_RAMP_RAMP : Fld := ⟨.law, 0x2c, 0x0, 1, 0, 16, .rw, .held, 0, 0, 0xffff⟩
-- LAW.TEST_DONE (R150)
/-- n -/
def LAW_TEST_DONE_N_DONE : Fld := ⟨.law, 0x30, 0x0, 1, 0, 32, .ro, .live, 0, 0, 0xffffffff⟩
-- LAW.CAP_BASE (R150)
/-- Cupola address of the ring -/
def LAW_CAP_BASE_ADDR : Fld := ⟨.law, 0x40, 0x0, 1, 4, 22, .rw, .held, 0, 0, 0x3fffff⟩
-- LAW.CAP_LEN (R150)
/-- Ring of 2^LOG2 records; outside 4–16 refused with E_VALUE -/
def LAW_CAP_LEN_LOG2 : Fld := ⟨.law, 0x44, 0x0, 1, 0, 5, .rw, .held, 4, 4, 0x10⟩
/-- R149 -/
def LAW_CAP_LEN_STOP_FULL : Fld := ⟨.law, 0x44, 0x0, 1, 8, 1, .rw, .held, 0, 0, 1⟩
-- LAW.CAP_IDX (R150)
/-- Records written since START -/
def LAW_CAP_IDX_IDX : Fld := ⟨.law, 0x48, 0x0, 1, 0, 17, .ro, .live, 0, 0, 0x1ffff⟩
/-- R149 -/
def LAW_CAP_IDX_CAP_LOST : Fld := ⟨.law, 0x48, 0x0, 1, 31, 1, .w1c, .live, 0, 0, 1⟩
-- LAW.LIST_CFG (R150)
/-- First entry -/
def LAW_LIST_CFG_START : Fld := ⟨.law, 0x100, 0x10, 32, 0, 11, .rw, .held, 0, 0, 0x7ff⟩
/-- Entries, 0–2,048; START + LEN above 2,048 refused with E_RANGE -/
def LAW_LIST_CFG_LEN : Fld := ⟨.law, 0x100, 0x10, 32, 16, 12, .rw, .held, 0, 0, 0xfff⟩
-- LAW.LIST_STATUS (R150)
/-- In the queue -/
def LAW_LIST_STATUS_QUEUED : Fld := ⟨.law, 0x104, 0x10, 32, 0, 1, .ro, .live, 0, 0, 1⟩
/-- Running -/
def LAW_LIST_STATUS_RUNNING : Fld := ⟨.law, 0x104, 0x10, 32, 1, 1, .ro, .live, 0, 0, 1⟩
/-- R139 -/
def LAW_LIST_STATUS_NF : Fld := ⟨.law, 0x104, 0x10, 32, 2, 1, .w1c, .live, 0, 0, 1⟩
/-- A duplicate evaluation -/
def LAW_LIST_STATUS_DUP : Fld := ⟨.law, 0x104, 0x10, 32, 3, 1, .w1c, .live, 0, 0, 1⟩
/-- R144 -/
def LAW_LIST_STATUS_FREE : Fld := ⟨.law, 0x104, 0x10, 32, 4, 1, .w1c, .live, 0, 0, 1⟩
/-- R135 -/
def LAW_LIST_STATUS_ECC : Fld := ⟨.law, 0x104, 0x10, 32, 5, 1, .w1c, .live, 0, 0, 1⟩
/-- C16 at the last completion -/
def LAW_LIST_STATUS_DONE_CYC : Fld := ⟨.law, 0x104, 0x10, 32, 16, 16, .ro, .live, 0, 0, 0xffff⟩
-- LAW.LIST_TIME (R150)
/-- FAB clocks from LAWGO commit to done -/
def LAW_LIST_TIME_LAST : Fld := ⟨.law, 0x108, 0x10, 32, 0, 16, .ro, .live, 0, 0, 0xffff⟩
/-- Largest LAST; cleared by writing STATUS with 0x3C -/
def LAW_LIST_TIME_MAX : Fld := ⟨.law, 0x108, 0x10, 32, 16, 16, .ro, .live, 0, 0, 0xffff⟩
-- LAW.ERR_CODE (R26)
/-- First refusal code (R9, R10) -/
def LAW_ERR_CODE : Fld := ⟨.law, 0xf0, 0x0, 1, 0, 8, .ro, .live, 0, 0, 0xff⟩
-- LAW.ERR_OFFSET (R26)
/-- Offset of the refused write -/
def LAW_ERR_OFFSET : Fld := ⟨.law, 0xf0, 0x0, 1, 8, 12, .ro, .live, 0, 0, 0xfff⟩
-- LAW.ERR_OFFSET_HI (R26)
/-- Offset bits [21:12] -/
def LAW_ERR_OFFSET_HI : Fld := ⟨.law, 0xf0, 0x0, 1, 20, 10, .ro, .live, 0, 0, 0x3ff⟩
-- LAW.ERR_CLEAR (R26)
/-- Clears CODE, OFFSET, OFFSET_HI and MORE -/
def LAW_ERR_CLEAR : Fld := ⟨.law, 0xf0, 0x0, 1, 30, 1, .wo, .live, 0, 0, 1⟩
-- LAW.ERR_MORE (R26)
/-- A further refusal occurred (R10) -/
def LAW_ERR_MORE : Fld := ⟨.law, 0xf0, 0x0, 1, 31, 1, .w1c, .live, 0, 0, 1⟩

/-- Every field of block LAW. -/
def LAW_fields : List Fld :=
  [LAW_CTRL_EN, LAW_CTRL_INIT, LAW_STATUS_INIT_DONE, LAW_STATUS_XF_COLL, LAW_STATUS_QLEVEL, LAW_SLOT_INIT_SLOT, LAW_SLOT_INIT_TYPE, LAW_TEST_CTRL_SLOT, LAW_TEST_CTRL_POINT, LAW_TEST_CTRL_WAVE, LAW_TEST_CTRL_START, LAW_TEST_CTRL_STOP, LAW_TEST_CTRL_ACTIVE, LAW_TEST_AMP_AMP, LAW_TEST_INC0_INC0, LAW_TEST_INC1_INC1, LAW_TEST_STEP_STEP, LAW_TEST_PRBS_SEED, LAW_TEST_PRBS_HOLD, LAW_TEST_COUNT_N, LAW_TEST_RAMP_RAMP, LAW_TEST_DONE_N_DONE, LAW_CAP_BASE_ADDR, LAW_CAP_LEN_LOG2]
  ++ [LAW_CAP_LEN_STOP_FULL, LAW_CAP_IDX_IDX, LAW_CAP_IDX_CAP_LOST, LAW_LIST_CFG_START, LAW_LIST_CFG_LEN, LAW_LIST_STATUS_QUEUED, LAW_LIST_STATUS_RUNNING, LAW_LIST_STATUS_NF, LAW_LIST_STATUS_DUP, LAW_LIST_STATUS_FREE, LAW_LIST_STATUS_ECC, LAW_LIST_STATUS_DONE_CYC, LAW_LIST_TIME_LAST, LAW_LIST_TIME_MAX, LAW_ERR_CODE, LAW_ERR_OFFSET, LAW_ERR_OFFSET_HI, LAW_ERR_CLEAR, LAW_ERR_MORE]

-- SPIRE.CTRL (R171)
/-- Start at ENTRY with the state of R153. Refused with E_BUSY during TCM init, and with … -/
def SPIRE_CTRL_RUN : Fld := ⟨.spire, 0x0, 0x0, 1, 0, 1, .w1s, .live, 0, 0, 1⟩
/-- Halt at the next boundary; cause HOST -/
def SPIRE_CTRL_HALT : Fld := ⟨.spire, 0x0, 0x0, 1, 1, 1, .wo, .live, 0, 0, 1⟩
/-- Zero the TCM; E_STATE unless halted -/
def SPIRE_CTRL_TCM_INIT : Fld := ⟨.spire, 0x0, 0x0, 1, 2, 1, .wo, .live, 0, 0, 1⟩
-- SPIRE.STATUS (R171)
/-- Core halted -/
def SPIRE_STATUS_HALTED : Fld := ⟨.spire, 0x4, 0x0, 1, 0, 1, .ro, .live, 1, 0, 1⟩
/-- Stalled in WAITT, BAR or RECV -/
def SPIRE_STATUS_WAITING : Fld := ⟨.spire, 0x4, 0x0, 1, 1, 1, .ro, .live, 0, 0, 1⟩
/-- As STATUS.PRIV -/
def SPIRE_STATUS_PRIV : Fld := ⟨.spire, 0x4, 0x0, 1, 2, 1, .ro, .live, 0, 0, 1⟩
/-- 0 RESET, 1 HOST, 2 DOUBLE, 3 HALT instruction -/
def SPIRE_STATUS_CAUSE : Fld := ⟨.spire, 0x4, 0x0, 1, 4, 4, .ro, .live, 0, 0, 0xf⟩
/-- R167 -/
def SPIRE_STATUS_BAR_TO : Fld := ⟨.spire, 0x4, 0x0, 1, 8, 1, .w1c, .live, 0, 0, 1⟩
/-- TCM initialised -/
def SPIRE_STATUS_INIT_DONE : Fld := ⟨.spire, 0x4, 0x0, 1, 9, 1, .ro, .live, 0, 0, 1⟩
-- SPIRE.ENTRY (R171)
/-- Start address, TCM offset -/
def SPIRE_ENTRY_ENTRY : Fld := ⟨.spire, 0x8, 0x0, 1, 2, 16, .rw, .held, 0, 0, 0xffff⟩
-- SPIRE.PC (R171)
/-- PC at the halt -/
def SPIRE_PC_PC : Fld := ⟨.spire, 0xc, 0x0, 1, 2, 16, .ro, .live, 0, 0, 0xffff⟩
-- SPIRE.LOAD_ADDR (R171)
/-- TCM word for LOAD_DATA -/
def SPIRE_LOAD_ADDR_ADDR : Fld := ⟨.spire, 0x10, 0x0, 1, 2, 16, .rw, .held, 0, 0, 0xffff⟩
-- SPIRE.LOAD_DATA (R171)
/-- Reads or writes the word at LOAD_ADDR, then adds 4 to LOAD_ADDR -/
def SPIRE_LOAD_DATA_DATA : Fld := ⟨.spire, 0x14, 0x0, 1, 0, 32, .rw, .held, 0, 0, 0xffffffff⟩
-- SPIRE.MBOX_LO (R171)
/-- Low word of a host message -/
def SPIRE_MBOX_LO_DATA : Fld := ⟨.spire, 0x18, 0x0, 1, 0, 32, .wo, .live, 0, 0, 0xffffffff⟩
-- SPIRE.MBOX_HI (R171)
/-- High word; the write sends with id 16; full refused with E_FULL -/
def SPIRE_MBOX_HI_DATA : Fld := ⟨.spire, 0x1c, 0x0, 1, 0, 32, .wo, .live, 0, 0, 0xffffffff⟩
-- SPIRE.MBOX_LEVEL (R171)
/-- Messages waiting -/
def SPIRE_MBOX_LEVEL_LEVEL : Fld := ⟨.spire, 0x20, 0x0, 1, 0, 5, .ro, .live, 0, 0, 0x1f⟩
-- SPIRE.ECC (R171)
/-- Corrected TCM words, saturating -/
def SPIRE_ECC_CORR : Fld := ⟨.spire, 0x24, 0x0, 1, 0, 16, .ro, .live, 0, 0, 0xffff⟩
/-- An uncorrectable TCM error occurred -/
def SPIRE_ECC_UNCORR : Fld := ⟨.spire, 0x24, 0x0, 1, 31, 1, .w1c, .live, 0, 0, 1⟩
-- SPIRE.ERR_CODE (R26)
/-- First refusal code (R9, R10) -/
def SPIRE_ERR_CODE : Fld := ⟨.spire, 0xf0, 0x0, 1, 0, 8, .ro, .live, 0, 0, 0xff⟩
-- SPIRE.ERR_OFFSET (R26)
/-- Offset of the refused write -/
def SPIRE_ERR_OFFSET : Fld := ⟨.spire, 0xf0, 0x0, 1, 8, 12, .ro, .live, 0, 0, 0xfff⟩
-- SPIRE.ERR_OFFSET_HI (R26)
/-- Offset bits [21:12] -/
def SPIRE_ERR_OFFSET_HI : Fld := ⟨.spire, 0xf0, 0x0, 1, 20, 10, .ro, .live, 0, 0, 0x3ff⟩
-- SPIRE.ERR_CLEAR (R26)
/-- Clears CODE, OFFSET, OFFSET_HI and MORE -/
def SPIRE_ERR_CLEAR : Fld := ⟨.spire, 0xf0, 0x0, 1, 30, 1, .wo, .live, 0, 0, 1⟩
-- SPIRE.ERR_MORE (R26)
/-- A further refusal occurred (R10) -/
def SPIRE_ERR_MORE : Fld := ⟨.spire, 0xf0, 0x0, 1, 31, 1, .w1c, .live, 0, 0, 1⟩

/-- Every field of block SPIRE. -/
def SPIRE_fields : List Fld :=
  [SPIRE_CTRL_RUN, SPIRE_CTRL_HALT, SPIRE_CTRL_TCM_INIT, SPIRE_STATUS_HALTED, SPIRE_STATUS_WAITING, SPIRE_STATUS_PRIV, SPIRE_STATUS_CAUSE, SPIRE_STATUS_BAR_TO, SPIRE_STATUS_INIT_DONE, SPIRE_ENTRY_ENTRY, SPIRE_PC_PC, SPIRE_LOAD_ADDR_ADDR, SPIRE_LOAD_DATA_DATA, SPIRE_MBOX_LO_DATA, SPIRE_MBOX_HI_DATA, SPIRE_MBOX_LEVEL_LEVEL, SPIRE_ECC_CORR, SPIRE_ECC_UNCORR, SPIRE_ERR_CODE, SPIRE_ERR_OFFSET, SPIRE_ERR_OFFSET_HI, SPIRE_ERR_CLEAR, SPIRE_ERR_MORE]

-- LEASE.CTRL (R215)
/-- Enable; 1 → 0 closes with FINAL (R200) -/
def LEASE_CTRL_EN : Fld := ⟨.lease, 0x0, 0x0, 1, 0, 1, .rw, .tick, 0, 0, 1⟩
/-- R198 -/
def LEASE_CTRL_SUSPEND : Fld := ⟨.lease, 0x0, 0x0, 1, 1, 1, .rw, .tick, 0, 0, 1⟩
/-- 0 derate; 1 suspend -/
def LEASE_CTRL_EXH_ACTION : Fld := ⟨.lease, 0x0, 0x0, 1, 2, 1, .rw, .tick, 0, 0, 1⟩
/-- Close with FORCED; E_STATE when EN = 0 -/
def LEASE_CTRL_CLOSE_NOW : Fld := ⟨.lease, 0x0, 0x0, 1, 3, 1, .wo, .tick, 0, 0, 1⟩
/-- Apply staged CURVE0–7 at the next tick. The write checks the values then staged: E_RANGE … -/
def LEASE_CTRL_CURVE_LOAD : Fld := ⟨.lease, 0x0, 0x0, 1, 4, 1, .wo, .tick, 0, 0, 1⟩
-- LEASE.STATUS (R215)
/-- A period is open -/
def LEASE_STATUS_OPEN : Fld := ⟨.lease, 0x4, 0x0, 1, 0, 1, .ro, .live, 0, 0, 1⟩
/-- R198 -/
def LEASE_STATUS_EXHAUSTED : Fld := ⟨.lease, 0x4, 0x0, 1, 1, 1, .ro, .live, 0, 0, 1⟩
/-- R198 -/
def LEASE_STATUS_SUSP : Fld := ⟨.lease, 0x4, 0x0, 1, 2, 1, .ro, .live, 0, 0, 1⟩
/-- R202 -/
def LEASE_STATUS_HELD : Fld := ⟨.lease, 0x4, 0x0, 1, 3, 1, .ro, .live, 0, 0, 1⟩
/-- R199 -/
def LEASE_STATUS_T_EXC : Fld := ⟨.lease, 0x4, 0x0, 1, 4, 1, .w1c, .live, 0, 0, 1⟩
/-- R199 -/
def LEASE_STATUS_C_EXC : Fld := ⟨.lease, 0x4, 0x0, 1, 5, 1, .w1c, .live, 0, 0, 1⟩
/-- Exhaustion began -/
def LEASE_STATUS_EXH : Fld := ⟨.lease, 0x4, 0x0, 1, 6, 1, .w1c, .live, 0, 0, 1⟩
/-- A page was issued -/
def LEASE_STATUS_CLOSED : Fld := ⟨.lease, 0x4, 0x0, 1, 7, 1, .w1c, .live, 0, 0, 1⟩
-- LEASE.CONTRACT (R215)
/-- Owner's contract identifier -/
def LEASE_CONTRACT_ID : Fld := ⟨.lease, 0x8, 0x0, 1, 0, 64, .rw, .held, 0, 0, 0xffffffffffffffff⟩
-- LEASE.PERIOD (R215)
/-- Seconds, 60–2,678,400; else E_VALUE; a value at or below the present PHASE refused with … -/
def LEASE_PERIOD_S : Fld := ⟨.lease, 0x10, 0x0, 1, 0, 32, .rw, .held, 0x15180, 60, 0x28de80⟩
-- LEASE.PHASE (R215)
/-- Seconds; PHASE ≥ PERIOD refused with E_RANGE -/
def LEASE_PHASE_S : Fld := ⟨.lease, 0x14, 0x0, 1, 0, 32, .rw, .held, 0, 0, 0xffffffff⟩
-- LEASE.BUD_DIS (R215)
/-- Wh per period; 0: no limit -/
def LEASE_BUD_DIS_WH : Fld := ⟨.lease, 0x18, 0x0, 1, 0, 32, .rw, .tick, 0, 0, 0xffffffff⟩
-- LEASE.BUD_CHG (R215)
/-- Wh per period; 0: no limit -/
def LEASE_BUD_CHG_WH : Fld := ⟨.lease, 0x1c, 0x0, 1, 0, 32, .rw, .tick, 0, 0, 0xffffffff⟩
-- LEASE.TWIN (R215)
/-- Signed, 0.5 °C per LSB -/
def LEASE_TWIN_T_LO : Fld := ⟨.lease, 0x20, 0x0, 1, 0, 16, .rw, .tick, 0xffb0, 0, 0xffff⟩
/-- Below T_LO refused with E_RANGE -/
def LEASE_TWIN_T_HI : Fld := ⟨.lease, 0x20, 0x0, 1, 16, 16, .rw, .tick, 0xaa, 0, 0xffff⟩
-- LEASE.TC (R215)
/-- 0.5 °C per LSB; 0 refused with E_VALUE -/
def LEASE_TC_TBAND : Fld := ⟨.lease, 0x24, 0x0, 1, 0, 16, .rw, .tick, 0x14, 1, 0xffff⟩
/-- 1/256 C per LSB -/
def LEASE_TC_CRATE_MAX : Fld := ⟨.lease, 0x24, 0x0, 1, 16, 16, .rw, .tick, 0xffff, 0, 0xffff⟩
-- LEASE.CE (R215)
/-- 1/256 C per LSB; 0 refused with E_VALUE -/
def LEASE_CE_CBAND : Fld := ⟨.lease, 0x28, 0x0, 1, 0, 16, .rw, .tick, 0x100, 1, 0xffff⟩
/-- Q0.16 -/
def LEASE_CE_EXH_W : Fld := ⟨.lease, 0x28, 0x0, 1, 16, 16, .rw, .tick, 0, 0, 0xffff⟩
-- LEASE.CURVE (R215)
/-- Q0.16; reads return the applied value; a write while a CURVE_LOAD is pending is refused … -/
def LEASE_CURVE_X : Fld := ⟨.lease, 0x30, 0x4, 8, 0, 16, .rw, .curve, 0, 0, 0xffff⟩
/-- Q0.16 -/
def LEASE_CURVE_Y : Fld := ⟨.lease, 0x30, 0x4, 8, 16, 16, .rw, .curve, 0xffff, 0, 0xffff⟩
-- LEASE.WEIGHT (R215)
/-- R197 -/
def LEASE_WEIGHT_LW : Fld := ⟨.lease, 0x50, 0x0, 1, 0, 16, .ro, .live, 0xffff, 0, 0xffff⟩
/-- Period minimum -/
def LEASE_WEIGHT_LW_MIN : Fld := ⟨.lease, 0x50, 0x0, 1, 16, 16, .ro, .live, 0xffff, 0, 0xffff⟩
-- LEASE.USE (R215)
/-- x of R197 -/
def LEASE_USE_X : Fld := ⟨.lease, 0x54, 0x0, 1, 0, 17, .ro, .live, 0, 0, 0x1ffff⟩
-- LEASE.TEMP (R215)
/-- This cycle; 0x8000 when no cell qualifies (R197) -/
def LEASE_TEMP_TMAX : Fld := ⟨.lease, 0x58, 0x0, 1, 0, 16, .ro, .live, 0, 0, 0xffff⟩
/-- This cycle; 0x7FFF when no cell qualifies (R197) -/
def LEASE_TEMP_TMIN : Fld := ⟨.lease, 0x58, 0x0, 1, 16, 16, .ro, .live, 0, 0, 0xffff⟩
-- LEASE.CRATE (R215)
/-- This cycle, saturating at 0xFFFF; 0 when no cell qualifies (R197) -/
def LEASE_CRATE_CMAX : Fld := ⟨.lease, 0x5c, 0x0, 1, 0, 16, .ro, .live, 0, 0, 0xffff⟩
/-- Period highest TMAX -/
def LEASE_CRATE_TEMP_PEAK : Fld := ⟨.lease, 0x5c, 0x0, 1, 16, 16, .ro, .live, 0x8000, 0, 0xffff⟩
-- LEASE.DIS_J (R215)
/-- Open period, LO then HI, eight 64-bit pairs in that order -/
def LEASE_DIS_J : Fld := ⟨.lease, 0x60, 0x0, 1, 0, 64, .ro, .live, 0, 0, 0xffffffffffffffff⟩
-- LEASE.CHG_J (R215)
/-- Open period, LO then HI, eight 64-bit pairs in that order -/
def LEASE_CHG_J : Fld := ⟨.lease, 0x68, 0x0, 1, 0, 64, .ro, .live, 0, 0, 0xffffffffffffffff⟩
-- LEASE.EST_J (R215)
/-- Open period, LO then HI, eight 64-bit pairs in that order -/
def LEASE_EST_J : Fld := ⟨.lease, 0x70, 0x0, 1, 0, 64, .ro, .live, 0, 0, 0xffffffffffffffff⟩
-- LEASE.CORRUPT_CYC (R215)
/-- Open period, LO then HI, eight 64-bit pairs in that order -/
def LEASE_CORRUPT_CYC : Fld := ⟨.lease, 0x78, 0x0, 1, 0, 64, .ro, .live, 0, 0, 0xffffffffffffffff⟩
-- LEASE.T_EXC_CYC (R215)
/-- Open period, LO then HI, eight 64-bit pairs in that order -/
def LEASE_T_EXC_CYC : Fld := ⟨.lease, 0x80, 0x0, 1, 0, 64, .ro, .live, 0, 0, 0xffffffffffffffff⟩
-- LEASE.C_EXC_CYC (R215)
/-- Open period, LO then HI, eight 64-bit pairs in that order -/
def LEASE_C_EXC_CYC : Fld := ⟨.lease, 0x88, 0x0, 1, 0, 64, .ro, .live, 0, 0, 0xffffffffffffffff⟩
-- LEASE.EXH_CYC (R215)
/-- Open period, LO then HI, eight 64-bit pairs in that order -/
def LEASE_EXH_CYC : Fld := ⟨.lease, 0x90, 0x0, 1, 0, 64, .ro, .live, 0, 0, 0xffffffffffffffff⟩
-- LEASE.CYCLES (R215)
/-- Open period, LO then HI, eight 64-bit pairs in that order -/
def LEASE_CYCLES : Fld := ⟨.lease, 0x98, 0x0, 1, 0, 64, .ro, .live, 0, 0, 0xffffffffffffffff⟩
-- LEASE.START_NS (R215)
/-- R200 -/
def LEASE_START_NS : Fld := ⟨.lease, 0xa0, 0x0, 1, 0, 64, .ro, .live, 0, 0, 0xffffffffffffffff⟩
-- LEASE.NOM_END_NS (R215)
/-- R200 -/
def LEASE_NOM_END_NS : Fld := ⟨.lease, 0xa8, 0x0, 1, 0, 64, .ro, .live, 0, 0, 0xffffffffffffffff⟩
-- LEASE.NEXT_SEQ (R215)
/-- PAGE_SEQ of the next page -/
def LEASE_NEXT_SEQ : Fld := ⟨.lease, 0xb0, 0x0, 1, 0, 64, .ro, .live, 1, 0, 0xffffffffffffffff⟩
-- LEASE.ACKED_SEQ (R215)
/-- R209 -/
def LEASE_ACKED_SEQ : Fld := ⟨.lease, 0xb8, 0x0, 1, 0, 64, .ro, .live, 0, 0, 0xffffffffffffffff⟩
-- LEASE.ERR_CODE (R26)
/-- First refusal code (R9, R10) -/
def LEASE_ERR_CODE : Fld := ⟨.lease, 0xf0, 0x0, 1, 0, 8, .ro, .live, 0, 0, 0xff⟩
-- LEASE.ERR_OFFSET (R26)
/-- Offset of the refused write -/
def LEASE_ERR_OFFSET : Fld := ⟨.lease, 0xf0, 0x0, 1, 8, 12, .ro, .live, 0, 0, 0xfff⟩
-- LEASE.ERR_OFFSET_HI (R26)
/-- Offset bits [21:12] -/
def LEASE_ERR_OFFSET_HI : Fld := ⟨.lease, 0xf0, 0x0, 1, 20, 10, .ro, .live, 0, 0, 0x3ff⟩
-- LEASE.ERR_CLEAR (R26)
/-- Clears CODE, OFFSET, OFFSET_HI and MORE -/
def LEASE_ERR_CLEAR : Fld := ⟨.lease, 0xf0, 0x0, 1, 30, 1, .wo, .live, 0, 0, 1⟩
-- LEASE.ERR_MORE (R26)
/-- A further refusal occurred (R10) -/
def LEASE_ERR_MORE : Fld := ⟨.lease, 0xf0, 0x0, 1, 31, 1, .w1c, .live, 0, 0, 1⟩

/-- Every field of block LEASE. -/
def LEASE_fields : List Fld :=
  [LEASE_CTRL_EN, LEASE_CTRL_SUSPEND, LEASE_CTRL_EXH_ACTION, LEASE_CTRL_CLOSE_NOW, LEASE_CTRL_CURVE_LOAD, LEASE_STATUS_OPEN, LEASE_STATUS_EXHAUSTED, LEASE_STATUS_SUSP, LEASE_STATUS_HELD, LEASE_STATUS_T_EXC, LEASE_STATUS_C_EXC, LEASE_STATUS_EXH, LEASE_STATUS_CLOSED, LEASE_CONTRACT_ID, LEASE_PERIOD_S, LEASE_PHASE_S, LEASE_BUD_DIS_WH, LEASE_BUD_CHG_WH, LEASE_TWIN_T_LO, LEASE_TWIN_T_HI, LEASE_TC_TBAND, LEASE_TC_CRATE_MAX, LEASE_CE_CBAND, LEASE_CE_EXH_W]
  ++ [LEASE_CURVE_X, LEASE_CURVE_Y, LEASE_WEIGHT_LW, LEASE_WEIGHT_LW_MIN, LEASE_USE_X, LEASE_TEMP_TMAX, LEASE_TEMP_TMIN, LEASE_CRATE_CMAX, LEASE_CRATE_TEMP_PEAK, LEASE_DIS_J, LEASE_CHG_J, LEASE_EST_J, LEASE_CORRUPT_CYC, LEASE_T_EXC_CYC, LEASE_C_EXC_CYC, LEASE_EXH_CYC, LEASE_CYCLES, LEASE_START_NS, LEASE_NOM_END_NS, LEASE_NEXT_SEQ, LEASE_ACKED_SEQ, LEASE_ERR_CODE, LEASE_ERR_OFFSET, LEASE_ERR_OFFSET_HI]
  ++ [LEASE_ERR_CLEAR, LEASE_ERR_MORE]

end Sys2Proof.Machine
end

