-- ==== Sys2Proof/Machine/RegsFabric.lean ====
section
/-!
DEFINITION. Register fields of the blocks JOURNAL, MEMC, SCAN, BELFRY, QUEUE, ADC, SV: one descriptor per row of the register tables of the chapters
(offset, second-index stride and count, lowest bit, width, access type (R5), class (R6), reset value, legal range).
-/
namespace Sys2Proof.Machine

-- JOURNAL.CTRL (R232)
/-- Accept submissions -/
def JOURNAL_CTRL_EN : Fld := ⟨.journal, 0x0, 0x0, 1, 0, 1, .rw, .live, 0, 0, 1⟩
/-- Empty CMD, FAULT and LEDGER; E_STATE when EN = 1 -/
def JOURNAL_CTRL_FORMAT : Fld := ⟨.journal, 0x0, 0x0, 1, 1, 1, .wo, .live, 0, 0, 1⟩
/-- Rescan (R231); E_BUSY while recovery runs -/
def JOURNAL_CTRL_RECOVER : Fld := ⟨.journal, 0x0, 0x0, 1, 2, 1, .wo, .live, 0, 0, 1⟩
-- JOURNAL.STATUS (R232)
/-- Recovery complete -/
def JOURNAL_STATUS_READY : Fld := ⟨.journal, 0x4, 0x0, 1, 0, 1, .ro, .live, 0, 0, 1⟩
/-- R230 -/
def JOURNAL_STATUS_TWIN_LOST : Fld := ⟨.journal, 0x4, 0x0, 1, 1, 1, .w1c, .live, 0, 0, 1⟩
/-- A record was rolled forward -/
def JOURNAL_STATUS_ROLLFWD : Fld := ⟨.journal, 0x4, 0x0, 1, 2, 1, .w1c, .live, 0, 0, 1⟩
/-- A record was aborted -/
def JOURNAL_STATUS_ABORTED : Fld := ⟨.journal, 0x4, 0x0, 1, 3, 1, .w1c, .live, 0, 0, 1⟩
/-- R231, or an uncorrectable word read -/
def JOURNAL_STATUS_ECC : Fld := ⟨.journal, 0x4, 0x0, 1, 4, 1, .w1c, .live, 0, 0, 1⟩
/-- R227 -/
def JOURNAL_STATUS_FAULT_FULL : Fld := ⟨.journal, 0x4, 0x0, 1, 5, 1, .w1c, .live, 0, 0, 1⟩
/-- Bit r: REGION_r cannot take a record of one payload word -/
def JOURNAL_STATUS_FULL : Fld := ⟨.journal, 0x4, 0x0, 1, 8, 3, .ro, .live, 0, 0, 7⟩
-- JOURNAL.INT_EN (R232)
/-- Bit j enables STATUS bit j -/
def JOURNAL_INT_EN_EN : Fld := ⟨.journal, 0x8, 0x0, 1, 0, 6, .rw, .live, 0, 0, 0x3f⟩
-- JOURNAL.CFG (R232)
/-- PREPARED timeout, FAB clocks; 0 refused with E_VALUE -/
def JOURNAL_CFG_ACK_TO : Fld := ⟨.journal, 0xc, 0x0, 1, 0, 24, .rw, .held, 0x1388, 1, 0xffffff⟩
-- JOURNAL.USER_WRITES (R232)
/-- Word writes to USER, LO then HI -/
def JOURNAL_USER_WRITES_COUNT : Fld := ⟨.journal, 0x10, 0x0, 1, 0, 64, .ro, .live, 0, 0, 0xffffffffffffffff⟩
-- JOURNAL.REGION (R232)
/-- JSEQ of the next record -/
def JOURNAL_REGION_NEXT_JSEQ : Fld := ⟨.journal, 0x40, 0x20, 3, 0, 64, .ro, .live, 1, 0, 0xffffffffffffffff⟩
/-- Oldest retained record -/
def JOURNAL_REGION_OLDEST_JSEQ : Fld := ⟨.journal, 0x48, 0x20, 3, 0, 64, .ro, .live, 1, 0, 0xffffffffffffffff⟩
/-- Words free ahead of the oldest retained record -/
def JOURNAL_REGION_FREE : Fld := ⟨.journal, 0x50, 0x20, 3, 0, 18, .ro, .live, 0, 0, 0x3ffff⟩
/-- Records in flight, 0–8 -/
def JOURNAL_REGION_INFLIGHT : Fld := ⟨.journal, 0x54, 0x20, 3, 0, 4, .ro, .live, 0, 0, 0xf⟩
/-- Word writes since manufacture, from CTRL -/
def JOURNAL_REGION_WRITES : Fld := ⟨.journal, 0x58, 0x20, 3, 0, 64, .ro, .live, 0, 0, 0xffffffffffffffff⟩
-- JOURNAL.ERR_CODE (R26)
/-- First refusal code (R9, R10) -/
def JOURNAL_ERR_CODE : Fld := ⟨.journal, 0xf0, 0x0, 1, 0, 8, .ro, .live, 0, 0, 0xff⟩
-- JOURNAL.ERR_OFFSET (R26)
/-- Offset of the refused write -/
def JOURNAL_ERR_OFFSET : Fld := ⟨.journal, 0xf0, 0x0, 1, 8, 12, .ro, .live, 0, 0, 0xfff⟩
-- JOURNAL.ERR_OFFSET_HI (R26)
/-- Offset bits [21:12] -/
def JOURNAL_ERR_OFFSET_HI : Fld := ⟨.journal, 0xf0, 0x0, 1, 20, 10, .ro, .live, 0, 0, 0x3ff⟩
-- JOURNAL.ERR_CLEAR (R26)
/-- Clears CODE, OFFSET, OFFSET_HI and MORE -/
def JOURNAL_ERR_CLEAR : Fld := ⟨.journal, 0xf0, 0x0, 1, 30, 1, .wo, .live, 0, 0, 1⟩
-- JOURNAL.ERR_MORE (R26)
/-- A further refusal occurred (R10) -/
def JOURNAL_ERR_MORE : Fld := ⟨.journal, 0xf0, 0x0, 1, 31, 1, .w1c, .live, 0, 0, 1⟩

/-- Every field of block JOURNAL. -/
def JOURNAL_fields : List Fld :=
  [JOURNAL_CTRL_EN, JOURNAL_CTRL_FORMAT, JOURNAL_CTRL_RECOVER, JOURNAL_STATUS_READY, JOURNAL_STATUS_TWIN_LOST, JOURNAL_STATUS_ROLLFWD, JOURNAL_STATUS_ABORTED, JOURNAL_STATUS_ECC, JOURNAL_STATUS_FAULT_FULL, JOURNAL_STATUS_FULL, JOURNAL_INT_EN_EN, JOURNAL_CFG_ACK_TO, JOURNAL_USER_WRITES_COUNT, JOURNAL_REGION_NEXT_JSEQ, JOURNAL_REGION_OLDEST_JSEQ, JOURNAL_REGION_FREE, JOURNAL_REGION_INFLIGHT, JOURNAL_REGION_WRITES, JOURNAL_ERR_CODE, JOURNAL_ERR_OFFSET, JOURNAL_ERR_OFFSET_HI, JOURNAL_ERR_CLEAR, JOURNAL_ERR_MORE]

-- MEMC.CTRL (R233)
/-- Channel serves requests -/
def MEMC_CTRL_EN : Fld := ⟨.memc, 0x0, 0x0, 1, 0, 1, .rw, .live, 0, 0, 1⟩
/-- Patrol scrub (R222) -/
def MEMC_CTRL_SCRUB_EN : Fld := ⟨.memc, 0x0, 0x0, 1, 1, 1, .rw, .live, 0, 0, 1⟩
/-- Train and initialise; E_STATE when EN = 1 -/
def MEMC_CTRL_INIT : Fld := ⟨.memc, 0x0, 0x0, 1, 2, 1, .wo, .live, 0, 0, 1⟩
/-- Enter CH_FAIL (R222) -/
def MEMC_CTRL_MARK_FAIL : Fld := ⟨.memc, 0x0, 0x0, 1, 3, 1, .wo, .live, 0, 0, 1⟩
-- MEMC.CFG (R233)
/-- 0: two ranks of 8 Gb; 1: one rank of 16 Gb -/
def MEMC_CFG_DENSITY : Fld := ⟨.memc, 0x4, 0x0, 1, 0, 1, .rw, .held, 1, 0, 1⟩
/-- Refresh every 3.9 µs -/
def MEMC_CFG_TREF2X : Fld := ⟨.memc, 0x4, 0x0, 1, 1, 1, .rw, .held, 0, 0, 1⟩
/-- Uncorrectable lines per pass before CH_FAIL, 1–255; 0 refused with E_VALUE -/
def MEMC_CFG_UE_LIMIT : Fld := ⟨.memc, 0x4, 0x0, 1, 8, 8, .rw, .held, 4, 1, 0xff⟩
-- MEMC.SCRUB (R233)
/-- FAB clocks per scrub read; 0 refused with E_VALUE -/
def MEMC_SCRUB_INT : Fld := ⟨.memc, 0x8, 0x0, 1, 0, 16, .rw, .live, 0x400, 1, 0xffff⟩
-- MEMC.STATUS (R233)
/-- Initialised -/
def MEMC_STATUS_INIT_DONE : Fld := ⟨.memc, 0xc, 0x0, 1, 0, 1, .ro, .live, 0, 0, 1⟩
/-- A correction occurred -/
def MEMC_STATUS_CE : Fld := ⟨.memc, 0xc, 0x0, 1, 1, 1, .w1c, .live, 0, 0, 1⟩
/-- An uncorrectable event occurred -/
def MEMC_STATUS_UE : Fld := ⟨.memc, 0xc, 0x0, 1, 2, 1, .w1c, .live, 0, 0, 1⟩
/-- R222 -/
def MEMC_STATUS_CH_FAIL : Fld := ⟨.memc, 0xc, 0x0, 1, 3, 1, .ro, .live, 0, 0, 1⟩
/-- LOG holds an event; clearing re-arms it -/
def MEMC_STATUS_LOG_VALID : Fld := ⟨.memc, 0xc, 0x0, 1, 4, 1, .w1c, .live, 0, 0, 1⟩
/-- A scrub pass completed -/
def MEMC_STATUS_PASS : Fld := ⟨.memc, 0xc, 0x0, 1, 5, 1, .w1c, .live, 0, 0, 1⟩
-- MEMC.CE_CNT (R233)
/-- Corrections, saturating -/
def MEMC_CE_CNT_COUNT : Fld := ⟨.memc, 0x10, 0x0, 1, 0, 32, .ro, .live, 0, 0, 0xffffffff⟩
-- MEMC.UE_CNT (R233)
/-- Uncorrectable events, saturating -/
def MEMC_UE_CNT_COUNT : Fld := ⟨.memc, 0x14, 0x0, 1, 0, 32, .ro, .live, 0, 0, 0xffffffff⟩
-- MEMC.LOG_ADDR (R233)
/-- Physical address of the line, bits [31:0], then [39:32] -/
def MEMC_LOG_ADDR_ADDR : Fld := ⟨.memc, 0x18, 0x0, 1, 0, 40, .ro, .live, 0, 0, 0xffffffffff⟩
-- MEMC.LOG_INFO (R233)
/-- 0 correction; 1 uncorrectable -/
def MEMC_LOG_INFO_KIND : Fld := ⟨.memc, 0x20, 0x0, 1, 0, 1, .ro, .live, 0, 0, 1⟩
/-- Symbols corrected, 1–4 -/
def MEMC_LOG_INFO_NSYM : Fld := ⟨.memc, 0x20, 0x0, 1, 1, 3, .ro, .live, 0, 0, 7⟩
/-- Lowest corrected symbol -/
def MEMC_LOG_INFO_FIRST : Fld := ⟨.memc, 0x20, 0x0, 1, 8, 7, .ro, .live, 0, 0, 0x7f⟩
/-- Highest corrected symbol -/
def MEMC_LOG_INFO_LAST : Fld := ⟨.memc, 0x20, 0x0, 1, 16, 7, .ro, .live, 0, 0, 0x7f⟩
/-- Found by the scrubber -/
def MEMC_LOG_INFO_SCRUB : Fld := ⟨.memc, 0x20, 0x0, 1, 24, 1, .ro, .live, 0, 0, 1⟩
-- MEMC.INT_EN (R233)
/-- Bit j enables STATUS bit j -/
def MEMC_INT_EN_EN : Fld := ⟨.memc, 0x24, 0x0, 1, 0, 6, .rw, .live, 0, 0, 0x3f⟩
-- MEMC.DEV_CE (R233)
/-- Corrections touching device d, saturating -/
def MEMC_DEV_CE_COUNT : Fld := ⟨.memc, 0x40, 0x4, 9, 0, 32, .ro, .live, 0, 0, 0xffffffff⟩
-- MEMC.ERR_CODE (R26)
/-- First refusal code (R9, R10) -/
def MEMC_ERR_CODE : Fld := ⟨.memc, 0xf0, 0x0, 1, 0, 8, .ro, .live, 0, 0, 0xff⟩
-- MEMC.ERR_OFFSET (R26)
/-- Offset of the refused write -/
def MEMC_ERR_OFFSET : Fld := ⟨.memc, 0xf0, 0x0, 1, 8, 12, .ro, .live, 0, 0, 0xfff⟩
-- MEMC.ERR_OFFSET_HI (R26)
/-- Offset bits [21:12] -/
def MEMC_ERR_OFFSET_HI : Fld := ⟨.memc, 0xf0, 0x0, 1, 20, 10, .ro, .live, 0, 0, 0x3ff⟩
-- MEMC.ERR_CLEAR (R26)
/-- Clears CODE, OFFSET, OFFSET_HI and MORE -/
def MEMC_ERR_CLEAR : Fld := ⟨.memc, 0xf0, 0x0, 1, 30, 1, .wo, .live, 0, 0, 1⟩
-- MEMC.ERR_MORE (R26)
/-- A further refusal occurred (R10) -/
def MEMC_ERR_MORE : Fld := ⟨.memc, 0xf0, 0x0, 1, 31, 1, .w1c, .live, 0, 0, 1⟩

/-- Every field of block MEMC. -/
def MEMC_fields : List Fld :=
  [MEMC_CTRL_EN, MEMC_CTRL_SCRUB_EN, MEMC_CTRL_INIT, MEMC_CTRL_MARK_FAIL, MEMC_CFG_DENSITY, MEMC_CFG_TREF2X, MEMC_CFG_UE_LIMIT, MEMC_SCRUB_INT, MEMC_STATUS_INIT_DONE, MEMC_STATUS_CE, MEMC_STATUS_UE, MEMC_STATUS_CH_FAIL, MEMC_STATUS_LOG_VALID, MEMC_STATUS_PASS, MEMC_CE_CNT_COUNT, MEMC_UE_CNT_COUNT, MEMC_LOG_ADDR_ADDR, MEMC_LOG_INFO_KIND, MEMC_LOG_INFO_NSYM, MEMC_LOG_INFO_FIRST, MEMC_LOG_INFO_LAST, MEMC_LOG_INFO_SCRUB, MEMC_INT_EN_EN, MEMC_DEV_CE_COUNT]
  ++ [MEMC_ERR_CODE, MEMC_ERR_OFFSET, MEMC_ERR_OFFSET_HI, MEMC_ERR_CLEAR, MEMC_ERR_MORE]

-- SCAN.CTRL (R235)
/-- Start -/
def SCAN_CTRL_GO : Fld := ⟨.scan, 0x0, 0x0, 1, 0, 1, .wo, .live, 0, 0, 1⟩
/-- Stop at the next line; DONE is not set -/
def SCAN_CTRL_ABORT : Fld := ⟨.scan, 0x0, 0x0, 1, 1, 1, .wo, .live, 0, 0, 1⟩
/-- R234 -/
def SCAN_CTRL_POLY : Fld := ⟨.scan, 0x0, 0x0, 1, 4, 2, .rw, .held, 0, 0, 3⟩
/-- Continue from RESULT -/
def SCAN_CTRL_CONT : Fld := ⟨.scan, 0x0, 0x0, 1, 6, 1, .rw, .held, 0, 0, 1⟩
/-- Raise source 13 on DONE -/
def SCAN_CTRL_INT_EN : Fld := ⟨.scan, 0x0, 0x0, 1, 7, 1, .rw, .live, 0, 0, 1⟩
-- SCAN.ADDR (R235)
/-- Start address, bits [31:0], then [39:32] -/
def SCAN_ADDR_ADDR : Fld := ⟨.scan, 0x4, 0x0, 1, 0, 40, .rw, .held, 0, 0, 0xffffffffff⟩
-- SCAN.LEN (R235)
/-- Length -/
def SCAN_LEN_BYTES : Fld := ⟨.scan, 0xc, 0x0, 1, 0, 32, .rw, .held, 0, 0, 0xffffffff⟩
-- SCAN.STATUS (R235)
/-- Scan running -/
def SCAN_STATUS_BUSY : Fld := ⟨.scan, 0x10, 0x0, 1, 0, 1, .ro, .live, 0, 0, 1⟩
/-- Result valid -/
def SCAN_STATUS_DONE : Fld := ⟨.scan, 0x10, 0x0, 1, 1, 1, .w1c, .live, 0, 0, 1⟩
/-- Stopped on an uncorrectable line -/
def SCAN_STATUS_ECC : Fld := ⟨.scan, 0x10, 0x0, 1, 2, 1, .w1c, .live, 0, 0, 1⟩
-- SCAN.RESULT (R235)
/-- Final CRC, LO then HI; 16- and 32-bit results zero-extended -/
def SCAN_RESULT_CRC : Fld := ⟨.scan, 0x14, 0x0, 1, 0, 64, .ro, .live, 0, 0, 0xffffffffffffffff⟩
-- SCAN.FAIL_ADDR (R235)
/-- R234 -/
def SCAN_FAIL_ADDR_ADDR : Fld := ⟨.scan, 0x1c, 0x0, 1, 0, 40, .ro, .live, 0, 0, 0xffffffffff⟩
-- SCAN.ERR_CODE (R26)
/-- First refusal code (R9, R10) -/
def SCAN_ERR_CODE : Fld := ⟨.scan, 0xf0, 0x0, 1, 0, 8, .ro, .live, 0, 0, 0xff⟩
-- SCAN.ERR_OFFSET (R26)
/-- Offset of the refused write -/
def SCAN_ERR_OFFSET : Fld := ⟨.scan, 0xf0, 0x0, 1, 8, 12, .ro, .live, 0, 0, 0xfff⟩
-- SCAN.ERR_OFFSET_HI (R26)
/-- Offset bits [21:12] -/
def SCAN_ERR_OFFSET_HI : Fld := ⟨.scan, 0xf0, 0x0, 1, 20, 10, .ro, .live, 0, 0, 0x3ff⟩
-- SCAN.ERR_CLEAR (R26)
/-- Clears CODE, OFFSET, OFFSET_HI and MORE -/
def SCAN_ERR_CLEAR : Fld := ⟨.scan, 0xf0, 0x0, 1, 30, 1, .wo, .live, 0, 0, 1⟩
-- SCAN.ERR_MORE (R26)
/-- A further refusal occurred (R10) -/
def SCAN_ERR_MORE : Fld := ⟨.scan, 0xf0, 0x0, 1, 31, 1, .w1c, .live, 0, 0, 1⟩

/-- Every field of block SCAN. -/
def SCAN_fields : List Fld :=
  [SCAN_CTRL_GO, SCAN_CTRL_ABORT, SCAN_CTRL_POLY, SCAN_CTRL_CONT, SCAN_CTRL_INT_EN, SCAN_ADDR_ADDR, SCAN_LEN_BYTES, SCAN_STATUS_BUSY, SCAN_STATUS_DONE, SCAN_STATUS_ECC, SCAN_RESULT_CRC, SCAN_FAIL_ADDR_ADDR, SCAN_ERR_CODE, SCAN_ERR_OFFSET, SCAN_ERR_OFFSET_HI, SCAN_ERR_CLEAR, SCAN_ERR_MORE]

-- BELFRY.CFG (R247)
/-- FAB clocks; 0: no flag (R243) -/
def BELFRY_CFG_STARVE_LIM : Fld := ⟨.belfry, 0x0, 0x0, 1, 0, 20, .rw, .live, 0x1000, 0, 0xfffff⟩
-- BELFRY.STARVED (R247)
/-- Bit r: requester r starved; clearing also clears PRI_r.MAXWAIT -/
def BELFRY_STARVED_REQ : Fld := ⟨.belfry, 0x4, 0x0, 1, 0, 32, .w1c, .live, 0, 0, 0xffffffff⟩
-- BELFRY.INT_EN (R247)
/-- Bit r enables STARVED bit r -/
def BELFRY_INT_EN_EN : Fld := ⟨.belfry, 0x8, 0x0, 1, 0, 32, .rw, .live, 0, 0, 0xffffffff⟩
-- BELFRY.STATUS (R247)
/-- R245 -/
def BELFRY_STATUS_BROKE : Fld := ⟨.belfry, 0xc, 0x0, 1, 0, 1, .w1c, .live, 0, 0, 1⟩
/-- R246 -/
def BELFRY_STATUS_GUARD : Fld := ⟨.belfry, 0xc, 0x0, 1, 1, 1, .w1c, .live, 0, 0, 1⟩
-- BELFRY.STAT_EN (R247)
/-- Bit j enables STATUS bit j -/
def BELFRY_STAT_EN_EN : Fld := ⟨.belfry, 0x10, 0x0, 1, 0, 2, .rw, .live, 0, 0, 3⟩
-- BELFRY.PRI (R247)
/-- R238, R239 -/
def BELFRY_PRI_LEVEL : Fld := ⟨.belfry, 0x40, 0x4, 32, 0, 3, .rw, .live, 0, 0, 7⟩
/-- DRAM granules per grant, 1–16; other values refused with E_VALUE; RO for cores -/
def BELFRY_PRI_BURST : Fld := ⟨.belfry, 0x40, 0x4, 32, 8, 5, .rw, .live, 0, 0, 0x1f⟩
/-- Longest wait in FAB clocks, saturating at 0xFFFF -/
def BELFRY_PRI_MAXWAIT : Fld := ⟨.belfry, 0x40, 0x4, 32, 16, 16, .ro, .live, 0, 0, 0xffff⟩
-- BELFRY.LOCK_CMD (R247)
/-- Host token -/
def BELFRY_LOCK_CMD_TOKEN : Fld := ⟨.belfry, 0x100, 0x0, 1, 0, 6, .wo, .live, 0, 0, 0x3f⟩
/-- 1 TRY, 2 REL, 3 CLR; 0 refused with E_VALUE -/
def BELFRY_LOCK_CMD_OP : Fld := ⟨.belfry, 0x100, 0x0, 1, 8, 2, .wo, .live, 0, 0, 3⟩
-- BELFRY.LOCK_RSP (R247)
/-- Result word of R189 for the last LOCK_CMD -/
def BELFRY_LOCK_RSP_RESULT : Fld := ⟨.belfry, 0x104, 0x0, 1, 0, 32, .ro, .live, 0, 0, 0xffffffff⟩
-- BELFRY.TOK_STATE (R247)
/-- Holder id -/
def BELFRY_TOK_STATE_OWNER : Fld := ⟨.belfry, 0x400, 0x10, 64, 0, 5, .ro, .live, 0, 0, 0x1f⟩
/-- R245 -/
def BELFRY_TOK_STATE_BROKEN : Fld := ⟨.belfry, 0x400, 0x10, 64, 8, 1, .ro, .live, 0, 0, 1⟩
/-- Token held -/
def BELFRY_TOK_STATE_HELD : Fld := ⟨.belfry, 0x400, 0x10, 64, 9, 1, .ro, .live, 0, 0, 1⟩
/-- R244 -/
def BELFRY_TOK_STATE_EPOCH : Fld := ⟨.belfry, 0x400, 0x10, 64, 16, 16, .ro, .live, 0, 0, 0xffff⟩
-- BELFRY.TOK_GUARD (R247)
/-- First guarded page -/
def BELFRY_TOK_GUARD_FIRST : Fld := ⟨.belfry, 0x404, 0x10, 64, 0, 14, .rw, .live, 0, 0, 0x3fff⟩
/-- Last guarded page -/
def BELFRY_TOK_GUARD_LAST : Fld := ⟨.belfry, 0x404, 0x10, 64, 16, 14, .rw, .live, 0, 0, 0x3fff⟩
/-- Guard on (R246) -/
def BELFRY_TOK_GUARD_EN : Fld := ⟨.belfry, 0x404, 0x10, 64, 31, 1, .rw, .live, 0, 0, 1⟩
-- BELFRY.TOK_WAITERS (R247)
/-- LOCKACQ requests waiting -/
def BELFRY_TOK_WAITERS_COUNT : Fld := ⟨.belfry, 0x408, 0x10, 64, 0, 5, .ro, .live, 0, 0, 0x1f⟩
-- BELFRY.ERR_CODE (R26)
/-- First refusal code (R9, R10) -/
def BELFRY_ERR_CODE : Fld := ⟨.belfry, 0xf0, 0x0, 1, 0, 8, .ro, .live, 0, 0, 0xff⟩
-- BELFRY.ERR_OFFSET (R26)
/-- Offset of the refused write -/
def BELFRY_ERR_OFFSET : Fld := ⟨.belfry, 0xf0, 0x0, 1, 8, 12, .ro, .live, 0, 0, 0xfff⟩
-- BELFRY.ERR_OFFSET_HI (R26)
/-- Offset bits [21:12] -/
def BELFRY_ERR_OFFSET_HI : Fld := ⟨.belfry, 0xf0, 0x0, 1, 20, 10, .ro, .live, 0, 0, 0x3ff⟩
-- BELFRY.ERR_CLEAR (R26)
/-- Clears CODE, OFFSET, OFFSET_HI and MORE -/
def BELFRY_ERR_CLEAR : Fld := ⟨.belfry, 0xf0, 0x0, 1, 30, 1, .wo, .live, 0, 0, 1⟩
-- BELFRY.ERR_MORE (R26)
/-- A further refusal occurred (R10) -/
def BELFRY_ERR_MORE : Fld := ⟨.belfry, 0xf0, 0x0, 1, 31, 1, .w1c, .live, 0, 0, 1⟩

/-- Every field of block BELFRY. -/
def BELFRY_fields : List Fld :=
  [BELFRY_CFG_STARVE_LIM, BELFRY_STARVED_REQ, BELFRY_INT_EN_EN, BELFRY_STATUS_BROKE, BELFRY_STATUS_GUARD, BELFRY_STAT_EN_EN, BELFRY_PRI_LEVEL, BELFRY_PRI_BURST, BELFRY_PRI_MAXWAIT, BELFRY_LOCK_CMD_TOKEN, BELFRY_LOCK_CMD_OP, BELFRY_LOCK_RSP_RESULT, BELFRY_TOK_STATE_OWNER, BELFRY_TOK_STATE_BROKEN, BELFRY_TOK_STATE_HELD, BELFRY_TOK_STATE_EPOCH, BELFRY_TOK_GUARD_FIRST, BELFRY_TOK_GUARD_LAST, BELFRY_TOK_GUARD_EN, BELFRY_TOK_WAITERS_COUNT, BELFRY_ERR_CODE, BELFRY_ERR_OFFSET, BELFRY_ERR_OFFSET_HI, BELFRY_ERR_CLEAR]
  ++ [BELFRY_ERR_MORE]

-- QUEUE.CTRL (R256)
/-- Queue runs -/
def QUEUE_CTRL_EN : Fld := ⟨.queue, 0x0, 0x0, 1, 0, 1, .rw, .live, 0, 0, 1⟩
/-- R252 -/
def QUEUE_CTRL_FLUSH : Fld := ⟨.queue, 0x0, 0x0, 1, 1, 1, .wo, .live, 0, 0, 1⟩
/-- Empty the queue; E_STATE when EN = 1 -/
def QUEUE_CTRL_CLEAR : Fld := ⟨.queue, 0x0, 0x0, 1, 2, 1, .wo, .live, 0, 0, 1⟩
/-- R251; E_STATE when no packet is open -/
def QUEUE_CTRL_ABORT : Fld := ⟨.queue, 0x0, 0x0, 1, 3, 1, .wo, .live, 0, 0, 1⟩
-- QUEUE.CFG (R256)
/-- Producer: requester id of R236, or 32 + hardware source of Ports and Host Commands -/
def QUEUE_CFG_PROD : Fld := ⟨.queue, 0x4, 0x0, 1, 0, 6, .rw, .held, 0, 0, 0x3f⟩
/-- Consumer, same coding -/
def QUEUE_CFG_CONS : Fld := ⟨.queue, 0x4, 0x0, 1, 8, 6, .rw, .held, 0, 0, 0x3f⟩
/-- Ring of 2^n granules, 4–20; others refused with E_VALUE -/
def QUEUE_CFG_SPILL_LOG2 : Fld := ⟨.queue, 0x4, 0x0, 1, 16, 5, .rw, .held, 4, 4, 0x14⟩
/-- Units of 16 FAB clocks; 0: no automatic flush -/
def QUEUE_CFG_FLUSH_TO : Fld := ⟨.queue, 0x4, 0x0, 1, 24, 8, .rw, .held, 0, 0, 0xff⟩
-- QUEUE.SPILL_BASE (R256)
/-- DRAM address, bits [31:0], then [39:32]; outside DRAM, or not aligned to the ring's size, … -/
def QUEUE_SPILL_BASE_ADDR : Fld := ⟨.queue, 0x8, 0x0, 1, 0, 40, .rw, .held, 0, 0, 0xffffffffff⟩
-- QUEUE.STATUS (R256)
/-- A committed packet waits -/
def QUEUE_STATUS_NONEMPTY : Fld := ⟨.queue, 0x10, 0x0, 1, 0, 1, .ro, .live, 0, 0, 1⟩
/-- WORDS ≥ HIGH_MARK -/
def QUEUE_STATUS_HIGH : Fld := ⟨.queue, 0x10, 0x0, 1, 1, 1, .ro, .live, 0, 0, 1⟩
/-- R253 -/
def QUEUE_STATUS_DROP : Fld := ⟨.queue, 0x10, 0x0, 1, 2, 1, .w1c, .live, 0, 0, 1⟩
/-- R251 -/
def QUEUE_STATUS_ABORTED : Fld := ⟨.queue, 0x10, 0x0, 1, 3, 1, .w1c, .live, 0, 0, 1⟩
/-- R255 -/
def QUEUE_STATUS_ECC : Fld := ⟨.queue, 0x10, 0x0, 1, 4, 1, .w1c, .live, 0, 0, 1⟩
/-- R253 -/
def QUEUE_STATUS_FULL : Fld := ⟨.queue, 0x10, 0x0, 1, 5, 1, .ro, .live, 0, 0, 1⟩
/-- A packet is open -/
def QUEUE_STATUS_OPEN : Fld := ⟨.queue, 0x10, 0x0, 1, 6, 1, .ro, .live, 0, 0, 1⟩
/-- The ring holds data -/
def QUEUE_STATUS_SPILLING : Fld := ⟨.queue, 0x10, 0x0, 1, 7, 1, .ro, .live, 0, 0, 1⟩
-- QUEUE.INT_EN (R256)
/-- Bit j enables STATUS bit j -/
def QUEUE_INT_EN_EN : Fld := ⟨.queue, 0x14, 0x0, 1, 0, 6, .rw, .live, 0, 0, 0x3f⟩
-- QUEUE.WORDS (R256)
/-- Committed words waiting -/
def QUEUE_WORDS_COUNT : Fld := ⟨.queue, 0x18, 0x0, 1, 0, 26, .ro, .live, 0, 0, 0x3ffffff⟩
-- QUEUE.PACKETS (R256)
/-- Committed packets waiting -/
def QUEUE_PACKETS_COUNT : Fld := ⟨.queue, 0x1c, 0x0, 1, 0, 24, .ro, .live, 0, 0, 0xffffff⟩
-- QUEUE.HIGH_MARK (R256)
/-- HIGH threshold -/
def QUEUE_HIGH_MARK_WORDS : Fld := ⟨.queue, 0x20, 0x0, 1, 0, 26, .rw, .live, 0x3fffff, 0, 0x3ffffff⟩
-- QUEUE.DROP_CNT (R256)
/-- Packets dropped, modulo 2³² -/
def QUEUE_DROP_CNT_COUNT : Fld := ⟨.queue, 0x24, 0x0, 1, 0, 32, .ro, .live, 0, 0, 0xffffffff⟩
-- QUEUE.PUSH_TAG (R256)
/-- R249 -/
def QUEUE_PUSH_TAG_VALID : Fld := ⟨.queue, 0x30, 0x0, 1, 0, 4, .wo, .live, 0, 0, 0xf⟩
/-- R249 -/
def QUEUE_PUSH_TAG_END : Fld := ⟨.queue, 0x30, 0x0, 1, 4, 1, .wo, .live, 0, 0, 1⟩
-- QUEUE.PUSH_LO (R256)
/-- Bytes 0–3 -/
def QUEUE_PUSH_LO_DATA : Fld := ⟨.queue, 0x34, 0x0, 1, 0, 32, .wo, .live, 0, 0, 0xffffffff⟩
-- QUEUE.PUSH_HI (R256)
/-- Bytes 4–7; the write pushes (R249, R253) -/
def QUEUE_PUSH_HI_DATA : Fld := ⟨.queue, 0x38, 0x0, 1, 0, 32, .wo, .live, 0, 0, 0xffffffff⟩
-- QUEUE.POP_TAG (R256)
/-- R254 -/
def QUEUE_POP_TAG_VALID : Fld := ⟨.queue, 0x40, 0x0, 1, 0, 4, .ro, .live, 0, 0, 0xf⟩
/-- POP_TAG -/
def QUEUE_POP_TAG_END : Fld := ⟨.queue, 0x40, 0x0, 1, 4, 1, .ro, .live, 0, 0, 1⟩
/-- POP_TAG -/
def QUEUE_POP_TAG_START : Fld := ⟨.queue, 0x40, 0x0, 1, 5, 1, .ro, .live, 0, 0, 1⟩
/-- A word was latched -/
def QUEUE_POP_TAG_PRESENT : Fld := ⟨.queue, 0x40, 0x0, 1, 7, 1, .ro, .live, 0, 0, 1⟩
-- QUEUE.POP_LO (R256)
/-- Bytes 0–3 -/
def QUEUE_POP_LO_DATA : Fld := ⟨.queue, 0x44, 0x0, 1, 0, 32, .ro, .live, 0, 0, 0xffffffff⟩
-- QUEUE.POP_HI (R256)
/-- Bytes 4–7; the read removes the word -/
def QUEUE_POP_HI_DATA : Fld := ⟨.queue, 0x48, 0x0, 1, 0, 32, .ro, .live, 0, 0, 0xffffffff⟩
-- QUEUE.ERR_CODE (R26)
/-- First refusal code (R9, R10) -/
def QUEUE_ERR_CODE : Fld := ⟨.queue, 0xf0, 0x0, 1, 0, 8, .ro, .live, 0, 0, 0xff⟩
-- QUEUE.ERR_OFFSET (R26)
/-- Offset of the refused write -/
def QUEUE_ERR_OFFSET : Fld := ⟨.queue, 0xf0, 0x0, 1, 8, 12, .ro, .live, 0, 0, 0xfff⟩
-- QUEUE.ERR_OFFSET_HI (R26)
/-- Offset bits [21:12] -/
def QUEUE_ERR_OFFSET_HI : Fld := ⟨.queue, 0xf0, 0x0, 1, 20, 10, .ro, .live, 0, 0, 0x3ff⟩
-- QUEUE.ERR_CLEAR (R26)
/-- Clears CODE, OFFSET, OFFSET_HI and MORE -/
def QUEUE_ERR_CLEAR : Fld := ⟨.queue, 0xf0, 0x0, 1, 30, 1, .wo, .live, 0, 0, 1⟩
-- QUEUE.ERR_MORE (R26)
/-- A further refusal occurred (R10) -/
def QUEUE_ERR_MORE : Fld := ⟨.queue, 0xf0, 0x0, 1, 31, 1, .w1c, .live, 0, 0, 1⟩

/-- Every field of block QUEUE. -/
def QUEUE_fields : List Fld :=
  [QUEUE_CTRL_EN, QUEUE_CTRL_FLUSH, QUEUE_CTRL_CLEAR, QUEUE_CTRL_ABORT, QUEUE_CFG_PROD, QUEUE_CFG_CONS, QUEUE_CFG_SPILL_LOG2, QUEUE_CFG_FLUSH_TO, QUEUE_SPILL_BASE_ADDR, QUEUE_STATUS_NONEMPTY, QUEUE_STATUS_HIGH, QUEUE_STATUS_DROP, QUEUE_STATUS_ABORTED, QUEUE_STATUS_ECC, QUEUE_STATUS_FULL, QUEUE_STATUS_OPEN, QUEUE_STATUS_SPILLING, QUEUE_INT_EN_EN, QUEUE_WORDS_COUNT, QUEUE_PACKETS_COUNT, QUEUE_HIGH_MARK_WORDS, QUEUE_DROP_CNT_COUNT, QUEUE_PUSH_TAG_VALID, QUEUE_PUSH_TAG_END]
  ++ [QUEUE_PUSH_LO_DATA, QUEUE_PUSH_HI_DATA, QUEUE_POP_TAG_VALID, QUEUE_POP_TAG_END, QUEUE_POP_TAG_START, QUEUE_POP_TAG_PRESENT, QUEUE_POP_LO_DATA, QUEUE_POP_HI_DATA, QUEUE_ERR_CODE, QUEUE_ERR_OFFSET, QUEUE_ERR_OFFSET_HI, QUEUE_ERR_CLEAR, QUEUE_ERR_MORE]

-- ADC.CTRL (R265)
/-- Converter accepts triggers; a clear ends a run (R262) -/
def ADC_CTRL_EN : Fld := ⟨.adc, 0x0, 0x0, 1, 0, 1, .rw, .live, 0, 0, 1⟩
/-- End the run in progress (R262) -/
def ADC_CTRL_ABORT : Fld := ⟨.adc, 0x0, 0x0, 1, 1, 1, .wo, .live, 0, 0, 1⟩
/-- Software trigger (R259) -/
def ADC_CTRL_SWTRIG : Fld := ⟨.adc, 0x0, 0x0, 1, 2, 1, .wo, .live, 0, 0, 1⟩
/-- Low-power mode (R263) -/
def ADC_CTRL_LP : Fld := ⟨.adc, 0x0, 0x0, 1, 3, 1, .rw, .held, 0, 0, 1⟩
-- ADC.CFG (R265)
/-- Entries − 1 -/
def ADC_CFG_LEN : Fld := ⟨.adc, 0x4, 0x0, 1, 0, 4, .rw, .held, 0, 0, 0xf⟩
/-- Write results to Cupola (R262) -/
def ADC_CFG_CUP_EN : Fld := ⟨.adc, 0x4, 0x0, 1, 4, 1, .rw, .held, 0, 0, 1⟩
/-- R259 -/
def ADC_CFG_TRIG_SRC : Fld := ⟨.adc, 0x4, 0x0, 1, 8, 5, .rw, .held, 1, 0, 0x1f⟩
-- ADC.DELAY (R265)
/-- FAB clocks from trigger to run -/
def ADC_DELAY_DELAY : Fld := ⟨.adc, 0x8, 0x0, 1, 0, 16, .rw, .live, 0, 0, 0xffff⟩
-- ADC.RES_BASE (R265)
/-- Cupola address of the result table -/
def ADC_RES_BASE_ADDR : Fld := ⟨.adc, 0xc, 0x0, 1, 6, 20, .rw, .held, 0, 0, 0xfffff⟩
-- ADC.STATUS (R265)
/-- A run completed -/
def ADC_STATUS_DONE : Fld := ⟨.adc, 0x10, 0x0, 1, 0, 1, .w1c, .live, 0, 0, 1⟩
/-- R261 -/
def ADC_STATUS_OVR : Fld := ⟨.adc, 0x10, 0x0, 1, 1, 1, .w1c, .live, 0, 0, 1⟩
/-- R259 -/
def ADC_STATUS_TRIG_LOST : Fld := ⟨.adc, 0x10, 0x0, 1, 2, 1, .w1c, .live, 0, 0, 1⟩
/-- R262 -/
def ADC_STATUS_DISCARD : Fld := ⟨.adc, 0x10, 0x0, 1, 3, 1, .w1c, .live, 0, 0, 1⟩
/-- R264 -/
def ADC_STATUS_PLAUS : Fld := ⟨.adc, 0x10, 0x0, 1, 4, 1, .w1c, .live, 0, 0, 1⟩
/-- A stream of this block has an enabled status bit set (R271) -/
def ADC_STATUS_SV : Fld := ⟨.adc, 0x10, 0x0, 1, 5, 1, .ro, .live, 0, 0, 1⟩
/-- A run is pending or in progress -/
def ADC_STATUS_BUSY : Fld := ⟨.adc, 0x10, 0x0, 1, 8, 1, .ro, .live, 0, 0, 1⟩
-- ADC.INT_EN (R265)
/-- Bit j enables STATUS bit j -/
def ADC_INT_EN_EN : Fld := ⟨.adc, 0x14, 0x0, 1, 0, 6, .rw, .live, 0, 0, 0x3f⟩
-- ADC.PLAUS (R265)
/-- R264 -/
def ADC_PLAUS_EN : Fld := ⟨.adc, 0x18, 0x0, 1, 0, 1, .rw, .held, 0, 0, 1⟩
/-- Entry of the even converter -/
def ADC_PLAUS_ENT_A : Fld := ⟨.adc, 0x18, 0x0, 1, 4, 4, .rw, .held, 0, 0, 0xf⟩
/-- Entry of the odd converter -/
def ADC_PLAUS_ENT_B : Fld := ⟨.adc, 0x18, 0x0, 1, 8, 4, .rw, .held, 0, 0, 0xf⟩
/-- Consecutive exceedances, 1–15; 0 refused with E_VALUE -/
def ADC_PLAUS_CNT : Fld := ⟨.adc, 0x18, 0x0, 1, 12, 4, .rw, .held, 3, 1, 0xf⟩
/-- Tolerance, gain-8 VALUE units -/
def ADC_PLAUS_TOL : Fld := ⟨.adc, 0x18, 0x0, 1, 16, 16, .rw, .held, 0x100, 0, 0xffff⟩
-- ADC.PLAUS_DIFF (R265)
/-- Difference when PLAUS was last set -/
def ADC_PLAUS_DIFF_DIFF : Fld := ⟨.adc, 0x1c, 0x0, 1, 0, 24, .ro, .live, 0, 0, 0xffffff⟩
-- ADC.TRIG_TIME (R265)
/-- Campanile time of the last run's start, LO then HI -/
def ADC_TRIG_TIME_NS : Fld := ⟨.adc, 0x20, 0x0, 1, 0, 64, .ro, .live, 0, 0, 0xffffffffffffffff⟩
-- ADC.RUNS (R265)
/-- Completed runs, modulo 2³² -/
def ADC_RUNS_COUNT : Fld := ⟨.adc, 0x28, 0x0, 1, 0, 32, .ro, .live, 0, 0, 0xffffffff⟩
-- ADC.SEQ (R265)
/-- 0–8; 9–15 refused with E_VALUE -/
def ADC_SEQ_INPUT : Fld := ⟨.adc, 0x100, 0x4, 16, 0, 4, .rw, .held, 0, 0, 8⟩
/-- G = 1, 2, 4, 8 -/
def ADC_SEQ_GAIN : Fld := ⟨.adc, 0x100, 0x4, 16, 4, 2, .rw, .held, 0, 0, 3⟩
/-- CONV clocks, 4–255; below 4 refused with E_VALUE -/
def ADC_SEQ_SMP : Fld := ⟨.adc, 0x100, 0x4, 16, 8, 8, .rw, .held, 4, 4, 0xff⟩
/-- Window of 2^AVG conversions -/
def ADC_SEQ_AVG : Fld := ⟨.adc, 0x100, 0x4, 16, 16, 3, .rw, .held, 0, 0, 7⟩
/-- R261 -/
def ADC_SEQ_SHIFT : Fld := ⟨.adc, 0x100, 0x4, 16, 20, 3, .rw, .held, 0, 0, 7⟩
-- ADC.RESULT (R265)
/-- R261 -/
def ADC_RESULT_VALUE : Fld := ⟨.adc, 0x200, 0x4, 16, 0, 24, .ro, .live, 0, 0, 0xffffff⟩
/-- R261 -/
def ADC_RESULT_OVR : Fld := ⟨.adc, 0x200, 0x4, 16, 24, 1, .ro, .live, 0, 0, 1⟩
/-- 0 NONE, 1 FRESH, 2 HELD -/
def ADC_RESULT_QUAL : Fld := ⟨.adc, 0x200, 0x4, 16, 25, 2, .ro, .live, 0, 0, 3⟩
/-- RUNS[4:0] of the run that wrote it -/
def ADC_RESULT_RUN : Fld := ⟨.adc, 0x200, 0x4, 16, 27, 5, .ro, .live, 0, 0, 0x1f⟩
-- ADC.ERR_CODE (R26)
/-- First refusal code (R9, R10) -/
def ADC_ERR_CODE : Fld := ⟨.adc, 0xf0, 0x0, 1, 0, 8, .ro, .live, 0, 0, 0xff⟩
-- ADC.ERR_OFFSET (R26)
/-- Offset of the refused write -/
def ADC_ERR_OFFSET : Fld := ⟨.adc, 0xf0, 0x0, 1, 8, 12, .ro, .live, 0, 0, 0xfff⟩
-- ADC.ERR_OFFSET_HI (R26)
/-- Offset bits [21:12] -/
def ADC_ERR_OFFSET_HI : Fld := ⟨.adc, 0xf0, 0x0, 1, 20, 10, .ro, .live, 0, 0, 0x3ff⟩
-- ADC.ERR_CLEAR (R26)
/-- Clears CODE, OFFSET, OFFSET_HI and MORE -/
def ADC_ERR_CLEAR : Fld := ⟨.adc, 0xf0, 0x0, 1, 30, 1, .wo, .live, 0, 0, 1⟩
-- ADC.ERR_MORE (R26)
/-- A further refusal occurred (R10) -/
def ADC_ERR_MORE : Fld := ⟨.adc, 0xf0, 0x0, 1, 31, 1, .w1c, .live, 0, 0, 1⟩

/-- Every field of block ADC. -/
def ADC_fields : List Fld :=
  [ADC_CTRL_EN, ADC_CTRL_ABORT, ADC_CTRL_SWTRIG, ADC_CTRL_LP, ADC_CFG_LEN, ADC_CFG_CUP_EN, ADC_CFG_TRIG_SRC, ADC_DELAY_DELAY, ADC_RES_BASE_ADDR, ADC_STATUS_DONE, ADC_STATUS_OVR, ADC_STATUS_TRIG_LOST, ADC_STATUS_DISCARD, ADC_STATUS_PLAUS, ADC_STATUS_SV, ADC_STATUS_BUSY, ADC_INT_EN_EN, ADC_PLAUS_EN, ADC_PLAUS_ENT_A, ADC_PLAUS_ENT_B, ADC_PLAUS_CNT, ADC_PLAUS_TOL, ADC_PLAUS_DIFF_DIFF, ADC_TRIG_TIME_NS]
  ++ [ADC_RUNS_COUNT, ADC_SEQ_INPUT, ADC_SEQ_GAIN, ADC_SEQ_SMP, ADC_SEQ_AVG, ADC_SEQ_SHIFT, ADC_RESULT_VALUE, ADC_RESULT_OVR, ADC_RESULT_QUAL, ADC_RESULT_RUN, ADC_ERR_CODE, ADC_ERR_OFFSET, ADC_ERR_OFFSET_HI, ADC_ERR_CLEAR, ADC_ERR_MORE]

-- SV.CTRL (R271)
/-- Ingest the stream; t_last starts at this tick -/
def SV_CTRL_EN : Fld := ⟨.sv, 0x0, 0x0, 1, 0, 1, .rw, .tick, 0, 0, 1⟩
/-- Clear GAP_CNT, MATCH_CNT, PARTIAL_CNT, FRAMES -/
def SV_CTRL_CLR_STATS : Fld := ⟨.sv, 0x0, 0x0, 1, 1, 1, .wo, .live, 0, 0, 1⟩
-- SV.CFG (R271)
/-- 0 4,800; 1 14,400; 2 96,000 samples/s; 3 refused with E_VALUE -/
def SV_CFG_RATE : Fld := ⟨.sv, 0x4, 0x0, 1, 0, 2, .rw, .held, 0, 0, 2⟩
/-- ASDUs per frame − 1 -/
def SV_CFG_NASDU : Fld := ⟨.sv, 0x4, 0x0, 1, 4, 3, .rw, .held, 1, 0, 7⟩
/-- Channels − 1 -/
def SV_CFG_NCH : Fld := ⟨.sv, 0x4, 0x0, 1, 8, 4, .rw, .held, 7, 0, 0xf⟩
/-- STATION ports accepted -/
def SV_CFG_PORTS : Fld := ⟨.sv, 0x4, 0x0, 1, 12, 4, .rw, .held, 0xf, 0, 0xf⟩
/-- smpSynch required: 0 any, 1 local or global, 2 global; 3 refused with E_VALUE -/
def SV_CFG_SYNC_REQ : Fld := ⟨.sv, 0x4, 0x0, 1, 16, 2, .rw, .held, 0, 0, 2⟩
/-- Accept frames with Simulate = 1 -/
def SV_CFG_SIM : Fld := ⟨.sv, 0x4, 0x0, 1, 18, 1, .rw, .held, 0, 0, 1⟩
/-- 3–64; others refused with E_VALUE -/
def SV_CFG_LOST_LIMIT : Fld := ⟨.sv, 0x4, 0x0, 1, 24, 7, .rw, .tick, 8, 3, 0x40⟩
/-- 0 report; 1 assert SVTRIP_s while LOST -/
def SV_CFG_ACTION : Fld := ⟨.sv, 0x4, 0x0, 1, 31, 1, .rw, .tick, 0, 0, 1⟩
-- SV.ID (R271)
/-- APPID -/
def SV_ID_APPID : Fld := ⟨.sv, 0x8, 0x0, 1, 0, 16, .rw, .held, 0x4000, 0, 0xffff⟩
/-- VID -/
def SV_ID_VID : Fld := ⟨.sv, 0x8, 0x0, 1, 16, 12, .rw, .held, 0, 0, 0xfff⟩
/-- Check VID -/
def SV_ID_VID_EN : Fld := ⟨.sv, 0x8, 0x0, 1, 28, 1, .rw, .held, 0, 0, 1⟩
-- SV.MAC (R271)
/-- Destination address, octets 2–5 in LO, 0–1 in HI -/
def SV_MAC_MAC : Fld := ⟨.sv, 0xc, 0x0, 1, 0, 48, .rw, .held, 0, 0, 0xffffffffffff⟩
-- SV.SVID_CRC (R271)
/-- R266 -/
def SV_SVID_CRC_CRC : Fld := ⟨.sv, 0x14, 0x0, 1, 0, 32, .rw, .held, 0, 0, 0xffffffff⟩
-- SV.CONFREV (R271)
/-- confRev -/
def SV_CONFREV_REV : Fld := ⟨.sv, 0x18, 0x0, 1, 0, 32, .rw, .held, 1, 0, 0xffffffff⟩
-- SV.WRAP (R271)
/-- smpCnt modulus, 1–65,536; others refused with E_VALUE -/
def SV_WRAP_WRAP : Fld := ⟨.sv, 0x1c, 0x0, 1, 0, 17, .rw, .held, 0x12c0, 1, 0x10000⟩
-- SV.TOL (R271)
/-- Arrival tolerance, µs -/
def SV_TOL_US : Fld := ⟨.sv, 0x20, 0x0, 1, 0, 16, .rw, .held, 0x32, 0, 0xffff⟩
-- SV.CUP_BASE (R271)
/-- Cupola address of the snapshot -/
def SV_CUP_BASE_ADDR : Fld := ⟨.sv, 0x24, 0x0, 1, 4, 22, .rw, .held, 0, 0, 0x3fffff⟩
-- SV.DELIV (R271)
/-- Spill queue -/
def SV_DELIV_QUEUE : Fld := ⟨.sv, 0x28, 0x0, 1, 0, 5, .rw, .held, 0, 0, 0x1f⟩
/-- Push frame packets -/
def SV_DELIV_QEN : Fld := ⟨.sv, 0x28, 0x0, 1, 8, 1, .rw, .held, 0, 0, 1⟩
-- SV.STATUS (R271)
/-- R269 -/
def SV_STATUS_STALE : Fld := ⟨.sv, 0x30, 0x0, 1, 0, 1, .ro, .live, 0, 0, 1⟩
/-- R269 -/
def SV_STATUS_LOST : Fld := ⟨.sv, 0x30, 0x0, 1, 1, 1, .w1c, .live, 0, 0, 1⟩
/-- R269 -/
def SV_STATUS_RESUMED : Fld := ⟨.sv, 0x30, 0x0, 1, 2, 1, .ro, .live, 0, 0, 1⟩
/-- R268 -/
def SV_STATUS_SEQ_ERR : Fld := ⟨.sv, 0x30, 0x0, 1, 3, 1, .w1c, .live, 0, 0, 1⟩
/-- R267 -/
def SV_STATUS_PARTIAL : Fld := ⟨.sv, 0x30, 0x0, 1, 4, 1, .w1c, .live, 0, 0, 1⟩
/-- R267 -/
def SV_STATUS_MATCH_ERR : Fld := ⟨.sv, 0x30, 0x0, 1, 5, 1, .w1c, .live, 0, 0, 1⟩
/-- Latest ASDU lacks SYNC_REQ -/
def SV_STATUS_UNSYNC : Fld := ⟨.sv, 0x30, 0x0, 1, 6, 1, .ro, .live, 0, 0, 1⟩
-- SV.INT_EN (R271)
/-- Bit j enables STATUS bit j -/
def SV_INT_EN_EN : Fld := ⟨.sv, 0x34, 0x0, 1, 0, 7, .rw, .live, 0, 0, 0x7f⟩
-- SV.GAP_CNT (R271)
/-- Missing samples (R268), modulo 2³² -/
def SV_GAP_CNT_COUNT : Fld := ⟨.sv, 0x38, 0x0, 1, 0, 32, .ro, .live, 0, 0, 0xffffffff⟩
-- SV.DROPS (R271)
/-- Rewound frames, modulo 2¹⁶ -/
def SV_DROPS_PARTIAL_CNT : Fld := ⟨.sv, 0x3c, 0x0, 1, 0, 16, .ro, .live, 0, 0, 0xffff⟩
/-- Discarded frames, modulo 2¹⁶ -/
def SV_DROPS_MATCH_CNT : Fld := ⟨.sv, 0x3c, 0x0, 1, 16, 16, .ro, .live, 0, 0, 0xffff⟩
-- SV.FRAMES (R271)
/-- Accepted frames, modulo 2³² -/
def SV_FRAMES_COUNT : Fld := ⟨.sv, 0x40, 0x0, 1, 0, 32, .ro, .live, 0, 0, 0xffffffff⟩
-- SV.LAST (R271)
/-- Last accepted smpCnt -/
def SV_LAST_SMPCNT : Fld := ⟨.sv, 0x44, 0x0, 1, 0, 16, .ro, .live, 0, 0, 0xffff⟩
/-- A frame has been accepted -/
def SV_LAST_VALID : Fld := ⟨.sv, 0x44, 0x0, 1, 16, 1, .ro, .live, 0, 0, 1⟩

/-- Every field of block SV. -/
def SV_fields : List Fld :=
  [SV_CTRL_EN, SV_CTRL_CLR_STATS, SV_CFG_RATE, SV_CFG_NASDU, SV_CFG_NCH, SV_CFG_PORTS, SV_CFG_SYNC_REQ, SV_CFG_SIM, SV_CFG_LOST_LIMIT, SV_CFG_ACTION, SV_ID_APPID, SV_ID_VID, SV_ID_VID_EN, SV_MAC_MAC, SV_SVID_CRC_CRC, SV_CONFREV_REV, SV_WRAP_WRAP, SV_TOL_US, SV_CUP_BASE_ADDR, SV_DELIV_QUEUE, SV_DELIV_QEN, SV_STATUS_STALE, SV_STATUS_LOST, SV_STATUS_RESUMED]
  ++ [SV_STATUS_SEQ_ERR, SV_STATUS_PARTIAL, SV_STATUS_MATCH_ERR, SV_STATUS_UNSYNC, SV_INT_EN_EN, SV_GAP_CNT_COUNT, SV_DROPS_PARTIAL_CNT, SV_DROPS_MATCH_CNT, SV_FRAMES_COUNT, SV_LAST_SMPCNT, SV_LAST_VALID]

end Sys2Proof.Machine
end

