-- ==== Sys2Proof/Machine/RegsSignals.lean ====
section
/-!
DEFINITION. Register fields of the blocks FILT, OCULUS, PWM, TRIP, CAMPANILE: one descriptor per row of the register tables of the chapters
(offset, second-index stride and count, lowest bit, width, access type (R5), class (R6), reset value, legal range).
-/
namespace Sys2Proof.Machine

-- FILT.CTRL (R280)
/-- Channel runs (R277) -/
def FILT_CTRL_EN : Fld := ⟨.filt, 0x0, 0x0, 1, 0, 1, .rw, .live, 0, 0, 1⟩
/-- R276 -/
def FILT_CTRL_SWAP : Fld := ⟨.filt, 0x0, 0x0, 1, 1, 1, .wo, .live, 0, 0, 1⟩
/-- R277 -/
def FILT_CTRL_PRESET : Fld := ⟨.filt, 0x0, 0x0, 1, 2, 1, .wo, .live, 0, 0, 1⟩
-- FILT.CFG (R280)
/-- R272 -/
def FILT_CFG_SRC : Fld := ⟨.filt, 0x4, 0x0, 1, 0, 2, .rw, .held, 0, 0, 3⟩
/-- Source block -/
def FILT_CFG_SRC_A : Fld := ⟨.filt, 0x4, 0x0, 1, 2, 4, .rw, .held, 0, 0, 0xf⟩
/-- Entry or channel -/
def FILT_CFG_SRC_B : Fld := ⟨.filt, 0x4, 0x0, 1, 6, 4, .rw, .held, 0, 0, 0xf⟩
/-- R277 -/
def FILT_CFG_SETTLE : Fld := ⟨.filt, 0x4, 0x0, 1, 10, 1, .rw, .held, 0, 0, 1⟩
/-- R279 -/
def FILT_CFG_CUP_EN : Fld := ⟨.filt, 0x4, 0x0, 1, 11, 1, .rw, .held, 0, 0, 1⟩
/-- Taps − 1 -/
def FILT_CFG_TAPS : Fld := ⟨.filt, 0x4, 0x0, 1, 12, 9, .rw, .held, 0x1ff, 0, 0x1ff⟩
/-- Decimation − 1 -/
def FILT_CFG_DECIM : Fld := ⟨.filt, 0x4, 0x0, 1, 21, 4, .rw, .held, 0, 0, 0xf⟩
/-- 0–8; above 8 refused with E_VALUE -/
def FILT_CFG_ISHIFT : Fld := ⟨.filt, 0x4, 0x0, 1, 25, 4, .rw, .held, 0, 0, 8⟩
-- FILT.OUTCFG (R280)
/-- R273 -/
def FILT_OUTCFG_OSHIFT : Fld := ⟨.filt, 0x8, 0x0, 1, 0, 5, .rw, .held, 0x17, 0, 0x1f⟩
/-- 256 FAB clocks per LSB; 0: none -/
def FILT_OUTCFG_TIMEOUT : Fld := ⟨.filt, 0x8, 0x0, 1, 16, 16, .rw, .live, 0, 0, 0xffff⟩
-- FILT.XFADE (R280)
/-- 0–10; above 10 refused with E_VALUE -/
def FILT_XFADE_LOG2 : Fld := ⟨.filt, 0xc, 0x0, 1, 0, 4, .rw, .live, 0, 0, 0xa⟩
-- FILT.STATUS (R280)
/-- An output was written -/
def FILT_STATUS_OUT : Fld := ⟨.filt, 0x10, 0x0, 1, 0, 1, .w1c, .live, 0, 0, 1⟩
/-- R278 -/
def FILT_STATUS_HI : Fld := ⟨.filt, 0x10, 0x0, 1, 1, 1, .w1c, .live, 0, 0, 1⟩
/-- R278 -/
def FILT_STATUS_LO : Fld := ⟨.filt, 0x10, 0x0, 1, 2, 1, .w1c, .live, 0, 0, 1⟩
/-- R272, R273 -/
def FILT_STATUS_SAT : Fld := ⟨.filt, 0x10, 0x0, 1, 3, 1, .w1c, .live, 0, 0, 1⟩
/-- R274 -/
def FILT_STATUS_OVF : Fld := ⟨.filt, 0x10, 0x0, 1, 4, 1, .w1c, .live, 0, 0, 1⟩
/-- A swap took effect -/
def FILT_STATUS_SWAPPED : Fld := ⟨.filt, 0x10, 0x0, 1, 5, 1, .w1c, .live, 0, 0, 1⟩
/-- QUAL is HELD -/
def FILT_STATUS_HELD : Fld := ⟨.filt, 0x10, 0x0, 1, 6, 1, .ro, .live, 0, 0, 1⟩
/-- R276 -/
def FILT_STATUS_XFADING : Fld := ⟨.filt, 0x10, 0x0, 1, 7, 1, .ro, .live, 0, 0, 1⟩
/-- R276 -/
def FILT_STATUS_PENDING : Fld := ⟨.filt, 0x10, 0x0, 1, 8, 1, .ro, .live, 0, 0, 1⟩
/-- Active bank; writable while stopped -/
def FILT_STATUS_BANK : Fld := ⟨.filt, 0x10, 0x0, 1, 9, 1, .rw, .held, 0, 0, 1⟩
/-- R278 -/
def FILT_STATUS_HI_LEVEL : Fld := ⟨.filt, 0x10, 0x0, 1, 10, 1, .ro, .live, 0, 0, 1⟩
/-- R278 -/
def FILT_STATUS_LO_LEVEL : Fld := ⟨.filt, 0x10, 0x0, 1, 11, 1, .ro, .live, 0, 0, 1⟩
-- FILT.INT_EN (R280)
/-- Bit j enables STATUS bit j -/
def FILT_INT_EN_EN : Fld := ⟨.filt, 0x14, 0x0, 1, 0, 6, .rw, .live, 0, 0, 0x3f⟩
-- FILT.OUT (R280)
/-- y, signed -/
def FILT_OUT_VALUE : Fld := ⟨.filt, 0x18, 0x0, 1, 0, 32, .ro, .live, 0, 0, 0xffffffff⟩
-- FILT.OUTQ (R280)
/-- 0 NONE, 1 FRESH, 2 HELD, 3 RESUMED -/
def FILT_OUTQ_QUAL : Fld := ⟨.filt, 0x1c, 0x0, 1, 0, 2, .ro, .live, 0, 0, 3⟩
/-- Outputs, modulo 2¹⁶ -/
def FILT_OUTQ_COUNT : Fld := ⟨.filt, 0x1c, 0x0, 1, 16, 16, .ro, .live, 0, 0, 0xffff⟩
-- FILT.OUT_TIME (R280)
/-- R279, LO then HI -/
def FILT_OUT_TIME_NS : Fld := ⟨.filt, 0x20, 0x0, 1, 0, 64, .ro, .live, 0, 0, 0xffffffffffffffff⟩
-- FILT.TH_HI (R280)
/-- Signed -/
def FILT_TH_HI_TH : Fld := ⟨.filt, 0x28, 0x0, 1, 0, 32, .rw, .live, 0x7fffffff, 0, 0xffffffff⟩
-- FILT.TH_LO (R280)
/-- Signed -/
def FILT_TH_LO_TH : Fld := ⟨.filt, 0x2c, 0x0, 1, 0, 32, .rw, .live, 0x80000000, 0, 0xffffffff⟩
-- FILT.HYST (R280)
/-- Unsigned -/
def FILT_HYST_HYST : Fld := ⟨.filt, 0x30, 0x0, 1, 0, 31, .rw, .live, 0, 0, 0x7fffffff⟩
/-- R278 -/
def FILT_HYST_TRIP_EN : Fld := ⟨.filt, 0x30, 0x0, 1, 31, 1, .rw, .live, 0, 0, 1⟩
-- FILT.IN (R280)
/-- Software sample (R272) -/
def FILT_IN_X : Fld := ⟨.filt, 0x34, 0x0, 1, 0, 24, .wo, .live, 0, 0, 0xffffff⟩
-- FILT.OUT_BASE (R280)
/-- Cupola address (R279) -/
def FILT_OUT_BASE_ADDR : Fld := ⟨.filt, 0x38, 0x0, 1, 3, 23, .rw, .held, 0, 0, 0x7fffff⟩
-- FILT.ERR_CODE (R26)
/-- First refusal code (R9, R10) -/
def FILT_ERR_CODE : Fld := ⟨.filt, 0xf0, 0x0, 1, 0, 8, .ro, .live, 0, 0, 0xff⟩
-- FILT.ERR_OFFSET (R26)
/-- Offset of the refused write -/
def FILT_ERR_OFFSET : Fld := ⟨.filt, 0xf0, 0x0, 1, 8, 12, .ro, .live, 0, 0, 0xfff⟩
-- FILT.ERR_OFFSET_HI (R26)
/-- Offset bits [21:12] -/
def FILT_ERR_OFFSET_HI : Fld := ⟨.filt, 0xf0, 0x0, 1, 20, 10, .ro, .live, 0, 0, 0x3ff⟩
-- FILT.ERR_CLEAR (R26)
/-- Clears CODE, OFFSET, OFFSET_HI and MORE -/
def FILT_ERR_CLEAR : Fld := ⟨.filt, 0xf0, 0x0, 1, 30, 1, .wo, .live, 0, 0, 1⟩
-- FILT.ERR_MORE (R26)
/-- A further refusal occurred (R10) -/
def FILT_ERR_MORE : Fld := ⟨.filt, 0xf0, 0x0, 1, 31, 1, .w1c, .live, 0, 0, 1⟩

/-- Every field of block FILT. -/
def FILT_fields : List Fld :=
  [FILT_CTRL_EN, FILT_CTRL_SWAP, FILT_CTRL_PRESET, FILT_CFG_SRC, FILT_CFG_SRC_A, FILT_CFG_SRC_B, FILT_CFG_SETTLE, FILT_CFG_CUP_EN, FILT_CFG_TAPS, FILT_CFG_DECIM, FILT_CFG_ISHIFT, FILT_OUTCFG_OSHIFT, FILT_OUTCFG_TIMEOUT, FILT_XFADE_LOG2, FILT_STATUS_OUT, FILT_STATUS_HI, FILT_STATUS_LO, FILT_STATUS_SAT, FILT_STATUS_OVF, FILT_STATUS_SWAPPED, FILT_STATUS_HELD, FILT_STATUS_XFADING, FILT_STATUS_PENDING, FILT_STATUS_BANK]
  ++ [FILT_STATUS_HI_LEVEL, FILT_STATUS_LO_LEVEL, FILT_INT_EN_EN, FILT_OUT_VALUE, FILT_OUTQ_QUAL, FILT_OUTQ_COUNT, FILT_OUT_TIME_NS, FILT_TH_HI_TH, FILT_TH_LO_TH, FILT_HYST_HYST, FILT_HYST_TRIP_EN, FILT_IN_X, FILT_OUT_BASE_ADDR, FILT_ERR_CODE, FILT_ERR_OFFSET, FILT_ERR_OFFSET_HI, FILT_ERR_CLEAR, FILT_ERR_MORE]

-- OCULUS.CTRL (R287)
/-- Start (R284, R285) -/
def OCULUS_CTRL_ARM : Fld := ⟨.oculus, 0x0, 0x0, 1, 0, 1, .wo, .live, 0, 0, 1⟩
/-- R285 -/
def OCULUS_CTRL_STOP : Fld := ⟨.oculus, 0x0, 0x0, 1, 1, 1, .wo, .live, 0, 0, 1⟩
/-- Condition SEL 6 -/
def OCULUS_CTRL_FORCE : Fld := ⟨.oculus, 0x0, 0x0, 1, 2, 1, .wo, .live, 0, 0, 1⟩
/-- R285 -/
def OCULUS_CTRL_REPEAT : Fld := ⟨.oculus, 0x0, 0x0, 1, 3, 1, .rw, .held, 0, 0, 1⟩
/-- R286 -/
def OCULUS_CTRL_STOP_VIOL : Fld := ⟨.oculus, 0x0, 0x0, 1, 4, 1, .rw, .held, 1, 0, 1⟩
-- OCULUS.STATUS (R287)
/-- R285 -/
def OCULUS_STATUS_DONE : Fld := ⟨.oculus, 0x4, 0x0, 1, 0, 1, .w1c, .live, 0, 0, 1⟩
/-- R286 -/
def OCULUS_STATUS_VIOL : Fld := ⟨.oculus, 0x4, 0x0, 1, 1, 1, .w1c, .live, 0, 0, 1⟩
/-- R283 -/
def OCULUS_STATUS_DROP : Fld := ⟨.oculus, 0x4, 0x0, 1, 2, 1, .w1c, .live, 0, 0, 1⟩
/-- R285 -/
def OCULUS_STATUS_PRE_SHORT : Fld := ⟨.oculus, 0x4, 0x0, 1, 3, 1, .w1c, .live, 0, 0, 1⟩
/-- Trigger fired in this capture -/
def OCULUS_STATUS_TRIGGERED : Fld := ⟨.oculus, 0x4, 0x0, 1, 4, 1, .ro, .live, 0, 0, 1⟩
/-- Acquisition running -/
def OCULUS_STATUS_RUNNING : Fld := ⟨.oculus, 0x4, 0x0, 1, 5, 1, .ro, .live, 0, 0, 1⟩
/-- Sequencer state -/
def OCULUS_STATUS_STATE : Fld := ⟨.oculus, 0x4, 0x0, 1, 8, 3, .ro, .live, 0, 0, 7⟩
/-- Captures completed, modulo 2¹⁶ -/
def OCULUS_STATUS_CAPTURES : Fld := ⟨.oculus, 0x4, 0x0, 1, 16, 16, .ro, .live, 0, 0, 0xffff⟩
-- OCULUS.INT_EN (R287)
/-- Bit j enables STATUS bit j -/
def OCULUS_INT_EN_EN : Fld := ⟨.oculus, 0x8, 0x0, 1, 0, 4, .rw, .live, 0, 0, 0xf⟩
-- OCULUS.STROBE (R287)
/-- R281; 3 refused with E_VALUE -/
def OCULUS_STROBE_SRC : Fld := ⟨.oculus, 0xc, 0x0, 1, 0, 2, .rw, .held, 0, 0, 2⟩
/-- ADC or filter -/
def OCULUS_STROBE_INDEX : Fld := ⟨.oculus, 0xc, 0x0, 1, 4, 4, .rw, .held, 0, 0, 0xf⟩
/-- 1–65,535; 0 refused with E_VALUE -/
def OCULUS_STROBE_DIV : Fld := ⟨.oculus, 0xc, 0x0, 1, 8, 16, .rw, .held, 1, 1, 0xffff⟩
/-- 0–16; above refused with E_VALUE -/
def OCULUS_STROBE_IAVG : Fld := ⟨.oculus, 0xc, 0x0, 1, 24, 5, .rw, .held, 0, 0, 0x10⟩
-- OCULUS.BUF_BASE (R287)
/-- DRAM address, bits [31:0], then [39:32] -/
def OCULUS_BUF_BASE_ADDR : Fld := ⟨.oculus, 0x10, 0x0, 1, 6, 34, .rw, .held, 0, 0, 0x3ffffffff⟩
-- OCULUS.BUF (R287)
/-- Ring of 2^LOG2 records, 4–26; others refused with E_VALUE -/
def OCULUS_BUF_LOG2 : Fld := ⟨.oculus, 0x18, 0x0, 1, 0, 5, .rw, .held, 0xa, 4, 0x1a⟩
-- OCULUS.PRE (R287)
/-- Pre-trigger records -/
def OCULUS_PRE_RECORDS : Fld := ⟨.oculus, 0x1c, 0x0, 1, 0, 26, .rw, .held, 0, 0, 0x3ffffff⟩
-- OCULUS.POST (R287)
/-- Post-trigger records; 0 refused with E_VALUE -/
def OCULUS_POST_RECORDS : Fld := ⟨.oculus, 0x20, 0x0, 1, 0, 26, .rw, .held, 1, 1, 0x3ffffff⟩
-- OCULUS.MASK_BASE (R287)
/-- Cupola address of the mask -/
def OCULUS_MASK_BASE_ADDR : Fld := ⟨.oculus, 0x24, 0x0, 1, 3, 23, .rw, .held, 0, 0, 0x7fffff⟩
-- OCULUS.MASK (R287)
/-- Probes tested -/
def OCULUS_MASK_EN : Fld := ⟨.oculus, 0x28, 0x0, 1, 0, 12, .rw, .held, 0, 0, 0xfff⟩
/-- Records tested from T -/
def OCULUS_MASK_LEN : Fld := ⟨.oculus, 0x28, 0x0, 1, 16, 12, .rw, .held, 0, 0, 0xfff⟩
-- OCULUS.WR_IDX (R287)
/-- Records closed since ARM -/
def OCULUS_WR_IDX_IDX : Fld := ⟨.oculus, 0x2c, 0x0, 1, 0, 32, .ro, .live, 0, 0, 0xffffffff⟩
-- OCULUS.TRIG_IDX (R287)
/-- T -/
def OCULUS_TRIG_IDX_IDX : Fld := ⟨.oculus, 0x30, 0x0, 1, 0, 32, .ro, .live, 0, 0, 0xffffffff⟩
-- OCULUS.VIOL_IDX (R287)
/-- First violating record -/
def OCULUS_VIOL_IDX_IDX : Fld := ⟨.oculus, 0x34, 0x0, 1, 0, 32, .ro, .live, 0, 0, 0xffffffff⟩
-- OCULUS.VIOL_PROBES (R287)
/-- Its violating probes -/
def OCULUS_VIOL_PROBES_P : Fld := ⟨.oculus, 0x38, 0x0, 1, 0, 12, .ro, .live, 0, 0, 0xfff⟩
-- OCULUS.DROP_CNT (R287)
/-- Dropped records, modulo 2³² -/
def OCULUS_DROP_CNT_COUNT : Fld := ⟨.oculus, 0x3c, 0x0, 1, 0, 32, .ro, .live, 0, 0, 0xffffffff⟩
-- OCULUS.PROBE (R287)
/-- R281; 5–7 refused with E_VALUE -/
def OCULUS_PROBE_SRC : Fld := ⟨.oculus, 0x40, 0x4, 12, 0, 3, .rw, .held, 0, 0, 4⟩
/-- 0 MEAN, 1 MIN, 2 MAX, 3 LAST -/
def OCULUS_PROBE_MODE : Fld := ⟨.oculus, 0x40, 0x4, 12, 3, 2, .rw, .held, 0, 0, 3⟩
/-- Source block -/
def OCULUS_PROBE_A : Fld := ⟨.oculus, 0x40, 0x4, 12, 5, 4, .rw, .held, 0, 0, 0xf⟩
/-- Entry or channel -/
def OCULUS_PROBE_B : Fld := ⟨.oculus, 0x40, 0x4, 12, 9, 4, .rw, .held, 0, 0, 0xf⟩
/-- Cell id -/
def OCULUS_PROBE_CELL : Fld := ⟨.oculus, 0x40, 0x4, 12, 13, 12, .rw, .held, 0, 0, 0xfff⟩
/-- Word of the entry -/
def OCULUS_PROBE_WORD : Fld := ⟨.oculus, 0x40, 0x4, 12, 25, 5, .rw, .held, 0, 0, 0x1f⟩
-- OCULUS.SEQ_COND (R287)
/-- R284 -/
def OCULUS_SEQ_COND_SEL : Fld := ⟨.oculus, 0x100, 0x10, 8, 0, 3, .rw, .held, 7, 0, 7⟩
/-- Probe, filter, trip or capture input -/
def OCULUS_SEQ_COND_ARG : Fld := ⟨.oculus, 0x100, 0x10, 8, 4, 4, .rw, .held, 0, 0, 0xf⟩
/-- 0–5; 6, 7 refused with E_VALUE -/
def OCULUS_SEQ_COND_OP : Fld := ⟨.oculus, 0x100, 0x10, 8, 8, 3, .rw, .held, 0, 0, 5⟩
/-- Fire the trigger on a match -/
def OCULUS_SEQ_COND_TRIG : Fld := ⟨.oculus, 0x100, 0x10, 8, 11, 1, .rw, .held, 0, 0, 1⟩
/-- State on a match -/
def OCULUS_SEQ_COND_NEXT : Fld := ⟨.oculus, 0x100, 0x10, 8, 12, 3, .rw, .held, 0, 0, 7⟩
/-- State on a timeout -/
def OCULUS_SEQ_COND_TO_NEXT : Fld := ⟨.oculus, 0x100, 0x10, 8, 16, 3, .rw, .held, 0, 0, 7⟩
-- OCULUS.SEQ_A (R287)
/-- Signed -/
def OCULUS_SEQ_A_A : Fld := ⟨.oculus, 0x104, 0x10, 8, 0, 32, .rw, .held, 0, 0, 0xffffffff⟩
-- OCULUS.SEQ_B (R287)
/-- Signed -/
def OCULUS_SEQ_B_B : Fld := ⟨.oculus, 0x108, 0x10, 8, 0, 32, .rw, .held, 0, 0, 0xffffffff⟩
-- OCULUS.SEQ_COUNT (R287)
/-- 1–65,535; 0 refused with E_VALUE -/
def OCULUS_SEQ_COUNT_CNT : Fld := ⟨.oculus, 0x10c, 0x10, 8, 0, 16, .rw, .held, 1, 1, 0xffff⟩
/-- Records; 0: no timeout -/
def OCULUS_SEQ_COUNT_TO : Fld := ⟨.oculus, 0x10c, 0x10, 8, 16, 16, .rw, .held, 0, 0, 0xffff⟩
-- OCULUS.ERR_CODE (R26)
/-- First refusal code (R9, R10) -/
def OCULUS_ERR_CODE : Fld := ⟨.oculus, 0xf0, 0x0, 1, 0, 8, .ro, .live, 0, 0, 0xff⟩
-- OCULUS.ERR_OFFSET (R26)
/-- Offset of the refused write -/
def OCULUS_ERR_OFFSET : Fld := ⟨.oculus, 0xf0, 0x0, 1, 8, 12, .ro, .live, 0, 0, 0xfff⟩
-- OCULUS.ERR_OFFSET_HI (R26)
/-- Offset bits [21:12] -/
def OCULUS_ERR_OFFSET_HI : Fld := ⟨.oculus, 0xf0, 0x0, 1, 20, 10, .ro, .live, 0, 0, 0x3ff⟩
-- OCULUS.ERR_CLEAR (R26)
/-- Clears CODE, OFFSET, OFFSET_HI and MORE -/
def OCULUS_ERR_CLEAR : Fld := ⟨.oculus, 0xf0, 0x0, 1, 30, 1, .wo, .live, 0, 0, 1⟩
-- OCULUS.ERR_MORE (R26)
/-- A further refusal occurred (R10) -/
def OCULUS_ERR_MORE : Fld := ⟨.oculus, 0xf0, 0x0, 1, 31, 1, .w1c, .live, 0, 0, 1⟩

/-- Every field of block OCULUS. -/
def OCULUS_fields : List Fld :=
  [OCULUS_CTRL_ARM, OCULUS_CTRL_STOP, OCULUS_CTRL_FORCE, OCULUS_CTRL_REPEAT, OCULUS_CTRL_STOP_VIOL, OCULUS_STATUS_DONE, OCULUS_STATUS_VIOL, OCULUS_STATUS_DROP, OCULUS_STATUS_PRE_SHORT, OCULUS_STATUS_TRIGGERED, OCULUS_STATUS_RUNNING, OCULUS_STATUS_STATE, OCULUS_STATUS_CAPTURES, OCULUS_INT_EN_EN, OCULUS_STROBE_SRC, OCULUS_STROBE_INDEX, OCULUS_STROBE_DIV, OCULUS_STROBE_IAVG, OCULUS_BUF_BASE_ADDR, OCULUS_BUF_LOG2, OCULUS_PRE_RECORDS, OCULUS_POST_RECORDS, OCULUS_MASK_BASE_ADDR, OCULUS_MASK_EN]
  ++ [OCULUS_MASK_LEN, OCULUS_WR_IDX_IDX, OCULUS_TRIG_IDX_IDX, OCULUS_VIOL_IDX_IDX, OCULUS_VIOL_PROBES_P, OCULUS_DROP_CNT_COUNT, OCULUS_PROBE_SRC, OCULUS_PROBE_MODE, OCULUS_PROBE_A, OCULUS_PROBE_B, OCULUS_PROBE_CELL, OCULUS_PROBE_WORD, OCULUS_SEQ_COND_SEL, OCULUS_SEQ_COND_ARG, OCULUS_SEQ_COND_OP, OCULUS_SEQ_COND_TRIG, OCULUS_SEQ_COND_NEXT, OCULUS_SEQ_COND_TO_NEXT, OCULUS_SEQ_A_A, OCULUS_SEQ_B_B, OCULUS_SEQ_COUNT_CNT, OCULUS_SEQ_COUNT_TO, OCULUS_ERR_CODE, OCULUS_ERR_OFFSET]
  ++ [OCULUS_ERR_OFFSET_HI, OCULUS_ERR_CLEAR, OCULUS_ERR_MORE]

-- PWM.CTRL (R306)
/-- Pair runs from PHASE (R289) -/
def PWM_CTRL_EN : Fld := ⟨.pwm, 0x0, 0x0, 1, 0, 1, .rw, .tick, 0, 0, 1⟩
/-- Pins driven (R288) -/
def PWM_CTRL_OE : Fld := ⟨.pwm, 0x0, 0x0, 1, 1, 1, .rw, .live, 0, 0, 1⟩
/-- R289; 3 refused with E_VALUE -/
def PWM_CTRL_MODE : Fld := ⟨.pwm, 0x0, 0x0, 1, 2, 2, .rw, .held, 0, 0, 2⟩
/-- R296; 3 refused with E_VALUE -/
def PWM_CTRL_LOAD : Fld := ⟨.pwm, 0x0, 0x0, 1, 4, 2, .rw, .held, 1, 0, 2⟩
/-- R289 -/
def PWM_CTRL_RELOAD_PEAK : Fld := ⟨.pwm, 0x0, 0x0, 1, 6, 1, .rw, .held, 0, 0, 1⟩
/-- R291 -/
def PWM_CTRL_INTLK_MODE : Fld := ⟨.pwm, 0x0, 0x0, 1, 7, 1, .rw, .held, 0, 0, 1⟩
/-- R292 -/
def PWM_CTRL_SINGLE : Fld := ⟨.pwm, 0x0, 0x0, 1, 8, 1, .rw, .held, 0, 0, 1⟩
-- PWM.PERIOD (R306)
/-- R289 -/
def PWM_PERIOD_PERIOD : Fld := ⟨.pwm, 0x4, 0x0, 1, 0, 20, .rw, .reload, 0x7a12, 0, 0xfffff⟩
-- PWM.CMP (R306)
/-- R289 -/
def PWM_CMP_CMP : Fld := ⟨.pwm, 0x8, 0x0, 1, 0, 20, .rw, .reload, 0, 0, 0xfffff⟩
-- PWM.DEAD (R306)
/-- Before A turns on -/
def PWM_DEAD_DT_RISE : Fld := ⟨.pwm, 0xc, 0x0, 1, 0, 12, .rw, .reload, 0x271, 0, 0xfff⟩
/-- Before B turns on -/
def PWM_DEAD_DT_FALL : Fld := ⟨.pwm, 0xc, 0x0, 1, 16, 12, .rw, .reload, 0x271, 0, 0xfff⟩
-- PWM.INTLK_TO (R306)
/-- FAB clocks; below DT_RISE or DT_FALL refused with E_RANGE -/
def PWM_INTLK_TO_TO : Fld := ⟨.pwm, 0x10, 0x0, 1, 0, 16, .rw, .held, 0x1388, 0, 0xffff⟩
-- PWM.REFRESH (R306)
/-- R293; 0 refused with E_VALUE -/
def PWM_REFRESH_HS_MAX : Fld := ⟨.pwm, 0x14, 0x0, 1, 0, 20, .rw, .held, 0xf424, 1, 0xfffff⟩
/-- R293; 0 refused with E_VALUE -/
def PWM_REFRESH_RFSH_LEN : Fld := ⟨.pwm, 0x14, 0x0, 1, 20, 12, .rw, .held, 0x271, 1, 0xfff⟩
-- PWM.PHASE (R306)
/-- Start count (R289) -/
def PWM_PHASE_PHASE : Fld := ⟨.pwm, 0x18, 0x0, 1, 0, 20, .rw, .held, 0, 0, 0xfffff⟩
-- PWM.TRIG (R306)
/-- R297 -/
def PWM_TRIG_CNT : Fld := ⟨.pwm, 0x1c, 0x0, 1, 0, 20, .rw, .reload, 0, 0, 0xfffff⟩
/-- 3 refused with E_VALUE -/
def PWM_TRIG_DIR : Fld := ⟨.pwm, 0x1c, 0x0, 1, 20, 2, .rw, .reload, 0, 0, 2⟩
/-- Trigger output on -/
def PWM_TRIG_EN : Fld := ⟨.pwm, 0x1c, 0x0, 1, 22, 1, .rw, .reload, 0, 0, 1⟩
-- PWM.FORCE (R306)
/-- 0 none, 1 off, 2 on; 3 refused with E_VALUE -/
def PWM_FORCE_FORCE_A : Fld := ⟨.pwm, 0x20, 0x0, 1, 0, 2, .rw, .live, 0, 0, 2⟩
/-- As FORCE_A -/
def PWM_FORCE_FORCE_B : Fld := ⟨.pwm, 0x20, 0x0, 1, 2, 2, .rw, .live, 0, 0, 2⟩
-- PWM.STATUS (R306)
/-- R301, R302 -/
def PWM_STATUS_TRIP : Fld := ⟨.pwm, 0x24, 0x0, 1, 0, 1, .w1c, .live, 0, 0, 1⟩
/-- R295, R302 -/
def PWM_STATUS_SHOOT : Fld := ⟨.pwm, 0x24, 0x0, 1, 1, 1, .w1c, .live, 0, 0, 1⟩
/-- R291, R302 -/
def PWM_STATUS_INTLK : Fld := ⟨.pwm, 0x24, 0x0, 1, 2, 1, .w1c, .live, 0, 0, 1⟩
/-- R296 -/
def PWM_STATUS_LATE_UPDATE : Fld := ⟨.pwm, 0x24, 0x0, 1, 3, 1, .w1c, .live, 0, 0, 1⟩
/-- R293 -/
def PWM_STATUS_REFRESH : Fld := ⟨.pwm, 0x24, 0x0, 1, 4, 1, .w1c, .live, 0, 0, 1⟩
/-- A reload occurred -/
def PWM_STATUS_RELOAD : Fld := ⟨.pwm, 0x24, 0x0, 1, 5, 1, .w1c, .live, 0, 0, 1⟩
/-- R293 -/
def PWM_STATUS_CP : Fld := ⟨.pwm, 0x24, 0x0, 1, 6, 1, .ro, .live, 0, 0, 1⟩
/-- Applied EN -/
def PWM_STATUS_RUNNING : Fld := ⟨.pwm, 0x24, 0x0, 1, 7, 1, .ro, .live, 0, 0, 1⟩
/-- Present state of A, B -/
def PWM_STATUS_OUT : Fld := ⟨.pwm, 0x24, 0x0, 1, 8, 2, .ro, .live, 0, 0, 3⟩
/-- Synchronised GFBnA, GFBnB -/
def PWM_STATUS_GFB : Fld := ⟨.pwm, 0x24, 0x0, 1, 10, 2, .ro, .live, 0, 0, 3⟩
-- PWM.INT_EN (R306)
/-- Bit j enables STATUS bit j -/
def PWM_INT_EN_EN : Fld := ⟨.pwm, 0x28, 0x0, 1, 0, 6, .rw, .live, 0, 0, 0x3f⟩
-- PWM.COUNT (R306)
/-- Present count -/
def PWM_COUNT_COUNT : Fld := ⟨.pwm, 0x2c, 0x0, 1, 0, 20, .ro, .live, 0, 0, 0xfffff⟩
/-- Counting down -/
def PWM_COUNT_DOWN : Fld := ⟨.pwm, 0x2c, 0x0, 1, 20, 1, .ro, .live, 0, 0, 1⟩
-- PWM.ERR_CODE (R26)
/-- First refusal code (R9, R10) -/
def PWM_ERR_CODE : Fld := ⟨.pwm, 0xf0, 0x0, 1, 0, 8, .ro, .live, 0, 0, 0xff⟩
-- PWM.ERR_OFFSET (R26)
/-- Offset of the refused write -/
def PWM_ERR_OFFSET : Fld := ⟨.pwm, 0xf0, 0x0, 1, 8, 12, .ro, .live, 0, 0, 0xfff⟩
-- PWM.ERR_OFFSET_HI (R26)
/-- Offset bits [21:12] -/
def PWM_ERR_OFFSET_HI : Fld := ⟨.pwm, 0xf0, 0x0, 1, 20, 10, .ro, .live, 0, 0, 0x3ff⟩
-- PWM.ERR_CLEAR (R26)
/-- Clears CODE, OFFSET, OFFSET_HI and MORE -/
def PWM_ERR_CLEAR : Fld := ⟨.pwm, 0xf0, 0x0, 1, 30, 1, .wo, .live, 0, 0, 1⟩
-- PWM.ERR_MORE (R26)
/-- A further refusal occurred (R10) -/
def PWM_ERR_MORE : Fld := ⟨.pwm, 0xf0, 0x0, 1, 31, 1, .w1c, .live, 0, 0, 1⟩

/-- Every field of block PWM. -/
def PWM_fields : List Fld :=
  [PWM_CTRL_EN, PWM_CTRL_OE, PWM_CTRL_MODE, PWM_CTRL_LOAD, PWM_CTRL_RELOAD_PEAK, PWM_CTRL_INTLK_MODE, PWM_CTRL_SINGLE, PWM_PERIOD_PERIOD, PWM_CMP_CMP, PWM_DEAD_DT_RISE, PWM_DEAD_DT_FALL, PWM_INTLK_TO_TO, PWM_REFRESH_HS_MAX, PWM_REFRESH_RFSH_LEN, PWM_PHASE_PHASE, PWM_TRIG_CNT, PWM_TRIG_DIR, PWM_TRIG_EN, PWM_FORCE_FORCE_A, PWM_FORCE_FORCE_B, PWM_STATUS_TRIP, PWM_STATUS_SHOOT, PWM_STATUS_INTLK, PWM_STATUS_LATE_UPDATE]
  ++ [PWM_STATUS_REFRESH, PWM_STATUS_RELOAD, PWM_STATUS_CP, PWM_STATUS_RUNNING, PWM_STATUS_OUT, PWM_STATUS_GFB, PWM_INT_EN_EN, PWM_COUNT_COUNT, PWM_COUNT_DOWN, PWM_ERR_CODE, PWM_ERR_OFFSET, PWM_ERR_OFFSET_HI, PWM_ERR_CLEAR, PWM_ERR_MORE]

-- TRIP.GLOAD (R307)
/-- Arm load-all (R296) -/
def TRIP_GLOAD_PAIRS : Fld := ⟨.trip, 0x4, 0x0, 1, 0, 12, .wo, .live, 0, 0, 0xfff⟩
-- TRIP.TSTATUS (R307)
/-- Log not empty -/
def TRIP_TSTATUS_EVT : Fld := ⟨.trip, 0x8, 0x0, 1, 0, 1, .ro, .live, 0, 0, 1⟩
/-- R303 -/
def TRIP_TSTATUS_EVT_LOST : Fld := ⟨.trip, 0x8, 0x0, 1, 1, 1, .w1c, .live, 0, 0, 1⟩
/-- A source rose -/
def TRIP_TSTATUS_TRIPPED : Fld := ⟨.trip, 0x8, 0x0, 1, 2, 1, .w1c, .live, 0, 0, 1⟩
/-- Records waiting, 0–16 -/
def TRIP_TSTATUS_EVT_LEVEL : Fld := ⟨.trip, 0x8, 0x0, 1, 16, 5, .ro, .live, 0, 0, 0x1f⟩
-- TRIP.LEVEL (R307)
/-- Filtered inputs -/
def TRIP_LEVEL_TRIP : Fld := ⟨.trip, 0xc, 0x0, 1, 0, 16, .ro, .live, 0, 0, 0xffff⟩
/-- SVTRIP_0–7 -/
def TRIP_LEVEL_SV : Fld := ⟨.trip, 0xc, 0x0, 1, 16, 8, .ro, .live, 0, 0, 0xff⟩
-- TRIP.FLEVEL (R307)
/-- FTRIP_0–15 -/
def TRIP_FLEVEL_FILT : Fld := ⟨.trip, 0x10, 0x0, 1, 0, 16, .ro, .live, 0, 0, 0xffff⟩
-- TRIP.INT_EN (R307)
/-- Bit j enables TSTATUS bit j -/
def TRIP_INT_EN_EN : Fld := ⟨.trip, 0x14, 0x0, 1, 0, 3, .rw, .live, 0, 0, 7⟩
-- TRIP.TIN (R307)
/-- FAB clocks (R298) -/
def TRIP_TIN_FILT : Fld := ⟨.trip, 0x40, 0x4, 16, 0, 10, .rw, .live, 0x10, 0, 0x3ff⟩
/-- 1: asserted low -/
def TRIP_TIN_POL : Fld := ⟨.trip, 0x40, 0x4, 16, 10, 1, .rw, .live, 0, 0, 1⟩
/-- 0 desaturation level; 1 hard short (R299) -/
def TRIP_TIN_CLASS : Fld := ⟨.trip, 0x40, 0x4, 16, 11, 1, .rw, .live, 0, 0, 1⟩
/-- Pair; 12–15 refused with E_VALUE -/
def TRIP_TIN_BLK_PAIR : Fld := ⟨.trip, 0x40, 0x4, 16, 12, 4, .rw, .live, 0, 0, 0xb⟩
/-- 0 A, 1 B -/
def TRIP_TIN_BLK_OUT : Fld := ⟨.trip, 0x40, 0x4, 16, 16, 1, .rw, .live, 0, 0, 1⟩
-- TRIP.TBLK (R307)
/-- FAB clocks after turn-on -/
def TRIP_TBLK_BLK_ON : Fld := ⟨.trip, 0x80, 0x4, 16, 0, 10, .rw, .live, 0, 0, 0x3ff⟩
/-- FAB clocks after turn-off -/
def TRIP_TBLK_BLK_OFF : Fld := ⟨.trip, 0x80, 0x4, 16, 16, 10, .rw, .live, 0, 0, 0x3ff⟩
-- TRIP.MAP (R307)
/-- R301 -/
def TRIP_MAP_PAIRS : Fld := ⟨.trip, 0x100, 0x4, 40, 0, 12, .rw, .live, 0, 0, 0xfff⟩
/-- R301, R114 -/
def TRIP_MAP_ARMS : Fld := ⟨.trip, 0x100, 0x4, 40, 16, 8, .rw, .live, 0, 0, 0xff⟩
-- TRIP.TEVT0 (R307)
/-- Read latches the head record -/
def TRIP_TEVT0_TIME_LO : Fld := ⟨.trip, 0x200, 0x0, 1, 0, 32, .ro, .live, 0, 0, 0xffffffff⟩
-- TRIP.TEVT1 (R307)
/-- TEVT1 -/
def TRIP_TEVT1_TIME_HI : Fld := ⟨.trip, 0x204, 0x0, 1, 0, 32, .ro, .live, 0, 0, 0xffffffff⟩
-- TRIP.TEVT2 (R307)
/-- Sources 0–15 that rose -/
def TRIP_TEVT2_TRIP : Fld := ⟨.trip, 0x208, 0x0, 1, 0, 16, .ro, .live, 0, 0, 0xffff⟩
/-- Sources 16–23 -/
def TRIP_TEVT2_SV : Fld := ⟨.trip, 0x208, 0x0, 1, 16, 8, .ro, .live, 0, 0, 0xff⟩
-- TRIP.TEVT3 (R307)
/-- Sources 24–39 -/
def TRIP_TEVT3_FILT : Fld := ⟨.trip, 0x20c, 0x0, 1, 0, 16, .ro, .live, 0, 0, 0xffff⟩
/-- R303 -/
def TRIP_TEVT3_SIMUL : Fld := ⟨.trip, 0x20c, 0x0, 1, 16, 1, .ro, .live, 0, 0, 1⟩
/-- A record was latched; the read removes it -/
def TRIP_TEVT3_VALID : Fld := ⟨.trip, 0x20c, 0x0, 1, 17, 1, .ro, .live, 0, 0, 1⟩
-- TRIP.DRV_CFG (R307)
/-- R304; below 15 refused with E_VALUE -/
def TRIP_DRV_CFG_DIV : Fld := ⟨.trip, 0x300, 0x0, 1, 0, 8, .rw, .held, 0xf, 15, 0xff⟩
/-- Bus runs -/
def TRIP_DRV_CFG_EN : Fld := ⟨.trip, 0x300, 0x0, 1, 8, 1, .rw, .live, 0, 0, 1⟩
-- TRIP.DRV_REQ (R307)
/-- Driver -/
def TRIP_DRV_REQ_DRV : Fld := ⟨.trip, 0x304, 0x0, 1, 0, 5, .wo, .live, 0, 0, 0x1f⟩
/-- 1: write -/
def TRIP_DRV_REQ_WRITE : Fld := ⟨.trip, 0x304, 0x0, 1, 5, 1, .wo, .live, 0, 0, 1⟩
/-- CDR address -/
def TRIP_DRV_REQ_ADDR : Fld := ⟨.trip, 0x304, 0x0, 1, 8, 8, .wo, .live, 0, 0, 0xff⟩
/-- Write data; the write pushes (R305) -/
def TRIP_DRV_REQ_DATA : Fld := ⟨.trip, 0x304, 0x0, 1, 16, 16, .wo, .live, 0, 0, 0xffff⟩
-- TRIP.DRV_RSP (R307)
/-- Returned status -/
def TRIP_DRV_RSP_STAT : Fld := ⟨.trip, 0x308, 0x0, 1, 0, 8, .ro, .live, 0, 0, 0xff⟩
/-- R304 -/
def TRIP_DRV_RSP_NOACK : Fld := ⟨.trip, 0x308, 0x0, 1, 8, 1, .ro, .live, 0, 0, 1⟩
/-- A response is present; the read pops it -/
def TRIP_DRV_RSP_VALID : Fld := ⟨.trip, 0x308, 0x0, 1, 9, 1, .ro, .live, 0, 0, 1⟩
/-- Read data -/
def TRIP_DRV_RSP_DATA : Fld := ⟨.trip, 0x308, 0x0, 1, 16, 16, .ro, .live, 0, 0, 0xffff⟩
-- TRIP.DRV_STATUS (R307)
/-- Requests waiting -/
def TRIP_DRV_STATUS_REQ : Fld := ⟨.trip, 0x30c, 0x0, 1, 0, 4, .ro, .live, 0, 0, 0xf⟩
/-- Responses waiting -/
def TRIP_DRV_STATUS_RSP : Fld := ⟨.trip, 0x30c, 0x0, 1, 8, 4, .ro, .live, 0, 0, 0xf⟩
/-- R305 -/
def TRIP_DRV_STATUS_RSP_LOST : Fld := ⟨.trip, 0x30c, 0x0, 1, 16, 1, .w1c, .live, 0, 0, 1⟩
-- TRIP.ERR_CODE (R26)
/-- First refusal code (R9, R10) -/
def TRIP_ERR_CODE : Fld := ⟨.trip, 0xf0, 0x0, 1, 0, 8, .ro, .live, 0, 0, 0xff⟩
-- TRIP.ERR_OFFSET (R26)
/-- Offset of the refused write -/
def TRIP_ERR_OFFSET : Fld := ⟨.trip, 0xf0, 0x0, 1, 8, 12, .ro, .live, 0, 0, 0xfff⟩
-- TRIP.ERR_OFFSET_HI (R26)
/-- Offset bits [21:12] -/
def TRIP_ERR_OFFSET_HI : Fld := ⟨.trip, 0xf0, 0x0, 1, 20, 10, .ro, .live, 0, 0, 0x3ff⟩
-- TRIP.ERR_CLEAR (R26)
/-- Clears CODE, OFFSET, OFFSET_HI and MORE -/
def TRIP_ERR_CLEAR : Fld := ⟨.trip, 0xf0, 0x0, 1, 30, 1, .wo, .live, 0, 0, 1⟩
-- TRIP.ERR_MORE (R26)
/-- A further refusal occurred (R10) -/
def TRIP_ERR_MORE : Fld := ⟨.trip, 0xf0, 0x0, 1, 31, 1, .w1c, .live, 0, 0, 1⟩

/-- Every field of block TRIP. -/
def TRIP_fields : List Fld :=
  [TRIP_GLOAD_PAIRS, TRIP_TSTATUS_EVT, TRIP_TSTATUS_EVT_LOST, TRIP_TSTATUS_TRIPPED, TRIP_TSTATUS_EVT_LEVEL, TRIP_LEVEL_TRIP, TRIP_LEVEL_SV, TRIP_FLEVEL_FILT, TRIP_INT_EN_EN, TRIP_TIN_FILT, TRIP_TIN_POL, TRIP_TIN_CLASS, TRIP_TIN_BLK_PAIR, TRIP_TIN_BLK_OUT, TRIP_TBLK_BLK_ON, TRIP_TBLK_BLK_OFF, TRIP_MAP_PAIRS, TRIP_MAP_ARMS, TRIP_TEVT0_TIME_LO, TRIP_TEVT1_TIME_HI, TRIP_TEVT2_TRIP, TRIP_TEVT2_SV, TRIP_TEVT3_FILT, TRIP_TEVT3_SIMUL]
  ++ [TRIP_TEVT3_VALID, TRIP_DRV_CFG_DIV, TRIP_DRV_CFG_EN, TRIP_DRV_REQ_DRV, TRIP_DRV_REQ_WRITE, TRIP_DRV_REQ_ADDR, TRIP_DRV_REQ_DATA, TRIP_DRV_RSP_STAT, TRIP_DRV_RSP_NOACK, TRIP_DRV_RSP_VALID, TRIP_DRV_RSP_DATA, TRIP_DRV_STATUS_REQ, TRIP_DRV_STATUS_RSP, TRIP_DRV_STATUS_RSP_LOST, TRIP_ERR_CODE, TRIP_ERR_OFFSET, TRIP_ERR_OFFSET_HI, TRIP_ERR_CLEAR, TRIP_ERR_MORE]

-- CAMPANILE.TIME_LO (R318)
/-- Time [31:0]; the read latches HI and FRAC (R309) -/
def CAMPANILE_TIME_LO_NS : Fld := ⟨.campanile, 0x0, 0x0, 1, 0, 32, .ro, .live, 0, 0, 0xffffffff⟩
-- CAMPANILE.TIME_HI (R318)
/-- Time [63:32] -/
def CAMPANILE_TIME_HI_NS : Fld := ⟨.campanile, 0x4, 0x0, 1, 0, 32, .ro, .live, 0, 0, 0xffffffff⟩
-- CAMPANILE.TIME_FRAC (R318)
/-- 2⁻³² ns -/
def CAMPANILE_TIME_FRAC_FRAC : Fld := ⟨.campanile, 0x8, 0x0, 1, 0, 32, .ro, .live, 0, 0, 0xffffffff⟩
-- CAMPANILE.INCR_FRAC (R318)
/-- Staged until INCR_NS is written -/
def CAMPANILE_INCR_FRAC_FRAC : Fld := ⟨.campanile, 0xc, 0x0, 1, 0, 32, .rw, .live, 0x9999999a, 0, 0xffffffff⟩
-- CAMPANILE.INCR_NS (R318)
/-- The write applies both fields (R308) -/
def CAMPANILE_INCR_NS_NS : Fld := ⟨.campanile, 0x10, 0x0, 1, 0, 4, .rw, .live, 1, 0, 0xf⟩
-- CAMPANILE.ADJ (R318)
/-- Signed (R310) -/
def CAMPANILE_ADJ_NS : Fld := ⟨.campanile, 0x14, 0x0, 1, 0, 32, .rw, .live, 0, 0, 0xffffffff⟩
-- CAMPANILE.ADJ_CTRL (R318)
/-- R310 -/
def CAMPANILE_ADJ_CTRL_STEP_GO : Fld := ⟨.campanile, 0x18, 0x0, 1, 0, 1, .wo, .live, 0, 0, 1⟩
/-- R310 -/
def CAMPANILE_ADJ_CTRL_SLEW_GO : Fld := ⟨.campanile, 0x18, 0x0, 1, 1, 1, .wo, .live, 0, 0, 1⟩
/-- R310 -/
def CAMPANILE_ADJ_CTRL_SET_GO : Fld := ⟨.campanile, 0x18, 0x0, 1, 2, 1, .wo, .live, 0, 0, 1⟩
-- CAMPANILE.SLEW_STEP (R318)
/-- 2⁻³² ns per edge; 0 refused with E_VALUE -/
def CAMPANILE_SLEW_STEP_STEP : Fld := ⟨.campanile, 0x1c, 0x0, 1, 0, 28, .rw, .live, 0x100000, 1, 0xfffffff⟩
-- CAMPANILE.SET (R318)
/-- LO then HI -/
def CAMPANILE_SET_NS : Fld := ⟨.campanile, 0x20, 0x0, 1, 0, 64, .rw, .live, 0, 0, 0xffffffffffffffff⟩
-- CAMPANILE.STATUS (R318)
/-- TIME_COARSE -/
def CAMPANILE_STATUS_COARSE : Fld := ⟨.campanile, 0x28, 0x0, 1, 0, 1, .ro, .live, 0, 0, 1⟩
/-- TIME_LOST -/
def CAMPANILE_STATUS_LOST : Fld := ⟨.campanile, 0x28, 0x0, 1, 1, 1, .ro, .live, 0, 0, 1⟩
/-- R310 -/
def CAMPANILE_STATUS_SLEWING : Fld := ⟨.campanile, 0x28, 0x0, 1, 2, 1, .ro, .live, 0, 0, 1⟩
/-- R314 -/
def CAMPANILE_STATUS_DISC_SKIP : Fld := ⟨.campanile, 0x28, 0x0, 1, 3, 1, .w1c, .live, 0, 0, 1⟩
/-- A timer or output caught up -/
def CAMPANILE_STATUS_MISSED : Fld := ⟨.campanile, 0x28, 0x0, 1, 4, 1, .w1c, .live, 0, 0, 1⟩
/-- R317 -/
def CAMPANILE_STATUS_CAP_OVF : Fld := ⟨.campanile, 0x28, 0x0, 1, 5, 1, .w1c, .live, 0, 0, 1⟩
/-- R312 -/
def CAMPANILE_STATUS_TXTS_OVF : Fld := ⟨.campanile, 0x28, 0x0, 1, 6, 1, .w1c, .live, 0, 0, 1⟩
/-- COARSE changed from 0 to 1 -/
def CAMPANILE_STATUS_COARSE_EV : Fld := ⟨.campanile, 0x28, 0x0, 1, 7, 1, .w1c, .live, 0, 0, 1⟩
/-- LOST changed from 0 to 1 -/
def CAMPANILE_STATUS_LOST_EV : Fld := ⟨.campanile, 0x28, 0x0, 1, 8, 1, .w1c, .live, 0, 0, 1⟩
-- CAMPANILE.STAT_EN (R318)
/-- Enables STATUS bits 3–8 -/
def CAMPANILE_STAT_EN_EN : Fld := ⟨.campanile, 0x2c, 0x0, 1, 3, 6, .rw, .live, 0, 0, 0x3f⟩
-- CAMPANILE.CLR (R318)
/-- R313 -/
def CAMPANILE_CLR_CLR_COARSE : Fld := ⟨.campanile, 0x30, 0x0, 1, 0, 1, .wo, .live, 0, 0, 1⟩
-- CAMPANILE.UNCERT (R318)
/-- R313 -/
def CAMPANILE_UNCERT_NS : Fld := ⟨.campanile, 0x34, 0x0, 1, 0, 64, .ro, .live, 0, 0, 0xffffffffffffffff⟩
-- CAMPANILE.OSC_TOL (R318)
/-- Lantern oscillator tolerance, ppb -/
def CAMPANILE_OSC_TOL_PPB : Fld := ⟨.campanile, 0x3c, 0x0, 1, 0, 24, .rw, .live, 0x186a0, 0, 0xffffff⟩
-- CAMPANILE.CYCLE (R318)
/-- R314 -/
def CAMPANILE_CYCLE_FAB : Fld := ⟨.campanile, 0x40, 0x0, 1, 0, 15, .rw, .tick, 0xc35, 0x61b, 0x7a12⟩
-- CAMPANILE.TICK_CTRL (R318)
/-- R314 -/
def CAMPANILE_TICK_CTRL_EN : Fld := ⟨.campanile, 0x44, 0x0, 1, 0, 1, .rw, .live, 0, 0, 1⟩
/-- R314 -/
def CAMPANILE_TICK_CTRL_DISC_EN : Fld := ⟨.campanile, 0x44, 0x0, 1, 1, 1, .rw, .tick, 0, 0, 1⟩
-- CAMPANILE.START (R318)
/-- First tick -/
def CAMPANILE_START_NS : Fld := ⟨.campanile, 0x48, 0x0, 1, 0, 64, .rw, .held, 0, 0, 0xffffffffffffffff⟩
-- CAMPANILE.TICK_ERR (R318)
/-- Signed, 2⁻⁸ ns per LSB -/
def CAMPANILE_TICK_ERR_E : Fld := ⟨.campanile, 0x50, 0x0, 1, 0, 32, .ro, .live, 0, 0, 0xffffffff⟩
-- CAMPANILE.ET_CTRL (R318)
/-- R315 -/
def CAMPANILE_ET_CTRL_MODE : Fld := ⟨.campanile, 0x100, 0x20, 16, 0, 2, .rw, .live, 0, 0, 3⟩
/-- Source 201 -/
def CAMPANILE_ET_CTRL_IE : Fld := ⟨.campanile, 0x100, 0x20, 16, 2, 1, .rw, .live, 0, 0, 1⟩
/-- R315 -/
def CAMPANILE_ET_CTRL_FIRED : Fld := ⟨.campanile, 0x100, 0x20, 16, 3, 1, .w1c, .live, 0, 0, 1⟩
/-- R315 -/
def CAMPANILE_ET_CTRL_MISSED : Fld := ⟨.campanile, 0x100, 0x20, 16, 4, 1, .w1c, .live, 0, 0, 1⟩
-- CAMPANILE.ET (R318)
/-- ns -/
def CAMPANILE_ET_TARGET : Fld := ⟨.campanile, 0x104, 0x20, 16, 0, 64, .rw, .held, 0, 0, 0xffffffffffffffff⟩
/-- ns in mode 2, FAB clocks in mode 3; 0 in mode 2 refused with E_VALUE -/
def CAMPANILE_ET_PERIOD : Fld := ⟨.campanile, 0x10c, 0x20, 16, 0, 32, .rw, .held, 0, 0, 0xffffffff⟩
/-- Firings, modulo 2³² -/
def CAMPANILE_ET_COUNT : Fld := ⟨.campanile, 0x110, 0x20, 16, 0, 32, .ro, .live, 0, 0, 0xffffffff⟩
/-- Last firing -/
def CAMPANILE_ET_FIRE_NS : Fld := ⟨.campanile, 0x114, 0x20, 16, 0, 64, .ro, .live, 0, 0, 0xffffffffffffffff⟩
-- CAMPANILE.TO_CTRL (R318)
/-- R316 -/
def CAMPANILE_TO_CTRL_MODE : Fld := ⟨.campanile, 0x300, 0x20, 4, 0, 2, .rw, .live, 0, 0, 3⟩
/-- Active level -/
def CAMPANILE_TO_CTRL_LEVEL : Fld := ⟨.campanile, 0x300, 0x20, 4, 2, 1, .rw, .held, 1, 0, 1⟩
/-- Pin driven -/
def CAMPANILE_TO_CTRL_OE : Fld := ⟨.campanile, 0x300, 0x20, 4, 3, 1, .rw, .live, 0, 0, 1⟩
/-- R316 -/
def CAMPANILE_TO_CTRL_DONE : Fld := ⟨.campanile, 0x300, 0x20, 4, 4, 1, .w1c, .live, 0, 0, 1⟩
/-- Source 203 -/
def CAMPANILE_TO_CTRL_IE : Fld := ⟨.campanile, 0x300, 0x20, 4, 5, 1, .rw, .live, 0, 0, 1⟩
-- CAMPANILE.TO (R318)
/-- ns -/
def CAMPANILE_TO_TARGET : Fld := ⟨.campanile, 0x304, 0x20, 4, 0, 64, .rw, .held, 0, 0, 0xffffffffffffffff⟩
/-- ns -/
def CAMPANILE_TO_WIDTH : Fld := ⟨.campanile, 0x30c, 0x20, 4, 0, 32, .rw, .held, 0x3e8, 0, 0xffffffff⟩
/-- ns -/
def CAMPANILE_TO_PERIOD : Fld := ⟨.campanile, 0x310, 0x20, 4, 0, 32, .rw, .held, 0x3b9aca00, 0, 0xffffffff⟩
-- CAMPANILE.CI_CTRL (R318)
/-- 0 off, 1 rising, 2 falling, 3 both -/
def CAMPANILE_CI_CTRL_EDGE : Fld := ⟨.campanile, 0x400, 0x20, 4, 0, 2, .rw, .live, 0, 0, 3⟩
/-- Source 202 -/
def CAMPANILE_CI_CTRL_IE : Fld := ⟨.campanile, 0x400, 0x20, 4, 2, 1, .rw, .live, 0, 0, 1⟩
-- CAMPANILE.CI (R318)
/-- LO read latches the head -/
def CAMPANILE_CI_TS : Fld := ⟨.campanile, 0x404, 0x20, 4, 0, 64, .ro, .live, 0, 0, 0xffffffffffffffff⟩
-- CAMPANILE.CI_TS_INFO (R318)
/-- Record latched; the read removes it -/
def CAMPANILE_CI_TS_INFO_VALID : Fld := ⟨.campanile, 0x40c, 0x20, 4, 0, 1, .ro, .live, 0, 0, 1⟩
/-- 1: rising edge -/
def CAMPANILE_CI_TS_INFO_RISE : Fld := ⟨.campanile, 0x40c, 0x20, 4, 1, 1, .ro, .live, 0, 0, 1⟩
/-- COARSE at capture -/
def CAMPANILE_CI_TS_INFO_COARSE : Fld := ⟨.campanile, 0x40c, 0x20, 4, 2, 1, .ro, .live, 0, 0, 1⟩
/-- Records waiting -/
def CAMPANILE_CI_TS_INFO_LEVEL : Fld := ⟨.campanile, 0x40c, 0x20, 4, 4, 3, .ro, .live, 0, 0, 7⟩
-- CAMPANILE.TXTS (R318)
/-- LO read latches the head -/
def CAMPANILE_TXTS_TS : Fld := ⟨.campanile, 0x500, 0x10, 4, 0, 64, .ro, .live, 0, 0, 0xffffffffffffffff⟩
/-- sequenceId -/
def CAMPANILE_TXTS_SEQID : Fld := ⟨.campanile, 0x508, 0x10, 4, 0, 16, .ro, .live, 0, 0, 0xffff⟩
/-- messageType -/
def CAMPANILE_TXTS_MSGTYPE : Fld := ⟨.campanile, 0x508, 0x10, 4, 16, 4, .ro, .live, 0, 0, 0xf⟩
/-- The read removes the entry -/
def CAMPANILE_TXTS_VALID : Fld := ⟨.campanile, 0x508, 0x10, 4, 24, 1, .ro, .live, 0, 0, 1⟩
-- CAMPANILE.ERR_CODE (R26)
/-- First refusal code (R9, R10) -/
def CAMPANILE_ERR_CODE : Fld := ⟨.campanile, 0xf0, 0x0, 1, 0, 8, .ro, .live, 0, 0, 0xff⟩
-- CAMPANILE.ERR_OFFSET (R26)
/-- Offset of the refused write -/
def CAMPANILE_ERR_OFFSET : Fld := ⟨.campanile, 0xf0, 0x0, 1, 8, 12, .ro, .live, 0, 0, 0xfff⟩
-- CAMPANILE.ERR_OFFSET_HI (R26)
/-- Offset bits [21:12] -/
def CAMPANILE_ERR_OFFSET_HI : Fld := ⟨.campanile, 0xf0, 0x0, 1, 20, 10, .ro, .live, 0, 0, 0x3ff⟩
-- CAMPANILE.ERR_CLEAR (R26)
/-- Clears CODE, OFFSET, OFFSET_HI and MORE -/
def CAMPANILE_ERR_CLEAR : Fld := ⟨.campanile, 0xf0, 0x0, 1, 30, 1, .wo, .live, 0, 0, 1⟩
-- CAMPANILE.ERR_MORE (R26)
/-- A further refusal occurred (R10) -/
def CAMPANILE_ERR_MORE : Fld := ⟨.campanile, 0xf0, 0x0, 1, 31, 1, .w1c, .live, 0, 0, 1⟩

/-- Every field of block CAMPANILE. -/
def CAMPANILE_fields : List Fld :=
  [CAMPANILE_TIME_LO_NS, CAMPANILE_TIME_HI_NS, CAMPANILE_TIME_FRAC_FRAC, CAMPANILE_INCR_FRAC_FRAC, CAMPANILE_INCR_NS_NS, CAMPANILE_ADJ_NS, CAMPANILE_ADJ_CTRL_STEP_GO, CAMPANILE_ADJ_CTRL_SLEW_GO, CAMPANILE_ADJ_CTRL_SET_GO, CAMPANILE_SLEW_STEP_STEP, CAMPANILE_SET_NS, CAMPANILE_STATUS_COARSE, CAMPANILE_STATUS_LOST, CAMPANILE_STATUS_SLEWING, CAMPANILE_STATUS_DISC_SKIP, CAMPANILE_STATUS_MISSED, CAMPANILE_STATUS_CAP_OVF, CAMPANILE_STATUS_TXTS_OVF, CAMPANILE_STATUS_COARSE_EV, CAMPANILE_STATUS_LOST_EV, CAMPANILE_STAT_EN_EN, CAMPANILE_CLR_CLR_COARSE, CAMPANILE_UNCERT_NS, CAMPANILE_OSC_TOL_PPB]
  ++ [CAMPANILE_CYCLE_FAB, CAMPANILE_TICK_CTRL_EN, CAMPANILE_TICK_CTRL_DISC_EN, CAMPANILE_START_NS, CAMPANILE_TICK_ERR_E, CAMPANILE_ET_CTRL_MODE, CAMPANILE_ET_CTRL_IE, CAMPANILE_ET_CTRL_FIRED, CAMPANILE_ET_CTRL_MISSED, CAMPANILE_ET_TARGET, CAMPANILE_ET_PERIOD, CAMPANILE_ET_COUNT, CAMPANILE_ET_FIRE_NS, CAMPANILE_TO_CTRL_MODE, CAMPANILE_TO_CTRL_LEVEL, CAMPANILE_TO_CTRL_OE, CAMPANILE_TO_CTRL_DONE, CAMPANILE_TO_CTRL_IE, CAMPANILE_TO_TARGET, CAMPANILE_TO_WIDTH, CAMPANILE_TO_PERIOD, CAMPANILE_CI_CTRL_EDGE, CAMPANILE_CI_CTRL_IE, CAMPANILE_CI_TS]
  ++ [CAMPANILE_CI_TS_INFO_VALID, CAMPANILE_CI_TS_INFO_RISE, CAMPANILE_CI_TS_INFO_COARSE, CAMPANILE_CI_TS_INFO_LEVEL, CAMPANILE_TXTS_TS, CAMPANILE_TXTS_SEQID, CAMPANILE_TXTS_MSGTYPE, CAMPANILE_TXTS_VALID, CAMPANILE_ERR_CODE, CAMPANILE_ERR_OFFSET, CAMPANILE_ERR_OFFSET_HI, CAMPANILE_ERR_CLEAR, CAMPANILE_ERR_MORE]

end Sys2Proof.Machine
end

