-- ==== Sys2Proof/Machine/RegsSys.lean ====
section
/-!
DEFINITION. Register fields of the blocks SYS: one descriptor per row of the register tables of the chapters
(offset, second-index stride and count, lowest bit, width, access type (R5), class (R6), reset value, legal range).
-/
namespace Sys2Proof.Machine

-- SYS.ID (R24)
/-- Device and stepping (R1) -/
def SYS_ID : Fld := ⟨.sys, 0x0, 0x0, 1, 0, 32, .ro, .live, 0x409600b1, 0, 0xffffffff⟩
-- SYS.PIPE_MODE (R25)
/-- 0: 32-cell rings; 1: 16-cell rings -/
def SYS_PIPE_MODE_RING_CELLS : Fld := ⟨.sys, 0x10, 0x0, 1, 0, 1, .rw, .held, 0, 0, 1⟩
-- SYS.PIPE_CFG (R25)
/-- Consecutive incomplete cycles before BLOCK (R22); 1–7, 0 refused with E_VALUE -/
def SYS_PIPE_CFG_OVR_LIMIT : Fld := ⟨.sys, 0x14, 0x0, 1, 0, 3, .rw, .tick, 2, 1, 7⟩
/-- Ring return deadline, FAB clocks after tick; 0 refused with E_VALUE; R19 applies -/
def SYS_PIPE_CFG_RET_DEADLINE : Fld := ⟨.sys, 0x14, 0x0, 1, 16, 16, .rw, .tick, 0x59e, 1, 0xffff⟩
-- SYS.PIPE_STATUS (R25)
/-- A frame was launched with HOLD (R22) -/
def SYS_PIPE_STATUS_OVERRUN : Fld := ⟨.sys, 0x18, 0x0, 1, 0, 1, .w1c, .live, 0, 0, 1⟩
/-- An arm reused its insertion count (R21) -/
def SYS_PIPE_STATUS_N_REUSED : Fld := ⟨.sys, 0x18, 0x0, 1, 1, 1, .w1c, .live, 0, 0, 1⟩
/-- A ring missed its return deadline (R17) -/
def SYS_PIPE_STATUS_RET_LATE : Fld := ⟨.sys, 0x18, 0x0, 1, 2, 1, .w1c, .live, 0, 0, 1⟩
/-- Reads 1 while any PIPE_OVR bit is set; writing 1 clears every PIPE_OVR bit and ends their … -/
def SYS_PIPE_STATUS_OVR_BLOCK : Fld := ⟨.sys, 0x18, 0x0, 1, 3, 1, .w1c, .live, 0, 0, 1⟩
/-- A ring reached OVR_LIMIT; source 3 (R26). Clearing it unblocks nothing -/
def SYS_PIPE_STATUS_OVR_NEW : Fld := ⟨.sys, 0x18, 0x0, 1, 4, 1, .w1c, .live, 0, 0, 1⟩
/-- Bit k set: arm k reused its count -/
def SYS_PIPE_STATUS_ARM_REUSED : Fld := ⟨.sys, 0x18, 0x0, 1, 8, 8, .w1c, .live, 0, 0, 0xff⟩
-- SYS.CYCLE_COUNT (R25)
/-- Ticks since reset, low word and high word. Reading LO latches HI for the next read of HI -/
def SYS_CYCLE_COUNT : Fld := ⟨.sys, 0x20, 0x0, 1, 0, 64, .ro, .live, 0, 0, 0xffffffffffffffff⟩
-- SYS.PIPE_TIME (R25)
/-- Previous cycle: FAB clocks from tick to gate command stage done -/
def SYS_PIPE_TIME_GATE_DONE : Fld := ⟨.sys, 0x28, 0x0, 1, 0, 16, .ro, .live, 0, 0, 0xffff⟩
/-- Previous cycle: FAB clocks from tick to last ring arrival, or RET_DEADLINE if a ring was … -/
def SYS_PIPE_TIME_RET_DONE : Fld := ⟨.sys, 0x28, 0x0, 1, 16, 16, .ro, .live, 0, 0, 0xffff⟩
-- SYS.PIPE_OVR (R26)
/-- Bit j of PIPE_OVRi: ring 32 × i + j blocked under R22; writing 1 ends its BLOCK as R26 … -/
def SYS_PIPE_OVR : Fld := ⟨.sys, 0x30, 0x4, 4, 0, 32, .w1c, .live, 0, 0, 0xffffffff⟩
-- SYS.CSE_CTRL (R80)
/-- 1: initialise the cell store (R79) -/
def SYS_CSE_CTRL_INIT : Fld := ⟨.sys, 0x100, 0x0, 1, 0, 1, .wo, .live, 0, 0, 1⟩
-- SYS.CSE_STATUS (R80)
/-- Initialisation complete -/
def SYS_CSE_STATUS_INIT_DONE : Fld := ⟨.sys, 0x104, 0x0, 1, 0, 1, .ro, .live, 0, 0, 1⟩
/-- An uncorrectable error was found (R78) -/
def SYS_CSE_STATUS_ECC_UNCORR : Fld := ⟨.sys, 0x104, 0x0, 1, 1, 1, .w1c, .live, 0, 0, 1⟩
/-- Corrected words, saturating at 0xFFFF; cleared by writing ECC_UNCORR with 1 -/
def SYS_CSE_STATUS_ECC_CORR : Fld := ⟨.sys, 0x104, 0x0, 1, 16, 16, .ro, .live, 0, 0, 0xffff⟩
-- SYS.CSE_ARM_CFG (R80)
/-- Bucket 50 mV × 2^DEV_SHIFT; 0–12, above 12 refused with E_VALUE -/
def SYS_CSE_ARM_CFG_DEV_SHIFT : Fld := ⟨.sys, 0x120, 0x10, 8, 0, 4, .rw, .tick, 4, 0, 0xc⟩
/-- 0: previous VMEAN; 1: VREF field -/
def SYS_CSE_ARM_CFG_VREF_SRC : Fld := ⟨.sys, 0x120, 0x10, 8, 4, 1, .rw, .tick, 0, 0, 1⟩
/-- 0: IDIR bit; 1: filter channel -/
def SYS_CSE_ARM_CFG_IDIR_SRC : Fld := ⟨.sys, 0x120, 0x10, 8, 5, 1, .rw, .tick, 0, 0, 1⟩
/-- 0: discharging; 1: charging -/
def SYS_CSE_ARM_CFG_IDIR : Fld := ⟨.sys, 0x120, 0x10, 8, 6, 1, .rw, .tick, 0, 0, 1⟩
/-- Filter channel m -/
def SYS_CSE_ARM_CFG_IDIR_FILT : Fld := ⟨.sys, 0x120, 0x10, 8, 8, 4, .rw, .tick, 0, 0, 0xf⟩
-- SYS.CSE_ARM_WEIGHT (R80)
/-- State-of-energy weight, 1/256 per LSB -/
def SYS_CSE_ARM_WEIGHT_KS : Fld := ⟨.sys, 0x124, 0x10, 8, 0, 9, .rw, .tick, 0x80, 0, 0x100⟩
/-- Lease weight, 1/256 per LSB -/
def SYS_CSE_ARM_WEIGHT_KL : Fld := ⟨.sys, 0x124, 0x10, 8, 10, 9, .rw, .tick, 0x80, 0, 0x100⟩
/-- Health weight, 1/256 per LSB -/
def SYS_CSE_ARM_WEIGHT_KH : Fld := ⟨.sys, 0x124, 0x10, 8, 20, 9, .rw, .tick, 0, 0, 0x100⟩
-- SYS.CSE_ARM_VREF (R80)
/-- Deviation reference, 50 mV per LSB -/
def SYS_CSE_ARM_VREF_VREF : Fld := ⟨.sys, 0x128, 0x10, 8, 0, 16, .rw, .tick, 0x5dc0, 0, 0xffff⟩
/-- Direction hysteresis, filter output LSBs -/
def SYS_CSE_ARM_VREF_IDIR_HYST : Fld := ⟨.sys, 0x128, 0x10, 8, 16, 16, .rw, .tick, 0, 0, 0xffff⟩
-- SYS.CSE_ARM_MEAN (R80)
/-- Arm mean capacitor voltage, 50 mV per LSB (R77) -/
def SYS_CSE_ARM_MEAN_VMEAN : Fld := ⟨.sys, 0x12c, 0x10, 8, 0, 16, .ro, .live, 0, 0, 0xffff⟩
/-- Cells in the mean, 0–1,024 -/
def SYS_CSE_ARM_MEAN_NCELLS : Fld := ⟨.sys, 0x12c, 0x10, 8, 16, 11, .ro, .live, 0, 0, 0x7ff⟩
/-- Direction latched for the current cycle -/
def SYS_CSE_ARM_MEAN_IDIR_NOW : Fld := ⟨.sys, 0x12c, 0x10, 8, 31, 1, .ro, .live, 0, 0, 1⟩
-- SYS.CSE_ERR (R80)
/-- First refusal or error code (R9, R10) -/
def SYS_CSE_ERR_CODE : Fld := ⟨.sys, 0x1f0, 0x0, 1, 0, 8, .ro, .live, 0, 0, 0xff⟩
/-- Cell id of the entry -/
def SYS_CSE_ERR_CELL : Fld := ⟨.sys, 0x1f0, 0x0, 1, 8, 12, .ro, .live, 0, 0, 0xfff⟩
/-- Byte offset within the entry -/
def SYS_CSE_ERR_OFFSET : Fld := ⟨.sys, 0x1f0, 0x0, 1, 20, 7, .ro, .live, 0, 0, 0x7f⟩
/-- Writing 1 clears CODE, CELL, OFFSET and MORE -/
def SYS_CSE_ERR_CLEAR : Fld := ⟨.sys, 0x1f0, 0x0, 1, 30, 1, .wo, .live, 0, 0, 1⟩
/-- A further refusal or error occurred -/
def SYS_CSE_ERR_MORE : Fld := ⟨.sys, 0x1f0, 0x0, 1, 31, 1, .w1c, .live, 0, 0, 1⟩
-- SYS.GCS_CFG (R122)
/-- BYPASS launches before insertion after BLOCK, 0–3 (R105) -/
def SYS_GCS_CFG_REENTRY : Fld := ⟨.sys, 0x200, 0x0, 1, 0, 2, .rw, .tick, 1, 0, 3⟩
/-- BYPASS launches per refresh, 1–3; 0 refused with E_VALUE -/
def SYS_GCS_CFG_REFRESH_LEN : Fld := ⟨.sys, 0x200, 0x0, 1, 2, 2, .rw, .tick, 1, 1, 3⟩
/-- Mismatch cycles before STATE_ERR, 1–7; 0 refused with E_VALUE -/
def SYS_GCS_CFG_STATE_LIMIT : Fld := ⟨.sys, 0x200, 0x0, 1, 4, 3, .rw, .tick, 2, 1, 7⟩
/-- High-side launches before refresh, 1–1,023; 0 refused with E_VALUE -/
def SYS_GCS_CFG_REFRESH_MAX : Fld := ⟨.sys, 0x200, 0x0, 1, 16, 10, .rw, .tick, 0x190, 1, 0x3ff⟩
-- SYS.GCS_REACT0 (R122)
/-- Source 0 -/
def SYS_GCS_REACT0_DESAT : Fld := ⟨.sys, 0x204, 0x0, 1, 0, 3, .rw, .tick, 1, 0, 5⟩
/-- Source 1 -/
def SYS_GCS_REACT0_HSC : Fld := ⟨.sys, 0x204, 0x0, 1, 3, 3, .rw, .tick, 3, 0, 5⟩
/-- Source 2 -/
def SYS_GCS_REACT0_OC : Fld := ⟨.sys, 0x204, 0x0, 1, 6, 3, .rw, .tick, 1, 0, 5⟩
/-- Source 3 -/
def SYS_GCS_REACT0_OV : Fld := ⟨.sys, 0x204, 0x0, 1, 9, 3, .rw, .tick, 1, 0, 5⟩
/-- Source 4 -/
def SYS_GCS_REACT0_UV : Fld := ⟨.sys, 0x204, 0x0, 1, 12, 3, .rw, .tick, 0, 0, 5⟩
/-- Source 5 -/
def SYS_GCS_REACT0_INTLK : Fld := ⟨.sys, 0x204, 0x0, 1, 15, 3, .rw, .tick, 1, 0, 5⟩
/-- Source 6 -/
def SYS_GCS_REACT0_WDOG : Fld := ⟨.sys, 0x204, 0x0, 1, 18, 3, .rw, .tick, 1, 0, 5⟩
/-- Source 7 -/
def SYS_GCS_REACT0_SUPPLY : Fld := ⟨.sys, 0x204, 0x0, 1, 21, 3, .rw, .tick, 1, 0, 5⟩
-- SYS.GCS_REACT1 (R122)
/-- Source 8 -/
def SYS_GCS_REACT1_CMD_BAD : Fld := ⟨.sys, 0x208, 0x0, 1, 0, 3, .rw, .tick, 1, 0, 5⟩
/-- Source 9 -/
def SYS_GCS_REACT1_STATE_ERR : Fld := ⟨.sys, 0x208, 0x0, 1, 3, 3, .rw, .tick, 1, 0, 5⟩
/-- Source 10 -/
def SYS_GCS_REACT1_STALE_EPOCH : Fld := ⟨.sys, 0x208, 0x0, 1, 6, 3, .rw, .tick, 0, 0, 5⟩
/-- Source 11 -/
def SYS_GCS_REACT1_DUP_MISMATCH : Fld := ⟨.sys, 0x208, 0x0, 1, 9, 3, .rw, .tick, 0, 0, 5⟩
/-- Source 15 -/
def SYS_GCS_REACT1_ILLEGAL : Fld := ⟨.sys, 0x208, 0x0, 1, 12, 3, .rw, .tick, 1, 0, 5⟩
-- SYS.GCS_BLOCK (R122)
/-- Arm block latches; clearing per R113 -/
def SYS_GCS_BLOCK_ARM : Fld := ⟨.sys, 0x20c, 0x0, 1, 0, 8, .w1c, .live, 0, 0, 0xff⟩
/-- ALL latch; clearing per R113 -/
def SYS_GCS_BLOCK_ALL : Fld := ⟨.sys, 0x20c, 0x0, 1, 8, 1, .w1c, .live, 0, 0, 1⟩
/-- Safe Gate Removal active (R116) -/
def SYS_GCS_BLOCK_KEEP : Fld := ⟨.sys, 0x20c, 0x0, 1, 9, 1, .ro, .live, 0, 0, 1⟩
/-- Present arm block requests (R114) -/
def SYS_GCS_BLOCK_ARM_REQ : Fld := ⟨.sys, 0x20c, 0x0, 1, 16, 8, .ro, .live, 0, 0, 0xff⟩
-- SYS.GCS_SET (R122)
/-- 1: set that arm's block latch -/
def SYS_GCS_SET_ARM : Fld := ⟨.sys, 0x210, 0x0, 1, 0, 8, .wo, .live, 0, 0, 0xff⟩
/-- 1: set the ALL latch -/
def SYS_GCS_SET_ALL : Fld := ⟨.sys, 0x210, 0x0, 1, 8, 1, .wo, .live, 0, 0, 1⟩
/-- 1: set the latch of ring RING -/
def SYS_GCS_SET_RING_GO : Fld := ⟨.sys, 0x210, 0x0, 1, 16, 1, .wo, .live, 0, 0, 1⟩
/-- Ring number -/
def SYS_GCS_SET_RING : Fld := ⟨.sys, 0x210, 0x0, 1, 17, 7, .wo, .live, 0, 0, 0x7f⟩
-- SYS.GCS_CHOP (R122)
/-- Trip input for arm 6 -/
def SYS_GCS_CHOP_TRIP_6 : Fld := ⟨.sys, 0x214, 0x0, 1, 0, 4, .rw, .tick, 0, 0, 0xf⟩
/-- R119 for arm 6 -/
def SYS_GCS_CHOP_EN_6 : Fld := ⟨.sys, 0x214, 0x0, 1, 4, 1, .rw, .tick, 0, 0, 1⟩
/-- Trip input for arm 7 -/
def SYS_GCS_CHOP_TRIP_7 : Fld := ⟨.sys, 0x214, 0x0, 1, 8, 4, .rw, .tick, 0, 0, 0xf⟩
/-- R119 for arm 7 -/
def SYS_GCS_CHOP_EN_7 : Fld := ⟨.sys, 0x214, 0x0, 1, 12, 1, .rw, .tick, 0, 0, 1⟩
/-- Chopper count, 0–1,024; above refused with E_VALUE -/
def SYS_GCS_CHOP_CHOP_N : Fld := ⟨.sys, 0x214, 0x0, 1, 16, 11, .rw, .tick, 0, 0, 0x400⟩
-- SYS.GCS_RING_BLK (R122)
/-- Bit j of RING_BLKi: latch of ring 32 × i + j; clearing per R113 -/
def SYS_GCS_RING_BLK : Fld := ⟨.sys, 0x220, 0x4, 4, 0, 32, .w1c, .live, 0, 0, 0xffffffff⟩
-- SYS.GCS_CELL_CLR (R122)
/-- Cell id -/
def SYS_GCS_CELL_CLR_CELL : Fld := ⟨.sys, 0x230, 0x0, 1, 0, 12, .wo, .live, 0, 0, 0xfff⟩
/-- 1: clear GATE.FLT (R113) -/
def SYS_GCS_CELL_CLR_FLT : Fld := ⟨.sys, 0x230, 0x0, 1, 16, 1, .wo, .live, 0, 0, 1⟩
/-- 1: clear GATE.ILLEGAL -/
def SYS_GCS_CELL_CLR_ILLEGAL : Fld := ⟨.sys, 0x230, 0x0, 1, 17, 1, .wo, .live, 0, 0, 1⟩
-- SYS.GCS_EVT0 (R122)
/-- Campanile ns, low word; the read latches the head record -/
def SYS_GCS_EVT0_TIME_LO : Fld := ⟨.sys, 0x240, 0x0, 1, 0, 32, .ro, .live, 0, 0, 0xffffffff⟩
-- SYS.GCS_EVT1 (R122)
/-- Campanile ns, high word -/
def SYS_GCS_EVT1_TIME_HI : Fld := ⟨.sys, 0x244, 0x0, 1, 0, 32, .ro, .live, 0, 0, 0xffffffff⟩
-- SYS.GCS_EVT2 (R122)
/-- Source code (R111, R114, R116) -/
def SYS_GCS_EVT2_SRC : Fld := ⟨.sys, 0x248, 0x0, 1, 0, 4, .ro, .live, 0, 0, 0xf⟩
/-- R115 -/
def SYS_GCS_EVT2_SIMUL : Fld := ⟨.sys, 0x248, 0x0, 1, 4, 1, .ro, .live, 0, 0, 1⟩
/-- A record was latched; the read removes it -/
def SYS_GCS_EVT2_VALID : Fld := ⟨.sys, 0x248, 0x0, 1, 5, 1, .ro, .live, 0, 0, 1⟩
/-- Arms named in the record -/
def SYS_GCS_EVT2_ARMS : Fld := ⟨.sys, 0x248, 0x0, 1, 8, 8, .ro, .live, 0, 0, 0xff⟩
/-- Cell id; in a grouped record, the lowest cell id of the group (R115); 0 for every record … -/
def SYS_GCS_EVT2_CELL : Fld := ⟨.sys, 0x248, 0x0, 1, 16, 12, .ro, .live, 0, 0, 0xfff⟩
/-- Action taken (R112, R114, R115) -/
def SYS_GCS_EVT2_ACTION : Fld := ⟨.sys, 0x248, 0x0, 1, 28, 3, .ro, .live, 0, 0, 7⟩
-- SYS.GCS_STATUS (R122)
/-- Log not empty -/
def SYS_GCS_STATUS_EVT_VALID : Fld := ⟨.sys, 0x24c, 0x0, 1, 0, 1, .ro, .live, 0, 0, 1⟩
/-- A record was dropped (R117) -/
def SYS_GCS_STATUS_EVT_LOST : Fld := ⟨.sys, 0x24c, 0x0, 1, 1, 1, .w1c, .live, 0, 0, 1⟩
/-- Records waiting, 0–16 -/
def SYS_GCS_STATUS_EVT_LEVEL : Fld := ⟨.sys, 0x24c, 0x0, 1, 16, 5, .ro, .live, 0, 0, 0x1f⟩
-- SYS.LDG_CTRL (R216)
/-- Closes, commits and offers run; while 0, due closes are deferred (R202) -/
def SYS_LDG_CTRL_EN : Fld := ⟨.sys, 0x300, 0x0, 1, 0, 1, .rw, .tick, 0, 0, 1⟩
/-- R214 -/
def SYS_LDG_CTRL_RESTORE : Fld := ⟨.sys, 0x300, 0x0, 1, 1, 1, .wo, .live, 0, 0, 1⟩
/-- R212 -/
def SYS_LDG_CTRL_CKPT_NOW : Fld := ⟨.sys, 0x300, 0x0, 1, 2, 1, .wo, .tick, 0, 0, 1⟩
/-- Spill queue of R208 -/
def SYS_LDG_CTRL_QUEUE : Fld := ⟨.sys, 0x300, 0x0, 1, 8, 5, .rw, .held, 0, 0, 0x1f⟩
-- SYS.LDG_CFG (R216)
/-- 1–3,600 s; else E_VALUE -/
def SYS_LDG_CFG_CKPT_S : Fld := ⟨.sys, 0x304, 0x0, 1, 0, 16, .rw, .held, 0x3c, 1, 0xe10⟩
/-- 1–3,600 s; else E_VALUE -/
def SYS_LDG_CFG_RESEND_S : Fld := ⟨.sys, 0x304, 0x0, 1, 16, 16, .rw, .tick, 0x1e, 1, 0xe10⟩
-- SYS.LDG_STATION (R216)
/-- Station identifier -/
def SYS_LDG_STATION_ID : Fld := ⟨.sys, 0x308, 0x0, 1, 0, 64, .rw, .held, 0, 0, 0xffffffffffffffff⟩
-- SYS.LDG_STATUS (R216)
/-- A page was issued -/
def SYS_LDG_STATUS_PAGE : Fld := ⟨.sys, 0x310, 0x0, 1, 0, 1, .w1c, .live, 0, 0, 1⟩
/-- R202 -/
def SYS_LDG_STATUS_FULL : Fld := ⟨.sys, 0x310, 0x0, 1, 1, 1, .ro, .live, 0, 0, 1⟩
/-- R202 -/
def SYS_LDG_STATUS_TIME_HOLD : Fld := ⟨.sys, 0x310, 0x0, 1, 2, 1, .ro, .live, 0, 0, 1⟩
/-- R207 -/
def SYS_LDG_STATUS_TWIN_DIFF : Fld := ⟨.sys, 0x310, 0x0, 1, 3, 1, .w1c, .live, 0, 0, 1⟩
/-- A checkpoint write failed -/
def SYS_LDG_STATUS_CKPT_FAIL : Fld := ⟨.sys, 0x310, 0x0, 1, 4, 1, .w1c, .live, 0, 0, 1⟩
/-- R214 -/
def SYS_LDG_STATUS_RESTORED : Fld := ⟨.sys, 0x310, 0x0, 1, 5, 1, .ro, .live, 0, 0, 1⟩
/-- Retained pages, saturating -/
def SYS_LDG_STATUS_PENDING : Fld := ⟨.sys, 0x310, 0x0, 1, 16, 16, .ro, .live, 0, 0, 0xffff⟩
-- SYS.LDG_ACK (R216)
/-- Acknowledge (R209) -/
def SYS_LDG_ACK_CTX : Fld := ⟨.sys, 0x314, 0x0, 1, 0, 8, .wo, .live, 0, 0, 0xff⟩
-- SYS.LDG_ACK_SEQ (R216)
/-- SEQ of R209 -/
def SYS_LDG_ACK_SEQ_SEQ : Fld := ⟨.sys, 0x318, 0x0, 1, 0, 64, .rw, .live, 0, 0, 0xffffffffffffffff⟩
-- SYS.LDG_ACK_RSP (R216)
/-- R209 -/
def SYS_LDG_ACK_RSP_STAT : Fld := ⟨.sys, 0x320, 0x0, 1, 0, 8, .ro, .live, 0, 0, 0xff⟩
/-- Result present; the read clears it and ends the pending state of R209 -/
def SYS_LDG_ACK_RSP_VALID : Fld := ⟨.sys, 0x320, 0x0, 1, 8, 1, .ro, .live, 0, 0, 1⟩
-- SYS.LDG_FREE (R216)
/-- R210 -/
def SYS_LDG_FREE_KIB : Fld := ⟨.sys, 0x324, 0x0, 1, 0, 16, .ro, .live, 0x1800, 0, 0xffff⟩
-- SYS.LDG_INT_EN (R216)
/-- Bit j enables LDG_STATUS bit j -/
def SYS_LDG_INT_EN_EN : Fld := ⟨.sys, 0x328, 0x0, 1, 0, 8, .rw, .live, 0, 0, 0xff⟩
-- SYS.LDG_CKPT_GEN (R216)
/-- Last complete generation -/
def SYS_LDG_CKPT_GEN_GEN : Fld := ⟨.sys, 0x330, 0x0, 1, 0, 64, .ro, .live, 0, 0, 0xffffffffffffffff⟩
-- SYS.LDG_LAST_CKPT_NS (R216)
/-- Its capture tick -/
def SYS_LDG_LAST_CKPT_NS_NS : Fld := ⟨.sys, 0x338, 0x0, 1, 0, 64, .ro, .live, 0, 0, 0xffffffffffffffff⟩
-- SYS.LDG_UNLEASED (R216)
/-- R195 -/
def SYS_LDG_UNLEASED_J : Fld := ⟨.sys, 0x340, 0x0, 1, 0, 64, .ro, .live, 0, 0, 0xffffffffffffffff⟩
-- SYS.LDG_CKPT_BASE (R216)
/-- MRAM window address of slot 0 -/
def SYS_LDG_CKPT_BASE_ADDR : Fld := ⟨.sys, 0x348, 0x0, 1, 0, 32, .ro, .live, 0x10910000, 0, 0xffffffff⟩
-- SYS.CLK_STATUS (R395)
/-- R374 -/
def SYS_CLK_STATUS_LOCK : Fld := ⟨.sys, 0x500, 0x0, 1, 0, 1, .ro, .live, 0, 0, 1⟩
/-- 10 MHz reference -/
def SYS_CLK_STATUS_REF10 : Fld := ⟨.sys, 0x500, 0x0, 1, 1, 1, .ro, .live, 0, 0, 1⟩
/-- R376 -/
def SYS_CLK_STATUS_REF_OK : Fld := ⟨.sys, 0x500, 0x0, 1, 2, 1, .ro, .live, 0, 0, 1⟩
/-- R374 -/
def SYS_CLK_STATUS_BAND : Fld := ⟨.sys, 0x500, 0x0, 1, 4, 5, .ro, .live, 0, 0, 0x1f⟩
-- SYS.CLKOUT (R395)
/-- R378 -/
def SYS_CLKOUT_FMT : Fld := ⟨.sys, 0x510, 0x8, 4, 0, 2, .rw, .held, 0, 0, 3⟩
/-- 0 LVCMOS 1.8 V, 1 LVCMOS 3.3 V, 2 LVDS, 3 HCSL -/
def SYS_CLKOUT_LEVEL : Fld := ⟨.sys, 0x510, 0x8, 4, 2, 2, .rw, .held, 0, 0, 3⟩
/-- 0 FAB, 1 LINK, 2 CONV, 3 REFCLK, 4 Lantern; 5–7 refused with E_VALUE -/
def SYS_CLKOUT_SRC : Fld := ⟨.sys, 0x510, 0x8, 4, 4, 3, .rw, .held, 0, 0, 4⟩
/-- Pin driven -/
def SYS_CLKOUT_OE : Fld := ⟨.sys, 0x510, 0x8, 4, 7, 1, .rw, .live, 0, 0, 1⟩
/-- R378 -/
def SYS_CLKOUT_GATE_COARSE : Fld := ⟨.sys, 0x510, 0x8, 4, 8, 1, .rw, .live, 0, 0, 1⟩
/-- Divisor − 1 -/
def SYS_CLKOUT_DIV : Fld := ⟨.sys, 0x510, 0x8, 4, 16, 12, .rw, .held, 0, 0, 0xfff⟩
/-- 1PPS width, µs, 1–500,000; else E_VALUE -/
def SYS_CLKOUT_WIDTH : Fld := ⟨.sys, 0x514, 0x8, 4, 0, 19, .rw, .held, 0x64, 1, 0x7a120⟩
-- SYS.RST_CTRL (R395)
/-- R381 -/
def SYS_RST_CTRL_ORDERLY : Fld := ⟨.sys, 0x540, 0x0, 1, 0, 1, .wo, .live, 0, 0, 1⟩
/-- R381 -/
def SYS_RST_CTRL_FORCE : Fld := ⟨.sys, 0x540, 0x0, 1, 1, 1, .wo, .live, 0, 0, 1⟩
/-- 0xA5 -/
def SYS_RST_CTRL_KEY : Fld := ⟨.sys, 0x540, 0x0, 1, 8, 8, .wo, .live, 0, 0, 0xff⟩
-- SYS.RST_CAUSE (R395)
/-- R379 -/
def SYS_RST_CAUSE_CAUSE : Fld := ⟨.sys, 0x544, 0x0, 1, 0, 4, .ro, .live, 0, 0, 0xf⟩
/-- Device resets since the last Lantern reset, including the one that follows it (R379) -/
def SYS_RST_CAUSE_COUNT : Fld := ⟨.sys, 0x544, 0x0, 1, 16, 16, .ro, .live, 0, 0, 0xffff⟩
-- SYS.WDT_CTRL (R395)
/-- R382 -/
def SYS_WDT_CTRL_EN : Fld := ⟨.sys, 0x548, 0x0, 1, 0, 1, .w1s, .live, 0, 0, 1⟩
/-- µs, 1–1,000,000; else E_VALUE -/
def SYS_WDT_CTRL_TIMEOUT : Fld := ⟨.sys, 0x548, 0x0, 1, 8, 20, .rw, .held, 0x186a0, 1, 0xf4240⟩
-- SYS.WDT_KICK (R395)
/-- R382 -/
def SYS_WDT_KICK_KICK : Fld := ⟨.sys, 0x54c, 0x0, 1, 0, 1, .wo, .live, 0, 0, 1⟩
-- SYS.WDT_LEFT (R395)
/-- Time left -/
def SYS_WDT_LEFT_US : Fld := ⟨.sys, 0x550, 0x0, 1, 0, 20, .ro, .live, 0, 0, 0xfffff⟩
-- SYS.CUP_STATUS (R224)
/-- Reads 1 (R224) -/
def SYS_CUP_STATUS_INIT_DONE : Fld := ⟨.sys, 0x400, 0x0, 1, 0, 1, .ro, .live, 1, 0, 1⟩
/-- A correction occurred -/
def SYS_CUP_STATUS_CE : Fld := ⟨.sys, 0x400, 0x0, 1, 1, 1, .w1c, .live, 0, 0, 1⟩
/-- An uncorrectable event occurred -/
def SYS_CUP_STATUS_UE : Fld := ⟨.sys, 0x400, 0x0, 1, 2, 1, .w1c, .live, 0, 0, 1⟩
/-- Reads 0 (R224) -/
def SYS_CUP_STATUS_CH_FAIL : Fld := ⟨.sys, 0x400, 0x0, 1, 3, 1, .ro, .live, 0, 0, 1⟩
/-- LOG holds an event -/
def SYS_CUP_STATUS_LOG_VALID : Fld := ⟨.sys, 0x400, 0x0, 1, 4, 1, .w1c, .live, 0, 0, 1⟩
/-- A scrub pass completed -/
def SYS_CUP_STATUS_PASS : Fld := ⟨.sys, 0x400, 0x0, 1, 5, 1, .w1c, .live, 0, 0, 1⟩
-- SYS.CUP_CE_CNT (R224)
/-- Corrections, saturating -/
def SYS_CUP_CE_CNT_COUNT : Fld := ⟨.sys, 0x404, 0x0, 1, 0, 32, .ro, .live, 0, 0, 0xffffffff⟩
-- SYS.CUP_UE_CNT (R224)
/-- Uncorrectable events, saturating -/
def SYS_CUP_UE_CNT_COUNT : Fld := ⟨.sys, 0x408, 0x0, 1, 0, 32, .ro, .live, 0, 0, 0xffffffff⟩
-- SYS.CUP_LOG_ADDR (R224)
/-- Physical address of the line -/
def SYS_CUP_LOG_ADDR_ADDR : Fld := ⟨.sys, 0x40c, 0x0, 1, 0, 40, .ro, .live, 0, 0, 0xffffffffff⟩
-- SYS.CUP_LOG_INFO (R224)
/-- 0 correction; 1 uncorrectable -/
def SYS_CUP_LOG_INFO_KIND : Fld := ⟨.sys, 0x414, 0x0, 1, 0, 1, .ro, .live, 0, 0, 1⟩
/-- Symbols corrected -/
def SYS_CUP_LOG_INFO_NSYM : Fld := ⟨.sys, 0x414, 0x0, 1, 1, 3, .ro, .live, 0, 0, 7⟩
/-- Lowest corrected symbol -/
def SYS_CUP_LOG_INFO_FIRST : Fld := ⟨.sys, 0x414, 0x0, 1, 8, 7, .ro, .live, 0, 0, 0x7f⟩
/-- Highest corrected symbol -/
def SYS_CUP_LOG_INFO_LAST : Fld := ⟨.sys, 0x414, 0x0, 1, 16, 7, .ro, .live, 0, 0, 0x7f⟩
/-- Found by the scrubber -/
def SYS_CUP_LOG_INFO_SCRUB : Fld := ⟨.sys, 0x414, 0x0, 1, 24, 1, .ro, .live, 0, 0, 1⟩
-- SYS.CUP_INT_EN (R224)
/-- Bit j enables CUP_STATUS bit j -/
def SYS_CUP_INT_EN_EN : Fld := ⟨.sys, 0x418, 0x0, 1, 0, 6, .rw, .live, 0, 0, 0x3f⟩
-- SYS.CUP_SCRUB (R224)
/-- FAB clocks per scrub read -/
def SYS_CUP_SCRUB_INT : Fld := ⟨.sys, 0x41c, 0x0, 1, 0, 16, .rw, .live, 0x400, 1, 0xffff⟩
/-- The patrol scrub runs -/
def SYS_CUP_SCRUB_EN : Fld := ⟨.sys, 0x41c, 0x0, 1, 16, 1, .rw, .live, 0, 0, 1⟩
-- SYS.ERR_CODE (R26)
/-- First refusal code (R9, R10) -/
def SYS_ERR_CODE : Fld := ⟨.sys, 0xf0, 0x0, 1, 0, 8, .ro, .live, 0, 0, 0xff⟩
-- SYS.ERR_OFFSET (R26)
/-- Offset of the refused write -/
def SYS_ERR_OFFSET : Fld := ⟨.sys, 0xf0, 0x0, 1, 8, 12, .ro, .live, 0, 0, 0xfff⟩
-- SYS.ERR_OFFSET_HI (R26)
/-- Offset bits [21:12] -/
def SYS_ERR_OFFSET_HI : Fld := ⟨.sys, 0xf0, 0x0, 1, 20, 10, .ro, .live, 0, 0, 0x3ff⟩
-- SYS.ERR_CLEAR (R26)
/-- Clears CODE, OFFSET, OFFSET_HI and MORE -/
def SYS_ERR_CLEAR : Fld := ⟨.sys, 0xf0, 0x0, 1, 30, 1, .wo, .live, 0, 0, 1⟩
-- SYS.ERR_MORE (R26)
/-- A further refusal occurred (R10) -/
def SYS_ERR_MORE : Fld := ⟨.sys, 0xf0, 0x0, 1, 31, 1, .w1c, .live, 0, 0, 1⟩
-- SYS.LDG_ERR_CODE (R216)
/-- Layout of SYS.ERR -/
def SYS_LDG_ERR_CODE : Fld := ⟨.sys, 0x3f0, 0x0, 1, 0, 8, .ro, .live, 0, 0, 0xff⟩
-- SYS.LDG_ERR_OFFSET (R216)
/-- Layout of SYS.ERR -/
def SYS_LDG_ERR_OFFSET : Fld := ⟨.sys, 0x3f0, 0x0, 1, 8, 12, .ro, .live, 0, 0, 0xfff⟩
-- SYS.LDG_ERR_OFFSET_HI (R216)
/-- Layout of SYS.ERR -/
def SYS_LDG_ERR_OFFSET_HI : Fld := ⟨.sys, 0x3f0, 0x0, 1, 20, 10, .ro, .live, 0, 0, 0x3ff⟩
-- SYS.LDG_ERR_CLEAR (R216)
/-- Layout of SYS.ERR -/
def SYS_LDG_ERR_CLEAR : Fld := ⟨.sys, 0x3f0, 0x0, 1, 30, 1, .wo, .live, 0, 0, 1⟩
-- SYS.LDG_ERR_MORE (R216)
/-- Layout of SYS.ERR -/
def SYS_LDG_ERR_MORE : Fld := ⟨.sys, 0x3f0, 0x0, 1, 31, 1, .w1c, .live, 0, 0, 1⟩

/-- Every field of block SYS. -/
def SYS_fields : List Fld :=
  [SYS_ID, SYS_PIPE_MODE_RING_CELLS, SYS_PIPE_CFG_OVR_LIMIT, SYS_PIPE_CFG_RET_DEADLINE, SYS_PIPE_STATUS_OVERRUN, SYS_PIPE_STATUS_N_REUSED, SYS_PIPE_STATUS_RET_LATE, SYS_PIPE_STATUS_OVR_BLOCK, SYS_PIPE_STATUS_OVR_NEW, SYS_PIPE_STATUS_ARM_REUSED, SYS_CYCLE_COUNT, SYS_PIPE_TIME_GATE_DONE, SYS_PIPE_TIME_RET_DONE, SYS_PIPE_OVR, SYS_CSE_CTRL_INIT, SYS_CSE_STATUS_INIT_DONE, SYS_CSE_STATUS_ECC_UNCORR, SYS_CSE_STATUS_ECC_CORR, SYS_CSE_ARM_CFG_DEV_SHIFT, SYS_CSE_ARM_CFG_VREF_SRC, SYS_CSE_ARM_CFG_IDIR_SRC, SYS_CSE_ARM_CFG_IDIR, SYS_CSE_ARM_CFG_IDIR_FILT, SYS_CSE_ARM_WEIGHT_KS]
  ++ [SYS_CSE_ARM_WEIGHT_KL, SYS_CSE_ARM_WEIGHT_KH, SYS_CSE_ARM_VREF_VREF, SYS_CSE_ARM_VREF_IDIR_HYST, SYS_CSE_ARM_MEAN_VMEAN, SYS_CSE_ARM_MEAN_NCELLS, SYS_CSE_ARM_MEAN_IDIR_NOW, SYS_CSE_ERR_CODE, SYS_CSE_ERR_CELL, SYS_CSE_ERR_OFFSET, SYS_CSE_ERR_CLEAR, SYS_CSE_ERR_MORE, SYS_GCS_CFG_REENTRY, SYS_GCS_CFG_REFRESH_LEN, SYS_GCS_CFG_STATE_LIMIT, SYS_GCS_CFG_REFRESH_MAX, SYS_GCS_REACT0_DESAT, SYS_GCS_REACT0_HSC, SYS_GCS_REACT0_OC, SYS_GCS_REACT0_OV, SYS_GCS_REACT0_UV, SYS_GCS_REACT0_INTLK, SYS_GCS_REACT0_WDOG, SYS_GCS_REACT0_SUPPLY]
  ++ [SYS_GCS_REACT1_CMD_BAD, SYS_GCS_REACT1_STATE_ERR, SYS_GCS_REACT1_STALE_EPOCH, SYS_GCS_REACT1_DUP_MISMATCH, SYS_GCS_REACT1_ILLEGAL, SYS_GCS_BLOCK_ARM, SYS_GCS_BLOCK_ALL, SYS_GCS_BLOCK_KEEP, SYS_GCS_BLOCK_ARM_REQ, SYS_GCS_SET_ARM, SYS_GCS_SET_ALL, SYS_GCS_SET_RING_GO, SYS_GCS_SET_RING, SYS_GCS_CHOP_TRIP_6, SYS_GCS_CHOP_EN_6, SYS_GCS_CHOP_TRIP_7, SYS_GCS_CHOP_EN_7, SYS_GCS_CHOP_CHOP_N, SYS_GCS_RING_BLK, SYS_GCS_CELL_CLR_CELL, SYS_GCS_CELL_CLR_FLT, SYS_GCS_CELL_CLR_ILLEGAL, SYS_GCS_EVT0_TIME_LO, SYS_GCS_EVT1_TIME_HI]
  ++ [SYS_GCS_EVT2_SRC, SYS_GCS_EVT2_SIMUL, SYS_GCS_EVT2_VALID, SYS_GCS_EVT2_ARMS, SYS_GCS_EVT2_CELL, SYS_GCS_EVT2_ACTION, SYS_GCS_STATUS_EVT_VALID, SYS_GCS_STATUS_EVT_LOST, SYS_GCS_STATUS_EVT_LEVEL, SYS_LDG_CTRL_EN, SYS_LDG_CTRL_RESTORE, SYS_LDG_CTRL_CKPT_NOW, SYS_LDG_CTRL_QUEUE, SYS_LDG_CFG_CKPT_S, SYS_LDG_CFG_RESEND_S, SYS_LDG_STATION_ID, SYS_LDG_STATUS_PAGE, SYS_LDG_STATUS_FULL, SYS_LDG_STATUS_TIME_HOLD, SYS_LDG_STATUS_TWIN_DIFF, SYS_LDG_STATUS_CKPT_FAIL, SYS_LDG_STATUS_RESTORED, SYS_LDG_STATUS_PENDING, SYS_LDG_ACK_CTX]
  ++ [SYS_LDG_ACK_SEQ_SEQ, SYS_LDG_ACK_RSP_STAT, SYS_LDG_ACK_RSP_VALID, SYS_LDG_FREE_KIB, SYS_LDG_INT_EN_EN, SYS_LDG_CKPT_GEN_GEN, SYS_LDG_LAST_CKPT_NS_NS, SYS_LDG_UNLEASED_J, SYS_LDG_CKPT_BASE_ADDR, SYS_CLK_STATUS_LOCK, SYS_CLK_STATUS_REF10, SYS_CLK_STATUS_REF_OK, SYS_CLK_STATUS_BAND, SYS_CLKOUT_FMT, SYS_CLKOUT_LEVEL, SYS_CLKOUT_SRC, SYS_CLKOUT_OE, SYS_CLKOUT_GATE_COARSE, SYS_CLKOUT_DIV, SYS_CLKOUT_WIDTH, SYS_RST_CTRL_ORDERLY, SYS_RST_CTRL_FORCE, SYS_RST_CTRL_KEY, SYS_RST_CAUSE_CAUSE]
  ++ [SYS_RST_CAUSE_COUNT, SYS_WDT_CTRL_EN, SYS_WDT_CTRL_TIMEOUT, SYS_WDT_KICK_KICK, SYS_WDT_LEFT_US, SYS_CUP_STATUS_INIT_DONE, SYS_CUP_STATUS_CE, SYS_CUP_STATUS_UE, SYS_CUP_STATUS_CH_FAIL, SYS_CUP_STATUS_LOG_VALID, SYS_CUP_STATUS_PASS, SYS_CUP_CE_CNT_COUNT, SYS_CUP_UE_CNT_COUNT, SYS_CUP_LOG_ADDR_ADDR, SYS_CUP_LOG_INFO_KIND, SYS_CUP_LOG_INFO_NSYM, SYS_CUP_LOG_INFO_FIRST, SYS_CUP_LOG_INFO_LAST, SYS_CUP_LOG_INFO_SCRUB, SYS_CUP_INT_EN_EN, SYS_CUP_SCRUB_INT, SYS_CUP_SCRUB_EN, SYS_ERR_CODE, SYS_ERR_OFFSET]
  ++ [SYS_ERR_OFFSET_HI, SYS_ERR_CLEAR, SYS_ERR_MORE, SYS_LDG_ERR_CODE, SYS_LDG_ERR_OFFSET, SYS_LDG_ERR_OFFSET_HI, SYS_LDG_ERR_CLEAR, SYS_LDG_ERR_MORE]

end Sys2Proof.Machine
end

