-- ==== Sys2Proof/Machine/RegsSystem.lean ====
section
/-!
DEFINITION. Register fields of the blocks TWIN, KEEP, LANTERN, SECURE, PORT: one descriptor per row of the register tables of the chapters
(offset, second-index stride and count, lowest bit, width, access type (R5), class (R6), reset value, legal range).
-/
namespace Sys2Proof.Machine

-- TWIN.CTRL (R343)
/-- Twin operation (R331) -/
def TWIN_CTRL_EN : Fld := ⟨.twin, 0x0, 0x0, 1, 0, 1, .rw, .held, 0, 0, 1⟩
/-- 0: unit A; 1: unit B -/
def TWIN_CTRL_UNIT : Fld := ⟨.twin, 0x0, 0x0, 1, 1, 1, .rw, .held, 0, 0, 1⟩
/-- 0 none, 1 A, 2 B; 3 refused with E_VALUE -/
def TWIN_CTRL_PREFER : Fld := ⟨.twin, 0x0, 0x0, 1, 2, 2, .rw, .tick, 0, 0, 2⟩
/-- FAULTY → JOIN; E_STATE in any other state -/
def TWIN_CTRL_REJOIN : Fld := ⟨.twin, 0x0, 0x0, 1, 4, 1, .wo, .live, 0, 0, 1⟩
/-- R338; E_TOKEN unless HOLDER; E_STATE unless the twin is STANDBY -/
def TWIN_CTRL_YIELD : Fld := ⟨.twin, 0x0, 0x0, 1, 5, 1, .wo, .live, 0, 0, 1⟩
/-- R340; E_STATE unless JOIN -/
def TWIN_CTRL_SYNC_DONE : Fld := ⟨.twin, 0x0, 0x0, 1, 6, 1, .wo, .live, 0, 0, 1⟩
-- TWIN.CFG (R343)
/-- 1–3; 0 refused with E_VALUE (R332) -/
def TWIN_CFG_LEASE_MISS : Fld := ⟨.twin, 0x4, 0x0, 1, 0, 2, .rw, .tick, 1, 1, 3⟩
/-- FAB clocks (R328) -/
def TWIN_CFG_MASK_WAIT : Fld := ⟨.twin, 0x4, 0x0, 1, 8, 8, .rw, .tick, 0x50, 0, 0xff⟩
/-- Cycles (R338); 0 refused with E_VALUE -/
def TWIN_CFG_RETURN_CYC : Fld := ⟨.twin, 0x4, 0x0, 1, 16, 16, .rw, .tick, 0x4e20, 1, 0xffff⟩
-- TWIN.STATUS (R343)
/-- R331 -/
def TWIN_STATUS_STATE : Fld := ⟨.twin, 0x8, 0x0, 1, 0, 3, .ro, .live, 0, 0, 7⟩
/-- PEER link up -/
def TWIN_STATUS_LINK : Fld := ⟨.twin, 0x8, 0x0, 1, 3, 1, .ro, .live, 0, 0, 1⟩
/-- R335 -/
def TWIN_STATUS_MISMATCH : Fld := ⟨.twin, 0x8, 0x0, 1, 4, 1, .w1c, .live, 0, 0, 1⟩
/-- R337 -/
def TWIN_STATUS_REPLAYING : Fld := ⟨.twin, 0x8, 0x0, 1, 5, 1, .ro, .live, 0, 0, 1⟩
/-- A verdict was formed -/
def TWIN_STATUS_VERDICT_EV : Fld := ⟨.twin, 0x8, 0x0, 1, 6, 1, .w1c, .live, 0, 0, 1⟩
/-- This unit took the token -/
def TWIN_STATUS_TAKEOVER : Fld := ⟨.twin, 0x8, 0x0, 1, 7, 1, .w1c, .live, 0, 0, 1⟩
/-- This unit lost or yielded the token -/
def TWIN_STATUS_LOST_TOKEN : Fld := ⟨.twin, 0x8, 0x0, 1, 8, 1, .w1c, .live, 0, 0, 1⟩
/-- Taken by lease expiry -/
def TWIN_STATUS_LEASE : Fld := ⟨.twin, 0x8, 0x0, 1, 9, 1, .w1c, .live, 0, 0, 1⟩
/-- R341 -/
def TWIN_STATUS_TWIN_HEALTH : Fld := ⟨.twin, 0x8, 0x0, 1, 10, 1, .w1c, .live, 0, 0, 1⟩
/-- R328, R330 -/
def TWIN_STATUS_MASK_LATE : Fld := ⟨.twin, 0x8, 0x0, 1, 11, 1, .w1c, .live, 0, 0, 1⟩
/-- R330 -/
def TWIN_STATUS_MEAS_DIFF : Fld := ⟨.twin, 0x8, 0x0, 1, 12, 1, .w1c, .live, 0, 0, 1⟩
/-- The PEER link went down -/
def TWIN_STATUS_LINK_EV : Fld := ⟨.twin, 0x8, 0x0, 1, 13, 1, .w1c, .live, 0, 0, 1⟩
/-- A ring is relayed -/
def TWIN_STATUS_RELAY : Fld := ⟨.twin, 0x8, 0x0, 1, 14, 1, .ro, .live, 0, 0, 1⟩
-- TWIN.INT_EN (R343)
/-- Bit j enables STATUS bit j -/
def TWIN_INT_EN_EN : Fld := ⟨.twin, 0xc, 0x0, 1, 4, 10, .rw, .live, 0, 0, 0x3ff⟩
-- TWIN.EPOCH (R343)
/-- R333 -/
def TWIN_EPOCH_EPOCH : Fld := ⟨.twin, 0x10, 0x0, 1, 0, 16, .rw, .held, 0, 0, 0xffff⟩
-- TWIN.LAT (R343)
/-- R320 -/
def TWIN_LAT_PEER_LAT : Fld := ⟨.twin, 0x14, 0x0, 1, 0, 16, .ro, .live, 0, 0, 0xffff⟩
/-- Signed, FAB clocks (R321) -/
def TWIN_LAT_TICK_SKEW : Fld := ⟨.twin, 0x14, 0x0, 1, 16, 16, .ro, .live, 0, 0, 0xffff⟩
-- TWIN.MIS_INFO (R343)
/-- R335 -/
def TWIN_MIS_INFO_RING : Fld := ⟨.twin, 0x18, 0x0, 1, 0, 7, .ro, .live, 0, 0, 0x7f⟩
/-- MIS_INFO -/
def TWIN_MIS_INFO_POS : Fld := ⟨.twin, 0x18, 0x0, 1, 8, 5, .ro, .live, 0, 0, 0x1f⟩
/-- CYCLE_NO of the first mismatching frame -/
def TWIN_MIS_INFO_CYCLE : Fld := ⟨.twin, 0x18, 0x0, 1, 16, 16, .ro, .live, 0, 0, 0xffff⟩
-- TWIN.MIS_CNT (R343)
/-- Mismatching cycles, modulo 2³² -/
def TWIN_MIS_CNT_COUNT : Fld := ⟨.twin, 0x1c, 0x0, 1, 0, 32, .ro, .live, 0, 0, 0xffffffff⟩
-- TWIN.REPLAY (R343)
/-- R337 -/
def TWIN_REPLAY_OWN_OK : Fld := ⟨.twin, 0x20, 0x0, 1, 0, 1, .ro, .live, 0, 0, 1⟩
/-- REPLAY -/
def TWIN_REPLAY_TWIN_OK : Fld := ⟨.twin, 0x20, 0x0, 1, 1, 1, .ro, .live, 0, 0, 1⟩
/-- ARM_DIGESTs equal -/
def TWIN_REPLAY_ARM_EQ : Fld := ⟨.twin, 0x20, 0x0, 1, 2, 1, .ro, .live, 0, 0, 1⟩
/-- 0 none, 1 TWIN_FAULTY, 2 SELF_FAULTY, 3 BOTH, 4 INPUT, 5 FIRMWARE -/
def TWIN_REPLAY_VERDICT : Fld := ⟨.twin, 0x20, 0x0, 1, 4, 3, .ro, .live, 0, 0, 7⟩
/-- Cycle replayed -/
def TWIN_REPLAY_CYCLE : Fld := ⟨.twin, 0x20, 0x0, 1, 16, 16, .ro, .live, 0, 0, 0xffff⟩
-- TWIN.HEALTH_SW (R343)
/-- R341 -/
def TWIN_HEALTH_SW_SW : Fld := ⟨.twin, 0x24, 0x0, 1, 8, 8, .rw, .live, 0, 0, 0xff⟩
-- TWIN.HEALTH (R343)
/-- R341 -/
def TWIN_HEALTH_OWN : Fld := ⟨.twin, 0x28, 0x0, 1, 0, 16, .ro, .live, 0, 0, 0xffff⟩
/-- Twin's last health word -/
def TWIN_HEALTH_TWIN : Fld := ⟨.twin, 0x28, 0x0, 1, 16, 16, .ro, .live, 0, 0, 0xffff⟩
-- TWIN.HEALTH_FATAL (R343)
/-- Fatal bits -/
def TWIN_HEALTH_FATAL_MASK : Fld := ⟨.twin, 0x2c, 0x0, 1, 0, 16, .rw, .live, 0x8f, 0, 0xffff⟩
-- TWIN.RELAY (R343)
/-- Bit j of RELAYi: ring 32 × i + j relayed -/
def TWIN_RELAY_RINGS : Fld := ⟨.twin, 0x30, 0x4, 4, 0, 32, .ro, .live, 0, 0, 0xffffffff⟩
-- TWIN.MEAS_TOL (R343)
/-- VALUE units (R330) -/
def TWIN_MEAS_TOL_TOL : Fld := ⟨.twin, 0x40, 0x0, 1, 0, 24, .rw, .live, 0, 0, 0xffffff⟩
-- TWIN.TAKEOVERS (R343)
/-- Token changes, modulo 2³² -/
def TWIN_TAKEOVERS_COUNT : Fld := ⟨.twin, 0x44, 0x0, 1, 0, 32, .ro, .live, 0, 0, 0xffffffff⟩
-- TWIN.CASC_CFG (R343)
/-- 0 none, 1 master, 2 follower; 3 refused with E_VALUE -/
def TWIN_CASC_CFG_ROLE : Fld := ⟨.twin, 0x80, 0x0, 1, 0, 2, .rw, .held, 0, 0, 2⟩
/-- Cascade position -/
def TWIN_CASC_CFG_POS : Fld := ⟨.twin, 0x80, 0x0, 1, 2, 2, .rw, .held, 0, 0, 3⟩
/-- 1–15; 0 refused with E_VALUE -/
def TWIN_CASC_CFG_LOSS_CYC : Fld := ⟨.twin, 0x80, 0x0, 1, 8, 4, .rw, .tick, 3, 1, 0xf⟩
/-- Followers present (master) -/
def TWIN_CASC_CFG_FOLLOWERS : Fld := ⟨.twin, 0x80, 0x0, 1, 16, 3, .rw, .held, 0, 0, 7⟩
-- TWIN.CASC_STATUS (R343)
/-- CASCADE links up -/
def TWIN_CASC_STATUS_LINK : Fld := ⟨.twin, 0x84, 0x0, 1, 0, 3, .ro, .live, 0, 0, 7⟩
/-- R325 -/
def TWIN_CASC_STATUS_LOST : Fld := ⟨.twin, 0x84, 0x0, 1, 4, 3, .w1c, .live, 0, 0, 7⟩
/-- R325 -/
def TWIN_CASC_STATUS_MASTER_LOST : Fld := ⟨.twin, 0x84, 0x0, 1, 8, 1, .w1c, .live, 0, 0, 1⟩
/-- R320 -/
def TWIN_CASC_STATUS_CASC_LAT : Fld := ⟨.twin, 0x84, 0x0, 1, 16, 16, .ro, .live, 0, 0, 0xffff⟩
-- TWIN.FOLLOW_ARMS (R343)
/-- R325 -/
def TWIN_FOLLOW_ARMS_ARMS : Fld := ⟨.twin, 0x88, 0x4, 3, 0, 8, .rw, .live, 0, 0, 0xff⟩
-- TWIN.CASC_SUM_BASE (R343)
/-- R324 -/
def TWIN_CASC_SUM_BASE_ADDR : Fld := ⟨.twin, 0x94, 0x0, 1, 5, 21, .rw, .held, 0, 0, 0x1fffff⟩
-- TWIN.CASC_TX (R343)
/-- R323; E_STATE unless master with follower f present -/
def TWIN_CASC_TX_VALUE : Fld := ⟨.twin, 0x100, 0x4, 24, 0, 32, .wo, .live, 0, 0, 0xffffffff⟩
-- TWIN.ERR_CODE (R26)
/-- First refusal code (R9, R10) -/
def TWIN_ERR_CODE : Fld := ⟨.twin, 0xf0, 0x0, 1, 0, 8, .ro, .live, 0, 0, 0xff⟩
-- TWIN.ERR_OFFSET (R26)
/-- Offset of the refused write -/
def TWIN_ERR_OFFSET : Fld := ⟨.twin, 0xf0, 0x0, 1, 8, 12, .ro, .live, 0, 0, 0xfff⟩
-- TWIN.ERR_OFFSET_HI (R26)
/-- Offset bits [21:12] -/
def TWIN_ERR_OFFSET_HI : Fld := ⟨.twin, 0xf0, 0x0, 1, 20, 10, .ro, .live, 0, 0, 0x3ff⟩
-- TWIN.ERR_CLEAR (R26)
/-- Clears CODE, OFFSET, OFFSET_HI and MORE -/
def TWIN_ERR_CLEAR : Fld := ⟨.twin, 0xf0, 0x0, 1, 30, 1, .wo, .live, 0, 0, 1⟩
-- TWIN.ERR_MORE (R26)
/-- A further refusal occurred (R10) -/
def TWIN_ERR_MORE : Fld := ⟨.twin, 0xf0, 0x0, 1, 31, 1, .w1c, .live, 0, 0, 1⟩

/-- Every field of block TWIN. -/
def TWIN_fields : List Fld :=
  [TWIN_CTRL_EN, TWIN_CTRL_UNIT, TWIN_CTRL_PREFER, TWIN_CTRL_REJOIN, TWIN_CTRL_YIELD, TWIN_CTRL_SYNC_DONE, TWIN_CFG_LEASE_MISS, TWIN_CFG_MASK_WAIT, TWIN_CFG_RETURN_CYC, TWIN_STATUS_STATE, TWIN_STATUS_LINK, TWIN_STATUS_MISMATCH, TWIN_STATUS_REPLAYING, TWIN_STATUS_VERDICT_EV, TWIN_STATUS_TAKEOVER, TWIN_STATUS_LOST_TOKEN, TWIN_STATUS_LEASE, TWIN_STATUS_TWIN_HEALTH, TWIN_STATUS_MASK_LATE, TWIN_STATUS_MEAS_DIFF, TWIN_STATUS_LINK_EV, TWIN_STATUS_RELAY, TWIN_INT_EN_EN, TWIN_EPOCH_EPOCH]
  ++ [TWIN_LAT_PEER_LAT, TWIN_LAT_TICK_SKEW, TWIN_MIS_INFO_RING, TWIN_MIS_INFO_POS, TWIN_MIS_INFO_CYCLE, TWIN_MIS_CNT_COUNT, TWIN_REPLAY_OWN_OK, TWIN_REPLAY_TWIN_OK, TWIN_REPLAY_ARM_EQ, TWIN_REPLAY_VERDICT, TWIN_REPLAY_CYCLE, TWIN_HEALTH_SW_SW, TWIN_HEALTH_OWN, TWIN_HEALTH_TWIN, TWIN_HEALTH_FATAL_MASK, TWIN_RELAY_RINGS, TWIN_MEAS_TOL_TOL, TWIN_TAKEOVERS_COUNT, TWIN_CASC_CFG_ROLE, TWIN_CASC_CFG_POS, TWIN_CASC_CFG_LOSS_CYC, TWIN_CASC_CFG_FOLLOWERS, TWIN_CASC_STATUS_LINK, TWIN_CASC_STATUS_LOST]
  ++ [TWIN_CASC_STATUS_MASTER_LOST, TWIN_CASC_STATUS_CASC_LAT, TWIN_FOLLOW_ARMS_ARMS, TWIN_CASC_SUM_BASE_ADDR, TWIN_CASC_TX_VALUE, TWIN_ERR_CODE, TWIN_ERR_OFFSET, TWIN_ERR_OFFSET_HI, TWIN_ERR_CLEAR, TWIN_ERR_MORE]

-- KEEP.CTRL (R358)
/-- R348 -/
def KEEP_CTRL_RELEASE : Fld := ⟨.keep, 0x0, 0x0, 1, 0, 1, .wo, .live, 0, 0, 1⟩
/-- R349 -/
def KEEP_CTRL_SPW_REQ : Fld := ⟨.keep, 0x0, 0x0, 1, 1, 1, .wo, .live, 0, 0, 1⟩
/-- Safe Gate Removal demand, from any port or from a Spire core in SUP -/
def KEEP_CTRL_SGR_REQ : Fld := ⟨.keep, 0x0, 0x0, 1, 2, 1, .wo, .live, 0, 0, 1⟩
-- KEEP.STATUS (R358)
/-- Safe Gate Removal active -/
def KEEP_STATUS_SGR : Fld := ⟨.keep, 0x4, 0x0, 1, 0, 1, .ro, .live, 1, 0, 1⟩
/-- Ramp running -/
def KEEP_STATUS_SPW : Fld := ⟨.keep, 0x4, 0x0, 1, 1, 1, .ro, .live, 0, 0, 1⟩
/-- Withdrawal complete -/
def KEEP_STATUS_WITHDRAWN : Fld := ⟨.keep, 0x4, 0x0, 1, 2, 1, .ro, .live, 1, 0, 1⟩
/-- R353 -/
def KEEP_STATUS_SAFE_FAULT : Fld := ⟨.keep, 0x4, 0x0, 1, 3, 1, .ro, .live, 0, 0, 1⟩
/-- A demand occurred -/
def KEEP_STATUS_DEMAND : Fld := ⟨.keep, 0x4, 0x0, 1, 4, 1, .w1c, .live, 0, 0, 1⟩
/-- R346; also cleared by a release -/
def KEEP_STATUS_PAIR_FAULT : Fld := ⟨.keep, 0x4, 0x0, 1, 5, 1, .w1c, .live, 0, 0, 1⟩
/-- R351; with ESC = 1 also cleared by a release -/
def KEEP_STATUS_FB_FAULT : Fld := ⟨.keep, 0x4, 0x0, 1, 6, 1, .w1c, .live, 0, 0, 1⟩
/-- R351 -/
def KEEP_STATUS_FOLLOW_FAULT : Fld := ⟨.keep, 0x4, 0x0, 1, 7, 1, .w1c, .live, 0, 0, 1⟩
/-- R349 -/
def KEEP_STATUS_RAMP_FAIL : Fld := ⟨.keep, 0x4, 0x0, 1, 8, 1, .w1c, .live, 0, 0, 1⟩
/-- A record was logged -/
def KEEP_STATUS_LOG_EV : Fld := ⟨.keep, 0x4, 0x0, 1, 9, 1, .w1c, .live, 0, 0, 1⟩
/-- R357 -/
def KEEP_STATUS_LOG_LOST : Fld := ⟨.keep, 0x4, 0x0, 1, 10, 1, .w1c, .live, 0, 0, 1⟩
/-- R353 -/
def KEEP_STATUS_FAULT_CAUSE : Fld := ⟨.keep, 0x4, 0x0, 1, 12, 4, .ro, .live, 0, 0, 0xf⟩
-- KEEP.INT_EN (R358)
/-- Bit j enables STATUS bit j -/
def KEEP_INT_EN_EN : Fld := ⟨.keep, 0x8, 0x0, 1, 4, 7, .rw, .live, 0, 0, 0x7f⟩
-- KEEP.INPUTS (R358)
/-- Filtered demands -/
def KEEP_INPUTS_DEMAND : Fld := ⟨.keep, 0xc, 0x0, 1, 0, 8, .ro, .live, 0xff, 0, 0xff⟩
/-- Pin levels -/
def KEEP_INPUTS_RAW : Fld := ⟨.keep, 0xc, 0x0, 1, 8, 8, .ro, .live, 0, 0, 0xff⟩
/-- KFB0–7 raw levels, from the first KCLK sample after reset (R351) -/
def KEEP_INPUTS_FB : Fld := ⟨.keep, 0xc, 0x0, 1, 16, 8, .ro, .live, 0, 0, 0xff⟩
-- KEEP.OUTPUTS (R358)
/-- Energised relays -/
def KEEP_OUTPUTS_RELAY : Fld := ⟨.keep, 0x10, 0x0, 1, 0, 4, .ro, .live, 0, 0, 0xf⟩
/-- Relay readback -/
def KEEP_OUTPUTS_RLY_RB : Fld := ⟨.keep, 0x10, 0x0, 1, 8, 4, .ro, .live, 0, 0, 0xf⟩
/-- KGEN readback -/
def KEEP_OUTPUTS_KGEN : Fld := ⟨.keep, 0x10, 0x0, 1, 16, 2, .ro, .live, 0, 0, 3⟩
-- KEEP.FBSTATE (R358)
/-- Filtered: 0 OPEN, 1 CLOSED, 2 both 0, 3 both 1; CLOSED from reset until the filters … -/
def KEEP_FBSTATE_STATE : Fld := ⟨.keep, 0x14, 0x0, 1, 0, 8, .ro, .live, 0x55, 0, 0xff⟩
-- KEEP.RAMP_NOW (R358)
/-- Present limit -/
def KEEP_RAMP_NOW_LIMIT : Fld := ⟨.keep, 0x18, 0x0, 1, 0, 24, .ro, .live, 0, 0, 0xffffff⟩
-- KEEP.MON (R358)
/-- Last M -/
def KEEP_MON_M : Fld := ⟨.keep, 0x1c, 0x0, 1, 0, 24, .ro, .live, 0, 0, 0xffffff⟩
-- KEEP.CFG_CRC (R358)
/-- Applied configuration -/
def KEEP_CFG_CRC_CRC : Fld := ⟨.keep, 0x20, 0x0, 1, 0, 32, .ro, .live, 0, 0, 0xffffffff⟩
-- KEEP.STAGED_CRC (R358)
/-- Staged copy -/
def KEEP_STAGED_CRC_CRC : Fld := ⟨.keep, 0x24, 0x0, 1, 0, 32, .ro, .live, 0, 0, 0xffffffff⟩
-- KEEP.KIN (R358)
/-- µs -/
def KEEP_KIN_FILT : Fld := ⟨.keep, 0x100, 0x4, 8, 0, 10, .rw, .commit, 0xa, 0, 0x3ff⟩
/-- R346; 5–7 refused with E_VALUE -/
def KEEP_KIN_FUNC : Fld := ⟨.keep, 0x100, 0x4, 8, 10, 3, .rw, .commit, 1, 0, 4⟩
/-- Even i only; 1 on odd i refused with E_VALUE -/
def KEEP_KIN_PAIRED : Fld := ⟨.keep, 0x100, 0x4, 8, 13, 1, .rw, .commit, 0, 0, 1⟩
/-- ms; 0 refused with E_VALUE -/
def KEEP_KIN_DISC : Fld := ⟨.keep, 0x100, 0x4, 8, 16, 8, .rw, .commit, 0x64, 1, 0xff⟩
-- KEEP.FBPAIR (R358)
/-- R351 -/
def KEEP_FBPAIR_EN : Fld := ⟨.keep, 0x140, 0x4, 4, 0, 1, .rw, .commit, 0, 0, 1⟩
/-- Bound relay -/
def KEEP_FBPAIR_RELAY : Fld := ⟨.keep, 0x140, 0x4, 4, 1, 2, .rw, .commit, 0, 0, 3⟩
/-- Follow check -/
def KEEP_FBPAIR_BIND : Fld := ⟨.keep, 0x140, 0x4, 4, 3, 1, .rw, .commit, 0, 0, 1⟩
/-- FB_FAULT demands SGR -/
def KEEP_FBPAIR_ESC : Fld := ⟨.keep, 0x140, 0x4, 4, 4, 1, .rw, .commit, 0, 0, 1⟩
/-- ms; 0 refused with E_VALUE -/
def KEEP_FBPAIR_DISC_T : Fld := ⟨.keep, 0x140, 0x4, 4, 8, 8, .rw, .commit, 0x32, 1, 0xff⟩
/-- ms; 0 refused with E_VALUE -/
def KEEP_FBPAIR_FOLLOW_T : Fld := ⟨.keep, 0x140, 0x4, 4, 16, 16, .rw, .commit, 0xc8, 1, 0xffff⟩
-- KEEP.RAMP_START (R358)
/-- Gain-8 VALUE units -/
def KEEP_RAMP_START_V : Fld := ⟨.keep, 0x160, 0x0, 1, 0, 24, .rw, .commit, 0, 0, 0xffffff⟩
-- KEEP.RAMP_END (R358)
/-- Above RAMP_START refused with E_RANGE -/
def KEEP_RAMP_END_V : Fld := ⟨.keep, 0x164, 0x0, 1, 0, 24, .rw, .commit, 0, 0, 0xffffff⟩
-- KEEP.RAMP_T (R358)
/-- ms; 0 refused with E_VALUE -/
def KEEP_RAMP_T_T : Fld := ⟨.keep, 0x168, 0x0, 1, 0, 16, .rw, .commit, 0x7d0, 1, 0xffff⟩
/-- ms -/
def KEEP_RAMP_T_GRACE : Fld := ⟨.keep, 0x168, 0x0, 1, 16, 16, .rw, .commit, 0x1f4, 0, 0xffff⟩
-- KEEP.RAMP_CNT (R358)
/-- 1–15; 0 refused with E_VALUE -/
def KEEP_RAMP_CNT_CNT : Fld := ⟨.keep, 0x16c, 0x0, 1, 0, 4, .rw, .commit, 3, 1, 0xf⟩
/-- Gain-8 VALUE units -/
def KEEP_RAMP_CNT_MON_TOL : Fld := ⟨.keep, 0x16c, 0x0, 1, 8, 24, .rw, .commit, 0x100, 0, 0xffffff⟩
-- KEEP.SGR_CFG (R358)
/-- R347 -/
def KEEP_SGR_CFG_CHOP_KEEP : Fld := ⟨.keep, 0x170, 0x0, 1, 0, 1, .rw, .commit, 0, 0, 1⟩
/-- R350 -/
def KEEP_SGR_CFG_SPW_RELAYS : Fld := ⟨.keep, 0x170, 0x0, 1, 4, 4, .rw, .commit, 0xf, 0, 0xf⟩
/-- R346 -/
def KEEP_SGR_CFG_W_RELAYS : Fld := ⟨.keep, 0x170, 0x0, 1, 8, 4, .rw, .commit, 0xf, 0, 0xf⟩
-- KEEP.PASS (R358)
/-- Password words, PASS0 lowest -/
def KEEP_PASS_PASS : Fld := ⟨.keep, 0x200, 0x4, 4, 0, 32, .wo, .live, 0, 0, 0xffffffff⟩
-- KEEP.CFG_CTRL (R358)
/-- R356 -/
def KEEP_CFG_CTRL_UNLOCK : Fld := ⟨.keep, 0x210, 0x0, 1, 0, 1, .wo, .live, 0, 0, 1⟩
/-- R356 -/
def KEEP_CFG_CTRL_COMMIT : Fld := ⟨.keep, 0x210, 0x0, 1, 1, 1, .wo, .live, 0, 0, 1⟩
/-- R356 -/
def KEEP_CFG_CTRL_DISCARD : Fld := ⟨.keep, 0x210, 0x0, 1, 2, 1, .wo, .live, 0, 0, 1⟩
/-- Relock -/
def KEEP_CFG_CTRL_LOCK : Fld := ⟨.keep, 0x210, 0x0, 1, 3, 1, .wo, .live, 0, 0, 1⟩
/-- R356; E_LOCKED unless unlocked -/
def KEEP_CFG_CTRL_SETPASS : Fld := ⟨.keep, 0x210, 0x0, 1, 4, 1, .wo, .live, 0, 0, 1⟩
/-- R357; E_LOCKED unless unlocked -/
def KEEP_CFG_CTRL_LOG_CLEAR : Fld := ⟨.keep, 0x210, 0x0, 1, 5, 1, .wo, .live, 0, 0, 1⟩
-- KEEP.CFG_STATUS (R358)
/-- CFG_STATUS -/
def KEEP_CFG_STATUS_UNLOCKED : Fld := ⟨.keep, 0x214, 0x0, 1, 0, 1, .ro, .live, 0, 0, 1⟩
/-- Staged copy differs -/
def KEEP_CFG_STATUS_STAGED : Fld := ⟨.keep, 0x214, 0x0, 1, 1, 1, .ro, .live, 0, 0, 1⟩
/-- 0 SAFETY, 1 HOST -/
def KEEP_CFG_STATUS_PORT : Fld := ⟨.keep, 0x214, 0x0, 1, 2, 1, .ro, .live, 0, 0, 1⟩
/-- R356 -/
def KEEP_CFG_STATUS_LOCKOUT : Fld := ⟨.keep, 0x214, 0x0, 1, 3, 1, .ro, .live, 0, 0, 1⟩
/-- Consecutive failures -/
def KEEP_CFG_STATUS_FAILS : Fld := ⟨.keep, 0x214, 0x0, 1, 4, 2, .ro, .live, 0, 0, 3⟩
/-- Seconds of unlock or lockout left -/
def KEEP_CFG_STATUS_REMAIN_S : Fld := ⟨.keep, 0x214, 0x0, 1, 16, 16, .ro, .live, 0, 0, 0xffff⟩
-- KEEP.LOG_LEVEL (R358)
/-- Records held -/
def KEEP_LOG_LEVEL_N : Fld := ⟨.keep, 0x220, 0x0, 1, 0, 11, .ro, .live, 0, 0, 0x7ff⟩
-- KEEP.LOG_SEL (R358)
/-- Record, 0 oldest -/
def KEEP_LOG_SEL_IDX : Fld := ⟨.keep, 0x224, 0x0, 1, 0, 10, .rw, .live, 0, 0, 0x3ff⟩
-- KEEP.LOG_W (R358)
/-- Bytes 4w to 4w + 3 of the selected record -/
def KEEP_LOG_W_DATA : Fld := ⟨.keep, 0x240, 0x4, 8, 0, 32, .ro, .live, 0, 0, 0xffffffff⟩
-- KEEP.ERR_CODE (R26)
/-- First refusal code (R9, R10) -/
def KEEP_ERR_CODE : Fld := ⟨.keep, 0xf0, 0x0, 1, 0, 8, .ro, .live, 0, 0, 0xff⟩
-- KEEP.ERR_OFFSET (R26)
/-- Offset of the refused write -/
def KEEP_ERR_OFFSET : Fld := ⟨.keep, 0xf0, 0x0, 1, 8, 12, .ro, .live, 0, 0, 0xfff⟩
-- KEEP.ERR_OFFSET_HI (R26)
/-- Offset bits [21:12] -/
def KEEP_ERR_OFFSET_HI : Fld := ⟨.keep, 0xf0, 0x0, 1, 20, 10, .ro, .live, 0, 0, 0x3ff⟩
-- KEEP.ERR_CLEAR (R26)
/-- Clears CODE, OFFSET, OFFSET_HI and MORE -/
def KEEP_ERR_CLEAR : Fld := ⟨.keep, 0xf0, 0x0, 1, 30, 1, .wo, .live, 0, 0, 1⟩
-- KEEP.ERR_MORE (R26)
/-- A further refusal occurred (R10) -/
def KEEP_ERR_MORE : Fld := ⟨.keep, 0xf0, 0x0, 1, 31, 1, .w1c, .live, 0, 0, 1⟩

/-- Every field of block KEEP. -/
def KEEP_fields : List Fld :=
  [KEEP_CTRL_RELEASE, KEEP_CTRL_SPW_REQ, KEEP_CTRL_SGR_REQ, KEEP_STATUS_SGR, KEEP_STATUS_SPW, KEEP_STATUS_WITHDRAWN, KEEP_STATUS_SAFE_FAULT, KEEP_STATUS_DEMAND, KEEP_STATUS_PAIR_FAULT, KEEP_STATUS_FB_FAULT, KEEP_STATUS_FOLLOW_FAULT, KEEP_STATUS_RAMP_FAIL, KEEP_STATUS_LOG_EV, KEEP_STATUS_LOG_LOST, KEEP_STATUS_FAULT_CAUSE, KEEP_INT_EN_EN, KEEP_INPUTS_DEMAND, KEEP_INPUTS_RAW, KEEP_INPUTS_FB, KEEP_OUTPUTS_RELAY, KEEP_OUTPUTS_RLY_RB, KEEP_OUTPUTS_KGEN, KEEP_FBSTATE_STATE, KEEP_RAMP_NOW_LIMIT]
  ++ [KEEP_MON_M, KEEP_CFG_CRC_CRC, KEEP_STAGED_CRC_CRC, KEEP_KIN_FILT, KEEP_KIN_FUNC, KEEP_KIN_PAIRED, KEEP_KIN_DISC, KEEP_FBPAIR_EN, KEEP_FBPAIR_RELAY, KEEP_FBPAIR_BIND, KEEP_FBPAIR_ESC, KEEP_FBPAIR_DISC_T, KEEP_FBPAIR_FOLLOW_T, KEEP_RAMP_START_V, KEEP_RAMP_END_V, KEEP_RAMP_T_T, KEEP_RAMP_T_GRACE, KEEP_RAMP_CNT_CNT, KEEP_RAMP_CNT_MON_TOL, KEEP_SGR_CFG_CHOP_KEEP, KEEP_SGR_CFG_SPW_RELAYS, KEEP_SGR_CFG_W_RELAYS, KEEP_PASS_PASS, KEEP_CFG_CTRL_UNLOCK]
  ++ [KEEP_CFG_CTRL_COMMIT, KEEP_CFG_CTRL_DISCARD, KEEP_CFG_CTRL_LOCK, KEEP_CFG_CTRL_SETPASS, KEEP_CFG_CTRL_LOG_CLEAR, KEEP_CFG_STATUS_UNLOCKED, KEEP_CFG_STATUS_STAGED, KEEP_CFG_STATUS_PORT, KEEP_CFG_STATUS_LOCKOUT, KEEP_CFG_STATUS_FAILS, KEEP_CFG_STATUS_REMAIN_S, KEEP_LOG_LEVEL_N, KEEP_LOG_SEL_IDX, KEEP_LOG_W_DATA, KEEP_ERR_CODE, KEEP_ERR_OFFSET, KEEP_ERR_OFFSET_HI, KEEP_ERR_CLEAR, KEEP_ERR_MORE]

-- LANTERN.REQ (R372)
/-- R361; 0 wake, 1–4 state, 7 automatic -/
def LANTERN_REQ_STATE : Fld := ⟨.lantern, 0x0, 0x0, 1, 0, 3, .wo, .live, 0, 0, 7⟩
-- LANTERN.STATUS (R372)
/-- Present state -/
def LANTERN_STATUS_STATE : Fld := ⟨.lantern, 0x4, 0x0, 1, 0, 3, .ro, .live, 0, 0, 7⟩
/-- State being entered -/
def LANTERN_STATUS_TARGET : Fld := ⟨.lantern, 0x4, 0x0, 1, 3, 3, .ro, .live, 0, 0, 7⟩
/-- Queued state; 0: none (R364) -/
def LANTERN_STATUS_QUEUED : Fld := ⟨.lantern, 0x4, 0x0, 1, 6, 3, .ro, .live, 0, 0, 7⟩
/-- Transition in progress -/
def LANTERN_STATUS_BUSY : Fld := ⟨.lantern, 0x4, 0x0, 1, 9, 1, .ro, .live, 0, 0, 1⟩
/-- 0 REACHED, 1 ABORTED, 2 NONE, 3 FAILED -/
def LANTERN_STATUS_LAST : Fld := ⟨.lantern, 0x4, 0x0, 1, 10, 2, .ro, .live, 0, 0, 3⟩
/-- Run reached after a wake (R367) -/
def LANTERN_STATUS_WAKE : Fld := ⟨.lantern, 0x4, 0x0, 1, 16, 1, .w1c, .live, 0, 0, 1⟩
/-- A request completed or aborted -/
def LANTERN_STATUS_REQ_DONE : Fld := ⟨.lantern, 0x4, 0x0, 1, 17, 1, .w1c, .live, 0, 0, 1⟩
/-- R370 -/
def LANTERN_STATUS_VAON_LOW : Fld := ⟨.lantern, 0x4, 0x0, 1, 18, 1, .w1c, .live, 0, 0, 1⟩
/-- R370 -/
def LANTERN_STATUS_OSC_STOP : Fld := ⟨.lantern, 0x4, 0x0, 1, 19, 1, .w1c, .live, 0, 0, 1⟩
/-- R370 -/
def LANTERN_STATUS_BOR : Fld := ⟨.lantern, 0x4, 0x0, 1, 20, 1, .w1c, .live, 1, 0, 1⟩
/-- VAON below 2.00 V now -/
def LANTERN_STATUS_LOW_NOW : Fld := ⟨.lantern, 0x4, 0x0, 1, 21, 1, .ro, .live, 0, 0, 1⟩
-- LANTERN.INT_EN (R372)
/-- Sources 252–255 -/
def LANTERN_INT_EN_EN : Fld := ⟨.lantern, 0x8, 0x0, 1, 0, 4, .rw, .live, 0, 0, 0xf⟩
-- LANTERN.CFG (R372)
/-- 1–4; others refused with E_VALUE -/
def LANTERN_CFG_MAX_AUTO : Fld := ⟨.lantern, 0xc, 0x0, 1, 0, 3, .rw, .held, 2, 1, 4⟩
-- LANTERN.GUARD (R372)
/-- µs (R365) -/
def LANTERN_GUARD_US : Fld := ⟨.lantern, 0x10, 0x0, 1, 0, 20, .rw, .held, 0x3e8, 0, 0xfffff⟩
-- LANTERN.MIN_RES_2 (R372)
/-- µs, Doze, Sleep, Hibernate -/
def LANTERN_MIN_RES_2_US : Fld := ⟨.lantern, 0x14, 0x0, 1, 0, 32, .rw, .held, 0x3e8, 0, 0xffffffff⟩
-- LANTERN.MIN_RES_3 (R372)
/-- µs, Doze, Sleep, Hibernate -/
def LANTERN_MIN_RES_3_US : Fld := ⟨.lantern, 0x18, 0x0, 1, 0, 32, .rw, .held, 0x186a0, 0, 0xffffffff⟩
-- LANTERN.MIN_RES_4 (R372)
/-- µs, Doze, Sleep, Hibernate -/
def LANTERN_MIN_RES_4_US : Fld := ⟨.lantern, 0x1c, 0x0, 1, 0, 32, .rw, .held, 0x3938700, 0, 0xffffffff⟩
-- LANTERN.WAKE_EN (R372)
/-- [3:0] LWAKE0–3, [4] alarm, [5] port, [6] HOST, [7] Campanile -/
def LANTERN_WAKE_EN_EN : Fld := ⟨.lantern, 0x20, 0x0, 1, 0, 8, .rw, .live, 0x3f, 0, 0xff⟩
-- LANTERN.WAKE_SRC (R372)
/-- Latched events, same bits -/
def LANTERN_WAKE_SRC_SRC : Fld := ⟨.lantern, 0x24, 0x0, 1, 0, 8, .w1c, .live, 0, 0, 0xff⟩
-- LANTERN.WAKE_CFG (R372)
/-- Pin k in [2k+1:2k]: 1 rising, 2 falling, 3 both; 0 refused with E_VALUE -/
def LANTERN_WAKE_CFG_EDGE : Fld := ⟨.lantern, 0x28, 0x0, 1, 0, 8, .rw, .live, 0x55, 0, 0xff⟩
-- LANTERN.TICK (R372)
/-- LO read latches HI -/
def LANTERN_TICK_TICK : Fld := ⟨.lantern, 0x30, 0x0, 1, 0, 48, .ro, .live, 0, 0, 0xffffffffffff⟩
-- LANTERN.ALARM (R372)
/-- Alarm tick -/
def LANTERN_ALARM_TICK : Fld := ⟨.lantern, 0x38, 0x0, 1, 0, 48, .rw, .live, 0, 0, 0xffffffffffff⟩
-- LANTERN.ALARM_HI (R372)
/-- Alarm armed -/
def LANTERN_ALARM_HI_ALARM_EN : Fld := ⟨.lantern, 0x3c, 0x0, 1, 31, 1, .rw, .live, 0, 0, 1⟩
-- LANTERN.WAKE_TICK (R372)
/-- R367 -/
def LANTERN_WAKE_TICK_TICK : Fld := ⟨.lantern, 0x40, 0x0, 1, 0, 48, .ro, .live, 0, 0, 0xffffffffffff⟩
-- LANTERN.PORT (R372)
/-- R368 -/
def LANTERN_PORT_ADDR : Fld := ⟨.lantern, 0x48, 0x0, 1, 0, 7, .rw, .live, 0x2c, 0, 0x7f⟩
/-- Port answers -/
def LANTERN_PORT_EN : Fld := ⟨.lantern, 0x48, 0x0, 1, 7, 1, .rw, .live, 1, 0, 1⟩
-- LANTERN.ERR_CODE (R26)
/-- First refusal code (R9, R10) -/
def LANTERN_ERR_CODE : Fld := ⟨.lantern, 0xf0, 0x0, 1, 0, 8, .ro, .live, 0, 0, 0xff⟩
-- LANTERN.ERR_OFFSET (R26)
/-- Offset of the refused write -/
def LANTERN_ERR_OFFSET : Fld := ⟨.lantern, 0xf0, 0x0, 1, 8, 12, .ro, .live, 0, 0, 0xfff⟩
-- LANTERN.ERR_OFFSET_HI (R26)
/-- Offset bits [21:12] -/
def LANTERN_ERR_OFFSET_HI : Fld := ⟨.lantern, 0xf0, 0x0, 1, 20, 10, .ro, .live, 0, 0, 0x3ff⟩
-- LANTERN.ERR_CLEAR (R26)
/-- Clears CODE, OFFSET, OFFSET_HI and MORE -/
def LANTERN_ERR_CLEAR : Fld := ⟨.lantern, 0xf0, 0x0, 1, 30, 1, .wo, .live, 0, 0, 1⟩
-- LANTERN.ERR_MORE (R26)
/-- A further refusal occurred (R10) -/
def LANTERN_ERR_MORE : Fld := ⟨.lantern, 0xf0, 0x0, 1, 31, 1, .w1c, .live, 0, 0, 1⟩

/-- Every field of block LANTERN. -/
def LANTERN_fields : List Fld :=
  [LANTERN_REQ_STATE, LANTERN_STATUS_STATE, LANTERN_STATUS_TARGET, LANTERN_STATUS_QUEUED, LANTERN_STATUS_BUSY, LANTERN_STATUS_LAST, LANTERN_STATUS_WAKE, LANTERN_STATUS_REQ_DONE, LANTERN_STATUS_VAON_LOW, LANTERN_STATUS_OSC_STOP, LANTERN_STATUS_BOR, LANTERN_STATUS_LOW_NOW, LANTERN_INT_EN_EN, LANTERN_CFG_MAX_AUTO, LANTERN_GUARD_US, LANTERN_MIN_RES_2_US, LANTERN_MIN_RES_3_US, LANTERN_MIN_RES_4_US, LANTERN_WAKE_EN_EN, LANTERN_WAKE_SRC_SRC, LANTERN_WAKE_CFG_EDGE, LANTERN_TICK_TICK, LANTERN_ALARM_TICK, LANTERN_ALARM_HI_ALARM_EN]
  ++ [LANTERN_WAKE_TICK_TICK, LANTERN_PORT_ADDR, LANTERN_PORT_EN, LANTERN_ERR_CODE, LANTERN_ERR_OFFSET, LANTERN_ERR_OFFSET_HI, LANTERN_ERR_CLEAR, LANTERN_ERR_MORE]

-- SECURE.CMD (R396)
/-- 1 VERIFY, 2 VERIFY_TCM, 3 KEY, 4 SVN_COMMIT, 5 ATTEST; 0, 6, 7 refused with E_VALUE -/
def SECURE_CMD_OP : Fld := ⟨.secure, 0x0, 0x0, 1, 0, 3, .wo, .live, 0, 0, 7⟩
/-- R391 -/
def SECURE_CMD_CORE : Fld := ⟨.secure, 0x0, 0x0, 1, 4, 4, .wo, .live, 0, 0, 0xf⟩
/-- R391 -/
def SECURE_CMD_IMAGE : Fld := ⟨.secure, 0x0, 0x0, 1, 8, 4, .wo, .live, 0, 0, 0xf⟩
-- SECURE.ADDR (R396)
/-- Cupola address of the manifest, message or nonce -/
def SECURE_ADDR_ADDR : Fld := ⟨.secure, 0x4, 0x0, 1, 0, 26, .rw, .held, 0, 0, 0x3ffffff⟩
-- SECURE.ADDR2 (R396)
/-- Cupola address of the report -/
def SECURE_ADDR2_ADDR : Fld := ⟨.secure, 0x8, 0x0, 1, 0, 26, .rw, .held, 0, 0, 0x3ffffff⟩
-- SECURE.RSP (R396)
/-- Result code -/
def SECURE_RSP_STAT : Fld := ⟨.secure, 0x10, 0x0, 1, 0, 8, .ro, .live, 0, 0, 0xff⟩
/-- Result present; the read clears it -/
def SECURE_RSP_VALID : Fld := ⟨.secure, 0x10, 0x0, 1, 8, 1, .ro, .live, 0, 0, 1⟩
/-- Command running -/
def SECURE_RSP_BUSY : Fld := ⟨.secure, 0x10, 0x0, 1, 9, 1, .ro, .live, 0, 0, 1⟩
-- SECURE.TCM_OK (R396)
/-- R391 -/
def SECURE_TCM_OK_CORES : Fld := ⟨.secure, 0x14, 0x0, 1, 0, 16, .ro, .live, 0, 0, 0xffff⟩
-- SECURE.BOOT_STATUS (R396)
/-- 0 A, 1 B, 2 host, 3 none -/
def SECURE_BOOT_STATUS_SLOT : Fld := ⟨.secure, 0x18, 0x0, 1, 0, 2, .ro, .live, 3, 0, 3⟩
/-- Result for slot A -/
def SECURE_BOOT_STATUS_STAT_A : Fld := ⟨.secure, 0x18, 0x0, 1, 8, 8, .ro, .live, 0, 0, 0xff⟩
/-- Result for slot B -/
def SECURE_BOOT_STATUS_STAT_B : Fld := ⟨.secure, 0x18, 0x0, 1, 16, 8, .ro, .live, 0, 0, 0xff⟩
-- SECURE.BOOT_CTRL (R396)
/-- Preferred slot, kept in MRAM -/
def SECURE_BOOT_CTRL_PREF : Fld := ⟨.secure, 0x1c, 0x0, 1, 0, 1, .rw, .live, 0, 0, 1⟩
/-- R385 -/
def SECURE_BOOT_CTRL_HOST_GO : Fld := ⟨.secure, 0x1c, 0x0, 1, 1, 1, .wo, .live, 0, 0, 1⟩
-- SECURE.DEVID (R396)
/-- R392 -/
def SECURE_DEVID_ID : Fld := ⟨.secure, 0x20, 0x0, 1, 0, 64, .ro, .live, 0, 0, 0xffffffffffffffff⟩
-- SECURE.KEYS (R396)
/-- Pairs 0–7 -/
def SECURE_KEYS_INSTALLED : Fld := ⟨.secure, 0x28, 0x0, 1, 0, 8, .ro, .live, 0, 0, 0xff⟩
/-- Pairs 0–7 -/
def SECURE_KEYS_REVOKED : Fld := ⟨.secure, 0x28, 0x0, 1, 8, 8, .ro, .live, 0, 0, 0xff⟩
-- SECURE.KEY_SEQ (R396)
/-- R389 -/
def SECURE_KEY_SEQ_SEQ : Fld := ⟨.secure, 0x30, 0x0, 1, 0, 64, .ro, .live, 0, 0, 0xffffffffffffffff⟩
-- SECURE.CTR (R396)
/-- R390 -/
def SECURE_CTR_SVN : Fld := ⟨.secure, 0x40, 0x4, 16, 0, 32, .ro, .live, 0, 0, 0xffffffff⟩
-- SECURE.ERR_CODE (R26)
/-- First refusal code (R9, R10) -/
def SECURE_ERR_CODE : Fld := ⟨.secure, 0xf0, 0x0, 1, 0, 8, .ro, .live, 0, 0, 0xff⟩
-- SECURE.ERR_OFFSET (R26)
/-- Offset of the refused write -/
def SECURE_ERR_OFFSET : Fld := ⟨.secure, 0xf0, 0x0, 1, 8, 12, .ro, .live, 0, 0, 0xfff⟩
-- SECURE.ERR_OFFSET_HI (R26)
/-- Offset bits [21:12] -/
def SECURE_ERR_OFFSET_HI : Fld := ⟨.secure, 0xf0, 0x0, 1, 20, 10, .ro, .live, 0, 0, 0x3ff⟩
-- SECURE.ERR_CLEAR (R26)
/-- Clears CODE, OFFSET, OFFSET_HI and MORE -/
def SECURE_ERR_CLEAR : Fld := ⟨.secure, 0xf0, 0x0, 1, 30, 1, .wo, .live, 0, 0, 1⟩
-- SECURE.ERR_MORE (R26)
/-- A further refusal occurred (R10) -/
def SECURE_ERR_MORE : Fld := ⟨.secure, 0xf0, 0x0, 1, 31, 1, .w1c, .live, 0, 0, 1⟩

/-- Every field of block SECURE. -/
def SECURE_fields : List Fld :=
  [SECURE_CMD_OP, SECURE_CMD_CORE, SECURE_CMD_IMAGE, SECURE_ADDR_ADDR, SECURE_ADDR2_ADDR, SECURE_RSP_STAT, SECURE_RSP_VALID, SECURE_RSP_BUSY, SECURE_TCM_OK_CORES, SECURE_BOOT_STATUS_SLOT, SECURE_BOOT_STATUS_STAT_A, SECURE_BOOT_STATUS_STAT_B, SECURE_BOOT_CTRL_PREF, SECURE_BOOT_CTRL_HOST_GO, SECURE_DEVID_ID, SECURE_KEYS_INSTALLED, SECURE_KEYS_REVOKED, SECURE_KEY_SEQ_SEQ, SECURE_CTR_SVN, SECURE_ERR_CODE, SECURE_ERR_OFFSET, SECURE_ERR_OFFSET_HI, SECURE_ERR_CLEAR, SECURE_ERR_MORE]

-- PORT.CTRL (R412)
/-- Engine reads entries -/
def PORT_CTRL_CMD_EN : Fld := ⟨.port, 0x0, 0x0, 1, 0, 1, .rw, .live, 0, 0, 1⟩
/-- R402 -/
def PORT_CTRL_HOST_LOCK : Fld := ⟨.port, 0x0, 0x0, 1, 1, 1, .rw, .live, 0, 0, 1⟩
/-- R402 -/
def PORT_CTRL_MAINT_WR : Fld := ⟨.port, 0x0, 0x0, 1, 2, 1, .rw, .live, 0, 0, 1⟩
/-- R400 -/
def PORT_CTRL_UART_MODE : Fld := ⟨.port, 0x0, 0x0, 1, 3, 1, .rw, .held, 0, 0, 1⟩
-- PORT.STATUS (R412)
/-- A completion was written -/
def PORT_STATUS_CPL : Fld := ⟨.port, 0x4, 0x0, 1, 0, 1, .w1c, .live, 0, 0, 1⟩
/-- R404 -/
def PORT_STATUS_CPL_FULL : Fld := ⟨.port, 0x4, 0x0, 1, 1, 1, .ro, .live, 0, 0, 1⟩
/-- R405 -/
def PORT_STATUS_DUP_DIFF : Fld := ⟨.port, 0x4, 0x0, 1, 2, 1, .w1c, .live, 0, 0, 1⟩
/-- R403 -/
def PORT_STATUS_HOST_RESET : Fld := ⟨.port, 0x4, 0x0, 1, 3, 1, .w1c, .live, 0, 0, 1⟩
/-- PCIe link in L0 -/
def PORT_STATUS_LINK_UP : Fld := ⟨.port, 0x4, 0x0, 1, 4, 1, .ro, .live, 0, 0, 1⟩
/-- A STATION link changed -/
def PORT_STATUS_ETH_EV : Fld := ⟨.port, 0x4, 0x0, 1, 5, 1, .w1c, .live, 0, 0, 1⟩
/-- STATION block lock -/
def PORT_STATUS_ETH_UP : Fld := ⟨.port, 0x4, 0x0, 1, 8, 4, .ro, .live, 0, 0, 0xf⟩
-- PORT.INT_EN (R412)
/-- Bit j enables STATUS bit j -/
def PORT_INT_EN_EN : Fld := ⟨.port, 0x8, 0x0, 1, 0, 6, .rw, .live, 0, 0, 0x3f⟩
-- PORT.HOST_DOORBELL (R412)
/-- R398 -/
def PORT_HOST_DOORBELL_VEC : Fld := ⟨.port, 0xc, 0x0, 1, 2, 6, .wo, .live, 0, 0, 0x3f⟩
-- PORT.CMD_BASE (R412)
/-- Cupola address -/
def PORT_CMD_BASE_ADDR : Fld := ⟨.port, 0x10, 0x0, 1, 6, 20, .rw, .held, 0, 0, 0xfffff⟩
-- PORT.CMD_LOG2 (R412)
/-- 4–12; others refused with E_VALUE -/
def PORT_CMD_LOG2_N : Fld := ⟨.port, 0x14, 0x0, 1, 0, 4, .rw, .held, 8, 4, 0xc⟩
-- PORT.CMD_TAIL (R412)
/-- R404 -/
def PORT_CMD_TAIL_IDX : Fld := ⟨.port, 0x18, 0x0, 1, 0, 12, .rw, .live, 0, 0, 0xfff⟩
-- PORT.CMD_HEAD (R412)
/-- Next entry read -/
def PORT_CMD_HEAD_IDX : Fld := ⟨.port, 0x1c, 0x0, 1, 0, 12, .ro, .live, 0, 0, 0xfff⟩
-- PORT.CPL_BASE (R412)
/-- Cupola address -/
def PORT_CPL_BASE_ADDR : Fld := ⟨.port, 0x20, 0x0, 1, 4, 22, .rw, .held, 0, 0, 0x3fffff⟩
-- PORT.CPL_LOG2 (R412)
/-- 4–12; others refused with E_VALUE -/
def PORT_CPL_LOG2_N : Fld := ⟨.port, 0x24, 0x0, 1, 0, 4, .rw, .held, 8, 4, 0xc⟩
-- PORT.CPL_TAIL (R412)
/-- Next completion written -/
def PORT_CPL_TAIL_IDX : Fld := ⟨.port, 0x28, 0x0, 1, 0, 12, .ro, .live, 0, 0, 0xfff⟩
-- PORT.CPL_HEAD (R412)
/-- Host's read position -/
def PORT_CPL_HEAD_IDX : Fld := ⟨.port, 0x2c, 0x0, 1, 0, 12, .rw, .live, 0, 0, 0xfff⟩
-- PORT.NEXT_SEQ (R412)
/-- R406; LO read latches HI -/
def PORT_NEXT_SEQ_SEQ : Fld := ⟨.port, 0x30, 0x0, 1, 0, 64, .ro, .live, 1, 0, 0xffffffffffffffff⟩
-- PORT.OLDEST_SEQ (R412)
/-- R409 -/
def PORT_OLDEST_SEQ_SEQ : Fld := ⟨.port, 0x38, 0x0, 1, 0, 64, .ro, .live, 1, 0, 0xffffffffffffffff⟩
-- PORT.RETAIN (R412)
/-- R409; 0 refused with E_VALUE -/
def PORT_RETAIN_N : Fld := ⟨.port, 0x40, 0x0, 1, 0, 16, .rw, .held, 0x1000, 1, 0xffff⟩
-- PORT.DELIV_QUEUE (R412)
/-- R410 -/
def PORT_DELIV_QUEUE_QUEUE : Fld := ⟨.port, 0x44, 0x0, 1, 0, 5, .rw, .held, 0, 0, 0x1f⟩
-- PORT.FW_DONE (R412)
/-- R409, R410; the HI write applies -/
def PORT_FW_DONE_JSEQ : Fld := ⟨.port, 0x48, 0x0, 1, 0, 64, .rw, .live, 0, 0, 0xffffffffffffffff⟩
-- PORT.UART_BAUD (R412)
/-- R400 -/
def PORT_UART_BAUD_BAUD : Fld := ⟨.port, 0x50, 0x0, 1, 0, 22, .rw, .held, 0x1c200, 0, 0x3fffff⟩
-- PORT.ETH_CFG (R412)
/-- Port runs -/
def PORT_ETH_CFG_EN : Fld := ⟨.port, 0x100, 0x20, 4, 0, 1, .rw, .held, 0, 0, 1⟩
/-- R399 -/
def PORT_ETH_CFG_HI_PCP : Fld := ⟨.port, 0x100, 0x20, 4, 1, 3, .rw, .held, 6, 0, 7⟩
/-- Receive queue -/
def PORT_ETH_CFG_RXQ : Fld := ⟨.port, 0x100, 0x20, 4, 4, 5, .rw, .held, 0, 0, 0x1f⟩
/-- Priority receive queue -/
def PORT_ETH_CFG_RXQ_HI : Fld := ⟨.port, 0x100, 0x20, 4, 9, 5, .rw, .held, 0, 0, 0x1f⟩
/-- Transmit queue -/
def PORT_ETH_CFG_TXQ : Fld := ⟨.port, 0x100, 0x20, 4, 14, 5, .rw, .held, 0, 0, 0x1f⟩
/-- Priority transmit queue -/
def PORT_ETH_CFG_TXQ_HI : Fld := ⟨.port, 0x100, 0x20, 4, 19, 5, .rw, .held, 0, 0, 0x1f⟩
-- PORT.ETH_LAT (R412)
/-- 0.1 ns per LSB -/
def PORT_ETH_LAT_RX_LAT : Fld := ⟨.port, 0x104, 0x20, 4, 0, 16, .ro, .live, 0x200, 0, 0xffff⟩
/-- 0.1 ns per LSB -/
def PORT_ETH_LAT_TX_LAT : Fld := ⟨.port, 0x104, 0x20, 4, 16, 16, .ro, .live, 0x1c0, 0, 0xffff⟩
-- PORT.RX_DROP (R412)
/-- Dropped frames, modulo 2³² -/
def PORT_RX_DROP_COUNT : Fld := ⟨.port, 0x108, 0x20, 4, 0, 32, .ro, .live, 0, 0, 0xffffffff⟩
-- PORT.ERR_CODE (R26)
/-- First refusal code (R9, R10) -/
def PORT_ERR_CODE : Fld := ⟨.port, 0xf0, 0x0, 1, 0, 8, .ro, .live, 0, 0, 0xff⟩
-- PORT.ERR_OFFSET (R26)
/-- Offset of the refused write -/
def PORT_ERR_OFFSET : Fld := ⟨.port, 0xf0, 0x0, 1, 8, 12, .ro, .live, 0, 0, 0xfff⟩
-- PORT.ERR_OFFSET_HI (R26)
/-- Offset bits [21:12] -/
def PORT_ERR_OFFSET_HI : Fld := ⟨.port, 0xf0, 0x0, 1, 20, 10, .ro, .live, 0, 0, 0x3ff⟩
-- PORT.ERR_CLEAR (R26)
/-- Clears CODE, OFFSET, OFFSET_HI and MORE -/
def PORT_ERR_CLEAR : Fld := ⟨.port, 0xf0, 0x0, 1, 30, 1, .wo, .live, 0, 0, 1⟩
-- PORT.ERR_MORE (R26)
/-- A further refusal occurred (R10) -/
def PORT_ERR_MORE : Fld := ⟨.port, 0xf0, 0x0, 1, 31, 1, .w1c, .live, 0, 0, 1⟩

/-- Every field of block PORT. -/
def PORT_fields : List Fld :=
  [PORT_CTRL_CMD_EN, PORT_CTRL_HOST_LOCK, PORT_CTRL_MAINT_WR, PORT_CTRL_UART_MODE, PORT_STATUS_CPL, PORT_STATUS_CPL_FULL, PORT_STATUS_DUP_DIFF, PORT_STATUS_HOST_RESET, PORT_STATUS_LINK_UP, PORT_STATUS_ETH_EV, PORT_STATUS_ETH_UP, PORT_INT_EN_EN, PORT_HOST_DOORBELL_VEC, PORT_CMD_BASE_ADDR, PORT_CMD_LOG2_N, PORT_CMD_TAIL_IDX, PORT_CMD_HEAD_IDX, PORT_CPL_BASE_ADDR, PORT_CPL_LOG2_N, PORT_CPL_TAIL_IDX, PORT_CPL_HEAD_IDX, PORT_NEXT_SEQ_SEQ, PORT_OLDEST_SEQ_SEQ, PORT_RETAIN_N]
  ++ [PORT_DELIV_QUEUE_QUEUE, PORT_FW_DONE_JSEQ, PORT_UART_BAUD_BAUD, PORT_ETH_CFG_EN, PORT_ETH_CFG_HI_PCP, PORT_ETH_CFG_RXQ, PORT_ETH_CFG_RXQ_HI, PORT_ETH_CFG_TXQ, PORT_ETH_CFG_TXQ_HI, PORT_ETH_LAT_RX_LAT, PORT_ETH_LAT_TX_LAT, PORT_RX_DROP_COUNT, PORT_ERR_CODE, PORT_ERR_OFFSET, PORT_ERR_OFFSET_HI, PORT_ERR_CLEAR, PORT_ERR_MORE]

end Sys2Proof.Machine
end

