-- ==== Sys2Proof/Machine/StateKeep.lean ====
section
/-!
DEFINITION. State of the Keep safety island (chapter 18) that no register shows.
-/
namespace Sys2Proof.Machine

/-- A record of the change log (R357). -/
structure KeepRec where
  seq : Nat
  timeNs : Nat
  kind : Nat
  port : Nat
  cause : Nat
  oldCrc : Nat
  newCrc : Nat
  last : Nat
  deriving DecidableEq, Repr

/-- Keep: pairs with a latched PAIR_FAULT and those of them that still block a release (R346, R348), the edge since
which a pair's inputs disagree, ACK inputs that have shown a valid pulse; feedback pairs with a latched FB_FAULT (R351),
the edge since which a pair is DISCREPANT, follow timers' expiry; the ramp's start edge, the edge of its last result pair,
a pair of own results complete on the even and the odd converter, consecutive completing, exceeding and differing
comparisons (R349); ticks since the request reached FAB (R347); the password words written and the digest stored (none:
the all-zero password the device ships with), the CRC stored with the configuration (none: that of the shipped one),
the edge at which an unlock or a lockout ends; the change log and its next SEQ. -/
structure KeepSt where
  pairFault : Nat := 0
  pairBlocks : Nat := 0
  disagree : Sp Nat := []
  acks : Nat := 0
  fbFault : Nat := 0
  discSince : Sp Nat := []
  follow : Sp Nat := []
  rampStart : Nat := 0
  rampPair : Nat := 0
  freshA : Bool := false
  freshB : Bool := false
  doneRun : Nat := 0
  highRun : Nat := 0
  diffRun : Nat := 0
  ticks : Nat := 0
  pass : Sp Nat := []
  digest : Option (List Nat) := none
  crc : Option Nat := none
  unlockEnd : Nat := 0
  lockoutEnd : Nat := 0
  log : List KeepRec := []
  nextSeq : Nat := 1
  deriving DecidableEq, Repr

end Sys2Proof.Machine
end

