-- ==== Sys2Proof/Machine/StateLaw.lean ====
section
/-!
DEFINITION. State of the Law engine (chapters 06 and 07) that no register shows.
-/
namespace Sys2Proof.Machine

/-- What an evaluation leaves in its record and returns (R127, R139, R140): state words by word number, the status
bits, C16, the outputs u (or DW) and e (or THETA). -/
structure LawEv where
  words : List (Nat × Nat)
  satHi : Bool := false
  satLo : Bool := false
  act : Bool := false
  dup : Bool := false
  gap : Bool := false
  lastCyc : Nat := 0
  out0 : Nat := 0
  out1 : Nat := 0
  deriving DecidableEq, Repr

/-- A capture record of R149. -/
structure CapRecord where
  s : Nat
  e : Nat
  u : Nat
  cycle : Nat
  stat : Nat
  flags : Nat
  deriving DecidableEq, Repr

/-- An entry issued and not complete (R145): its index in list memory, slot and type at issue, the edge on which it
completes, the result (none for a non-finite evaluation; `skip` for a slot that was not evaluated), the record words
software has written since the issue, whether it takes a value of the test signal, that value, the E of its capture record,
whether A_eff < AMP, and C16 at the issue. -/
structure LawFly where
  entry : Nat
  slot : Nat
  typ : Nat
  edge : Nat
  skip : Bool := false
  ev : Option LawEv := none
  touched : List Nat := []
  test : Bool := false
  testS : Nat := 0
  testE : Nat := 0
  testLow : Bool := false
  testCyc : Nat := 0
  deriving DecidableEq, Repr

/-- The running list (R145): its number, the edge of its LAWGO, the next entry and how many are left, the edge and
interval of the last issue, the entries in flight. -/
structure LawRun where
  list : Nat
  goEdge : Nat
  next : Nat
  left : Nat
  issueEdge : Nat
  issueI : Nat
  fly : List LawFly := []
  deriving DecidableEq, Repr

/-- A write of bits of a word on an edge, by an entry at its completion or by software (R137, R146, R186). -/
structure WordPut where
  edge : Nat
  mask : Nat
  val : Nat
  entry : Bool
  deriving DecidableEq, Repr

/-- The latest writes of a word, in the order of their edges, and what it held before them. -/
structure LateWord where
  before : Nat
  puts : List WordPut
  deriving DecidableEq, Repr

/-- A list in the queue (R144): its number, the edge on which its LAWGO commits, the core that gave it. -/
structure LawGo where
  list : Nat
  edge : Nat
  core : Nat
  deriving DecidableEq, Repr

/-- The Law engine: slot records, list memory and exchange file by word, the queue (R144), the running list, the edge
after the last list was done, initialisation running (R151), the test generator (R147, R148), the capture FIFO (R149),
and the latest writes of the words of slot records and XF (R137, R146, R186). -/
structure LawSt where
  slots : Sp Nat := []
  lists : Sp Nat := []
  xf : Sp Nat := []
  queue : List LawGo := []
  run : Option LawRun := none
  freeEdge : Nat := 0
  initBusy : Bool := true
  startReq : Bool := false
  stopReq : Bool := false
  phase : Nat := 0
  inc : Nat := 0
  prbs : Nat := 1
  held : Nat := 0
  fifo : List CapRecord := []
  late : Sp LateWord := []
  deriving DecidableEq, Repr

end Sys2Proof.Machine
end

