-- ==== Sys2Proof/Machine/StateLedger.lean ====
section
/-!
DEFINITION. State of the lease contexts and the energy ledger (chapter 10) that no register shows.
-/
namespace Sys2Proof.Machine

/-- Hidden state of LEASE_n: this cycle's temperature and C-rate extremes over qualifying cells (R197), its corrupt
cells (R199), the suspension by exhaustion (R198), a close asked for by EN = 0 (R200), the budgets in force since the
last tick and a budget written in the period (R203), the restart mark and gap of the next page (R214) and the digest of
the previous page (R203). -/
structure LeaseSt where
  seen : Bool := false
  tmax : Int := 0
  tmin : Int := 0
  cmax : Nat := 0
  corruptCells : Nat := 0
  exhSusp : Bool := false
  inTExc : Bool := false
  inCExc : Bool := false
  closeFinal : Bool := false
  budDis : Nat := 0
  budChg : Nat := 0
  budChanged : Bool := false
  restart : Bool := false
  gapNs : Nat := 0
  prevDigest : List Nat := List.replicate 48 0
  deriving DecidableEq, Repr

/-- A ledger page (R203 to R208): its body and cell table as bytes, whether it has been submitted, committed and signed,
its signature block, and when it was last offered. -/
structure Page where
  ctx : Nat
  seq : Nat
  body : List Nat
  table : List Nat
  submitted : Bool := false
  issued : Bool := false
  signed : Bool := false
  signature : List Nat := []
  lastOffer : Option Nat := none
  deriving DecidableEq, Repr

/-- An acknowledgement submitted to the journal, with its result (R209). -/
structure AckRec where
  ctx : Nat
  seq : Nat
  result : Nat
  deriving DecidableEq, Repr

/-- Hidden state of the ledger engine: retained pages in the order they were formed, the pending acknowledgement (R209),
the checkpoint being written and its capture (R212), the capture time of the last timed checkpoint, the capture time of
the generation in each slot of MRAM, a restore in progress (R214), and a restored generation's capture time until the
first tick after the restore. -/
structure LdgSt where
  pages : List Page := []
  ackPending : Bool := false
  ckptBusy : Bool := false
  ckptNs : Nat := 0
  ckptImage : List Nat := []
  ckptTimes : Sp Nat := []
  restoring : Bool := false
  gapFrom : Option Nat := none
  deriving DecidableEq, Repr

end Sys2Proof.Machine
end

