-- ==== Sys2Proof/Machine/StateSpire.lean ====
section
/-!
DEFINITION. State of a Spire core (chapters 08 and 09): registers, CSRs, waits, write buffer, mailbox and TCM.
-/
namespace Sys2Proof.Machine

/-- A mailbox message (R168): low and high word, sender 0 to 15 a core, 16 the host. -/
structure Msg where
  lo : BitVec 32
  hi : BitVec 32
  src : Nat
  deriving DecidableEq, Repr

/-- A store in the write buffer (R157): physical address, bytes, value, the privilege it issued
at. -/
structure BufStore where
  addr : Nat
  size : Nat
  val : Nat
  task : Bool := false
  deriving DecidableEq, Repr

/-- A load in progress (R157, R182): physical address, bytes, sign extension, destination register, whether an f
register. -/
structure LoadReq where
  addr : Nat
  size : Nat
  signed : Bool
  rd : Nat
  fp : Bool
  deriving DecidableEq, Repr

/-- What a stalled core waits for (R157, R166 to R168, R182, R186, R189). -/
inductive Wait where
  | waitt (rd : Nat)
  | bar (rd mask edge : Nat)
  | recv (rd : Nat)
  | lawwt (k : Nat)
  | lock (rd t : Nat)
  | load (l : LoadReq)
  | store (b : BufStore)
  | fence
  deriving DecidableEq, Repr

/-- A Spire core (R153, R169, R180): the g, f and accumulator registers, PC, the CSRs by field, the latch of CCOUNT_HI,
the edge on which the core started, the present wait, the write buffer, visible messages, messages on their way with
the edge of their arrival, a halt asked for, TCM bytes, TCM words under a correctable and an uncorrectable error, TCM
initialisation running. -/
structure CoreSt where
  g : Sp (BitVec 32) := []
  f : Sp (BitVec 32) := []
  ac : Sp (BitVec 72) := []
  pc : Nat := 0
  ie : Bool := false
  mie : Bool := false
  inx : Bool := false
  task : Bool := false
  xpc : Nat := 0
  xcode : Nat := 0
  xsrc : Nat := 0
  xstat : Nat := 0
  xaddr : Nat := 0
  vbase : Nat := 0
  xsIe : Bool := false
  xsMie : Bool := false
  xsTask : Bool := false
  ccHi : Nat := 0
  ticks : Nat := 0
  dwin : Nat := 0
  barTo : Nat := 0
  msrc : Nat := 0
  msrcValid : Bool := false
  ien : Sp Nat := []
  ipri : Sp Nat := []
  twb : Sp Nat := []
  twl : Sp Nat := []
  arith : Nat := 0
  startEdge : Nat := 0
  wait : Option Wait := none
  buf : List BufStore := []
  mbox : List Msg := []
  soon : List (Nat × Msg) := []
  haltReq : Bool := false
  tcm : List Host.Cell := []
  tcmCorr : List Nat := []
  tcmBad : List Nat := []
  initBusy : Bool := true
  deriving DecidableEq, Repr

end Sys2Proof.Machine
end

