-- ==== Sys2Proof/Machine/StateSystem.lean ====
section
/-!
DEFINITION. State of Lantern, the clocks and resets, the boot loader and SECURE (chapters 19 and 20) that no register
shows.
-/
namespace Sys2Proof.Machine

/-- Lantern (R359 to R371): the step of an entry in progress (0 none), a wake latched since the entry began or since
the state was left, an alarm armed by an automatic choice, a held wake-port transaction (a read or not) and the byte and
acknowledgement of the last one, the tick counter's value at a FAB edge and that edge, the time reference T_E, N_E
with UNCERT then (R313), the oscillator stopped since, the Lantern reset held, the regulator enables, VAON above 2.05 V since the last
Lantern reset, and the FAB edge on which the core clocks stopped for a power state (R359). -/
structure LantSt where
  step : Nat := 0
  wake : Bool := false
  auto : Bool := false
  portHeld : Option Bool := none
  portOut : Nat := 0
  portAck : Bool := false
  tickBase : Nat := 0
  tickEdge : Nat := 0
  ref : Option (Nat × Nat × Nat) := none
  oscStop : Bool := false
  held : Bool := false
  penMain : Bool := true
  penSer : Bool := true
  penA : Bool := true
  vaonHigh : Bool := false
  coreStop : Option Nat := none
  deriving DecidableEq, Repr

/-- Clocks and resets (R373 to R382): a device reset asserted, with its cause; PGOOD; the edge at which the watchdog expires. -/
structure RstSt where
  asserted : Option Nat := none
  pgood : Bool := true
  wdtEnd : Nat := 0
  deriving DecidableEq, Repr

/-- A SECURE command in progress (R394): its operation, core and image. -/
structure SecCmd where
  op : Nat
  core : Nat
  image : Nat
  deriving DecidableEq, Repr

/-- SECURE and the boot loader (R384 to R394): the command in progress; key slots installed since manufacture, as
bytes; the last accepted manifest body; the boot manifest body; the ENTRY and DIGEST recorded for a core by its
verification, the DIGEST at its last RUN; boot attempts still to make (2, 1, 0); the host may start from staging. -/
structure SecSt where
  cmd : Option SecCmd := none
  keys : Sp (List Nat) := []
  manifest : Option (List Nat) := none
  bootBody : List Nat := []
  okEntry : Sp Nat := []
  okDigest : Sp (List Nat) := []
  runDigest : Sp (List Nat) := []
  tries : Nat := 2
  hostGo : Bool := false
  deriving DecidableEq, Repr

end Sys2Proof.Machine
end

