-- ==== Sys2Proof/Machine/StateTime.lean ====
section
/-!
DEFINITION. State of the Campanile Time Engine (chapter 16) that no register shows.
-/
namespace Sys2Proof.Machine

/-- A record of a capture input (R317): nanoseconds, rising edge, COARSE at capture. -/
structure CapRec where
  ns : Nat
  rise : Bool
  coarse : Bool
  deriving DecidableEq, Repr

/-- A transmit timestamp (R312). -/
structure TxRec where
  ns : Nat
  seqId : Nat
  msgType : Nat
  deriving DecidableEq, Repr

/-- Hidden state of Campanile: the applied increment (R308), what a slew has left to add or remove in 2⁻³² ns and its
sign, and the step per edge taken at SLEW_GO (R310), the sum of nominal cycles since the first tick (R314), timers already fired by offset in this cycle
(R315), each output's pin at its active level, its target reached, and the time of its return to idle (R316), the
capture FIFOs and their latched records (R317), the transmit timestamps (R312), the count of whole seconds and the
idle time of the CLKOUT output in 1PPS format (R378). -/
structure CampSt where
  incr : Nat := 0x19999999A
  slewLeft : Nat := 0
  slewNeg : Bool := false
  slewStep : Nat := 0
  gridFab : Nat := 0
  fired : List Nat := []
  outOn : List Nat := []
  outDone : List Nat := []
  outIdle : Sp Nat := []
  caps : Sp (List CapRec) := []
  capLat : Sp CapRec := []
  txts : Sp (List TxRec) := []
  ppsIdle : Sp Nat := []
  deriving DecidableEq, Repr

end Sys2Proof.Machine
end

