-- ==== Sys2Proof/Machine/State.lean ====
section
/-!
DEFINITION. The state of the NDR-4096, as plain data, its faults and refusals, and the state after reset.
-/
namespace Sys2Proof.Machine

/-- Why a command is a fault: for no reason. The spec gives every command of the block an effect in every state, be it none, so
no command raises a fault. -/
inductive Fault where
  deriving DecidableEq, Repr

/-- Why a command is refused. -/
inductive Refusal where
  /-- The command has no meaning in this model yet; raised by a Dispatch arm only. Safe. -/
  | notModelled (mnemonic : String)
  deriving DecidableEq, Repr

/-- A value written to a staged field and not yet loaded (R6, R7): its class, the instance it belongs to, the value,
and the FAB edge of the write; `older` holds earlier writes with their edges, latest first, since a write on a load event's own edge
waits for the following one and does not take the place of what that event loads. -/
structure Staged where
  cls : Cls
  inst : Nat
  val : Nat
  edge : Nat
  older : List (Nat × Nat) := []
  deriving DecidableEq, Repr

/-- The answer to the last software access: status code (R12), data, and whether it was a bus error (R28). -/
structure Reply where
  status : Nat := 0
  data : Nat := 0
  busError : Bool := false
  deriving DecidableEq, Repr

/-- The whole device, its cell terminals and its queue of waiting commands. `regs` holds the register fields that differ
from their reset value by word address and bit (R433), `staged` the values written and waiting for their load event,
`hiLatch` the latched high parts (R434), `bytes` the memories, `lineChk` by line the check symbols stored with its
bytes where they are not those of the bytes (R219), `fab` and `time` the FAB edge and Campanile time,
`free` the counter of free values, `reply` the answer to the last access. The other fields are the blocks' own. -/
structure State where
  regs : Sp Nat := []
  staged : Sp Staged := []
  hiLatch : Sp Nat := []
  bytes : List Host.Cell := []
  fab : Nat := 0
  time : Nat := 0
  free : Nat := 0
  reply : Reply := {}
  pipe : PipeSt := {}
  entries : Sp Entry := []
  terms : Sp Term := []
  rings : Sp RingSt := []
  arms : Sp ArmSt := []
  gcs : GcsSt := {}
  leases : Sp LeaseSt := []
  ldg : LdgSt := {}
  camp : CampSt := {}
  law : LawSt := {}
  bad : List Nat := []
  lineChk : Sp (List Nat) := []
  mems : Sp MemSt := []
  jrn : JrnSt := {}
  scan : ScanSt := {}
  bel : BelSt := {}
  queues : Sp QueueSt := []
  port : PortSt := {}
  sig : SigSt := {}
  keep : KeepSt := {}
  cores : Sp CoreSt := []
  lant : LantSt := {}
  rst : RstSt := {}
  sec : SecSt := {}
  twin : TwinSt := {}
  pending : List Instr := []
  deriving DecidableEq, Repr

/-- A register field of an instance with the value it holds after a reset, where that differs from the field's own. -/
def resetVal (f : Fld) (v : Nat) (i : Nat := 0) (j : Nat := 0) : Nat × Nat := (f.key i j, v)

/-- The register fields that hold another value than their own reset value right after the device reset that follows a
Lantern reset: no valid time reference (R313), the first device reset counted (R379), pair 0 installed as the device ships (R388, log 10). -/
def resetRegs : List (Nat × Nat) :=
  [resetVal CAMPANILE_STATUS_COARSE 1, resetVal CAMPANILE_STATUS_LOST 1, resetVal SYS_RST_CAUSE_COUNT 1,
   resetVal SECURE_KEYS_INSTALLED 1]

/-- Register values entered into a table. -/
def setAll (vs : List (Nat × Nat)) (m : Sp Nat) : Sp Nat := vs.foldl (fun m p => m.set p.1 p.2) m

/-- The machine right after the release of the device reset that follows power-up (R379, R380): every register at its
reset value, the memories and the queue empty, the clocks not yet locked, Keep in Safe Gate Removal with power
withdrawn (R345), the DIGESTs of cores that have never run absent. -/
def State.reset : State :=
  { regs := setAll resetRegs []
    gcs := { keepReq := true } }

end Sys2Proof.Machine
end

