-- ==== Sys2Proof/Machine/Ops.lean ====
section
/-!
DEFINITION. The named operations over the register file, the staged fields, ERR recording, Campanile time, memory
and free values. Every meaning goes through these.
-/
namespace Sys2Proof.Machine

/-- What a command's meaning answers. -/
abbrev Out := Host.Outcome State Fault Refusal

/-- LEVEL and BURST of a Belfry requester at reset (R236); BURST is 1 where the table fixes it. -/
def priReset (q : Nat) : Nat × Nat :=
  if q < 16 then (7, 1)
  else nth (0, 1) [(4, 8), (4, 8), (6, 4), (5, 8), (5, 1), (3, 16), (6, 1), (2, 8), (2, 8), (1, 16), (0, 1), (0, 1),
    (0, 1), (3, 16)] (q - 16)

/-- The reset value of a field at a second index: X of a curve's point i is i × 0x2000 (R215), LEVEL and BURST of a
requester are those of R236, the free words of a journal region its size (R226). -/
def Fld.resetAt (f : Fld) (j : Nat) : Nat :=
  match f.blk with
  | .lease => if f.off = 0x30 && f.lsb = 0 then j * 0x2000 else f.reset
  | .belfry =>
    if f.off = 0x40 then (if f.lsb = 0 then (priReset j).1 else if f.lsb = 8 then (priReset j).2 else f.reset) else f.reset
  | .journal => if f.off = 0x50 then (match j with | 0 => 32768 | 1 => 16384 | _ => 98304) else f.reset
  | _ => f.reset

/-- The value a field holds, its reset value where nothing has written it (R433). -/
def State.rd (s : State) (f : Fld) (i : Nat := 0) (j : Nat := 0) : Nat := s.regs.get (f.resetAt j) (f.key i j)

/-- A field given a value, cut to its width. -/
def State.wr (s : State) (f : Fld) (v : Nat) (i : Nat := 0) (j : Nat := 0) : State :=
  { s with regs := s.regs.set (f.key i j) (v % 2 ^ f.width) }

/-- A one-bit field as a Boolean. -/
def State.on (s : State) (f : Fld) (i : Nat := 0) (j : Nat := 0) : Bool := s.rd f i j != 0

/-- A field read as a signed number. -/
def State.rdS (s : State) (f : Fld) (i : Nat := 0) (j : Nat := 0) : Int := sx f.width (s.rd f i j)

/-- A status bit set. -/
def State.raise (s : State) (f : Fld) (i : Nat := 0) (j : Nat := 0) : State := s.wr f 1 i j

/-- A status bit cleared. -/
def State.clear (s : State) (f : Fld) (i : Nat := 0) (j : Nat := 0) : State := s.wr f 0 i j

/-- Bits OR-ed into a field. -/
def State.orIn (s : State) (f : Fld) (v : Nat) (i : Nat := 0) (j : Nat := 0) : State :=
  s.wr f (s.rd f i j ||| v) i j

/-- A status bit set where a condition holds. -/
def State.raiseIf (s : State) (c : Bool) (f : Fld) (i : Nat := 0) (j : Nat := 0) : State :=
  if c then s.raise f i j else s

/-- A counter advanced modulo its width. -/
def State.count (s : State) (f : Fld) (i : Nat := 0) (j : Nat := 0) (n : Nat := 1) : State :=
  s.wr f (s.rd f i j + n) i j

/-- A counter advanced, saturating at its greatest value. -/
def State.countSat (s : State) (f : Fld) (i : Nat := 0) (j : Nat := 0) (n : Nat := 1) : State :=
  s.wr f (satU f.width (s.rd f i j + n)) i j

/-- The entry a table lists under a key, where it lists one. -/
def findKey {α : Type} : Sp α → Nat → Option α
  | [], _ => none
  | (k, v) :: t, n => if n = k then some v else findKey t n

/-- What software reads back from a field: the value last written where one waits for its load event, but the
applied value of a lease curve and of Keep's configuration (R197, R355; log 7). -/
def State.rdBack (s : State) (f : Fld) (i j : Nat) : Nat :=
  if f.cls = .tick || f.cls = .reload then
    match findKey s.staged (f.key i j) with
    | some g => g.val
    | none => s.rd f i j
  else s.rd f i j

/-- The earlier writes of a waiting field that a write on an edge leaves behind it: all those of earlier edges (R7). -/
def Staged.behind (g : Staged) (edge : Nat) : List (Nat × Nat) := if g.edge < edge then (g.edge, g.val) :: g.older else g.older

/-- A staged field written: it waits for its load event (R6, R7). -/
def State.stage (s : State) (f : Fld) (v i j : Nat) : State :=
  let older := match findKey s.staged (f.key i j) with | some g => g.behind s.fab | none => []
  { s with staged := s.staged.set (f.key i j) ⟨f.cls, i, v % 2 ^ f.width, s.fab, older⟩ }

/-- What a load event on an edge takes of a waiting field: the value last written before the edge (R7). -/
def Staged.due (g : Staged) (edge : Nat) : Option Nat :=
  if g.edge < edge then some g.val else (g.older.find? (fun w => decide (w.1 < edge))).map (·.2)

/-- What goes on waiting after a load event on an edge: the writes not earlier than the edge (R7). -/
def Staged.rest (g : Staged) (edge : Nat) : Option Staged :=
  if g.edge < edge then none else some { g with older := g.older.filter (fun w => decide (edge ≤ w.1)) }

/-- Every staged value that a test selects moves into the register file, in key order; the others keep waiting. -/
def State.load (s : State) (p : Staged → Bool) : State :=
  { s with
    regs := List.foldl (fun m g => if p g.2 then Sp.set m g.1 g.2.val else m) s.regs s.staged
    staged := List.filter (fun g => !(p g.2)) s.staged }

/-- A load event on an edge for the staged fields that a test selects: what was written before the edge moves into the
register file, what was written on it waits for the following event (R7). -/
def State.loadBefore (s : State) (p : Staged → Bool) (edge : Nat) : State :=
  { s with
    regs := s.staged.foldl (fun m g => if p g.2 then (match g.2.due edge with | some v => m.set g.1 v | none => m) else m) s.regs
    staged := s.staged.filterMap (fun g => if p g.2 then (g.2.rest edge).map (fun r => (g.1, r)) else some g) }

/-- The fields loaded at a cycle tick take their values (R7). -/
def State.loadTick (s : State) (edge : Nat) : State := s.loadBefore (fun g => g.cls == .tick) edge

/-- The value of a wide register pair or of a field, for reading into arithmetic. -/
def State.rd64 (s : State) (f : Fld) (i : Nat := 0) (j : Nat := 0) : Nat := s.rd f i j

/-! ### ERR registers (R9, R10) -/

/-- The CODE, OFFSET, OFFSET_HI and MORE fields of a block's ERR register. SV instances record in their ADC block. -/
def Blk.errCode : Blk → Fld
  | .sys => SYS_ERR_CODE | .lantern => LANTERN_ERR_CODE | .campanile => CAMPANILE_ERR_CODE | .keep => KEEP_ERR_CODE
  | .belfry => BELFRY_ERR_CODE | .memc => MEMC_ERR_CODE | .journal => JOURNAL_ERR_CODE | .scan => SCAN_ERR_CODE
  | .port => PORT_ERR_CODE | .twin => TWIN_ERR_CODE | .secure => SECURE_ERR_CODE | .adc => ADC_ERR_CODE
  | .sv => ADC_ERR_CODE | .filt => FILT_ERR_CODE | .oculus => OCULUS_ERR_CODE | .pwm => PWM_ERR_CODE
  | .trip => TRIP_ERR_CODE | .law => LAW_ERR_CODE | .arm => ARM_ERR_CODE | .ring => RING_ERR_CODE
  | .lease => LEASE_ERR_CODE | .queue => QUEUE_ERR_CODE | .spire => SPIRE_ERR_CODE

/-- A further field of the same ERR register, given by its place in the word. -/
def Fld.inErr (f : Fld) (lsb width : Nat) : Fld := { f with lsb := lsb, width := width, hi := 2 ^ width - 1 }

/-- A refusal recorded in an ERR register whose CODE field is `f` (R9, R10): the first one is kept, a later one sets
MORE. -/
def State.recordErr (s : State) (f : Fld) (i code off : Nat) : State :=
  if s.rd f i = 0 then
    ((s.wr f code i).wr (f.inErr 8 12) (off % 4096) i).wr (f.inErr 20 10) (off / 4096) i
  else s.wr (f.inErr 31 1) 1 i

/-- ERR.CLEAR (R10). -/
def State.clearErr (s : State) (f : Fld) (i : Nat) : State :=
  (((s.wr f 0 i).wr (f.inErr 8 12) 0 i).wr (f.inErr 20 10) 0 i).wr (f.inErr 31 1) 0 i

/-- The instance that holds the ERR of an instance: two SV streams share the ERR of their ADC (R432). -/
def Blk.errInst (b : Blk) (i : Nat) : Nat := if b = .sv then i / 2 else i

/-- The offset of a register in the block whose ERR records it: SV_s lies in its ADC block (R26, R271). -/
def Blk.errOff (b : Blk) (i off : Nat) : Nat := if b = .sv then 0x800 + i % 2 * 0x100 + off else off

/-- The answer of the present access. -/
def State.answer (s : State) (status data : Nat) : State := { s with reply := ⟨status, data, false⟩ }

/-- A write or command refused: the code answers the access and is recorded in the block's ERR (R9). -/
def State.refuse (s : State) (b : Blk) (i off code : Nat) : State :=
  (s.recordErr b.errCode (b.errInst i) code (b.errOff i off)).answer code 0

/-- Status codes of R12. -/
def OK : Nat := 0x00
def E_VALUE : Nat := 0x01
def E_BUSY : Nat := 0x02
def E_LOCKED : Nat := 0x03
def E_PORT : Nat := 0x04
def E_TRIP : Nat := 0x05
def E_SEQ : Nat := 0x06
def DONE_BEFORE : Nat := 0x07
def E_FULL : Nat := 0x08
def E_XFADE : Nat := 0x09
def E_PWR : Nat := 0x0A
def E_AUTH : Nat := 0x0B
def E_TOKEN : Nat := 0x0C
def E_STATE : Nat := 0x0D
def E_RANGE : Nat := 0x0E
def E_ECC : Nat := 0x0F

/-- The order in which refusal reasons are reported (R11); E_ECC replaces any other. -/
def refusalOrder : List Nat :=
  [E_ECC, E_PORT, E_AUTH, E_LOCKED, E_TOKEN, E_STATE, E_BUSY, E_TRIP, E_PWR, E_XFADE, E_FULL, E_SEQ, E_VALUE, E_RANGE]

/-- The first code of R11's order that applies, OK where none does. -/
def firstRefusal (codes : List Nat) : Nat :=
  match refusalOrder.find? (fun c => codes.contains c) with
  | some c => c
  | none => OK

/-- A code where a condition holds. -/
def codeIf (c : Bool) (code : Nat) : List Nat := if c then [code] else []

/-! ### Campanile time and FAB edges (R308, R310) -/

/-- The time step of one FAB edge, 2⁻³² ns (R308). -/
def State.incr (s : State) : Nat := s.camp.incr

/-- Whole nanoseconds of Campanile time (R307). -/
def State.ns (s : State) : Nat := (s.time / 2 ^ 32) % 2 ^ 64

/-- What a slew adds to or removes from the time over `n` edges, before its sign (R310). -/
def State.slewOver (s : State) (n : Nat) : Nat := min (n * s.camp.slewStep) s.camp.slewLeft

/-- The time after `n` more edges (R308, R310). -/
def State.timeAfter (s : State) (n : Nat) : Nat :=
  let t := s.time + n * s.incr
  (if s.camp.slewNeg then t + 2 ^ 96 - s.slewOver n else t + s.slewOver n) % 2 ^ 96

/-- The device's clock moved forward by a number of FAB edges; a slew that has added its whole amount ends (R310). -/
def State.edges (s : State) (n : Nat) : State :=
  let left := s.camp.slewLeft - s.slewOver n
  { (s.wr CAMPANILE_STATUS_SLEWING (b2n (decide (0 < left)))) with
    fab := s.fab + n, time := s.timeAfter n, camp := { s.camp with slewLeft := left } }

/-- The device's clock moved forward to a FAB edge; never backward. -/
def State.toEdge (s : State) (e : Nat) : State := s.edges (e - s.fab)

/-- The signed 64-bit difference between the present time and a target in nanoseconds (R311). -/
def State.sinceNs (s : State) (target : Nat) : Int := sx 64 (uz 64 ((s.ns : Int) - target))

/-- A target is reached (R311). -/
def State.reached (s : State) (target : Nat) : Bool := decide (0 ≤ s.sinceNs target)

/-- The edges until a target in nanoseconds is reached (R311), slewing included. -/
def State.edgesUntil (s : State) (target : Nat) : Nat :=
  let d := (sx 96 (uz 96 ((target * 2 ^ 32 : Nat) - (s.time : Int)))).toNat
  let step := s.camp.slewStep
  let left := s.camp.slewLeft
  if left = 0 || step = 0 then ceilDiv d s.incr
  else if s.camp.slewNeg then min (ceilDiv d (s.incr - step)) (ceilDiv (d + left) s.incr)
  else max (ceilDiv d (s.incr + step)) (ceilDiv (d - left) s.incr)

/-! ### Free values -/

/-- A value the spec leaves open, and the counter that gives each use its own (log 5). -/
def State.takeFree (s : State) : Nat × State := (Config.freeNat s.free, { s with free := s.free + 1 })

/-! ### Memory: Cupola, the MRAM window and DRAM by physical address -/

/-- What a byte of memory that nothing has written reads as (log 3). -/
def memDefault : Byte := 0

/-- The byte at an address. -/
def memGet : List Host.Cell → Nat → Byte
  | [], _ => memDefault
  | (k, v) :: t, n => if n = k then v else memGet t n

/-- The memory with one byte written, in canonical form: addresses rising, no entry equal to the default. -/
def memSet : List Host.Cell → Nat → Byte → List Host.Cell
  | [], n, x => if x = memDefault then [] else [(n, x)]
  | (k, v) :: t, n, x =>
    if n < k then (if x = memDefault then (k, v) :: t else (n, x) :: (k, v) :: t)
    else if n = k then (if x = memDefault then t else (n, x) :: t)
    else (k, v) :: memSet t n x

/-- The canonical form of a memory: addresses strictly rising from a bound, no listed default. -/
def memWfFrom : Nat → List Host.Cell → Bool
  | _, [] => true
  | lo, (k, v) :: t => decide (lo ≤ k) && decide (v ≠ memDefault) && memWfFrom (k + 1) t

/-- A memory in canonical form. -/
def Memory.wf (m : List Host.Cell) : Bool := memWfFrom 0 m

/-- `n` bytes at an address as a little-endian number. -/
def memLe (m : List Host.Cell) : Nat → Nat → Nat
  | _, 0 => 0
  | a, n + 1 => (memGet m a).toNat + 256 * memLe m (a + 1) n

/-- A number stored as `n` little-endian bytes. -/
def memPut (m : List Host.Cell) : Nat → Nat → Nat → List Host.Cell
  | _, 0, _ => m
  | a, n + 1, v => memPut (memSet m a (BitVec.ofNat 8 v)) (a + 1) n (v / 256)

/-- A list of bytes stored at an address. -/
def memPutBytes (m : List Host.Cell) : Nat → List Nat → List Host.Cell
  | _, [] => m
  | a, b :: t => memPutBytes (memSet m a (BitVec.ofNat 8 b)) (a + 1) t

/-- The bytes at an address, lowest first. -/
def memBytes (m : List Host.Cell) (a : Nat) : Nat → List Nat
  | 0 => []
  | n + 1 => (memGet m a).toNat :: memBytes m (a + 1) n

/-- A little-endian number read from the device's memory. -/
def State.mem (s : State) (a n : Nat) : Nat := memLe s.bytes a n

/-- A little-endian number stored in the device's memory. -/
def State.put (s : State) (a n v : Nat) : State := { s with bytes := memPut s.bytes a n v }

/-! ### Cell-path tables -/

/-- The entry of a cell (R65). -/
def State.entry (s : State) (c : Nat) : Entry := s.entries.get {} c
/-- The entry of a cell replaced by a function of it. -/
def State.updEntry (s : State) (c : Nat) (f : Entry → Entry) : State := { s with entries := s.entries.set c (f (s.entry c)) }
/-- The terminal at a cell id. -/
def State.term (s : State) (c : Nat) : Term := s.terms.get {} c
/-- The terminal at a cell id replaced by a function of it. -/
def State.updTerm (s : State) (c : Nat) (f : Term → Term) : State := { s with terms := s.terms.set c (f (s.term c)) }
/-- Hidden state of RING_n. -/
def State.ring (s : State) (r : Nat) : RingSt := s.rings.get {} r
/-- Hidden state of RING_n replaced by a function of it. -/
def State.updRing (s : State) (r : Nat) (f : RingSt → RingSt) : State := { s with rings := s.rings.set r (f (s.ring r)) }
/-- Hidden state of ARM_k. -/
def State.arm (s : State) (k : Nat) : ArmSt := s.arms.get {} k
/-- Hidden state of ARM_k replaced by a function of it. -/
def State.updArm (s : State) (k : Nat) (f : ArmSt → ArmSt) : State := { s with arms := s.arms.set k (f (s.arm k)) }

/-- Hidden state of LEASE_n. -/
def State.lease (s : State) (n : Nat) : LeaseSt := s.leases.get {} n
/-- Hidden state of LEASE_n replaced by a function of it. -/
def State.updLease (s : State) (n : Nat) (f : LeaseSt → LeaseSt) : State := { s with leases := s.leases.set n (f (s.lease n)) }

/-! ### Cyclic redundancy checks -/

/-- One bit of a reflected CRC. -/
def crcBit (poly c : Nat) : Nat := if c % 2 = 1 then (c / 2) ^^^ poly else c / 2

/-- One byte of a reflected CRC. -/
def crcByte (poly c b : Nat) : Nat :=
  let x := c ^^^ (b % 256)
  crcBit poly (crcBit poly (crcBit poly (crcBit poly (crcBit poly (crcBit poly (crcBit poly (crcBit poly x)))))))

/-- A reflected CRC over a list of bytes, before the final XOR. -/
def crcBytes (poly : Nat) : Nat → List Nat → Nat
  | c, [] => c
  | c, b :: t => crcBytes poly (crcByte poly c b) t

/-- The CRC-32C of RFC 3720 (R35): reflected, initial value and final XOR 0xFFFF_FFFF. -/
def crc32c (bs : List Nat) : Nat := crcBytes 0x82F63B78 0xFFFFFFFF bs ^^^ 0xFFFFFFFF

end Sys2Proof.Machine
end

