-- ==== Sys2Proof/Machine/Frame.lean ====
section
/-!
DEFINITION. The bytes of a ring frame (R35 to R38): header, command and status fields, CRC-32C; the 66-bit blocks that carry it
(R34).
-/
namespace Sys2Proof.Machine

/-- A list's element at an index, 0 past its end. -/
def byteAt (bs : List Nat) (i : Nat) : Nat := nth 0 bs i % 256
/-- A little-endian 16-bit field. -/
def le16At (bs : List Nat) (i : Nat) : Nat := byteAt bs i + 256 * byteAt bs (i + 1)
/-- A little-endian 32-bit field. -/
def le32At (bs : List Nat) (i : Nat) : Nat := le16At bs i + 65536 * le16At bs (i + 2)
/-- A number as little-endian bytes. -/
def leBytes : Nat → Nat → List Nat
  | 0, _ => []
  | n + 1, v => v % 256 :: leBytes n (v / 256)
/-- A number as big-endian bytes. -/
def beBytes (n v : Nat) : List Nat := (leBytes n v).reverse
/-- Bytes read as a little-endian number. -/
def leNat : List Nat → Nat
  | [] => 0
  | b :: t => b % 256 + 256 * leNat t
/-- Bytes read as a big-endian number. -/
def beNat (bs : List Nat) : Nat := leNat bs.reverse
/-- Bit `k` set where a Boolean holds. -/
def bitv (k : Nat) (b : Bool) : Nat := if b then 2 ^ k else 0

/-- The header's bytes (R36). -/
def Hdr.bytes (h : Hdr) : List Nat :=
  [h.version % 16 + 16 * (h.ftype % 16),
   bitv 0 h.dir + bitv 1 h.holder + bitv 2 h.relay + bitv 3 h.ring16 + bitv 4 h.wrapped]
  ++ leBytes 2 h.epoch ++ leBytes 2 h.cycleNo ++ leBytes 2 h.cycleLen
  ++ [h.ringId % 128, h.cells % 64 + 64 * (h.dev % 4),
      h.mPos % 32 + bitv 5 h.mWrite + bitv 6 h.mReq + bitv 7 h.mAck, h.mAddr % 256]
  ++ leBytes 2 h.mData ++ [h.mTag % 256, h.mStat % 256]

/-- The header read from bytes (R36). -/
def Hdr.ofBytes (b : List Nat) : Hdr where
  version := byteAt b 0 % 16
  ftype := byteAt b 0 / 16
  dir := bit (byteAt b 1) 0
  holder := bit (byteAt b 1) 1
  relay := bit (byteAt b 1) 2
  ring16 := bit (byteAt b 1) 3
  wrapped := bit (byteAt b 1) 4
  epoch := le16At b 2
  cycleNo := le16At b 4
  cycleLen := le16At b 6
  ringId := byteAt b 8 % 128
  cells := byteAt b 9 % 64
  dev := byteAt b 9 / 64
  mPos := byteAt b 10 % 32
  mWrite := bit (byteAt b 10) 5
  mReq := bit (byteAt b 10) 6
  mAck := bit (byteAt b 10) 7
  mAddr := byteAt b 11
  mData := le16At b 12
  mTag := byteAt b 14
  mStat := byteAt b 15

/-- The command field's bytes (R37). -/
def Cmd.bytes (c : Cmd) : List Nat := leBytes 2 c.iref ++ [c.state % 8 + bitv 3 c.dcdcEn, 0]

/-- The command field read from bytes (R37). -/
def Cmd.ofBytes (b : List Nat) : Cmd := ⟨le16At b 0, byteAt b 2 % 8, bit (byteAt b 2) 3⟩

/-- The status field's bytes (R38). -/
def Stat.bytes (s : Stat) : List Nat :=
  leBytes 2 s.vcap ++ leBytes 2 s.vpack ++ leBytes 2 s.ipack ++ leBytes 2 s.tempPack ++ leBytes 2 s.tempSw
  ++ [s.stateNow % 8 + bitv 3 s.dcdcOn + bitv 4 s.cmdMissed + bitv 5 s.staleEpoch + bitv 6 s.dupMismatch
        + bitv 7 s.cmdBad,
      s.fault % 256, s.crcErrs % 16 + 16 * (s.alive % 16),
      bitv 0 s.present + bitv 1 s.fullBridge + bitv 2 s.intlkMode + bitv 3 s.latched + bitv 4 s.losU
        + bitv 5 s.losD + bitv 6 s.wrapping + bitv 7 s.testing]
  ++ leBytes 2 s.sampleAge

/-- The status field read from bytes (R38). -/
def Stat.ofBytes (b : List Nat) : Stat where
  vcap := le16At b 0
  vpack := le16At b 2
  ipack := le16At b 4
  tempPack := le16At b 6
  tempSw := le16At b 8
  stateNow := byteAt b 10 % 8
  dcdcOn := bit (byteAt b 10) 3
  cmdMissed := bit (byteAt b 10) 4
  staleEpoch := bit (byteAt b 10) 5
  dupMismatch := bit (byteAt b 10) 6
  cmdBad := bit (byteAt b 10) 7
  fault := byteAt b 11
  crcErrs := byteAt b 12 % 16
  alive := byteAt b 12 / 16
  present := bit (byteAt b 13) 0
  fullBridge := bit (byteAt b 13) 1
  intlkMode := bit (byteAt b 13) 2
  latched := bit (byteAt b 13) 3
  losU := bit (byteAt b 13) 4
  losD := bit (byteAt b 13) 5
  wrapping := bit (byteAt b 13) 6
  testing := bit (byteAt b 13) 7
  sampleAge := le16At b 14

/-- Positions of a frame (R35). -/
def slotCount (ring16 : Bool) : Nat := if ring16 then 16 else 32
/-- Bytes of a frame: 660, or 340 in 16-cell mode (R35). -/
def frameLength (ring16 : Bool) : Nat := 16 + 20 * slotCount ring16 + 4

/-- The slot bytes of a frame, position by position (R35). -/
def slotBytes : List Cmd → List Stat → List Nat
  | c :: cs, t :: ts => c.bytes ++ t.bytes ++ slotBytes cs ts
  | _, _ => []

/-- The bytes of a frame with its CRC-32C (R35). -/
def Frame.bytes (f : Frame) : List Nat :=
  let body := f.hdr.bytes ++ slotBytes f.cmds f.stats
  body ++ leBytes 4 (crc32c body)

/-- A frame read from bytes (R35). The number of slots follows the device's ring mode. -/
def Frame.ofBytes (ring16 : Bool) (b : List Nat) : Frame where
  hdr := Hdr.ofBytes b
  cmds := (upTo (slotCount ring16)).map (fun p => Cmd.ofBytes (b.drop (16 + 20 * p)))
  stats := (upTo (slotCount ring16)).map (fun p => Stat.ofBytes (b.drop (20 + 20 * p)))

/-- The CRC of a received frame is correct, and it has the length of its mode (R35). -/
def frameCrcOk (ring16 : Bool) (b : List Nat) : Bool :=
  let n := frameLength ring16 - 4
  b.length == n + 4 && crc32c (b.take n) == le32At b n

/-! ### Blocks (R34) -/

/-- A block from its sync header and eight octets. -/
def blockOf (sync : Nat) (os : List Nat) : Block66 := ⟨BitVec.ofNat 2 sync, BitVec.ofNat 64 (leNat os)⟩
/-- The start block. -/
def startBlock : Block66 := blockOf 2 [0x78, 0x55, 0x55, 0x55, 0x55, 0x55, 0x55, 0xD5]
/-- The idle block: eight control codes 0x00 after the type byte. -/
def idleBlock : Block66 := blockOf 2 [0x1E]
/-- The error block: eight control codes 0x1E of seven bits after the type byte. -/
def errorBlock : Block66 := blockOf 2 (0x1E :: leBytes 7 ((List.range 8).foldl (fun v k => v + 0x1E * 128 ^ k) 0))
/-- The terminate block of four frame bytes. -/
def terminateBlock (crc : List Nat) : Block66 := blockOf 2 (0xCC :: crc.take 4)

/-- What a block is to a receiver (R34). -/
inductive BlockKind where
  | start
  | data (bytes : List Nat)
  | terminate (bytes : List Nat)
  | idle
  | error
  deriving DecidableEq, Repr

/-- The kind of a block (R34): any other than those of the table is an error block. -/
def Block66.kind (b : Block66) : BlockKind :=
  let os := leBytes 8 b.octets.toNat
  if b.sync = 1 then .data os
  else if b = startBlock then .start
  else if b = idleBlock then .idle
  else if b = terminateBlock (os.drop 1) then .terminate ((os.drop 1).take 4)
  else .error

/-- What a receiver makes of the blocks of one arrival (R34, R42, R55): no frame, one that breaks off, a whole one. -/
inductive Arrival where
  | nothing
  | broken
  | whole (bytes : List Nat)
  deriving DecidableEq, Repr

/-- The frame after its start block (R42): an error, idle or start block before the terminate block breaks it off, and so does the
loss of lock, after which no further block is received. -/
def frameAfterStart : List Block66 → List Nat → Arrival
  | [], _ => .broken
  | b :: t, got =>
    match b.kind with
    | .data bs => frameAfterStart t (got ++ bs)
    | .terminate bs => .whole (got ++ bs)
    | _ => .broken

/-- The frame that a run of blocks carries: what comes before its start block is no part of it. -/
def arrivalOf : List Block66 → Arrival
  | [] => .nothing
  | b :: t => if b.kind = .start then frameAfterStart t [] else arrivalOf t

/-- Data blocks of eight bytes each. -/
def dataBlocks : Nat → List Nat → List Block66
  | 0, _ => []
  | n + 1, bs => blockOf 1 (bs.take 8) :: dataBlocks n (bs.drop 8)

/-- The blocks that carry a frame's bytes (R34): start, data, terminate with the CRC. -/
def frameBlocks (bs : List Nat) : List Block66 :=
  startBlock :: dataBlocks ((bs.length - 4) / 8) bs ++ [terminateBlock (bs.drop (bs.length - 4))]

/-- What a ring's transmitter sends at a tick (R62): the launched frame, only idle blocks without one. -/
def RingSt.sent (g : RingSt) : List Block66 := match g.tx with | some f => frameBlocks f.bytes | none => [idleBlock]

/-- The CRC-32C that closes a frame of any length is correct (R35, R41). -/
def crcGood (b : List Nat) : Bool := crc32c (b.take (b.length - 4)) == le32At b (b.length - 4)

/-- Bytes replaced in a list from an index. -/
def spliceBytes (b : List Nat) (i : Nat) (new : List Nat) : List Nat := b.take i ++ new ++ b.drop (i + new.length)

/-- The status of position p. -/
def Frame.stat (f : Frame) (p : Nat) : Stat := nth {} f.stats p
/-- The command of position p. -/
def Frame.cmd (f : Frame) (p : Nat) : Cmd := nth {} f.cmds p

end Sys2Proof.Machine
end

