-- ==== Sys2Proof/Machine/KeyStore.lean ====
section
/-!
DEFINITION. The key slots of SECURE and the bytes of its region of the MRAM (R225, R388, R396).
-/
namespace Sys2Proof.Machine

/-- The public keys of a slot as made at manufacture: the RSA modulus, big-endian, then the SLH-DSA key (R388, R396). -/
def madeKey (slot : Nat) : List Nat := (upTo 432).map (fun i => (Config.factoryKey slot i).toNat)

/-- The 432 public key bytes of a slot, 0 when empty (R388, R396). -/
def keyBytes (s : State) (k : Nat) : List Nat :=
  match findKey s.sec.keys k with
  | some b => b
  | none => if k = 0 || k = 8 || k = 9 then madeKey k else List.replicate 432 0

/-- The SECURE region of the MRAM: its first address and its size (R225). -/
def SECURE_REGION : Nat := 0x10A50000
/-- Bytes of the SECURE region (R225). -/
def SECURE_REGION_SIZE : Nat := 0x40000

/-- The content of the SECURE region (R225): the key slots at steps of 512 bytes as the KEY window has them, from byte 0x2000
the anti-rollback counters, the slots installed and revoked, KEY_SEQ and the preferred boot slot (DESIGN CHOICE, log 123). -/
def secureContent (s : State) : List Nat :=
  let slots := ((upTo 16).map (fun k => keyBytes s k ++ List.replicate 80 0)).flatten
  slots ++ ((upTo 16).map (fun k => leBytes 4 (s.rd SECURE_CTR_SVN 0 k))).flatten
    ++ [s.rd SECURE_KEYS_INSTALLED, s.rd SECURE_KEYS_REVOKED, 0, 0, 0, 0, 0, 0] ++ leBytes 8 (s.rd SECURE_KEY_SEQ_SEQ)
    ++ [s.rd SECURE_BOOT_CTRL_PREF]

/-- An address lies in the SECURE region. -/
def inSecure (a : Nat) : Bool := decide (SECURE_REGION ≤ a) && decide (a < SECURE_REGION + SECURE_REGION_SIZE)

/-- The data of `n` bytes within one line of a memory, as stored. -/
def lineData (s : State) (a n : Nat) : List Nat :=
  if inSecure a then ((secureContent s ++ List.replicate n 0).drop (a - SECURE_REGION) ++ List.replicate n 0).take n
  else memBytes s.bytes a n

end Sys2Proof.Machine
end

