-- ==== Sys2Proof/Machine/LineCode.lean ====
section
/-!
DEFINITION. The line code of Cupola, DRAM and the MRAM (R219, R220): GF(2⁸), the systematic RS(72,64) code, and the decoder
that corrects at most four bad symbols. A codeword is the list of its symbols from symbol 0; a polynomial in the decoder is
the list of its coefficients from the constant term.
-/
namespace Sys2Proof.Machine

/-! ### The field of R219 -/

/-- A field element times α = 0x02. -/
def gfDouble (a : Nat) : Nat := if 128 ≤ a then (2 * a) ^^^ 0x11D else 2 * a

/-- The product of two field elements, by the bits of the second from its highest. -/
def gfMul (a b : Nat) : Nat :=
  [7, 6, 5, 4, 3, 2, 1, 0].foldl (fun r i => gfDouble r ^^^ (if bit b i then a else 0)) 0

/-- A power of a field element. -/
def gfPow (a : Nat) : Nat → Nat
  | 0 => 1
  | n + 1 => gfMul a (gfPow a n)

/-- A power of α; the exponent counts modulo 255. -/
def gfAlpha (n : Nat) : Nat := gfPow 2 (n % 255)

/-- The inverse of a field element other than 0. -/
def gfInv (a : Nat) : Nat := gfPow a 254

/-! ### Encoding (R219) -/

/-- The product of polynomials given from their highest coefficient, the second a monic linear factor x − r. -/
def timesRoot (g : List Nat) (r : Nat) : List Nat := List.zipWith (· ^^^ ·) (g ++ [0]) (0 :: g.map (gfMul r))

/-- The generator (x − α⁰)(x − α¹) … (x − α⁷), highest power first. -/
def generator : List Nat := (List.range 8).foldl (fun g i => timesRoot g (gfAlpha i)) [1]

/-- One step of the division by the generator: the remainder, highest power first, after one more data symbol. -/
def remStep (rem : List Nat) (d : Nat) : List Nat :=
  match rem with
  | [] => []
  | r :: t => List.zipWith (· ^^^ ·) (t ++ [0]) (generator.tail.map (gfMul (d ^^^ r)))

/-- Symbols 64 to 71 of the codeword of 64 data symbols: D(x) · x⁸ mod g(x), highest power first. -/
def checkSymbols (data : List Nat) : List Nat := data.foldl remStep (List.replicate 8 0)

/-! ### Decoding (R220) -/

/-- The value of a stored word c(x) = Σ cᵢ x^(71−i) at a point. -/
def wordAt (c : List Nat) (x : Nat) : Nat := c.foldl (fun a s => gfMul a x ^^^ s) 0

/-- The eight syndromes of a stored word, c(α⁰) to c(α⁷). -/
def syndromes (c : List Nat) : List Nat := (List.range 8).map (fun j => wordAt c (gfAlpha j))

/-- A coefficient of a polynomial. -/
def coefOf (p : List Nat) (i : Nat) : Nat := p.getD i 0

/-- The value of a polynomial at a point. -/
def polyAt (p : List Nat) (x : Nat) : Nat := p.foldr (fun c a => gfMul a x ^^^ c) 0

/-- The sum of two polynomials. -/
def polyAdd (p q : List Nat) : List Nat := (List.range (max p.length q.length)).map (fun i => coefOf p i ^^^ coefOf q i)

/-- The search for the error locator: the locator, the one it replaced and that one's discrepancy, the number of errors
assumed, the steps since the replacement. -/
structure Locator where
  now : List Nat
  old : List Nat
  oldDisc : Nat
  errs : Nat
  gap : Nat
  deriving DecidableEq, Repr

/-- The search takes the syndrome of number `n` in: the shortest recurrence the syndromes so far obey. -/
def locStep (syn : List Nat) (l : Locator) (n : Nat) : Locator :=
  let d := (List.range (l.errs + 1)).foldl (fun a i => a ^^^ gfMul (coefOf l.now i) (coefOf syn (n - i))) 0
  let next := polyAdd l.now (List.replicate l.gap 0 ++ l.old.map (gfMul (gfMul d (gfInv l.oldDisc))))
  if d = 0 then { l with gap := l.gap + 1 }
  else if 2 * l.errs ≤ n then ⟨next, l.now, d, n + 1 - l.errs, 1⟩
  else { l with now := next, gap := l.gap + 1 }

/-- The error locator of eight syndromes and the number of errors it stands for. -/
def locator (syn : List Nat) : Locator := (List.range 8).foldl (locStep syn) ⟨[1], [1], 1, 0, 1⟩

/-- The error value at a symbol that the locator names. -/
def errorValue (syn loc : List Nat) (i : Nat) : Nat :=
  let back := gfAlpha (184 + i)
  let omega := (List.range 8).map (fun k =>
    (List.range (k + 1)).foldl (fun a j => a ^^^ gfMul (coefOf loc j) (coefOf syn (k - j))) 0)
  let slope := (List.range loc.length).map (fun k => if k % 2 = 0 then coefOf loc (k + 1) else 0)
  gfMul (gfAlpha (71 - i)) (gfMul (polyAt omega back) (gfInv (polyAt slope back)))

/-- A stored word with corrections, each a symbol number and what is added to it. -/
def correctWith (c : List Nat) (es : List (Nat × Nat)) : List Nat :=
  es.foldl (fun c e => c.set e.1 (c.getD e.1 0 ^^^ e.2)) c

/-- What the decoder finds in a stored word (R220): the corrections to the one codeword within four symbols of it, empty where it
is a codeword; none where there is no such codeword. -/
def decodeWord (c : List Nat) : Option (List (Nat × Nat)) :=
  let syn := syndromes c
  if syn.all (· == 0) then some []
  else
    let l := locator syn
    let es := ((List.range 72).filter (fun i => polyAt l.now (gfAlpha (184 + i)) == 0)).map (fun i => (i, errorValue syn l.now i))
    if l.errs ≤ 4 && es.length == l.errs && (syndromes (correctWith c es)).all (· == 0) then some es else none

end Sys2Proof.Machine
end

