-- ==== Sys2Proof/Machine/QueueBase.lean ====
section
/-!
DEFINITION. The spill queues as stored (R248, R253, R255, R256): their room, their status registers, a queue emptied.
-/
namespace Sys2Proof.Machine

/-- The queue's hidden state. -/
def State.queue (s : State) (k : Nat) : QueueSt := s.queues.get {} k
/-- The queue's hidden state replaced. -/
def State.setQueue (s : State) (k : Nat) (q : QueueSt) : State := { s with queues := s.queues.set k q }

/-- Words a buffer of eight granules holds: seven in each (R248, R249). -/
def bufWords : Nat := 56
/-- Granules of the ring (R248). -/
def ringSize (s : State) (k : Nat) : Nat := 2 ^ s.rd QUEUE_CFG_SPILL_LOG2 k
/-- No granule is free for another word (R253). -/
def queueFull (s : State) (k : Nat) : Bool :=
  let q := s.queue k
  decide (bufWords ≤ q.tail.length) && decide (ringSize s k ≤ q.ring.length)

/-- Every word of the queue, oldest first. -/
def QueueSt.all (q : QueueSt) : List QWord := q.head ++ (q.ring.map (·.words)).flatten ++ q.tail
/-- Committed words waiting (R256). -/
def QueueSt.committed (q : QueueSt) : List QWord := q.all.take (q.all.length - q.openLen)

/-- The STATUS, WORDS and PACKETS fields as the queue stands (R256). -/
def queueStatus (s : State) (k : Nat) : State :=
  let q := s.queue k
  let c := q.committed.filter (fun w => w.valid != 0)
  let packets := (c.filter (·.fin)).length
  let s := (s.wr QUEUE_WORDS_COUNT c.length k).wr QUEUE_PACKETS_COUNT packets k
  let s := (s.wr QUEUE_STATUS_NONEMPTY (b2n (decide (0 < packets))) k).wr QUEUE_STATUS_HIGH
    (b2n (decide (s.rd QUEUE_HIGH_MARK_WORDS k ≤ c.length))) k
  let s := (s.wr QUEUE_STATUS_FULL (b2n (queueFull s k)) k).wr QUEUE_STATUS_OPEN (b2n (decide (0 < q.openLen))) k
  s.wr QUEUE_STATUS_SPILLING (b2n (!q.ring.isEmpty)) k

/-- A queue emptied (R255). -/
def queueClear (s : State) (k : Nat) : State :=
  queueStatus (s.setQueue k { pushTag := (s.queue k).pushTag, pushLo := (s.queue k).pushLo }) k

end Sys2Proof.Machine
end

