-- ==== Sys2Proof/Machine/Memory.lean ====
section
/-!
DEFINITION. Cupola, DRAM and MRAM by line (R217 to R225): which memory an address lies in, the codeword stored for a line, what
the decoder finds in it, error reports, CH_FAIL, reads, scrubbing, refresh and channel initialisation.
-/
namespace Sys2Proof.Machine

/-- Which memory an address lies in. -/
inductive Mem where
  | cupola | mram | dram (ch : Nat)
  deriving DecidableEq, Repr

/-- The memory of a physical address (R28, R218), none outside all three. -/
def memOf (a : Nat) : Option Mem :=
  if a < 0x4000000 then some .cupola
  else if 0x10000000 ≤ a && a < 0x11000000 then some .mram
  else if 0x800000000 ≤ a && a < 0x1000000000 then some (.dram ((a - 0x800000000) / 4096 % 2))
  else none

/-- The Belfry resource of an address (R217, R218, R237): Cupola banks 0 to 31, DRAM channels 32 and 33. -/
def resourceOf (a : Nat) : Option Nat :=
  match memOf a with
  | some .cupola => some (a / 64 % 32)
  | some (.dram c) => some (32 + c)
  | _ => none

/-- The line an address lies in. -/
def lineOf (a : Nat) : Nat := a / 64
/-- The 72 symbols stored for a line (R219): its data bytes and its check symbols, those of the data where none are listed. -/
def storedWord (s : State) (line : Nat) : List Nat :=
  let data := memBytes s.bytes (line * 64) 64
  data ++ (findKey s.lineChk line).getD (checkSymbols data)

/-- What the decoder finds in a line (R220): the corrections, or none where it is uncorrectable. Without listed check symbols the
line is a codeword; an empty list stands for a word of which only is known that it decodes as uncorrectable (R225). -/
def lineFixes (s : State) (line : Nat) : Option (List (Nat × Nat)) :=
  match findKey s.lineChk line with
  | none => some []
  | some [] => none
  | some _ => decodeWord (storedWord s line)

/-- A read of the line is uncorrectable (R220). -/
def uncorrectable (s : State) (line : Nat) : Bool := (lineFixes s line).isNone

/-- A line stored anew: a fresh codeword (R221). -/
def freshLine (s : State) (line : Nat) : State := { s with lineChk := s.lineChk.filter (fun p => p.1 != line) }

/-- Bytes of a line stored with a fresh codeword (R221). -/
def writeLine (s : State) (a : Nat) (bs : List Nat) : State :=
  let s := freshLine s (lineOf a)
  { s with bytes := memPutBytes s.bytes a bs }

/-- The DRAM channel is in CH_FAIL (R222). -/
def chFail (s : State) (a : Nat) : Bool :=
  match memOf a with
  | some (.dram c) => s.on MEMC_STATUS_CH_FAIL c
  | _ => false

/-- The DRAM channel of an address does not serve requests (R233). -/
def chOff (s : State) (a : Nat) : Bool :=
  match memOf a with
  | some (.dram c) => !(s.on MEMC_CTRL_EN c)
  | _ => false

/-- The least and greatest of a list of symbols. -/
def symMin : List Nat → Nat
  | [] => 0
  | [x] => x
  | x :: t => min x (symMin t)
/-- The greatest of a list of symbols. -/
def symMax : List Nat → Nat
  | [] => 0
  | x :: t => max x (symMax t)

/-- The LOG registers take the first event after a clear (R223). -/
def logEvent (s : State) (m : Mem) (addr : Nat) (unc scrub : Bool) (syms : List Nat) : State :=
  let n := if unc then 0 else syms.length
  let lo := if unc then 0 else symMin syms
  let hi := if unc then 0 else symMax syms
  match m with
  | .cupola =>
    if s.on SYS_CUP_STATUS_LOG_VALID then s
    else
      let s := (s.raise SYS_CUP_STATUS_LOG_VALID).wr SYS_CUP_LOG_ADDR_ADDR addr
      let s := (s.wr SYS_CUP_LOG_INFO_KIND (b2n unc)).wr SYS_CUP_LOG_INFO_NSYM n
      ((s.wr SYS_CUP_LOG_INFO_FIRST lo).wr SYS_CUP_LOG_INFO_LAST hi).wr SYS_CUP_LOG_INFO_SCRUB (b2n scrub)
  | .dram c =>
    if s.on MEMC_STATUS_LOG_VALID c then s
    else
      let s := (s.raise MEMC_STATUS_LOG_VALID c).wr MEMC_LOG_ADDR_ADDR addr c
      let s := (s.wr MEMC_LOG_INFO_KIND (b2n unc) c).wr MEMC_LOG_INFO_NSYM n c
      ((s.wr MEMC_LOG_INFO_FIRST lo c).wr MEMC_LOG_INFO_LAST hi c).wr MEMC_LOG_INFO_SCRUB (b2n scrub) c
  | .mram => s

/-- A correction counted and logged, and the corrected line written back (R221, R223). -/
def corrected (s : State) (m : Mem) (line : Nat) (es : List (Nat × Nat)) (scrub : Bool) : State :=
  let syms := es.map (·.1)
  let s := writeLine s (line * 64) ((correctWith (storedWord s line) es).take 64)
  let s := logEvent s m (line * 64) false scrub syms
  match m with
  | .cupola => (s.raise SYS_CUP_STATUS_CE).countSat SYS_CUP_CE_CNT_COUNT
  | .dram c =>
    let s := (s.raise MEMC_STATUS_CE c).countSat MEMC_CE_CNT_COUNT c
    forN 9 (fun d s => if syms.any (fun x => x / 8 == d) then s.countSat MEMC_DEV_CE_COUNT c d else s) s
  | .mram => s

/-- A channel enters CH_FAIL (R222): the spill queues are emptied (R255). -/
def enterChFail (s : State) (c : Nat) : State := forN 32 (fun k s => queueClear s k) (s.raise MEMC_STATUS_CH_FAIL c)

/-- An uncorrectable event counted and logged (R221 to R223): a channel that reaches UE_LIMIT within a scrub pass
enters CH_FAIL. -/
def uncorrected (s : State) (m : Mem) (line : Nat) (scrub : Bool) : State :=
  let s := logEvent s m (line * 64) true scrub []
  match m with
  | .cupola => (s.raise SYS_CUP_STATUS_UE).countSat SYS_CUP_UE_CNT_COUNT
  | .dram c =>
    let s := (s.raise MEMC_STATUS_UE c).countSat MEMC_UE_CNT_COUNT c
    let g := s.mems.get {} c
    let s := { s with mems := s.mems.set c { g with passUe := g.passUe + 1 } }
    if s.rd MEMC_CFG_UE_LIMIT c ≤ g.passUe + 1 then enterChFail s c else s
  | .mram => s.raise JOURNAL_STATUS_ECC

/-- The commands of a DRAM access meet a CA parity error twice (R218): the error of the first is retried once. -/
def caRetry (s : State) (m : Mem) : State × Bool :=
  match m with
  | .dram c =>
    let g := s.mems.get {} c
    ({ s with mems := s.mems.set c { g with caErrs := g.caErrs - 2 } }, decide (2 ≤ g.caErrs))
  | _ => (s, false)

/-- A line read and decoded (R218, R220 to R223): the state with its reports, and whether it is uncorrectable. -/
def decodeLine (s : State) (m : Mem) (line : Nat) (scrub : Bool) : State × Bool :=
  if chFail s (line * 64) then (s, true)
  else
    let (s, ca) := caRetry s m
    if ca then (uncorrected s m line scrub, true)
    else
      match lineFixes s line with
      | none => (uncorrected s m line scrub, true)
      | some [] => (s, false)
      | some es => (corrected s m line es scrub, false)

/-- What a read answers: OK with data, E_ECC with the data as stored, a refusal's code, or a bus error where nothing serves the
address. -/
inductive MemAns where
  | ok (data : Nat)
  | ecc (data : Nat)
  | no (code : Nat)
  | bus
  deriving DecidableEq, Repr

/-- A read of `n` bytes within one line (R220). -/
def memRead (s : State) (a n : Nat) : State × MemAns :=
  match memOf a with
  | none => (s, .bus)
  | some m =>
    if chOff s a && !(chFail s a) then (s, .bus)
    else
      let (s, bad) := decodeLine s m (lineOf a) false
      let v := leNat (lineData s a n)
      (s, if bad then .ecc v else .ok v)

/-- Bytes read by an engine, and whether any of their lines is uncorrectable. -/
def loadBytes (s : State) (a n : Nat) : State × List Nat × Bool :=
  let first := lineOf a
  let lines := (upTo (lineOf (a + n - 1) - first + 1)).map (first + ·)
  let (s, bad) := lines.foldl (fun (p : State × Bool) l =>
    match memOf (l * 64) with
    | some m => let (s, b) := decodeLine p.1 m l false
                (s, p.2 || b)
    | none => (p.1, true)) (s, false)
  (s, memBytes s.bytes a n, bad || chOff s a)

/-- The words of the MRAM in a range read and decoded: corrected ones hold their data again, and an uncorrectable one is reported
(R220, R221, R232). -/
def mramScan (s : State) (a n : Nat) : State :=
  (s.lineChk.filter (fun p => decide (a ≤ p.1 * 64) && decide (p.1 * 64 < a + n))).foldl (fun s p => (decodeLine s .mram p.1 false).1) s

/-! ### Scrubbing, refresh and initialisation (R218, R222, R233) -/

/-- The lines of a scrubbed memory: a DRAM channel's 16 GiB, Cupola's 64 MiB (R222). -/
def scrubLines (i : Nat) : Nat := if i < 2 then 2 ^ 28 else 2 ^ 20

/-- The device line of a scrubber's line: the address of a channel line is spread over 4 KiB pages (R218). -/
def scrubAddr (i line : Nat) : Nat :=
  if i < 2 then (0x800000000 + (line / 64 * 2 + i) * 4096) / 64 + line % 64 else line

/-- A scrubber runs: channels 0 and 1, Cupola 2 (R222, R224, R233). -/
def scrubOn (s : State) (i : Nat) : Bool :=
  if i < 2 then s.on MEMC_CTRL_SCRUB_EN i && s.on MEMC_CTRL_EN i else s.on SYS_CUP_SCRUB_EN

/-- A scrubber reads its line (R222): the line is decoded, the address advances, and a pass ends at the wrap. -/
def scrubLine (s : State) (i : Nat) : State :=
  let g := s.mems.get {} i
  let m := if i < 2 then Mem.dram i else Mem.cupola
  let (s, _) := decodeLine s m (scrubAddr i g.line) true
  let g := s.mems.get {} i
  if g.line + 1 < scrubLines i then { s with mems := s.mems.set i { g with line := g.line + 1 } }
  else
    let s := { s with mems := s.mems.set i { g with line := 0, passUe := 0 } }
    if i < 2 then s.raise MEMC_STATUS_PASS i else s.raise SYS_CUP_STATUS_PASS

/-- FAB clocks between refreshes (R218): 7.8 µs, or 3.9 µs with TREF2X. -/
def refreshInterval (s : State) (c : Nat) : Nat := if s.on MEMC_CFG_TREF2X c then 2437 else 4875
/-- FAB clocks a refresh occupies the channel (R242). -/
def refreshTime (s : State) (c : Nat) : Nat := if s.on MEMC_CFG_DENSITY c then 344 else 219

/-- A refresh (R218, R242): on the edge the interval has passed since the last one, or since the channel was enabled, the channel
serves no granule while it lasts. -/
def dramRefresh (s : State) (c : Nat) : State :=
  if s.on MEMC_CTRL_EN c then
    let g := s.mems.get {} c
    let s := s.toEdge (g.refreshed + refreshInterval s c)
    let r := s.bel.res.get {} (32 + c)
    { s with
      mems := s.mems.set c { s.mems.get {} c with refreshed := s.fab }
      bel := { s.bel with res := s.bel.res.set (32 + c) { r with busyEdge := max r.busyEdge s.fab + refreshTime s c } } }
  else s

/-- Channel initialisation starts (R233). -/
def memcInit (s : State) (c : Nat) : State :=
  let g := s.mems.get {} c
  { (s.clear MEMC_STATUS_INIT_DONE c) with mems := s.mems.set c { g with initBusy := true } }

/-- A byte address belongs to a DRAM channel. -/
def inChannel (c a : Nat) : Bool := memOf a == some (.dram c)

/-- Channel initialisation completes: every line of the channel holds a valid codeword (R233). -/
def memcInitDone (s : State) (c : Nat) : State :=
  let g := s.mems.get {} c
  if g.initBusy then
    { (s.raise MEMC_STATUS_INIT_DONE c) with
      mems := s.mems.set c { g with initBusy := false }
      bytes := s.bytes.filter (fun p => !(inChannel c p.1))
      lineChk := s.lineChk.filter (fun p => !(inChannel c (p.1 * 64))) }
  else s

/-! ### Belfry guards (R246) -/

/-- A store of `n` bytes at an address of Cupola by a requester is refused by a token's guard (R246). -/
def guarded (s : State) (owner a n : Nat) : Bool :=
  (upTo 64).any fun t =>
    s.on BELFRY_TOK_GUARD_EN 0 t
    && decide (a + n > s.rd BELFRY_TOK_GUARD_FIRST 0 t * 4096)
    && decide (a < (s.rd BELFRY_TOK_GUARD_LAST 0 t + 1) * 4096)
    && !(s.on BELFRY_TOK_STATE_HELD 0 t && s.rd BELFRY_TOK_STATE_OWNER 0 t == owner)

/-- A guard's refusal recorded (R246), with the offset of the store in its 4 KiB page (log 115). -/
def guardRefuse (s : State) (a : Nat) : State :=
  (s.recordErr BELFRY_ERR_CODE 0 E_LOCKED (a % 4096)).raise BELFRY_STATUS_GUARD

end Sys2Proof.Machine
end

