-- ==== Sys2Proof/Machine/Scan.lean ====
section
/-!
DEFINITION. The scan engine (R234, R235): its four CRCs, the walk over a range, its end, its stop at an uncorrectable
line.
-/
namespace Sys2Proof.Machine

/-- The scan engine's hidden state replaced by a function of it. -/
def State.updScan (s : State) (f : ScanSt → ScanSt) : State := { s with scan := f s.scan }

/-- One bit of the CRC-64 of ECMA-182, most significant bit first. -/
def crc64Bit (c : Nat) : Nat :=
  if bit c 63 then (c * 2 % 2 ^ 64) ^^^ 0x42F0E1EBA9EA3693 else c * 2 % 2 ^ 64

/-- One byte of the CRC-64 of ECMA-182. -/
def crc64Byte (c b : Nat) : Nat := forN 8 (fun _ c => crc64Bit c) (c ^^^ (b % 256 * 2 ^ 56))

/-- The register state of a scan CRC after more bytes (R234). -/
def scanBytes (poly c : Nat) (bs : List Nat) : Nat :=
  match poly with
  | 0 => crcBytes 0x82F63B78 c bs
  | 1 => crcBytes 0xEDB88320 c bs
  | 2 => crcBytes 0x8408 c bs
  | _ => bs.foldl crc64Byte c

/-- The initial register state of a scan CRC (R234). -/
def scanInit (poly : Nat) : Nat := match poly with | 0 => 0xFFFFFFFF | 1 => 0xFFFFFFFF | 2 => 0xFFFF | _ => 0
/-- The final XOR of a scan CRC (R234). -/
def scanXor (poly : Nat) : Nat := scanInit poly

/-- A range of addresses lies in one of Cupola, the MRAM window and DRAM (R234). -/
def scanRange (a n : Nat) : Bool :=
  decide (a + n ≤ 0x4000000)
  || (decide (0x10000000 ≤ a) && decide (a + n ≤ 0x11000000))
  || (decide (0x800000000 ≤ a) && decide (a + n ≤ 0x1000000000))

/-- The codes that refuse a GO (R234). -/
def scanGoCodes (s : State) (addr len : Nat) : List Nat :=
  codeIf (s.on SCAN_STATUS_BUSY) E_BUSY ++ codeIf (len = 0) E_VALUE ++ codeIf (!(scanRange addr len)) E_RANGE

/-- A scan starts (R234): from the initial value, or with CONT from RESULT's register state. -/
def scanGo (s : State) : State :=
  let len := s.rd SCAN_LEN_BYTES
  (s.raise SCAN_STATUS_BUSY).updScan (fun g => { g with
    cur := if s.on SCAN_CTRL_CONT then g.reg else scanInit (s.rd SCAN_CTRL_POLY)
    addr := s.rd SCAN_ADDR_ADDR, left := len, goEdge := s.fab, total := len })

/-- One line of the range read (R234): its bytes enter the CRC, or the scan stops where it is uncorrectable. -/
def scanLine (s : State) : State :=
  if !(s.on SCAN_STATUS_BUSY) || s.scan.left = 0 then s
  else
    let a := s.scan.addr
    let n := min s.scan.left (64 - a % 64)
    match memRead s a n with
    | (s, .ok _) =>
      s.updScan (fun g => { g with cur := scanBytes (s.rd SCAN_CTRL_POLY) g.cur (lineData s a n)
                                   addr := a + n, left := g.left - n })
    | (s, _) => ((s.raise SCAN_STATUS_ECC).clear SCAN_STATUS_BUSY).wr SCAN_FAIL_ADDR_ADDR (a - a % 64)

/-- Lines a scan has reached by the present edge, at eight bytes a FAB clock (R234). -/
def scanReached (s : State) : Nat :=
  let asked := min s.scan.total (8 * (s.fab - s.scan.goEdge))
  let done := s.scan.total - s.scan.left
  if asked ≤ done then 0 else ceilDiv (asked - done + s.scan.addr % 64) 64

/-- The scan reads the lines it has reached: a later write to them is not seen (R234). -/
def scanAdvance (s : State) : State :=
  if s.on SCAN_STATUS_BUSY then forN (scanReached s) (fun _ s => scanLine s) s else s

/-- The edge at which the range has been read, without contention (R234). -/
def scanEnd (s : State) : Nat := s.scan.goEdge + ceilDiv s.scan.total 8

/-- The scan runs to its end (R234): RESULT and DONE, or a stop at an uncorrectable line. -/
def scanFinish (s : State) : State :=
  if !(s.on SCAN_STATUS_BUSY) then s
  else
    let s := scanAdvance (s.toEdge (scanEnd s))
    if s.on SCAN_STATUS_BUSY && s.scan.left = 0 then
      let c := s.scan.cur
      let s := (((s.clear SCAN_STATUS_BUSY).raise SCAN_STATUS_DONE).wr SCAN_RESULT_CRC
        (c ^^^ scanXor (s.rd SCAN_CTRL_POLY)))
      s.updScan (fun g => { g with reg := c })
    else s

/-- The first uncorrectable line ahead of a scan stops it (R234). -/
def scanStop (s : State) : State :=
  let ahead := (upTo (ceilDiv (s.scan.left + s.scan.addr % 64) 64)).map (s.scan.addr / 64 + ·)
  if s.on SCAN_STATUS_BUSY then
    match ahead.find? (fun l => chFail s (l * 64) || uncorrectable s l) with
    | none => s
    | some l =>
      let before := s.scan.total - s.scan.left + (l * 64 - s.scan.addr)
      scanAdvance (s.toEdge (s.scan.goEdge + before / 8 + 1))
  else s

/-- ABORT (R235): the scan stops at the next line, and DONE is not set. -/
def scanAbort (s : State) : State := if s.on SCAN_STATUS_BUSY then (scanAdvance s).clear SCAN_STATUS_BUSY else s

/-- The checks of a SCAN register write (R234, R235). -/
def scanCodes (s : State) (off data : Nat) : List Nat :=
  if off = 0 && bit data 0 then scanGoCodes s (s.rd SCAN_ADDR_ADDR) (s.rd SCAN_LEN_BYTES) else []

/-- The effects of an accepted SCAN register write. -/
def scanEffect (s : State) (off data : Nat) : State :=
  if off = 0 then
    let s := if bit data 1 then scanAbort s else s
    if bit data 0 then scanGo s else s
  else s

end Sys2Proof.Machine
end

