-- ==== Sys2Proof/Machine/Store.lean ====
section
/-!
DEFINITION. Stores to Cupola, DRAM and the MRAM (R217, R221, R222, R225, R246): by a line, by an engine under its requester
id, by the journal; a running scan has read what lies behind it before a store acts (R234).
-/
namespace Sys2Proof.Machine

/-- Bytes stored within one line of Cupola or DRAM by a requester (R218, R221, R222, R246): E_LOCKED where a guard refuses them,
discarded in CH_FAIL, E_ECC for a part of an uncorrectable line or a second CA parity error, E_VALUE where no memory serves the
address. -/
def storeLine (s : State) (q a : Nat) (bs : List Nat) : State × Nat :=
  match memOf a with
  | none => (s, E_VALUE)
  | some m =>
    let s := scanAdvance s
    if m = .cupola && guarded s q a bs.length then (guardRefuse s a, E_LOCKED)
    else if chFail s a then (s, OK)
    else if chOff s a then (s, E_VALUE)
    else if bs.length = 64 then
      let (s, ca) := caRetry s m
      if ca then (uncorrected s m (lineOf a) false, E_ECC) else (writeLine s a bs, OK)
    else
      let (s, bad) := decodeLine s m (lineOf a) false
      if bad then (s, E_ECC) else (writeLine s a bs, OK)

/-- Bytes cut at the line boundaries, each piece with its address. `n` bounds the pieces. -/
def linePieces : Nat → Nat → List Nat → List (Nat × List Nat)
  | 0, _, _ => []
  | n + 1, a, bs =>
    if bs.isEmpty then []
    else
      let k := 64 - a % 64
      (a, bs.take k) :: linePieces n (a + k) (bs.drop k)

/-- A block of bytes stored by a requester, line by line: the first refusal, OK where no line was refused. -/
def storeBytes (s : State) (q a : Nat) (bs : List Nat) : State × Nat :=
  (linePieces (bs.length / 64 + 2) a bs).foldl (fun (p : State × Nat) w =>
    let (s, c) := storeLine p.1 q w.1 w.2
    (s, if p.2 = OK then c else p.2)) (s, OK)

/-- A block's engine stores bytes (R246: a DMA requester receives the refusal from its block): a refusal is recorded in the
block's ERR at the register that gives the address (log 115). -/
def engineStore (s : State) (q : Nat) (f : Fld) (i a : Nat) (bs : List Nat) : State :=
  let (s, c) := storeBytes s q a bs
  if c = OK then s else s.recordErr f.blk.errCode (f.blk.errInst i) c f.off

/-- Whole words of the MRAM written with fresh codewords (R225). -/
def writeWords (s : State) (a : Nat) (bs : List Nat) : State :=
  (linePieces (bs.length / 64 + 2) a bs).foldl (fun s w => writeLine s w.1 w.2) (scanAdvance s)

end Sys2Proof.Machine
end

