-- ==== Sys2Proof/Machine/Journal.lean ====
section
/-!
DEFINITION. The MRAM journal (R225 to R232): its rings and records, submission, prepare, commit, the twin's part and
recovery. Acting on accepted work follows in the files that own it.
-/
namespace Sys2Proof.Machine

/-- Regions by number: 0 CMD, 1 FAULT, 2 LEDGER (R232). -/
def RG_CMD : Nat := 0
def RG_FAULT : Nat := 1
def RG_LEDGER : Nat := 2

/-- First byte of a region's ring (R225). -/
def regionBase (r : Nat) : Nat := match r with | 0 => 0x10010000 | 1 => 0x10210000 | _ => 0x10310000
/-- Words of a region's ring (R225). -/
def regionWords (r : Nat) : Nat := match r with | 0 => 32768 | 1 => 16384 | _ => 98304

/-- Payload words of a payload. -/
def payloadWords (p : List Nat) : Nat := ceilDiv p.length 64
/-- The words a record takes (R227, R228, R210): header, payload and trailer; in LEDGER whole 1 KiB granules, one more
than the payload fills. -/
def recordSpan (r : Nat) (p : List Nat) : Nat :=
  if r = RG_LEDGER then (ceilDiv p.length 1024 + 1) * 16 else payloadWords p + 2

/-- The retained records of a region, oldest first. -/
def regionRecs (s : State) (r : Nat) : List JrnRec := s.jrn.recs.filter (fun x => x.region == r)
/-- Words in use in a region, PAD included. -/
def regionUsed (s : State) (r : Nat) : Nat := sumOf (fun x => x.span + x.pad) (regionRecs s r)
/-- Words free ahead of the oldest retained record (R232). -/
def regionFree (s : State) (r : Nat) : Nat := regionWords r - regionUsed s r
/-- The PAD words a record of a span needs at the tail (R227). -/
def padFor (s : State) (r span : Nat) : Nat :=
  let t := s.jrn.tail.get 0 r
  if t + span ≤ regionWords r then 0 else regionWords r - t
/-- A record of a span fits (R227). -/
def regionFits (s : State) (r span : Nat) : Bool := decide (padFor s r span + span ≤ regionFree s r)

/-- Records of these spans fit one after the other: from a tail, in so many free words (R227). -/
def spansFit (size : Nat) : Nat → Nat → List Nat → Bool
  | _, _, [] => true
  | tail, free, span :: t =>
    let pad := if tail + span ≤ size then 0 else size - tail
    decide (pad + span ≤ free) && spansFit size (if pad = 0 then tail + span else span) (free - (pad + span)) t

/-- The spans of a region's submissions that wait for a place (R230). -/
def waitingSpans (s : State) (r : Nat) : List Nat :=
  (s.jrn.waiting.filter (fun w => w.region == r)).map (fun w => recordSpan r w.payload)

/-- Records of further spans fit behind the waiting submissions (R227). -/
def laterFit (s : State) (r : Nat) (spans : List Nat) : Bool :=
  spansFit (regionWords r) (s.jrn.tail.get 0 r) (regionFree s r) (waitingSpans s r ++ spans)
/-- Records of a region in flight: without a finished trailer (R230). -/
def inFlight (s : State) (r : Nat) : Nat := ((regionRecs s r).filter (fun x => x.state == 0)).length

/-- The words one payload word of a region takes (R232 FULL). -/
def oneWordSpan (r : Nat) : Nat := if r = RG_LEDGER then 32 else 3

/-- FREE, INFLIGHT, OLDEST_JSEQ, FULL and LDG_FREE as the rings stand (R210, R232). -/
def journalLevels (s : State) : State :=
  let s := forN 3 (fun r s =>
    let s := (s.wr JOURNAL_REGION_FREE (regionFree s r) 0 r).wr JOURNAL_REGION_INFLIGHT (inFlight s r) 0 r
    s.wr JOURNAL_REGION_OLDEST_JSEQ (match regionRecs s r with | [] => s.rd JOURNAL_REGION_NEXT_JSEQ 0 r | x :: _ => x.jseq) 0 r) s
  let full := forN 3 (fun r m => if laterFit s r [oneWordSpan r] then m else m + 2 ^ r) 0
  (s.wr JOURNAL_STATUS_FULL full).wr SYS_LDG_FREE_KIB (regionFree s RG_LEDGER / 16)

/-- Standalone operation: the twin is OFF (R229, R331). -/
def standalone (s : State) : Bool := s.rd TWIN_STATUS_STATE == 0
/-- The UNIT byte of a header (R228). -/
def unitCode (s : State) : Nat := if standalone s then 2 else s.rd TWIN_CTRL_UNIT

/-- The bytes of a record's header word (R228). -/
def JrnRec.header (x : JrnRec) : List Nat :=
  let pay := x.payload ++ List.replicate (payloadWords x.payload * 64 - x.payload.length) 0
  let body := [0x4E, 0x4A, 0x52, 0x48, x.region + 1, 0x01] ++ leBytes 2 (payloadWords x.payload + 1) ++ leBytes 8 x.jseq
    ++ leBytes 8 x.key ++ leBytes 2 x.epoch ++ [x.unit, 0] ++ leBytes 8 x.timeNs ++ leBytes 4 (crc32c pay)
    ++ List.replicate 20 0
  body ++ leBytes 4 (crc32c body)

/-- The bytes of a PAD header (R227, R228). -/
def padHeader (r words : Nat) : List Nat :=
  let body := [0x4E, 0x4A, 0x52, 0x48, r + 1, 0x02] ++ leBytes 2 words ++ List.replicate 52 0
  body ++ leBytes 4 (crc32c body)

/-- The bytes of a record's trailer word (R228). -/
def JrnRec.trailerBytes (x : JrnRec) (ns : Nat) : List Nat :=
  let body := [0x4E, 0x4A, 0x52, 0x54, if x.state = 1 then 0xC3 else 0xAB, b2n x.solo + 2 * b2n x.rollfwd, 0, 0]
    ++ leBytes 8 x.jseq ++ leBytes 8 ns ++ List.replicate 36 0
  body ++ leBytes 4 (crc32c body)

/-- Word writes of a region counted (R232). -/
def countWrites (s : State) (r n : Nat) : State := s.count JOURNAL_REGION_WRITES 0 r n

/-- Submissions are refused (R231, R232): E_STATE unless READY and enabled. -/
def journalClosed (s : State) : Bool := !(s.on JOURNAL_STATUS_READY) || !(s.on JOURNAL_CTRL_EN) || s.jrn.shut

/-- A record appended at the tail of its ring (R227 to R229): the ring's next JSEQ, with PAD where it does not fit
before the end. -/
def appendRec (s : State) (j : JrnSub) : State :=
  let r := j.region
  let span := recordSpan r j.payload
  let pad := padFor s r span
  let t := s.jrn.tail.get 0 r
  let word := if pad = 0 then t else 0
  let x : JrnRec := { region := r, jseq := s.rd JOURNAL_REGION_NEXT_JSEQ 0 r, key := j.key,
                      epoch := s.rd TWIN_EPOCH_EPOCH, unit := unitCode s, timeNs := s.ns, payload := j.payload,
                      word := word, pad := pad, span := span, edge := s.fab, work := j.work }
  let s := if pad = 0 then s else countWrites (writeWords s (regionBase r + t * 64) (padHeader r pad)) r 1
  let s := { s with jrn := { s.jrn with recs := s.jrn.recs ++ [x]
                                        tail := s.jrn.tail.set r ((word + span) % regionWords r) } }
  journalLevels (s.count JOURNAL_REGION_NEXT_JSEQ 0 r)

/-- A submission fits ahead of the oldest retained record, behind the submissions that wait (R227). -/
def submitFits (s : State) (j : JrnSub) : Bool := laterFit s j.region [recordSpan j.region j.payload]

/-- A submission (R229, R230): appended while fewer than eight records of its region are in flight, else waiting. -/
def submit (s : State) (j : JrnSub) : State :=
  if 8 ≤ inFlight s j.region || s.jrn.waiting.any (fun w => w.region == j.region) then
    journalLevels { s with jrn := { s.jrn with waiting := s.jrn.waiting ++ [j] } }
  else appendRec s j

/-- A FAULT record submitted (R227, R342): lost with FAULT_FULL where it does not fit, or where the journal takes no
submission. -/
def submitFault (s : State) (payload : List Nat) : State :=
  let j : JrnSub := ⟨RG_FAULT, s.jrn.faults + 1, payload, .fault⟩
  if journalClosed s then s
  else if submitFits s j then submit { s with jrn := { s.jrn with faults := s.jrn.faults + 1 } } j
  else s.raise JOURNAL_STATUS_FAULT_FULL

/-- A FAULT record of the gate command stage, Keep or the twin logic (R225): the spec gives its payload no layout, so it is a free
value (log 50). -/
def faultRecord (s : State) : State :=
  if journalClosed s then s
  else
    let (v, s) := s.takeFree
    submitFault s (leBytes 64 v)

/-- One record of the journal replaced by a function of it. -/
def updRec (s : State) (r jseq : Nat) (f : JrnRec → JrnRec) : State :=
  { s with jrn := { s.jrn with recs := s.jrn.recs.map (fun x => if x.region = r && x.jseq = jseq then f x else x) } }

/-- The standby takes part in a commit of this unit (R229, R230). -/
def needsRemote (s : State) : Bool := !(standalone s) && !s.jrn.solo

/-- Trailers start in JSEQ order for every record whose prepares are complete (R229, R230). -/
def startTrailers (s : State) (r : Nat) : State :=
  let rec go (ok : Bool) : List JrnRec → List JrnRec
    | [] => []
    | x :: t =>
      if x.region != r then x :: go ok t
      else if x.trailer then x :: go ok t
      else
        let ready := ok && x.localDone && !x.foreign && (x.remote || x.solo || !(needsRemote s))
        { x with trailer := ready, solo := x.solo || (s.jrn.solo && ready && !x.remote) } :: go ready t
  { s with jrn := { s.jrn with recs := go true s.jrn.recs } }

/-- The oldest record of a region that a test selects. -/
def firstRec (s : State) (r : Nat) (p : JrnRec → Bool) : Option JrnRec := (regionRecs s r).find? p

/-- The header and payload of a region's oldest unprepared record are written (R229 step 1). -/
def localPrepare (s : State) (r : Nat) : State :=
  match firstRec s r (fun x => !x.localDone && !x.foreign) with
  | none => s
  | some x =>
    let a := regionBase r + x.word * 64
    let pay := x.payload ++ List.replicate (payloadWords x.payload * 64 - x.payload.length) 0
    let s := countWrites (writeWords s a (x.header ++ pay)) r (payloadWords x.payload + 1)
    startTrailers (updRec s r x.jseq (fun x => { x with localDone := true })) r

/-- PREPARED received for a record (R229 step 3). -/
def preparedReceive (s : State) (r jseq : Nat) : State :=
  startTrailers (updRec s r jseq (fun x => if x.foreign then x else { x with remote := true })) r

/-- A trailer written (R228): the record takes its state. -/
def writeTrailer (s : State) (r jseq state : Nat) : State :=
  match firstRec s r (fun x => x.jseq == jseq) with
  | none => s
  | some x =>
    let x' := { x with state := state, trailer := true }
    let a := regionBase r + (x.word + payloadWords x.payload + 1) * 64
    let s := countWrites (writeWords s a (x'.trailerBytes s.ns)) r 1
    journalLevels (updRec s r jseq (fun _ => x'))

/-- A waiting submission takes the place a commit has freed (R230), once its record fits (R227). -/
def admitWaiting (s : State) (r : Nat) : State :=
  if 8 ≤ inFlight s r then s
  else
    match s.jrn.waiting.find? (fun w => w.region == r) with
    | none => s
    | some w =>
      if !(regionFits s r (recordSpan r w.payload)) then s
      else
        let rest := s.jrn.waiting.erase w
        appendRec { s with jrn := { s.jrn with waiting := rest } } w

/-- The record of a region whose trailer write completes next (R229 step 5), where one is started. -/
def trailerDue (s : State) (r : Nat) : Option JrnRec := firstRec s r (fun x => x.trailer && x.state == 0 && !x.foreign)

/-- The unit commits alone (R230): what waits for the standby gets its trailer with SOLO. -/
def goSolo (s : State) : State :=
  forN 3 (fun r s => startTrailers s r) { s with jrn := { s.jrn with solo := true, rejoined := false } }

/-- The state the twin reports ends SOLO commits once the twin has been through its resynchronisation: it has been in JOIN since
they began, and is STANDBY (R230, R340). -/
def soloEnds (s : State) (st : Nat) : State :=
  { s with jrn := { s.jrn with
    rejoined := s.jrn.rejoined || (s.jrn.solo && st == 1)
    solo := s.jrn.solo && !(st == 2 && s.jrn.rejoined) } }

/-- Releases from the head of a ring: records no longer retained leave in JSEQ order (R227). -/
def releaseHead (s : State) (r : Nat) : State :=
  let rec go : List JrnRec → List JrnRec
    | [] => []
    | x :: t => if x.region = r then (if x.released && x.state != 0 then go t else x :: t) else x :: go t
  journalLevels { s with jrn := { s.jrn with recs := go s.jrn.recs } }

/-- Records of a region that a test selects are marked released, and the head moves up (R227). -/
def releaseWhere (s : State) (r : Nat) (p : JrnRec → Bool) : State :=
  releaseHead { s with jrn := { s.jrn with
    recs := s.jrn.recs.map (fun x => if x.region = r && p x then { x with released := true } else x) } } r

/-! ### The standby's part (R229, R230) -/

/-- A record received from the holder (R229 step 2): refused with E_TOKEN for an older epoch and with E_SEQ for a
JSEQ that is not the next expected; else written to the same place of this unit's ring. -/
def remotePrepare (s : State) (r jseq key epoch unit timeNs : Nat) (payload : List Nat) (work : Work) : State :=
  if sx 16 (uz 16 ((epoch : Int) - s.rd TWIN_EPOCH_EPOCH)) < 0 then s.refuse .journal 0 0 E_TOKEN
  else if jseq != s.rd JOURNAL_REGION_NEXT_JSEQ 0 r then s.refuse .journal 0 0 E_SEQ
  else if !(regionFits s r (recordSpan r payload)) then s.refuse .journal 0 0 E_FULL
  else
    let s := appendRec s ⟨r, key, payload, work⟩
    let s := updRec s r jseq (fun x => { x with epoch := epoch, unit := unit, timeNs := timeNs, localDone := true, foreign := true })
    match firstRec s r (fun x => x.jseq == jseq) with
    | none => s
    | some x =>
      let pay := x.payload ++ List.replicate (payloadWords x.payload * 64 - x.payload.length) 0
      (countWrites (writeWords s (regionBase r + x.word * 64) (x.header ++ pay)) r (payloadWords x.payload + 1)).answer OK 0

/-! ### The rings as the MRAM holds them (R227, R228, R231) -/

/-- A word of a region's ring as stored. -/
def ringWord (s : State) (r w : Nat) : List Nat := memBytes s.bytes (regionBase r + w * 64) 64

/-- A word of a region's ring is uncorrectable. -/
def ringWordBad (s : State) (r w : Nat) : Bool := uncorrectable s (regionBase r / 64 + w)

/-- A field of a word of a record. -/
def wordField (b : List Nat) (at_ n : Nat) : Nat := leNat ((b.drop at_).take n)

/-- The mark of a header word. -/
def hasMagic (b : List Nat) : Bool := b.take 4 == [0x4E, 0x4A, 0x52, 0x48]

/-- A header whose fields and HDR_CRC are right (R228). -/
def headerWhole (r : Nat) (b : List Nat) : Bool :=
  hasMagic b && byteAt b 4 == r + 1 && (byteAt b 5 == 1 || byteAt b 5 == 2) && decide (0 < wordField b 6 2)
    && wordField b 60 4 == crc32c (b.take 60)

/-- The payload words of the record whose header stands at a word, and whether they are valid (R228). -/
def storedPayload (s : State) (r w : Nat) (b : List Nat) : List Nat × Bool :=
  let n := wordField b 6 2 - 1
  let p := memBytes s.bytes (regionBase r + (w + 1) * 64) (n * 64)
  (p, (upTo n).all (fun k => !(ringWordBad s r (w + 1 + k))) && crc32c p == wordField b 36 4)

/-- The state a record's trailer gives (R228): 1 COMMITTED, 2 ABORTED, 0 where the trailer is absent or fails its code or CRC. -/
def storedState (s : State) (r w : Nat) (b : List Nat) : Nat × Nat :=
  let tw := w + wordField b 6 2
  let t := ringWord s r tw
  if !(ringWordBad s r tw) && t.take 4 == [0x4E, 0x4A, 0x52, 0x54] && wordField t 8 8 == wordField b 8 8
      && wordField t 60 4 == crc32c (t.take 60) then
    (if byteAt t 4 = 0xC3 then 1 else if byteAt t 4 = 0xAB then 2 else 0, byteAt t 5)
  else (0, 0)

/-- The work a record stands for, by its region and payload (R229). -/
def workOf (r : Nat) (p : List Nat) : Work :=
  if r = RG_CMD then .cmd (leNat (p.take 8)) (byteAt p 8) (byteAt p 9) (byteAt p 10)
  else if r = RG_FAULT then .fault
  else if p.take 4 = [0x4E, 0x4C, 0x50, 0x47] then .page (byteAt p 5) (wordField p 32 8)
  else .ack (leNat (p.take 8)) (wordField p 8 8) (wordField p 16 48)

/-- The record whose valid header stands at a word. -/
def storedRec (s : State) (r w : Nat) (b : List Nat) : JrnRec :=
  let (p, whole) := storedPayload s r w b
  let (st, flags) := storedState s r w b
  { region := r, jseq := wordField b 8 8, key := wordField b 16 8, epoch := wordField b 24 2, unit := byteAt b 26
    timeNs := wordField b 28 8, payload := p, word := w, pad := 0, span := recordSpan r p, edge := s.fab, work := workOf r p
    localDone := whole, solo := bit flags 0, rollfwd := bit flags 1, trailer := st != 0, state := st
    foreign := byteAt b 26 != unitCode s }

/-- What a scan of a ring finds from a word on (R231): the records, each JSEQ one above the last, the word after them, and whether a
word ended the scan whose header fails its code or HDR_CRC. -/
structure RingScan where
  found : List JrnRec := []
  next : Nat := 0
  broken : Bool := false
  pad : Bool := false
  deriving DecidableEq, Repr

/-- A ring scanned by header from a word on, at most `n` records (R231). -/
def ringScan (s : State) (r : Nat) : Nat → Nat → Option Nat → RingScan
  | 0, w, _ => { next := w }
  | n + 1, w, last =>
    if regionWords r ≤ w then { next := 0 }
    else
      let b := ringWord s r w
      if ringWordBad s r w then { next := w, broken := true }
      else if !(headerWhole r b) then { next := w, broken := hasMagic b }
      else if byteAt b 5 = 2 then { next := w, pad := true }
      else
        let x := storedRec s r w b
        if last.isSome && last != some (x.jseq - 1) || regionWords r < w + x.span then { next := w }
        else
          let rest := ringScan s r n (w + x.span) (some x.jseq)
          { rest with found := x :: rest.found }

/-- The first word from a word on that holds a valid record header. -/
def firstHeader (s : State) (r w : Nat) : Option Nat :=
  let ws := s.bytes.filterMap (fun c =>
    if regionBase r + w * 64 ≤ c.1 && c.1 < regionBase r + regionWords r * 64 && (c.1 - regionBase r) % 64 = 0
    then some ((c.1 - regionBase r) / 64) else none)
  ws.find? (fun w => !(ringWordBad s r w) && headerWhole r (ringWord s r w) && byteAt (ringWord s r w) 5 == 1)

/-- The records of a ring in JSEQ order, its tail, and whether its scan met a broken header (R227, R231): the scan from the first
word finds the newest records; what the tail has not reached yet of the round before comes first. -/
def ringFound (s : State) (r : Nat) : RingScan :=
  let new := ringScan s r (regionWords r) 0 none
  let old := match firstHeader s r new.next with
    | some w => ringScan s r (regionWords r) w none
    | none => {}
  match new.found, old.found.getLast? with
  | [], _ => { old with broken := new.broken || old.broken, next := if old.found.isEmpty then new.next else old.next }
  | x :: t, some y =>
    if y.jseq + 1 = x.jseq then
      { new with found := old.found ++ { x with pad := if old.pad then regionWords r - old.next else 0 } :: t }
    else new
  | _, none => new

/-! ### Recovery (R231) -/

/-- Recovery starts: READY reads 0 until it completes (R231). -/
def recoverStart (s : State) : State :=
  { (s.clear JOURNAL_STATUS_READY) with jrn := { s.jrn with recovering := true, takeover := false, waiting := [] } }

/-- How an unresolved record is resolved (R231): ABORTED where its payload is not valid; else standalone ABORTED, on taking the
token COMMITTED with ROLLFWD, at the holder by whether the standby holds it, in a unit of a twin that restarts or joins not at
all (0). A record of a unit of a twin found by a unit that is OFF is one of a unit restarting (log 116). -/
def resolveState (s : State) (takeover held : Bool) (x : JrnRec) : Nat :=
  if !x.localDone then 2
  else if takeover then 1
  else if standalone s then (if x.unit = 2 then 2 else 0)
  else if s.rd TWIN_STATUS_STATE = 3 then (if held && s.on TWIN_STATUS_LINK then 1 else 2)
  else 0

/-- A region's records found by the scan and resolved, one trailer each (R231). `held` names the records the standby holds. Without
a reset in between, the head stays where its register has it; after one, every record found counts as retained (log 116). -/
def resolveRegion (s : State) (held : List (Nat × Nat)) (r : Nat) : State :=
  let s := mramScan s (regionBase r) (regionWords r * 64)
  let scan := ringFound s r
  let takeover := s.jrn.takeover
  let s := s.raiseIf (scan.broken || scan.found.any (fun x => !x.localDone)) JOURNAL_STATUS_ECC
  let next := match scan.found.getLast? with | some x => x.jseq + 1 | none => max 1 (s.mem (0x10000000 + 64 * (r + 1) + 16) 8)
  let kept := scan.found.filter (fun x => decide (s.rd JOURNAL_REGION_OLDEST_JSEQ 0 r ≤ x.jseq))
  let s := { s with jrn := { s.jrn with recs := s.jrn.recs.filter (fun (x : JrnRec) => x.region != r) ++ kept
                                        tail := s.jrn.tail.set r scan.next } }
  let s := s.wr JOURNAL_REGION_NEXT_JSEQ next 0 r
  kept.foldl (fun s x =>
    if x.state = 2 || (x.state = 1 && x.localDone) then s
    else
      let st := resolveState s takeover (held.contains (r, x.jseq)) x
      if st = 0 then s
      else
        let s := if st = 1 then
            (updRec s r x.jseq (fun x => { x with rollfwd := takeover, remote := true })).raiseIf takeover JOURNAL_STATUS_ROLLFWD
          else s.raise JOURNAL_STATUS_ABORTED
        writeTrailer s r x.jseq st) s

/-- An aborted record is not retained. -/
def releaseAborted (s : State) (r : Nat) : State := releaseWhere s r (fun x => x.state == 2)

/-- Recovery completes (R231): heads, tails and JSEQs rebuilt from the MRAM, PREPARED records resolved, READY set. -/
def recoverDone (s : State) (held : List (Nat × Nat)) : State :=
  let s := forN 3 (fun r s => releaseAborted (resolveRegion s held r) r) s
  let faults := ((regionRecs s RG_FAULT).getLast?.map (·.key)).getD s.jrn.faults
  journalLevels { (s.raise JOURNAL_STATUS_READY) with jrn := { s.jrn with recovering := false, takeover := false, faults := faults } }

/-- The descriptor of a region in CTRL (R225; log 117): window offset, words, the JSEQ of its next record, its word writes. -/
def regionDescriptor (s : State) (r : Nat) : List Nat :=
  leBytes 8 (regionBase r - 0x10000000) ++ leBytes 8 (regionWords r) ++ leBytes 8 (s.rd JOURNAL_REGION_NEXT_JSEQ 0 r)
    ++ leBytes 8 (s.rd JOURNAL_REGION_WRITES 0 r) ++ List.replicate 32 0

/-- Every word of a region's ring written with 0 (log 117). -/
def clearRing (s : State) (r : Nat) : State :=
  let out := fun (a : Nat) => !(decide (regionBase r ≤ a) && decide (a < regionBase r + regionWords r * 64))
  countWrites { s with
    bytes := s.bytes.filter (fun c => out c.1)
    lineChk := s.lineChk.filter (fun p => out (p.1 * 64)) } r (regionWords r)

/-- FORMAT (R225, R232): CMD, FAULT and LEDGER are emptied, and CTRL takes the region descriptors and the next format
generation. JSEQ goes on from where it stood. -/
def journalFormat (s : State) : State :=
  let s := forN 3 (fun r s => clearRing s r) s
  let s := { s with jrn := { s.jrn with recs := [], waiting := [], tail := [] } }
  let s := writeWords s 0x10000000 (leBytes 8 (s.mem 0x10000000 8 + 1) ++ List.replicate 56 0)
  let s := forN 3 (fun r s => writeWords s (0x10000000 + 64 * (r + 1)) (regionDescriptor s r)) s
  journalLevels s

/-! ### Word writes that a reset interrupts (R225) -/

/-- A word write that a reset interrupts leaves the old word or the new one; a loss of power may leave a word that decodes as
uncorrectable (R225). Which of them is open. -/
def tornWord (s : State) (power : Bool) (a : Nat) (bs : List Nat) : State :=
  let (v, s) := s.takeFree
  match v % (if power then 3 else 2) with
  | 0 => s
  | 1 => writeWords s a bs
  | _ =>
    let (d, s) := s.takeFree
    let s := writeWords s a (leBytes 64 d)
    { s with lineChk := s.lineChk.set (lineOf a) [] }

/-- Words of a block whose writes a reset interrupts. -/
def tornWords (s : State) (power : Bool) (a : Nat) (bs : List Nat) : State :=
  (linePieces (bs.length / 64 + 2) a bs).foldl (fun s w => tornWord s power w.1 w.2) s

/-- The words of the records in flight as a reset leaves them (R225): headers and payloads not yet prepared, trailers started. -/
def tornRecords (s : State) (power : Bool) : State :=
  s.jrn.recs.foldl (fun (s : State) (x : JrnRec) =>
    let a := regionBase x.region + x.word * 64
    let pay := x.payload ++ List.replicate (payloadWords x.payload * 64 - x.payload.length) 0
    if !x.localDone then tornWords s power a (x.header ++ pay)
    else if x.trailer && x.state = 0 then
      tornWords s power (a + (payloadWords x.payload + 1) * 64) (({ x with state := 1 } : JrnRec).trailerBytes s.ns)
    else s) s

/-! ### The USER region (R226) -/

/-- An address lies in the USER region (R225). -/
def inUser (a : Nat) : Bool := decide (0x10A90000 ≤ a) && decide (a < 0x11000000)

/-- A store to USER whose word write completes (R226): read, modify and write of its word. -/
def userStore (s : State) (a n v : Nat) : State × Nat :=
  if !(inUser a) then (s.refuse .journal 0 (a % 0x1000000) E_STATE, E_STATE)
  else
    let (s, bad) := decodeLine (scanAdvance s) .mram (lineOf a) false
    if bad then (s, E_ECC) else ((writeLine s a (leBytes n v)).count JOURNAL_USER_WRITES_COUNT, OK)

end Sys2Proof.Machine
end

