-- ==== Sys2Proof/Machine/Lease.lean ====
section
/-!
DEFINITION. Lease contexts: the credit of a cell's energy (R195), the qualifying extremes of a cycle (R197) and the
lease update (R196 to R199).
-/
namespace Sys2Proof.Machine

/-- A context is suspended: its cells are unavailable (R74, R198). -/
def leaseSuspended (s : State) (n : Nat) : Bool := s.on LEASE_CTRL_SUSPEND n || (s.lease n).exhSusp

/-- STATUS.SUSP shows the suspension (R198). -/
def suspShown (s : State) (n : Nat) : State := s.wr LEASE_STATUS_SUSP (b2n (leaseSuspended s n)) n

/-- A context counts: it is enabled, or EN = 0 asks for a close that is deferred while the period stays open (R195, R202;
log 118). -/
def leaseCounts (s : State) (n : Nat) : Bool := s.on LEASE_CTRL_EN n || s.on LEASE_STATUS_OPEN n

/-- The energy and condition of one processed cell credited to its context (R195, R197, R199): `w` whole joules of
sign `dis`, integrated while held or not; a FRESH or RESUMED cell also enters the extremes. -/
def leaseCredit (s : State) (n w : Nat) (dis estim : Bool) : State :=
  if leaseCounts s n then
    let s := if dis then s.count LEASE_DIS_J n 0 w else s.count LEASE_CHG_J n 0 w
    if estim then s.count LEASE_EST_J n 0 w else s
  else s.count SYS_LDG_UNLEASED_J 0 0 w

/-- The C-rate of a pack: 1/256 C per LSB (R197). -/
def cRate (e : Entry) : Nat := (sx 16 e.img.ipack).natAbs * e.img.vpack * 1152 / e.capJ

/-- One processed cell enters its context's extremes and corrupt count of this cycle (R197, R199). -/
def leaseObserve (s : State) (e : Entry) : State :=
  s.updLease e.leaseId fun l =>
    let t := sx 16 e.img.tempPack
    let l := { l with corruptCells := l.corruptCells + b2n e.corrupt }
    if e.qual = 1 || e.qual = 3 then
      { l with
        seen := true
        tmax := if l.seen then max l.tmax t else t
        tmin := if l.seen then min l.tmin t else t
        cmax := if e.capJ = 0 then l.cmax else max l.cmax (cRate e) }
    else l

/-- The share of one direction's budget used, 65,536 at the limit; 0 for no limit (R197). -/
def budgetUse (used budget : Nat) : Nat :=
  if budget = 0 then 0 else min 65536 (used * 65536 / (budget * 3600))

/-- The weight of the applied curve at x (R197): constant below X0 and from X7, interpolated between. -/
def curveAt (X Y : Nat → Nat) (x : Nat) : Nat :=
  if x < X 0 then Y 0
  else if X 7 ≤ x then Y 7
  else
    let i := forN 8 (fun k a => if X k ≤ x then k else a) 0
    let d := (((Y (i + 1) : Int) - Y i) * ((x : Int) - X i)).fdiv ((X (i + 1) : Int) - X i)
    ((Y i : Int) + d).toNat

/-- The factor a window leaves: 65,536 inside it, falling over its band (R197). -/
def windowFactor (exceed band : Nat) : Nat := 65536 - exceed * 65536 / band

/-- The exceedance of the temperature window in 0.5 °C units (R197). -/
def overTemp (l : LeaseSt) (tLo tHi : Int) : Nat :=
  if l.seen then (max 0 (max (l.tmax - tHi) (tLo - l.tmin))).toNat else 0

/-- The lease update of one context (R196 to R199), on the counts as this cycle's processing left them. -/
def leaseUpdateCtx (s : State) (n : Nat) : State :=
  let l := s.lease n
  let s := s.updLease n fun l => { l with seen := false, tmax := 0, tmin := 0, cmax := 0, corruptCells := 0 }
  if !(leaseCounts s n) then suspShown (s.wr LEASE_WEIGHT_LW 0xFFFF n) n
  else
    let x := max (budgetUse (s.rd LEASE_DIS_J n) (s.rd LEASE_BUD_DIS_WH n))
                 (budgetUse (s.rd LEASE_CHG_J n) (s.rd LEASE_BUD_CHG_WH n))
    let exh := decide (65536 ≤ x)
    let w := if exh then s.rd LEASE_CE_EXH_W n
      else curveAt (fun i => s.rd LEASE_CURVE_X n i) (fun i => s.rd LEASE_CURVE_Y n i) x
    let overT := overTemp l (s.rdS LEASE_TWIN_T_LO n) (s.rdS LEASE_TWIN_T_HI n)
    let overC := l.cmax - s.rd LEASE_TC_CRATE_MAX n
    let lw := min 0xFFFF (w * windowFactor overT (s.rd LEASE_TC_TBAND n) / 65536
      * windowFactor overC (s.rd LEASE_CE_CBAND n) / 65536)
    let susp := exh && s.on LEASE_CTRL_EXH_ACTION n
    let s := ((s.wr LEASE_WEIGHT_LW lw n).wr LEASE_WEIGHT_LW_MIN (min (s.rd LEASE_WEIGHT_LW_MIN n) lw) n).wr LEASE_USE_X x n
    let s := (s.wr LEASE_TEMP_TMAX (if l.seen then uz 16 l.tmax else 0x8000) n).wr LEASE_TEMP_TMIN
      (if l.seen then uz 16 l.tmin else 0x7FFF) n
    let s := s.wr LEASE_CRATE_CMAX (min 0xFFFF l.cmax) n
    let s := if l.seen then s.wr LEASE_CRATE_TEMP_PEAK (uz 16 (max (s.rdS LEASE_CRATE_TEMP_PEAK n) l.tmax)) n else s
    let s := s.count LEASE_CYCLES n
    let s := if 0 < overT then s.count LEASE_T_EXC_CYC n else s
    let s := if 0 < overC then s.count LEASE_C_EXC_CYC n else s
    let s := if exh then s.count LEASE_EXH_CYC n else s
    let s := s.count LEASE_CORRUPT_CYC n 0 l.corruptCells
    let s := s.raiseIf (decide (0 < overT) && !l.inTExc) LEASE_STATUS_T_EXC n
    let s := s.raiseIf (decide (0 < overC) && !l.inCExc) LEASE_STATUS_C_EXC n
    let s := s.raiseIf (exh && !(s.on LEASE_STATUS_EXHAUSTED n)) LEASE_STATUS_EXH n
    let s := s.wr LEASE_STATUS_EXHAUSTED (b2n exh) n
    let exhSusp := susp || (l.exhSusp && s.on LEASE_CTRL_EXH_ACTION n)
    suspShown (s.updLease n fun l =>
      { l with exhSusp := exhSusp, inTExc := decide (0 < overT), inCExc := decide (0 < overC) }) n

end Sys2Proof.Machine
end

