-- ==== Sys2Proof/Machine/GateLog.lean ====
section
/-!
DEFINITION. Arms and rings, the block latches, the gate event log and cell reactions (R81, R111 to R117).
-/
namespace Sys2Proof.Machine

/-- A refusal or an error recorded in SYS.CSE_ERR (R67, R78, R80): the first is kept, a further one sets MORE. -/
def cseRecord (s : State) (c off code : Nat) : State :=
  if s.rd SYS_CSE_ERR_CODE = 0 then ((s.wr SYS_CSE_ERR_CODE code).wr SYS_CSE_ERR_CELL c).wr SYS_CSE_ERR_OFFSET off
  else s.raise SYS_CSE_ERR_MORE

/-- 16-cell rings are selected (R15). -/
def State.mode16 (s : State) : Bool := s.on SYS_PIPE_MODE_RING_CELLS

/-- The arm that holds a ring (R81). -/
def ringArm (s : State) (r : Nat) : Option Nat :=
  (upTo 8).find? (fun k => bit (s.rd ARM_RING_MASK_MASK k (r / 32)) (r % 32))

/-- Positions of a ring in the present mode (R15). -/
def ringSlots (s : State) : Nat := if s.mode16 then 16 else 32

/-- A position of a ring that the engine processes (R69). -/
def processed (s : State) (r p : Nat) : Bool :=
  s.on RING_CTRL_EN r && decide (p < s.rd RING_CFG_CELLS r) && decide (p < ringSlots s)

/-- The rings of an arm, lowest first (R82). -/
def armRings (s : State) (k : Nat) : List Nat :=
  (upTo 128).filter (fun r => bit (s.rd ARM_RING_MASK_MASK k (r / 32)) (r % 32))

/-- The processed cells of a ring, ascending. -/
def ringCells (s : State) (r : Nat) : List Nat :=
  ((upTo 32).filter (fun p => processed s r p)).map (fun p => r * 32 + p)

/-- The cells of an arm in ascending id (R82). -/
def armCells (s : State) (k : Nat) : List Nat := ((armRings s k).map (ringCells s)).flatten

/-- A record appended to the event log, or dropped with EVT_LOST when it is full (R117). A reaction of the stage, any source but a
software one, submits a FAULT record too (R225; DESIGN CHOICE which do, log 122). -/
def pushEvt (s : State) (e : EvtRec) : State :=
  let s := if e.src = 14 then s else faultRecord s
  if 16 ≤ s.gcs.log.length then s.raise SYS_GCS_STATUS_EVT_LOST
  else { s with gcs := { s.gcs with log := s.gcs.log ++ [e] } }

/-- The partner of an arm in its pair (R112). -/
def partner (k : Nat) : Nat := if k % 2 = 0 then k + 1 else k - 1

/-- An arm's block latch set (R112, R114), with GSTATUS.ARM_BLK (R123). -/
def setArmLatch (s : State) (k : Nat) : State :=
  (s.orIn SYS_GCS_BLOCK_ARM (2 ^ k)).raise ARM_GSTATUS_ARM_BLK k

/-- A ring's block latch set (R112, R114), with GSTATUS.RING_BLK of the arm that holds it (R123). -/
def setRingLatch (s : State) (r : Nat) : State :=
  let s := s.orIn SYS_GCS_RING_BLK (2 ^ (r % 32)) 0 (r / 32)
  match ringArm s r with
  | some k => s.raise ARM_GSTATUS_RING_BLK k
  | none => s

/-- The ALL latch set (R112, R114), with GSTATUS.ALL_BLK of every arm (R123). -/
def setAllLatch (s : State) : State :=
  forN 8 (fun k s => s.raise ARM_GSTATUS_ALL_BLK k) (s.raise SYS_GCS_BLOCK_ALL)

/-- A set of arms given as a mask has its block latches set. -/
def setArmLatches (s : State) (mask : Nat) : State :=
  forN 8 (fun k s => if bit mask k then setArmLatch s k else s) s

/-- The arms of a mask and their partners (R115). -/
def withPartners (mask : Nat) : Nat :=
  forN 8 (fun k m => if bit mask k then m ||| 2 ^ k ||| 2 ^ partner k else m) 0

/-- The action set for a reaction source (R111, R122). -/
def reactAction (s : State) (src : Nat) : Nat :=
  match src with
  | 0 => s.rd SYS_GCS_REACT0_DESAT | 1 => s.rd SYS_GCS_REACT0_HSC | 2 => s.rd SYS_GCS_REACT0_OC
  | 3 => s.rd SYS_GCS_REACT0_OV | 4 => s.rd SYS_GCS_REACT0_UV | 5 => s.rd SYS_GCS_REACT0_INTLK
  | 6 => s.rd SYS_GCS_REACT0_WDOG | 7 => s.rd SYS_GCS_REACT0_SUPPLY | 8 => s.rd SYS_GCS_REACT1_CMD_BAD
  | 9 => s.rd SYS_GCS_REACT1_STATE_ERR | 10 => s.rd SYS_GCS_REACT1_STALE_EPOCH
  | 11 => s.rd SYS_GCS_REACT1_DUP_MISMATCH | _ => s.rd SYS_GCS_REACT1_ILLEGAL

/-- The Campanile time of the tick of the present cycle, in ns (R117). -/
def State.tickNs (s : State) : Nat := (s.pipe.tickTime / 2 ^ 32) % 2 ^ 64

/-- A reaction of a cell (R112): GATE.FLT, the latches of its action, GSTATUS.REACT and one record; a reaction of
action ARM or PAIR waits for the grouping of R115. A cell in no arm treats ARM and PAIR as RING. -/
def react (s : State) (c src : Nat) : State :=
  let r := c / 32
  let a0 := reactAction s src
  let arm := ringArm s r
  let a := if (a0 = 3 || a0 = 4) && arm.isNone then 2 else a0
  let armMask := match arm with | some k => 2 ^ k | none => 0
  let s := match arm with | some k => s.raise ARM_GSTATUS_REACT k | none => s
  let s := if 1 ≤ a then s.updEntry c (fun e => { e with gate := { e.gate with flt := true } }) else s
  let recd := fun s => pushEvt s ⟨s.tickNs, src, false, armMask, c, a⟩
  match a, arm with
  | 0, _ => recd s
  | 1, _ => recd s
  | 2, _ => recd (setRingLatch s r)
  | 5, _ => recd (setAllLatch s)
  | 3, some k => let s := setArmLatch s k
                 { s with gcs := { s.gcs with group := s.gcs.group ++ [⟨c, src, k, 3⟩] } }
  | 4, some k => let s := setArmLatches s (2 ^ k ||| 2 ^ partner k)
                 { s with gcs := { s.gcs with group := s.gcs.group ++ [⟨c, src, k, 4⟩] } }
  | _, _ => recd s

/-- The lowest cell of a group, and of its reactions the lowest source (R115). -/
def groupHead : List GroupRec → Option GroupRec
  | [] => none
  | g :: t =>
    match groupHead t with
    | none => some g
    | some h => if g.cell < h.cell || (g.cell = h.cell && g.src < h.src) then some g else some h

/-- The arms named in a group, as a mask. -/
def groupArms : List GroupRec → Nat
  | [] => 0
  | g :: t => 2 ^ g.arm ||| groupArms t

/-- The grouped reactions of one processing or one assembly are recorded (R115): one SIMUL record with each arm's
pair blocked when they come from several arms, a record each otherwise. -/
def flushGroup (s : State) : State :=
  let g := s.gcs.group
  let s := { s with gcs := { s.gcs with group := [] } }
  let mask := groupArms g
  match groupHead g with
  | none => s
  | some h =>
    if g.all (fun x => x.arm == h.arm) then
      g.foldl (fun s x => pushEvt s ⟨s.tickNs, x.src, false, 2 ^ x.arm, x.cell, x.action⟩) s
    else
      let s := pushEvt s ⟨s.tickNs, h.src, true, mask, h.cell, 4⟩
      let s := setArmLatches s (withPartners mask)
      forN 8 (fun k s => s.raiseIf (bit mask k) ARM_GSTATUS_SIMUL k) s

/-- The STATE_ERR reaction of a cell whose mismatch count has reached the limit (R110): the source is raised and the
count returns to 0. -/
def stateErr (s : State) (c : Nat) : State :=
  let s := s.updEntry c (fun e => { e with gate := { e.gate with misCnt := 0 } })
  let s := match ringArm s (c / 32) with | some k => s.raise ARM_GSTATUS_STATE_ERR k | none => s
  react s c 9

end Sys2Proof.Machine
end

