-- ==== Sys2Proof/Machine/CellStore.lean ====
section
/-!
DEFINITION. Software's view of the cell store (R65 to R68, R78, R79): the bytes of an entry, reads, writes judged whole,
initialisation.
-/
namespace Sys2Proof.Machine

/-- The SEL word (R92). -/
def Sel.word (x : Sel) : Nat :=
  x.dec % 8 + bitv 3 x.ins + bitv 4 x.pinned + bitv 5 x.forced + bitv 6 x.elig + 2 ^ 8 * (x.spent % 256)
    + 2 ^ 16 * (x.rank % 1024)

/-- The GATE word (R121). -/
def Gate.word (g : Gate) : Nat :=
  g.eff % 8 + 8 * (g.effPrev % 8) + bitv 6 g.holdSent + bitv 7 g.dcdc + bitv 8 g.illegal + bitv 9 g.flt + bitv 10 g.cp
    + bitv 11 g.fromBlk + bitv 12 g.rfsh + 2 ^ 13 * (g.byp % 4) + 2 ^ 15 * (g.misCnt % 8) + 2 ^ 18 * (g.why % 16)
    + 2 ^ 22 * (g.hsRun % 1024)

/-- The 128 bytes of an entry (R65). -/
def Entry.bytes (e : Entry) : List Nat :=
  e.img.bytes ++ leBytes 4 e.key ++ leBytes 2 e.soe
  ++ [e.qual % 4 + bitv 2 e.src + bitv 3 e.avail + bitv 4 e.estim + bitv 5 e.ecAdj + bitv 6 e.fb + bitv 7 e.corrupt,
      e.heldRun % 256]
  ++ leBytes 8 e.eDis ++ leBytes 8 e.eChg ++ leBytes 8 e.resDis ++ leBytes 8 e.resChg ++ leBytes 4 e.ec
  ++ leBytes 4 e.estJ ++ leBytes 4 e.swCount ++ leBytes 2 e.tpackMax ++ leBytes 2 e.tswMax
  ++ [e.faultCnt % 256, e.lastState % 8] ++ leBytes 2 e.seq ++ leBytes 4 e.sel.word ++ leBytes 4 e.gate.word
  ++ leBytes 12 0
  ++ leBytes 4 e.capJ ++ leBytes 4 e.ecSet ++ leBytes 2 e.hw
  ++ [e.leaseId % 256, bitv 0 e.leaseEn + bitv 1 e.swBlock + bitv 2 e.ecSetPend + bitv 3 e.clrMax + bitv 4 e.clrCorrupt]
  ++ leBytes 4 e.user ++ leBytes 16 0

/-- The entry with its software-writable fields taken from bytes (R65): W1S bits are set by a 1 and kept by a 0. -/
def Entry.take (e : Entry) (b : List Nat) : Entry :=
  let f := byteAt b 0x6B
  { e with
    eDis := leNat ((b.drop 0x18).take 8), eChg := leNat ((b.drop 0x20).take 8)
    resDis := bits (leNat ((b.drop 0x28).take 8)) 0 39, resChg := bits (leNat ((b.drop 0x30).take 8)) 0 39
    ec := le32At b 0x38, capJ := le32At b 0x60, ecSet := le32At b 0x64, hw := le16At b 0x68
    leaseId := byteAt b 0x6A, leaseEn := bit f 0, swBlock := bit f 1, ecSetPend := e.ecSetPend || bit f 2
    clrMax := e.clrMax || bit f 3, clrCorrupt := e.clrCorrupt || bit f 4, user := le32At b 0x6C }

/-- Base of the cell store (R28). -/
def CELL_BASE : Nat := 0x21000000

/-- An address lies in the cell store. -/
def inCellStore (a : Nat) : Bool := decide (CELL_BASE ≤ a) && decide (a < CELL_BASE + 0x80000)

/-- The cell store is initialised (R79). -/
def storeReady (s : State) : Bool := !s.pipe.storeInit

/-- The entry with the software-writable fields of another (R65). -/
def Entry.soft (e b : Entry) : Entry :=
  { e with
    eDis := b.eDis, eChg := b.eChg, resDis := b.resDis, resChg := b.resChg, ec := b.ec, capJ := b.capJ, ecSet := b.ecSet,
    hw := b.hw, leaseId := b.leaseId, leaseEn := b.leaseEn, swBlock := b.swBlock, ecSetPend := b.ecSetPend, clrMax := b.clrMax,
    clrCorrupt := b.clrCorrupt, user := b.user }

/-- The bytes of an entry with the W1S bits as a write of 0 leaves them. -/
def clearW1S (b : List Nat) : List Nat := setNth b 0x6B (byteAt b 0x6B % 4)

/-- An entry with a write's bytes in it (R66). -/
def CellPut.run (p : CellPut) (e : Entry) : Entry := e.take (spliceBytes (clearW1S e.bytes) p.off p.bytes)

/-- Writes in the order of their edges; on one edge a fabric store comes after a scattered element and so prevails (R184). -/
def putInOrder (p : CellPut) : List CellPut → List CellPut
  | [] => [p]
  | q :: t =>
    if p.edge < q.edge || (p.edge == q.edge && q.fabric && !p.fabric) then p :: q :: t else q :: putInOrder p t

/-- The writes of an edge and later. -/
def LateWrites.since (l : LateWrites) (edge : Nat) : List CellPut := l.puts.filter (fun p => decide (edge ≤ p.edge))

/-- The entry before the writes of an edge and later. -/
def LateWrites.entryAt (l : LateWrites) (edge : Nat) : Entry :=
  (l.puts.filter (fun p => decide (p.edge < edge))).foldl (fun e p => p.run e) l.before

/-- The latest writes of an entry, its fields before them as they stood. -/
def lateWrites (s : State) (c : Nat) : LateWrites := (findKey s.pipe.late c).getD ⟨s.entry c, []⟩

/-- The latest writes of an entry replaced. -/
def State.setLate (s : State) (c : Nat) (l : LateWrites) : State := { s with pipe := { s.pipe with late := s.pipe.late.set c l } }

/-- The entry as the engine reads it on an edge (R66): without the software writes of that edge and later. -/
def entrySeen (s : State) (c : Nat) : Entry :=
  let l := lateWrites s c
  if (l.since s.fab).isEmpty then s.entry c else (s.entry c).soft (l.entryAt s.fab)

/-- The engine's write of an entry (R66): software's writes of its edge and later come after it. -/
def engineWrite (s : State) (c : Nat) (e : Entry) : State :=
  let l : LateWrites := ⟨e, (lateWrites s c).since s.fab⟩
  (s.updEntry c (fun _ => e.soft (l.puts.foldl (fun e p => p.run e) e))).setLate c l

/-- An accepted software write of an entry (R66). -/
def takePut (s : State) (c : Nat) (p : CellPut) : State :=
  let l := lateWrites s c
  let old : LateWrites := if (l.since s.fab).isEmpty then ⟨s.entry c, []⟩ else ⟨l.entryAt s.fab, l.since s.fab⟩
  let l : LateWrites := ⟨old.before, putInOrder p old.puts⟩
  (s.updEntry c (fun e => e.soft (l.puts.foldl (fun e p => p.run e) l.before))).setLate c l

/-- Bytes `lo` to `hi` overlap a word of an entry. -/
def wordTouched (w lo hi : Nat) : Bool := decide (w < hi) && decide (lo < w + 8)

/-- Words read with an error of one bit are corrected, rewritten and counted (R78). -/
def cseCorrect (s : State) (c lo hi : Nat) : State :=
  let hit := (s.entry c).single.filter (fun w => wordTouched w lo hi)
  if hit.isEmpty then s
  else (s.updEntry c (fun e => { e with single := e.single.filter (fun w => !(wordTouched w lo hi)) })).countSat
    SYS_CSE_STATUS_ECC_CORR 0 0 hit.length

/-- A software read of `n` bytes of an entry (R66, R78): the status code and the stored value. A word under an
uncorrectable error answers E_ECC and is recorded with the offset of the access (DESIGN CHOICE, log 101); while initialisation
runs a read returns 0 (R79). -/
def cellRead (s : State) (c off n : Nat) : State × Nat × Nat :=
  if !(storeReady s) then (s, OK, 0)
  else
    let s := cseCorrect s c off (off + n)
    let e := s.entry c
    let v := leNat ((e.bytes.drop off).take n)
    if e.bad.any (fun w => wordTouched w off (off + n)) then
      (cseRecord (s.raise SYS_CSE_STATUS_ECC_UNCORR) c off E_ECC, E_ECC, v)
    else (s, OK, v)

/-- 2 pJ units in a joule (R65, R71). -/
def jouleUnits : Nat := 500000000000

/-- Refusal codes of a software write to an entry (R67, R78, R79). While the pipeline runs, a write that leaves a counter at its
present value is refused like any other (DESIGN CHOICE: R67 against R6, log 100). -/
def cellWriteCodes (s : State) (c off n : Nat) (e' : Entry) : List Nat :=
  let touches (lo hi : Nat) : Bool := decide (lo < off + n) && decide (off < hi)
  let e := s.entry c
  codeIf (!(storeReady s)) E_BUSY
    ++ codeIf ((touches 0x18 0x2D || touches 0x30 0x35 || touches 0x38 0x3C) && s.pipe.running && !e.corrupt) E_BUSY
    ++ codeIf ((touches 0x28 0x2D && decide (jouleUnits ≤ e'.resDis)) || (touches 0x30 0x35 && decide (jouleUnits ≤ e'.resChg)))
        E_VALUE

/-- The words a write covers whole hold no error of one bit any more; a word it covers in part is read first (R78). -/
def cseRewrite (s : State) (c off n : Nat) : State :=
  cseCorrect (s.updEntry c (fun e => { e with single := e.single.filter (fun w => !(decide (off ≤ w) && decide (w + 8 ≤ off + n))) }))
    c off (off + n)

/-- A software write of `n` bytes of an entry that commits on an edge (R66 to R68), whole or not at all. A word under an
uncorrectable error takes the value and keeps its bad code until CLR_CORRUPT is acted on (DESIGN CHOICE, log 101). -/
def cellWrite (s : State) (c off n v edge : Nat) (fabric : Bool) : State :=
  let p : CellPut := ⟨edge, off, leBytes n v, fabric⟩
  let code := firstRefusal (cellWriteCodes s c off n (p.run (s.entry c)))
  if code = OK then (takePut (cseRewrite s c off n) c p).answer OK 0 else (cseRecord s c off code).answer code 0

/-- Initialisation of the cell store starts (R79): every entry takes the reset values of R65. -/
def storeInit (s : State) : State :=
  { (s.clear SYS_CSE_STATUS_INIT_DONE) with entries := [], pipe := { s.pipe with storeInit := true, late := [] } }

/-- Initialisation completes (R79). -/
def storeInitDone (s : State) : State :=
  if s.pipe.storeInit then { (s.raise SYS_CSE_STATUS_INIT_DONE) with pipe := { s.pipe with storeInit := false } } else s

/-- Codes of a write of CSE_CTRL.INIT (R79). -/
def storeInitCodes (s : State) : List Nat := codeIf s.pipe.running E_STATE ++ codeIf s.pipe.storeInit E_BUSY

end Sys2Proof.Machine
end

