-- ==== Sys2Proof/Machine/Operands.lean ====
section
/-!
DEFINITION. The operand forms of the instructions and engines: rounding, saturation and lane access (R3, R155, R177,
R178).
-/
namespace Sys2Proof.Machine

/-- The convergent shift of R177: right by `s` bits, to nearest, ties to even. -/
def crnd (v : Int) (s : Nat) : Int :=
  if s = 0 then v
  else
    let m : Int := 2 ^ s
    let q := v / m
    let r := v % m
    let h : Int := 2 ^ (s - 1)
    if h < r || (r = h && q % 2 = 1) then q + 1 else q

/-- Clamp to a signed `w`-bit number. -/
def satS (w : Nat) (v : Int) : Int := clampInt (-(2 ^ (w - 1))) (2 ^ (w - 1) - 1) v

/-- A value lies outside a signed `w`-bit number. -/
def outS (w : Nat) (v : Int) : Bool := decide (v < -(2 ^ (w - 1))) || decide (2 ^ (w - 1) - 1 < v)

end Sys2Proof.Machine
end

