-- ==== Sys2Proof/Machine/Oculus.lean ====
section
/-!
DEFINITION. Oculus (R281 to R287): strobes, records, the trigger sequencer, the mask test and the DRAM ring.
-/
namespace Sys2Proof.Machine

/-- Oculus's hidden state replaced by a function of it. -/
def State.updOc (s : State) (f : OculusSt → OculusSt) : State := { s with sig := { s.sig with oc := f s.sig.oc } }

/-- RESULT_e of a converter as a probe value (R281). -/
def adcProbe (s : State) (k e : Nat) : ProbeVal := ⟨s.rdS ADC_RESULT_VALUE k e, s.rd ADC_RESULT_QUAL k e == 2⟩
/-- OUT of a filter as a probe value (R281). -/
def filtProbe (s : State) (k : Nat) : ProbeVal := ⟨s.rdS FILT_OUT_VALUE k, s.rd FILT_OUTQ_QUAL k == 2⟩

/-- What a result (key 16k + e) or an output (key 64 + k) holds before it commits on the present edge: a strobe on that edge
takes it (R281). -/
def ocKeep (s : State) (key : Nat) (v : ProbeVal) : State :=
  if !(s.on OCULUS_STATUS_RUNNING) then s
  else match findKey s.sig.oc.was key with
    | some (e, _) => if e = s.fab then s else s.updOc (fun o => { o with was := o.was.set key (s.fab, v) })
    | none => s.updOc (fun o => { o with was := o.was.set key (s.fab, v) })

/-- A result or an output as a strobe on the present edge takes it (R281). -/
def ocTaken (s : State) (key : Nat) (v : ProbeVal) : ProbeVal :=
  match findKey s.sig.oc.was key with
  | some (e, w) => if e = s.fab then w else v
  | none => v

/-- The value and hold of probe p (R281). -/
def probeVal (s : State) (p : Nat) : ProbeVal :=
  let a := s.rd OCULUS_PROBE_A 0 p
  let b := s.rd OCULUS_PROBE_B 0 p
  match s.rd OCULUS_PROBE_SRC 0 p with
  | 1 => ocTaken s (16 * a + b) (adcProbe s a b)
  | 2 => ocTaken s (64 + a) (filtProbe s a)
  | 3 =>
    let x := s.sig.svs.get {} a
    let v := match x.snap with | some d => (nth (0, 0) d.chans b).1 | none => 0
    ⟨sx 32 v, x.qual != 1⟩
  | 4 =>
    let snap := if s.sig.oc.snapEdge = s.fab then s.sig.oc.snapWas else s.sig.oc.snap
    let e := snap.get {} (s.rd OCULUS_PROBE_CELL 0 p)
    ⟨sx 32 (leNat ((e.bytes.drop (4 * s.rd OCULUS_PROBE_WORD 0 p)).take 4)), e.qual == 2⟩
  | _ => ⟨0, false⟩

/-- A mask of the filters whose level field is set. -/
def filtMask (s : State) (f : Fld) : Nat := forN 16 (fun k m => if s.on f k then m + 2 ^ k else m) 0

/-- The strobe an edge takes (R281, R284). -/
def strobeNow (s : State) : Strobe :=
  ⟨s.ns, (upTo 12).map (probeVal s), filtMask s FILT_STATUS_HI_LEVEL, filtMask s FILT_STATUS_LO_LEVEL,
   s.rd TRIP_LEVEL_TRIP⟩

/-- The cell store at an engine completion (R281). -/
def ocCells (s : State) : State :=
  s.updOc (fun o => { o with snap := s.entries, snapWas := o.snap, snapEdge := s.fab })

/-- A strobe source event (R281): every DIV-th one of the selected source makes a strobe due. It is called before the
event's own values are committed, which the next strobe takes. -/
def ocSource (s : State) (src idx : Nat) : State :=
  if !(s.on OCULUS_STATUS_RUNNING) || s.rd OCULUS_STROBE_SRC != src || (src != 0 && s.rd OCULUS_STROBE_INDEX != idx) then s
  else
    let n := s.sig.oc.events + 1
    if s.rd OCULUS_STROBE_DIV ≤ n then s.updOc (fun o => { o with events := 0, due := o.due ++ [strobeNow s] })
    else s.updOc (fun o => { o with events := n })

/-- A due strobe enters the interval (R281); the 2^IAVG-th completes it (R282). -/
def ocStrobe (s : State) : State :=
  match s.sig.oc.due with
  | [] => s
  | x :: t =>
    if s.sig.oc.closing then s
    else
      let iv := s.sig.oc.interval ++ [x]
      s.updOc (fun o => { o with due := t, interval := iv, closing := decide (2 ^ s.rd OCULUS_STROBE_IAVG ≤ iv.length) })

/-- The least of a list of integers, from a start. -/
def minInt : Int → List Int → Int
  | m, [] => m
  | m, x :: t => minInt (if x < m then x else m) t

/-- The greatest of a list of integers, from a start. -/
def maxInt : Int → List Int → Int
  | m, [] => m
  | m, x :: t => maxInt (if m < x then x else m) t

/-- The sum of a list of integers. -/
def sumInt : List Int → Int
  | [] => 0
  | x :: t => x + sumInt t

/-- The value of probe p at a strobe. -/
def Strobe.val (x : Strobe) (p : Nat) : ProbeVal := nth ⟨0, false⟩ x.vals p

/-- The word of probe p over an interval (R282). -/
def probeWord (s : State) (iv : List Strobe) (p : Nat) : Nat :=
  let vs := iv.map (fun x => (x.val p).v)
  let z : Int := match s.rd OCULUS_PROBE_MODE 0 p with
    | 0 => satS 32 (crnd (sumInt vs) (s.rd OCULUS_STROBE_IAVG))
    | 1 => minInt (vs.headD 0) vs
    | 2 => maxInt (vs.headD 0) vs
    | _ => vs.getLastD 0
  uz 32 z

/-- The condition of state `st` on a record's words (R284). -/
def ocCondition (s : State) (st : Nat) (words : List Nat) (last : Strobe) : Bool :=
  let arg := s.rd OCULUS_SEQ_COND_ARG 0 st
  let v := sx 32 (nth 0 words arg)
  let a := sx 32 (s.rd OCULUS_SEQ_A_A 0 st)
  let b := sx 32 (s.rd OCULUS_SEQ_B_B 0 st)
  match s.rd OCULUS_SEQ_COND_SEL 0 st with
  | 0 => true
  | 1 =>
    match s.rd OCULUS_SEQ_COND_OP 0 st with
    | 0 => decide (a < v)
    | 1 => decide (v < a)
    | 2 => decide (a ≤ v) && decide (v ≤ b)
    | 3 => decide (v < a) || decide (b < v)
    | 4 => match s.sig.oc.prev with | some w => decide (sx 32 (nth 0 w arg) ≤ a) && decide (a < v) | none => false
    | _ => match s.sig.oc.prev with | some w => decide (a ≤ sx 32 (nth 0 w arg)) && decide (v < a) | none => false
  | 2 => bit last.hi arg
  | 3 => bit last.lo arg
  | 4 => bit last.trips arg
  | 5 => bit s.sig.oc.caps arg
  | 6 => s.sig.oc.forced
  | _ => false

/-- A state is entered, its counts restarted (R284). -/
def ocEnter (s : State) (st : Nat) : State :=
  (s.wr OCULUS_STATUS_STATE st).updOc (fun o => { o with held := 0, evals := 0 })

/-- The sequencer evaluates a record of index `idx` (R284, R285): whether the trigger fires on it. A STOP on the same
record prevails. -/
def ocEval (s : State) (idx : Nat) (words : List Nat) (last : Strobe) : State × Bool :=
  if s.on OCULUS_STATUS_TRIGGERED then (s, false)
  else
    let st := s.rd OCULUS_STATUS_STATE
    let held := if ocCondition s st words last then s.sig.oc.held + 1 else 0
    let evals := s.sig.oc.evals + 1
    let tmo := s.rd OCULUS_SEQ_COUNT_TO 0 st
    if s.rd OCULUS_SEQ_COUNT_CNT 0 st ≤ held then
      let fire := s.on OCULUS_SEQ_COND_TRIG 0 st && !s.sig.oc.stop
      let s := ocEnter s (s.rd OCULUS_SEQ_COND_NEXT 0 st)
      if fire then
        let s := ((s.raise OCULUS_STATUS_TRIGGERED).wr OCULUS_TRIG_IDX_IDX idx).updOc
          (fun o => { o with trig := some idx, violated := false })
        (s.raiseIf (decide (idx < s.rd OCULUS_PRE_RECORDS)) OCULUS_STATUS_PRE_SHORT, true)
      else (s, false)
    else if tmo ≠ 0 && tmo ≤ evals then (ocEnter s (s.rd OCULUS_SEQ_COND_TO_NEXT 0 st), false)
    else (s.updOc (fun o => { o with held := held, evals := evals }), false)

/-- The probes of record `idx` that violate the mask (R286): bounds from Cupola, a signed lower and an upper word, read through
requester 21. -/
def maskProbes (s : State) (idx : Nat) (words : List Nat) : State × Nat :=
  match s.sig.oc.trig with
  | none => (s, 0)
  | some t =>
    if idx < t || t + s.rd OCULUS_MASK_LEN ≤ idx then (s, 0)
    else
      let (s, bs, _) := loadBytes s (s.rd OCULUS_MASK_BASE_ADDR * 8 + 96 * (idx - t)) 96
      (s, forN 12 (fun p m =>
        let v := sx 32 (nth 0 words p)
        let lo := sx 32 (leNat ((bs.drop (8 * p)).take 4))
        let hi := sx 32 (leNat ((bs.drop (8 * p + 4)).take 4))
        if bit (s.rd OCULUS_MASK_EN) p && (decide (v < lo) || decide (hi < v)) then m ||| 2 ^ p else m) 0)

/-- A violation of the mask (R286): the first of a capture is kept. -/
def ocViolation (s : State) (idx probes : Nat) : State :=
  if probes = 0 || s.sig.oc.violated then s
  else (((s.raise OCULUS_STATUS_VIOL).wr OCULUS_VIOL_IDX_IDX idx).wr OCULUS_VIOL_PROBES_P probes).updOc
    (fun o => { o with violated := true })

/-- The interval is used up. -/
def ocNewInterval (s : State) : State :=
  s.updOc (fun o => { o with interval := [], caps := 0, forced := false, closing := false })

/-- STOP takes effect after the record that closes (R285). -/
def ocStopped (s : State) : State :=
  if s.sig.oc.stop then (s.clear OCULUS_STATUS_RUNNING).updOc (fun o => { o with stop := false, due := [] }) else s

/-- A record closes (R282 to R286): dropped when the FIFO is full, else evaluated, tested and queued. -/
def ocClose (s : State) : State :=
  if !s.sig.oc.closing then s
  else
    let iv := s.sig.oc.interval
    let last := iv.getLastD ⟨0, [], 0, 0, 0⟩
    let idx := s.rd OCULUS_WR_IDX_IDX
    let s1 := s.wr OCULUS_WR_IDX_IDX (idx + 1)
    if 32 ≤ s.sig.oc.fifo.length then
      let s1 := ((s1.count OCULUS_DROP_CNT_COUNT).raise OCULUS_STATUS_DROP).updOc (fun o => { o with gap := true })
      ocStopped (ocNewInterval s1)
    else
      let words := (upTo 12).map (probeWord s iv)
      let st := s.rd OCULUS_STATUS_STATE
      let (s2, fire) := ocEval s1 idx words last
      let (s3, probes) := maskProbes s2 idx words
      let s3 := ocViolation s3 idx probes
      let post := match s2.sig.oc.trig with | some t => decide (t < idx) | none => false
      let held := iv.any (fun x => x.vals.any (·.held))
      let flags := bitv 0 fire + bitv 1 (probes != 0) + bitv 2 post + bitv 3 s.sig.oc.gap + bitv 4 held
      let r : OcRec := ⟨last.time, idx, st, flags, probes, words⟩
      let s4 := s3.updOc (fun o => { o with fifo := o.fifo ++ [r], gap := false, prev := some words })
      ocStopped (ocNewInterval s4)

/-- The 64 bytes of a record (R282). -/
def OcRec.bytes (r : OcRec) : List Nat :=
  leBytes 8 r.time ++ leBytes 4 r.seq ++ [r.state % 8, r.flags] ++ leBytes 2 (r.vprobes % 4096)
    ++ (r.words.map (leBytes 4)).flatten

/-- A capture whose last record is written ends (R285, R286): acquisition stops with DONE, or the sequencer re-enters
state 0. -/
def ocCaptureEnd (s : State) : State :=
  let s' := (s.count OCULUS_STATUS_CAPTURES).clear OCULUS_STATUS_TRIGGERED
  if !(s.on OCULUS_CTRL_REPEAT) || (s.sig.oc.violated && s.on OCULUS_CTRL_STOP_VIOL) then
    ((s.count OCULUS_STATUS_CAPTURES).raise OCULUS_STATUS_DONE).clear OCULUS_STATUS_RUNNING |>.updOc
      (fun o => { o with trig := none, fifo := [], due := [], interval := [], closing := false, stop := false })
  else (ocEnter s' 0).updOc (fun o => { o with trig := none, violated := false })

/-- The head record of the FIFO is written to the DRAM ring (R283). -/
def ocWrite (s : State) : State :=
  match s.sig.oc.fifo with
  | [] => s
  | r :: t =>
    let a := 64 * s.rd OCULUS_BUF_BASE_ADDR + 64 * (r.seq % 2 ^ s.rd OCULUS_BUF_LOG2)
    let s := (engineStore s 21 OCULUS_BUF_BASE_ADDR 0 a r.bytes).updOc (fun o => { o with fifo := t })
    match s.sig.oc.trig with
    | some tr => if tr + s.rd OCULUS_POST_RECORDS ≤ r.seq && s.on OCULUS_STATUS_RUNNING then ocCaptureEnd s else s
    | none => s

/-- Codes of CTRL.ARM (R283, R285, R286). -/
def ocArmCodes (s : State) : List Nat :=
  let base := 64 * s.rd OCULUS_BUF_BASE_ADDR
  let ring := 64 * 2 ^ s.rd OCULUS_BUF_LOG2
  let post := s.rd OCULUS_POST_RECORDS
  codeIf (s.on OCULUS_STATUS_RUNNING) E_STATE
    ++ codeIf (base % ring != 0 || decide (base < 0x0800000000) || decide (0x1000000000 < base + ring)) E_RANGE
    ++ codeIf (decide (2 ^ s.rd OCULUS_BUF_LOG2 < s.rd OCULUS_PRE_RECORDS + 1 + post)) E_RANGE
    ++ codeIf (decide (post + 1 < s.rd OCULUS_MASK_LEN)) E_RANGE

/-- CTRL.ARM (R284, R285). -/
def ocArm (s : State) : State :=
  let s := (((s.raise OCULUS_STATUS_RUNNING).clear OCULUS_STATUS_TRIGGERED).wr OCULUS_WR_IDX_IDX 0).wr OCULUS_STATUS_STATE 0
  s.updOc (fun o => { snap := o.snap, snapWas := o.snapWas, snapEdge := o.snapEdge })

/-- CTRL.STOP (R285). -/
def ocStop (s : State) : State :=
  if s.on OCULUS_STATUS_RUNNING then s.updOc (fun o => { o with stop := true }) else s

/-- CTRL.FORCE (R284). -/
def ocForce (s : State) : State :=
  if s.on OCULUS_STATUS_RUNNING then s.updOc (fun o => { o with forced := true }) else s

/-- Codes of a write to OCULUS beyond those of its fields. -/
def oculusCodes (s : State) (off data : Nat) : List Nat := if off = 0 && bit data 0 then ocArmCodes s else []

/-- What a write to OCULUS does beyond storing its fields. -/
def oculusEffect (s : State) (off data : Nat) : State :=
  if off = 0 then
    let s := if bit data 0 then ocArm s else s
    let s := if bit data 1 then ocStop s else s
    if bit data 2 then ocForce s else s
  else s

end Sys2Proof.Machine
end

