-- ==== Sys2Proof/Machine/Campanile.lean ====
section
/-!
DEFINITION. The Campanile Time Engine (R308 to R318): the increment, the three ways to move time, coarse and lost
time, event timers, timed outputs, capture inputs, transmit timestamps and the tick's grid.
-/
namespace Sys2Proof.Machine

/-- TIME_COARSE set, with COARSE_EV on its change from 0 to 1 (R313, R318). -/
def setCoarse (s : State) : State :=
  (s.raiseIf (!(s.on CAMPANILE_STATUS_COARSE)) CAMPANILE_STATUS_COARSE_EV).raise CAMPANILE_STATUS_COARSE

/-- TIME_LOST set, with LOST_EV on its change from 0 to 1 (R313, R318). -/
def setLost (s : State) : State :=
  (s.raiseIf (!(s.on CAMPANILE_STATUS_LOST)) CAMPANILE_STATUS_LOST_EV).raise CAMPANILE_STATUS_LOST

/-- The increment a write of INCR_NS would apply (R308). -/
def incrOf (s : State) (ns : Nat) : Nat := (ns % 16) * 2 ^ 32 + s.rd CAMPANILE_INCR_FRAC_FRAC

/-- The increment lies outside 1.5 to 1.75 ns (R308). -/
def incrOutside (v : Nat) : Bool := decide (v < 0x180000000) || decide (0x1C0000000 < v)

/-- A write of INCR_NS applies both fields from the next edge on (R308). -/
def applyIncr (s : State) : State :=
  { s with camp := { s.camp with incr := incrOf s (s.rd CAMPANILE_INCR_NS_NS) } }

/-- The first edge that reaches a target (R311): the present one where it is reached already. -/
def reachEdge (s : State) (target : Nat) : Nat := if s.reached target then s.fab else s.fab + s.edgesUntil target

/-- The device's clock moved to the first edge that reaches a target (R311). -/
def toReach (s : State) (target : Nat) : State := s.toEdge (reachEdge s target)

/-- Outputs whose target a change of time has moved into the future are reached again when time arrives at it
(R311). -/
def rearmOutputs (s : State) : State :=
  { s with camp := { s.camp with
      outDone := s.camp.outDone.filter (fun j => s.reached (s.rd CAMPANILE_TO_TARGET 0 j)) } }

/-- STEP_GO on the edge after its write (R310). -/
def stepTime (s : State) : State :=
  let t := uz 96 ((s.timeAfter 1 : Int) + s.rdS CAMPANILE_ADJ_NS * 2 ^ 32)
  rearmOutputs { s.edges 1 with time := t }

/-- SLEW_GO (R310): the time slews from the next edge on, by the SLEW_STEP of this write. -/
def startSlew (s : State) : State :=
  let a := s.rdS CAMPANILE_ADJ_NS
  let left := a.natAbs * 2 ^ 32
  { (s.wr CAMPANILE_STATUS_SLEWING (b2n (decide (0 < left)))) with
    camp := { s.camp with slewLeft := left, slewNeg := decide (a < 0),
                            slewStep := s.rd CAMPANILE_SLEW_STEP_STEP } }

/-- The edges a slew still takes (R310). -/
def slewEdges (s : State) : Nat := ceilDiv s.camp.slewLeft (max 1 s.camp.slewStep)

/-- The end of a slew (R310): the clock moves to the edge that adds the exact remainder. -/
def endSlew (s : State) : State :=
  if s.camp.slewLeft = 0 then s else s.edges (slewEdges s)

/-- SET_GO on the edge after its write (R310, R313). -/
def setTime (s : State) : State :=
  let s := { s.edges 1 with time := s.rd CAMPANILE_SET_NS * 2 ^ 32 }
  rearmOutputs (setCoarse (s.clear CAMPANILE_STATUS_LOST))

/-- CLR_COARSE accepted (R313). -/
def clearCoarse (s : State) : State := (s.clear CAMPANILE_STATUS_COARSE).wr CAMPANILE_UNCERT_NS 0

/-- The time after a reset without a valid reference, or after the Lantern oscillator stopped (R313). -/
def timeLost (s : State) : State :=
  (setCoarse (setLost { s with time := 0 })).wr CAMPANILE_UNCERT_NS 0

/-- The time carried over `n` Lantern ticks from a reference (R313): 10⁹ / 2¹⁵ ns a tick, COARSE set, UNCERT grown
by the oscillator's tolerance and one tick. -/
def timeCarried (s : State) (refTime n : Nat) : State :=
  let add := ceilDiv (s.rd CAMPANILE_OSC_TOL_PPB * n * 1000000000) (32768 * 1000000000)
  let s := { s with time := (refTime + n * 1000000000 * 2 ^ 17) % 2 ^ 96 }
  (setCoarse s).wr CAMPANILE_UNCERT_NS (s.rd CAMPANILE_UNCERT_NS + add + 30518)

/-- A target advanced by whole periods until it lies in the future, and whether more than one was added (R315). -/
def catchUp (s : State) (target period : Nat) : Nat × Bool :=
  let m := (s.sinceNs target).toNat / (max 1 period) + 1
  ((target + m * period) % 2 ^ 64, decide (1 < m))

/-- A firing recorded (R315), which is a trigger of the converters too (R259). -/
def recordFire (s : State) (i : Nat) : State :=
  let s := { s with sig := { s.sig with pulses := s.sig.pulses.set (i + 1) (s.fab + 1) } }
  ((s.count CAMPANILE_ET_COUNT 0 i).raise CAMPANILE_ET_CTRL_FIRED 0 i).wr CAMPANILE_ET_FIRE_NS s.ns 0 i

/-- The edge on which timer i in TICK_OFFSET fires in the present cycle (R315), where it does. -/
def offsetEdge (s : State) (i : Nat) : Option Nat :=
  let p := s.rd CAMPANILE_ET_PERIOD 0 i
  if s.pipe.running && decide (p < s.pipe.cycleFab) && !(s.camp.fired.contains i) then some (s.pipe.tickEdge + p)
  else none

/-- A timer's MODE written (R315): where its offset's edge of the present cycle is not after the write, it does not fire in
this cycle (DEDUCED, log 120). -/
def timerWritten (s : State) (i : Nat) : State :=
  match (if s.rd CAMPANILE_ET_CTRL_MODE 0 i = 3 then offsetEdge s i else none) with
  | some e => if e ≤ s.fab then { s with camp := { s.camp with fired := i :: s.camp.fired } } else s
  | none => s

/-- Timer i fires on the edge of its mode's condition (R315). Timer 0 is the cycle tick itself (R314). -/
def timerFire (s : State) (i : Nat) : State :=
  let target := s.rd CAMPANILE_ET_TARGET 0 i
  match (if i = 0 then 0 else s.rd CAMPANILE_ET_CTRL_MODE 0 i) with
  | 1 => (recordFire (toReach s target) i).wr CAMPANILE_ET_CTRL_MODE 0 0 i
  | 2 =>
    let s := toReach s target
    let (t, missed) := catchUp s target (s.rd CAMPANILE_ET_PERIOD 0 i)
    let s := (recordFire s i).wr CAMPANILE_ET_TARGET t 0 i
    (s.raiseIf missed CAMPANILE_ET_CTRL_MISSED 0 i).raiseIf missed CAMPANILE_STATUS_MISSED
  | 3 =>
    match offsetEdge s i with
    | some e => let s := recordFire (s.toEdge e) i
                { s with camp := { s.camp with fired := i :: s.camp.fired } }
    | none => s
  | _ => s

/-- Timer i has an interrupt to raise: FIRED and IE (R315). -/
def timerSource (s : State) : Bool :=
  (upTo 16).any (fun i => s.on CAMPANILE_ET_CTRL_FIRED 0 i && s.on CAMPANILE_ET_CTRL_IE 0 i)

/-- Output j has a target to come: its MODE is not 0, it has not answered this target and is not at LEVEL (R316). -/
def outWaits (s : State) (j : Nat) : Bool :=
  s.rd CAMPANILE_TO_CTRL_MODE 0 j != 0 && !(s.camp.outDone.contains j) && !(s.camp.outOn.contains j)

/-- Output j takes its active level on the edge that reaches its target (R316). -/
def outActive (s : State) (j : Nat) : State :=
  let mode := s.rd CAMPANILE_TO_CTRL_MODE 0 j
  let target := s.rd CAMPANILE_TO_TARGET 0 j
  if !(outWaits s j) then s
  else
    let s := toReach s target
    let s := { s with camp := { s.camp with outOn := j :: s.camp.outOn } }
    if mode = 1 then
      (s.raise CAMPANILE_TO_CTRL_DONE 0 j)
    else if mode = 2 then
      { s with camp := { s.camp with
          outIdle := s.camp.outIdle.set j ((target + s.rd CAMPANILE_TO_WIDTH 0 j) % 2 ^ 64)
          outDone := j :: s.camp.outDone } }
    else
      let p := s.rd CAMPANILE_TO_PERIOD 0 j
      let (t, missed) := catchUp s target p
      let s := (s.wr CAMPANILE_TO_TARGET t 0 j).raiseIf missed CAMPANILE_STATUS_MISSED
      { s with camp := { s.camp with
          outIdle := s.camp.outIdle.set j ((t + 2 ^ 64 - p + s.rd CAMPANILE_TO_WIDTH 0 j) % 2 ^ 64) } }

/-- The time at which output j returns to idle, WIDTH ns after the target it answered (R316). -/
def idleTime (s : State) (j : Nat) : Nat :=
  if s.rd CAMPANILE_TO_CTRL_MODE 0 j = 2 then (s.rd CAMPANILE_TO_TARGET 0 j + s.rd CAMPANILE_TO_WIDTH 0 j) % 2 ^ 64
  else s.camp.outIdle.get 0 j

/-- Output j returns to idle WIDTH ns after its target and sets DONE (R316). In mode 2 a target that is reached then has been
answered, though a backward step moved it meanwhile. -/
def outIdle (s : State) (j : Nat) : State :=
  if 2 ≤ s.rd CAMPANILE_TO_CTRL_MODE 0 j && s.camp.outOn.contains j then
    let s := toReach s (idleTime s j)
    let once := s.rd CAMPANILE_TO_CTRL_MODE 0 j = 2 && s.reached (s.rd CAMPANILE_TO_TARGET 0 j)
    let done := s.camp.outDone.filter (· != j)
    { (s.raise CAMPANILE_TO_CTRL_DONE 0 j) with
      camp := { s.camp with outOn := s.camp.outOn.filter (· != j), outDone := if once then j :: done else done } }
  else s

/-- A write that changes an output's MODE from `old` (R316): its target counts afresh, and MODE 0 takes the pin to its idle
level. -/
def outModeWritten (s : State) (j old : Nat) : State :=
  let mode := s.rd CAMPANILE_TO_CTRL_MODE 0 j
  if mode = old then s
  else { s with camp := { s.camp with outOn := if mode = 0 then s.camp.outOn.filter (· != j) else s.camp.outOn
                                      outDone := s.camp.outDone.filter (· != j) } }

/-- The time recorded for a captured edge (R308, R317): the whole nanoseconds of the sampling edge less 3.2 ns, rounded down
(DESIGN CHOICE, log 120). -/
def captureNs (s : State) : Nat := (s.ns * 5 + 2 ^ 64 * 5 - 16) / 5 % 2 ^ 64

/-- A selected edge on CAPINk (R317); Oculus's sequencer sees the event, whether or not the FIFO takes it (R284). -/
def captureEdge (s : State) (k : Nat) (rise : Bool) : State :=
  if !(bit (s.rd CAMPANILE_CI_CTRL_EDGE 0 k) (if rise then 0 else 1)) then s
  else
    let q := s.camp.caps.get [] k
    let s := { s with sig := { s.sig with oc := { s.sig.oc with caps := s.sig.oc.caps ||| 2 ^ k } } }
    if 4 ≤ q.length then s.raise CAMPANILE_STATUS_CAP_OVF
    else { s with camp := { s.camp with
             caps := s.camp.caps.set k (q ++ [⟨captureNs s, rise, s.on CAMPANILE_STATUS_COARSE⟩]) } }

/-- A read of CI_k TS_LO latches the head record (R317). -/
def captureLatch (s : State) (k : Nat) : State :=
  match s.camp.caps.get [] k with
  | [] => (s.wr CAMPANILE_CI_TS 0 0 k)
  | r :: _ => { (s.wr CAMPANILE_CI_TS r.ns 0 k) with camp := { s.camp with capLat := s.camp.capLat.set k r } }

/-- A table with one key no longer listed. -/
def Sp.del {α : Type} (m : Sp α) (n : Nat) : Sp α := m.filter (fun p => p.1 != n)

/-- A read of CI_k TS_INFO returns the latched record's flags and removes it (R317). LEVEL counts the records before the read
(DESIGN CHOICE, log 120). -/
def capturePop (s : State) (k : Nat) : State :=
  let q := s.camp.caps.get [] k
  match findKey s.camp.capLat k with
  | none => s.answer OK (16 * (q.length % 8))
  | some r =>
    { s with camp := { s.camp with capLat := Sp.del s.camp.capLat k, caps := s.camp.caps.set k q.tail } }.answer OK
      (1 + bitv' 1 r.rise + bitv' 2 r.coarse + 16 * (q.length % 8))
where
  /-- Bit `k` set where a Boolean holds. -/
  bitv' (k : Nat) (b : Bool) : Nat := if b then 2 ^ k else 0

/-- A transmitted event message's timestamp (R312). -/
def txTimestamp (s : State) (p : Nat) (r : TxRec) : State :=
  let q := s.camp.txts.get [] p
  if 8 ≤ q.length then s.raise CAMPANILE_STATUS_TXTS_OVF
  else { s with camp := { s.camp with txts := s.camp.txts.set p (q ++ [r]) } }

/-- A read of TXTS_p's LO word latches the head entry's time. -/
def txLatch (s : State) (p : Nat) : State :=
  match s.camp.txts.get [] p with
  | [] => s.wr CAMPANILE_TXTS_TS 0 0 p
  | r :: _ => s.wr CAMPANILE_TXTS_TS r.ns 0 p

/-- A read of TXTS_p's information word returns the head entry and removes it, latched or not (R312; DESIGN CHOICE, log 120). -/
def txPop (s : State) (p : Nat) : State :=
  match s.camp.txts.get [] p with
  | [] => s.answer OK 0
  | r :: t => { s with camp := { s.camp with txts := s.camp.txts.set p t } }.answer OK
      (r.seqId % 65536 + 65536 * (r.msgType % 16) + 2 ^ 24)

/-- START lies fewer than 16 FAB clocks (25.6 ns) after the present time (R314). -/
def startTooSoon (s : State) : Bool := decide (-s.sinceNs (s.rd CAMPANILE_START_NS) * 5 < 128)

/-- TICK_CTRL.EN = 1 accepted (R314): the first tick is armed. While the last cycle of an earlier enable still runs, the first
tick waits for its end (DESIGN CHOICE, log 120). -/
def armTick (s : State) : State :=
  { s with pipe := { s.pipe with firstPending := true }, camp := { s.camp with gridFab := 0 } }

/-- TICK_CTRL.EN = 0 (R314, R25): every later tick is suppressed; a running cycle runs to its end. -/
def disarmTick (s : State) : State :=
  { s with pipe := { s.pipe with firstPending := false, endPending := s.pipe.running } }

/-- The grid error e of a tick in 2⁻³² ns, exact to that fraction, folded into ±CYCLE × 0.8 ns (R314): the tick's
time against START + 1.6 ns × the nominal cycles so far. Five times the error, so that 1.6 ns is a whole number. -/
def gridError5 (s : State) (cycle : Nat) : Int :=
  let full : Int := (cycle : Int) * 8 * 2 ^ 32
  let d := sx 96 (uz 96 ((s.time : Int) - s.rd CAMPANILE_START_NS * 2 ^ 32)) * 5 - (s.camp.gridFab : Int) * 8 * 2 ^ 32
  let m := d % full
  if 2 * m < full then m else m - full

/-- The correction of the next cycle's length (R314), before its limits. -/
def gridCorrection (e5 : Int) : Int :=
  if 8 * 2 ^ 32 < e5 then -1 else if e5 < -(8 * 2 ^ 32) then 1 else 0

end Sys2Proof.Machine
end

