-- ==== Sys2Proof/Machine/Pwm.lean ====
section
/-!
DEFINITION. The twelve PWM pairs (R288 to R297, R302): carriers, dead time and interlock, bootstrap refresh, output
precedence, reloads. A pair's events lie on edges its carrier fixes; each moves the clock to its edge.
-/
namespace Sys2Proof.Machine

/-- Hidden state of PWM_n. -/
def State.pwm (s : State) (n : Nat) : PwmSt := s.sig.pwms.get {} n
/-- Hidden state of PWM_n replaced by a function of it. -/
def State.updPwm (s : State) (n : Nat) (f : PwmSt → PwmSt) : State :=
  { s with sig := { s.sig with pwms := s.sig.pwms.set n (f (s.pwm n)) } }

/-- FAB clocks of a carrier period (R289). -/
def pwmPeriod (s : State) (n : Nat) : Nat :=
  let p := s.rd PWM_PERIOD_PERIOD n
  max 1 (if s.rd PWM_CTRL_MODE n = 0 then 2 * p else p + s.rd PWM_CMP_CMP n)

/-- The place of an edge in a carrier period that starts at count 0 on another edge. -/
def pwmPos (s : State) (n : Nat) (base : Int) (edge : Nat) : Nat := (((edge : Int) - base) % (pwmPeriod s n : Nat)).toNat

/-- The count at a place of the period, and whether it counts down there (R289). -/
def pwmCountAt (s : State) (n pos : Nat) : Nat × Bool :=
  let p := s.rd PWM_PERIOD_PERIOD n
  if s.rd PWM_CTRL_MODE n = 0 && decide (p < pos) then (2 * p - pos, true) else (pos, false)

/-- The count on an edge, and whether it counts down (R289). From a peak that reloaded it counts down to 1 whatever PERIOD the
reload gave. -/
def pwmCount (s : State) (n edge : Nat) : Nat × Bool :=
  match (s.pwm n).top with
  | some (e, c) =>
    if edge < e + c then (c - (edge - e), decide (e < edge)) else pwmCountAt s n (pwmPos s n ((e + c : Nat) : Int) edge)
  | none => pwmCountAt s n (pwmPos s n (s.pwm n).base edge)

/-- The carrier commands A on at an edge (R289). -/
def carrierA (s : State) (n edge : Nat) : Bool :=
  let p := s.rd PWM_PERIOD_PERIOD n
  let c := s.rd PWM_CMP_CMP n
  let count := (pwmCount s n edge).1
  match s.rd PWM_CTRL_MODE n with
  | 0 => decide (count < c) || c == p
  | 1 => decide (count < p)
  | _ => decide (count < c)

/-- An edge so far from count 0 of the present period. -/
def pwmEdge (s : State) (n : Nat) (k : Nat) : Nat := ((s.pwm n).base + (k : Nat)).toNat

/-- The edge on which the present period ends and count 0 comes again (R289): never before the pair's events have reached it. -/
def zeroEdge (s : State) (n : Nat) : Nat :=
  match (s.pwm n).top with
  | some (e, c) => e + c
  | none => max (pwmEdge s n (pwmPeriod s n)) ((s.pwm n).cur + 1)

/-- The edges of the present period on which the carrier's command changes, its reload points apart. -/
def changeEdges (s : State) (n : Nat) : List Nat :=
  let p := s.rd PWM_PERIOD_PERIOD n
  let c := s.rd PWM_CMP_CMP n
  match s.rd PWM_CTRL_MODE n, (s.pwm n).top with
  | 0, none => if 0 < c && c < p then [pwmEdge s n c, pwmEdge s n (2 * p - c + 1)] else []
  | 0, some (e, m) => if 0 < c && c ≤ m then [e + (m - c) + 1] else []
  | 1, _ => [pwmEdge s n p]
  | _, _ => [pwmEdge s n c]

/-- The next edge on which the carrier's command changes in the present period. -/
def nextChange (s : State) (n : Nat) : Option Nat :=
  (changeEdges s n).find? (fun e => decide ((s.pwm n).cur < e) && decide (e < zeroEdge s n))

/-- The next reload point is the count's peak (R289). -/
def peakNext (s : State) (n : Nat) : Bool :=
  s.rd PWM_CTRL_MODE n == 0 && s.on PWM_CTRL_RELOAD_PEAK n && (s.pwm n).top.isNone
    && decide ((s.pwm n).cur < pwmEdge s n (s.rd PWM_PERIOD_PERIOD n))

/-- The next reload point (R289). -/
def nextReload (s : State) (n : Nat) : Nat := if peakNext s n then pwmEdge s n (s.rd PWM_PERIOD_PERIOD n) else zeroEdge s n

/-- What carrier, refresh and FORCE command of A and B at an edge, latches apart (R289, R292 to R294). -/
def pwmCommand (s : State) (n edge : Nat) : Bool × Bool :=
  let single := s.on PWM_CTRL_SINGLE n
  let refresh := (s.pwm n).refresh
  let a := !refresh && carrierA s n edge
  let b := !a
  let fa := s.rd PWM_FORCE_FORCE_A n
  let fb := s.rd PWM_FORCE_FORCE_B n
  ((if fa = 1 then false else if fa = 2 then !refresh else a),
   !single && (if fb = 1 then false else if fb = 2 then true else b))

/-- The commands that pass the first three rows of R294 and OE (R288); after a cleared TRIP, none until a reload
(R302). -/
def pwmWants (s : State) (n edge : Nat) : Bool × Bool :=
  if s.on PWM_STATUS_SHOOT n || s.on PWM_STATUS_INTLK n || s.on PWM_STATUS_TRIP n || !(s.on PWM_CTRL_EN n)
      || !(s.on PWM_CTRL_OE n) || (s.pwm n).wait then (false, false)
  else pwmCommand s n edge

/-- The present outputs in STATUS.OUT (R306). -/
def pwmShow (s : State) (n : Nat) : State :=
  let x := s.pwm n
  s.wr PWM_STATUS_OUT (b2n x.onA + 2 * b2n x.onB) n

/-- A turn-on of an output wanted at an edge (R290): one already waiting for the same output keeps its due edge. -/
def pwmPend (s : State) (n edge : Nat) (x : PwmSt) (wa wb : Bool) : Option TurnOn :=
  let want := if wa && !x.onA then some false else if wb && !x.onB then some true else none
  match want, x.pend with
  | none, _ => none
  | some isB, some p =>
    if p.isB = isB then some p
    else some ⟨isB, edge, edge + (if isB then s.rd PWM_DEAD_DT_FALL n else s.rd PWM_DEAD_DT_RISE n)⟩
  | some isB, none => some ⟨isB, edge, edge + (if isB then s.rd PWM_DEAD_DT_FALL n else s.rd PWM_DEAD_DT_RISE n)⟩

/-- The outputs follow the commands of an edge (R290, R294, R295): an output no longer wanted goes off on that edge, one
newly wanted waits; both commanded together latch SHOOT. -/
def pwmDrive (s : State) (n edge : Nat) : State :=
  let w := pwmWants s n edge
  let shoot := w.1 && w.2
  let s := s.raiseIf shoot PWM_STATUS_SHOOT n
  let wa := w.1 && !shoot
  let wb := w.2 && !shoot
  let x := s.pwm n
  let offA := x.onA && !wa
  let offB := x.onB && !wb
  let x1 := { x with
    onA := x.onA && wa, onB := x.onB && wb
    aOff := if offA then edge else x.aOff, bOff := if offB then edge else x.bOff
    lastOffB := if offB then true else if offA then false else x.lastOffB }
  pwmShow (s.updPwm n (fun _ => { x1 with pend := pwmPend s n edge x1 wa wb })) n

/-- The synchronised gate-feedback levels shown with a pair's event (R288): bit 0 GFBA, bit 1 GFBB. -/
def pwmGfb (s : State) (n gfb : Nat) : State := s.wr PWM_STATUS_GFB gfb n

/-- The carrier's command changes (R290). -/
def pwmChange (s : State) (n : Nat) : State :=
  match nextChange s n with
  | some c =>
    if s.on PWM_CTRL_EN n && decide (c ≤ nextReload s n) then
      pwmDrive ((s.toEdge c).updPwm n (fun x => { x with cur := c })) n c
    else s
  | none => s

/-- The staged fields a reload loads (R296): those written before its edge; with LOAD = 0 what is still staged is
PERIOD; with LOAD = 2 none unless a GLOAD came before the edge. -/
def pwmLoad (s : State) (n edge : Nat) : State :=
  let armed := match (s.pwm n).gload with | some g => decide (g < edge) | none => false
  let late := s.staged.any (fun g => g.2.cls == .reload && g.2.inst == n && g.2.edge == edge) || (s.pwm n).gload == some edge
  let s := s.raiseIf late PWM_STATUS_LATE_UPDATE n
  if s.rd PWM_CTRL_LOAD n = 2 && !armed then s
  else
    (s.loadBefore (fun g => g.cls == .reload && g.inst == n) edge).updPwm n
      (fun x => { x with gload := if armed then none else x.gload })

/-- A reload of a pair at its next reload point (R289, R296, R302). -/
def pwmReload (s : State) (n : Nat) : State :=
  if !(s.on PWM_CTRL_EN n) then s
  else
    let s := pwmChange (pwmChange s n) n
    let e := nextReload s n
    let peak := peakNext s n
    let count := s.rd PWM_PERIOD_PERIOD n
    let s := pwmLoad (s.toEdge e) n e
    let s := (s.raise PWM_STATUS_RELOAD n).updPwm n (fun x => { x with
      base := if peak then x.base else (e : Nat), top := if peak then some (e, count) else none, cur := e, reload := some e, wait := s.on PWM_STATUS_TRIP n })
    pwmDrive s n e

/-- The edge on which a waiting turn-on completes (R291, R292), given the edges after the change since which the
feedback that governs it has been asserted. -/
def turnOnEdge (s : State) (n since : Nat) (p : TurnOn) : Nat :=
  let dead := p.due - p.off
  if s.on PWM_CTRL_SINGLE n || !(s.on PWM_CTRL_INTLK_MODE n) then max p.due (p.off + since)
  else p.off + since + dead

/-- The pair's command stands up to an edge: no change and no reload comes before it or on it. -/
def commandStands (s : State) (n edge : Nat) : Bool :=
  (match nextChange s n with | some c => decide (edge < c) | none => true) && decide (edge < nextReload s n)

/-- The feedback that governs a waiting turn-on is asserted (R291, R292): that of the other switch, in SINGLE its own. -/
def turnOnConfirmed (s : State) (n gfb : Nat) (p : TurnOn) : Bool :=
  bit gfb (if s.on PWM_CTRL_SINGLE n || p.isB then 0 else 1)

/-- A waiting switch turns on (R290 to R292): on its edge, when its feedback is asserted there, within INTLK_TO, and
before the command changes again. -/
def pwmTurnOn (s : State) (n gfb since : Nat) : State :=
  match (s.pwm n).pend with
  | none => pwmGfb s n gfb
  | some p =>
    let e := turnOnEdge s n since p
    let inTime := s.on PWM_CTRL_SINGLE n || decide (e ≤ p.off + s.rd PWM_INTLK_TO_TO n)
    if !(turnOnConfirmed s n gfb p) || !inTime || !(commandStands s n e) then pwmGfb s n gfb
    else
      let s := pwmGfb (s.toEdge e) n gfb
      pwmShow (s.updPwm n (fun x =>
        if p.isB then { x with onB := true, bOn := e, pend := none, cur := max x.cur e
                               rfshEnd := if x.refresh then e + s.rd PWM_REFRESH_RFSH_LEN n else x.rfshEnd }
        else { x with onA := true, aOn := e, pend := none, cur := max x.cur e })) n

/-- Both outputs off at an edge, nothing waiting. -/
def pwmOff (s : State) (n edge : Nat) : State :=
  pwmShow (s.updPwm n (fun x => { x with
    onA := false, onB := false, pend := none, refresh := false
    aOff := if x.onA then edge else x.aOff, bOff := if x.onB then edge else x.bOff
    lastOffB := if x.onB then true else if x.onA then false else x.lastOffB })) n

/-- A turn-on not made within INTLK_TO of the turn-off edge (R291): both off, INTLK latched. -/
def pwmTimeout (s : State) (n gfb since : Nat) : State :=
  match (s.pwm n).pend with
  | none => pwmGfb s n gfb
  | some p =>
    let e := p.off + s.rd PWM_INTLK_TO_TO n
    let made := turnOnConfirmed s n gfb p && decide (turnOnEdge s n since p ≤ e)
    if s.on PWM_CTRL_SINGLE n || made || !(commandStands s n e) then pwmGfb s n gfb
    else pwmOff ((pwmGfb (s.toEdge e) n gfb).raise PWM_STATUS_INTLK n) n e

/-- SHOOT (R295): both outputs commanded on together, or both feedbacks, which have stood for so many edges, deasserted on four
edges on which the pair runs with SINGLE = 0. -/
def pwmShoot (s : State) (n gfb steady : Nat) : State :=
  let s := pwmGfb s n gfb
  let c := pwmWants s n s.fab
  let both := c.1 && c.2
  let blind := gfb % 4 == 0 && decide (4 ≤ steady) && decide ((s.pwm n).started + 3 ≤ s.fab) && s.on PWM_CTRL_EN n && !(s.on PWM_CTRL_SINGLE n)
  if both || blind then pwmOff (s.raise PWM_STATUS_SHOOT n) n s.fab else s

/-- The bootstrap refresh begins (R293). -/
def pwmRefreshStart (s : State) (n : Nat) : State :=
  let x := s.pwm n
  let e := x.aOn + s.rd PWM_REFRESH_HS_MAX n
  if s.on PWM_STATUS_CP n || !x.onA || !(commandStands s n e) then s
  else
    let s := (s.toEdge e).updPwm n (fun x => { x with refresh := true, rfshEnd := e + s.rd PWM_REFRESH_RFSH_LEN n })
    pwmDrive (s.raise PWM_STATUS_REFRESH n) n e

/-- The bootstrap refresh ends and the carrier's command resumes (R293): RFSH_LEN after B is on, or after A went off in
SINGLE or with B forced off. -/
def pwmRefreshEnd (s : State) (n : Nat) : State :=
  let x := s.pwm n
  if !x.refresh || !(x.onB || s.on PWM_CTRL_SINGLE n || s.rd PWM_FORCE_FORCE_B n == 1) then s
  else
    let s := (s.toEdge x.rfshEnd).updPwm n (fun x => { x with refresh := false })
    pwmDrive s n x.rfshEnd

/-- The edges of the present period on which the count equals TRIG.CNT, moving in the selected direction (R297). -/
def triggerEdges (s : State) (n : Nat) : List Nat :=
  let p := s.rd PWM_PERIOD_PERIOD n
  let c := s.rd PWM_TRIG_CNT n
  let up := s.rd PWM_TRIG_DIR n != 1
  let down := s.rd PWM_TRIG_DIR n != 0
  match s.rd PWM_CTRL_MODE n, (s.pwm n).top with
  | 0, none => (if up && c ≤ p then [pwmEdge s n c] else []) ++ (if down && 0 < c && c < p then [pwmEdge s n (2 * p - c)] else [])
  | 0, some (e, m) => (if up && c = m then [e] else []) ++ (if down && 0 < c && c < m then [e + (m - c)] else [])
  | _, _ => if c < pwmPeriod s n then [pwmEdge s n c] else []

/-- The next edge on which the pair's trigger output pulses in the present period (R297). -/
def nextTrigger (s : State) (n : Nat) : Option Nat :=
  (triggerEdges s n).find? (fun e => s.sig.pulses.get 0 (17 + n) ≤ e && (s.pwm n).cur ≤ e)

/-- The trigger output pulses (R297). -/
def pwmPulse (s : State) (n : Nat) : State :=
  match nextTrigger s n with
  | some e =>
    if s.on PWM_TRIG_EN n && s.on PWM_CTRL_EN n then
      let s := s.toEdge e
      { s with sig := { s.sig with pulses := s.sig.pulses.set (17 + n) (e + 1) } }
    else s
  | none => s

/-- EN takes effect at a tick (R289): a started pair counts from PHASE, a stopped one has both outputs off. -/
def pwmTick (s : State) (n edge : Nat) : State :=
  let en := s.on PWM_CTRL_EN n
  if en == s.on PWM_STATUS_RUNNING n then s
  else
    let s := s.wr PWM_STATUS_RUNNING (b2n en) n
    if !en then pwmOff s n edge
    else
      let ph := s.rd PWM_PHASE_PHASE n
      let s := s.updPwm n (fun x => { x with base := (edge : Int) - ph, top := none, cur := edge, reload := none, refresh := false, started := edge })
      let s := if ph = 0 then
          (pwmLoad s n edge).updPwm n (fun x => { x with reload := some edge, wait := s.on PWM_STATUS_TRIP n })
        else s
      pwmDrive (if ph = 0 then s.raise PWM_STATUS_RELOAD n else s) n edge

/-- A pair's TRIP latch sets (R301): both outputs off on that edge, a waiting turn-on never occurs, and after a clear
both stay off until the next reload (R302). -/
def pwmTrip (s : State) (n edge : Nat) : State :=
  pwmOff ((s.raise PWM_STATUS_TRIP n).updPwm n (fun x => { x with wait := true })) n edge

/-- TRIP.GLOAD (R296). -/
def pwmGload (s : State) (mask : Nat) : State :=
  forN 12 (fun n s =>
    if bit mask n then
      let s := s.updPwm n (fun x => { x with gload := some s.fab })
      s.raiseIf ((s.pwm n).reload == some s.fab) PWM_STATUS_LATE_UPDATE n
    else s) s

/-- Codes of a write to PWM_n beyond those of its fields (R289, R291, R302, R306), on the values it gives: `v` is the
value a field of the written word takes, the present one for others. -/
def pwmCodes (s : State) (n off data : Nat) (v : Fld → Nat) (asserted : Bool) : List Nat :=
  let mode := v PWM_CTRL_MODE
  let per := v PWM_PERIOD_PERIOD
  let cmp := v PWM_CMP_CMP
  match off with
  | 0x000 =>
    codeIf (data % 2 = 1 && decide ((if mode = 0 then 2 * per else per + cmp) ≤ v PWM_PHASE_PHASE)) E_RANGE
      ++ codeIf (mode = 0 && decide (per < 2)) E_VALUE ++ codeIf (mode = 0 && decide (per < cmp)) E_RANGE
  | 0x004 => codeIf (per = 0 || (mode = 0 && decide (per < 2))) E_VALUE ++ codeIf (mode = 0 && decide (per < cmp)) E_RANGE
  | 0x008 => codeIf (mode = 0 && decide (per < cmp)) E_RANGE
  | 0x010 =>
    codeIf (decide (v PWM_INTLK_TO_TO < v PWM_DEAD_DT_RISE) || decide (v PWM_INTLK_TO_TO < v PWM_DEAD_DT_FALL)) E_RANGE
  | 0x024 =>
    let c := pwmCommand s n s.fab
    codeIf (bit data 0 && asserted) E_TRIP ++ codeIf (bit data 1 && c.1 && c.2) E_TRIP
      ++ codeIf (bit data 2 && !(bit (s.rd PWM_STATUS_GFB n) (b2n (s.pwm n).lastOffB))) E_TRIP
  | _ => []

/-- What a write to PWM_n does beyond storing its fields (R294, R296, R302). An immediate CMP leaves the period's events at the
edge of the write. -/
def pwmEffect (s : State) (n off : Nat) : State :=
  let shadow := off = 0x004 || (s.rd PWM_CTRL_LOAD n != 0 && (off = 0x008 || off = 0x00C || off = 0x01C))
  let late := (s.pwm n).reload == some s.fab && shadow
  let s := s.raiseIf late PWM_STATUS_LATE_UPDATE n
  if s.rd PWM_CTRL_LOAD n = 0 && (off = 0x008 || off = 0x00C || off = 0x01C) then
    let now := fun (g : Nat × Staged) => g.2.cls == .reload && g.2.inst == n && g.1 != PWM_PERIOD_PERIOD.key n 0
    let s := { s with regs := s.staged.foldl (fun m g => if now g then Sp.set m g.1 g.2.val else m) s.regs
                      staged := s.staged.filter (fun g => !(now g)) }
    pwmDrive (s.updPwm n (fun x => { x with cur := max x.cur s.fab })) n (s.fab + 1)
  else if off = 0x000 || off = 0x020 || off = 0x024 then pwmDrive s n s.fab
  else s

end Sys2Proof.Machine
end

