-- ==== Sys2Proof/Machine/CellEngine.lean ====
section
/-!
DEFINITION. The Cell State Engine: energy (R71), state of energy (R72), availability (R74), the key (R75, R76), the
handshake (R110), reactions (R111) and the processing of one cell in the order of R69.
-/
namespace Sys2Proof.Machine

/-- The energy of one cycle (R71): the entry with its counters advanced, and the whole joules w that moved. -/
def integrate (e : Entry) (cycleFab : Nat) : Entry × Nat × Bool :=
  let p := sx 16 e.img.ipack * e.img.vpack
  let inc := p.natAbs * cycleFab
  if 0 < p then
    let t := e.resDis + inc
    let w := t / jouleUnits
    let e := { e with resDis := t % jouleUnits, eDis := (e.eDis + w) % 2 ^ 64, ec := uz 32 ((e.ec : Int) - w) }
    (if e.estim then { e with estJ := satU 32 (e.estJ + w) } else e, w, true)
  else if p < 0 then
    let t := e.resChg + inc
    let w := t / jouleUnits
    let e := { e with resChg := t % jouleUnits, eChg := (e.eChg + w) % 2 ^ 64, ec := (e.ec + w) % 2 ^ 32 }
    (if e.estim then { e with estJ := satU 32 (e.estJ + w) } else e, w, false)
  else (e, 0, true)

/-- The state of energy (R72). -/
def soeOf (ec capJ : Nat) : Nat :=
  if capJ = 0 || sx 32 ec ≤ 0 then 0 else min 0xFFFF ((sx 32 ec).toNat * 65536 / capJ)

/-- Availability (R74). -/
def availOf (e : Entry) (suspended : Bool) : Bool :=
  !(e.qual == 0 || decide (2 ≤ e.heldRun) || e.img.latched || e.img.testing || e.swBlock || e.corrupt || suspended)

/-- The upper half of the key (R75): the quantised deviation in offset binary. -/
def keyHigh (vcap vref devShift : Nat) (charging : Bool) : Nat :=
  let dev : Int := (vcap : Int) - vref
  let term := if charging then -dev else dev
  let q := clampInt (-32768) 32767 (term.fdiv (2 ^ devShift : Nat))
  uz 16 (q + 0x8000)

/-- The lower half of the key (R76): the energy-and-lease priority. -/
def keyLow (soe lw hw ks kl kh : Nat) (charging : Bool) : Nat :=
  let t := if charging then 0xFFFF - soe else soe
  (t * ks + lw * kl + hw * kh) / 256

/-- The lease weight a cell takes from the snapshot of the tick (R69, R76, R95). -/
def snapWeight (s : State) (e : Entry) : Nat := if e.leaseEn then s.pipe.lwSnap.get 0xFFFF e.leaseId else 0xFFFF

/-- The selection key of a cell of arm k (R75, R76). -/
def keyOf (s : State) (k : Nat) (e : Entry) : Nat :=
  let charging := s.on SYS_CSE_ARM_MEAN_IDIR_NOW 0 k
  let vref := if s.on SYS_CSE_ARM_CFG_VREF_SRC 0 k then s.rd SYS_CSE_ARM_VREF_VREF 0 k else s.pipe.vmeanLat.get 0 k
  keyHigh e.img.vcap vref (s.rd SYS_CSE_ARM_CFG_DEV_SHIFT 0 k) charging * 65536
    + keyLow e.soe (snapWeight s e) e.hw (s.rd SYS_CSE_ARM_WEIGHT_KS 0 k) (s.rd SYS_CSE_ARM_WEIGHT_KL 0 k)
        (s.rd SYS_CSE_ARM_WEIGHT_KH 0 k) charging

/-- The first part of the processing (R69, R70): the status image, quality and records of a supplied or missing
status. -/
def takeStatus (e : Entry) (st : Option Stat) (relayed : Bool) (cycleNo : Nat) : Entry :=
  match st with
  | some t =>
    { e with
      faultCnt := if t.fault &&& (0xFF ^^^ (e.img.fault % 256)) = 0 then e.faultCnt else satU 8 (e.faultCnt + 1)
      swCount := if t.stateNow = e.lastState then e.swCount else (e.swCount + 1) % 2 ^ 32
      qual := if e.qual = 2 then 3 else 1
      img := t
      lastState := t.stateNow
      seq := cycleNo
      src := relayed
      heldRun := 0
      estim := false
      fb := t.fullBridge
      tpackMax := if sx 16 e.tpackMax < sx 16 t.tempPack then t.tempPack else e.tpackMax
      tswMax := if sx 16 e.tswMax < sx 16 t.tempSw then t.tempSw else e.tswMax }
  | none =>
    if e.qual = 0 then e else { e with qual := 2, heldRun := satU 8 (e.heldRun + 1), estim := true }

/-- The requests an entry's W1S bits make (R68, R70, R78), taken and cleared. -/
def takeRequests (e : Entry) : Entry :=
  let e := if e.qual != 0 && e.clrMax then { e with tpackMax := 0x8000, tswMax := 0x8000, clrMax := false } else e
  let e := if e.qual != 0 && e.ecSetPend then { e with ec := e.ecSet, ecAdj := true, ecSetPend := false } else e
  if e.clrCorrupt then { e with corrupt := false, bad := [], single := [], clrCorrupt := false } else e

/-- The reaction sources a supplied status raises against the previous image (R111), lowest code first, without the
handshake's. -/
def onsets (old new : Stat) : List Nat :=
  (upTo 8).filter (fun b => bit new.fault b && !(bit old.fault b))
  ++ codeIf (new.cmdBad && !old.cmdBad) 8
  ++ codeIf (new.staleEpoch && !old.staleEpoch) 10
  ++ codeIf (new.dupMismatch && !old.dupMismatch) 11

/-- The mismatch count after the handshake (R110): none when skipped or matching, else one more, saturating at 7. -/
def misCount (g : Gate) (t : Stat) : Nat :=
  if t.latched || t.testing || t.cmdMissed then 0
  else if t.stateNow = g.effPrev then 0 else min 7 (g.misCnt + 1)

/-- The handshake and reactions of a supplied status (R110, R111), in rising source code. -/
def judgeStatus (s : State) (c : Nat) (old new : Stat) : State :=
  let srcs := onsets old new
  let s := (srcs.filter (· < 9)).foldl (fun s x => react s c x) s
  let e := s.entry c
  let m := misCount e.gate new
  let s := s.updEntry c (fun e => { e with gate := { e.gate with misCnt := m } })
  let s := if s.rd SYS_GCS_CFG_STATE_LIMIT ≤ m then stateErr s c else s
  (srcs.filter (9 < ·)).foldl (fun s x => react s c x) s

/-- The processing of one cell (R69): status, requests, energy, state of energy, availability and key. An uncorrectable error is
raised and recorded once, when it sets CORRUPT, with the offset of the bad word (DESIGN CHOICE, log 101). -/
def processCell (s : State) (c : Nat) (st : Option Stat) (relayed : Bool) (cycleNo : Nat) : State :=
  let s := cseCorrect s c 0 128
  let e0 := entrySeen s c
  let bad := !e0.bad.isEmpty
  let e1 := takeStatus e0 st relayed cycleNo
  let e1 := if bad && !e0.corrupt then { e1 with corrupt := true } else e1
  let e2 := takeRequests e1
  let cycleFab := s.pipe.cycleFab
  let live := e2.qual != 0 && !e2.corrupt
  let (e3, w, dis) := if live then integrate e2 cycleFab else (e2, 0, true)
  let s := if live then leaseCredit s e3.leaseId w dis e3.estim else s
  let e4 := { e3 with soe := soeOf e3.ec e3.capJ }
  let e5 := { e4 with avail := availOf e4 (leaseSuspended s e4.leaseId) }
  let e6 := { e5 with key := match ringArm s (c / 32) with | some k => keyOf s k e5 | none => 0 }
  let s := engineWrite s c e6
  let s := leaseObserve s e6
  let s := if bad && !e0.corrupt then cseRecord (s.raise SYS_CSE_STATUS_ECC_UNCORR) c (nth 0 e0.bad 0) E_ECC else s
  let s := s.raiseIf (e6.qual != 0 && e6.img.intlkMode != s.on RING_CFG_INTLK_MODE (c / 32)) RING_STATUS_POS_ERR (c / 32)
  match st with
  | some t => judgeStatus s c e0.img t
  | none => s

/-- A refused cell-store write answered (R67, R80). -/
def cseRefuse (s : State) (c off code : Nat) : State := (cseRecord s c off code).answer code 0

/-- VMEAN and NCELLS published at the engine's completion (R77). -/
def publishMean (s : State) (k : Nat) : State :=
  let cells := (armCells s k).filter (fun c => let q := (s.entry c).qual; q == 1 || q == 3)
  let n := cells.length
  let s := s.wr SYS_CSE_ARM_MEAN_NCELLS n 0 k
  if n = 0 then s else s.wr SYS_CSE_ARM_MEAN_VMEAN (sumOf (fun c => (s.entry c).img.vcap) cells / n) 0 k

end Sys2Proof.Machine
end

