-- ==== Sys2Proof/Machine/ArmSelect.lean ====
section
/-!
DEFINITION. Arm modulation and the selection: the insertion count (R84 to R86, R119), the mark pass (R87 to R92),
the pack-current split (R95) and the arm's sums (R96).
-/
namespace Sys2Proof.Machine

/-- Twin unit states (R331). -/
def TW_OFF : Nat := 0
def TW_JOIN : Nat := 1
def TW_STANDBY : Nat := 2
def TW_HOLDER : Nat := 3
def TW_FAULTY : Nat := 4

/-- The supply of a cycle is agreed with the twin before it is processed (R328). -/
def twinAgrees (s : State) : Bool :=
  let t := s.rd TWIN_STATUS_STATE
  t == TW_JOIN || t == TW_STANDBY || t == TW_HOLDER

/-- FAB clocks from the tick to the engine's completion event (R18, R328). -/
def completionAt (s : State) : Nat :=
  s.rd SYS_PIPE_CFG_RET_DEADLINE + (if twinAgrees s then s.rd TWIN_CFG_MASK_WAIT else 0) + (if s.mode16 then 156 else 312)

/-- The cut-off edge of the present cycle (R21, R94). -/
def cutoffEdge (s : State) : Nat := s.pipe.tickEdge + completionAt s + (if s.mode16 then 275 else 550)

/-- Arm modes of R83. -/
def MODE_OFF : Nat := 0
def MODE_RUN : Nat := 1
def MODE_HOLD : Nat := 2
def MODE_BYPASS : Nat := 3

/-- The nearest-level count (R84). -/
def nearestLevel (v : Int) (m : Nat) : Int :=
  if m = 0 then 0 else v.sign * (((2 * v.natAbs + m) / (2 * m) : Nat) : Int)

/-- A trip input asserted after its filter (R119, R298). -/
def tripFiltered (s : State) (i : Nat) : Bool := bit (s.rd TRIP_LEVEL_TRIP) i

/-- The chopper takes arm k's count at this cut-off (R119). -/
def chopActive (s : State) (k : Nat) : Bool :=
  (k == 6 && s.on SYS_GCS_CHOP_EN_6 && tripFiltered s (s.rd SYS_GCS_CHOP_TRIP_6))
  || (k == 7 && s.on SYS_GCS_CHOP_EN_7 && tripFiltered s (s.rd SYS_GCS_CHOP_TRIP_7))

/-- The count of one arm fixed at the cut-off (R21, R84, R85, R119), REUSED and CLAMPED set in RUN; what they were is kept. -/
def countAt (s : State) (k : Nat) : State :=
  let run := s.rd ARM_CTRL_MODE k == MODE_RUN
  let a := s.arm k
  let direct := !(s.on ARM_CTRL_MOD_SRC k)
  let pos := (s.rd ARM_LIMIT_N_POS_MAX k : Int)
  let neg := (s.rd ARM_LIMIT_N_NEG_MAX k : Int)
  let raw := if direct then s.rdS ARM_N_N k
    else nearestLevel (s.rdS ARM_VREF_ARM_V k) (s.rd SYS_CSE_ARM_MEAN_VMEAN 0 k)
  let n := if direct then raw else clampInt (-neg) pos raw
  let chop := chopActive s k
  let nUse := if chop then min (s.rd SYS_GCS_CHOP_CHOP_N : Int) pos else n
  let reused := run && !chop && !a.committed
  let had := s.on ARM_STATUS_REUSED k
  let clamped := s.on ARM_STATUS_CLAMPED k
  let s := s.updArm k (fun a => { a with committed := false, n := nUse, reused := reused, hadReused := had, hadClamped := clamped })
  if run then
    let s := s.raiseIf chop ARM_GSTATUS_CHOP k
    let s := s.raiseIf (!chop && !direct && n != raw) ARM_STATUS_CLAMPED k
    let s := s.raiseIf reused ARM_STATUS_REUSED k
    let s := s.raiseIf reused SYS_PIPE_STATUS_N_REUSED
    if reused then s.orIn SYS_PIPE_STATUS_ARM_REUSED (2 ^ k) else s
  else s

/-- The cut-off of one arm (R21, R89): its count, and in RUN the refill counter advanced. -/
def cutoffArm (s : State) (k : Nat) : State :=
  let s := countAt s k
  if s.rd ARM_CTRL_MODE k == MODE_RUN then
    s.updArm k (fun a =>
      let r := a.refill + 1
      { a with refill := r, refillDue := decide (s.rd ARM_BUDGET_REFILL k ≤ r) })
  else s

/-- A count that commits on the cut-off's own edge, after the cut-off was taken there, is still this cycle's (R21): what the
cut-off made of the older one is withdrawn and the count formed again. -/
def countAgain (s : State) (k : Nat) : State :=
  let a := s.arm k
  let others := (upTo 8).any (fun j => j != k && (s.arm j).reused)
  let s := s.wr ARM_STATUS_REUSED (b2n a.hadReused) k
  let s := s.wr ARM_STATUS_CLAMPED (b2n a.hadClamped) k
  let s := if a.reused then
      let was := s.pipe.hadReused
      let s := s.wr SYS_PIPE_STATUS_N_REUSED (b2n (bit was 8 || others))
      s.wr SYS_PIPE_STATUS_ARM_REUSED (clearBit k was (s.rd SYS_PIPE_STATUS_ARM_REUSED))
    else s
  countAt (s.updArm k (fun a => { a with committed := true })) k
where
  /-- Bit `k` of a mask as an older mask has it. -/
  clearBit (k was now : Nat) : Nat := if bit was k then now else now - (now &&& 2 ^ k)

/-- The refill of an arm whose counter has reached REFILL (R89): the counter returns to 0 and every cell's SPENT
drops by one. -/
def refillArm (s : State) (k : Nat) : State :=
  if (s.arm k).refillDue then
    let s := s.updArm k (fun a => { a with refill := 0, refillDue := false })
    if s.on ARM_CTRL_BUDGET_EN k then
      (armCells s k).foldl (fun s c => s.updEntry c (fun e => { e with sel := { e.sel with spent := e.sel.spent - 1 } })) s
    else s
  else s

/-- A cell as the selection sees it (R90). -/
structure Cand where
  cell : Nat
  prev : Bool
  spent : Nat
  pin : Bool
  elig : Bool
  ek : Nat
  deriving DecidableEq, Repr

/-- The candidate of a cell (R87, R90). -/
def candOf (s : State) (k : Nat) (neg : Bool) (c : Nat) : Cand :=
  let e := s.entry c
  let ben := s.on ARM_CTRL_BUDGET_EN k
  let spent := if ben then e.sel.spent else 0
  { cell := c, prev := e.sel.ins, spent := spent
    pin := ben && decide (s.rd ARM_BUDGET_CAP k ≤ spent)
    elig := e.avail && (!neg || e.fb)
    ek := e.key + if e.sel.ins then s.rd ARM_BAND_BAND k * 65536 else 0 }

/-- The ranked order (R87): effective key descending, then cell id ascending. -/
def ranksBefore (a b : Cand) : Bool := decide (b.ek < a.ek) || (a.ek == b.ek && decide (a.cell < b.cell))

/-- A candidate placed in a ranked list. -/
def insertRanked (a : Cand) : List Cand → List Cand
  | [] => [a]
  | b :: t => if ranksBefore a b then a :: b :: t else b :: insertRanked a t

/-- The ranked list L of the eligible cells (R87). -/
def rankedList : List Cand → List Cand
  | [] => []
  | a :: t => if a.elig then insertRanked a (rankedList t) else rankedList t

/-- The quotas of R90 over the ranked list: how many of the pinned inside, free and pinned outside cells go in. -/
structure Quota where
  qi : Nat
  qf : Nat
  qo : Nat
  deriving DecidableEq, Repr

/-- The quotas for a count m (R90). -/
def quotas (m : Nat) (L : List Cand) : Quota :=
  let pi := (L.filter (fun c => c.pin && c.prev)).length
  let f := (L.filter (fun c => !c.pin)).length
  let po := (L.filter (fun c => c.pin && !c.prev)).length
  let qi := min m pi
  let qf := min (m - qi) f
  ⟨qi, qf, min (m - qi - qf) po⟩

/-- The inserted set S of R90: the cell ids its quotas take, in the kept order of L. -/
def insertedSet (q : Quota) (L : List Cand) : List Nat :=
  ((L.filter (fun c => c.pin && c.prev)).take q.qi ++ (L.filter (fun c => !c.pin)).take q.qf
    ++ (L.filter (fun c => c.pin && !c.prev)).take q.qo).map (·.cell)

/-- The place of a cell in the ranked list, 0 when it is not there (R90). -/
def rankOf (c : Nat) : List Cand → Nat → Nat
  | [], _ => 0
  | x :: t, i => if x.cell = c then i else rankOf c t (i + 1)

/-- The SEL word of one cell after the mark pass (R90). -/
def markCell (s : State) (k : Nat) (neg : Bool) (S : List Nat) (L : List Cand) (x : Cand) : Sel :=
  let e := s.entry x.cell
  let ins := S.contains x.cell
  { dec := if ins then (if neg then 3 else 2) else if e.swBlock then 0 else 1
    ins := ins
    pinned := x.pin
    forced := x.pin && ins != x.prev
    elig := x.elig
    spent := if s.on ARM_CTRL_BUDGET_EN k && ins != x.prev then min (s.rd ARM_BUDGET_CAP k) (x.spent + 1) else x.spent
    rank := if x.elig then rankOf x.cell L 0 else 0 }

/-- The mean state of energy over the arm's available cells (R95). -/
def soeMean (s : State) (cells : List Nat) : Nat :=
  let av := cells.filter (fun c => (s.entry c).avail)
  if av.length = 0 then 0 else sumOf (fun c => (s.entry c).soe) av / av.length

/-- The pack-current split of one cell (R95). -/
def splitCurrent (s : State) (k mean : Nat) (e : Entry) : Cmd :=
  if !e.avail then { iref := 0, state := 0, dcdcEn := false }
  else
    let d : Int := (e.soe : Int) - mean
    let t := s.rdS ARM_IREF_BASE k + (d * s.rdS ARM_TILT_TILT k).fdiv 65536
    let i := (t * ((snapWeight s e : Int) + 1)).fdiv 65536
    let mx := (s.rd ARM_IREF_MAX k : Int)
    { iref := uz 16 (clampInt (-mx) mx i), state := 0, dcdcEn := s.on ARM_CTRL_DCDC_EN k }

/-- The sums and results of an arm after its selection (R83, R91, R96). -/
def publishSums (s : State) (k mean : Nat) (cells : List Nat) : State :=
  let av := cells.filter (fun c => (s.entry c).avail)
  let s := s.wr ARM_COUNTS_AVAIL av.length k
  let s := s.wr ARM_SUM_VCAP_SUM (sumOf (fun c => (s.entry c).img.vcap) av) k
  let s := s.wr ARM_SUM_VINS_SUM (sumOf (fun c => let e := s.entry c; if e.sel.ins then e.img.vcap else 0) av) k
  let sq := sumOf (fun c => (s.entry c).img.vcap ^ 2) av
  let s := s.wr ARM_SUM_VCAP2_SUM sq k
  s.wr ARM_SOE_MEAN_SOE mean k

/-- The selection of an arm in RUN (R90, R91, R95). -/
def selectRun (s : State) (k : Nat) (cells : List Nat) (mean : Nat) : State :=
  let n := (s.arm k).n
  let neg := decide (n < 0)
  let s := refillArm s k
  let cands := cells.map (candOf s k neg)
  let L := rankedList cands
  let q := quotas n.natAbs L
  let S := insertedSet q L
  let act := q.qi + q.qf + q.qo
  let sels := cands.map (fun x => (x, markCell s k neg S L x))
  let changed := (sels.filter (fun p => p.2.ins != p.1.prev)).length
  let forced := (sels.filter (fun p => p.2.forced)).length
  let last := (L.filter (fun x => S.contains x.cell)).getLast?
  let s := sels.foldl (fun s p => s.updEntry p.1.cell
      (fun e => { e with sel := p.2, selCmd := splitCurrent s k mean e })) s
  let s := (s.wr ARM_RESULT_N_USED (uz 12 n) k).wr ARM_RESULT_N_ACT act k
  let s := s.wr ARM_COUNTS_ELIGIBLE L.length k
  let s := (s.wr ARM_CHANGES_CHANGES changed k).wr ARM_CHANGES_FORCED forced k
  let s := (s.wr ARM_PINS_PIN_IN (L.filter (fun c => c.pin && c.prev)).length k).wr ARM_PINS_PIN_OUT
    (L.filter (fun c => c.pin && !c.prev)).length k
  let s := s.wr ARM_LAST_KEY_KEY (match last with | some x => (s.entry x.cell).key | none => 0) k
  let s := s.raiseIf (decide (act < n.natAbs)) ARM_STATUS_SHORT k
  s.raiseIf (decide (0 < forced)) ARM_STATUS_BUDGET_OVR k

/-- The results of an arm outside RUN (R83): no count, no changes, no pins. -/
def clearResults (s : State) (k : Nat) : State :=
  let s := (s.wr ARM_RESULT_N_USED 0 k).wr ARM_RESULT_N_ACT 0 k
  let s := (s.wr ARM_CHANGES_CHANGES 0 k).wr ARM_CHANGES_FORCED 0 k
  let s := (s.wr ARM_PINS_PIN_IN 0 k).wr ARM_PINS_PIN_OUT 0 k
  (s.wr ARM_COUNTS_ELIGIBLE 0 k).wr ARM_LAST_KEY_KEY 0 k

/-- SEL and the current reference of a cell of an arm in OFF, HOLD or BYPASS (R83, R92). -/
def idleSel (s : State) (k mode mean : Nat) (e : Entry) : Entry :=
  if mode = MODE_HOLD then { e with sel := { e.sel with dec := 4 }, selCmd := { e.selCmd with state := 0 } }
  else if mode = MODE_BYPASS then
    { e with sel := { dec := if e.swBlock then 0 else 1, spent := e.sel.spent }, selCmd := splitCurrent s k mean e }
  else { e with sel := { dec := 0, spent := e.sel.spent }, selCmd := {} }

/-- The selectors-done edge of one arm (R83, R92, R94 to R96). -/
def selectArm (s : State) (k : Nat) : State :=
  let cells := armCells s k
  let mean := soeMean s cells
  let mode := s.rd ARM_CTRL_MODE k
  let s := if mode = MODE_RUN then selectRun s k cells mean
    else cells.foldl (fun s c => s.updEntry c (idleSel s k mode mean)) (clearResults s k)
  publishSums s k mean cells

/-- A cell of an enabled ring in no arm (R82, R92): BLOCK with every other field 0. -/
def unassignedSel (e : Entry) : Entry := { e with sel := {}, selCmd := {} }

/-- The selectors-done edge of all arms and of the rings in no arm (R94). -/
def selectAll (s : State) : State :=
  let s := (upTo 8).foldl selectArm s
  ((upTo 128).filter (fun r => (ringArm s r).isNone)).foldl
    (fun s r => (ringCells s r).foldl (fun s c => s.updEntry c unassignedSel) s) s

end Sys2Proof.Machine
end

