-- ==== Sys2Proof/Machine/GateStage.lean ====
section
/-!
DEFINITION. The gate command stage: what each slot carries (R100 to R108), its done edge, the launch set-up point and
the frames handed to the rings (R22, R25, R26).
-/
namespace Sys2Proof.Machine

/-- The latches of rows 1 to 5 of R104 for one ring: the row number of the first that holds, 0 for none. -/
def latchRow (s : State) (r : Nat) : Nat :=
  if s.on SYS_GCS_BLOCK_KEEP then 1
  else if s.on SYS_GCS_BLOCK_ALL then 2
  else if s.on RING_STATUS_LOST r || bit (s.rd SYS_PIPE_OVR 0 (r / 32)) (r % 32) then 3
  else if bit (s.rd SYS_GCS_RING_BLK 0 (r / 32)) (r % 32) then 4
  else match ringArm s r with
    | some k => if bit (s.rd SYS_GCS_BLOCK_ARM) k then 5 else 0
    | none => 0

/-- A state code that inserts the cell (R98). -/
def isInsert (st : Nat) : Bool := st == 2 || st == 3

/-- The GATE word after a launch that leaves the cell in a state (R104 to R106). -/
def gateAfter (pre : Gate) (sent : Nat) (dcdc : Bool) (why : Nat) : Gate :=
  let eff := if sent = 4 then pre.eff else sent
  { pre with
    effPrev := pre.eff, eff := eff, holdSent := decide (sent = 4), dcdc := dcdc, why := why
    fromBlk := if eff = 0 then true else if isInsert eff then false else pre.fromBlk
    byp := if eff = 1 then min 3 (pre.byp + 1) else 0
    hsRun := if isInsert eff then min 1023 (pre.hsRun + 1) else if eff = 1 then 0 else pre.hsRun }

/-- What the stage sends a cell (R103, R104): the state, the row, and the GATE word with RFSH and ILLEGAL judged.
`row` is the row of 1 to 5 that holds, 0 for none. -/
structure Judged where
  state : Nat
  why : Nat
  rfsh : Bool
  illegal : Bool
  refreshStart : Bool
  deriving DecidableEq, Repr

/-- The precedence table of R104 for one cell. -/
def judgeCell (s : State) (row r : Nat) (e : Entry) (pre : Gate) : Judged :=
  let target := if e.sel.dec = 4 then pre.eff else e.sel.dec
  let bad := decide (5 ≤ e.sel.dec) || (target == 3 && !e.fb)
  let rlen := s.rd SYS_GCS_CFG_REFRESH_LEN
  let still := !pre.cp && pre.rfsh && decide (pre.byp < rlen)
  let due := !pre.cp && decide (s.rd SYS_GCS_CFG_REFRESH_MAX ≤ pre.hsRun)
  let blocked := fun (why : Nat) (ill : Bool) => (⟨0, why, still, ill, false⟩ : Judged)
  if 0 < row then blocked row false
  else if pre.flt then blocked 6 false
  else if e.qual != 0 && e.img.intlkMode != s.on RING_CFG_INTLK_MODE r then blocked 7 false
  else if bad then blocked 8 true
  else if isInsert target && pre.fromBlk && decide (pre.byp < s.rd SYS_GCS_CFG_REENTRY) then ⟨1, 9, still, false, false⟩
  else if still || due then ⟨1, 10, true, false, !still⟩
  else ⟨e.sel.dec, 0, false, false, false⟩

/-- One cell's slot assembled from the GATE word before the launch (R104, R121). -/
def assembleCell (s : State) (row r : Nat) (e : Entry) (pre : Gate) : Entry × Judged :=
  let j := judgeCell s row r e pre
  let block := decide (j.state = 0)
  let cmd : Cmd := { iref := if block then 0 else e.selCmd.iref, state := j.state,
                     dcdcEn := if block then false else e.selCmd.dcdcEn }
  let g := gateAfter pre j.state cmd.dcdcEn j.why
  ({ e with cmd := cmd, gate := { g with rfsh := j.rfsh, illegal := pre.illegal || j.illegal } }, j)

/-- The assembly of one ring at the done edge (R104, R121): the GATE word before it is kept for the set-up point. -/
def assembleRing (s : State) (r : Nat) : State :=
  let row := latchRow s r
  let arm := ringArm s r
  (ringCells s r).foldl (fun s c =>
    let e := s.entry c
    let (e', j) := assembleCell s row r { e with gatePre := e.gate } e.gate
    let s := s.updEntry c (fun _ => e')
    let s := match arm with
      | some k => s.raiseIf j.refreshStart ARM_GSTATUS_REFRESH k |>.raiseIf j.illegal ARM_GSTATUS_ILLEGAL k
      | none => s
    if j.illegal then react s c 15 else s) s

/-- GCOUNT of an arm at the done edge (R107). -/
def publishGcount (s : State) (k : Nat) : State :=
  let cells := armCells s k
  let subst := (cells.filter (fun c => let e := s.entry c; e.sel.ins && !(isInsert e.gate.eff))).length
  let rf := (cells.filter (fun c => (s.entry c).gate.rfsh)).length
  let s := (s.wr ARM_GCOUNT_SUBST subst k).wr ARM_GCOUNT_REFRESH rf k
  s.raiseIf (decide (0 < subst)) ARM_GSTATUS_SUBST k

/-- Rows 1 to 5 sampled again, at the set-up point (R108) and for GCOUNT once an assembly has set its latches (R107): each cell of the ring is judged from the GATE word before
its assembly. A reaction of this assembly keeps its FLT. -/
def resampleRing (s : State) (r : Nat) : State :=
  let row := latchRow s r
  (ringCells s r).foldl (fun s c =>
    let e := s.entry c
    let pre := e.gatePre
    let (e', _) := assembleCell s row r e pre
    s.updEntry c (fun _ => { e' with gate := { e'.gate with flt := e.gate.flt, illegal := e.gate.illegal,
                                                            misCnt := e.gate.misCnt, cp := e.gate.cp } })) s

/-- The gate command stage's done edge (R18, R104, R107, R115): every ring assembled, then judged by the latches as this assembly
leaves them. -/
def gateStageDone (s : State) : State :=
  let s := ((upTo 128).filter (fun r => s.on RING_CTRL_EN r)).foldl assembleRing s
  let s := flushGroup s
  let s := ((upTo 128).filter (fun r => s.on RING_CTRL_EN r)).foldl resampleRing s
  (upTo 8).foldl publishGcount s

/-- A ring launched with HOLD in every slot because its frame is not assembled (R22, R37): under rows 1 to 5 it is
launched with BLOCK (R108). -/
def holdRing (s : State) (r : Nat) (assembled : Bool) : State :=
  let row := latchRow s r
  (ringCells s r).foldl (fun s c =>
    let e := s.entry c
    let pre := if assembled then { e.gatePre with flt := e.gate.flt, illegal := e.gate.illegal,
                                                  misCnt := e.gate.misCnt, cp := e.gate.cp } else e.gate
    if 0 < row then
      s.updEntry c (fun e => { e with cmd := {}, gatePre := pre, gate := gateAfter pre 0 false row })
    else
      let cmd : Cmd := { iref := e.lastCmd.iref, state := 4, dcdcEn := e.lastCmd.dcdcEn }
      s.updEntry c (fun e => { e with cmd := cmd, gatePre := pre, gate := gateAfter pre 4 cmd.dcdcEn 0 })) s

/-- A ring that has reached OVR_LIMIT consecutive incomplete cycles is blocked, once for each run of them (R22, R26). -/
def ovrLimit (s : State) (r : Nat) : State :=
  if s.rd SYS_PIPE_CFG_OVR_LIMIT ≤ (s.ring r).ovr && 0 < (s.ring r).ovr && !(s.ring r).ovrSeen then
    let s := s.updRing r (fun g => { g with ovrSeen := true })
    ((s.orIn SYS_PIPE_OVR (2 ^ (r % 32)) 0 (r / 32)).raise SYS_PIPE_STATUS_OVR_BLOCK).raise SYS_PIPE_STATUS_OVR_NEW
  else s

/-- The launch set-up point of one ring (R22, R108): a ring whose frame is not assembled counts an incomplete cycle,
may reach its limit, and is launched with HOLD. -/
def setupRing (s : State) (incomplete : Bool) (r : Nat) : State :=
  if incomplete then
    let s := s.updRing r (fun g => { g with ovr := g.ovr + 1 })
    let s := ovrLimit s r
    (holdRing s r s.pipe.assembled).raise SYS_PIPE_STATUS_OVERRUN
  else
    resampleRing (s.updRing r (fun g => { g with ovr := 0, ovrSeen := false })) r

/-- A first launch of a ring (R25): BLOCK, IREF 0 and DCDC_EN 0 in every slot. -/
def blockRing (s : State) (r : Nat) : State :=
  (ringCells s r).foldl (fun s c =>
    s.updEntry c (fun e => { e with cmd := {}, gate := { gateAfter e.gate 0 false e.gate.why with rfsh := e.gate.rfsh } })) s

/-- The PIPE_OVR bits cleared by a mask of one word (R26): each cleared ring's count starts again. -/
def clearOvr (s : State) (i mask : Nat) : State :=
  let old := s.rd SYS_PIPE_OVR 0 i
  let s := s.wr SYS_PIPE_OVR (old &&& (0xFFFFFFFF ^^^ mask)) 0 i
  let s := forN 32 (fun j s => if bit old j && bit mask j then s.updRing (32 * i + j) (fun g => { g with ovr := 0, ovrSeen := false }) else s) s
  let any := (upTo 4).any (fun i => s.rd SYS_PIPE_OVR 0 i != 0)
  s.wr SYS_PIPE_STATUS_OVR_BLOCK (b2n any)

end Sys2Proof.Machine
end

