-- ==== Sys2Proof/Machine/Ring.lean ====
section
/-!
DEFINITION. The device's side of a ring: receiving a frame (R55, R59, R60), missed cycles (R56), the management
channel (R63) and the processing at RET_DEADLINE (R17, R69).
-/
namespace Sys2Proof.Machine

/-- A response enters the response FIFO and the next request takes the next tag (R63); DATA is read data, none for a write
(R62, log 22). A completed read of CDR 0x01 sets the cell's charge-pump bit (R102); a position that does not exist has no cell (R15). -/
def mgmtComplete (s : State) (r : Nat) (stat : Nat) (noack : Bool) (data : Nat) : State :=
  let g := s.ring r
  match g.reqs with
  | [] => s
  | q :: t =>
    let s := s.updRing r (fun g => { g with reqs := t, rsps := g.rsps ++ [⟨stat, noack, g.tries, if q.write then 0 else data⟩],
                                            tag := (g.tag + 1) % 256, tries := 0, carried := false })
    let s := s.raiseIf noack RING_STATUS_MGMT_FAIL r
    if !noack && !q.write && q.addr = 0x01 && stat = OK && q.pos < ringSlots s then
      s.updEntry (r * 32 + q.pos) (fun e => { e with gate := { e.gate with cp := bit data 1 } })
    else s

/-- The request at the head has been carried MGMT_RETRY + 1 times without an accepted M_ACK (R63). -/
def mgmtExhausted (s : State) (r : Nat) : Bool :=
  let g := s.ring r
  g.carried && decide (s.rd RING_CTRL_MGMT_RETRY r + 1 ≤ g.tries)

/-- A request that has run out of frames completes with NOACK and E_STATE (R63). -/
def mgmtNoack (s : State) (r : Nat) : State :=
  if mgmtExhausted s r then mgmtComplete s r E_STATE true 0 else s

/-- BREAK_AFTER and BREAK_VALID follow an accepted frame (R60). -/
def updateBreak (s : State) (r : Nat) (f : Frame) : State :=
  match (upTo f.stats.length).find? (fun p => (f.stat p).losU) with
  | some 0 => (s.wr RING_STATUS_BREAK_AFTER 0x1F r).raise RING_STATUS_BREAK_VALID r
  | some p => (s.wr RING_STATUS_BREAK_AFTER (p - 1) r).raise RING_STATUS_BREAK_VALID r
  | none => s.clear RING_STATUS_BREAK_VALID r

/-- The positions of a ring processed with a status (R69): each once in a cycle. -/
def supplyCell (s : State) (r p : Nat) (t : Stat) (relayed : Bool) : State :=
  if processed s r p && !(bit (s.ring r).done p) then
    let s := s.updRing r (fun g => { g with done := g.done ||| 2 ^ p })
    let s := s.orIn RING_PRESENT_MASK (2 ^ p) r
    processCell s (r * 32 + p) (some t) relayed (s.rd SYS_CYCLE_COUNT % 65536)
  else s

/-- The DIR of the frames this unit launches (R36). -/
def ownDir (s : State) : Bool := s.rd TWIN_STATUS_STATE != 0 && s.on TWIN_CTRL_UNIT

/-- A status kept for the agreed processing of a twin (R328): the received frame's goes before a relayed one (R59). -/
def heldSupply (s : State) (r p : Nat) (t : Stat) (relayed : Bool) : State :=
  if processed s r p then
    (s.updRing r (fun g => if relayed then { g with relayed := g.relayed.set p t } else { g with own := g.own.set p t })).orIn
      RING_PRESENT_MASK (2 ^ p) r
  else s

/-- A frame RING_n accepts (R55, R56, R59, R60, R62). -/
def ringAccept (s : State) (r at_ : Nat) (f : Frame) : State :=
  let g := s.ring r
  let s := s.updRing r (fun g => { g with accepted := true, misses := 0 })
  let s := s.wr RING_STATUS_RESUMED (b2n (decide (0 < g.misses))) r
  let s := s.clear RING_STATUS_STALE r
  let s := s.count RING_MISS_CNT_GAP r 0 g.misses
  let s := s.wr RING_STATUS_WRAPPED (b2n f.hdr.wrapped) r
  let s := s.wr RING_RET_TIME_LAST at_ r
  let s := s.wr RING_RET_TIME_MAX (max (s.rd RING_RET_TIME_MAX r) at_) r
  let s := updateBreak s r f
  let s := if f.hdr.mAck && f.hdr.mReq && g.carried && f.hdr.mTag == g.tag && f.hdr.dir == ownDir s then
      mgmtComplete s r f.hdr.mStat false f.hdr.mData else s
  let s := { s with pipe := { s.pipe with lastArrival := max s.pipe.lastArrival at_ } }
  if twinAgrees s then
    (upTo 32).foldl (fun s p => if (f.stat p).present then heldSupply s r p (f.stat p) false else s) s
  else
    (upTo 32).foldl (fun s p => if (f.stat p).present then supplyCell s r p (f.stat p) false else s) s

/-- VERSION and FTYPE are as launched (R55). -/
def hdrTypeOk (h : Hdr) : Bool := h.version == 1 && h.ftype == 1

/-- A frame arrives at RING_n on an edge after the tick (R17, R34, R42, R55): after RET_DEADLINE it is discarded, and so is, without a
flag or a count, a further one after the ring's frame of the cycle was accepted (DESIGN CHOICE, log 102). -/
def ringReceive (s : State) (r at_ : Nat) (f : Arrival) : State :=
  if !s.pipe.running || s.pipe.retPassed || !(s.on RING_CTRL_EN r) || (s.ring r).accepted
      || decide (s.rd SYS_PIPE_CFG_RET_DEADLINE < at_) then s
  else
    let s := s.toEdge (s.pipe.tickEdge + at_)
    match f with
    | .nothing => s
    | .broken => (s.raise RING_STATUS_PARTIAL r).count RING_MISS_CNT_PARTIAL r
    | .whole b =>
      if !(frameCrcOk s.mode16 b) then (s.raise RING_STATUS_CRC_ERR r).count RING_CRC_CNT_COUNT r
      else
        let f := Frame.ofBytes s.mode16 b
        if !(hdrTypeOk f.hdr) then s
        else if f.hdr.ringId != r || f.hdr.dev != s.rd TWIN_CASC_CFG_POS
            || f.hdr.cycleNo != s.rd SYS_CYCLE_COUNT % 65536 then s.raise RING_STATUS_SEQ_ERR r
        else ringAccept s r at_ f

/-- STALE after a second consecutive missed cycle (R56). -/
def ringStale (s : State) (r : Nat) : State :=
  s.raiseIf (decide (2 ≤ (s.ring r).misses)) RING_STATUS_STALE r

/-- LOST after LOST_LIMIT consecutive missed cycles (R56); the charge-pump bits of the ring's cells return to 0
(R102). -/
def ringLost (s : State) (r : Nat) : State :=
  if s.rd RING_CFG_LOST_LIMIT r ≤ (s.ring r).misses && 0 < (s.ring r).misses then
    forN (ringSlots s) (fun p s => s.updEntry (r * 32 + p) (fun e => { e with gate := { e.gate with cp := false } }))
      (s.raise RING_STATUS_LOST r)
  else s

/-- A ring without an accepted frame at RET_DEADLINE counts a missed cycle (R17, R56). -/
def ringMissed (s : State) (r : Nat) : State :=
  let s := s.updRing r (fun g => { g with misses := g.misses + 1 })
  let s := (s.raise SYS_PIPE_STATUS_RET_LATE)
  let s := { s with pipe := { s.pipe with anyLate := true } }
  ringLost (ringStale s r) r

/-- Positions of a ring that its own frame did not supply are processed at RET_DEADLINE: with the status the twin relayed, else as
held, and POS_ERR shows them (R17, R59). -/
def holdRest (s : State) (r : Nat) : State :=
  (upTo 32).foldl (fun s p =>
    if processed s r p && !(bit (s.ring r).done p) then
      match findKey (s.ring r).relayed p with
      | some t => supplyCell s r p t true
      | none =>
        let s := s.updRing r (fun g => { g with done := g.done ||| 2 ^ p })
        (processCell s (r * 32 + p) none false 0).raise RING_STATUS_POS_ERR r
    else s) s

/-- The enabled rings. -/
def enabledRings (s : State) : List Nat := (upTo 128).filter (fun r => s.on RING_CTRL_EN r)

/-- A push into the request FIFO (R63). -/
def mgmtPush (s : State) (r : Nat) (q : MgmtReq) : State :=
  if 16 ≤ (s.ring r).reqs.length then s.refuse .ring r 0x020 E_FULL
  else (s.updRing r (fun g => { g with reqs := g.reqs ++ [q] })).answer OK 0

/-- A read of MGMT_RSP (R62, R63): the oldest response, popped, or a word with VALID = 0. -/
def mgmtPop (s : State) (r : Nat) : State :=
  match (s.ring r).rsps with
  | [] => s.answer OK 0
  | x :: t => (s.updRing r (fun g => { g with rsps := t })).answer OK
      (x.stat % 256 + bitv 8 x.noack + 512 + 4096 * (x.tries % 16) + 65536 * (x.data % 65536))

end Sys2Proof.Machine
end

