-- ==== Sys2Proof/Machine/Trip.lean ====
section
/-!
DEFINITION. Trip inputs, the action map and its event log (R298 to R303, R114, R115), and the driver management bus
(R304, R305).
-/
namespace Sys2Proof.Machine

/-- The trip block's hidden state replaced by a function of it. -/
def State.updTrip (s : State) (f : TripSt → TripSt) : State := { s with sig := { s.sig with trip := f s.sig.trip } }

/-- The sources asserted at present (R300): bits 0 to 15 filtered inputs, 16 to 23 SVTRIP, 24 to 39 FTRIP. -/
def tripSources (s : State) : Nat :=
  s.rd TRIP_LEVEL_TRIP + s.rd TRIP_LEVEL_SV * 2 ^ 16 + s.rd TRIP_FLEVEL_FILT * 2 ^ 24

/-- How many of the 40 sources a mask holds. -/
def sourceCount (m : Nat) : Nat := ((upTo 40).filter (fun j => bit m j)).length

/-- The pairs mapped to asserted sources (R301). -/
def tripPairs (s : State) : Nat :=
  forN 40 (fun j m => if bit (tripSources s) j then m ||| s.rd TRIP_MAP_PAIRS 0 j else m) 0

/-- The arms mapped to asserted sources (R114, R301). -/
def tripArms (s : State) : Nat :=
  forN 40 (fun j m => if bit (tripSources s) j then m ||| s.rd TRIP_MAP_ARMS 0 j else m) 0

/-- The log's level in TSTATUS (R307). -/
def tripStatus (s : State) : State :=
  let n := s.sig.trip.log.length
  (s.wr TRIP_TSTATUS_EVT (b2n (decide (0 < n)))).wr TRIP_TSTATUS_EVT_LEVEL n

/-- A record of the trip log, or EVT_LOST when it is full (R303); one of an edge that has its record joins it. -/
def pushTrip (s : State) (again : Bool) (r : TripRec) : State :=
  let last := s.sig.trip.log.getLast?
  if again && last.any (fun q => q.time == r.time) then
    s.updTrip (fun t => { t with log := t.log.dropLast ++ [⟨r.time, r.src ||| (last.elim 0 (·.src))⟩] })
  else if 16 ≤ s.sig.trip.log.length then s.raise TRIP_TSTATUS_EVT_LOST
  else tripStatus (s.updTrip (fun t => { t with log := t.log ++ [r] }))

/-- The record of several arms' requests takes the place of the record one of them has on this edge (R115). -/
def regroup (s : State) (e : EvtRec) : State :=
  let own := fun (q : EvtRec) => q.src == 12 && q.time == e.time
  if s.gcs.log.any own then { s with gcs := { s.gcs with log := s.gcs.log.map (fun q => if own q then e else q) } }
  else pushEvt s e

/-- The arms whose requests have risen on one edge (R114, R115): one arm is blocked with its record, several on one edge with one
record, their partners and SIMUL. -/
def groupRequests (s : State) (ns : Nat) (again : Bool) : List Nat → State
  | [] => s
  | [k] => pushEvt (setArmLatch s k) ⟨ns, 12, false, 2 ^ k, 0, 3⟩
  | rose =>
    let mask := sumOf (fun k => 2 ^ k) rose
    forN 8 (fun k s => s.raiseIf (bit mask k) ARM_GSTATUS_SIMUL k)
      (setArmLatches ((if again then regroup else pushEvt) s ⟨ns, 12, true, mask, 0, 4⟩) (withPartners mask))

/-- Arm block requests follow their sources (R114, R115): a request that rises alone sets its arm's latch, several that
rise together set the latches of the arms and their partners; one record of source code 12. `before` holds the requests that have
risen on this edge. -/
def armRequests (s : State) (ns before : Nat) : State :=
  let old := s.rd SYS_GCS_BLOCK_ARM_REQ
  let new := tripArms s
  let rose := forN 8 (fun k m => if bit new k && !(bit old k) then m ||| 2 ^ k else m) 0
  let s := (s.wr SYS_GCS_BLOCK_ARM_REQ new).updTrip (fun t => { t with riseArms := before ||| rose })
  if rose = 0 then s else groupRequests s ns (before != 0) ((upTo 8).filter (fun k => bit (before ||| rose) k))

/-- The sources have changed on an edge (R301, R303): one record of those that rose, TRIP in every mapped pair, the
arm requests. -/
def tripUpdate (s : State) (edge : Nat) : State :=
  let ns := (s.timeAfter (edge - s.fab) / 2 ^ 32) % 2 ^ 64
  let new := tripSources s
  let rose := forN 40 (fun j m => if bit new j && !(bit s.sig.trip.prev j) then m + 2 ^ j else m) 0
  let same := s.sig.trip.riseEdge == edge
  let before := if same then s.sig.trip.riseSrc else 0
  let arms := if same then s.sig.trip.riseArms else 0
  let s := s.updTrip (fun t => { t with prev := new, riseEdge := edge, riseSrc := before ||| rose })
  let s := if rose = 0 then s else pushTrip (s.raise TRIP_TSTATUS_TRIPPED) (before != 0) ⟨ns, rose⟩
  let pairs := tripPairs s
  let s := forN 12 (fun n s => if bit pairs n && !(s.on PWM_STATUS_TRIP n) then pwmTrip s n edge else s) s
  armRequests s ns arms

/-- The edge until which blanking treats input i as deasserted, and the switching edge from which it has done so without
a break (R299): windows that meet make one span. None for an input of class 1. Of each edge the last one's window is
kept (log 124). -/
def blanking (s : State) (i : Nat) : Option (Nat × Nat) :=
  if s.on TRIP_TIN_CLASS 0 i then none
  else
    let x := s.pwm (s.rd TRIP_TIN_BLK_PAIR 0 i)
    let b := s.on TRIP_TIN_BLK_OUT 0 i
    let onE := if b then x.bOn else x.aOn
    let offE := if b then x.bOff else x.aOff
    let winOn := if 0 < onE then onE + s.rd TRIP_TBLK_BLK_ON 0 i else 0
    let winOff := if 0 < offE then offE + s.rd TRIP_TBLK_BLK_OFF 0 i else 0
    let join (earlier endOf own : Nat) : Nat := if 0 < endOf && decide (own ≤ endOf) then min earlier own else own
    if winOn < winOff then some (winOff, join onE winOn offE) else if 0 < winOn then some (winOn, join offE winOff onE) else none

/-- Input i is sampled asserted at a pin level (R298). -/
def tripSense (s : State) (i : Nat) (level : Bool) : Bool := xor level (s.on TRIP_TIN_POL 0 i)

/-- Input i, whose pin has shown one level since an edge, is asserted after its filter (R298, R299): its count begins no
earlier than the end of a blanking window or a write of FILT or POL. -/
def tripAsserts (s : State) (i : Nat) (level : Bool) (since : Nat) : Bool :=
  let start := max since (s.sig.trip.marks.get 0 i)
  let start := match blanking s i with | some (e, _) => max start e | none => start
  tripSense s i level && decide (start + s.rd TRIP_TIN_FILT 0 i ≤ s.fab)

/-- Input i is deasserted after its filter (R298): the pin has shown the deasserted level for FILT edges, or a blanking
window has stood as long (R299). -/
def tripDeasserts (s : State) (i : Nat) (level : Bool) (since : Nat) : Bool :=
  let start := max since (s.sig.trip.marks.get 0 i)
  let n := s.rd TRIP_TIN_FILT 0 i
  (!(tripSense s i level) && decide (start + n ≤ s.fab))
    || (match blanking s i with | some (e, o) => decide (s.fab < e) && decide (max o (s.sig.trip.marks.get 0 i) + n ≤ s.fab) | none => false)

/-- The pins of a mask, at the levels given, have held them for a number of edges (R298): those whose filter asserts do. -/
def tripAssert (s : State) (mask levels steady : Nat) : State :=
  let on := forN 16 (fun i m =>
    if bit mask i && tripAsserts s i (bit levels i) (s.fab - steady) then m ||| 2 ^ i else m) (s.rd TRIP_LEVEL_TRIP)
  tripUpdate (s.wr TRIP_LEVEL_TRIP on) s.fab

/-- The same for inputs whose filter deasserts. -/
def tripDeassert (s : State) (mask levels steady : Nat) : State :=
  let on := forN 16 (fun i m =>
    if bit mask i && bit m i && tripDeasserts s i (bit levels i) (s.fab - steady) then m - 2 ^ i else m)
      (s.rd TRIP_LEVEL_TRIP)
  tripUpdate (s.wr TRIP_LEVEL_TRIP on) s.fab

/-- A read of TEVT0 latches the head record (R303): its low time word. -/
def tevtLatch (s : State) : State × Nat :=
  match s.sig.trip.log with
  | [] => (s.updTrip (fun t => { t with latched := none }), 0)
  | r :: _ => (s.updTrip (fun t => { t with latched := some r }), r.time % 2 ^ 32)

/-- TEVT1: the high time word of the latched record. -/
def tevtHi (s : State) : Nat := match s.sig.trip.latched with | some r => r.time / 2 ^ 32 | none => 0

/-- TEVT2: the physical and stream sources of the latched record. -/
def tevtSrc (s : State) : Nat := match s.sig.trip.latched with | some r => r.src % 2 ^ 24 | none => 0

/-- A read of TEVT3 returns the rest and removes the record (R303). -/
def tevtPop (s : State) : State × Nat :=
  match s.sig.trip.latched with
  | none => (s, 0)
  | some r =>
    let s := s.updTrip (fun t => { t with latched := none, log := t.log.tail })
    (tripStatus s, r.src / 2 ^ 24 % 2 ^ 16 + 2 ^ 16 * b2n (decide (1 < sourceCount r.src)) + 2 ^ 17)

/-! ### Driver management bus (R304, R305) -/

/-- One byte of the bus's CRC-8 (R304): polynomial 0x07, not reflected. -/
def crc8Byte (c b : Nat) : Nat :=
  forN 8 (fun _ x => if bit x 7 then (x * 2 % 256) ^^^ 0x07 else x * 2 % 256) (c ^^^ (b % 256))

/-- The CRC-8 of R304 over bytes, initial value 0xFF. -/
def crc8 (bs : List Nat) : Nat := bs.foldl crc8Byte 0xFF

/-- The five bytes a transaction carries for a 32-bit word (R304). -/
def drvBytes (w : Nat) : List Nat := let b := beBytes 4 w; b ++ [crc8 b]

/-- The command word of a request (R304). -/
def DrvReq.word (r : DrvReq) : Nat :=
  2 ^ 31 * b2n r.write + 2 ^ 24 * (r.drv % 32) + 2 ^ 16 * (r.addr % 256) + r.data % 65536

/-- The FIFO levels in DRV_STATUS (R307). -/
def drvLevels (s : State) : State :=
  (s.wr TRIP_DRV_STATUS_REQ s.sig.trip.reqs.length).wr TRIP_DRV_STATUS_RSP s.sig.trip.rsps.length

/-- A write of DRV_REQ (R305). -/
def drvPush (s : State) (w : Nat) : State :=
  drvLevels (s.updTrip (fun t => { t with reqs := t.reqs ++ [⟨bits w 0 5, bit w 5, bits w 8 8, bits w 16 16⟩] }))

/-- FAB clocks of a transaction (R304): 80 cycles of 2 × (DIV + 1). -/
def drvClocks (s : State) : Nat := 80 * 2 * (s.rd TRIP_DRV_CFG_DIV + 1)

/-- The head request's transaction starts (R304), while the bus runs and is free. -/
def drvStart (s : State) : State :=
  match s.sig.trip.reqs with
  | [] => s
  | r :: t =>
    if !(s.on TRIP_DRV_CFG_EN) || s.sig.trip.busy.isSome then s
    else drvLevels (s.updTrip (fun x => { x with reqs := t, busy := some r, busEnd := s.fab + drvClocks s }))

/-- The transaction ends with the five response bytes (R304): NOACK on a bad CRC or STAT 0xFF; an OK read of CAPS from
a pair's A driver sets its CP (R293); a response that finds the FIFO full is dropped (R305). -/
def drvEnd (s : State) (resp : List Nat) : State :=
  match s.sig.trip.busy with
  | none => s
  | some r =>
    let s := s.toEdge s.sig.trip.busEnd
    let s := s.updTrip (fun x => { x with busy := none })
    let body := [byteAt resp 0, byteAt resp 1, byteAt resp 2, byteAt resp 3]
    let stat := byteAt resp 0
    let data := byteAt resp 2 * 256 + byteAt resp 3
    let noack := crc8 body != byteAt resp 4 || stat == 0xFF
    let cp := !noack && stat == 0 && !r.write && r.addr == 1 && r.drv % 2 == 0 && decide (r.drv < 24)
    let s := if cp then s.wr PWM_STATUS_CP (b2n (bit data 1)) (r.drv / 2) else s
    if 8 ≤ s.sig.trip.rsps.length then s.raise TRIP_DRV_STATUS_RSP_LOST
    else drvLevels (s.updTrip (fun x => { x with rsps := x.rsps ++ [⟨stat, noack, data⟩] }))

/-- A read of DRV_RSP pops the oldest response (R305). -/
def drvPop (s : State) : State × Nat :=
  match s.sig.trip.rsps with
  | [] => (s, 0)
  | x :: t =>
    (drvLevels (s.updTrip (fun y => { y with rsps := t })),
     x.stat % 256 + 2 ^ 8 * b2n x.noack + 2 ^ 9 + 2 ^ 16 * (x.data % 65536))

/-- What a write to TRIP does beyond storing its fields: GLOAD, a restarted filter count (R298), a mapping that acts
while its source is asserted (R301), a driver request. -/
def tripEffect (s : State) (off data : Nat) : State :=
  if off = 0x004 then pwmGload s (data % 2 ^ 12)
  else if 0x040 ≤ off && off < 0x080 then
    s.updTrip (fun t => { t with marks := t.marks.set ((off - 0x040) / 4) s.fab })
  else if 0x100 ≤ off && off < 0x1A0 then tripUpdate s (s.fab + 1)
  else if off = 0x304 then drvPush s data
  else s

/-- Codes of a write to TRIP beyond those of its fields (R305). -/
def tripCodes (s : State) (off : Nat) : List Nat :=
  codeIf (off = 0x304 && decide (8 ≤ s.sig.trip.reqs.length)) E_FULL

end Sys2Proof.Machine
end

