-- ==== Sys2Proof/Machine/Filter.lean ====
section
/-!
DEFINITION. The FIR channels and their engine (R272 to R280).
-/
namespace Sys2Proof.Machine

/-- Hidden state of FILT_k. -/
def State.filt (s : State) (k : Nat) : FiltSt := s.sig.filts.get {} k
/-- Hidden state of FILT_k replaced by a function of it. -/
def State.updFilt (s : State) (k : Nat) (f : FiltSt → FiltSt) : State :=
  { s with sig := { s.sig with filts := s.sig.filts.set k (f (s.filt k)) } }
/-- The filter engine's hidden state replaced by a function of it. -/
def State.updEng (s : State) (f : FiltEng → FiltEng) : State := { s with sig := { s.sig with eng := f s.sig.eng } }

/-- Coefficient i of bank b of channel k, a signed Q1.23 number (R275). -/
def coefAt (s : State) (k b i : Nat) : Int := sx 24 (s.sig.eng.coef.get 0 (k * 1024 + b * 512 + i))

/-- Base of the coefficient banks (R275). -/
def COEF_BASE : Nat := 0x20180000

/-- An address lies in a coefficient bank. -/
def inCoef (a : Nat) : Bool := decide (COEF_BASE ≤ a) && decide (a < COEF_BASE + 0x10000)

/-- A coefficient's bank is in use (R275): active while EN = 1, or either during a cross-fade. -/
def coefBusy (s : State) (k b : Nat) : Bool :=
  s.on FILT_CTRL_EN k && (s.rd FILT_STATUS_BANK k == b || s.on FILT_STATUS_XFADING k)

/-- A sample enters the engine's queue, ordered by arrival edge, then channel (R274). -/
def insertJob (k : Nat) (x : Sample) : List (Nat × Sample) → List (Nat × Sample)
  | [] => [(k, x)]
  | (j, y) :: t => if x.edge < y.edge || (x.edge = y.edge && k < j) then (k, x) :: (j, y) :: t else (j, y) :: insertJob k x t

/-- The job that starts next (R274): the head of the samples that have arrived by the present edge, with its start edge. -/
def nextJob (s : State) : Option (Nat × Nat) :=
  let waiting := forN 16 (fun k q => ((s.filt k).offers.filter (fun x => decide (x.edge ≤ s.fab))).foldl (fun q x => insertJob k x q) q)
    s.sig.eng.queue
  let free := match s.sig.eng.job with | some j => j.edge | none => s.sig.eng.freeEdge
  match waiting with
  | [] => none
  | (k, x) :: _ => some (k, max x.edge free)

/-- A pending swap of a channel takes effect on the present edge (R275, R276): the next job starts there and is its sample
boundary. -/
def swapsNow (s : State) (k : Nat) : Bool :=
  let f := s.filt k
  nextJob s == some (k, s.fab) && f.decim == 0 && decide (f.fadeLen ≤ f.fade)
    && (match f.swapEdge with | some e => decide (e < s.fab) | none => false)

/-- A software write of a coefficient word, under a mask of its bits (R275). -/
def coefWrite (s : State) (a data mask : Nat) : State :=
  let k := (a - COEF_BASE) / 0x1000
  let off := (a - COEF_BASE) % 0x1000
  let b := off / 0x800
  let key := k * 1024 + b * 512 + off % 0x800 / 4
  if coefBusy s k b || (s.on FILT_CTRL_EN k && swapsNow s k) then
    (s.recordErr FILT_ERR_CODE k E_BUSY (0x1000 + off)).answer E_BUSY 0
  else
    let old := s.sig.eng.coef.get 0 key
    let v := ((old &&& (0xFFFFFFFF ^^^ mask)) ||| (data &&& mask)) % 2 ^ 24
    (s.updEng (fun e => { e with coef := e.coef.set key v })).answer OK 0

/-- A sample arrives at channel k (R274): queued, or discarded with OVF as a fifth. -/
def filtArrive (s : State) (k : Nat) (x : Sample) : State :=
  if !(s.on FILT_CTRL_EN k) then s
  else
    let s := s.updFilt k (fun f => { f with lastEdge := x.edge, timeout := s.rd FILT_OUTCFG_TIMEOUT k })
    if 4 ≤ (s.sig.eng.queue.filter (fun q => q.1 == k)).length then s.raise FILT_STATUS_OVF k
    else s.updEng (fun e => { e with queue := insertJob k x e.queue })

/-- The oldest sample a channel's source has delivered arrives (R274). -/
def filtSample (s : State) (k : Nat) : State :=
  match (s.filt k).offers with
  | [] => s
  | x :: t => filtArrive ((s.toEdge x.edge).updFilt k (fun f => { f with offers := t })) k x

/-- A source delivers a sample to every running channel that selects it (R272): `shift` where ISHIFT applies. -/
def filtOffer (s : State) (src a b : Nat) (v : Int) (shift gap : Bool) (later : Nat) : State :=
  forN 16 (fun k s =>
    if s.on FILT_CTRL_EN k && s.rd FILT_CFG_SRC k == src && s.rd FILT_CFG_SRC_A k == a
        && (src == 2 || s.rd FILT_CFG_SRC_B k == b) then
      let z := if shift then crnd v (s.rd FILT_CFG_ISHIFT k) else v
      let s := s.raiseIf (outS 24 z) FILT_STATUS_SAT k
      let x : Sample := ⟨s.fab + later, s.timeAfter later / 2 ^ 32 % 2 ^ 64, satS 24 z, gap⟩
      s.updFilt k (fun f => { f with offers := f.offers ++ [x] })
    else s) s

/-- The exact sum of R273 over a delay line, from coefficient i on. -/
def firSum (s : State) (k b : Nat) : Nat → List Int → Int
  | _, [] => 0
  | i, x :: t => coefAt s k b i * x + firSum s k b (i + 1) t

/-- An output of one bank (R273), and whether it saturated. -/
def firOut (s : State) (k b : Nat) (line : List Int) : Int × Bool :=
  let sum := firSum s k b 0 line
  let acc := satS 56 sum
  let r := crnd acc (s.rd FILT_OUTCFG_OSHIFT k)
  (satS 32 r, outS 56 sum || outS 32 r)

/-- FAB clocks of an output job (R274). -/
def jobLen (taps : Nat) (fading : Bool) : Nat := if fading then 2 * ceilDiv taps 16 + 8 else ceilDiv taps 16 + 6

/-- A pending swap takes effect at a sample boundary (R276): the bank changes and a fade of 2^LOG2 outputs begins. -/
def filtBoundary (s : State) (k edge : Nat) : State :=
  let f := s.filt k
  let fading := decide (f.fade < f.fadeLen)
  let due := match f.swapEdge with | some e => decide (e < edge) | none => false
  if fading then s.updFilt k (fun f => { f with fade := f.fade + 1 })
  else if due then
    let n := 2 ^ s.rd FILT_XFADE_LOG2 k
    let s := (((s.raise FILT_STATUS_SWAPPED k).clear FILT_STATUS_PENDING k).wr FILT_STATUS_BANK
      (1 - s.rd FILT_STATUS_BANK k) k).wr FILT_STATUS_XFADING (b2n (decide (1 < n))) k
    s.updFilt k (fun f => { f with swapEdge := none, fade := 1, fadeLen := n })
  else s.updFilt k (fun f => { f with fade := 0, fadeLen := 0 })

/-- The output of the boundary just passed: blended during a fade (R276). -/
def filtOutput (s : State) (k : Nat) (line : List Int) : Int × Bool :=
  let f := s.filt k
  let b := s.rd FILT_STATUS_BANK k
  let (y, sat) := firOut s k b line
  if f.fadeLen ≤ 1 then (y, sat)
  else
    let (old, sat') := firOut s k (1 - b) line
    let lg := Nat.log2 f.fadeLen
    let z := crnd (old * ((f.fadeLen : Int) - f.fade) + y * (f.fade : Int)) lg
    (satS 32 z, sat || sat' || outS 32 z)

/-- The head job starts (R274): the sample enters the delay line, restarting the channel where R277 says so. -/
def filtJobStart (s : State) : State :=
  match s.sig.eng.queue with
  | [] => s
  | (k, x) :: t =>
    if s.sig.eng.job.isSome then s
    else
      let start := max x.edge s.sig.eng.freeEdge
      let s := (s.toEdge start).updEng (fun e => { e with queue := t })
      let f := s.filt k
      let taps := s.rd FILT_CFG_TAPS k + 1
      let preset := match f.preset with | some e => decide (e < x.edge) | none => false
      let held := match f.restart with | some e => decide (e ≤ x.edge) | none => false
      let restart := held || x.gap || preset
      let all := restart && (s.on FILT_CFG_SETTLE k || preset)
      let line := if all then List.replicate taps x.x else (x.x :: f.line).take taps
      let since := if restart then 1 else min taps (f.since + 1)
      let keepOld := if restart then !all else f.keepOld
      let firstOut := if restart then all else f.firstOut
      let out := f.decim == 0
      let s := s.updFilt k (fun f => { f with
        restart := if held then none else f.restart, preset := if preset then none else f.preset, line := line, since := since, keepOld := keepOld
        firstOut := firstOut && !out, decim := if out then s.rd FILT_CFG_DECIM k else f.decim - 1 })
      if !out then s.updEng (fun e => { e with job := some ⟨k, start + 1, none, false, 0, 0, false⟩ })
      else
        let s := filtBoundary s k start
        let (y, sat) := filtOutput s k line
        let f := s.filt k
        let resumed := firstOut || (keepOld && decide (since < taps))
        let q := if resumed then 3 else 1
        let last := start + jobLen taps (decide (1 < f.fadeLen))
        s.updEng (fun e => { e with job := some ⟨k, last, some y, sat, q, x.time, decide (f.fadeLen ≤ f.fade)⟩ })

/-- Threshold levels and the virtual trip line of an output (R278). -/
def filtThreshold (s : State) (k : Nat) (y : Int) : State :=
  let hi := s.rdS FILT_TH_HI_TH k
  let lo := s.rdS FILT_TH_LO_TH k
  let hyst : Int := s.rd FILT_HYST_HYST k
  let wasHi := s.on FILT_STATUS_HI_LEVEL k
  let wasLo := s.on FILT_STATUS_LO_LEVEL k
  let isHi := decide (hi < y) || (wasHi && !(decide (y < hi - hyst)))
  let isLo := decide (y < lo) || (wasLo && !(decide (lo + hyst < y)))
  let s := (s.wr FILT_STATUS_HI_LEVEL (b2n isHi) k).wr FILT_STATUS_LO_LEVEL (b2n isLo) k
  let s := (s.raiseIf (isHi && !wasHi) FILT_STATUS_HI k).raiseIf (isLo && !wasLo) FILT_STATUS_LO k
  let line := s.on FILT_HYST_TRIP_EN k && (isHi || isLo)
  let old := s.rd TRIP_FLEVEL_FILT
  let new := if line then old ||| 2 ^ k else if bit old k then old - 2 ^ k else old
  tripUpdate (s.wr TRIP_FLEVEL_FILT new) s.fab

/-- The job in progress ends (R274): its output, quality and threshold state change (R277 to R279), and channels fed by
this one receive a sample. -/
def filtJobEnd (s : State) : State :=
  match s.sig.eng.job with
  | none => s
  | some j =>
    let s := (s.toEdge j.edge).updEng (fun e => { e with job := none, freeEdge := j.edge })
    match j.out with
    | none => s
    | some y =>
      let k := j.chan
      let s := ocKeep (ocSource s 2 k) (64 + k) (filtProbe s k)
      let s := ((((s.wr FILT_OUT_VALUE (uz 32 y) k).wr FILT_OUTQ_QUAL j.qual k).count FILT_OUTQ_COUNT k).wr
        FILT_OUT_TIME_NS j.time k).raise FILT_STATUS_OUT k
      let s := (s.clear FILT_STATUS_HELD k).raiseIf j.sat FILT_STATUS_SAT k
      let s := if j.fadeEnd then s.clear FILT_STATUS_XFADING k else s
      let s := if s.on FILT_CFG_CUP_EN k then
          engineStore s 22 FILT_OUT_BASE_ADDR k (s.rd FILT_OUT_BASE_ADDR k * 8)
            (leBytes 4 (uz 32 y) ++ leBytes 4 (j.qual + 2 ^ 16 * s.rd FILT_OUTQ_COUNT k))
        else s
      let s := filtThreshold s k y
      filtOffer s 2 k 0 y true false 0

/-- No sample for TIMEOUT × 256 FAB clocks (R277): the output is HELD, and the next sample restarts the channel. -/
def filtTimeout (s : State) (k : Nat) : State :=
  let f := s.filt k
  let due := f.lastEdge + f.timeout * 256
  if !(s.on FILT_CTRL_EN k) || f.timeout = 0 || s.rd FILT_OUTQ_QUAL k = 0 || s.rd FILT_OUTQ_QUAL k = 2
      || f.offers.any (fun x => decide (x.edge < due)) then s
  else
    let s := s.toEdge due
    let s := ocKeep s (64 + k) (filtProbe s k)
    ((s.wr FILT_OUTQ_QUAL 2 k).raise FILT_STATUS_HELD k).updFilt k (fun f => { f with restart := some s.fab })

/-- Codes of a write to FILT_k beyond those of its fields (R272, R276). -/
def filtCodes (s : State) (k off data : Nat) (v : Fld → Nat) : List Nat :=
  match off with
  | 0x000 => codeIf (bit data 1 && s.on FILT_STATUS_PENDING k) E_XFADE
  | 0x004 => codeIf (v FILT_CFG_SRC = 2 && decide (k ≤ v FILT_CFG_SRC_A)) E_VALUE
  | 0x034 => codeIf (s.rd FILT_CFG_SRC k != 3 || !(s.on FILT_CTRL_EN k)) E_STATE
  | _ => []

/-- EN written (R276, R277): enabling clears the delay line and restarts; disabling completes a fade, drops a pending
swap and the waiting samples. -/
def filtEnable (s : State) (k : Nat) : State :=
  let en := s.on FILT_CTRL_EN k
  let f := s.filt k
  if en == f.on then s
  else if en then s.updFilt k (fun f => { f with
      on := true, line := [], restart := some 0, decim := 0, since := 0, keepOld := false, firstOut := false, offers := [] })
  else
    let s := ((s.clear FILT_STATUS_XFADING k).clear FILT_STATUS_PENDING k).updFilt k (fun f => { f with
      on := false, fade := 0, fadeLen := 0, swapEdge := none, offers := [], preset := none })
    s.updEng (fun e => { e with queue := e.queue.filter (fun q => q.1 != k) })

/-- CTRL.SWAP accepted (R276). -/
def filtSwap (s : State) (k : Nat) : State :=
  (s.raise FILT_STATUS_PENDING k).updFilt k (fun f => { f with swapEdge := some s.fab })

/-- CTRL.PRESET (R277). -/
def filtPreset (s : State) (k : Nat) : State := s.updFilt k (fun f => { f with preset := some s.fab })

/-- What a write to FILT_k does beyond storing its fields. -/
def filtEffect (s : State) (k off data : Nat) : State :=
  match off with
  | 0x000 =>
    let s := filtEnable s k
    let s := if bit data 1 then filtSwap s k else s
    if bit data 2 then filtPreset s k else s
  | 0x034 => filtArrive s k ⟨s.fab, s.ns, sx 24 data, false⟩
  | _ => s

end Sys2Proof.Machine
end

