-- ==== Sys2Proof/Machine/Queue.lean ====
section
/-!
DEFINITION. The spill queues (R248 to R256): pushes, the tail's moves to the head or the DRAM ring, packets, aborts,
flushes, pops and the read-back of spilled granules.
-/
namespace Sys2Proof.Machine

/-- The tag byte of a word (R249). -/
def QWord.tag (w : QWord) : Nat := w.valid % 16 + 16 * b2n w.fin + 32 * b2n w.start

/-- The 64 bytes of a spilled granule (R249): seven words, their tags, the sequence. -/
def granBytes (seq : Nat) (ws : List QWord) : List Nat :=
  let ws := ws ++ List.replicate (7 - ws.length) ⟨0, 0, false, false⟩
  (ws.map (fun w => leBytes 8 w.val)).flatten ++ ws.map QWord.tag ++ [seq % 256]

/-- DRAM address of a ring index. -/
def granAddr (s : State) (k i : Nat) : Nat := s.rd QUEUE_SPILL_BASE_ADDR k + i % ringSize s k * 64

/-- The oldest seven words of the tail, or fewer for a flush, are written to the ring (R248, R252). -/
def spillGranule (s : State) (k n : Nat) : State :=
  let q := s.queue k
  let ws := q.tail.take n
  let i := q.ringAt + q.ring.length
  let a := granAddr s k i
  let (s, _) := storeBytes s 19 a (granBytes q.seq ws)
  s.setQueue k { q with tail := q.tail.drop n, ring := q.ring ++ [⟨q.seq % 256, ws⟩], seq := q.seq + 1 }

/-- Words dropped up to the next START (R255). -/
def dropToStart : List QWord → List QWord
  | [] => []
  | w :: t => if w.start then w :: t else dropToStart t

/-- Packets whose END lies in a list of words. -/
def endsIn (ws : List QWord) : Nat := (ws.filter (·.fin)).length

/-- Packets discarded after so many that stay (R255): they no longer become poppable. -/
def QueueSt.losePackets (q : QueueSt) (keep lost : Nat) : QueueSt :=
  { q with
    visible := min q.visible keep + (q.visible - (keep + lost))
    soon := q.soon.take (keep - q.visible) ++ q.soon.drop (keep + lost - q.visible) }

/-- Words enter the head (R248); after a discarded granule those before the next START are dropped (R255). -/
def QueueSt.intoHead (q : QueueSt) (ws : List QWord) : QueueSt :=
  let kept := if q.skip then dropToStart ws else ws
  let lost := endsIn (ws.take (ws.length - kept.length))
  { q.losePackets (endsIn q.head) lost with head := q.head ++ kept, skip := q.skip && kept.isEmpty }

/-- Committed data moves from the tail to the head while the ring is empty and the head has room; otherwise the tail
writes whole granules to the ring (R248). `n` bounds the moves. -/
def queueSettle : Nat → State → Nat → State
  | 0, s, _ => s
  | n + 1, s, k =>
    let q := s.queue k
    let ended := q.tail.length - q.openLen
    if q.ring.isEmpty && decide (0 < ended) && decide (q.head.length < bufWords) then
      let m := min ended (bufWords - q.head.length)
      queueSettle n (s.setQueue k { q.intoHead (q.tail.take m) with tail := q.tail.drop m }) k
    else if 7 ≤ q.tail.length && decide (q.ring.length < ringSize s k)
        && (decide (bufWords ≤ q.tail.length) || (decide (7 ≤ ended) && !(q.ring.isEmpty && decide (q.head.length < bufWords)))) then
      queueSettle n (spillGranule s k 7) k
    else s

/-- A flush due at a packet boundary (R252): the tail's committed words are padded and written to the ring. What finds the ring
full waits for room. -/
def queueFlush (s : State) (k : Nat) : State :=
  if !(s.queue k).flushReq || 0 < (s.queue k).openLen then s
  else
    let s := forN (((s.queue k).tail.length + 6) / 7) (fun _ s =>
      let q := s.queue k
      if q.tail.isEmpty || ringSize s k ≤ q.ring.length then s else spillGranule s k (min 7 q.tail.length)) s
    let q := s.queue k
    if q.tail.isEmpty then s.setQueue k { q with flushReq := false, since := none } else s

/-- The edge since which the tail holds committed words while the ring holds data (R252). -/
def queueSince (s : State) (k : Nat) : State :=
  let q := s.queue k
  let holds := !q.ring.isEmpty && decide (q.openLen < q.tail.length)
  s.setQueue k { q with since := if holds then (match q.since with | some e => some e | none => some s.fab) else none }

/-- The queue after any change: moves, a flush that has become possible, status (R248, R252, R256). -/
def queueUpdate (s : State) (k : Nat) : State :=
  queueStatus (queueSince (queueFlush (queueSettle 64 s k) k) k) k

/-- A word with a legal tag (R249). -/
def tagLegal (valid : Nat) (fin : Bool) : Bool := decide (1 ≤ valid) && decide (valid ≤ 8) && (fin || valid == 8)

/-- The open packet as an abort on this edge finds it (R251): one whose END was committed on the same edge is open still. -/
def QueueSt.reopened (q : QueueSt) (edge : Nat) : QueueSt :=
  if q.openLen = 0 && q.ended.1 = edge then
    { q with openLen := q.ended.2, soon := q.soon.take (q.soon.length - 1), ended := (0, 0) }
  else q

/-- A packet is open for an abort on the present edge (R251). -/
def abortable (s : State) (k : Nat) : Bool := decide (0 < ((s.queue k).reopened s.fab).openLen)

/-- An abort of the open packet (R251): its words are discarded wherever they lie, and nothing of it becomes
visible. -/
def queueAbort (s : State) (k : Nat) : State :=
  let q := (s.queue k).reopened s.fab
  let n := q.openLen
  let fromTail := min n q.tail.length
  let n := n - fromTail
  let rec cut (n : Nat) : List Gran → List Gran × Nat
    | [] => ([], n)
    | g :: t =>
      let (t', n') := cut n t
      let d := min n' g.words.length
      if t'.isEmpty && d = g.words.length && 0 < d then ([], n' - d)
      else ({ g with words := g.words.take (g.words.length - d) } :: t', n' - d)
  let (ring, n) := cut n q.ring
  let s := s.setQueue k { q with tail := q.tail.take (q.tail.length - fromTail), ring := ring
                                 head := q.head.take (q.head.length - n), openLen := 0, aborted := s.fab }
  queueUpdate (s.raise QUEUE_STATUS_ABORTED k) k

/-- A word committed to the queue (R249, R250): START on the first word after an END; the packet of an END word
becomes poppable two FAB clocks later. An END on the edge of an abort goes with its packet (R251). -/
def queuePut (s : State) (k val valid : Nat) (fin : Bool) : State :=
  let q := s.queue k
  let mask := if valid = 8 then val % 2 ^ 64 else val % 2 ^ (8 * valid)
  let w : QWord := ⟨mask, valid, fin, q.openLen == 0⟩
  if fin && 0 < q.aborted && q.aborted = s.fab && q.openLen = 0 then s
  else
    let s := s.setQueue k { q with
      tail := q.tail ++ [w]
      openLen := if fin then 0 else q.openLen + 1
      ended := if fin then (s.fab, q.openLen + 1) else q.ended
      soon := if fin then q.soon ++ [s.fab + 2] else q.soon }
    queueUpdate s k

/-- Packets whose two FAB clocks have passed become poppable (R250). -/
def queueVisible (s : State) (k : Nat) : State :=
  let q := s.queue k
  let due := (q.soon.filter (· ≤ s.fab)).length
  s.setQueue k { q with soon := q.soon.filter (s.fab < ·), visible := q.visible + due }

/-- The next packet becomes poppable (R250): the clock moves to its edge. -/
def packetVisible (s : State) (k : Nat) : State :=
  match (s.queue k).soon with
  | [] => s
  | e :: _ => queueVisible (s.toEdge e) k

/-- A hardware source of R411 is the queue's producer (R248). -/
def producedBy (s : State) (k src : Nat) : Bool := s.rd QUEUE_CFG_PROD k == 32 + src

/-- A packet pushed by a hardware source (R248, R249, R253): words of eight bytes, the last with what remains; refused where the
queue names another producer, aborted and counted where a word finds no room. -/
def queuePacket (s : State) (k src : Nat) (words : List (Nat × Nat)) : State × Bool :=
  if !(s.on QUEUE_CTRL_EN k) then (s, false)
  else if !(producedBy s k src) then (s.recordErr QUEUE_ERR_CODE k E_STATE 0x038, false)
  else
    let rec go (s : State) : List (Nat × Nat) → State × Bool
      | [] => (s, true)
      | (v, n) :: t =>
        if queueFull s k then
          let s := queueAbort s k
          ((s.count QUEUE_DROP_CNT_COUNT k).raise QUEUE_STATUS_DROP k, false)
        else go (queuePut s k v n t.isEmpty) t
    go s words

/-- The abort path of a hardware source (R251): a frame that breaks off leaves nothing of its packet. -/
def packetBroken (s : State) (k src : Nat) : State :=
  if s.on QUEUE_CTRL_EN k && producedBy s k src then queueAbort s k else s

/-- Bytes as queue words: eight at a time, the last with what remains. -/
def wordsOf : Nat → List Nat → List (Nat × Nat)
  | 0, _ => []
  | n + 1, bs =>
    if bs.isEmpty then []
    else if bs.length ≤ 8 then [(leNat bs, bs.length)]
    else (leNat (bs.take 8), 8) :: wordsOf n (bs.drop 8)

/-- Bytes as the words of a packet. -/
def packetWords (bs : List Nat) : List (Nat × Nat) := wordsOf (bs.length / 8 + 1) bs

/-- A push by software (R248, R249, R253): its status, and the queue after an accepted one. -/
def queuePushCode (s : State) (k : Nat) (src : Option Nat) : Nat :=
  let q := s.queue k
  let valid := q.pushTag % 16
  let fin := bit q.pushTag 4
  firstRefusal (codeIf (src != some (s.rd QUEUE_CFG_PROD k) || !(s.on QUEUE_CTRL_EN k)) E_STATE
    ++ codeIf (queueFull s k) E_FULL ++ codeIf (!(tagLegal valid fin)) E_VALUE)

/-- An accepted software push. -/
def queuePush (s : State) (k hi : Nat) : State :=
  let q := s.queue k
  queuePut s k (q.pushLo % 2 ^ 32 + hi % 2 ^ 32 * 2 ^ 32) (q.pushTag % 16) (bit q.pushTag 4)

/-! ### The consumer (R250, R254, R255) -/

/-- The head word the consumer may see: the first word of a poppable packet (R250). -/
def poppable (s : State) (k : Nat) : Option QWord :=
  let q := s.queue k
  if q.visible + (q.soon.filter (· ≤ s.fab)).length = 0 then none else q.head.head?

/-- A read of POP_TAG (R254): the head word is latched and its tag returned. -/
def queuePopTag (s : State) (k : Nat) : State × Nat :=
  let s := queueVisible s k
  match poppable s k with
  | none => (s.setQueue k { s.queue k with latched := none }, 0)
  | some w => (s.setQueue k { s.queue k with latched := some w }, w.tag + 128)

/-- A read of POP_LO (R254). -/
def queuePopLo (s : State) (k : Nat) : Nat :=
  match (s.queue k).latched with
  | some w => w.val % 2 ^ 32
  | none => 0

/-- A read of POP_HI (R254): the high word, and the latched word leaves the queue. -/
def queuePopHi (s : State) (k : Nat) : State × Nat :=
  let q := s.queue k
  match q.latched with
  | none => (s, 0)
  | some w =>
    let s := s.setQueue k { q with latched := none, head := q.head.tail
                                   visible := if w.fin then q.visible - 1 else q.visible }
    (queueUpdate s k, w.val / 2 ^ 32)

/-- The words of a granule as the ring's memory holds them (R249). -/
def granRead (s : State) (a n : Nat) : List QWord :=
  (upTo n).map (fun i =>
    let t := s.mem (a + 56 + i) 1
    ⟨s.mem (a + 8 * i) 8, t % 16, bit t 4, bit t 5⟩)

/-- The head's words without the packet that has not ended in it (R255). -/
def dropPartial (ws : List QWord) : List QWord :=
  (ws.reverse.dropWhile (fun w => !w.fin)).reverse

/-- The head reads back the oldest granule (R248, R255): one that is uncorrectable or out of sequence is discarded with
every packet that has a word in it. -/
def spillReadback (s : State) (k : Nat) : State :=
  let q := s.queue k
  match q.ring with
  | [] => s
  | g :: t =>
    if bufWords < q.head.length + 7 then s
    else
      let a := granAddr s k q.ringAt
      let (s, bad) := decodeLine s (.dram (a / 4096 % 2)) (a / 64) false
      let q := s.queue k
      if q.ring.isEmpty then s
      else if bad || s.mem (a + 63) 1 != g.seq then
        let kept := dropPartial q.head
        let gone := q.head.drop kept.length ++ g.words
        let stillOpen := t.isEmpty && q.tail.length < q.openLen
        let s := s.setQueue k { q.losePackets (endsIn kept) (endsIn gone) with
          head := kept, ring := t, ringAt := q.ringAt + 1, skip := true
          openLen := if stillOpen then q.tail.length else q.openLen }
        queueUpdate (s.raise QUEUE_STATUS_ECC k) k
      else
        queueUpdate (s.setQueue k { q.intoHead (granRead s a g.words.length) with ring := t, ringAt := q.ringAt + 1 }) k

/-- Words popped up to the END of a packet, the buffers following each pop and spilled granules read back as they are
needed. -/
def queuePopTo (k : Nat) : Nat → State → List QWord → State × List QWord
  | 0, s, acc => (s, acc)
  | n + 1, s, acc =>
    let s := if (s.queue k).head.isEmpty then spillReadback s k else s
    let q := s.queue k
    match q.head with
    | [] => (s, acc)
    | w :: t =>
      let s := queueUpdate (s.setQueue k { q with head := t }) k
      if w.fin then (s, acc ++ [w]) else queuePopTo k n s (acc ++ [w])

/-- A packet read whole by a hardware consumer, where one is poppable: its words. A packet that loses words to an
uncorrectable granule (R255) is not given. -/
def queueTake (s : State) (k : Nat) : State × Option (List QWord) :=
  let s := queueVisible s k
  let q := s.queue k
  if q.visible = 0 then (s, none)
  else
    let s := s.setQueue k { q with latched := none }
    let (s, ws) := queuePopTo k q.all.length s []
    if ws.any (·.fin) then
      (queueUpdate (s.setQueue k { s.queue k with visible := (s.queue k).visible - 1 }) k, some ws)
    else (s, none)

/-- A flush asked for (R252). -/
def queueFlushReq (s : State) (k : Nat) : State :=
  queueUpdate (s.setQueue k { s.queue k with flushReq := true }) k

/-- The automatic flush (R252): the tail has held committed words for FLUSH_TO × 16 FAB clocks while the ring holds
data. -/
def queueAutoFlush (s : State) (k : Nat) : State :=
  let limit := s.rd QUEUE_CFG_FLUSH_TO k
  match (s.queue k).since with
  | none => s
  | some e => if limit = 0 then s else queueFlushReq (s.toEdge (e + limit * 16)) k

/-- The status bits of a queue as an interrupt source sees them (R256). -/
def queueIrq (s : State) (k : Nat) : Bool :=
  let st := s.rd QUEUE_STATUS_NONEMPTY k + 2 * s.rd QUEUE_STATUS_HIGH k + 4 * s.rd QUEUE_STATUS_DROP k
    + 8 * s.rd QUEUE_STATUS_ABORTED k + 16 * s.rd QUEUE_STATUS_ECC k + 32 * s.rd QUEUE_STATUS_FULL k
  st &&& s.rd QUEUE_INT_EN_EN k != 0

/-- The checks of a queue register write beyond its fields' own (R251, R255, R256). -/
def queueCodes (s : State) (k off data : Nat) (src : Option Nat) : List Nat :=
  match off with
  | 0x000 =>
    let en := bit data 0
    codeIf (bit data 2 && (s.on QUEUE_CTRL_EN k || en)) E_STATE
    ++ codeIf (bit data 3 && !(abortable s k)) E_STATE
    ++ codeIf (bit data 3 && src != some (s.rd QUEUE_CFG_PROD k)) E_STATE
  | 0x038 => codeIf (queuePushCode s k src != OK) (queuePushCode s k src)
  | _ => []

/-- The ring of a queue lies in DRAM and is aligned to its size (R256). -/
def spillBaseBad (a log2 : Nat) : Bool :=
  let size := 64 * 2 ^ log2
  !(decide (0x800000000 ≤ a) && decide (a + size ≤ 0x1000000000) && decide (a % size = 0))

/-- The effects of an accepted queue register write (R251, R252, R255, R256). -/
def queueEffect (s : State) (k off data : Nat) : State :=
  match off with
  | 0x000 =>
    let s := if bit data 2 then queueClear s k else s
    let s := if bit data 3 then queueAbort s k else s
    if bit data 1 then queueFlushReq s k else s
  | 0x020 => queueStatus s k
  | 0x030 => s.setQueue k { s.queue k with pushTag := data % 32 }
  | 0x034 => s.setQueue k { s.queue k with pushLo := data }
  | 0x038 => queuePush s k data
  | _ => s

end Sys2Proof.Machine
end

