-- ==== Sys2Proof/Machine/SvFrame.lean ====
section
/-!
DEFINITION. A sampled-value frame as octets (R266, R267): the Ethernet header with its 802.1Q tags, the APPID and the Simulate
bit, the savPdu and its ASDUs, the frame check sequence. IEC 61850-9-2 gives the places and the tags of the fields (log 119).
-/
namespace Sys2Proof.Machine

/-- Two octets of a frame, the first the more significant; 0 past its end. -/
def be16At (f : List Nat) (i : Nat) : Nat := beNat ((f.drop i).take 2)

/-- The four octets of the frame check sequence of IEEE 802.3 over a frame. -/
def fcsBytes (f : List Nat) : List Nat := leBytes 4 (crcBytes 0xEDB88320 0xFFFFFFFF f ^^^ 0xFFFFFFFF)

/-- A frame ends in its own check sequence. -/
def fcsOk (f : List Nat) : Bool := decide (4 ≤ f.length) && f.drop (f.length - 4) == fcsBytes (f.take (f.length - 4))

/-- The VIDs of the 802.1Q tags from an octet on. `n` bounds the tags. -/
def vlanTags : Nat → List Nat → Nat → List Nat
  | 0, _, _ => []
  | n + 1, f, i => if be16At f i = 0x8100 then be16At f (i + 2) % 4096 :: vlanTags n f (i + 4) else []

/-- The header of a sampled-value frame: the destination address, the VIDs of its tags, the APPID, the Length field, the Simulate
bit, and what follows. -/
structure SvHeader where
  dst : Nat
  vids : List Nat
  appid : Nat
  len : Nat
  simulate : Bool
  body : List Nat
  deriving DecidableEq, Repr

/-- The header of a frame, none where its octets do not reach the APPID or its Ethertype is not 0x88BA. -/
def svHeader (f : List Nat) : Option SvHeader :=
  let vids := vlanTags f.length f 12
  let i := 12 + 4 * vids.length
  if be16At f i = 0x88BA && decide (i + 4 ≤ f.length) then
    some ⟨beNat (f.take 6), vids, be16At f (i + 2), be16At f (i + 4), bit (be16At f (i + 6)) 15, f.drop (i + 10)⟩
  else none

/-- The length of an element and the octets after it: one octet below 128, or a count of length octets and these. -/
def berLen : List Nat → Option (Nat × List Nat)
  | [] => none
  | b :: t =>
    if b < 128 then some (b, t)
    else
      let k := b - 128
      if k = 0 || t.length < k then none else some (beNat (t.take k), t.drop k)

/-- Octets as a sequence of elements, each its tag and its contents; none where they do not divide so. `n` bounds the elements. -/
def elements : Nat → List Nat → Option (List (Nat × List Nat))
  | _, [] => some []
  | 0, _ => none
  | n + 1, tag :: t =>
    match berLen t with
    | none => none
    | some (k, u) => if u.length < k then none else (elements n (u.drop k)).map ((tag, u.take k) :: ·)

/-- The elements that a list of octets divides into. -/
def elementsOf (bs : List Nat) : Option (List (Nat × List Nat)) := elements bs.length bs

/-- The contents of the first element with a tag. -/
def tagged? (tag : Nat) (es : List (Nat × List Nat)) : Option (List Nat) := (es.find? (fun e => e.1 == tag)).map (·.2)

/-- An ASDU as received (R266): the octets of its svID, smpCnt, confRev, smpSynch, the octets of its seqData. -/
structure AsduIn where
  svId : List Nat
  smpCnt : Nat
  confRev : Nat
  smpSynch : Nat
  data : List Nat
  deriving DecidableEq, Repr

/-- An ASDU with every field that R266 asks for; the optional ones are skipped. -/
def asduOf (bs : List Nat) : Option AsduIn := do
  let es ← elementsOf bs
  let svId ← tagged? 0x80 es
  let cnt ← tagged? 0x82 es
  let rev ← tagged? 0x83 es
  let syn ← tagged? 0x85 es
  let data ← tagged? 0x87 es
  some ⟨svId, beNat cnt, beNat rev, beNat syn, data⟩

/-- All of a list, none where one is missing. -/
def allOf {α : Type} : List (Option α) → Option (List α)
  | [] => some []
  | none :: _ => none
  | some x :: t => (allOf t).map (x :: ·)

/-- The savPdu of a frame: noASDU and the ASDUs, none where it is not formed so. -/
def savPdu (h : SvHeader) : Option (Nat × List AsduIn) := do
  let es ← elementsOf (h.body.take (h.len - 8))
  let pdu ← tagged? 0x60 es
  let fs ← elementsOf pdu
  let n ← tagged? 0x80 fs
  let seq ← tagged? 0xA2 fs
  let items ← elementsOf seq
  let asdus ← allOf (items.map (fun e => if e.1 = 0x30 then asduOf e.2 else none))
  some (beNat n, asdus)

/-- The channels of a seqData: an INT32 value and a 32-bit quality each. `n` bounds them. -/
def chansOf : Nat → List Nat → List (Nat × Nat)
  | 0, _ => []
  | n + 1, bs => if bs.isEmpty then [] else (beNat (bs.take 4), beNat ((bs.drop 4).take 4)) :: chansOf n (bs.drop 8)

end Sys2Proof.Machine
end

