-- ==== Sys2Proof/Machine/Adc.lean ====
section
/-!
DEFINITION. The converters (R257 to R265) and the sampled-value streams (R266 to R271).
-/
namespace Sys2Proof.Machine

/-- Hidden state of ADC_k. -/
def State.adc (s : State) (k : Nat) : AdcSt := s.sig.adcs.get {} k
/-- Hidden state of ADC_k replaced by a function of it. -/
def State.updAdc (s : State) (k : Nat) (f : AdcSt → AdcSt) : State :=
  { s with sig := { s.sig with adcs := s.sig.adcs.set k (f (s.adc k)) } }
/-- Hidden state of SV_i. -/
def State.sv (s : State) (i : Nat) : SvSt := s.sig.svs.get {} i
/-- Hidden state of SV_i replaced by a function of it. -/
def State.updSv (s : State) (i : Nat) (f : SvSt → SvSt) : State :=
  { s with sig := { s.sig with svs := s.sig.svs.set i (f (s.sv i)) } }

/-- A run is pending or in progress (R265). -/
def adcBusy (s : State) (k : Nat) : Bool := (s.adc k).pend.isSome || (s.adc k).entry.isSome

/-- STATUS.BUSY follows the run (R265). -/
def adcShow (s : State) (k : Nat) : State := s.wr ADC_STATUS_BUSY (b2n (adcBusy s k)) k

/-- The first CONV edge at or after a time in eighths of a FAB clock: CONV edges lie every 125 eighths (R258, R377). -/
def convEdge (t8 : Nat) : Nat := ceilDiv t8 125 * 125

/-- A trigger at an edge (R258, R259): a run armed after DELAY, or lost while one is pending or in progress. -/
def adcArm (s : State) (k edge : Nat) : State :=
  if !(s.on ADC_CTRL_EN k) then s
  else if adcBusy s k then s.raise ADC_STATUS_TRIG_LOST k
  else adcShow (s.updAdc k (fun a => { a with pend := some (convEdge (8 * (edge + s.rd ADC_DELAY_DELAY k))) })) k

/-- The selected trigger of a converter arrives (R259): the latest pulse of its source not yet taken. -/
def adcTrigger (s : State) (k : Nat) : State :=
  let src := s.rd ADC_CFG_TRIG_SRC k
  let p := s.sig.pulses.get 0 src
  if src = 0 || p ≤ (s.adc k).taken then s
  else adcArm (s.updAdc k (fun a => { a with taken := p })) k (p - 1)

/-- A pending run starts (R258): on its CONV edge, its Campanile time recorded. -/
def adcRunStart (s : State) (k : Nat) : State :=
  match (s.adc k).pend with
  | none => s
  | some e8 =>
    let s := s.toEdge (ceilDiv e8 8)
    adcShow ((s.wr ADC_TRIG_TIME_NS s.ns k).updAdc k (fun a => { a with pend := none, entry := some 0, start8 := e8 })) k

/-- Eighths of a FAB clock that entry e takes (R260, R263). -/
def adcEntry8 (s : State) (k e : Nat) : Nat :=
  2 ^ s.rd ADC_SEQ_AVG k e * (s.rd ADC_SEQ_SMP k e + 12) * 125 * (if s.on ADC_CTRL_LP k then 10 else 1)

/-- The converter has completed an entry since reset (R262). -/
def adcSeen (s : State) (k : Nat) : Bool := (upTo 16).any (fun e => s.rd ADC_RESULT_QUAL k e != 0)

/-- A run ends early (R262): the entries it has not completed keep their values as HELD. -/
def adcEndEarly (s : State) (k : Nat) : State :=
  if !(adcBusy s k) then s
  else
    let first := (s.adc k).entry.getD 0
    let seen := adcSeen s k
    let s := forN 16 (fun e s =>
      if first ≤ e && e ≤ s.rd ADC_CFG_LEN k && seen then (ocKeep s (16 * k + e) (adcProbe s k e)).wr ADC_RESULT_QUAL 2 k e else s) s
    adcShow ((s.raise ADC_STATUS_DISCARD k).updAdc k (fun a => { a with pend := none, entry := none })) k

/-- The gain of an entry (R257). -/
def adcGain (s : State) (k e : Nat) : Nat := 2 ^ s.rd ADC_SEQ_GAIN k e

/-- The code of a differential voltage in nanovolts at a gain (R257): one LSB is 62.5 µV / G, a voltage beyond full scale gives
the end code; what the conversion's own error adds is a free value (R425, log 119). -/
def adcCode (volts : Int) (gain : Nat) (err : Int) : Int :=
  let v := volts * gain
  if v < -2048000000 then -32768
  else if 2048000000 ≤ v then 32767
  else satS 16 (v / 62500 + err)

/-- The codes of an entry's window (R257, R261): of each conversion, the voltages at inputs 0 to 8 at its sampling instant. -/
def adcWindow (s : State) (k e : Nat) : Nat → List (Vector Int 9) → State × List Int
  | 0, _ => (s, [])
  | n + 1, vs =>
    let v := (vs.headD (Vector.replicate 9 0)).toList.getD (s.rd ADC_SEQ_INPUT k e) 0
    let (err, s) := s.takeFree
    let (s, zs) := adcWindow s k e n vs.tail
    (s, adcCode v (adcGain s k e) (sx 16 (err % 2 ^ 16)) :: zs)

/-- The comparison on a shared input (R264): made when both entries have a fresh result since the last. -/
def plausCompare (s : State) (even : Nat) : State :=
  let ea := s.rd ADC_PLAUS_ENT_A even
  let eb := s.rd ADC_PLAUS_ENT_B even
  if !(s.on ADC_PLAUS_EN even) || !(bit (s.adc even).fresh ea && bit (s.adc (even + 1)).fresh eb) then s
  else
    let nA := s.rdS ADC_RESULT_VALUE even ea * ((8 / adcGain s even ea : Nat) : Int)
    let nB := s.rdS ADC_RESULT_VALUE (even + 1) eb * ((8 / adcGain s (even + 1) eb : Nat) : Int)
    let diff := (nA - nB).natAbs
    let run := if s.rd ADC_PLAUS_TOL even < diff then (s.adc even).exceed + 1 else 0
    let hit := run == s.rd ADC_PLAUS_CNT even
    let s := (s.updAdc even (fun a => { a with fresh := 0, exceed := if hit then 0 else run
                                               flag := if hit then some (s.fab, diff) else a.flag })).updAdc (even + 1)
      (fun a => { a with fresh := 0 })
    if hit then (s.raise ADC_STATUS_PLAUS even).wr ADC_PLAUS_DIFF_DIFF diff even else s

/-- The flag of a comparison that has reached CNT on the present edge (R264). -/
def plausFlag (s : State) (even : Nat) : State :=
  match (s.adc even).flag with
  | some (e, d) => if e = s.fab then (s.raise ADC_STATUS_PLAUS even).wr ADC_PLAUS_DIFF_DIFF d even else s
  | none => s

/-- An entry's result is delivered (R262, R264, R272, R330): RESULT_e, its Cupola copy, the comparison, the filters. -/
def adcDeliver (s : State) (k e value : Nat) (ovr : Bool) (run qual : Nat) : State :=
  let s := ocKeep s (16 * k + e) (adcProbe s k e)
  let s := (((s.wr ADC_RESULT_VALUE value k e).wr ADC_RESULT_OVR (b2n ovr) k e).wr ADC_RESULT_QUAL qual k e).wr
    ADC_RESULT_RUN run k e
  let s := s.raiseIf ovr ADC_STATUS_OVR k
  let s := if s.on ADC_CFG_CUP_EN k then
      engineStore s 22 ADC_RES_BASE_ADDR k (s.rd ADC_RES_BASE_ADDR k * 64 + 4 * e)
        (leBytes 4 (value % 2 ^ 24 + bitv 24 ovr + 2 ^ 25 * (qual % 4) + 2 ^ 27 * (run % 32)))
    else s
  let even := k - k % 2
  let s := if qual = 1 && s.on ADC_PLAUS_EN even then
      plausCompare (s.updAdc k (fun a => { a with fresh := a.fresh ||| 2 ^ e })) even
    else s
  if qual = 1 then filtOffer s 0 k e (sx 24 value) false false 0 else s

/-- The unit takes part in a twin, whose measured values are delivered in both units on one edge (R330). -/
def twinMeasures (s : State) : Bool :=
  let st := s.rd TWIN_STATUS_STATE
  st == 2 || st == 3

/-- A measured value waits for its delivery edge, PEER_LAT + 2 later (R330). -/
def measLater (s : State) (m : Meas) : State :=
  { s with sig := { s.sig with meas := s.sig.meas ++ [(s.fab + s.rd TWIN_LAT_PEER_LAT + 2, m)] } }

/-- Keep takes the results of its own converters (R349): an entry of ADC_0's plausibility pair has completed. -/
def keepResult (s : State) (k e : Nat) : State :=
  { s with keep := { s.keep with
      freshA := s.keep.freshA || (k == 0 && e == s.rd ADC_PLAUS_ENT_A 0)
      freshB := s.keep.freshB || (k == 1 && e == s.rd ADC_PLAUS_ENT_B 0) } }

/-- The entry in progress completes (R260 to R262): the clock moves to the last edge within 4 FAB clocks of the end of the last
conversion; the next entry follows without a gap, or the run ends. -/
def adcEntryComplete (s : State) (k : Nat) (volts : List (Vector Int 9)) : State :=
  match (s.adc k).entry with
  | none => s
  | some e =>
    let end8 := (s.adc k).start8 + adcEntry8 s k e
    let s := s.toEdge (end8 / 8 + 4)
    let (s, zs) := adcWindow s k e (2 ^ s.rd ADC_SEQ_AVG k e) volts
    let value := uz 24 (crnd (sumInt zs) (s.rd ADC_SEQ_SHIFT k e))
    let ovr := zs.any (fun z => z == -32768 || z == 32767)
    let run := s.rd ADC_RUNS_COUNT k % 32
    let last := decide (s.rd ADC_CFG_LEN k ≤ e)
    let s := keepResult { s with sig := { s.sig with own := s.sig.own.set (k * 16 + e) value } } k e
    let s := if last then ocSource s 1 k else s
    let s := s.updAdc k (fun a => { a with entry := if last then none else some (e + 1), start8 := end8 })
    let s := if twinMeasures s then measLater s (.adc k e value ovr run) else adcDeliver s k e value ovr run 1
    adcShow (if last then (s.raise ADC_STATUS_DONE k).count ADC_RUNS_COUNT k else s) k

/-- A later SEQ write breaks the condition of PLAUS (R264): both entries select input 8 with equal AVG and SHIFT. -/
def plausBroken (in0 avg0 sh0 in1 avg1 sh1 : Nat) : Bool := in0 != 8 || in1 != 8 || avg0 != avg1 || sh0 != sh1

/-- Codes of a write to ADC_k beyond those of its fields (R259, R264). -/
def adcCodes (s : State) (k off data : Nat) (v : Fld → Nat) : List Nat :=
  let even := k - k % 2
  let ea := s.rd ADC_PLAUS_ENT_A even
  let eb := s.rd ADC_PLAUS_ENT_B even
  if off = 0x000 then
    codeIf (bit data 2 && (s.rd ADC_CFG_TRIG_SRC k != 0 || !(s.on ADC_CTRL_EN k))) E_STATE
  else if off = 0x004 then codeIf (decide (29 ≤ v ADC_CFG_TRIG_SRC)) E_VALUE
  else if off = 0x018 && k % 2 = 0 then
    let ea := v ADC_PLAUS_ENT_A
    let eb := v ADC_PLAUS_ENT_B
    codeIf (v ADC_PLAUS_EN = 1 && plausBroken (s.rd ADC_SEQ_INPUT k ea) (s.rd ADC_SEQ_AVG k ea) (s.rd ADC_SEQ_SHIFT k ea)
      (s.rd ADC_SEQ_INPUT (k + 1) eb) (s.rd ADC_SEQ_AVG (k + 1) eb) (s.rd ADC_SEQ_SHIFT (k + 1) eb)) E_RANGE
  else if 0x100 ≤ off && off < 0x140 && s.on ADC_PLAUS_EN even then
    let e := (off - 0x100) / 4
    let i := bits data 0 4
    let a := bits data 16 3
    let h := bits data 20 3
    if k = even && e = ea then
      codeIf (plausBroken i a h (s.rd ADC_SEQ_INPUT (even + 1) eb) (s.rd ADC_SEQ_AVG (even + 1) eb)
        (s.rd ADC_SEQ_SHIFT (even + 1) eb)) E_RANGE
    else if k ≠ even && e = eb then
      codeIf (plausBroken (s.rd ADC_SEQ_INPUT even ea) (s.rd ADC_SEQ_AVG even ea) (s.rd ADC_SEQ_SHIFT even ea) i a h) E_RANGE
    else []
  else []

/-- EN as written (R259, R262): a converter that starts to accept triggers has taken those that came before, one that stops
ends its run. -/
def adcEnable (s : State) (k : Nat) : State :=
  let en := s.on ADC_CTRL_EN k
  let p := s.sig.pulses.get 0 (s.rd ADC_CFG_TRIG_SRC k)
  let s := if en && !(s.adc k).on then s.updAdc k (fun a => { a with taken := p }) else s
  if en == (s.adc k).on then s else s.updAdc k (fun a => { a with on := en })

/-- What a write to ADC_k does beyond storing its fields (R259, R262). -/
def adcEffect (s : State) (k off data : Nat) : State :=
  if off = 0x000 then
    let s := adcEnable s k
    let s := if bit data 1 || !(bit data 0) then adcEndEarly s k else s
    if bit data 2 then adcArm s k s.fab else s
  else s

/-! ### Sampled-value streams -/

/-- Samples per second of a stream (R271). -/
def svRate (s : State) (i : Nat) : Nat :=
  match s.rd SV_CFG_RATE i with | 0 => 4800 | 1 => 14400 | _ => 96000

/-- ASDUs per frame (R271). -/
def svNasdu (s : State) (i : Nat) : Nat := s.rd SV_CFG_NASDU i + 1

/-- What a stream had accepted before an edge (R269). -/
def SvSt.before (x : SvSt) (edge : Nat) : SvSeen := if x.edge = edge then x.was else x.now

/-- What a stream had accepted before the last tick's edge (R269). -/
def svSeen (s : State) (i : Nat) : SvSeen := (s.sv i).before s.pipe.tickEdge

/-- The count m of R269 at a tick time. -/
def svGap (s : State) (i tickNs : Nat) : Nat :=
  let d := sx 64 (uz 64 ((tickNs : Int) - (svSeen s i).last)) - (s.rd SV_TOL_US i : Int) * 1000
  d.toNat * svRate s i / (svNasdu s i * 1000000000)

/-- The frame is addressed to a stream (R267): its MAC and APPID. -/
def svAddressed (s : State) (i : Nat) (h : SvHeader) : Bool :=
  s.on SV_CTRL_EN i && h.dst == s.rd SV_MAC_MAC i && h.appid == s.rd SV_ID_APPID i

/-- The conditions of R266 on the port, the tag and the Simulate bit. -/
def svHeaderOk (s : State) (i port : Nat) (h : SvHeader) : Bool :=
  bit (s.rd SV_CFG_PORTS i) port
    && (match h.vids with | [] => true | [v] => !(s.on SV_ID_VID_EN i) || v == s.rd SV_ID_VID i | _ => false)
    && (!h.simulate || s.on SV_CFG_SIM i)

/-- The conditions of R266 on an ASDU. -/
def asduOk (s : State) (i : Nat) (a : AsduIn) : Bool :=
  crc32c a.svId == s.rd SV_SVID_CRC_CRC i && a.confRev == s.rd SV_CONFREV_REV i && a.data.length == (s.rd SV_CFG_NCH i + 1) * 8

/-- The ASDUs of a frame that meets every condition of R266, none of another. -/
def svAsdus (s : State) (i port : Nat) (h : SvHeader) : Option (List Asdu) :=
  match savPdu h with
  | none => none
  | some (n, asdus) =>
    if svHeaderOk s i port h && n == svNasdu s i && asdus.length == n && asdus.all (asduOk s i) then
      some (asdus.map (fun a => ⟨a.smpCnt, a.smpSynch, chansOf (a.data.length / 8) a.data⟩))
    else none

/-- An ASDU lacks the synchronisation required (R268). -/
def svUnsync (s : State) (i : Nat) (a : Asdu) : Bool := decide (a.smpSynch < s.rd SV_CFG_SYNC_REQ i)

/-- The queue words of a frame (R270): a header and one word per channel for each ASDU. -/
def svWords (s : State) (i : Nat) (gap stale : Bool) : Bool → List Asdu → List (Nat × Nat)
  | _, [] => []
  | first, a :: t =>
    let flags := bitv 0 (svUnsync s i a) + bitv 1 (first && gap) + bitv 2 (first && stale)
    (a.smpCnt % 2 ^ 16 + 2 ^ 16 * (a.smpSynch % 256) + 2 ^ 24 * flags + 2 ^ 32 * (s.ns % 2 ^ 32), 8)
      :: a.chans.map (fun c => (c.1 % 2 ^ 32 + 2 ^ 32 * (c.2 % 2 ^ 32), 8)) ++ svWords s i gap stale false t

/-- The samples of an accepted frame go to the filters, one ASDU per FAB clock (R272). -/
def svSamples (s : State) (i : Nat) (flag : Bool) : Nat → List Asdu → State
  | _, [] => s
  | n, a :: t =>
    let s := forN 16 (fun c s =>
      if c < a.chans.length then filtOffer s 1 i c (sx 32 (nth (0, 0) a.chans c).1) true (flag && n == 0) n else s) s
    svSamples s i flag (n + 1) t

/-- An accepted frame is delivered (R268 to R270): counts, the last ASDU, the queue packet, the filter samples. -/
def svDeliver (s : State) (i : Nat) (asdus : List Asdu) (gap : Nat) (wasStale : Bool) : State :=
  match asdus.getLast? with
  | none => s
  | some a =>
    let s := (((s.count SV_FRAMES_COUNT i).count SV_GAP_CNT_COUNT i 0 gap).wr SV_LAST_SMPCNT
      (a.smpCnt % s.rd SV_WRAP_WRAP i) i).raise SV_LAST_VALID i
    let s := s.wr SV_STATUS_UNSYNC (b2n (svUnsync s i a)) i
    let s := s.updSv i (fun x => { x with
      now := ⟨s.ns, some a, x.now.count + 1, x.now.resume || wasStale⟩, was := x.before s.fab, edge := s.fab })
    let s := if s.on SV_DELIV_QEN i then
        (queuePacket s (s.rd SV_DELIV_QUEUE i) (8 + i) (svWords s i (decide (0 < gap)) wasStale true asdus)).1
      else s
    svSamples s i (decide (0 < gap) || wasStale) 0 asdus

/-- The samples missing before a frame accepted while STALE (R268): the nearest whole number of the interval, less the
frame's own. -/
def svStaleGap (s : State) (i : Nat) : Nat :=
  let dt := (s.ns + 2 ^ 64 - (s.sv i).now.last) % 2 ^ 64
  (dt * svRate s i + 500000000) / 1000000000 - svNasdu s i

/-- The ASDUs of an accepted frame on their stream (R268): in order, after a gap, or out of order. -/
def svOrdered (s : State) (i : Nat) (asdus : List Asdu) : State :=
  let wrap := s.rd SV_WRAP_WRAP i
  let first := ((asdus.headD ⟨0, 0, []⟩).smpCnt) % wrap
  let d := (first + 2 * wrap - (s.rd SV_LAST_SMPCNT i + 1) % wrap) % wrap
  let stale := s.on SV_STATUS_STALE i
  let firstStale := stale && !(s.sv i).now.resume
  let accept := fun (gap : Nat) =>
    if twinMeasures s then measLater s (.sv i asdus gap firstStale) else svDeliver s i asdus gap firstStale
  if stale then accept (svStaleGap s i)
  else if !(s.on SV_LAST_VALID i) then accept 0
  else if 2 * d < wrap then accept d
  else s.raise SV_STATUS_SEQ_ERR i

/-- A frame on its stream (R266 to R268): rewound where it breaks off or fails its check sequence, discarded, or accepted. -/
def svFrame (s : State) (i port : Nat) (h : SvHeader) (whole : Bool) : State :=
  if !(svAddressed s i h) then s
  else if !whole then
    let s := if s.on SV_DELIV_QEN i then packetBroken s (s.rd SV_DELIV_QUEUE i) (8 + i) else s
    (s.count SV_DROPS_PARTIAL_CNT i).raise SV_STATUS_PARTIAL i
  else
    match svAsdus s i port h with
    | none => (s.count SV_DROPS_MATCH_CNT i).raise SV_STATUS_MATCH_ERR i
    | some asdus => svOrdered s i asdus

/-- A sampled-value frame reaches the ingest with its check sequence, or breaks off (R267, R399): every stream it is addressed to
judges it. -/
def svReceive (s : State) (port : Nat) (octets : List (BitVec 8)) (cut : Bool) : State :=
  let f := octets.map (·.toNat)
  if !(s.on PORT_ETH_CFG_EN 0 port) then s
  else
    match svHeader (if cut then f else f.take (f.length - 4)) with
    | none => s
    | some h => forN 8 (fun i s => svFrame s i port h (!cut && fcsOk f)) s

/-- LOST of a stream asserts its virtual trip line with ACTION, and keeps it until LOST is cleared (R269). -/
def svTripLine (s : State) (i : Nat) : State :=
  let old := s.rd TRIP_LEVEL_SV
  if !(s.on SV_STATUS_LOST i) then s.wr TRIP_LEVEL_SV (if bit old i then old - 2 ^ i else old)
  else if s.on SV_CFG_ACTION i then s.wr TRIP_LEVEL_SV (old ||| 2 ^ i)
  else s

/-- STALE at a tick with m ≥ 2 (R269): the values held. -/
def svStale (s : State) (i tickNs : Nat) : State :=
  if s.on SV_CTRL_EN i && 2 ≤ svGap s i tickNs then
    let q := if (svSeen s i).count = 0 then 0 else 2
    (s.raise SV_STATUS_STALE i).updSv i (fun x => { x with qual := q })
  else s

/-- LOST at m ≥ LOST_LIMIT, and the trip line with ACTION (R269). -/
def svLost (s : State) (i tickNs : Nat) : State :=
  if s.on SV_CTRL_EN i && s.rd SV_CFG_LOST_LIMIT i ≤ svGap s i tickNs then svTripLine (s.raise SV_STATUS_LOST i) i
  else s

/-- The snapshot of a stream in Cupola (R270). -/
def svSnapshot (s : State) (i : Nat) : State :=
  let x := svSeen s i
  let a := x.asdu.getD ⟨0, 0, List.replicate (s.rd SV_CFG_NCH i + 1) (0, 0)⟩
  let q := (s.sv i).qual + bitv 2 (s.on SV_STATUS_LOST i) + bitv 3 (x.asdu.isSome && svUnsync s i a)
  let bytes := leBytes 8 (if x.asdu.isSome then x.last else 0) ++ leBytes 2 a.smpCnt ++ [q, a.smpSynch % 256]
    ++ leBytes 2 (s.rd SYS_CYCLE_COUNT) ++ [0, 0]
    ++ (a.chans.map (fun c => leBytes 4 c.1 ++ leBytes 4 c.2)).flatten
  (engineStore s 22 SV_CUP_BASE_ADDR i (s.rd SV_CUP_BASE_ADDR i * 16) bytes).updSv i (fun y => { y with snap := x.asdu })

/-- The evaluation of a stream at a tick (R269, R270): EN taking effect, quality, STALE, LOST, snapshot. -/
def svTick (s : State) (i tickNs : Nat) : State :=
  let en := s.on SV_CTRL_EN i
  let s := if en && !(s.sv i).wasEn then
      s.updSv i (fun x => { x with now := ⟨tickNs, none, 0, false⟩, was := ⟨tickNs, none, 0, false⟩, wasEn := true, snap := none })
    else if !en then s.updSv i (fun x => { x with wasEn := false })
    else s
  if !en then s
  else
    let x := svSeen s i
    let m := svGap s i tickNs
    let s :=
      if m ≤ 1 then
        let q := if x.count = 0 then 0 else if x.resume then 3 else 1
        let s := if x.resume then s.clear SV_STATUS_STALE i else s
        (s.wr SV_STATUS_RESUMED (b2n x.resume) i).updSv i (fun y => { y with
          qual := q, now := { y.now with resume := y.now.resume && !x.resume }, was := { y.was with resume := false } })
      else (s.clear SV_STATUS_RESUMED i)
    svSnapshot (svLost (svStale s i tickNs) i tickNs) i

/-- The streams at a tick (R269): trip lines that rise there rise on one edge (R303). -/
def svTicks (s : State) (tickNs : Nat) : State := tripUpdate (forN 8 (fun i s => svTick s i tickNs) s) s.fab

/-- CTRL.CLR_STATS (R271). -/
def svClearStats (s : State) (i : Nat) : State :=
  (((s.wr SV_GAP_CNT_COUNT 0 i).wr SV_DROPS_PARTIAL_CNT 0 i).wr SV_DROPS_MATCH_CNT 0 i).wr SV_FRAMES_COUNT 0 i

/-- Codes of a write to SV_i beyond those of its fields (R269). -/
def svCodes (s : State) (i off data : Nat) : List Nat :=
  codeIf (off = 0x30 && bit data 1 && s.on SV_STATUS_STALE i) E_STATE

/-- What a write to SV_i does beyond storing its fields. -/
def svEffect (s : State) (i off data : Nat) : State :=
  if off = 0x00 && bit data 1 then svClearStats s i
  else if off = 0x30 then tripUpdate (svTripLine s i) s.fab
  else s

end Sys2Proof.Machine
end

