-- ==== Sys2Proof/Machine/Arm.lean ====
section
/-!
DEFINITION. Commits of an arm's count and voltage reference (R21, R84 to R86), and the judgement of the arm registers
(R81, R97).
-/
namespace Sys2Proof.Machine

/-- Codes of a write of ARM_k.N (R84, R85); the value is 12 bits, signed. -/
def armNCodes (s : State) (k data : Nat) : List Nat :=
  let n := sx 12 (data % 4096)
  codeIf (s.on ARM_CTRL_MOD_SRC k) E_STATE ++ codeIf (decide (n < -1024) || decide (1024 < n)) E_VALUE
    ++ codeIf (decide ((s.rd ARM_LIMIT_N_POS_MAX k : Int) < n) || decide (n < -(s.rd ARM_LIMIT_N_NEG_MAX k : Int))) E_RANGE

/-- Codes of a write of ARM_k.VREF_ARM (R84). -/
def armVrefCodes (s : State) (k : Nat) : List Nat := codeIf (!(s.on ARM_CTRL_MOD_SRC k)) E_STATE

/-- A commit of a count (R21, R83, R86): one on the cut-off edge is still this cycle's; one after it counts for the next cycle and
in RUN sets LATE_N. -/
def armCommit (s : State) (k : Nat) : State :=
  let passed := s.pipe.running && s.pipe.cutoff
  if passed && !s.pipe.selDone && s.fab == cutoffEdge s then countAgain s k
  else
    (s.raiseIf (passed && s.rd ARM_CTRL_MODE k == MODE_RUN) ARM_STATUS_LATE_N k).updArm k (fun a => { a with committed := true })

/-- An accepted write of N (R84, R86). -/
def armNApply (s : State) (k data : Nat) : State := armCommit (s.wr ARM_N_N (data % 4096) k) k

/-- An accepted write of VREF_ARM (R84, R86). -/
def armVrefApply (s : State) (k data : Nat) : State := armCommit (s.wr ARM_VREF_ARM_V data k) k

/-- A word of RING_MASK after a write (R81): its number of rings over the four words. -/
def maskCount (s : State) (k i data : Nat) : Nat :=
  sumOf (fun j => ((upTo 32).filter (fun b => bit (if j = i then data else s.rd ARM_RING_MASK_MASK k j) b)).length) (upTo 4)

/-- Codes of a write to ARM_k beyond the ranges and classes of its fields (R81, R84, R85). -/
def armCodes (s : State) (k off data : Nat) : List Nat :=
  if off = 0x004 then armNCodes s k data
  else if off = 0x008 then armVrefCodes s k
  else if 0x020 ≤ off && off < 0x030 then
    let i := (off - 0x020) / 4
    let others := (upTo 8).any (fun j => j != k && (s.rd ARM_RING_MASK_MASK j i &&& data) != 0)
    codeIf others E_VALUE ++ codeIf (decide ((if s.mode16 then 64 else 32) < maskCount s k i data)) E_RANGE
  else []

/-- What a write to ARM_k does beyond storing its fields: a commit (R84). -/
def armEffect (s : State) (k off : Nat) : State := if off = 0x004 || off = 0x008 then armCommit s k else s

end Sys2Proof.Machine
end

