-- ==== Sys2Proof/Machine/Fp.lean ====
section
/-!
DEFINITION. IEEE 754 binary32 arithmetic of the Spire cores and the Law engine (R139, R178, R179): round to nearest
even, no fusing, subnormal operands taken as signed zeros, subnormal results flushed to +0.
-/
namespace Sys2Proof.Machine

/-- A result and the sticky flags it raises: NX 1, UF 2, OF 4, DZ 8, NV 16 (R178, R180). -/
structure FpRes where
  val : Nat
  flags : Nat
  deriving DecidableEq, Repr

/-- The canonical quiet NaN (R178). -/
def fpQNaN : Nat := 0x7FC00000
/-- 1.0. -/
def fpOne : Nat := 0x3F800000
/-- Sign bit. -/
def fpNeg (a : Nat) : Bool := bit a 31
/-- Exponent field. -/
def fpExp (a : Nat) : Nat := bits a 23 8
/-- Fraction field. -/
def fpFrac (a : Nat) : Nat := bits a 0 23
/-- Not a number. -/
def fpNaN (a : Nat) : Bool := fpExp a == 255 && fpFrac a != 0
/-- A signalling NaN: the quiet bit clear. -/
def fpSNaN (a : Nat) : Bool := fpNaN a && !(bit a 22)
/-- An infinity. -/
def fpInf (a : Nat) : Bool := fpExp a == 255 && fpFrac a == 0
/-- Zero, or a subnormal taken as zero (R178). -/
def fpZero (a : Nat) : Bool := fpExp a == 0
/-- A subnormal word. -/
def fpSub (a : Nat) : Bool := fpExp a == 0 && fpFrac a != 0
/-- Neither infinite nor NaN. -/
def fpFinite (a : Nat) : Bool := fpExp a != 255
/-- A sign bit in its place. -/
def fpSignBit (n : Bool) : Nat := if n then 2 ^ 31 else 0
/-- A zero of a sign. -/
def fpZeroOf (n : Bool) : Nat := fpSignBit n
/-- An infinity of a sign. -/
def fpInfOf (n : Bool) : Nat := fpSignBit n + 0x7F800000
/-- The significand of a finite word: 24 bits, 0 for zeros and subnormals. -/
def fpMan (a : Nat) : Nat := if fpZero a then 0 else 2 ^ 23 + fpFrac a
/-- The exponent of the significand's unit. -/
def fpUnit (a : Nat) : Int := (fpExp a : Int) - 150

/-- A positive magnitude m × 2^e, with a sticky part below it, rounded to nearest even in binary32 (R178): a
subnormal result becomes +0 with UF and NX, an overflow the signed infinity with OF and NX. -/
def fpRound (neg : Bool) (m : Nat) (e : Int) (sticky : Bool) : FpRes :=
  let top : Int := (m.log2 : Int) + e
  let q : Int := max (top - 23) (-149)
  let (r, inexact) :=
    if q ≤ e then (m * 2 ^ (e - q).toNat, sticky)
    else
      let d := (q - e).toNat
      let r := m / 2 ^ d
      let rem := m % 2 ^ d
      let half := 2 ^ (d - 1)
      let up := decide (half < rem) || (rem == half && (sticky || r % 2 == 1))
      (if up then r + 1 else r, rem != 0 || sticky)
  let (r, q) := if r = 2 ^ 24 then (2 ^ 23, q + 1) else (r, q)
  if r < 2 ^ 23 then ⟨0, 3⟩
  else
    let ex := q + 150
    if 255 ≤ ex then ⟨fpInfOf neg, 5⟩
    else ⟨fpSignBit neg + ex.toNat * 2 ^ 23 + (r - 2 ^ 23), b2n inexact⟩

/-- A NaN operand's result (R178): the canonical NaN, NV for a signalling operand. -/
def fpNaNRes (a b : Nat) : FpRes := ⟨fpQNaN, if fpSNaN a || fpSNaN b then 16 else 0⟩

/-- The signed significand of a finite word in units of 2^e, e at most its own unit. -/
def fpScaled (a : Nat) (e : Int) : Int :=
  let m : Int := (fpMan a * 2 ^ (fpUnit a - e).toNat : Nat)
  if fpNeg a then -m else m

/-- Addition (R179). -/
def fpAdd (a b : Nat) : FpRes :=
  if fpNaN a || fpNaN b then fpNaNRes a b
  else if fpInf a && fpInf b then
    if fpNeg a == fpNeg b then ⟨fpInfOf (fpNeg a), 0⟩ else ⟨fpQNaN, 16⟩
  else if fpInf a then ⟨fpInfOf (fpNeg a), 0⟩
  else if fpInf b then ⟨fpInfOf (fpNeg b), 0⟩
  else if fpZero a && fpZero b then ⟨fpZeroOf (fpNeg a && fpNeg b), 0⟩
  else if fpZero a then ⟨b, 0⟩
  else if fpZero b then ⟨a, 0⟩
  else
    let e := min (fpUnit a) (fpUnit b)
    let z := fpScaled a e + fpScaled b e
    if z = 0 then ⟨0, 0⟩ else fpRound (decide (z < 0)) z.natAbs e false

/-- A word with its sign inverted (R179). -/
def fpFlip (a : Nat) : Nat := (a % 2 ^ 32) ^^^ 2 ^ 31
/-- Subtraction (R179). -/
def fpSubtract (a b : Nat) : FpRes := if fpNaN b then fpNaNRes a b else fpAdd a (fpFlip b)

/-- Multiplication (R179). -/
def fpMul (a b : Nat) : FpRes :=
  let n := xor (fpNeg a) (fpNeg b)
  if fpNaN a || fpNaN b then fpNaNRes a b
  else if (fpInf a && fpZero b) || (fpZero a && fpInf b) then ⟨fpQNaN, 16⟩
  else if fpInf a || fpInf b then ⟨fpInfOf n, 0⟩
  else if fpZero a || fpZero b then ⟨fpZeroOf n, 0⟩
  else fpRound n (fpMan a * fpMan b) (fpUnit a + fpUnit b) false

/-- Division (R179). -/
def fpDiv (a b : Nat) : FpRes :=
  let n := xor (fpNeg a) (fpNeg b)
  if fpNaN a || fpNaN b then fpNaNRes a b
  else if (fpInf a && fpInf b) || (fpZero a && fpZero b) then ⟨fpQNaN, 16⟩
  else if fpInf a then ⟨fpInfOf n, 0⟩
  else if fpInf b || fpZero a then ⟨fpZeroOf n, 0⟩
  else if fpZero b then ⟨fpInfOf n, 8⟩
  else
    let m := fpMan a * 2 ^ 50
    fpRound n (m / fpMan b) (fpUnit a - fpUnit b - 50) (m % fpMan b != 0)

/-- The integer square root of a number below 2^(2n), bit by bit from the top. -/
def isqrt : Nat → Nat → Nat → Nat
  | 0, _, r => r
  | n + 1, x, r => isqrt n x (if (r + 2 ^ n) * (r + 2 ^ n) ≤ x then r + 2 ^ n else r)

/-- Square root (R179). -/
def fpSqrt (a : Nat) : FpRes :=
  if fpNaN a then fpNaNRes a a
  else if fpZero a then ⟨fpZeroOf (fpNeg a), 0⟩
  else if fpNeg a then ⟨fpQNaN, 16⟩
  else if fpInf a then ⟨a % 2 ^ 32, 0⟩
  else
    let odd := (fpUnit a) % 2 != 0
    let m := fpMan a * (if odd then 2 ^ 41 else 2 ^ 40)
    let e := (fpUnit a - (if odd then 41 else 40)) / 2
    let r := isqrt 34 m 0
    fpRound false r e (r * r != m)

/-- A word with a subnormal taken as zero of its sign (R178). -/
def fpFlushOp (a : Nat) : Nat := if fpZero a then fpZeroOf (fpNeg a) else a % 2 ^ 32

/-- Exact order of two words that are not NaN, −0 equal to +0. -/
def fpLtOrd (a b : Nat) : Bool :=
  let key := fun x : Nat => if fpZero x then (0 : Int) else
    (if fpNeg x then -((x % 2 ^ 31 : Nat) : Int) else ((x % 2 ^ 31 : Nat) : Int))
  decide (key a < key b)

/-- FEQ (R179). -/
def fpEq (a b : Nat) : FpRes :=
  if fpNaN a || fpNaN b then ⟨0, if fpSNaN a || fpSNaN b then 16 else 0⟩
  else ⟨b2n (!(fpLtOrd a b) && !(fpLtOrd b a)), 0⟩
/-- FLT (R179). -/
def fpLt (a b : Nat) : FpRes := if fpNaN a || fpNaN b then ⟨0, 16⟩ else ⟨b2n (fpLtOrd a b), 0⟩
/-- FLE (R179). -/
def fpLe (a b : Nat) : FpRes := if fpNaN a || fpNaN b then ⟨0, 16⟩ else ⟨b2n (!(fpLtOrd b a)), 0⟩

/-- FMIN and FMAX (R179): −0 ranks below +0, one NaN yields the other operand, two the canonical NaN. -/
def fpPick (max : Bool) (a b : Nat) : FpRes :=
  let fl := if fpSNaN a || fpSNaN b then 16 else 0
  if fpNaN a && fpNaN b then ⟨fpQNaN, fl⟩
  else if fpNaN a then ⟨fpFlushOp b, fl⟩
  else if fpNaN b then ⟨fpFlushOp a, fl⟩
  else
    let aLess := fpLtOrd a b || (!(fpLtOrd b a) && fpNeg a && !(fpNeg b))
    ⟨fpFlushOp (if aLess == max then b else a), 0⟩

/-- A signed integer converted (R179). -/
def fpOfInt (z : Int) : FpRes := if z = 0 then ⟨0, 0⟩ else fpRound (decide (z < 0)) z.natAbs 0 false

/-- FCVTW and FCVTWT (R179): a finite value to an integer, to nearest even or toward zero, clamped to 32 bits. -/
def fpToInt (nearest : Bool) (a : Nat) : FpRes :=
  if fpNaN a then ⟨0, 16⟩
  else if fpInf a then ⟨if fpNeg a then 0x80000000 else 0x7FFFFFFF, 16⟩
  else if fpZero a then ⟨0, 0⟩
  else
    let m := fpMan a
    let e := fpUnit a
    let (q, inexact) :=
      if 0 ≤ e then (m * 2 ^ e.toNat, false)
      else
        let d := (-e).toNat
        let r := m / 2 ^ d
        let rem := m % 2 ^ d
        let half := 2 ^ (d - 1)
        let up := nearest && (decide (half < rem) || (rem == half && r % 2 == 1))
        (if up then r + 1 else r, rem != 0)
    let z : Int := if fpNeg a then -(q : Int) else q
    if z < -2147483648 then ⟨0x80000000, 16⟩
    else if 2147483647 < z then ⟨0x7FFFFFFF, 16⟩
    else ⟨uz 32 z, b2n inexact⟩

/-- The greatest integer at most a finite word, as a word; exact (R127). -/
def fpFloor (a : Nat) : Nat :=
  if fpZero a || decide (0 ≤ fpUnit a) then fpFlushOp a
  else
    let d := (-fpUnit a).toNat
    let q := fpMan a / 2 ^ d
    let rem := fpMan a % 2 ^ d
    if fpNeg a then (fpOfInt (-((q + b2n (rem != 0) : Nat) : Int))).val else (fpOfInt q).val

end Sys2Proof.Machine
end

