-- ==== Sys2Proof/Machine/LawEval.lean ====
section
/-!
DEFINITION. The arithmetic of a slot evaluation (R127, R139 to R142): every operation rounded to nearest even, none
fused, and no result at all once an input or an intermediate result is not finite.
-/
namespace Sys2Proof.Machine

/-- A finite result, or none (R139). -/
def fin (r : FpRes) : Option Nat := if fpFinite r.val then some r.val else none
/-- Addition with the finite-result rule. -/
def lAdd (a b : Nat) : Option Nat := fin (fpAdd a b)
/-- Subtraction with the finite-result rule. -/
def lSub (a b : Nat) : Option Nat := fin (fpSubtract a b)
/-- Multiplication with the finite-result rule. -/
def lMul (a b : Nat) : Option Nat := fin (fpMul a b)
/-- Division with the finite-result rule. -/
def lDiv (a b : Nat) : Option Nat := fin (fpDiv a b)
/-- The smaller of two finite words (R139: exact). -/
def lMin (a b : Nat) : Nat := if fpLtOrd b a then b else a
/-- A word limited to a range (R139: exact). -/
def lClamp (v lo hi : Nat) : Nat := if fpLtOrd v lo then lo else if fpLtOrd hi v then hi else v

/-- The FP32 value nearest 1.6 × 10⁻⁹ (R127). -/
def c16Fp : Nat := 0x30DBE6FF
/-- The FP32 value nearest 2π (R140). -/
def w2piFp : Nat := 0x40C90FDB
/-- 2.0. -/
def fpTwo : Nat := 0x40000000
/-- 0.5. -/
def fpHalf : Nat := 0x3F000000
/-- −0.5. -/
def fpMinusHalf : Nat := 0xBF000000

/-- Slot type codes (R136). -/
def T_PI : Nat := 1
def T_PID : Nat := 2
def T_PR : Nat := 3
def T_LEADLAG : Nat := 4
def T_BIQUAD : Nat := 5
def T_RATE : Nat := 6
def T_VSM : Nat := 7

/-- What an evaluation reads at its issue: the record by word number, the four inputs, C16 and CYCLE_FAB of the
present cycle, the injected value s where one is added and its point (R139, R147). -/
structure LawIn where
  word : Nat → Nat
  in0 : Nat
  in1 : Nat
  in2 : Nat
  in3 : Nat
  c16 : Nat
  cycleFab : Nat
  s : Option (Nat × Nat) := none

/-- The injected value at a point (R147). -/
def LawIn.inject (x : LawIn) (point : Nat) (v : Nat) : Option Nat :=
  match x.s with
  | some (p, s) => if p = point then lAdd v s else some v
  | none => some v

/-- ACT of the record. -/
def LawIn.act (x : LawIn) : Bool := bit (x.word 0) 14
/-- The cycles since the last evaluation, modulo 65,536 (R127, R139). -/
def LawIn.gRaw (x : LawIn) : Nat := (x.c16 + 65536 - bits (x.word 0) 16 16) % 65536
/-- A duplicate evaluation of types 0x1 to 0x6 (R139). -/
def LawIn.dup (x : LawIn) : Bool := x.act && x.gRaw == 0
/-- The cycles integrated (R139). -/
def LawIn.g (x : LawIn) : Nat := if x.act then x.gRaw else 1
/-- dt of types 0x1 to 0x6 (R139): 0 on a duplicate. -/
def LawIn.dt (x : LawIn) : Option Nat :=
  if x.dup then some 0 else do
    let n ← fin (fpOfInt ((x.g * x.cycleFab : Nat) : Int))
    lMul n c16Fp

/-- clampU (R140): the value, and the limits it lay beyond. -/
def clampU (x : LawIn) (v : Nat) : Nat × Bool × Bool :=
  let lo := x.word 9
  let hi := x.word 8
  (lClamp v lo hi, fpLtOrd hi v, fpLtOrd v lo)

/-- Result of a type's law: u, the second output, new state words, and the limits met. -/
structure LawOut where
  u : Nat
  e : Nat
  words : List (Nat × Nat)
  hi : Bool
  lo : Bool

/-- The integrator of PI and PID, bounded so that p + I lies within the limits (R140, R141). -/
def integrator (x : LawIn) (p e dt : Nat) : Option (Nat × Bool × Bool) := do
  let ki ← lMul (x.word 2) e
  let d ← lMul ki dt
  let i ← lAdd (x.word 10) d
  let lo ← lSub (x.word 9) p
  let hi ← lSub (x.word 8) p
  return (lClamp i lo hi, fpLtOrd hi i, fpLtOrd i lo)

/-- PI in automatic (R140). -/
def autoPI (x : LawIn) (e ff dt : Nat) : Option LawOut := do
  let p ← lAdd (← lMul (x.word 1) e) ff
  let (i, ih, il) ← integrator x p e dt
  let v ← lAdd p i
  let (u, h, l) := clampU x v
  return ⟨u, e, [(10, i)], h || ih, l || il⟩

/-- The derivative filter of PID (R140). -/
def pidDeriv (x : LawIn) (y dt : Nat) : Option Nat :=
  if !x.dup && x.act then do
    let d ← lDiv (← lSub (x.word 12) y) dt
    let k := lMin fpOne (← lDiv dt (x.word 4))
    lAdd (x.word 11) (← lMul (← lSub d (x.word 11)) k)
  else some (x.word 11)

/-- PID in automatic (R140). -/
def autoPID (x : LawIn) (e y ff dt : Nat) : Option LawOut := do
  let df ← pidDeriv x y dt
  let p ← lAdd (← lAdd (← lMul (x.word 1) e) (← lMul (x.word 3) df)) ff
  let (i, ih, il) ← integrator x p e dt
  let v ← lAdd p i
  let (u, h, l) := clampU x v
  return ⟨u, e, [(10, i), (11, df)] ++ (if x.dup then [] else [(12, y)]), h || ih, l || il⟩

/-- PR in automatic (R140): the states advance only where the output does not clamp (R141). -/
def autoPR (x : LawIn) (e ff dt : Nat) : Option LawOut := do
  let w ← lMul w2piFp (x.word 3)
  let wc ← lMul w2piFp (x.word 4)
  let sx := x.word 10
  let sz := x.word 11
  let t ← lSub (← lSub e (← lMul (← lMul fpTwo wc) sx)) (← lMul w sz)
  let x' ← lAdd sx (← lMul dt t)
  let z' ← lAdd sz (← lMul dt (← lMul w x'))
  let v ← lAdd (← lAdd (← lMul (x.word 1) e) (← lMul (x.word 2) x')) ff
  let (u, h, l) := clampU x v
  return ⟨u, e, if h || l then [] else [(10, x'), (11, z')], h, l⟩

/-- LEADLAG in automatic (R140). -/
def autoLeadLag (x : LawIn) (e ff dt : Nat) : Option LawOut := do
  let sx := x.word 10
  let d ← lSub e sx
  let q ← lMul (x.word 2) (← lDiv d (x.word 3))
  let v ← lAdd (← lMul (x.word 1) (← lAdd sx q)) ff
  let k := lMin fpOne (← lDiv dt (x.word 3))
  let sx' ← lAdd sx (← lMul d k)
  let (u, h, l) := clampU x v
  return ⟨u, e, [(10, sx')], h, l⟩

/-- BIQUAD in automatic (R140). -/
def autoBiquad (x : LawIn) (e ff : Nat) : Option LawOut := do
  let v ← lAdd (← lMul (x.word 1) e) (x.word 10)
  let words ← (if x.dup then some [] else do
    let z1 ← lAdd (← lSub (← lMul (x.word 2) e) (← lMul (x.word 4) v)) (x.word 11)
    let z2 ← lSub (← lMul (x.word 3) e) (← lMul (x.word 5) v)
    return [(10, z1), (11, z2)])
  let (u, h, l) := clampU x (← lAdd v ff)
  return ⟨u, e, words, h, l⟩

/-- RATE in automatic (R140). -/
def autoRate (x : LawIn) (e dt : Nat) : Option LawOut := do
  let y := x.word 10
  let lim := fpFlip (← lMul (x.word 2) dt)
  let rise ← lMul (x.word 1) dt
  let y1 ← lAdd y (lClamp (← lSub e y) lim rise)
  let (u, h, l) := clampU x y1
  return ⟨u, ← lSub e u, [(10, u)], h, l⟩

/-- The automatic law of a type (R140). -/
def autoLaw (typ : Nat) (x : LawIn) (e y ff dt : Nat) : Option LawOut :=
  match typ with
  | 1 => autoPI x e ff dt
  | 2 => autoPID x e y ff dt
  | 3 => autoPR x e ff dt
  | 4 => autoLeadLag x e ff dt
  | 5 => autoBiquad x e ff
  | _ => autoRate x e dt

/-- The state a type takes in manual operation (R142). -/
def manualPreset (typ : Nat) (x : LawIn) (u e y ff : Nat) : Option (List (Nat × Nat)) :=
  match typ with
  | 1 => do
    let p ← lAdd (← lMul (x.word 1) e) ff
    return [(10, ← lSub u p)]
  | 2 => do
    let p ← lAdd (← lAdd (← lMul (x.word 1) e) (← lMul (x.word 3) (x.word 11))) ff
    return [(10, ← lSub u p), (12, y)]
  | 3 => some [(10, 0), (11, 0)]
  | 4 => some [(10, e)]
  | 5 => do
    let d ← lSub u ff
    return [(10, ← lSub d (← lMul (x.word 1) e)), (11, ← lSub (← lMul (x.word 3) e) (← lMul (x.word 5) d))]
  | _ => some [(10, u)]

/-- Manual operation (R142). -/
def manualLaw (typ : Nat) (x : LawIn) (e y ff m : Nat) : Option LawOut := do
  let (u, h, l) := clampU x m
  let words ← manualPreset typ x u e y ff
  let e' ← (if typ = T_RATE then lSub e u else some e)
  return ⟨u, e', words, h, l⟩

/-- The injection at the output (R140, R147). -/
def injectOut (x : LawIn) (o : LawOut) : Option LawOut :=
  match x.s with
  | some (2, s) => do
    let v ← lAdd o.u s
    let (u, h, l) := clampU x v
    return { o with u := u, hi := o.hi || h, lo := o.lo || l }
  | _ => some o

/-- An evaluation of types 0x1 to 0x6 (R139, R140, R142). -/
def evalCommon (typ : Nat) (x : LawIn) : Option LawEv := do
  let r ← x.inject 0 x.in0
  let y ← x.inject 1 x.in1
  let e ← lSub r y
  let dt ← x.dt
  let man := bit (x.word 0) 4
  let o ← (if man then manualLaw typ x e y x.in2 x.in3 else autoLaw typ x e y x.in2 dt)
  let o ← injectOut x o
  return { words := o.words, satHi := o.hi, satLo := o.lo, act := !man, dup := x.dup,
           gap := decide (1 < x.g) && !x.dup, lastCyc := x.c16, out0 := o.u, out1 := o.e }

/-! ### The swing integrator (R127) -/

/-- The synchronising term of RESYNC. -/
def vsmSync (x : LawIn) : Option Nat := do
  let e ← lSub x.in3 (x.word 14)
  let e ← (if !(fpLtOrd e fpHalf) then lSub e fpOne else some e)
  let e ← (if fpLtOrd e fpMinusHalf then lAdd e fpOne else some e)
  let slip := x.word 10
  lAdd x.in2 (lClamp (← lMul (x.word 9) e) (fpFlip slip) slip)

/-- The integration of RUN and RESYNC: DW, its compensation, the damping reference, the angle and its compensation,
and whether DW was clamped. -/
def vsmIntegrate (x : LawIn) (g : Nat) (resync lim : Bool) (pSet pE : Nat) : Option (List (Nat × Nat) × Bool) := do
  let dt ← lMul (← fin (fpOfInt ((g * x.cycleFab : Nat) : Int))) c16Fp
  let dmax := if lim then x.word 8 else x.word 7
  let dd := if lim then x.word 3 else x.word 2
  let dw := x.word 11
  let ws ← (if resync then vsmSync x else some 0)
  let pw ← lSub (← lAdd pSet (← lMul (x.word 4) (← lSub ws dw))) pE
  let a ← lDiv (← lSub pw (← lMul dd (← lSub dw (x.word 13)))) (x.word 1)
  let y ← lSub (← lMul a dt) (x.word 12)
  let t ← lAdd dw y
  let dwc ← lSub (← lSub t dw) y
  let (dw1, dwc1, sat) :=
    if fpLtOrd dmax t then (dmax, 0, true)
    else if fpLtOrd t (fpFlip dmax) then (fpFlip dmax, 0, true)
    else (t, dwc, false)
  let dwf ← lAdd (x.word 13) (← lMul (← lSub dw1 (x.word 13)) (lMin fpOne (← lDiv dt (x.word 5))))
  let k ← lMul (x.word 6) dt
  let y2 ← lSub (← lAdd k (← lMul k dw1)) (x.word 15)
  let th := x.word 14
  let t2 ← lAdd th y2
  let thc ← lSub (← lSub t2 th) y2
  let th1 ← lSub t2 (fpFloor t2)
  return ([(11, dw1), (12, dwc1), (13, dwf), (14, th1), (15, thc)], sat)

/-- An evaluation of a VSM slot (R127). -/
def evalVsm (x : LawIn) : Option LawEv := do
  let c := x.word 0
  let mode := bits c 8 2
  let pSet ← x.inject 0 x.in0
  let pE ← x.inject 1 x.in1
  let sat := bit c 11
  let integ := decide (2 ≤ mode)
  if integ && x.act && x.gRaw == 0 then
    return { words := [], satHi := sat, act := true, dup := true, lastCyc := bits c 16 16,
             out0 := x.word 11, out1 := x.word 14 }
  else if mode = 0 then
    return { words := [], satHi := sat, act := false, lastCyc := x.c16, out0 := x.word 11, out1 := x.word 14 }
  else if mode = 1 then
    let th ← lSub x.in3 (fpFloor x.in3)
    return { words := [(11, x.in2), (12, 0), (13, x.in2), (14, th), (15, 0)], satHi := sat, act := false,
             lastCyc := x.c16, out0 := x.in2, out1 := th }
  else
    let g := if x.act then x.gRaw else 1
    let (words, clamped) ← vsmIntegrate x g (mode == 3) (bit c 10) pSet pE
    return { words := words, satHi := clamped, act := true, gap := decide (1 < g), lastCyc := x.c16,
             out0 := (words.lookup 11).getD 0, out1 := (words.lookup 14).getD 0 }

/-- An evaluation of a slot (R139): none where an input or a result is not finite. -/
def evalSlot (typ : Nat) (x : LawIn) : Option LawEv :=
  if fpFinite x.in0 && fpFinite x.in1 && fpFinite x.in2 && fpFinite x.in3 then
    if typ = T_VSM then evalVsm x else evalCommon typ x
  else none

/-- The bits of CTRL that an evaluation writes (R125, R137): LAST_CYC, ACT, the limits met (SAT is bit 11 of a VSM record,
SAT_HI and SAT_LO are bits 8 and 9 of the others), DUP and GAP where it sets them. -/
def ctrlPut (typ edge : Nat) (v : LawEv) : WordPut :=
  let flags := b2n v.dup * 2 ^ 12 + b2n v.gap * 2 ^ 13
  let sat := if typ = T_VSM then b2n v.satHi * 2 ^ 11 else b2n v.satHi * 2 ^ 8 + b2n v.satLo * 2 ^ 9
  { edge := edge, entry := true
    mask := (if typ = T_VSM then 0xFFFF4800 else 0xFFFF4300) + flags
    val := sat + flags + b2n v.act * 2 ^ 14 + v.lastCyc % 65536 * 65536 }

/-- The issue interval and latency of a type (R145). -/
def lawTiming (typ : Nat) : Nat × Nat :=
  match typ with
  | 1 => (1, 12) | 5 => (1, 12) | 6 => (1, 10) | 2 => (2, 20) | 3 => (2, 18) | 4 => (2, 22) | 7 => (4, 48)
  | _ => (1, 1)

end Sys2Proof.Machine
end

