-- ==== Sys2Proof/Machine/Law.lean ====
section
/-!
DEFINITION. The Law engine (R125, R126, R133 to R151): its windows and their checks, slot lists, entries, the test
generator and the capture port.
-/
namespace Sys2Proof.Machine

/-- The number of a slot record's word in the engine's windows. -/
def slotKey (i w : Nat) : Nat := 0x4000 + i * 16 + w
/-- The number of an XF word in the engine's windows. -/
def xfKey (x : Nat) : Nat := 0xC000 + x
/-- A word of a slot record or of XF, every write made so far in it. -/
def lawWord (s : State) (key : Nat) : Nat :=
  if key < 0xC000 then s.law.slots.get 0 (key - 0x4000) else s.law.xf.get 0 (key - 0xC000)
/-- A word of a slot record or of XF stored; its error code is good again (R135). -/
def setLawWord (s : State) (key v : Nat) : State :=
  let l := s.law
  { s with
    bad := s.bad.filter (· != 0x20140000 + 4 * key)
    law := if key < 0xC000 then { l with slots := l.slots.set (key - 0x4000) (v % 2 ^ 32) }
           else { l with xf := l.xf.set (key - 0xC000) (v % 2 ^ 32) } }

/-! ### Writes and the edges on which they commit (R137, R145, R146, R186) -/

/-- A word with a write's bits in it. -/
def WordPut.run (p : WordPut) (v : Nat) : Nat := (v &&& (0xFFFFFFFF ^^^ p.mask)) ||| (p.val &&& p.mask)

/-- Writes in the order of their edges; on one edge an entry's write comes after software's and so prevails (R146). -/
def insertPut (p : WordPut) : List WordPut → List WordPut
  | [] => [p]
  | q :: t => if p.edge < q.edge || (p.edge == q.edge && q.entry && !p.entry) then p :: q :: t else q :: insertPut p t

/-- The word with those of its latest writes that a test selects. -/
def LateWord.seen (l : LateWord) (sees : WordPut → Bool) : Nat := (l.puts.filter sees).foldl (fun v p => p.run v) l.before

/-- The latest writes of a word: those of an edge and later, and what it held before them. -/
def lateWord (s : State) (key edge : Nat) : LateWord :=
  match findKey s.law.late key with
  | some l => ⟨l.seen (fun p => decide (p.edge < edge)), l.puts.filter (fun p => decide (edge ≤ p.edge))⟩
  | none => ⟨lawWord s key, []⟩

/-- The word with those of its latest writes that a test selects: what a reader that sees only these finds. -/
def wordSeen (s : State) (key : Nat) (sees : WordPut → Bool) : Nat :=
  match findKey s.law.late key with
  | some l => l.seen sees
  | none => lawWord s key

/-- A write of a word enters its latest writes. -/
def putLawWord (s : State) (key : Nat) (p : WordPut) : State :=
  let l := lateWord s key (min s.fab p.edge)
  let l : LateWord := ⟨l.before, insertPut p l.puts⟩
  setLawWord { s with law := { s.law with late := s.law.late.set key l } } key (l.seen (fun _ => true))

/-- A write that an entry's issue on an edge sees (R137, R145, R146): software's of earlier edges, entries' up to the edge. -/
def WordPut.before (p : WordPut) (edge : Nat) : Bool := decide (p.edge < edge) || (p.entry && decide (p.edge ≤ edge))

/-- Word w of slot i. -/
def slotWord (s : State) (i w : Nat) : Nat := s.law.slots.get 0 (i * 16 + w)
/-- Word w of slot i as an issue on an edge reads it (R125, R137). -/
def slotWordAt (s : State) (i w edge : Nat) : Nat := wordSeen s (slotKey i w) (fun p => p.before edge)
/-- Type code of slot i (R136). -/
def slotType (s : State) (i : Nat) : Nat := slotWord s i 0 % 16
/-- Word w of list entry j (R143). -/
def entryWord (s : State) (j w : Nat) : Nat := s.law.lists.get 0 (j * 4 + w)
/-- The index halfwords of an entry: 0 SLOT, 1 to 4 inputs, 5 to 7 outputs (R143). -/
def entryHalf (s : State) (j h : Nat) : Nat := bits (entryWord s j (h / 2)) (16 * (h % 2)) (if h = 0 then 10 else 12)
/-- A word of the windows under an uncorrectable error, by its offset from the LAW base; `n` words from there (R135). -/
def lawBad (s : State) (off n : Nat) : Bool := (upTo n).any (fun w => s.bad.contains (0x20140000 + off + 4 * w))

/-- An XF word with those of its latest writes that a test selects: word 0 reads 0.0 (R134). -/
def xfSeen (s : State) (x : Nat) (sees : WordPut → Bool) : Nat := if x = 0 then 0 else wordSeen s (xfKey x) sees

/-- An XF word as a fabric load reads it: with every write up to the present edge. -/
def xfRead (s : State) (x : Nat) : Nat := xfSeen s x (fun p => decide (p.edge ≤ s.fab))

/-- An XF word as LAWOUT and an entry's input take it: an open value for a word under an uncorrectable error, for which
R135 states none (log 109). -/
def xfTake (s : State) (x : Nat) (sees : WordPut → Bool) : State × Nat :=
  if x != 0 && lawBad s (4 * xfKey x) 1 then let (v, s) := s.takeFree; (s, v % 2 ^ 32) else (s, xfSeen s x sees)

/-- An XF word as LAWOUT and LAWOUTG read it: as it stood before the present edge (R146, R186); 0 while initialisation runs
(R151). -/
def xfOut (s : State) (x : Nat) : State × Nat :=
  if s.law.initBusy then (s, 0) else xfTake s x (fun p => decide (p.edge < s.fab))

/-- One word of a slot record replaced, whatever was written to it lately. -/
def setSlotWord (s : State) (i w v : Nat) : State :=
  setLawWord { s with law := { s.law with late := s.law.late.filter (·.1 != slotKey i w) } } (slotKey i w) v

/-- A list is queued or running (R144, R150). -/
def listActive (s : State) (k : Nat) : Bool :=
  s.law.queue.any (·.list == k) || (match s.law.run with | some r => r.list == k | none => false)

/-- Any list is queued or running. -/
def lawBusy (s : State) : Bool := !s.law.queue.isEmpty || s.law.run.isSome

/-- Entry j belongs to list k (R143). -/
def entryOfList (s : State) (k j : Nat) : Bool :=
  let a := s.rd LAW_LIST_CFG_START 0 k
  decide (a ≤ j) && decide (j < a + s.rd LAW_LIST_CFG_LEN 0 k)

/-- Entry j belongs to a queued or running list (R146). -/
def entryActive (s : State) (j : Nat) : Bool := (upTo 32).any (fun k => listActive s k && entryOfList s k j)

/-- A queued or running list names slot i (R136). -/
def slotNamed (s : State) (i : Nat) : Bool :=
  (upTo 32).any (fun k => listActive s k &&
    (upTo (s.rd LAW_LIST_CFG_LEN 0 k)).any (fun n => entryHalf s (s.rd LAW_LIST_CFG_START 0 k + n) 0 == i))

/-- QUEUED, RUNNING and QLEVEL as the queue stands (R150). -/
def lawLevels (s : State) : State :=
  let s := s.wr LAW_STATUS_QLEVEL s.law.queue.length
  forN 32 (fun k s =>
    (s.wr LAW_LIST_STATUS_QUEUED (b2n (s.law.queue.any (·.list == k))) 0 k).wr LAW_LIST_STATUS_RUNNING
      (b2n (match s.law.run with | some r => r.list == k | none => false)) 0 k) s

/-! ### Records and their checks (R126, R136, R138) -/

/-- The record a slot takes at initialisation as a type (R125, R136 to R138): word number and value. -/
def slotReset (typ : Nat) : List (Nat × Nat) :=
  let lims := [(8, 0x3F800000), (9, 0xBF800000)]
  match typ with
  | 0 => []
  | 2 => [(0, 2), (4, 0x3F800000)] ++ lims
  | 4 => [(0, 4), (3, 0x3F800000)] ++ lims
  | 5 => [(0, 5), (1, 0x3F800000)] ++ lims
  | 7 => [(0, 7), (1, 0x41200000), (4, 0x41A00000), (5, 0x3F800000), (6, 0x42480000), (7, 0x3D23D70A),
          (8, 0x3CA3D70A), (10, 0x3B03126F)]
  | t => [(0, t)] ++ lims

/-- SLOT_INIT accepted (R136): every word of the record takes the type's reset value. -/
def slotInit (s : State) (i typ : Nat) : State :=
  let s := forN 16 (fun w s => setSlotWord s i w 0) s
  (slotReset typ).foldl (fun s p => setSlotWord s i p.1 p.2) s

/-- The checks of a SLOT_INIT write (R136, R151). -/
def slotInitCodes (s : State) (i typ : Nat) : List Nat :=
  codeIf (s.law.initBusy || slotNamed s i) E_BUSY ++ codeIf (decide (8 ≤ typ)) E_VALUE

/-- Lies below a bound or above one, exactly. -/
def fpOutside (v lo hi : Nat) : Bool := fpLtOrd v lo || fpLtOrd hi v

/-- Ranges of the parameters by type and word (R125, R138). -/
def paramRange (typ w : Nat) : Option (Nat × Nat) :=
  match typ, w with
  | 2, 4 => some (0x358637BD, 0x42C80000)
  | 3, 3 => some (0, 0x451C4000)
  | 3, 4 => some (0, 0x447A0000)
  | 4, 2 => some (0, 0x42C80000)
  | 4, 3 => some (0x358637BD, 0x42C80000)
  | 6, 1 => some (0, 0x7F7FFFFF)
  | 6, 2 => some (0, 0x7F7FFFFF)
  | 7, 1 => some (0x3E4CCCCD, 0x42200000)
  | 7, 2 => some (0, 0x43C80000)
  | 7, 3 => some (0, 0x43C80000)
  | 7, 4 => some (0, 0x43480000)
  | 7, 5 => some (0x3C23D70A, 0x41200000)
  | 7, 6 => some (0x42340000, 0x42840000)
  | 7, 7 => some (0x3A83126F, 0x3DCCCCCD)
  | 7, 8 => some (0x3A83126F, 0x3DCCCCCD)
  | 7, 9 => some (0, 0x3F800000)
  | 7, 10 => some (0, 0x3C23D70A)
  | 7, 14 => some (0, 0x3F7FFFFF)
  | _, _ => none

/-- Order checks between a written word and its partner (R126, R138; log 110): D_LIM below D, DW_LIM_MAX above DW_MAX, DW outside
±DW_MAX, UMIN above UMAX. -/
def recordOrder (typ w : Nat) (rec : Nat → Nat) : Bool :=
  if typ = 7 then
    match w with
    | 2 | 3 => fpLtOrd (rec 3) (rec 2)
    | 7 | 8 => fpLtOrd (rec 7) (rec 8)
    | 11 => fpLtOrd (rec 7) (rec 11) || fpLtOrd (rec 11) (fpFlip (rec 7))
    | _ => false
  else (w == 8 || w == 9) && fpLtOrd (rec 8) (rec 9)

/-- The checks of a write of word w of a slot record (R126, R138, R151). -/
def recordCodes (s : State) (i w v : Nat) : List Nat :=
  let typ := slotType s i
  let rec' := fun n => if n = w then v else slotWord s i n
  if s.law.initBusy then [E_BUSY]
  else if typ = 0 then []
  else if w = 0 then
    if typ = 7 then
      codeIf (bit v 4) E_STATE ++ codeIf (bits v 8 2 == 3 && fpZero (slotWord s i 4)) E_STATE
    else []
  else
    codeIf (!(fpFinite v) || fpSub v) E_VALUE
    ++ (match paramRange typ w with | some (lo, hi) => codeIf (fpOutside v lo hi) E_VALUE | none => [])
    ++ codeIf (typ = 7 && w = 4 && v % 2 ^ 31 == 0 && bits (slotWord s i 0) 8 2 == 3) E_STATE
    ++ codeIf (recordOrder typ w rec') E_RANGE

/-- An accepted write of word w of a slot record, of the bits that the mask selects: a FREE record ignores it, CTRL takes its
writable bits and clears each W1C bit that the write carries as 1 (R5, R125, R136, R137). -/
def recordWrite (s : State) (i w v m : Nat) : State :=
  let typ := slotType s i
  if typ = 0 then s
  else if w = 0 then
    let w1c := v &&& m &&& (if typ = 7 then 0x3000 else 0x3800)
    let rw := m &&& (if typ = 7 then 0x700 else 0x10)
    putLawWord s (slotKey i 0) { edge := s.fab, mask := rw ||| w1c, val := v &&& rw, entry := false }
  else
    let s := putLawWord s (slotKey i w) { edge := s.fab, mask := m, val := v, entry := false }
    match s.law.run with
    | some r => { s with law := { s.law with run := some { r with
        fly := r.fly.map (fun f => if f.slot = i then { f with touched := w :: f.touched } else f) } } }
    | none => s

/-! ### The exchange file (R134, R146) -/

/-- A write of an XF word on an edge, by an entry at its completion or by software: discarded for word 0; where both write the
word on one edge the entry's prevails and XF_COLL is set (R134, R145, R146). -/
def xfPut (s : State) (x : Nat) (p : WordPut) : State :=
  if x = 0 then s
  else
    let coll := (lateWord s (xfKey x) p.edge).puts.any (fun q => q.edge == p.edge && q.entry != p.entry)
    putLawWord (s.raiseIf coll LAW_STATUS_XF_COLL) (xfKey x) p

/-- An entry's write of an XF word on its completion edge (R145, R146). -/
def xfEntryWrite (s : State) (x v edge : Nat) : State :=
  xfPut s x { edge := edge, mask := 0xFFFFFFFF, val := v, entry := true }

/-- LAWIN and LAWING (R186): the word is written on the next edge; refused while initialisation runs (R151). -/
def xfIn (s : State) (x v : Nat) : State :=
  if s.law.initBusy then s.recordErr LAW_ERR_CODE 0 E_BUSY (4 * xfKey x)
  else xfPut s x { edge := s.fab + 1, mask := 0xFFFFFFFF, val := v, entry := false }

/-! ### Lists (R144, R145) -/

/-- The status code of LAWGO k (R144). -/
def lawGoCode (s : State) (k : Nat) : Nat :=
  firstRefusal (codeIf (!(s.on LAW_CTRL_EN) || s.rd LAW_LIST_CFG_LEN 0 k == 0) E_STATE
    ++ codeIf (listActive s k) E_BUSY ++ codeIf (decide (8 ≤ s.law.queue.length)) E_FULL)

/-- A list's place in the queue (R144): in the order of the edges of their LAWGO, on one edge by ascending core. -/
def queueGo (g : LawGo) : List LawGo → List LawGo
  | [] => [g]
  | h :: t => if g.edge < h.edge || (g.edge == h.edge && decide (g.core < h.core)) then g :: h :: t else h :: queueGo g t

/-- LAWGO k of a core (R144, R186): list k enters the queue on the next edge, or the refusal is recorded. -/
def lawGo (s : State) (k core : Nat) : State :=
  let c := lawGoCode s k
  if c = OK then lawLevels { s with law := { s.law with queue := queueGo ⟨k, s.fab + 1, core⟩ s.law.queue } }
  else s.recordErr LAW_ERR_CODE 0 c (0x100 + k * 0x10)

/-- The edge on which the head of the queue starts (R145). -/
def listStartEdge (s : State) (goEdge : Nat) : Nat := max (goEdge + 8) s.law.freeEdge

/-- The head of the queue starts running (R145). -/
def lawListStart (s : State) : State :=
  match s.law.run, s.law.queue with
  | none, ⟨k, go, _⟩ :: q =>
    let e := listStartEdge s go
    let s := s.toEdge e
    lawLevels { s with law := { s.law with
      queue := q
      run := some { list := k, goEdge := go, next := s.rd LAW_LIST_CFG_START 0 k, left := s.rd LAW_LIST_CFG_LEN 0 k,
                    issueEdge := e, issueI := 0 } } }
  | _, _ => s

/-- The running list is done on an edge (R145, R150). -/
def lawListDone (s : State) (r : LawRun) (edge : Nat) : State :=
  let k := r.list
  let t := min 0xFFFF (edge - r.goEdge)
  let s := { s with law := { s.law with run := none, freeEdge := edge + 1 } }
  let s := (s.wr LAW_LIST_STATUS_DONE_CYC (s.rd SYS_CYCLE_COUNT) 0 k).wr LAW_LIST_TIME_LAST t 0 k
  lawLevels (s.wr LAW_LIST_TIME_MAX (max t (s.rd LAW_LIST_TIME_MAX 0 k)) 0 k)

/-- A capture record enters the FIFO, or is dropped (R149). -/
def captureRecord (s : State) (c : CapRecord) : State :=
  let n := s.rd LAW_CAP_IDX_IDX + s.law.fifo.length
  if s.on LAW_CAP_LEN_STOP_FULL && decide (2 ^ s.rd LAW_CAP_LEN_LOG2 ≤ n) then s
  else if 64 ≤ s.law.fifo.length then s.raise LAW_CAP_IDX_CAP_LOST
  else { s with law := { s.law with fifo := s.law.fifo ++ [c] } }

/-- The bytes of a capture record (R149). -/
def CapRecord.bytes (c : CapRecord) : List Nat :=
  leBytes 4 c.s ++ leBytes 4 c.e ++ leBytes 4 c.u ++ leBytes 2 c.cycle ++ [c.stat % 256, c.flags % 256]

/-- The oldest capture record leaves the FIFO for the Cupola ring (R149). -/
def captureDrain (s : State) : State :=
  match s.law.fifo with
  | [] => s
  | c :: t =>
    let i := s.rd LAW_CAP_IDX_IDX
    let a := s.rd LAW_CAP_BASE_ADDR * 16 + 16 * (i % 2 ^ s.rd LAW_CAP_LEN_LOG2)
    let s := engineStore { s with law := { s.law with fifo := t } } 20 LAW_CAP_BASE_ADDR 0 (a % 2 ^ 26) c.bytes
    s.wr LAW_CAP_IDX_IDX (i + 1)

/-- The capture record of a completed evaluation that took a value (R149); OUT0 is an open value where a non-finite one wrote
none (log 109). -/
def captureFly (s : State) (f : LawFly) : State :=
  if f.test then
    let stat := bits (slotWord s f.slot 0) 8 8
    match f.ev with
    | some v => captureRecord s ⟨f.testS, f.testE, v.out0, v.lastCyc, stat, b2n f.testLow + b2n v.gap * 2⟩
    | none =>
      let (u, s) := s.takeFree
      captureRecord s ⟨f.testS, f.testE, u % 2 ^ 32, f.testCyc, stat, b2n f.testLow⟩
  else s

/-- An entry completes (R145): its state and outputs are written, and its record captured. Words software has
written since the issue keep their values (R137). -/
def lawComplete (s : State) (k : Nat) (f : LawFly) : State :=
  if f.skip then s
  else match f.ev with
    | none =>
      let s := s.raise LAW_LIST_STATUS_NF 0 k
      captureFly (if f.typ = T_VSM then s
        else putLawWord s (slotKey f.slot 0) { edge := f.edge, mask := 2 ^ 11, val := 2 ^ 11, entry := true }) f
    | some v =>
      let s := v.words.foldl (fun s p => if f.touched.contains p.1 then s
        else putLawWord s (slotKey f.slot p.1) { edge := f.edge, mask := 0xFFFFFFFF, val := p.2, entry := true }) s
      let s := putLawWord s (slotKey f.slot 0) (ctrlPut f.typ f.edge v)
      let s := s.raiseIf v.dup LAW_LIST_STATUS_DUP 0 k
      let stat := bits (slotWord s f.slot 0) 8 8
      let s := xfEntryWrite s (entryHalf s f.entry 5) v.out0 f.edge
      let s := xfEntryWrite s (entryHalf s f.entry 6) v.out1 f.edge
      captureFly (xfEntryWrite s (entryHalf s f.entry 7) stat f.edge) f

/-- The entry in flight that completes first: the earliest edge, then the earlier entry (R146). -/
def firstFly : List LawFly → Option LawFly
  | [] => none
  | f :: t =>
    match firstFly t with
    | none => some f
    | some g => if f.edge ≤ g.edge then some f else some g

/-- The first completion of the running list, where one is in flight (R145): the clock moves to its edge, and a list
with no entry left is done on its latest completion edge. -/
def lawEntryComplete (s : State) : State :=
  match s.law.run with
  | none => s
  | some r =>
    match firstFly r.fly with
    | none => s
    | some f =>
      let s := lawComplete (s.toEdge f.edge) r.list f
      let fly := r.fly.filter (fun g => g.entry != f.entry)
      let touched := match s.law.run with | some r' => r'.fly.filter (fun g => g.entry != f.entry) | none => fly
      let r := { r with fly := touched }
      let s := { s with law := { s.law with run := some r } }
      if r.left = 0 && touched.isEmpty then lawListDone s r f.edge else s

/-- Every completion due by an edge, at most `n` of them. -/
def lawCompleteUpTo (edge : Nat) : Nat → State → State
  | 0, s => s
  | n + 1, s =>
    match s.law.run with
    | none => s
    | some r =>
      match firstFly r.fly with
      | none => s
      | some f => if f.edge ≤ edge then lawCompleteUpTo edge n (lawEntryComplete s) else s

/-! ### The test generator (R147, R148) -/

/-- A natural number as an FP32 word. -/
def fpNat (n : Nat) : Nat := (fpOfInt n).val

/-- A_eff of R147 at the present count. -/
def testAmp (s : State) : Nat :=
  let n := s.rd LAW_TEST_DONE_N_DONE
  let ramp := s.rd LAW_TEST_RAMP_RAMP
  let total := s.rd LAW_TEST_COUNT_N
  let up := if ramp = 0 then fpOne else (fpDiv (fpNat n) (fpNat ramp)).val
  let down := if ramp = 0 || total = 0 then fpOne else (fpDiv (fpNat (total - n)) (fpNat ramp)).val
  (fpMul (s.rd LAW_TEST_AMP_AMP) (lMin fpOne (lMin up down))).val

/-- The sine of a phase in 2⁻³² turn, in units of 2⁻⁴⁰: the Taylor sum to the thirteenth power over a quarter turn. -/
def sineUnits (p : Nat) : Int :=
  let r : Nat := p % 2 ^ 30
  let k : Nat := if (p / 2 ^ 30) % 2 = 1 then 2 ^ 30 - r else r
  let th : Nat := k * 1727108826179 / 2 ^ 30
  let sq : Nat := th * th / 2 ^ 40
  let poly := (upTo 6).foldr (fun (i : Nat) (a : Int) => (2 ^ 40 : Int) - (sq : Int) * a / (((2 * i + 2) * (2 * i + 3) * 2 ^ 40 : Nat) : Int)) (2 ^ 40)
  let v : Int := (th : Int) * poly / 2 ^ 40
  if (p / 2 ^ 31) % 2 = 1 then -v else v

/-- The sine of the generator's fixed function (R147, log 6): the open value where it keeps the bound on the error, else the
sine rounded. -/
def sineWord (p : Nat) : Nat :=
  let v := (Config.sineFp p).toNat
  let z := sineUnits p
  if fpFinite v && decide ((fpScaled v (-149) - z * 2 ^ 109).natAbs ≤ 1979120 * 2 ^ 109) then v
  else (fpRound (decide (z < 0)) z.natAbs (-40) false).val

/-- The injected value s of R147. -/
def testValue (s : State) : Nat :=
  let a := testAmp s
  if s.rd LAW_TEST_CTRL_WAVE = 2 then (if s.law.prbs % 2 = 1 then a else fpFlip a)
  else (fpMul a (sineWord (s.law.phase % 2 ^ 32))).val

/-- The PRBS-15 register after a shift: x¹⁵ + x¹⁴ + 1 (R147; log 11). -/
def prbsNext (r : Nat) : Nat := (r * 2 + b2n (xor (bit r 14) (bit r 13))) % 2 ^ 15

/-- The chirp increment after a value (R147). -/
def chirpNext (s : State) : Nat :=
  let step := s.rdS LAW_TEST_STEP_STEP
  let goal := s.rd LAW_TEST_INC1_INC1
  let n : Int := (s.law.inc : Int) + step
  if (0 < step && (goal : Int) ≤ n) || (step < 0 && n ≤ goal) then goal else uz 32 n

/-- The generator after a value (R147): the count advances, and the test ends after N values (R148). -/
def testAdvance (s : State) : State :=
  let l := s.law
  let hold := l.held + 1
  let shift := decide (s.rd LAW_TEST_PRBS_HOLD ≤ hold)
  let l := { l with
    phase := (l.phase + l.inc) % 2 ^ 32
    inc := if s.rd LAW_TEST_CTRL_WAVE = 1 then chirpNext s else l.inc
    held := if shift then 0 else hold
    prbs := if shift then prbsNext l.prbs else l.prbs }
  { s with law := l }.count LAW_TEST_DONE_N_DONE

/-- The end of the test after its N values (R148). -/
def testEnd (s : State) : State :=
  if s.on LAW_TEST_CTRL_ACTIVE && s.rd LAW_TEST_COUNT_N != 0
      && decide (s.rd LAW_TEST_COUNT_N ≤ s.rd LAW_TEST_DONE_N_DONE) then s.clear LAW_TEST_CTRL_ACTIVE
  else s

/-- START and STOP at the tick (R148). -/
def testTick (s : State) : State :=
  let st := s.law.startReq
  let sp := s.law.stopReq
  let s := { s with law := { s.law with startReq := false, stopReq := false } }
  testStop sp (testStart st s)
where
  /-- A START of the last cycle (R148). -/
  testStart (st : Bool) (s : State) : State :=
    if st && !(s.on LAW_TEST_CTRL_ACTIVE) then
      let s := (s.wr LAW_TEST_DONE_N_DONE 0).wr LAW_CAP_IDX_IDX 0
      { (s.raise LAW_TEST_CTRL_ACTIVE) with law := { s.law with
          phase := 0, inc := s.rd LAW_TEST_INC0_INC0, prbs := s.rd LAW_TEST_PRBS_SEED, held := 0 } }
    else s
  /-- A STOP of the last cycle (R148): with N = 0 the test ends after RAMP more values, at once where there are none; with N > 0
  it ends at the tick (log 111). -/
  testStop (sp : Bool) (s : State) : State :=
    if sp && s.on LAW_TEST_CTRL_ACTIVE then
      let s' := s.wr LAW_TEST_COUNT_N (s.rd LAW_TEST_DONE_N_DONE + s.rd LAW_TEST_RAMP_RAMP)
      if s.rd LAW_TEST_COUNT_N != 0 then s.clear LAW_TEST_CTRL_ACTIVE
      else if s.rd LAW_TEST_RAMP_RAMP = 0 then s'.clear LAW_TEST_CTRL_ACTIVE else s'
    else s

/-! ### Issue (R139, R145) -/

/-- The inputs of an entry's evaluation that issues on an edge (R139), nothing injected. -/
def lawInputs (s : State) (j i edge : Nat) : State × LawIn :=
  let sees := fun (p : WordPut) => p.before edge
  let word := fun w => slotWordAt s i w edge
  let (s, a) := xfTake s (entryHalf s j 1) sees
  let (s, b) := xfTake s (entryHalf s j 2) sees
  let (s, c) := xfTake s (entryHalf s j 3) sees
  let (s, d) := xfTake s (entryHalf s j 4) sees
  (s, { word := word, in0 := a, in1 := b, in2 := c, in3 := d,
        c16 := s.rd SYS_CYCLE_COUNT % 65536, cycleFab := s.pipe.cycleFab })

/-- The E of a capture record: IN0 − IN1 after injection (R149). -/
def captureE (x : LawIn) : Nat :=
  (fpSubtract ((x.inject 0 x.in0).getD x.in0) ((x.inject 1 x.in1).getD x.in1)).val

/-- An evaluation of the test slot that is no duplicate takes a value while the test is active (R147). -/
def takesValue (s : State) (i typ : Nat) (x : LawIn) : Bool :=
  s.on LAW_TEST_CTRL_ACTIVE && s.rd LAW_TEST_CTRL_SLOT == i
    && !(if typ = T_VSM then decide (2 ≤ bits (x.word 0) 8 2) && x.dup else x.dup)

/-- The next entry of the running list issues on an edge (R135, R144, R145): the record and the inputs are read and
the results fixed; they are written at completion. -/
def issueEntry (s : State) (r : LawRun) (edge : Nat) : State :=
  let j := r.next
  let i := entryHalf s j 0
  let typ := slotType s i
  let (I, L) := lawTiming typ
  let r := { r with next := j + 1, left := r.left - 1, issueEdge := edge, issueI := I }
  let fly0 : LawFly := { entry := j, slot := i, typ := typ, edge := edge + L, skip := true }
  let put := fun (s : State) (f : LawFly) => { s with law := { s.law with run := some { r with fly := r.fly ++ [f] } } }
  if typ = 0 then put (s.raise LAW_LIST_STATUS_FREE 0 r.list) fly0
  else if lawBad s (0x10000 + i * 0x40) 16 then
    put ((s.raise LAW_LIST_STATUS_ECC 0 r.list).recordErr LAW_ERR_CODE 0 E_ECC (0x10000 + i * 0x40)) fly0
  else
    let (s, x) := lawInputs s j i edge
    let touched := (upTo 16).filter (fun w =>
      w != 0 && (lateWord s (slotKey i w) edge).puts.any (fun p => !p.entry))
    let fly0 := { fly0 with skip := false, touched := touched }
    if takesValue s i typ x then
      let v := testValue s
      let x := { x with s := some (s.rd LAW_TEST_CTRL_POINT, v) }
      let f := { fly0 with ev := evalSlot typ x, test := true, testS := v, testE := captureE x, testCyc := x.c16
                           testLow := fpLtOrd (testAmp s) (s.rd LAW_TEST_AMP_AMP) }
      put (testEnd (testAdvance s)) f
    else
      let x := if s.rd LAW_TEST_CTRL_SLOT = i then { x with s := some (s.rd LAW_TEST_CTRL_POINT, 0) } else x
      put s { fly0 with ev := evalSlot typ x }

/-- The first edge on which the next entry may issue (R145). -/
def issueEdgeOf (s : State) (r : LawRun) : Nat :=
  let j := r.next
  let reads := [entryHalf s j 1, entryHalf s j 2, entryHalf s j 3, entryHalf s j 4]
  r.fly.foldl (fun e f =>
    let writes := [entryHalf s f.entry 5, entryHalf s f.entry 6, entryHalf s f.entry 7]
    if f.slot = entryHalf s j 0 || reads.any (fun x => x != 0 && writes.contains x) then max e f.edge else e)
    (r.issueEdge + r.issueI)

/-- LAW_ENTRY_ISSUE (R145): completions due by the issue edge come first. A list entry under an uncorrectable error
stops the list (R135). -/
def lawEntryIssue (s : State) : State :=
  match s.law.run with
  | none => s
  | some r =>
    if r.left = 0 then s
    else
      let e := issueEdgeOf s r
      let s := (lawCompleteUpTo e 2048 s).toEdge e
      match s.law.run with
      | none => s
      | some r =>
        if lawBad s (0x20000 + r.next * 16) 4 then
          let s := s.raise LAW_LIST_STATUS_ECC 0 r.list
          let r := { r with left := 0 }
          if r.fly.isEmpty then lawListDone s r e else { s with law := { s.law with run := some r } }
        else issueEntry s r e

/-! ### Initialisation and control (R150, R151) -/

/-- Initialisation starts (R151): it writes every word of the slot, list and exchange windows. -/
def lawInit (s : State) : State :=
  let s := { s with
    bad := s.bad.filter (fun a => !(decide (0x20150000 ≤ a) && decide (a < 0x20174000)))
    law := { s.law with slots := [], lists := [], xf := [], late := [], initBusy := true } }
  let s := s.clear LAW_STATUS_INIT_DONE
  forN 32 (fun k s => (s.wr LAW_LIST_CFG_START 0 0 k).wr LAW_LIST_CFG_LEN 0 0 k) s

/-- Initialisation completes (R151). -/
def lawInitDone (s : State) : State :=
  if s.law.initBusy then { (s.raise LAW_STATUS_INIT_DONE) with law := { s.law with initBusy := false } } else s

/-- A clear of CTRL.EN empties the queue; the running list finishes (R150). -/
def lawDisabled (s : State) : State :=
  if s.on LAW_CTRL_EN then s else lawLevels { s with law := { s.law with queue := [] } }

/-! ### The windows (R133 to R135, R146) -/

/-- A word of the slot, list or XF window as it stands (R133, R134). -/
def lawWindow (s : State) (off : Nat) : Nat :=
  if off < 0x20000 then slotWord s ((off - 0x10000) / 64) (off % 64 / 4)
  else if off < 0x30000 then entryWord s ((off - 0x20000) / 16) (off % 16 / 4)
  else xfRead s ((off - 0x30000) / 4)

/-- A software read of a word of one of the four windows whose value is `v` (R135, R151): 0 while initialisation runs, E_ECC
with an open value for a word under an uncorrectable error (log 109). -/
def lawAnswer (s : State) (off v : Nat) : State × Nat × Nat :=
  if s.law.initBusy then (s, OK, 0)
  else if lawBad s off 1 then let (u, s) := s.takeFree; (s, E_ECC, u % 2 ^ 32)
  else (s, OK, v)

/-- A write that carries only a part of a word under an uncorrectable error meets it (R11, R135; log 108). -/
def lawPartCodes (s : State) (off m : Nat) : List Nat := codeIf (lawBad s off 1 && m % 2 ^ 32 != 0xFFFFFFFF) E_ECC

/-- The checks of a software write of a window word (R126, R138, R146, R151). -/
def lawWindowCodes (s : State) (off v : Nat) : List Nat :=
  if s.law.initBusy then [E_BUSY]
  else if off < 0x20000 then recordCodes s ((off - 0x10000) / 64) (off % 64 / 4) v
  else if off < 0x30000 then codeIf (entryActive s ((off - 0x20000) / 16)) E_BUSY
  else []

/-- The bits of a list entry's word that are stored: the index fields (R143). -/
def entryMask (w : Nat) : Nat := if w = 0 then 0x0FFF03FF else 0x0FFF0FFF

/-- An accepted software write of a window word, of the bits that the mask selects; its error code is good again (R135). -/
def lawWindowApply (s : State) (off v m : Nat) : State :=
  let s := { s with bad := s.bad.filter (· != 0x20140000 + off) }
  if off < 0x20000 then recordWrite s ((off - 0x10000) / 64) (off % 64 / 4) v m
  else if off < 0x30000 then
    let w := off % 16 / 4
    { s with law := { s.law with lists := s.law.lists.set ((off - 0x20000) / 4) (v &&& entryMask w) } }
  else xfPut s ((off - 0x30000) / 4) { edge := s.fab, mask := m, val := v, entry := false }

/-! ### Register checks and effects (R148, R150) -/

/-- The checks of a LAW register write beyond its fields' own (R136, R148, R150): `new` gives the register's fields
as the write would leave them. -/
def lawRegCodes (s : State) (off data : Nat) : List Nat :=
  let active := s.on LAW_TEST_CTRL_ACTIVE
  codeIf s.law.initBusy E_BUSY ++ match off with
  | 0x000 => codeIf (bit data 1 && lawBusy s) E_BUSY
  | 0x008 => slotInitCodes s (bits data 0 10) (bits data 16 4)
  | 0x010 =>
    codeIf (bit data 24 && active) E_BUSY
    ++ codeIf (bit data 24 && bits data 12 2 == 2 && slotType s (bits data 0 10) == T_VSM) E_STATE
  | 0x014 => codeIf (!(fpFinite data) || (fpNeg data && !(fpZero data))) E_VALUE
  | 0x048 => codeIf (bit data 31 && active) E_BUSY
  | o =>
    if 0x100 ≤ o && o < 0x300 && o % 16 = 0 then
      codeIf (decide (2048 < bits data 0 11 + bits data 16 12)) E_RANGE
    else []

/-- The effects of an accepted LAW register write beyond its fields' own (R136, R148, R150, R151). -/
def lawRegEffect (s : State) (off data : Nat) : State :=
  match off with
  | 0x000 => let s := if bit data 1 then lawInit s else s
             lawDisabled s
  | 0x008 => slotInit s (bits data 0 10) (bits data 16 4)
  | 0x010 => { s with law := { s.law with startReq := s.law.startReq || bit data 24
                                          stopReq := s.law.stopReq || bit data 25 } }
  | o =>
    if 0x100 ≤ o && o < 0x300 && o % 16 = 4 && data &&& 0x3C = 0x3C then s.wr LAW_LIST_TIME_MAX 0 0 ((o - 0x100) / 16)
    else s

end Sys2Proof.Machine
end

