-- ==== Sys2Proof/Machine/Sha.lean ====
section
/-!
DEFINITION. The hashes of FIPS 180-4: SHA-384, which the ledger pages, manifests and Keep's password digest use (R203, R205, R356,
R386), and SHA-256 and SHA-512, which SLH-DSA uses (R205). The constants are computed from the primes, as that standard states them.
-/
namespace Sys2Proof.Machine

/-! ### Constants: fractional parts of the roots of the first primes -/

/-- No number from 2 below n divides n. -/
def isPrime (n : Nat) : Bool := decide (2 ≤ n) && ((upTo n).drop 2).all (fun d => n % d != 0)

/-- The first 80 primes. -/
def primes80 : List Nat := (upTo 410).filter isPrime

/-- The greatest r below 2 ^ bits added to `acc` whose k-th power is at most n, bit by bit from the highest. -/
def rootFrom (k n : Nat) : Nat → Nat → Nat
  | 0, acc => acc
  | b + 1, acc => rootFrom k n b (if (acc + 2 ^ b) ^ k ≤ n then acc + 2 ^ b else acc)

/-- The first `bits` bits of the fractional part of the k-th root of p. -/
def rootFraction (k bits p : Nat) : Nat := rootFrom k (p * 2 ^ (k * bits)) (bits + 6) 0 % 2 ^ bits

/-- A hash of the family: word width, rounds, the primes of its initial value, the length of its digest in bytes, and the amounts of
its four mixing functions, two of which end in a shift. -/
structure HashKind where
  bits : Nat
  rounds : Nat
  firstPrime : Nat
  size : Nat
  sum0 : List Nat
  sum1 : List Nat
  sig0 : List Nat
  shift0 : Nat
  sig1 : List Nat
  shift1 : Nat

/-- SHA-256. -/
def SHA256 : HashKind :=
  { bits := 32, rounds := 64, firstPrime := 0, size := 32, sum0 := [2, 13, 22], sum1 := [6, 11, 25]
    sig0 := [7, 18], shift0 := 3, sig1 := [17, 19], shift1 := 10 }

/-- SHA-512. -/
def SHA512 : HashKind :=
  { bits := 64, rounds := 80, firstPrime := 0, size := 64, sum0 := [28, 34, 39], sum1 := [14, 18, 41]
    sig0 := [1, 8], shift0 := 7, sig1 := [19, 61], shift1 := 6 }

/-- SHA-384: SHA-512 from other primes, cut to 48 bytes. -/
def SHA384 : HashKind := { SHA512 with firstPrime := 8, size := 48 }

/-- The initial value. -/
def HashKind.start (k : HashKind) : List Nat := ((primes80.drop k.firstPrime).take 8).map (rootFraction 2 k.bits)

/-- The round constants. -/
def HashKind.constants (k : HashKind) : List Nat := (primes80.take k.rounds).map (rootFraction 3 k.bits)

/-! ### Mixing -/

/-- A sum modulo the word. -/
def HashKind.add (k : HashKind) (xs : List Nat) : Nat := xs.sum % 2 ^ k.bits

/-- A word rotated right by each of some amounts, the results combined by exclusive or. -/
def HashKind.turn (k : HashKind) (amounts : List Nat) (x : Nat) : Nat :=
  amounts.foldl (fun acc n => acc ^^^ (x / 2 ^ n + x % 2 ^ n * 2 ^ (k.bits - n))) 0

/-- The bit of y where x has 1, of z where it has 0. -/
def choose3 (x y z : Nat) : Nat := z ^^^ (x &&& (y ^^^ z))
/-- The bit that at least two of three words have. -/
def vote3 (x y z : Nat) : Nat := (x &&& y) ||| (z &&& (x ||| y))

/-- The message schedule, newest word first, after `n` further words. -/
def HashKind.schedule (k : HashKind) : Nat → List Nat → List Nat
  | 0, w => w
  | n + 1, w =>
    let late := nth 0 w 1
    let early := nth 0 w 14
    let x := k.turn k.sig1 late ^^^ late / 2 ^ k.shift1
    let y := k.turn k.sig0 early ^^^ early / 2 ^ k.shift0
    k.schedule n (k.add [x, nth 0 w 6, y, nth 0 w 15] :: w)

/-- One round. Of the eight working variables a to d are the last four values of one sequence and e to h those of another, both
newest first. -/
def HashKind.round (k : HashKind) (v : List Nat × List Nat) (kw : Nat) : List Nat × List Nat :=
  let up := fun i => nth 0 v.1 i
  let lo := fun i => nth 0 v.2 i
  let t := k.add [lo 3, k.turn k.sum1 (lo 0), choose3 (lo 0) (lo 1) (lo 2), kw]
  (k.add [t, k.turn k.sum0 (up 0), vote3 (up 0) (up 1) (up 2)] :: v.1.take 3, k.add [t, up 3] :: v.2.take 3)

/-- The big-endian words of `n` bytes each of a list of bytes. -/
def bigWords (n : Nat) : Nat → List Nat → List Nat
  | 0, _ => []
  | c + 1, b => beNat (b.take n) :: bigWords n c (b.drop n)

/-- One block worked into a hash value. -/
def HashKind.block (k : HashKind) (h b : List Nat) : List Nat :=
  let w := (k.schedule (k.rounds - 16) (bigWords (k.bits / 8) 16 b).reverse).reverse
  let v := (List.zipWith (· + ·) k.constants w).foldl k.round (h.take 4, h.drop 4)
  List.zipWith (fun x y => k.add [x, y]) h (v.1 ++ v.2)

/-- Bytes of a block. -/
def HashKind.blockBytes (k : HashKind) : Nat := 2 * k.bits

/-- The message with its padding: one bit, zeros, the length in bits as two words. -/
def HashKind.padded (k : HashKind) (m : List Nat) : List Nat :=
  let len := k.bits / 4
  let filled := (m.length + 1 + len) % k.blockBytes
  m ++ 0x80 :: List.replicate ((k.blockBytes - filled) % k.blockBytes) 0 ++ beBytes len (8 * m.length)

/-- `n` blocks of a padded message worked into a hash value. -/
def HashKind.blocks (k : HashKind) : Nat → List Nat → List Nat → List Nat
  | 0, h, _ => h
  | n + 1, h, m => k.blocks n (k.block h (m.take k.blockBytes)) (m.drop k.blockBytes)

/-- The digest of a message, as bytes. -/
def HashKind.digest (k : HashKind) (m : List Nat) : List Nat :=
  let p := k.padded m
  ((k.blocks (p.length / k.blockBytes) k.start p).map (beBytes (k.bits / 8))).flatten.take k.size

/-- SHA-384 of a list of bytes: 48 bytes. -/
def sha384 (m : List Nat) : List Nat := SHA384.digest m

/-- `n` hashes of a seed with a big-endian counter. -/
def HashKind.counted (k : HashKind) (seed : List Nat) : Nat → List Nat
  | 0 => []
  | n + 1 => k.counted seed n ++ k.digest (seed ++ beBytes 4 n)

/-- The mask generation function MGF1 over a hash (RFC 8017): `len` bytes. -/
def HashKind.mgf1 (k : HashKind) (seed : List Nat) (len : Nat) : List Nat :=
  (k.counted seed (ceilDiv len k.size)).take len

/-- HMAC over a hash (FIPS 198-1), with a key not longer than a block. -/
def HashKind.hmac (k : HashKind) (key m : List Nat) : List Nat :=
  let full := key ++ List.replicate (k.blockBytes - key.length) 0
  let masked := fun x => full.map (fun b => b ^^^ x)
  k.digest (masked 0x5C ++ k.digest (masked 0x36 ++ m))

end Sys2Proof.Machine
end

