-- ==== Sys2Proof/Machine/Keep.lean ====
section
/-!
DEFINITION. The Keep safety island (R344 to R358). Its times run on KCLK; the model takes KCLK at its nominal 20 MHz, so
1 ms is 625,000 FAB clocks.
-/
namespace Sys2Proof.Machine

/-- Keep's hidden state replaced by a function of it. -/
def State.updKeep (s : State) (f : KeepSt → KeepSt) : State := { s with keep := f s.keep }

/-- FAB clocks of a millisecond on a nominal KCLK. -/
def MS : Nat := 625000

/-! ### Configuration and its CRC (R355, R356) -/

/-- Offsets of the configuration registers, ascending (R355, R358). -/
def keepConfigOffs : List Nat :=
  (upTo 8).map (fun i => 0x100 + 4 * i) ++ (upTo 4).map (fun m => 0x140 + 4 * m) ++ [0x160, 0x164, 0x168, 0x16C, 0x170]

/-- The configuration fields, with the number of their instances. -/
def keepConfigFields : List Fld :=
  [KEEP_KIN_FILT, KEEP_KIN_FUNC, KEEP_KIN_PAIRED, KEEP_KIN_DISC, KEEP_FBPAIR_EN, KEEP_FBPAIR_RELAY, KEEP_FBPAIR_BIND,
   KEEP_FBPAIR_ESC, KEEP_FBPAIR_DISC_T, KEEP_FBPAIR_FOLLOW_T, KEEP_RAMP_START_V, KEEP_RAMP_END_V, KEEP_RAMP_T_T,
   KEEP_RAMP_T_GRACE, KEEP_RAMP_CNT_CNT, KEEP_RAMP_CNT_MON_TOL, KEEP_SGR_CFG_CHOP_KEEP, KEEP_SGR_CFG_SPW_RELAYS,
   KEEP_SGR_CFG_W_RELAYS]

/-- The value of a configuration field in the staged copy. -/
def keepStaged (s : State) (f : Fld) (j : Nat) : Nat :=
  match findKey s.staged (f.key 0 j) with | some g => g.val | none => s.rd f 0 j

/-- The configuration word at an offset, its fields taken by a reader. -/
def keepWord (v : Fld → Nat → Nat) (off : Nat) : Nat :=
  sumOf (fun f => sumOf (fun j => if f.off + j * f.sub = off then v f j * 2 ^ f.lsb else 0) (upTo f.cnt)) keepConfigFields

/-- The CRC-32C of a configuration: its words in ascending offset, each least significant byte first. -/
def keepCrc (v : Fld → Nat → Nat) : Nat := crc32c ((keepConfigOffs.map (fun o => leBytes 4 (keepWord v o))).flatten)

/-- CFG_CRC (R358). -/
def appliedCrc (s : State) : Nat := keepCrc (fun f j => s.rd f 0 j)

/-- STAGED_CRC (R355). -/
def stagedCrc (s : State) : Nat := keepCrc (keepStaged s)

/-- CFG_STATUS.STAGED: the staged copy differs from the applied one. -/
def stagedDiffers (s : State) : Bool :=
  keepConfigFields.any (fun f => (upTo f.cnt).any (fun j => keepStaged s f j != s.rd f 0 j))

/-! ### Change log (R357) -/

/-- A record of the change log, where fewer than `room` are held; otherwise LOG_LOST. -/
def keepLog (s : State) (kind port cause oldCrc newCrc last room : Nat) : State :=
  if room ≤ s.keep.log.length then s.raise KEEP_STATUS_LOG_LOST
  else
    let t := if s.on CAMPANILE_STATUS_LOST then 0 else s.ns
    let r : KeepRec := ⟨s.keep.nextSeq, t, kind, port, cause, oldCrc, newCrc, last⟩
    let s := s.updKeep (fun k => { k with log := k.log ++ [r], nextSeq := (k.nextSeq + 1) % 2 ^ 32 })
    (s.raise KEEP_STATUS_LOG_EV).wr KEEP_LOG_LEVEL_N s.keep.log.length

/-- The 32 bytes of a record (R357). -/
def KeepRec.bytes (r : KeepRec) : List Nat :=
  leBytes 4 r.seq ++ leBytes 8 r.timeNs ++ [r.kind, r.port, r.cause, 0] ++ leBytes 4 r.oldCrc ++ leBytes 4 r.newCrc
    ++ leBytes 4 r.last ++ leBytes 4 0

/-- Word w of the selected record (R358); 0 where none is held. -/
def keepLogWord (s : State) (w : Nat) : Nat :=
  match s.keep.log[s.rd KEEP_LOG_SEL_IDX]? with
  | some r => leNat ((r.bytes.drop (4 * w)).take 4)
  | none => 0

/-! ### Outputs -/

/-- The state code of feedback pair m (R351, R358). -/
def fbState (s : State) (m : Nat) : Nat := bits (s.rd KEEP_FBSTATE_STATE) (2 * m) 2

/-- Relays de-energised (R347, R350): each bound pair whose relay was energised, and that does not read OPEN already, starts its
follow timer (R351). -/
def deenergise (s : State) (mask : Nat) : State :=
  let old := s.rd KEEP_OUTPUTS_RELAY
  let new := old &&& (0xF ^^^ (mask % 16))
  let s := (s.wr KEEP_OUTPUTS_RELAY new).wr KEEP_OUTPUTS_RLY_RB new
  forN 4 (fun m s =>
    let r := s.rd KEEP_FBPAIR_RELAY 0 m
    if s.on KEEP_FBPAIR_BIND 0 m && bit old r && bit mask r && fbState s m != 0 then
      s.updKeep (fun k => { k with follow := k.follow.set m (s.fab + s.rd KEEP_FBPAIR_FOLLOW_T 0 m * MS) })
    else s) s

/-- Keep's request rises at the gate command stage (R116): GCS_BLOCK.KEEP and one record of source 13. -/
def keepRises (s : State) : State := pushEvt (s.raise SYS_GCS_BLOCK_KEEP) ⟨s.ns, 13, false, 0, 0, 5⟩

/-- The request a stage comes out of reset to (R345, R347, log 23): it rises there once the FAB clock runs. -/
def keepAtLock (s : State) : State :=
  if s.on SYS_CLK_STATUS_LOCK && s.gcs.keepReq && !(s.on SYS_GCS_BLOCK_KEEP) then keepRises s else s

/-- Safe Gate Removal activated (R347, R116): KGEN deasserted, but KGEN1 with CHOP_KEEP, the request raised at the gate
command stage. -/
def gateRemoval (s : State) : State :=
  let keepChop := s.on KEEP_SGR_CFG_CHOP_KEEP && !(s.on KEEP_STATUS_SAFE_FAULT)
  let s := s.wr KEEP_OUTPUTS_KGEN (if keepChop then s.rd KEEP_OUTPUTS_KGEN &&& 2 else 0)
  let s := s.raise KEEP_STATUS_SGR
  if s.gcs.keepReq then s
  else
    let s := if s.on SYS_CLK_STATUS_LOCK then keepRises s else s
    { s with gcs := { s.gcs with keepReq := true }, keep := { s.keep with ticks := 0 } }

/-- A withdrawal completes (R350). -/
def withdrawn (s : State) : State :=
  let s := deenergise (gateRemoval s) (s.rd KEEP_SGR_CFG_SPW_RELAYS)
  (s.clear KEEP_STATUS_SPW).raise KEEP_STATUS_WITHDRAWN

/-- A Safe Gate Removal demand (R347); during a ramp it completes the withdrawal (R350). -/
def demandSgr (s : State) : State :=
  let s := s.raise KEEP_STATUS_DEMAND
  if s.on KEEP_STATUS_SPW then withdrawn s else gateRemoval s

/-- A withdrawal request (R349, R350): complete at once while Safe Gate Removal is active, nothing while one runs, else a
ramp, which fails at once without the plausibility pair. DEMAND is what raises source 205. -/
def demandSpw (s : State) : State :=
  if s.on KEEP_STATUS_SPW then s
  else if s.on KEEP_STATUS_SGR then withdrawn (s.raise KEEP_STATUS_DEMAND)
  else
    let s := ((s.raise KEEP_STATUS_SPW).raise KEEP_STATUS_DEMAND).updKeep (fun k => { k with
      rampStart := s.fab, rampPair := s.fab, freshA := false, freshB := false, doneRun := 0, highRun := 0, diffRun := 0 })
    let s := s.wr KEEP_RAMP_NOW_LIMIT (s.rd KEEP_RAMP_START_V)
    if s.on ADC_PLAUS_EN 0 then s else withdrawn (s.raise KEEP_STATUS_RAMP_FAIL)

/-! ### Safety inputs (R346) -/

/-- Input i belongs to a pair (R346). -/
def kinPaired (s : State) (i : Nat) : Bool := s.on KEEP_KIN_PAIRED 0 (i - i % 2)

/-- The function of input i: a pair takes that of its even input (R346). -/
def kinFunc (s : State) (i : Nat) : Nat := s.rd KEEP_KIN_FUNC 0 (if kinPaired s i then i - i % 2 else i)

/-- Inputs whose demand counts: functions 1 to 3. -/
def demandInputs (s : State) : Nat :=
  forN 8 (fun i m => if 1 ≤ kinFunc s i && kinFunc s i ≤ 3 then m + 2 ^ i else m) 0

/-- The pairs' disagreement follows their filtered inputs; a latched fault stops blocking a release once both inputs have
shown no demand together, or on an ACK pair have read low together (R346, R348). -/
def kinPairs (s : State) : State :=
  let d := s.rd KEEP_INPUTS_DEMAND
  forN 4 (fun m s =>
    let a := bit d (2 * m)
    let b := bit d (2 * m + 1)
    let ack := kinFunc s (2 * m) == 4
    let s :=
      if a == b then s.updKeep (fun k => { k with disagree := Sp.del k.disagree m })
      else if (findKey s.keep.disagree m).isSome then s
      else s.updKeep (fun k => { k with disagree := k.disagree.set m s.fab })
    if (if ack then a && b else !a && !b) then
      s.updKeep (fun k => { k with pairBlocks := if bit k.pairBlocks m then k.pairBlocks - 2 ^ m else k.pairBlocks })
    else s) s

/-- Inputs of a mask become filtered demands on one KCLK edge (R346, R347): they act together, with the union of their
functions. -/
def keepDemand (s : State) (mask : Nat) : State :=
  let m := mask % 256
  let s := s.orIn KEEP_INPUTS_DEMAND m
  let s := s.wr KEEP_INPUTS_RAW (s.rd KEEP_INPUTS_RAW &&& (0xFF ^^^ m))
  let s := kinPairs s
  let has := fun f => (upTo 8).any (fun i => bit m i && kinFunc s i == f)
  let s := s.raiseIf (has 1 || has 2 || has 3) KEEP_STATUS_DEMAND
  let s := if has 1 || has 2 then demandSgr s else s
  let s := if has 2 then (deenergise s (s.rd KEEP_SGR_CFG_W_RELAYS)).raise KEEP_STATUS_WITHDRAWN else s
  if has 3 then demandSpw s else s

/-- Inputs of a mask return to no demand after their filters (R346). -/
def keepDemandEnd (s : State) (mask : Nat) : State :=
  let m := mask % 256
  let s := s.wr KEEP_INPUTS_DEMAND (s.rd KEEP_INPUTS_DEMAND &&& (0xFF ^^^ m))
  kinPairs (s.orIn KEEP_INPUTS_RAW m)

/-- Paired inputs disagreeing longer than DISC latch PAIR_FAULT (R346). -/
def keepPairFault (s : State) (m : Nat) : State :=
  match findKey s.keep.disagree m with
  | none => s
  | some e =>
    if !(kinPaired s (2 * m)) then s
    else
      let s := s.toEdge (e + s.rd KEEP_KIN_DISC 0 (2 * m) * MS)
      let ack := kinFunc s (2 * m) == 4
      let s := (s.raise KEEP_STATUS_PAIR_FAULT).updKeep (fun k => { k with
        pairFault := k.pairFault ||| 2 ^ m, pairBlocks := k.pairBlocks ||| 2 ^ m
        acks := if ack then k.acks &&& (0xFF ^^^ (3 * 2 ^ (2 * m))) else k.acks })
      s

/-! ### Release (R348) -/

/-- A demand is present (R348): a filtered one, a latched PAIR_FAULT that still blocks, a latched FB_FAULT with ESC of a
pair still DISCREPANT. -/
def demandPresent (s : State) : Bool :=
  (s.rd KEEP_INPUTS_DEMAND &&& demandInputs s) != 0 || s.keep.pairBlocks != 0
    || (upTo 4).any (fun m => bit s.keep.fbFault m && s.on KEEP_FBPAIR_ESC 0 m
        && decide (2 ≤ fbState s m))

/-- Codes of a release, the port apart (R348). -/
def releaseCodes (s : State) : List Nat :=
  codeIf (s.on KEEP_STATUS_SAFE_FAULT || s.on KEEP_STATUS_SPW) E_STATE ++ codeIf (demandPresent s) E_TRIP

/-- The pairs with ESC = 1 of a mask (R351). -/
def escPairs (s : State) (mask : Nat) : Nat := forN 4 (fun m v => if bit mask m && s.on KEEP_FBPAIR_ESC 0 m then v + 2 ^ m else v) 0

/-- A release accepted from a port (R348). FB_FAULT stays where a pair without ESC has latched it. -/
def keepRelease (s : State) (port : Nat) : State :=
  let esc := escPairs s s.keep.fbFault
  let s := (s.clear KEEP_STATUS_SGR).clear KEEP_STATUS_WITHDRAWN
  let s := if s.keep.pairFault = 0 then s else s.clear KEEP_STATUS_PAIR_FAULT
  let s := if esc != 0 && esc == s.keep.fbFault then s.clear KEEP_STATUS_FB_FAULT else s
  let s := ((s.wr KEEP_OUTPUTS_KGEN 3).wr KEEP_OUTPUTS_RELAY 15).wr KEEP_OUTPUTS_RLY_RB 15
  let s := s.updKeep (fun k => { k with pairFault := 0, fbFault := k.fbFault - esc, acks := 0, follow := [] })
  let s := { s with gcs := { s.gcs with keepReq := false } }
  let c := appliedCrc s
  keepLog s 6 port 0 c c 0 1024

/-- An ACK input has shown a high pulse of some ms (R346): a valid one requests a release; of a pair both inputs must. A
refused one changes nothing else. -/
def keepAck (s : State) (i ms : Nat) : State :=
  if kinFunc s i != 4 || ms < 50 || 2000 < ms then s
  else
    let paired := kinPaired s i
    let acks := s.keep.acks ||| 2 ^ i
    let e := i - i % 2
    if paired && !(bit acks e && bit acks (e + 1)) then s.updKeep (fun k => { k with acks := acks })
    else
      let s := s.updKeep (fun k => { k with acks := acks &&& (0xFF ^^^ (2 ^ i ||| (if paired then 3 * 2 ^ e else 0))) })
      if releaseCodes s = [] then keepRelease s 2 else s

/-! ### The ramp (R349) -/

/-- KCLK edges of a millisecond. -/
def KMS : Nat := 20000

/-- KCLK edges since the ramp's start: one in 31.25 FAB clocks at the nominal frequency. -/
def rampEdges (s : State) : Nat := (s.fab - s.keep.rampStart) * 4 / 125

/-- The limit at a time t since the start, of a ramp of T, both in KCLK edges (R349). -/
def rampLimit (start fin t T : Nat) : Int := (start : Int) - (((start : Int) - fin) * min t T).fdiv T

/-- The present limit (R349). -/
def rampNow (s : State) : Nat :=
  uz 24 (rampLimit (s.rd KEEP_RAMP_START_V) (s.rd KEEP_RAMP_END_V) (rampEdges s) (s.rd KEEP_RAMP_T_T * KMS))

/-- One comparison of a completed pair of results (R349). -/
def keepCompare (s : State) : State :=
  if !(s.on KEEP_STATUS_SPW) || !(s.keep.freshA && s.keep.freshB) then s
  else
    let ea := s.rd ADC_PLAUS_ENT_A 0
    let eb := s.rd ADC_PLAUS_ENT_B 0
    let nA := sx 24 (s.sig.own.get 0 ea) * ((8 / adcGain s 0 ea : Nat) : Int)
    let nB := sx 24 (s.sig.own.get 0 (16 + eb)) * ((8 / adcGain s 1 eb : Nat) : Int)
    let m := max nA.natAbs nB.natAbs
    let lim := rampNow s
    let cnt := s.rd KEEP_RAMP_CNT_CNT
    let run := fun (c : Bool) (n : Nat) => if c then n + 1 else 0
    let s := (s.wr KEEP_MON_M m).wr KEEP_RAMP_NOW_LIMIT lim
    let s := s.updKeep (fun k => { k with
      freshA := false, freshB := false, rampPair := s.fab
      doneRun := run (decide (m ≤ s.rd KEEP_RAMP_END_V)) k.doneRun, highRun := run (decide (lim < m)) k.highRun
      diffRun := run (decide (s.rd KEEP_RAMP_CNT_MON_TOL < (nA - nB).natAbs)) k.diffRun })
    if cnt ≤ s.keep.doneRun then withdrawn s
    else if cnt ≤ s.keep.highRun || cnt ≤ s.keep.diffRun then withdrawn (s.raise KEEP_STATUS_RAMP_FAIL)
    else s

/-- No pair of results for 1 ms, or no completion by RAMP_T + GRACE (R349). -/
def keepRampTimeout (s : State) : State :=
  if !(s.on KEEP_STATUS_SPW) then s
  else
    let e := min (s.keep.rampPair + MS) (s.keep.rampStart + (s.rd KEEP_RAMP_T_T + s.rd KEEP_RAMP_T_GRACE) * MS)
    withdrawn ((s.toEdge e).raise KEEP_STATUS_RAMP_FAIL)

/-! ### Feedback contacts (R351) -/

/-- The state code of a pair from its filtered contacts, normally open and normally closed (R351, R358). -/
def fbCode (no nc : Bool) : Nat :=
  match no, nc with
  | false, true => 0 | true, false => 1 | false, false => 2 | true, true => 3

/-- A filtered change on pair m's contacts (R351). -/
def keepFeedback (s : State) (m : Nat) (no nc : Bool) : State :=
  let c := fbCode no nc
  let old := s.rd KEEP_FBSTATE_STATE
  let s := s.wr KEEP_FBSTATE_STATE (old - bits old (2 * m) 2 * 4 ^ m + c * 4 ^ m)
  let raw := s.rd KEEP_INPUTS_FB
  let s := s.wr KEEP_INPUTS_FB (raw - bits raw (2 * m) 2 * 4 ^ m + (b2n no + 2 * b2n nc) * 4 ^ m)
  s.updKeep (fun k => { k with
    discSince := if c < 2 then Sp.del k.discSince m
      else if (findKey k.discSince m).isSome then k.discSince else k.discSince.set m s.fab
    follow := if c = 0 then Sp.del k.follow m else k.follow })

/-- A pair DISCREPANT longer than DISC_T latches FB_FAULT, a demand with ESC (R351). -/
def keepDiscrepancy (s : State) (m : Nat) : State :=
  match findKey s.keep.discSince m with
  | none => s
  | some e =>
    if !(s.on KEEP_FBPAIR_EN 0 m) then s
    else
      let s := s.toEdge (e + s.rd KEEP_FBPAIR_DISC_T 0 m * MS)
      let s := (s.raise KEEP_STATUS_FB_FAULT).updKeep (fun k => { k with fbFault := k.fbFault ||| 2 ^ m })
      if s.on KEEP_FBPAIR_ESC 0 m then demandSgr s else s

/-- A write of 1 to STATUS.FB_FAULT takes the latched fault of the pairs without ESC; with ESC only a release does (R351; DESIGN
CHOICE, log 121). -/
def fbFaultCleared (s : State) : State := s.updKeep (fun k => { k with fbFault := escPairs s k.fbFault })

/-- A bound pair has not read OPEN by its follow timer's expiry (R351). -/
def keepFollow (s : State) (m : Nat) : State :=
  match findKey s.keep.follow m with
  | none => s
  | some e =>
    ((s.toEdge e).raise KEEP_STATUS_FOLLOW_FAULT).updKeep (fun k => { k with follow := Sp.del k.follow m })

/-! ### Diagnostics (R353) -/

/-- A failed diagnostic enters SAFE_FAULT (R353): gate removal, every relay and KGEN off, the rings squelched, a record, and a FAULT
record for the journal (R225; DESIGN CHOICE, log 122). -/
def safeFault (s : State) (cause : Nat) : State :=
  if s.on KEEP_STATUS_SAFE_FAULT then s
  else
    let s := (s.raise KEEP_STATUS_SAFE_FAULT).wr KEEP_STATUS_FAULT_CAUSE cause
    let s := if s.on KEEP_STATUS_SPW then withdrawn s else gateRemoval s
    let s := faultRecord (deenergise s 15)
    let c := appliedCrc s
    keepLog s 7 3 cause c c 0 1024

/-- The check of the stored configuration against its CRC (R345, R353). -/
def keepConfigCheck (s : State) : State :=
  match s.keep.crc with
  | none => s
  | some c => if c = appliedCrc s then s else safeFault s 1

/-- The frame monitor at a launch (R347): from the second tick after the request, a slot whose STATE is not BLOCK is a
fault. `states` are the STATE fields launched. -/
def keepMonitor (s : State) (states : List Nat) : State :=
  if !s.gcs.keepReq then s
  else
    let s := s.updKeep (fun k => { k with ticks := k.ticks + 1 })
    if 2 ≤ s.keep.ticks && states.any (· != 0) then safeFault s 4 else s

/-! ### Password and configuration control (R355, R356) -/

/-- The password words as 16 bytes, PASS0 lowest. -/
def passBytes (s : State) : List Nat := ((upTo 4).map (fun i => leBytes 4 (s.keep.pass.get 0 i))).flatten

/-- The digest Keep stores (R356): of the all-zero password in a device as shipped. -/
def storedDigest (s : State) : List Nat := s.keep.digest.getD (sha384 (List.replicate 16 0))

/-- UNLOCK (R356): the answer's code and the state. -/
def keepUnlock (s : State) (port : Nat) : State × Nat :=
  if s.on KEEP_CFG_STATUS_LOCKOUT then (s, E_AUTH)
  else if sha384 (passBytes s) = storedDigest s then
    let s := ((s.raise KEEP_CFG_STATUS_UNLOCKED).wr KEEP_CFG_STATUS_PORT port).wr KEEP_CFG_STATUS_FAILS 0
    (s.updKeep (fun k => { k with unlockEnd := s.fab + 300000 * MS }), OK)
  else
    let c := appliedCrc s
    let s := keepLog s 3 port 0 c c 0 1016
    let n := s.rd KEEP_CFG_STATUS_FAILS + 1
    let s := s.wr KEEP_CFG_STATUS_FAILS (min n 3)
    if 3 ≤ n then
      let s := (keepLog s 4 port 0 c c 0 1016).raise KEEP_CFG_STATUS_LOCKOUT
      (s.updKeep (fun k => { k with lockoutEnd := s.fab + 60000 * MS }), E_AUTH)
    else (s, E_AUTH)

/-- LOCK, and the relocking that COMMIT and DISCARD bring (R356). -/
def keepLock (s : State) : State := s.clear KEEP_CFG_STATUS_UNLOCKED

/-- COMMIT (R356). -/
def keepCommit (s : State) (port : Nat) : State :=
  let old := appliedCrc s
  let s := s.load (fun g => g.cls == .commit)
  let new := appliedCrc s
  let s := s.updKeep (fun k => { k with crc := some new })
  keepLock (keepLog s 1 port 0 old new 0 1008)

/-- Codes of COMMIT (R356). -/
def commitCodes (s : State) : List Nat :=
  codeIf (!(s.on KEEP_STATUS_SGR && s.on KEEP_STATUS_WITHDRAWN)) E_STATE ++ codeIf s.keep.digest.isNone E_STATE
    ++ codeIf (decide (1008 ≤ s.keep.log.length)) E_FULL

/-- DISCARD (R356). -/
def keepDiscard (s : State) : State :=
  keepLock { s with staged := s.staged.filter (fun g => g.2.cls != .commit) }

/-- SETPASS (R356): an all-zero password is again the one that bars COMMIT. -/
def keepSetPass (s : State) (port : Nat) : State :=
  let b := passBytes s
  let d := if b.all (· == 0) then none else some (sha384 b)
  let c := appliedCrc s
  keepLog (s.updKeep (fun k => { k with digest := d })) 2 port 0 c c 0 1008

/-- LOG_CLEAR (R357). -/
def keepLogClear (s : State) (port : Nat) : State :=
  let last := match s.keep.log.getLast? with | some r => r.seq | none => 0
  let c := appliedCrc s
  keepLog (s.updKeep (fun k => { k with log := [] })) 5 port 0 c c last 1024

/-- An unlock ends 300 s after it was made (R356). -/
def keepUnlockExpiry (s : State) : State :=
  if s.on KEEP_CFG_STATUS_UNLOCKED then keepLock (s.toEdge s.keep.unlockEnd) else s

/-- A lockout ends 60 s after it began (R356). -/
def keepLockoutEnd (s : State) : State :=
  if s.on KEEP_CFG_STATUS_LOCKOUT then
    ((s.toEdge s.keep.lockoutEnd).clear KEEP_CFG_STATUS_LOCKOUT).wr KEEP_CFG_STATUS_FAILS 0
  else s

/-- REMAIN_S (R358). -/
def keepRemain (s : State) : Nat :=
  let left := fun (e : Nat) => ceilDiv (e - s.fab) (1000 * MS)
  if s.on KEEP_CFG_STATUS_LOCKOUT then left s.keep.lockoutEnd
  else if s.on KEEP_CFG_STATUS_UNLOCKED then left s.keep.unlockEnd else 0

/-- The configuration port of an arrival (R355): 0 SAFETY, 1 HOST; none for others. -/
def keepPort : Req → Option Nat
  | .safety => some 0
  | .host => some 1
  | _ => none

/-- Not unlocked, or unlocked from another port (R355). -/
def keepLockCodes (s : State) (req : Req) : List Nat :=
  match keepPort req with
  | none => [E_PORT]
  | some p =>
    codeIf (!(s.on KEEP_CFG_STATUS_UNLOCKED)) E_LOCKED
      ++ codeIf (s.on KEEP_CFG_STATUS_UNLOCKED && s.rd KEEP_CFG_STATUS_PORT != p) E_PORT

/-- Codes of a write to KEEP beyond the ranges of its fields (R348, R355 to R357); a failed UNLOCK is found when it acts. -/
def keepCodes (s : State) (req : Req) (off data : Nat) : List Nat :=
  let other := keepPort req == none
  if off = 0x000 then
    if bit data 0 then (if other then [E_PORT] else releaseCodes s) else []
  else if keepConfigOffs.contains off then
    keepLockCodes s req
      ++ codeIf (0x100 ≤ off && off < 0x120 && (off / 4) % 2 = 1 && bit data 13) E_VALUE
      ++ codeIf (off = 0x164 && decide (keepStaged s KEEP_RAMP_START_V 0 < data % 2 ^ 24)) E_RANGE
  else if 0x200 ≤ off && off < 0x210 then codeIf other E_PORT
  else if off = 0x210 then
    codeIf other E_PORT
      ++ (if bit data 1 then keepLockCodes s req ++ commitCodes s else [])
      ++ (if bit data 4 then keepLockCodes s req ++ codeIf (decide (1008 ≤ s.keep.log.length)) E_FULL else [])
      ++ (if bit data 5 then keepLockCodes s req else [])
  else []

/-- What a write to KEEP does beyond storing its fields (R348, R349, R356 to R358). -/
def keepEffect (s : State) (req : Req) (off data : Nat) : State :=
  let port := (keepPort req).getD 0
  if off = 0x000 then
    let s := if bit data 0 then keepRelease s port else s
    let s := if bit data 1 then demandSpw s else s
    if bit data 2 then demandSgr s else s
  else if off = 0x004 then (if bit data 6 then fbFaultCleared s else s)
  else if 0x200 ≤ off && off < 0x210 then
    s.updKeep (fun k => { k with pass := k.pass.set ((off - 0x200) / 4) data })
  else if off = 0x210 then
    let s := if bit data 1 then keepCommit s port else s
    let s := if bit data 2 then keepDiscard s else s
    let s := if bit data 4 then keepSetPass s port else s
    let s := if bit data 5 then keepLogClear s port else s
    let s := if bit data 3 then keepLock s else s
    if bit data 0 then
      let (s, code) := keepUnlock s port
      if code = OK then s else (s.recordErr KEEP_ERR_CODE 0 code 0x210).answer code 0
    else s
  else s

end Sys2Proof.Machine
end

