-- ==== Sys2Proof/Machine/Belfry.lean ====
section
/-!
DEFINITION. Belfry (R236 to R246): requests and grants at the Cupola banks and DRAM channels, withdrawal, starvation,
and the lock tokens.
-/
namespace Sys2Proof.Machine

/-- A resource's state. -/
def State.res (s : State) (r : Nat) : BelRes := s.bel.res.get {} r
/-- A resource's state replaced. -/
def State.setRes (s : State) (r : Nat) (x : BelRes) : State := { s with bel := { s.bel with res := s.bel.res.set r x } }

/-- The LEVEL of a requester (R238, R239). -/
def levelOf (s : State) (q : Nat) : Nat := s.rd BELFRY_PRI_LEVEL 0 q
/-- The granules one grant covers (R237): one at a Cupola bank, up to BURST at a DRAM channel. -/
def burstOf (s : State) (r q : Nat) : Nat := if r < 32 then 1 else max 1 (s.rd BELFRY_PRI_BURST 0 q)

/-- A request is already presented by a requester at a resource (R237). -/
def presented (x : BelRes) (q : Nat) : Bool :=
  x.waiting.any (fun w => w.req == q) || (match x.holder with | some h => h.req == q | none => false)

/-- The resources a requester uses (R236): bank `r` below 32, else a DRAM channel. Ids 30 and 31 are unused. -/
def usesResource (q r : Nat) : Bool :=
  if q = 20 || q = 22 || q = 26 then decide (r < 32)
  else if q = 19 then decide (32 ≤ r)
  else if q = 27 then r == 32
  else if q = 28 then r == 33
  else decide (q < 30)

/-- A requester may present a request at a resource (R237): it has none there, and a core has none anywhere. -/
def mayPresent (s : State) (r q : Nat) : Bool :=
  usesResource q r && !(if q < 16 then (upTo 34).any (fun k => presented (s.res k) q) else presented (s.res r) q)

/-- The granules from an address to the end of what one grant of its resource may cover (R237): one line of a Cupola bank, the
rest of a 4 KiB page of a DRAM channel. -/
def grantRoom (r a : Nat) : Nat := if r < 32 then 1 else 64 - a / 64 % 64

/-- A request for a transfer of so many granules from an address presented at its resource (R237), where there is one and the
requester may. What lies beyond the line or page is the requester's next request. -/
def belRequest (s : State) (q a total : Nat) : State :=
  match resourceOf a with
  | none => s
  | some r =>
    if !(mayPresent s r q) then s
    else
      let x := s.res r
      s.setRes r { x with waiting := x.waiting ++ [{ req := q, edge := s.fab, total := min (max 1 total) (grantRoom r a) }] }

/-- The highest level among waiting requests. -/
def topLevel (s : State) : List BelReq → Nat
  | [] => 0
  | w :: t => max (levelOf s w.req) (topLevel s t)

/-- Among requests of one level, the first requester after the one last granted at it, with wrap-around (R238). -/
def nextOf (last : Nat) (ws : List BelReq) : Option BelReq :=
  let key := fun (w : BelReq) => (w.req + 64 - last - 1) % 64
  ws.foldl (fun b w => match b with
    | none => some w
    | some v => if key w < key v then some w else some v) none

/-- A grant to a waiting request (R238), with its wait recorded in MAXWAIT and the BURST of its edge (R247). -/
def grantTo (s : State) (r : Nat) (w : BelReq) : State :=
  let x := s.res r
  let wait := min 0xFFFF (s.fab - w.edge)
  let s := s.wr BELFRY_PRI_MAXWAIT (max wait (s.rd BELFRY_PRI_MAXWAIT 0 w.req)) 0 w.req
  s.setRes r { x with
    waiting := x.waiting.filter (fun v => v.req != w.req)
    holder := some { w with burst := 0, granted := s.fab, limit := burstOf s r w.req }
    last := x.last.set (levelOf s w.req) w.req }

/-- One arbitration of a resource (R238, R240): the granule in service ends; a holder of a DRAM grant goes on to its
BURST limit unless a waiting requester ranks above it; else the highest waiting request is granted. A capture record
of the Law engine leaves its FIFO with the grant of requester 20 (R149); a scrubber's line is read with the grant of its request
(R222). -/
def belGrant (s : State) (r : Nat) : State :=
  let s := s.toEdge (s.res r).busyEdge
  let x := s.res r
  let held := match x.holder with
    | some h => some { h with done := h.done + 1, burst := h.burst + 1 }
    | none => none
  let top := topLevel s x.waiting
  let goesOn := match held with
    | some h => decide (h.done < h.total) && decide (h.burst < h.limit)
        && !(x.waiting.any (fun _ => decide (levelOf s h.req < top)))
    | none => false
  if goesOn then s.setRes r { x with holder := held }
  else
    let back := match held with
      | some h => if h.done < h.total then [{ h with edge := s.fab, burst := 0 }] else []
      | none => []
    let s := s.setRes r { x with holder := none, waiting := x.waiting ++ back }
    let x := s.res r
    let top := topLevel s x.waiting
    match nextOf (x.last.get 63 top) (x.waiting.filter (fun w => levelOf s w.req == top)) with
    | none => s
    | some w =>
      let s := grantTo s r w
      if w.req = 20 then captureDrain s else if 26 ≤ w.req && w.req < 29 then scrubLine s ((w.req - 24) % 3) else s

/-- The requester of a scrubber (R236): channels 0 and 1, Cupola 2. -/
def scrubReq (i : Nat) : Nat := if i < 2 then 27 + i else 26

/-- A patrol read is due (R222): the scrubber's request is presented at the resource of its line. An idle resource grants it at
once; elsewhere the line is read with its grant. -/
def scrubRead (s : State) (i : Nat) : State :=
  if !(scrubOn s i) then s
  else
    let s := s.edges (if i < 2 then s.rd MEMC_SCRUB_INT i else s.rd SYS_CUP_SCRUB_INT)
    let a := scrubAddr i (s.mems.get {} i).line * 64
    match resourceOf a with
    | none => s
    | some r =>
      let x := s.res r
      let idle := x.waiting.isEmpty && x.holder.isNone && decide (x.busyEdge ≤ s.fab)
      let s := belRequest s (scrubReq i) a 1
      match (s.res r).waiting with
      | [w] =>
        if idle then
          let s := grantTo s r w
          scrubLine (s.setRes r { s.res r with holder := none }) i
        else s
      | _ => s

/-- The first granule of a grant has started (R241): on the edge after the grant (log 114). -/
def started (s : State) (h : BelReq) : Bool := decide (0 < h.burst) || decide (h.granted < s.fab)

/-- A request withdrawn (R241): before its grant at no cost, after the grant and before its first granule at one dead
FAB clock; a grant whose first granule has started goes on. -/
def belWithdraw (s : State) (r q : Nat) : State :=
  let x := s.res r
  match x.holder with
  | some h =>
    if h.req = q then
      (if started s h then s else s.setRes r { x with holder := none, busyEdge := max x.busyEdge s.fab + 1 })
    else s.setRes r { x with waiting := x.waiting.filter (fun w => w.req != q) }
  | none => s.setRes r { x with waiting := x.waiting.filter (fun w => w.req != q) }

/-- A request has waited longer than STARVE_LIM (R243). -/
def starving (s : State) (q : Nat) : Bool :=
  let lim := s.rd BELFRY_CFG_STARVE_LIM
  lim != 0 && (upTo 34).any (fun r => (s.res r).waiting.any (fun w => w.req == q && decide (lim < s.fab - w.edge)))

/-- The earliest edge on which a waiting request of a requester has waited longer than STARVE_LIM. -/
def starveEdge (s : State) (q : Nat) : Option Nat :=
  let ws := ((upTo 34).map (fun r => (s.res r).waiting.filter (fun w => w.req == q))).flatten
  ws.foldl (fun b w =>
    let e := w.edge + s.rd BELFRY_CFG_STARVE_LIM + 1
    match b with | none => some e | some x => some (min x e)) none

/-- STARVED (R243): the clock moves to the edge on which the wait exceeds the limit. -/
def starvation (s : State) (q : Nat) : State :=
  if s.rd BELFRY_CFG_STARVE_LIM = 0 then s
  else match starveEdge s q with
    | none => s
    | some e => (s.toEdge e).orIn BELFRY_STARVED_REQ (2 ^ q)

/-- A W1C of STARVED bits also clears their MAXWAIT (R247). -/
def starvedCleared (s : State) (mask : Nat) : State :=
  forN 32 (fun r s => if bit mask r then s.wr BELFRY_PRI_MAXWAIT 0 0 r else s) s

/-! ### Lock tokens (R189, R244, R245) -/

/-- The result word of a LOCK instruction for a requester (R189). -/
def lockWord (s : State) (t owner stat : Nat) : Nat :=
  stat % 256 + 256 * s.rd BELFRY_TOK_STATE_BROKEN 0 t
    + 512 * b2n (s.on BELFRY_TOK_STATE_HELD 0 t && s.rd BELFRY_TOK_STATE_OWNER 0 t == owner)
    + 65536 * s.rd BELFRY_TOK_STATE_EPOCH 0 t

/-- A requester holds a token. -/
def holds (s : State) (t owner : Nat) : Bool :=
  s.on BELFRY_TOK_STATE_HELD 0 t && s.rd BELFRY_TOK_STATE_OWNER 0 t == owner

/-- A token given to a requester (R244). -/
def giveToken (s : State) (t owner : Nat) : State :=
  (s.raise BELFRY_TOK_STATE_HELD 0 t).wr BELFRY_TOK_STATE_OWNER owner 0 t

/-- A token released (R244). -/
def freeToken (s : State) (t : Nat) : State :=
  let s := (s.clear BELFRY_TOK_STATE_HELD 0 t).wr BELFRY_TOK_STATE_OWNER 0 0 t
  { s with bel := { s.bel with freed := s.bel.freed.set t s.fab } }

/-- The edge on which a released token passes to its first waiter: the edge after the release (R244). -/
def grantEdge (s : State) (t : Nat) : Nat := s.bel.freed.get 0 t + 1

/-- Waiters of a token replaced, with their count (R247). -/
def setWaiters (s : State) (t : Nat) (ws : List Waiter) : State :=
  { (s.wr BELFRY_TOK_WAITERS_COUNT ws.length 0 t) with bel := { s.bel with waiters := s.bel.waiters.set t ws } }

/-- Take a token when free (R189 LOCKTRY). -/
def lockTry (s : State) (t owner : Nat) : State × Nat :=
  if holds s t owner then (s, E_STATE)
  else if s.on BELFRY_TOK_STATE_HELD 0 t || !((s.bel.waiters.get [] t).isEmpty) then (s, E_LOCKED)
  else (giveToken s t owner, OK)

/-- Release a token (R189 LOCKREL). -/
def lockRel (s : State) (t owner : Nat) : State × Nat :=
  if holds s t owner then (freeToken s t, OK) else (s, E_TOKEN)

/-- Clear a held token's BROKEN (R189 LOCKCLR). -/
def lockClr (s : State) (t owner : Nat) : State × Nat :=
  if holds s t owner then (s.clear BELFRY_TOK_STATE_BROKEN 0 t, OK) else (s, E_TOKEN)

/-- A LOCKACQ joins the waiters of a token (R244): in order of arrival, cores of one edge in ascending number. -/
def lockWait (s : State) (t core : Nat) : State :=
  let ws := s.bel.waiters.get [] t
  let earlier := ws.filter (fun w => decide (w.edge < s.fab) || (w.edge == s.fab && decide (w.core < core)))
  let later := ws.filter (fun w => !(decide (w.edge < s.fab) || (w.edge == s.fab && decide (w.core < core))))
  setWaiters s t (earlier ++ [⟨core, s.fab⟩] ++ later)

/-- A core's waiting LOCKACQ of a token withdrawn (R190, R245). -/
def lockWithdraw (s : State) (t core : Nat) : State :=
  setWaiters s t ((s.bel.waiters.get [] t).filter (fun w => w.core != core))

/-- A free token's first waiter (R244). -/
def firstWaiter (s : State) (t : Nat) : Option Nat :=
  if s.on BELFRY_TOK_STATE_HELD 0 t then none else ((s.bel.waiters.get [] t).head?).map (·.core)

/-- A token passes to a waiting core (R244). -/
def passToken (s : State) (t core : Nat) : State := giveToken (lockWithdraw s t core) t core

/-- An owner fault (R245): its tokens are released, BROKEN set and their epochs advanced, its waiting requests
withdrawn, and BROKE set. A core or host that owns no token is no owner: its waiting requests alone are withdrawn. -/
def ownerFault (s : State) (owner : Nat) : State :=
  let owns := (upTo 64).any (fun t => holds s t owner)
  let s := forN 64 (fun t s =>
    let s := if (s.bel.waiters.get [] t).any (fun w => w.core == owner) then lockWithdraw s t owner else s
    if holds s t owner then ((freeToken s t).raise BELFRY_TOK_STATE_BROKEN 0 t).count BELFRY_TOK_STATE_EPOCH 0 t else s) s
  s.raiseIf owns BELFRY_STATUS_BROKE

/-- LOCK_CMD of the host (R244, R247): its result word enters LOCK_RSP. -/
def lockCmd (s : State) (t op : Nat) : State :=
  let (s, c) := match op with
    | 1 => lockTry s t 16
    | 2 => lockRel s t 16
    | _ => lockClr s t 16
  s.wr BELFRY_LOCK_RSP_RESULT (lockWord s t 16 c)

/-- The checks of a BELFRY register write beyond its fields' own (R246, R247): `owner` is the requester's id. -/
def belfryCodes (s : State) (off data owner : Nat) : List Nat :=
  if off = 0x100 then codeIf (bits data 8 2 == 0) E_VALUE
  else if 0x400 ≤ off && off % 16 = 4 then
    let t := (off - 0x400) / 16
    codeIf (s.on BELFRY_TOK_STATE_HELD 0 t && s.rd BELFRY_TOK_STATE_OWNER 0 t != owner) E_TOKEN
    ++ codeIf (decide (bits data 16 14 < bits data 0 14)) E_RANGE
  else if 0x040 ≤ off && off < 0x0C0 && 16 ≤ (off - 0x40) / 4 then
    codeIf (decide (bits data 8 5 = 0) || decide (16 < bits data 8 5)) E_VALUE
  else []

/-- The effects of an accepted BELFRY register write (R244, R247). BURST of a core is fixed at 1 (R236, R247). -/
def belfryEffect (s : State) (off data : Nat) : State :=
  if off = 0x100 then lockCmd s (bits data 0 6) (bits data 8 2)
  else if off = 0x004 then starvedCleared s data
  else if 0x040 ≤ off && off < 0x080 then s.wr BELFRY_PRI_BURST 1 0 ((off - 0x40) / 4)
  else s

end Sys2Proof.Machine
end

