-- ==== Sys2Proof/Machine/Flags.lean ====
section
/-!
DEFINITION. The flags of csr.ARITH (R180) beyond those of the FP arithmetic, and the saturating results that set them
(R175 to R177). The FP flags come with the results of Fp.lean (R178).
-/
namespace Sys2Proof.Machine

/-- ARITH.SAT (R180). -/
def SAT : Nat := 256

/-- sat32 of the notation of chapter 09: a 32-bit result, SAT where it was clamped. -/
def sat32 (v : Int) : FpRes := ⟨uz 32 (satS 32 v), if outS 32 v then SAT else 0⟩

/-- A saturating accumulator result (R176), as its 72-bit code. -/
def sat72 (v : Int) : FpRes := ⟨uz 72 (satS 72 v), if outS 72 v then SAT else 0⟩

/-- A result that sets no flag. -/
def plain (v : Nat) : FpRes := ⟨v, 0⟩

end Sys2Proof.Machine
end

