-- ==== Sys2Proof/Machine/Words.lean ====
section
/-!
DEFINITION. Register words: the fields that lie in a 32-bit word of a block, the word a read assembles (R3, R5, R9).
-/
namespace Sys2Proof.Machine

/-- The fields of a block. -/
def Blk.fields : Blk → List Fld
  | .sys => SYS_fields | .lantern => LANTERN_fields | .campanile => CAMPANILE_fields | .keep => KEEP_fields
  | .belfry => BELFRY_fields | .memc => MEMC_fields | .journal => JOURNAL_fields | .scan => SCAN_fields
  | .port => PORT_fields | .twin => TWIN_fields | .secure => SECURE_fields | .adc => ADC_fields | .sv => SV_fields
  | .filt => FILT_fields | .oculus => OCULUS_fields | .pwm => PWM_fields | .trip => TRIP_fields | .law => LAW_fields
  | .arm => ARM_fields | .ring => RING_fields | .lease => LEASE_fields | .queue => QUEUE_fields
  | .spire => SPIRE_fields

/-- The part of a field that lies in a word: the field, its second index, the lowest bit in the word, the field's bit
that stands there, and how many bits. -/
structure Piece where
  fld : Fld
  idx : Nat
  pos : Nat
  fbit : Nat
  n : Nat
  deriving DecidableEq, Repr

/-- The part of a field in the word at an offset of its instance of the block. -/
def Fld.piece (f : Fld) (w : Nat) : Option Piece :=
  let j := if f.sub = 0 || w < f.off then 0 else min ((w - f.off) / f.sub) (f.cnt - 1)
  let st := 8 * (f.off + j * f.sub) + f.lsb
  let lo := max st (8 * w)
  let hi := min (st + f.width) (8 * w + 32)
  if lo < hi then some ⟨f, j, lo - 8 * w, lo - st, hi - lo⟩ else none

/-- The parts of fields in a word of a block. -/
def Blk.pieces (b : Blk) (w : Nat) : List Piece := b.fields.filterMap (fun f => f.piece w)

/-- What a read of one part returns: 0 for a write-only field (R5). -/
def State.pieceRead (s : State) (i : Nat) (p : Piece) : Nat :=
  if p.fld.acc = .wo then 0 else bits (s.rdBack p.fld i p.idx) p.fbit p.n * 2 ^ p.pos

/-- A word of an instance as a read assembles it; bits of no field read 0 (R9). -/
def State.readWord (s : State) (b : Blk) (i w : Nat) : Nat := sumOf (s.pieceRead i) (b.pieces w)

/-- A word of an instance with the values in force in place of those written and waiting (R212). -/
def State.wordInForce (s : State) (b : Blk) (i w : Nat) : Nat :=
  sumOf (fun p => if p.fld.acc = .wo then 0 else bits (s.rd p.fld i p.idx) p.fbit p.n * 2 ^ p.pos) (b.pieces w)

/-- The fields of an instance given the values of its words, lowest offset first (R214). -/
def State.putWords (s : State) (b : Blk) (i off : Nat) (v : Nat) (nbytes : Nat) : State :=
  b.fields.foldl (fun s f =>
    forN f.cnt (fun j s =>
      let a := f.off + j * f.sub
      if off ≤ a && a + (f.lsb + f.width + 7) / 8 ≤ off + nbytes && f.acc != .wo then
        s.wr f (bits v (8 * (a - off) + f.lsb) f.width) i j
      else s) s) s

end Sys2Proof.Machine
end

