-- ==== Sys2Proof/Machine/Irq.lean ====
section
/-!
DEFINITION. The 256 interrupt sources (R30, R432): each a level that its block asserts, formed from the status and
enable bits of the register file.
-/
namespace Sys2Proof.Machine

/-- A STATUS word and its enable word of an instance have a common bit in a mask. -/
def irqWords (s : State) (b : Blk) (i st en mask : Nat) : Bool :=
  (s.readWord b i st &&& s.readWord b i en) &&& mask != 0

/-- ADC_k.STATUS.SV (R271): an enabled status bit of either stream of the block. -/
def adcSv (s : State) (k : Nat) : Bool :=
  irqWords s .sv (2 * k) 0x30 0x34 0x7F || irqWords s .sv (2 * k + 1) 0x30 0x34 0x7F

/-- Interrupt sources of SYS (R30, R78, R165, R223, R224, R234, R303). -/
def irqSys (s : State) (n : Nat) : Bool :=
  match n with
  | 0 => s.on SYS_PIPE_STATUS_OVERRUN
  | 1 => s.on SYS_PIPE_STATUS_N_REUSED
  | 2 => s.on SYS_PIPE_STATUS_RET_LATE
  | 3 => s.on SYS_PIPE_STATUS_OVR_NEW
  | 8 => s.on SYS_CSE_STATUS_ECC_UNCORR
  | 9 => irqWords s .sys 0 0x400 0x418 0x3F
  | 10 => irqWords s .memc 0 0x00C 0x024 0x3F
  | 11 => irqWords s .memc 1 0x00C 0x024 0x3F
  | 12 => irqWords s .trip 0 0x008 0x014 0x7
  | 13 => s.on SCAN_STATUS_DONE && s.on SCAN_CTRL_INT_EN
  | _ => decide (16 ≤ n) && s.on SPIRE_STATUS_HALTED (n - 16)

/-- Interrupt sources of Campanile (R315 to R318). -/
def irqCampanile (s : State) (n : Nat) : Bool :=
  match n with
  | 201 => (upTo 16).any (fun i => s.on CAMPANILE_ET_CTRL_FIRED 0 i && s.on CAMPANILE_ET_CTRL_IE 0 i)
  | 202 => (upTo 4).any (fun k => s.on CAMPANILE_CI_CTRL_IE 0 k && !(s.camp.caps.get [] k).isEmpty)
  | 203 => (upTo 4).any (fun j => s.on CAMPANILE_TO_CTRL_DONE 0 j && s.on CAMPANILE_TO_CTRL_IE 0 j)
  | _ => irqWords s .campanile 0 0x028 0x02C 0x1F8

/-- Interrupt sources of the twin and the cascade (R342, R343). -/
def irqTwin (s : State) (n : Nat) : Bool :=
  match n with
  | 248 => irqWords s .twin 0 0x008 0x00C 0x0380
  | 249 => irqWords s .twin 0 0x008 0x00C 0x1850
  | 250 => irqWords s .twin 0 0x008 0x00C 0x2400
  | _ => s.rd TWIN_CASC_STATUS_LOST != 0 || s.on TWIN_CASC_STATUS_MASTER_LOST

/-- Interrupt sources of Lantern (R372). -/
def irqLantern (s : State) (n : Nat) : Bool :=
  let en := s.rd LANTERN_INT_EN_EN
  match n with
  | 252 => s.on LANTERN_STATUS_WAKE && bit en 0
  | 253 => s.on LANTERN_STATUS_REQ_DONE && bit en 1
  | 254 => s.on LANTERN_STATUS_VAON_LOW && bit en 2
  | _ => s.on LANTERN_STATUS_OSC_STOP && bit en 3

/-- An interrupt source is asserted (R30). -/
def irq (s : State) (n : Nat) : Bool :=
  if n < 32 then irqSys s n
  else if n < 160 then irqWords s .ring (n - 32) 0x008 0x00C 0x7FF
  else if n < 168 then irqWords s .arm (n - 160) 0x030 0x034 0x1F || irqWords s .arm (n - 160) 0x060 0x064 0x3FF
  else if n < 180 then irqWords s .pwm (n - 168) 0x024 0x028 0x3F
  else if n < 184 then
    irqWords s .adc (n - 180) 0x010 0x014 0x1F || (adcSv s (n - 180) && bit (s.rd ADC_INT_EN_EN (n - 180)) 5)
  else if n < 200 then irqWords s .filt (n - 184) 0x010 0x014 0x3F
  else if n = 200 then irqWords s .oculus 0 0x004 0x008 0xF
  else if n < 205 then irqCampanile s n
  else if n = 205 then irqWords s .keep 0 0x004 0x008 0x7F0
  else if n = 206 then
    s.rd BELFRY_STARVED_REQ &&& s.rd BELFRY_INT_EN_EN != 0
      || irqWords s .belfry 0 0x00C 0x010 0x3
  else if n = 207 then irqWords s .journal 0 0x004 0x008 0x3F || irqWords s .sys 0 0x310 0x328 0xFF
  else if n < 240 then irqWords s .queue (n - 208) 0x010 0x014 0x3F
  else if n = 240 then irqWords s .port 0 0x004 0x008 0x7
  else if n = 241 then irqWords s .port 0 0x004 0x008 0x38
  else if n < 248 then false
  else if n < 252 then irqTwin s n
  else irqLantern s n

/-- MSI-X vector 1 is raised (R398): an enabled status bit of PORT. -/
def msixVector1 (s : State) : Bool := irqWords s .port 0 0x004 0x008 0x3F

/-- Word i of IPEND (R169): the asserted sources 32 i to 32 i + 31. -/
def ipend (s : State) (i : Nat) : Nat := forN 32 (fun j a => if irq s (32 * i + j) then a + 2 ^ j else a) 0

end Sys2Proof.Machine
end

