-- ==== Sys2Proof/Machine/SpireCore.lean ====
section
/-!
DEFINITION. A Spire core's registers, TCM and CSRs, halting, exception entry and return, and the frame every
instruction runs in (R152 to R165, R169, R180).
-/
namespace Sys2Proof.Machine

/-- The state of a core. -/
def State.core (s : State) (c : Nat) : CoreSt := s.cores.get {} c

/-- The state of a core replaced; STATUS.WAITING and PRIV and MBOX_LEVEL show it (R171). -/
def State.setCore (s : State) (c : Nat) (x : CoreSt) : State :=
  let waiting := match x.wait with
    | some (.waitt _) => true
    | some (.bar _ _ _) => true
    | some (.recv _) => true
    | _ => false
  (((s.wr SPIRE_STATUS_WAITING (b2n waiting) c).wr SPIRE_STATUS_PRIV (b2n x.task) c).wr SPIRE_MBOX_LEVEL_LEVEL x.mbox.length c)
    |> fun s => { s with cores := s.cores.set c x }

/-- The state of a core changed by a function. -/
def State.updCore (s : State) (c : Nat) (f : CoreSt → CoreSt) : State := s.setCore c (f (s.core c))

/-- g[i]; g0 reads 0 (R153). -/
def CoreSt.gR (x : CoreSt) (i : Nat) : BitVec 32 := if i = 0 then 0 else x.g.get 0 i

/-- g[i] written; a write to g0 is discarded (R153). -/
def CoreSt.gW (x : CoreSt) (i : Nat) (v : BitVec 32) : CoreSt := if i = 0 then x else { x with g := x.g.set i v }

/-- f[i]. -/
def CoreSt.fR (x : CoreSt) (i : Nat) : BitVec 32 := x.f.get 0 i

/-- f[i] written. -/
def CoreSt.fW (x : CoreSt) (i : Nat) (v : BitVec 32) : CoreSt := { x with f := x.f.set i v }

/-- ac[i]. -/
def CoreSt.acR (x : CoreSt) (i : Nat) : BitVec 72 := x.ac.get 0 i

/-- ac[i] written. -/
def CoreSt.acW (x : CoreSt) (i : Nat) (v : BitVec 72) : CoreSt := { x with ac := x.ac.set i v }

/-- Flags of ARITH set (R178, R180). -/
def CoreSt.flag (x : CoreSt) (fl : Nat) : CoreSt := { x with arith := x.arith ||| fl }

/-! ### TCM (R155, R156) -/

/-- Bytes of a TCM. -/
def TCM_SIZE : Nat := 0x40000

/-- Base of the own TCM in the fabric map (R29). -/
def TCM_BASE : Nat := 0xF0000000

/-- A little-endian number in TCM. -/
def CoreSt.tcmLe (x : CoreSt) (a n : Nat) : Nat := memLe x.tcm a n

/-- A number stored in TCM. Writing a whole word gives it a fresh code (R156). -/
def CoreSt.tcmPut (x : CoreSt) (a n v : Nat) : CoreSt :=
  let whole (w : Nat) : Bool := decide (a ≤ w) && decide (w + 4 ≤ a + n)
  { x with tcm := memPut x.tcm a n v
           tcmBad := x.tcmBad.filter (fun w => !(whole w)), tcmCorr := x.tcmCorr.filter (fun w => !(whole w)) }

/-- A TCM range holds a word under an uncorrectable error (R156). -/
def CoreSt.tcmFails (x : CoreSt) (a n : Nat) : Bool := x.tcmBad.any (fun w => decide (w < a + n) && decide (a < w + 4))

/-- A TCM range accessed: words under a single-bit error are rewritten and counted (R156). -/
def tcmCorrect (s : State) (c a n : Nat) : State :=
  let x := s.core c
  let hit := x.tcmCorr.filter (fun w => decide (w < a + n) && decide (a < w + 4))
  if hit.isEmpty then s
  else (s.setCore c { x with tcmCorr := x.tcmCorr.filter (fun w => !(hit.contains w)) }).countSat SPIRE_ECC_CORR c 0 hit.length

/-! ### Halting, exceptions (R161 to R165) -/

/-- Exception codes (R161). -/
def X_INT : Nat := 0
def X_MSG : Nat := 1
def X_ILLEGAL : Nat := 2
def X_PRIV : Nat := 3
def X_ACCESS : Nat := 4
def X_ALIGN : Nat := 5
def X_ECC : Nat := 6
def X_TRAP : Nat := 7
def X_BREAK : Nat := 8

/-- Causes of a halt (R171). -/
def HC_RESET : Nat := 0
def HC_HOST : Nat := 1
def HC_DOUBLE : Nat := 2
def HC_INSTR : Nat := 3

/-- A core halts (R165, R171): its tokens are released as at an owner fault (R245), and a LOCKACQ is withdrawn. -/
def haltCore (s : State) (c cause : Nat) : State :=
  let x := s.core c
  let s := s.setCore c { x with wait := none, haltReq := false }
  ownerFault (((s.raise SPIRE_STATUS_HALTED c).wr SPIRE_STATUS_CAUSE cause c).wr SPIRE_PC_PC (x.pc / 4) c) c

/-- Exception entry (R161, R162): XPC, XCAUSE, for ACCESS, ALIGN and ECC the address, the snapshot in XSAVE, INX set,
PRIV back to SUP, the PC at the vector. -/
def enterExc (s : State) (c code src stat xpc : Nat) (addr : Option Nat) : State :=
  s.updCore c fun x =>
    { x with
      xpc := xpc, xcode := code, xsrc := src, xstat := stat
      xaddr := addr.getD x.xaddr
      xsIe := x.ie, xsMie := x.mie, xsTask := x.task
      inx := true, task := false, wait := none, pc := x.vbase + 16 * code }

/-- A synchronous exception: one taken while INX = 1 halts the core with cause DOUBLE (R162). -/
def syncExc (s : State) (c code stat xpc : Nat) (addr : Option Nat) : State :=
  if (s.core c).inx then haltCore s c HC_DOUBLE else enterExc s c code 0 stat xpc addr

/-- The return from an exception (R162): IE, MIE and PRIV from XSAVE, INX cleared, the PC at XPC. -/
def leaveExc (s : State) (c : Nat) : State :=
  s.updCore c fun x => { x with ie := x.xsIe, mie := x.xsMie, task := x.xsTask, inx := false, pc := x.xpc }

/-! ### The frame of an instruction -/

/-- What an instruction does beyond its own results: it is done, the PC goes elsewhere, the core stalls at it, or a
synchronous exception with its status code and address, XPC at the next instruction where `after` holds. -/
inductive SpRes where
  | done (s : State)
  | jump (s : State) (pc : Nat)
  | hold (s : State)
  | halt (s : State)
  | ret (s : State)
  | exc (s : State) (code stat : Nat) (addr : Option Nat) (after : Bool)

/-- An exception without status or address. -/
def SpRes.plainExc (s : State) (code : Nat) : SpRes := .exc s code 0 none false

/-- The device's FAB clocks run (R374). -/
def clocked (s : State) : Bool := s.on SYS_CLK_STATUS_LOCK

/-- The device is in Run (R359). -/
def inRun (s : State) : Bool := s.rd LANTERN_STATUS_STATE == 0

/-- A core executes instructions: the clocks run, the device is in Run, the core is neither halted nor stalled. -/
def coreRuns (s : State) (c : Nat) : Bool :=
  clocked s && inRun s && !(s.on SPIRE_STATUS_HALTED c) && (s.core c).wait.isNone

/-- The end of an instruction: a halt that was asked for takes place at this boundary (R171). -/
def atBoundary (s : State) (c : Nat) : State :=
  if (s.core c).haltReq && !(s.on SPIRE_STATUS_HALTED c) then haltCore s c HC_HOST else s

/-- What follows an instruction at `pc` (R161 to R163, R192, R193). -/
def spFinish (c pc : Nat) : SpRes → State
  | .done s => atBoundary (s.updCore c fun x => { x with pc := pc + 4 }) c
  | .jump s t => atBoundary (s.updCore c fun x => { x with pc := t }) c
  | .hold s => s
  | .halt s => haltCore (s.updCore c fun x => { x with pc := pc + 4 }) c HC_INSTR
  | .ret s => atBoundary (leaveExc s c) c
  | .exc s code stat addr after => atBoundary (syncExc s c code stat (if after then pc + 4 else pc) addr) c

/-- The fetch at the PC (R152, R156): outside TCM it raises ACCESS, a word under an uncorrectable error ECC. -/
def fetchFault (s : State) (c : Nat) : Option SpRes :=
  let x := s.core c
  if TCM_SIZE ≤ x.pc then some (.exc s X_ACCESS 0 (some (TCM_BASE + x.pc)) false)
  else if x.tcmFails x.pc 4 then some (.exc (s.raise SPIRE_ECC_UNCORR c) X_ECC E_ECC (some (TCM_BASE + x.pc)) false)
  else none

/-- The instruction at a core's PC: what the word in its TCM selects (R152, R173). -/
def fetched (s : State) (c : Fin 16) : Option Instr :=
  let x := s.core c
  decodeSpire c (BitVec.ofNat 32 (x.tcmLe x.pc 4))

/-- A core executes the instruction at its PC: it is the row `i`, or a word that no row has and that raises ILLEGAL (R173). `bad`
says that a field the row does not use is not 0. A row that the word at the PC does not spell is not executed (log 20). -/
def spire (s : State) (c : Fin 16) (i : Instr) (bad : Bool) (body : State → CoreSt → SpRes) : State :=
  if coreRuns s c then
    let pc := (s.core c).pc
    match fetchFault s c with
    | some r => spFinish c pc r
    | none =>
      let t := tcmCorrect s c pc 4
      if fetched s c = some i then spFinish c pc (if bad then .plainExc t X_ILLEGAL else body t (t.core c))
      else if (fetched s c).isNone then spFinish c pc (.plainExc t X_ILLEGAL)
      else s
  else s

/-- An instruction that only changes its core's own registers. -/
def spReg (s : State) (c : Fin 16) (i : Instr) (bad : Bool) (f : CoreSt → CoreSt) : State :=
  spire s c i bad fun s x => .done (s.setCore c (f x))

/-! ### Interrupts and messages (R163, R164) -/

/-- A source is pending and its IEN bit is set (R164). -/
def enabledSource (s : State) (x : CoreSt) (n : Nat) : Bool := bit (x.ien.get 0 (n / 32)) (n % 32) && irq s n

/-- The IPRI level of a source. -/
def CoreSt.level (x : CoreSt) (n : Nat) : Nat := bits (x.ipri.get 0 (n / 16)) (2 * (n % 16)) 2

/-- The source to take (R164): the highest IPRI level, then the lowest number. -/
def pickSource (s : State) (x : CoreSt) : Option Nat :=
  (upTo 256).foldl (fun b n =>
    if enabledSource s x n then
      match b with
      | none => some n
      | some m => if x.level m < x.level n then some n else some m
    else b) none

/-- The core stands at a boundary at which INT and MSG may be taken: between instructions, or stalled in one of the
waits that an exception withdraws (R164, R174). -/
def interruptible (s : State) (c : Nat) : Bool :=
  clocked s && inRun s && !(s.on SPIRE_STATUS_HALTED c) && !(s.core c).inx &&
  match (s.core c).wait with
  | some (.load _) => false
  | some (.store _) => false
  | some .fence => false
  | _ => true

/-- A wait withdrawn: a LOCKACQ leaves Belfry's waiters (R190). -/
def withdrawWait (s : State) (c : Nat) : State :=
  match (s.core c).wait with
  | some (.lock _ t) => lockWithdraw s t c
  | _ => s

/-- A core's waiting LOCKACQ completes with OK: the token passes to it, and the PC goes to the next instruction (R189, R244). -/
def lockDone (s : State) (c : Nat) : State :=
  match (s.core c).wait with
  | some (.lock rd t) =>
    let s := passToken s t c
    s.updCore c fun x => { x.gW rd (BitVec.ofNat 32 (lockWord s t c OK)) with wait := none, pc := x.pc + 4 }
  | _ => s

/-- The token of a waiting LOCKACQ is granted to its core by the present edge (R190, R244). -/
def grantStands (s : State) (c : Nat) : Bool :=
  match (s.core c).wait with
  | some (.lock _ t) => firstWaiter s t == some c && decide (grantEdge s t ≤ s.fab)
  | _ => false

/-- INT or MSG taken (R161 to R164, R190): a wait is withdrawn and XPC names its instruction; a LOCKACQ whose grant reaches it on
the same edge completes first. -/
def takeAsync (s : State) (c code src : Nat) : State :=
  let s := if grantStands s c then lockDone s c else withdrawWait s c
  enterExc s c code src 0 (s.core c).pc none

/-- INT (R161, R164). -/
def takeInterrupt (s : State) (c : Nat) : State :=
  let x := s.core c
  if interruptible s c && x.ie then
    match pickSource s x with
    | some n => takeAsync s c X_INT n
    | none => s
  else s

/-- MSG (R161, R163): an INT that can be taken comes first. -/
def takeMessage (s : State) (c : Nat) : State :=
  let x := s.core c
  if interruptible s c && x.mie && !x.mbox.isEmpty && !(x.ie && (pickSource s x).isSome) then
    takeAsync s c X_MSG 0
  else s

/-- A message enters a mailbox on its way (R168): it becomes visible 6 FAB clocks later. A mailbox with 16 messages,
those on their way included, is full. -/
def mailboxFull (s : State) (n : Nat) : Bool := decide (16 ≤ (s.core n).mbox.length + (s.core n).soon.length)

/-- A message sent. -/
def sendMessage (s : State) (n : Nat) (m : Msg) : State :=
  s.updCore n fun x => { x with soon := x.soon ++ [(s.fab + 6, m)] }

/-- The earliest arrival, of one edge the ascending sender (R168). -/
def nextArrival : List (Nat × Msg) → Option (Nat × Msg)
  | [] => none
  | a :: t =>
    match nextArrival t with
    | none => some a
    | some b => if b.1 < a.1 || (b.1 = a.1 && b.2.src < a.2.src) then some b else some a

/-- The next message on its way to a core becomes visible (R168). -/
def messageArrives (s : State) (c : Nat) : State :=
  match nextArrival (s.core c).soon with
  | none => s
  | some a => (s.toEdge a.1).updCore c fun x => { x with soon := x.soon.erase a, mbox := x.mbox ++ [a.2] }

end Sys2Proof.Machine
end

