-- ==== Sys2Proof/Machine/SpireAlu.lean ====
section
/-!
DEFINITION. The ALU instructions (R175): register forms, shifts, minima, saturating forms, immediates.
-/
namespace Sys2Proof.Machine

/-- A result written to g[rd] with the flags it sets. -/
def CoreSt.put (x : CoreSt) (rd : Nat) (r : FpRes) : CoreSt := (x.gW rd (BitVec.ofNat 32 r.val)).flag r.flags

/-- The count of leading zeros of a word (R175). -/
def clz (v : BitVec 32) : Nat := if v = 0 then 32 else 31 - Nat.log2 v.toNat

/-- An ALU instruction of two g registers (R175). -/
def alu3 (s : State) (c : Fin 16) (i : Instr) (rd rs1 rs2 : BitVec 5) (f : BitVec 32 → BitVec 32 → BitVec 32) : Out :=
  .next (spReg s c i false fun x => x.gW rd.toNat (f (x.gR rs1.toNat) (x.gR rs2.toNat)))

/-- An ALU instruction of one g register; rs2 is not used (R173). -/
def alu2 (s : State) (c : Fin 16) (i : Instr) (rd rs1 rs2 : BitVec 5) (f : BitVec 32 → BitVec 32) : Out :=
  .next (spReg s c i (rs2 != 0) fun x => x.gW rd.toNat (f (x.gR rs1.toNat)))

/-- A saturating ALU instruction (R175): its exact result clamped, SAT set where it was. -/
def aluSat (s : State) (c : Fin 16) (i : Instr) (bad : Bool) (rd rs1 rs2 : BitVec 5) (f : Int → Int → Int) : Out :=
  .next (spReg s c i bad fun x => x.put rd.toNat (sat32 (f (x.gR rs1.toNat).toInt (x.gR rs2.toNat).toInt)))

/-- An ALU instruction with a 16-bit immediate (R175). -/
def aluImm (s : State) (c : Fin 16) (i : Instr) (rd rs1 : BitVec 5) (f : BitVec 32 → BitVec 32) : Out :=
  .next (spReg s c i false fun x => x.gW rd.toNat (f (x.gR rs1.toNat)))

/-- 1 or 0 as a word. -/
def flagWord (b : Bool) : BitVec 32 := if b then 1 else 0

/-- ADD (R175). -/
def execSpAdd (c : Fin 16) (rd rs1 rs2 : BitVec 5) (s : State) : Out :=
  alu3 s c (.spAdd c rd rs1 rs2) rd rs1 rs2 fun a b => a + b

/-- SUB (R175). -/
def execSpSub (c : Fin 16) (rd rs1 rs2 : BitVec 5) (s : State) : Out :=
  alu3 s c (.spSub c rd rs1 rs2) rd rs1 rs2 fun a b => a - b

/-- AND (R175). -/
def execSpAnd (c : Fin 16) (rd rs1 rs2 : BitVec 5) (s : State) : Out :=
  alu3 s c (.spAnd c rd rs1 rs2) rd rs1 rs2 fun a b => a &&& b

/-- OR (R175). -/
def execSpOr (c : Fin 16) (rd rs1 rs2 : BitVec 5) (s : State) : Out :=
  alu3 s c (.spOr c rd rs1 rs2) rd rs1 rs2 fun a b => a ||| b

/-- XOR (R175). -/
def execSpXor (c : Fin 16) (rd rs1 rs2 : BitVec 5) (s : State) : Out :=
  alu3 s c (.spXor c rd rs1 rs2) rd rs1 rs2 fun a b => a ^^^ b

/-- NOR (R175). -/
def execSpNor (c : Fin 16) (rd rs1 rs2 : BitVec 5) (s : State) : Out :=
  alu3 s c (.spNor c rd rs1 rs2) rd rs1 rs2 fun a b => ~~~(a ||| b)

/-- SLT (R175). -/
def execSpSlt (c : Fin 16) (rd rs1 rs2 : BitVec 5) (s : State) : Out :=
  alu3 s c (.spSlt c rd rs1 rs2) rd rs1 rs2 fun a b => flagWord (a.slt b)

/-- SLTU (R175). -/
def execSpSltu (c : Fin 16) (rd rs1 rs2 : BitVec 5) (s : State) : Out :=
  alu3 s c (.spSltu c rd rs1 rs2) rd rs1 rs2 fun a b => flagWord (a.ult b)

/-- SLL (R175). -/
def execSpSll (c : Fin 16) (rd rs1 rs2 : BitVec 5) (s : State) : Out :=
  alu3 s c (.spSll c rd rs1 rs2) rd rs1 rs2 fun a b => a <<< (b.toNat % 32)

/-- SRL (R175). -/
def execSpSrl (c : Fin 16) (rd rs1 rs2 : BitVec 5) (s : State) : Out :=
  alu3 s c (.spSrl c rd rs1 rs2) rd rs1 rs2 fun a b => a >>> (b.toNat % 32)

/-- SRA (R175). -/
def execSpSra (c : Fin 16) (rd rs1 rs2 : BitVec 5) (s : State) : Out :=
  alu3 s c (.spSra c rd rs1 rs2) rd rs1 rs2 fun a b => a.sshiftRight (b.toNat % 32)

/-- MIN (R175). -/
def execSpMin (c : Fin 16) (rd rs1 rs2 : BitVec 5) (s : State) : Out :=
  alu3 s c (.spMin c rd rs1 rs2) rd rs1 rs2 fun a b => if a.slt b then a else b

/-- MAX (R175). -/
def execSpMax (c : Fin 16) (rd rs1 rs2 : BitVec 5) (s : State) : Out :=
  alu3 s c (.spMax c rd rs1 rs2) rd rs1 rs2 fun a b => if a.slt b then b else a

/-- MINU (R175). -/
def execSpMinu (c : Fin 16) (rd rs1 rs2 : BitVec 5) (s : State) : Out :=
  alu3 s c (.spMinu c rd rs1 rs2) rd rs1 rs2 fun a b => if a.ult b then a else b

/-- MAXU (R175). -/
def execSpMaxu (c : Fin 16) (rd rs1 rs2 : BitVec 5) (s : State) : Out :=
  alu3 s c (.spMaxu c rd rs1 rs2) rd rs1 rs2 fun a b => if a.ult b then b else a

/-- SLLI (R175). -/
def execSpSlli (c : Fin 16) (rd rs1 rs2 : BitVec 5) (s : State) : Out :=
  aluImm s c (.spSlli c rd rs1 rs2) rd rs1 fun a => a <<< rs2.toNat

/-- SRLI (R175). -/
def execSpSrli (c : Fin 16) (rd rs1 rs2 : BitVec 5) (s : State) : Out :=
  aluImm s c (.spSrli c rd rs1 rs2) rd rs1 fun a => a >>> rs2.toNat

/-- SRAI (R175). -/
def execSpSrai (c : Fin 16) (rd rs1 rs2 : BitVec 5) (s : State) : Out :=
  aluImm s c (.spSrai c rd rs1 rs2) rd rs1 fun a => a.sshiftRight rs2.toNat

/-- ADDS (R175). -/
def execSpAdds (c : Fin 16) (rd rs1 rs2 : BitVec 5) (s : State) : Out :=
  aluSat s c (.spAdds c rd rs1 rs2) false rd rs1 rs2 fun a b => a + b

/-- SUBS (R175). -/
def execSpSubs (c : Fin 16) (rd rs1 rs2 : BitVec 5) (s : State) : Out :=
  aluSat s c (.spSubs c rd rs1 rs2) false rd rs1 rs2 fun a b => a - b

/-- CLZ (R175). -/
def execSpClz (c : Fin 16) (rd rs1 rs2 : BitVec 5) (s : State) : Out :=
  alu2 s c (.spClz c rd rs1 rs2) rd rs1 rs2 fun a => BitVec.ofNat 32 (clz a)

/-- SEXTB (R175). -/
def execSpSextb (c : Fin 16) (rd rs1 rs2 : BitVec 5) (s : State) : Out :=
  alu2 s c (.spSextb c rd rs1 rs2) rd rs1 rs2 fun a => (a.setWidth 8).signExtend 32

/-- SEXTH (R175). -/
def execSpSexth (c : Fin 16) (rd rs1 rs2 : BitVec 5) (s : State) : Out :=
  alu2 s c (.spSexth c rd rs1 rs2) rd rs1 rs2 fun a => (a.setWidth 16).signExtend 32

/-- ZEXTH (R175). -/
def execSpZexth (c : Fin 16) (rd rs1 rs2 : BitVec 5) (s : State) : Out :=
  alu2 s c (.spZexth c rd rs1 rs2) rd rs1 rs2 fun a => (a.setWidth 16).setWidth 32

/-- ABS (R175). -/
def execSpAbs (c : Fin 16) (rd rs1 rs2 : BitVec 5) (s : State) : Out :=
  aluSat s c (.spAbs c rd rs1 rs2) (rs2 != 0) rd rs1 0 fun a _ => a.natAbs

/-- ADDI (R175). -/
def execSpAddi (c : Fin 16) (rd rs1 : BitVec 5) (imm : BitVec 16) (s : State) : Out :=
  aluImm s c (.spAddi c rd rs1 imm) rd rs1 fun a => a + imm.signExtend 32

/-- ANDI (R175). -/
def execSpAndi (c : Fin 16) (rd rs1 : BitVec 5) (imm : BitVec 16) (s : State) : Out :=
  aluImm s c (.spAndi c rd rs1 imm) rd rs1 fun a => a &&& imm.setWidth 32

/-- ORI (R175). -/
def execSpOri (c : Fin 16) (rd rs1 : BitVec 5) (imm : BitVec 16) (s : State) : Out :=
  aluImm s c (.spOri c rd rs1 imm) rd rs1 fun a => a ||| imm.setWidth 32

/-- XORI (R175). -/
def execSpXori (c : Fin 16) (rd rs1 : BitVec 5) (imm : BitVec 16) (s : State) : Out :=
  aluImm s c (.spXori c rd rs1 imm) rd rs1 fun a => a ^^^ imm.setWidth 32

/-- SLTI (R175). -/
def execSpSlti (c : Fin 16) (rd rs1 : BitVec 5) (imm : BitVec 16) (s : State) : Out :=
  aluImm s c (.spSlti c rd rs1 imm) rd rs1 fun a => flagWord (a.slt (imm.signExtend 32))

/-- SLTIU (R175). -/
def execSpSltiu (c : Fin 16) (rd rs1 : BitVec 5) (imm : BitVec 16) (s : State) : Out :=
  aluImm s c (.spSltiu c rd rs1 imm) rd rs1 fun a => flagWord (a.ult (imm.signExtend 32))

/-- IMMH (R175). -/
def execSpImmh (c : Fin 16) (rd rs1 : BitVec 5) (imm : BitVec 16) (s : State) : Out :=
  .next (spReg s c (.spImmh c rd rs1 imm) (rs1 != 0) fun x => x.gW rd.toNat (imm.setWidth 32 <<< 16))

end Sys2Proof.Machine
end

