-- ==== Sys2Proof/Machine/SpireSync.lean ====
section
/-!
DEFINITION. The SYNC, MSG and LOCK instructions and the events that end their waits (R157, R166 to R168, R186 to R190,
R244), csr.TICKS at the tick.
-/
namespace Sys2Proof.Machine

/-- The number of a missed-tick answer of WAITT (R166). -/
def lateTicks (n : Nat) : BitVec 32 := BitVec.ofNat 32 (2 ^ 31 + n)

/-- WAITT (R166). -/
def execSpWaitt (c : Fin 16) (rd rs1 rs2 : BitVec 5) (s : State) : Out :=
  .next (spire s c (.spWaitt c rd rs1 rs2) (rs1 != 0 || rs2 != 0) fun s x =>
    if x.ticks = 0 then .hold (s.setCore c { x with wait := some (.waitt rd.toNat) })
    else .done (s.setCore c ({ x with ticks := 0 }.gW rd.toNat (lateTicks x.ticks))))

/-- The mask of a BAR: rs1[15:0] (R167). -/
def barMask (x : CoreSt) (rs1 : BitVec 5) : Nat := (x.gR rs1.toNat).toNat % 2 ^ 16

/-- BAR (R167). -/
def execSpBar (c : Fin 16) (rd rs1 rs2 : BitVec 5) (s : State) : Out :=
  .next (spire s c (.spBar c rd rs1 rs2) (rs2 != 0) fun s x =>
    let m := barMask x rs1
    if bit m c.val then .hold (s.setCore c { x with wait := some (.bar rd.toNat m s.fab) }) else .plainExc s X_ILLEGAL)

/-- FENCE (R157). -/
def execSpFence (c : Fin 16) (rd rs1 rs2 : BitVec 5) (s : State) : Out :=
  .next (spire s c (.spFence c rd rs1 rs2) (rd != 0 || rs1 != 0 || rs2 != 0) fun s x =>
    if x.buf.isEmpty then .done s else .hold (s.setCore c { x with wait := some .fence }))

/-- SEND (R168). -/
def execSpSend (c : Fin 16) (rd rs1 rs2 : BitVec 5) (s : State) : Out :=
  .next (spire s c (.spSend c rd rs1 rs2) (rs2.toNat % 2 == 1) fun s x =>
    let n := (x.gR rs1.toNat).toNat
    if 16 ≤ n then .plainExc s X_ILLEGAL
    else if mailboxFull s n then .done (s.setCore c (x.gW rd.toNat (BitVec.ofNat 32 E_FULL)))
    else
      let s := sendMessage s n ⟨x.gR rs2.toNat, x.gR (rs2.toNat + 1), c⟩
      .done (s.updCore c fun x => x.gW rd.toNat (BitVec.ofNat 32 OK)))

/-- The oldest message into a pair of g registers, MSRC set (R168). -/
def CoreSt.takeMsg (x : CoreSt) (rd : Nat) : CoreSt :=
  match x.mbox with
  | [] => x
  | m :: t => { ((x.gW rd m.lo).gW (rd + 1) m.hi) with mbox := t, msrc := m.src, msrcValid := true }

/-- RECV (R168). -/
def execSpRecv (c : Fin 16) (rd rs1 rs2 : BitVec 5) (s : State) : Out :=
  .next (spire s c (.spRecv c rd rs1 rs2) (rd.toNat % 2 == 1 || rs1 != 0 || rs2 != 0) fun s x =>
    if x.mbox.isEmpty then .hold (s.setCore c { x with wait := some (.recv rd.toNat) })
    else .done (s.setCore c (x.takeMsg rd.toNat)))

/-- RECVN (R168). -/
def execSpRecvn (c : Fin 16) (rd rs1 rs2 : BitVec 5) (s : State) : Out :=
  .next (spire s c (.spRecvn c rd rs1 rs2) (rd.toNat % 2 == 1 || rs1 != 0 || rs2 != 0) fun s x =>
    if x.mbox.isEmpty then .done (s.setCore c { x with msrcValid := false })
    else .done (s.setCore c (x.takeMsg rd.toNat)))

/-- The token of a LOCK instruction (R189). -/
def tokenOf (x : CoreSt) (rs1 : BitVec 5) (operand : BitVec 12) : Nat := ((x.gR rs1.toNat).toNat + operand.toNat % 64) % 64

/-- imm16[11:6] of a token operand is not 0 (R189). -/
def tokenBad (operand : BitVec 12) : Bool := operand.toNat / 64 != 0

/-- A LOCK operation that ends at once: its result word in g[rd] (R189). -/
def lockInstr (s : State) (c : Fin 16) (i : Instr) (rd rs1 : BitVec 5) (operand : BitVec 12) (op : State → Nat → Nat → State × Nat) :
    Out :=
  .next (spire s c i (tokenBad operand) fun s x =>
    let t := tokenOf x rs1 operand
    let (s, code) := op s t c
    .done (s.updCore c fun x => x.gW rd.toNat (BitVec.ofNat 32 (lockWord s t c code))))

/-- LOCKACQ (R189). -/
def execSpLockacq (c : Fin 16) (rd rs1 : BitVec 5) (operand : BitVec 12) (s : State) : Out :=
  .next (spire s c (.spLockacq c rd rs1 operand) (tokenBad operand) fun s x =>
    let t := tokenOf x rs1 operand
    let (s', code) := lockTry s t c
    if code = E_LOCKED then .hold ((lockWait s t c).updCore c fun x => { x with wait := some (.lock rd.toNat t) })
    else .done (s'.updCore c fun x => x.gW rd.toNat (BitVec.ofNat 32 (lockWord s' t c code))))

/-- LOCKTRY (R189). -/
def execSpLocktry (c : Fin 16) (rd rs1 : BitVec 5) (operand : BitVec 12) (s : State) : Out :=
  lockInstr s c (.spLocktry c rd rs1 operand) rd rs1 operand lockTry

/-- LOCKREL (R189). -/
def execSpLockrel (c : Fin 16) (rd rs1 : BitVec 5) (operand : BitVec 12) (s : State) : Out :=
  lockInstr s c (.spLockrel c rd rs1 operand) rd rs1 operand lockRel

/-- LOCKCLR (R189). -/
def execSpLockclr (c : Fin 16) (rd rs1 : BitVec 5) (operand : BitVec 12) (s : State) : Out :=
  lockInstr s c (.spLockclr c rd rs1 operand) rd rs1 operand lockClr

/-! ### The events that end a wait -/

/-- A stalled instruction of a core is complete: the PC goes to the next, a halt asked for takes place (R171). -/
def resume (s : State) (c : Nat) : State :=
  atBoundary (s.updCore c fun x => { x with wait := none, pc := x.pc + 4 }) c

/-- csr.TICKS of every core that is not held in reset counts a tick, saturating (R166). -/
def coreTicks (s : State) : State :=
  forN 16 (fun c s => if s.on SPIRE_STATUS_HALTED c then s else s.updCore c fun x => { x with ticks := min 255 (x.ticks + 1) }) s

/-- Cores stalled in WAITT are released together on the eighth CORE clock after the tick (R166). -/
def waittRelease (s : State) : State :=
  if clocked s && (upTo 16).any (fun c => waits s c) then
    let s := s.toEdge (s.pipe.tickEdge + 4)
    forN 16 (fun c s =>
      if waits s c then
        match (s.core c).wait with
        | some (.waitt rd) => resume (s.updCore c fun x => { x with ticks := 0 }.gW rd 1) c
        | _ => s
      else s) s
  else s
where
  /-- A core stalled in WAITT has seen a tick. -/
  waits (s : State) (c : Nat) : Bool :=
    inRun s && !(s.on SPIRE_STATUS_HALTED c) &&
    match (s.core c).wait with
    | some (.waitt _) => decide (1 ≤ (s.core c).ticks)
    | _ => false

/-- A core stalls in a BAR with a mask. -/
def inBar (s : State) (m c : Nat) : Bool :=
  !(s.on SPIRE_STATUS_HALTED c) && match (s.core c).wait with | some (.bar _ m' _) => m' == m | _ => false

/-- The latest arrival of a barrier. -/
def lastArrival (s : State) (m : Nat) : Nat :=
  forN 16 (fun c e => if bit m c then (match (s.core c).wait with | some (.bar _ _ a) => max a e | _ => e) else e) 0

/-- Every core of a mask stalls in a BAR with it: all are released, 2 FAB clocks after the last arrival, with 0
(R167). -/
def barRelease (s : State) (m : Nat) : State :=
  if clocked s && inRun s && m != 0 && (upTo 16).all (fun c => !(bit m c) || inBar s m c) then
    let s := s.toEdge (lastArrival s m + 2)
    forN 16 (fun c s =>
      if bit m c then
        match (s.core c).wait with
        | some (.bar rd _ _) => resume (s.updCore c fun x => x.gW rd 0) c
        | _ => s
      else s) s
  else s

/-- A BAR not released within BAR_TO CORE clocks completes with 1 (R167). -/
def barTimeout (s : State) (c : Nat) : State :=
  if clocked s && inRun s then
    match (s.core c).wait with
    | some (.bar rd _ a) =>
      let to_ := (s.core c).barTo
      if to_ = 0 then s
      else
        let s := (s.toEdge (a + ceilDiv to_ 2)).raise SPIRE_STATUS_BAR_TO c
        resume (s.updCore c fun x => x.gW rd 1) c
    | _ => s
  else s

/-- A core stalled in RECV takes the oldest message once one is visible (R168). -/
def recvRelease (s : State) (c : Nat) : State :=
  if clocked s && inRun s && !(s.core c).mbox.isEmpty then
    match (s.core c).wait with
    | some (.recv rd) => resume (s.updCore c fun x => x.takeMsg rd) c
    | _ => s
  else s

/-- A released token passes to the first waiting LOCKACQ on the next FAB edge (R244, R190). -/
def lockGrant (s : State) (t : Nat) : State :=
  if clocked s then
    match firstWaiter s t with
    | none => s
    | some c =>
      atBoundary (lockDone (s.toEdge (grantEdge s t)) c) c
  else s

end Sys2Proof.Machine
end

