-- ==== Sys2Proof/Machine/Rsa.lean ====
section
/-!
DEFINITION. RSASSA-PSS of RFC 8017 as R205 and R387 use it: RSA-3072, SHA-384, MGF1 with SHA-384, a salt of length 0.
-/
namespace Sys2Proof.Machine

/-- Bytes of an RSA-3072 modulus and of a signature (R205, R396). -/
def RSA_BYTES : Nat := 384

/-- The public exponent of every pair (R388). -/
def RSA_EXPONENT : Nat := 65537

/-- x to a power modulo n, by the `bits` low bits of the exponent. -/
def powMod (n : Nat) : (bits x e : Nat) → Nat
  | 0, _, _ => 1 % n
  | b + 1, x, e =>
    let rest := powMod n b (x * x % n) (e / 2)
    if e % 2 = 1 then x * rest % n else rest

/-- The encoded message of EMSA-PSS (RFC 8017, 9.1.1) for a modulus of 3,072 bits and an empty salt: masked padding, hash, 0xBC. -/
def pssEncode (msg : List Nat) : List Nat :=
  let h := sha384 (List.replicate 8 0 ++ sha384 msg)
  let width := RSA_BYTES - SHA384.size - 1
  let masked := List.zipWith (· ^^^ ·) (List.replicate (width - 1) 0 ++ [1]) (SHA384.mgf1 h width)
  (match masked with | [] => [] | b :: t => b % 128 :: t) ++ h ++ [0xBC]

/-- The signature of a message under a modulus and a private exponent (RFC 8017, 8.1.1). -/
def rsaSign (modulus secret : Nat) (msg : List Nat) : List Nat :=
  beBytes RSA_BYTES (powMod modulus (8 * RSA_BYTES) (beNat (pssEncode msg)) secret)

/-- A signature verifies for a message under a modulus (RFC 8017, 8.1.2): with an empty salt one encoded message is right. -/
def rsaVerifies (modulus : Nat) (msg sig : List Nat) : Bool :=
  decide (beNat sig < modulus) && powMod modulus 17 (beNat sig) RSA_EXPONENT == beNat (pssEncode msg)

end Sys2Proof.Machine
end

