-- ==== Sys2Proof/Machine/SlhDsa.lean ====
section
/-!
DEFINITION. SLH-DSA-SHA2-192s of FIPS 205 as R205 and R387 use it: pure signing with an empty context, deterministic. A node of a
tree is a list of 24 bytes.
-/
namespace Sys2Proof.Machine.Slh

/-- Bytes of a node (n). -/
def N : Nat := 24
/-- Layers of the hypertree (d). -/
def LAYERS : Nat := 7
/-- Height of a tree of the hypertree (h'). -/
def HEIGHT : Nat := 9
/-- Height and number of the FORS trees (a, k). -/
def FORS_HEIGHT : Nat := 14
/-- Number of the FORS trees (k). -/
def FORS_TREES : Nat := 17
/-- Steps of a WOTS+ chain less one (w - 1). -/
def CHAIN_END : Nat := 15
/-- WOTS+ chains: those of the message digits and those of the checksum. -/
def CHAINS : Nat := 51

/-- The secret half of a key: the seed of the secret values and that of the randomiser. -/
structure Secret where
  seed : List Nat
  prf : List Nat

/-- An address: layer, tree, type, key pair, and two words whose meaning the type gives (chain or height, hash or index). -/
structure Adrs where
  layer : Nat := 0
  tree : Nat := 0
  kind : Nat := 0
  pair : Nat := 0
  upper : Nat := 0
  lower : Nat := 0

/-- The compressed form of an address: 22 bytes. -/
def Adrs.bytes (a : Adrs) : List Nat :=
  [a.layer % 256] ++ beBytes 8 a.tree ++ [a.kind] ++ beBytes 4 a.pair ++ beBytes 4 a.upper ++ beBytes 4 a.lower

/-- The address with another type, its words cleared but the key pair. -/
def Adrs.as (a : Adrs) (kind : Nat) : Adrs := { layer := a.layer, tree := a.tree, kind := kind, pair := a.pair }

/-- A tweaked hash: the public seed filling a block, the address, the input, cut to a node. -/
def tweak (k : HashKind) (pk : List Nat) (a : Adrs) (m : List Nat) : List Nat :=
  (k.digest (pk ++ List.replicate (k.blockBytes - N) 0 ++ a.bytes ++ m)).take N

/-- PRF and F, on one node. -/
def hashOne (pk : List Nat) (a : Adrs) (m : List Nat) : List Nat := tweak SHA256 pk a m
/-- H and the hashes of more nodes. -/
def hashMany (pk : List Nat) (a : Adrs) (m : List Nat) : List Nat := tweak SHA512 pk a m

/-- `count` digits of `width` bits from the front of a byte string, first digit first. -/
def digits (bytes : List Nat) (width count : Nat) : List Nat :=
  (upTo count).map (fun i => beNat bytes * 2 ^ (width * count) / 2 ^ (8 * bytes.length) / 2 ^ (width * (count - 1 - i)) % 2 ^ width)

/-! ### WOTS+ -/

/-- `steps` steps of a chain from step `i` on. -/
def chain (pk : List Nat) (a : Adrs) : (steps i : Nat) → List Nat → List Nat
  | 0, _, x => x
  | s + 1, i, x => chain pk a s (i + 1) (hashOne pk { a with lower := i } x)

/-- The digits signed for a node: its own and those of their checksum. -/
def wotsDigits (m : List Nat) : List Nat :=
  let own := digits m 4 (2 * N)
  own ++ digits (beBytes 2 (16 * (own.map (CHAIN_END - ·)).sum)) 4 3

/-- The secret value of chain i of a key pair. -/
def wotsSecret (pk sk : List Nat) (a : Adrs) (i : Nat) : List Nat := hashOne pk { (a.as 5) with upper := i } sk

/-- The public key of a key pair from the ends of its chains. -/
def wotsClose (pk : List Nat) (a : Adrs) (ends : List (List Nat)) : List Nat := hashMany pk (a.as 1) ends.flatten

/-- The public key of a key pair. -/
def wotsPublic (pk sk : List Nat) (a : Adrs) : List Nat :=
  wotsClose pk a ((upTo CHAINS).map (fun i => chain pk { (a.as 0) with upper := i } CHAIN_END 0 (wotsSecret pk sk a i)))

/-- The signature of a node: each chain up to its digit. -/
def wotsSign (pk sk : List Nat) (a : Adrs) (m : List Nat) : List (List Nat) :=
  (List.zip (upTo CHAINS) (wotsDigits m)).map (fun x => chain pk { (a.as 0) with upper := x.1 } x.2 0 (wotsSecret pk sk a x.1))

/-- The public key that a signature of a node shows: each chain carried on to its end. -/
def wotsRecover (pk : List Nat) (a : Adrs) (sig : List (List Nat)) (m : List Nat) : List Nat :=
  wotsClose pk a ((List.zip (upTo CHAINS) (List.zip (wotsDigits m) sig)).map
    (fun x => chain pk { (a.as 0) with upper := x.1 } (CHAIN_END - x.2.1) x.2.1 x.2.2))

/-! ### Trees -/

/-- The node at a height and index of a binary tree with the given leaves and inner hash. -/
def treeNode (leaf : Nat → List Nat) (join : (height i : Nat) → List Nat → List Nat) : (height i : Nat) → List Nat
  | 0, i => leaf i
  | h + 1, i => join (h + 1) i (treeNode leaf join h (2 * i) ++ treeNode leaf join h (2 * i + 1))

/-- The authentication path of a leaf: the sibling at each height below `h`. -/
def authPath (node : (height i : Nat) → List Nat) (h i : Nat) : List (List Nat) := (upTo h).map (fun j => node j ((i / 2 ^ j) ^^^ 1))

/-- The node that a leaf's value and a path lead to, from height h on. -/
def climb (join : (height i : Nat) → List Nat → List Nat) : (path : List (List Nat)) → (h i : Nat) → List Nat → List Nat
  | [], _, _, x => x
  | p :: t, h, i, x => climb join t (h + 1) (i / 2) (join (h + 1) (i / 2) (if i % 2 = 0 then x ++ p else p ++ x))

/-- The inner hash of a tree of the hypertree (type 2) or of FORS (type 3). -/
def joinAt (pk : List Nat) (a : Adrs) (height i : Nat) (m : List Nat) : List Nat := hashMany pk { a with upper := height, lower := i } m

/-! ### The hypertree -/

/-- The inner address of a tree. -/
def treeAt (layer tree : Nat) : Adrs := { layer := layer, tree := tree, kind := 2 }
/-- The address of a key pair of a tree. -/
def pairAt (layer tree i : Nat) : Adrs := { layer := layer, tree := tree, pair := i }

/-- A node of a tree of the hypertree. -/
def xmssNode (pk sk : List Nat) (layer tree : Nat) : (height i : Nat) → List Nat :=
  treeNode (fun i => wotsPublic pk sk (pairAt layer tree i)) (joinAt pk (treeAt layer tree))

/-- A node signed under leaf i of a tree: the WOTS+ signature and the path. -/
def xmssSign (pk sk : List Nat) (layer tree i : Nat) (m : List Nat) : List (List Nat) :=
  wotsSign pk sk (pairAt layer tree i) m ++ authPath (xmssNode pk sk layer tree) HEIGHT i

/-- The root of a tree that a signature of a node leads to. -/
def xmssRecover (pk : List Nat) (layer tree i : Nat) (sig : List (List Nat)) (m : List Nat) : List Nat :=
  climb (joinAt pk (treeAt layer tree)) (sig.drop CHAINS) 0 i (wotsRecover pk (pairAt layer tree i) (sig.take CHAINS) m)

/-- A node signed up the hypertree from a layer on. -/
def htSign (pk sk : List Nat) : (layers layer tree leaf : Nat) → List Nat → List (List Nat)
  | 0, _, _, _, _ => []
  | n + 1, layer, tree, leaf, m =>
    let sig := xmssSign pk sk layer tree leaf m
    sig ++ htSign pk sk n (layer + 1) (tree / 2 ^ HEIGHT) (tree % 2 ^ HEIGHT) (xmssRecover pk layer tree leaf sig m)

/-- The root of the hypertree that a signature of a node leads to. -/
def htRecover (pk : List Nat) : (layers layer tree leaf : Nat) → List (List Nat) → List Nat → List Nat
  | 0, _, _, _, _, m => m
  | n + 1, layer, tree, leaf, sig, m =>
    let own := CHAINS + HEIGHT
    htRecover pk n (layer + 1) (tree / 2 ^ HEIGHT) (tree % 2 ^ HEIGHT) (sig.drop own)
      (xmssRecover pk layer tree leaf (sig.take own) m)

/-! ### FORS -/

/-- The secret value of leaf i of the FORS trees. -/
def forsSecret (pk sk : List Nat) (a : Adrs) (i : Nat) : List Nat := hashOne pk { (a.as 6) with lower := i } sk

/-- A leaf of the FORS trees from its secret value. -/
def forsLeaf (pk : List Nat) (a : Adrs) (i : Nat) (x : List Nat) : List Nat := hashOne pk { (a.as 3) with lower := i } x

/-- The leaf that tree t reveals, counted over all trees. -/
def forsIndex (t digit : Nat) : Nat := t * 2 ^ FORS_HEIGHT + digit

/-- The leaves that a digest selects, each revealed with its path. -/
def forsSign (pk sk : List Nat) (a : Adrs) (md : List Nat) : List (List Nat) :=
  let node := treeNode (fun i => forsLeaf pk a i (forsSecret pk sk a i)) (joinAt pk (a.as 3))
  ((List.zip (upTo FORS_TREES) (digits md FORS_HEIGHT FORS_TREES)).map
    (fun x => forsSecret pk sk a (forsIndex x.1 x.2) :: authPath node FORS_HEIGHT (forsIndex x.1 x.2))).flatten

/-- The FORS public key that a signature shows. -/
def forsRecover (pk : List Nat) (a : Adrs) (md : List Nat) (sig : List (List Nat)) : List Nat :=
  let root := fun (x : Nat × Nat) =>
    let own := (sig.drop (x.1 * (FORS_HEIGHT + 1))).take (FORS_HEIGHT + 1)
    let i := forsIndex x.1 x.2
    climb (joinAt pk (a.as 3)) (own.drop 1) 0 i (forsLeaf pk a i (nth [] own 0))
  hashMany pk (a.as 4) ((List.zip (upTo FORS_TREES) (digits md FORS_HEIGHT FORS_TREES)).map root).flatten

/-! ### Signatures -/

/-- What a message's digest selects: the bytes FORS signs, the tree and the leaf of the lowest layer. -/
structure Target where
  md : List Nat
  tree : Nat
  leaf : Nat

/-- The target of a message under a randomiser and a public key. -/
def targetOf (r pk root msg : List Nat) : Target :=
  let d := SHA512.mgf1 (r ++ pk ++ SHA512.digest (r ++ pk ++ root ++ msg)) 39
  { md := d.take 30, tree := beNat ((d.drop 30).take 7) % 2 ^ 54, leaf := beNat (d.drop 37) % 2 ^ HEIGHT }

/-- A byte string as the nodes it consists of. -/
def nodes : Nat → List Nat → List (List Nat)
  | 0, _ => []
  | n + 1, b => b.take N :: nodes n (b.drop N)

/-- The message with the prefix of pure signing and an empty context. -/
def pure (msg : List Nat) : List Nat := 0 :: 0 :: msg

/-- The signature of a message under a public key (seed and root) and its secret half: 16,224 bytes. -/
def sign (key : List Nat) (sk : Secret) (msg : List Nat) : List Nat :=
  let pk := key.take N
  let m := pure msg
  let r := (SHA512.hmac sk.prf (pk ++ m)).take N
  let t := targetOf r pk (key.drop N) m
  let a := pairAt 0 t.tree t.leaf
  let fors := forsSign pk sk.seed a t.md
  r ++ (fors ++ htSign pk sk.seed LAYERS 0 t.tree t.leaf (forsRecover pk a t.md fors)).flatten

/-- A signature of 16,224 bytes verifies for a message under a public key (seed and root). -/
def verifies (key msg sig : List Nat) : Bool :=
  let pk := key.take N
  let all := nodes (16224 / N) sig
  let t := targetOf (nth [] all 0) pk (key.drop N) (pure msg)
  let fors := FORS_TREES * (FORS_HEIGHT + 1)
  let leaf := forsRecover pk (pairAt 0 t.tree t.leaf) t.md ((all.drop 1).take fors)
  sig.length == 16224 && htRecover pk LAYERS 0 t.tree t.leaf (all.drop (1 + fors)) leaf == key.drop N

end Sys2Proof.Machine.Slh
end

