-- ==== Sys2Proof/Machine/Ledger.lean ====
section
/-!
DEFINITION. The ledger engine (R200 to R214): periods and their closes, pages, their commit, signing and delivery,
acknowledgements, checkpoints and restore.
-/
namespace Sys2Proof.Machine

/-- The ledger engine's hidden state replaced by a function of it. -/
def State.updLdg (s : State) (f : LdgSt → LdgSt) : State := { s with ldg := f s.ldg }

/-- This unit holds the token or stands alone (R208, R209). -/
def holdsToken (s : State) : Bool := s.rd TWIN_STATUS_STATE == 0 || s.rd TWIN_STATUS_STATE == 3

/-! ### Periods (R200) -/

/-- Nanoseconds of a second. -/
def SEC : Nat := 1000000000

/-- The first instant B of a context later than a time (R200). -/
def firstB (s : State) (n t : Nat) : Nat :=
  let p := max 1 (s.rd LEASE_PERIOD_S n)
  let m := t / SEC + 1
  (m + ((((s.rd LEASE_PHASE_S n : Nat) : Int) - m) % (p : Int)).toNat) * SEC

/-- The accumulators and counts of a period at 0, LW_MIN and TEMP_PEAK at their bounds (R201). -/
def clearPeriod (s : State) (n : Nat) : State :=
  let s := [LEASE_DIS_J, LEASE_CHG_J, LEASE_EST_J, LEASE_CORRUPT_CYC, LEASE_T_EXC_CYC, LEASE_C_EXC_CYC, LEASE_EXH_CYC,
    LEASE_CYCLES].foldl (fun s f => s.wr f 0 n) s
  let s := (s.wr LEASE_WEIGHT_LW_MIN 0xFFFF n).wr LEASE_CRATE_TEMP_PEAK 0x8000 n
  s.updLease n (fun l => { l with budChanged := false })

/-- A period opens at a tick (R200). -/
def openPeriod (s : State) (n t : Nat) : State :=
  let s := ((clearPeriod s n).raise LEASE_STATUS_OPEN n).clear LEASE_CTRL_CLOSE_NOW n
  (s.wr LEASE_START_NS t n).wr LEASE_NOM_END_NS (firstB s n t) n

/-- The period of a context is due at a tick (R200). -/
def closeDue (s : State) (n t : Nat) : Bool :=
  s.on LEASE_STATUS_OPEN n
  && (decide (s.rd LEASE_NOM_END_NS n ≤ t) || s.on LEASE_CTRL_CLOSE_NOW n || !(s.on LEASE_CTRL_EN n)
      || (s.lease n).closeFinal)

/-! ### Pages (R203, R204, R210) -/

/-- The cells a close captures (R204): the processed positions that name the context, ascending. -/
def capturedCells (s : State) (n : Nat) : List Nat :=
  ((upTo 128).flatMap (ringCells s)).filter (fun c => (s.entry c).leaseId == n)

/-- A record of the cell table (R204). -/
def cellRecord (s : State) (c : Nat) : List Nat :=
  let e := s.entry c
  leBytes 2 c ++ [bitv 0 e.ecAdj + bitv 1 e.corrupt + bitv 2 e.estim + bitv 3 e.leaseEn, 0] ++ leBytes 4 e.ec
  ++ leBytes 8 e.eDis ++ leBytes 8 e.eChg ++ leBytes 4 e.estJ ++ leBytes 4 e.swCount

/-- Pages of a context not yet issued. -/
def unissued (s : State) (n : Nat) : Nat := (s.ldg.pages.filter (fun p => p.ctx == n && !p.issued)).length

/-- The body of the page of a closing period (R203). -/
def pageBody (s : State) (n t seq : Nat) (table : List Nat) (ecAdj : Bool) : List Nat :=
  let l := s.lease n
  let q := fun f => s.rd f n
  let coarse := s.on CAMPANILE_STATUS_COARSE
  let span := decide (q LEASE_NOM_END_NS ≤ t) && decide (firstB s n (q LEASE_NOM_END_NS) ≤ t)
  let final := l.closeFinal || !(s.on LEASE_CTRL_EN n)
  let flags := bitv 0 coarse + bitv 1 l.restart + bitv 2 (decide (0 < q LEASE_CORRUPT_CYC)) + bitv 3 (decide (0 < q LEASE_EST_J))
    + bitv 4 ecAdj + bitv 5 l.budChanged + bitv 6 (decide (0 < q LEASE_EXH_CYC)) + bitv 7 span + bitv 8 final
    + bitv 9 (s.on LEASE_CTRL_CLOSE_NOW n)
  [0x4E, 0x4C, 0x50, 0x47, 0x01, n % 256] ++ leBytes 2 flags ++ [s.rd TWIN_CASC_CFG_POS, 0, 0, 0]
  ++ leBytes 4 (table.length / 32) ++ leBytes 8 (s.rd SYS_LDG_STATION_ID) ++ leBytes 8 (q LEASE_CONTRACT_ID)
  ++ leBytes 8 seq ++ leBytes 8 (q LEASE_START_NS) ++ leBytes 8 t ++ leBytes 8 (q LEASE_NOM_END_NS)
  ++ leBytes 8 (if coarse then s.rd CAMPANILE_UNCERT_NS else 0) ++ leBytes 8 (if l.restart then l.gapNs else 0)
  ++ leBytes 8 (q LEASE_DIS_J) ++ leBytes 8 (q LEASE_CHG_J) ++ leBytes 8 (q LEASE_EST_J)
  ++ leBytes 4 l.budDis ++ leBytes 4 l.budChg ++ leBytes 8 (q LEASE_CORRUPT_CYC) ++ leBytes 8 (q LEASE_T_EXC_CYC)
  ++ leBytes 8 (q LEASE_C_EXC_CYC) ++ leBytes 8 (q LEASE_EXH_CYC) ++ leBytes 8 (q LEASE_CYCLES)
  ++ leBytes 2 (q LEASE_WEIGHT_LW_MIN) ++ leBytes 2 (q LEASE_CRATE_TEMP_PEAK) ++ leBytes 4 0
  ++ sha384 table ++ (if seq = 1 then List.replicate 48 0 else l.prevDigest)

/-- The bytes of a page of so many cells in the journal. -/
def pageLength (cells : Nat) : Nat := 256 + 32 * cells

/-- The ledger region lacks the space of a close with so many cells, behind the pages formed and not yet submitted (R202,
R210). -/
def regionShort (s : State) (cells : Nat) : Bool :=
  !(laterFit s RG_LEDGER ((s.ldg.pages.filter (fun p => !p.submitted)).map (fun p => recordSpan RG_LEDGER (p.body ++ p.table))
    ++ [(ceilDiv (pageLength cells) 1024 + 1) * 16]))

/-- A due close carried out at a tick (R201): capture, page, reopening. -/
def closePeriod (s : State) (n t : Nat) : State :=
  let cells := capturedCells s n
  let table := cells.flatMap (cellRecord s)
  let seq := s.rd LEASE_NEXT_SEQ n + unissued s n
  let body := pageBody s n t seq table (cells.any (fun c => (s.entry c).ecAdj))
  let final := (s.lease n).closeFinal || !(s.on LEASE_CTRL_EN n)
  let s := cells.foldl (fun s c => s.updEntry c (fun e => { e with ecAdj := false })) s
  let s := s.updLdg (fun g => { g with pages := g.pages ++ [{ ctx := n, seq := seq, body := body, table := table }] })
  let s := s.updLease n (fun l => { l with closeFinal := false, restart := false, gapNs := 0, exhSusp := false
                                           prevDigest := sha384 body })
  let s := (s.clear LEASE_CTRL_CLOSE_NOW n).clear LEASE_STATUS_HELD n
  let s := suspShown s n
  if final then (clearPeriod s n).clear LEASE_STATUS_OPEN n else openPeriod s n t

/-- A due close at a tick: deferred while time is lost, space is short or the ledger is disabled (R202), else carried
out; with whether it was deferred for time and for space. -/
def closeAt (s : State) (n t : Nat) : State × Bool × Bool :=
  let s := if s.on LEASE_STATUS_OPEN n && !(s.on LEASE_CTRL_EN n)
    then s.updLease n (fun l => { l with closeFinal := true }) else s
  if closeDue s n t then
    let lost := s.on CAMPANILE_STATUS_LOST
    let short := regionShort s (capturedCells s n).length
    if lost || short || !(s.on SYS_LDG_CTRL_EN) then (s.raise LEASE_STATUS_HELD n, lost, short)
    else (closePeriod s n t, false, false)
  else (s.clear LEASE_STATUS_HELD n, false, false)

/-- A context at a tick (R200 to R202, R215): its staged curve applied, a due close, an opening. -/
def leaseTick (s : State) (n t : Nat) : State × Bool × Bool :=
  let s := if s.on LEASE_CTRL_CURVE_LOAD n
    then (s.load (fun g => g.cls == .curve && g.inst == n)).clear LEASE_CTRL_CURVE_LOAD n else s
  if !(s.on LEASE_CTRL_EN n) && !(s.on LEASE_STATUS_OPEN n) then (s, false, false)
  else
    let (s, lost, short) := closeAt s n t
    let s := if s.on LEASE_CTRL_EN n && !(s.on LEASE_STATUS_OPEN n) then openPeriod s n t else s
    (s.updLease n (fun l => { l with budDis := s.rd LEASE_BUD_DIS_WH n, budChg := s.rd LEASE_BUD_CHG_WH n }), lost, short)

/-! ### Commit, signing and delivery (R205 to R208) -/

/-- The journal KEY of a page or an acknowledgement: CTX and PAGE_SEQ (R228). -/
def pageKey (ctx seq : Nat) : Nat := (ctx + 256 * seq) % 2 ^ 64

/-- Retained pages (R216 PENDING). -/
def pagePending (s : State) : State :=
  s.wr SYS_LDG_STATUS_PENDING (satU 16 (s.ldg.pages.filter (·.issued)).length)

/-- The first page of the retained list that a test selects changed by a function. -/
def updPage (p : Page → Bool) (f : Page → Page) : List Page → List Page
  | [] => []
  | x :: t => if p x then f x :: t else x :: updPage p f t

/-- Formed pages are submitted in order while the journal takes them (R207); a standby submits nothing. -/
def submitPages (s : State) : State :=
  if !(holdsToken s) || journalClosed s || !(s.on SYS_LDG_CTRL_EN) then s
  else
    (s.ldg.pages.filter (fun p => !p.submitted)).foldl (fun s p =>
      let j : JrnSub := ⟨RG_LEDGER, pageKey p.ctx p.seq, p.body ++ p.table, .page p.ctx p.seq⟩
      if submitFits s j then
        submit (s.updLdg (fun g => { g with
          pages := updPage (fun x => x.ctx == p.ctx && x.seq == p.seq) (fun x => { x with submitted := true }) g.pages })) j
      else s) s

/-- The SLH-DSA secrets of a slot (R388). -/
def slhSecret (slot : Nat) : Slh.Secret :=
  { seed := (upTo Slh.N).map (fun i => (Config.slhSeed slot i).toNat), prf := (upTo Slh.N).map (fun i => (Config.slhPrf slot i).toNat) }

/-- The device's signature block over a message, by the private keys of a slot (R205, R388). -/
def signBlock (slot : Nat) (msg : List Nat) : List Nat :=
  let key := madeKey slot
  leBytes 8 Config.devid ++ [slot, slot, 0, 0, 0, 0, 0, 0]
    ++ rsaSign (beNat (key.take RSA_BYTES)) (Config.rsaSecret slot) msg ++ Slh.sign (key.drop RSA_BYTES) (slhSecret slot) msg

/-- The key slot that signs ledger pages (R388). -/
def LEDGER_SLOT : Nat := 9

/-- The ledger engine's code as a producer (R411). -/
def LEDGER_SOURCE : Nat := 16

/-- A page offered as one packet on the ledger's queue (R208). -/
def offerPage (s : State) (p : Page) : State :=
  let (s, _) := queuePacket s (s.rd SYS_LDG_CTRL_QUEUE) LEDGER_SOURCE (packetWords (p.body ++ p.table ++ p.signature))
  s.updLdg (fun g => { g with
    pages := updPage (fun x => x.ctx == p.ctx && x.seq == p.seq) (fun x => { x with lastOffer := some s.ns }) g.pages })

/-- Issued and signed pages not yet offered are offered in issue order, up to the first that is not signed (R208). -/
def offerPages (s : State) : State :=
  if !(holdsToken s) || !(s.on SYS_LDG_CTRL_EN) then s
  else ((s.ldg.pages.takeWhile (fun p => p.issued && p.signed)).filter (fun p => p.lastOffer.isNone)).foldl offerPage s

/-- The page a record's payload holds, issued and not yet signed (R203, R207). -/
def pageOf (ctx seq : Nat) (payload : List Nat) : Page :=
  { ctx := ctx, seq := seq, body := payload.take 256
    table := (payload.drop 256).take (32 * leNat ((payload.drop 12).take 4)), submitted := true, issued := true }

/-- A unit's retained pages as its LEDGER region has them after a recovery (R206, R208, R211): committed pages in JSEQ order, then
what is formed and not committed; NEXT_SEQ and the digest of the last page follow them, so that no PAGE_SEQ is used twice. -/
def rebuildPages (s : State) : State :=
  let recs := (regionRecs s RG_LEDGER).filter (fun x => x.state != 2)
  let named := fun (x : JrnRec) (p : Page) => x.work == .page p.ctx p.seq
  let issued := recs.filterMap (fun x => match x.work with
    | .page c q => if x.state = 1 then some ((s.ldg.pages.find? (fun p => named x p && p.issued)).getD (pageOf c q x.payload)) else none
    | _ => none)
  let rest := (s.ldg.pages.filter (fun p => !(issued.any (fun q => q.ctx == p.ctx && q.seq == p.seq)))).map
    (fun p => if p.issued then p else { p with submitted := recs.any (fun x => named x p) })
  let s := s.updLdg (fun g => { g with pages := issued ++ rest })
  let s := issued.foldl (fun s p =>
    if s.rd LEASE_NEXT_SEQ p.ctx ≤ p.seq then
      (s.wr LEASE_NEXT_SEQ (p.seq + 1) p.ctx).updLease p.ctx (fun l => { l with prevDigest := sha384 p.body })
    else s) s
  pagePending s

/-- Every retained page is to be offered again (R208: after a reset, a restore, on taking the token). -/
def offerAgain (s : State) : State :=
  offerPages (s.updLdg (fun g => { g with pages := g.pages.map (fun p => { p with lastOffer := none }) }))

/-- A page's commit is complete (R207): it is issued, and NEXT_SEQ advances. -/
def pageIssue (s : State) (ctx seq : Nat) : State :=
  if s.ldg.pages.any (fun x => x.ctx == ctx && x.seq == seq && !x.issued) then
    let s := s.updLdg (fun g => { g with
      pages := updPage (fun x => x.ctx == ctx && x.seq == seq) (fun x => { x with issued := true, submitted := true }) g.pages })
    let s := (s.wr LEASE_NEXT_SEQ (seq + 1) ctx).raise LEASE_STATUS_CLOSED ctx
    pagePending (s.raise SYS_LDG_STATUS_PAGE)
  else s

/-- SECURE completes both signatures of the oldest issued page that has none (R206), and the page is offered (R208). -/
def pageSign (s : State) : State :=
  match s.ldg.pages.find? (fun p => p.issued && !p.signed) with
  | none => s
  | some p =>
    offerPages (s.updLdg (fun g => { g with
      pages := updPage (fun x => x.issued && !x.signed) (fun x => { x with signed := true, signature := signBlock LEDGER_SLOT p.body }) g.pages }))

/-- The page offered longest ago. -/
def oldestOffer : List Page → Option (Page × Nat)
  | [] => none
  | p :: t =>
    match p.lastOffer, oldestOffer t with
    | none, r => r
    | some e, none => some (p, e)
    | some e, some (q, e') => if e ≤ e' then some (p, e) else some (q, e')

/-- A page not acknowledged within RESEND_S of its last offer is offered again (R208). -/
def pageResend (s : State) : State :=
  if !(holdsToken s) || !(s.on SYS_LDG_CTRL_EN) then s
  else
    match oldestOffer (s.ldg.pages.filter (fun p => p.issued && p.signed)) with
    | none => s
    | some (p, e) =>
      let due := e + s.rd SYS_LDG_CFG_RESEND_S * SEC
      offerPage (if s.reached due then s else s.edges (s.edgesUntil due)) p

/-! ### Acknowledgement (R209) -/

/-- The context and sequence of an accepted acknowledgement that a submission stands for. -/
def ackOf (w : Work) (payload : List Nat) : Option (Nat × Nat) :=
  match w with
  | .ack ctx seq r => if r = OK then some (ctx, seq) else none
  | .cmd _ op _ r => if op = 2 && r = OK then some (byteAt payload 16, leNat ((payload.drop 24).take 8)) else none
  | _ => none

/-- Submissions of a device's own not yet accepted, with their payloads. -/
def unaccepted (s : State) : List (Work × List Nat) :=
  (s.jrn.recs.filter (fun x => x.state == 0 && !x.foreign)).map (fun x => (x.work, x.payload))
  ++ s.jrn.waiting.map (fun w => (w.work, w.payload))

/-- The result of an acknowledgement against the state left by every earlier submission (R209). -/
def ackResult (s : State) (ctx seq : Nat) : Nat :=
  let ws := unaccepted s
  let next := s.rd LEASE_NEXT_SEQ ctx
    + (ws.filter (fun w => match w.1 with | .page c _ => c == ctx | _ => false)).length
  let acked := ws.foldl (fun a w => match ackOf w.1 w.2 with | some (c, q) => if c = ctx then max a q else a | none => a)
    (s.rd LEASE_ACKED_SEQ ctx)
  if seq = 0 then E_VALUE else if next ≤ seq then E_RANGE else if seq ≤ acked then DONE_BEFORE else OK

/-- Pages of a context up to a sequence are acknowledged and released (R209). -/
def releasePages (s : State) (ctx seq : Nat) : State :=
  let s := s.wr LEASE_ACKED_SEQ seq ctx
  let s := s.updLdg (fun g => { g with pages := g.pages.filter (fun p => !(p.ctx == ctx && decide (p.seq ≤ seq) && p.issued)) })
  pagePending (releaseWhere s RG_LEDGER (fun x => match x.work with | .page c q => c == ctx && decide (q ≤ seq) | _ => false))

/-- The codes that refuse a write of LDG_ACK (R209, R227, R231). -/
def ldgAckCodes (s : State) (ctx : Nat) : List Nat :=
  codeIf s.ldg.ackPending E_BUSY
  ++ (if holdsToken s then
        codeIf (journalClosed s) E_STATE
        ++ codeIf (!(submitFits s ⟨RG_LEDGER, 0, List.replicate 64 0, .ack ctx 0 0⟩)) E_FULL
      else [])

/-- A write of LDG_ACK (R209): submitted to the journal with its result; at the standby of a twin E_TOKEN at once. -/
def ldgAck (s : State) (ctx : Nat) : State :=
  if !(holdsToken s) then ((s.wr SYS_LDG_ACK_RSP_STAT E_TOKEN).raise SYS_LDG_ACK_RSP_VALID)
  else
    let seq := s.rd SYS_LDG_ACK_SEQ_SEQ
    let r := ackResult s ctx seq
    let s := s.updLdg (fun g => { g with ackPending := true })
    submit s ⟨RG_LEDGER, pageKey ctx seq, leBytes 8 ctx ++ leBytes 8 seq ++ leBytes 48 r, .ack ctx seq r⟩

/-- An acknowledgement is accepted (R209): its result appears, and an accepted one releases pages. -/
def ackAccepted (s : State) (ctx seq result : Nat) (mine : Bool) : State :=
  let s := if mine then (s.wr SYS_LDG_ACK_RSP_STAT result).raise SYS_LDG_ACK_RSP_VALID else s
  let s := if result = OK then releasePages s ctx seq else s
  releaseWhere s RG_LEDGER (fun x => match x.work with | .ack _ _ _ => x.state != 0 | _ => false)

/-- A read of LDG_ACK_RSP (R209): VALID clears, and the pending state ends. -/
def ldgAckRspRead (s : State) : State × Nat :=
  let v := s.readWord .sys 0 0x320
  if s.on SYS_LDG_ACK_RSP_VALID then
    ((s.clear SYS_LDG_ACK_RSP_VALID).updLdg (fun g => { g with ackPending := false }), v)
  else (s, v)

/-! ### Checkpoints and restore (R212 to R214) -/

/-- Base of a checkpoint slot (R213). -/
def slotBase (s : State) (g : Nat) : Nat := s.rd SYS_LDG_CKPT_BASE_ADDR + g % 4 * 0x50000

/-- A record closed by its CRC (R213). -/
def sealed (b : List Nat) : List Nat := b ++ leBytes 4 (crc32c b)

/-- The checkpoint record of a cell (R213). -/
def ckptCell (s : State) (gen c : Nat) : List Nat :=
  let e := s.entry c
  sealed (leBytes 2 c ++ [e.leaseId % 256, b2n e.ecAdj] ++ leBytes 4 e.ec ++ leBytes 8 e.eDis ++ leBytes 8 e.eChg
    ++ leBytes 8 e.resDis ++ leBytes 8 e.resChg ++ leBytes 4 e.estJ ++ leBytes 4 e.swCount ++ leBytes 8 gen ++ leBytes 4 0)

/-- The checkpoint record of a context (R213). -/
def ckptContext (s : State) (gen n : Nat) : List Nat :=
  sealed (((upTo 48).flatMap (fun w => leBytes 4 (s.readWord .lease n (4 * w))))
    ++ (s.lease n).prevDigest ++ leBytes 8 gen ++ leBytes 4 0)

/-- The image of a generation: 4,096 cell records, then 256 context records (R213). -/
def ckptImage (s : State) (gen : Nat) : List Nat :=
  (upTo 4096).flatMap (ckptCell s gen) ++ (upTo 256).flatMap (ckptContext s gen)

/-- A checkpoint is asked for or being written (R212). -/
def ckptBusy (s : State) : Bool :=
  s.ldg.ckptBusy || s.on SYS_LDG_CTRL_CKPT_NOW || (findKey s.staged (SYS_LDG_CTRL_CKPT_NOW.key 0 0)).isSome

/-- The capture of a generation at a tick (R212). -/
def ckptCapture (s : State) (t : Nat) : State :=
  let s := s.clear SYS_LDG_CTRL_CKPT_NOW
  let img := ckptImage s (s.rd SYS_LDG_CKPT_GEN_GEN + 1)
  s.updLdg (fun g => { g with ckptBusy := true, ckptNs := t, ckptImage := img })

/-- A checkpoint asked for (R212): captured at the next tick, at once while the pipeline is stopped. -/
def ckptRequest (s : State) : State :=
  if s.pipe.running then s.stage SYS_LDG_CTRL_CKPT_NOW 1 0 0 else ckptCapture s s.ns

/-- A generation being written as a reset leaves its slot (R212, R225): its words up to a place that is open, the next one cut. -/
def tornCkpt (s : State) (power : Bool) : State :=
  if !s.ldg.ckptBusy then s
  else
    let (v, s) := s.takeFree
    let n := v % 5120 * 64
    let base := slotBase s (s.rd SYS_LDG_CKPT_GEN_GEN + 1)
    let img := s.ldg.ckptImage
    tornWords (writeWords s base (img.take n)) power (base + n) ((img.drop n).take 64)

/-- CKPT_S seconds have passed since the last capture (R212). -/
def ckptTimer (s : State) : State :=
  let due := s.ldg.ckptNs + s.rd SYS_LDG_CFG_CKPT_S * SEC
  let s := if s.reached due then s else s.edges (s.edgesUntil due)
  if ckptBusy s then s else ckptRequest s

/-- The last record of a generation has been written, or its write has failed (R212). -/
def ckptComplete (s : State) (good : Bool) : State :=
  if !s.ldg.ckptBusy then s
  else
    let gen := s.rd SYS_LDG_CKPT_GEN_GEN + 1
    let img := s.ldg.ckptImage
    let t := s.ldg.ckptNs
    let s := s.updLdg (fun g => { g with ckptBusy := false, ckptImage := [] })
    if good then
      let s := writeWords s (slotBase s gen) img
      let s := (s.wr SYS_LDG_CKPT_GEN_GEN gen).wr SYS_LDG_LAST_CKPT_NS_NS t
      s.updLdg (fun g => { g with ckptTimes := g.ckptTimes.set (gen % 4) t })
    else s.raise SYS_LDG_STATUS_CKPT_FAIL

/-- A generation written at once, after the one being written (R212: before Sleep, Hibernate and an orderly reset). -/
def ckptNow (s : State) (good : Bool) : State :=
  let s := ckptComplete s good
  ckptComplete (ckptCapture s s.ns) good

/-- A record of `n` bytes at an address is valid and of a generation (R213, R214). -/
def ckptValid (s : State) (a n gen : Nat) : Bool :=
  let b := memBytes s.bytes a n
  !(uncorrectable s (lineOf a)) && crc32c (b.take (n - 4)) == leNat (b.drop (n - 4))
  && leNat ((b.drop (n - 16)).take 8) == gen

/-- The generation a slot holds, where its every record is valid and of that generation (R214). -/
def slotGen (s : State) (k : Nat) : Option Nat :=
  let base := slotBase s k
  let gen := s.mem (base + 48) 8
  if gen % 4 = k
      && (upTo 4096).all (fun c => ckptValid s (base + c * 64) 64 gen)
      && (upTo 256).all (fun n => ckptValid s (base + 0x40000 + n * 256) 256 gen
          && (upTo 4).all (fun l => !(uncorrectable s (lineOf (base + 0x40000 + n * 256 + 64 * l)))))
  then some gen else none

/-- The newest valid generation (R214). -/
def newestGen (s : State) : Option Nat :=
  (upTo 4).foldl (fun a k => match a, slotGen s k with
    | none, r => r
    | some x, some y => some (max x y)
    | some x, none => some x) none

/-- The codes that refuse a RESTORE (R214). -/
def restoreCodes (s : State) : List Nat :=
  codeIf s.pipe.running E_STATE ++ codeIf (s.pipe.storeInit || s.ldg.restoring) E_BUSY

/-- A RESTORE starts (R214). -/
def restoreStart (s : State) : State := s.updLdg (fun g => { g with restoring := true })

/-- A context loaded from its checkpoint record (R214). What the journal has brought NEXT_SEQ and ACKED_SEQ to stays where it is
later than the checkpoint (R211). -/
def restoreContext (s : State) (base n : Nat) : State :=
  let a := base + 0x40000 + n * 256
  let next := s.rd LEASE_NEXT_SEQ n
  let acked := s.rd LEASE_ACKED_SEQ n
  let digest := (s.lease n).prevDigest
  let s := { s with staged := s.staged.filter (fun g => !(g.2.inst == n
    && decide (LEASE_CTRL_EN.key n 0 ≤ g.1) && decide (g.1 < LEASE_CTRL_EN.key (n + 1) 0))) }
  let s := s.putWords .lease n 0 (s.mem a 192) 192
  let later := decide (s.rd LEASE_NEXT_SEQ n < next)
  let s := (s.wr LEASE_NEXT_SEQ (max next (s.rd LEASE_NEXT_SEQ n)) n).wr LEASE_ACKED_SEQ (max acked (s.rd LEASE_ACKED_SEQ n)) n
  let exh := s.on LEASE_STATUS_SUSP n
    && (!(s.on LEASE_CTRL_SUSPEND n) || (s.on LEASE_STATUS_EXHAUSTED n && s.on LEASE_CTRL_EXH_ACTION n))
  s.updLease n (fun l => { l with restart := true, prevDigest := if later then digest else memBytes s.bytes (a + 192) 48
                                  budChanged := false
                                  budDis := s.rd LEASE_BUD_DIS_WH n, budChg := s.rd LEASE_BUD_CHG_WH n
                                  closeFinal := false, exhSusp := exh })

/-- The restore completes (R214): contexts and EC_ADJ bits of the newest valid generation, or E_ECC. -/
def restoreComplete (s : State) : State :=
  if !s.ldg.restoring then s
  else
    let s := mramScan (s.updLdg (fun g => { g with restoring := false })) (s.rd SYS_LDG_CKPT_BASE_ADDR) 0x140000
    match newestGen s with
    | none => s.recordErr SYS_LDG_ERR_CODE 0 E_ECC 0x300
    | some gen =>
      let base := slotBase s gen
      let t := s.ldg.ckptTimes.get 0 (gen % 4)
      let s := forN 256 (fun n s => restoreContext s base n) s
      let s := forN 4096 (fun c s => s.updEntry c (fun e => { e with ecAdj := bit (s.mem (base + c * 64 + 3) 1) 0 })) s
      let s := forN 256 (fun n s => releasePages s n (s.rd LEASE_ACKED_SEQ n)) s
      let s := ((s.wr SYS_LDG_CKPT_GEN_GEN gen).wr SYS_LDG_LAST_CKPT_NS_NS t).raise SYS_LDG_STATUS_RESTORED
      offerAgain (s.updLdg (fun g => { g with gapFrom := some t }))

/-! ### The tick (R200 to R202, R212) -/

/-- The gap of each restored context's next page: from the capture to the first tick after the restore (R214). -/
def restoreGap (s : State) (t : Nat) : State :=
  match s.ldg.gapFrom with
  | none => s
  | some c => forN 256 (fun n s => s.updLease n (fun l => { l with gapNs := t - c })) (s.updLdg (fun g => { g with gapFrom := none }))

/-- The contexts at a cycle tick, in ascending order, with whether a close was held for the time and for want of room. -/
def leaseTicks (s : State) (t : Nat) : State × Bool × Bool :=
  (upTo 256).foldl (fun (p : State × Bool × Bool) n =>
    let q := leaseTick p.1 n t
    (q.1, p.2.1 || q.2.1, p.2.2 || q.2.2)) (s, false, false)

/-- The ledger engine at a cycle tick, before any cell of the cycle is processed: closes and openings in ascending
context, hold flags, a checkpoint capture, submission and offers. -/
def ledgerTick (s : State) (t : Nat) : State :=
  let p := leaseTicks (restoreGap s t) t
  let s := (p.1.wr SYS_LDG_STATUS_TIME_HOLD (b2n p.2.1)).wr SYS_LDG_STATUS_FULL (b2n p.2.2)
  let s := if s.on SYS_LDG_CTRL_CKPT_NOW then ckptCapture s t else s
  offerPages (submitPages s)

/-! ### Register checks and effects (R215, R216) -/

/-- X0 < X1 < … < X7 in the staged curve (R215). -/
def curveRises (s : State) (n : Nat) : Bool :=
  let x := fun j => match findKey s.staged (LEASE_CURVE_X.key n j) with | some g => g.val | none => s.rd LEASE_CURVE_X n j
  (upTo 7).all (fun j => decide (x j < x (j + 1)))

/-- A CURVE_LOAD waits for its tick (R215). -/
def curvePending (s : State) (n : Nat) : Bool :=
  s.on LEASE_CTRL_CURVE_LOAD n || (findKey s.staged (LEASE_CTRL_CURVE_LOAD.key n 0)).isSome

/-- The checks of a lease register write beyond its fields' own; `v` gives a field's value after the write (R215). -/
def leaseCodes (s : State) (n off data : Nat) (v : Fld → Nat) : List Nat :=
  match off with
  | 0x000 => codeIf (bit data 3 && v LEASE_CTRL_EN == 0) E_STATE
      ++ codeIf (bit data 4 && !(curveRises s n)) E_RANGE
  | 0x010 => codeIf (v LEASE_PERIOD_S ≤ s.rd LEASE_PHASE_S n) E_RANGE
  | 0x014 => codeIf (s.rd LEASE_PERIOD_S n ≤ v LEASE_PHASE_S) E_RANGE
  | 0x020 => codeIf (sx 16 (v LEASE_TWIN_T_HI) < sx 16 (v LEASE_TWIN_T_LO)) E_RANGE
  | _ => codeIf (decide (0x030 ≤ off) && decide (off < 0x050) && curvePending s n) E_BUSY

/-- The effects of an accepted lease register write beyond its fields (R203, R215): a budget written in a period; the
one-shot bits of CTRL wait for the tick. -/
def leaseEffect (s : State) (n off data : Nat) : State :=
  match off with
  | 0x000 =>
    let s := if bit data 3 then s.stage LEASE_CTRL_CLOSE_NOW 1 n 0 else s
    if bit data 4 then s.stage LEASE_CTRL_CURVE_LOAD 1 n 0 else s
  | 0x018 => s.updLease n (fun l => { l with budChanged := true })
  | 0x01C => s.updLease n (fun l => { l with budChanged := true })
  | _ => s

end Sys2Proof.Machine
end

