-- ==== Sys2Proof/Machine/Twin.lean ====
section
/-!
DEFINITION. The cascade and the twin (R319 to R343): messages, agreed supply, comparison, replay, token, handover, relay,
joining and health. What a unit sends is formed from its state and is not itself held.
-/
namespace Sys2Proof.Machine

/-- The twin logic's hidden state replaced by a function of it. -/
def State.updTwin (s : State) (f : TwinSt → TwinSt) : State := { s with twin := f s.twin }

/-- The unit's STATE (R331). -/
def twState (s : State) : Nat := s.rd TWIN_STATUS_STATE

/-- The pins of R334 are released in JOIN, STANDBY and FAULTY. -/
def pinsFollow (s : State) : State :=
  { s with port := { s.port with pinsHeld := twState s == TW_JOIN || twState s == TW_STANDBY || twState s == TW_FAULTY } }

/-- A FAULT record of the twin logic (R342). -/
def twinFault (s : State) : State := faultRecord s

/-! ### Health (R341) -/

/-- The unit's own health word (R341). -/
def ownHealth (s : State) : Nat :=
  bitv 0 (s.rd SYS_CLK_STATUS_LOCK == 0)
  + bitv 1 ((upTo 16).any (fun c => s.on SPIRE_STATUS_HALTED c && s.rd SPIRE_STATUS_CAUSE c == HC_DOUBLE))
  + bitv 2 ((upTo 16).any (fun c => s.rd SPIRE_ECC_UNCORR c != 0) || s.on SYS_CUP_STATUS_UE || s.on SYS_CSE_STATUS_ECC_UNCORR)
  + bitv 3 ((upTo 2).any (fun c => s.on MEMC_STATUS_CH_FAIL c))
  + bitv 4 s.pipe.overrun
  + bitv 5 ((upTo 128).any (fun r => s.on RING_STATUS_LOST r))
  + bitv 6 s.gcs.keepReq
  + bitv 7 (!(s.on JOURNAL_STATUS_READY))
  + 256 * s.rd TWIN_HEALTH_SW_SW

/-- A health word shows a fatal bit (R341), by HEALTH_FATAL as it stood at the last RET_DEADLINE (R343). -/
def fatal (s : State) (h : Nat) : Bool := (h &&& s.twin.fatalMask) != 0

/-- The unit's own health word is formed at RET_DEADLINE (R341), where writes of HEALTH_SW and HEALTH_FATAL apply (R343). -/
def healthNow (s : State) : State :=
  (s.wr TWIN_HEALTH_OWN (ownHealth s)).updTwin (fun t => { t with fatalMask := s.rd TWIN_HEALTH_FATAL_MASK })

/-! ### The token (R331 to R333) -/

/-- JOIN entered: nothing is copied yet (R340). -/
def enterJoin (s : State) : State :=
  (s.wr TWIN_STATUS_STATE TW_JOIN).updTwin (fun t => { t with copied := [], syncDone := false, followLen := none })

/-- The token taken (R333, R337, R338, R342): EPOCH + 1 and journal recovery, at whose end the retained pages are offered again
(R208). A unit whose own health is fatal never takes it (R341). -/
def takeToken (s : State) (lease : Bool) : State :=
  if fatal s (s.rd TWIN_HEALTH_OWN) then s
  else
    let s := (s.wr TWIN_STATUS_STATE TW_HOLDER).wr TWIN_EPOCH_EPOCH (s.rd TWIN_EPOCH_EPOCH + 1)
    let s := ((s.raise TWIN_STATUS_TAKEOVER).raiseIf lease TWIN_STATUS_LEASE).count TWIN_TAKEOVERS_COUNT
    let s := s.updTwin (fun t => { t with
      misses := 0, followLen := none, followFix := 0, grant := none, reqSent := false, wants := false, ack := false })
    let s := recoverStart (twinFault s)
    { s with jrn := { s.jrn with takeover := true } }

/-- The unit leaves its state for another (R331, R342); a holder loses the token. -/
def leaveState (s : State) (st : Nat) : State :=
  let s := if twState s = TW_HOLDER then
      (twinFault (s.raise TWIN_STATUS_LOST_TOKEN)).count TWIN_TAKEOVERS_COUNT
    else s
  let s := s.updTwin (fun t => { t with
    yield := false, yieldAsked := false, selfFault := false, grant := none, reqSent := false, wants := false, ack := false })
  if st = TW_JOIN then enterJoin s else s.wr TWIN_STATUS_STATE st

/-- The token change granted for a tick (R338). A cascade follower with a verdict SELF_FAULTY enters FAULTY with it (R326). -/
def handoverAt (s : State) (tick : Nat) : State :=
  if s.twin.grant != some tick then s
  else if twState s = TW_STANDBY then takeToken s false
  else if twState s = TW_HOLDER && s.twin.ack then leaveState s (if s.twin.selfFault then TW_FAULTY else TW_STANDBY)
  else s.updTwin (fun t => { t with grant := none, wants := false, ack := false })

/-- The items of a chase copy (R340): 4,096 entries, 8 arms, the pipeline and gate registers, the CSE_ARM registers, 256
leases, 1,024 slots, the lists, XF, 3 journal regions. -/
def chaseItems : Nat := 4096 + 8 + 1 + 1 + 256 + 1024 + 1 + 1 + 3

/-- A number entered into a rising list without repeats. -/
def insertNat (n : Nat) : List Nat → List Nat
  | [] => [n]
  | k :: t => if n < k then n :: k :: t else if n = k then k :: t else k :: insertNat n t

/-- Every item is copied and SYNC_DONE has been written (R340). -/
def synchronised (s : State) : Bool := s.twin.syncDone && s.twin.copied.length == chaseItems

/-- An item that this unit updates itself (R340): in JOIN only a copied one. -/
def updatesItem (s : State) (code : Nat) : Bool := twState s != TW_JOIN || s.twin.copied.contains code

/-- The cell of an entry is processed by this unit's engine (R340). -/
def updatesCell (s : State) (c : Nat) : Bool := updatesItem s c

/-- A newer epoch is adopted (R333). -/
def adoptEpoch (s : State) (epoch : Nat) : State :=
  if 0 < sx 16 (uz 16 ((epoch : Int) - s.rd TWIN_EPOCH_EPOCH)) then s.wr TWIN_EPOCH_EPOCH epoch else s

/-- Token and state changes that act at a tick, which becomes CYCLE_COUNT's new value (R331, R337, R338, R340). -/
def tokenTick (s : State) : State :=
  let n := s.rd SYS_CYCLE_COUNT
  let due := s.twin.next
  let s := s.updTwin (fun t => { t with next := none })
  let s := match due with
    | some .take => takeToken s false
    | some (.drop st) => leaveState s st
    | none => s
  let s := handoverAt s n
  let s := if twState s = TW_JOIN && synchronised s then s.wr TWIN_STATUS_STATE TW_STANDBY else s
  pinsFollow s

/-- The lease has expired (R332): no evidence of the holder for LEASE_MISS cycles. A cascade follower moves with its
master instead (R326). -/
def leaseExpiry (s : State) : State :=
  if twState s = TW_STANDBY && s.rd TWIN_CFG_LEASE_MISS ≤ s.twin.misses && s.rd TWIN_CASC_CFG_ROLE != 2 then takeToken s true
  else s

/-! ### Comparison (R335) -/

/-- The lowest position where two lists of commands differ. -/
def firstDiff : Nat → List Cmd → List Cmd → Option Nat
  | p, a :: s, b :: t => if a = b then firstDiff (p + 1) s t else some p
  | _, _, _ => none

/-- A ring's mismatch kept until the comparison is final. -/
def noteMismatch (s : State) (r : Nat) (d : Option Nat) : State :=
  match d with
  | some p => s.updTwin (fun t => { t with mismatch := t.mismatch.set r p })
  | none => s

/-- What an accepted frame means to the twin logic (R331 to R333, R335, R339). This unit's own frames, and relay frames, which only
the standby launches (R61), are no frames of the holder. -/
def twinAccept (s : State) (r : Nat) (f : Frame) : State :=
  let st := twState s
  if st = TW_OFF || !f.hdr.holder || f.hdr.relay || f.hdr.dir == ownDir s then s
  else
    let newer := decide (0 < sx 16 (uz 16 ((f.hdr.epoch : Int) - s.rd TWIN_EPOCH_EPOCH)))
    if newer && st = TW_HOLDER then adoptEpoch (leaveState s TW_JOIN) f.hdr.epoch
    else
      let s := adoptEpoch s f.hdr.epoch
      if st = TW_STANDBY && f.hdr.epoch == s.rd TWIN_EPOCH_EPOCH then
        let s := s.updTwin (fun t => { t with evidence := true, holderRings := insertNat r t.holderRings })
        match (s.ring r).tx with
        | some g => noteMismatch s r (firstDiff 0 f.cmds g.cmds)
        | none => s
      else s

/-- The holder's commands of a relayed ring (R335, R339), compared with those this unit has assembled. -/
def relayCopy (s : State) (r : Nat) (bytes : List Nat) : State :=
  if twState s != TW_STANDBY then s
  else
    let cells := ringCells s r
    let theirs := cells.map (fun c => Cmd.ofBytes (bytes.drop (4 * (c % 32))))
    let ours := cells.map (fun c => (s.entry c).cmd)
    match firstDiff 0 theirs ours with
    | some i => noteMismatch s r (some (nth 0 cells i % 32))
    | none => s

/-- A mismatching cycle is final (R335, R342): it is counted and recorded, and replayed from the next tick unless a
replay runs (R337). -/
def mismatchFinal (s : State) (ring pos : Nat) : State :=
  let s := ((s.raise TWIN_STATUS_MISMATCH).count TWIN_MIS_CNT_COUNT)
  let s := ((s.wr TWIN_MIS_INFO_RING ring).wr TWIN_MIS_INFO_POS pos).wr TWIN_MIS_INFO_CYCLE (s.rd SYS_CYCLE_COUNT)
  let s := s.updTwin (fun t => { t with
    dirty := true, mismatchCycle := if s.on TWIN_STATUS_REPLAYING then t.mismatchCycle else some (s.rd SYS_CYCLE_COUNT - 1) })
  twinFault s

/-- The comparison becomes final (R335): rings that either unit launched under R22 are not compared. -/
def compareFinal (s : State) : State :=
  let held := s.twin.heldRings ||| (match s.twin.peer with | some m => m.held | none => 0)
  let found := s.twin.mismatch.filter (fun p => !(bit held p.1))
  let s := s.updTwin (fun t => { t with mismatch := [] })
  match found with
  | [] => s
  | (r, p) :: _ => mismatchFinal s r p

/-! ### Replay (R336, R337) -/

/-- The command bytes of every processed cell, in ascending cell id. -/
def commandBytes (s : State) (cmd : Entry → Cmd) : List Nat :=
  (((upTo 128).map (ringCells s)).flatten.map (fun c => (cmd (s.entry c)).bytes)).flatten

/-- The per-arm block (R336): the count and the latched parameters of each arm. -/
def armBlock (s : State) : List Nat :=
  ((upTo 8).map (fun k => leBytes 2 (uz 16 (s.arm k).n)
    ++ ([0x000, 0x00C, 0x010, 0x014, 0x018, 0x01C, 0x020, 0x024, 0x028, 0x02C].map (fun o => leBytes 4 (s.wordInForce .arm k o))).flatten)).flatten

/-- The record of a cycle opens at the selectors-done edge, with what the selection starts from (R336); four are kept. -/
def recordOpen (s : State) : State :=
  let r : ReplayRec := { cycle := s.rd SYS_CYCLE_COUNT, regs := s.regs, entries := s.entries, arms := s.arms, lw := s.pipe.lwSnap }
  s.updTwin (fun t => { t with recs := (r :: t.recs).take 4 })

/-- The latest record changed by a function. -/
def recordUpd (s : State) (f : ReplayRec → ReplayRec) : State :=
  s.updTwin (fun t => { t with recs := match t.recs with | [] => [] | r :: u => (if r.cycle = s.rd SYS_CYCLE_COUNT then f r else r) :: u })

/-- What the set-up point samples enters the record (R336). -/
def recordSetup (s : State) (held : Nat) : State := recordUpd s (fun r => { r with setup := s.regs, held := held })

/-- The digests of the record at its launch, before CYCLE_COUNT increments (R336). -/
def recordLaunch (s : State) : State :=
  recordUpd s (fun r => { r with outDigest := crc32c (commandBytes s (·.cmd)), armDigest := crc32c (armBlock s) })

/-- The digest of the commands a record gives when the arm units and the gate stage work it again (R337). -/
def replayDigest (s : State) (x : ReplayRec) : Nat :=
  let s := { s with regs := x.regs, entries := x.entries, arms := x.arms, gcs := { s.gcs with group := [] },
                    pipe := { s.pipe with lwSnap := x.lw } }
  let s := gateStageDone (selectAll s)
  let s := { s with regs := x.setup }
  let rings := (upTo 128).filter (fun r => s.on RING_CTRL_EN r)
  let s := rings.foldl (fun s r => if bit x.held r then holdRing s r true else resampleRing s r) s
  crc32c (commandBytes s (·.cmd))

/-- A final mismatch starts the replay at the tick (R337); a standby whose record is not there enters FAULTY (R331). -/
def replayStart (s : State) : State :=
  match s.twin.mismatchCycle with
  | none => s
  | some k =>
    let s := s.updTwin (fun t => { t with mismatchCycle := none })
    match s.twin.recs.find? (fun r => r.cycle == k) with
    | some r =>
      ((s.raise TWIN_STATUS_REPLAYING).wr TWIN_REPLAY_CYCLE k).updTwin
        (fun t => { t with frozen := some r, ownResult := none, twinResult := none })
    | none => if twState s = TW_STANDBY then leaveState s TW_FAULTY else s

/-- The replay completes (R337): OWN_OK. -/
def replayComplete (s : State) : State :=
  match s.twin.frozen with
  | none => s
  | some x =>
    let ok := replayDigest s x == x.outDigest
    (s.wr TWIN_REPLAY_OWN_OK (b2n ok)).updTwin (fun t => { t with ownResult := some (ok, x.armDigest), frozen := none })

/-- VERDICT of R337 and R343 from the own and the twin's result. -/
def verdictOf (own twin eq : Bool) : Nat :=
  if own && !twin then 1 else if !own && twin then 2 else if !own then 3 else if eq then 4 else 5

/-- The change of state a verdict brings at the next tick (R337, R338). The token of a cascade follower moves with its master's
(R326). -/
def verdictChange (s : State) (v : Nat) : Option NextTick :=
  if twState s = TW_HOLDER then (if v = 2 && s.rd TWIN_CASC_CFG_ROLE != 2 then some (.drop TW_FAULTY) else none)
  else if twState s = TW_STANDBY then
    (if v = 1 then (if s.rd TWIN_CASC_CFG_ROLE = 2 then none else some .take)
     else if v = 2 || v = 3 || 3 ≤ s.twin.verdicts then some (.drop TW_FAULTY) else some (.drop TW_JOIN))
  else none

/-- The verdict at the launch set-up point (R337). -/
def verdict (s : State) : State :=
  if !(s.on TWIN_STATUS_REPLAYING) then s
  else
    let s := s.clear TWIN_STATUS_REPLAYING
    match s.twin.ownResult, s.twin.twinResult with
    | some (o, d), some (t, e) =>
      let v := verdictOf o t (d == e)
      let s := ((s.wr TWIN_REPLAY_TWIN_OK (b2n t)).wr TWIN_REPLAY_ARM_EQ (b2n (d == e))).wr TWIN_REPLAY_VERDICT v
      let s := s.updTwin (fun t => { t with ownResult := none, twinResult := none, verdicts := if 4 ≤ v then t.verdicts + 1 else 0 })
      let s := twinFault (s.raise TWIN_STATUS_VERDICT_EV)
      let c := verdictChange s v
      s.updTwin (fun t => { t with next := if c.isSome then c else t.next,
                                   selfFault := t.selfFault || (v == 2 && twState s == TW_HOLDER) })
    | _, _ =>
      let s := s.updTwin (fun t => { t with ownResult := none, twinResult := none, frozen := none })
      if twState s = TW_STANDBY then s.updTwin (fun t => { t with next := some (.drop TW_FAULTY) }) else s

/-! ### Cycle messages (R321, R328, R338, R341) -/

/-- The RET_DEADLINE edge, where the unit forms its CYCLE message (R328, R337, R338, R341): health, a REQ for a return, a
GRANT for a REQ or a yield. -/
def messageSend (s : State) : State :=
  let s := healthNow (replayComplete s)
  if twState s = TW_OFF then s
  else
    let bad := fatal s (s.rd TWIN_HEALTH_OWN)
    let n := s.rd SYS_CYCLE_COUNT
    if twState s = TW_HOLDER then
      let s := if bad then s.updTwin (fun t => { t with yield := true }) else s
      if (s.twin.wants || s.twin.yield) && s.twin.grant.isNone && s.twin.peerState = TW_STANDBY && s.on TWIN_STATUS_LINK then
        s.updTwin (fun t => { t with grant := some (n + 2), ack := false, wants := false })
      else s
    else if twState s = TW_STANDBY then
      if bad then s.updTwin (fun t => { t with next := some (.drop TW_FAULTY) })
      else
        let due := s.rd TWIN_CTRL_PREFER == 1 + s.rd TWIN_CTRL_UNIT && decide (s.rd TWIN_CFG_RETURN_CYC ≤ s.twin.clean)
          && s.twin.grant.isNone
        s.updTwin (fun t => { t with reqSent := due })
    else s

/-- The signed 16-bit skew of this unit's tick (R321): its tick edge less the leader's, as the message shows it. -/
def skewOf (s : State) (lat offset : Nat) : Int := (s.pipe.tickEdge : Int) - ((s.fab : Int) - lat - offset)

/-- The unit joins the leader's tick (R321): a twin unit in JOIN, a cascade follower with the first message of its master. -/
def joinsTick (s : State) : Bool := twState s == TW_JOIN || (s.rd TWIN_CASC_CFG_ROLE == 2 && !s.twin.joined)

/-- The leader's tick followed (R321): the length of the next cycle, the skew and one correction of it, and on joining its count
and tick. -/
def followTick (s : State) (lat : Nat) (m : CycleMsg) : State :=
  let k := skewOf s lat m.offset
  let fix : Int := if 0 < k then -1 else if k < 0 then 1 else 0
  let s := (s.wr TWIN_LAT_TICK_SKEW (uz 16 k)).updTwin (fun t => { t with followLen := some (m.nextLen % 65536), followFix := fix })
  if joinsTick s && s.pipe.running then
    let s := s.updTwin (fun t => { t with joined := true })
    if s.rd SYS_CYCLE_COUNT != m.count % 2 ^ SYS_CYCLE_COUNT.width || 1 < k.natAbs then
      let s := (s.wr SYS_CYCLE_COUNT m.count).updTwin (fun t => { t with followFix := 0 })
      { s with pipe := { s.pipe with tickEdge := ((s.fab : Int) - lat - m.offset).toNat } }.wr TWIN_LAT_TICK_SKEW 0
    else s
  else s

/-- The length of the next cycle of a follower (R321): the leader's, one FAB clock nearer to its tick. -/
def followedLength (s : State) : Option Nat :=
  s.twin.followLen.map (fun n => ((n : Int) + s.twin.followFix).toNat)

/-- The correction of the skew is made once (R321). -/
def followTaken (s : State) : State := s.updTwin (fun t => { t with followFix := 0 })

/-- The message is of the present cycle (R328, R332). -/
def ofThisCycle (s : State) (m : CycleMsg) : Bool := m.count % 2 ^ SYS_CYCLE_COUNT.width == s.rd SYS_CYCLE_COUNT

/-- The supply state of the twin's message of this cycle (R328). -/
def peerHeard (s : State) (m : CycleMsg) : State :=
  if ofThisCycle s m then s.updTwin (fun t => { t with peer := some m }) else s

/-- A CYCLE message of the twin (R321, R328, R332, R333, R337, R338, R341). -/
def twinMessage (s : State) (m : CycleMsg) : State :=
  if !(s.on TWIN_STATUS_LINK) then s
  else
    let s := s.updTwin (fun t => { t with peerState := m.state })
    let s := (s.wr TWIN_HEALTH_TWIN m.health).raiseIf (fatal s m.health) TWIN_STATUS_TWIN_HEALTH
    let s := soloEnds s m.state
    if twState s = TW_OFF then
      if m.holder && s.twin.startEnd.isSome then pinsFollow (enterJoin (s.updTwin (fun t => { t with startEnd := none }))) else s
    else if twState s = TW_HOLDER then
      (peerHeard s m).updTwin (fun t => { t with
        wants := t.wants || m.req, ack := t.ack || (m.ack && t.grant.isSome)
        twinResult := match m.replay with | some r => some r | none => t.twinResult })
    else
      let s := if m.holder then
          let s := followTick (adoptEpoch s m.epoch) (s.rd TWIN_LAT_PEER_LAT) m
          s.updTwin (fun t => { t with evidence := t.evidence || ofThisCycle s m })
        else s
      (peerHeard s m).updTwin (fun t => { t with
        grant := match m.grant with | some h => some h | none => t.grant
        twinResult := match m.replay with | some r => some r | none => t.twinResult })

/-- A CYCLE message of the cascade master (R321, R323, R325, R326). -/
def masterMessage (s : State) (m : CycleMsg) : State :=
  if s.rd TWIN_CASC_CFG_ROLE != 2 || s.rd TWIN_CASC_STATUS_LINK = 0 then s
  else
    let s := followTick (s.updTwin (fun t => { t with masterSeen := true })) (s.rd TWIN_CASC_STATUS_CASC_LAT) m
    let s := if twState s = TW_OFF then s else adoptEpoch s m.epoch
    if twState s = TW_STANDBY || twState s = TW_HOLDER then
      match m.grant with
      | some h => s.updTwin (fun t => { t with grant := some h, ack := true })
      | none => s
    else s

/-! ### Agreed supply (R328, R329) -/

/-- Forwarded status of a ring (R329): it supplies what the unit's own frame does not (R59). It is kept until RET_DEADLINE, since
until then the unit's own frame, which goes before it, may still arrive (DEDUCED from R59 and R69, log 104). -/
def statusForward (s : State) (r : Nat) (slots : List (Nat × Stat)) : State :=
  if twState s = TW_OFF || !s.pipe.running || s.pipe.retPassed then s
  else slots.foldl (fun s x => if x.2.present && x.1 < 32 then heldSupply s r x.1 x.2 true else s) s

/-- The status this unit has for a position (R59). -/
def ownSupply (s : State) (r p : Nat) : Option (Stat × Bool) :=
  match findKey (s.ring r).own p with
  | some t => some (t, false)
  | none => (findKey (s.ring r).relayed p).map (fun t => (t, true))

/-- The position was supplied at the twin too, as its CYCLE message shows (R328). -/
def peerSupplied (s : State) (r p : Nat) : Bool :=
  match s.twin.peer with
  | none => true
  | some m => bit m.full r || bit (m.masks.get 0 r) p

/-- One position processed on the agreed supply (R328, R70). -/
def agreeCell (s : State) (r p : Nat) : State :=
  if !(processed s r p) || bit (s.ring r).done p || !(updatesCell s (r * 32 + p)) then s
  else
    let s := s.updRing r (fun g => { g with done := g.done ||| 2 ^ p })
    match ownSupply s r p with
    | some (t, relayed) =>
      if peerSupplied s r p then processCell s (r * 32 + p) (some t) relayed (s.rd SYS_CYCLE_COUNT % 65536)
      else processCell s (r * 32 + p) none false 0
    | none => processCell s (r * 32 + p) none false 0

/-- RET_DEADLINE + MASK_WAIT (R328, R332, R335): the agreed supply is processed, the evidence of the cycle counted, the
comparison final. -/
def maskWaitEnd (s : State) : State :=
  if !s.pipe.running || !s.pipe.retPassed || s.pipe.maskPassed || !(twinAgrees s) then s
  else
    let s := s.toEdge (s.pipe.tickEdge + s.rd SYS_PIPE_CFG_RET_DEADLINE + s.rd TWIN_CFG_MASK_WAIT)
    let s := { s with pipe := { s.pipe with maskPassed := true } }
    let s := if s.twin.peer.isNone then (s.raise TWIN_STATUS_MASK_LATE).updTwin (fun t => { t with dirty := true }) else s
    let s := (enabledRings s).foldl (fun s r => (upTo 32).foldl (fun s p => agreeCell s r p) s) s
    let s := if twState s = TW_STANDBY then
        s.updTwin (fun t => { t with misses := if t.evidence then 0 else t.misses + 1 })
      else s
    if twState s = TW_STANDBY then compareFinal s else s

/-! ### Relay (R339) -/

/-- Ring r is relayed from this tick (R339): the standby has not accepted the holder's frame of it by RET_DEADLINE, and relays it
already or has evidence of the holder. Only a ring wired to a twin has frames of the holder (DEDUCED, log 121). -/
def relayed (s : State) (r : Nat) : Bool :=
  twState s == TW_STANDBY && s.on RING_CTRL_EN r && s.on RING_CTRL_TWIN r && !(s.twin.holderRings.contains r)
    && (s.twin.evidence || (s.ring r).relay)

/-- The rings relayed from a tick (R339). -/
def relayTick (s : State) : State :=
  let s := forN 128 (fun r s =>
    let b := relayed s r
    if b == (s.ring r).relay then s
    else (s.updRing r (fun g => { g with relay := b })).wr RING_STATUS_RELAY (b2n b) r) s
  let s := forN 4 (fun i s =>
    s.wr TWIN_RELAY_RINGS (forN 32 (fun j m => if (s.ring (32 * i + j)).relay then m + 2 ^ j else m) 0) 0 i) s
  s.wr TWIN_STATUS_RELAY (b2n ((upTo 4).any (fun i => s.rd TWIN_RELAY_RINGS 0 i != 0)))

/-! ### Chase copies (R340) -/

/-- The entry with every field but USER taken from its 128 bytes (R65, R92, R121, R340). -/
def Entry.ofBytes (e : Entry) (b : List Nat) : Entry :=
  let q := byteAt b 0x16
  let sel := le32At b 0x4C
  let g := le32At b 0x50
  let x := e.take b
  { x with
    user := e.user
    img := Stat.ofBytes b, key := le32At b 0x10, soe := le16At b 0x14, qual := q % 4, src := bit q 2, avail := bit q 3,
    estim := bit q 4, ecAdj := bit q 5, fb := bit q 6, corrupt := bit q 7, heldRun := byteAt b 0x17,
    estJ := le32At b 0x3C, swCount := le32At b 0x40, tpackMax := le16At b 0x44, tswMax := le16At b 0x46,
    faultCnt := byteAt b 0x48, lastState := byteAt b 0x49 % 8, seq := le16At b 0x4A
    sel := { dec := bits sel 0 3, ins := bit sel 3, pinned := bit sel 4, forced := bit sel 5, elig := bit sel 6,
             spent := bits sel 8 8, rank := bits sel 16 10 }
    gate := { eff := bits g 0 3, effPrev := bits g 3 3, holdSent := bit g 6, dcdc := bit g 7, illegal := bit g 8, flt := bit g 9,
              cp := bit g 10, fromBlk := bit g 11, rfsh := bit g 12, byp := bits g 13 2, misCnt := bits g 15 3,
              why := bits g 18 4, hsRun := bits g 22 10 }
    ecSetPend := bit (byteAt b 0x6B) 2, clrMax := bit (byteAt b 0x6B) 3, clrCorrupt := bit (byteAt b 0x6B) 4 }

/-- Words as the little-endian number of their bytes. -/
def wordsNat (ws : List Nat) : Nat := leNat (ws.map (leBytes 4)).flatten

/-- The pages a copied LEDGER region holds (R340). -/
def pagesOf (recs : List JrnRec) : List Page :=
  recs.filterMap (fun x => match x.work with
    | .page c q => some { pageOf c q x.payload with issued := x.state == 1 }
    | _ => none)

/-- The retained records of a region taken from the holder (R340). -/
def installJournal (s : State) (r : Nat) (recs : List JrnRec) : State :=
  let recs := (recs.filter (fun x => x.region == r)).map (fun x => { x with foreign := x.state == 0 })
  let s := { s with jrn := { s.jrn with recs := s.jrn.recs.filter (fun x => x.region != r) ++ recs } }
  let s := recs.foldl (fun s x =>
    let a := regionBase r + x.word * 64
    let s := writeWords s a (x.header ++ x.payload)
    if x.state = 0 then s else writeWords s (a + (payloadWords x.payload + 1) * 64) (x.trailerBytes x.timeNs)) s
  let s := match recs.getLast? with
    | some x => { (s.wr JOURNAL_REGION_NEXT_JSEQ (x.jseq + 1) 0 r) with
                  jrn := { s.jrn with tail := s.jrn.tail.set r ((x.word + x.span) % regionWords r) } }
    | none => s
  let s := if r = RG_LEDGER then pagePending (s.updLdg (fun g => { g with pages := pagesOf recs })) else s
  journalLevels s

/-- An item installed, with its code (R340). -/
def installItem (s : State) : ChaseItem → State × Nat
  | .entry c b => (s.updEntry (c % 4096) (fun e => e.ofBytes b), c % 4096)
  | .arm k ws => (s.putWords .arm (k % 8) 0 (wordsNat ws) (4 * ws.length), 4096 + k % 8)
  | .sys ws =>
    let n := s.rd SYS_CYCLE_COUNT
    let s := s.putWords .sys 0 0x010 (wordsNat (ws.take 12)) (4 * (ws.take 12).length)
    ((s.putWords .sys 0 0x200 (wordsNat (ws.drop 12)) (4 * (ws.drop 12).length)).wr SYS_CYCLE_COUNT n, 4104)
  | .cseArm ws => (s.putWords .sys 0 0x120 (wordsNat ws) (4 * ws.length), 4105)
  | .lease n ws => (s.putWords .lease (n % 256) 0 (wordsNat ws) (4 * ws.length), 4106 + n % 256)
  | .slot i ws => ((upTo 16).foldl (fun s w => setSlotWord s (i % 1024) w (nth 0 ws w)) s, 4362 + i % 1024)
  | .lists ws => ({ s with law := { s.law with lists := (upTo ws.length).foldl (fun m w => Sp.set m w (nth 0 ws w)) [] } }, 5386)
  | .xf ws => ({ s with law := { s.law with xf := (upTo ws.length).foldl (fun m w => Sp.set m w (nth 0 ws w)) [] } }, 5387)
  | .journal r recs => (installJournal s (r % 3) recs, 5388 + r % 3)

/-- A chase-copied item arrives (R340). -/
def chaseCopy (s : State) (item : ChaseItem) : State :=
  if twState s != TW_JOIN || !(s.on TWIN_STATUS_LINK) then s
  else
    let (s, code) := installItem s item
    s.updTwin (fun t => { t with copied := insertNat code t.copied })

/-! ### Links (R319, R320) -/

/-- A link comes up (R319, R320): 0 PEER, 1 to 3 the CASCADE ports. The one-way time of a one-granule message is half the round
trip that TWIN measures, here in ps, in FAB clocks rounded up. -/
def linkUp (s : State) (link roundTrip : Nat) : State :=
  let lat := ceilDiv roundTrip 3200
  if link = 0 then (s.raise TWIN_STATUS_LINK).wr TWIN_LAT_PEER_LAT lat
  else (s.orIn TWIN_CASC_STATUS_LINK (2 ^ (link - 1))).wr TWIN_CASC_STATUS_CASC_LAT lat

/-- The twin-loss report (R230, R342): LINK_EV and a FAULT record; a unit of a twin commits with SOLO from here. -/
def twinLost (s : State) : State :=
  let s := twinFault (s.raise TWIN_STATUS_LINK_EV)
  if standalone s || s.jrn.solo then s else goSolo s

/-- The twin has not answered PREPARED within ACK_TO (R230): TWIN_LOST, the twin-loss report, and SOLO commits. -/
def prepareTimeout (s : State) (r jseq : Nat) : State :=
  match firstRec s r (fun x => x.jseq == jseq) with
  | none => s
  | some x =>
    if x.remote || x.state != 0 || x.foreign || !(needsRemote s) then s
    else twinLost ((s.toEdge (x.edge + s.rd JOURNAL_CFG_ACK_TO)).raise JOURNAL_STATUS_TWIN_LOST)

/-- A link goes down (R319, R342): the loss of PEER makes commits SOLO. -/
def linkDown (s : State) (link : Nat) : State :=
  if link = 0 then
    if s.on TWIN_STATUS_LINK then
      twinLost ((s.clear TWIN_STATUS_LINK).updTwin (fun t => { t with peerState := 0 }))
    else s
  else
    let s := s.wr TWIN_CASC_STATUS_LINK (s.rd TWIN_CASC_STATUS_LINK &&& (7 ^^^ 2 ^ (link - 1)))
    if s.rd TWIN_CASC_STATUS_LINK = 0 then s.updTwin (fun t => { t with joined := false }) else s

/-! ### Cascade (R322 to R326) -/

/-- A COUNT message from the master (R323): refusals are recorded in the arm and flagged in the next SUMS record. -/
def countReceive (s : State) (k data : Nat) : State :=
  if s.rd TWIN_CASC_CFG_ROLE != 2 then s
  else
    let near := s.on ARM_CTRL_MOD_SRC k
    let code := if near then firstRefusal (armVrefCodes s k) else firstRefusal (armNCodes s k data)
    if code = OK then (if near then armVrefApply s k data else armNApply s k data)
    else (s.recordErr ARM_ERR_CODE k code (if near then 0x008 else 0x004)).updTwin (fun t => { t with refused := t.refused ||| 2 ^ k })

/-- The SUMS record of arm k as a follower sends it (R324). -/
def sumsRecord (s : State) (k : Nat) : List Nat :=
  leBytes 4 (s.rd ARM_SUM_VCAP_SUM k) ++ leBytes 4 (s.rd ARM_SUM_VINS_SUM k)
  ++ leBytes 6 (s.rd ARM_SUM_VCAP2_SUM k) ++ leBytes 2 (s.rd ARM_SOE_MEAN_SOE k)
  ++ leBytes 2 (s.rd ARM_RESULT_N_ACT k) ++ leBytes 2 (s.rd ARM_GCOUNT_SUBST k) ++ leBytes 2 (s.rd ARM_COUNTS_AVAIL k)
  ++ [bitv 0 (bit s.twin.refused k) + bitv 1 (s.on ARM_STATUS_REUSED k) + bitv 2 (s.on ARM_STATUS_SHORT k)
        + bitv 3 (s.on ARM_STATUS_LATE_N k), 0]
  ++ leBytes 2 (s.rd SYS_CYCLE_COUNT) ++ leBytes 6 0

/-- A follower has sent its SUMS at the selectors-done edge: the REFUSED flags start afresh (R323). -/
def sumsSent (s : State) : State := if s.twin.refused = 0 then s else s.updTwin (fun t => { t with refused := 0 })

/-- SUMS of follower f + 1 written to Cupola (R323, R324). -/
def sumsReceive (s : State) (f : Nat) (recs : List SumRec) : State :=
  if s.rd TWIN_CASC_CFG_ROLE != 1 then s
  else
    let s := s.updTwin (fun t => { t with sumsSeen := insertNat f t.sumsSeen })
    recs.foldl (fun s x =>
      engineStore s 18 TWIN_CASC_SUM_BASE_ADDR 0 (s.rd TWIN_CASC_SUM_BASE_ADDR * 32 + (f * 8 + x.arm % 8) * 32) ((x.bytes ++ List.replicate 32 0).take 32)) s

/-- The master is lost (R325). -/
def masterLost (s : State) : State :=
  if s.rd TWIN_CASC_CFG_ROLE != 2 || s.on TWIN_CASC_STATUS_MASTER_LOST || s.twin.masterMiss < s.rd TWIN_CASC_CFG_LOSS_CYC then s
  else
    let s := setAllLatch (s.raise TWIN_CASC_STATUS_MASTER_LOST)
    let s := pushEvt s ⟨s.ns, 14, false, 0, 0, 5⟩
    twinFault (s.updTwin (fun t => { t with followLen := none, followFix := 0, joined := false }))

/-- Follower f + 1 is lost (R325). -/
def followerLost (s : State) (f : Nat) : State :=
  if s.rd TWIN_CASC_CFG_ROLE != 1 || bit (s.rd TWIN_CASC_STATUS_LOST) f
      || s.twin.sumsMiss.get 0 f < s.rd TWIN_CASC_CFG_LOSS_CYC then s
  else
    let arms := s.rd TWIN_FOLLOW_ARMS_ARMS 0 f
    let s := setArmLatches (s.orIn TWIN_CASC_STATUS_LOST (2 ^ f)) arms
    twinFault (pushEvt s ⟨s.ns, 14, false, arms, 0, 3⟩)

/-- Followers a master has (R343). -/
def followerPresent (s : State) (f : Nat) : Bool := s.rd TWIN_CASC_CFG_ROLE == 1 && bit (s.rd TWIN_CASC_CFG_FOLLOWERS) f

/-- A cycle of the cascade ends (R325): silent cycles are counted, and a loss acts when its count is reached. -/
def cascadeTick (s : State) : State :=
  let limit := s.rd TWIN_CASC_CFG_LOSS_CYC
  if s.rd TWIN_CASC_CFG_ROLE = 2 then
    let n := if s.twin.masterSeen then 0 else s.twin.masterMiss + 1
    let s := s.updTwin (fun t => { t with masterMiss := n, masterSeen := false })
    if n = limit then masterLost s else s
  else if s.rd TWIN_CASC_CFG_ROLE = 1 then
    let s := forN 3 (fun f s =>
      if followerPresent s f then
        let n := if s.twin.sumsSeen.contains f then 0 else s.twin.sumsMiss.get 0 f + 1
        let s := s.updTwin (fun t => { t with sumsMiss := t.sumsMiss.set f n })
        if n = limit then followerLost s f else s
      else s) s
    s.updTwin (fun t => { t with sumsSeen := [] })
  else s

/-- What the twin logic does at a tick, before the launch and after CYCLE_COUNT has incremented. -/
def twinTick (s : State) : State :=
  let s := cascadeTick s
  if twState s = TW_OFF then pinsFollow (relayTick s)
  else
    let s := s.updTwin (fun t =>
      let clean := if t.dirty then 0 else t.clean + 1
      { t with dirty := false, clean := clean, verdicts := if s.rd TWIN_CFG_RETURN_CYC ≤ clean then 0 else t.verdicts })
    let s := tokenTick (replayStart s)
    let s := relayTick s
    s.updTwin (fun t => { t with evidence := false, holderRings := [], peer := none, heldRings := 0 })

/-! ### Register writes (R331, R338, R340, R343) -/

/-- CTRL.EN written (R331): a preferred unit waits 16 cycles for a holder's answer, another joins; 0 returns to OFF. -/
def twinEnable (s : State) (en : Bool) : State :=
  if en then
    if twState s != TW_OFF || s.twin.startEnd.isSome then s
    else
      let p := s.rd TWIN_CTRL_PREFER
      if p = 1 + s.rd TWIN_CTRL_UNIT || (p = 0 && !(s.on TWIN_CTRL_UNIT)) then
        s.updTwin (fun t => { t with startEnd := some (s.fab + 16 * s.rd CAMPANILE_CYCLE_FAB) })
      else pinsFollow (enterJoin s)
  else
    let s := (s.wr TWIN_STATUS_STATE TW_OFF).clear TWIN_STATUS_REPLAYING
    let t := s.twin
    pinsFollow (relayTick (s.updTwin (fun _ => {
      masterMiss := t.masterMiss, masterSeen := t.masterSeen, sumsMiss := t.sumsMiss, sumsSeen := t.sumsSeen
      refused := t.refused, joined := t.joined, fatalMask := t.fatalMask })))

/-- No holder has answered within 16 cycles (R331): the unit becomes the holder. -/
def twinStartTimeout (s : State) : State :=
  match s.twin.startEnd with
  | none => s
  | some e =>
    let s := (s.toEdge e).updTwin (fun t => { t with startEnd := none })
    pinsFollow (s.wr TWIN_STATUS_STATE TW_HOLDER)

/-- REJOIN (R331). -/
def twinRejoin (s : State) : State := if twState s = TW_FAULTY then pinsFollow (enterJoin s) else s

/-- YIELD (R338), which takes effect at the next set-up point (R343). -/
def twinYield (s : State) : State := s.updTwin (fun t => { t with yieldAsked := true })

/-- The set-up point takes a YIELD (R338, R343). -/
def yieldTaken (s : State) : State :=
  if s.twin.yieldAsked then
    s.updTwin (fun t => { t with yieldAsked := false, yield := t.yield || twState s == TW_HOLDER })
  else s

/-- SYNC_DONE (R340). -/
def twinSyncDone (s : State) : State := s.updTwin (fun t => { t with syncDone := true })

/-- Codes of REJOIN (R343). -/
def rejoinCodes (s : State) : List Nat := codeIf (twState s != TW_FAULTY) E_STATE
/-- Codes of YIELD (R343). -/
def yieldCodes (s : State) : List Nat :=
  codeIf (twState s != TW_HOLDER) E_TOKEN ++ codeIf (s.twin.peerState != TW_STANDBY) E_STATE
/-- Codes of SYNC_DONE (R343). -/
def syncDoneCodes (s : State) : List Nat := codeIf (twState s != TW_JOIN) E_STATE

/-- Codes of a write to TWIN beyond the ranges and classes of its fields (R328, R343, R375). -/
def twinCodes (s : State) (off data : Nat) : List Nat :=
  if off = 0x000 then
    (if bit data 4 then rejoinCodes s else []) ++ (if bit data 5 then yieldCodes s else [])
      ++ (if bit data 6 then syncDoneCodes s else [])
      ++ codeIf (bit data 0 && !(s.on TWIN_CTRL_EN) && s.on SYS_CLK_STATUS_REF10) E_STATE
  else if 0x100 ≤ off && off < 0x160 then codeIf (!(followerPresent s ((off - 0x100) / 0x20))) E_STATE
  else []

/-- What a write to TWIN does beyond storing its fields. -/
def twinEffect (s : State) (off data : Nat) : State :=
  if off = 0x000 then
    let s := if s.on TWIN_CTRL_EN then twinEnable s true else if twState s != TW_OFF || s.twin.startEnd.isSome then twinEnable s false else s
    let s := if bit data 4 then twinRejoin s else s
    let s := if bit data 5 then twinYield s else s
    if bit data 6 then twinSyncDone s else s
  else s

end Sys2Proof.Machine
end

