-- ==== Sys2Proof/Machine/Pipeline.lean ====
section
/-!
DEFINITION. The control cycle (R14 to R26): the tick, the fixed edges of the cycle, the launch of the frames and the end of
the pipeline. A stage acts only once the stage before it has; what cannot occur in the present state changes nothing.
-/
namespace Sys2Proof.Machine

/-- An operation of the FAB domain acts only while its clock runs (R373, R374). -/
def onFab (s : State) (f : State → State) : State := if clocked s then f s else s

/-! ### Checks of the cycle's lengths (R14, R19, R64, R328) -/

/-- FAB clocks from RET_DEADLINE to the tick that the stages take (R18). -/
def stageSum (mode16 : Bool) : Nat := if mode16 then 744 else 1462

/-- The inequality of R19; in a twin RET_DEADLINE + MASK_WAIT takes the place of RET_DEADLINE (R328). -/
def cycleFits (twin mode16 : Bool) (ret wait cycle : Nat) : Bool :=
  decide (ret + (if twin then wait else 0) + stageSum mode16 ≤ cycle)

/-- R19 on the values last written, with one of them replaced. -/
def cycleFitsWith (s : State) (f : Fld) (v : Nat) : Bool :=
  let get := fun (g : Fld) => if g = f then v else s.rdBack g 0 0
  cycleFits (s.on TWIN_CTRL_EN) (get SYS_PIPE_MODE_RING_CELLS != 0) (get SYS_PIPE_CFG_RET_DEADLINE) (get TWIN_CFG_MASK_WAIT)
    (get CAMPANILE_CYCLE_FAB)

/-! ### The latches of the tick (R69, R75) -/

/-- The direction of arm k latched at a tick (R75). -/
def idirNow (s : State) (k : Nat) : Bool :=
  let old := s.on SYS_CSE_ARM_MEAN_IDIR_NOW 0 k
  if s.on SYS_CSE_ARM_CFG_IDIR_SRC 0 k then
    let m := s.rd SYS_CSE_ARM_CFG_IDIR_FILT 0 k
    let q := s.rd FILT_OUTQ_QUAL m
    let y := s.rdS FILT_OUT_VALUE m
    let h := (s.rd SYS_CSE_ARM_VREF_IDIR_HYST 0 k : Int)
    if q = 0 || q = 2 then old else if h < y then true else if y < -h then false else old
  else s.on SYS_CSE_ARM_CFG_IDIR 0 k

/-- The lease weights in force, those of 0xFFFF not listed (R69). -/
def weightSnap (s : State) : Sp Nat :=
  forN 256 (fun n m => if s.rd LEASE_WEIGHT_LW n = 0xFFFF then m else Sp.set m n (s.rd LEASE_WEIGHT_LW n)) []

/-- The length of a cycle corrected by one clock down, none or one clock up (R314); a correction that does not fit is skipped. -/
def correctedCycle (s : State) (cycle : Nat) (c : Int) : State × Nat :=
  if c = 0 then (s, cycle)
  else if c < 0 then
    let ok := decide (1563 ≤ cycle - 1) && cycleFits (twinAgrees s) s.mode16 (s.rd SYS_PIPE_CFG_RET_DEADLINE)
      (s.rd TWIN_CFG_MASK_WAIT) (cycle - 1)
    if ok then (s, cycle - 1) else (s.raise CAMPANILE_STATUS_DISC_SKIP, cycle)
  else if cycle + 1 ≤ 31250 then (s, cycle + 1) else (s.raise CAMPANILE_STATUS_DISC_SKIP, cycle)

/-- The nominal cycles since the first tick, one more of them (R314). -/
def gridPassed (s : State) (cycle : Nat) : State := { s with camp := { s.camp with gridFab := s.camp.gridFab + cycle } }

/-- The grid error of a tick shown in TICK_ERR, in 2⁻⁸ ns, and the length of the cycle corrected (R314). -/
def gridCorrected (s : State) (cycle : Nat) (e5 : Int) : State × Nat :=
  correctedCycle (s.wr CAMPANILE_TICK_ERR_E (uz 32 (e5.fdiv (5 * 2 ^ 24)))) cycle (gridCorrection e5)

/-- The correction of the cycle that starts (R314). -/
def discipline (s : State) : State × Nat :=
  let cycle := s.rd CAMPANILE_CYCLE_FAB
  if s.on CAMPANILE_TICK_CTRL_DISC_EN then gridCorrected (gridPassed s cycle) cycle (gridError5 s cycle)
  else (gridPassed s cycle, cycle)

/-- What the engine latches at a tick (R69), and the cycle's length. -/
def latchCycle (s : State) (edge : Nat) : State :=
  let s := forN 8 (fun k s => s.wr SYS_CSE_ARM_MEAN_IDIR_NOW (b2n (idirNow s k)) 0 k) s
  let (s, len) := discipline s
  let len := (followedLength s).getD len
  let s := followTaken s
  let vm := (upTo 8).foldl (fun m k => Sp.set m k (s.rd SYS_CSE_ARM_MEAN_VMEAN 0 k)) []
  let p := { s.pipe with running := true, firstPending := false, endPending := false, tickEdge := edge, tickTime := s.time }
  let p := { p with cycleFab := len, retPassed := false, maskPassed := false, cseDone := false, leaseDone := false }
  let p := { p with cutoff := false, selDone := false, gateDone := false, setup := false, lastArrival := 0 }
  let p := { p with anyLate := false, assembled := false, vmeanLat := vm, lwSnap := weightSnap s }
  { s with pipe := p, camp := { s.camp with fired := [] } }

/-! ### The launch (R25, R35 to R37, R61, R63, R331) -/

/-- The management request a frame of ring r carries (R63): none on a LOST ring or while the response FIFO is full. -/
def mgmtCarries (s : State) (r : Nat) : Option MgmtReq :=
  let g := s.ring r
  if s.on RING_STATUS_LOST r || 16 ≤ g.rsps.length || s.rd RING_CTRL_MGMT_RETRY r + 1 ≤ g.tries then none else g.reqs.head?

/-- The command of a slot as launched (R37, R331): a unit in JOIN launches HOLD, or BLOCK under rows 1 to 5. -/
def slotCmd (s : State) (r p : Nat) : Cmd :=
  if !(processed s r p) then {}
  else
    let e := s.entry (r * 32 + p)
    if twState s = TW_JOIN then
      (if (s.ring r).mute then {} else { iref := e.lastCmd.iref, state := 4, dcdcEn := e.lastCmd.dcdcEn })
    else e.cmd

/-- The frame ring r launches at a tick (R35 to R37, R61). The device does not write M_DATA of a read (R36): `open_` stands for what
it then holds (log 106). -/
def frameOf (s : State) (r : Nat) (q : Option MgmtReq) (open_ : Nat) : Frame :=
  let st := twState s
  let relay := (s.ring r).relay
  let h : Hdr := { dir := ownDir s || relay, holder := st == TW_OFF || st == TW_HOLDER || relay, relay := relay,
                   ring16 := s.mode16, epoch := s.rd TWIN_EPOCH_EPOCH, cycleNo := s.rd SYS_CYCLE_COUNT % 65536,
                   cycleLen := s.pipe.cycleFab, ringId := r, cells := s.rd RING_CFG_CELLS r, dev := s.rd TWIN_CASC_CFG_POS }
  let h := match q with
    | some x => { h with mPos := x.pos, mWrite := x.write, mReq := true, mAddr := x.addr, mTag := (s.ring r).tag,
                         mData := if x.write then x.data else open_ % 65536 }
    | none => h
  { hdr := h, cmds := (upTo (slotCount s.mode16)).map (slotCmd s r),
    stats := List.replicate (slotCount s.mode16) {} }

/-- Ring r launches its frame (R25): the slots become the previous ones (R37), the ring's cycle starts. While Keep squelches
the transmitters (R353) nothing leaves. -/
def launchRing (s : State) (r : Nat) : State :=
  let s := mgmtNoack s r
  let q := mgmtCarries s r
  let (v, s) := if q.any (fun x => !x.write) then s.takeFree else (0, s)
  let f := frameOf s r q v
  let quiet := s.on KEEP_STATUS_SAFE_FAULT
  let s := (ringCells s r).foldl (fun s c => s.updEntry c (fun e => { e with lastCmd := e.cmd })) s
  let s := s.updRing r (fun g => { g with accepted := false, done := 0, own := [] })
  let s := s.updRing r (fun g => { g with relayed := [], mute := false, tx := if quiet then none else some f })
  let s := s.updRing r (fun g => { g with
    tries := if q.isSome && !quiet then g.tries + 1 else g.tries, carried := g.carried || (q.isSome && !quiet) })
  (s.wr RING_PRESENT_MASK 0 r).clear RING_STATUS_RESUMED r

/-- A stopped ring launches nothing but idle blocks (R62). -/
def idleRing (s : State) (r : Nat) : State :=
  if s.on RING_CTRL_EN r || (s.ring r).tx.isNone then s else s.updRing r (fun g => { g with tx := none })

/-- The frames of a tick (R25): every enabled ring's; at the first tick, and for a ring that starts at this tick, BLOCK in
every slot. Keep's frame monitor reads the STATE of every slot (R347). -/
def launchAll (s : State) (first : Bool) (before : List Nat) : State :=
  let rings := enabledRings s
  let s := (upTo 128).foldl idleRing s
  let s := rings.foldl (fun s r => if first || !(before.contains r) then blockRing (s.updRing r (fun g => { g with mute := true })) r else s) s
  let s := rings.foldl launchRing s
  let states := (rings.map (fun r => match (s.ring r).tx with | some f => f.cmds.map (·.state) | none => [])).flatten
  keepMonitor s states

/-! ### The launch set-up point (R22, R108) -/

/-- A ring at the set-up point by the unit's STATE (R22, R108, R331): JOIN computes but launches HOLD, FAULTY computes nothing. While
the gate command stage is still at work, a ring whose frame it has assembled whole is complete all the same. `mute` keeps whether
rows 1 to 5 hold, for a unit in JOIN at the tick. -/
def setupOne (ready : Nat) (s : State) (r : Nat) : State :=
  let st := twState s
  let s := s.updRing r (fun g => { g with mute := decide (0 < latchRow s r) })
  if st = TW_FAULTY then holdRing s r s.pipe.assembled
  else
    let early := !s.pipe.gateDone && s.pipe.selDone && bit ready r
    let s := if early then assembleRing s r else s
    let whole := s.pipe.gateDone || early
    if st = TW_JOIN then (if whole then resampleRing s r else holdRing s r s.pipe.assembled)
    else setupRing s (!whole) r

/-- 25 FAB clocks before the tick (R22, R108, R116, R332, R337). `ready` names the rings whose frame the gate command stage has
assembled by then though it is not done. -/
def launchSetup (s : State) (ready : Nat := 0) : State :=
  if !s.pipe.running || s.pipe.setup then s
  else
    let s := s.toEdge (s.pipe.tickEdge + s.pipe.cycleFab - 25)
    let s := if s.gcs.keepReq then s else s.clear SYS_GCS_BLOCK_KEEP
    let rings := enabledRings s
    let late := !s.pipe.gateDone && twState s != TW_FAULTY && twState s != TW_JOIN
    let held := if late then rings.foldl (fun m r => if s.pipe.selDone && bit ready r then m else m + 2 ^ r) 0 else 0
    let s := flushGroup (rings.foldl (setupOne ready) s)
    let s := { s with pipe := { s.pipe with setup := true, overrun := held != 0, held := held } }
    yieldTaken (leaseExpiry (verdict (recordSetup s held)))

/-! ### The tick -/

/-- What the last cycle's times were (R25 PIPE_TIME). GATE_DONE keeps its value after a cycle in which the stage did not finish
(DESIGN CHOICE, log 103). -/
def pipeTime (s : State) : State :=
  let ret := s.rd SYS_PIPE_CFG_RET_DEADLINE
  let done := ret + (if twinAgrees s then s.rd TWIN_CFG_MASK_WAIT else 0) + stageSum s.mode16 - 25
  let s := s.wr SYS_PIPE_TIME_RET_DONE (if s.pipe.anyLate then ret else s.pipe.lastArrival)
  if s.pipe.gateDone then s.wr SYS_PIPE_TIME_GATE_DONE done else s

/-- Values that apply at the tick: MODE of the arms (R83, R89), with ACTIVE of R97. -/
def tickModes (s : State) (edge : Nat) : State :=
  let off := (upTo 8).filter (fun k => s.rd ARM_CTRL_MODE k == MODE_OFF)
  let s := s.loadTick edge
  forN 8 (fun k s =>
    let on := s.rd ARM_CTRL_MODE k != MODE_OFF
    let s := s.wr ARM_STATUS_ACTIVE (b2n on) k
    if on && off.contains k then s.updArm k (fun a => { a with refill := 0, refillDue := false }) else s) s

/-- A tick on an edge, in the order of R25: the count, the staged fields, the latches, the launch; then what other blocks
do at the tick. -/
def tickAt (s : State) (edge : Nat) (first : Bool) : State :=
  let s := s.toEdge edge
  let s := if first then s else recordLaunch (pipeTime s)
  let heldMask := if first then 0 else s.pipe.held
  let s := s.count SYS_CYCLE_COUNT
  let s := (twinTick s).updTwin (fun t => { t with heldRings := heldMask })
  let before := enabledRings s
  let s := tickModes s edge
  let s := ocSource s 0 0
  let s := latchCycle s edge
  let s := { s with sig := { s.sig with pulses := s.sig.pulses.set 1 (edge + 1) } }
  let s := launchAll s first before
  let s := svTicks s s.ns
  let s := forN 12 (fun n s => pwmTick s n edge) s
  let s := ledgerTick s s.ns
  coreTicks (testTick s)

/-- The edge on which the next tick would fall, or on which the cycle ends (R25). -/
def cycleEnd (s : State) : Nat := s.pipe.tickEdge + s.pipe.cycleFab

/-- PIPE_END (R25): the pipeline ends where the next tick would have fallen; the assembled frames are discarded. -/
def pipeEnd (s : State) : State :=
  if s.pipe.running && s.pipe.endPending then
    let s := launchSetup s
    let s := pipeTime (s.toEdge (cycleEnd s))
    let s := { s with pipe := { s.pipe with running := false, endPending := false, overrun := false } }
    (upTo 128).foldl (fun s r => if (s.ring r).tx.isNone then s else s.updRing r (fun g => { g with tx := none })) s
  else s

/-- CYCLE_TICK (R25, R314): the next tick of a running pipeline, or the first one at START. -/
def cycleTick (s : State) : State :=
  if s.pipe.running && !s.pipe.endPending then
    let s := launchSetup s
    tickAt s (cycleEnd s) false
  else if s.pipe.firstPending then
    let s := pipeEnd s
    tickAt s (s.fab + s.edgesUntil (s.rd CAMPANILE_START_NS)) true
  else s

/-! ### The fixed edges of a cycle (R17, R18, R94) -/

/-- In a twin a position below CELLS that this unit has no status for sets POS_ERR (R59). -/
def posErr (s : State) (r : Nat) : State :=
  s.raiseIf ((upTo 32).any (fun p => processed s r p && !(bit (s.rd RING_PRESENT_MASK r) p))) RING_STATUS_POS_ERR r

/-- RET_DEADLINE (R17, R56, R59, R63, R328). -/
def retDeadline (s : State) : State :=
  if !s.pipe.running || s.pipe.retPassed then s
  else
    let s := s.toEdge (s.pipe.tickEdge + s.rd SYS_PIPE_CFG_RET_DEADLINE)
    let s := { s with pipe := { s.pipe with retPassed := true } }
    let s := (enabledRings s).foldl (fun s r =>
      let s := if (s.ring r).accepted then s else ringMissed s r
      let s := if twState s != TW_OFF && s.on RING_CTRL_TWIN r then s else mgmtNoack s r
      if twinAgrees s then posErr s r else holdRest s r) s
    messageSend s

/-- The engine's completion event (R18, R77, R115). -/
def cseCompletion (s : State) : State :=
  if !s.pipe.running || !s.pipe.retPassed || s.pipe.cseDone || (twinAgrees s && !s.pipe.maskPassed) then s
  else
    let s := s.toEdge (s.pipe.tickEdge + completionAt s)
    let s := { s with pipe := { s.pipe with cseDone := true } }
    let s := ocCells s
    flushGroup ((upTo 8).foldl publishMean s)

/-- LEASE_UPDATE (R196): once in a cycle, on the counts the cycle's processing left. -/
def leaseUpdate (s : State) : State :=
  if !s.pipe.running || !s.pipe.cseDone || s.pipe.leaseDone then s
  else
    let s := { s with pipe := { s.pipe with leaseDone := true } }
    (upTo 256).foldl (fun s n => if updatesItem s (4106 + n) then leaseUpdateCtx s n else s) s

/-- The cut-off edge (R21, R94). -/
def nCutoff (s : State) : State :=
  if !s.pipe.running || !s.pipe.cseDone || s.pipe.cutoff then s
  else
    let s := s.toEdge (cutoffEdge s)
    let had := s.rd SYS_PIPE_STATUS_ARM_REUSED + 256 * s.rd SYS_PIPE_STATUS_N_REUSED
    let s := { s with pipe := { s.pipe with cutoff := true, hadReused := had } }
    (upTo 8).foldl cutoffArm s

/-- BUDGET_REFILL of arm k (R89), after the cut-off and before the pin test. -/
def budgetRefill (s : State) (k : Nat) : State :=
  if s.pipe.running && s.pipe.cutoff && !s.pipe.selDone then refillArm s k else s

/-- The selectors-done edge (R94, R324, R336). A FAULTY unit computes nothing (R331). -/
def selectorsDone (s : State) : State :=
  if !s.pipe.running || !s.pipe.cutoff || s.pipe.selDone then s
  else
    let s := s.toEdge (s.pipe.tickEdge + completionAt s + (if s.mode16 then 375 else 750))
    let s := { s with pipe := { s.pipe with selDone := true } }
    if twState s = TW_FAULTY then s else sumsSent (selectAll (recordOpen s))

/-- The gate command stage's done edge (R18, R104). After the launch set-up point the frames of the next tick stand (R22). -/
def gateStageEnd (s : State) : State :=
  if !s.pipe.running || !s.pipe.selDone || s.pipe.gateDone || s.pipe.setup then s
  else
    let s := s.toEdge (s.pipe.tickEdge + completionAt s + (if s.mode16 then 375 + 188 else 750 + 375))
    let s := { s with pipe := { s.pipe with gateDone := true, assembled := true } }
    if twState s = TW_FAULTY then s else gateStageDone s

/-! ### Rings -/

/-- A frame arrives at RING_n (R55), and what it means in a twin (R329, R331, R335). -/
def ringFrame (s : State) (r edge : Nat) (f : Arrival) : State :=
  if edge < s.pipe.tickEdge then s
  else
    let was := (s.ring r).accepted
    let s := ringReceive s r (edge - s.pipe.tickEdge) f
    match f with
    | .whole b => if !was && (s.ring r).accepted then twinAccept s r (Frame.ofBytes s.mode16 b) else s
    | _ => s

/-- RING_n's block lock (R43). -/
def ringLock (s : State) (r : Nat) (on : Bool) : State := s.wr RING_STATUS_LOCK (b2n on) r

/-- CLR_STATS (R62). -/
def ringClrStats (s : State) (r : Nat) : State :=
  ((((s.wr RING_CRC_CNT_COUNT 0 r).wr RING_MISS_CNT_GAP 0 r).wr RING_MISS_CNT_PARTIAL 0 r).wr RING_RET_TIME_MAX 0 r)

/-- Codes of a write of 1 to STATUS.LOST (R56). -/
def lostClearCodes (s : State) (r : Nat) : List Nat := codeIf (s.on RING_STATUS_STALE r) E_STATE

/-- Codes of a write to RING_n beyond the ranges and classes of its fields (R56, R62, R63). -/
def ringCodes (s : State) (r off data : Nat) : List Nat :=
  match off with
  | 0x004 => codeIf (s.mode16 && decide (16 < data % 64)) E_VALUE
  | 0x008 => if bit data 2 then lostClearCodes s r else []
  | 0x020 => codeIf (decide (16 ≤ (s.ring r).reqs.length)) E_FULL
  | _ => []

/-- The management request a word of MGMT_REQ spells (R62). -/
def mgmtOf (data : Nat) : MgmtReq := ⟨data % 32, bit data 5, bits data 8 8, bits data 16 16⟩

/-- What a write to RING_n does beyond storing its fields. -/
def ringEffect (s : State) (r off data : Nat) : State :=
  match off with
  | 0x000 => if bit data 2 then ringClrStats s r else s
  | 0x020 => s.updRing r (fun g => { g with reqs := g.reqs ++ [mgmtOf data] })
  | _ => s

/-- A response returned over PEER to unit A (R63). -/
def mgmtReturn (s : State) (r stat data : Nat) (noack : Bool) : State :=
  if twState s = TW_OFF || !((s.ring r).carried) then s else mgmtComplete s r stat noack data

/-! ### SYS registers of the pipeline, the engine and the gate stage (R19, R26, R64, R80, R113, R114, R117, R122) -/

/-- Codes of a write of GCS_BLOCK.ARM bits (R113). -/
def gcsArmClearCodes (s : State) (mask : Nat) : List Nat :=
  let m := mask % 256
  codeIf ((upTo 8).any (fun k => bit m k && s.rd ARM_CTRL_MODE k != MODE_OFF)) E_STATE
    ++ codeIf ((m &&& s.rd SYS_GCS_BLOCK_ARM_REQ) != 0) E_TRIP

/-- Codes of a clear of GCS_BLOCK.ALL (R113). -/
def gcsAllClearCodes (s : State) : List Nat := codeIf ((upTo 8).any (fun k => s.rd ARM_CTRL_MODE k != MODE_OFF)) E_STATE

/-- Codes of a write of GCS_RING_BLKi bits (R113). -/
def gcsRingClearCodes (s : State) (i mask : Nat) : List Nat :=
  let arms := (upTo 8).filter (fun k => (s.rd ARM_RING_MASK_MASK k i &&& mask) != 0)
  codeIf (arms.any (fun k => s.rd ARM_CTRL_MODE k != MODE_OFF)) E_STATE
    ++ codeIf (arms.any (fun k => bit (s.rd SYS_GCS_BLOCK_ARM_REQ) k)) E_TRIP

/-- Codes of GCS_CELL_CLR (R113). -/
def gcsCellClrCodes (s : State) (data : Nat) : List Nat :=
  codeIf (bit data 16 && (s.entry (data % 4096)).img.latched) E_TRIP

/-- GCS_CELL_CLR acts (R113). -/
def gcsCellClr (s : State) (data : Nat) : State :=
  s.updEntry (data % 4096) (fun e => { e with gate := { e.gate with
    flt := e.gate.flt && !(bit data 16), illegal := e.gate.illegal && !(bit data 17) } })

/-- GCS_SET acts (R114): one record for each kind of latch, in the order arm, ring, ALL. -/
def gcsSet (s : State) (data : Nat) : State :=
  let arms := data % 256
  let s := if arms = 0 then s else pushEvt (setArmLatches s arms) ⟨s.ns, 14, false, arms, 0, 3⟩
  let s := if bit data 16 then
      let r := bits data 17 7
      pushEvt (setRingLatch s r) ⟨s.ns, 14, false, (match ringArm s r with | some k => 2 ^ k | none => 0), 0, 2⟩
    else s
  if bit data 8 then pushEvt (setAllLatch s) ⟨s.ns, 14, false, 0, 0, 5⟩ else s

/-- The low time word of GCS_EVT0, which latches the head record (R117); 0 where the log is empty. -/
def evtLatch (s : State) : State × Nat :=
  let h := s.gcs.log.head?
  ({ s with gcs := { s.gcs with latched := h } }, match h with | some e => e.time % 2 ^ 32 | none => 0)

/-- The high time word of the latched record (R117). -/
def evtHi (s : State) : Nat := match s.gcs.latched with | some e => e.time / 2 ^ 32 % 2 ^ 32 | none => 0

/-- GCS_EVT2: the rest of the latched record, which is removed (R117). -/
def evtPop (s : State) : State × Nat :=
  match s.gcs.latched with
  | none => (s, 0)
  | some e =>
    ({ s with gcs := { s.gcs with latched := none, log := s.gcs.log.tail } },
     e.src % 16 + bitv 4 e.simul + bitv 5 true + 2 ^ 8 * (e.arms % 256) + 2 ^ 16 * (e.cell % 4096) + 2 ^ 28 * (e.action % 8))

/-- Codes of a write to the SYS registers of chapters 01, 03 and 05 beyond the ranges and classes of their fields (R19, R64,
R79, R80, R113). 32-cell rings are refused while an arm holds more than 32 of them (R16; DEDUCED: E_RANGE as in R64 and R81, log
105). -/
def pipeCodes (s : State) (off data : Nat) : List Nat :=
  if off = 0x010 then
    codeIf (bit data 0 && (upTo 128).any (fun r => 16 < s.rd RING_CFG_CELLS r)) E_RANGE
      ++ codeIf (!(bit data 0) && (upTo 8).any (fun k => 32 < (armRings s k).length)) E_RANGE
      ++ codeIf (!(cycleFitsWith s SYS_PIPE_MODE_RING_CELLS (data % 2))) E_RANGE
  else if off = 0x014 then codeIf (!(cycleFitsWith s SYS_PIPE_CFG_RET_DEADLINE (data / 65536 % 65536))) E_RANGE
  else if off = 0x100 then (if bit data 0 then storeInitCodes s else [])
  else if 0x120 ≤ off && off < 0x1A0 && off % 16 = 4 then
    codeIf (decide (256 < bits data 0 9 + bits data 10 9 + bits data 20 9)) E_RANGE
  else if off = 0x20C then
    gcsArmClearCodes s (data % 256) ++ (if bit data 8 then gcsAllClearCodes s else [])
  else if 0x220 ≤ off && off < 0x230 then gcsRingClearCodes s ((off - 0x220) / 4) data
  else if off = 0x230 then gcsCellClrCodes s data
  else []

/-- What a write to these SYS registers does beyond storing its fields (R26, R79, R80, R113, R114). -/
def pipeEffect (s : State) (off data : Nat) (old : State) : State :=
  if off = 0x018 then
    if bit data 3 then forN 4 (fun i s => clearOvr s i 0xFFFFFFFF) s else s
  else if 0x030 ≤ off && off < 0x040 then
    let i := (off - 0x030) / 4
    clearOvr (s.wr SYS_PIPE_OVR (old.rd SYS_PIPE_OVR 0 i) 0 i) i data
  else if off = 0x100 then (if bit data 0 then storeInit s else s)
  else if off = 0x104 then (if bit data 1 then s.wr SYS_CSE_STATUS_ECC_CORR 0 else s)
  else if off = 0x1F0 then
    (if bit data 30 then ((((s.wr SYS_CSE_ERR_CODE 0).wr SYS_CSE_ERR_CELL 0).wr SYS_CSE_ERR_OFFSET 0).wr SYS_CSE_ERR_MORE 0) else s)
  else if off = 0x210 then gcsSet s data
  else if off = 0x230 then gcsCellClr s data
  else s

end Sys2Proof.Machine
end

