-- ==== Sys2Proof/Machine/Command.lean ====
section
/-!
DEFINITION. The command engine (R404 to R410) and what the journal's accepted work does (R229 step 5, R406): command
entries judged and submitted, completions in entry order, delivery to firmware, release of records, and the standby's part.
-/
namespace Sys2Proof.Machine

/-- The ports' hidden state replaced by a function of it. -/
def State.updPort (s : State) (f : PortSt → PortSt) : State := { s with port := f s.port }

/-! ### Command entries (R404, R405, R408) -/

/-- Entries of the command ring. -/
def cmdRing (s : State) : Nat := 2 ^ s.rd PORT_CMD_LOG2_N
/-- Entries of the completion ring. -/
def cplRing (s : State) : Nat := 2 ^ s.rd PORT_CPL_LOG2_N
/-- The Cupola address of an entry: the index runs modulo 4,096 and the ring modulo its size. -/
def cmdAddr (s : State) (idx : Nat) : Nat := s.rd PORT_CMD_BASE_ADDR * 64 + idx % cmdRing s * 64
/-- The Cupola address of a completion. -/
def cplAddr (s : State) (idx : Nat) : Nat := s.rd PORT_CPL_BASE_ADDR * 16 + idx % cplRing s * 16

/-- The completion ring is full (R404). -/
def cplFull (s : State) : Bool :=
  (s.rd PORT_CPL_TAIL_IDX + 1) % cplRing s == s.rd PORT_CPL_HEAD_IDX % cplRing s

/-- STATUS.CPL_FULL follows the completion ring (R404). -/
def cplStatus (s : State) : State := if cplFull s then s else s.clear PORT_STATUS_CPL_FULL

/-- Codes of a write of CMD_TAIL (R404): beyond CMD_HEAD by more than the ring. -/
def cmdTailCodes (s : State) (idx : Nat) : List Nat :=
  codeIf (decide (cmdRing s < (idx + 4096 - s.rd PORT_CMD_HEAD_IDX) % 4096)) E_RANGE

/-- The SEQ of an entry or of a journaled copy. -/
def entrySeq (b : List Nat) : Nat := leNat (b.take 8)
/-- The CRC of an entry is right and its bytes 10 and 11 are 0 (R405). -/
def entryWhole (b : List Nat) : Bool :=
  leNat ((b.drop 12).take 4) == crc32c (b.take 12 ++ b.drop 16) && byteAt b 10 == 0 && byteAt b 11 == 0
/-- OP and LEN are of R408. -/
def entryLegal (b : List Nat) : Bool :=
  let len := byteAt b 9
  match byteAt b 8 with
  | 1 => decide (len ≤ 48)
  | 0 | 2 | 3 => len == 0 || len == 16
  | _ => false

/-- The journaled copy of an entry: RESULT in byte 10, the CRC over it. -/
def entryCopy (b : List Nat) (result : Nat) : List Nat :=
  let hd := b.take 10 ++ [result, 0]
  hd ++ leBytes 4 (crc32c (hd ++ b.drop 16)) ++ b.drop 16

/-- The retained CMD record of a SEQ. -/
def cmdRecord (s : State) (seq : Nat) : Option JrnRec := firstRec s RG_CMD (fun x => x.key == seq && x.state != 2)

/-- The RESULT of an operation against the state left by every earlier submission (R406, R408). -/
def opResult (s : State) (b : List Nat) : Nat :=
  match byteAt b 8 with
  | 2 => ackResult s (byteAt b 16) (leNat ((b.drop 24).take 8))
  | 3 => if s.rd JOURNAL_REGION_NEXT_JSEQ 0 RG_FAULT ≤ leNat ((b.drop 16).take 8) then E_RANGE else OK
  | _ => OK

/-- The judgement of an entry in R405's order; OK where it is submitted. -/
def entryStat (s : State) (b : List Nat) : Nat :=
  let st := s.rd TWIN_STATUS_STATE
  let seq := entrySeq b
  let oldest := s.rd PORT_OLDEST_SEQ_SEQ
  let next := s.port.subSeq
  if st == 1 || st == 2 || st == 4 then E_TOKEN
  else if journalClosed s then E_STATE
  else if !(submitFits s ⟨RG_CMD, seq, b, .fault⟩) then E_FULL
  else if !(entryWhole b) then E_VALUE
  else if oldest ≤ seq && seq < next then DONE_BEFORE
  else if next < seq then E_SEQ
  else if !(entryLegal b) then E_VALUE
  else if seq < oldest then E_RANGE
  else OK

/-- A duplicate differs from the stored record outside RESULT and CRC (R405). -/
def dupDiffers (x : JrnRec) (b : List Nat) : Bool :=
  let cut := fun (v : List Nat) => (v.take 10).drop 8 ++ (v.drop 11).take 1 ++ v.drop 16
  cut x.payload != cut b

/-- The entry at CMD_HEAD read and judged (R404 to R406): E_ECC on an uncorrectable line (R11). A refusal is recorded in PORT.ERR
at CMD_HEAD (R9, log 40). -/
def cmdEntryRead (s : State) : State :=
  let head := s.rd PORT_CMD_HEAD_IDX
  if !(s.on PORT_CTRL_CMD_EN) || head == s.rd PORT_CMD_TAIL_IDX then s
  else if cplFull s then s.raise PORT_STATUS_CPL_FULL
  else
    let (s, b, bad) := loadBytes s (cmdAddr s head) 64
    let s := s.wr PORT_CMD_HEAD_IDX (head + 1)
    let seq := entrySeq b
    let stat := if bad then E_ECC else entryStat s b
    let put := fun (s : State) (c : Cpl) => s.updPort (fun p => { p with cpls := p.cpls ++ [c] })
    if stat = OK then
      let r := opResult s b
      let s := put (s.updPort (fun p => { p with subSeq := (seq + 1) % 2 ^ 64 })) { seq := seq, result := r }
      submit s ⟨RG_CMD, seq, entryCopy b r, .cmd seq (byteAt b 8) (byteAt b 9) r⟩
    else if stat = DONE_BEFORE then
      match cmdRecord s seq with
      | some x =>
        put (s.raiseIf (dupDiffers x b) PORT_STATUS_DUP_DIFF)
          { seq := seq, stat := stat, result := byteAt x.payload 10, jseq := x.jseq, final := true }
      | none => put s { seq := seq, stat := stat, result := OK, final := true }
    else put (s.recordErr PORT_ERR_CODE 0 stat 0x01C) { seq := if !bad && entryWhole b then seq else 0, stat := stat, final := true }

/-- The oldest completion that is final is written in entry order, with MSI-X vector 0 (R407, R398). -/
def completionWrite (s : State) : State :=
  match s.port.cpls with
  | [] => s
  | c :: t =>
    if !c.final then s
    else if cplFull s then s.raise PORT_STATUS_CPL_FULL
    else
      let tail := s.rd PORT_CPL_TAIL_IDX
      let jseq := if c.stat = OK || c.stat = DONE_BEFORE then c.jseq % 2 ^ 32 else 0
      let s := engineStore s 16 PORT_CPL_BASE_ADDR 0 (cplAddr s tail)
        (leBytes 8 c.seq ++ [c.stat, c.result, b2n s.port.cplPhase, 0] ++ leBytes 4 jseq)
      let wraps := (tail + 1) % cplRing s == 0
      let s := (s.wr PORT_CPL_TAIL_IDX (tail + 1)).raise PORT_STATUS_CPL
      let s := s.updPort (fun p => { p with
        cpls := t, cplPhase := if wraps then !p.cplPhase else p.cplPhase, msix := p.msix.set 0 (p.msix.get 0 0 + 1) })
      s.raiseIf (cplFull s) PORT_STATUS_CPL_FULL

/-! ### Release and delivery (R409, R410) -/

/-- OLDEST_SEQ is the SEQ of the oldest retained record (R409), NEXT_SEQ where none is. -/
def oldestSeq (s : State) : State :=
  let v := match regionRecs s RG_CMD with | [] => s.rd PORT_NEXT_SEQ_SEQ | x :: _ => x.key
  s.wr PORT_OLDEST_SEQ_SEQ v

/-- The operation of a CMD record. -/
def recOp (x : JrnRec) : Nat := byteAt x.payload 8

/-- CMD records no longer retained are released (R409). -/
def releaseCmds (s : State) : State :=
  let next := s.rd PORT_NEXT_SEQ_SEQ
  let keep := s.rd PORT_RETAIN_N
  let done := s.rd PORT_FW_DONE_JSEQ
  oldestSeq (releaseWhere s RG_CMD (fun x =>
    x.state != 0 && decide (x.key + keep < next) && (recOp x != 1 || decide (x.jseq ≤ done))))

/-- The command engine's code as a producer (R411). -/
def COMMAND_SOURCE : Nat := 17

/-- One DELIVER record pushed to DELIV_QUEUE with its flags (R410). -/
def deliver (s : State) (flags : Nat) (x : JrnRec) : State :=
  let len := byteAt x.payload 9
  let words := [(x.key, 8), (x.jseq, 8), (len % 256 + 256 * flags, 8)] ++ packetWords ((x.payload.drop 16).take len)
  (queuePacket s (s.rd PORT_DELIV_QUEUE_QUEUE) COMMAND_SOURCE words).1

/-- DELIVER records pushed again after a journal start (R410): REDELIVER for those above FW_DONE, ROLLFWD for those rolled
forward on taking the token. -/
def redeliver (s : State) (takeover : Bool) : State :=
  let done := s.rd PORT_FW_DONE_JSEQ
  (regionRecs s RG_CMD).foldl (fun s x =>
    if recOp x == 1 && x.state == 1 && decide (done < x.jseq) then
      deliver s (1 + (if takeover && x.rollfwd && x.remote then 2 else 0)) x
    else s) s

/-! ### Accepted work (R229, R406) -/

/-- A page of the holder takes the place of the standby's own (R207): TWIN_DIFF where the bodies differ. -/
def installPage (s : State) (ctx seq : Nat) (payload : List Nat) : State :=
  let own := fun (p : Page) => p.ctx == ctx && p.seq == seq
  let p := { pageOf ctx seq payload with issued := false }
  let body := p.body
  match s.ldg.pages.find? own with
  | some q =>
    let s := s.raiseIf (q.body != body) SYS_LDG_STATUS_TWIN_DIFF
    let s := if s.ldg.pages.any (fun x => x.ctx == ctx && decide (seq < x.seq)) then s
      else s.updLease ctx (fun l => { l with prevDigest := sha384 body })
    s.updLdg (fun g => { g with pages := updPage own (fun _ => p) g.pages })
  | none =>
    let s := s.updLease ctx (fun l => { l with prevDigest := sha384 body })
    s.updLdg (fun g => { g with pages := g.pages ++ [p] })

/-- What an accepted command does (R406, R408). -/
def cmdAccepted (s : State) (x : JrnRec) (seq op result : Nat) : State :=
  let s := (s.wr PORT_NEXT_SEQ_SEQ (seq + 1)).updPort (fun p => { p with subSeq := max p.subSeq ((seq + 1) % 2 ^ 64) })
  let s := match op with
    | 1 => deliver s 0 x
    | 2 => if result = OK then releasePages s (byteAt x.payload 16) (leNat ((x.payload.drop 24).take 8)) else s
    | 3 => if result = OK then
        releaseWhere s RG_FAULT (fun y => y.state != 0 && decide (y.jseq ≤ leNat ((x.payload.drop 16).take 8)))
      else s
    | _ => s
  let fill := fun (c : Cpl) => if c.seq == seq && !c.final then { c with jseq := x.jseq, final := true } else c
  releaseCmds (s.updPort (fun p => { p with cpls := p.cpls.map fill }))

/-- What the work of a record whose trailer is written does on this unit (R207, R209, R229, R406). -/
def acceptWork (s : State) (x : JrnRec) : State :=
  match x.work with
  | .cmd seq op _ result => cmdAccepted s x seq op result
  | .page ctx seq =>
    offerPages (pageIssue (if x.foreign then installPage s ctx seq x.payload else s) ctx seq)
  | .ack ctx seq result => ackAccepted s ctx seq result (!x.foreign)
  | .fault => s

/-- The holder's oldest trailer write of a region completes: its work is accepted, and a waiting submission takes the
place (R229, R230). -/
def journalAccept (s : State) (r : Nat) : State :=
  match trailerDue s r with
  | none => s
  | some x =>
    let s := writeTrailer s r x.jseq 1
    let s := acceptWork s { x with state := 1, trailer := true }
    submitPages (admitWaiting s r)

/-- COMMIT reaches the standby for a record (R229 step 4). -/
def remoteCommit (s : State) (r jseq : Nat) : State :=
  match firstRec s r (fun x => x.jseq == jseq && x.foreign && x.state == 0) with
  | none => s
  | some x => acceptWork (writeTrailer s r jseq 1) { x with state := 1, trailer := true }

/-- The journal completes the records in flight (R362, R381): every prepare completes, a twin's PREPARED included, and every
record is accepted in order. -/
def journalDrain (s : State) : State :=
  let n := s.jrn.recs.length + s.jrn.waiting.length
  forN 3 (fun r s =>
    forN n (fun _ s =>
      let s := localPrepare s r
      let s := match firstRec s r (fun x => x.localDone && !x.remote && x.state == 0 && !x.foreign) with
        | some x => preparedReceive s r x.jseq
        | none => s
      journalAccept s r) s) s

/-! ### Recovery of what the records carry (R207, R208, R406, R410) -/

/-- NEXT_SEQ rebuilt from the last committed CMD record (R406). -/
def rebuildSeq (s : State) : State :=
  let s := match ((regionRecs s RG_CMD).filter (fun x => x.state == 1)).getLast? with
    | some x => s.wr PORT_NEXT_SEQ_SEQ (x.key + 1)
    | none => s
  oldestSeq (s.updPort (fun p => { p with subSeq := s.rd PORT_NEXT_SEQ_SEQ }))

/-- Work of records the recovery has just committed on taking the token (R231): a page is issued, an acknowledgement and a
command act. -/
def rollForward (s : State) : State :=
  (s.jrn.recs.filter (fun x => x.rollfwd && x.remote && x.state == 1)).foldl (fun s x =>
    let s := match x.work with
      | .cmd _ 1 _ _ => s
      | .cmd seq op _ r => cmdAccepted s x seq op r
      | _ => acceptWork s x
    updRec s x.region x.jseq (fun y => { y with foreign := false })) s

/-- What committed records found by a recovery release (R209, R227, R408): pages acknowledged by command or by LDG_ACK, FAULT records
the host has acknowledged, and the acknowledgements' own records. -/
def releaseFound (s : State) : State :=
  let done := s.jrn.recs.filter (fun x => x.state == 1)
  let s := done.foldl (fun s x =>
    let s := match ackOf x.work x.payload with
      | some (c, q) => if s.rd LEASE_ACKED_SEQ c < q then s.wr LEASE_ACKED_SEQ q c else s
      | none => s
    match x.work with
    | .cmd _ 3 _ 0 => releaseWhere s RG_FAULT (fun y => y.state != 0 && decide (y.jseq ≤ leNat ((x.payload.drop 16).take 8)))
    | _ => s) s
  let s := forN 256 (fun n s => if s.rd LEASE_ACKED_SEQ n = 0 then s else releasePages s n (s.rd LEASE_ACKED_SEQ n)) s
  releaseWhere s RG_LEDGER (fun x => match x.work with | .ack _ _ _ => x.state != 0 | _ => false)

/-- Entries whose submission a recovery has dropped or aborted end with E_STATE, their SEQ free, and so does a pending LDG_ACK
(R209, R231, R405; log 116). -/
def completeDropped (s : State) : State :=
  let live := fun (c : Cpl) => s.jrn.recs.any (fun x => x.region == RG_CMD && x.key == c.seq && x.state != 2)
  let acking := s.jrn.recs.any (fun x => match x.work with | .ack _ _ _ => x.state == 0 | _ => false)
  let s := if s.ldg.ackPending && !(s.on SYS_LDG_ACK_RSP_VALID) && !acking then
      (s.wr SYS_LDG_ACK_RSP_STAT E_STATE).raise SYS_LDG_ACK_RSP_VALID
    else s
  s.updPort (fun p => { p with cpls := p.cpls.map (fun c =>
    if c.final || live c then c else { c with stat := E_STATE, result := 0, jseq := 0, final := true }) })

/-- Recovery completes (R231): the rings rebuilt and resolved; pages rebuilt, those whose record did not commit submitted afresh;
NEXT_SEQ rebuilt; DELIVER records pushed again; on taking the token the retained pages are offered again (R208). `held` names the
records that the standby reports it holds. -/
def recoveryComplete (s : State) (held : List (Nat × Nat)) : State :=
  if !s.jrn.recovering then s
  else
    let takeover := s.jrn.takeover
    let s := recoverDone s held
    let s := if takeover then rollForward s else s
    let s := releaseFound (rebuildPages s)
    let s := releaseCmds (redeliver (rebuildSeq (completeDropped s)) takeover)
    submitPages (if takeover then offerAgain s else offerPages s)

/-! ### Writes of PORT (R404, R409) -/

/-- Codes of a write of FW_DONE (R409). -/
def fwDoneCodes (s : State) (v : Nat) : List Nat := codeIf (decide (v < s.rd PORT_FW_DONE_JSEQ)) E_RANGE

/-- FW_DONE written (R409, R410). -/
def fwDone (s : State) (v : Nat) : State := releaseCmds (s.wr PORT_FW_DONE_JSEQ v)

/-- MSI-X messages of the vectors of a doorbell (R398). -/
def doorbell (s : State) (vec : Nat) : State :=
  forN 8 (fun v s => if 2 ≤ v && bit vec v then s.updPort (fun p => { p with msix := p.msix.set v (p.msix.get 0 v + 1) }) else s) s

/-- An event of HOST (R403): an owner fault of the host; LINK_UP follows the link. -/
def hostEvent (s : State) (down : Bool) : State :=
  let s := ownerFault (s.raise PORT_STATUS_HOST_RESET) 16
  if down then s.clear PORT_STATUS_LINK_UP else s

end Sys2Proof.Machine
end

