-- ==== Sys2Proof/Machine/Ports.lean ====
section
/-!
DEFINITION. The STATION ports, the UART in byte mode, the PEER firmware link and the test port (R320, R399, R400, R411).
-/
namespace Sys2Proof.Machine

/-! ### STATION (R399, R312) -/

/-- A frame carries an 802.1Q tag. -/
def tagged (f : List Nat) : Bool := byteAt f 12 == 0x81 && byteAt f 13 == 0x00
/-- Where the Ethertype of a frame lies. -/
def typeAt (f : List Nat) : Nat := if tagged f then 16 else 12
/-- The Ethertype of a frame. -/
def etherType (f : List Nat) : Nat := byteAt f (typeAt f) * 256 + byteAt f (typeAt f + 1)
/-- The 802.1Q priority of a frame, 0 without a tag. -/
def framePcp (f : List Nat) : Nat := if tagged f then byteAt f 14 / 32 else 0

/-- The packet of a received frame: the time, the length, port and flags, then the frame. -/
def rxPacket (p ts : Nat) (f : List Nat) : List (Nat × Nat) :=
  let flags := b2n (etherType f == 0x88F7) + 2 * b2n (tagged f)
  [(ts, 8), (f.length % 65536 + 65536 * p + 2 ^ 24 * flags, 8)] ++ packetWords f

/-- A frame with a correct FCS received at a STATION port, without the FCS (R399): sampled values go to the ingest, whose part
SV_FRAME_RECEIVE is; others become a packet, or are counted in RX_DROP. -/
def stationReceive (s : State) (p ts : Nat) (f : List Nat) : State :=
  if !(s.on PORT_ETH_CFG_EN 0 p) || etherType f == 0x88BA then s
  else
    let high := etherType f == 0x88F7 || (tagged f && decide (s.rd PORT_ETH_CFG_HI_PCP 0 p ≤ framePcp f))
    let k := if high then s.rd PORT_ETH_CFG_RXQ_HI 0 p else s.rd PORT_ETH_CFG_RXQ 0 p
    let (s, ok) := queuePacket s k p (rxPacket p ts f)
    if ok then s else s.count PORT_RX_DROP_COUNT 0 p

/-- The bytes of a packet's words. -/
def packetBytes (ws : List QWord) : List Nat := (ws.map (fun w => leBytes w.valid w.val)).flatten

/-- A frame as the MAC sends it: padded to 60 bytes, with its FCS. -/
def macFrame (f : List Nat) : List Nat :=
  let g := f ++ List.replicate (60 - f.length) 0
  g ++ leBytes 4 (crcBytes 0xEDB88320 0xFFFFFFFF g ^^^ 0xFFFFFFFF)

/-- The next packet of a queue that a hardware consumer reads, where its code is the queue's consumer (R254, R411). -/
def takeFor (s : State) (k code : Nat) : State × Option (List QWord) :=
  if s.rd QUEUE_CFG_CONS k = 32 + code then queueTake s k else (s, none)

/-- A STATION port sends the next packet, TXQ_HI first (R399); a requested timestamp is recorded (R312). -/
def stationTransmit (s : State) (p : Nat) : State :=
  if !(s.on PORT_ETH_CFG_EN 0 p) then s
  else
    let (s1, w1) := takeFor s (s.rd PORT_ETH_CFG_TXQ_HI 0 p) (4 + p)
    let (s, w) := if w1.isSome then (s1, w1) else takeFor s (s.rd PORT_ETH_CFG_TXQ 0 p) (4 + p)
    match w with
    | some (h :: ws) =>
      let f := packetBytes ws
      let ptp := typeAt f + 2
      let s := s.updPort (fun q => { q with txFrame := q.txFrame.set p (macFrame f) })
      if bit h.val 0 then txTimestamp s p ⟨s.ns, byteAt f (ptp + 30) * 256 + byteAt f (ptp + 31), byteAt f ptp % 16⟩ else s
    | _ => s

/-- A STATION port gains or loses block lock (R412). -/
def stationLink (s : State) (p : Nat) (up : Bool) : State :=
  let old := s.rd PORT_STATUS_ETH_UP
  if bit old p = up then s
  else (s.wr PORT_STATUS_ETH_UP (if up then old + 2 ^ p else old - 2 ^ p)).raise PORT_STATUS_ETH_EV

/-! ### The UART in byte mode, PEER's firmware link (R320, R400, R411) -/

/-- The first enabled queue whose producer is a hardware code. -/
def queueOf (s : State) (code : Nat) : Option Nat :=
  (upTo 32).find? (fun k => s.on QUEUE_CTRL_EN k && s.rd QUEUE_CFG_PROD k == 32 + code)

/-- The first enabled queue whose consumer is a hardware code. -/
def consumedBy (s : State) (code : Nat) : Option Nat :=
  (upTo 32).find? (fun k => s.on QUEUE_CTRL_EN k && s.rd QUEUE_CFG_CONS k == 32 + code)

/-- A byte received with UART_MODE = 1 (R400): one word on the queue the UART produces for. -/
def uartByteIn (s : State) (b : Nat) : State :=
  if !(s.on PORT_CTRL_UART_MODE) then s
  else match queueOf s 20 with | some k => (queuePacket s k 20 [(b, 1)]).1 | none => s

/-- With UART_MODE = 1 the UART sends the next byte of its transmit queue (R400). -/
def uartByteOut (s : State) : State :=
  if !(s.on PORT_CTRL_UART_MODE) then s
  else
    let s := if !s.port.uartBuf.isEmpty then s
      else match consumedBy s 21 with
        | none => s
        | some k =>
          let (s, w) := takeFor s k 21
          s.updPort (fun p => { p with uartBuf := packetBytes (w.getD []) })
    match s.port.uartBuf with
    | [] => s
    | b :: t => s.updPort (fun p => { p with uartBuf := t, uartOut := [b] })

/-- A firmware packet arriving over PEER (R320). -/
def peerPacketIn (s : State) (bytes : List Nat) : State :=
  match queueOf s 19 with | some k => (queuePacket s k 19 (packetWords bytes)).1 | none => s

/-- PEER takes a packet from the firmware transmit queue and sends it (R320). -/
def peerPacketOut (s : State) : State :=
  match (if s.on TWIN_STATUS_LINK then consumedBy s 18 else none) with
  | none => s
  | some k =>
    let (s, w) := takeFor s k 18
    match w with | some ws => s.updPort (fun p => { p with peerOut := packetBytes ws }) | none => s

/-- An instruction of the test port (R400), numbered in the order BYPASS, IDCODE, SAMPLE/PRELOAD, EXTEST, CLAMP, HIGHZ,
EXTEST_PULSE, EXTEST_TRAIN; the port accepts no other. -/
def testInstruction (s : State) (code : Nat) : State := if code < 8 then s.updPort (fun p => { p with testInstr := code }) else s

/-- The test port has control of the pins (R400): only while RST_N is low. -/
def testDrives (s : State) : Bool := decide (3 ≤ s.port.testInstr) && s.rst.asserted == some 2

end Sys2Proof.Machine
end

