-- ==== Sys2Proof/Machine/Secure.lean ====
section
/-!
DEFINITION. The start and load of cores by register (R170, R171), the boot loader and SECURE (R384 to R396): manifests, keys,
anti-rollback counters, TCM verification, attestation.
-/
namespace Sys2Proof.Machine

/-- SECURE's hidden state replaced by a function of it. -/
def State.updSec (s : State) (f : SecSt → SecSt) : State := { s with sec := f s.sec }

/-! ### SPIRE_n control (R170, R171, R391) -/

/-- TCM_OK bit n cleared. -/
def clearTcmOk (s : State) (c : Nat) : State :=
  if bit (s.rd SECURE_TCM_OK_CORES) c then s.wr SECURE_TCM_OK_CORES (s.rd SECURE_TCM_OK_CORES - 2 ^ c) else s

/-- VERIFY_TCM of a core is running (R391). -/
def verifying (s : State) (c : Nat) : Bool :=
  match s.sec.cmd with | some m => m.op == 2 && m.core == c | none => false

/-- A core starts at an entry with the state of R153; its TCM, mailbox and write buffer stay (R153, R171). -/
def startCore (s : State) (c entry : Nat) : State :=
  let x := s.core c
  let y : CoreSt := { pc := entry, startEdge := s.fab, tcm := x.tcm, tcmCorr := x.tcmCorr, tcmBad := x.tcmBad,
                      mbox := x.mbox, soon := x.soon, buf := x.buf, initBusy := x.initBusy }
  (s.setCore c y).clear SPIRE_STATUS_HALTED c

/-- RUN (R171, R391): every start uses up the verification, whose DIGEST is recorded. -/
def spireRun (s : State) (c : Nat) : State :=
  let s := s.updSec (fun g => { g with runDigest := g.runDigest.set c (g.okDigest.get [] c) })
  startCore (clearTcmOk s c) c (s.rd SPIRE_ENTRY_ENTRY c * 4)

/-- HALT (R171): at the next boundary; a load, a store or a FENCE in progress completes first. -/
def spireHalt (s : State) (c : Nat) : State :=
  if s.on SPIRE_STATUS_HALTED c then s
  else
    match (s.core c).wait with
    | some (.load _) => s.updCore c (fun x => { x with haltReq := true })
    | some (.store _) => s.updCore c (fun x => { x with haltReq := true })
    | some .fence => s.updCore c (fun x => { x with haltReq := true })
    | _ => haltCore (withdrawWait s c) c HC_HOST

/-- TCM_INIT (R171, R391): it clears TCM_OK. -/
def tcmInit (s : State) (c : Nat) : State :=
  ((clearTcmOk s c).clear SPIRE_STATUS_INIT_DONE c).updCore c (fun x => { x with initBusy := true })

/-- TCM initialisation completes (R170): every word zero with a valid code. -/
def tcmInitDone (s : State) (c : Nat) : State :=
  if (s.core c).initBusy then
    (s.updCore c (fun x => { x with initBusy := false, tcm := [], tcmBad := [], tcmCorr := [] })).raise SPIRE_STATUS_INIT_DONE c
  else s

/-- The TCM offset of LOAD_DATA. -/
def loadOff (s : State) (c : Nat) : Nat := s.rd SPIRE_LOAD_ADDR_ADDR c * 4

/-- A write of LOAD_DATA (R171, R391). -/
def loadDataWrite (s : State) (c data : Nat) : State :=
  let a := loadOff s c
  (clearTcmOk (s.updCore c (fun x => x.tcmPut a 4 data)) c).count SPIRE_LOAD_ADDR_ADDR c

/-- A read of LOAD_DATA (R171, R156): its status and word. -/
def loadDataRead (s : State) (c : Nat) : State × Nat × Nat :=
  let a := loadOff s c
  let bad := (s.core c).tcmFails a 4
  let s := (tcmCorrect s c a 4).raiseIf bad SPIRE_ECC_UNCORR c
  (s.count SPIRE_LOAD_ADDR_ADDR c, if bad then E_ECC else OK, (s.core c).tcmLe a 4)

/-- A host message sent by MBOX_HI (R168, R171). -/
def mboxSend (s : State) (c hi : Nat) : State :=
  sendMessage s c ⟨BitVec.ofNat 32 (s.rd SPIRE_MBOX_LO_DATA c), BitVec.ofNat 32 hi, 16⟩

/-- Codes of a write to SPIRE_n beyond the ranges and classes of its fields (R171, R391). -/
def spireCodes (s : State) (c off data : Nat) : List Nat :=
  let busy := verifying s c
  match off with
  | 0x000 =>
    let run := if bit data 0 then
        codeIf ((s.core c).initBusy || busy) E_BUSY
          ++ codeIf (!(bit (s.rd SECURE_TCM_OK_CORES) c) || s.rd SPIRE_ENTRY_ENTRY c * 4 != s.sec.okEntry.get 0 c) E_AUTH
      else []
    let init := if bit data 2 then codeIf (!(s.on SPIRE_STATUS_HALTED c)) E_STATE ++ codeIf busy E_BUSY else []
    run ++ init
  | 0x010 => codeIf busy E_BUSY
  | 0x014 => codeIf busy E_BUSY
  | 0x01C => codeIf (mailboxFull s c) E_FULL
  | _ => []

/-- What a write to SPIRE_n does beyond storing its fields (R168, R171). -/
def spireEffect (s : State) (c off data : Nat) : State :=
  match off with
  | 0x000 =>
    let s := if bit data 1 then spireHalt s c else s
    let s := if bit data 2 then tcmInit s c else s
    if bit data 0 then spireRun s c else s
  | 0x014 => loadDataWrite s c data
  | 0x018 => s.wr SPIRE_MBOX_LO_DATA data c
  | 0x01C => mboxSend s c data
  | _ => s

/-! ### Keys (R388, R396) -/

/-- A firmware pair is installed and not revoked. -/
def pairLive (s : State) (p : Nat) : Bool :=
  decide (p < 8) && bit (s.rd SECURE_KEYS_INSTALLED) p && !(bit (s.rd SECURE_KEYS_REVOKED) p)

/-- Both signatures of a block over a message verify under public keys (R205, R387). -/
def blockVerifies (keys msg block : List Nat) : Bool :=
  rsaVerifies (beNat (keys.take RSA_BYTES)) msg ((block.drop 16).take RSA_BYTES)
    && Slh.verifies (keys.drop RSA_BYTES) msg (block.drop (16 + RSA_BYTES))

/-- Both signatures of a block over a message verify under a live pair. -/
def signedBy (s : State) (p : Nat) (msg block : List Nat) : Bool := pairLive s p && blockVerifies (keyBytes s p) msg block

/-- The identity record (R392). -/
def identRecord (s : State) : List Nat :=
  leBytes 8 Config.devid ++ leBytes 4 (s.rd SYS_ID) ++ [0, 0, 0, 0] ++ keyBytes s 8 ++ keyBytes s 9
    ++ (upTo 16624).map (fun i => (Config.identSig i).toNat)

/-! ### Manifests (R386, R387) -/

/-- Bytes of a manifest's body and of a signature block. -/
def BODY : Nat := 1312
/-- Bytes of the signature block of R205. -/
def SIGBLK : Nat := 16624
/-- The staging area (R385). -/
def STAGING : Nat := 0x03000000

/-- A field of a manifest body, little-endian. -/
def mfGet (b : List Nat) (o n : Nat) : Nat := leNat ((b.drop o).take n)
/-- Images of a manifest. -/
def mfCount (b : List Nat) : Nat := byteAt b 7
/-- TARGET of image i. -/
def mfTarget (b : List Nat) (i : Nat) : Nat := byteAt b (32 + 80 * i)
/-- SRC_OFF of image i. -/
def mfSrc (b : List Nat) (i : Nat) : Nat := mfGet b (36 + 80 * i) 4
/-- LENGTH of image i. -/
def mfLen (b : List Nat) (i : Nat) : Nat := mfGet b (40 + 80 * i) 4
/-- DEST of image i. -/
def mfDest (b : List Nat) (i : Nat) : Nat := mfGet b (44 + 80 * i) 4
/-- ENTRY of image i. -/
def mfEntry (b : List Nat) (i : Nat) : Nat := mfGet b (48 + 80 * i) 4
/-- DIGEST of image i. -/
def mfDigest (b : List Nat) (i : Nat) : List Nat := (b.drop (64 + 80 * i)).take 48

/-- An area of Cupola read by SECURE: its bytes, or the code of a read beyond Cupola or of an uncorrectable line. -/
def secRead (s : State) (a n : Nat) : State × Nat × List Nat :=
  if 0x4000000 < a + n then (s, E_RANGE, [])
  else
    let (s, b, bad) := loadBytes s a n
    (s, if bad then E_ECC else OK, b)

/-- The images of a manifest at a base have the digests it gives (R387): OK, E_AUTH or the code of a read. -/
def imagesCheck (s : State) (base : Nat) (b : List Nat) : List Nat → State × Nat
  | [] => (s, OK)
  | i :: t =>
    let (s, c, img) := secRead s (base + mfSrc b i) (mfLen b i)
    if c != OK then (s, c) else if sha384 img != mfDigest b i then (s, E_AUTH) else imagesCheck s base b t

/-- A manifest in Cupola checked (R387): its code and its body. -/
def manifestCheck (s : State) (base : Nat) : State × Nat × List Nat :=
  let (s, c, m) := secRead s base (BODY + SIGBLK)
  if c != OK then (s, c, [])
  else
    let b := m.take BODY
    let pair := byteAt b 5
    let bound := bit (mfGet b 12 4) 0
    let (s, img) := imagesCheck s base b (upTo (mfCount b))
    let codes := codeIf (!(pairLive s pair)) E_AUTH ++ codeIf (bound && mfGet b 16 8 != Config.devid) E_AUTH
      ++ codeIf (b.take 4 != [0x4E, 0x42, 0x4D, 0x46] || byteAt b 4 != 1) E_AUTH
      ++ codeIf (!(signedBy s pair b (m.drop BODY))) E_AUTH
      ++ codeIf (decide (mfGet b 8 4 < s.rd SECURE_CTR_SVN 0 (byteAt b 6 % 16))) E_RANGE
      ++ codeIf (img != OK) img
    (s, firstRefusal codes, b)

/-! ### The boot loader (R384, R385) -/

/-- The slot the loader tries next: PREF first, then the other (R385). -/
def bootSlot (s : State) : Nat :=
  let p := s.rd SECURE_BOOT_CTRL_PREF
  if s.sec.tries = 2 then p else 1 - p

/-- The image of a manifest whose TARGET is core 0. -/
def core0Image (b : List Nat) : Option Nat := (upTo (mfCount b)).find? (fun i => mfTarget b i == 0)

/-- Steps 3 to 5 of R385 on the staging area: the code, and on OK core 0 started with `slot` shown in BOOT_STATUS. Where no
image has TARGET 0 the spec gives no code: a free value. -/
def bootStaged (s : State) (slot : Nat) : State × Nat :=
  let (s, c, b) := manifestCheck s STAGING
  if c != OK then (s, c)
  else
    match core0Image b with
    | none => let (v, s) := s.takeFree; (s, v % 256)
    | some i =>
      let img := (memBytes s.bytes (STAGING + mfSrc b i) (mfLen b i)).take (TCM_SIZE - mfDest b i)
      let s := s.updCore 0 (fun x => x.tcmPut (mfDest b i) img.length (leNat img))
      let s := (s.wr SPIRE_ENTRY_ENTRY (mfEntry b i / 4) 0).orIn SECURE_TCM_OK_CORES 1
      let s := s.updSec (fun g => { g with
        manifest := some b, bootBody := b, tries := 0, hostGo := false
        okEntry := g.okEntry.set 0 (mfEntry b i), okDigest := g.okDigest.set 0 (mfDigest b i) })
      (spireRun (s.wr SECURE_BOOT_STATUS_SLOT slot) 0, OK)

/-- A slot failed with a code: the other is tried, and after both the host may stage an image (R385). -/
def bootFail (s : State) (slot code : Nat) : State :=
  let s := if slot = 0 then s.wr SECURE_BOOT_STATUS_STAT_A code else s.wr SECURE_BOOT_STATUS_STAT_B code
  let left := s.sec.tries - 1
  s.updSec (fun g => { g with tries := left, hostGo := left == 0 })

/-- A slot copied into staging (R385 step 2): the manifest and every image at its offset. -/
def stageSlot (s : State) (b : List Nat) : State :=
  let s := (storeBytes s 29 STAGING (b.take (BODY + SIGBLK))).1
  (upTo (mfCount b)).foldl (fun s i => (storeBytes s 29 (STAGING + mfSrc b i) ((b.drop (mfSrc b i)).take (mfLen b i))).1) s

/-- The loader takes a slot (R385). A slot that cannot be read fails with a code the spec does not give: a free value. -/
def bootSlotLoad (s : State) (bytes : List Nat) (good : Bool) : State :=
  if s.sec.tries = 0 || !(s.on SPIRE_STATUS_INIT_DONE 0) then s
  else
    let slot := bootSlot s
    if !good then let (v, s) := s.takeFree; bootFail s slot (v % 256)
    else
      let (s, c) := bootStaged (stageSlot s bytes) slot
      if c = OK then s else bootFail s slot c

/-- HOST_GO (R385): steps 3 to 5 on what the host has staged. -/
def bootHostGo (s : State) : State := (bootStaged s 2).1

/-! ### SECURE commands (R387 to R394) -/

/-- VERIFY (R387): an accepted manifest becomes the current one. -/
def doVerify (s : State) : State × Nat :=
  let (s, c, b) := manifestCheck s (s.rd SECURE_ADDR_ADDR)
  (if c = OK then s.updSec (fun g => { g with manifest := some b }) else s, c)

/-- VERIFY_TCM (R391). -/
def doVerifyTcm (s : State) (c i : Nat) : State × Nat :=
  match s.sec.manifest with
  | none => (s, E_STATE)
  | some b =>
    let x := s.core c
    let d := mfDest b i
    let n := mfLen b i
    let rest := x.tcm.all (fun p => decide (d ≤ p.1) && decide (p.1 < d + n) || p.2 == 0)
    if !(s.on SPIRE_STATUS_HALTED c) then (s, E_STATE)
    else if mfCount b ≤ i then (s, E_RANGE)
    else if x.tcmFails 0 TCM_SIZE then (s, E_ECC)
    else if TCM_SIZE < d + n || !rest || sha384 (memBytes x.tcm d n) != mfDigest b i then (s, E_AUTH)
    else
      let s := s.updSec (fun g => { g with
        okEntry := g.okEntry.set c (mfEntry b i), okDigest := g.okDigest.set c (mfDigest b i) })
      (s.orIn SECURE_TCM_OK_CORES (2 ^ c), OK)

/-- Pairs installed and not revoked. -/
def livePairs (s : State) : List Nat := (upTo 8).filter (pairLive s)

/-- A KEY message judged and carried out (R389): its operation, target, authorising pair and length. -/
def keyMessage (s : State) (op target auth len : Nat) (m : List Nat) : State × Nat :=
  let installed := bit (s.rd SECURE_KEYS_INSTALLED) target
  if m.take 4 != [0x4E, 0x4B, 0x45, 0x59] || !(signedBy s auth (m.take len) (m.drop len)) then (s, E_AUTH)
  else if mfGet m 16 8 != Config.devid || mfGet m 8 8 != s.rd SECURE_KEY_SEQ_SEQ then (s, E_AUTH)
  else if target < 8 && ((op == 1 && installed) || (op == 2 && (!(pairLive s target) || livePairs s == [target]))) then (s, E_STATE)
  else if 8 ≤ target || (op != 1 && op != 2) || (op == 2 && target == auth) then (s, E_VALUE)
  else
    let s := s.count SECURE_KEY_SEQ_SEQ
    if op = 1 then
      ((s.orIn SECURE_KEYS_INSTALLED (2 ^ target)).updSec (fun g => { g with keys := g.keys.set target ((m.drop 24).take 432) }), OK)
    else (s.orIn SECURE_KEYS_REVOKED (2 ^ target), OK)

/-- KEY (R389): the message at ADDR. -/
def doKey (s : State) : State × Nat :=
  let (s, c, h) := secRead s (s.rd SECURE_ADDR_ADDR) 24
  if c != OK then (s, c)
  else
    let len := if byteAt h 4 = 1 then 456 else 24
    let (s, c, m) := secRead s (s.rd SECURE_ADDR_ADDR) (SIGBLK + len)
    if c != OK then (s, c) else keyMessage s (byteAt h 4) (byteAt h 5) (byteAt h 6) len m

/-- SVN_COMMIT (R390). -/
def doSvn (s : State) : State × Nat :=
  match s.sec.manifest with
  | none => (s, E_STATE)
  | some b =>
    let k := byteAt b 6 % 16
    (s.wr SECURE_CTR_SVN (max (s.rd SECURE_CTR_SVN 0 k) (mfGet b 8 4)) 0 k, OK)

/-- The body of an attestation report (R393). -/
def attestBody (s : State) (nonce : List Nat) : List Nat :=
  let running := forN 16 (fun c m => if s.on SPIRE_STATUS_HALTED c then m else m + 2 ^ c) 0
  let digest := fun (c : Nat) => match findKey s.sec.runDigest c with | some d => d | none => List.replicate 48 0
  [0x4E, 0x41, 0x54, 0x54, 0x01, s.rd SECURE_BOOT_STATUS_SLOT, 0, 0] ++ leBytes 8 Config.devid ++ leBytes 4 (s.rd SYS_ID)
    ++ leBytes 4 (appliedCrc s) ++ nonce ++ leBytes 8 s.ns
    ++ [b2n (s.on CAMPANILE_STATUS_COARSE) + 2 * b2n (s.on CAMPANILE_STATUS_LOST), 0, s.rd SECURE_KEYS_INSTALLED, s.rd SECURE_KEYS_REVOKED]
    ++ leBytes 4 running ++ ((upTo 16).map (fun k => leBytes 4 (s.rd SECURE_CTR_SVN 0 k))).flatten
    ++ sha384 s.sec.bootBody ++ ((upTo 16).map digest).flatten ++ List.replicate 72 0

/-- The identity pair's slot (R388). -/
def IDENTITY_SLOT : Nat := 8

/-- ATTEST (R393). -/
def doAttest (s : State) : State × Nat :=
  let (s, c, nonce) := secRead s (s.rd SECURE_ADDR_ADDR) 32
  let a := s.rd SECURE_ADDR2_ADDR
  if c != OK then (s, c)
  else if 0x4000000 < a + 1024 + SIGBLK then (s, E_RANGE)
  else
    let b := attestBody s nonce
    storeBytes s 24 a (b ++ signBlock IDENTITY_SLOT b)

/-- The command in progress completes (R394): its code in RSP with VALID. -/
def secureComplete (s : State) : State :=
  match s.sec.cmd with
  | none => s
  | some m =>
    let (s, c) := match m.op with
      | 1 => doVerify s
      | 2 => doVerifyTcm s m.core m.image
      | 3 => doKey s
      | 4 => doSvn s
      | _ => doAttest s
    let s := s.updSec (fun g => { g with cmd := none })
    ((s.wr SECURE_RSP_STAT c).raise SECURE_RSP_VALID).clear SECURE_RSP_BUSY

/-- A command begins (R394). -/
def secureStart (s : State) (op core image : Nat) : State :=
  (s.raise SECURE_RSP_BUSY).updSec (fun g => { g with cmd := some ⟨op, core, image⟩ })

/-- A read of RSP (R396): the read clears VALID. -/
def secureRspRead (s : State) : State × Nat := (s.clear SECURE_RSP_VALID, s.readWord .secure 0 0x010)

/-- SECURE.CMD and the boot registers may be written by a SUP core and by HOST (R394, R402). -/
def secureMay : Req → Bool
  | .core _ task => !task
  | .host => true
  | _ => false

/-- Codes of a write to SECURE beyond the ranges and classes of its fields (R385, R390, R394, R402). -/
def secureCodes (s : State) (req : Req) (off data : Nat) : List Nat :=
  let op := data % 8
  codeIf (!(secureMay req) && (off == 0 || off == 4 || off == 8 || off == 0x1C)) E_PORT
  ++ match off with
  | 0x000 =>
    codeIf s.sec.cmd.isSome E_BUSY ++ codeIf (op == 0 || op == 6 || op == 7) E_VALUE
      ++ codeIf (op == 4 && s.sec.manifest.isNone) E_STATE
  | 0x01C => codeIf (bit data 1 && !s.sec.hostGo) E_STATE
  | _ => []

/-- What a write to SECURE does beyond storing its fields. -/
def secureEffect (s : State) (off data : Nat) : State :=
  match off with
  | 0x000 => secureStart s (data % 8) (bits data 4 4) (bits data 8 4)
  | 0x01C => if bit data 1 then bootHostGo s else s
  | _ => s

end Sys2Proof.Machine
end

