-- ==== Sys2Proof/Machine/Lantern.lean ====
section
/-!
DEFINITION. Lantern and the power states (R359 to R372): requests, the steps of an entry, wake events, the exit, the wake
port and the automatic choice. A power state is reached and left by commands; while FAB is stopped a command gives the
Lantern tick at which it happens.
-/
namespace Sys2Proof.Machine

/-- Lantern's hidden state replaced by a function of it. -/
def State.updLant (s : State) (f : LantSt → LantSt) : State := { s with lant := f s.lant }

/-- STATUS.STATE. -/
def powerState (s : State) : Nat := s.rd LANTERN_STATUS_STATE
/-- A transition is in progress. -/
def lantBusy (s : State) : Bool := s.on LANTERN_STATUS_BUSY

/-! ### The tick counter (R369) -/

/-- The Lantern tick now: 32,768 ticks in 625,000,000 FAB clocks. -/
def tickNow (s : State) : Nat := (s.lant.tickBase + (s.fab - s.lant.tickEdge) * 32768 / 625000000) % 2 ^ 48

/-- The counter known to hold a value on this edge. -/
def setTick (s : State) (n : Nat) : State := s.updLant (fun l => { l with tickBase := n % 2 ^ 48, tickEdge := s.fab })

/-- An event gives its tick while FAB is stopped; while FAB runs the counter follows it. -/
def tickAtEvent (s : State) (n : Nat) : State := if clocked s then s else setTick s n

/-- The FAB edge on which the counter has advanced by `n` from now. -/
def tickEdgeAfter (s : State) (n : Nat) : Nat :=
  let k := (s.fab - s.lant.tickEdge) * 32768 / 625000000
  s.lant.tickEdge + ceilDiv ((k + n) * 625000000) 32768

/-! ### Entry and exit (R361 to R364) -/

/-- An alarm armed by an automatic choice is disarmed (R367). -/
def disarmAuto (s : State) : State :=
  if s.lant.auto then (s.clear LANTERN_ALARM_HI_ALARM_EN).updLant (fun l => { l with auto := false }) else s

/-- The core clocks stop where they have not stopped already (R359). -/
def stopCores (s : State) : State :=
  s.updLant (fun l => { l with coreStop := match l.coreStop with | some e => some e | none => some s.fab })

/-- An edge from which core clocks are counted, moved past the edges from `stop` to `now` on which a core had none. -/
def pastStop (stop now e : Nat) : Nat := e + (now - max stop e)

/-- The core clocks run again: CCOUNT and the wait of a BAR count on from where they stopped (R167, R169, R359). -/
def resumeCores (s : State) : State :=
  match s.lant.coreStop with
  | none => s
  | some stop =>
    let move := pastStop stop s.fab
    let s := s.updLant (fun l => { l with coreStop := none })
    forN 16 (fun c s => s.updCore c fun x =>
      { x with
        startEdge := move x.startEdge
        wait := match x.wait with | some (.bar rd m e) => some (.bar rd m (move e)) | w => w }) s

/-- The device is in Run again: no entry, no queued request, the journal open, the core clocks running (R359, R363). -/
def backInRun (s : State) : State :=
  let s := resumeCores s
  let s := ((s.wr LANTERN_STATUS_STATE 0).wr LANTERN_STATUS_TARGET 0).wr LANTERN_STATUS_QUEUED 0
  let s := (disarmAuto (s.clear LANTERN_STATUS_BUSY)).updLant (fun l => { l with step := 0, wake := false })
  { s with jrn := { s.jrn with shut := false } }

/-- An entry stopped by a wake (R363). -/
def entryAbort (s : State) : State :=
  ((backInRun s).wr LANTERN_STATUS_LAST 1).raise LANTERN_STATUS_WAKE |>.raise LANTERN_STATUS_REQ_DONE

/-- An entry begins (R361, R364): steps already performed count as done. -/
def entryStart (s : State) (st : Nat) : State :=
  let step := if st ≤ 2 then 1 else if powerState s = 3 then 5 else 2
  let s := ((s.raise LANTERN_STATUS_BUSY).wr LANTERN_STATUS_TARGET st).wr LANTERN_STATUS_QUEUED 0
  s.updLant (fun l => { l with step := step })

/-- The exit from a state begins (R363): the enables are asserted. -/
def exitStart (s : State) : State :=
  ((s.raise LANTERN_STATUS_BUSY).wr LANTERN_STATUS_TARGET 0).updLant (fun l => { l with
    step := 0, wake := true, penMain := true, penSer := true, penA := true })

/-- A wake acts (R363, R364): it discards a queued request, stops an entry at its next abort point, at once for Idle and Doze,
or starts the exit of the state. -/
def wakeNow (s : State) : State :=
  if 0 < s.lant.step then
    let s := (s.wr LANTERN_STATUS_QUEUED 0).updLant (fun l => { l with wake := true })
    if s.rd LANTERN_STATUS_TARGET ≤ 2 then entryAbort s else s
  else if powerState s = 0 then s
  else if lantBusy s then s.wr LANTERN_STATUS_QUEUED 0
  else exitStart s

/-- A state that a table column of R366 stands for: during an entry the state being entered. -/
def wakeColumn (s : State) : Nat := if 0 < s.lant.step then s.rd LANTERN_STATUS_TARGET else powerState s

/-- A wake event of a source of WAKE_SRC is latched (R366, R367). -/
def latchWake (s : State) (b : Nat) : State :=
  let col := wakeColumn s
  let acts := if b < 4 then true else if b < 6 then decide (1 ≤ col) else col == 1 || col == 2
  if !(bit (s.rd LANTERN_WAKE_EN_EN) b) || !acts then s
  else
    let s := if s.rd LANTERN_WAKE_SRC_SRC = 0 then s.wr LANTERN_WAKE_TICK_TICK (tickNow s) else s
    let s := s.orIn LANTERN_WAKE_SRC_SRC (2 ^ b)
    if col = 0 then s else wakeNow s

/-- A Campanile timer or timed output fires: a wake event in Idle and Doze (R366). -/
def campanileWake (s : State) : State := latchWake s 7

/-- An interrupt source enabled at any core is pending, or a message has become visible: Idle is left (R366). -/
def idleWake (s : State) : Bool :=
  wakeColumn s == 1 &&
    (upTo 16).any (fun c => !((s.core c).mbox.isEmpty) || (upTo 8).any (fun i => ((s.core c).ien.get 0 i &&& ipend s i) != 0))

/-- Keep starts again after its domain was off (R345, R359): its configuration, password and change log are its store. -/
def keepStore (s : State) : KeepSt :=
  { digest := s.keep.digest, crc := s.keep.crc, log := s.keep.log, nextSeq := s.keep.nextSeq }

/-- An address of a word that Keep's store holds: its configuration (R344, R358). -/
def keepStored (a : Nat) : Bool := decide (0x20030100 ≤ a) && decide (a < 0x20030174)

/-- What Keep's store holds beside the applied configuration, taken from the state before a reset (R344): the staged copy, the
failure count, the change log with its level. -/
def keepHeld (old s : State) : State :=
  let s := { s with staged := s.staged.filter (fun p => !(keepStored (p.1 / 32))) }
  let s := (old.staged.filter (fun p => keepStored (p.1 / 32))).foldl (fun s p => { s with staged := s.staged.set p.1 p.2 }) s
  (s.wr KEEP_CFG_STATUS_FAILS (old.rd KEEP_CFG_STATUS_FAILS)).wr KEEP_LOG_LEVEL_N s.keep.log.length

/-- Keep restarted on the return of power (R345, R359). -/
def keepRestart (old : State) : State :=
  let inKeep := fun (a : Nat) => decide (0x20030000 ≤ a) && decide (a < 0x20040000)
  keepHeld old { old with
    regs := old.regs.filter (fun p => !(inKeep (p.1 / 32)) || keepStored (p.1 / 32))
    staged := old.staged.filter (fun p => !(inKeep (p.1 / 32)))
    keep := keepStore old, gcs := { old.gcs with keepReq := true } }

/-- An address lies in the MRAM window (R28). -/
def inMram (a : Nat) : Bool := decide (0x10000000 ≤ a) && decide (a < 0x11000000)

/-- Memory outside the MRAM is lost (R359, R380). -/
def loseMemory (s : State) : State :=
  { s with bytes := s.bytes.filter (fun c => inMram c.1), lineChk := s.lineChk.filter (fun p => inMram (p.1 * 64)) }

/-- Every ADC run ends as CONV stops (R262). -/
def stopConv (s : State) : State := forN 4 (fun k s => adcEndEarly s k) s

/-- A state is reached (R359, R362 to R364): what is waiting begins, or the exit of a wake that came too late. -/
def stateReached (s : State) (st : Nat) : State :=
  let s := stopCores (if 2 ≤ st then stopConv s else s)
  let s := if st = 4 then { loseMemory s with rst := { s.rst with pgood := false } }
    else if st = 3 then { s with rst := { s.rst with pgood := false } } else s
  let s := ((s.wr LANTERN_STATUS_STATE st).wr LANTERN_STATUS_TARGET 0).clear LANTERN_STATUS_BUSY
  let s := ((s.wr LANTERN_STATUS_LAST 0).raise LANTERN_STATUS_REQ_DONE).updLant (fun l => { l with step := 0 })
  let q := s.rd LANTERN_STATUS_QUEUED
  if s.lant.wake then exitStart s
  else if q ≠ 0 then entryStart s q
  else s

/-- E2: the journal completes what is in flight and closes, and a checkpoint generation is written (R362). A failed one ends the
entry as abort point A does, with LAST FAILED. -/
def entryE2 (s : State) (good : Bool) : State :=
  let s := journalDrain s
  let s := { s with jrn := { s.jrn with shut := true } }
  let s := ckptNow s good
  if !good then (((backInRun s).wr LANTERN_STATUS_LAST 3).raise LANTERN_STATUS_REQ_DONE).raiseIf s.lant.wake LANTERN_STATUS_WAKE
  else if s.lant.wake then entryAbort s
  else s.updLant (fun l => { l with step := 3 })

/-- E3: Belfry and the spill queues are drained (R362). -/
def entryE3 (s : State) : State :=
  let s := forN 32 (fun k s => queueVisible s k) s
  let s := { s with bel := { s.bel with res := [] } }
  if s.lant.wake then entryAbort s else s.updLant (fun l => { l with step := 4 })

/-- E4: on the next Lantern tick the time is recorded and FAB stops (R362, R313, R314). -/
def entryE4 (s : State) : State :=
  let s := stopCores (stopConv (s.toEdge (tickEdgeAfter s 1)))
  let n := tickNow s
  let s := disarmTick (s.wr CAMPANILE_TICK_CTRL_EN 0)
  let s := { s with pipe := { s.pipe with running := false, endPending := false } }
  let s := (setTick s n).clear SYS_CLK_STATUS_LOCK
  s.updLant (fun l => { l with step := 5, ref := some (s.time, n, s.rd CAMPANILE_UNCERT_NS) })

/-- E5: the enables are deasserted and the state is reached (R362). -/
def entryE5 (s : State) : State :=
  let st := s.rd LANTERN_STATUS_TARGET
  stateReached (s.updLant (fun l => { l with penSer := false, penA := false, penMain := l.penMain && st != 4 })) st

/-- ENTRY_STEP_DONE (R362). -/
def entryStep (s : State) (good : Bool) : State :=
  match s.lant.step with
  | 1 => stateReached s (s.rd LANTERN_STATUS_TARGET)
  | 2 => entryE2 s good
  | 3 => entryE3 s
  | 4 => entryE4 s
  | 5 => entryE5 s
  | _ => s

/-- Sleep is left (R313, R345): the time carried from the tick N_E to N_W, lost where the oscillator stopped. -/
def leaveSleep (s : State) (n : Nat) : State :=
  let s := match s.lant.ref with
    | some (t, n0, _) => if s.lant.oscStop then timeLost s else timeCarried s t ((n + 2 ^ 48 - n0) % 2 ^ 48)
    | none => timeLost s
  keepRestart ((setTick s n).updLant (fun l => { l with ref := none, oscStop := false }))

/-- The conditions of an exit's end: the clocks run and the rails are good; after Hibernate core 0 has started (R360). -/
def exitReady (s : State) : Bool :=
  match powerState s with
  | 0 => false
  | 1 => s.lant.wake || idleWake s
  | 2 => s.lant.wake
  | 3 => s.lant.wake && clocked s && s.rst.pgood
  | _ => s.lant.wake && clocked s && s.rst.asserted.isNone && !(s.on SPIRE_STATUS_HALTED 0)

/-- Run is reached (R367): the wake is raised, a held wake-port transaction completes, an automatic alarm is disarmed, a queued
request begins. -/
def exitComplete (s : State) (ticks : Nat) : State :=
  if s.lant.step != 0 || !(exitReady s) then s
  else
    let q := s.rd LANTERN_STATUS_QUEUED
    let s := if powerState s = 3 then leaveSleep s (ticks % 2 ^ 48) else s
    let s := (backInRun s).raise LANTERN_STATUS_WAKE
    let s := match s.lant.portHeld with
      | some r => s.updLant (fun l => { l with portHeld := none, portAck := true, portOut := if r then 0 else l.portOut })
      | none => s
    if q ≠ 0 then entryStart s q else s

/-! ### Requests (R361, R364, R365) -/

/-- Codes of a request for a state (R361, R364). -/
def requestCodes (s : State) (st : Nat) : List Nat :=
  let tw := s.rd TWIN_STATUS_STATE
  let q := s.rd LANTERN_STATUS_QUEUED
  let deeper := decide (s.rd LANTERN_STATUS_TARGET < st) && (q == 0 || decide (q < st)) && decide (st ≤ 4)
  codeIf (s.on CAMPANILE_TICK_CTRL_EN) E_STATE ++ codeIf (tw == 1 || tw == 2 || tw == 3) E_STATE
    ++ codeIf ((st == 3 || st == 4) && !(s.on KEEP_STATUS_SGR && s.on KEEP_STATUS_WITHDRAWN)) E_STATE
    ++ codeIf (lantBusy s && !deeper) E_PWR ++ codeIf (st == 5 || st == 6) E_VALUE

/-- A request accepted: it begins, or it is queued behind the entry in progress (R364). -/
def requestState (s : State) (st : Nat) : State :=
  if lantBusy s then s.wr LANTERN_STATUS_QUEUED st else entryStart s st

/-- Entry latency of a state in ns (R360). -/
def entryNs (st : Nat) : Nat := nth 0 [0, 1000, 50000, 2000000, 2000000] st
/-- Exit latency of a state in ns (R360). -/
def exitNs (st : Nat) : Nat := nth 0 [0, 500, 20000, 2000000, 400000000] st
/-- MIN_RES of a state in µs (R365). -/
def minRes (s : State) (st : Nat) : Nat :=
  match st with
  | 2 => s.rd LANTERN_MIN_RES_2_US
  | 3 => s.rd LANTERN_MIN_RES_3_US
  | 4 => s.rd LANTERN_MIN_RES_4_US
  | _ => 0

/-- The time to the next known event in ns (R365), none where none is armed. -/
def nextEvent (s : State) : Option Nat :=
  let ahead := fun (t : Nat) => (-(s.sinceNs t)).toNat
  let timers := ((upTo 16).filter (fun i => let m := s.rd CAMPANILE_ET_CTRL_MODE 0 i; m == 1 || m == 2)).map
    (fun i => ahead (s.rd CAMPANILE_ET_TARGET 0 i))
  let outs := ((upTo 4).filter (fun j => s.rd CAMPANILE_TO_CTRL_MODE 0 j != 0 && s.on CAMPANILE_TO_CTRL_OE 0 j)).map
    (fun j => ahead (s.rd CAMPANILE_TO_TARGET 0 j))
  let alarm := if s.on LANTERN_ALARM_HI_ALARM_EN then
      [(s.rd LANTERN_ALARM_TICK + 2 ^ 48 - tickNow s) % 2 ^ 48 * 1000000000 / 32768] else []
  (timers ++ outs ++ alarm).min?

/-- The deepest state that satisfies R365. -/
def autoChoice (s : State) : Option Nat :=
  let guard := s.rd LANTERN_GUARD_US * 1000
  let fits := fun (st : Nat) =>
    match nextEvent s with
    | none => true
    | some d => decide (entryNs st + exitNs st + minRes s st * 1000 + guard ≤ d)
  ((upTo (s.rd LANTERN_CFG_MAX_AUTO + 1)).filter (fun st => decide (1 ≤ st) && fits st)).max?

/-- The alarm of an automatic Sleep or Hibernate (R365). -/
def armAuto (s : State) (st : Nat) : State :=
  match nextEvent s with
  | some d =>
    if st < 3 then s
    else
      let n := (d - exitNs st - s.rd LANTERN_GUARD_US * 1000) * 32768 / 1000000000
      ((s.wr LANTERN_ALARM_TICK (tickNow s + n)).raise LANTERN_ALARM_HI_ALARM_EN).updLant (fun l => { l with auto := true })
  | none => s

/-- Who may write REQ: a core in SUP or the HOST port (R361). -/
def lanternMay : Req → Bool
  | .core _ task => !task
  | .host => true
  | _ => false

/-- Codes of a write of REQ (R361, R365). -/
def lanternReqCodes (s : State) (st : Nat) : List Nat :=
  match st with
  | 0 => []
  | 7 => match autoChoice s with | some t => requestCodes s t | none => []
  | _ => requestCodes s st

/-- A request accepted acts (R361, R364, R365). -/
def lanternReq (s : State) (st : Nat) : State :=
  match st with
  | 0 => wakeNow s
  | 7 =>
    match autoChoice s with
    | some t => requestState (armAuto s t) t
    | none => (s.wr LANTERN_STATUS_LAST 2).raise LANTERN_STATUS_REQ_DONE
  | _ => requestState s st

/-! ### Wake sources (R366 to R368) -/

/-- An edge on LWAKE pin k (R366). -/
def lwakeEdge (s : State) (k : Nat) (rise : Bool) (ticks : Nat) : State :=
  let s := tickAtEvent s ticks
  if bit (s.rd LANTERN_WAKE_CFG_EDGE) (2 * k + (if rise then 0 else 1)) then latchWake s k else s

/-- The counter reaches ALARM (R366). -/
def lanternAlarm (s : State) : State :=
  if !(s.on LANTERN_ALARM_HI_ALARM_EN) then s
  else
    let a := s.rd LANTERN_ALARM_TICK
    let s := if clocked s then s.toEdge (tickEdgeAfter s ((a + 2 ^ 48 - tickNow s) % 2 ^ 48)) else setTick s a
    latchWake s 4

/-- An address match on the wake port (R368). -/
def wakePort (s : State) (read : Bool) (addr ticks : Nat) : State :=
  if !(s.on LANTERN_PORT_EN) || addr != s.rd LANTERN_PORT_ADDR || s.lant.held then s
  else
    let s := tickAtEvent s ticks
    let st := powerState s
    if st = 4 then (latchWake s 5).updLant (fun l => { l with portAck := false })
    else if st = 3 || 4 ≤ s.lant.step then (latchWake s 5).updLant (fun l => { l with portHeld := some read })
    else
      let out := st + 8 * b2n (lantBusy s)
      let s := s.updLant (fun l => { l with portAck := true, portOut := if read then out else l.portOut })
      let s := latchWake s 5
      if read then s else wakeNow s

/-! ### The supply (R370) -/

/-- VAON at a voltage (R370): VAON_LOW on falling below 2.00 V after it has been above 2.05 V. -/
def vaonLevel (s : State) (mv : Nat) (wasAbove : Bool) : State :=
  let s := s.updLant (fun l => { l with vaonHigh := l.vaonHigh || wasAbove || decide (2050 < mv) })
  let low := decide (mv < 2000)
  let s := s.raiseIf (low && s.lant.vaonHigh && !(s.on LANTERN_STATUS_LOW_NOW)) LANTERN_STATUS_VAON_LOW
  s.wr LANTERN_STATUS_LOW_NOW (b2n low)

/-- The oscillator has stopped for more than four ticks (R370). -/
def oscStopped (s : State) : State := (s.raise LANTERN_STATUS_OSC_STOP).updLant (fun l => { l with oscStop := true })

/-- Codes of a write to LANTERN beyond the ranges of its fields (R361, R372). -/
def lanternCodes (s : State) (req : Req) (off data : Nat) : List Nat :=
  match off with
  | 0x000 => codeIf (!(lanternMay req)) E_PORT ++ lanternReqCodes s (data % 8)
  | 0x028 => codeIf ((upTo 4).any (fun k => bits data (2 * k) 2 == 0)) E_VALUE
  | _ => []

/-- What a write to LANTERN does beyond storing its fields (R361, R367). -/
def lanternEffect (s : State) (off data : Nat) : State :=
  match off with
  | 0x000 => lanternReq s (data % 8)
  | 0x038 | 0x03C => s.updLant (fun l => { l with auto := false })
  | _ => s

end Sys2Proof.Machine
end

