-- ==== Sys2Proof/Machine/System.lean ====
section
/-!
DEFINITION. Clocks, resets and the watchdog (R373 to R382, R417): what a device reset keeps, its sources and its release,
the reference and the root PLL, the clock outputs.
-/
namespace Sys2Proof.Machine

/-- Addresses of the words a device reset keeps (R380): the Lantern domain, RST_CAUSE, Keep's stored configuration, what SECURE
and the journal hold in the MRAM (log 117). -/
def keptWord (a : Nat) : Bool :=
  (decide (0x20010000 ≤ a) && decide (a < 0x20020000)) || a == 0x20000544 || keepStored a
  || a == 0x200A001C || a == 0x200A0028 || (decide (0x200A0030 ≤ a) && decide (a < 0x200A0080))
  || (decide (0x20060040 ≤ a) && decide (a < 0x200600A0) && a % 32 == 24)

/-- Everything at its reset value but what R380 keeps; the terminals on the rings are no part of the device. -/
def deviceCleared (s : State) : State :=
  let kept := s.regs.filter (fun p => keptWord (p.1 / 32))
  let s := loseMemory s
  keepHeld s {
    regs := kept, hiLatch := s.hiLatch.filter (fun p => decide (0x20010000 ≤ p.1) && decide (p.1 < 0x20020000))
    bytes := s.bytes, lineChk := s.lineChk, fab := s.fab, free := s.free, terms := s.terms
    gcs := { keepReq := true }
    ldg := { ckptTimes := s.ldg.ckptTimes }
    keep := keepStore s
    lant := s.lant, rst := s.rst, sec := { keys := s.sec.keys }, pending := s.pending }

/-- The MRAM as a reset that comes at once leaves it (R225): the word writes it interrupts. -/
def mramTorn (s : State) (power : Bool) : State := tornCkpt (tornRecords s power) power

/-- A device reset asserted with its cause (R379, R380): counted in RST_CAUSE, an entry or a power state left. While one is
asserted another source only prolongs it; a device in Hibernate has no power for another source than PGOOD and BOR. -/
def assertReset (s : State) (cause : Nat) : State :=
  if s.rst.asserted.isSome || s.lant.held then s
  else if powerState s = 4 && !s.rst.pgood && cause != 1 then s
  else
    let hib := powerState s = 4 || (s.lant.step = 5 && s.rd LANTERN_STATUS_TARGET = 4)
    let s := if hib then s
      else (backInRun s).updLant (fun l => { l with ref := none, penMain := true, penSer := true, penA := true })
    let s := (deviceCleared (mramTorn s (cause == 1))).count SYS_RST_CAUSE_COUNT
    let s := s.wr SYS_RST_CAUSE_CAUSE cause
    { s with rst := { s.rst with asserted := some cause, wdtEnd := 0 } }

/-- The time after a device reset (R313): carried from Lantern's reference, lost without one or after OSC_STOP. -/
def timeAfterReset (s : State) : State :=
  let n := tickNow s
  let s := match s.lant.ref with
    | some (t, n0, u) =>
      if s.lant.oscStop then timeLost s else timeCarried (s.wr CAMPANILE_UNCERT_NS u) t ((n + 2 ^ 48 - n0) % 2 ^ 48)
    | none => timeLost s
  let s := (s.clear CAMPANILE_STATUS_COARSE_EV).clear CAMPANILE_STATUS_LOST_EV
  s.updLant (fun l => { l with ref := none, oscStop := false })

/-- The device reset ends and start-up begins (R380, R383): REFSEL sampled, the time as R313 gives it, the stores'
initialisation running. -/
def resetRelease (s : State) (ref10 : Bool) (ticks : Nat) : State :=
  if s.rst.asserted.isNone || !s.rst.pgood || s.lant.held then s
  else
    let s := setTick { s with rst := { s.rst with asserted := none } } (ticks % 2 ^ 48)
    timeAfterReset (s.wr SYS_CLK_STATUS_REF10 (b2n ref10))

/-- PGOOD rises (R379, R416): out of Hibernate it is the source of a device reset. -/
def pgoodRise (s : State) : State :=
  let s := { s with rst := { s.rst with pgood := true } }
  if powerState s = 4 && s.lant.wake then assertReset s 1 else s

/-- PGOOD falls (R417): a device reset, but where Lantern is taking, or has taken, the device into Sleep or Hibernate. A fall
while a step is about to deassert an enable resets, and so does one after PGOOD has risen on the way out. -/
def pgoodFall (s : State) : State :=
  let st := powerState s
  let t := s.rd LANTERN_STATUS_TARGET
  let down := (3 ≤ st && !(s.lant.wake && s.rst.pgood)) || (0 < s.lant.step && s.lant.step < 5 && 3 ≤ t)
  let s := { s with rst := { s.rst with pgood := false } }
  if down then s else assertReset s 1

/-- VAON browns out (R370, R379): the Lantern reset holds, and with it one device reset recorded as BOR. -/
def brownOut (s : State) : State :=
  let s := deviceCleared (mramTorn s true)
  let s := { s with
    regs := s.regs.filter (fun p => !(decide (0x20010000 ≤ p.1 / 32) && decide (p.1 / 32 < 0x20020000)))
    lant := { held := true, penMain := false, penSer := false, penA := false, tickEdge := s.fab }
    rst := { asserted := some 0, pgood := false } }
  (s.wr SYS_RST_CAUSE_CAUSE 0).wr SYS_RST_CAUSE_COUNT 1

/-- VAON above 1.75 V for 1 ms (R370, R379, R416): the Lantern reset ends with BOR set, and the enables are asserted. -/
def brownOutRelease (s : State) (mv : Nat) : State :=
  if !s.lant.held then s
  else
    let s := s.updLant (fun l => { l with held := false, penMain := true, penSer := true, penA := true })
    vaonLevel (s.raise LANTERN_STATUS_BOR) mv false

/-! ### Reference and root PLL (R374 to R376) -/

/-- The reference monitor accepts the reference (R376). -/
def refAccepted (s : State) : State := if s.rst.asserted.isSome then s else s.raise SYS_CLK_STATUS_REF_OK

/-- The root PLL locks (R374): after a reset or on the way out of Sleep. -/
def pllLock (s : State) (band : Nat) : State :=
  let stopped := powerState s = 3 && !s.lant.wake
  if s.rst.asserted.isSome || stopped || 0 < s.lant.step && s.lant.step == 5 || clocked s || !(s.on SYS_CLK_STATUS_REF_OK) then s
  else keepAtLock ((s.raise SYS_CLK_STATUS_LOCK).wr SYS_CLK_STATUS_BAND band)

/-- The root PLL loses lock (R376). -/
def pllLoss (s : State) : State := if clocked s then assertReset s 5 else s

/-! ### Resets by register and the watchdog (R381, R382) -/

/-- Codes of a write of RST_CTRL (R381). -/
def rstCodes (s : State) (data : Nat) : List Nat :=
  codeIf (bits data 8 8 != 0xA5) E_VALUE
    ++ codeIf (bit data 0 && !(bit data 1) && s.on CAMPANILE_TICK_CTRL_EN) E_STATE

/-- An orderly reset (R381): the journal completes and closes, a checkpoint is written, the reset asserts. -/
def rstOrderly (s : State) : State :=
  let s := journalDrain s
  let s := { s with jrn := { s.jrn with shut := true } }
  assertReset (ckptNow s true) 3

/-- A write of RST_CTRL acts (R381): FORCE checks and writes nothing. -/
def rstCtrl (s : State) (data : Nat) : State :=
  if bit data 1 then assertReset s 4 else if bit data 0 then rstOrderly s else s

/-- The watchdog's count begins again (R382). -/
def wdtRestart (s : State) : State :=
  { s with rst := { s.rst with wdtEnd := s.fab + s.rd SYS_WDT_CTRL_TIMEOUT * 625 } }

/-- WDT_CTRL.EN set (R382): arming starts the count, a further write of 1 leaves it. -/
def wdtEnable (s : State) (armed : Bool) : State := if armed then s else wdtRestart (s.raise SYS_WDT_CTRL_EN)

/-- WDT_KICK (R382). -/
def wdtKick (s : State) : State := if s.on SYS_WDT_CTRL_EN then wdtRestart s else s

/-- WDT_LEFT in µs (R395). -/
def wdtLeft (s : State) : Nat := if s.on SYS_WDT_CTRL_EN then ceilDiv (s.rst.wdtEnd - s.fab) 625 else 0

/-- The count's end (R382). -/
def wdtExpiry (s : State) : State := if s.on SYS_WDT_CTRL_EN then assertReset (s.toEdge s.rst.wdtEnd) 6 else s

/-! ### Clock outputs (R378) -/

/-- The frequency of a source in Hz (R377, R395). -/
def srcHz (s : State) (src : Nat) : Nat :=
  match src with
  | 0 => 625000000
  | 1 => 156250000
  | 2 => 40000000
  | 3 => if s.on SYS_CLK_STATUS_REF10 then 10000000 else 25000000
  | _ => 32768

/-- A divided output is faster than its level allows (R378). -/
def clkTooFast (s : State) (fmt level src div : Nat) : Bool :=
  fmt == 1 && decide ((if level < 2 then 125000000 else 312500000) * (div + 1) < srcHz s src)

/-- GATE_COARSE holds the pin low (R378). -/
def clkGated (s : State) (j : Nat) : Bool :=
  s.on SYS_CLKOUT_GATE_COARSE 0 j && (s.on CAMPANILE_STATUS_COARSE || s.on CAMPANILE_STATUS_LOST)

/-- The whole second at which a 1PPS output rises, in ns (R378): the one the present edge reaches, else the next. -/
def ppsSecond (s : State) : Nat :=
  let now := s.ns / 1000000000
  if s.time - now * 1000000000 * 2 ^ 32 < s.incr then now * 1000000000 else (now + 1) * 1000000000

/-- An edge of a 1PPS output (R378): the fall WIDTH µs after its rise, else the rise at a whole second. -/
def clkoutPps (s : State) (j : Nat) : State :=
  if s.rd SYS_CLKOUT_FMT 0 j != 2 || !(s.on SYS_CLKOUT_OE 0 j) then s
  else
    match findKey s.camp.ppsIdle j with
    | some t =>
      let s := toReach s t
      { s with camp := { s.camp with ppsIdle := Sp.del s.camp.ppsIdle j } }
    | none =>
      let t := ppsSecond s
      let s := toReach s t
      { s with camp := { s.camp with ppsIdle := s.camp.ppsIdle.set j (t + s.rd SYS_CLKOUT_WIDTH 0 j * 1000) } }

/-- Codes of a write of a clock and reset word of SYS beyond the ranges of its fields (R378, R381). -/
def clkCodes (s : State) (off data : Nat) : List Nat :=
  if off = 0x540 then rstCodes s data
  else if 0x510 ≤ off && off < 0x530 && off % 8 = 0 then
    codeIf (bit data 7 && clkTooFast s (data % 4) (bits data 2 2) (bits data 4 3) (bits data 16 12)) E_RANGE
  else []

/-- What a write of these words does beyond storing its fields (R381, R382). -/
def clkEffect (s : State) (off data : Nat) (old : State) : State :=
  if off = 0x540 then rstCtrl s data
  else if off = 0x548 then (if bit data 0 then wdtEnable s (old.on SYS_WDT_CTRL_EN) else s)
  else if off = 0x54C then (if bit data 0 then wdtKick s else s)
  else s

end Sys2Proof.Machine
end

