-- ==== Sys2Proof/Machine/Bus.lean ====
section
/-!
DEFINITION. Accesses to the fabric (R3 to R12, R28, R29, R398, R402, R432, R434): what an address reaches, reads with their
side effects, writes judged whole and applied under their fields' access types and classes.
-/
namespace Sys2Proof.Machine

/-! ### The address map (R28, R432) -/

/-- What an address reaches: a register word of a block's instance, a cell-store entry, a filter coefficient, a LAW
window, a key slot's bytes, the identity record, a memory; nothing. -/
inductive Tgt where
  | reg (b : Blk) (i off : Nat)
  | cell (c off : Nat)
  | coef (a : Nat)
  | law (off : Nat)
  | key (k off : Nat)
  | ident (off : Nat)
  | mem
  | none
  deriving DecidableEq, Repr

/-- The block, instance and offset whose window holds an offset from 0x2000_0000. -/
def blkAt (o : Nat) : Option (Blk × Nat × Nat) :=
  let low := o % 0x10000
  if o < 0xB0000 then
    match o / 0x10000 with
    | 0 => some (.sys, 0, low) | 1 => some (.lantern, 0, low) | 2 => some (.campanile, 0, low)
    | 3 => some (.keep, 0, low) | 4 => some (.belfry, 0, low) | 5 => some (.memc, low / 0x8000, low % 0x8000)
    | 6 => some (.journal, 0, low) | 7 => some (.scan, 0, low) | 8 => some (.port, 0, low) | 9 => some (.twin, 0, low)
    | _ => some (.secure, 0, low)
  else if 0x100000 ≤ o && o < 0x104000 then
    let k := low / 0x1000
    let off := low % 0x1000
    if off < 0x800 then some (.adc, k, off)
    else if off < 0xA00 then some (.sv, 2 * k + (off - 0x800) / 0x100, off % 0x100) else none
  else if 0x110000 ≤ o && o < 0x114000 then some (.filt, low / 0x400, low % 0x400)
  else if 0x120000 ≤ o && o < 0x130000 then some (.oculus, 0, low)
  else if 0x130000 ≤ o && o < 0x130C00 then some (.pwm, low / 0x100, low % 0x100)
  else if 0x131000 ≤ o && o < 0x140000 then some (.trip, 0, low - 0x1000)
  else if 0x140000 ≤ o && o < 0x150000 then some (.law, 0, low)
  else if 0x200000 ≤ o && o < 0x208000 then some (.arm, low / 0x1000, low % 0x1000)
  else if 0x300000 ≤ o && o < 0x320000 then some (.ring, (o - 0x300000) / 0x400, o % 0x400)
  else if 0x400000 ≤ o && o < 0x410000 then some (.lease, low / 0x100, low % 0x100)
  else if 0x500000 ≤ o && o < 0x502000 then some (.queue, low / 0x100, low % 0x100)
  else if 0x600000 ≤ o && o < 0x610000 then some (.spire, low / 0x1000, low % 0x1000)
  else none

/-- A word of a block names a register: some field lies in it. Timer 0 of Campanile has no ET registers (R318). -/
def mapped (b : Blk) (w : Nat) : Bool :=
  !(b.pieces w).isEmpty && !(b == .campanile && decide (0x100 ≤ w) && decide (w < 0x120))

/-- What an address reaches. -/
def target (a : Nat) : Tgt :=
  if (memOf a).isSome then .mem
  else if inCellStore a then .cell ((a - CELL_BASE) / 0x80) (a % 0x80)
  else if inCoef a then .coef a
  else if (0x20150000 ≤ a && a < 0x20168000) || (0x20170000 ≤ a && a < 0x20174000) then .law (a - 0x20140000)
  else if 0x200A1000 ≤ a && a < 0x200A1000 + 10 * 0x200 then
    if a % 0x200 < 432 then .key ((a - 0x200A1000) / 0x200) (a % 0x200) else .none
  else if 0x200A3000 ≤ a && a < 0x200A3000 + 17504 then .ident (a - 0x200A3000)
  else if a < 0x20000000 then .none
  else
    match blkAt (a - 0x20000000) with
    | some (b, i, off) => if mapped b (off - off % 4) then .reg b i off else .none
    | none => .none

/-- The blocks that answer in the present power state (R359): in Doze the memories and registers keep their contents
without a clock. -/
def powered (s : State) (t : Tgt) : Bool :=
  match powerState s with
  | 0 => true
  | 1 => true
  | 2 => (match t with | .reg b _ _ => b == .lantern || b == .campanile || b == .keep | _ => false)
  | _ => false

/-! ### Reads -/

/-- A wide RO field whose words stand as a LO and HI pair (R434): the value, and whether the word is LO. -/
def widePiece (s : State) (b : Blk) (i w : Nat) : Option (Nat × Bool) :=
  match (b.pieces w).find? (fun p => p.fld.acc == .ro && decide (32 < p.fld.width)) with
  | some p => some (s.rd p.fld i p.idx, p.fbit == 0)
  | none => none

/-- A read of LO: its word, the high part latched for HI (R434). -/
def latchHi (s : State) (a v : Nat) : State × Nat := ({ s with hiLatch := s.hiLatch.set (a + 4) (v / 2 ^ 32) }, v % 2 ^ 32)

/-- A read of a HI word (R434). -/
def latchedHi (s : State) (a : Nat) : Nat := s.hiLatch.get 0 a

/-- A read of TIME_LO takes the time of one edge whole (R309). -/
def timeRead (s : State) (a : Nat) : State × Nat :=
  let (s, v) := latchHi s a s.ns
  ({ s with hiLatch := s.hiLatch.set (a + 8) (s.time % 2 ^ 32) }, v)

/-- A register's word as stored or latched, with the bits that follow from state of other kinds. -/
def plainRead (s : State) (b : Blk) (i w : Nat) : State × Nat :=
  let a := b.inst i + w
  match widePiece s b i w with
  | some (v, true) => latchHi s a v
  | some (_, false) => (s, latchedHi s a)
  | none =>
    let v := s.readWord b i w
    let v := match b, w with
      | .spire, 0x000 => v - v % 2 + b2n (!(s.on SPIRE_STATUS_HALTED i))
      | .adc, 0x010 =>
        let on := (upTo 2).any (fun j =>
          (s.readWord .sv (2 * i + j) 0x30 &&& s.readWord .sv (2 * i + j) 0x34) != 0)
        v - (v &&& 32) + bitv 5 on
      | .adc, 0x018 => if i % 2 = 1 then 0 else v
      | .sys, 0x24C => v + b2n (!s.gcs.log.isEmpty) + 2 ^ 16 * s.gcs.log.length
      | .ring, 0x028 => v + (s.ring i).reqs.length + 2 ^ 8 * (s.ring i).rsps.length
      | .keep, 0x018 => if s.on KEEP_STATUS_SPW then rampNow s else v
      | .keep, 0x214 => (v - (v &&& 2)) % 2 ^ 16 + bitv 1 (stagedDiffers s) + 2 ^ 16 * keepRemain s
      | _, _ => v
    (s, v)

/-- A read of a register word, with its side effects. -/
def regRead (s : State) (b : Blk) (i w : Nat) : State × Nat :=
  let a := b.inst i + w
  match b with
  | .sys =>
    if w = 0x240 then evtLatch s else if w = 0x244 then (s, evtHi s) else if w = 0x248 then evtPop s
    else if w = 0x320 then ldgAckRspRead s else if w = 0x550 then (s, wdtLeft s) else plainRead s b i w
  | .lantern =>
    if w = 0x030 then latchHi s a (tickNow s) else if w = 0x034 then (s, latchedHi s a) else plainRead s b i w
  | .campanile =>
    if w = 0x000 then timeRead s a
    else if w = 0x004 || w = 0x008 then (s, latchedHi s a)
    else if 0x400 ≤ w && w < 0x480 && w % 0x20 = 4 then
      let k := (w - 0x400) / 0x20
      let s := captureLatch s k
      (s, s.rd CAMPANILE_CI_TS 0 k % 2 ^ 32)
    else if 0x400 ≤ w && w < 0x480 && w % 0x20 = 8 then (s, s.rd CAMPANILE_CI_TS 0 ((w - 0x400) / 0x20) / 2 ^ 32)
    else if 0x400 ≤ w && w < 0x480 && w % 0x20 = 0xC then
      let s := capturePop s ((w - 0x400) / 0x20)
      (s, s.reply.data)
    else if 0x500 ≤ w && w < 0x540 && w % 0x10 = 0 then
      let p := (w - 0x500) / 0x10
      let s := txLatch s p
      (s, s.rd CAMPANILE_TXTS_TS 0 p % 2 ^ 32)
    else if 0x500 ≤ w && w < 0x540 && w % 0x10 = 4 then (s, s.rd CAMPANILE_TXTS_TS 0 ((w - 0x500) / 0x10) / 2 ^ 32)
    else if 0x500 ≤ w && w < 0x540 && w % 0x10 = 8 then
      let s := txPop s ((w - 0x500) / 0x10)
      (s, s.reply.data)
    else plainRead s b i w
  | .keep =>
    if w = 0x020 then (s, appliedCrc s) else if w = 0x024 then (s, stagedCrc s)
    else if 0x240 ≤ w && w < 0x260 then (s, keepLogWord s ((w - 0x240) / 4)) else plainRead s b i w
  | .secure =>
    if w = 0x010 then secureRspRead s
    else if w = 0x020 then latchHi s a (Config.devid % 2 ^ 64)
    else if w = 0x024 then (s, latchedHi s a) else plainRead s b i w
  | .pwm =>
    if w = 0x02C then
      let c := pwmCount s i s.fab
      (s, if s.on PWM_CTRL_EN i then c.1 % 2 ^ 20 + bitv 20 c.2 else 0)
    else plainRead s b i w
  | .trip =>
    if w = 0x200 then tevtLatch s else if w = 0x204 then (s, tevtHi s) else if w = 0x208 then (s, tevtSrc s)
    else if w = 0x20C then tevtPop s else if w = 0x308 then drvPop s else plainRead s b i w
  | .ring =>
    if w = 0x024 then let s := mgmtPop s i
                      (s, s.reply.data)
    else plainRead s b i w
  | .queue =>
    if w = 0x040 then queuePopTag s i else if w = 0x044 then (s, queuePopLo s i)
    else if w = 0x048 then queuePopHi s i else plainRead s b i w
  | _ => plainRead s b i w

/-- Bytes of a word from a byte offset. -/
def cutWord (v off n : Nat) : Nat := v / 2 ^ (8 * (off % 4)) % 2 ^ (8 * n)

/-- The requester code of R236 and R411 that an access carries, none for a port that has none. -/
def reqCode : Req → Option Nat
  | .core n _ => some n.val
  | .host => some 16
  | _ => none

/-- The requester id of Belfry; 31, an unused one, for a port without. -/
def ownerId (r : Req) : Nat := (reqCode r).getD 31

/-- A pop by a source other than the queue's consumer (R248). -/
def popRefused (s : State) (req : Req) (b : Blk) (i w : Nat) : Bool :=
  b == .queue && decide (0x040 ≤ w) && decide (w < 0x04C) && reqCode req != some (s.rd QUEUE_CFG_CONS i)

/-- A read of `n` bytes at an address by a requester (R28): data, data under an uncorrectable error, a refusal, or a bus error. -/
def busRead (s : State) (req : Req) (a n : Nat) : State × MemAns :=
  let t := target a
  if !(powered s t) then (s, .bus)
  else
    match t with
    | .none => (s, .bus)
    | .mem => memRead s a n
    | .cell c off =>
      let (s, code, v) := cellRead s c off n
      (s, if code = E_ECC then .ecc v else .ok v)
    | .coef x => (s, .ok (cutWord (s.sig.eng.coef.get 0 ((x - COEF_BASE) / 0x1000 * 1024
        + (x - COEF_BASE) % 0x1000 / 0x800 * 512 + (x - COEF_BASE) % 0x800 / 4)) x n))
    | .law off =>
      let w := off - off % 4
      let (s, code, v) := lawAnswer s w (lawWindow s w)
      (s, if code = E_ECC then .ecc (cutWord v off n) else .ok (cutWord v off n))
    | .key k off => (s, .ok (leNat (((keyBytes s k).drop off).take n)))
    | .ident off => (s, .ok (leNat (((identRecord s).drop off).take n)))
    | .reg b i off =>
      if b = .spire && off - off % 4 = 0x014 then
        let (s, code, v) := loadDataRead s i
        (s, if code = E_ECC then .ecc (cutWord v off n) else .ok (cutWord v off n))
      else if popRefused s req b i (off - off % 4) then
        (s.recordErr QUEUE_ERR_CODE i E_STATE (off - off % 4), .no E_STATE)
      else if b = .law then
        let w := off - off % 4
        let (s, code, v) := lawAnswer s w (s.readWord .law 0 w)
        (s, if code = E_ECC then .ecc (cutWord v off n) else .ok (cutWord v off n))
      else
        let (s, v) := regRead s b i (off - off % 4)
        (s, .ok (cutWord v off n))

/-! ### What a write would make of a word (R4, R5) -/

/-- The value last written to a field: one that waits for its load event, else the one in force. -/
def State.written (s : State) (f : Fld) (i j : Nat) : Nat :=
  match findKey s.staged (f.key i j) with
  | some g => g.val
  | none => s.rd f i j

/-- The bits of a number that a mask selects, cleared. -/
def clearBits (v m : Nat) : Nat := v - (v &&& m)

/-- The bits of a field's part that a write under a mask carries, at their place in the field. -/
def Piece.carried (p : Piece) (m : Nat) : Nat := bits m p.pos p.n * 2 ^ p.fbit

/-- The value of a field after a write of a word under a mask (R5). -/
def State.after (s : State) (i : Nat) (p : Piece) (data m : Nat) : Nat :=
  let cur := s.written p.fld i p.idx
  let d := (bits data p.pos p.n * 2 ^ p.fbit) &&& p.carried m
  match p.fld.acc with
  | .rw => clearBits cur (p.carried m) + d
  | .wo => d
  | .w1c => clearBits cur d
  | .w1s => cur ||| d
  | .ro => cur

/-- The RW bits of a word as last written. -/
def State.rwWord (s : State) (b : Blk) (i w : Nat) : Nat :=
  sumOf (fun p => if p.fld.acc = .rw then bits (s.written p.fld i p.idx) p.fbit p.n * 2 ^ p.pos else 0) (b.pieces w)

/-- The word a write asks for: its own bits, the RW bits it does not carry as last written. -/
def State.asked (s : State) (b : Blk) (i w data m : Nat) : Nat := clearBits (s.rwWord b i w) m + (data &&& m)

/-- The value a field takes if a write is accepted; for a field of another word its value as last written. -/
def State.valueOf (s : State) (b : Blk) (i w data m : Nat) (f : Fld) : Nat :=
  match (b.pieces w).find? (fun p => p.fld == f) with
  | some p => s.after i p data m
  | none => s.written f i 0

/-! ### When a block is not stopped (R6) -/

/-- The unit that owns a held field runs. -/
def unitRuns (s : State) (f : Fld) (i j : Nat) : Bool :=
  match f.blk with
  | .sys =>
    if f.off = 0x010 then s.pipe.running
    else if 0x300 ≤ f.off && f.off < 0x350 then s.on SYS_LDG_CTRL_EN
    else if 0x510 ≤ f.off && f.off < 0x530 then s.on SYS_CLKOUT_OE 0 j
    else if f.off = 0x548 then s.on SYS_WDT_CTRL_EN else false
  | .lantern => lantBusy s
  | .campanile =>
    if f.off = 0x048 then s.on CAMPANILE_TICK_CTRL_EN
    else if f.off < 0x300 then s.rd CAMPANILE_ET_CTRL_MODE 0 j != 0
    else s.rd CAMPANILE_TO_CTRL_MODE 0 j != 0
  | .keep => false
  | .belfry => false
  | .memc => s.on MEMC_CTRL_EN i
  | .journal => s.on JOURNAL_CTRL_EN
  | .scan => s.on SCAN_STATUS_BUSY
  | .port => s.on PORT_CTRL_CMD_EN
  | .twin => if f.off = 0x010 then s.rd TWIN_STATUS_STATE != 0 else s.on CAMPANILE_TICK_CTRL_EN
  | .secure => s.on SECURE_RSP_BUSY
  | .adc => s.on ADC_CTRL_EN i
  | .sv => s.on SV_CTRL_EN i
  | .filt => s.on FILT_CTRL_EN i
  | .oculus => s.on OCULUS_STATUS_RUNNING
  | .pwm => s.on PWM_CTRL_EN i
  | .trip => s.on TRIP_DRV_CFG_EN
  | .law => if 0x100 ≤ f.off then listActive s j else s.on LAW_TEST_CTRL_ACTIVE
  | .arm => s.rd ARM_CTRL_MODE i != 0
  | .ring => s.on RING_CTRL_EN i
  | .lease => s.on LEASE_CTRL_EN i
  | .queue => s.on QUEUE_CTRL_EN i
  | .spire => !(s.on SPIRE_STATUS_HALTED i)

/-! ### Judgement of a write (R6, R8, R11) -/

/-- Codes of the fields a write carries: a held field that would change while its unit runs, a value that no write may
give. Every write of LOAD_DATA would change its word. -/
def fieldCodes (s : State) (b : Blk) (i w data m : Nat) : List Nat :=
  (b.pieces w).flatMap (fun p =>
    let new := s.after i p data m
    if p.carried m = 0 then []
    else if p.fld.acc = .rw then
      codeIf (p.fld.cls == .held && unitRuns s p.fld i p.idx && (new != s.written p.fld i p.idx || p.fld == SPIRE_LOAD_DATA_DATA))
        E_BUSY ++ codeIf (!(p.fld.legal new)) E_VALUE
    else if p.fld.acc = .wo then codeIf (!(p.fld.legal new)) E_VALUE
    else [])

/-- A HOST write that HOST_LOCK leaves permitted (R402). -/
def lockPermits (s : State) (b : Blk) (i w : Nat) : Bool :=
  match b with
  | .port => w == 0x018 || w == 0x02C
  | .spire => w == 0x018 || w == 0x01C
  | .queue => decide (0x040 ≤ w) && decide (w < 0x04C) && s.rd QUEUE_CFG_CONS i == 16
  | .belfry => w == 0x100
  | .sys => w == 0x314 || w == 0x318 || w == 0x31C
  | .secure => w == 0x000
  | .keep => w == 0x000
  | _ => false

/-- Codes of the arrival port (R355, R402): `ask` is the word asked for. -/
def portCodes (s : State) (req : Req) (b : Blk) (i w ask : Nat) : List Nat :=
  let locks := b == .port && w == 0x000 && bit ask 1 != s.on PORT_CTRL_HOST_LOCK
  let maints := b == .port && w == 0x000 && bit ask 2 != s.on PORT_CTRL_MAINT_WR
  match req with
  | .host => codeIf (locks || (s.on PORT_CTRL_HOST_LOCK && !(lockPermits s b i w))) E_PORT
  | .maint =>
    if b = .keep then codeIf (!(w == 0x000 && !(bit ask 0))) E_PORT
    else codeIf (locks || maints || !(s.on PORT_CTRL_MAINT_WR)) E_PORT
  | .safety => codeIf (b != .keep) E_PORT
  | .core _ task =>
    codeIf (locks && task) E_PORT
      ++ codeIf (b == .keep && ((w == 0x000 && (task || bit ask 0)) || ((w == 4 || w == 8) && task))) E_PORT

/-- Codes of a write to CAMPANILE beyond the ranges and classes of its fields (R308, R310, R313 to R316, R328). -/
def campCodes (s : State) (w ask : Nat) : List Nat :=
  let slewing := s.on CAMPANILE_STATUS_SLEWING
  if w = 0x010 then codeIf (incrOutside (incrOf s ask)) E_RANGE
  else if w = 0x018 then
    codeIf (bits ask 0 3 != 0 && slewing) E_BUSY ++ codeIf (!([0, 1, 2, 4].contains (bits ask 0 3))) E_VALUE
  else if w = 0x030 then codeIf (bit ask 0 && s.on CAMPANILE_STATUS_LOST) E_STATE
  else if w = 0x040 then codeIf (!(cycleFitsWith s CAMPANILE_CYCLE_FAB (bits ask 0 15))) E_RANGE
  else if w = 0x044 then
    if bit ask 0 && !(s.on CAMPANILE_TICK_CTRL_EN) then
      codeIf (!(s.on SYS_CSE_STATUS_INIT_DONE)) E_STATE ++ codeIf (startTooSoon s) E_RANGE
    else []
  else if 0x120 ≤ w && w < 0x300 && w % 0x20 = 0 then
    codeIf (bits ask 0 2 == 2 && s.rd CAMPANILE_ET_PERIOD 0 ((w - 0x100) / 0x20) == 0) E_VALUE
  else if 0x300 ≤ w && w < 0x380 && w % 0x20 = 0 then
    let j := (w - 0x300) / 0x20
    codeIf (bits ask 0 2 == 3 && decide (s.rd CAMPANILE_TO_PERIOD 0 j ≤ s.rd CAMPANILE_TO_WIDTH 0 j)) E_VALUE
  else if 0x300 ≤ w && w < 0x380 && w % 0x20 = 0xC then codeIf (ask == 0) E_VALUE
  else []

/-- Codes of a write to SYS beyond the ranges and classes of its fields. -/
def sysCodes (s : State) (w ask : Nat) : List Nat :=
  if w = 0x300 then (if bit ask 1 then restoreCodes s else []) ++ codeIf (bit ask 2 && s.ldg.ckptBusy) E_BUSY
  else if w = 0x314 then ldgAckCodes s (ask % 256)
  else if 0x500 ≤ w then clkCodes s w ask
  else pipeCodes s w ask

/-- Codes of a write to PORT beyond the ranges and classes of its fields (R404, R409). -/
def portRegCodes (s : State) (w ask : Nat) : List Nat :=
  if w = 0x018 then cmdTailCodes s (ask % 4096)
  else if w = 0x04C then fwDoneCodes s (ask * 2 ^ 32 + s.port.fwDoneLo) else []

/-- Codes of a write to MEMC_n and JOURNAL beyond the ranges and classes of their fields (R231 to R233). -/
def memcCodes (s : State) (i w ask : Nat) : List Nat :=
  if w = 0x000 then
    codeIf (bit ask 0 && !(s.on MEMC_STATUS_INIT_DONE i)) E_STATE ++ codeIf (bit ask 2 && s.on MEMC_CTRL_EN i) E_STATE
  else []

/-- The same for JOURNAL. -/
def journalCodes (s : State) (w ask : Nat) : List Nat :=
  if w = 0x000 then
    codeIf (bit ask 1 && s.on JOURNAL_CTRL_EN) E_STATE ++ codeIf (bit ask 2 && s.jrn.recovering) E_BUSY
  else []

/-- Codes of a write to a block beyond those of its fields and of the port: `v` gives a field's value after the write. -/
def blockCodes (s : State) (req : Req) (b : Blk) (i w ask : Nat) (v : Fld → Nat) : List Nat :=
  match b with
  | .sys => sysCodes s w ask
  | .lantern => lanternCodes s req w ask
  | .campanile => campCodes s w ask
  | .keep => keepCodes s req w ask
  | .belfry => belfryCodes s w ask (ownerId req)
  | .memc => memcCodes s i w ask
  | .journal => journalCodes s w ask
  | .scan => scanCodes s w ask
  | .port => portRegCodes s w ask
  | .twin =>
    twinCodes s w ask
      ++ codeIf (w == 0x004 && !(cycleFitsWith s TWIN_CFG_MASK_WAIT (v TWIN_CFG_MASK_WAIT))) E_RANGE
      ++ codeIf (w == 0x080 && v TWIN_CASC_CFG_ROLE != 0 && s.on SYS_CLK_STATUS_REF10) E_STATE
  | .secure => secureCodes s req w ask
  | .adc => adcCodes s i w ask v
  | .sv => svCodes s i w ask
  | .filt => filtCodes s i w ask v
  | .oculus => oculusCodes s w ask
  | .pwm => pwmCodes s i w ask v (bit (tripPairs s) i)
  | .trip => tripCodes s w
  | .law => lawRegCodes s w ask
  | .arm => armCodes s i w ask
  | .ring => ringCodes s i w ask
  | .lease => leaseCodes s i w ask v
  | .queue =>
    queueCodes s i w ask (reqCode req)
      ++ codeIf ((w == 0x008 || w == 0x00C) && spillBaseBad (v QUEUE_SPILL_BASE_ADDR) (s.rd QUEUE_CFG_SPILL_LOG2 i)) E_RANGE
  | .spire => spireCodes s i w ask

/-! ### An accepted write -/

/-- One part of an accepted write stored under its field's access type and class (R5 to R7). -/
def storePiece (i data m : Nat) (s : State) (p : Piece) : State :=
  let f := p.fld
  let new := s.after i p data m
  if p.carried m = 0 || f == PORT_FW_DONE_JSEQ || f == SPIRE_CTRL_RUN || f == SPIRE_LOAD_DATA_DATA then s
  else
    match f.acc with
    | .ro => s
    | .wo => if f == TWIN_CASC_TX_VALUE then s.wr f new i p.idx else s
    | .w1c => s.wr f new i p.idx
    | .w1s => s.wr f new i p.idx
    | .rw =>
      if f.cls = .live || f.cls = .held then s.wr f new i p.idx
      else if (f.cls = .tick || f.cls = .reload) && new = s.written f i p.idx then s
      else s.stage f new i p.idx

/-- Effects of an accepted write to CAMPANILE beyond storing its fields. -/
def campEffect (s : State) (w ask : Nat) (old : State) : State :=
  if w = 0x010 then applyIncr s
  else if w = 0x018 then
    if bit ask 0 then stepTime s else if bit ask 1 then startSlew s else if bit ask 2 then setTime s else s
  else if w = 0x030 then (if bit ask 0 then clearCoarse s else s)
  else if w = 0x044 then
    let on := s.on CAMPANILE_TICK_CTRL_EN
    if on == old.on CAMPANILE_TICK_CTRL_EN then s else if on then armTick s else disarmTick s
  else if 0x120 ≤ w && w < 0x300 && w % 0x20 = 0 then
    let i := (w - 0x100) / 0x20
    if s.rd CAMPANILE_ET_CTRL_MODE 0 i = old.rd CAMPANILE_ET_CTRL_MODE 0 i then s else timerWritten s i
  else if 0x300 ≤ w && w < 0x380 && w % 0x20 = 0 then
    let j := (w - 0x300) / 0x20
    outModeWritten s j (old.rd CAMPANILE_TO_CTRL_MODE 0 j)
  else s

/-- Effects of an accepted write to SYS beyond storing its fields. -/
def sysEffect (s : State) (w ask : Nat) (old : State) : State :=
  if w = 0x300 then
    let s := if bit ask 1 then restoreStart s else s
    if bit ask 2 then ckptRequest s else s
  else if w = 0x314 then ldgAck s (ask % 256)
  else if w = 0x3F0 then (if bit ask 30 then s.clearErr SYS_LDG_ERR_CODE 0 else s)
  else if 0x500 ≤ w then clkEffect s w ask old
  else pipeEffect s w ask old

/-- Effects of an accepted write to PORT beyond storing its fields. -/
def portEffect (s : State) (w ask : Nat) : State :=
  if w = 0x00C then doorbell s (ask &&& 0xFC)
  else if w = 0x02C then cplStatus s
  else if w = 0x048 then s.updPort (fun p => { p with fwDoneLo := ask % 2 ^ 32 })
  else if w = 0x04C then fwDone s (ask * 2 ^ 32 + s.port.fwDoneLo)
  else s

/-- Effects of an accepted write to MEMC_n and to JOURNAL beyond storing their fields (R222, R231 to R233). -/
def memcEffect (s : State) (i w ask : Nat) (old : State) : State :=
  if w = 0x000 then
    let s := if bit ask 0 && !(old.on MEMC_CTRL_EN i) then
        { s with mems := s.mems.set i { s.mems.get {} i with refreshed := s.fab } } else s
    let s := if bit ask 2 then memcInit s i else s
    if bit ask 3 then enterChFail s i else s
  else s

/-- The same for JOURNAL. -/
def journalEffect (s : State) (w ask : Nat) : State :=
  if w = 0x000 then
    let s := if bit ask 1 then journalFormat s else s
    if bit ask 2 then recoverStart s else s
  else s

/-- Effects of an accepted write beyond storing its fields; `old` is the state before the write. -/
def blockEffect (s : State) (req : Req) (b : Blk) (i w ask : Nat) (old : State) : State :=
  match b with
  | .sys => sysEffect s w ask old
  | .lantern => lanternEffect s w ask
  | .campanile => campEffect s w ask old
  | .keep => keepEffect s req w ask
  | .belfry => belfryEffect s w ask
  | .memc => memcEffect s i w ask old
  | .journal => journalEffect s w ask
  | .scan => scanEffect s w ask
  | .port => portEffect s w ask
  | .twin => twinEffect s w ask
  | .secure => secureEffect s w ask
  | .adc => adcEffect s i w ask
  | .sv => svEffect s i w ask
  | .filt => filtEffect s i w ask
  | .oculus => oculusEffect s w ask
  | .pwm => pwmEffect s i w
  | .trip => tripEffect s w ask
  | .law => lawRegEffect s w ask
  | .arm => armEffect s i w
  | .ring => ringEffect s i w ask
  | .lease => leaseEffect s i w ask
  | .queue => queueEffect s i w ask
  | .spire => spireEffect s i w ask

/-- A refusal recorded: the ledger's registers in SYS have their own ERR (R216). -/
def refuseReg (s : State) (b : Blk) (i w code : Nat) : State :=
  if b = .sys && 0x300 ≤ w && w < 0x400 then (s.recordErr SYS_LDG_ERR_CODE 0 code w).answer code 0
  else s.refuse b i w code

/-- A word of an instance that has no such register: writes to it are ignored (R265: PLAUS of ADC_1 and ADC_3). -/
def ignoredWord (b : Blk) (i w : Nat) : Bool := b == .adc && i % 2 == 1 && w == 0x018

/-- The code that answers a write of a register word under a mask (R11). -/
def writeCode (s : State) (req : Req) (b : Blk) (i w data m : Nat) : Nat :=
  let ask := s.asked b i w data m
  firstRefusal (portCodes s req b i w ask ++ (if ignoredWord b i w then [] else
    fieldCodes s b i w data m ++ blockCodes s req b i w ask (s.valueOf b i w data m)
      ++ (if b = .law then lawPartCodes s w m else [])))

/-- The fields of an accepted write stored, and its answer (R5 to R7): a word of the Law engine has a new code (R135), ERR.CLEAR acts
(R10). -/
def storeWord (s : State) (b : Blk) (i w data m : Nat) : State :=
  let t := ((b.pieces w).foldl (storePiece i data m) s).answer OK 0
  let t := if b = .law then { t with bad := t.bad.filter (· != 0x20140000 + w) } else t
  if w = 0x0F0 && bit (data &&& m) 30 then t.clearErr b.errCode (b.errInst i) else t

/-- A write of a register word under a mask, whole or not at all (R8 to R11). -/
def regWrite (s : State) (req : Req) (b : Blk) (i w data m : Nat) : State :=
  let code := writeCode s req b i w data m
  if code = OK && ignoredWord b i w then s.answer OK 0
  else if code = OK then blockEffect (storeWord s b i w data m) req b i w (s.asked b i w data m) s
  else refuseReg s b i w code

/-! ### Writes to the other targets -/

/-- HOST_LOCK and MAINT_WR at a target that is no register (R402). -/
def openTo (s : State) (req : Req) (a : Nat) : Bool :=
  match req with
  | .host =>
    let base := s.rd PORT_CMD_BASE_ADDR * 64
    !(s.on PORT_CTRL_HOST_LOCK) || (decide (base ≤ a) && decide (a < base + cmdRing s * 64))
  | .maint => s.on PORT_CTRL_MAINT_WR
  | .safety => false
  | .core _ _ => true

/-- An access that meets no target (R28): a HOST write is recorded, every other requester has its answer. -/
def busError (s : State) (req : Req) (write : Bool) (a : Nat) : State :=
  let s := match req with
    | .host => if write then s.recordErr PORT_ERR_CODE 0 E_VALUE (a % 4096) else s
    | _ => s
  { s with reply := ⟨E_VALUE, 0, true⟩ }

/-- A store of bytes to Cupola, DRAM or the MRAM window (R221, R226, R246). -/
def memStore (s : State) (req : Req) (a n v : Nat) : State :=
  if memOf a = some .mram then
    let (s, code) := userStore s a n v
    s.answer code 0
  else if chOff s a && !(chFail s a) then busError s req true a
  else
    let (s, code) := storeLine s (ownerId req) a (leBytes n v)
    s.answer code 0

/-- A write of `n` bytes at an address (R8, R28, R402). A store of less than a word changes the bytes it carries. -/
def busWrite (s : State) (req : Req) (a n v : Nat) : State :=
  let t := target a
  let sh := 8 * (a % 4)
  let data := v * 2 ^ sh
  let m := (2 ^ (8 * n) - 1) * 2 ^ sh
  if !(powered s t) then busError s req true a
  else
    match t with
    | .none => busError s req true a
    | .reg b i off =>
      if req = .host && !(n = 4 && a % 4 = 0) then busError s req true a
      else regWrite s req b i (off - off % 4) data m
    | .key _ off => if openTo s req a then s.answer OK 0 else s.refuse .secure 0 (0x1000 + off) E_PORT
    | .ident off => if openTo s req a then s.answer OK 0 else s.refuse .secure 0 (0x3000 + off) E_PORT
    | .mem =>
      if openTo s req a then memStore s req a n v
      else (s.recordErr PORT_ERR_CODE 0 E_PORT (a % 4096)).answer E_PORT 0
    | .cell c off =>
      if openTo s req a then cellWrite s c off n v s.fab true
      else (cseRecord s c off E_PORT).answer E_PORT 0
    | .coef x =>
      if openTo s req a then coefWrite s (x - x % 4) data m
      else s.refuse .filt ((x - COEF_BASE) / 0x1000) (0x1000 + x % 0x1000) E_PORT
    | .law off =>
      let w := off - off % 4
      if openTo s req a then
        let x := clearBits (lawWindow s w) m + (data &&& m)
        let code := firstRefusal (lawPartCodes s w m ++ lawWindowCodes s w x)
        if code = OK then (lawWindowApply s w x m).answer OK 0 else s.refuse .law 0 w code
      else s.refuse .law 0 w E_PORT

/-! ### Accesses as the rows make them -/

/-- A software access: nothing while the FAB clocks stand still. -/
def access (s : State) (f : State → State) : State := onFab s f

/-- The answer of a read to its requester (R28, R398): a HOST read of a register must be one aligned word. -/
def readAnswer (s : State) (req : Req) (a n : Nat) : State :=
  let reg := match target a with | .reg _ _ _ => true | _ => false
  if (req = .host && reg && !(n = 4 && a % 4 = 0)) || (req = .safety && !(decide (0x20030000 ≤ a) && decide (a < 0x20040000))) then
    busError s req false a
  else
    match busRead s req a n with
    | (s, .ok v) => s.answer OK v
    | (s, .ecc v) => s.answer E_ECC v
    | (s, .no code) => s.answer code 0
    | (s, .bus) => busError s req false a

/-- A write of a register word whose bits outside a mask are left as they are. -/
def wordCmd (s : State) (req : Req) (b : Blk) (i w data m : Nat) : State :=
  access s fun s =>
    if powered s (.reg b i w) then regWrite s req b i w data m else busError s req true (b.inst i + w)

/-- Bits of a WO, W1C or W1S field written as 1. -/
def bitCmd (s : State) (req : Req) (b : Blk) (i w m : Nat) : State := wordCmd s req b i w m m

/-- A field written, the other fields of its word as read back. -/
def fieldCmd (s : State) (req : Req) (f : Fld) (i j v : Nat) : State :=
  let w := f.off + j * f.sub
  wordCmd s req f.blk i w (v * 2 ^ f.lsb) ((2 ^ f.width - 1) * 2 ^ f.lsb)

/-- A read of a register word. -/
def readCmd (s : State) (req : Req) (b : Blk) (i w : Nat) : State := access s fun s => readAnswer s req (b.inst i + w) 4

end Sys2Proof.Machine
end

