-- ==== Sys2Proof/Machine/CmdCells.lean ====
section
/-!
DEFINITION. The cell store, the arms and the gate stage (R65 to R79, R84, R110 to R117, R196): one meaning for each command or event.
-/
namespace Sys2Proof.Machine

/-- A W1S bit of an entry's flag byte written as 1, with LEASE_EN and SW_BLOCK as they are (R65, R68). -/
def cellBit (s : State) (req : Req) (c m : Nat) : State :=
  access s fun s =>
    busWrite s req (CELL_BASE + 0x80 * c + 0x6B) 1 (m + bitv 0 (s.entry c).leaseEn + bitv 1 (s.entry c).swBlock)

/-- STATE_ERR (R110): a cell whose mismatch count has reached STATE_LIMIT. -/
def stateErrEvent (s : State) (c : Nat) : State :=
  if s.rd SYS_GCS_CFG_STATE_LIMIT ≤ (s.entry c).gate.misCnt then stateErr s c else s

/-- CELL_STORE_WRITE (R66): of 2^size bytes, the `idx`-th such element of the entry. -/
def execCellStoreWrite (req : Req) (c : Fin 4096) (idx : BitVec 7) (size : Fin 4) (val : BitVec 64) (s : State) : Out :=
  let n := 2 ^ size.val
  .next (access s fun s => busWrite s req (CELL_BASE + 0x80 * c + idx.toNat * n % 128) n (val.toNat % 2 ^ (8 * n)))

/-- EC_SET_PEND (R68). -/
def execEcSetPend (req : Req) (c : Fin 4096) (s : State) : Out := .next (cellBit s req c 4)

/-- CLR_MAX (R65). -/
def execClrMax (req : Req) (c : Fin 4096) (s : State) : Out := .next (cellBit s req c 8)

/-- CLR_CORRUPT (R78). -/
def execClrCorrupt (req : Req) (c : Fin 4096) (s : State) : Out := .next (cellBit s req c 16)

/-- CSE_INIT (R79). -/
def execCseInit (req : Req) (s : State) : Out := .next (bitCmd s req .sys 0 0x100 1)

/-- CSE_INIT_DONE (R79). -/
def execCseInitDone (s : State) : Out := .next (onFab s storeInitDone)

/-- LEASE_UPDATE (R196). -/
def execLeaseUpdate (s : State) : Out := .next (onFab s leaseUpdate)

/-- ARM_N_WRITE (R84). -/
def execArmNWrite (req : Req) (k : Fin 8) (data : BitVec 32) (s : State) : Out :=
  .next (wordCmd s req .arm k 0x004 data.toNat 0xFFFFFFFF)

/-- ARM_VREF_ARM_WRITE (R84). -/
def execArmVrefArmWrite (req : Req) (k : Fin 8) (data : BitVec 32) (s : State) : Out :=
  .next (wordCmd s req .arm k 0x008 data.toNat 0xFFFFFFFF)

/-- STATE_ERR (R110). -/
def execStateErr (c : Fin 4096) (s : State) : Out := .next (onFab s fun s => stateErrEvent s c)

/-- GCS_SET_ARM (R114). -/
def execGcsSetArm (req : Req) (mask : BitVec 8) (s : State) : Out :=
  .next (wordCmd s req .sys 0 0x210 mask.toNat 0xFF)

/-- GCS_SET_ALL (R114). -/
def execGcsSetAll (req : Req) (s : State) : Out := .next (bitCmd s req .sys 0 0x210 0x100)

/-- GCS_SET_RING (R114). -/
def execGcsSetRing (req : Req) (r : Fin 128) (s : State) : Out :=
  .next (wordCmd s req .sys 0 0x210 (2 ^ 16 + 2 ^ 17 * r) 0xFF0000)

/-- GCS_ARM_CLEAR (R113). -/
def execGcsArmClear (req : Req) (mask : BitVec 8) (s : State) : Out := .next (bitCmd s req .sys 0 0x20C mask.toNat)

/-- GCS_ALL_CLEAR (R113). -/
def execGcsAllClear (req : Req) (s : State) : Out := .next (bitCmd s req .sys 0 0x20C 0x100)

/-- GCS_RING_CLEAR (R113). -/
def execGcsRingClear (req : Req) (i : Fin 4) (mask : BitVec 32) (s : State) : Out :=
  .next (wordCmd s req .sys 0 (0x220 + 4 * i) mask.toNat 0xFFFFFFFF)

/-- GCS_CELL_CLR_FLT (R113). -/
def execGcsCellClrFlt (req : Req) (c : Fin 4096) (s : State) : Out :=
  .next (wordCmd s req .sys 0 0x230 (c + 2 ^ 16) 0x30FFF)

/-- GCS_CELL_CLR_ILLEGAL (R113). -/
def execGcsCellClrIllegal (req : Req) (c : Fin 4096) (s : State) : Out :=
  .next (wordCmd s req .sys 0 0x230 (c + 2 ^ 17) 0x30FFF)

/-- GCS_EVT_LATCH (R117). -/
def execGcsEvtLatch (req : Req) (s : State) : Out := .next (readCmd s req .sys 0 0x240)

/-- GCS_EVT_POP (R117). -/
def execGcsEvtPop (req : Req) (s : State) : Out := .next (readCmd s req .sys 0 0x248)

end Sys2Proof.Machine
end

