-- ==== Sys2Proof/Machine/SpireMem.lean ====
section
/-!
DEFINITION. Loads and stores (R155 to R158, R160, R181, R182): address forms, task windows, alignment, TCM accesses at
once, fabric and DRAM loads as a stall, stores into the write buffer.
-/
namespace Sys2Proof.Machine

/-- EA (R181). -/
def effAddr (x : CoreSt) (rs1 : BitVec 5) (imm : BitVec 16) : Nat := (x.gR rs1.toNat + imm.signExtend 32).toNat

/-- The physical address of an access (R155). -/
def physAddr (x : CoreSt) (form : Form) (ea : Nat) : Nat :=
  match form with
  | .tcm => TCM_BASE + ea % TCM_SIZE
  | .fabric => ea
  | .dram => 0x800000000 + x.dwin * 2 ^ 32 + ea

/-- The physical address lies in the core's own TCM (R29, R155). -/
def ownTcm (a : Nat) : Bool := decide (TCM_BASE ≤ a) && decide (a < TCM_BASE + TCM_SIZE)

/-- An access in TASK lies within one enabled window that grants its direction (R160). -/
def windowGrants (x : CoreSt) (write : Bool) (a n : Nat) : Bool :=
  (upTo 4).any fun i =>
    let base := x.twb.get 0 i
    let lim := x.twl.get 0 i
    bit lim (if write then 29 else 28)
      && decide (base * 4096 ≤ a) && decide (a + n ≤ (bits lim 0 28) * 4096 + 4096)

/-- What an access raises before it reaches its target: ACCESS outside the TCM or the task windows, then ALIGN (R155,
R160; the order is log 21). -/
def accessFault (x : CoreSt) (form : Form) (write : Bool) (ea n : Nat) : Option (Nat × Nat) :=
  let a := physAddr x form ea
  if form = .tcm && TCM_SIZE ≤ ea then some (X_ACCESS, TCM_BASE + ea % TCM_SIZE)
  else if x.task && form != .tcm && !(windowGrants x write a n) then some (X_ACCESS, a)
  else if a % n != 0 then some (X_ALIGN, a)
  else none

/-- The value of a load in its register (R181). -/
def CoreSt.takeLoad (x : CoreSt) (l : LoadReq) (v : Nat) : CoreSt :=
  let w : BitVec 32 := if l.signed then BitVec.ofInt 32 (sx (8 * l.size) v) else BitVec.ofNat 32 v
  if l.fp then x.fW l.rd w else x.gW l.rd w

/-- A TCM word range under an uncorrectable error raises ECC (R156). -/
def tcmEcc (s : State) (c a : Nat) : SpRes := .exc (s.raise SPIRE_ECC_UNCORR c) X_ECC E_ECC (some a) false

/-- A load (R182). -/
def loadInstr (s : State) (c : Fin 16) (i : Instr) (form : Form) (rs1 : BitVec 5) (imm : BitVec 16) (n : Nat) (signed : Bool)
    (rd : BitVec 5) (fp : Bool) : Out :=
  .next (spire s c i false fun s x =>
    let ea := effAddr x rs1 imm
    let a := physAddr x form ea
    let l : LoadReq := ⟨a, n, signed, rd.toNat, fp⟩
    match accessFault x form false ea n with
    | some (code, addr) => .exc s code 0 (some addr) false
    | none =>
      if ownTcm a then
        let off := a - TCM_BASE
        if x.tcmFails off n then tcmEcc s c a
        else
          let s := tcmCorrect s c off n
          .done (s.updCore c fun x => x.takeLoad l (x.tcmLe off n))
      else .hold (s.setCore c { x with wait := some (.load l) }))

/-- A store (R157, R182): into TCM at once, else into the write buffer; a full buffer stalls the core. A store of less than a TCM
word reads the word first (R156; log 113). -/
def storeInstr (s : State) (c : Fin 16) (i : Instr) (form : Form) (rs1 : BitVec 5) (imm : BitVec 16) (n : Nat)
    (val : CoreSt → BitVec 32) : Out :=
  .next (spire s c i false fun s x =>
    let ea := effAddr x rs1 imm
    let a := physAddr x form ea
    let v := (val x).toNat % 2 ^ (8 * n)
    match accessFault x form true ea n with
    | some (code, addr) => .exc s code 0 (some addr) false
    | none =>
      if ownTcm a then
        let off := a - TCM_BASE
        if x.tcmFails off n && n != 4 then tcmEcc s c a
        else
          let s := if n = 4 then s else tcmCorrect s c off n
          .done (s.updCore c fun x => x.tcmPut off n v)
      else
        let b : BufStore := ⟨a, n, v, x.task⟩
        if x.buf.length < 4 then .done (s.setCore c { x with buf := x.buf ++ [b] })
        else .hold (s.setCore c { x with wait := some (.store b) }))

/-- LDB (R181). -/
def execSpLdb (c : Fin 16) (form : Form) (rd rs1 : BitVec 5) (imm : BitVec 16) (s : State) : Out :=
  loadInstr s c (.spLdb c form rd rs1 imm) form rs1 imm 1 true rd false

/-- LDBU (R181). -/
def execSpLdbu (c : Fin 16) (form : Form) (rd rs1 : BitVec 5) (imm : BitVec 16) (s : State) : Out :=
  loadInstr s c (.spLdbu c form rd rs1 imm) form rs1 imm 1 false rd false

/-- LDH (R181). -/
def execSpLdh (c : Fin 16) (form : Form) (rd rs1 : BitVec 5) (imm : BitVec 16) (s : State) : Out :=
  loadInstr s c (.spLdh c form rd rs1 imm) form rs1 imm 2 true rd false

/-- LDHU (R181). -/
def execSpLdhu (c : Fin 16) (form : Form) (rd rs1 : BitVec 5) (imm : BitVec 16) (s : State) : Out :=
  loadInstr s c (.spLdhu c form rd rs1 imm) form rs1 imm 2 false rd false

/-- LDW (R181). -/
def execSpLdw (c : Fin 16) (form : Form) (rd rs1 : BitVec 5) (imm : BitVec 16) (s : State) : Out :=
  loadInstr s c (.spLdw c form rd rs1 imm) form rs1 imm 4 false rd false

/-- FLW (R181). -/
def execSpFlw (c : Fin 16) (form : Form) (rd rs1 : BitVec 5) (imm : BitVec 16) (s : State) : Out :=
  loadInstr s c (.spFlw c form rd rs1 imm) form rs1 imm 4 false rd true

/-- STB (R181). -/
def execSpStb (c : Fin 16) (form : Form) (rd rs1 : BitVec 5) (imm : BitVec 16) (s : State) : Out :=
  storeInstr s c (.spStb c form rd rs1 imm) form rs1 imm 1 fun x => x.gR rd.toNat

/-- STH (R181). -/
def execSpSth (c : Fin 16) (form : Form) (rd rs1 : BitVec 5) (imm : BitVec 16) (s : State) : Out :=
  storeInstr s c (.spSth c form rd rs1 imm) form rs1 imm 2 fun x => x.gR rd.toNat

/-- STW (R181). -/
def execSpStw (c : Fin 16) (form : Form) (rd rs1 : BitVec 5) (imm : BitVec 16) (s : State) : Out :=
  storeInstr s c (.spStw c form rd rs1 imm) form rs1 imm 4 fun x => x.gR rd.toNat

/-- FSW (R181). -/
def execSpFsw (c : Fin 16) (form : Form) (rd rs1 : BitVec 5) (imm : BitVec 16) (s : State) : Out :=
  storeInstr s c (.spFsw c form rd rs1 imm) form rs1 imm 4 fun x => x.fR rd.toNat

end Sys2Proof.Machine
end

