-- ==== Sys2Proof/Machine/SpireBus.lean ====
section
/-!
DEFINITION. The fabric side of a Spire core (R28, R157, R158, R182, R186): stores leave the write buffer in program order,
loads return, and the core that waited on them continues.
-/
namespace Sys2Proof.Machine

/-- A store takes effect at its target (R157). The answer to it reaches no register: the ERR of the target holds a refusal
(R28). -/
def commitStore (s : State) (c : Fin 16) (b : BufStore) : State :=
  { busWrite s (.core c b.task) b.addr b.size b.val with reply := s.reply }

/-- What a core waits for at its write buffer once an entry has left it (R157): a stalled store enters the buffer, a FENCE
ends when the buffer is empty. -/
def bufferMoved (s : State) (c : Fin 16) : State :=
  let x := s.core c
  match x.wait with
  | some (.store b) => if x.buf.length < 4 then resume (s.setCore c { x with buf := x.buf ++ [b] }) c else s
  | some .fence => if x.buf.isEmpty then resume s c else s
  | _ => s

/-- The oldest store of a core's write buffer commits (R157). -/
def storeCommit (s : State) (c : Fin 16) : State :=
  match (s.core c).buf with
  | [] => s
  | b :: rest => bufferMoved (commitStore (s.updCore c fun x => { x with buf := rest }) c b) c

/-- An exception of a load in progress: the wait ends and XPC holds the load (R161, R182). -/
def loadExc (s : State) (c code stat a : Nat) : State :=
  let s := s.updCore c fun x => { x with wait := none }
  atBoundary (syncExc s c code stat (s.core c).pc (some a)) c

/-- The data of a load return (R28, R158, R182, R221): the stalled core continues, or takes ECC or ACCESS. A load issues only
once the write buffer is empty. A refused pop returns 0 (R248, log 119). -/
def loadReturn (s : State) (c : Fin 16) : State :=
  let x := s.core c
  match x.wait with
  | some (.load l) =>
    if !x.buf.isEmpty then s
    else
      match busRead s (.core c false) l.addr l.size with
      | (s, .ok v) => resume (s.updCore c fun x => x.takeLoad l v) c
      | (s, .no _) => resume (s.updCore c fun x => x.takeLoad l 0) c
      | (s, .ecc _) => loadExc s c X_ECC E_ECC l.addr
      | (s, .bus) => loadExc s c X_ACCESS E_VALUE l.addr
  | _ => s

/-- LAWWT ends on the first CORE edge after its list is done (R186). -/
def lawwtRelease (s : State) (c : Fin 16) : State :=
  match (s.core c).wait with
  | some (.lawwt k) => if listActive s k then s else resume s c
  | _ => s

end Sys2Proof.Machine
end

