-- ==== Sys2Proof/Machine/CmdCore.lean ====
section
/-!
DEFINITION. Events and registers of the Spire cores (R156 to R171, R186, R244, R391): one meaning for each command or event.
-/
namespace Sys2Proof.Machine

/-- INTERRUPT_TAKEN (R164). -/
def execInterruptTaken (c : Fin 16) (s : State) : Out := .next (onFab s fun s => takeInterrupt s c)

/-- MSG_EXCEPTION (R161). -/
def execMsgException (c : Fin 16) (s : State) : Out := .next (onFab s fun s => takeMessage s c)

/-- WAITT_RELEASE (R166). -/
def execWaittRelease (s : State) : Out := .next (onFab s waittRelease)

/-- BAR_RELEASE (R167). -/
def execBarRelease (mask : BitVec 16) (s : State) : Out := .next (onFab s fun s => barRelease s mask.toNat)

/-- BAR_TIMEOUT (R167). -/
def execBarTimeout (c : Fin 16) (s : State) : Out := .next (onFab s fun s => barTimeout s c)

/-- MESSAGE_ARRIVAL (R168). -/
def execMessageArrival (c : Fin 16) (s : State) : Out := .next (onFab s fun s => messageArrives s c)

/-- RECV_RELEASE (R168). -/
def execRecvRelease (c : Fin 16) (s : State) : Out := .next (onFab s fun s => recvRelease s c)

/-- STORE_COMMIT (R157). -/
def execStoreCommit (c : Fin 16) (s : State) : Out := .next (onFab s fun s => storeCommit s c)

/-- LOAD_RETURN (R158). -/
def execLoadReturn (c : Fin 16) (s : State) : Out := .next (onFab s fun s => loadReturn s c)

/-- LAWWT_RELEASE (R186). -/
def execLawwtRelease (c : Fin 16) (s : State) : Out := .next (onFab s fun s => lawwtRelease s c)

/-- LOCK_GRANT (R244). -/
def execLockGrant (t : Fin 64) (s : State) : Out := .next (onFab s fun s => lockGrant s t)

/-- SPIRE_RUN (R391). -/
def execSpireRun (req : Req) (c : Fin 16) (s : State) : Out := .next (bitCmd s req .spire c 0x000 1)

/-- SPIRE_HALT (R171). -/
def execSpireHalt (req : Req) (c : Fin 16) (s : State) : Out := .next (bitCmd s req .spire c 0x000 2)

/-- SPIRE_TCM_INIT (R171). -/
def execSpireTcmInit (req : Req) (c : Fin 16) (s : State) : Out := .next (bitCmd s req .spire c 0x000 4)

/-- SPIRE_TCM_INIT_DONE (R170). -/
def execSpireTcmInitDone (c : Fin 16) (s : State) : Out := .next (onFab s fun s => tcmInitDone s c)

/-- SPIRE_LOAD_DATA (R171). -/
def execSpireLoadData (req : Req) (c : Fin 16) (write : Bool) (data : BitVec 32) (s : State) : Out :=
  .next (if write then wordCmd s req .spire c 0x014 data.toNat 0xFFFFFFFF else readCmd s req .spire c 0x014)

/-- SPIRE_MBOX_SEND (R171). -/
def execSpireMboxSend (req : Req) (c : Fin 16) (data : BitVec 32) (s : State) : Out :=
  .next (wordCmd s req .spire c 0x01C data.toNat 0xFFFFFFFF)

end Sys2Proof.Machine
end

