-- ==== Sys2Proof/Machine/CmdFabric.lean ====
section
/-!
DEFINITION. Accesses to the fabric (R8, R10, R28, R434): one meaning for each command or event.
-/
namespace Sys2Proof.Machine

/-- An address of an ERR register (R10): offset 0x0F0 of a block, SYS.CSE_ERR, SYS.LDG_ERR. -/
def errWord (a : Nat) : Bool :=
  match target a with
  | .reg b _ off => off == 0x0F0 || (b == .sys && (off == 0x1F0 || off == 0x3F0))
  | _ => false

/-- An address that no powered block answers (R28). -/
def absent (s : State) (a : Nat) : Bool := target a == .none || !(powered s (target a))

/-- An access to such an address (R28): a core's read takes ACCESS with E_VALUE, the other requesters have their report. -/
def absentAccess (s : State) (req : Req) (a : Nat) (write : Bool) : State :=
  let s := busError s req write a
  match req with
  | .core c _ => if write || s.on SPIRE_STATUS_HALTED c then s else loadExc s c X_ACCESS E_VALUE a
  | _ => s

/-- REGISTER_WRITE (R8). -/
def execRegisterWrite (req : Req) (addr : BitVec 40) (data : BitVec 32) (s : State) : Out :=
  .next (access s fun s => if addr.toNat % 4 = 0 then busWrite s req addr.toNat 4 data.toNat else busError s req true addr.toNat)

/-- ERR_CLEAR (R10). -/
def execErrClear (req : Req) (addr : BitVec 40) (s : State) : Out :=
  .next (access s fun s =>
    if errWord addr.toNat then busWrite s req addr.toNat 4 (2 ^ 30) else s)

/-- UNMAPPED_ACCESS (R28). -/
def execUnmappedAccess (req : Req) (addr : BitVec 40) (write : Bool) (_size : Fin 4) (_data : BitVec 64) (s : State) : Out :=
  .next (access s fun s =>
    if absent s addr.toNat then absentAccess s req addr.toNat write else s)

/-- HI_WORD_LATCH_READ (R434). -/
def execHiWordLatchRead (req : Req) (addr : BitVec 40) (s : State) : Out :=
  .next (access s fun s => readAnswer s req (addr.toNat - addr.toNat % 4) 4)

end Sys2Proof.Machine
end

