-- ==== Sys2Proof/Machine/CmdKeep.lean ====
section
/-!
DEFINITION. Keep (R345 to R358): one meaning for each command or event.
-/
namespace Sys2Proof.Machine

/-- Keep runs on its own clock (R345, R359): not in Sleep or Hibernate, nor while a reset is asserted. -/
def keepUp (s : State) : Bool := s.rst.asserted.isNone && !s.lant.held && decide (powerState s ≤ 2)

/-- An event in Keep. -/
def onKeep (s : State) (f : State → State) : State := if keepUp s then f s else s

/-- A write of a Keep register: the SAFETY port reaches Keep whatever FAB does. -/
def keepCmd (s : State) (req : Req) (w data m : Nat) : State :=
  if !(mapped .keep w) then onKeep s fun s => busError s req true (Blk.keep.inst 0 + w)
  else if req = .safety then onKeep s fun s => regWrite s req .keep 0 w data m
  else wordCmd s req .keep 0 w data m

/-- A relay driver's switches opened in turn, with readback (R353): a failure is cause 5. -/
def relayTest (s : State) (good : Bool) : State := if good then s else safeFault s 5

/-- A test stimulus behind an input filter (R353): a failure is cause 7. -/
def inputTest (s : State) (good : Bool) : State := if good then s else safeFault s 7

/-- A failed check of R353, causes 1 to 8. -/
def checkFailed (s : State) (cause : Nat) : State := if 1 ≤ cause && cause ≤ 8 then safeFault s cause else s

/-- KEEP_DEMAND (R347). -/
def execKeepDemand (mask : BitVec 8) (s : State) : Out := .next (onKeep s fun s => keepDemand s mask.toNat)

/-- KEEP_ACK_PULSE (R346). -/
def execKeepAckPulse (i : Fin 8) (ms : BitVec 16) (s : State) : Out := .next (onKeep s fun s => keepAck s i ms.toNat)

/-- KEEP_PAIR_FAULT (R346). -/
def execKeepPairFault (pair : Fin 4) (s : State) : Out := .next (onKeep s fun s => keepPairFault s pair)

/-- KEEP_RELEASE (R348). -/
def execKeepRelease (req : Req) (s : State) : Out := .next (keepCmd s req 0x000 1 1)

/-- KEEP_SPW_REQ (R349). -/
def execKeepSpwReq (req : Req) (s : State) : Out := .next (keepCmd s req 0x000 2 2)

/-- KEEP_SGR_REQ (R358). -/
def execKeepSgrReq (req : Req) (s : State) : Out := .next (keepCmd s req 0x000 4 4)

/-- KEEP_RAMP_COMPARE (R349). -/
def execKeepRampCompare (s : State) : Out := .next (onKeep s keepCompare)

/-- KEEP_RAMP_TIMEOUT (R349). -/
def execKeepRampTimeout (s : State) : Out := .next (onKeep s keepRampTimeout)

/-- KEEP_FB_DISCREPANCY (R351). -/
def execKeepFbDiscrepancy (m : Fin 4) (s : State) : Out := .next (onKeep s fun s => keepDiscrepancy s m)

/-- KEEP_FOLLOW_TIMEOUT (R351). -/
def execKeepFollowTimeout (m : Fin 4) (s : State) : Out := .next (onKeep s fun s => keepFollow s m)

/-- SAFE_FAULT (R353). -/
def execSafeFault (cause : BitVec 4) (s : State) : Out := .next (onKeep s fun s => checkFailed s cause.toNat)

/-- KEEP_RELAY_TEST (R353). -/
def execKeepRelayTest (_index : Fin 8) (good : Bool) (s : State) : Out := .next (onKeep s fun s => relayTest s good)

/-- KEEP_INPUT_TEST (R353). -/
def execKeepInputTest (_index : Fin 8) (good : Bool) (s : State) : Out := .next (onKeep s fun s => inputTest s good)

/-- KEEP_CONFIG_CHECK (R345). -/
def execKeepConfigCheck (s : State) : Out := .next (onKeep s keepConfigCheck)

/-- KEEP_CONFIG_WRITE (R355). -/
def execKeepConfigWrite (req : Req) (off : BitVec 12) (data : BitVec 32) (s : State) : Out :=
  .next (keepCmd s req (off.toNat - off.toNat % 4) data.toNat 0xFFFFFFFF)

/-- KEEP_UNLOCK (R356). -/
def execKeepUnlock (req : Req) (s : State) : Out := .next (keepCmd s req 0x210 1 1)

/-- KEEP_COMMIT (R356). -/
def execKeepCommit (req : Req) (s : State) : Out := .next (keepCmd s req 0x210 2 2)

/-- KEEP_DISCARD (R356). -/
def execKeepDiscard (req : Req) (s : State) : Out := .next (keepCmd s req 0x210 4 4)

/-- KEEP_LOCK (R358). -/
def execKeepLock (req : Req) (s : State) : Out := .next (keepCmd s req 0x210 8 8)

/-- KEEP_SETPASS (R356). -/
def execKeepSetpass (req : Req) (s : State) : Out := .next (keepCmd s req 0x210 16 16)

/-- KEEP_LOG_CLEAR (R357). -/
def execKeepLogClear (req : Req) (s : State) : Out := .next (keepCmd s req 0x210 32 32)

/-- KEEP_UNLOCK_EXPIRY (R356). -/
def execKeepUnlockExpiry (s : State) : Out := .next (onKeep s keepUnlockExpiry)

/-- KEEP_LOCKOUT_END (R356). -/
def execKeepLockoutEnd (s : State) : Out := .next (onKeep s keepLockoutEnd)

/-- KEEP_FEEDBACK_CHANGE (R351). -/
def execKeepFeedbackChange (m : Fin 4) (no : Bool) (nc : Bool) (s : State) : Out :=
  .next (onKeep s fun s => keepFeedback s m no nc)

/-- KEEP_DEMAND_RELEASE (R346). -/
def execKeepDemandRelease (mask : BitVec 8) (s : State) : Out := .next (onKeep s fun s => keepDemandEnd s mask.toNat)

end Sys2Proof.Machine
end

