-- ==== Sys2Proof/Machine/CmdLantern.lean ====
section
/-!
DEFINITION. Lantern (R361 to R370): one meaning for each command or event.
-/
namespace Sys2Proof.Machine

/-- LANTERN_WAKE_REQUEST (R364). -/
def execLanternWakeRequest (req : Req) (s : State) : Out := .next (wordCmd s req .lantern 0 0x000 0 7)

/-- LANTERN_STATE_REQUEST (R361). -/
def execLanternStateRequest (req : Req) (st : Fin 5) (s : State) : Out := .next (wordCmd s req .lantern 0 0x000 st 7)

/-- LANTERN_AUTO_REQUEST (R365). -/
def execLanternAutoRequest (req : Req) (s : State) : Out := .next (wordCmd s req .lantern 0 0x000 7 7)

/-- ENTRY_STEP_DONE (R362). -/
def execEntryStepDone (good : Bool) (s : State) : Out := .next (entryStep s good)

/-- LANTERN_EXIT_COMPLETE (R367). -/
def execLanternExitComplete (ticks : BitVec 64) (s : State) : Out := .next (exitComplete s ticks.toNat)

/-- LWAKE_EDGE (R366). -/
def execLwakeEdge (pin : Fin 4) (rise : Bool) (ticks : BitVec 64) (s : State) : Out :=
  .next (lwakeEdge s pin rise ticks.toNat)

/-- LANTERN_ALARM (R366). -/
def execLanternAlarm (s : State) : Out := .next (lanternAlarm s)

/-- WAKE_PORT_MATCH (R368). -/
def execWakePortMatch (read : Bool) (addr : BitVec 7) (ticks : BitVec 64) (s : State) : Out :=
  .next (wakePort s read addr.toNat ticks.toNat)

/-- VAON_LOW (R370). -/
def execVaonLow (mv : BitVec 12) (wasAbove : Bool) (s : State) : Out := .next (vaonLevel s mv.toNat wasAbove)

/-- BROWN_OUT (R370). -/
def execBrownOut (s : State) : Out := .next (brownOut s)

/-- BROWN_OUT_RELEASE (R370). -/
def execBrownOutRelease (mv : BitVec 12) (s : State) : Out := .next (brownOutRelease s mv.toNat)

/-- OSC_STOP (R370). -/
def execOscStop (s : State) : Out := .next (oscStopped s)

/-- HOST_INBAND_WAKE (R366). -/
def execHostInbandWake (s : State) : Out := .next (latchWake s 6)

end Sys2Proof.Machine
end

