-- ==== Sys2Proof/Machine/CmdLaw.lean ====
section
/-!
DEFINITION. The Law engine and its test signal (R136 to R151): one meaning for each command or event.
-/
namespace Sys2Proof.Machine

/-- LAW_LIST_START (R145). -/
def execLawListStart (s : State) : Out := .next (onFab s lawListStart)

/-- LAW_ENTRY_ISSUE (R145). -/
def execLawEntryIssue (s : State) : Out := .next (onFab s lawEntryIssue)

/-- LAW_ENTRY_COMPLETE (R145). -/
def execLawEntryComplete (s : State) : Out := .next (onFab s lawEntryComplete)

/-- SLOT_INIT (R136). -/
def execSlotInit (req : Req) (i : Fin 1024) (typ : BitVec 4) (s : State) : Out :=
  .next (wordCmd s req .law 0 0x008 (i + 2 ^ 16 * typ.toNat) 0xF03FF)

/-- LAW_INIT (R151). -/
def execLawInit (req : Req) (s : State) : Out := .next (bitCmd s req .law 0 0x000 2)

/-- LAW_INIT_DONE (R151). -/
def execLawInitDone (s : State) : Out := .next (onFab s lawInitDone)

/-- TEST_START (R148). -/
def execTestStart (req : Req) (s : State) : Out := .next (bitCmd s req .law 0 0x010 (2 ^ 24))

/-- TEST_STOP (R148). -/
def execTestStop (req : Req) (s : State) : Out := .next (bitCmd s req .law 0 0x010 (2 ^ 25))

/-- TEST_END (R148). -/
def execTestEnd (s : State) : Out := .next (onFab s testEnd)

end Sys2Proof.Machine
end

