-- ==== Sys2Proof/Machine/CmdLease.lean ====
section
/-!
DEFINITION. The leases and the ledger (R198 to R215): one meaning for each command or event.
-/
namespace Sys2Proof.Machine

/-- PERIOD_CLOSE of a context on the edge of the present tick (R201, R202): an open period that is due closes, and its page is
submitted. On another edge nothing closes before the next tick. -/
def periodClose (s : State) (n : Nat) : State :=
  if s.on LEASE_STATUS_OPEN n && s.pipe.running && s.fab == s.pipe.tickEdge then offerPages (submitPages (closeAt s n s.tickNs).1) else s

/-- LEASE_EN_WRITE (R200). -/
def execLeaseEnWrite (req : Req) (n : Fin 256) (set : Bool) (s : State) : Out :=
  .next (fieldCmd s req LEASE_CTRL_EN n 0 (b2n set))

/-- LEASE_SUSPEND (R198). -/
def execLeaseSuspend (req : Req) (n : Fin 256) (set : Bool) (s : State) : Out :=
  .next (fieldCmd s req LEASE_CTRL_SUSPEND n 0 (b2n set))

/-- CLOSE_NOW (R200). -/
def execCloseNow (req : Req) (n : Fin 256) (s : State) : Out := .next (bitCmd s req .lease n 0x000 8)

/-- CURVE_LOAD (R215). -/
def execCurveLoad (req : Req) (n : Fin 256) (s : State) : Out := .next (bitCmd s req .lease n 0x000 16)

/-- PERIOD_CLOSE (R201). -/
def execPeriodClose (n : Fin 256) (s : State) : Out := .next (onFab s fun s => periodClose s n)

/-- PAGE_SIGN_COMPLETE (R206). -/
def execPageSignComplete (s : State) : Out := .next (onFab s pageSign)

/-- PAGE_RESEND (R208). -/
def execPageResend (s : State) : Out := .next (onFab s pageResend)

/-- LDG_ACK (R209). -/
def execLdgAck (req : Req) (data : BitVec 32) (s : State) : Out :=
  .next (wordCmd s req .sys 0 0x314 data.toNat 0xFFFFFFFF)

/-- LDG_ACK_RSP_READ (R209). -/
def execLdgAckRspRead (req : Req) (s : State) : Out := .next (readCmd s req .sys 0 0x320)

/-- CHECKPOINT_TIMER (R212). -/
def execCheckpointTimer (s : State) : Out := .next (onFab s ckptTimer)

/-- CKPT_NOW (R212). -/
def execCkptNow (req : Req) (s : State) : Out := .next (bitCmd s req .sys 0 0x300 4)

/-- CHECKPOINT_COMPLETE (R212). -/
def execCheckpointComplete (good : Bool) (s : State) : Out := .next (onFab s fun s => ckptComplete s good)

/-- LDG_RESTORE (R214). -/
def execLdgRestore (req : Req) (s : State) : Out := .next (bitCmd s req .sys 0 0x300 2)

/-- RESTORE_COMPLETE (R214). -/
def execRestoreComplete (s : State) : Out := .next (onFab s restoreComplete)

end Sys2Proof.Machine
end

