-- ==== Sys2Proof/WellFormed.lean ====
section
/-!
DEFINITION. Well-formed commands: what an operand with a structure of its own can be (log 9). Every other operand is well formed
by its type.
-/
namespace Sys2Proof

open Sys2Proof.Machine

/-- A number of a given width. -/
def fits (w n : Nat) : Bool := decide (n < 2 ^ w)

/-- An ASDU of a frame that its stream has accepted (R266). -/
def asduWf (a : Asdu) : Bool :=
  fits 16 a.smpCnt && fits 8 a.smpSynch && a.chans.all (fun c => fits 32 c.1 && fits 32 c.2)

/-- The status of a slot (R38). -/
def statWf (t : Stat) : Bool :=
  fits 16 t.vcap && fits 16 t.vpack && fits 16 t.ipack && fits 16 t.tempPack && fits 16 t.tempSw && fits 3 t.stateNow
    && fits 8 t.fault && fits 4 t.crcErrs && fits 4 t.alive && fits 16 t.sampleAge

/-- Forwarded status of a ring (R329): positions 0 to 31. -/
def slotsWf (slots : List (Nat × Stat)) : Bool := slots.all (fun p => fits 5 p.1 && statWf p.2)

/-- A CYCLE message (R321, R328, R337, R338, R341). -/
def cycleMsgWf (m : CycleMsg) : Bool :=
  fits 32 m.count && fits 16 m.nextLen && fits 16 m.offset && fits 16 m.epoch && decide (m.state ≤ 4) && fits 32 m.health
    && fits 128 m.full && fits 128 m.held

/-- A SUMS record (R324). -/
def sumWf (r : SumRec) : Bool := fits 3 r.arm && r.bytes.length == 32 && r.bytes.all (fits 8)

/-- A measured value of the holder (R330). -/
def measWf : Meas → Bool
  | .adc k e value _ run => fits 2 k && fits 4 e && fits 24 value && fits 5 run
  | .sv i asdus _ _ => fits 3 i && !asdus.isEmpty && asdus.all asduWf

/-- An item of a chase copy (R340). -/
def chaseWf : ChaseItem → Bool
  | .entry c b => fits 12 c && b.length == 128 && b.all (fits 8)
  | .arm k ws => fits 3 k && ws.all (fits 32)
  | .sys ws => ws.all (fits 32)
  | .cseArm ws => ws.all (fits 32)
  | .lease n ws => fits 8 n && ws.all (fits 32)
  | .slot i ws => fits 10 i && ws.length == 16 && ws.all (fits 32)
  | .lists ws => ws.all (fits 32)
  | .xf ws => ws.all (fits 32)
  | .journal r _ => decide (r < 3)

/-- A command is well formed. -/
def Instr.wf : Instr → Bool
  | .cycleMessageReceive _ msg => cycleMsgWf msg
  | .sumsReceive _ recs => recs.all sumWf
  | .statusForwardReceive _ slots => slotsWf slots
  | .twinMeasDelivery values => values.all measWf
  | .chaseCopyReceive item => chaseWf item
  | _ => true

end Sys2Proof
end

