-- ==== Sys2Proof/Machine/CmdMeas.lean ====
section
/-!
DEFINITION. Converters, sampled values, filters and Oculus (R258 to R285): one meaning for each command or event.
-/
namespace Sys2Proof.Machine

/-- ADC_TRIGGER (R259). -/
def execAdcTrigger (k : Fin 4) (s : State) : Out := .next (onFab s fun s => adcTrigger s k)

/-- ADC_RUN_START (R258). -/
def execAdcRunStart (k : Fin 4) (s : State) : Out := .next (onFab s fun s => adcRunStart s k)

/-- ADC_ENTRY_COMPLETE (R262). -/
def execAdcEntryComplete (k : Fin 4) (volts : List (Vector Int 9)) (s : State) : Out :=
  .next (onFab s fun s => adcEntryComplete s k volts)

/-- PLAUS_FLAG (R264). -/
def execPlausFlag (pair : Fin 2) (s : State) : Out := .next (onFab s fun s => plausFlag s (2 * pair))

/-- ADC_ABORT (R262). -/
def execAdcAbort (req : Req) (k : Fin 4) (s : State) : Out := .next (bitCmd s req .adc k 0x000 2)

/-- ADC_SWTRIG (R259). -/
def execAdcSwtrig (req : Req) (k : Fin 4) (s : State) : Out := .next (bitCmd s req .adc k 0x000 4)

/-- ADC_DISABLE (R262). -/
def execAdcDisable (req : Req) (k : Fin 4) (s : State) : Out := .next (fieldCmd s req ADC_CTRL_EN k 0 0)

/-- SV_FRAME_RECEIVE (R267). -/
def execSvFrameReceive (port : Fin 4) (octets : List (BitVec 8)) (cut : Bool) (s : State) : Out :=
  .next (onFab s fun s => svReceive s port octets cut)

/-- SV_STALE (R269). -/
def execSvStale (i : Fin 8) (s : State) : Out := .next (onFab s fun s => svStale s i s.tickNs)

/-- SV_LOST (R269). -/
def execSvLost (i : Fin 8) (s : State) : Out := .next (onFab s fun s => tripUpdate (svLost s i s.tickNs) s.fab)

/-- SV_LOST_CLEAR (R269). -/
def execSvLostClear (req : Req) (i : Fin 8) (s : State) : Out := .next (bitCmd s req .sv i 0x030 2)

/-- SV_CLR_STATS (R271). -/
def execSvClrStats (req : Req) (i : Fin 8) (s : State) : Out := .next (bitCmd s req .sv i 0x000 2)

/-- FILT_SAMPLE_ARRIVAL (R274). -/
def execFiltSampleArrival (k : Fin 16) (s : State) : Out := .next (onFab s fun s => filtSample s k)

/-- FILT_JOB_START (R274). -/
def execFiltJobStart (s : State) : Out := .next (onFab s filtJobStart)

/-- FILT_JOB_END (R274). -/
def execFiltJobEnd (s : State) : Out := .next (onFab s filtJobEnd)

/-- FILT_SWAP (R276). -/
def execFiltSwap (req : Req) (k : Fin 16) (s : State) : Out := .next (bitCmd s req .filt k 0x000 2)

/-- FILT_PRESET (R277). -/
def execFiltPreset (req : Req) (k : Fin 16) (s : State) : Out := .next (bitCmd s req .filt k 0x000 4)

/-- FILT_IN_WRITE (R272). -/
def execFiltInWrite (req : Req) (k : Fin 16) (data : BitVec 32) (s : State) : Out :=
  .next (wordCmd s req .filt k 0x034 data.toNat 0xFFFFFFFF)

/-- FILT_TIMEOUT (R277). -/
def execFiltTimeout (k : Fin 16) (s : State) : Out := .next (onFab s fun s => filtTimeout s k)

/-- COEFFICIENT_WRITE (R275). -/
def execCoefficientWrite (req : Req) (addr : BitVec 40) (data : BitVec 32) (s : State) : Out :=
  .next (access s fun s =>
    if inCoef addr.toNat && addr.toNat % 4 = 0 then busWrite s req addr.toNat 4 data.toNat else s)

/-- OCULUS_STROBE (R281). -/
def execOculusStrobe (s : State) : Out := .next (onFab s ocStrobe)

/-- OCULUS_RECORD_CLOSE (R282). -/
def execOculusRecordClose (s : State) : Out := .next (onFab s ocClose)

/-- OCULUS_RECORD_WRITE (R283). -/
def execOculusRecordWrite (s : State) : Out := .next (onFab s ocWrite)

/-- OCULUS_ARM (R285). -/
def execOculusArm (req : Req) (s : State) : Out := .next (bitCmd s req .oculus 0 0x000 1)

/-- OCULUS_STOP (R285). -/
def execOculusStop (req : Req) (s : State) : Out := .next (bitCmd s req .oculus 0 0x000 2)

/-- OCULUS_FORCE (R284). -/
def execOculusForce (req : Req) (s : State) : Out := .next (bitCmd s req .oculus 0 0x000 4)

end Sys2Proof.Machine
end

