-- ==== Sys2Proof/Machine/CmdPipe.lean ====
section
/-!
DEFINITION. The control cycle and the rings (R14 to R26, R43, R55 to R63, R89 to R108): one meaning for each command or event.
-/
namespace Sys2Proof.Machine

/-- The bytes of an operand as numbers. -/
def nats (bs : List (BitVec 8)) : List Nat := bs.map (·.toNat)

/-- CYCLE_TICK (R25). -/
def execCycleTick (s : State) : Out := .next (onFab s cycleTick)

/-- PIPE_END (R25). -/
def execPipeEnd (s : State) : Out := .next (onFab s pipeEnd)

/-- RET_DEADLINE (R17). -/
def execRetDeadline (s : State) : Out := .next (onFab s retDeadline)

/-- CSE_COMPLETION (R18). -/
def execCseCompletion (s : State) : Out := .next (onFab s cseCompletion)

/-- N_CUTOFF (R94). -/
def execNCutoff (s : State) : Out := .next (onFab s nCutoff)

/-- BUDGET_REFILL (R89). -/
def execBudgetRefill (k : Fin 8) (s : State) : Out := .next (onFab s fun s => budgetRefill s k)

/-- SELECTORS_DONE (R94). -/
def execSelectorsDone (s : State) : Out := .next (onFab s selectorsDone)

/-- GATE_STAGE_DONE (R104). -/
def execGateStageDone (s : State) : Out := .next (onFab s gateStageEnd)

/-- LAUNCH_SETUP_POINT (R108); `ready` names the rings already assembled whole where the gate command stage is not done (R22). -/
def execLaunchSetupPoint (ready : BitVec 128) (s : State) : Out := .next (onFab s fun s => launchSetup s ready.toNat)

/-- OVR_LIMIT_REACHED (R22). -/
def execOvrLimitReached (r : Fin 128) (s : State) : Out := .next (onFab s fun s => ovrLimit s r)

/-- PIPE_OVR_CLEAR (R26). -/
def execPipeOvrClear (req : Req) (i : Fin 4) (mask : BitVec 32) (s : State) : Out :=
  .next (wordCmd s req .sys 0 (0x030 + 4 * i) mask.toNat 0xFFFFFFFF)

/-- OVR_BLOCK_CLEAR (R26). -/
def execOvrBlockClear (req : Req) (s : State) : Out := .next (bitCmd s req .sys 0 0x018 8)

/-- RING_FRAME_RECEIVE (R55). -/
def execRingFrameReceive (r : Fin 128) (edge : Nat) (blocks : List Block66) (s : State) : Out :=
  .next (onFab s fun s => ringFrame s r edge (arrivalOf blocks))

/-- RING_STALE (R56). -/
def execRingStale (r : Fin 128) (s : State) : Out := .next (onFab s fun s => ringStale s r)

/-- RING_LOST (R56). -/
def execRingLost (r : Fin 128) (s : State) : Out := .next (onFab s fun s => ringLost s r)

/-- RING_LOST_CLEAR (R56). -/
def execRingLostClear (req : Req) (r : Fin 128) (s : State) : Out := .next (bitCmd s req .ring r 0x008 4)

/-- RING_CLR_STATS (R62). -/
def execRingClrStats (req : Req) (r : Fin 128) (s : State) : Out := .next (bitCmd s req .ring r 0x000 4)

/-- RING_LOCK_LOST (R43). -/
def execRingLockLost (r : Fin 128) (s : State) : Out := .next (onFab s fun s => ringLock s r false)

/-- RING_LOCK_REGAINED (R43). -/
def execRingLockRegained (r : Fin 128) (s : State) : Out := .next (onFab s fun s => ringLock s r true)

/-- MGMT_REQ_PUSH (R63). -/
def execMgmtReqPush (req : Req) (r : Fin 128) (data : BitVec 32) (s : State) : Out :=
  .next (wordCmd s req .ring r 0x020 data.toNat 0xFFFFFFFF)

/-- MGMT_RSP_POP (R63). -/
def execMgmtRspPop (req : Req) (r : Fin 128) (s : State) : Out := .next (readCmd s req .ring r 0x024)

/-- MGMT_NOACK (R63). -/
def execMgmtNoack (r : Fin 128) (s : State) : Out := .next (onFab s fun s => mgmtNoack s r)

/-- MGMT_RESPONSE_RETURN (R63). -/
def execMgmtResponseReturn (r : Fin 128) (stat : BitVec 4) (data : BitVec 32) (noack : Bool) (s : State) : Out :=
  .next (onFab s fun s => mgmtReturn s r stat.toNat data.toNat noack)

end Sys2Proof.Machine
end

