-- ==== Sys2Proof/Machine/CmdMem.lean ====
section
/-!
DEFINITION. The memories, the journal and the scan engine (R218 to R235): one meaning for each command or event.
-/
namespace Sys2Proof.Machine

/-- SCRUB_READ (R222). -/
def execScrubRead (i : Fin 3) (s : State) : Out := .next (onFab s fun s => scrubRead s i)

/-- MARK_FAIL (R222). -/
def execMarkFail (req : Req) (c : Fin 2) (s : State) : Out := .next (bitCmd s req .memc c 0x000 8)

/-- MEMC_INIT (R233). -/
def execMemcInit (req : Req) (c : Fin 2) (s : State) : Out := .next (bitCmd s req .memc c 0x000 4)

/-- MEMC_INIT_DONE (R233). -/
def execMemcInitDone (c : Fin 2) (s : State) : Out := .next (onFab s fun s => memcInitDone s c)

/-- LOCAL_PREPARE_DONE (R229). -/
def execLocalPrepareDone (r : Fin 3) (s : State) : Out := .next (onFab s fun s => localPrepare s r)

/-- REMOTE_PREPARE (R229). -/
def execRemotePrepare (r : Fin 3) (jseq : BitVec 64) (key : BitVec 64) (epoch : BitVec 32) (unit : BitVec 2) (timeNs : BitVec 64) (payload : List (BitVec 8)) (s : State) : Out :=
  .next (onFab s fun s =>
    remotePrepare s r jseq.toNat key.toNat epoch.toNat unit.toNat timeNs.toNat (nats payload) (workOf r (nats payload)))

/-- PREPARED_RECEIVE (R229). -/
def execPreparedReceive (r : Fin 3) (jseq : BitVec 64) (s : State) : Out :=
  .next (onFab s fun s => preparedReceive s r jseq.toNat)

/-- JOURNAL_ACCEPT (R229). -/
def execJournalAccept (r : Fin 3) (s : State) : Out := .next (onFab s fun s => journalAccept s r)

/-- REMOTE_COMMIT (R229). -/
def execRemoteCommit (r : Fin 3) (jseq : BitVec 64) (s : State) : Out :=
  .next (onFab s fun s => remoteCommit s r jseq.toNat)

/-- PREPARE_TIMEOUT (R230). -/
def execPrepareTimeout (r : Fin 3) (jseq : BitVec 64) (s : State) : Out :=
  .next (onFab s fun s => prepareTimeout s r jseq.toNat)

/-- JOURNAL_RECOVER (R231). -/
def execJournalRecover (req : Req) (s : State) : Out := .next (bitCmd s req .journal 0 0x000 4)

/-- JOURNAL_RECOVERY_COMPLETE (R231). -/
def execJournalRecoveryComplete (held : List (Fin 3 × BitVec 64)) (s : State) : Out :=
  .next (onFab s fun s => recoveryComplete s (held.map fun h => (h.1.val, h.2.toNat)))

/-- JOURNAL_FORMAT (R232). -/
def execJournalFormat (req : Req) (s : State) : Out := .next (bitCmd s req .journal 0 0x000 2)

/-- USER_STORE (R226). -/
def execUserStore (req : Req) (addr : BitVec 40) (size : Fin 4) (val : BitVec 64) (s : State) : Out :=
  .next (access s fun s => if inUser addr.toNat then busWrite s req addr.toNat (2 ^ size.val) (val.toNat % 2 ^ (8 * 2 ^ size.val)) else s)

/-- SCAN_GO (R234). -/
def execScanGo (req : Req) (s : State) : Out := .next (bitCmd s req .scan 0 0x000 1)

/-- SCAN_ABORT (R235). -/
def execScanAbort (req : Req) (s : State) : Out := .next (bitCmd s req .scan 0 0x000 2)

/-- SCAN_DONE (R234). -/
def execScanDone (s : State) : Out := .next (onFab s scanFinish)

/-- SCAN_ECC_STOP (R234). -/
def execScanEccStop (s : State) : Out := .next (onFab s scanStop)

/-- DRAM_REFRESH (R218). -/
def execDramRefresh (c : Fin 2) (s : State) : Out := .next (onFab s fun s => dramRefresh s c)

end Sys2Proof.Machine
end

