-- ==== Sys2Proof/Machine/Serial.lean ====
section
/-!
DEFINITION. Register frames of the MAINT UART (R400) and transactions of the SAFETY port (R401). The UART address goes least
significant byte first (log 64); a frame or an offset that reaches no word answers E_VALUE.
-/
namespace Sys2Proof.Machine

/-- One aligned word read or written for a port, with its status and data in the answer. -/
def portWord (s : State) (req : Req) (op a data : Nat) : State :=
  if a % 4 != 0 then s.answer E_VALUE 0
  else if op = 1 then readAnswer s req a 4
  else if op = 2 then busWrite s req a 4 data
  else s.answer E_VALUE 0

/-- A register frame's length by OP, its CRC byte included (R400). -/
def uartLength (op : Nat) : Nat := if op = 2 then 12 else 8

/-- A register frame is whole: the byte 0x5A, a legal OP, its length and its CRC-8 (R400). -/
def uartWhole (b : List Nat) : Bool :=
  let op := byteAt b 1
  let n := uartLength op
  byteAt b 0 == 0x5A && (op == 1 || op == 2) && b.length == n && crc8 (b.take (n - 1)) == byteAt b (n - 1)

/-- The answer to a register frame: status, data, CRC-8 (R400). -/
def uartAnswer (s : State) : State :=
  let b := (s.reply.status % 256) :: leBytes 4 s.reply.data
  s.updPort (fun p => { p with uartOut := b ++ [crc8 b] })

/-- A register frame of the MAINT UART, with UART_MODE = 0 (R400, R402). -/
def uartFrame (s : State) (b : List Nat) : State :=
  if s.on PORT_CTRL_UART_MODE then s
  else uartAnswer (if uartWhole b then portWord s .maint (byteAt b 1) (leNat ((b.drop 2).take 5)) (le32At b 7)
    else s.answer E_VALUE 0)

/-- The answer to a SAFETY transaction: STAT, the offset, the data, CRC-8 (R401). -/
def safetyAnswer (s : State) (off : Nat) : State :=
  let b := (s.reply.status % 256) :: (beBytes 2 off ++ beBytes 4 s.reply.data)
  s.updPort (fun p => { p with safetyOut := b ++ [crc8 b] })

/-- A SAFETY transaction (R401): OP, offset, data and CRC-8, most significant bit first. -/
def safetyFrame (s : State) (b : List Nat) : State :=
  let off := beNat ((b.drop 1).take 2)
  let whole := b.length == 8 && crc8 (b.take 7) == byteAt b 7
  safetyAnswer (if whole && target (0x20030000 + off) != .none then
      portWord s .safety (byteAt b 0) (0x20030000 + off) (beNat ((b.drop 3).take 4))
    else s.answer E_VALUE 0) off

end Sys2Proof.Machine
end

