-- ==== Sys2Proof/Machine/CmdPort.lean ====
section
/-!
DEFINITION. The ports and the command interface (R398 to R412): one meaning for each command or event.
-/
namespace Sys2Proof.Machine

/-- The PCIe link has trained to L0 (R380, R403). -/
def linkTrained (s : State) : State := if s.rst.asserted.isNone then s.raise PORT_STATUS_LINK_UP else s

/-- HOST_LINK_EVENT (R403). -/
def execHostLinkEvent (down : Bool) (s : State) : Out := .next (onFab s fun s => hostEvent s down)

/-- HOST_DOORBELL (R398). -/
def execHostDoorbell (req : Req) (vec : BitVec 32) (s : State) : Out :=
  .next (wordCmd s req .port 0 0x00C vec.toNat 0xFFFFFFFF)

/-- CMD_TAIL_WRITE (R404). -/
def execCmdTailWrite (req : Req) (idx : BitVec 32) (s : State) : Out :=
  .next (wordCmd s req .port 0 0x018 idx.toNat 0xFFFFFFFF)

/-- CMD_ENTRY_READ (R405). -/
def execCmdEntryRead (s : State) : Out := .next (onFab s cmdEntryRead)

/-- COMPLETION_WRITE (R407). -/
def execCompletionWrite (s : State) : Out := .next (onFab s completionWrite)

/-- FW_DONE_WRITE (R409). -/
def execFwDoneWrite (req : Req) (data : BitVec 64) (s : State) : Out :=
  .next (wordCmd (wordCmd s req .port 0 0x048 (data.toNat % 2 ^ 32) 0xFFFFFFFF) req .port 0 0x04C (data.toNat / 2 ^ 32) 0xFFFFFFFF)

/-- STATION_FRAME_RECEIVE (R399). -/
def execStationFrameReceive (port : Fin 4) (frame : List (BitVec 8)) (ts : BitVec 64) (s : State) : Out :=
  .next (onFab s fun s => stationReceive s port ts.toNat (nats frame))

/-- STATION_FRAME_TRANSMIT (R399). -/
def execStationFrameTransmit (port : Fin 4) (s : State) : Out := .next (onFab s fun s => stationTransmit s port)

/-- UART_REGISTER_FRAME (R400). -/
def execUartRegisterFrame (bytes : List (BitVec 8)) (s : State) : Out :=
  .next (onFab s fun s => uartFrame s (nats bytes))

/-- SAFETY_TRANSACTION (R401). -/
def execSafetyTransaction (bytes : List (BitVec 8)) (s : State) : Out :=
  .next (onKeep s fun s => safetyFrame s (nats bytes))

/-- TEST_PORT_INSTRUCTION (R400). -/
def execTestPortInstruction (code : BitVec 4) (s : State) : Out := .next (testInstruction s code.toNat)

/-- STATION_LINK_CHANGE (R412). -/
def execStationLinkChange (port : Fin 4) (up : Bool) (s : State) : Out :=
  .next (onFab s fun s => stationLink s port up)

/-- HOST_LINK_UP (R380). -/
def execHostLinkUp (s : State) : Out := .next (onFab s linkTrained)

/-- UART_BYTE_RECEIVE (R400). -/
def execUartByteReceive (b : BitVec 8) (s : State) : Out := .next (onFab s fun s => uartByteIn s b.toNat)

/-- UART_BYTE_TRANSMIT (R400). -/
def execUartByteTransmit (s : State) : Out := .next (onFab s uartByteOut)

/-- PEER_FIRMWARE_PACKET_RECEIVE (R320). -/
def execPeerFirmwarePacketReceive (bytes : List (BitVec 8)) (s : State) : Out :=
  .next (onFab s fun s => peerPacketIn s (nats bytes))

/-- PEER_FIRMWARE_PACKET_SEND (R320). -/
def execPeerFirmwarePacketSend (s : State) : Out := .next (onFab s peerPacketOut)

end Sys2Proof.Machine
end

