-- ==== Sys2Proof/Machine/CmdPwm.lean ====
section
/-!
DEFINITION. The PWM pairs, the trip inputs and the driver bus (R289 to R305): one meaning for each command or event.
-/
namespace Sys2Proof.Machine

/-- PWM_RELOAD (R289). -/
def execPwmReload (n : Fin 12) (s : State) : Out := .next (onFab s fun s => pwmReload s n)

/-- PWM_CARRIER_CHANGE (R290). -/
def execPwmCarrierChange (n : Fin 12) (s : State) : Out := .next (onFab s fun s => pwmChange s n)

/-- PWM_TURN_ON (R291). -/
def execPwmTurnOn (n : Fin 12) (gfb : BitVec 2) (since : Nat) (s : State) : Out :=
  .next (onFab s fun s => pwmTurnOn s n gfb.toNat since)

/-- PWM_INTERLOCK_TIMEOUT (R291). -/
def execPwmInterlockTimeout (n : Fin 12) (gfb : BitVec 2) (since : Nat) (s : State) : Out :=
  .next (onFab s fun s => pwmTimeout s n gfb.toNat since)

/-- PWM_SHOOT (R295). -/
def execPwmShoot (n : Fin 12) (gfb : BitVec 2) (steady : Nat) (s : State) : Out :=
  .next (onFab s fun s => pwmShoot s n gfb.toNat steady)

/-- PWM_REFRESH_START (R293). -/
def execPwmRefreshStart (n : Fin 12) (s : State) : Out := .next (onFab s fun s => pwmRefreshStart s n)

/-- PWM_REFRESH_END (R293). -/
def execPwmRefreshEnd (n : Fin 12) (s : State) : Out := .next (onFab s fun s => pwmRefreshEnd s n)

/-- PWM_TRIGGER_PULSE (R297). -/
def execPwmTriggerPulse (n : Fin 12) (s : State) : Out := .next (onFab s fun s => pwmPulse s n)

/-- PWM_TRIP_CLEAR (R302). -/
def execPwmTripClear (req : Req) (n : Fin 12) (s : State) : Out := .next (bitCmd s req .pwm n 0x024 1)

/-- PWM_SHOOT_CLEAR (R302). -/
def execPwmShootClear (req : Req) (n : Fin 12) (s : State) : Out := .next (bitCmd s req .pwm n 0x024 2)

/-- PWM_INTLK_CLEAR (R302). -/
def execPwmIntlkClear (req : Req) (n : Fin 12) (s : State) : Out := .next (bitCmd s req .pwm n 0x024 4)

/-- PWM_FORCE (R294). -/
def execPwmForce (req : Req) (n : Fin 12) (data : BitVec 32) (s : State) : Out :=
  .next (wordCmd s req .pwm n 0x020 data.toNat 0xFFFFFFFF)

/-- PWM_GLOAD (R296). -/
def execPwmGload (req : Req) (mask : BitVec 12) (s : State) : Out :=
  .next (wordCmd s req .trip 0 0x004 mask.toNat 0xFFF)

/-- TRIP_FILTER_ASSERT (R298). -/
def execTripFilterAssert (mask : BitVec 16) (levels : BitVec 16) (steady : Nat) (s : State) : Out :=
  .next (onFab s fun s => tripAssert s mask.toNat levels.toNat steady)

/-- TRIP_FILTER_DEASSERT (R298). -/
def execTripFilterDeassert (mask : BitVec 16) (levels : BitVec 16) (steady : Nat) (s : State) : Out :=
  .next (onFab s fun s => tripDeassert s mask.toNat levels.toNat steady)

/-- TEVT_LATCH (R303). -/
def execTevtLatch (req : Req) (s : State) : Out := .next (readCmd s req .trip 0 0x200)

/-- TEVT_POP (R303). -/
def execTevtPop (req : Req) (s : State) : Out := .next (readCmd s req .trip 0 0x20C)

/-- DRV_REQ_PUSH (R305). -/
def execDrvReqPush (req : Req) (data : BitVec 32) (s : State) : Out :=
  .next (wordCmd s req .trip 0 0x304 data.toNat 0xFFFFFFFF)

/-- DRV_TRANSACTION_START (R304). -/
def execDrvTransactionStart (s : State) : Out := .next (onFab s drvStart)

/-- DRV_TRANSACTION_END (R304). -/
def execDrvTransactionEnd (resp : List (BitVec 8)) (s : State) : Out := .next (onFab s fun s => drvEnd s (nats resp))

/-- DRV_RSP_POP (R305). -/
def execDrvRspPop (req : Req) (s : State) : Out := .next (readCmd s req .trip 0 0x308)

end Sys2Proof.Machine
end

