-- ==== Sys2Proof/Machine/CmdQueue.lean ====
section
/-!
DEFINITION. Belfry and the spill queues (R236 to R256): one meaning for each command or event.
-/
namespace Sys2Proof.Machine

/-- LOCK_CMD with an operation on a token (R244, R247). -/
def lockHost (s : State) (req : Req) (t op : Nat) : State := wordCmd s req .belfry 0 0x100 (t + 2 ^ 8 * op) 0x33F

/-- BELFRY_REQUEST (R237). -/
def execBelfryRequest (q : Fin 32) (addr : BitVec 40) (total : BitVec 32) (s : State) : Out :=
  .next (onFab s fun s => belRequest s q addr.toNat total.toNat)

/-- BELFRY_GRANT (R238). -/
def execBelfryGrant (res : Fin 34) (s : State) : Out := .next (onFab s fun s => belGrant s res)

/-- BELFRY_WITHDRAW (R241). -/
def execBelfryWithdraw (res : Fin 34) (q : Fin 32) (s : State) : Out := .next (onFab s fun s => belWithdraw s res q)

/-- STARVATION (R243). -/
def execStarvation (q : Fin 32) (s : State) : Out := .next (onFab s fun s => starvation s q)

/-- PRI_LEVEL_WRITE (R239). -/
def execPriLevelWrite (req : Req) (q : Fin 32) (level : BitVec 3) (s : State) : Out :=
  .next (fieldCmd s req BELFRY_PRI_LEVEL 0 q level.toNat)

/-- OWNER_FAULT (R245). -/
def execOwnerFault (owner : Fin 17) (s : State) : Out := .next (onFab s fun s => ownerFault s owner)

/-- LOCK_CMD_TRY (R244). -/
def execLockCmdTry (req : Req) (t : Fin 64) (s : State) : Out := .next (lockHost s req t 1)

/-- LOCK_CMD_REL (R244). -/
def execLockCmdRel (req : Req) (t : Fin 64) (s : State) : Out := .next (lockHost s req t 2)

/-- LOCK_CMD_CLR (R244). -/
def execLockCmdClr (req : Req) (t : Fin 64) (s : State) : Out := .next (lockHost s req t 3)

/-- QUEUE_PUSH (R256). -/
def execQueuePush (req : Req) (k : Fin 32) (hi : BitVec 32) (s : State) : Out :=
  .next (wordCmd s req .queue k 0x038 hi.toNat 0xFFFFFFFF)

/-- QUEUE_POP_TAG (R254). -/
def execQueuePopTag (req : Req) (k : Fin 32) (s : State) : Out := .next (readCmd s req .queue k 0x040)

/-- QUEUE_POP (R254). -/
def execQueuePop (req : Req) (k : Fin 32) (s : State) : Out := .next (readCmd s req .queue k 0x048)

/-- QUEUE_ABORT (R251). -/
def execQueueAbort (req : Req) (k : Fin 32) (s : State) : Out := .next (bitCmd s req .queue k 0x000 8)

/-- QUEUE_FLUSH (R252). -/
def execQueueFlush (req : Req) (k : Fin 32) (s : State) : Out := .next (bitCmd s req .queue k 0x000 2)

/-- QUEUE_CLEAR (R255). -/
def execQueueClear (req : Req) (k : Fin 32) (s : State) : Out := .next (bitCmd s req .queue k 0x000 4)

/-- QUEUE_AUTO_FLUSH (R252). -/
def execQueueAutoFlush (k : Fin 32) (s : State) : Out := .next (onFab s fun s => queueAutoFlush s k)

/-- PACKET_VISIBLE (R250). -/
def execPacketVisible (k : Fin 32) (s : State) : Out := .next (onFab s fun s => packetVisible s k)

/-- SPILL_READBACK (R255). -/
def execSpillReadback (k : Fin 32) (s : State) : Out := .next (onFab s fun s => spillReadback s k)

end Sys2Proof.Machine
end

