-- ==== Sys2Proof/Machine/CmdReset.lean ====
section
/-!
DEFINITION. Clocks, resets, boot and SECURE (R374 to R396): one meaning for each command or event.
-/
namespace Sys2Proof.Machine

/-- A write of SECURE.CMD (R394, R395). -/
def secureCmd (s : State) (req : Req) (op core image : Nat) : State :=
  wordCmd s req .secure 0 0x000 (op + 2 ^ 4 * core + 2 ^ 8 * image) 0xFF7

/-- REF_ACCEPTED (R376). -/
def execRefAccepted (s : State) : Out := .next (refAccepted s)

/-- PLL_LOCK (R374). -/
def execPllLock (band : Fin 32) (s : State) : Out := .next (pllLock s band)

/-- PLL_LOSS (R376). -/
def execPllLoss (s : State) : Out := .next (pllLoss s)

/-- RESET_PIN (R379). -/
def execResetPin (s : State) : Out := .next (assertReset s 2)

/-- PGOOD_RISE (R379). -/
def execPgoodRise (s : State) : Out := .next (pgoodRise s)

/-- PGOOD_FALL (R417). -/
def execPgoodFall (s : State) : Out := .next (pgoodFall s)

/-- RST_ORDERLY (R381). -/
def execRstOrderly (req : Req) (s : State) : Out := .next (wordCmd s req .sys 0 0x540 0xA501 0xFF03)

/-- RST_FORCE (R381). -/
def execRstForce (req : Req) (s : State) : Out := .next (wordCmd s req .sys 0 0x540 0xA502 0xFF03)

/-- WDT_ENABLE (R382). -/
def execWdtEnable (req : Req) (s : State) : Out := .next (bitCmd s req .sys 0 0x548 1)

/-- WDT_KICK (R382). -/
def execWdtKick (req : Req) (s : State) : Out := .next (bitCmd s req .sys 0 0x54C 1)

/-- WDT_EXPIRY (R382). -/
def execWdtExpiry (s : State) : Out := .next (onFab s wdtExpiry)

/-- DEVICE_RESET_RELEASE (R380). -/
def execDeviceResetRelease (ref10 : Bool) (ticks : BitVec 64) (s : State) : Out :=
  .next (resetRelease s ref10 ticks.toNat)

/-- BOOT_SLOT_LOAD (R385). -/
def execBootSlotLoad (slot : List (BitVec 8)) (good : Bool) (s : State) : Out :=
  .next (onFab s fun s => bootSlotLoad s (nats slot) good)

/-- BOOT_HOST_GO (R385). -/
def execBootHostGo (req : Req) (s : State) : Out := .next (bitCmd s req .secure 0 0x01C 2)

/-- SECURE_VERIFY (R387). -/
def execSecureVerify (req : Req) (s : State) : Out := .next (secureCmd s req 1 0 0)

/-- SECURE_VERIFY_TCM (R391). -/
def execSecureVerifyTcm (req : Req) (c : Fin 16) (image : BitVec 4) (s : State) : Out :=
  .next (secureCmd s req 2 c image.toNat)

/-- SECURE_KEY (R389). -/
def execSecureKey (req : Req) (s : State) : Out := .next (secureCmd s req 3 0 0)

/-- SECURE_SVN_COMMIT (R390). -/
def execSecureSvnCommit (req : Req) (s : State) : Out := .next (secureCmd s req 4 0 0)

/-- SECURE_ATTEST (R393). -/
def execSecureAttest (req : Req) (s : State) : Out := .next (secureCmd s req 5 0 0)

/-- SECURE_COMMAND_COMPLETE (R394). -/
def execSecureCommandComplete (s : State) : Out := .next (onFab s secureComplete)

/-- SECURE_RSP_READ (R396). -/
def execSecureRspRead (req : Req) (s : State) : Out := .next (readCmd s req .secure 0 0x010)

/-- CLKOUT_1PPS_EDGE (R378). -/
def execClkout1ppsEdge (j : Fin 4) (s : State) : Out := .next (onFab s fun s => clkoutPps s j)

end Sys2Proof.Machine
end

