-- ==== Sys2Proof/Machine/Terminal.lean ====
section
/-!
DEFINITION. The cell terminal: slot processing, validity, epoch and apply, switches and interlock, autonomous
protection, the management channel and the Cell Driver Register Set, locks and wrapping (R39 to R58, R98, R99).
-/
namespace Sys2Proof.Machine

/-- The switches S1 to S4 a state turns on (R98). -/
def switchesOf (fullBridge : Bool) (st : Nat) : List Bool :=
  match st with
  | 1 => [false, true, false, fullBridge]
  | 2 => [true, false, false, fullBridge]
  | 3 => [false, true, true, false]
  | _ => [false, false, false, false]

/-- A list of Booleans combined place by place. -/
def zipBool (f : Bool → Bool → Bool) : List Bool → List Bool → List Bool
  | a :: s, b :: t => f a b :: zipBool f s t
  | _, _ => []

/-- A state applied at the switches (R99): switches it does not use turn off at once, switches it adds wait for the
interlock, and the others stay on. HOLD changes nothing. -/
def Term.apply (t : Term) (st : Nat) : Term :=
  if st = 4 then t
  else
    let use := switchesOf t.cdr.fullBridge st
    { t with state := st, on := zipBool (· && ·) t.on use, wait := zipBool (fun o u => u && !o) t.on use }

/-- STATE_NOW (R38): the state once every switch it turns on is on, BLOCK while one waits. -/
def Term.stateNow (t : Term) : Nat := if t.wait.any id then 0 else t.state

/-- A fault is latched (R38, R47): CMD_BAD does not count. -/
def Term.latched (t : Term) : Bool := t.cdr.fault % 256 != 0

/-- A fault latched with its reaction (R50, R47): BLOCK, or BYPASS where only such a reaction holds; the DC/DC stage
stops for the reactions that stop it and while any fault is latched. -/
def Term.latchFault (t : Term) (b : Nat) (bypass : Bool) : Term :=
  let first := !t.latched
  let t := { t with cdr := { t.cdr with fault := t.cdr.fault ||| 2 ^ b }, dcdcOn := false }
  if bypass && (first || t.ovReact) then { t.apply 1 with ovReact := true }
  else { t.apply 0 with ovReact := false }

/-- A comparator of the terminal is under self-test (R54): its output then is the stimulus's, and sets no FAULT bit. -/
def Term.underTest (t : Term) (b : Nat) : Bool := t.cdr.running && bit t.cdr.test b

/-- The reaction of a comparator whose output is present (R50), at its onset. -/
def Term.react (t : Term) (b : Nat) : Term :=
  if bit t.cdr.fault b || t.underTest b then t else t.latchFault b (b == 3 && !t.cdr.ovAction)

/-- The outputs of the comparators and supply supervisors (R50, R54), bits as in FAULT: DESAT while a switch is on and past BLANK,
HSC, OC, OV, UV unless disabled, SUPPLY. -/
def Term.rawOf (t : Term) (m : SensorIn) : Nat :=
  bitv 0 (t.on.any id && decide (t.cdr.desatThr < m.vce.toNat) && decide (t.cdr.blank ≤ m.sinceOn.toNat))
  ||| bitv 1 (decide (t.cdr.hscThr < m.vce.toNat))
  ||| bitv 2 (decide (t.cdr.ocThr < m.ipack.toInt.natAbs))
  ||| bitv 3 (decide (t.cdr.ovThr < m.vcap.toNat))
  ||| bitv 4 (t.cdr.uvThr != 0 && decide (m.vcap.toNat < t.cdr.uvThr))
  ||| bitv 7 m.supplyLow

/-- FAULT_RAW follows the present outputs (R54). -/
def Term.showRaw (t : Term) (m : SensorIn) : Term := { t with cdr := { t.cdr with faultRaw := t.rawOf m } }

/-- The terminal observes its sensors: FAULT_RAW follows, and every output that is present has its reaction (R50). -/
def Term.observe (t : Term) (m : SensorIn) : Term :=
  let raw := t.rawOf m
  [0, 1, 2, 3, 4, 7].foldl (fun t b => if bit raw b then t.react b else t) (t.showRaw m)

/-- The CDR word at an address (R54), none where the address is unmapped. -/
def Term.cdrRead (t : Term) (a : Nat) : Option Nat :=
  let c := t.cdr
  match a with
  | 0x00 => some (c.termVer % 256 + 0x100)
  | 0x01 => some (bitv 0 c.fullBridge + bitv 1 c.hsCp + bitv 2 c.dcdc)
  | 0x02 => some (c.bindRing % 128 + 128 * (c.bindDev % 4) + bitv 15 c.bindAny)
  | 0x03 => some (bitv 0 c.intlkMode + bitv 1 c.ovAction)
  | 0x04 => some c.deadTime
  | 0x05 => some c.intlkTo
  | 0x06 => some c.vgOff
  | 0x08 => some (nth 0 c.gateCur 0)
  | 0x09 => some (nth 0 c.gateCur 1)
  | 0x0A => some (nth 0 c.gateCur 2)
  | 0x0B => some (nth 0 c.gateCur 3)
  | 0x10 => some c.desatThr
  | 0x11 => some c.hscThr
  | 0x12 => some c.blank
  | 0x13 => some c.ocThr
  | 0x14 => some c.ovThr
  | 0x15 => some c.uvThr
  | 0x20 => some 0
  | 0x21 => some (c.pass % 32 + 256 * (c.done % 32) + bitv 15 c.running)
  | 0x30 => some (c.fault % 256 + bitv 8 c.cmdBad)
  | 0x31 => some c.faultRaw
  | 0x32 => some c.epoch
  | 0x33 => some c.lastCycle
  | 0x34 => some c.crcErr
  | 0x35 => some (c.pos % 32 + bitv 8 c.posDir)
  | _ => none

/-- The bits of a CDR word that are writable H fields (R54). -/
def cdrHeldMask (a : Nat) : Nat :=
  match a with
  | 0x02 => 0x81FF | 0x03 => 0x3 | 0x04 => 0xFFF | 0x05 => 0xFFF | 0x06 => 0xFF
  | 0x08 => 0xFFF | 0x09 => 0xFFF | 0x0A => 0xFFF | 0x0B => 0xFFF
  | 0x10 => 0x3FF | 0x11 => 0x3FF | 0x12 => 0x3FF | 0x20 => 0x1F | _ => 0

/-- A write would change an H field (R6, R53). -/
def Term.changesHeld (t : Term) (a d : Nat) : Bool :=
  let m := cdrHeldMask a
  match t.cdrRead a with
  | some v => (v &&& m) != (d &&& m)
  | none => false

/-- A clear of a FAULT bit whose condition is still present (R51); in a commanding frame the watchdog's condition
counts as absent. -/
def Term.clearRefused (t : Term) (d : Nat) (commanding : Bool) : Bool :=
  let present := (t.cdr.faultRaw &&& 0x9F) ||| (if t.wdog && !commanding then 0x40 else 0)
  (d &&& present) != 0

/-- A value a CDR write may not give (R54). -/
def Term.illegalValue (t : Term) (a d : Nat) : Bool :=
  match a with
  | 0x04 => decide (t.cdr.intlkTo < d % 4096)
  | 0x05 => decide (d % 4096 < t.cdr.deadTime)
  | 0x10 => decide (t.cdr.hscThr < d % 1024)
  | 0x11 => decide (d % 1024 < t.cdr.desatThr)
  | _ => (t.cdrRead a).isNone

/-- An accepted CDR write applied (R46, R54). A write of TEST starts the self-test: the cell is held in BLOCK, and the results of
an earlier test, one still running included, go (DESIGN CHOICE, log 99). -/
def Term.cdrWrite (t : Term) (a d : Nat) : Term :=
  let c := t.cdr
  match a with
  | 0x02 => { t with cdr := { c with bindRing := d % 128, bindDev := bits d 7 2, bindAny := bit d 15 } }
  | 0x03 => { t with cdr := { c with intlkMode := bit d 0, ovAction := bit d 1 } }
  | 0x04 => { t with cdr := { c with deadTime := d % 4096 } }
  | 0x05 => { t with cdr := { c with intlkTo := d % 4096 } }
  | 0x06 => { t with cdr := { c with vgOff := d % 256 } }
  | 0x08 => { t with cdr := { c with gateCur := setNth c.gateCur 0 (d % 4096) } }
  | 0x09 => { t with cdr := { c with gateCur := setNth c.gateCur 1 (d % 4096) } }
  | 0x0A => { t with cdr := { c with gateCur := setNth c.gateCur 2 (d % 4096) } }
  | 0x0B => { t with cdr := { c with gateCur := setNth c.gateCur 3 (d % 4096) } }
  | 0x10 => { t with cdr := { c with desatThr := d % 1024 } }
  | 0x11 => { t with cdr := { c with hscThr := d % 1024 } }
  | 0x12 => { t with cdr := { c with blank := d % 1024 } }
  | 0x13 => { t with cdr := { c with ocThr := d % 65536 } }
  | 0x14 => { t with cdr := { c with ovThr := d % 65536 } }
  | 0x15 => { t with cdr := { c with uvThr := d % 65536 } }
  | 0x20 =>
    if d % 32 = 0 then t
    else { t.apply 0 with cdr := { c with test := d % 32, pass := 0, done := 0, running := true }, dcdcOn := false }
  | 0x30 => { t with cdr := { c with fault := c.fault &&& (0xFF ^^^ (d % 256)), cmdBad := c.cmdBad && !(bit d 8) } }
  | _ => t

/-- The signed 16-bit difference of two epochs (R45). -/
def epochDiff (a b : Nat) : Int := sx 16 (uz 16 ((a : Int) - b))

/-- VERSION and FTYPE are those of a cycle frame (R44). -/
def Hdr.typeOk (h : Hdr) : Bool := h.version == 1 && h.ftype == 1

/-- The header's binding matches the terminal's (R44). -/
def Term.bound (t : Term) (h : Hdr) : Bool :=
  t.cdr.bindAny || (h.ringId == t.cdr.bindRing && h.dev == t.cdr.bindDev)

/-- The header's epoch is older than the terminal's set epoch (R45). -/
def Term.olderEpoch (t : Term) (h : Hdr) : Bool := !t.epochUnset && decide (epochDiff h.epoch t.cdr.epoch < 0)

/-- The header shows a commanding frame (R45). -/
def Term.commandingHdr (t : Term) (h : Hdr) : Bool := h.typeOk && t.bound h && h.holder && !(t.olderEpoch h)

/-- The tag remembered for a DIR (R53). -/
def Term.tagOf (t : Term) (dir : Bool) : Option Nat := if dir then t.tagB else t.tagA

/-- The status code of a management write judged from the header (R52, R53). "The cell is in BLOCK" is STATE_NOW = 0, which also
holds while a transition waits on its interlock (DEDUCED from R38, log 99). -/
def Term.judgeWrite (t : Term) (h : Hdr) : Nat :=
  let code := firstRefusal (
    codeIf (!(t.bound h)) E_PORT
    ++ codeIf (!h.holder || t.olderEpoch h) E_TOKEN
    ++ codeIf (t.commandingHdr h && t.appliedOnce && h.cycleNo == t.cdr.lastCycle) E_STATE
    ++ codeIf (t.changesHeld h.mAddr h.mData && t.stateNow != 0) E_BUSY
    ++ codeIf (h.mAddr == 0x30 && t.clearRefused h.mData (t.commandingHdr h)) E_TRIP
    ++ codeIf (t.illegalValue h.mAddr h.mData) E_VALUE)
  if code = OK && t.tagOf h.dir == some h.mTag then DONE_BEFORE else code

/-- The header of a frame passes the terminal at a derived position (R52): the addressed terminal decides M_ACK,
M_STAT and the data of a read, and keeps an accepted write for the frame's end. The data of a read of an unmapped address is 0
(DESIGN CHOICE, log 99). -/
def Term.header (t : Term) (pos : Option Nat) (h : Hdr) : Term :=
  let t := { t with hdrWrite := none, hdrOut := none }
  if !h.typeOk || h.wrapped || !h.mReq || pos != some h.mPos then t
  else if h.mWrite then
    let code := t.judgeWrite h
    { t with hdrOut := some ⟨code, none⟩
             hdrWrite := if code = OK then some ⟨h.mAddr, h.mData, h.mTag⟩ else none }
  else
    match t.cdrRead h.mAddr with
    | some v => { t with hdrOut := some ⟨OK, some v⟩ }
    | none => { t with hdrOut := some ⟨E_VALUE, some 0⟩ }

/-- The position a terminal derives from a frame (R40). -/
def derivePos (f : Frame) (cellsMax : Nat) : Option Nat :=
  let free := (upTo (min cellsMax f.stats.length)).filter (fun p => !(f.stat p).present)
  if f.hdr.dir then (free.filter (fun p => decide (p < f.hdr.cells))).getLast? else free.head?

/-- An event is reported in frames of its cycle and the next (R39). -/
def evShown (c : Option Nat) (k : Nat) : Bool := c == some k || c == some ((k + 65535) % 65536)

/-- The cycle of an event still to be reported at a sample of a cycle; afterwards there is none (R39). -/
def evKept (c : Option Nat) (k : Nat) : Option Nat := if evShown c k then c else none

/-- An event flag at a sample of a cycle (R39): a new event's cycle is this one. -/
def EvFlag.sample (f : EvFlag) (k : Nat) : EvFlag :=
  if f.pend then { pend := false, cycle := some k } else { f with cycle := evKept f.cycle k }

/-- The terminal's bookkeeping when it takes the status sample of a CYCLE_NO (R38, R39). -/
def Term.sample (t : Term) (k : Nat) : Term :=
  let before := (k + 65535) % 65536
  let missed := t.appliedOnce && t.cdr.lastCycle != before && t.prevCycle != some before
  { t with evStale := t.evStale.sample k, evDup := t.evDup.sample k, evBad := t.evBad.sample k
           evMissed := if missed then some k else evKept t.evMissed k
           alive := (t.alive + 1) % 16 }

/-- The status the terminal writes (R38). -/
def Term.status (t : Term) (m : SensorIn) (k : Nat) : Stat where
  vcap := m.vcap.toNat
  vpack := m.vpack.toNat
  ipack := m.ipack.toNat
  tempPack := m.tempPack.toNat
  tempSw := m.tempSw.toNat
  stateNow := t.stateNow
  dcdcOn := t.dcdcOn
  cmdMissed := evShown t.evMissed k
  staleEpoch := evShown t.evStale.cycle k
  dupMismatch := evShown t.evDup.cycle k
  cmdBad := evShown t.evBad.cycle k
  fault := t.cdr.fault % 256
  crcErrs := t.cdr.crcErr % 16
  alive := t.alive
  present := true
  fullBridge := t.cdr.fullBridge
  intlkMode := t.cdr.intlkMode
  latched := t.latched
  losU := !t.lockU
  losD := !t.lockD
  wrapping := t.wrapping
  testing := t.cdr.running
  sampleAge := m.age.toNat

/-- The slot's command applied (R47). -/
def Term.applyCmd (t : Term) (c : Cmd) : Term :=
  let bad := decide (5 ≤ c.state) || (c.state == 3 && !t.cdr.fullBridge)
  let t := if bad then { t with cdr := { t.cdr with cmdBad := true }, evBad := { t.evBad with pend := true } } else t
  if t.latched || t.cdr.running then { t with dcdcOn := false }
  else
    let t := { t with iref := c.iref, dcdcOn := c.dcdcEn, ovReact := false }
    if bad then t.apply 0 else t.apply c.state

/-- A valid commanding frame's apply, in the order of R46. -/
def Term.applyFrame (t : Term) (h : Hdr) (c : Cmd) : Term :=
  let t := { t with wdog := false, cycleLen := h.cycleLen }
  let t := match t.hdrWrite with
    | some w => let t := t.cdrWrite w.addr w.data
                if h.dir then { t with tagB := some w.tag } else { t with tagA := some w.tag }
    | none => t
  let t := t.applyCmd c
  { t with prevCycle := if t.appliedOnce then some t.cdr.lastCycle else none
           appliedOnce := true, hdrWrite := none, cdr := { t.cdr with lastCycle := h.cycleNo } }

/-- The remembered tag of a DIR is forgotten when a valid frame of it carries no request or another tag (R53). -/
def Term.forgetTag (t : Term) (h : Hdr) : Term :=
  if h.mReq && t.tagOf h.dir == some h.mTag then t
  else if h.dir then { t with tagB := none } else { t with tagA := none }

/-- A frame's end: epoch, duplicate and apply (R44 to R46). A commanding frame with no slot for the terminal (R40) gives it the
epoch and nothing else: it holds no command to apply, so the watchdog does not restart (DESIGN CHOICE, log 99). A duplicate is
compared by all 32 bits of its command. -/
def Term.judgeFrame (t : Term) (h : Hdr) (c : Option (Cmd × Nat)) (crcOk : Bool) : Term :=
  if !crcOk || !h.typeOk || !(t.bound h) then { t with hdrWrite := none }
  else
    let t := t.forgetTag h
    if !h.holder then { t with hdrWrite := none }
    else if t.olderEpoch h then { t with hdrWrite := none, evStale := { t.evStale with pend := true } }
    else
      let t := { t with epochUnset := false, cdr := { t.cdr with epoch := h.epoch } }
      match c with
      | none => { t with hdrWrite := none }
      | some (c, raw) =>
        if t.appliedOnce && h.cycleNo == t.cdr.lastCycle then
          { t with hdrWrite := none
                   evDup := if raw = t.appliedCmd then t.evDup else { t.evDup with pend := true } }
        else { t.applyFrame h c with appliedCmd := raw }

/-- The bytes the terminal sends on (R40, R41, R52): what it received with its status in its slot and its answer in the header,
WRAPPED in a copy turned back, and a CRC that is correct exactly when the received one was. -/
def Term.forward (t : Term) (b : List Nat) (pos : Option Nat) (st : Stat) (turned crcOk : Bool) : List Nat :=
  let b := b.take (b.length - 4)
  let b := if turned then spliceBytes b 1 [byteAt b 1 ||| 2 ^ 4] else b
  let b := match t.hdrOut with
    | some o =>
      let b := spliceBytes (spliceBytes b 10 [byteAt b 10 ||| 2 ^ 7]) 15 [o.stat % 256]
      match o.data with | some v => spliceBytes b 12 (leBytes 2 v) | none => b
    | none => b
  let b := match pos with | some p => spliceBytes b (20 + 20 * p) st.bytes | none => b
  b ++ leBytes 4 (if crcOk then crc32c b else crc32c b ^^^ 0xFFFFFFFF)

/-- The frame sent on, and while wrapping the copy turned back (R57). -/
def Term.send (t : Term) (b : List Nat) (pos : Option Nat) (st : Stat) (crcOk : Bool) : Term :=
  { t with out := frameBlocks (t.forward b pos st false crcOk)
           back := if t.wrapping then frameBlocks (t.forward b pos st true crcOk) else [] }

/-- The management decision for a frame (R52): the one made as its header passed, or one made now. -/
def Term.decided (t : Term) (pos : Option Nat) (b : List Nat) : Term :=
  let hd := BitVec.ofNat 128 (leNat (b.take 16))
  if t.hdrFor = some (pos, hd) then t else t.header pos (Hdr.ofBytes b)

/-- A received frame is counted where its CRC is bad (R54). -/
def Term.countCrc (t : Term) (ok : Bool) : Term :=
  if ok then t else { t with cdr := { t.cdr with crcErr := (t.cdr.crcErr + 1) % 65536 } }

/-- A whole frame passes and ends at the terminal (R40 to R46, R52): the sensors are observed, the slot filled, the frame sent on;
only then is its CRC known and the frame judged. -/
def Term.process (t : Term) (b : List Nat) (m : SensorIn) : Term :=
  let f := Frame.ofBytes (Hdr.ofBytes b).ring16 b
  let ok := crcGood b
  let pos := derivePos f ((b.length - 20) / 20)
  let t := (t.observe m).decided pos b
  let t := match pos with
    | none => (t.send b none {} ok).countCrc ok |>.judgeFrame f.hdr none ok
    | some p =>
      let t := t.sample f.hdr.cycleNo
      let t := (t.send b pos (t.status m f.hdr.cycleNo) ok).countCrc ok
      let t := { t with cdr := { t.cdr with pos := p, posDir := f.hdr.dir } }
      t.judgeFrame f.hdr (some (f.cmd p, le32At b (16 + 20 * p))) ok
  { t with hdrFor := none }

/-- A frame that arrived with WRAPPED = 1 is repeated unchanged (R58). -/
def Term.repeatFrame (t : Term) (b : List Nat) : Term :=
  { t.countCrc (crcGood b) with out := frameBlocks b, back := if t.wrapping then frameBlocks b else [], hdrFor := none }

/-- A frame breaks off after some of its blocks (R42): nothing of it is kept or applied, and the outgoing frame, of which those
blocks have left, ends with an error block and then idle blocks. -/
def Term.breakOff (t : Term) (blocks : List Block66) : Term :=
  let got := blocks.dropWhile (fun b => b.kind != .start)
  let sent := got.take 1 ++ (got.drop 1).takeWhile (fun b => b.sync == 1) ++ [errorBlock, idleBlock]
  { t with hdrWrite := none, hdrOut := none, hdrFor := none, out := sent, back := if t.wrapping then sent else [] }

/-- A frame ends at the terminal, whole or broken off (R42, R58). -/
def Term.frameEnd (t : Term) (blocks : List Block66) (m : SensorIn) : Term :=
  match arrivalOf blocks with
  | .nothing => t
  | .broken => t.breakOff blocks
  | .whole b => if (Hdr.ofBytes b).wrapped then t.repeatFrame b else t.process b m

/-- The header of a frame passes the terminal (R52): the present comparator outputs count, and the decision stands for that
frame. -/
def Term.headerPasses (t : Term) (pos : Option Nat) (hd : BitVec 128) (m : SensorIn) : Term :=
  { (t.observe m).header pos (Hdr.ofBytes (leBytes 16 hd.toNat)) with hdrFor := some (pos, hd) }

/-- The self-test completes (R54): DONE for each selected comparator, PASS for those of them that tripped. It sets no FAULT bit. -/
def Term.testDone (t : Term) (pass : Nat) : Term :=
  if t.cdr.running then
    { t with cdr := { t.cdr with done := t.cdr.test, pass := t.cdr.test &&& pass, running := false } }
  else t

/-- The watchdog expires a time after the last apply, in 0.1 ns (R48): no earlier than 2.75 cycles of 1.6 ns clocks, and only
once a frame has been applied; before that BLOCK is held. -/
def Term.watchdog (t : Term) (since : Nat) : Term :=
  if t.appliedOnce && decide (44 * t.cycleLen ≤ since) then { t.latchFault 6 false with wdog := true } else t

/-- The switch of the same leg (R99): S1 with S2, S3 with S4. -/
def complement (k : Nat) : Nat := if k % 2 = 0 then k + 1 else k - 1

/-- The turn-on condition of the selected interlock mode (R49): time and handshake, or the gate watch. -/
def Term.intlkMet (t : Term) (l : LegIn) : Bool :=
  if t.cdr.intlkMode then decide (l.vgMax.toInt < sx 8 t.cdr.vgOff) && decide (t.cdr.deadTime ≤ l.vgFor.toNat)
  else decide (t.cdr.deadTime ≤ l.sinceOff.toNat) && l.offConf

/-- The time INTLK_TO counts (R49): from the later of the complement's turn-off and the apply. -/
def LegIn.waited (l : LegIn) : Nat := min l.sinceOff.toNat l.sinceApply.toNat

/-- A switch whose turn-on waits turns on once its interlock condition is met (R49, R99) with its complement off; not in a
self-test, which holds the cell in BLOCK (R54). -/
def Term.turnOn (t : Term) (k : Nat) (l : LegIn) : Term :=
  if nth false t.wait k && !(nth false t.on (complement k)) && !t.cdr.running && t.intlkMet l
      && decide (l.waited ≤ t.cdr.intlkTo) then
    { t with on := setNth t.on k true, wait := setNth t.wait k false }
  else t

/-- A waiting switch's interlock condition is not met within INTLK_TO (R49). -/
def Term.interlockTimeout (t : Term) (k : Nat) (l : LegIn) : Term :=
  if nth false t.wait k && !(t.intlkMet l) && decide (t.cdr.intlkTo ≤ l.waited) then t.latchFault 5 false else t

/-- A comparator trips (R50): 0 DESAT, 1 HSC, 2 OC, 3 OV, 4 UV, 7 SUPPLY, where the sensors put it past its threshold. -/
def Term.trip (t : Term) (b : Nat) (m : SensorIn) : Term :=
  if bit (t.rawOf m) b then (t.showRaw m).react b else t.showRaw m

/-- A port's block lock (R43, R57): a port that has had lock since reset is wired. -/
def Term.setLock (t : Term) (up on : Bool) : Term :=
  if up then { t with lockU := on, wiredU := t.wiredU || on } else { t with lockD := on, wiredD := t.wiredD || on }

/-- A port's lock and whether it is wired. -/
def Term.lockOf (t : Term) (up : Bool) : Bool := if up then t.lockU else t.lockD

/-- A port is wired. -/
def Term.wiredOf (t : Term) (up : Bool) : Bool := if up then t.wiredU else t.wiredD

/-- Wrapping starts at a start block after a wired port has lost lock, and stops at one after it has lock again (R57). -/
def Term.wrapStart (t : Term) (up : Bool) : Term := if t.wiredOf up && !(t.lockOf up) then { t with wrapping := true } else t

/-- Wrapping stops (R57): no wired port is without lock. -/
def Term.wrapStop (t : Term) (up : Bool) : Term :=
  if t.lockOf up && !(t.wiredOf (!up) && !(t.lockOf (!up))) then { t with wrapping := false } else t

/-- A terminal's reset (R45, R46, R48, R54): CDR values return to reset, the builder's are as the command names them (log
107), and BLOCK is held. -/
def Term.powerUp (ver : Nat) (fullBridge hsCp dcdc : Bool) : Term :=
  { cdr := { termVer := ver, fullBridge := fullBridge, hsCp := hsCp, dcdc := dcdc } }

end Sys2Proof.Machine
end

