-- ==== Sys2Proof/Machine/CmdTerm.lean ====
section
/-!
DEFINITION. The cell terminals (R42 to R58, R98, R99): one meaning for each command or event.
-/
namespace Sys2Proof.Machine

/-- TERM_RESET (R45, R54), with the builder's values of its CDR. -/
def execTermReset (c : Fin 4096) (ver : BitVec 8) (fullBridge hsCp dcdc : Bool) (s : State) : Out :=
  .next (s.updTerm c fun _ => Term.powerUp ver.toNat fullBridge hsCp dcdc)

/-- TERM_FRAME_END (R47). -/
def execTermFrameEnd (c : Fin 4096) (blocks : List Block66) (sensors : SensorIn) (s : State) : Out :=
  .next (s.updTerm c fun t => t.frameEnd blocks sensors)

/-- TERM_MGMT_HEADER (R52). -/
def execTermMgmtHeader (c : Fin 4096) (pos : Option (Fin 32)) (header : BitVec 128) (sensors : SensorIn) (s : State) : Out :=
  .next (s.updTerm c fun t => t.headerPasses (pos.map (·.val)) header sensors)

/-- TERM_SELF_TEST_COMPLETE (R54). -/
def execTermSelfTestComplete (c : Fin 4096) (pass : BitVec 5) (s : State) : Out :=
  .next (s.updTerm c fun t => t.testDone pass.toNat)

/-- TERM_FRAME_BREAK (R42). -/
def execTermFrameBreak (c : Fin 4096) (blocks : List Block66) (s : State) : Out := .next (s.updTerm c fun t => t.breakOff blocks)

/-- TERM_WATCHDOG_EXPIRY (R48), in 0.1 ns since the last apply. -/
def execTermWatchdogExpiry (c : Fin 4096) (since : BitVec 32) (s : State) : Out :=
  .next (s.updTerm c fun t => t.watchdog since.toNat)

/-- TERM_SWITCH_TURN_ON (R99). -/
def execTermSwitchTurnOn (c : Fin 4096) (k : Fin 4) (leg : LegIn) (s : State) : Out := .next (s.updTerm c fun t => t.turnOn k leg)

/-- TERM_INTERLOCK_TIMEOUT (R49). -/
def execTermInterlockTimeout (c : Fin 4096) (k : Fin 4) (leg : LegIn) (s : State) : Out :=
  .next (s.updTerm c fun t => t.interlockTimeout k leg)

/-- TERM_COMPARATOR_TRIP (R50). -/
def execTermComparatorTrip (c : Fin 4096) (b : Fin 8) (sensors : SensorIn) (s : State) : Out :=
  .next (s.updTerm c fun t => t.trip b sensors)

/-- TERM_LOCK_LOST (R43). -/
def execTermLockLost (c : Fin 4096) (up : Bool) (s : State) : Out := .next (s.updTerm c fun t => t.setLock up false)

/-- TERM_LOCK_REGAINED (R43). -/
def execTermLockRegained (c : Fin 4096) (up : Bool) (s : State) : Out :=
  .next (s.updTerm c fun t => t.setLock up true)

/-- TERM_WRAP_START (R57). -/
def execTermWrapStart (c : Fin 4096) (up : Bool) (s : State) : Out := .next (s.updTerm c fun t => t.wrapStart up)

/-- TERM_WRAP_STOP (R57). -/
def execTermWrapStop (c : Fin 4096) (up : Bool) (s : State) : Out := .next (s.updTerm c fun t => t.wrapStop up)

end Sys2Proof.Machine
end

