-- ==== Sys2Proof/Machine/CmdTime.lean ====
section
/-!
DEFINITION. Campanile (R308 to R317): one meaning for each command or event.
-/
namespace Sys2Proof.Machine

/-- START set to a time where it shows another (R314). -/
def startAt (s : State) (req : Req) (ns : Nat) : State :=
  if s.rd CAMPANILE_START_NS = ns then s
  else wordCmd (wordCmd s req .campanile 0 0x048 (ns % 2 ^ 32) 0xFFFFFFFF) req .campanile 0 0x04C (ns / 2 ^ 32) 0xFFFFFFFF

/-- Event timer i fires on the edge that reaches its target or offset (R315; log 13); in Idle and Doze that is a wake event (R366). -/
def timerFires (s : State) (i : Nat) : State :=
  let mode := s.rd CAMPANILE_ET_CTRL_MODE 0 i
  let due := i != 0 && (if mode = 3 then (offsetEdge s i).isSome else mode != 0)
  if due then campanileWake (timerFire s i) else s

/-- Timed output j takes LEVEL (R316), a wake event in Idle and Doze (R366). -/
def outputFires (s : State) (j : Nat) : State :=
  if outWaits s j then campanileWake (outActive s j) else s

/-- INCR_WRITE (R308). -/
def execIncrWrite (req : Req) (data : BitVec 32) (s : State) : Out :=
  .next (wordCmd s req .campanile 0 0x010 data.toNat 0xFFFFFFFF)

/-- STEP_GO (R310). -/
def execStepGo (req : Req) (s : State) : Out := .next (bitCmd s req .campanile 0 0x018 1)

/-- SLEW_GO (R310). -/
def execSlewGo (req : Req) (s : State) : Out := .next (bitCmd s req .campanile 0 0x018 2)

/-- SLEW_END (R310). -/
def execSlewEnd (s : State) : Out := .next (onFab s endSlew)

/-- SET_GO (R310). -/
def execSetGo (req : Req) (s : State) : Out := .next (bitCmd s req .campanile 0 0x018 4)

/-- CLR_COARSE (R313). -/
def execClrCoarse (req : Req) (s : State) : Out := .next (bitCmd s req .campanile 0 0x030 1)

/-- TICK_ENABLE (R314). -/
def execTickEnable (req : Req) (startNs : BitVec 64) (s : State) : Out :=
  .next (fieldCmd (startAt s req startNs.toNat) req CAMPANILE_TICK_CTRL_EN 0 0 1)

/-- TICK_DISABLE (R314). -/
def execTickDisable (req : Req) (s : State) : Out := .next (fieldCmd s req CAMPANILE_TICK_CTRL_EN 0 0 0)

/-- TIMER_FIRE (R315). -/
def execTimerFire (i : Fin 16) (s : State) : Out := .next (onFab s fun s => timerFires s i)

/-- TOUT_ACTIVE (R316). -/
def execToutActive (j : Fin 4) (s : State) : Out := .next (onFab s fun s => outputFires s j)

/-- TOUT_IDLE (R316). -/
def execToutIdle (j : Fin 4) (s : State) : Out := .next (onFab s fun s => outIdle s j)

/-- CAPTURE_EDGE (R317). -/
def execCaptureEdge (k : Fin 4) (rise : Bool) (s : State) : Out := .next (onFab s fun s => captureEdge s k rise)

/-- CAPTURE_LATCH (R317). -/
def execCaptureLatch (req : Req) (k : Fin 4) (s : State) : Out :=
  .next (readCmd s req .campanile 0 (0x404 + 0x20 * k))

/-- CAPTURE_POP (R317). -/
def execCapturePop (req : Req) (k : Fin 4) (s : State) : Out := .next (readCmd s req .campanile 0 (0x40C + 0x20 * k))

/-- TXTS_POP (R312). -/
def execTxtsPop (req : Req) (p : Fin 4) (s : State) : Out := .next (readCmd s req .campanile 0 (0x508 + 0x10 * p))

end Sys2Proof.Machine
end

