-- ==== Sys2Proof/Machine/TwinMeas.lean ====
section
/-!
DEFINITION. The delivery of measured values in a twin (R330): the holder's values, on one edge in both units.
-/
namespace Sys2Proof.Machine

/-- Two measured values are results of one converter entry, or frames of one stream. -/
def Meas.same : Meas → Meas → Bool
  | .adc k e _ _ _, .adc k' e' _ _ _ => k == k' && e == e'
  | .sv i _ _ _, .sv i' _ _ _ => i == i'
  | _, _ => false

/-- A value delivered (R330): to the results, Cupola, the filters, Oculus, the snapshots and the queues. -/
def measDeliver (s : State) : Meas → State
  | .adc k e value ovr run => adcDeliver s k e value ovr run 1
  | .sv i asdus gap stale => svDeliver s i asdus gap stale

/-- The standby's own value differs from the holder's by more than MEAS_TOL, or its frame from the holder's (R330). -/
def measDiffers (s : State) : Meas → Meas → Bool
  | .adc _ _ v _ _, .adc _ _ v' _ _ => decide (s.rd TWIN_MEAS_TOL_TOL < (sx 24 v - sx 24 v').natAbs)
  | .sv _ f _ _, .sv _ f' _ _ => f != f'
  | _, _ => false

/-- A status bit of R330 set, noted as a difference of this cycle (R338). -/
def measFlag (s : State) (f : Fld) : State := (s.raise f).updTwin (fun t => { t with dirty := true })

/-- An own value of the standby whose holder value has not come (R330): a converter entry keeps its value as HELD and is
late, a frame is one that the holder lacks. -/
def measMissing (s : State) : Meas → State
  | .adc k e _ _ run =>
    measFlag (adcDeliver s k e (s.rd ADC_RESULT_VALUE k e) (s.on ADC_RESULT_OVR k e) run 2) TWIN_STATUS_MASK_LATE
  | .sv _ _ _ _ => measFlag s TWIN_STATUS_MEAS_DIFF

/-- The standby's own value beside those of the holder (R330). -/
def measCompare (values : List Meas) (s : State) (own : Meas) : State :=
  match values.find? (fun v => own.same v) with
  | some v => if measDiffers s own v then measFlag s TWIN_STATUS_MEAS_DIFF else s
  | none => measMissing s own

/-- The earliest delivery edge of the values that wait. -/
def firstDelivery : List (Nat × Meas) → Option Nat
  | [] => none
  | a :: t => match firstDelivery t with | none => some a.1 | some e => some (min a.1 e)

/-- A delivery edge (R330): the holder delivers its own values that are due, the standby the holder's `values`. -/
def measEdge (s : State) (values : List Meas) : State :=
  if !(twinMeasures s) then s
  else
    let s := match firstDelivery s.sig.meas with | some e => s.toEdge e | none => s
    let due := (s.sig.meas.filter (fun m => decide (m.1 ≤ s.fab))).map (·.2)
    let s := { s with sig := { s.sig with meas := s.sig.meas.filter (fun m => decide (s.fab < m.1)) } }
    if twState s = TW_HOLDER then due.foldl measDeliver s
    else values.foldl measDeliver (due.foldl (measCompare values) s)

end Sys2Proof.Machine
end

