-- ==== Sys2Proof/Machine/CmdTwin.lean ====
section
/-!
DEFINITION. The twin and the cascade (R319 to R343): one meaning for each command or event.
-/
namespace Sys2Proof.Machine

/-- A verdict that a follower has sent over CASCADE, on which the master acts as on its own (R326, R342). -/
def followerVerdict (s : State) (v : Nat) : State :=
  let s := twinFault ((s.raise TWIN_STATUS_VERDICT_EV).wr TWIN_REPLAY_VERDICT v)
  let c := verdictChange s v
  s.updTwin (fun t => { t with next := if c.isSome then c else t.next })

/-- The standby's notice of a mismatch reaches the holder (R335). A master has a follower's mismatch, or its replay verdict where
`verdict` is not 0, in the same form over CASCADE and acts on it as on its own (R326). -/
def mismatchNotice (s : State) (ring pos verdict : Nat) : State :=
  let master := s.rd TWIN_CASC_CFG_ROLE = 1
  if verdict = 0 then
    if twState s = TW_HOLDER || (master && twState s = TW_STANDBY) then mismatchFinal s ring pos else s
  else if master && (twState s = TW_HOLDER || twState s = TW_STANDBY) then followerVerdict s verdict
  else s

/-- HANDOVER at the tick that CYCLE_COUNT shows (R338), on which the pins change over (R334). -/
def handoverEvent (s : State) : State :=
  if s.twin.grant != some (s.rd SYS_CYCLE_COUNT) then s else pinsFollow (handoverAt s (s.rd SYS_CYCLE_COUNT))

/-- PEER_LINK_UP (R319). -/
def execPeerLinkUp (link : Fin 4) (roundTrip : BitVec 32) (s : State) : Out :=
  .next (onFab s fun s => linkUp s link roundTrip.toNat)

/-- PEER_LINK_DOWN (R319). -/
def execPeerLinkDown (link : Fin 4) (s : State) : Out := .next (onFab s fun s => linkDown s link)

/-- CYCLE_MESSAGE_RECEIVE (R321). -/
def execCycleMessageReceive (fromMaster : Bool) (msg : CycleMsg) (s : State) : Out :=
  .next (onFab s fun s => if fromMaster then masterMessage s msg else twinMessage s msg)

/-- CASC_TX_WRITE (R323). -/
def execCascTxWrite (req : Req) (f : Fin 3) (k : Fin 8) (data : BitVec 32) (s : State) : Out :=
  .next (wordCmd s req .twin 0 (0x100 + 4 * (8 * f + k)) data.toNat 0xFFFFFFFF)

/-- CASCADE_COUNT_RECEIVE (R323). -/
def execCascadeCountReceive (k : Fin 8) (data : BitVec 32) (s : State) : Out :=
  .next (onFab s fun s => countReceive s k data.toNat)

/-- SUMS_RECEIVE (R324). -/
def execSumsReceive (f : Fin 3) (recs : List SumRec) (s : State) : Out :=
  .next (onFab s fun s => sumsReceive s f recs)

/-- MASTER_LOST (R325). -/
def execMasterLost (s : State) : Out := .next (onFab s masterLost)

/-- FOLLOWER_LOST (R325). -/
def execFollowerLost (f : Fin 3) (s : State) : Out := .next (onFab s fun s => followerLost s f)

/-- MASK_WAIT_END (R328). -/
def execMaskWaitEnd (s : State) : Out := .next (onFab s maskWaitEnd)

/-- MISMATCH_NOTICE_RECEIVE (R335). -/
def execMismatchNoticeReceive (ring : Fin 128) (pos : Fin 32) (verdict : Fin 6) (s : State) : Out :=
  .next (onFab s fun s => mismatchNotice s ring pos verdict)

/-- STATUS_FORWARD_RECEIVE (R329). -/
def execStatusForwardReceive (r : Fin 128) (slots : List (Nat × Stat)) (s : State) : Out :=
  .next (onFab s fun s => statusForward s r slots)

/-- TWIN_MEAS_DELIVERY (R330). -/
def execTwinMeasDelivery (values : List Meas) (s : State) : Out :=
  .next (onFab s fun s => measEdge s values)

/-- REPLAY_COMPLETE (R337). -/
def execReplayComplete (s : State) : Out := .next (onFab s replayComplete)

/-- LEASE_EXPIRY (R332). -/
def execLeaseExpiry (s : State) : Out := .next (onFab s leaseExpiry)

/-- TWIN_START_TIMEOUT (R331). -/
def execTwinStartTimeout (s : State) : Out := .next (onFab s twinStartTimeout)

/-- HANDOVER (R338). -/
def execHandover (s : State) : Out := .next (onFab s handoverEvent)

/-- TWIN_EN_WRITE (R331). -/
def execTwinEnWrite (req : Req) (en : Bool) (s : State) : Out := .next (fieldCmd s req TWIN_CTRL_EN 0 0 (b2n en))

/-- REJOIN (R331). -/
def execRejoin (req : Req) (s : State) : Out := .next (bitCmd s req .twin 0 0x000 16)

/-- YIELD (R338). -/
def execYieldToken (req : Req) (s : State) : Out := .next (bitCmd s req .twin 0 0x000 32)

/-- SYNC_DONE (R340). -/
def execSyncDone (req : Req) (s : State) : Out := .next (bitCmd s req .twin 0 0x000 64)

/-- CHASE_COPY_RECEIVE (R340). -/
def execChaseCopyReceive (item : ChaseItem) (s : State) : Out :=
  .next (onFab s fun s => chaseCopy s item)

/-- RELAY_COPY_RECEIVE (R339). -/
def execRelayCopyReceive (r : Fin 128) (bytes : List (BitVec 8)) (s : State) : Out :=
  .next (onFab s fun s => relayCopy s r (nats bytes))

end Sys2Proof.Machine
end

