-- ==== Sys2Proof/Machine/SpireArith.lean ====
section
/-!
DEFINITION. The MUL/MAC instructions (R176, R177) and the FP instructions (R178, R179).
-/
namespace Sys2Proof.Machine

/-- A product instruction: a function of the two operands to g[rd] with its flags (R176). -/
def mul3 (s : State) (c : Fin 16) (i : Instr) (rd rs1 rs2 : BitVec 5) (f : BitVec 32 → BitVec 32 → FpRes) : Out :=
  .next (spReg s c i false fun x => x.put rd.toNat (f (x.gR rs1.toNat) (x.gR rs2.toNat)))

/-- The exact signed product. -/
def sprod (a b : BitVec 32) : Int := a.toInt * b.toInt
/-- The exact unsigned product. -/
def uprod (a b : BitVec 32) : Int := (a.toNat * b.toNat : Nat)

/-- A MAC instruction (R176): accumulator [22:21] of the rd field, its upper bits 0, wrapping modulo 2⁷². -/
def mac (s : State) (c : Fin 16) (i : Instr) (rd rs1 rs2 : BitVec 5) (f : Int → BitVec 32 → BitVec 32 → Int) : Out :=
  .next (spReg s c i (decide (4 ≤ rd.toNat)) fun x =>
    x.acW rd.toNat (BitVec.ofInt 72 (f (x.acR rd.toNat).toInt (x.gR rs1.toNat) (x.gR rs2.toNat))))

/-- A saturating MAC instruction (R176). -/
def macSat (s : State) (c : Fin 16) (i : Instr) (rd rs1 rs2 : BitVec 5) (f : Int → BitVec 32 → BitVec 32 → Int) : Out :=
  .next (spReg s c i (decide (4 ≤ rd.toNat)) fun x =>
    let r := sat72 (f (x.acR rd.toNat).toInt (x.gR rs1.toNat) (x.gR rs2.toNat))
    (x.acW rd.toNat (BitVec.ofNat 72 r.val)).flag r.flags)

/-- An accumulator read (R176): accumulator [17:16] of the rs1 field, its upper bits 0. -/
def acrd (s : State) (c : Fin 16) (i : Instr) (bad : Bool) (rd rs1 : BitVec 5) (f : BitVec 72 → FpRes) : Out :=
  .next (spReg s c i (decide (4 ≤ rs1.toNat) || bad) fun x => x.put rd.toNat (f (x.acR rs1.toNat)))

/-- An accumulator write (R176). -/
def acwr (s : State) (c : Fin 16) (i : Instr) (bad : Bool) (rd rs1 : BitVec 5) (f : BitVec 72 → BitVec 32 → BitVec 72) : Out :=
  .next (spReg s c i (decide (4 ≤ rd.toNat) || bad) fun x =>
    x.acW rd.toNat (f (x.acR rd.toNat) (x.gR rs1.toNat)))

/-- MUL (R176). -/
def execSpMul (c : Fin 16) (rd rs1 rs2 : BitVec 5) (s : State) : Out :=
  mul3 s c (.spMul c rd rs1 rs2) rd rs1 rs2 fun a b => plain (a * b).toNat

/-- MULH (R176). -/
def execSpMulh (c : Fin 16) (rd rs1 rs2 : BitVec 5) (s : State) : Out :=
  mul3 s c (.spMulh c rd rs1 rs2) rd rs1 rs2 fun a b => plain (uz 32 (sprod a b / 2 ^ 32))

/-- MULHU (R176). -/
def execSpMulhu (c : Fin 16) (rd rs1 rs2 : BitVec 5) (s : State) : Out :=
  mul3 s c (.spMulhu c rd rs1 rs2) rd rs1 rs2 fun a b => plain (uz 32 (uprod a b / 2 ^ 32))

/-- MULQ (R176). -/
def execSpMulq (c : Fin 16) (rd rs1 rs2 : BitVec 5) (s : State) : Out :=
  mul3 s c (.spMulq c rd rs1 rs2) rd rs1 rs2 fun a b => sat32 (crnd (sprod a b) 31)

/-- MAC (R176). -/
def execSpMac (c : Fin 16) (rd rs1 rs2 : BitVec 5) (s : State) : Out :=
  mac s c (.spMac c rd rs1 rs2) rd rs1 rs2 fun v a b => v + sprod a b

/-- MACU (R176). -/
def execSpMacu (c : Fin 16) (rd rs1 rs2 : BitVec 5) (s : State) : Out :=
  mac s c (.spMacu c rd rs1 rs2) rd rs1 rs2 fun v a b => v + uprod a b

/-- MSU (R176). -/
def execSpMsu (c : Fin 16) (rd rs1 rs2 : BitVec 5) (s : State) : Out :=
  mac s c (.spMsu c rd rs1 rs2) rd rs1 rs2 fun v a b => v - sprod a b

/-- MACS (R176). -/
def execSpMacs (c : Fin 16) (rd rs1 rs2 : BitVec 5) (s : State) : Out :=
  macSat s c (.spMacs c rd rs1 rs2) rd rs1 rs2 fun v a b => v + sprod a b

/-- MSUS (R176). -/
def execSpMsus (c : Fin 16) (rd rs1 rs2 : BitVec 5) (s : State) : Out :=
  macSat s c (.spMsus c rd rs1 rs2) rd rs1 rs2 fun v a b => v - sprod a b

/-- ACRD (R176). -/
def execSpAcrd (c : Fin 16) (rd rs1 rs2 : BitVec 5) (s : State) : Out :=
  acrd s c (.spAcrd c rd rs1 rs2) (false) rd rs1 fun v => sat32 (crnd v.toInt rs2.toNat)

/-- ACRDT (R176). -/
def execSpAcrdt (c : Fin 16) (rd rs1 rs2 : BitVec 5) (s : State) : Out :=
  acrd s c (.spAcrdt c rd rs1 rs2) (false) rd rs1 fun v => sat32 (v.toInt / 2 ^ rs2.toNat)

/-- ACRDL (R176). -/
def execSpAcrdl (c : Fin 16) (rd rs1 rs2 : BitVec 5) (s : State) : Out :=
  acrd s c (.spAcrdl c rd rs1 rs2) (rs2 != 0) rd rs1 fun v => plain (v.toNat % 2 ^ 32)

/-- ACRDH (R176). -/
def execSpAcrdh (c : Fin 16) (rd rs1 rs2 : BitVec 5) (s : State) : Out :=
  acrd s c (.spAcrdh c rd rs1 rs2) (rs2 != 0) rd rs1 fun v => plain (bits v.toNat 32 32)

/-- ACRDX (R176). -/
def execSpAcrdx (c : Fin 16) (rd rs1 rs2 : BitVec 5) (s : State) : Out :=
  acrd s c (.spAcrdx c rd rs1 rs2) (rs2 != 0) rd rs1 fun v => plain (uz 32 (sx 8 (bits v.toNat 64 8)))

/-- ACWR (R176). -/
def execSpAcwr (c : Fin 16) (rd rs1 rs2 : BitVec 5) (s : State) : Out :=
  acwr s c (.spAcwr c rd rs1 rs2) (rs2 != 0) rd rs1 (fun _ a => a.signExtend 72)

/-- ACWRH (R176). -/
def execSpAcwrh (c : Fin 16) (rd rs1 rs2 : BitVec 5) (s : State) : Out :=
  acwr s c (.spAcwrh c rd rs1 rs2) (rs2 != 0) rd rs1 (fun v a => v.extractLsb' 64 8 ++ a ++ v.extractLsb' 0 32)

/-- ACWRX (R176). -/
def execSpAcwrx (c : Fin 16) (rd rs1 rs2 : BitVec 5) (s : State) : Out :=
  acwr s c (.spAcwrx c rd rs1 rs2) (rs2 != 0) rd rs1 (fun v a => a.setWidth 8 ++ v.extractLsb' 0 64)

/-- ACCLR (R176). -/
def execSpAcclr (c : Fin 16) (rd rs1 rs2 : BitVec 5) (s : State) : Out :=
  acwr s c (.spAcclr c rd rs1 rs2) (rs1 != 0 || rs2 != 0) rd rs1 (fun _ _ => 0)

/-- An FP instruction of two f registers to an f register (R179). -/
def fp3 (s : State) (c : Fin 16) (i : Instr) (rd rs1 rs2 : BitVec 5) (f : Nat → Nat → FpRes) : Out :=
  .next (spReg s c i false fun x =>
    let r := f (x.fR rs1.toNat).toNat (x.fR rs2.toNat).toNat
    (x.fW rd.toNat (BitVec.ofNat 32 r.val)).flag r.flags)

/-- An FP instruction of one f register to an f register; rs2 is not used. -/
def fp2 (s : State) (c : Fin 16) (i : Instr) (rd rs1 rs2 : BitVec 5) (f : BitVec 32 → FpRes) : Out :=
  .next (spReg s c i (rs2 != 0) fun x =>
    let r := f (x.fR rs1.toNat)
    (x.fW rd.toNat (BitVec.ofNat 32 r.val)).flag r.flags)

/-- A comparison of two f registers to a g register (R179). -/
def fpCmp (s : State) (c : Fin 16) (i : Instr) (rd rs1 rs2 : BitVec 5) (f : Nat → Nat → FpRes) : Out :=
  .next (spReg s c i false fun x => x.put rd.toNat (f (x.fR rs1.toNat).toNat (x.fR rs2.toNat).toNat))

/-- An f register to a g register; rs2 is not used. -/
def fpToG (s : State) (c : Fin 16) (i : Instr) (rd rs1 rs2 : BitVec 5) (f : Nat → FpRes) : Out :=
  .next (spReg s c i (rs2 != 0) fun x => x.put rd.toNat (f (x.fR rs1.toNat).toNat))

/-- A g register to an f register; rs2 is not used. -/
def gToFp (s : State) (c : Fin 16) (i : Instr) (rd rs1 rs2 : BitVec 5) (f : BitVec 32 → FpRes) : Out :=
  .next (spReg s c i (rs2 != 0) fun x =>
    let r := f (x.gR rs1.toNat)
    (x.fW rd.toNat (BitVec.ofNat 32 r.val)).flag r.flags)

/-- FADD (R179). -/
def execSpFadd (c : Fin 16) (rd rs1 rs2 : BitVec 5) (s : State) : Out :=
  fp3 s c (.spFadd c rd rs1 rs2) rd rs1 rs2 fpAdd

/-- FSUB (R179). -/
def execSpFsub (c : Fin 16) (rd rs1 rs2 : BitVec 5) (s : State) : Out :=
  fp3 s c (.spFsub c rd rs1 rs2) rd rs1 rs2 fpSubtract

/-- FMUL (R179). -/
def execSpFmul (c : Fin 16) (rd rs1 rs2 : BitVec 5) (s : State) : Out :=
  fp3 s c (.spFmul c rd rs1 rs2) rd rs1 rs2 fpMul

/-- FDIV (R179). -/
def execSpFdiv (c : Fin 16) (rd rs1 rs2 : BitVec 5) (s : State) : Out :=
  fp3 s c (.spFdiv c rd rs1 rs2) rd rs1 rs2 fpDiv

/-- FMIN (R179). -/
def execSpFmin (c : Fin 16) (rd rs1 rs2 : BitVec 5) (s : State) : Out :=
  fp3 s c (.spFmin c rd rs1 rs2) rd rs1 rs2 (fpPick false)

/-- FMAX (R179). -/
def execSpFmax (c : Fin 16) (rd rs1 rs2 : BitVec 5) (s : State) : Out :=
  fp3 s c (.spFmax c rd rs1 rs2) rd rs1 rs2 (fpPick true)

/-- FSQRT (R179). -/
def execSpFsqrt (c : Fin 16) (rd rs1 rs2 : BitVec 5) (s : State) : Out :=
  fp2 s c (.spFsqrt c rd rs1 rs2) rd rs1 rs2 (fun a => fpSqrt a.toNat)

/-- FABS (R179). -/
def execSpFabs (c : Fin 16) (rd rs1 rs2 : BitVec 5) (s : State) : Out :=
  fp2 s c (.spFabs c rd rs1 rs2) rd rs1 rs2 (fun a => plain (a.toNat % 2 ^ 31))

/-- FNEG (R179). -/
def execSpFneg (c : Fin 16) (rd rs1 rs2 : BitVec 5) (s : State) : Out :=
  fp2 s c (.spFneg c rd rs1 rs2) rd rs1 rs2 (fun a => plain (fpFlip a.toNat))

/-- FMV (R179). -/
def execSpFmv (c : Fin 16) (rd rs1 rs2 : BitVec 5) (s : State) : Out :=
  fp2 s c (.spFmv c rd rs1 rs2) rd rs1 rs2 (fun a => plain a.toNat)

/-- FEQ (R179). -/
def execSpFeq (c : Fin 16) (rd rs1 rs2 : BitVec 5) (s : State) : Out :=
  fpCmp s c (.spFeq c rd rs1 rs2) rd rs1 rs2 fpEq

/-- FLT (R179). -/
def execSpFlt (c : Fin 16) (rd rs1 rs2 : BitVec 5) (s : State) : Out :=
  fpCmp s c (.spFlt c rd rs1 rs2) rd rs1 rs2 fpLt

/-- FLE (R179). -/
def execSpFle (c : Fin 16) (rd rs1 rs2 : BitVec 5) (s : State) : Out :=
  fpCmp s c (.spFle c rd rs1 rs2) rd rs1 rs2 fpLe

/-- FCVTSW (R179). -/
def execSpFcvtsw (c : Fin 16) (rd rs1 rs2 : BitVec 5) (s : State) : Out :=
  gToFp s c (.spFcvtsw c rd rs1 rs2) rd rs1 rs2 (fun a => fpOfInt a.toInt)

/-- FMVGF (R179). -/
def execSpFmvgf (c : Fin 16) (rd rs1 rs2 : BitVec 5) (s : State) : Out :=
  gToFp s c (.spFmvgf c rd rs1 rs2) rd rs1 rs2 (fun a => plain a.toNat)

/-- FCVTW (R179). -/
def execSpFcvtw (c : Fin 16) (rd rs1 rs2 : BitVec 5) (s : State) : Out :=
  fpToG s c (.spFcvtw c rd rs1 rs2) rd rs1 rs2 (fpToInt true)

/-- FCVTWT (R179). -/
def execSpFcvtwt (c : Fin 16) (rd rs1 rs2 : BitVec 5) (s : State) : Out :=
  fpToG s c (.spFcvtwt c rd rs1 rs2) rd rs1 rs2 (fpToInt false)

/-- FMVFG (R179). -/
def execSpFmvfg (c : Fin 16) (rd rs1 rs2 : BitVec 5) (s : State) : Out :=
  fpToG s c (.spFmvfg c rd rs1 rs2) rd rs1 rs2 (plain)

end Sys2Proof.Machine
end

