-- ==== Sys2Proof/Machine/SpireCell.lean ====
section
/-!
DEFINITION. The CELL instructions (R183, R184) and the LAW instructions (R185, R186).
-/
namespace Sys2Proof.Machine

/-- The fields of a CELL descriptor (R183). -/
structure CellDesc where
  off : Nat
  size : Nat
  id : Nat
  cnt : Nat

/-- The descriptor in a word. -/
def CellDesc.of (w : BitVec 32) : CellDesc := ⟨bits w.toNat 0 7, 2 ^ bits w.toNat 7 2, bits w.toNat 9 12, bits w.toNat 21 11⟩

/-- The operands raise ILLEGAL (R183). -/
def CellDesc.illegal (d : CellDesc) (indexed : Bool) : Bool :=
  d.cnt == 0 || decide (1024 < d.cnt) || d.off % d.size != 0 || decide (128 < d.off + d.size)
    || (if indexed then d.id != 0 else decide (4096 < d.id + d.cnt))

/-- The running result of a CELL instruction: the state, the first status not OK, the elements not OK. -/
structure CellRun where
  s : State
  stat : Nat
  bad : Nat

/-- An element's status counted (R183). -/
def CellRun.count (r : CellRun) (s : State) (code : Nat) : CellRun :=
  ⟨s, if r.stat = OK then code else r.stat, if code = OK then r.bad else r.bad + 1⟩

/-- One gathered element (R184): an uncorrectable error takes the stored value and counts as E_ECC. An element of less than a
TCM word reads the word first (R156). -/
def gatherOne (c : Nat) (d : CellDesc) (base i id : Nat) (r : CellRun) : CellRun :=
  if 4096 ≤ id then r.count r.s E_VALUE
  else
    let (s, code, v) := cellRead r.s id d.off d.size
    let a := base + i * d.size
    let s := if d.size < 4 then tcmCorrect s c a d.size else s
    r.count (s.updCore c fun x => x.tcmPut a d.size v) code

/-- One scattered element (R184): one write, judged whole under R66 and R67, on an edge of its own. -/
def scatterOne (c : Nat) (d : CellDesc) (base i id : Nat) (r : CellRun) : CellRun :=
  if 4096 ≤ id then r.count r.s E_VALUE
  else
    let a := base + i * d.size
    let t := tcmCorrect r.s c a d.size
    let s := cellWrite t id d.off d.size ((t.core c).tcmLe a d.size) (t.fab + 1 + i) false
    r.count { s with reply := r.s.reply } s.reply.status

/-- The id of element i (R183): of the range, or from the id table as the TCM holds it when the element moves. -/
def cellId (c : Nat) (d : CellDesc) (indexed : Bool) (table i : Nat) (r : CellRun) : Nat × CellRun :=
  if indexed then
    let s := tcmCorrect r.s c (table + 2 * i) 2
    ((s.core c).tcmLe (table + 2 * i) 2, { r with s := s })
  else (d.id + i, r)

/-- A CELL instruction (R183, R184). -/
def cellInstr (s : State) (c : Fin 16) (i : Instr) (rd rs1 rs2 : BitVec 5) (indexed : Bool)
    (one : Nat → CellDesc → Nat → Nat → Nat → CellRun → CellRun) (reads : Bool) : Out :=
  .next (spire s c i (indexed && rs1.toNat % 2 == 1) fun s x =>
    let d := CellDesc.of (x.gR rs2.toNat)
    let base := (x.gR rs1.toNat).toNat
    let table := (x.gR (rs1.toNat + 1)).toNat
    let bytes := d.cnt * d.size
    if d.illegal indexed then .plainExc s X_ILLEGAL
    else if TCM_SIZE < base + bytes then .exc s X_ACCESS 0 (some (TCM_BASE + base)) false
    else if indexed && decide (TCM_SIZE < table + 2 * d.cnt) then .exc s X_ACCESS 0 (some (TCM_BASE + table)) false
    else if base % d.size != 0 then .exc s X_ALIGN 0 (some (TCM_BASE + base)) false
    else if indexed && table % 2 != 0 then .exc s X_ALIGN 0 (some (TCM_BASE + table)) false
    else if indexed && x.tcmFails table (2 * d.cnt) then tcmEcc s c (TCM_BASE + table)
    else if (reads || decide (d.size < 4)) && x.tcmFails base bytes then tcmEcc s c (TCM_BASE + base)
    else
      let r := forN d.cnt (fun k r => let (id, r) := cellId c d indexed table k r
                                      one c d base k id r) ⟨s, OK, 0⟩
      .done (r.s.updCore c fun x => x.gW rd.toNat (BitVec.ofNat 32 (r.stat % 256 + 2 ^ 16 * r.bad))))
where
  /-- An uncorrectable TCM word among the operands raises ECC before any element moves (R156; log 113). -/
  tcmEcc (s : State) (c a : Nat) : SpRes := .exc (s.raise SPIRE_ECC_UNCORR c) X_ECC E_ECC (some a) false

/-- CGATH (R183). -/
def execSpCgath (c : Fin 16) (rd rs1 rs2 : BitVec 5) (s : State) : Out :=
  cellInstr s c (.spCgath c rd rs1 rs2) rd rs1 rs2 false gatherOne false

/-- CGATHX (R183). -/
def execSpCgathx (c : Fin 16) (rd rs1 rs2 : BitVec 5) (s : State) : Out :=
  cellInstr s c (.spCgathx c rd rs1 rs2) rd rs1 rs2 true gatherOne false

/-- CSCAT (R183). -/
def execSpCscat (c : Fin 16) (rd rs1 rs2 : BitVec 5) (s : State) : Out :=
  cellInstr s c (.spCscat c rd rs1 rs2) rd rs1 rs2 false scatterOne true

/-- CSCATX (R183). -/
def execSpCscatx (c : Fin 16) (rd rs1 rs2 : BitVec 5) (s : State) : Out :=
  cellInstr s c (.spCscatx c rd rs1 rs2) rd rs1 rs2 true scatterOne true

/-- The XF index of a LAW instruction (R185). -/
def xfIndex (x : CoreSt) (rs1 : BitVec 5) (operand : BitVec 12) : Nat := ((x.gR rs1.toNat).toNat + operand.toNat) % 4096

/-- The list number of a LAW instruction (R185). -/
def listIndex (x : CoreSt) (rs1 : BitVec 5) (operand : BitVec 12) : Nat := ((x.gR rs1.toNat).toNat + operand.toNat % 32) % 32

/-- imm16[11:5] of a list operand is not 0 (R185). -/
def listBad (operand : BitVec 12) : Bool := operand.toNat / 32 != 0

/-- LAWIN (R185). -/
def execSpLawin (c : Fin 16) (rd rs1 : BitVec 5) (operand : BitVec 12) (s : State) : Out :=
  .next (spire s c (.spLawin c rd rs1 operand) false fun s x => .done (xfIn s (xfIndex x rs1 operand) (x.fR rd.toNat).toNat))

/-- LAWING (R185). -/
def execSpLawing (c : Fin 16) (rd rs1 : BitVec 5) (operand : BitVec 12) (s : State) : Out :=
  .next (spire s c (.spLawing c rd rs1 operand) false fun s x => .done (xfIn s (xfIndex x rs1 operand) (x.gR rd.toNat).toNat))

/-- LAWOUT (R185). -/
def execSpLawout (c : Fin 16) (rd rs1 : BitVec 5) (operand : BitVec 12) (s : State) : Out :=
  .next (spire s c (.spLawout c rd rs1 operand) false fun s x =>
    let (s, v) := xfOut s (xfIndex x rs1 operand)
    .done (s.setCore c (x.fW rd.toNat (BitVec.ofNat 32 v))))

/-- LAWOUTG (R185). -/
def execSpLawoutg (c : Fin 16) (rd rs1 : BitVec 5) (operand : BitVec 12) (s : State) : Out :=
  .next (spire s c (.spLawoutg c rd rs1 operand) false fun s x =>
    let (s, v) := xfOut s (xfIndex x rs1 operand)
    .done (s.setCore c (x.gW rd.toNat (BitVec.ofNat 32 v))))

/-- LAWGO (R144). -/
def execSpLawgo (c : Fin 16) (rd rs1 : BitVec 5) (operand : BitVec 12) (s : State) : Out :=
  .next (spire s c (.spLawgo c rd rs1 operand) (listBad operand) fun s x =>
    let k := listIndex x rs1 operand
    let code := lawGoCode s k
    .done ((lawGo s k c).updCore c fun x => x.gW rd.toNat (BitVec.ofNat 32 code)))

/-- LAWWT (R186). -/
def execSpLawwt (c : Fin 16) (rd rs1 : BitVec 5) (operand : BitVec 12) (s : State) : Out :=
  .next (spire s c (.spLawwt c rd rs1 operand) (listBad operand || rd != 0) fun s x =>
    let k := listIndex x rs1 operand
    if listActive s k then .hold (s.setCore c { x with wait := some (.lawwt k) }) else .done s)

/-- LAWST (R185). -/
def execSpLawst (c : Fin 16) (rd rs1 : BitVec 5) (operand : BitVec 12) (s : State) : Out :=
  .next (spire s c (.spLawst c rd rs1 operand) (listBad operand) fun s x =>
    let w := 0x104 + 0x10 * listIndex x rs1 operand
    let (s, _, v) := lawAnswer s w (s.readWord .law 0 w)
    .done (s.setCore c (x.gW rd.toNat (BitVec.ofNat 32 v))))

end Sys2Proof.Machine
end

