-- ==== Sys2Proof/Machine/SpireCtl.lean ====
section
/-!
DEFINITION. The CSR instructions over the CSRs of R169 and R180, the branches (R192) and the SYS instructions (R162,
R193).
-/
namespace Sys2Proof.Machine

/-- CORE clocks since a core started (R169): two to a FAB clock. -/
def coreClocks (s : State) (x : CoreSt) : Nat := 2 * (s.fab - x.startEdge) % 2 ^ 64

/-- A CSR as it reads; none for a number no rule defines (R169, R180, R191). -/
def csrRead (s : State) (c n : Nat) (x : CoreSt) : Option Nat :=
  match n with
  | 0x000 => some (bitv x.ie 0 + bitv x.mie 1 + bitv x.inx 2 + bitv x.task 3)
  | 0x001 => some (x.xpc % 2 ^ 18 / 4 * 4)
  | 0x002 => some (x.xcode + 2 ^ 8 * x.xsrc + 2 ^ 16 * x.xstat)
  | 0x003 => some (x.xaddr % 2 ^ 32)
  | 0x004 => some (x.xaddr / 2 ^ 32 % 256)
  | 0x005 => some x.vbase
  | 0x006 => some c
  | 0x007 => some (bitv x.xsIe 0 + bitv x.xsMie 1 + bitv x.xsTask 3)
  | 0x008 => some (coreClocks s x % 2 ^ 32)
  | 0x009 => some x.ccHi
  | 0x00A => some x.ticks
  | 0x00B => some x.dwin
  | 0x00C => some x.barTo
  | 0x00D => some (x.msrc + bitv x.msrcValid 8)
  | 0x00E => some x.arith
  | _ =>
    if 0x010 ≤ n && n < 0x018 then some (x.ien.get 0 (n - 0x010))
    else if 0x018 ≤ n && n < 0x020 then some (ipend s (n - 0x018))
    else if 0x020 ≤ n && n < 0x030 then some (x.ipri.get 0 (n - 0x020))
    else if 0x040 ≤ n && n < 0x048 then
      some (if n % 2 = 0 then x.twb.get 0 ((n - 0x040) / 2) else x.twl.get 0 ((n - 0x040) / 2))
    else none
where
  /-- A bit of a CSR. -/
  bitv (b : Bool) (k : Nat) : Nat := if b then 2 ^ k else 0

/-- A CSR written (R169): its writable bits, from the next instruction. -/
def csrWrite (n v : Nat) (x : CoreSt) : CoreSt :=
  match n with
  | 0x000 => { x with ie := bit v 0, mie := bit v 1, inx := bit v 2 }
  | 0x001 => { x with xpc := v % 2 ^ 18 / 4 * 4 }
  | 0x005 => { x with vbase := v % 2 ^ 18 / 256 * 256 }
  | 0x007 => { x with xsIe := bit v 0, xsMie := bit v 1, xsTask := bit v 3 }
  | 0x00B => { x with dwin := v % 8 }
  | 0x00C => { x with barTo := v % 2 ^ 32 }
  | 0x00E => { x with arith := bits v 0 5 + 256 * bits v 8 1 }
  | _ =>
    if 0x010 ≤ n && n < 0x018 then { x with ien := x.ien.set (n - 0x010) (v % 2 ^ 32) }
    else if 0x020 ≤ n && n < 0x030 then { x with ipri := x.ipri.set (n - 0x020) (v % 2 ^ 32) }
    else if 0x040 ≤ n && n < 0x048 then
      (if n % 2 = 0 then { x with twb := x.twb.set ((n - 0x040) / 2) (v % 2 ^ 28) }
       else { x with twl := x.twl.set ((n - 0x040) / 2) (v % 2 ^ 30) })
    else x

/-- A CSR read returns the value; a read of CCOUNT_LO latches CCOUNT_HI (R169). -/
def csrLatch (s : State) (n : Nat) (x : CoreSt) : CoreSt :=
  if n = 0x008 then { x with ccHi := coreClocks s x / 2 ^ 32 } else x

/-- A CSR instruction (R191): an unknown number raises ILLEGAL, a write in TASK other than to DWIN raises PRIV. -/
def csrInstr (s : State) (c : Fin 16) (i : Instr) (bad : Bool) (rd : BitVec 5) (csr : BitVec 12)
    (new : CoreSt → Nat → Option Nat) : Out :=
  .next (spire s c i bad fun s x =>
    match csrRead s c csr.toNat x with
    | none => .plainExc s X_ILLEGAL
    | some old =>
      match new x old with
      | none => .done (s.setCore c ((csrLatch s csr.toNat x).gW rd.toNat (BitVec.ofNat 32 old)))
      | some v =>
        if x.task && csr.toNat != 0x00B then .plainExc s X_PRIV
        else .done (s.setCore c (csrWrite csr.toNat v ((csrLatch s csr.toNat x).gW rd.toNat (BitVec.ofNat 32 old)))))

/-- CSRR (R191). -/
def execSpCsrr (c : Fin 16) (rd rs1 : BitVec 5) (operand : BitVec 12) (s : State) : Out :=
  csrInstr s c (.spCsrr c rd rs1 operand) (rs1 != 0) rd operand (fun _ _ => none)

/-- CSRW (R191). -/
def execSpCsrw (c : Fin 16) (rd rs1 : BitVec 5) (operand : BitVec 12) (s : State) : Out :=
  csrInstr s c (.spCsrw c rd rs1 operand) (false) rd operand (fun x _ => some (x.gR rs1.toNat).toNat)

/-- CSRS (R191). -/
def execSpCsrs (c : Fin 16) (rd rs1 : BitVec 5) (operand : BitVec 12) (s : State) : Out :=
  csrInstr s c (.spCsrs c rd rs1 operand) (false) rd operand (fun x old => some (old ||| (x.gR rs1.toNat).toNat))

/-- CSRC (R191). -/
def execSpCsrc (c : Fin 16) (rd rs1 : BitVec 5) (operand : BitVec 12) (s : State) : Out :=
  csrInstr s c (.spCsrc c rd rs1 operand) (false) rd operand (fun x old => some (old &&& (~~~ (x.gR rs1.toNat)).toNat))

/-- A branch to a target (R192): outside TCM it raises ACCESS, XADDR the target. -/
def branchTo (s : State) (t : Int) : SpRes :=
  if 0 ≤ t && t < (TCM_SIZE : Int) then .jump s t.toNat else .exc s X_ACCESS 0 (some (uz 32 t)) false

/-- The target of a relative branch (R192): words from the branch's own address. -/
def relTarget (x : CoreSt) (off : Int) : Int := (x.pc : Int) + 4 * off

/-- A conditional branch (R192). -/
def condBranch (s : State) (c : Fin 16) (i : Instr) (off : BitVec 16) (taken : CoreSt → Bool) : Out :=
  .next (spire s c i false fun s x => if taken x then branchTo s (relTarget x off.toInt) else .done s)

/-- BR (R192). -/
def execSpBr (c : Fin 16) (off : BitVec 26) (s : State) : Out :=
  .next (spire s c (.spBr c off) false fun s x => branchTo s (relTarget x off.toInt))

/-- BRL (R192). -/
def execSpBrl (c : Fin 16) (off : BitVec 26) (s : State) : Out :=
  .next (spire s c (.spBrl c off) false fun s x =>
    match branchTo s (relTarget x off.toInt) with
    | .jump s t => .jump (s.setCore c (x.gW 31 (BitVec.ofNat 32 (x.pc + 4)))) t
    | r => r)

/-- JALR (R192). -/
def execSpJalr (c : Fin 16) (rd rs1 : BitVec 5) (imm : BitVec 16) (s : State) : Out :=
  .next (spire s c (.spJalr c rd rs1 imm) false fun s x =>
    let t := (x.gR rs1.toNat + imm.signExtend 32).toNat
    if TCM_SIZE ≤ t then .exc s X_ACCESS 0 (some t) false
    else if t % 4 != 0 then .exc s X_ALIGN 0 (some (TCM_BASE + t)) false
    else .jump (s.setCore c (x.gW rd.toNat (BitVec.ofNat 32 (x.pc + 4)))) t)

/-- BEQ (R192). -/
def execSpBeq (c : Fin 16) (ra rb : BitVec 5) (off : BitVec 16) (s : State) : Out :=
  condBranch s c (.spBeq c ra rb off) off fun x => x.gR ra.toNat == x.gR rb.toNat

/-- BNE (R192). -/
def execSpBne (c : Fin 16) (ra rb : BitVec 5) (off : BitVec 16) (s : State) : Out :=
  condBranch s c (.spBne c ra rb off) off fun x => x.gR ra.toNat != x.gR rb.toNat

/-- BLT (R192). -/
def execSpBlt (c : Fin 16) (ra rb : BitVec 5) (off : BitVec 16) (s : State) : Out :=
  condBranch s c (.spBlt c ra rb off) off fun x => (x.gR ra.toNat).slt (x.gR rb.toNat)

/-- BGE (R192). -/
def execSpBge (c : Fin 16) (ra rb : BitVec 5) (off : BitVec 16) (s : State) : Out :=
  condBranch s c (.spBge c ra rb off) off fun x => !(x.gR ra.toNat).slt (x.gR rb.toNat)

/-- BLTU (R192). -/
def execSpBltu (c : Fin 16) (ra rb : BitVec 5) (off : BitVec 16) (s : State) : Out :=
  condBranch s c (.spBltu c ra rb off) off fun x => (x.gR ra.toNat).ult (x.gR rb.toNat)

/-- BGEU (R192). -/
def execSpBgeu (c : Fin 16) (ra rb : BitVec 5) (off : BitVec 16) (s : State) : Out :=
  condBranch s c (.spBgeu c ra rb off) off fun x => !(x.gR ra.toNat).ult (x.gR rb.toNat)

/-- BEQI (R192). -/
def execSpBeqi (c : Fin 16) (ra simm : BitVec 5) (off : BitVec 16) (s : State) : Out :=
  condBranch s c (.spBeqi c ra simm off) off fun x => x.gR ra.toNat == simm.signExtend 32

/-- BNEI (R192). -/
def execSpBnei (c : Fin 16) (ra simm : BitVec 5) (off : BitVec 16) (s : State) : Out :=
  condBranch s c (.spBnei c ra simm off) off fun x => x.gR ra.toNat != simm.signExtend 32

/-- BLTI (R192). -/
def execSpBlti (c : Fin 16) (ra simm : BitVec 5) (off : BitVec 16) (s : State) : Out :=
  condBranch s c (.spBlti c ra simm off) off fun x => (x.gR ra.toNat).slt (simm.signExtend 32)

/-- BGEI (R192). -/
def execSpBgei (c : Fin 16) (ra simm : BitVec 5) (off : BitVec 16) (s : State) : Out :=
  condBranch s c (.spBgei c ra simm off) off fun x => !(x.gR ra.toNat).slt (simm.signExtend 32)

/-- A SYS instruction without operands that TASK may not execute (R193). -/
def sysInstr (s : State) (c : Fin 16) (i : Instr) (rd rs1 rs2 : BitVec 5) (f : State → SpRes) : Out :=
  .next (spire s c i (rd != 0 || rs1 != 0 || rs2 != 0) fun s x => if x.task then .plainExc s X_PRIV else f s)

/-- XRET (R162). -/
def execSpXret (c : Fin 16) (rd rs1 rs2 : BitVec 5) (s : State) : Out :=
  sysInstr s c (.spXret c rd rs1 rs2) rd rs1 rs2 fun s => .ret s

/-- HALT (R193). -/
def execSpHalt (c : Fin 16) (rd rs1 rs2 : BitVec 5) (s : State) : Out :=
  sysInstr s c (.spHalt c rd rs1 rs2) rd rs1 rs2 fun s => .halt s

/-- TRAP (R193). -/
def execSpTrap (c : Fin 16) (rd : BitVec 5) (code : BitVec 10) (s : State) : Out :=
  .next (spire s c (.spTrap c rd code) (rd != 0) fun s _ => .exc s X_TRAP 0 none true)

/-- BREAK (R193). -/
def execSpBreak (c : Fin 16) (rd rs1 rs2 : BitVec 5) (s : State) : Out :=
  .next (spire s c (.spBreak c rd rs1 rs2) (rd != 0 || rs1 != 0 || rs2 != 0) fun s _ => .plainExc s X_BREAK)

end Sys2Proof.Machine
end

