-- ==== Sys2Proof/Machine/Dispatch.lean ====
section
/-!
DEFINITION. One arm per command: the meaning it calls.
-/
namespace Sys2Proof.Machine

def exec (i : Instr) (s : State) : Host.Outcome State Fault Refusal :=
  match i with
  | .registerWrite req addr data => Sys2Proof.Machine.execRegisterWrite req addr data s
  | .errClear req addr => Sys2Proof.Machine.execErrClear req addr s
  | .unmappedAccess req addr write size data => Sys2Proof.Machine.execUnmappedAccess req addr write size data s
  | .hiWordLatchRead req addr => Sys2Proof.Machine.execHiWordLatchRead req addr s
  | .cycleTick => Sys2Proof.Machine.execCycleTick s
  | .pipeEnd => Sys2Proof.Machine.execPipeEnd s
  | .retDeadline => Sys2Proof.Machine.execRetDeadline s
  | .cseCompletion => Sys2Proof.Machine.execCseCompletion s
  | .nCutoff => Sys2Proof.Machine.execNCutoff s
  | .budgetRefill k => Sys2Proof.Machine.execBudgetRefill k s
  | .selectorsDone => Sys2Proof.Machine.execSelectorsDone s
  | .gateStageDone => Sys2Proof.Machine.execGateStageDone s
  | .launchSetupPoint ready => Sys2Proof.Machine.execLaunchSetupPoint ready s
  | .ovrLimitReached r => Sys2Proof.Machine.execOvrLimitReached r s
  | .pipeOvrClear req idx mask => Sys2Proof.Machine.execPipeOvrClear req idx mask s
  | .ovrBlockClear req => Sys2Proof.Machine.execOvrBlockClear req s
  | .ringFrameReceive r edge blocks => Sys2Proof.Machine.execRingFrameReceive r edge blocks s
  | .ringStale r => Sys2Proof.Machine.execRingStale r s
  | .ringLost r => Sys2Proof.Machine.execRingLost r s
  | .ringLostClear req r => Sys2Proof.Machine.execRingLostClear req r s
  | .ringClrStats req r => Sys2Proof.Machine.execRingClrStats req r s
  | .ringLockLost r => Sys2Proof.Machine.execRingLockLost r s
  | .ringLockRegained r => Sys2Proof.Machine.execRingLockRegained r s
  | .mgmtReqPush req r data => Sys2Proof.Machine.execMgmtReqPush req r data s
  | .mgmtRspPop req r => Sys2Proof.Machine.execMgmtRspPop req r s
  | .mgmtNoack r => Sys2Proof.Machine.execMgmtNoack r s
  | .mgmtResponseReturn r stat data noack => Sys2Proof.Machine.execMgmtResponseReturn r stat data noack s
  | .termReset c ver fullBridge hsCp dcdc => Sys2Proof.Machine.execTermReset c ver fullBridge hsCp dcdc s
  | .termFrameEnd c blocks sensors => Sys2Proof.Machine.execTermFrameEnd c blocks sensors s
  | .termMgmtHeader c pos header sensors => Sys2Proof.Machine.execTermMgmtHeader c pos header sensors s
  | .termSelfTestComplete c pass => Sys2Proof.Machine.execTermSelfTestComplete c pass s
  | .termFrameBreak c blocks => Sys2Proof.Machine.execTermFrameBreak c blocks s
  | .termWatchdogExpiry c since => Sys2Proof.Machine.execTermWatchdogExpiry c since s
  | .termSwitchTurnOn c k leg => Sys2Proof.Machine.execTermSwitchTurnOn c k leg s
  | .termInterlockTimeout c k leg => Sys2Proof.Machine.execTermInterlockTimeout c k leg s
  | .termComparatorTrip c b sensors => Sys2Proof.Machine.execTermComparatorTrip c b sensors s
  | .termLockLost c up => Sys2Proof.Machine.execTermLockLost c up s
  | .termLockRegained c up => Sys2Proof.Machine.execTermLockRegained c up s
  | .termWrapStart c up => Sys2Proof.Machine.execTermWrapStart c up s
  | .termWrapStop c up => Sys2Proof.Machine.execTermWrapStop c up s
  | .cellStoreWrite req c idx size val => Sys2Proof.Machine.execCellStoreWrite req c idx size val s
  | .ecSetPend req c => Sys2Proof.Machine.execEcSetPend req c s
  | .clrMax req c => Sys2Proof.Machine.execClrMax req c s
  | .clrCorrupt req c => Sys2Proof.Machine.execClrCorrupt req c s
  | .cseInit req => Sys2Proof.Machine.execCseInit req s
  | .cseInitDone => Sys2Proof.Machine.execCseInitDone s
  | .leaseUpdate => Sys2Proof.Machine.execLeaseUpdate s
  | .armNWrite req k data => Sys2Proof.Machine.execArmNWrite req k data s
  | .armVrefArmWrite req k data => Sys2Proof.Machine.execArmVrefArmWrite req k data s
  | .stateErr c => Sys2Proof.Machine.execStateErr c s
  | .gcsSetArm req mask => Sys2Proof.Machine.execGcsSetArm req mask s
  | .gcsSetAll req => Sys2Proof.Machine.execGcsSetAll req s
  | .gcsSetRing req r => Sys2Proof.Machine.execGcsSetRing req r s
  | .gcsArmClear req mask => Sys2Proof.Machine.execGcsArmClear req mask s
  | .gcsAllClear req => Sys2Proof.Machine.execGcsAllClear req s
  | .gcsRingClear req idx mask => Sys2Proof.Machine.execGcsRingClear req idx mask s
  | .gcsCellClrFlt req c => Sys2Proof.Machine.execGcsCellClrFlt req c s
  | .gcsCellClrIllegal req c => Sys2Proof.Machine.execGcsCellClrIllegal req c s
  | .gcsEvtLatch req => Sys2Proof.Machine.execGcsEvtLatch req s
  | .gcsEvtPop req => Sys2Proof.Machine.execGcsEvtPop req s
  | .lawListStart => Sys2Proof.Machine.execLawListStart s
  | .lawEntryIssue => Sys2Proof.Machine.execLawEntryIssue s
  | .lawEntryComplete => Sys2Proof.Machine.execLawEntryComplete s
  | .slotInit req idx typ => Sys2Proof.Machine.execSlotInit req idx typ s
  | .lawInit req => Sys2Proof.Machine.execLawInit req s
  | .lawInitDone => Sys2Proof.Machine.execLawInitDone s
  | .testStart req => Sys2Proof.Machine.execTestStart req s
  | .testStop req => Sys2Proof.Machine.execTestStop req s
  | .testEnd => Sys2Proof.Machine.execTestEnd s
  | .interruptTaken c => Sys2Proof.Machine.execInterruptTaken c s
  | .msgException c => Sys2Proof.Machine.execMsgException c s
  | .waittRelease => Sys2Proof.Machine.execWaittRelease s
  | .barRelease mask => Sys2Proof.Machine.execBarRelease mask s
  | .barTimeout c => Sys2Proof.Machine.execBarTimeout c s
  | .messageArrival c => Sys2Proof.Machine.execMessageArrival c s
  | .recvRelease c => Sys2Proof.Machine.execRecvRelease c s
  | .storeCommit c => Sys2Proof.Machine.execStoreCommit c s
  | .loadReturn c => Sys2Proof.Machine.execLoadReturn c s
  | .lawwtRelease c => Sys2Proof.Machine.execLawwtRelease c s
  | .lockGrant t => Sys2Proof.Machine.execLockGrant t s
  | .spireRun req c => Sys2Proof.Machine.execSpireRun req c s
  | .spireHalt req c => Sys2Proof.Machine.execSpireHalt req c s
  | .spireTcmInit req c => Sys2Proof.Machine.execSpireTcmInit req c s
  | .spireTcmInitDone c => Sys2Proof.Machine.execSpireTcmInitDone c s
  | .spireLoadData req c write data => Sys2Proof.Machine.execSpireLoadData req c write data s
  | .spireMboxSend req c data => Sys2Proof.Machine.execSpireMboxSend req c data s
  | .spAdd c rd rs1 rs2 => Sys2Proof.Machine.execSpAdd c rd rs1 rs2 s
  | .spSub c rd rs1 rs2 => Sys2Proof.Machine.execSpSub c rd rs1 rs2 s
  | .spAnd c rd rs1 rs2 => Sys2Proof.Machine.execSpAnd c rd rs1 rs2 s
  | .spOr c rd rs1 rs2 => Sys2Proof.Machine.execSpOr c rd rs1 rs2 s
  | .spXor c rd rs1 rs2 => Sys2Proof.Machine.execSpXor c rd rs1 rs2 s
  | .spNor c rd rs1 rs2 => Sys2Proof.Machine.execSpNor c rd rs1 rs2 s
  | .spSlt c rd rs1 rs2 => Sys2Proof.Machine.execSpSlt c rd rs1 rs2 s
  | .spSltu c rd rs1 rs2 => Sys2Proof.Machine.execSpSltu c rd rs1 rs2 s
  | .spSll c rd rs1 rs2 => Sys2Proof.Machine.execSpSll c rd rs1 rs2 s
  | .spSrl c rd rs1 rs2 => Sys2Proof.Machine.execSpSrl c rd rs1 rs2 s
  | .spSra c rd rs1 rs2 => Sys2Proof.Machine.execSpSra c rd rs1 rs2 s
  | .spSlli c rd rs1 rs2 => Sys2Proof.Machine.execSpSlli c rd rs1 rs2 s
  | .spSrli c rd rs1 rs2 => Sys2Proof.Machine.execSpSrli c rd rs1 rs2 s
  | .spSrai c rd rs1 rs2 => Sys2Proof.Machine.execSpSrai c rd rs1 rs2 s
  | .spMin c rd rs1 rs2 => Sys2Proof.Machine.execSpMin c rd rs1 rs2 s
  | .spMax c rd rs1 rs2 => Sys2Proof.Machine.execSpMax c rd rs1 rs2 s
  | .spMinu c rd rs1 rs2 => Sys2Proof.Machine.execSpMinu c rd rs1 rs2 s
  | .spMaxu c rd rs1 rs2 => Sys2Proof.Machine.execSpMaxu c rd rs1 rs2 s
  | .spAdds c rd rs1 rs2 => Sys2Proof.Machine.execSpAdds c rd rs1 rs2 s
  | .spSubs c rd rs1 rs2 => Sys2Proof.Machine.execSpSubs c rd rs1 rs2 s
  | .spClz c rd rs1 rs2 => Sys2Proof.Machine.execSpClz c rd rs1 rs2 s
  | .spSextb c rd rs1 rs2 => Sys2Proof.Machine.execSpSextb c rd rs1 rs2 s
  | .spSexth c rd rs1 rs2 => Sys2Proof.Machine.execSpSexth c rd rs1 rs2 s
  | .spZexth c rd rs1 rs2 => Sys2Proof.Machine.execSpZexth c rd rs1 rs2 s
  | .spAbs c rd rs1 rs2 => Sys2Proof.Machine.execSpAbs c rd rs1 rs2 s
  | .spAddi c rd rs1 imm => Sys2Proof.Machine.execSpAddi c rd rs1 imm s
  | .spAndi c rd rs1 imm => Sys2Proof.Machine.execSpAndi c rd rs1 imm s
  | .spOri c rd rs1 imm => Sys2Proof.Machine.execSpOri c rd rs1 imm s
  | .spXori c rd rs1 imm => Sys2Proof.Machine.execSpXori c rd rs1 imm s
  | .spSlti c rd rs1 imm => Sys2Proof.Machine.execSpSlti c rd rs1 imm s
  | .spSltiu c rd rs1 imm => Sys2Proof.Machine.execSpSltiu c rd rs1 imm s
  | .spImmh c rd rs1 imm => Sys2Proof.Machine.execSpImmh c rd rs1 imm s
  | .spMul c rd rs1 rs2 => Sys2Proof.Machine.execSpMul c rd rs1 rs2 s
  | .spMulh c rd rs1 rs2 => Sys2Proof.Machine.execSpMulh c rd rs1 rs2 s
  | .spMulhu c rd rs1 rs2 => Sys2Proof.Machine.execSpMulhu c rd rs1 rs2 s
  | .spMulq c rd rs1 rs2 => Sys2Proof.Machine.execSpMulq c rd rs1 rs2 s
  | .spMac c rd rs1 rs2 => Sys2Proof.Machine.execSpMac c rd rs1 rs2 s
  | .spMacu c rd rs1 rs2 => Sys2Proof.Machine.execSpMacu c rd rs1 rs2 s
  | .spMsu c rd rs1 rs2 => Sys2Proof.Machine.execSpMsu c rd rs1 rs2 s
  | .spMacs c rd rs1 rs2 => Sys2Proof.Machine.execSpMacs c rd rs1 rs2 s
  | .spMsus c rd rs1 rs2 => Sys2Proof.Machine.execSpMsus c rd rs1 rs2 s
  | .spAcrd c rd rs1 rs2 => Sys2Proof.Machine.execSpAcrd c rd rs1 rs2 s
  | .spAcrdt c rd rs1 rs2 => Sys2Proof.Machine.execSpAcrdt c rd rs1 rs2 s
  | .spAcrdl c rd rs1 rs2 => Sys2Proof.Machine.execSpAcrdl c rd rs1 rs2 s
  | .spAcrdh c rd rs1 rs2 => Sys2Proof.Machine.execSpAcrdh c rd rs1 rs2 s
  | .spAcrdx c rd rs1 rs2 => Sys2Proof.Machine.execSpAcrdx c rd rs1 rs2 s
  | .spAcwr c rd rs1 rs2 => Sys2Proof.Machine.execSpAcwr c rd rs1 rs2 s
  | .spAcwrh c rd rs1 rs2 => Sys2Proof.Machine.execSpAcwrh c rd rs1 rs2 s
  | .spAcwrx c rd rs1 rs2 => Sys2Proof.Machine.execSpAcwrx c rd rs1 rs2 s
  | .spAcclr c rd rs1 rs2 => Sys2Proof.Machine.execSpAcclr c rd rs1 rs2 s
  | .spFadd c rd rs1 rs2 => Sys2Proof.Machine.execSpFadd c rd rs1 rs2 s
  | .spFsub c rd rs1 rs2 => Sys2Proof.Machine.execSpFsub c rd rs1 rs2 s
  | .spFmul c rd rs1 rs2 => Sys2Proof.Machine.execSpFmul c rd rs1 rs2 s
  | .spFdiv c rd rs1 rs2 => Sys2Proof.Machine.execSpFdiv c rd rs1 rs2 s
  | .spFsqrt c rd rs1 rs2 => Sys2Proof.Machine.execSpFsqrt c rd rs1 rs2 s
  | .spFmin c rd rs1 rs2 => Sys2Proof.Machine.execSpFmin c rd rs1 rs2 s
  | .spFmax c rd rs1 rs2 => Sys2Proof.Machine.execSpFmax c rd rs1 rs2 s
  | .spFabs c rd rs1 rs2 => Sys2Proof.Machine.execSpFabs c rd rs1 rs2 s
  | .spFneg c rd rs1 rs2 => Sys2Proof.Machine.execSpFneg c rd rs1 rs2 s
  | .spFmv c rd rs1 rs2 => Sys2Proof.Machine.execSpFmv c rd rs1 rs2 s
  | .spFeq c rd rs1 rs2 => Sys2Proof.Machine.execSpFeq c rd rs1 rs2 s
  | .spFlt c rd rs1 rs2 => Sys2Proof.Machine.execSpFlt c rd rs1 rs2 s
  | .spFle c rd rs1 rs2 => Sys2Proof.Machine.execSpFle c rd rs1 rs2 s
  | .spFcvtsw c rd rs1 rs2 => Sys2Proof.Machine.execSpFcvtsw c rd rs1 rs2 s
  | .spFcvtw c rd rs1 rs2 => Sys2Proof.Machine.execSpFcvtw c rd rs1 rs2 s
  | .spFcvtwt c rd rs1 rs2 => Sys2Proof.Machine.execSpFcvtwt c rd rs1 rs2 s
  | .spFmvgf c rd rs1 rs2 => Sys2Proof.Machine.execSpFmvgf c rd rs1 rs2 s
  | .spFmvfg c rd rs1 rs2 => Sys2Proof.Machine.execSpFmvfg c rd rs1 rs2 s
  | .spLdb c form rd rs1 imm => Sys2Proof.Machine.execSpLdb c form rd rs1 imm s
  | .spLdbu c form rd rs1 imm => Sys2Proof.Machine.execSpLdbu c form rd rs1 imm s
  | .spLdh c form rd rs1 imm => Sys2Proof.Machine.execSpLdh c form rd rs1 imm s
  | .spLdhu c form rd rs1 imm => Sys2Proof.Machine.execSpLdhu c form rd rs1 imm s
  | .spLdw c form rd rs1 imm => Sys2Proof.Machine.execSpLdw c form rd rs1 imm s
  | .spStb c form rd rs1 imm => Sys2Proof.Machine.execSpStb c form rd rs1 imm s
  | .spSth c form rd rs1 imm => Sys2Proof.Machine.execSpSth c form rd rs1 imm s
  | .spStw c form rd rs1 imm => Sys2Proof.Machine.execSpStw c form rd rs1 imm s
  | .spFlw c form rd rs1 imm => Sys2Proof.Machine.execSpFlw c form rd rs1 imm s
  | .spFsw c form rd rs1 imm => Sys2Proof.Machine.execSpFsw c form rd rs1 imm s
  | .spCgath c rd rs1 rs2 => Sys2Proof.Machine.execSpCgath c rd rs1 rs2 s
  | .spCgathx c rd rs1 rs2 => Sys2Proof.Machine.execSpCgathx c rd rs1 rs2 s
  | .spCscat c rd rs1 rs2 => Sys2Proof.Machine.execSpCscat c rd rs1 rs2 s
  | .spCscatx c rd rs1 rs2 => Sys2Proof.Machine.execSpCscatx c rd rs1 rs2 s
  | .spLawin c rd rs1 operand => Sys2Proof.Machine.execSpLawin c rd rs1 operand s
  | .spLawing c rd rs1 operand => Sys2Proof.Machine.execSpLawing c rd rs1 operand s
  | .spLawout c rd rs1 operand => Sys2Proof.Machine.execSpLawout c rd rs1 operand s
  | .spLawoutg c rd rs1 operand => Sys2Proof.Machine.execSpLawoutg c rd rs1 operand s
  | .spLawgo c rd rs1 operand => Sys2Proof.Machine.execSpLawgo c rd rs1 operand s
  | .spLawwt c rd rs1 operand => Sys2Proof.Machine.execSpLawwt c rd rs1 operand s
  | .spLawst c rd rs1 operand => Sys2Proof.Machine.execSpLawst c rd rs1 operand s
  | .spWaitt c rd rs1 rs2 => Sys2Proof.Machine.execSpWaitt c rd rs1 rs2 s
  | .spBar c rd rs1 rs2 => Sys2Proof.Machine.execSpBar c rd rs1 rs2 s
  | .spFence c rd rs1 rs2 => Sys2Proof.Machine.execSpFence c rd rs1 rs2 s
  | .spSend c rd rs1 rs2 => Sys2Proof.Machine.execSpSend c rd rs1 rs2 s
  | .spRecv c rd rs1 rs2 => Sys2Proof.Machine.execSpRecv c rd rs1 rs2 s
  | .spRecvn c rd rs1 rs2 => Sys2Proof.Machine.execSpRecvn c rd rs1 rs2 s
  | .spLockacq c rd rs1 operand => Sys2Proof.Machine.execSpLockacq c rd rs1 operand s
  | .spLocktry c rd rs1 operand => Sys2Proof.Machine.execSpLocktry c rd rs1 operand s
  | .spLockrel c rd rs1 operand => Sys2Proof.Machine.execSpLockrel c rd rs1 operand s
  | .spLockclr c rd rs1 operand => Sys2Proof.Machine.execSpLockclr c rd rs1 operand s
  | .spCsrr c rd rs1 operand => Sys2Proof.Machine.execSpCsrr c rd rs1 operand s
  | .spCsrw c rd rs1 operand => Sys2Proof.Machine.execSpCsrw c rd rs1 operand s
  | .spCsrs c rd rs1 operand => Sys2Proof.Machine.execSpCsrs c rd rs1 operand s
  | .spCsrc c rd rs1 operand => Sys2Proof.Machine.execSpCsrc c rd rs1 operand s
  | .spBr c off => Sys2Proof.Machine.execSpBr c off s
  | .spBrl c off => Sys2Proof.Machine.execSpBrl c off s
  | .spJalr c rd rs1 imm => Sys2Proof.Machine.execSpJalr c rd rs1 imm s
  | .spBeq c ra rb off => Sys2Proof.Machine.execSpBeq c ra rb off s
  | .spBne c ra rb off => Sys2Proof.Machine.execSpBne c ra rb off s
  | .spBlt c ra rb off => Sys2Proof.Machine.execSpBlt c ra rb off s
  | .spBge c ra rb off => Sys2Proof.Machine.execSpBge c ra rb off s
  | .spBltu c ra rb off => Sys2Proof.Machine.execSpBltu c ra rb off s
  | .spBgeu c ra rb off => Sys2Proof.Machine.execSpBgeu c ra rb off s
  | .spBeqi c ra simm off => Sys2Proof.Machine.execSpBeqi c ra simm off s
  | .spBnei c ra simm off => Sys2Proof.Machine.execSpBnei c ra simm off s
  | .spBlti c ra simm off => Sys2Proof.Machine.execSpBlti c ra simm off s
  | .spBgei c ra simm off => Sys2Proof.Machine.execSpBgei c ra simm off s
  | .spXret c rd rs1 rs2 => Sys2Proof.Machine.execSpXret c rd rs1 rs2 s
  | .spHalt c rd rs1 rs2 => Sys2Proof.Machine.execSpHalt c rd rs1 rs2 s
  | .spTrap c rd code => Sys2Proof.Machine.execSpTrap c rd code s
  | .spBreak c rd rs1 rs2 => Sys2Proof.Machine.execSpBreak c rd rs1 rs2 s
  | .leaseEnWrite req n set => Sys2Proof.Machine.execLeaseEnWrite req n set s
  | .leaseSuspend req n set => Sys2Proof.Machine.execLeaseSuspend req n set s
  | .closeNow req n => Sys2Proof.Machine.execCloseNow req n s
  | .curveLoad req n => Sys2Proof.Machine.execCurveLoad req n s
  | .periodClose n => Sys2Proof.Machine.execPeriodClose n s
  | .pageSignComplete => Sys2Proof.Machine.execPageSignComplete s
  | .pageResend => Sys2Proof.Machine.execPageResend s
  | .ldgAck req data => Sys2Proof.Machine.execLdgAck req data s
  | .ldgAckRspRead req => Sys2Proof.Machine.execLdgAckRspRead req s
  | .checkpointTimer => Sys2Proof.Machine.execCheckpointTimer s
  | .ckptNow req => Sys2Proof.Machine.execCkptNow req s
  | .checkpointComplete good => Sys2Proof.Machine.execCheckpointComplete good s
  | .ldgRestore req => Sys2Proof.Machine.execLdgRestore req s
  | .restoreComplete => Sys2Proof.Machine.execRestoreComplete s
  | .scrubRead idx => Sys2Proof.Machine.execScrubRead idx s
  | .markFail req c => Sys2Proof.Machine.execMarkFail req c s
  | .memcInit req c => Sys2Proof.Machine.execMemcInit req c s
  | .memcInitDone c => Sys2Proof.Machine.execMemcInitDone c s
  | .localPrepareDone r => Sys2Proof.Machine.execLocalPrepareDone r s
  | .remotePrepare r jseq key epoch unit timeNs payload => Sys2Proof.Machine.execRemotePrepare r jseq key epoch unit timeNs payload s
  | .preparedReceive r jseq => Sys2Proof.Machine.execPreparedReceive r jseq s
  | .journalAccept r => Sys2Proof.Machine.execJournalAccept r s
  | .remoteCommit r jseq => Sys2Proof.Machine.execRemoteCommit r jseq s
  | .prepareTimeout r jseq => Sys2Proof.Machine.execPrepareTimeout r jseq s
  | .journalRecover req => Sys2Proof.Machine.execJournalRecover req s
  | .journalRecoveryComplete held => Sys2Proof.Machine.execJournalRecoveryComplete held s
  | .journalFormat req => Sys2Proof.Machine.execJournalFormat req s
  | .userStore req addr size val => Sys2Proof.Machine.execUserStore req addr size val s
  | .scanGo req => Sys2Proof.Machine.execScanGo req s
  | .scanAbort req => Sys2Proof.Machine.execScanAbort req s
  | .scanDone => Sys2Proof.Machine.execScanDone s
  | .scanEccStop => Sys2Proof.Machine.execScanEccStop s
  | .belfryRequest q addr total => Sys2Proof.Machine.execBelfryRequest q addr total s
  | .belfryGrant res => Sys2Proof.Machine.execBelfryGrant res s
  | .belfryWithdraw res q => Sys2Proof.Machine.execBelfryWithdraw res q s
  | .starvation q => Sys2Proof.Machine.execStarvation q s
  | .priLevelWrite req q level => Sys2Proof.Machine.execPriLevelWrite req q level s
  | .ownerFault owner => Sys2Proof.Machine.execOwnerFault owner s
  | .lockCmdTry req t => Sys2Proof.Machine.execLockCmdTry req t s
  | .lockCmdRel req t => Sys2Proof.Machine.execLockCmdRel req t s
  | .lockCmdClr req t => Sys2Proof.Machine.execLockCmdClr req t s
  | .queuePush req k hi => Sys2Proof.Machine.execQueuePush req k hi s
  | .queuePopTag req k => Sys2Proof.Machine.execQueuePopTag req k s
  | .queuePop req k => Sys2Proof.Machine.execQueuePop req k s
  | .queueAbort req k => Sys2Proof.Machine.execQueueAbort req k s
  | .queueFlush req k => Sys2Proof.Machine.execQueueFlush req k s
  | .queueClear req k => Sys2Proof.Machine.execQueueClear req k s
  | .queueAutoFlush k => Sys2Proof.Machine.execQueueAutoFlush k s
  | .packetVisible k => Sys2Proof.Machine.execPacketVisible k s
  | .spillReadback k => Sys2Proof.Machine.execSpillReadback k s
  | .adcTrigger k => Sys2Proof.Machine.execAdcTrigger k s
  | .adcRunStart k => Sys2Proof.Machine.execAdcRunStart k s
  | .adcEntryComplete k volts => Sys2Proof.Machine.execAdcEntryComplete k volts s
  | .plausFlag pair => Sys2Proof.Machine.execPlausFlag pair s
  | .adcAbort req k => Sys2Proof.Machine.execAdcAbort req k s
  | .adcSwtrig req k => Sys2Proof.Machine.execAdcSwtrig req k s
  | .adcDisable req k => Sys2Proof.Machine.execAdcDisable req k s
  | .svFrameReceive port octets cut => Sys2Proof.Machine.execSvFrameReceive port octets cut s
  | .svStale idx => Sys2Proof.Machine.execSvStale idx s
  | .svLost idx => Sys2Proof.Machine.execSvLost idx s
  | .svLostClear req idx => Sys2Proof.Machine.execSvLostClear req idx s
  | .svClrStats req idx => Sys2Proof.Machine.execSvClrStats req idx s
  | .filtSampleArrival k => Sys2Proof.Machine.execFiltSampleArrival k s
  | .filtJobStart => Sys2Proof.Machine.execFiltJobStart s
  | .filtJobEnd => Sys2Proof.Machine.execFiltJobEnd s
  | .filtSwap req k => Sys2Proof.Machine.execFiltSwap req k s
  | .filtPreset req k => Sys2Proof.Machine.execFiltPreset req k s
  | .filtInWrite req k data => Sys2Proof.Machine.execFiltInWrite req k data s
  | .filtTimeout k => Sys2Proof.Machine.execFiltTimeout k s
  | .coefficientWrite req addr data => Sys2Proof.Machine.execCoefficientWrite req addr data s
  | .oculusStrobe => Sys2Proof.Machine.execOculusStrobe s
  | .oculusRecordClose => Sys2Proof.Machine.execOculusRecordClose s
  | .oculusRecordWrite => Sys2Proof.Machine.execOculusRecordWrite s
  | .oculusArm req => Sys2Proof.Machine.execOculusArm req s
  | .oculusStop req => Sys2Proof.Machine.execOculusStop req s
  | .oculusForce req => Sys2Proof.Machine.execOculusForce req s
  | .pwmReload n => Sys2Proof.Machine.execPwmReload n s
  | .pwmCarrierChange n => Sys2Proof.Machine.execPwmCarrierChange n s
  | .pwmTurnOn n gfb since => Sys2Proof.Machine.execPwmTurnOn n gfb since s
  | .pwmInterlockTimeout n gfb since => Sys2Proof.Machine.execPwmInterlockTimeout n gfb since s
  | .pwmShoot n gfb steady => Sys2Proof.Machine.execPwmShoot n gfb steady s
  | .pwmRefreshStart n => Sys2Proof.Machine.execPwmRefreshStart n s
  | .pwmRefreshEnd n => Sys2Proof.Machine.execPwmRefreshEnd n s
  | .pwmTriggerPulse n => Sys2Proof.Machine.execPwmTriggerPulse n s
  | .pwmTripClear req n => Sys2Proof.Machine.execPwmTripClear req n s
  | .pwmShootClear req n => Sys2Proof.Machine.execPwmShootClear req n s
  | .pwmIntlkClear req n => Sys2Proof.Machine.execPwmIntlkClear req n s
  | .pwmForce req n data => Sys2Proof.Machine.execPwmForce req n data s
  | .pwmGload req mask => Sys2Proof.Machine.execPwmGload req mask s
  | .tripFilterAssert mask levels since => Sys2Proof.Machine.execTripFilterAssert mask levels since s
  | .tripFilterDeassert mask levels since => Sys2Proof.Machine.execTripFilterDeassert mask levels since s
  | .tevtLatch req => Sys2Proof.Machine.execTevtLatch req s
  | .tevtPop req => Sys2Proof.Machine.execTevtPop req s
  | .drvReqPush req data => Sys2Proof.Machine.execDrvReqPush req data s
  | .drvTransactionStart => Sys2Proof.Machine.execDrvTransactionStart s
  | .drvTransactionEnd resp => Sys2Proof.Machine.execDrvTransactionEnd resp s
  | .drvRspPop req => Sys2Proof.Machine.execDrvRspPop req s
  | .incrWrite req data => Sys2Proof.Machine.execIncrWrite req data s
  | .stepGo req => Sys2Proof.Machine.execStepGo req s
  | .slewGo req => Sys2Proof.Machine.execSlewGo req s
  | .slewEnd => Sys2Proof.Machine.execSlewEnd s
  | .setGo req => Sys2Proof.Machine.execSetGo req s
  | .clrCoarse req => Sys2Proof.Machine.execClrCoarse req s
  | .tickEnable req startNs => Sys2Proof.Machine.execTickEnable req startNs s
  | .tickDisable req => Sys2Proof.Machine.execTickDisable req s
  | .timerFire idx => Sys2Proof.Machine.execTimerFire idx s
  | .toutActive j => Sys2Proof.Machine.execToutActive j s
  | .toutIdle j => Sys2Proof.Machine.execToutIdle j s
  | .captureEdge k rise => Sys2Proof.Machine.execCaptureEdge k rise s
  | .captureLatch req k => Sys2Proof.Machine.execCaptureLatch req k s
  | .capturePop req k => Sys2Proof.Machine.execCapturePop req k s
  | .txtsPop req p => Sys2Proof.Machine.execTxtsPop req p s
  | .peerLinkUp link roundTrip => Sys2Proof.Machine.execPeerLinkUp link roundTrip s
  | .peerLinkDown link => Sys2Proof.Machine.execPeerLinkDown link s
  | .cycleMessageReceive fromMaster msg => Sys2Proof.Machine.execCycleMessageReceive fromMaster msg s
  | .cascTxWrite req f k data => Sys2Proof.Machine.execCascTxWrite req f k data s
  | .cascadeCountReceive k data => Sys2Proof.Machine.execCascadeCountReceive k data s
  | .sumsReceive f recs => Sys2Proof.Machine.execSumsReceive f recs s
  | .masterLost => Sys2Proof.Machine.execMasterLost s
  | .followerLost f => Sys2Proof.Machine.execFollowerLost f s
  | .maskWaitEnd => Sys2Proof.Machine.execMaskWaitEnd s
  | .mismatchNoticeReceive ring pos verdict => Sys2Proof.Machine.execMismatchNoticeReceive ring pos verdict s
  | .statusForwardReceive r slots => Sys2Proof.Machine.execStatusForwardReceive r slots s
  | .twinMeasDelivery values => Sys2Proof.Machine.execTwinMeasDelivery values s
  | .replayComplete => Sys2Proof.Machine.execReplayComplete s
  | .leaseExpiry => Sys2Proof.Machine.execLeaseExpiry s
  | .twinStartTimeout => Sys2Proof.Machine.execTwinStartTimeout s
  | .handover => Sys2Proof.Machine.execHandover s
  | .twinEnWrite req en => Sys2Proof.Machine.execTwinEnWrite req en s
  | .rejoin req => Sys2Proof.Machine.execRejoin req s
  | .yieldToken req => Sys2Proof.Machine.execYieldToken req s
  | .syncDone req => Sys2Proof.Machine.execSyncDone req s
  | .chaseCopyReceive item => Sys2Proof.Machine.execChaseCopyReceive item s
  | .relayCopyReceive r bytes => Sys2Proof.Machine.execRelayCopyReceive r bytes s
  | .keepDemand mask => Sys2Proof.Machine.execKeepDemand mask s
  | .keepAckPulse idx ms => Sys2Proof.Machine.execKeepAckPulse idx ms s
  | .keepPairFault pair => Sys2Proof.Machine.execKeepPairFault pair s
  | .keepRelease req => Sys2Proof.Machine.execKeepRelease req s
  | .keepSpwReq req => Sys2Proof.Machine.execKeepSpwReq req s
  | .keepSgrReq req => Sys2Proof.Machine.execKeepSgrReq req s
  | .keepRampCompare => Sys2Proof.Machine.execKeepRampCompare s
  | .keepRampTimeout => Sys2Proof.Machine.execKeepRampTimeout s
  | .keepFbDiscrepancy m => Sys2Proof.Machine.execKeepFbDiscrepancy m s
  | .keepFollowTimeout m => Sys2Proof.Machine.execKeepFollowTimeout m s
  | .safeFault cause => Sys2Proof.Machine.execSafeFault cause s
  | .keepRelayTest index good => Sys2Proof.Machine.execKeepRelayTest index good s
  | .keepInputTest index good => Sys2Proof.Machine.execKeepInputTest index good s
  | .keepConfigCheck => Sys2Proof.Machine.execKeepConfigCheck s
  | .keepConfigWrite req off data => Sys2Proof.Machine.execKeepConfigWrite req off data s
  | .keepUnlock req => Sys2Proof.Machine.execKeepUnlock req s
  | .keepCommit req => Sys2Proof.Machine.execKeepCommit req s
  | .keepDiscard req => Sys2Proof.Machine.execKeepDiscard req s
  | .keepLock req => Sys2Proof.Machine.execKeepLock req s
  | .keepSetpass req => Sys2Proof.Machine.execKeepSetpass req s
  | .keepLogClear req => Sys2Proof.Machine.execKeepLogClear req s
  | .keepUnlockExpiry => Sys2Proof.Machine.execKeepUnlockExpiry s
  | .keepLockoutEnd => Sys2Proof.Machine.execKeepLockoutEnd s
  | .lanternWakeRequest req => Sys2Proof.Machine.execLanternWakeRequest req s
  | .lanternStateRequest req st => Sys2Proof.Machine.execLanternStateRequest req st s
  | .lanternAutoRequest req => Sys2Proof.Machine.execLanternAutoRequest req s
  | .entryStepDone good => Sys2Proof.Machine.execEntryStepDone good s
  | .lanternExitComplete ticks => Sys2Proof.Machine.execLanternExitComplete ticks s
  | .lwakeEdge pin rise ticks => Sys2Proof.Machine.execLwakeEdge pin rise ticks s
  | .lanternAlarm => Sys2Proof.Machine.execLanternAlarm s
  | .wakePortMatch read addr ticks => Sys2Proof.Machine.execWakePortMatch read addr ticks s
  | .vaonLow mv wasAbove => Sys2Proof.Machine.execVaonLow mv wasAbove s
  | .brownOut => Sys2Proof.Machine.execBrownOut s
  | .brownOutRelease mv => Sys2Proof.Machine.execBrownOutRelease mv s
  | .oscStop => Sys2Proof.Machine.execOscStop s
  | .refAccepted => Sys2Proof.Machine.execRefAccepted s
  | .pllLock band => Sys2Proof.Machine.execPllLock band s
  | .pllLoss => Sys2Proof.Machine.execPllLoss s
  | .resetPin => Sys2Proof.Machine.execResetPin s
  | .pgoodRise => Sys2Proof.Machine.execPgoodRise s
  | .pgoodFall => Sys2Proof.Machine.execPgoodFall s
  | .rstOrderly req => Sys2Proof.Machine.execRstOrderly req s
  | .rstForce req => Sys2Proof.Machine.execRstForce req s
  | .wdtEnable req => Sys2Proof.Machine.execWdtEnable req s
  | .wdtKick req => Sys2Proof.Machine.execWdtKick req s
  | .wdtExpiry => Sys2Proof.Machine.execWdtExpiry s
  | .deviceResetRelease ref10 ticks => Sys2Proof.Machine.execDeviceResetRelease ref10 ticks s
  | .bootSlotLoad slot good => Sys2Proof.Machine.execBootSlotLoad slot good s
  | .bootHostGo req => Sys2Proof.Machine.execBootHostGo req s
  | .secureVerify req => Sys2Proof.Machine.execSecureVerify req s
  | .secureVerifyTcm req c image => Sys2Proof.Machine.execSecureVerifyTcm req c image s
  | .secureKey req => Sys2Proof.Machine.execSecureKey req s
  | .secureSvnCommit req => Sys2Proof.Machine.execSecureSvnCommit req s
  | .secureAttest req => Sys2Proof.Machine.execSecureAttest req s
  | .secureCommandComplete => Sys2Proof.Machine.execSecureCommandComplete s
  | .secureRspRead req => Sys2Proof.Machine.execSecureRspRead req s
  | .hostLinkEvent down => Sys2Proof.Machine.execHostLinkEvent down s
  | .hostDoorbell req vec => Sys2Proof.Machine.execHostDoorbell req vec s
  | .cmdTailWrite req idx => Sys2Proof.Machine.execCmdTailWrite req idx s
  | .cmdEntryRead => Sys2Proof.Machine.execCmdEntryRead s
  | .completionWrite => Sys2Proof.Machine.execCompletionWrite s
  | .fwDoneWrite req data => Sys2Proof.Machine.execFwDoneWrite req data s
  | .stationFrameReceive port frame ts => Sys2Proof.Machine.execStationFrameReceive port frame ts s
  | .stationFrameTransmit port => Sys2Proof.Machine.execStationFrameTransmit port s
  | .uartRegisterFrame bytes => Sys2Proof.Machine.execUartRegisterFrame bytes s
  | .safetyTransaction bytes => Sys2Proof.Machine.execSafetyTransaction bytes s
  | .testPortInstruction code => Sys2Proof.Machine.execTestPortInstruction code s
  | .keepFeedbackChange m no nc => Sys2Proof.Machine.execKeepFeedbackChange m no nc s
  | .keepDemandRelease mask => Sys2Proof.Machine.execKeepDemandRelease mask s
  | .stationLinkChange port up => Sys2Proof.Machine.execStationLinkChange port up s
  | .hostLinkUp => Sys2Proof.Machine.execHostLinkUp s
  | .hostInbandWake => Sys2Proof.Machine.execHostInbandWake s
  | .uartByteReceive b => Sys2Proof.Machine.execUartByteReceive b s
  | .uartByteTransmit => Sys2Proof.Machine.execUartByteTransmit s
  | .peerFirmwarePacketReceive bytes => Sys2Proof.Machine.execPeerFirmwarePacketReceive bytes s
  | .peerFirmwarePacketSend => Sys2Proof.Machine.execPeerFirmwarePacketSend s
  | .dramRefresh c => Sys2Proof.Machine.execDramRefresh c s
  | .clkout1ppsEdge j => Sys2Proof.Machine.execClkout1ppsEdge j s

end Sys2Proof.Machine
end

