-- ==== Sys2Proof/Machine/Step.lean ====
section
/-!
DEFINITION. A step takes the command at the front of the queue; on an empty queue one FAB edge passes (log 12).
-/
namespace Sys2Proof.Machine

/-- What an empty queue does: a FAB edge passes, with Campanile time and a slew (R308, R310), while the clocks run. -/
def idleEdge (s : State) : State := if clocked s then s.edges 1 else s

/-- A step. -/
def step (s : State) : Host.Outcome State Fault Refusal :=
  match s.pending with
  | [] => .next (idleEdge s)
  | c :: rest => exec c { s with pending := rest }

/-- A state with the command a table word spells in front of its queue. -/
def State.withFetchWord (s : State) (nbits w : Nat) : State :=
  match decodeTableWord nbits w with
  | some c => { s with pending := c :: s.pending }
  | none => s

end Sys2Proof.Machine
end

