-- ==== Sys2Proof/Safety.lean ====
section
/-!
DEFINITION. What a safe step is, in the terms the statements use: a step answers a next state, the memories keep their canonical
form, and no enabled switch of a terminal stands against its complement.
-/
namespace Sys2Proof.Machine

/-- The device's memory and every core's TCM are in canonical form. -/
def State.memOk (s : State) : Prop := Memory.wf s.bytes = true ∧ ∀ c : Nat, Memory.wf (s.core c).tcm = true

/-- A terminal's switches: S1 and S2, S3 and S4 are never on together (R49, R99). -/
def Term.legOk (t : Term) : Bool :=
  !(nth false t.on 0 && nth false t.on 1) && !(nth false t.on 2 && nth false t.on 3)

/-- A step that neither faults nor is refused. -/
def stepSafe (s : State) : Prop := ∃ t, step s = .next t

end Sys2Proof.Machine
end

