-- ==== Sys2Proof/Certificates/Slice0/Obligations.lean ====
section
/-!
DEFINITION. The statements about the model. The predicates at the head say, once for all statements, what an instruction of a core
leaves alone, when a register access is carried out, and what a command leaves in memory and in the registers.
-/
namespace Sys2Proof.Machine

/-- Every byte of Cupola, DRAM and MRAM reads as before. -/
def SameMemory (s t : State) : Prop := ∀ a : Nat, memGet t.bytes a = memGet s.bytes a

/-- Every register field that does not lie at one of the places listed reads as before. -/
def RegsBut (ks : List Nat) (s t : State) : Prop := ∀ (f : Fld) (i j : Nat), f.key i j ∉ ks → t.rd f i j = s.rd f i j

/-- The write of a word under a mask reaches a powered block and meets no reason against it (R8, R11, R28). -/
abbrev Accepts (s : State) (req : Req) (b : Blk) (i w data m : Nat) : Prop :=
  clocked s = true ∧ powered s (.reg b i w) = true ∧ writeCode s req b i w data m = OK

/-- The answer of an access that was carried out. -/
abbrev AnsweredOk (t : State) : Prop := t.reply = ⟨OK, 0, false⟩

/-- Core c executes an instruction at its present boundary: it runs, the fetch at its PC is good, no halt waits (R152, R156,
R171). Which instruction that is, the word at the PC says (R173). -/
abbrev Executes (s : State) (c : Nat) : Prop := coreRuns s c = true ∧ fetchFault s c = none ∧ (s.core c).haltReq = false

/-- The register fields that show a core's own state: STATUS.WAITING, STATUS.PRIV, MBOX_LEVEL, and ECC.CORR (R156, R171). -/
def coreKeys (c : Nat) : List Nat :=
  [SPIRE_STATUS_WAITING.key c 0, SPIRE_STATUS_PRIV.key c 0, SPIRE_MBOX_LEVEL_LEVEL.key c 0, SPIRE_ECC_CORR.key c 0]

/-- Nothing has changed but core c and the register fields that show it: every other core, every other register field, all of
memory, and every other piece of the state are as before. -/
structure OnlyCore (s t : State) (c : Nat) : Prop where
  rest : t = { s with regs := t.regs, cores := t.cores }
  cores : ∀ k, k ≠ c → t.core k = s.core k
  regs : RegsBut (coreKeys c) s t


/-- Command i completes in a next state in which core c is y and nothing else has changed. Words of the core's TCM under a
single-bit error that the instruction read are corrected (R156), and none is added. -/
def Leaves (i : Instr) (s : State) (c : Nat) (y : CoreSt) : Prop :=
  ∃ t, exec i s = .next t ∧ t.core c = { y with tcmCorr := (t.core c).tcmCorr } ∧
    (∀ w ∈ (t.core c).tcmCorr, w ∈ (s.core c).tcmCorr) ∧ OnlyCore s t c

/-- Where the word at the PC of core c spells instruction i (R152, R172, R173), the instruction leaves the core as y and nothing
else changed. -/
def LeavesCore (i : Instr) (s : State) (c : Fin 16) (y : CoreSt) : Prop := fetched s c = some i → Leaves i s c y

/-- Instruction i of core c completes: the core is then what f makes of it, with the PC at the next word. -/
def Retires (i : Instr) (s : State) (c : Fin 16) (f : CoreSt → CoreSt) : Prop :=
  LeavesCore i s c { f (s.core c) with pc := (s.core c).pc + 4 }

/-- The state after the fetch at the PC of core c: a corrected word of TCM is rewritten and counted (R156). -/
def afterFetch (s : State) (c : Nat) : State := tcmCorrect s c (s.core c).pc 4

/-- The core after exception entry (R161, R162). -/
def CoreSt.entered (x : CoreSt) (code stat xpc : Nat) (addr : Option Nat) : CoreSt :=
  { x with
    xpc := xpc, xcode := code, xsrc := 0, xstat := stat, xaddr := addr.getD x.xaddr, xsIe := x.ie, xsMie := x.mie
    xsTask := x.task, inx := true, task := false, wait := none, pc := x.vbase + 16 * code }

/-- Bits added to csr.ARITH (R180). -/
def CoreSt.withArith (x : CoreSt) (fl : Nat) : CoreSt := { x with arith := x.arith ||| fl }

/-- The phases of a cycle that has just opened (R25): the pipeline runs and none of the cycle's edges has passed. -/
def Opened (p : PipeSt) : Prop :=
  p.running = true ∧ p.firstPending = false ∧ p.endPending = false ∧ p.retPassed = false ∧ p.maskPassed = false ∧
    p.cseDone = false ∧ p.leaseDone = false ∧ p.cutoff = false ∧ p.selDone = false ∧ p.gateDone = false ∧ p.setup = false

/-- The phases of a cycle (R25): what runs or waits, the cycle's tick and length, and which of its edges have passed. -/
def PipeSt.phases (p : PipeSt) : List Bool × Nat × Nat :=
  ([p.running, p.firstPending, p.endPending, p.retPassed, p.maskPassed, p.cseDone, p.leaseDone, p.cutoff, p.selDone, p.gateDone,
    p.setup], p.tickEdge, p.cycleFab)

/-- Command i makes the terminal of cell c into y and changes nothing else. -/
def TermIs (i : Instr) (s : State) (c : Nat) (y : Term → Prop) : Prop :=
  ∃ t, exec i s = .next t ∧ y (t.term c) ∧ (∀ d, d ≠ c → t.term d = s.term d) ∧ t = { s with terms := t.terms }

/-- A terminal in BLOCK (R98): no switch is on, none waits for its turn-on, the DC/DC stage stands still. -/
def Term.blocked (x : Term) : Prop :=
  x.state = 0 ∧ x.dcdcOn = false ∧ ∀ k, nth false x.on k = false ∧ nth false x.wait k = false

/-- Only fields that software may write differ between two images of an entry (R65, R66), and words under a single-bit error that
are corrected (R78). -/
def Entry.SameRo (e f : Entry) : Prop :=
  f = { e with eDis := f.eDis, eChg := f.eChg, resDis := f.resDis, resChg := f.resChg, ec := f.ec, capJ := f.capJ, ecSet := f.ecSet
               hw := f.hw, leaseId := f.leaseId, leaseEn := f.leaseEn, swBlock := f.swBlock, ecSetPend := f.ecSetPend
               clrMax := f.clrMax, clrCorrupt := f.clrCorrupt, user := f.user, single := f.single }

/-- No software write of an entry waits for a later edge (R66, R184). -/
abbrev NoLateWrite (s : State) (c : Nat) : Prop := (lateWrites s c).since s.fab = []

/-- An accepted write of an entry: OK is answered, only software-writable fields of that entry can differ, and y holds of it. A word
under a single-bit error that the write covers in part is corrected and counted (R78). -/
def EntryWritten (i : Instr) (s : State) (c : Nat) (y : Entry → Prop) : Prop :=
  ∃ t, exec i s = .next t ∧ AnsweredOk t ∧ y (t.entry c) ∧ (s.entry c).SameRo (t.entry c) ∧ (∀ d, d ≠ c → t.entry d = s.entry d) ∧
    t.pipe = { s.pipe with late := t.pipe.late } ∧ RegsBut [SYS_CSE_STATUS_ECC_CORR.key 0 0] s t ∧
    t = { s with entries := t.entries, pipe := t.pipe, regs := t.regs, reply := t.reply }

/-- A read reaches a powered register of the FAB fabric (R28, R401, R402). -/
abbrev Reads (s : State) (req : Req) (b : Blk) (i w : Nat) : Prop :=
  clocked s = true ∧ powered s (.reg b i w) = true ∧ req ≠ .safety

/-- What a record leaves of the gate event log (R117): it joins the end of a log that holds fewer than 16, and sets EVT_LOST at a
full one. -/
def Logged (s t : State) (e : EvtRec) : Prop :=
  (s.gcs.log.length < 16 → t.gcs.log = s.gcs.log ++ [e]) ∧
    (16 ≤ s.gcs.log.length → t.gcs.log = s.gcs.log ∧ t.on SYS_GCS_STATUS_EVT_LOST = true)

/-- Nothing but its own rules takes words out of queue k: no packet of it is being discarded (R255), and neither a running scan nor a
CA parity error could take a channel into CH_FAIL (R218, R222, R234). -/
def Undisturbed (s : State) (k : Nat) : Prop :=
  (s.queue k).skip = false ∧ s.on SCAN_STATUS_BUSY = false ∧ ∀ c : Nat, (s.mems.get {} c).caErrs < 2

/-- An accepted write of a staged field (R6, R7): OK is answered, the field's value as last written is v, and nothing else has
changed, the values in force least of all. -/
def StagedWrite (s t : State) (f : Fld) (i j v : Nat) : Prop :=
  AnsweredOk t ∧ t.written f i j % 2 ^ f.width = v ∧ (∀ k, k ≠ f.key i j → findKey t.staged k = findKey s.staged k) ∧
    t = { s with staged := t.staged, reply := t.reply }

/-- A write of a word of Keep is carried out (R345, R355): over SAFETY whenever Keep runs, whatever FAB does; else as any register's. -/
abbrev KeepAccepts (s : State) (req : Req) (w data m : Nat) : Prop :=
  (req = .safety ∧ keepUp s = true ∧ writeCode s req .keep 0 w data m = OK) ∨ (req ≠ .safety ∧ Accepts s req .keep 0 w data m)

/-- A device reset has been asserted with a cause (R379, R380): it is counted, the clocks are not locked, the cells' entries are
cleared, Keep asks for gate removal, and memory outside the MRAM is lost; what waits in the queue stays. -/
def WasReset (s t : State) (cause : Nat) : Prop :=
  t.rst.asserted = some cause ∧ t.rd SYS_RST_CAUSE_CAUSE = cause ∧
    t.rd SYS_RST_CAUSE_COUNT = (s.rd SYS_RST_CAUSE_COUNT + 1) % 2 ^ 16 ∧ t.on SYS_CLK_STATUS_LOCK = false ∧ t.entries = [] ∧
    t.gcs.keepReq = true ∧ t.pending = s.pending ∧ ∀ a, inMram a = false → memGet t.bytes a = 0

end Sys2Proof.Machine

open Sys2Proof Sys2Proof.Machine

/-- For every core that executes, each of ADD, SUB, AND, OR, XOR, NOR, SLT, SLTU, SLL, SRL, SRA, SLLI, SRLI, SRAI, MIN, MAX, MINU,
MAXU, CLZ, SEXTB, SEXTH, ZEXTH, ADDI, ANDI, ORI, XORI, SLTI, SLTIU and IMMH (fields it does not use 0) answers a next state:
g[rd] holds the result of R175 (g0 stays 0, R153), the PC is at the next word, every other register of the core, every other
core, every register field but the core's own status and every byte of memory are as before. -/
def Obligations.SpireAluResults : Prop :=
  ∀ (s : State) (c : Fin 16) (rd rs1 rs2 : BitVec 5) (imm : BitVec 16), Executes s c →
    Retires (.spAdd c rd rs1 rs2) s c (fun x => x.gW rd.toNat (x.gR rs1.toNat + x.gR rs2.toNat)) ∧
    Retires (.spSub c rd rs1 rs2) s c (fun x => x.gW rd.toNat (x.gR rs1.toNat - x.gR rs2.toNat)) ∧
    Retires (.spAnd c rd rs1 rs2) s c (fun x => x.gW rd.toNat (x.gR rs1.toNat &&& x.gR rs2.toNat)) ∧
    Retires (.spOr c rd rs1 rs2) s c (fun x => x.gW rd.toNat (x.gR rs1.toNat ||| x.gR rs2.toNat)) ∧
    Retires (.spXor c rd rs1 rs2) s c (fun x => x.gW rd.toNat (x.gR rs1.toNat ^^^ x.gR rs2.toNat)) ∧
    Retires (.spNor c rd rs1 rs2) s c (fun x => x.gW rd.toNat (~~~(x.gR rs1.toNat ||| x.gR rs2.toNat))) ∧
    Retires (.spSlt c rd rs1 rs2) s c (fun x => x.gW rd.toNat (if (x.gR rs1.toNat).toInt < (x.gR rs2.toNat).toInt then 1 else 0)) ∧
    Retires (.spSltu c rd rs1 rs2) s c (fun x => x.gW rd.toNat (if (x.gR rs1.toNat).toNat < (x.gR rs2.toNat).toNat then 1 else 0)) ∧
    Retires (.spSll c rd rs1 rs2) s c (fun x => x.gW rd.toNat (x.gR rs1.toNat <<< ((x.gR rs2.toNat).toNat % 32))) ∧
    Retires (.spSrl c rd rs1 rs2) s c (fun x => x.gW rd.toNat (x.gR rs1.toNat >>> ((x.gR rs2.toNat).toNat % 32))) ∧
    Retires (.spSra c rd rs1 rs2) s c (fun x => x.gW rd.toNat ((x.gR rs1.toNat).sshiftRight ((x.gR rs2.toNat).toNat % 32))) ∧
    Retires (.spSlli c rd rs1 rs2) s c (fun x => x.gW rd.toNat (x.gR rs1.toNat <<< rs2.toNat)) ∧
    Retires (.spSrli c rd rs1 rs2) s c (fun x => x.gW rd.toNat (x.gR rs1.toNat >>> rs2.toNat)) ∧
    Retires (.spSrai c rd rs1 rs2) s c (fun x => x.gW rd.toNat ((x.gR rs1.toNat).sshiftRight rs2.toNat)) ∧
    Retires (.spMin c rd rs1 rs2) s c (fun x => x.gW rd.toNat (if (x.gR rs1.toNat).toInt < (x.gR rs2.toNat).toInt then x.gR rs1.toNat else x.gR rs2.toNat)) ∧
    Retires (.spMax c rd rs1 rs2) s c (fun x => x.gW rd.toNat (if (x.gR rs1.toNat).toInt < (x.gR rs2.toNat).toInt then x.gR rs2.toNat else x.gR rs1.toNat)) ∧
    Retires (.spMinu c rd rs1 rs2) s c (fun x => x.gW rd.toNat (if (x.gR rs1.toNat).toNat < (x.gR rs2.toNat).toNat then x.gR rs1.toNat else x.gR rs2.toNat)) ∧
    Retires (.spMaxu c rd rs1 rs2) s c (fun x => x.gW rd.toNat (if (x.gR rs1.toNat).toNat < (x.gR rs2.toNat).toNat then x.gR rs2.toNat else x.gR rs1.toNat)) ∧
    Retires (.spClz c rd rs1 0) s c (fun x => x.gW rd.toNat (if x.gR rs1.toNat = 0 then 32 else BitVec.ofNat 32 (31 - Nat.log2 (x.gR rs1.toNat).toNat))) ∧
    Retires (.spSextb c rd rs1 0) s c (fun x => x.gW rd.toNat (((x.gR rs1.toNat).setWidth 8).signExtend 32)) ∧
    Retires (.spSexth c rd rs1 0) s c (fun x => x.gW rd.toNat (((x.gR rs1.toNat).setWidth 16).signExtend 32)) ∧
    Retires (.spZexth c rd rs1 0) s c (fun x => x.gW rd.toNat (x.gR rs1.toNat &&& 0xFFFF)) ∧
    Retires (.spAddi c rd rs1 imm) s c (fun x => x.gW rd.toNat (x.gR rs1.toNat + imm.signExtend 32)) ∧
    Retires (.spAndi c rd rs1 imm) s c (fun x => x.gW rd.toNat (x.gR rs1.toNat &&& imm.setWidth 32)) ∧
    Retires (.spOri c rd rs1 imm) s c (fun x => x.gW rd.toNat (x.gR rs1.toNat ||| imm.setWidth 32)) ∧
    Retires (.spXori c rd rs1 imm) s c (fun x => x.gW rd.toNat (x.gR rs1.toNat ^^^ imm.setWidth 32)) ∧
    Retires (.spSlti c rd rs1 imm) s c (fun x => x.gW rd.toNat (if (x.gR rs1.toNat).toInt < imm.toInt then 1 else 0)) ∧
    Retires (.spSltiu c rd rs1 imm) s c (fun x => x.gW rd.toNat (if (x.gR rs1.toNat).toNat < (imm.signExtend 32).toNat then 1 else 0)) ∧
    Retires (.spImmh c rd 0 imm) s c (fun x => x.gW rd.toNat (imm.setWidth 32 <<< 16))

/-- For every core that executes, each of ADDS, SUBS, ABS, MULQ, MACS, MSUS, ACRD and ACRDT answers a next state: the destination
holds the exact result (the convergent shift of R177 where the rule says crnd, a floor shift for ACRDT) clamped to 32 bits,
for MACS and MSUS the accumulator's 72 bits, ARITH.SAT is set if and only if the exact result lies outside, and nothing else
changes. -/
def Obligations.SpireSaturation : Prop :=
  ∀ (s : State) (c : Fin 16) (rd rs1 rs2 : BitVec 5) (ac : Fin 4), Executes s c →
    Retires (.spAdds c rd rs1 rs2) s c (fun x => (x.gW rd.toNat (BitVec.ofInt 32 (max (-2 ^ 31) (min (2 ^ 31 - 1) ((x.gR rs1.toNat).toInt + (x.gR rs2.toNat).toInt))))).withArith (if (x.gR rs1.toNat).toInt + (x.gR rs2.toNat).toInt < -2 ^ 31 ∨ 2 ^ 31 - 1 < (x.gR rs1.toNat).toInt + (x.gR rs2.toNat).toInt then 256 else 0)) ∧
    Retires (.spSubs c rd rs1 rs2) s c (fun x => (x.gW rd.toNat (BitVec.ofInt 32 (max (-2 ^ 31) (min (2 ^ 31 - 1) ((x.gR rs1.toNat).toInt - (x.gR rs2.toNat).toInt))))).withArith (if (x.gR rs1.toNat).toInt - (x.gR rs2.toNat).toInt < -2 ^ 31 ∨ 2 ^ 31 - 1 < (x.gR rs1.toNat).toInt - (x.gR rs2.toNat).toInt then 256 else 0)) ∧
    Retires (.spAbs c rd rs1 0) s c (fun x => (x.gW rd.toNat (BitVec.ofInt 32 (max (-2 ^ 31) (min (2 ^ 31 - 1) (|(x.gR rs1.toNat).toInt|))))).withArith (if |(x.gR rs1.toNat).toInt| < -2 ^ 31 ∨ 2 ^ 31 - 1 < |(x.gR rs1.toNat).toInt| then 256 else 0)) ∧
    Retires (.spMulq c rd rs1 rs2) s c (fun x => (x.gW rd.toNat (BitVec.ofInt 32 (max (-2 ^ 31) (min (2 ^ 31 - 1) (crnd ((x.gR rs1.toNat).toInt * (x.gR rs2.toNat).toInt) 31))))).withArith (if crnd ((x.gR rs1.toNat).toInt * (x.gR rs2.toNat).toInt) 31 < -2 ^ 31 ∨ 2 ^ 31 - 1 < crnd ((x.gR rs1.toNat).toInt * (x.gR rs2.toNat).toInt) 31 then 256 else 0)) ∧
    Retires (.spMacs c (BitVec.ofNat 5 ac.val) rs1 rs2) s c (fun x => (x.acW ac.val (BitVec.ofInt 72 (max (-2 ^ 71) (min (2 ^ 71 - 1) ((x.acR ac.val).toInt + (x.gR rs1.toNat).toInt * (x.gR rs2.toNat).toInt))))).withArith (if (x.acR ac.val).toInt + (x.gR rs1.toNat).toInt * (x.gR rs2.toNat).toInt < -2 ^ 71 ∨ 2 ^ 71 - 1 < (x.acR ac.val).toInt + (x.gR rs1.toNat).toInt * (x.gR rs2.toNat).toInt then 256 else 0)) ∧
    Retires (.spMsus c (BitVec.ofNat 5 ac.val) rs1 rs2) s c (fun x => (x.acW ac.val (BitVec.ofInt 72 (max (-2 ^ 71) (min (2 ^ 71 - 1) ((x.acR ac.val).toInt - (x.gR rs1.toNat).toInt * (x.gR rs2.toNat).toInt))))).withArith (if (x.acR ac.val).toInt - (x.gR rs1.toNat).toInt * (x.gR rs2.toNat).toInt < -2 ^ 71 ∨ 2 ^ 71 - 1 < (x.acR ac.val).toInt - (x.gR rs1.toNat).toInt * (x.gR rs2.toNat).toInt then 256 else 0)) ∧
    Retires (.spAcrd c rd (BitVec.ofNat 5 ac.val) rs2) s c (fun x => (x.gW rd.toNat (BitVec.ofInt 32 (max (-2 ^ 31) (min (2 ^ 31 - 1) (crnd (x.acR ac.val).toInt rs2.toNat))))).withArith (if crnd (x.acR ac.val).toInt rs2.toNat < -2 ^ 31 ∨ 2 ^ 31 - 1 < crnd (x.acR ac.val).toInt rs2.toNat then 256 else 0)) ∧
    Retires (.spAcrdt c rd (BitVec.ofNat 5 ac.val) rs2) s c (fun x => (x.gW rd.toNat (BitVec.ofInt 32 (max (-2 ^ 31) (min (2 ^ 31 - 1) ((x.acR ac.val).toInt / 2 ^ rs2.toNat))))).withArith (if (x.acR ac.val).toInt / 2 ^ rs2.toNat < -2 ^ 31 ∨ 2 ^ 31 - 1 < (x.acR ac.val).toInt / 2 ^ rs2.toNat then 256 else 0))

/-- For every core that executes, MUL, MULH and MULHU write the low or high half of the exact product in g[rd]; MAC, MACU and MSU
add the exact signed or unsigned product to accumulator 0 to 3 or subtract it, modulo 2⁷². No flag is set and nothing else
changes. -/
def Obligations.SpireProducts : Prop :=
  ∀ (s : State) (c : Fin 16) (rd rs1 rs2 : BitVec 5) (ac : Fin 4), Executes s c →
    Retires (.spMul c rd rs1 rs2) s c (fun x => x.gW rd.toNat (x.gR rs1.toNat * x.gR rs2.toNat)) ∧
    Retires (.spMulh c rd rs1 rs2) s c (fun x => x.gW rd.toNat (BitVec.ofInt 32 ((x.gR rs1.toNat).toInt * (x.gR rs2.toNat).toInt / 2 ^ 32))) ∧
    Retires (.spMulhu c rd rs1 rs2) s c (fun x => x.gW rd.toNat (BitVec.ofNat 32 ((x.gR rs1.toNat).toNat * (x.gR rs2.toNat).toNat / 2 ^ 32))) ∧
    Retires (.spMac c (BitVec.ofNat 5 ac.val) rs1 rs2) s c (fun x => x.acW ac.val (x.acR ac.val + BitVec.ofInt 72 ((x.gR rs1.toNat).toInt * (x.gR rs2.toNat).toInt))) ∧
    Retires (.spMacu c (BitVec.ofNat 5 ac.val) rs1 rs2) s c (fun x => x.acW ac.val (x.acR ac.val + BitVec.ofNat 72 ((x.gR rs1.toNat).toNat * (x.gR rs2.toNat).toNat))) ∧
    Retires (.spMsu c (BitVec.ofNat 5 ac.val) rs1 rs2) s c (fun x => x.acW ac.val (x.acR ac.val - BitVec.ofInt 72 ((x.gR rs1.toNat).toInt * (x.gR rs2.toNat).toInt)))

/-- For every core that executes: ACRDL and ACRDH write bits [31:0] and [63:32] of the accumulator in g[rd], ACRDX its
sign-extended bits [71:64]; ACWR writes the sign-extended g[rs1], ACWRH bits [63:32], ACWRX bits [71:64] with every other bit
kept, ACCLR 0. The other accumulators and everything else are as before. -/
def Obligations.SpireAccumulatorMoves : Prop :=
  ∀ (s : State) (c : Fin 16) (rd rs1 : BitVec 5) (ac : Fin 4), Executes s c →
    Retires (.spAcrdl c rd (BitVec.ofNat 5 ac.val) 0) s c (fun x => x.gW rd.toNat ((x.acR ac.val).extractLsb' 0 32)) ∧
    Retires (.spAcrdh c rd (BitVec.ofNat 5 ac.val) 0) s c (fun x => x.gW rd.toNat ((x.acR ac.val).extractLsb' 32 32)) ∧
    Retires (.spAcrdx c rd (BitVec.ofNat 5 ac.val) 0) s c (fun x => x.gW rd.toNat (((x.acR ac.val).extractLsb' 64 8).signExtend 32)) ∧
    Retires (.spAcwr c (BitVec.ofNat 5 ac.val) rs1 0) s c (fun x => x.acW ac.val ((x.gR rs1.toNat).signExtend 72)) ∧
    (fetched s c = some (.spAcwrh c (BitVec.ofNat 5 ac.val) rs1 0) → ∃ t, exec (.spAcwrh c (BitVec.ofNat 5 ac.val) rs1 0) s = .next t ∧ (∀ k, k < 72 → (((t.core c).acR ac.val).getLsbD k = if 32 ≤ k ∧ k < 64 then ((s.core c).gR rs1.toNat).getLsbD (k - 32) else ((s.core c).acR ac.val).getLsbD k)) ∧
      t.core c = { s.core c with ac := (t.core c).ac, pc := (s.core c).pc + 4, tcmCorr := (t.core c).tcmCorr } ∧
      (∀ a, a ≠ ac.val → (t.core c).acR a = (s.core c).acR a) ∧ OnlyCore s t c) ∧
    (fetched s c = some (.spAcwrx c (BitVec.ofNat 5 ac.val) rs1 0) → ∃ t, exec (.spAcwrx c (BitVec.ofNat 5 ac.val) rs1 0) s = .next t ∧ (∀ k, k < 72 → (((t.core c).acR ac.val).getLsbD k = if 64 ≤ k then ((s.core c).gR rs1.toNat).getLsbD (k - 64) else ((s.core c).acR ac.val).getLsbD k)) ∧
      t.core c = { s.core c with ac := (t.core c).ac, pc := (s.core c).pc + 4, tcmCorr := (t.core c).tcmCorr } ∧
      (∀ a, a ≠ ac.val → (t.core c).acR a = (s.core c).acR a) ∧ OnlyCore s t c) ∧
    Retires (.spAcclr c (BitVec.ofNat 5 ac.val) 0 0) s c (fun x => x.acW ac.val 0)

/-- For every core that executes, each of FADD, FSUB, FMUL, FDIV, FMIN, FMAX, FSQRT, FEQ, FLT, FLE, FCVTSW, FCVTW and FCVTWT
answers a next state in which the destination holds the binary32 result of R178 and ARITH has gained its flags; FABS, FNEG,
FMV, FMVGF and FMVFG move bits unchanged (but the sign) and set no flag. Nothing else changes. -/
def Obligations.SpireFloatResults : Prop :=
  ∀ (s : State) (c : Fin 16) (rd rs1 rs2 : BitVec 5), Executes s c →
    Retires (.spFadd c rd rs1 rs2) s c (fun x => (x.fW rd.toNat (BitVec.ofNat 32 ((fpAdd (x.fR rs1.toNat).toNat (x.fR rs2.toNat).toNat).val))).withArith ((fpAdd (x.fR rs1.toNat).toNat (x.fR rs2.toNat).toNat).flags)) ∧
    Retires (.spFsub c rd rs1 rs2) s c (fun x => (x.fW rd.toNat (BitVec.ofNat 32 ((fpSubtract (x.fR rs1.toNat).toNat (x.fR rs2.toNat).toNat).val))).withArith ((fpSubtract (x.fR rs1.toNat).toNat (x.fR rs2.toNat).toNat).flags)) ∧
    Retires (.spFmul c rd rs1 rs2) s c (fun x => (x.fW rd.toNat (BitVec.ofNat 32 ((fpMul (x.fR rs1.toNat).toNat (x.fR rs2.toNat).toNat).val))).withArith ((fpMul (x.fR rs1.toNat).toNat (x.fR rs2.toNat).toNat).flags)) ∧
    Retires (.spFdiv c rd rs1 rs2) s c (fun x => (x.fW rd.toNat (BitVec.ofNat 32 ((fpDiv (x.fR rs1.toNat).toNat (x.fR rs2.toNat).toNat).val))).withArith ((fpDiv (x.fR rs1.toNat).toNat (x.fR rs2.toNat).toNat).flags)) ∧
    Retires (.spFmin c rd rs1 rs2) s c (fun x => (x.fW rd.toNat (BitVec.ofNat 32 ((fpPick false (x.fR rs1.toNat).toNat (x.fR rs2.toNat).toNat).val))).withArith ((fpPick false (x.fR rs1.toNat).toNat (x.fR rs2.toNat).toNat).flags)) ∧
    Retires (.spFmax c rd rs1 rs2) s c (fun x => (x.fW rd.toNat (BitVec.ofNat 32 ((fpPick true (x.fR rs1.toNat).toNat (x.fR rs2.toNat).toNat).val))).withArith ((fpPick true (x.fR rs1.toNat).toNat (x.fR rs2.toNat).toNat).flags)) ∧
    Retires (.spFsqrt c rd rs1 0) s c (fun x => (x.fW rd.toNat (BitVec.ofNat 32 ((fpSqrt (x.fR rs1.toNat).toNat).val))).withArith ((fpSqrt (x.fR rs1.toNat).toNat).flags)) ∧
    Retires (.spFabs c rd rs1 0) s c (fun x => x.fW rd.toNat ((x.fR rs1.toNat) &&& 0x7FFFFFFF)) ∧
    Retires (.spFneg c rd rs1 0) s c (fun x => x.fW rd.toNat ((x.fR rs1.toNat) ^^^ 0x80000000)) ∧
    Retires (.spFmv c rd rs1 0) s c (fun x => x.fW rd.toNat (x.fR rs1.toNat)) ∧
    Retires (.spFeq c rd rs1 rs2) s c (fun x => (x.gW rd.toNat (BitVec.ofNat 32 ((fpEq (x.fR rs1.toNat).toNat (x.fR rs2.toNat).toNat).val))).withArith ((fpEq (x.fR rs1.toNat).toNat (x.fR rs2.toNat).toNat).flags)) ∧
    Retires (.spFlt c rd rs1 rs2) s c (fun x => (x.gW rd.toNat (BitVec.ofNat 32 ((fpLt (x.fR rs1.toNat).toNat (x.fR rs2.toNat).toNat).val))).withArith ((fpLt (x.fR rs1.toNat).toNat (x.fR rs2.toNat).toNat).flags)) ∧
    Retires (.spFle c rd rs1 rs2) s c (fun x => (x.gW rd.toNat (BitVec.ofNat 32 ((fpLe (x.fR rs1.toNat).toNat (x.fR rs2.toNat).toNat).val))).withArith ((fpLe (x.fR rs1.toNat).toNat (x.fR rs2.toNat).toNat).flags)) ∧
    Retires (.spFcvtsw c rd rs1 0) s c (fun x => (x.fW rd.toNat (BitVec.ofNat 32 ((fpOfInt (x.gR rs1.toNat).toInt).val))).withArith ((fpOfInt (x.gR rs1.toNat).toInt).flags)) ∧
    Retires (.spFcvtw c rd rs1 0) s c (fun x => (x.gW rd.toNat (BitVec.ofNat 32 ((fpToInt true (x.fR rs1.toNat).toNat).val))).withArith ((fpToInt true (x.fR rs1.toNat).toNat).flags)) ∧
    Retires (.spFcvtwt c rd rs1 0) s c (fun x => (x.gW rd.toNat (BitVec.ofNat 32 ((fpToInt false (x.fR rs1.toNat).toNat).val))).withArith ((fpToInt false (x.fR rs1.toNat).toNat).flags)) ∧
    Retires (.spFmvgf c rd rs1 0) s c (fun x => x.fW rd.toNat (x.gR rs1.toNat)) ∧
    Retires (.spFmvfg c rd rs1 0) s c (fun x => x.gW rd.toNat (x.fR rs1.toNat))

/-- For every core that executes outside an exception (INX = 0): an instruction of the rows named with a field that its row does
not use and that is not 0 takes ILLEGAL in a next state: XPC holds its own address, XCAUSE code 2, XSAVE the old IE, MIE and
PRIV, INX is 1, the core is in SUP and its PC at VBASE + 16 × 2. Nothing else changes. -/
def Obligations.SpireUnusedFieldsIllegal : Prop :=
  ∀ (s : State) (c : Fin 16) (rd rs1 rs2 : BitVec 5) (imm : BitVec 16) (csr : BitVec 12), Executes s c → (s.core c).inx = false →
    (rs2 ≠ 0 → LeavesCore (.spClz c rd rs1 rs2) s c ((s.core c).entered 2 0 ((s.core c).pc) (none))) ∧
    (rs2 ≠ 0 → LeavesCore (.spSextb c rd rs1 rs2) s c ((s.core c).entered 2 0 ((s.core c).pc) (none))) ∧
    (rs2 ≠ 0 → LeavesCore (.spSexth c rd rs1 rs2) s c ((s.core c).entered 2 0 ((s.core c).pc) (none))) ∧
    (rs2 ≠ 0 → LeavesCore (.spZexth c rd rs1 rs2) s c ((s.core c).entered 2 0 ((s.core c).pc) (none))) ∧
    (rs2 ≠ 0 → LeavesCore (.spAbs c rd rs1 rs2) s c ((s.core c).entered 2 0 ((s.core c).pc) (none))) ∧
    (rs2 ≠ 0 → LeavesCore (.spFsqrt c rd rs1 rs2) s c ((s.core c).entered 2 0 ((s.core c).pc) (none))) ∧
    (rs2 ≠ 0 → LeavesCore (.spFabs c rd rs1 rs2) s c ((s.core c).entered 2 0 ((s.core c).pc) (none))) ∧
    (rs2 ≠ 0 → LeavesCore (.spFneg c rd rs1 rs2) s c ((s.core c).entered 2 0 ((s.core c).pc) (none))) ∧
    (rs2 ≠ 0 → LeavesCore (.spFmv c rd rs1 rs2) s c ((s.core c).entered 2 0 ((s.core c).pc) (none))) ∧
    (rs2 ≠ 0 → LeavesCore (.spFcvtsw c rd rs1 rs2) s c ((s.core c).entered 2 0 ((s.core c).pc) (none))) ∧
    (rs2 ≠ 0 → LeavesCore (.spFcvtw c rd rs1 rs2) s c ((s.core c).entered 2 0 ((s.core c).pc) (none))) ∧
    (rs2 ≠ 0 → LeavesCore (.spFcvtwt c rd rs1 rs2) s c ((s.core c).entered 2 0 ((s.core c).pc) (none))) ∧
    (rs2 ≠ 0 → LeavesCore (.spFmvgf c rd rs1 rs2) s c ((s.core c).entered 2 0 ((s.core c).pc) (none))) ∧
    (rs2 ≠ 0 → LeavesCore (.spFmvfg c rd rs1 rs2) s c ((s.core c).entered 2 0 ((s.core c).pc) (none))) ∧
    (rs1 ≠ 0 → LeavesCore (.spImmh c rd rs1 imm) s c ((s.core c).entered 2 0 ((s.core c).pc) (none))) ∧
    (4 ≤ rd.toNat → LeavesCore (.spMac c rd rs1 rs2) s c ((s.core c).entered 2 0 ((s.core c).pc) (none))) ∧
    (4 ≤ rd.toNat → LeavesCore (.spMacu c rd rs1 rs2) s c ((s.core c).entered 2 0 ((s.core c).pc) (none))) ∧
    (4 ≤ rd.toNat → LeavesCore (.spMsu c rd rs1 rs2) s c ((s.core c).entered 2 0 ((s.core c).pc) (none))) ∧
    (4 ≤ rd.toNat → LeavesCore (.spMacs c rd rs1 rs2) s c ((s.core c).entered 2 0 ((s.core c).pc) (none))) ∧
    (4 ≤ rd.toNat → LeavesCore (.spMsus c rd rs1 rs2) s c ((s.core c).entered 2 0 ((s.core c).pc) (none))) ∧
    (4 ≤ rs1.toNat → LeavesCore (.spAcrd c rd rs1 rs2) s c ((s.core c).entered 2 0 ((s.core c).pc) (none))) ∧
    (4 ≤ rs1.toNat → LeavesCore (.spAcrdt c rd rs1 rs2) s c ((s.core c).entered 2 0 ((s.core c).pc) (none))) ∧
    (4 ≤ rs1.toNat ∨ rs2 ≠ 0 → LeavesCore (.spAcrdl c rd rs1 rs2) s c ((s.core c).entered 2 0 ((s.core c).pc) (none))) ∧
    (4 ≤ rs1.toNat ∨ rs2 ≠ 0 → LeavesCore (.spAcrdh c rd rs1 rs2) s c ((s.core c).entered 2 0 ((s.core c).pc) (none))) ∧
    (4 ≤ rs1.toNat ∨ rs2 ≠ 0 → LeavesCore (.spAcrdx c rd rs1 rs2) s c ((s.core c).entered 2 0 ((s.core c).pc) (none))) ∧
    (4 ≤ rd.toNat ∨ rs2 ≠ 0 → LeavesCore (.spAcwr c rd rs1 rs2) s c ((s.core c).entered 2 0 ((s.core c).pc) (none))) ∧
    (4 ≤ rd.toNat ∨ rs2 ≠ 0 → LeavesCore (.spAcwrh c rd rs1 rs2) s c ((s.core c).entered 2 0 ((s.core c).pc) (none))) ∧
    (4 ≤ rd.toNat ∨ rs2 ≠ 0 → LeavesCore (.spAcwrx c rd rs1 rs2) s c ((s.core c).entered 2 0 ((s.core c).pc) (none))) ∧
    (4 ≤ rd.toNat ∨ rs1 ≠ 0 ∨ rs2 ≠ 0 → LeavesCore (.spAcclr c rd rs1 rs2) s c ((s.core c).entered 2 0 ((s.core c).pc) (none))) ∧
    (rs1 ≠ 0 ∨ rs2 ≠ 0 → LeavesCore (.spWaitt c rd rs1 rs2) s c ((s.core c).entered 2 0 ((s.core c).pc) (none))) ∧
    (rd ≠ 0 ∨ rs1 ≠ 0 ∨ rs2 ≠ 0 → LeavesCore (.spFence c rd rs1 rs2) s c ((s.core c).entered 2 0 ((s.core c).pc) (none))) ∧
    (rd ≠ 0 ∨ rs1 ≠ 0 ∨ rs2 ≠ 0 → LeavesCore (.spXret c rd rs1 rs2) s c ((s.core c).entered 2 0 ((s.core c).pc) (none))) ∧
    (rd ≠ 0 ∨ rs1 ≠ 0 ∨ rs2 ≠ 0 → LeavesCore (.spHalt c rd rs1 rs2) s c ((s.core c).entered 2 0 ((s.core c).pc) (none))) ∧
    (rd ≠ 0 ∨ rs1 ≠ 0 ∨ rs2 ≠ 0 → LeavesCore (.spBreak c rd rs1 rs2) s c ((s.core c).entered 2 0 ((s.core c).pc) (none))) ∧
    (csr.toNat / 64 ≠ 0 → LeavesCore (.spLocktry c rd rs1 csr) s c ((s.core c).entered 2 0 ((s.core c).pc) (none))) ∧
    (csr.toNat / 32 ≠ 0 → LeavesCore (.spLawgo c rd rs1 csr) s c ((s.core c).entered 2 0 ((s.core c).pc) (none)))

/-- For every core that executes a load whose access raises neither ACCESS nor ALIGN, with EA = g[rs1] + simm and the physical
address of its form (R155): an address in the own TCM whose words are good answers a next state in which the destination holds
the 1, 2 or 4 little-endian bytes there, sign-extended for LDB and LDH, zero-extended for LDBU and LDHU, in f[rd] for FLW; any
other address leaves the core waiting for exactly that access, the PC at the load. Nothing else changes. -/
def Obligations.SpireLoads : Prop :=
  ∀ (s : State) (c : Fin 16) (form : Form) (rd rs1 : BitVec 5) (imm : BitVec 16), Executes s c →
    let ea := ((s.core c).gR rs1.toNat + imm.signExtend 32).toNat
    let a := physAddr (s.core c) form ea
    let off := a - 0xF0000000
    (accessFault (s.core c) form false ea 1 = none →
      (ownTcm a = true → (s.core c).tcmFails off 1 = false → Retires (.spLdb c form rd rs1 imm) s c (fun x => x.gW rd.toNat (BitVec.ofInt 32 (sx 8 (memLe x.tcm off 1))))) ∧
      (ownTcm a = false → LeavesCore (.spLdb c form rd rs1 imm) s c
        { s.core c with wait := some (.load ⟨a, 1, true, rd.toNat, false⟩) })) ∧
    (accessFault (s.core c) form false ea 1 = none →
      (ownTcm a = true → (s.core c).tcmFails off 1 = false → Retires (.spLdbu c form rd rs1 imm) s c (fun x => x.gW rd.toNat (BitVec.ofNat 32 (memLe x.tcm off 1)))) ∧
      (ownTcm a = false → LeavesCore (.spLdbu c form rd rs1 imm) s c
        { s.core c with wait := some (.load ⟨a, 1, false, rd.toNat, false⟩) })) ∧
    (accessFault (s.core c) form false ea 2 = none →
      (ownTcm a = true → (s.core c).tcmFails off 2 = false → Retires (.spLdh c form rd rs1 imm) s c (fun x => x.gW rd.toNat (BitVec.ofInt 32 (sx 16 (memLe x.tcm off 2))))) ∧
      (ownTcm a = false → LeavesCore (.spLdh c form rd rs1 imm) s c
        { s.core c with wait := some (.load ⟨a, 2, true, rd.toNat, false⟩) })) ∧
    (accessFault (s.core c) form false ea 2 = none →
      (ownTcm a = true → (s.core c).tcmFails off 2 = false → Retires (.spLdhu c form rd rs1 imm) s c (fun x => x.gW rd.toNat (BitVec.ofNat 32 (memLe x.tcm off 2)))) ∧
      (ownTcm a = false → LeavesCore (.spLdhu c form rd rs1 imm) s c
        { s.core c with wait := some (.load ⟨a, 2, false, rd.toNat, false⟩) })) ∧
    (accessFault (s.core c) form false ea 4 = none →
      (ownTcm a = true → (s.core c).tcmFails off 4 = false → Retires (.spLdw c form rd rs1 imm) s c (fun x => x.gW rd.toNat (BitVec.ofNat 32 (memLe x.tcm off 4)))) ∧
      (ownTcm a = false → LeavesCore (.spLdw c form rd rs1 imm) s c
        { s.core c with wait := some (.load ⟨a, 4, false, rd.toNat, false⟩) })) ∧
    (accessFault (s.core c) form false ea 4 = none →
      (ownTcm a = true → (s.core c).tcmFails off 4 = false → Retires (.spFlw c form rd rs1 imm) s c (fun x => x.fW rd.toNat (BitVec.ofNat 32 (memLe x.tcm off 4)))) ∧
      (ownTcm a = false → LeavesCore (.spFlw c form rd rs1 imm) s c
        { s.core c with wait := some (.load ⟨a, 4, false, rd.toNat, true⟩) }))

/-- For every core that executes STB, STH, STW or FSW and whose access raises neither ACCESS nor ALIGN: at an address in the own
TCM (in canonical form, and for a store of less than a word with good words) the next state holds the low bytes of the
register at EA and every other byte of TCM as before; elsewhere the store joins the end of the write buffer while it holds
fewer than four, else the core waits with it, the PC at the store. Nothing else changes, no byte of Cupola, DRAM or MRAM
included. -/
def Obligations.SpireStores : Prop :=
  ∀ (s : State) (c : Fin 16) (form : Form) (rd rs1 : BitVec 5) (imm : BitVec 16), Executes s c →
    let ea := ((s.core c).gR rs1.toNat + imm.signExtend 32).toNat
    let a := physAddr (s.core c) form ea
    let off := a - 0xF0000000
    (accessFault (s.core c) form true ea 1 = none →
      (ownTcm a = true → Memory.wf (s.core c).tcm = true → (s.core c).tcmFails off 1 = false → fetched s c = some (.spStb c form rd rs1 imm) → ∃ t, exec (.spStb c form rd rs1 imm) s = .next t ∧
        t.core c = { s.core c with pc := (s.core c).pc + 4, tcm := (t.core c).tcm, tcmBad := (t.core c).tcmBad, tcmCorr := (t.core c).tcmCorr } ∧
        (∀ b, memGet (t.core c).tcm b = if off ≤ b ∧ b < off + 1 then BitVec.ofNat 8 (((s.core c).gR rd.toNat).toNat / 256 ^ (b - off)) else memGet (s.core c).tcm b) ∧
        OnlyCore s t c) ∧
      (ownTcm a = false → (s.core c).buf.length < 4 → Retires (.spStb c form rd rs1 imm) s c (fun x => { x with buf := x.buf ++ [⟨a, 1, ((s.core c).gR rd.toNat).toNat % 2 ^ 8, (s.core c).task⟩] })) ∧
      (ownTcm a = false → 4 ≤ (s.core c).buf.length → LeavesCore (.spStb c form rd rs1 imm) s c { s.core c with wait := some (.store ⟨a, 1, ((s.core c).gR rd.toNat).toNat % 2 ^ 8, (s.core c).task⟩) })) ∧
    (accessFault (s.core c) form true ea 2 = none →
      (ownTcm a = true → Memory.wf (s.core c).tcm = true → (s.core c).tcmFails off 2 = false → fetched s c = some (.spSth c form rd rs1 imm) → ∃ t, exec (.spSth c form rd rs1 imm) s = .next t ∧
        t.core c = { s.core c with pc := (s.core c).pc + 4, tcm := (t.core c).tcm, tcmBad := (t.core c).tcmBad, tcmCorr := (t.core c).tcmCorr } ∧
        (∀ b, memGet (t.core c).tcm b = if off ≤ b ∧ b < off + 2 then BitVec.ofNat 8 (((s.core c).gR rd.toNat).toNat / 256 ^ (b - off)) else memGet (s.core c).tcm b) ∧
        OnlyCore s t c) ∧
      (ownTcm a = false → (s.core c).buf.length < 4 → Retires (.spSth c form rd rs1 imm) s c (fun x => { x with buf := x.buf ++ [⟨a, 2, ((s.core c).gR rd.toNat).toNat % 2 ^ 16, (s.core c).task⟩] })) ∧
      (ownTcm a = false → 4 ≤ (s.core c).buf.length → LeavesCore (.spSth c form rd rs1 imm) s c { s.core c with wait := some (.store ⟨a, 2, ((s.core c).gR rd.toNat).toNat % 2 ^ 16, (s.core c).task⟩) })) ∧
    (accessFault (s.core c) form true ea 4 = none →
      (ownTcm a = true → Memory.wf (s.core c).tcm = true → fetched s c = some (.spStw c form rd rs1 imm) → ∃ t, exec (.spStw c form rd rs1 imm) s = .next t ∧
        t.core c = { s.core c with pc := (s.core c).pc + 4, tcm := (t.core c).tcm, tcmBad := (t.core c).tcmBad, tcmCorr := (t.core c).tcmCorr } ∧
        (∀ b, memGet (t.core c).tcm b = if off ≤ b ∧ b < off + 4 then BitVec.ofNat 8 (((s.core c).gR rd.toNat).toNat / 256 ^ (b - off)) else memGet (s.core c).tcm b) ∧
        OnlyCore s t c) ∧
      (ownTcm a = false → (s.core c).buf.length < 4 → Retires (.spStw c form rd rs1 imm) s c (fun x => { x with buf := x.buf ++ [⟨a, 4, ((s.core c).gR rd.toNat).toNat % 2 ^ 32, (s.core c).task⟩] })) ∧
      (ownTcm a = false → 4 ≤ (s.core c).buf.length → LeavesCore (.spStw c form rd rs1 imm) s c { s.core c with wait := some (.store ⟨a, 4, ((s.core c).gR rd.toNat).toNat % 2 ^ 32, (s.core c).task⟩) })) ∧
    (accessFault (s.core c) form true ea 4 = none →
      (ownTcm a = true → Memory.wf (s.core c).tcm = true → fetched s c = some (.spFsw c form rd rs1 imm) → ∃ t, exec (.spFsw c form rd rs1 imm) s = .next t ∧
        t.core c = { s.core c with pc := (s.core c).pc + 4, tcm := (t.core c).tcm, tcmBad := (t.core c).tcmBad, tcmCorr := (t.core c).tcmCorr } ∧
        (∀ b, memGet (t.core c).tcm b = if off ≤ b ∧ b < off + 4 then BitVec.ofNat 8 (((s.core c).fR rd.toNat).toNat / 256 ^ (b - off)) else memGet (s.core c).tcm b) ∧
        OnlyCore s t c) ∧
      (ownTcm a = false → (s.core c).buf.length < 4 → Retires (.spFsw c form rd rs1 imm) s c (fun x => { x with buf := x.buf ++ [⟨a, 4, ((s.core c).fR rd.toNat).toNat % 2 ^ 32, (s.core c).task⟩] })) ∧
      (ownTcm a = false → 4 ≤ (s.core c).buf.length → LeavesCore (.spFsw c form rd rs1 imm) s c { s.core c with wait := some (.store ⟨a, 4, ((s.core c).fR rd.toNat).toNat % 2 ^ 32, (s.core c).task⟩) }))

/-- For every core that executes outside an exception: a load or store whose access raises ACCESS or ALIGN takes that exception in
a next state, with XPC at the instruction and XADDR at the address; no register, no TCM byte, no other state changes. -/
def Obligations.SpireAccessFaults : Prop :=
  ∀ (s : State) (c : Fin 16) (form : Form) (rd rs1 : BitVec 5) (imm : BitVec 16) (code addr : Nat), Executes s c → (s.core c).inx = false →
    let ea := ((s.core c).gR rs1.toNat + imm.signExtend 32).toNat
    (accessFault (s.core c) form false ea 1 = some (code, addr) → LeavesCore (.spLdb c form rd rs1 imm) s c ((s.core c).entered code 0 (s.core c).pc (some addr))) ∧
    (accessFault (s.core c) form false ea 1 = some (code, addr) → LeavesCore (.spLdbu c form rd rs1 imm) s c ((s.core c).entered code 0 (s.core c).pc (some addr))) ∧
    (accessFault (s.core c) form false ea 2 = some (code, addr) → LeavesCore (.spLdh c form rd rs1 imm) s c ((s.core c).entered code 0 (s.core c).pc (some addr))) ∧
    (accessFault (s.core c) form false ea 2 = some (code, addr) → LeavesCore (.spLdhu c form rd rs1 imm) s c ((s.core c).entered code 0 (s.core c).pc (some addr))) ∧
    (accessFault (s.core c) form false ea 4 = some (code, addr) → LeavesCore (.spLdw c form rd rs1 imm) s c ((s.core c).entered code 0 (s.core c).pc (some addr))) ∧
    (accessFault (s.core c) form false ea 4 = some (code, addr) → LeavesCore (.spFlw c form rd rs1 imm) s c ((s.core c).entered code 0 (s.core c).pc (some addr))) ∧
    (accessFault (s.core c) form true ea 1 = some (code, addr) → LeavesCore (.spStb c form rd rs1 imm) s c ((s.core c).entered code 0 (s.core c).pc (some addr))) ∧
    (accessFault (s.core c) form true ea 2 = some (code, addr) → LeavesCore (.spSth c form rd rs1 imm) s c ((s.core c).entered code 0 (s.core c).pc (some addr))) ∧
    (accessFault (s.core c) form true ea 4 = some (code, addr) → LeavesCore (.spStw c form rd rs1 imm) s c ((s.core c).entered code 0 (s.core c).pc (some addr))) ∧
    (accessFault (s.core c) form true ea 4 = some (code, addr) → LeavesCore (.spFsw c form rd rs1 imm) s c ((s.core c).entered code 0 (s.core c).pc (some addr)))

/-- For every core that executes: BEQ, BNE, BLT, BGE, BLTU, BGEU and their forms BEQI, BNEI, BLTI, BGEI with a signed 5-bit value
move the PC by 4 times their offset when the condition holds (the target lying in TCM) and to the next word when it does not;
BR always; BRL also writes the next address in g31, JALR in g[rd] and goes to g[rs1] + simm. Nothing else changes. -/
def Obligations.SpireBranches : Prop :=
  ∀ (s : State) (c : Fin 16) (ra rb : BitVec 5) (off imm : BitVec 16) (far : BitVec 26), Executes s c →
    ((((s.core c).gR ra.toNat) = ((s.core c).gR rb.toNat)) → 0 ≤ (((s.core c).pc : Int) + 4 * off.toInt) → (((s.core c).pc : Int) + 4 * off.toInt) < 0x40000 → LeavesCore (.spBeq c ra rb off) s c { s.core c with pc := ((((s.core c).pc : Int) + 4 * off.toInt)).toNat }) ∧
    (¬(((s.core c).gR ra.toNat) = ((s.core c).gR rb.toNat)) → Retires (.spBeq c ra rb off) s c id) ∧
    ((((s.core c).gR ra.toNat) ≠ ((s.core c).gR rb.toNat)) → 0 ≤ (((s.core c).pc : Int) + 4 * off.toInt) → (((s.core c).pc : Int) + 4 * off.toInt) < 0x40000 → LeavesCore (.spBne c ra rb off) s c { s.core c with pc := ((((s.core c).pc : Int) + 4 * off.toInt)).toNat }) ∧
    (¬(((s.core c).gR ra.toNat) ≠ ((s.core c).gR rb.toNat)) → Retires (.spBne c ra rb off) s c id) ∧
    ((((s.core c).gR ra.toNat).toInt < ((s.core c).gR rb.toNat).toInt) → 0 ≤ (((s.core c).pc : Int) + 4 * off.toInt) → (((s.core c).pc : Int) + 4 * off.toInt) < 0x40000 → LeavesCore (.spBlt c ra rb off) s c { s.core c with pc := ((((s.core c).pc : Int) + 4 * off.toInt)).toNat }) ∧
    (¬(((s.core c).gR ra.toNat).toInt < ((s.core c).gR rb.toNat).toInt) → Retires (.spBlt c ra rb off) s c id) ∧
    ((((s.core c).gR rb.toNat).toInt ≤ ((s.core c).gR ra.toNat).toInt) → 0 ≤ (((s.core c).pc : Int) + 4 * off.toInt) → (((s.core c).pc : Int) + 4 * off.toInt) < 0x40000 → LeavesCore (.spBge c ra rb off) s c { s.core c with pc := ((((s.core c).pc : Int) + 4 * off.toInt)).toNat }) ∧
    (¬(((s.core c).gR rb.toNat).toInt ≤ ((s.core c).gR ra.toNat).toInt) → Retires (.spBge c ra rb off) s c id) ∧
    ((((s.core c).gR ra.toNat).toNat < ((s.core c).gR rb.toNat).toNat) → 0 ≤ (((s.core c).pc : Int) + 4 * off.toInt) → (((s.core c).pc : Int) + 4 * off.toInt) < 0x40000 → LeavesCore (.spBltu c ra rb off) s c { s.core c with pc := ((((s.core c).pc : Int) + 4 * off.toInt)).toNat }) ∧
    (¬(((s.core c).gR ra.toNat).toNat < ((s.core c).gR rb.toNat).toNat) → Retires (.spBltu c ra rb off) s c id) ∧
    ((((s.core c).gR rb.toNat).toNat ≤ ((s.core c).gR ra.toNat).toNat) → 0 ≤ (((s.core c).pc : Int) + 4 * off.toInt) → (((s.core c).pc : Int) + 4 * off.toInt) < 0x40000 → LeavesCore (.spBgeu c ra rb off) s c { s.core c with pc := ((((s.core c).pc : Int) + 4 * off.toInt)).toNat }) ∧
    (¬(((s.core c).gR rb.toNat).toNat ≤ ((s.core c).gR ra.toNat).toNat) → Retires (.spBgeu c ra rb off) s c id) ∧
    ((((s.core c).gR ra.toNat) = rb.signExtend 32) → 0 ≤ (((s.core c).pc : Int) + 4 * off.toInt) → (((s.core c).pc : Int) + 4 * off.toInt) < 0x40000 → LeavesCore (.spBeqi c ra rb off) s c { s.core c with pc := ((((s.core c).pc : Int) + 4 * off.toInt)).toNat }) ∧
    (¬(((s.core c).gR ra.toNat) = rb.signExtend 32) → Retires (.spBeqi c ra rb off) s c id) ∧
    ((((s.core c).gR ra.toNat) ≠ rb.signExtend 32) → 0 ≤ (((s.core c).pc : Int) + 4 * off.toInt) → (((s.core c).pc : Int) + 4 * off.toInt) < 0x40000 → LeavesCore (.spBnei c ra rb off) s c { s.core c with pc := ((((s.core c).pc : Int) + 4 * off.toInt)).toNat }) ∧
    (¬(((s.core c).gR ra.toNat) ≠ rb.signExtend 32) → Retires (.spBnei c ra rb off) s c id) ∧
    ((((s.core c).gR ra.toNat).toInt < rb.toInt) → 0 ≤ (((s.core c).pc : Int) + 4 * off.toInt) → (((s.core c).pc : Int) + 4 * off.toInt) < 0x40000 → LeavesCore (.spBlti c ra rb off) s c { s.core c with pc := ((((s.core c).pc : Int) + 4 * off.toInt)).toNat }) ∧
    (¬(((s.core c).gR ra.toNat).toInt < rb.toInt) → Retires (.spBlti c ra rb off) s c id) ∧
    ((rb.toInt ≤ ((s.core c).gR ra.toNat).toInt) → 0 ≤ (((s.core c).pc : Int) + 4 * off.toInt) → (((s.core c).pc : Int) + 4 * off.toInt) < 0x40000 → LeavesCore (.spBgei c ra rb off) s c { s.core c with pc := ((((s.core c).pc : Int) + 4 * off.toInt)).toNat }) ∧
    (¬(rb.toInt ≤ ((s.core c).gR ra.toNat).toInt) → Retires (.spBgei c ra rb off) s c id) ∧
    (0 ≤ (((s.core c).pc : Int) + 4 * far.toInt) → (((s.core c).pc : Int) + 4 * far.toInt) < 0x40000 → LeavesCore (.spBr c far) s c { s.core c with pc := ((((s.core c).pc : Int) + 4 * far.toInt)).toNat }) ∧
    (0 ≤ (((s.core c).pc : Int) + 4 * far.toInt) → (((s.core c).pc : Int) + 4 * far.toInt) < 0x40000 → LeavesCore (.spBrl c far) s c { (s.core c).gW 31 (BitVec.ofNat 32 ((s.core c).pc + 4)) with pc := ((((s.core c).pc : Int) + 4 * far.toInt)).toNat }) ∧
    (((s.core c).gR rb.toNat + imm.signExtend 32).toNat < 0x40000 → ((s.core c).gR rb.toNat + imm.signExtend 32).toNat % 4 = 0 →
      LeavesCore (.spJalr c ra rb imm) s c { (s.core c).gW ra.toNat (BitVec.ofNat 32 ((s.core c).pc + 4)) with pc := (((s.core c).gR rb.toNat + imm.signExtend 32)).toNat })

/-- For every core that executes outside an exception: BR, BRL and a taken BEQ whose target lies outside TCM, and JALR to an
address beyond TCM, take ACCESS with XADDR the target and XPC the branch, and write no register; JALR to an address in TCM
that is no multiple of four takes ALIGN with XADDR the physical address of the target. -/
def Obligations.SpireBranchFaults : Prop :=
  ∀ (s : State) (c : Fin 16) (ra rb : BitVec 5) (off imm : BitVec 16) (far : BitVec 26), Executes s c → (s.core c).inx = false →
    ((((s.core c).pc : Int) + 4 * far.toInt) < 0 ∨ 0x40000 ≤ (((s.core c).pc : Int) + 4 * far.toInt) → LeavesCore (.spBr c far) s c ((s.core c).entered 4 0 (s.core c).pc (some (uz 32 (((s.core c).pc : Int) + 4 * far.toInt)))) ∧ LeavesCore (.spBrl c far) s c ((s.core c).entered 4 0 (s.core c).pc (some (uz 32 (((s.core c).pc : Int) + 4 * far.toInt))))) ∧
    (((s.core c).gR ra.toNat) = ((s.core c).gR rb.toNat) → (((s.core c).pc : Int) + 4 * off.toInt) < 0 ∨ 0x40000 ≤ (((s.core c).pc : Int) + 4 * off.toInt) → LeavesCore (.spBeq c ra rb off) s c ((s.core c).entered 4 0 (s.core c).pc (some (uz 32 (((s.core c).pc : Int) + 4 * off.toInt))))) ∧
    (0x40000 ≤ ((s.core c).gR rb.toNat + imm.signExtend 32).toNat → LeavesCore (.spJalr c ra rb imm) s c ((s.core c).entered 4 0 (s.core c).pc (some (((s.core c).gR rb.toNat + imm.signExtend 32).toNat)))) ∧
    (((s.core c).gR rb.toNat + imm.signExtend 32).toNat < 0x40000 → ((s.core c).gR rb.toNat + imm.signExtend 32).toNat % 4 ≠ 0 → LeavesCore (.spJalr c ra rb imm) s c ((s.core c).entered 5 0 (s.core c).pc (some (0xF0000000 + ((s.core c).gR rb.toNat + imm.signExtend 32).toNat))))

/-- For every core that executes: XRET in SUP takes IE, MIE and PRIV from XSAVE, clears INX and goes to XPC; TRAP enters exception
7 with XPC at the next instruction, BREAK exception 8 with XPC at itself; in TASK XRET and HALT take PRIV (3) with XPC at
themselves; HALT in SUP sets HALTED with cause INSTR (3), the PC at the next instruction, and leaves memory. -/
def Obligations.SpireSystemInstructions : Prop :=
  ∀ (s : State) (c : Fin 16) (code : BitVec 10), Executes s c →
    ((s.core c).task = false → LeavesCore (.spXret c 0 0 0) s c
      { s.core c with ie := (s.core c).xsIe, mie := (s.core c).xsMie, task := (s.core c).xsTask, inx := false, pc := (s.core c).xpc }) ∧
    ((s.core c).inx = false → LeavesCore (.spTrap c 0 code) s c ((s.core c).entered 7 0 ((s.core c).pc + 4) none)) ∧
    ((s.core c).inx = false → LeavesCore (.spBreak c 0 0 0) s c ((s.core c).entered 8 0 (s.core c).pc none)) ∧
    ((s.core c).task = true → (s.core c).inx = false →
      LeavesCore (.spXret c 0 0 0) s c ((s.core c).entered 3 0 (s.core c).pc none) ∧ LeavesCore (.spHalt c 0 0 0) s c ((s.core c).entered 3 0 (s.core c).pc none)) ∧
    ((s.core c).task = false → fetched s c = some (.spHalt c 0 0 0) → ∃ t, exec (.spHalt c 0 0 0) s = .next t ∧ t.on SPIRE_STATUS_HALTED c = true ∧ t.rd SPIRE_STATUS_CAUSE c = 3 ∧
      (t.core c).pc = (s.core c).pc + 4 ∧ SameMemory s t)

/-- For every core that executes and every CSR number: where a CSR has it, CSRR returns its value in g[rd] (a read of CCOUNT_LO
latches CCOUNT_HI); CSRW, CSRS and CSRC return the old value and write g[rs1], the OR with it, or the AND with its complement
into the writable bits, in SUP or for DWIN; in TASK any other write takes PRIV and changes no CSR; an unknown number takes
ILLEGAL. Nothing else changes. -/
def Obligations.SpireCsrAccess : Prop :=
  ∀ (s : State) (c : Fin 16) (rd rs1 : BitVec 5) (csr : BitVec 12) (old : Nat), Executes s c →
    (csrRead (afterFetch s c) c csr.toNat (s.core c) = some old → LeavesCore (.spCsrr c rd 0 csr) s c
      { (csrLatch s csr.toNat (s.core c)).gW rd.toNat (BitVec.ofNat 32 old) with pc := (s.core c).pc + 4 }) ∧
    (csrRead (afterFetch s c) c csr.toNat (s.core c) = some old → (s.core c).task = false ∨ csr.toNat = 0x00B →
      LeavesCore (.spCsrw c rd rs1 csr) s c
        { csrWrite csr.toNat (((s.core c).gR rs1.toNat).toNat) ((csrLatch s csr.toNat (s.core c)).gW rd.toNat (BitVec.ofNat 32 old)) with pc := (s.core c).pc + 4 }) ∧
    (csrRead (afterFetch s c) c csr.toNat (s.core c) = some old → (s.core c).task = true → csr.toNat ≠ 0x00B → (s.core c).inx = false →
      LeavesCore (.spCsrw c rd rs1 csr) s c ((s.core c).entered 3 0 (s.core c).pc none)) ∧
    (csrRead (afterFetch s c) c csr.toNat (s.core c) = some old → (s.core c).task = false ∨ csr.toNat = 0x00B →
      LeavesCore (.spCsrs c rd rs1 csr) s c
        { csrWrite csr.toNat (old ||| ((s.core c).gR rs1.toNat).toNat) ((csrLatch s csr.toNat (s.core c)).gW rd.toNat (BitVec.ofNat 32 old)) with pc := (s.core c).pc + 4 }) ∧
    (csrRead (afterFetch s c) c csr.toNat (s.core c) = some old → (s.core c).task = true → csr.toNat ≠ 0x00B → (s.core c).inx = false →
      LeavesCore (.spCsrs c rd rs1 csr) s c ((s.core c).entered 3 0 (s.core c).pc none)) ∧
    (csrRead (afterFetch s c) c csr.toNat (s.core c) = some old → (s.core c).task = false ∨ csr.toNat = 0x00B →
      LeavesCore (.spCsrc c rd rs1 csr) s c
        { csrWrite csr.toNat (old &&& (~~~((s.core c).gR rs1.toNat)).toNat) ((csrLatch s csr.toNat (s.core c)).gW rd.toNat (BitVec.ofNat 32 old)) with pc := (s.core c).pc + 4 }) ∧
    (csrRead (afterFetch s c) c csr.toNat (s.core c) = some old → (s.core c).task = true → csr.toNat ≠ 0x00B → (s.core c).inx = false →
      LeavesCore (.spCsrc c rd rs1 csr) s c ((s.core c).entered 3 0 (s.core c).pc none)) ∧
    (csrRead (afterFetch s c) c csr.toNat (s.core c) = none → (s.core c).inx = false →
      LeavesCore (.spCsrr c rd 0 csr) s c ((s.core c).entered 2 0 (s.core c).pc none)) ∧
    (csrRead (afterFetch s c) c csr.toNat (s.core c) = none → (s.core c).inx = false →
      LeavesCore (.spCsrw c rd rs1 csr) s c ((s.core c).entered 2 0 (s.core c).pc none)) ∧
    (csrRead (afterFetch s c) c csr.toNat (s.core c) = none → (s.core c).inx = false →
      LeavesCore (.spCsrs c rd rs1 csr) s c ((s.core c).entered 2 0 (s.core c).pc none)) ∧
    (csrRead (afterFetch s c) c csr.toNat (s.core c) = none → (s.core c).inx = false →
      LeavesCore (.spCsrc c rd rs1 csr) s c ((s.core c).entered 2 0 (s.core c).pc none))

/-- For every core that executes: WAITT waits while no tick is counted and else clears TICKS and answers 2³¹ plus the missed
ticks; BAR waits with its mask when it names the core and raises ILLEGAL when not; FENCE ends with an empty write buffer and
else waits; RECV waits on an empty mailbox, RECVN clears MSRC's valid bit, both take the oldest message into a register pair;
SEND to a core number of 16 or more raises ILLEGAL, to a full mailbox returns E_FULL, else returns OK and the message is on
its way, visible 6 FAB clocks later. -/
def Obligations.SpireSynchronisation : Prop :=
  ∀ (s : State) (c : Fin 16) (rd rs1 rs2 : BitVec 5), Executes s c →
    ((s.core c).ticks = 0 → LeavesCore (.spWaitt c rd 0 0) s c { s.core c with wait := some (.waitt rd.toNat) }) ∧
    ((s.core c).ticks ≠ 0 → Retires (.spWaitt c rd 0 0) s c (fun x => { x with ticks := 0 }.gW rd.toNat (BitVec.ofNat 32 (2 ^ 31 + x.ticks)))) ∧
    (bit ((s.core c).gR rs1.toNat).toNat c.val = true → LeavesCore (.spBar c rd rs1 0) s c { s.core c with wait := some (.bar rd.toNat (((s.core c).gR rs1.toNat).toNat % 2 ^ 16) s.fab) }) ∧
    (bit ((s.core c).gR rs1.toNat).toNat c.val = false → ((s.core c).inx = false → LeavesCore (.spBar c rd rs1 0) s c ((s.core c).entered 2 0 (s.core c).pc none))) ∧
    ((s.core c).buf = [] → Retires (.spFence c 0 0 0) s c (id)) ∧
    ((s.core c).buf ≠ [] → LeavesCore (.spFence c 0 0 0) s c { s.core c with wait := some (.fence) }) ∧
    ((s.core c).mbox = [] → rd.toNat % 2 = 0 → LeavesCore (.spRecv c rd 0 0) s c { s.core c with wait := some (.recv rd.toNat) } ∧
      Retires (.spRecvn c rd 0 0) s c (fun x => { x with msrcValid := false })) ∧
    (∀ m rest, (s.core c).mbox = m :: rest → rd.toNat % 2 = 0 →
      Retires (.spRecv c rd 0 0) s c (fun x => { ((x.gW rd.toNat m.lo).gW (rd.toNat + 1) m.hi) with mbox := rest, msrc := m.src, msrcValid := true }) ∧
      Retires (.spRecvn c rd 0 0) s c (fun x => { ((x.gW rd.toNat m.lo).gW (rd.toNat + 1) m.hi) with mbox := rest, msrc := m.src, msrcValid := true })) ∧
    (rs2.toNat % 2 = 0 → 16 ≤ ((s.core c).gR rs1.toNat).toNat → ((s.core c).inx = false → LeavesCore (.spSend c rd rs1 rs2) s c ((s.core c).entered 2 0 (s.core c).pc none))) ∧
    (rs2.toNat % 2 = 0 → ∀ n : Fin 16, ((s.core c).gR rs1.toNat).toNat = n.val → mailboxFull s n.val = true → Retires (.spSend c rd rs1 rs2) s c (fun x => x.gW rd.toNat 8)) ∧
    (rs2.toNat % 2 = 0 → ∀ n : Fin 16, ((s.core c).gR rs1.toNat).toNat = n.val → mailboxFull s n.val = false → fetched s c = some (.spSend c rd rs1 rs2) →
      ∃ t, exec (.spSend c rd rs1 rs2) s = .next t ∧ (t.core c).pc = (s.core c).pc + 4 ∧ (t.core c).gR rd.toNat = 0 ∧
      (t.core n.val).soon = (s.core n.val).soon ++ [(s.fab + 6, ⟨(s.core c).gR rs2.toNat, (s.core c).gR (rs2.toNat + 1), c.val⟩)] ∧
      (∀ k : Nat, k ≠ n.val → (t.core k).soon = (s.core k).soon) ∧ SameMemory s t)

/-- For every core that executes, with token (g[rs1] + imm16[5:0]) mod 64: LOCKTRY and LOCKACQ take a free token without waiters
and answer OK, answer E_STATE when the core holds it already; when another requester has it or waits, LOCKTRY answers E_LOCKED
and LOCKACQ leaves the core waiting among the token's waiters; LOCKREL of a held token frees it, LOCKCLR clears its BROKEN,
and both answer E_TOKEN for a token the core does not hold. The result word in g[rd] is that of R189 for the state after the
operation. -/
def Obligations.SpireLockInstructions : Prop :=
  ∀ (s : State) (c : Fin 16) (rd rs1 : BitVec 5) (k : Fin 64), Executes s c →
    let tok := (((s.core c).gR rs1.toNat).toNat + k.val) % 64
    (holds s tok c = false → s.on BELFRY_TOK_STATE_HELD 0 tok = false → s.bel.waiters.get [] tok = [] → fetched s c = some (.spLocktry c rd rs1 (BitVec.ofNat 12 k.val)) → ∃ t, exec (.spLocktry c rd rs1 (BitVec.ofNat 12 k.val)) s = .next t ∧ (t.core c).pc = (s.core c).pc + 4 ∧
      (rd ≠ 0 → (t.core c).gR rd.toNat = BitVec.ofNat 32 (lockWord t tok c OK)) ∧ holds t tok c = true ∧ SameMemory s t) ∧
    (holds s tok c = true → fetched s c = some (.spLocktry c rd rs1 (BitVec.ofNat 12 k.val)) → ∃ t, exec (.spLocktry c rd rs1 (BitVec.ofNat 12 k.val)) s = .next t ∧ (t.core c).pc = (s.core c).pc + 4 ∧
      (rd ≠ 0 → (t.core c).gR rd.toNat = BitVec.ofNat 32 (lockWord t tok c E_STATE)) ∧ (∀ i : Fin 64, holds t i c = holds s i c) ∧ SameMemory s t) ∧
    (holds s tok c = false → s.on BELFRY_TOK_STATE_HELD 0 tok = true ∨ s.bel.waiters.get [] tok ≠ [] → fetched s c = some (.spLocktry c rd rs1 (BitVec.ofNat 12 k.val)) → ∃ t, exec (.spLocktry c rd rs1 (BitVec.ofNat 12 k.val)) s = .next t ∧ (t.core c).pc = (s.core c).pc + 4 ∧
      (rd ≠ 0 → (t.core c).gR rd.toNat = BitVec.ofNat 32 (lockWord t tok c E_LOCKED)) ∧ (∀ i : Fin 64, holds t i c = holds s i c) ∧ SameMemory s t) ∧
    (holds s tok c = false → s.on BELFRY_TOK_STATE_HELD 0 tok = false → s.bel.waiters.get [] tok = [] → fetched s c = some (.spLockacq c rd rs1 (BitVec.ofNat 12 k.val)) → ∃ t, exec (.spLockacq c rd rs1 (BitVec.ofNat 12 k.val)) s = .next t ∧ (t.core c).pc = (s.core c).pc + 4 ∧
      (rd ≠ 0 → (t.core c).gR rd.toNat = BitVec.ofNat 32 (lockWord t tok c OK)) ∧ holds t tok c = true ∧ SameMemory s t) ∧
    (holds s tok c = true → fetched s c = some (.spLockacq c rd rs1 (BitVec.ofNat 12 k.val)) → ∃ t, exec (.spLockacq c rd rs1 (BitVec.ofNat 12 k.val)) s = .next t ∧ (t.core c).pc = (s.core c).pc + 4 ∧
      (rd ≠ 0 → (t.core c).gR rd.toNat = BitVec.ofNat 32 (lockWord t tok c E_STATE)) ∧ (∀ i : Fin 64, holds t i c = holds s i c) ∧ SameMemory s t) ∧
    (holds s tok c = false → s.on BELFRY_TOK_STATE_HELD 0 tok = true ∨ s.bel.waiters.get [] tok ≠ [] → fetched s c = some (.spLockacq c rd rs1 (BitVec.ofNat 12 k.val)) → ∃ t, exec (.spLockacq c rd rs1 (BitVec.ofNat 12 k.val)) s = .next t ∧ (t.core c).pc = (s.core c).pc ∧ (t.core c).wait = some (.lock rd.toNat tok) ∧
      (∃ w ∈ t.bel.waiters.get [] tok, w.core = c.val)) ∧
    (holds s tok c = true → fetched s c = some (.spLockrel c rd rs1 (BitVec.ofNat 12 k.val)) → ∃ t, exec (.spLockrel c rd rs1 (BitVec.ofNat 12 k.val)) s = .next t ∧ (t.core c).pc = (s.core c).pc + 4 ∧
      (rd ≠ 0 → (t.core c).gR rd.toNat = BitVec.ofNat 32 (lockWord t tok c OK)) ∧ t.on BELFRY_TOK_STATE_HELD 0 tok = false ∧ SameMemory s t) ∧
    (holds s tok c = false → fetched s c = some (.spLockrel c rd rs1 (BitVec.ofNat 12 k.val)) → ∃ t, exec (.spLockrel c rd rs1 (BitVec.ofNat 12 k.val)) s = .next t ∧ (t.core c).pc = (s.core c).pc + 4 ∧
      (rd ≠ 0 → (t.core c).gR rd.toNat = BitVec.ofNat 32 (lockWord t tok c E_TOKEN)) ∧ (∀ i : Fin 64, holds t i c = holds s i c) ∧ SameMemory s t) ∧
    (holds s tok c = true → fetched s c = some (.spLockclr c rd rs1 (BitVec.ofNat 12 k.val)) → ∃ t, exec (.spLockclr c rd rs1 (BitVec.ofNat 12 k.val)) s = .next t ∧ (t.core c).pc = (s.core c).pc + 4 ∧
      (rd ≠ 0 → (t.core c).gR rd.toNat = BitVec.ofNat 32 (lockWord t tok c OK)) ∧ t.on BELFRY_TOK_STATE_BROKEN 0 tok = false ∧ holds t tok c = true ∧ SameMemory s t) ∧
    (holds s tok c = false → fetched s c = some (.spLockclr c rd rs1 (BitVec.ofNat 12 k.val)) → ∃ t, exec (.spLockclr c rd rs1 (BitVec.ofNat 12 k.val)) s = .next t ∧ (t.core c).pc = (s.core c).pc + 4 ∧
      (rd ≠ 0 → (t.core c).gR rd.toNat = BitVec.ofNat 32 (lockWord t tok c E_TOKEN)) ∧ (∀ i : Fin 64, holds t i c = holds s i c) ∧ SameMemory s t)

/-- For every core that executes: LAWIN and LAWING write f[rd] or g[rd] to the XF word they name (word 0 keeps 0.0) on the next
edge when no other write of the word lies after the present edge, and no other word changes; LAWOUT and LAWOUTG read a good
word into f[rd] or g[rd] as it stood before the present edge (0 while LAW.CTRL.INIT runs); LAWGO answers its status code in
g[rd] and queues the list, on the next edge and by ascending core on one edge, exactly when the code is OK; LAWWT ends at once
for a list that is neither queued nor running and else waits for it; LAWST reads the list's status word. -/
def Obligations.SpireLawInstructions : Prop :=
  ∀ (s : State) (c : Fin 16) (rd rs1 : BitVec 5) (operand : BitVec 12) (k : Fin 32), Executes s c →
    (s.law.initBusy = false → (∀ l ∈ findKey s.law.late (xfKey ((((s.core c).gR rs1.toNat).toNat + operand.toNat) % 4096)), ∀ p ∈ l.puts, p.edge ≤ s.fab) → fetched s c = some (.spLawin c rd rs1 operand) →
      ∃ t, exec (.spLawin c rd rs1 operand) s = .next t ∧ (t.core c).pc = (s.core c).pc + 4 ∧
      (∀ w, w < 4096 → lawWord t (xfKey w) = if w = (((s.core c).gR rs1.toNat).toNat + operand.toNat) % 4096 ∧ w ≠ 0 then ((s.core c).fR rd.toNat).toNat else lawWord s (xfKey w)) ∧
      ((((s.core c).gR rs1.toNat).toNat + operand.toNat) % 4096 ≠ 0 → xfRead { t with fab := s.fab + 1 } ((((s.core c).gR rs1.toNat).toNat + operand.toNat) % 4096) = ((s.core c).fR rd.toNat).toNat) ∧ (∀ i, (t.core c).gR i = (s.core c).gR i) ∧ SameMemory s t) ∧
    (s.law.initBusy = false → (∀ l ∈ findKey s.law.late (xfKey ((((s.core c).gR rs1.toNat).toNat + operand.toNat) % 4096)), ∀ p ∈ l.puts, p.edge ≤ s.fab) → fetched s c = some (.spLawing c rd rs1 operand) →
      ∃ t, exec (.spLawing c rd rs1 operand) s = .next t ∧ (t.core c).pc = (s.core c).pc + 4 ∧
      (∀ w, w < 4096 → lawWord t (xfKey w) = if w = (((s.core c).gR rs1.toNat).toNat + operand.toNat) % 4096 ∧ w ≠ 0 then ((s.core c).gR rd.toNat).toNat else lawWord s (xfKey w)) ∧
      ((((s.core c).gR rs1.toNat).toNat + operand.toNat) % 4096 ≠ 0 → xfRead { t with fab := s.fab + 1 } ((((s.core c).gR rs1.toNat).toNat + operand.toNat) % 4096) = ((s.core c).gR rd.toNat).toNat) ∧ (∀ i, (t.core c).gR i = (s.core c).gR i) ∧ SameMemory s t) ∧
    (s.law.initBusy = false → (((s.core c).gR rs1.toNat).toNat + operand.toNat) % 4096 = 0 ∨ lawBad s (4 * xfKey ((((s.core c).gR rs1.toNat).toNat + operand.toNat) % 4096)) 1 = false →
      Retires (.spLawout c rd rs1 operand) s c (fun x => x.fW rd.toNat (BitVec.ofNat 32 (xfSeen s ((((s.core c).gR rs1.toNat).toNat + operand.toNat) % 4096) fun p => decide (p.edge < s.fab))))) ∧
    (s.law.initBusy = true → Retires (.spLawout c rd rs1 operand) s c (fun x => x.fW rd.toNat 0)) ∧
    (s.law.initBusy = false → (((s.core c).gR rs1.toNat).toNat + operand.toNat) % 4096 = 0 ∨ lawBad s (4 * xfKey ((((s.core c).gR rs1.toNat).toNat + operand.toNat) % 4096)) 1 = false →
      Retires (.spLawoutg c rd rs1 operand) s c (fun x => x.gW rd.toNat (BitVec.ofNat 32 (xfSeen s ((((s.core c).gR rs1.toNat).toNat + operand.toNat) % 4096) fun p => decide (p.edge < s.fab))))) ∧
    (s.law.initBusy = true → Retires (.spLawoutg c rd rs1 operand) s c (fun x => x.gW rd.toNat 0)) ∧
    (listActive s ((((s.core c).gR rs1.toNat).toNat + k.val) % 32) = true → LeavesCore (.spLawwt c 0 rs1 (BitVec.ofNat 12 k.val)) s c { s.core c with wait := some (.lawwt ((((s.core c).gR rs1.toNat).toNat + k.val) % 32)) }) ∧
    (listActive s ((((s.core c).gR rs1.toNat).toNat + k.val) % 32) = false → Retires (.spLawwt c 0 rs1 (BitVec.ofNat 12 k.val)) s c (id)) ∧
    (s.law.initBusy = false → lawBad s (0x104 + 0x10 * ((((s.core c).gR rs1.toNat).toNat + k.val) % 32)) 1 = false →
      Retires (.spLawst c rd rs1 (BitVec.ofNat 12 k.val)) s c (fun x => x.gW rd.toNat (BitVec.ofNat 32 ((afterFetch s c).readWord .law 0 (0x104 + 0x10 * ((((s.core c).gR rs1.toNat).toNat + k.val) % 32)))))) ∧
    (fetched s c = some (.spLawgo c rd rs1 (BitVec.ofNat 12 k.val)) → ∃ t, exec (.spLawgo c rd rs1 (BitVec.ofNat 12 k.val)) s = .next t ∧ (t.core c).pc = (s.core c).pc + 4 ∧ SameMemory s t ∧
      (rd ≠ 0 → (t.core c).gR rd.toNat = BitVec.ofNat 32 (lawGoCode (afterFetch s c) ((((s.core c).gR rs1.toNat).toNat + k.val) % 32))) ∧
      t.law.queue = if lawGoCode (afterFetch s c) ((((s.core c).gR rs1.toNat).toNat + k.val) % 32) = OK then queueGo ⟨(((s.core c).gR rs1.toNat).toNat + k.val) % 32, s.fab + 1, c.val⟩ s.law.queue else s.law.queue)

/-- For every core that executes CGATH, CGATHX, CSCAT or CSCATX with a legal descriptor, its TCM ranges inside TCM, aligned and
good: the next state has in g[rd] the first status that is not OK (OK exactly when none is) and above it the number of
elements that are not OK, at most CNT; no other g register changes, the gathers leave every entry of the cell store (but for
words under a single-bit error, which they correct), the scatters every byte of TCM, and no byte of memory changes. A
descriptor with a wrong CNT, alignment, field end or id raises ILLEGAL. -/
def Obligations.SpireCellInstructions : Prop :=
  ∀ (s : State) (c : Fin 16) (rd rs1 rs2 : BitVec 5), Executes s c →
    let d := CellDesc.of ((s.core c).gR rs2.toNat)
    let base := ((s.core c).gR rs1.toNat).toNat
    let table := ((s.core c).gR (rs1.toNat + 1)).toNat
    (d.illegal false = false → base + d.cnt * d.size ≤ 0x40000 → base % d.size = 0 → (d.size < 4 → (s.core c).tcmFails base (d.cnt * d.size) = false) → fetched s c = some (.spCgath c rd rs1 rs2) →
      ∃ (t : State) (st n : Nat), exec (.spCgath c rd rs1 rs2) s = .next t ∧ n ≤ d.cnt ∧ (st = OK ↔ n = 0) ∧
      (rd ≠ 0 → (t.core c).gR rd.toNat = BitVec.ofNat 32 (st % 256 + 2 ^ 16 * n)) ∧
      (∀ i, i ≠ rd.toNat → (t.core c).gR i = (s.core c).gR i) ∧ (t.core c).pc = (s.core c).pc + 4 ∧ (∀ k : Nat, t.entry k = { s.entry k with single := (t.entry k).single }) ∧ SameMemory s t) ∧
    (d.illegal false = true → (s.core c).inx = false → LeavesCore (.spCgath c rd rs1 rs2) s c ((s.core c).entered 2 0 (s.core c).pc none)) ∧
    (d.illegal true = false → base + d.cnt * d.size ≤ 0x40000 → base % d.size = 0 → rs1.toNat % 2 = 0 → table + 2 * d.cnt ≤ 0x40000 → table % 2 = 0 → (s.core c).tcmFails table (2 * d.cnt) = false → (d.size < 4 → (s.core c).tcmFails base (d.cnt * d.size) = false) → fetched s c = some (.spCgathx c rd rs1 rs2) →
      ∃ (t : State) (st n : Nat), exec (.spCgathx c rd rs1 rs2) s = .next t ∧ n ≤ d.cnt ∧ (st = OK ↔ n = 0) ∧
      (rd ≠ 0 → (t.core c).gR rd.toNat = BitVec.ofNat 32 (st % 256 + 2 ^ 16 * n)) ∧
      (∀ i, i ≠ rd.toNat → (t.core c).gR i = (s.core c).gR i) ∧ (t.core c).pc = (s.core c).pc + 4 ∧ (∀ k : Nat, t.entry k = { s.entry k with single := (t.entry k).single }) ∧ SameMemory s t) ∧
    (d.illegal true = true → (s.core c).inx = false → rs1.toNat % 2 = 0 → LeavesCore (.spCgathx c rd rs1 rs2) s c ((s.core c).entered 2 0 (s.core c).pc none)) ∧
    (d.illegal false = false → base + d.cnt * d.size ≤ 0x40000 → base % d.size = 0 → (s.core c).tcmFails base (d.cnt * d.size) = false → fetched s c = some (.spCscat c rd rs1 rs2) →
      ∃ (t : State) (st n : Nat), exec (.spCscat c rd rs1 rs2) s = .next t ∧ n ≤ d.cnt ∧ (st = OK ↔ n = 0) ∧
      (rd ≠ 0 → (t.core c).gR rd.toNat = BitVec.ofNat 32 (st % 256 + 2 ^ 16 * n)) ∧
      (∀ i, i ≠ rd.toNat → (t.core c).gR i = (s.core c).gR i) ∧ (t.core c).pc = (s.core c).pc + 4 ∧ (t.core c).tcm = (s.core c).tcm ∧ SameMemory s t) ∧
    (d.illegal false = true → (s.core c).inx = false → LeavesCore (.spCscat c rd rs1 rs2) s c ((s.core c).entered 2 0 (s.core c).pc none)) ∧
    (d.illegal true = false → base + d.cnt * d.size ≤ 0x40000 → base % d.size = 0 → rs1.toNat % 2 = 0 → table + 2 * d.cnt ≤ 0x40000 → table % 2 = 0 → (s.core c).tcmFails table (2 * d.cnt) = false → (s.core c).tcmFails base (d.cnt * d.size) = false → fetched s c = some (.spCscatx c rd rs1 rs2) →
      ∃ (t : State) (st n : Nat), exec (.spCscatx c rd rs1 rs2) s = .next t ∧ n ≤ d.cnt ∧ (st = OK ↔ n = 0) ∧
      (rd ≠ 0 → (t.core c).gR rd.toNat = BitVec.ofNat 32 (st % 256 + 2 ^ 16 * n)) ∧
      (∀ i, i ≠ rd.toNat → (t.core c).gR i = (s.core c).gR i) ∧ (t.core c).pc = (s.core c).pc + 4 ∧ (t.core c).tcm = (s.core c).tcm ∧ SameMemory s t) ∧
    (d.illegal true = true → (s.core c).inx = false → rs1.toNat % 2 = 0 → LeavesCore (.spCscatx c rd rs1 rs2) s c ((s.core c).entered 2 0 (s.core c).pc none))

/-- For every core that runs outside an exception with no halt waiting, and for an instruction of every group (ADD, FADD, STW, BR,
CSRR and TRAP stand for them): with the PC at or beyond the end of TCM the next state has taken ACCESS with XADDR the address
fetched; with the PC on a word under an uncorrectable error it has taken ECC with status E_ECC and ECC.UNCORR is set; with a
word at the PC that no row of the instruction set has, it has taken ILLEGAL. The instruction itself has no effect. -/
def Obligations.SpireFetchFaults : Prop :=
  ∀ (s : State) (c : Fin 16) (rd rs1 rs2 : BitVec 5) (imm : BitVec 16) (csr : BitVec 12) (far : BitVec 26) (code : BitVec 10) (i : Instr),
    i ∈ [.spAdd c rd rs1 rs2, .spFadd c rd rs1 rs2, .spStw c .tcm rd rs1 imm, .spBr c far, .spCsrr c rd rs1 csr, .spTrap c rd code] →
    coreRuns s c = true → (s.core c).haltReq = false → (s.core c).inx = false →
    (0x40000 ≤ (s.core c).pc → Leaves i s c ((s.core c).entered 4 0 (s.core c).pc (some (0xF0000000 + (s.core c).pc)))) ∧
    ((s.core c).pc < 0x40000 → (s.core c).tcmFails (s.core c).pc 4 = true → ∃ t, exec i s = .next t ∧ t.on SPIRE_ECC_UNCORR c = true ∧
      t.core c = (s.core c).entered 6 0x0F (s.core c).pc (some (0xF0000000 + (s.core c).pc)) ∧ SameMemory s t) ∧
    (fetchFault s c = none → fetched s c = none → Leaves i s c ((s.core c).entered 2 0 (s.core c).pc none))

/-- For every core that executes with INX = 1, TRAP and BREAK do not enter an exception: the next state has the core halted with
cause DOUBLE, its registers and saved state as before. -/
def Obligations.SpireDoubleFault : Prop :=
  ∀ (s : State) (c : Fin 16) (code : BitVec 10), Executes s c → (s.core c).inx = true →
    ∀ i ∈ [Instr.spTrap c 0 code, Instr.spBreak c 0 0 0], fetched s c = some i → ∃ t, exec i s = .next t ∧ t.on SPIRE_STATUS_HALTED c = true ∧
      t.rd SPIRE_STATUS_CAUSE c = 2 ∧ (t.core c).xpc = (s.core c).xpc ∧ (t.core c).xcode = (s.core c).xcode ∧
      (∀ k, (t.core c).gR k = (s.core c).gR k) ∧ SameMemory s t

/-- While the clocks run: INTERRUPT_TAKEN enters INT with the source picked and MSG_EXCEPTION enters MSG in a core that stands in
no LOCKACQ; WAITT_RELEASE, BAR_RELEASE (for a barrier of one core), BAR_TIMEOUT, RECV_RELEASE, LAWWT_RELEASE and LOCK_GRANT
(on the edge after the release) end the wait they belong to with its result and the PC at the next instruction;
MESSAGE_ARRIVAL makes the earliest message on its way visible on its edge; STORE_COMMIT carries the oldest store of the write
buffer to the fabric; LOAD_RETURN writes the data read. -/
def Obligations.SpireEventsComplete : Prop :=
  ∀ (s : State) (c : Fin 16), clocked s = true →
    (∀ n, interruptible s c = true → (∀ rd tok, (s.core c).wait ≠ some (.lock rd tok)) → (s.core c).ie = true → pickSource s (s.core c) = some n →
      ∃ t, exec (.interruptTaken c) s = .next t ∧ (t.core c).pc = (s.core c).vbase ∧ (t.core c).xcode = 0 ∧ (t.core c).xsrc = n ∧
      (t.core c).xpc = (s.core c).pc ∧ (t.core c).inx = true ∧ (t.core c).task = false ∧ (t.core c).wait = none) ∧
    (interruptible s c = true → (∀ rd tok, (s.core c).wait ≠ some (.lock rd tok)) → (s.core c).mie = true → (s.core c).mbox ≠ [] → (s.core c).ie = false →
      ∃ t, exec (.msgException c) s = .next t ∧ (t.core c).pc = (s.core c).vbase + 16 ∧ (t.core c).xcode = 1 ∧ (t.core c).xpc = (s.core c).pc ∧
      (t.core c).inx = true ∧ (t.core c).mbox = (s.core c).mbox) ∧
    (∀ rd, inRun s = true → s.on SPIRE_STATUS_HALTED c = false → (s.core c).wait = some (.waitt rd) → 1 ≤ (s.core c).ticks →
      ∃ t, exec .waittRelease s = .next t ∧ (t.core c).wait = none ∧ (t.core c).pc = (s.core c).pc + 4 ∧ (t.core c).ticks = 0 ∧
      (rd ≠ 0 → (t.core c).gR rd = 1)) ∧
    (∀ rd e (m : BitVec 16), inRun s = true → m.toNat = 2 ^ c.val → s.on SPIRE_STATUS_HALTED c = false → (s.core c).wait = some (.bar rd m.toNat e) →
      ∃ t, exec (.barRelease m) s = .next t ∧ (t.core c).wait = none ∧ (t.core c).pc = (s.core c).pc + 4 ∧ (t.core c).gR rd = 0 ∧
      t.fab = max s.fab (e + 2)) ∧
    (∀ rd m e, inRun s = true → (s.core c).wait = some (.bar rd m e) → (s.core c).barTo ≠ 0 →
      ∃ t, exec (.barTimeout c) s = .next t ∧ (t.core c).wait = none ∧ (t.core c).pc = (s.core c).pc + 4 ∧ (rd ≠ 0 → (t.core c).gR rd = 1)) ∧
    (∀ a, nextArrival (s.core c).soon = some a →
      ∃ t, exec (.messageArrival c) s = .next t ∧ (t.core c).mbox = (s.core c).mbox ++ [a.2] ∧ (t.core c).soon = (s.core c).soon.erase a ∧
      t.fab = max s.fab a.1) ∧
    (∀ rd m rest, inRun s = true → (s.core c).wait = some (.recv rd) → (s.core c).mbox = m :: rest →
      ∃ t, exec (.recvRelease c) s = .next t ∧ (t.core c).wait = none ∧ (t.core c).pc = (s.core c).pc + 4 ∧ (t.core c).mbox = rest ∧
      (t.core c).msrc = m.src ∧ (t.core c).msrcValid = true) ∧
    (∀ k, (s.core c).wait = some (.lawwt k) → listActive s k = false → (s.core c).haltReq = false →
      ∃ t, exec (.lawwtRelease c) s = .next t ∧ t.core c = { s.core c with wait := none, pc := (s.core c).pc + 4 } ∧ OnlyCore s t c) ∧
    (∀ l v, (s.core c).wait = some (.load l) → (s.core c).buf = [] → (busRead s (.core c false) l.addr l.size).2 = .ok v → (s.core c).haltReq = false →
      ∃ t, exec (.loadReturn c) s = .next t ∧ (t.core c).wait = none ∧ SameMemory (busRead s (.core c false) l.addr l.size).1 t ∧
      (l.fp = false → l.signed = false → l.rd ≠ 0 → (t.core c).gR l.rd = BitVec.ofNat 32 v)) ∧
    (∀ b rest, (s.core c).buf = b :: rest → ((busWrite (s.updCore c fun x => { x with buf := rest }) (.core c b.task) b.addr b.size b.val).core c).wait = none →
      ∃ t, exec (.storeCommit c) s = .next t ∧
      t = { busWrite (s.updCore c fun x => { x with buf := rest }) (.core c b.task) b.addr b.size b.val with reply := s.reply }) ∧
    (∀ (tok : Fin 64) rd, firstWaiter s tok = some c.val → (s.core c).wait = some (.lock rd tok) →
      ∃ t, exec (.lockGrant tok) s = .next t ∧ (t.core c).wait = none ∧ (t.core c).pc = (s.core c).pc + 4 ∧ t.fab = max s.fab (grantEdge s tok))

/-- For every command c, every rest of the queue and every state: a step of the state with c in front of the rest is exec c on the
state whose queue is the rest. Every statement about exec reaches a run of the model through this one. -/
def Obligations.FrontCommand : Prop :=
  ∀ (s : State) (c : Instr) (rest : List Instr), step { s with pending := c :: rest } = exec c { s with pending := rest }

/-- On an empty queue a step answers a next state: with the FAB clock running the FAB edge count is one higher, Campanile time is
what one edge makes of it, and nothing but the slew's state has changed; with the clock stopped the state is as it was. That
an empty queue lets one edge pass is the model's choice (log 12). -/
def Obligations.IdleStep : Prop :=
  ∀ s : State, s.pending = [] →
    (clocked s = true → ∃ t, step s = .next t ∧ t.fab = s.fab + 1 ∧ t.time = s.timeAfter 1 ∧
      t = { s with fab := t.fab, time := t.time, camp := { s.camp with slewLeft := t.camp.slewLeft }, regs := t.regs } ∧
      RegsBut [CAMPANILE_STATUS_SLEWING.key 0 0] s t) ∧
    (clocked s = false → step s = .next s)

/-- For every command with any operands and for every state: exec answers a next state, with the queue as it was and the FAB edge
count not lower. No command ends in a fault or a refusal, so no run stops on ordinary data. -/
def Obligations.EveryCommandAnswers : Prop :=
  ∀ (i : Instr) (s : State), ∃ t, exec i s = .next t ∧ t.pending = s.pending ∧ s.fab ≤ t.fab

/-- At reset no byte of Cupola, DRAM, MRAM or of any TCM is listed, the canonical form of every memory holds, and no terminal has
S1 and S2, or S3 and S4, on together: the two invariants that every step keeps hold there. -/
def Obligations.ResetInvariants : Prop :=
  State.reset.memOk ∧ (∀ a : Nat, memGet State.reset.bytes a = memDefault) ∧ ∀ c : Nat, (State.reset.term c).legOk = true

/-- For every state, reached by a run or not, in which the memory of the device and the TCM of every core list their bytes by
rising address and list no byte equal to the unlisted value: if a step answers a next state, that state's memories have the
same form. Equal memories are therefore equal data after every step. -/
def Obligations.StepKeepsMemory : Prop :=
  ∀ s t : State, s.memOk → step s = .next t → t.memOk

/-- For every state in which no terminal has S1 and S2, or S3 and S4, on together: if a step answers a next state, no terminal has
them on together there either, whatever command was in front of the queue. -/
def Obligations.StepKeepsLegs : Prop :=
  ∀ s t : State, (∀ c : Nat, (s.term c).legOk = true) → step s = .next t → ∀ c : Nat, (t.term c).legOk = true

/-- For every state: if a step answers a next state, its queue is the old one without the front command, and its FAB edge count is
not lower. No command puts another in the queue. -/
def Obligations.StepConsumesQueue : Prop :=
  ∀ s t : State, step s = .next t → t.pending = s.pending.tail ∧ s.fab ≤ t.fab

/-- After reset SYS.ID, CYCLE_FAB, RET_DEADLINE, OVR_LIMIT, STARVE_LIM and the watchdog's TIMEOUT read their reset values, every
core is halted, Campanile has lost its time and shows COARSE, Keep is in Safe Gate Removal with power withdrawn, the twin is
SINGLE, no block is enabled, and no command waits. -/
def Obligations.ResetState : Prop :=
  State.reset.rd SYS_ID = 0x409600B1 ∧ State.reset.rd CAMPANILE_CYCLE_FAB = 3125 ∧ State.reset.rd SYS_PIPE_CFG_RET_DEADLINE = 1438 ∧
    State.reset.rd SYS_PIPE_CFG_OVR_LIMIT = 2 ∧ State.reset.rd BELFRY_CFG_STARVE_LIM = 4096 ∧
    State.reset.rd SYS_WDT_CTRL_TIMEOUT = 100000 ∧ State.reset.on SYS_WDT_CTRL_EN = false ∧
    (∀ c : Fin 16, State.reset.on SPIRE_STATUS_HALTED c = true ∧ coreRuns State.reset c = false) ∧
    State.reset.on CAMPANILE_STATUS_LOST = true ∧ State.reset.on CAMPANILE_STATUS_COARSE = true ∧
    State.reset.on KEEP_STATUS_SGR = true ∧ State.reset.on KEEP_STATUS_WITHDRAWN = true ∧ State.reset.gcs.keepReq = true ∧
    State.reset.rd TWIN_STATUS_STATE = 0 ∧ (∀ r : Fin 128, State.reset.on RING_CTRL_EN r = false) ∧
    (∀ k : Fin 8, State.reset.rd ARM_CTRL_MODE k = 0) ∧ State.reset.pending = []

/-- For every requester, register address of a powered block and value, with the FAB clock running: where a reason stands against
the write, the next state answers the first code of R11's order, no register field but those of the block's ERR register has
changed and nothing else of the state has; ERR takes the code and the offset where it held no refusal, and where it held one
it keeps both and sets MORE. -/
def Obligations.RegisterWriteRefused : Prop :=
  ∀ (s : State) (req : Req) (addr : BitVec 40) (data : BitVec 32) (b : Blk) (i off : Nat), clocked s = true →
    target addr.toNat = .reg b i off → powered s (.reg b i off) = true → addr.toNat % 4 = 0 →
    let w := off - off % 4
    let code := writeCode s req b i w data.toNat 0xFFFFFFFF
    let f := if b = .sys ∧ 0x300 ≤ w ∧ w < 0x400 then SYS_LDG_ERR_CODE else b.errCode
    let k := b.errInst i
    let o := b.errOff i w
    code ≠ OK →
    ∃ t, exec (.registerWrite req addr data) s = .next t ∧ t.reply = ⟨code, 0, false⟩ ∧
      t = { s with regs := t.regs, reply := t.reply } ∧
      RegsBut [f.key k 0, (f.inErr 8 12).key k 0, (f.inErr 20 10).key k 0, (f.inErr 31 1).key k 0] s t ∧
      (s.rd f k = 0 → t.rd f k = code ∧ t.rd (f.inErr 8 12) k = o % 4096 ∧ t.rd (f.inErr 20 10) k = o / 4096 % 1024 ∧
        t.rd (f.inErr 31 1) k = s.rd (f.inErr 31 1) k) ∧
      (s.rd f k ≠ 0 → t.on (f.inErr 31 1) k = true ∧ RegsBut [(f.inErr 31 1).key k 0] s t)

/-- For every requester, register address of a powered block and value, with the FAB clock running and no reason against the
write: the next state is the block's own effect on the state in which the parts of the word have been stored and OK is
answered; for a word of PORT, JOURNAL or MEMC_n that has no effect beyond its fields, that state itself, in which OK is
answered, every RW field of the word that takes effect at once reads the bits written, and nothing but registers, waiting
values and the answer has changed. Storing a part of an RW field that takes effect at once, or of a W1C or W1S field, gives
exactly that field its new value, the other bits of the field as they were; a part the write does not carry, or of an RO
field, changes nothing; one of a staged field waits for its load event. -/
def Obligations.RegisterWriteApplied : Prop :=
  (∀ (s : State) (req : Req) (addr : BitVec 40) (data : BitVec 32) (b : Blk) (i off : Nat), clocked s = true →
    target addr.toNat = .reg b i off → powered s (.reg b i off) = true → addr.toNat % 4 = 0 →
    let w := off - off % 4
    writeCode s req b i w data.toNat 0xFFFFFFFF = OK → ignoredWord b i w = false →
    exec (.registerWrite req addr data) s =
      .next (blockEffect (storeWord s b i w data.toNat 0xFFFFFFFF) req b i w (s.asked b i w data.toNat 0xFFFFFFFF) s) ∧
    ((b = .port ∧ w ∉ [0x00C, 0x02C, 0x048, 0x04C, 0x0F0]) ∨ ((b = .journal ∨ b = .memc) ∧ w ∉ [0x000, 0x0F0]) →
      ∃ t, exec (.registerWrite req addr data) s = .next t ∧ AnsweredOk t ∧
        t = { s with regs := t.regs, staged := t.staged, reply := t.reply } ∧
        ∀ p ∈ b.pieces w, p.fld.acc = .rw → p.fld.cls = .live ∨ p.fld.cls = .held →
          t.rd p.fld i p.idx = s.after i p data.toNat 0xFFFFFFFF % 2 ^ p.fld.width)) ∧
  (∀ (s : State) (i data m : Nat) (p : Piece),
    (p.carried m = 0 ∨ p.fld.acc = .ro → storePiece i data m s p = s) ∧
    (p.carried m ≠ 0 → p.fld ∉ [PORT_FW_DONE_JSEQ, SPIRE_CTRL_RUN, SPIRE_LOAD_DATA_DATA] →
      (p.fld.acc = .w1c ∨ p.fld.acc = .w1s ∨ (p.fld.acc = .rw ∧ (p.fld.cls = .live ∨ p.fld.cls = .held)) →
        storePiece i data m s p = s.wr p.fld (s.after i p data m) i p.idx) ∧
      (p.fld.acc = .rw → p.fld.cls = .commit ∨ p.fld.cls = .curve →
        (storePiece i data m s p).regs = s.regs ∧
        (findKey (storePiece i data m s p).staged (p.fld.key i p.idx)).map (fun g => (g.cls, g.inst, g.val, g.edge)) =
          some (p.fld.cls, i, s.after i p data m % 2 ^ p.fld.width, s.fab))))

/-- For every ERR register (offset 0x0F0 of a block, SYS.CSE_ERR, SYS.LDG_ERR) of a powered block, and every requester against
whose write nothing stands: the write of CLEAR answers OK, CODE, the offset and MORE of that register read 0, and nothing else
has changed. -/
def Obligations.ErrClear : Prop :=
  ∀ (s : State) (req : Req) (addr : BitVec 40) (b : Blk) (i off : Nat), clocked s = true →
    target addr.toNat = .reg b i off → powered s (.reg b i off) = true → addr.toNat % 4 = 0 →
    off = 0x0F0 ∨ (b = .sys ∧ (off = 0x1F0 ∨ off = 0x3F0)) → writeCode s req b i off (2 ^ 30) 0xFFFFFFFF = OK →
    let k := (b.inst i + off) * 32
    ∃ t, exec (.errClear req addr) s = .next t ∧ AnsweredOk t ∧ t = { s with regs := t.regs, reply := t.reply } ∧
      RegsBut [k, k + 8, k + 20, k + 31] s t ∧ ∀ n ∈ [0, 8, 20, 31], t.regs.get 0 (k + n) = 0

/-- For every address that names no register, entry or memory, or lies in a block without power, while the FAB clock runs: the
access of a port, and a write of a core, answers the next state with the bus error E_VALUE and data 0 and changes nothing
else, but that a HOST write records E_VALUE in PORT.ERR; a read of a running core takes the exception ACCESS with STAT E_VALUE
and the address. -/
def Obligations.UnmappedAccess : Prop :=
  ∀ (s : State) (req : Req) (addr : BitVec 40) (write : Bool) (size : Fin 4) (data : BitVec 64), clocked s = true →
    absent s addr.toNat = true →
    let i : Instr := .unmappedAccess req addr write size data
    let r : Reply := ⟨E_VALUE, 0, true⟩
    ((∀ c task, req ≠ .core c task) → (req ≠ .host ∨ write = false) → exec i s = .next { s with reply := r }) ∧
    (req = .host → write = true → exec i s = .next { s.recordErr PORT_ERR_CODE 0 E_VALUE (addr.toNat % 4096) with reply := r }) ∧
    (∀ c task, req = .core c task →
      (write = true ∨ s.on SPIRE_STATUS_HALTED c = true → exec i s = .next { s with reply := r }) ∧
      (write = false → s.on SPIRE_STATUS_HALTED c = false →
        exec i s = .next (loadExc { s with reply := r } c X_ACCESS E_VALUE addr.toNat)))

/-- For every state with the FAB clock running and every requester that reaches CAMPANILE: a read of TIME_LO answers nanoseconds
[31:0]; reads of TIME_HI and TIME_FRAC that follow answer nanoseconds [63:32] and the fraction of the edge of the first read.
The reads change nothing but the latches. -/
def Obligations.TimeRead : Prop :=
  ∀ (s : State) (req : Req), clocked s = true → powered s (.reg .campanile 0 0) = true → req ≠ .safety →
    ∃ t u v, exec (.hiWordLatchRead req 0x20020000) s = .next t ∧ t.reply = ⟨OK, s.ns % 2 ^ 32, false⟩ ∧
      t = { s with hiLatch := t.hiLatch, reply := t.reply } ∧
      exec (.hiWordLatchRead req 0x20020004) t = .next u ∧ u.reply = ⟨OK, s.ns / 2 ^ 32, false⟩ ∧ u = { t with reply := u.reply } ∧
      exec (.hiWordLatchRead req 0x20020008) u = .next v ∧ v.reply = ⟨OK, s.time % 2 ^ 32, false⟩ ∧ v = { u with reply := v.reply }

/-- With the FAB clock running, each edge of the cycle, when the phase before it has passed and it has not: CYCLE_TICK comes a
cycle length after the last tick (the first at START), opens a fresh cycle and gives every enabled ring a frame to launch
unless Keep squelches the transmitters; PIPE_END stops the pipeline there and no frame is left; RET_DEADLINE comes
RET_DEADLINE clocks after the tick, and every enabled ring without an accepted frame has missed one cycle more;
CSE_COMPLETION, the cut-off, selectors-done and the gate stage's done edge come at R18's and R94's counts; LEASE_UPDATE comes
once; the set-up point comes 25 clocks before the tick. The FAB edge count never falls behind. At the cut-off every count is
taken, ARM_k.N's in direct mode; a due refill takes one from SPENT of the arm's cells. While the pipeline is not running these
edges change nothing. -/
def Obligations.PipelineEdges : Prop :=
  ∀ (s : State) (k : Fin 8) (ready : BitVec 128), clocked s = true →
    (s.pipe.running = true → s.pipe.endPending = false → ∃ t, exec (.cycleTick) s = .next t ∧
      t.fab = max s.fab (s.pipe.tickEdge + s.pipe.cycleFab) ∧ t.pipe.tickEdge = s.pipe.tickEdge + s.pipe.cycleFab ∧ Opened t.pipe ∧
      (∀ r : Fin 128, t.on RING_CTRL_EN r = true → t.on KEEP_STATUS_SAFE_FAULT = false → (t.ring r).tx.isSome = true)) ∧
    (s.pipe.running = false → s.pipe.firstPending = true → ∃ t, exec (.cycleTick) s = .next t ∧
      t.fab = s.fab + s.edgesUntil (s.rd CAMPANILE_START_NS) ∧ t.pipe.tickEdge = t.fab ∧ Opened t.pipe ∧
      (∀ r : Fin 128, t.on RING_CTRL_EN r = true → t.on KEEP_STATUS_SAFE_FAULT = false → (t.ring r).tx.isSome = true)) ∧
    (s.pipe.running = true → s.pipe.endPending = true → ∃ t, exec (.pipeEnd) s = .next t ∧
      t.pipe.running = false ∧ t.pipe.endPending = false ∧ t.fab = max s.fab (s.pipe.tickEdge + s.pipe.cycleFab) ∧
      (∀ r : Fin 128, (t.ring r).tx = none)) ∧
    (s.pipe.running = true → s.pipe.retPassed = false → ∃ t, exec (.retDeadline) s = .next t ∧
      t.fab = max s.fab (s.pipe.tickEdge + s.rd SYS_PIPE_CFG_RET_DEADLINE) ∧ t.pipe.phases = { s.pipe with retPassed := true }.phases ∧
      (∀ r : Fin 128, s.on RING_CTRL_EN r = true → (s.ring r).accepted = false → (t.ring r).misses = (s.ring r).misses + 1)) ∧
    (s.pipe.running = true → s.pipe.retPassed = true → s.pipe.cseDone = false → (twinAgrees s = true → s.pipe.maskPassed = true) → ∃ t, exec (.cseCompletion) s = .next t ∧
      t.fab = max s.fab (s.pipe.tickEdge + completionAt s) ∧ t.pipe.phases = { s.pipe with cseDone := true }.phases ∧ t.sig.oc.snap = s.entries ∧ t.gcs.group = []) ∧
    (s.pipe.running = true → s.pipe.cseDone = true → s.pipe.leaseDone = false → ∃ t, exec (.leaseUpdate) s = .next t ∧
      t.fab = s.fab ∧ t.pipe.phases = { s.pipe with leaseDone := true }.phases) ∧
    (s.pipe.running = true → s.pipe.cseDone = true → s.pipe.cutoff = false → ∃ t, exec (.nCutoff) s = .next t ∧
      t.fab = max s.fab (s.pipe.tickEdge + completionAt s + (if s.mode16 then 275 else 550)) ∧ t.pipe.phases = { s.pipe with cutoff := true }.phases ∧
      (∀ k : Fin 8, (t.arm k).committed = false ∧
        (s.on ARM_CTRL_MOD_SRC k = false → chopActive s k = false → (t.arm k).n = s.rdS ARM_N_N k))) ∧
    (s.pipe.running = true → s.pipe.cutoff = true → s.pipe.selDone = false → (s.arm k).refillDue = true → ∃ t, exec (.budgetRefill k) s = .next t ∧
      (t.arm k).refill = 0 ∧ (t.arm k).refillDue = false ∧ t = { s with arms := t.arms, entries := t.entries } ∧
      (s.on ARM_CTRL_BUDGET_EN k = true → ∀ c ∈ armCells s k, (t.entry c).sel.spent = (s.entry c).sel.spent - 1)) ∧
    (s.pipe.running = true → s.pipe.cutoff = true → s.pipe.selDone = false → ∃ t, exec (.selectorsDone) s = .next t ∧
      t.fab = max s.fab (s.pipe.tickEdge + completionAt s + (if s.mode16 then 375 else 750)) ∧ t.pipe.phases = { s.pipe with selDone := true }.phases) ∧
    (s.pipe.running = true → s.pipe.selDone = true → s.pipe.gateDone = false → s.pipe.setup = false → ∃ t, exec (.gateStageDone) s = .next t ∧
      t.fab = max s.fab (s.pipe.tickEdge + completionAt s + (if s.mode16 then 375 + 188 else 750 + 375)) ∧
      t.pipe.phases = { s.pipe with gateDone := true }.phases ∧ t.pipe.assembled = true) ∧
    (s.pipe.running = true → s.pipe.setup = false → ∃ t, exec (.launchSetupPoint ready) s = .next t ∧
      t.fab = max s.fab (s.pipe.tickEdge + s.pipe.cycleFab - 25) ∧ t.pipe.phases = { s.pipe with setup := true }.phases) ∧
    (s.pipe.running = false → exec .retDeadline s = .next s ∧ exec .cseCompletion s = .next s ∧ exec .leaseUpdate s = .next s ∧
      exec .nCutoff s = .next s ∧ exec .selectorsDone s = .next s ∧ exec .gateStageDone s = .next s ∧ exec (.launchSetupPoint ready) s = .next s)

/-- With the FAB clock running: a frame that arrives at an enabled ring by RET_DEADLINE, the first accepted one of the cycle, is
rewound and counted in PARTIAL when it breaks off, counted in CRC_CNT when its CRC fails, sets SEQ_ERR when RING_ID, DEV or
CYCLE_NO are not those launched, and else is accepted: the missed cycles return to 0. A later one changes nothing. STALE
follows a second missed cycle, LOST the LOST_LIMIT-th, which clears the charge-pump bits of the ring's cells. LOCK follows the
receiver. A management request out of tries completes with NOACK and E_STATE, and a response over PEER completes the head
request, each under the next tag. -/
def Obligations.RingEvents : Prop :=
  ∀ (s : State) (r : Fin 128) (edge : Nat) (noack : Bool) (blocks : List Block66) (q : MgmtReq) (rest : List MgmtReq)
    (stat : BitVec 4) (data : BitVec 32), clocked s = true →
    (s.pipe.running = true → s.pipe.retPassed = false → s.on RING_CTRL_EN r = true → (s.ring r).accepted = false → s.pipe.tickEdge ≤ edge → edge - s.pipe.tickEdge ≤ s.rd SYS_PIPE_CFG_RET_DEADLINE →
      (arrivalOf blocks = .broken → exec (.ringFrameReceive r edge blocks) s = .next (((s.toEdge edge).raise RING_STATUS_PARTIAL r).count RING_MISS_CNT_PARTIAL r)) ∧
      ∀ b, arrivalOf blocks = .whole b →
      (frameCrcOk s.mode16 b = false →
        exec (.ringFrameReceive r edge blocks) s = .next (((s.toEdge edge).raise RING_STATUS_CRC_ERR r).count RING_CRC_CNT_COUNT r)) ∧
      (frameCrcOk s.mode16 b = true →
        let h := Hdr.ofBytes b
        h.version = 1 → h.ftype = 1 →
        (h.ringId ≠ r ∨ h.dev ≠ s.rd TWIN_CASC_CFG_POS ∨ h.cycleNo ≠ s.rd SYS_CYCLE_COUNT % 65536 →
          exec (.ringFrameReceive r edge blocks) s = .next ((s.toEdge edge).raise RING_STATUS_SEQ_ERR r)) ∧
        (h.ringId = r → h.dev = s.rd TWIN_CASC_CFG_POS → h.cycleNo = s.rd SYS_CYCLE_COUNT % 65536 → twState s = TW_OFF →
          ∃ t, exec (.ringFrameReceive r edge blocks) s = .next t ∧ (t.ring r).accepted = true ∧ (t.ring r).misses = 0 ∧ t.fab = max s.fab edge ∧
            t.pipe.lastArrival = max s.pipe.lastArrival (edge - s.pipe.tickEdge)))) ∧
    ((s.ring r).accepted = true ∨ s.pipe.retPassed = true ∨ edge < s.pipe.tickEdge → exec (.ringFrameReceive r edge blocks) s = .next s) ∧
    (2 ≤ (s.ring r).misses → exec (.ringStale r) s = .next (s.raise RING_STATUS_STALE r)) ∧
    (s.rd RING_CFG_LOST_LIMIT r ≤ (s.ring r).misses → 0 < (s.ring r).misses → ∃ t, exec (.ringLost r) s = .next t ∧
      t.on RING_STATUS_LOST r = true ∧ (∀ p, p < ringSlots s → (t.entry (r * 32 + p)).gate.cp = false) ∧
      RegsBut [RING_STATUS_LOST.key r 0] s t ∧ t = { s with regs := t.regs, entries := t.entries }) ∧
    (exec (.ringLockLost r) s = .next (s.wr RING_STATUS_LOCK 0 r)) ∧
    (exec (.ringLockRegained r) s = .next (s.wr RING_STATUS_LOCK 1 r)) ∧
    (mgmtExhausted s r = true → (s.ring r).reqs = q :: rest → ∃ t, exec (.mgmtNoack r) s = .next t ∧
      t.on RING_STATUS_MGMT_FAIL r = true ∧ t = { s with regs := t.regs, rings := t.rings } ∧
      t.ring r = { (s.ring r) with reqs := rest, rsps := (s.ring r).rsps ++ [⟨E_STATE, true, (s.ring r).tries, 0⟩], tag := ((s.ring r).tag + 1) % 256, tries := 0, carried := false }) ∧
    (twState s ≠ TW_OFF → (s.ring r).carried = true → (s.ring r).reqs = q :: rest → ∃ t, exec (.mgmtResponseReturn r stat data noack) s = .next t ∧
      t.ring r = { (s.ring r) with reqs := rest, rsps := (s.ring r).rsps ++ [⟨stat.toNat, noack, (s.ring r).tries, if q.write then 0 else data.toNat⟩], tag := ((s.ring r).tag + 1) % 256, tries := 0, carried := false } ∧
      (noack = false → q.write = false → q.addr = 1 → stat = 0 → q.pos < ringSlots s → (t.entry (r * 32 + q.pos)).gate.cp = bit data.toNat 1))

/-- For every write that is carried out: clearing LOST clears that bit alone; CLR_STATS empties the ring's counters; a push to
MGMT_REQ joins the end of the request FIFO, which held fewer than 16; a pop of MGMT_RSP answers the oldest response and
removes it; clearing PIPE_OVR bits or OVR_BLOCK clears those bits and starts the rings' counts again; a ring at OVR_LIMIT
consecutive incomplete cycles takes its PIPE_OVR bit, once in the run, and OVR_BLOCK and OVR_NEW are set. Nothing else
changes. -/
def Obligations.RingCommands : Prop :=
  ∀ (s : State) (req : Req) (r : Fin 128) (i : Fin 4) (mask data : BitVec 32) (x : MgmtRsp) (xs : List MgmtRsp),
    (Accepts s req .ring r 0x008 4 4 → ∃ t, exec (.ringLostClear req r) s = .next t ∧
      AnsweredOk t ∧ t.on RING_STATUS_LOST r = false ∧ RegsBut [RING_STATUS_LOST.key r 0] s t ∧ t = { s with regs := t.regs, reply := t.reply }) ∧
    (Accepts s req .ring r 0x000 4 4 → ∃ t, exec (.ringClrStats req r) s = .next t ∧
      AnsweredOk t ∧ t.rd RING_CRC_CNT_COUNT r = 0 ∧ t.rd RING_MISS_CNT_GAP r = 0 ∧ t.rd RING_MISS_CNT_PARTIAL r = 0 ∧ t.rd RING_RET_TIME_MAX r = 0 ∧
      RegsBut [RING_CRC_CNT_COUNT.key r 0, RING_MISS_CNT_GAP.key r 0, RING_MISS_CNT_PARTIAL.key r 0, RING_RET_TIME_MAX.key r 0] s t ∧
      t = { s with regs := t.regs, reply := t.reply }) ∧
    (Accepts s req .ring r 0x020 data.toNat 0xFFFFFFFF → ∃ t, exec (.mgmtReqPush req r data) s = .next t ∧
      AnsweredOk t ∧ (s.ring r).reqs.length < 16 ∧ t = { s with rings := t.rings, reply := t.reply } ∧
      t.ring r = { (s.ring r) with reqs := (s.ring r).reqs ++ [⟨data.toNat % 32, data.toNat.testBit 5, data.toNat / 2 ^ 8 % 2 ^ 8, data.toNat / 2 ^ 16 % 2 ^ 16⟩] }) ∧
    (clocked s = true → powered s (.reg .ring r 0x024) = true → req ≠ .safety → (s.ring r).rsps = x :: xs → ∃ t, exec (.mgmtRspPop req r) s = .next t ∧
      t.ring r = { (s.ring r) with rsps := xs } ∧ t = { s with rings := t.rings, reply := t.reply } ∧
      t.reply = ⟨OK, x.stat % 256 + (if x.noack then 2 ^ 8 else 0) + 2 ^ 9 + 2 ^ 12 * (x.tries % 16) + 2 ^ 16 * (x.data % 65536), false⟩) ∧
    (Accepts s req .sys 0 (0x030 + 4 * i) mask.toNat 0xFFFFFFFF → ∃ t, exec (.pipeOvrClear req i mask) s = .next t ∧
      AnsweredOk t ∧ t.rd SYS_PIPE_OVR 0 i = s.rd SYS_PIPE_OVR 0 i &&& (0xFFFFFFFF ^^^ mask.toNat) ∧
      RegsBut [SYS_PIPE_OVR.key 0 i, SYS_PIPE_STATUS_OVR_BLOCK.key 0 0] s t ∧ t = { s with regs := t.regs, rings := t.rings, reply := t.reply } ∧
      (∀ n : Fin 128, t.ring n = if n.val / 32 = i ∧ bit (s.rd SYS_PIPE_OVR 0 i) (n % 32) ∧ bit mask.toNat (n % 32) then { s.ring n with ovr := 0, ovrSeen := false } else s.ring n)) ∧
    (Accepts s req .sys 0 0x018 8 8 → ∃ t, exec (.ovrBlockClear req) s = .next t ∧
      AnsweredOk t ∧ (∀ j : Fin 4, t.rd SYS_PIPE_OVR 0 j = 0) ∧ t.on SYS_PIPE_STATUS_OVR_BLOCK = false ∧
      RegsBut [SYS_PIPE_OVR.key 0 0, SYS_PIPE_OVR.key 0 1, SYS_PIPE_OVR.key 0 2, SYS_PIPE_OVR.key 0 3, SYS_PIPE_STATUS_OVR_BLOCK.key 0 0] s t ∧
      t = { s with regs := t.regs, rings := t.rings, reply := t.reply } ∧
      (∀ n : Fin 128, t.ring n = if bit (s.rd SYS_PIPE_OVR 0 (n / 32)) (n % 32) then { s.ring n with ovr := 0, ovrSeen := false } else s.ring n)) ∧
    (clocked s = true → s.rd SYS_PIPE_CFG_OVR_LIMIT ≤ (s.ring r).ovr → 0 < (s.ring r).ovr → (s.ring r).ovrSeen = false → ∃ t, exec (.ovrLimitReached r) s = .next t ∧
      bit (t.rd SYS_PIPE_OVR 0 (r / 32)) (r % 32) = true ∧ t.on SYS_PIPE_STATUS_OVR_BLOCK = true ∧ t.on SYS_PIPE_STATUS_OVR_NEW = true ∧
      (t.ring r).ovrSeen = true ∧ t = { s with regs := t.regs, rings := t.rings } ∧
      RegsBut [SYS_PIPE_OVR.key 0 (r / 32), SYS_PIPE_STATUS_OVR_BLOCK.key 0 0, SYS_PIPE_STATUS_OVR_NEW.key 0 0] s t)

/-- For every terminal, after it has observed its sensors: a whole valid commanding frame of a new CYCLE_NO gives it the slot's
STATE, IREF and DCDC_EN (switches in use stay, added ones wait for the interlock), the epoch and the cycle, and restarts the
watchdog; a frame with a wrong CRC, an older epoch, or a CYCLE_NO already applied changes none of them; a wrapped frame is
repeated, a broken one ends with an error block. The addressed terminal answers a management request with R53's code. The
watchdog (2.75 cycles after the last apply), an interlock time-out and the comparators latch their FAULT bit and block the
cell, overvoltage bypassing it under OV_ACTION = 0. A reset gives what the builder fixed. A switch turns on only once its
interlock condition is met with its complement off. Locks and wrapping follow R43 and R57. No other terminal and nothing of
the device changes. -/
def Obligations.TerminalEvents : Prop :=
  ∀ (s : State) (c : Fin 4096) (blocks : List Block66) (header : BitVec 128) (sensors : SensorIn) (pos : Option (Fin 32))
    (pass : BitVec 5) (k : Fin 4) (k3 : Fin 8) (leg : LegIn) (since : BitVec 32) (up : Bool) (ver : BitVec 8) (fb hs dc : Bool),
    (TermIs (.termReset c ver fb hs dc) s c (fun y => y = { cdr := { termVer := ver.toNat, fullBridge := fb, hsCp := hs, dcdc := dc } })) ∧
    (arrivalOf blocks = .broken → TermIs (.termFrameEnd c blocks sensors) s c (fun y => y.hdrWrite = none ∧ y.cdr = (s.term c).cdr ∧ y.state = (s.term c).state ∧ y.on = (s.term c).on ∧ y.wait = (s.term c).wait)) ∧
    (∀ b, arrivalOf blocks = .whole b →
      let h := Hdr.ofBytes b
      let ok := crcGood b
      let f := Frame.ofBytes h.ring16 b
      let z := (s.term c).observe sensors
      (h.wrapped = true → TermIs (.termFrameEnd c blocks sensors) s c (fun y => y.out = frameBlocks b ∧ y.back = (if (s.term c).wrapping then frameBlocks b else []) ∧
        y.state = (s.term c).state ∧ y.on = (s.term c).on ∧ y.wait = (s.term c).wait ∧
        y.cdr = { (s.term c).cdr with crcErr := if ok then (s.term c).cdr.crcErr else ((s.term c).cdr.crcErr + 1) % 65536 })) ∧
      (h.wrapped = false → ok = false → TermIs (.termFrameEnd c blocks sensors) s c (fun y => y.cdr.crcErr = (z.cdr.crcErr + 1) % 65536 ∧ y.state = z.state ∧ y.on = z.on ∧ y.wait = z.wait ∧ y.iref = z.iref ∧ y.dcdcOn = z.dcdcOn ∧
        y.cdr.epoch = z.cdr.epoch ∧ y.cdr.lastCycle = z.cdr.lastCycle)) ∧
      (ok = true → h.version = 1 → h.ftype = 1 → h.wrapped = false → z.bound h = true → h.holder = true →
        (z.olderEpoch h = true → TermIs (.termFrameEnd c blocks sensors) s c (fun y => y.evStale.pend = true ∧ y.state = z.state ∧ y.on = z.on ∧ y.wait = z.wait ∧ y.iref = z.iref ∧ y.dcdcOn = z.dcdcOn ∧ y.cdr.epoch = z.cdr.epoch)) ∧
        (∀ p, z.olderEpoch h = false → derivePos f ((b.length - 20) / 20) = some p →
          let k := f.cmd p
          (z.appliedOnce = true → h.cycleNo = z.cdr.lastCycle → TermIs (.termFrameEnd c blocks sensors) s c (fun y => y.state = z.state ∧ y.on = z.on ∧ y.wait = z.wait ∧ y.iref = z.iref ∧ y.dcdcOn = z.dcdcOn ∧
            (le32At b (16 + 20 * p) ≠ z.appliedCmd → y.evDup.pend = true))) ∧
          (z.appliedOnce = false ∨ h.cycleNo ≠ z.cdr.lastCycle → h.mReq = false → z.hdrFor = none → z.latched = false → z.cdr.running = false →
            k.state < 4 → (k.state = 3 → z.cdr.fullBridge = true) → TermIs (.termFrameEnd c blocks sensors) s c (fun y =>
            let use := switchesOf z.cdr.fullBridge k.state
            y.state = k.state ∧ y.iref = k.iref ∧ y.dcdcOn = k.dcdcEn ∧ y.on = zipBool (· && ·) z.on use ∧
            y.wait = zipBool (fun o u => u && !o) z.on use ∧ y.wdog = false ∧ y.cycleLen = h.cycleLen ∧ y.appliedOnce = true ∧
            y.cdr.lastCycle = h.cycleNo ∧ y.cdr.epoch = h.epoch ∧ y.cdr.pos = p ∧ y.cdr.posDir = h.dir))))) ∧
    (let h := Hdr.ofBytes (leBytes 16 header.toNat)
      let z := (s.term c).observe sensors
      (h.version ≠ 1 ∨ h.ftype ≠ 1 ∨ h.wrapped = true ∨ h.mReq = false ∨ pos.map (·.val) ≠ some h.mPos →
        TermIs (.termMgmtHeader c pos header sensors) s c (fun y => y = { z with hdrWrite := none, hdrOut := none, hdrFor := some (pos.map (·.val), header) })) ∧
      (h.version = 1 → h.ftype = 1 → h.wrapped = false → h.mReq = true → pos.map (·.val) = some h.mPos →
        (h.mWrite = false → TermIs (.termMgmtHeader c pos header sensors) s c (fun y => y = { z with
          hdrWrite := none, hdrFor := some (pos.map (·.val), header)
          hdrOut := match z.cdrRead h.mAddr with | some v => some ⟨OK, some v⟩ | none => some ⟨E_VALUE, some 0⟩ })) ∧
        (h.mWrite = true → TermIs (.termMgmtHeader c pos header sensors) s c (fun y => y = { z with
          hdrOut := some ⟨z.judgeWrite h, none⟩, hdrFor := some (pos.map (·.val), header)
          hdrWrite := if z.judgeWrite h = OK then some ⟨h.mAddr, h.mData, h.mTag⟩ else none })))) ∧
    ((s.term c).cdr.running = true → TermIs (.termSelfTestComplete c pass) s c (fun y => y = { (s.term c) with cdr := { (s.term c).cdr with done := (s.term c).cdr.test, pass := (s.term c).cdr.test &&& pass.toNat, running := false } })) ∧
    (TermIs (.termFrameBreak c blocks) s c (fun y => y = { (s.term c) with hdrWrite := none, hdrOut := none, hdrFor := none, out := y.out, back := y.back } ∧ errorBlock ∈ y.out)) ∧
    ((s.term c).appliedOnce = true → 44 * (s.term c).cycleLen ≤ since.toNat → TermIs (.termWatchdogExpiry c since) s c (fun y => y.blocked ∧ y.wdog = true ∧ y.cdr = { (s.term c).cdr with fault := (s.term c).cdr.fault ||| 2 ^ 6 })) ∧
    (((s.term c).appliedOnce = false ∨ since.toNat < 44 * (s.term c).cycleLen) → TermIs (.termWatchdogExpiry c since) s c (fun y => y = (s.term c))) ∧
    (nth false (s.term c).wait k = true → nth false (s.term c).on (complement k) = false → (s.term c).cdr.running = false → (s.term c).intlkMet leg = true → leg.waited ≤ (s.term c).cdr.intlkTo → TermIs (.termSwitchTurnOn c k leg) s c (fun y => y = { (s.term c) with on := setNth (s.term c).on k true, wait := setNth (s.term c).wait k false })) ∧
    ((nth false (s.term c).wait k = false ∨ nth false (s.term c).on (complement k) = true ∨ (s.term c).cdr.running = true ∨ (s.term c).intlkMet leg = false) → TermIs (.termSwitchTurnOn c k leg) s c (fun y => y = (s.term c))) ∧
    (nth false (s.term c).wait k = true → (s.term c).intlkMet leg = false → (s.term c).cdr.intlkTo ≤ leg.waited → TermIs (.termInterlockTimeout c k leg) s c (fun y => y.blocked ∧ y.cdr = { (s.term c).cdr with fault := (s.term c).cdr.fault ||| 2 ^ 5 })) ∧
    (bit ((s.term c).rawOf sensors) k3 = true → bit (s.term c).cdr.fault k3 = false → (s.term c).underTest k3 = false → (k3.val ∈ [0, 1, 2, 4, 7] ∨ (k3 = 3 ∧ (s.term c).cdr.ovAction = true)) → TermIs (.termComparatorTrip c k3 sensors) s c (fun y => y.blocked ∧ y.cdr = { (s.term c).cdr with fault := (s.term c).cdr.fault ||| 2 ^ k3.val, faultRaw := (s.term c).rawOf sensors })) ∧
    (bit ((s.term c).rawOf sensors) 3 = true → (s.term c).underTest 3 = false → (s.term c).cdr.ovAction = false → (s.term c).latched = false → TermIs (.termComparatorTrip c 3 sensors) s c (fun y => y = { (s.term c).apply 1 with dcdcOn := false, ovReact := true, cdr := { (s.term c).cdr with fault := (s.term c).cdr.fault ||| 2 ^ 3, faultRaw := (s.term c).rawOf sensors } })) ∧
    (bit ((s.term c).rawOf sensors) k3 = false → TermIs (.termComparatorTrip c k3 sensors) s c (fun y => y = { (s.term c) with cdr := { (s.term c).cdr with faultRaw := (s.term c).rawOf sensors } })) ∧
    (TermIs (.termLockLost c up) s c (fun y => y = if up then { (s.term c) with lockU := false } else { (s.term c) with lockD := false })) ∧
    (TermIs (.termLockRegained c up) s c (fun y => y = if up then { (s.term c) with lockU := true, wiredU := true } else { (s.term c) with lockD := true, wiredD := true })) ∧
    ((s.term c).wiredOf up = true → (s.term c).lockOf up = false → TermIs (.termWrapStart c up) s c (fun y => y = { (s.term c) with wrapping := true })) ∧
    ((s.term c).lockOf up = true → ((s.term c).wiredOf (!up) = false ∨ (s.term c).lockOf (!up) = true) → TermIs (.termWrapStop c up) s c (fun y => y = { (s.term c) with wrapping := false }))

/-- For every entry of the initialised cell store that no write waits for, and every requester the address is open to: a write of
E_DIS, E_CHG, RES_DIS, RES_CHG or EC while the pipeline stands (or the entry is CORRUPT), and of CAP_J, EC_SET, HW, LEASE_ID,
the flag byte or USER at any time, answers OK and gives that field its value, RES_DIS and RES_CHG below 5 × 10¹¹; a 1 sets
EC_SET_PEND, CLR_MAX or CLR_CORRUPT and a 0 keeps it. EC_SET_PEND, CLR_MAX and CLR_CORRUPT set their bit alone. Of the entry
only software-writable fields can differ, and no other entry does. While the pipeline runs a write of E_DIS is refused with
E_BUSY. -/
def Obligations.CellStoreWrites : Prop :=
  ∀ (s : State) (req : Req) (c : Fin 4096) (val : BitVec 64),
    (NoLateWrite s c → clocked s = true → powerState s ≤ 1 → openTo s req (CELL_BASE + 0x80 * c + 0x18) = true → storeReady s = true → s.pipe.running = false ∨ (s.entry c).corrupt = true → EntryWritten (.cellStoreWrite req c 3 3 val) s c (fun y => y.eDis = val.toNat)) ∧
    (NoLateWrite s c → clocked s = true → powerState s ≤ 1 → openTo s req (CELL_BASE + 0x80 * c + 0x20) = true → storeReady s = true → s.pipe.running = false ∨ (s.entry c).corrupt = true → EntryWritten (.cellStoreWrite req c 4 3 val) s c (fun y => y.eChg = val.toNat)) ∧
    (NoLateWrite s c → clocked s = true → powerState s ≤ 1 → openTo s req (CELL_BASE + 0x80 * c + 0x28) = true → storeReady s = true → s.pipe.running = false ∨ (s.entry c).corrupt = true → val.toNat < 5 * 10 ^ 11 → EntryWritten (.cellStoreWrite req c 5 3 val) s c (fun y => y.resDis = val.toNat)) ∧
    (NoLateWrite s c → clocked s = true → powerState s ≤ 1 → openTo s req (CELL_BASE + 0x80 * c + 0x30) = true → storeReady s = true → s.pipe.running = false ∨ (s.entry c).corrupt = true → val.toNat < 5 * 10 ^ 11 → EntryWritten (.cellStoreWrite req c 6 3 val) s c (fun y => y.resChg = val.toNat)) ∧
    (NoLateWrite s c → clocked s = true → powerState s ≤ 1 → openTo s req (CELL_BASE + 0x80 * c + 0x38) = true → storeReady s = true → s.pipe.running = false ∨ (s.entry c).corrupt = true → EntryWritten (.cellStoreWrite req c 14 2 val) s c (fun y => y.ec = val.toNat % 2 ^ 32)) ∧
    (NoLateWrite s c → clocked s = true → powerState s ≤ 1 → openTo s req (CELL_BASE + 0x80 * c + 0x60) = true → storeReady s = true → EntryWritten (.cellStoreWrite req c 24 2 val) s c (fun y => y.capJ = val.toNat % 2 ^ 32)) ∧
    (NoLateWrite s c → clocked s = true → powerState s ≤ 1 → openTo s req (CELL_BASE + 0x80 * c + 0x64) = true → storeReady s = true → EntryWritten (.cellStoreWrite req c 25 2 val) s c (fun y => y.ecSet = val.toNat % 2 ^ 32)) ∧
    (NoLateWrite s c → clocked s = true → powerState s ≤ 1 → openTo s req (CELL_BASE + 0x80 * c + 0x68) = true → storeReady s = true → EntryWritten (.cellStoreWrite req c 52 1 val) s c (fun y => y.hw = val.toNat % 2 ^ 16)) ∧
    (NoLateWrite s c → clocked s = true → powerState s ≤ 1 → openTo s req (CELL_BASE + 0x80 * c + 0x6a) = true → storeReady s = true → EntryWritten (.cellStoreWrite req c 106 0 val) s c (fun y => y.leaseId = val.toNat % 2 ^ 8)) ∧
    (NoLateWrite s c → clocked s = true → powerState s ≤ 1 → openTo s req (CELL_BASE + 0x80 * c + 0x6b) = true → storeReady s = true → EntryWritten (.cellStoreWrite req c 107 0 val) s c (fun y => y.leaseEn = val.toNat.testBit 0 ∧ y.swBlock = val.toNat.testBit 1 ∧ y.ecSetPend = ((s.entry c).ecSetPend || val.toNat.testBit 2) ∧
      y.clrMax = ((s.entry c).clrMax || val.toNat.testBit 3) ∧ y.clrCorrupt = ((s.entry c).clrCorrupt || val.toNat.testBit 4))) ∧
    (NoLateWrite s c → clocked s = true → powerState s ≤ 1 → openTo s req (CELL_BASE + 0x80 * c + 0x6c) = true → storeReady s = true → EntryWritten (.cellStoreWrite req c 27 2 val) s c (fun y => y.user = val.toNat % 2 ^ 32)) ∧
    (NoLateWrite s c → clocked s = true → powerState s ≤ 1 → openTo s req (CELL_BASE + 0x80 * c + 0x6B) = true → storeReady s = true → EntryWritten (.ecSetPend req c) s c (fun y => y.ecSetPend = true ∧ y.leaseEn = (s.entry c).leaseEn ∧ y.swBlock = (s.entry c).swBlock ∧ y.clrMax = (s.entry c).clrMax ∧ y.clrCorrupt = (s.entry c).clrCorrupt)) ∧
    (NoLateWrite s c → clocked s = true → powerState s ≤ 1 → openTo s req (CELL_BASE + 0x80 * c + 0x6B) = true → storeReady s = true → EntryWritten (.clrMax req c) s c (fun y => y.clrMax = true ∧ y.leaseEn = (s.entry c).leaseEn ∧ y.swBlock = (s.entry c).swBlock ∧ y.ecSetPend = (s.entry c).ecSetPend ∧ y.clrCorrupt = (s.entry c).clrCorrupt)) ∧
    (NoLateWrite s c → clocked s = true → powerState s ≤ 1 → openTo s req (CELL_BASE + 0x80 * c + 0x6B) = true → storeReady s = true → EntryWritten (.clrCorrupt req c) s c (fun y => y.clrCorrupt = true ∧ y.leaseEn = (s.entry c).leaseEn ∧ y.swBlock = (s.entry c).swBlock ∧ y.ecSetPend = (s.entry c).ecSetPend ∧ y.clrMax = (s.entry c).clrMax)) ∧
    (clocked s = true → powerState s ≤ 1 → openTo s req (CELL_BASE + 0x80 * c + 0x18) = true → storeReady s = true → s.pipe.running = true →
      (s.entry c).corrupt = false → ∃ t, exec (.cellStoreWrite req c 3 3 val) s = .next t ∧ t.reply = ⟨E_BUSY, 0, false⟩ ∧ t.entries = s.entries)

/-- For every write that is carried out: CSE_INIT empties the cell store, and its completion sets INIT_DONE; N and VREF_ARM commit
a count off the cut-off's own edge, with LATE_N after the cut-off in RUN; GCS_SET sets the arm, ring or ALL latches and logs
one record of source 14; a clear of GCS_BLOCK or GCS_RING_BLK clears exactly the bits given; GCS_CELL_CLR clears FLT or
ILLEGAL of one cell. A cell at STATE_LIMIT mismatches raises STATE_ERR, its count returning to 0. Reading EVT0 latches the
head record, reading EVT2 removes it. -/
def Obligations.GateCommands : Prop :=
  ∀ (s : State) (req : Req) (c : Fin 4096) (k : Fin 8) (r : Fin 128) (i : Fin 4) (mask : BitVec 8) (data word : BitVec 32) (x : EvtRec),
    (Accepts s req .sys 0 0x100 1 1 → ∃ t, exec (.cseInit req) s = .next t ∧
      AnsweredOk t ∧ t.entries = [] ∧ t.pipe = { s.pipe with storeInit := true, late := [] } ∧ t.on SYS_CSE_STATUS_INIT_DONE = false ∧
      RegsBut [SYS_CSE_STATUS_INIT_DONE.key 0 0] s t ∧ t = { s with entries := [], pipe := t.pipe, regs := t.regs, reply := t.reply }) ∧
    (clocked s = true → s.pipe.storeInit = true → exec (.cseInitDone) s = .next ({ s.raise SYS_CSE_STATUS_INIT_DONE with pipe := { s.pipe with storeInit := false } })) ∧
    (Accepts s req .arm k 0x004 data.toNat 0xFFFFFFFF → (s.pipe.running = true → s.pipe.cutoff = true → s.pipe.selDone = true ∨ s.fab ≠ cutoffEdge s) → ∃ t, exec (.armNWrite req k data) s = .next t ∧
      AnsweredOk t ∧ t.rd ARM_N_N k = data.toNat % 2 ^ 12 ∧ (t.arm k).committed = true ∧
      t.rd ARM_STATUS_LATE_N k = (if s.pipe.running ∧ s.pipe.cutoff ∧ s.rd ARM_CTRL_MODE k = MODE_RUN then 1 else s.rd ARM_STATUS_LATE_N k) ∧
      RegsBut [ARM_N_N.key k 0, ARM_STATUS_LATE_N.key k 0] s t ∧ t = { s with regs := t.regs, arms := t.arms, reply := t.reply }) ∧
    (Accepts s req .arm k 0x008 data.toNat 0xFFFFFFFF → (s.pipe.running = true → s.pipe.cutoff = true → s.pipe.selDone = true ∨ s.fab ≠ cutoffEdge s) → ∃ t, exec (.armVrefArmWrite req k data) s = .next t ∧
      AnsweredOk t ∧ t.rd ARM_VREF_ARM_V k = data.toNat ∧ (t.arm k).committed = true ∧
      t.rd ARM_STATUS_LATE_N k = (if s.pipe.running ∧ s.pipe.cutoff ∧ s.rd ARM_CTRL_MODE k = MODE_RUN then 1 else s.rd ARM_STATUS_LATE_N k) ∧
      RegsBut [ARM_VREF_ARM_V.key k 0, ARM_STATUS_LATE_N.key k 0] s t ∧ t = { s with regs := t.regs, arms := t.arms, reply := t.reply }) ∧
    (clocked s = true → s.rd SYS_GCS_CFG_STATE_LIMIT ≤ (s.entry c).gate.misCnt → ∃ t, exec (.stateErr c) s = .next t ∧
      (t.entry c).gate.misCnt = 0 ∧ (reactAction s 9 ≠ 0 → (t.entry c).gate.flt = true) ∧
      (reactAction s 9 = 5 → t.on SYS_GCS_BLOCK_ALL = true) ∧ (∀ d, d ≠ c.val → t.entry d = s.entry d) ∧
      (∀ a, reactAction s 9 = a → a = 0 ∨ a = 1 ∨ a = 2 ∨ a = 5 → Logged s t ⟨s.tickNs, 9, false, (match ringArm s (c / 32) with | some k => 2 ^ k | none => 0), c, a⟩)) ∧
    (clocked s = true → (s.entry c).gate.misCnt < s.rd SYS_GCS_CFG_STATE_LIMIT → exec (.stateErr c) s = .next s) ∧
    (Accepts s req .sys 0 0x210 mask.toNat 0xFF → mask ≠ 0 → ∃ t, exec (.gcsSetArm req mask) s = .next t ∧
      AnsweredOk t ∧ Logged s t ⟨s.ns, 14, false, mask.toNat, 0, 3⟩ ∧
      (∀ j : Fin 8, bit (t.rd SYS_GCS_BLOCK_ARM) j = (bit (s.rd SYS_GCS_BLOCK_ARM) j || mask.getLsbD j) ∧
        (mask.getLsbD j = true → t.on ARM_GSTATUS_ARM_BLK j = true))) ∧
    (Accepts s req .sys 0 0x210 0x100 0x100 → ∃ t, exec (.gcsSetAll req) s = .next t ∧
      AnsweredOk t ∧ t.on SYS_GCS_BLOCK_ALL = true ∧ (∀ j : Fin 8, t.on ARM_GSTATUS_ALL_BLK j = true) ∧ Logged s t ⟨s.ns, 14, false, 0, 0, 5⟩) ∧
    (Accepts s req .sys 0 0x210 (2 ^ 16 + 2 ^ 17 * r) 0xFF0000 → ∃ t, exec (.gcsSetRing req r) s = .next t ∧
      AnsweredOk t ∧ bit (t.rd SYS_GCS_RING_BLK 0 (r / 32)) (r % 32) = true ∧
      Logged s t ⟨s.ns, 14, false, (match ringArm s r with | some k => 2 ^ k | none => 0), 0, 2⟩) ∧
    (Accepts s req .sys 0 0x20C mask.toNat mask.toNat → ∃ t, exec (.gcsArmClear req mask) s = .next t ∧
      AnsweredOk t ∧ (∀ j : Fin 8, bit (t.rd SYS_GCS_BLOCK_ARM) j = (bit (s.rd SYS_GCS_BLOCK_ARM) j && !mask.getLsbD j)) ∧
      RegsBut [SYS_GCS_BLOCK_ARM.key 0 0] s t ∧ t = { s with regs := t.regs, reply := t.reply }) ∧
    (Accepts s req .sys 0 0x20C 0x100 0x100 → ∃ t, exec (.gcsAllClear req) s = .next t ∧
      AnsweredOk t ∧ t.on SYS_GCS_BLOCK_ALL = false ∧ RegsBut [SYS_GCS_BLOCK_ALL.key 0 0] s t ∧ t = { s with regs := t.regs, reply := t.reply }) ∧
    (Accepts s req .sys 0 (0x220 + 4 * i) word.toNat 0xFFFFFFFF → ∃ t, exec (.gcsRingClear req i word) s = .next t ∧
      AnsweredOk t ∧ (∀ j : Fin 32, bit (t.rd SYS_GCS_RING_BLK 0 i) j = (bit (s.rd SYS_GCS_RING_BLK 0 i) j && !word.getLsbD j)) ∧
      RegsBut [SYS_GCS_RING_BLK.key 0 i] s t ∧ t = { s with regs := t.regs, reply := t.reply }) ∧
    (Accepts s req .sys 0 0x230 (c + 2 ^ 16) 0x30FFF → ∃ t, exec (.gcsCellClrFlt req c) s = .next t ∧
      AnsweredOk t ∧ t.entry c = { (s.entry c) with gate := { (s.entry c).gate with flt := false } } ∧
      (∀ d, d ≠ c.val → t.entry d = s.entry d) ∧ t = { s with entries := t.entries, reply := t.reply }) ∧
    (Accepts s req .sys 0 0x230 (c + 2 ^ 17) 0x30FFF → ∃ t, exec (.gcsCellClrIllegal req c) s = .next t ∧
      AnsweredOk t ∧ t.entry c = { (s.entry c) with gate := { (s.entry c).gate with illegal := false } } ∧
      (∀ d, d ≠ c.val → t.entry d = s.entry d) ∧ t = { s with entries := t.entries, reply := t.reply }) ∧
    (Reads s req .sys 0 0x240 → ∃ t, exec (.gcsEvtLatch req) s = .next t ∧
      t.gcs = { s.gcs with latched := s.gcs.log.head? } ∧ t = { s with gcs := t.gcs, reply := t.reply } ∧
      t.reply = ⟨OK, (match s.gcs.log with | [] => 0 | x :: _ => x.time % 2 ^ 32), false⟩) ∧
    (Reads s req .sys 0 0x248 → s.gcs.latched = some x → ∃ t, exec (.gcsEvtPop req) s = .next t ∧
      t.gcs = { s.gcs with latched := none, log := s.gcs.log.tail } ∧ t = { s with gcs := t.gcs, reply := t.reply } ∧
      t.reply = ⟨OK, x.src % 16 + (if x.simul then 16 else 0) + 32 + 2 ^ 8 * (x.arms % 256) + 2 ^ 16 * (x.cell % 4096) + 2 ^ 28 * (x.action % 8), false⟩) ∧
    (Reads s req .sys 0 0x248 → s.gcs.latched = none → exec (.gcsEvtPop req) s = .next (s.answer OK 0))

/-- With the FAB clock running and no list running, the head of the queue starts on the later of its LAWGO edge + 8 and the edge
after the last list was done; its next entry issues at the last issue + I and completes L clocks later, I and L those of its
slot's type, with the value evalSlot gives for its record and its inputs at issue; a FREE slot is skipped with FREE set. At
completion the first output is in its XF word where no other late write of the word stands, or NF is set and XF unchanged; the
list ends with its last entry. SLOT_INIT gives every word of one record the type's reset value; INIT empties the windows and
the list configurations. START and STOP wait for the tick, and the test ends after its N values. -/
def Obligations.LawEngine : Prop :=
  ∀ (s : State) (req : Req) (k go core : Nat) (q : List LawGo) (r : LawRun) (f : LawFly) (i : Fin 1024) (typ : BitVec 4),
    (clocked s = true → s.law.run = none → s.law.queue = ⟨k, go, core⟩ :: q → ∃ t, exec (.lawListStart) s = .next t ∧
      let e := max (go + 8) s.law.freeEdge
      t.fab = max s.fab e ∧ (k < 32 → t.on LAW_LIST_STATUS_RUNNING 0 k = true) ∧
      t.law = { s.law with queue := q, run := some { list := k, goEdge := go, next := s.rd LAW_LIST_CFG_START 0 k, left := s.rd LAW_LIST_CFG_LEN 0 k, issueEdge := e, issueI := 0 } }) ∧
    (clocked s = true → s.law.run = some r → r.left ≠ 0 → r.fly = [] → lawBad s (0x20000 + r.next * 16) 4 = false →
      let e := r.issueEdge + r.issueI
      let j := entryHalf s r.next 0
      let y := slotType s j
      let l := lawTiming y
      let x := (lawInputs (s.toEdge e) r.next j e).2
      let out := fun (f : LawFly) (t : State) => t.fab = max s.fab e ∧ f.entry = r.next ∧ f.slot = j ∧ f.typ = y ∧ f.edge = e + l.2 ∧
        t.law = { s.law with run := some { r with next := r.next + 1, left := r.left - 1, issueEdge := e, issueI := l.1, fly := [f] } }
      (y = 0 → ∃ t f, exec .lawEntryIssue s = .next t ∧ t.on LAW_LIST_STATUS_FREE 0 r.list = true ∧ f.skip = true ∧ out f t) ∧
      (y ≠ 0 → lawBad s (0x10000 + j * 0x40) 16 = false → s.on LAW_TEST_CTRL_ACTIVE = false →
        (∀ n ∈ [1, 2, 3, 4], entryHalf s r.next n = 0 ∨ lawBad s (4 * xfKey (entryHalf s r.next n)) 1 = false) →
        ∃ t f, exec .lawEntryIssue s = .next t ∧ f.skip = false ∧ f.test = false ∧ out f t ∧
          f.ev = evalSlot y (if s.rd LAW_TEST_CTRL_SLOT = j then { x with s := some (s.rd LAW_TEST_CTRL_POINT, 0) } else x))) ∧
    (clocked s = true → s.law.run = some r → firstFly r.fly = some f → f.skip = false → f.test = false → f.slot < 1024 →
      let rest := r.fly.filter (fun g => g.entry != f.entry)
      ∃ t, exec .lawEntryComplete s = .next t ∧ t.fab = max s.fab f.edge ∧
      t.law.run = (if r.left = 0 ∧ rest = [] then none else some { r with fly := rest }) ∧
      (f.ev = none → t.on LAW_LIST_STATUS_NF 0 r.list = true ∧ t.law.xf = s.law.xf) ∧
      (∀ v, f.ev = some v → (∀ p ∈ v.words, p.1 < 16) → ∀ a, a ≠ 0 → findKey s.law.late (xfKey a) = none → entryHalf s f.entry 5 = a → entryHalf s f.entry 6 ≠ a → entryHalf s f.entry 7 ≠ a →
        xfRead t a = v.out0 % 2 ^ 32)) ∧
    (Accepts s req .law 0 0x008 (i + 2 ^ 16 * typ.toNat) 0xF03FF → ∃ t, exec (.slotInit req i typ) s = .next t ∧
      AnsweredOk t ∧ t = { s with law := { s.law with slots := t.law.slots, late := t.law.late }, bad := t.bad, reply := t.reply } ∧
      (∀ w : Fin 16, slotWord t i w = (findKey (slotReset typ.toNat) w).getD 0) ∧ (∀ (n : Nat) (w : Fin 16), n ≠ i → slotWord t n w = slotWord s n w)) ∧
    (Accepts s req .law 0 0x000 2 2 → ∃ t, exec (.lawInit req) s = .next t ∧
      AnsweredOk t ∧ t.law = { s.law with slots := [], lists := [], xf := [], late := [], initBusy := true } ∧ t.on LAW_STATUS_INIT_DONE = false ∧
      (∀ n : Fin 32, t.rd LAW_LIST_CFG_START 0 n = 0 ∧ t.rd LAW_LIST_CFG_LEN 0 n = 0)) ∧
    (clocked s = true → s.law.initBusy = true → exec (.lawInitDone) s = .next ({ s.raise LAW_STATUS_INIT_DONE with law := { s.law with initBusy := false } })) ∧
    (Accepts s req .law 0 0x010 (2 ^ 24) (2 ^ 24) → ∃ t, exec (.testStart req) s = .next t ∧
      AnsweredOk t ∧ t = { s with law := { s.law with startReq := true }, bad := t.bad, reply := t.reply }) ∧
    (Accepts s req .law 0 0x010 (2 ^ 25) (2 ^ 25) → ∃ t, exec (.testStop req) s = .next t ∧
      AnsweredOk t ∧ t = { s with law := { s.law with stopReq := true }, bad := t.bad, reply := t.reply }) ∧
    (clocked s = true → s.on LAW_TEST_CTRL_ACTIVE = true → s.rd LAW_TEST_COUNT_N ≠ 0 → s.rd LAW_TEST_COUNT_N ≤ s.rd LAW_TEST_DONE_N_DONE → exec (.testEnd) s = .next (s.clear LAW_TEST_CTRL_ACTIVE)) ∧
    (clocked s = true → s.on LAW_TEST_CTRL_ACTIVE = false ∨ s.rd LAW_TEST_COUNT_N = 0 ∨ s.rd LAW_TEST_DONE_N_DONE < s.rd LAW_TEST_COUNT_N → exec .testEnd s = .next s)

/-- For every write that is carried out: RUN makes the core run at ENTRY with its registers as R153 gives them, TCM, mailbox and
write buffer kept, the verified DIGEST recorded and TCM_OK cleared; HALT halts a running core at its next boundary with cause
HOST, after a load, store or FENCE in progress; TCM_INIT clears TCM_OK and INIT_DONE, and its end leaves every word of TCM
zero; LOAD_DATA stores or returns the word at LOAD_ADDR, which then advances; a write of MBOX_HI sends the message to arrive 6
edges later. Other cores are as before. -/
def Obligations.SpireControl : Prop :=
  ∀ (s : State) (req : Req) (c : Fin 16) (data : BitVec 32),
    (Accepts s req .spire c 0x000 1 1 → ∃ t, exec (.spireRun req c) s = .next t ∧
      AnsweredOk t ∧ t.on SPIRE_STATUS_HALTED c = false ∧ bit (t.rd SECURE_TCM_OK_CORES) c = false ∧ t.sec.runDigest.get [] c = s.sec.okDigest.get [] c ∧
      (∀ n, n ≠ c.val → t.core n = s.core n) ∧ SameMemory s t ∧
      t.core c = { pc := s.rd SPIRE_ENTRY_ENTRY c * 4, startEdge := s.fab, tcm := (s.core c).tcm, tcmCorr := (s.core c).tcmCorr, tcmBad := (s.core c).tcmBad,
                   mbox := (s.core c).mbox, soon := (s.core c).soon, buf := (s.core c).buf, initBusy := (s.core c).initBusy }) ∧
    (Accepts s req .spire c 0x000 2 2 → s.on SPIRE_STATUS_HALTED c = false → (∀ l b, (s.core c).wait ≠ some (.load l) ∧ (s.core c).wait ≠ some (.store b) ∧ (s.core c).wait ≠ some .fence) → ∃ t, exec (.spireHalt req c) s = .next t ∧
      t.on SPIRE_STATUS_HALTED c = true ∧ t.rd SPIRE_STATUS_CAUSE c = HC_HOST ∧ (t.core c).wait = none ∧ (t.core c).pc = (s.core c).pc ∧ SameMemory s t) ∧
    (Accepts s req .spire c 0x000 2 2 → s.on SPIRE_STATUS_HALTED c = true → exec (.spireHalt req c) s = .next (s.answer OK 0)) ∧
    (Accepts s req .spire c 0x000 2 2 → s.on SPIRE_STATUS_HALTED c = false → (s.core c).wait = some .fence → exec (.spireHalt req c) s = .next ((s.answer OK 0).updCore c (fun y => { y with haltReq := true }))) ∧
    (Accepts s req .spire c 0x000 4 4 → ∃ t, exec (.spireTcmInit req c) s = .next t ∧
      AnsweredOk t ∧ t.on SPIRE_STATUS_INIT_DONE c = false ∧ bit (t.rd SECURE_TCM_OK_CORES) c = false ∧ t.core c = { (s.core c) with initBusy := true } ∧ (∀ n, n ≠ c.val → t.core n = s.core n)) ∧
    (clocked s = true → (s.core c).initBusy = true → ∃ t, exec (.spireTcmInitDone c) s = .next t ∧
      t.on SPIRE_STATUS_INIT_DONE c = true ∧ t.core c = { (s.core c) with initBusy := false, tcm := [], tcmBad := [], tcmCorr := [] } ∧
      (∀ n, n ≠ c.val → t.core n = s.core n) ∧ RegsBut (SPIRE_STATUS_INIT_DONE.key c 0 :: coreKeys c) s t) ∧
    (clocked s = true → (s.core c).initBusy = false → exec (.spireTcmInitDone c) s = .next s) ∧
    (Accepts s req .spire c 0x014 data.toNat 0xFFFFFFFF → Memory.wf (s.core c).tcm = true → ∃ t, exec (.spireLoadData req c true data) s = .next t ∧
      AnsweredOk t ∧ t.rd SPIRE_LOAD_ADDR_ADDR c = (s.rd SPIRE_LOAD_ADDR_ADDR c + 1) % 2 ^ 16 ∧ bit (t.rd SECURE_TCM_OK_CORES) c = false ∧
      (∀ b, memGet (t.core c).tcm b = if s.rd SPIRE_LOAD_ADDR_ADDR c * 4 ≤ b ∧ b < s.rd SPIRE_LOAD_ADDR_ADDR c * 4 + 4
        then BitVec.ofNat 8 (data.toNat / 256 ^ (b - s.rd SPIRE_LOAD_ADDR_ADDR c * 4)) else memGet (s.core c).tcm b)) ∧
    (Reads s req .spire c 0x014 → (s.core c).tcmFails (s.rd SPIRE_LOAD_ADDR_ADDR c * 4) 4 = false → ∃ t, exec (.spireLoadData req c false data) s = .next t ∧
      t.reply = ⟨OK, memLe (s.core c).tcm (s.rd SPIRE_LOAD_ADDR_ADDR c * 4) 4, false⟩ ∧
      t.rd SPIRE_LOAD_ADDR_ADDR c = (s.rd SPIRE_LOAD_ADDR_ADDR c + 1) % 2 ^ 16 ∧ (t.core c).tcm = (s.core c).tcm) ∧
    (Accepts s req .spire c 0x01C data.toNat 0xFFFFFFFF → ∃ t, exec (.spireMboxSend req c data) s = .next t ∧
      AnsweredOk t ∧ RegsBut (SPIRE_MBOX_HI_DATA.key c 0 :: coreKeys c) s t ∧ t = { s with regs := t.regs, cores := t.cores, reply := t.reply } ∧
      (∀ n, n ≠ c.val → t.core n = s.core n) ∧ t.core c = { (s.core c) with soon := (s.core c).soon ++ [(s.fab + 6, ⟨BitVec.ofNat 32 (s.rd SPIRE_MBOX_LO_DATA c), data, 16⟩)] })

/-- For every context: EN, SUSPEND, CLOSE_NOW and CURVE_LOAD wait for the tick. At the tick's edge a due close that nothing defers
forms the next page of the context with its body and cell table, clears the period's counts, sets LW_MIN to 0xFFFF, ends an
exhaustion's suspension, clears EC_ADJ of the captured cells alone, and opens the next period unless EN = 0 caused it; a
deferred one sets HELD and changes no count; on another edge nothing closes. The oldest issued page without signatures is
signed. The page offered longest ago is offered again when RESEND_S has passed. A write of LDG_ACK is submitted with its
result, E_TOKEN at a standby; reading LDG_ACK_RSP clears VALID. -/
def Obligations.LedgerPages : Prop :=
  ∀ (s : State) (req : Req) (n : Fin 256) (set : Bool) (data : BitVec 32) (pre post : List Page) (p : Page) (e : Nat),
    (Accepts s req .lease n 0x000 (b2n set) 1 → ∃ t, exec (.leaseEnWrite req n set) s = .next t ∧
      StagedWrite s t LEASE_CTRL_EN n 0 (b2n set)) ∧
    (Accepts s req .lease n 0x000 (b2n set * 2) 2 → ∃ t, exec (.leaseSuspend req n set) s = .next t ∧
      StagedWrite s t LEASE_CTRL_SUSPEND n 0 (b2n set)) ∧
    (Accepts s req .lease n 0x000 8 8 → ∃ t, exec (.closeNow req n) s = .next t ∧
      StagedWrite s t LEASE_CTRL_CLOSE_NOW n 0 1) ∧
    (Accepts s req .lease n 0x000 16 16 → ∃ t, exec (.curveLoad req n) s = .next t ∧
      StagedWrite s t LEASE_CTRL_CURVE_LOAD n 0 1) ∧
    (clocked s = true → s.on LEASE_STATUS_OPEN n = false ∨ s.pipe.running = false ∨ s.fab ≠ s.pipe.tickEdge → exec (.periodClose n) s = .next s) ∧
    (clocked s = true → s.pipe.running = true → s.fab = s.pipe.tickEdge → closeDue s n s.tickNs = true → s.on CAMPANILE_STATUS_LOST = false → regionShort s (capturedCells s n).length = false →
      s.on SYS_LDG_CTRL_EN = true →
      let final := (s.lease n).closeFinal = true ∨ s.on LEASE_CTRL_EN n = false
      let table := (capturedCells s n).flatMap (cellRecord s)
      let seq := s.rd LEASE_NEXT_SEQ n + unissued s n
      let body := pageBody s n s.tickNs seq table ((capturedCells s n).any (fun c => (s.entry c).ecAdj))
      ∃ u, exec (.periodClose n) s = .next (offerPages (submitPages u)) ∧
        u.ldg.pages = s.ldg.pages ++ [{ ctx := n, seq := seq, body := body, table := table }] ∧ (u.lease n).prevDigest = sha384 body ∧
        (∀ f ∈ [LEASE_DIS_J, LEASE_CHG_J, LEASE_EST_J, LEASE_CORRUPT_CYC, LEASE_T_EXC_CYC, LEASE_C_EXC_CYC, LEASE_EXH_CYC, LEASE_CYCLES], u.rd f n = 0) ∧ u.rd LEASE_WEIGHT_LW_MIN n = 0xFFFF ∧ (u.lease n).exhSusp = false ∧
        u.on LEASE_STATUS_HELD n = false ∧ (∀ c ∈ capturedCells s n, u.entry c = { s.entry c with ecAdj := false }) ∧
        (∀ c, c ∉ capturedCells s n → u.entry c = s.entry c) ∧ (final → u.on LEASE_STATUS_OPEN n = false) ∧
        (¬ final → u.on LEASE_STATUS_OPEN n = true ∧ u.rd LEASE_START_NS n = s.tickNs % 2 ^ 64 ∧
          u.rd LEASE_NOM_END_NS n = firstB s n s.tickNs % 2 ^ 64)) ∧
    (clocked s = true → s.pipe.running = true → s.fab = s.pipe.tickEdge → closeDue s n s.tickNs = true → s.on CAMPANILE_STATUS_LOST = true ∨ regionShort s (capturedCells s n).length = true ∨ s.on SYS_LDG_CTRL_EN = false →
      ∃ u, exec (.periodClose n) s = .next (offerPages (submitPages u)) ∧ u.on LEASE_STATUS_HELD n = true ∧
        RegsBut [LEASE_STATUS_HELD.key n 0] s u ∧ u = { s with regs := u.regs, leases := u.leases }) ∧
    (clocked s = true → s.ldg.pages = pre ++ p :: post → (∀ q ∈ pre, (q.issued && !q.signed) = false) → p.issued = true → p.signed = false →
      exec .pageSignComplete s = .next (offerPages { s with ldg := { s.ldg with
        pages := pre ++ { p with signed := true, signature := signBlock LEDGER_SLOT p.body } :: post } })) ∧
    (clocked s = true → (∀ q ∈ s.ldg.pages, (q.issued && !q.signed) = false) → exec .pageSignComplete s = .next s) ∧
    (clocked s = true → holdsToken s = true → s.on SYS_LDG_CTRL_EN = true → s.ldg.pages = pre ++ p :: post → (p.issued && p.signed) = true →
      p.lastOffer = some e → s.reached (e + s.rd SYS_LDG_CFG_RESEND_S * SEC) = true →
      (∀ q ∈ pre, (q.ctx ≠ p.ctx ∨ q.seq ≠ p.seq) ∧ ∀ o ∈ q.lastOffer, e < o) →
      (∀ q ∈ post, ∀ o ∈ q.lastOffer, e ≤ o) →
      ∃ t, exec .pageResend s = .next t ∧ t.ldg.pages = pre ++ { p with lastOffer := some s.ns } :: post ∧
        t.queues = (queuePacket s (s.rd SYS_LDG_CTRL_QUEUE) LEDGER_SOURCE (packetWords (p.body ++ p.table ++ p.signature))).1.queues) ∧
    (clocked s = true → holdsToken s = false ∨ s.on SYS_LDG_CTRL_EN = false → exec .pageResend s = .next s) ∧
    (Accepts s req .sys 0 0x314 data.toNat 0xFFFFFFFF → holdsToken s = false → ∃ t, exec (.ldgAck req data) s = .next t ∧
      AnsweredOk t ∧ t.rd SYS_LDG_ACK_RSP_STAT = E_TOKEN ∧ t.on SYS_LDG_ACK_RSP_VALID = true ∧
      RegsBut [SYS_LDG_ACK_RSP_STAT.key 0 0, SYS_LDG_ACK_RSP_VALID.key 0 0] s t ∧ t = { s with regs := t.regs, reply := t.reply }) ∧
    (Accepts s req .sys 0 0x314 data.toNat 0xFFFFFFFF → holdsToken s = true →
      let ctx := data.toNat % 256
      let seq := s.rd SYS_LDG_ACK_SEQ_SEQ
      let r := ackResult s ctx seq
      exec (.ldgAck req data) s = .next (submit { s.answer OK 0 with ldg := { s.ldg with ackPending := true } }
        ⟨RG_LEDGER, pageKey ctx seq, leBytes 8 ctx ++ leBytes 8 seq ++ leBytes 48 r, .ack ctx seq r⟩)) ∧
    (Reads s req .sys 0 0x320 → s.on SYS_LDG_ACK_RSP_VALID = true → ∃ t, exec (.ldgAckRspRead req) s = .next t ∧
      t.reply = ⟨OK, s.readWord .sys 0 0x320 % 2 ^ 32, false⟩ ∧ t.on SYS_LDG_ACK_RSP_VALID = false ∧
      RegsBut [SYS_LDG_ACK_RSP_VALID.key 0 0] s t ∧ t = { s with regs := t.regs, ldg := { s.ldg with ackPending := false }, reply := t.reply }) ∧
    (Reads s req .sys 0 0x320 → s.on SYS_LDG_ACK_RSP_VALID = false → exec (.ldgAckRspRead req) s = .next (s.answer OK (s.readWord .sys 0 0x320 % 2 ^ 32)))

/-- With the FAB clock running: CKPT_S seconds after the last capture, or on CKPT_NOW, a checkpoint is asked for, captured at once
while the pipeline stands and at the next tick while it runs; none is begun while one is asked for or written. When it
completes, GEN advances by 1, LAST_CKPT is its capture time and its slot holds the image byte for byte, nothing else of memory
changing; when it fails CKPT_FAIL is set. RESTORE starts a restore; it completes, its slots read and corrected, with every
context restarted, with the digest of the newest valid generation where the journal has brought NEXT_SEQ no further, EC_ADJ of
every cell as in it, RESTORED set, or with E_ECC and no entry or context changed. -/
def Obligations.Checkpoints : Prop :=
  ∀ (s : State) (req : Req) (good : Bool) (gen : Nat),
    let v := mramScan s (s.rd SYS_LDG_CKPT_BASE_ADDR) 0x140000
    (clocked s = true → s.reached (s.ldg.ckptNs + s.rd SYS_LDG_CFG_CKPT_S * SEC) = true → ckptBusy s = false → s.pipe.running = true → exec (.checkpointTimer) s = .next (s.stage SYS_LDG_CTRL_CKPT_NOW 1 0 0)) ∧
    (clocked s = true → s.reached (s.ldg.ckptNs + s.rd SYS_LDG_CFG_CKPT_S * SEC) = true → ckptBusy s = false → s.pipe.running = false → ∃ t, exec (.checkpointTimer) s = .next t ∧
      t.ldg = { s.ldg with ckptBusy := true, ckptNs := s.ns, ckptImage := ckptImage t (s.rd SYS_LDG_CKPT_GEN_GEN + 1) } ∧
      t.on SYS_LDG_CTRL_CKPT_NOW = false ∧ RegsBut [SYS_LDG_CTRL_CKPT_NOW.key 0 0] s t ∧ t = { s with ldg := t.ldg, regs := t.regs }) ∧
    (clocked s = true → s.reached (s.ldg.ckptNs + s.rd SYS_LDG_CFG_CKPT_S * SEC) = true → ckptBusy s = true → exec .checkpointTimer s = .next s) ∧
    (Accepts s req .sys 0 0x300 4 4 → s.pipe.running = true → ∃ t, exec (.ckptNow req) s = .next t ∧
      StagedWrite s t SYS_LDG_CTRL_CKPT_NOW 0 0 1) ∧
    (Accepts s req .sys 0 0x300 4 4 → s.pipe.running = false → ∃ t, exec (.ckptNow req) s = .next t ∧
      AnsweredOk t ∧ t.ldg = { s.ldg with ckptBusy := true, ckptNs := s.ns, ckptImage := ckptImage t (s.rd SYS_LDG_CKPT_GEN_GEN + 1) } ∧
      t.on SYS_LDG_CTRL_CKPT_NOW = false ∧ RegsBut [SYS_LDG_CTRL_CKPT_NOW.key 0 0] s t ∧ t = { s with ldg := t.ldg, regs := t.regs, reply := t.reply }) ∧
    (clocked s = true → s.ldg.ckptBusy = true → Memory.wf s.bytes = true → s.on SCAN_STATUS_BUSY = false → ∃ t, exec (.checkpointComplete true) s = .next t ∧
      t.rd SYS_LDG_CKPT_GEN_GEN = (s.rd SYS_LDG_CKPT_GEN_GEN + 1) % 2 ^ 64 ∧
      t.rd SYS_LDG_LAST_CKPT_NS_NS = s.ldg.ckptNs % 2 ^ 64 ∧ t.ldg.ckptBusy = false ∧
      (∀ k x, s.ldg.ckptImage[k]? = some x → memGet t.bytes (slotBase s (s.rd SYS_LDG_CKPT_GEN_GEN + 1) + k) = BitVec.ofNat 8 x) ∧
      (∀ a, a < slotBase s (s.rd SYS_LDG_CKPT_GEN_GEN + 1) ∨ slotBase s (s.rd SYS_LDG_CKPT_GEN_GEN + 1) + s.ldg.ckptImage.length ≤ a →
        memGet t.bytes a = memGet s.bytes a)) ∧
    (clocked s = true → s.ldg.ckptBusy = true → ∃ t, exec (.checkpointComplete false) s = .next t ∧
      t.on SYS_LDG_STATUS_CKPT_FAIL = true ∧ t.ldg = { s.ldg with ckptBusy := false, ckptImage := [] } ∧
      RegsBut [SYS_LDG_STATUS_CKPT_FAIL.key 0 0] s t ∧ t = { s with ldg := t.ldg, regs := t.regs }) ∧
    (clocked s = true → s.ldg.ckptBusy = false → exec (.checkpointComplete good) s = .next s) ∧
    (Accepts s req .sys 0 0x300 2 2 → exec (.ldgRestore req) s = .next ({ s.answer OK 0 with ldg := { s.ldg with restoring := true } })) ∧
    (clocked s = true → s.ldg.restoring = true → newestGen v = some gen → ∃ u, exec .restoreComplete s = .next (offerAgain u) ∧
      u.rd SYS_LDG_CKPT_GEN_GEN = gen % 2 ^ 64 ∧ u.on SYS_LDG_STATUS_RESTORED = true ∧ u.ldg.restoring = false ∧
      (∀ n, n < 256 → (u.lease n).restart = true) ∧
      (∀ n, n < 256 → s.rd LEASE_NEXT_SEQ n ≤ v.mem (slotBase v gen + 0x40000 + n * 256 + 0xB0) 8 →
        (u.lease n).prevDigest = memBytes v.bytes (slotBase v gen + 0x40000 + n * 256 + 192) 48) ∧
      (∀ c, c < 4096 → u.entry c = { s.entry c with ecAdj := bit (v.mem (slotBase v gen + c * 64 + 3) 1) 0 })) ∧
    (clocked s = true → s.ldg.restoring = true → newestGen v = none → s.rd SYS_LDG_ERR_CODE = 0 → ∃ t, exec (.restoreComplete) s = .next t ∧
      t.rd SYS_LDG_ERR_CODE = E_ECC ∧ t.entries = s.entries ∧ t.leases = s.leases ∧ t.ldg = { s.ldg with restoring := false } ∧ t.bytes = v.bytes) ∧
    (clocked s = true → s.ldg.restoring = false → exec .restoreComplete s = .next s)

/-- With the FAB clock running: a patrol read, after its interval, presents the scrubber's request where its resource is not idle,
and is served at once where it is. A line without errors only moves the scrubber on; a line within four symbols of a codeword
holds that codeword's data and is counted; any other is counted as uncorrectable and at UE_LIMIT takes the channel into
CH_FAIL; the pass ends at the last line with PASS set. MARK_FAIL sets CH_FAIL and empties the spill queues; INIT clears
INIT_DONE, and its end sets it with every line of that channel, and of no other memory, a good codeword of the unwritten bytes
(log 3); a refresh, when its interval has passed, holds the enabled channel for 219 or 344 clocks. -/
def Obligations.MemoryEngines : Prop :=
  ∀ (s : State) (req : Req) (i : Fin 3) (c : Fin 2) (r : Nat) (fixes : List (Nat × Nat)),
    (clocked s = true → scrubOn s i = false → exec (.scrubRead i) s = .next s) ∧
    (clocked s = true → scrubOn s i = true → (s.mems.get {} i).line < scrubLines i → resourceOf ((scrubAddr i (s.mems.get {} i).line) * 64) = some r → (s.res r).waiting ≠ [] ∨ (s.res r).holder ≠ none ∨ s.fab + (if i.val < 2 then s.rd MEMC_SCRUB_INT i else s.rd SYS_CUP_SCRUB_INT) < (s.res r).busyEdge → presented (s.res r) (scrubReq i) = false → ∃ t, exec (.scrubRead i) s = .next t ∧
      (t.res r).waiting = (s.res r).waiting ++ [{ req := scrubReq i, edge := s.fab + (if i.val < 2 then s.rd MEMC_SCRUB_INT i else s.rd SYS_CUP_SCRUB_INT), total := 1 }] ∧ t.mems = s.mems ∧
      t.fab = s.fab + (if i.val < 2 then s.rd MEMC_SCRUB_INT i else s.rd SYS_CUP_SCRUB_INT) ∧ SameMemory s t) ∧
    (clocked s = true → scrubOn s i = true → (s.mems.get {} i).line < scrubLines i → resourceOf ((scrubAddr i (s.mems.get {} i).line) * 64) = some r → (s.res r).waiting = [] → (s.res r).holder = none → (s.res r).busyEdge ≤ s.fab + (if i.val < 2 then s.rd MEMC_SCRUB_INT i else s.rd SYS_CUP_SCRUB_INT) → chFail s ((scrubAddr i (s.mems.get {} i).line) * 64) = true ∨ ((i.val < 2 → (s.mems.get {} i).caErrs < 2) ∧ lineFixes s (scrubAddr i (s.mems.get {} i).line) = some []) → ∃ t, exec (.scrubRead i) s = .next t ∧
      (t.mems.get {} i).line = (if (s.mems.get {} i).line + 1 < scrubLines i then (s.mems.get {} i).line + 1 else 0) ∧
      ((s.mems.get {} i).line + 1 = scrubLines i → (t.mems.get {} i).passUe = 0 ∧ (if i.val < 2 then t.on MEMC_STATUS_PASS i else t.on SYS_CUP_STATUS_PASS) = true) ∧
      t.fab = s.fab + (if i.val < 2 then s.rd MEMC_SCRUB_INT i else s.rd SYS_CUP_SCRUB_INT) ∧ t.lineChk = s.lineChk ∧ SameMemory s t) ∧
    (clocked s = true → scrubOn s i = true → (s.mems.get {} i).line < scrubLines i → resourceOf ((scrubAddr i (s.mems.get {} i).line) * 64) = some r → (s.res r).waiting = [] → (s.res r).holder = none → (s.res r).busyEdge ≤ s.fab + (if i.val < 2 then s.rd MEMC_SCRUB_INT i else s.rd SYS_CUP_SCRUB_INT) → chFail s ((scrubAddr i (s.mems.get {} i).line) * 64) = false → (i.val < 2 → (s.mems.get {} i).caErrs < 2) → lineFixes s (scrubAddr i (s.mems.get {} i).line) = some fixes → fixes ≠ [] → Memory.wf s.bytes = true → ∃ t, exec (.scrubRead i) s = .next t ∧
      findKey t.lineChk (scrubAddr i (s.mems.get {} i).line) = none ∧
      memBytes t.bytes ((scrubAddr i (s.mems.get {} i).line) * 64) 64 = ((correctWith (storedWord s (scrubAddr i (s.mems.get {} i).line)) fixes).take 64).map (· % 256) ∧
      (∀ a, lineOf a ≠ (scrubAddr i (s.mems.get {} i).line) → memGet t.bytes a = memGet s.bytes a) ∧
      (i.val < 2 → t.on MEMC_STATUS_CE i = true ∧ t.rd MEMC_CE_CNT_COUNT i = satU 32 (s.rd MEMC_CE_CNT_COUNT i + 1)) ∧
      (i.val = 2 → t.on SYS_CUP_STATUS_CE = true ∧ t.rd SYS_CUP_CE_CNT_COUNT = satU 32 (s.rd SYS_CUP_CE_CNT_COUNT + 1))) ∧
    (clocked s = true → scrubOn s i = true → (s.mems.get {} i).line < scrubLines i → resourceOf ((scrubAddr i (s.mems.get {} i).line) * 64) = some r → (s.res r).waiting = [] → (s.res r).holder = none → (s.res r).busyEdge ≤ s.fab + (if i.val < 2 then s.rd MEMC_SCRUB_INT i else s.rd SYS_CUP_SCRUB_INT) → chFail s ((scrubAddr i (s.mems.get {} i).line) * 64) = false → lineFixes s (scrubAddr i (s.mems.get {} i).line) = none → ∃ t, exec (.scrubRead i) s = .next t ∧
      t.lineChk = s.lineChk ∧ SameMemory s t ∧
      (i.val < 2 → t.on MEMC_STATUS_UE i = true ∧ t.rd MEMC_UE_CNT_COUNT i = satU 32 (s.rd MEMC_UE_CNT_COUNT i + 1) ∧
        (s.rd MEMC_CFG_UE_LIMIT i ≤ (s.mems.get {} i).passUe + 1 → t.on MEMC_STATUS_CH_FAIL i = true)) ∧
      (i.val = 2 → t.on SYS_CUP_STATUS_UE = true ∧ t.rd SYS_CUP_UE_CNT_COUNT = satU 32 (s.rd SYS_CUP_UE_CNT_COUNT + 1))) ∧
    (Accepts s req .memc c 0x000 8 8 → ∃ t, exec (.markFail req c) s = .next t ∧
      AnsweredOk t ∧ t.on MEMC_STATUS_CH_FAIL c = true ∧ SameMemory s t ∧ ∀ k : Fin 32, (t.queue k).all = [] ∧ (t.queue k).visible = 0) ∧
    (Accepts s req .memc c 0x000 4 4 → ∃ t, exec (.memcInit req c) s = .next t ∧
      AnsweredOk t ∧ t.on MEMC_STATUS_INIT_DONE c = false ∧ (t.mems.get {} c).initBusy = true ∧
      RegsBut [MEMC_STATUS_INIT_DONE.key c 0] s t ∧ t = { s with mems := t.mems, regs := t.regs, reply := t.reply }) ∧
    (clocked s = true → (s.mems.get {} c).initBusy = true → ∃ t, exec (.memcInitDone c) s = .next t ∧
      t.on MEMC_STATUS_INIT_DONE c = true ∧ (t.mems.get {} c).initBusy = false ∧
      (∀ a, memOf a = some (.dram c) → memGet t.bytes a = memDefault ∧ findKey t.lineChk (lineOf a) = none) ∧
      (∀ a, memOf a ≠ some (.dram c) → memGet t.bytes a = memGet s.bytes a ∧ findKey t.lineChk (lineOf a) = findKey s.lineChk (lineOf a)) ∧
      RegsBut [MEMC_STATUS_INIT_DONE.key c 0] s t) ∧
    (clocked s = true → (s.mems.get {} c).initBusy = false → exec (.memcInitDone c) s = .next s) ∧
    (clocked s = true → s.on MEMC_CTRL_EN c = true → ∃ t, exec (.dramRefresh c) s = .next t ∧
      t.fab = max s.fab ((s.mems.get {} c).refreshed + (if s.on MEMC_CFG_TREF2X c then 2437 else 4875)) ∧
      (t.mems.get {} c).refreshed = t.fab ∧ (∀ k, k ≠ 32 + c.val → t.bel.res.get {} k = s.bel.res.get {} k) ∧
      (t.bel.res.get {} (32 + c)).busyEdge = max (s.bel.res.get {} (32 + c)).busyEdge t.fab + (if s.on MEMC_CFG_DENSITY c then 344 else 219) ∧
      SameMemory s t) ∧
    (clocked s = true → s.on MEMC_CTRL_EN c = false → exec (.dramRefresh c) s = .next s)

/-- GO starts a scan of the range from the polynomial's initial value, or from the last register state with CONT. With the FAB
clock running, a busy scan whose remaining range lies in served memory without an error ends with BUSY clear, DONE set and
RESULT the CRC of the bytes from the register state at hand, with the polynomial's final XOR; the first uncorrectable line of
the range stops it with ECC set, that line's address in FAIL_ADDR, DONE as it was; ABORT stops it with DONE and RESULT as they
were. Where no line needs a correction no byte of memory changes. -/
def Obligations.ScanEngine : Prop :=
  ∀ (s : State) (req : Req) (l : Nat),
    (Accepts s req .scan 0 0x000 1 1 → ∃ t, exec (.scanGo req) s = .next t ∧
      AnsweredOk t ∧ t.on SCAN_STATUS_BUSY = true ∧ RegsBut [SCAN_STATUS_BUSY.key 0 0] s t ∧
      t.scan = { s.scan with cur := if s.on SCAN_CTRL_CONT then s.scan.reg else scanInit (s.rd SCAN_CTRL_POLY), addr := s.rd SCAN_ADDR_ADDR,
                             left := s.rd SCAN_LEN_BYTES, total := s.rd SCAN_LEN_BYTES, goEdge := s.fab } ∧
      t = { s with scan := t.scan, regs := t.regs, reply := t.reply }) ∧
    (Accepts s req .scan 0 0x000 2 2 → s.on SCAN_STATUS_BUSY = true → ∃ t, exec (.scanAbort req) s = .next t ∧
      AnsweredOk t ∧ t.on SCAN_STATUS_BUSY = false ∧ t.on SCAN_STATUS_DONE = s.on SCAN_STATUS_DONE ∧
      t.rd SCAN_RESULT_CRC = s.rd SCAN_RESULT_CRC ∧ ((∀ c : Nat, (s.mems.get {} c).caErrs < 2) → (∀ a, s.scan.addr ≤ a → a < s.scan.addr + s.scan.left → memOf a ≠ none ∧ chOff s a = false ∧ chFail s a = false ∧ lineFixes s (lineOf a) = some []) → SameMemory s t)) ∧
    (Accepts s req .scan 0 0x000 2 2 → s.on SCAN_STATUS_BUSY = false → exec (.scanAbort req) s = .next (s.answer OK 0)) ∧
    (clocked s = true → s.on SCAN_STATUS_BUSY = true → s.scan.left ≤ s.scan.total → (∀ c : Nat, (s.mems.get {} c).caErrs < 2) → (∀ a, s.scan.addr ≤ a → a < s.scan.addr + s.scan.left → memOf a ≠ none ∧ chOff s a = false ∧ chFail s a = false ∧ lineFixes s (lineOf a) = some []) → ∃ t, exec (.scanDone) s = .next t ∧
      t.on SCAN_STATUS_BUSY = false ∧ t.on SCAN_STATUS_DONE = true ∧ SameMemory s t ∧ t.fab = max s.fab (scanEnd s) ∧
      t.scan.reg = scanBytes (s.rd SCAN_CTRL_POLY) s.scan.cur ((upTo s.scan.left).flatMap (fun k => lineData s (s.scan.addr + k) 1)) ∧
      t.rd SCAN_RESULT_CRC = (t.scan.reg ^^^ scanXor (s.rd SCAN_CTRL_POLY)) % 2 ^ 64) ∧
    (clocked s = true → s.on SCAN_STATUS_BUSY = false → exec .scanDone s = .next s ∧ exec .scanEccStop s = .next s) ∧
    (clocked s = true → s.on SCAN_STATUS_BUSY = true → s.scan.left ≤ s.scan.total → s.scan.addr / 64 ≤ l → l * 64 < s.scan.addr + s.scan.left → uncorrectable s l = true → (∀ c : Nat, (s.mems.get {} c).caErrs < 2) → (∀ a, s.scan.addr ≤ a → a < l * 64 → memOf a ≠ none ∧ chOff s a = false ∧ chFail s a = false ∧ lineFixes s (lineOf a) = some []) → ∃ t, exec (.scanEccStop) s = .next t ∧
      t.on SCAN_STATUS_BUSY = false ∧ t.on SCAN_STATUS_ECC = true ∧
      t.on SCAN_STATUS_DONE = s.on SCAN_STATUS_DONE ∧ t.rd SCAN_FAIL_ADDR_ADDR = l * 64 % 2 ^ 40 ∧ SameMemory s t) ∧
    (clocked s = true → s.on SCAN_STATUS_BUSY = true → (∀ l, s.scan.addr / 64 ≤ l → l * 64 < s.scan.addr + s.scan.left → (chFail s (l * 64) || uncorrectable s l) = false) →
      exec .scanEccStop s = .next s)

/-- With the FAB clock running: the oldest unprepared record of a region gets its header and payload words and no other byte
changes; its trailer starts once the standby has it, it is SOLO, or none takes part, every earlier one having started.
PREPARED and its timeout, after ACK_TO with TWIN_LOST, do the same. A trailer's completion makes the record COMMITTED, writes
the trailer's bytes, and its work acts. A standby refuses an older epoch with E_TOKEN, a wrong JSEQ with E_SEQ, want of room
with E_FULL, else appends the record. RECOVER clears READY, its end sets it with no record of its own left PREPARED
standalone; FORMAT empties the regions, JSEQ going on; a USER store changes its bytes alone, and is refused on an
uncorrectable word. -/
def Obligations.JournalCommands : Prop :=
  ∀ (s : State) (req : Req) (r : Fin 3) (jseq : BitVec 64) (key : BitVec 64) (epoch : BitVec 32) (unit : BitVec 2) (timeNs : BitVec 64)
    (payload : List (BitVec 8)) (addr : BitVec 40) (size : Fin 4) (val : BitVec 64) (pre post : List JrnRec) (x : JrnRec)
    (held : List (Fin 3 × BitVec 64)),
    (clocked s = true → s.jrn.recs = pre ++ x :: post → x.region = r.val → x.trailer = false → x.foreign = false → (∀ y ∈ pre, y.region = r.val → y.trailer = true ∧ y.localDone = true) →
      (∀ y ∈ pre ++ post, y.region = r.val → y.jseq ≠ x.jseq) → x.localDone = false → s.on SCAN_STATUS_BUSY = false → Memory.wf s.bytes = true → ∃ t, exec (.localPrepareDone r) s = .next t ∧
      (let ready := x.remote || x.solo || !(needsRemote s)
       t.jrn.recs[pre.length]? = some { x with localDone := true, trailer := ready, solo := x.solo || (s.jrn.solo && ready && !x.remote) }) ∧
      t.rd JOURNAL_REGION_WRITES 0 r = (s.rd JOURNAL_REGION_WRITES 0 r + (payloadWords x.payload + 1)) % 2 ^ 64 ∧
      (∀ k v, (x.header ++ x.payload)[k]? = some v → memGet t.bytes (regionBase r + x.word * 64 + k) = BitVec.ofNat 8 v) ∧
      (∀ a, a < regionBase r + x.word * 64 ∨ regionBase r + (x.word + 1 + payloadWords x.payload) * 64 ≤ a → memGet t.bytes a = memGet s.bytes a)) ∧
    (clocked s = true → (∀ y ∈ s.jrn.recs, y.region = r.val → (y.localDone || y.foreign) = true) → exec (.localPrepareDone r) s = .next s) ∧
    (clocked s = true → s.jrn.recs = pre ++ x :: post → x.region = r.val → x.trailer = false → x.foreign = false → (∀ y ∈ pre, y.region = r.val → y.trailer = true ∧ y.localDone = true) →
      (∀ y ∈ pre ++ post, y.region = r.val → y.jseq ≠ x.jseq) → x.jseq < 2 ^ 64 → ∃ t, exec (.preparedReceive r (BitVec.ofNat 64 x.jseq)) s = .next t ∧
      t.jrn.recs[pre.length]? = some { x with remote := true, trailer := x.localDone } ∧ t = { s with jrn := t.jrn }) ∧
    (clocked s = true → s.jrn.recs = pre ++ x :: post → x.region = r.val → x.trailer = false → x.foreign = false → (∀ y ∈ pre, y.region = r.val → y.trailer = true ∧ y.localDone = true) →
      (∀ y ∈ pre ++ post, y.region = r.val → y.jseq ≠ x.jseq) → x.jseq < 2 ^ 64 → x.remote = false → x.state = 0 → needsRemote s = true →
      ∃ t, exec (.prepareTimeout r (BitVec.ofNat 64 x.jseq)) s = .next t ∧ t.on JOURNAL_STATUS_TWIN_LOST = true ∧
        t.on TWIN_STATUS_LINK_EV = true ∧ t.jrn.solo = true ∧ t.fab = max s.fab (x.edge + s.rd JOURNAL_CFG_ACK_TO) ∧
        t.jrn.recs[pre.length]? = some { x with solo := x.solo || x.localDone, trailer := x.localDone }) ∧
    (clocked s = true → needsRemote s = false → exec (.prepareTimeout r jseq) s = .next s) ∧
    (clocked s = true → trailerDue s r = some x → (∀ z ∈ s.jrn.recs, z.region = r.val → z.jseq = x.jseq → z = x) → Memory.wf s.bytes = true →
      let y := { x with state := 1, trailer := true }
      ∃ u, exec (.journalAccept r) s = .next (submitPages (admitWaiting (acceptWork u y) r)) ∧
        u.jrn.recs = s.jrn.recs.map (fun z => if z.region = r.val ∧ z.jseq = x.jseq then y else z) ∧
        (∀ k v, (y.trailerBytes s.ns)[k]? = some v →
          memGet u.bytes (regionBase r + (x.word + payloadWords x.payload + 1) * 64 + k) = BitVec.ofNat 8 v)) ∧
    (clocked s = true → trailerDue s r = none → exec (.journalAccept r) s = .next s) ∧
    (clocked s = true → firstRec s r (fun z => z.jseq == jseq.toNat && z.foreign && z.state == 0) = some x →
      (∀ z ∈ s.jrn.recs, z.region = r.val → z.jseq = jseq.toNat → z = x) →
      let y := { x with state := 1, trailer := true }
      ∃ u, exec (.remoteCommit r jseq) s = .next (acceptWork u y) ∧
        u.jrn.recs = s.jrn.recs.map (fun z => if z.region = r.val ∧ z.jseq = x.jseq then y else z)) ∧
    (clocked s = true → firstRec s r (fun z => z.jseq == jseq.toNat && z.foreign && z.state == 0) = none → exec (.remoteCommit r jseq) s = .next s) ∧
    (clocked s = true → let i := Instr.remotePrepare r jseq key epoch unit timeNs payload
      let old := sx 16 (uz 16 ((epoch.toNat : Int) - s.rd TWIN_EPOCH_EPOCH)) < 0
      let code := if old then E_TOKEN else if jseq.toNat ≠ s.rd JOURNAL_REGION_NEXT_JSEQ 0 r then E_SEQ
        else if regionFits s r (recordSpan r (nats payload)) = false then E_FULL else OK
      (code ≠ OK → ∃ t, exec i s = .next t ∧ t.reply = ⟨code, 0, false⟩ ∧ t.jrn = s.jrn ∧ SameMemory s t) ∧
      (code = OK → (∀ z ∈ s.jrn.recs, z.region = r.val → z.jseq ≠ jseq.toNat) → ∃ t z, exec i s = .next t ∧ AnsweredOk t ∧
        t.jrn.recs = s.jrn.recs ++ [z] ∧ t.rd JOURNAL_REGION_NEXT_JSEQ 0 r = (jseq.toNat + 1) % 2 ^ 64 ∧
        z.region = r.val ∧ z.jseq = jseq.toNat ∧ z.key = key.toNat ∧ z.epoch = epoch.toNat ∧ z.unit = unit.toNat ∧ z.timeNs = timeNs.toNat ∧
        z.payload = nats payload ∧ z.localDone = true ∧ z.foreign = true ∧ z.state = 0)) ∧
    (Accepts s req .journal 0 0x000 4 4 → exec (.journalRecover req) s = .next ({ (s.answer OK 0).clear JOURNAL_STATUS_READY with jrn := { s.jrn with recovering := true, takeover := false, waiting := [] } })) ∧
    (clocked s = true → s.jrn.recovering = false → exec (.journalRecoveryComplete held) s = .next s) ∧
    (clocked s = true → s.jrn.recovering = true → ∃ u, exec (.journalRecoveryComplete held) s = .next (submitPages u) ∧ u.on JOURNAL_STATUS_READY = true ∧
      u.jrn.recovering = false ∧ u.jrn.takeover = false ∧
      (standalone s = true → s.jrn.takeover = false → ∀ z ∈ u.jrn.recs, z.region < 3 → z.unit = 2 → z.state ≠ 0)) ∧
    (Accepts s req .journal 0 0x000 2 2 → s.on SCAN_STATUS_BUSY = false → ∃ t, exec (.journalFormat req) s = .next t ∧
      AnsweredOk t ∧ t.jrn = { s.jrn with recs := [], waiting := [], tail := [] } ∧
      (∀ a, (a < 0x10000000 ∨ 0x10000100 ≤ a) → (∀ k : Fin 3, a < regionBase k ∨ regionBase k + regionWords k * 64 ≤ a) →
        memGet t.bytes a = memGet s.bytes a) ∧
      (∀ k : Fin 3, t.rd JOURNAL_REGION_FREE 0 k = regionWords k ∧ t.rd JOURNAL_REGION_INFLIGHT 0 k = 0 ∧
        t.rd JOURNAL_REGION_NEXT_JSEQ 0 k = s.rd JOURNAL_REGION_NEXT_JSEQ 0 k)) ∧
    (clocked s = true → inUser addr.toNat = true → powered s .mem = true → openTo s req addr.toNat = true → lineFixes s (lineOf addr.toNat) = some [] →
      s.on SCAN_STATUS_BUSY = false → Memory.wf s.bytes = true → ∃ t, exec (.userStore req addr size val) s = .next t ∧ AnsweredOk t ∧
        t.rd JOURNAL_USER_WRITES_COUNT = (s.rd JOURNAL_USER_WRITES_COUNT + 1) % 2 ^ 64 ∧ RegsBut [JOURNAL_USER_WRITES_COUNT.key 0 0] s t ∧
        ∀ b, memGet t.bytes b = if addr.toNat ≤ b ∧ b < addr.toNat + 2 ^ size.val then BitVec.ofNat 8 (val.toNat / 256 ^ (b - addr.toNat))
          else memGet s.bytes b) ∧
    (clocked s = true → inUser addr.toNat = true → powered s .mem = true → openTo s req addr.toNat = true → uncorrectable s (lineOf addr.toNat) = true →
      s.on SCAN_STATUS_BUSY = false → exec (.userStore req addr size val) s = .next ((s.raise JOURNAL_STATUS_ECC).answer E_ECC 0))

/-- With the FAB clock running: a requester presents at most one request at a resource it uses, a core one in all, at the end of
those waiting, cut at the line or page. At a grant the holder goes on to the BURST limit its grant took unless one of a higher
level waits; otherwise the granted request is one of the waiting, an unfinished holder among them, of the highest level, the
first after the requester last granted at that level, its wait recorded in MAXWAIT. A granted request withdrawn before its
first granule costs one clock, later it goes on. The first request of a requester to wait longer than STARVE_LIM sets its
STARVED bit. LEVEL is written alone; BURST of a core stays 1. -/
def Obligations.BelfryArbitration : Prop :=
  ∀ (s : State) (req : Req) (r : Fin 34) (q : Fin 32) (addr : BitVec 40) (total : BitVec 32) (level : BitVec 3) (h : BelReq),
    (clocked s = true → resourceOf addr.toNat = some r.val → mayPresent s r q = true → exec (.belfryRequest q addr total) s = .next (s.setRes r { (s.res r) with waiting := (s.res r).waiting ++
        [{ req := q, edge := s.fab, total := min (max 1 total.toNat) (if r.val < 32 then 1 else 64 - addr.toNat / 64 % 64) }] })) ∧
    (clocked s = true → (∀ p ∈ resourceOf addr.toNat, mayPresent s p q = false) → exec (.belfryRequest q addr total) s = .next s) ∧
    (clocked s = true → (s.res r).holder = some h → h.done + 1 < h.total → h.burst + 1 < h.limit → (∀ w ∈ (s.res r).waiting, levelOf s w.req ≤ levelOf s h.req) → ∃ t, exec (.belfryGrant r) s = .next t ∧
      t.res r = { (s.res r) with holder := some { h with done := h.done + 1, burst := h.burst + 1 } } ∧ t.fab = max s.fab (s.res r).busyEdge) ∧
    (clocked s = true → (∀ h ∈ (s.res r).holder, h.total ≤ h.done + 1 ∨ h.limit ≤ h.burst + 1 ∨ ∃ w ∈ (s.res r).waiting, levelOf s h.req < levelOf s w.req) → ((s.res r).waiting ++ (match (s.res r).holder with | some h => if h.done + 1 < h.total then [{ h with done := h.done + 1, burst := 0, edge := max s.fab (s.res r).busyEdge }] else [] | none => [])) = [] → ∃ t, exec (.belfryGrant r) s = .next t ∧
      (t.res r).holder = none ∧ (t.res r).waiting = []) ∧
    (clocked s = true → (∀ h ∈ (s.res r).holder, h.total ≤ h.done + 1 ∨ h.limit ≤ h.burst + 1 ∨ ∃ w ∈ (s.res r).waiting, levelOf s h.req < levelOf s w.req) → ((s.res r).waiting ++ (match (s.res r).holder with | some h => if h.done + 1 < h.total then [{ h with done := h.done + 1, burst := 0, edge := max s.fab (s.res r).busyEdge }] else [] | none => [])) ≠ [] → ∃ t w, exec (.belfryGrant r) s = .next t ∧ w ∈ ((s.res r).waiting ++ (match (s.res r).holder with | some h => if h.done + 1 < h.total then [{ h with done := h.done + 1, burst := 0, edge := max s.fab (s.res r).busyEdge }] else [] | none => [])) ∧
      (t.res r).holder = some { w with burst := 0, granted := max s.fab (s.res r).busyEdge, limit := if r.val < 32 then 1 else max 1 (s.rd BELFRY_PRI_BURST 0 w.req) } ∧ (t.res r).waiting = ((s.res r).waiting ++ (match (s.res r).holder with | some h => if h.done + 1 < h.total then [{ h with done := h.done + 1, burst := 0, edge := max s.fab (s.res r).busyEdge }] else [] | none => [])).filter (fun v => v.req != w.req) ∧
      (∀ v ∈ ((s.res r).waiting ++ (match (s.res r).holder with | some h => if h.done + 1 < h.total then [{ h with done := h.done + 1, burst := 0, edge := max s.fab (s.res r).busyEdge }] else [] | none => [])), levelOf s v.req ≤ levelOf s w.req ∧ (levelOf s v.req = levelOf s w.req → (w.req + 64 - (s.res r).last.get 63 (levelOf s w.req) - 1) % 64 ≤ (v.req + 64 - (s.res r).last.get 63 (levelOf s w.req) - 1) % 64)) ∧
      t.rd BELFRY_PRI_MAXWAIT 0 w.req = max (min 0xFFFF (max s.fab (s.res r).busyEdge - w.edge)) (s.rd BELFRY_PRI_MAXWAIT 0 w.req) % 2 ^ 16) ∧
    (clocked s = true → (s.res r).holder = some h → h.req = q → h.burst = 0 → s.fab ≤ h.granted → exec (.belfryWithdraw r q) s = .next (s.setRes r { (s.res r) with holder := none, busyEdge := max (s.res r).busyEdge s.fab + 1 })) ∧
    (clocked s = true → (s.res r).holder = some h → h.req = q → 0 < h.burst ∨ h.granted < s.fab → exec (.belfryWithdraw r q) s = .next s) ∧
    (clocked s = true → (∀ h ∈ (s.res r).holder, h.req ≠ q) → exec (.belfryWithdraw r q) s = .next (s.setRes r { (s.res r) with waiting := (s.res r).waiting.filter (fun w => w.req != q) })) ∧
    (clocked s = true → s.rd BELFRY_CFG_STARVE_LIM = 0 ∨ (∀ p : Fin 34, ∀ w ∈ (s.res p).waiting, w.req ≠ q) → exec (.starvation q) s = .next s) ∧
    (clocked s = true → s.rd BELFRY_CFG_STARVE_LIM ≠ 0 → (∃ w ∈ (s.res r).waiting, w.req = q) → ∃ t, exec (.starvation q) s = .next t ∧
      bit (t.rd BELFRY_STARVED_REQ) q = true ∧ RegsBut [BELFRY_STARVED_REQ.key 0 0, CAMPANILE_STATUS_SLEWING.key 0 0] s t ∧
      (∀ j : Fin 32, j ≠ q → bit (t.rd BELFRY_STARVED_REQ) j = bit (s.rd BELFRY_STARVED_REQ) j) ∧
      (∀ p : Fin 34, ∀ w ∈ (s.res p).waiting, w.req = q → t.fab ≤ max s.fab (w.edge + s.rd BELFRY_CFG_STARVE_LIM + 1)) ∧
      (∃ p : Fin 34, ∃ w ∈ (s.res p).waiting, w.req = q ∧ t.fab = max s.fab (w.edge + s.rd BELFRY_CFG_STARVE_LIM + 1))) ∧
    (Accepts s req .belfry 0 (0x40 + 4 * q) level.toNat 7 → ∃ t, exec (.priLevelWrite req q level) s = .next t ∧
      AnsweredOk t ∧ levelOf t q = level.toNat ∧ RegsBut [BELFRY_PRI_LEVEL.key 0 q, BELFRY_PRI_BURST.key 0 q] s t ∧
      t.rd BELFRY_PRI_BURST 0 q = (if q.val < 16 then 1 else s.rd BELFRY_PRI_BURST 0 q) ∧ t = { s with regs := t.regs, reply := t.reply })

/-- For every token: TRY gives the host a free token without waiters, answers E_STATE where the host holds it and E_LOCKED where
another holds or waits for it; REL and CLR act on a token the host holds, by releasing it or clearing BROKEN, and answer
E_TOKEN otherwise with the token as it was; the answer's code is in LOCK_RSP and no other register changes. An owner fault
releases each token its owner holds, sets BROKEN, advances the epoch, withdraws the owner's waiting requests and, where it
held one, sets BROKE; tokens the owner does not hold keep their owner, BROKEN and epoch. -/
def Obligations.LockTokens : Prop :=
  ∀ (s : State) (req : Req) (k : Fin 64) (owner : Fin 17),
    (clocked s = true → ∃ t, exec (.ownerFault owner) s = .next t ∧ ((∃ n : Fin 64, holds s n owner = true) → t.on BELFRY_STATUS_BROKE = true) ∧
      ((∀ n : Fin 64, holds s n owner = false) → t.on BELFRY_STATUS_BROKE = s.on BELFRY_STATUS_BROKE) ∧ ∀ n : Fin 64,
      t.bel.waiters.get [] n = (s.bel.waiters.get [] n).filter (fun w => w.core != owner.val) ∧
      (holds s n owner = true → t.on BELFRY_TOK_STATE_HELD 0 n = false ∧ t.rd BELFRY_TOK_STATE_OWNER 0 n = 0 ∧
        t.on BELFRY_TOK_STATE_BROKEN 0 n = true ∧ t.rd BELFRY_TOK_STATE_EPOCH 0 n = (s.rd BELFRY_TOK_STATE_EPOCH 0 n + 1) % 2 ^ 16) ∧
      (holds s n owner = false → ∀ f ∈ [BELFRY_TOK_STATE_HELD, BELFRY_TOK_STATE_OWNER, BELFRY_TOK_STATE_BROKEN, BELFRY_TOK_STATE_EPOCH],
        t.rd f 0 n = s.rd f 0 n)) ∧
    (Accepts s req .belfry 0 0x100 (k + 2 ^ 8 * 1) 0x33F → s.on BELFRY_TOK_STATE_HELD 0 k = false → s.bel.waiters.get [] k = [] → ∃ t, exec (.lockCmdTry req k) s = .next t ∧
      AnsweredOk t ∧ holds t k 16 = true ∧ t.rd BELFRY_LOCK_RSP_RESULT % 256 = OK ∧
      t.rd BELFRY_TOK_STATE_BROKEN 0 k = s.rd BELFRY_TOK_STATE_BROKEN 0 k ∧ RegsBut [BELFRY_TOK_STATE_HELD.key 0 k, BELFRY_TOK_STATE_OWNER.key 0 k, BELFRY_TOK_STATE_BROKEN.key 0 k, BELFRY_LOCK_RSP_RESULT.key 0 0] s t ∧
      t = { s with regs := t.regs, bel := { s.bel with freed := t.bel.freed }, reply := t.reply }) ∧
    (Accepts s req .belfry 0 0x100 (k + 2 ^ 8 * 1) 0x33F → s.on BELFRY_TOK_STATE_HELD 0 k = true ∨ s.bel.waiters.get [] k ≠ [] → ∃ t, exec (.lockCmdTry req k) s = .next t ∧
      AnsweredOk t ∧ t.on BELFRY_TOK_STATE_HELD 0 k = s.on BELFRY_TOK_STATE_HELD 0 k ∧ t.rd BELFRY_TOK_STATE_OWNER 0 k = s.rd BELFRY_TOK_STATE_OWNER 0 k ∧ t.rd BELFRY_LOCK_RSP_RESULT % 256 = (if holds s k 16 then E_STATE else E_LOCKED) ∧
      t.rd BELFRY_TOK_STATE_BROKEN 0 k = s.rd BELFRY_TOK_STATE_BROKEN 0 k ∧ RegsBut [BELFRY_TOK_STATE_HELD.key 0 k, BELFRY_TOK_STATE_OWNER.key 0 k, BELFRY_TOK_STATE_BROKEN.key 0 k, BELFRY_LOCK_RSP_RESULT.key 0 0] s t ∧
      t = { s with regs := t.regs, bel := { s.bel with freed := t.bel.freed }, reply := t.reply }) ∧
    (Accepts s req .belfry 0 0x100 (k + 2 ^ 8 * 2) 0x33F → holds s k 16 = true → ∃ t, exec (.lockCmdRel req k) s = .next t ∧
      AnsweredOk t ∧ t.on BELFRY_TOK_STATE_HELD 0 k = false ∧ t.rd BELFRY_TOK_STATE_OWNER 0 k = 0 ∧ t.rd BELFRY_LOCK_RSP_RESULT % 256 = OK ∧
      t.rd BELFRY_TOK_STATE_BROKEN 0 k = s.rd BELFRY_TOK_STATE_BROKEN 0 k ∧ RegsBut [BELFRY_TOK_STATE_HELD.key 0 k, BELFRY_TOK_STATE_OWNER.key 0 k, BELFRY_TOK_STATE_BROKEN.key 0 k, BELFRY_LOCK_RSP_RESULT.key 0 0] s t ∧
      t = { s with regs := t.regs, bel := { s.bel with freed := t.bel.freed }, reply := t.reply }) ∧
    (Accepts s req .belfry 0 0x100 (k + 2 ^ 8 * 3) 0x33F → holds s k 16 = true → ∃ t, exec (.lockCmdClr req k) s = .next t ∧
      AnsweredOk t ∧ t.on BELFRY_TOK_STATE_BROKEN 0 k = false ∧ t.on BELFRY_TOK_STATE_HELD 0 k = s.on BELFRY_TOK_STATE_HELD 0 k ∧ t.rd BELFRY_TOK_STATE_OWNER 0 k = s.rd BELFRY_TOK_STATE_OWNER 0 k ∧ t.rd BELFRY_LOCK_RSP_RESULT % 256 = OK ∧ RegsBut [BELFRY_TOK_STATE_HELD.key 0 k, BELFRY_TOK_STATE_OWNER.key 0 k, BELFRY_TOK_STATE_BROKEN.key 0 k, BELFRY_LOCK_RSP_RESULT.key 0 0] s t ∧
      t = { s with regs := t.regs, bel := { s.bel with freed := t.bel.freed }, reply := t.reply }) ∧
    (Accepts s req .belfry 0 0x100 (k + 2 ^ 8 * 2) 0x33F → holds s k 16 = false → ∃ t, exec (.lockCmdRel req k) s = .next t ∧
      AnsweredOk t ∧ t.on BELFRY_TOK_STATE_HELD 0 k = s.on BELFRY_TOK_STATE_HELD 0 k ∧ t.rd BELFRY_TOK_STATE_OWNER 0 k = s.rd BELFRY_TOK_STATE_OWNER 0 k ∧ t.rd BELFRY_LOCK_RSP_RESULT % 256 = E_TOKEN ∧
      t.rd BELFRY_TOK_STATE_BROKEN 0 k = s.rd BELFRY_TOK_STATE_BROKEN 0 k ∧ RegsBut [BELFRY_TOK_STATE_HELD.key 0 k, BELFRY_TOK_STATE_OWNER.key 0 k, BELFRY_TOK_STATE_BROKEN.key 0 k, BELFRY_LOCK_RSP_RESULT.key 0 0] s t ∧
      t = { s with regs := t.regs, bel := { s.bel with freed := t.bel.freed }, reply := t.reply }) ∧
    (Accepts s req .belfry 0 0x100 (k + 2 ^ 8 * 3) 0x33F → holds s k 16 = false → ∃ t, exec (.lockCmdClr req k) s = .next t ∧
      AnsweredOk t ∧ t.on BELFRY_TOK_STATE_HELD 0 k = s.on BELFRY_TOK_STATE_HELD 0 k ∧ t.rd BELFRY_TOK_STATE_OWNER 0 k = s.rd BELFRY_TOK_STATE_OWNER 0 k ∧ t.rd BELFRY_LOCK_RSP_RESULT % 256 = E_TOKEN ∧
      t.rd BELFRY_TOK_STATE_BROKEN 0 k = s.rd BELFRY_TOK_STATE_BROKEN 0 k ∧ RegsBut [BELFRY_TOK_STATE_HELD.key 0 k, BELFRY_TOK_STATE_OWNER.key 0 k, BELFRY_TOK_STATE_BROKEN.key 0 k, BELFRY_LOCK_RSP_RESULT.key 0 0] s t ∧
      t = { s with regs := t.regs, bel := { s.bel with freed := t.bel.freed }, reply := t.reply })

/-- For every accepted push, where no discarded packet, scan or CA parity error disturbs the queue: the word, masked to its VALID
bytes, with START on the first after an END, becomes the last of the queue, every other word as before wherever it lies, and
an END's packet becomes poppable 2 clocks later. POP_TAG latches the oldest poppable word and returns its tag; POP_HI returns
its high half and takes it out; another requester than CONS gets E_STATE. ABORT leaves exactly the committed words, an END of
its own edge among the discarded; a flush, asked for or automatic, leaves every word and empties the tail at a packet
boundary; CLEAR empties the queue; a granule read back in sequence leaves every word, an uncorrectable one leaves the ring and
sets ECC. Other queues are as before. -/
def Obligations.SpillQueues : Prop :=
  ∀ (s : State) (req : Req) (k : Fin 32) (hi : BitVec 32) (w : QWord) (ws : List QWord) (e : Nat) (es : List Nat) (g : Gran) (gs : List Gran),
    (Accepts s req .queue k 0x038 hi.toNat 0xFFFFFFFF → Undisturbed s k → (s.queue k).aborted ≠ s.fab → ∃ t, exec (.queuePush req k hi) s = .next t ∧
      AnsweredOk t ∧ (∀ n, n ≠ k.val → t.queue n = s.queue n) ∧
      (let valid := (s.queue k).pushTag % 16
       let fin := bit (s.queue k).pushTag 4
       let v := ((s.queue k).pushLo % 2 ^ 32 + hi.toNat * 2 ^ 32) % 2 ^ (8 * min 8 valid)
       (t.queue k).all = (s.queue k).all ++ [⟨v, valid, fin, (s.queue k).openLen == 0⟩] ∧ (t.queue k).openLen = (if fin then 0 else (s.queue k).openLen + 1) ∧
       (t.queue k).visible = (s.queue k).visible ∧ (t.queue k).soon = (if fin then (s.queue k).soon ++ [s.fab + 2] else (s.queue k).soon))) ∧
    (Accepts s req .queue k 0x038 hi.toNat 0xFFFFFFFF → bit (s.queue k).pushTag 4 = true → (s.queue k).openLen = 0 → (s.queue k).aborted = s.fab → 0 < s.fab → ∃ t, exec (.queuePush req k hi) s = .next t ∧
      AnsweredOk t ∧ t = { s with regs := t.regs, reply := t.reply }) ∧
    (Reads s req .queue k 0x040 → reqCode req = some (s.rd QUEUE_CFG_CONS k) → poppable s k = some w → ∃ t, exec (.queuePopTag req k) s = .next t ∧
      t.reply = ⟨OK, w.valid % 16 + (if w.fin then 16 else 0) + (if w.start then 32 else 0) + 128, false⟩ ∧ (t.queue k).latched = some w ∧
      (t.queue k).all = (s.queue k).all ∧ (∀ n, n ≠ k.val → t.queue n = s.queue n) ∧ t = { s with queues := t.queues, reply := t.reply }) ∧
    (Reads s req .queue k 0x040 → reqCode req = some (s.rd QUEUE_CFG_CONS k) → poppable s k = none → ∃ t, exec (.queuePopTag req k) s = .next t ∧
      t.reply = ⟨OK, 0, false⟩ ∧ (t.queue k).latched = none ∧ (t.queue k).all = (s.queue k).all ∧ (∀ n, n ≠ k.val → t.queue n = s.queue n) ∧ t = { s with queues := t.queues, reply := t.reply }) ∧
    (Reads s req .queue k 0x048 → reqCode req = some (s.rd QUEUE_CFG_CONS k) → Undisturbed s k → (s.queue k).latched = some w → (s.queue k).head = w :: ws → ∃ t, exec (.queuePop req k) s = .next t ∧
      t.reply = ⟨OK, w.val / 2 ^ 32 % 2 ^ 32, false⟩ ∧ (s.queue k).all = w :: (t.queue k).all ∧ (t.queue k).latched = none ∧ (∀ n, n ≠ k.val → t.queue n = s.queue n) ∧
      (t.queue k).visible = (if w.fin then (s.queue k).visible - 1 else (s.queue k).visible)) ∧
    (Reads s req .queue k 0x048 → reqCode req = some (s.rd QUEUE_CFG_CONS k) → (s.queue k).latched = none → exec (.queuePop req k) s = .next (s.answer OK 0)) ∧
    (∀ i ∈ [Instr.queuePopTag req k, .queuePop req k], Reads s req .queue k 0x040 → reqCode req ≠ some (s.rd QUEUE_CFG_CONS k) →
      s.rd QUEUE_ERR_CODE k = 0 → ∃ t, exec i s = .next t ∧ t.reply = ⟨E_STATE, 0, false⟩ ∧ t.rd QUEUE_ERR_CODE k = E_STATE ∧ t.queues = s.queues) ∧
    (Accepts s req .queue k 0x000 8 8 → Undisturbed s k → ∃ t, exec (.queueAbort req k) s = .next t ∧
      AnsweredOk t ∧ (t.queue k).all = ((s.queue k).reopened s.fab).committed ∧ (t.queue k).openLen = 0 ∧ t.on QUEUE_STATUS_ABORTED k = true ∧ (∀ n, n ≠ k.val → t.queue n = s.queue n)) ∧
    (Accepts s req .queue k 0x000 2 2 → Undisturbed s k → (s.queue k).openLen = 0 → ((s.queue k).tail.length + 6) / 7 + (s.queue k).ring.length ≤ ringSize s k → ∃ t, exec (.queueFlush req k) s = .next t ∧
      AnsweredOk t ∧ (t.queue k).all = (s.queue k).all ∧ (t.queue k).tail = [] ∧ (t.queue k).flushReq = false ∧ (∀ n, n ≠ k.val → t.queue n = s.queue n)) ∧
    (Accepts s req .queue k 0x000 2 2 → Undisturbed s k → 0 < (s.queue k).openLen → ∃ t, exec (.queueFlush req k) s = .next t ∧
      AnsweredOk t ∧ (t.queue k).all = (s.queue k).all ∧ (t.queue k).flushReq = true ∧ (t.queue k).openLen = (s.queue k).openLen ∧ (∀ n, n ≠ k.val → t.queue n = s.queue n)) ∧
    (clocked s = true → (s.queue k).since = some e → s.rd QUEUE_CFG_FLUSH_TO k ≠ 0 → Undisturbed s k → (s.queue k).openLen = 0 → ((s.queue k).tail.length + 6) / 7 + (s.queue k).ring.length ≤ ringSize s k → ∃ t, exec (.queueAutoFlush k) s = .next t ∧
      t.fab = max s.fab (e + s.rd QUEUE_CFG_FLUSH_TO k * 16) ∧ (t.queue k).all = (s.queue k).all ∧ (t.queue k).tail = [] ∧ (∀ n, n ≠ k.val → t.queue n = s.queue n)) ∧
    (clocked s = true → (s.queue k).since = none ∨ s.rd QUEUE_CFG_FLUSH_TO k = 0 → exec (.queueAutoFlush k) s = .next s) ∧
    (Accepts s req .queue k 0x000 4 4 → ∃ t, exec (.queueClear req k) s = .next t ∧
      AnsweredOk t ∧ (t.queue k).all = [] ∧ (t.queue k).visible = 0 ∧ t.rd QUEUE_WORDS_COUNT k = 0 ∧ t.rd QUEUE_PACKETS_COUNT k = 0 ∧ (∀ n, n ≠ k.val → t.queue n = s.queue n) ∧ SameMemory s t) ∧
    (clocked s = true → (s.queue k).soon = e :: es → ∃ t, exec (.packetVisible k) s = .next t ∧
      t.fab = max s.fab e ∧ t.queue k = { (s.queue k) with soon := (s.queue k).soon.filter (t.fab < ·), visible := (s.queue k).visible + ((s.queue k).soon.filter (· ≤ t.fab)).length } ∧ (∀ n, n ≠ k.val → t.queue n = s.queue n)) ∧
    (clocked s = true → (s.queue k).soon = [] → exec (.packetVisible k) s = .next s) ∧
    (clocked s = true → (s.queue k).ring = g :: gs → (s.queue k).head.length + 7 ≤ 56 → Undisturbed s k → lineFixes s ((granAddr s k (s.queue k).ringAt) / 64) = some [] → chFail s ((granAddr s k (s.queue k).ringAt) / 64 * 64) = false → s.mem ((granAddr s k (s.queue k).ringAt) + 63) 1 = g.seq → granRead s (granAddr s k (s.queue k).ringAt) g.words.length = g.words → ∃ t, exec (.spillReadback k) s = .next t ∧
      (t.queue k).all = (s.queue k).all ∧ (∃ more, (t.queue k).head = (s.queue k).head ++ g.words ++ more) ∧ (∀ n, n ≠ k.val → t.queue n = s.queue n)) ∧
    (clocked s = true → (s.queue k).ring = g :: gs → (s.queue k).head.length + 7 ≤ 56 → Undisturbed s k → chFail s ((granAddr s k (s.queue k).ringAt) / 64 * 64) = false → lineFixes s ((granAddr s k (s.queue k).ringAt) / 64) = none → (s.mems.get {} ((granAddr s k (s.queue k).ringAt) / 4096 % 2)).passUe + 1 < s.rd MEMC_CFG_UE_LIMIT ((granAddr s k (s.queue k).ringAt) / 4096 % 2) → ∃ t, exec (.spillReadback k) s = .next t ∧
      t.on QUEUE_STATUS_ECC k = true ∧ (t.queue k).ringAt = (s.queue k).ringAt + 1 ∧ (∀ n, n ≠ k.val → t.queue n = s.queue n)) ∧
    (clocked s = true → (s.queue k).ring = [] ∨ 56 < (s.queue k).head.length + 7 → exec (.spillReadback k) s = .next s)

/-- For every converter with the FAB clock running: a trigger pulse not yet taken arms an idle enabled converter for the CONV edge
after DELAY, sets TRIG_LOST on a busy one, and only counts as taken on a disabled one; a software trigger does the same at
once. The run starts on its CONV edge with that edge's time. An entry completes within 4 FAB clocks of its last conversion
with the rounded sum of its codes, of the voltages at its input and gain with each conversion's own error, a free value (log
119), OVR on an extreme code, RUN and QUAL FRESH, in a running twin held for PEER_LAT + 2; the next entry follows, or the run
is done. ABORT and EN = 0 end a run: DISCARD, results not reached HELD once any entry has completed, values kept. A flag of
the comparison on its edge sets PLAUS and DIFF. -/
def Obligations.Converters : Prop :=
  ∀ (s : State) (req : Req) (k : Fin 4) (pair : Fin 2) (volts : List (Vector Int 9)) (e : Nat),
    (clocked s = true → (s.rd ADC_CFG_TRIG_SRC k) = 0 ∨ (s.sig.pulses.get 0 (s.rd ADC_CFG_TRIG_SRC k)) ≤ (s.adc k).taken → exec (.adcTrigger k) s = .next s) ∧
    (clocked s = true → (s.rd ADC_CFG_TRIG_SRC k) ≠ 0 → (s.adc k).taken < (s.sig.pulses.get 0 (s.rd ADC_CFG_TRIG_SRC k)) → s.on ADC_CTRL_EN k = false → exec (.adcTrigger k) s = .next (s.updAdc k (fun x => { x with taken := (s.sig.pulses.get 0 (s.rd ADC_CFG_TRIG_SRC k)) }))) ∧
    (clocked s = true → (s.rd ADC_CFG_TRIG_SRC k) ≠ 0 → (s.adc k).taken < (s.sig.pulses.get 0 (s.rd ADC_CFG_TRIG_SRC k)) → s.on ADC_CTRL_EN k = true → adcBusy s k = true → ∃ t, exec (.adcTrigger k) s = .next t ∧
      t.on ADC_STATUS_TRIG_LOST k = true ∧ t.adc k = { (s.adc k) with taken := (s.sig.pulses.get 0 (s.rd ADC_CFG_TRIG_SRC k)) } ∧ RegsBut [ADC_STATUS_TRIG_LOST.key k 0] s t) ∧
    (clocked s = true → (s.rd ADC_CFG_TRIG_SRC k) ≠ 0 → (s.adc k).taken < (s.sig.pulses.get 0 (s.rd ADC_CFG_TRIG_SRC k)) → s.on ADC_CTRL_EN k = true → adcBusy s k = false → ∃ t, exec (.adcTrigger k) s = .next t ∧
      t.adc k = { (s.adc k) with taken := (s.sig.pulses.get 0 (s.rd ADC_CFG_TRIG_SRC k)), pend := some (convEdge (8 * ((s.sig.pulses.get 0 (s.rd ADC_CFG_TRIG_SRC k)) - 1 + s.rd ADC_DELAY_DELAY k))) } ∧ t.on ADC_STATUS_BUSY k = true ∧ RegsBut [ADC_STATUS_BUSY.key k 0] s t) ∧
    (clocked s = true → (s.adc k).pend = some e → ∃ t, exec (.adcRunStart k) s = .next t ∧
      t.fab = max s.fab (ceilDiv e 8) ∧ t.adc k = { (s.adc k) with pend := none, entry := some 0, start8 := e } ∧
      t.rd ADC_TRIG_TIME_NS k = t.ns ∧ t.on ADC_STATUS_BUSY k = true) ∧
    (clocked s = true → (s.adc k).pend = none → exec (.adcRunStart k) s = .next s) ∧
    (clocked s = true → (s.adc k).entry = some e → e < 16 →
      let zs := (upTo (2 ^ s.rd ADC_SEQ_AVG k e)).map (fun j =>
        adcCode ((volts.getD j (Vector.replicate 9 0)).toList.getD (s.rd ADC_SEQ_INPUT k e) 0) (2 ^ s.rd ADC_SEQ_GAIN k e)
          (sx 16 (Config.freeNat (s.free + j) % 2 ^ 16)))
      let value := uz 24 (crnd (sumInt zs) (s.rd ADC_SEQ_SHIFT k e))
      let ovr := zs.any (fun z => z == -32768 || z == 32767)
      let last := s.rd ADC_CFG_LEN k ≤ e
      ∃ t, exec (.adcEntryComplete k volts) s = .next t ∧ t.fab = max s.fab (((s.adc k).start8 + adcEntry8 s k e) / 8 + 4) ∧
        (t.adc k).entry = (if last then none else some (e + 1)) ∧ (t.adc k).start8 = ((s.adc k).start8 + adcEntry8 s k e) ∧
        (last → t.on ADC_STATUS_DONE k = true ∧ t.rd ADC_RUNS_COUNT k = (s.rd ADC_RUNS_COUNT k + 1) % 2 ^ 32) ∧
        (¬ last → t.rd ADC_RUNS_COUNT k = s.rd ADC_RUNS_COUNT k) ∧
        (twinMeasures s = false → t.rd ADC_RESULT_VALUE k e = value ∧ t.on ADC_RESULT_OVR k e = ovr ∧ t.rd ADC_RESULT_QUAL k e = 1 ∧
          t.rd ADC_RESULT_RUN k e = s.rd ADC_RUNS_COUNT k % 32) ∧
        (twinMeasures s = true → t.rd ADC_RESULT_VALUE k e = s.rd ADC_RESULT_VALUE k e ∧
          t.sig.meas = s.sig.meas ++ [(t.fab + s.rd TWIN_LAT_PEER_LAT + 2, .adc k e value ovr (s.rd ADC_RUNS_COUNT k % 32))])) ∧
    (clocked s = true → (s.adc k).entry = none → exec (.adcEntryComplete k volts) s = .next s) ∧
    (clocked s = true → (s.adc (2 * pair)).flag = some (s.fab, e) → exec (.plausFlag pair) s = .next ((s.raise ADC_STATUS_PLAUS (2 * pair)).wr ADC_PLAUS_DIFF_DIFF e (2 * pair))) ∧
    (clocked s = true → (∀ p ∈ (s.adc (2 * pair)).flag, p.1 ≠ s.fab) → exec (.plausFlag pair) s = .next s) ∧
    (Accepts s req .adc k 0x000 2 2 → adcBusy s k = true → ∃ t, exec (.adcAbort req k) s = .next t ∧
      AnsweredOk t ∧ (t.adc k).pend = none ∧ (t.adc k).entry = none ∧ t.on ADC_STATUS_DISCARD k = true ∧ t.on ADC_STATUS_BUSY k = false ∧
      (∀ j : Fin 16, t.rd ADC_RESULT_VALUE k j = s.rd ADC_RESULT_VALUE k j ∧ t.rd ADC_RESULT_QUAL k j =
        if (s.adc k).entry.getD 0 ≤ j.val ∧ j.val ≤ s.rd ADC_CFG_LEN k ∧ adcSeen s k = true then 2 else s.rd ADC_RESULT_QUAL k j)) ∧
    (Accepts s req .adc k 0x000 2 2 → adcBusy s k = false → ∃ t, exec (.adcAbort req k) s = .next t ∧
      AnsweredOk t ∧ adcBusy t k = false ∧ RegsBut [] s t ∧ SameMemory s t) ∧
    (Accepts s req .adc k 0x000 0 1 → adcBusy s k = true → ∃ t, exec (.adcDisable req k) s = .next t ∧
      AnsweredOk t ∧ t.on ADC_CTRL_EN k = false ∧ (t.adc k).pend = none ∧ (t.adc k).entry = none ∧ t.on ADC_STATUS_DISCARD k = true ∧ t.on ADC_STATUS_BUSY k = false ∧
      (∀ j : Fin 16, t.rd ADC_RESULT_VALUE k j = s.rd ADC_RESULT_VALUE k j ∧ t.rd ADC_RESULT_QUAL k j =
        if (s.adc k).entry.getD 0 ≤ j.val ∧ j.val ≤ s.rd ADC_CFG_LEN k ∧ adcSeen s k = true then 2 else s.rd ADC_RESULT_QUAL k j)) ∧
    (Accepts s req .adc k 0x000 0 1 → adcBusy s k = false → ∃ t, exec (.adcDisable req k) s = .next t ∧
      AnsweredOk t ∧ t.on ADC_CTRL_EN k = false ∧ adcBusy t k = false ∧ RegsBut [ADC_CTRL_EN.key k 0] s t) ∧
    (Accepts s req .adc k 0x000 4 4 → s.on ADC_CTRL_EN k = true → adcBusy s k = true → ∃ t, exec (.adcSwtrig req k) s = .next t ∧
      AnsweredOk t ∧ t.on ADC_STATUS_TRIG_LOST k = true ∧ (t.adc k).pend = (s.adc k).pend ∧ (t.adc k).entry = (s.adc k).entry) ∧
    (Accepts s req .adc k 0x000 4 4 → s.on ADC_CTRL_EN k = true → adcBusy s k = false → ∃ t, exec (.adcSwtrig req k) s = .next t ∧
      AnsweredOk t ∧ (t.adc k).pend = some (convEdge (8 * (s.fab + s.rd ADC_DELAY_DELAY k))) ∧ (t.adc k).entry = none ∧ t.on ADC_STATUS_BUSY k = true ∧
      t.on ADC_STATUS_TRIG_LOST k = s.on ADC_STATUS_TRIG_LOST k)

/-- For every stream: of the octets of a frame on an enabled port, one addressed to it that breaks off or fails its check sequence
counts as PARTIAL, one that misses a condition as a MATCH error, one that steps back sets SEQ_ERR and changes no sample;
otherwise, standalone, it is accepted: FRAMES and GAP_CNT advance, the gap being the forward distance of SmpCnt, or while
STALE the samples that the time allows, and LAST, UNSYNC and the values held are those of its last ASDU. Values go STALE at m
≥ 2 and LOST at LOST_LIMIT, when ACTION drives the stream's virtual trip line; clearing LOST clears the line; other lines
stay. CLR_STATS clears the four counts alone. -/
def Obligations.SampledValues : Prop :=
  ∀ (s : State) (req : Req) (i : Fin 8) (port : Fin 4) (octets : List (BitVec 8)) (cut : Bool) (h : SvHeader) (asdus : List Asdu),
    let f := octets.map (·.toNat)
    (clocked s = true → s.on PORT_ETH_CFG_EN 0 port = false ∨ svHeader (if cut then f else f.take (f.length - 4)) = none →
      exec (.svFrameReceive port octets cut) s = .next s) ∧
    (clocked s = true → s.on PORT_ETH_CFG_EN 0 port = true → svHeader (if cut then f else f.take (f.length - 4)) = some h → (∀ j : Fin 8, svAddressed s j h = false) → exec (.svFrameReceive port octets cut) s = .next s) ∧
    (clocked s = true → s.on PORT_ETH_CFG_EN 0 port = true → svHeader (if cut then f else f.take (f.length - 4)) = some h → svAddressed s i h = true → (!cut && fcsOk f) = false → ∃ t, exec (.svFrameReceive port octets cut) s = .next t ∧ t.on SV_STATUS_PARTIAL i = true ∧
      t.rd SV_DROPS_PARTIAL_CNT i = (s.rd SV_DROPS_PARTIAL_CNT i + 1) % 2 ^ 16 ∧ t.sv i = (s.sv i) ∧ t.rd SV_FRAMES_COUNT i = s.rd SV_FRAMES_COUNT i) ∧
    (clocked s = true → s.on PORT_ETH_CFG_EN 0 port = true → svHeader (if cut then f else f.take (f.length - 4)) = some h → svAddressed s i h = true → (!cut && fcsOk f) = true → svAsdus s i port h = none → ∃ t, exec (.svFrameReceive port octets cut) s = .next t ∧ t.on SV_STATUS_MATCH_ERR i = true ∧
      t.rd SV_DROPS_MATCH_CNT i = (s.rd SV_DROPS_MATCH_CNT i + 1) % 2 ^ 16 ∧ t.sv i = (s.sv i) ∧ t.rd SV_FRAMES_COUNT i = s.rd SV_FRAMES_COUNT i) ∧
    (clocked s = true → s.on PORT_ETH_CFG_EN 0 port = true → svHeader (if cut then f else f.take (f.length - 4)) = some h → svAddressed s i h = true → (!cut && fcsOk f) = true → svAsdus s i port h = some asdus → twinMeasures s = false →
      let wrap := s.rd SV_WRAP_WRAP i
      let d := ((asdus.headD ⟨0, 0, []⟩).smpCnt % wrap + 2 * wrap - (s.rd SV_LAST_SMPCNT i + 1) % wrap) % wrap
      let gap := if s.on SV_STATUS_STALE i then svStaleGap s i else if s.on SV_LAST_VALID i then d else 0
      (s.on SV_STATUS_STALE i = true ∨ s.on SV_LAST_VALID i = false ∨ 2 * d < wrap → ∃ t, exec (.svFrameReceive port octets cut) s = .next t ∧
        t.rd SV_FRAMES_COUNT i = (s.rd SV_FRAMES_COUNT i + 1) % 2 ^ 32 ∧ t.rd SV_GAP_CNT_COUNT i = (s.rd SV_GAP_CNT_COUNT i + gap) % 2 ^ 32 ∧
        t.on SV_LAST_VALID i = true ∧ (t.sv i).now.last = s.ns ∧ (t.sv i).now.count = (s.sv i).now.count + 1 ∧
        (∀ x, asdus.getLast? = some x → (t.sv i).now.asdu = some x ∧ t.rd SV_LAST_SMPCNT i = x.smpCnt % wrap % 2 ^ 16 ∧
          t.on SV_STATUS_UNSYNC i = decide (x.smpSynch < s.rd SV_CFG_SYNC_REQ i))) ∧
      (s.on SV_STATUS_STALE i = false → s.on SV_LAST_VALID i = true → wrap ≤ 2 * d → ∃ t, exec (.svFrameReceive port octets cut) s = .next t ∧ t.on SV_STATUS_SEQ_ERR i = true ∧
        t.sv i = (s.sv i) ∧ t.rd SV_FRAMES_COUNT i = s.rd SV_FRAMES_COUNT i ∧ t.rd SV_LAST_SMPCNT i = s.rd SV_LAST_SMPCNT i)) ∧
    (clocked s = true → s.on SV_CTRL_EN i = true → 2 ≤ svGap s i s.tickNs → exec (.svStale i) s = .next ((s.raise SV_STATUS_STALE i).updSv i (fun x => { x with qual := if (svSeen s i).count = 0 then 0 else 2 }))) ∧
    (clocked s = true → s.on SV_CTRL_EN i = false ∨ svGap s i s.tickNs < 2 → exec (.svStale i) s = .next s) ∧
    (clocked s = true → s.on SV_CTRL_EN i = true → s.rd SV_CFG_LOST_LIMIT i ≤ svGap s i s.tickNs → ∃ t, exec (.svLost i) s = .next t ∧
      t.on SV_STATUS_LOST i = true ∧ bit (t.rd TRIP_LEVEL_SV) i = (s.on SV_CFG_ACTION i || bit (s.rd TRIP_LEVEL_SV) i) ∧
      (∀ j : Fin 8, j ≠ i → bit (t.rd TRIP_LEVEL_SV) j = bit (s.rd TRIP_LEVEL_SV) j)) ∧
    (clocked s = true → s.on SV_CTRL_EN i = false ∨ svGap s i s.tickNs < s.rd SV_CFG_LOST_LIMIT i → ∃ t, exec (.svLost i) s = .next t ∧
      t.on SV_STATUS_LOST i = s.on SV_STATUS_LOST i ∧ t.rd TRIP_LEVEL_SV = s.rd TRIP_LEVEL_SV) ∧
    (Accepts s req .sv i 0x030 2 2 → ∃ t, exec (.svLostClear req i) s = .next t ∧
      t.on SV_STATUS_LOST i = false ∧ bit (t.rd TRIP_LEVEL_SV) i = false ∧ (∀ j : Fin 8, j ≠ i → bit (t.rd TRIP_LEVEL_SV) j = bit (s.rd TRIP_LEVEL_SV) j)) ∧
    (Accepts s req .sv i 0x000 2 2 → ∃ t, exec (.svClrStats req i) s = .next t ∧
      AnsweredOk t ∧ (∀ f ∈ [SV_GAP_CNT_COUNT, SV_DROPS_PARTIAL_CNT, SV_DROPS_MATCH_CNT, SV_FRAMES_COUNT], t.rd f i = 0) ∧
      RegsBut [SV_GAP_CNT_COUNT.key i 0, SV_DROPS_PARTIAL_CNT.key i 0, SV_DROPS_MATCH_CNT.key i 0, SV_FRAMES_COUNT.key i 0] s t ∧
      t = { s with regs := t.regs, reply := t.reply })

/-- With the FAB clock running: a sample joins the engine's queue by arrival edge and channel, or sets OVF as a channel's fifth. A
job takes the head sample; outside a fade or restart its output is the FIR sum of the active bank, saturated and rounded,
ready after ceil(taps/16) + 6 clocks; at its end OUT, COUNT, QUAL, time and the threshold levels are updated. SWAP and PRESET
wait for the boundary; a timeout makes the output HELD; a coefficient is written alone unless its bank is in use or a swap
takes effect on the edge. A record closes with its interval's words or is dropped with 32 waiting; each is written at its
place, the last of a capture setting DONE; ARM, STOP and FORCE act as given. -/
def Obligations.FiltersAndOculus : Prop :=
  ∀ (s : State) (req : Req) (k : Fin 16) (b : Fin 2) (i : Fin 512) (n : Nat) (data : BitVec 32) (addr : BitVec 40) (x : Sample) (xs : List Sample)
    (q : List (Nat × Sample)) (j : FiltJob) (y : Int) (d : Strobe) (ds : List Strobe) (z : OcRec) (zs : List OcRec),
    (clocked s = true → (s.filt k).offers = [] → exec (.filtSampleArrival k) s = .next s) ∧
    (clocked s = true → (s.filt k).offers = x :: xs → s.on FILT_CTRL_EN k = true → (s.sig.eng.queue.filter (fun q => q.1 == k.val)).length < 4 → ∃ t, exec (.filtSampleArrival k) s = .next t ∧
      t.fab = max s.fab x.edge ∧ (t.filt k).offers = xs ∧ (t.filt k).lastEdge = x.edge ∧ (∃ l r, s.sig.eng.queue = l ++ r ∧ t.sig.eng.queue = l ++ (k.val, x) :: r ∧
        (∀ q ∈ l, q.2.edge < (x).edge ∨ (q.2.edge = (x).edge ∧ q.1 ≤ k.val)) ∧
        (∀ q, r.head? = some q → (x).edge < q.2.edge ∨ ((x).edge = q.2.edge ∧ k.val < q.1)))) ∧
    (clocked s = true → (s.filt k).offers = x :: xs → s.on FILT_CTRL_EN k = true → 4 ≤ (s.sig.eng.queue.filter (fun q => q.1 == k.val)).length → ∃ t, exec (.filtSampleArrival k) s = .next t ∧
      t.on FILT_STATUS_OVF k = true ∧ (t.filt k).offers = xs ∧ t.sig.eng = s.sig.eng) ∧
    (clocked s = true → (s.filt k).offers = x :: xs → s.on FILT_CTRL_EN k = false → ∃ t, exec (.filtSampleArrival k) s = .next t ∧
      (t.filt k).offers = xs ∧ t.sig.eng = s.sig.eng ∧ RegsBut [CAMPANILE_STATUS_SLEWING.key 0 0] s t) ∧
    (clocked s = true → s.sig.eng.queue = [] ∨ s.sig.eng.job ≠ none → exec .filtJobStart s = .next s) ∧
    (clocked s = true → s.sig.eng.job = none → s.sig.eng.queue = (n, x) :: q → (s.filt n).decim ≠ 0 → ∃ t, exec (.filtJobStart) s = .next t ∧
      t.fab = max s.fab (max x.edge s.sig.eng.freeEdge) ∧ t.sig.eng.queue = q ∧ (t.filt n).decim = (s.filt n).decim - 1 ∧
      t.sig.eng.job = some ⟨n, max x.edge s.sig.eng.freeEdge + 1, none, false, 0, 0, false⟩ ∧ RegsBut [CAMPANILE_STATUS_SLEWING.key 0 0] s t) ∧
    (clocked s = true → s.sig.eng.job = none → s.sig.eng.queue = (n, x) :: q → (s.filt n).decim = 0 → (s.filt n).fadeLen ≤ (s.filt n).fade → (s.filt n).swapEdge = none → (s.filt n).restart = none →
      (s.filt n).preset = none → x.gap = false →
      let taps := s.rd FILT_CFG_TAPS n + 1
      let line := (x.x :: (s.filt n).line).take taps
      let acc := satS 56 (firSum s n (s.rd FILT_STATUS_BANK n) 0 line)
      ∃ t j, exec .filtJobStart s = .next t ∧ t.sig.eng.queue = q ∧ t.sig.eng.job = some j ∧ (t.filt n).line = line ∧
        j.chan = n ∧ j.edge = max x.edge s.sig.eng.freeEdge + ceilDiv taps 16 + 6 ∧ j.time = x.time ∧
        j.out = some (satS 32 (crnd acc (s.rd FILT_OUTCFG_OSHIFT n))) ∧
        j.qual = (if (s.filt n).firstOut ∨ ((s.filt n).keepOld = true ∧ min taps ((s.filt n).since + 1) < taps) then 3 else 1) ∧
        (t.filt n).decim = s.rd FILT_CFG_DECIM n) ∧
    (clocked s = true → s.sig.eng.job = none → exec .filtJobEnd s = .next s) ∧
    (clocked s = true → s.sig.eng.job = some j → j.out = none → ∃ t, exec (.filtJobEnd) s = .next t ∧
      t.fab = max s.fab j.edge ∧ t.sig = { s.sig with eng := { s.sig.eng with job := none, freeEdge := j.edge } } ∧ RegsBut [CAMPANILE_STATUS_SLEWING.key 0 0] s t) ∧
    (clocked s = true → s.sig.eng.job = some j → j.out = some y → j.chan = k.val → ∃ t, exec (.filtJobEnd) s = .next t ∧
      t.fab = max s.fab j.edge ∧ t.sig.eng.job = none ∧ t.sig.eng.freeEdge = j.edge ∧ t.rd FILT_OUT_VALUE k = uz 32 y ∧
      t.rd FILT_OUTQ_QUAL k = j.qual % 4 ∧ t.rd FILT_OUTQ_COUNT k = (s.rd FILT_OUTQ_COUNT k + 1) % 2 ^ 16 ∧
      t.rd FILT_OUT_TIME_NS k = j.time % 2 ^ 64 ∧ t.on FILT_STATUS_OUT k = true ∧ t.on FILT_STATUS_HELD k = false ∧
      t.on FILT_STATUS_HI_LEVEL k = (decide (s.rdS FILT_TH_HI_TH k < y) ||
        (s.on FILT_STATUS_HI_LEVEL k && !decide (y < s.rdS FILT_TH_HI_TH k - (s.rd FILT_HYST_HYST k : Int)))) ∧
      t.on FILT_STATUS_LO_LEVEL k = (decide (y < s.rdS FILT_TH_LO_TH k) ||
        (s.on FILT_STATUS_LO_LEVEL k && !decide (s.rdS FILT_TH_LO_TH k + (s.rd FILT_HYST_HYST k : Int) < y)))) ∧
    (Accepts s req .filt k 0x000 2 2 → s.on FILT_CTRL_EN k = (s.filt k).on → ∃ t, exec (.filtSwap req k) s = .next t ∧
      AnsweredOk t ∧ t.on FILT_STATUS_PENDING k = true ∧ t.filt k = { (s.filt k) with swapEdge := some s.fab } ∧ RegsBut [FILT_STATUS_PENDING.key k 0] s t) ∧
    (Accepts s req .filt k 0x000 4 4 → s.on FILT_CTRL_EN k = (s.filt k).on → ∃ t, exec (.filtPreset req k) s = .next t ∧
      AnsweredOk t ∧ t.filt k = { (s.filt k) with preset := some s.fab } ∧ RegsBut [] s t) ∧
    (Accepts s req .filt k 0x034 data.toNat 0xFFFFFFFF → (s.sig.eng.queue.filter (fun q => q.1 == k.val)).length < 4 → ∃ t, exec (.filtInWrite req k data) s = .next t ∧
      AnsweredOk t ∧ (t.filt k).lastEdge = s.fab ∧ (∃ l r, s.sig.eng.queue = l ++ r ∧ t.sig.eng.queue = l ++ (k.val, (⟨s.fab, s.ns, sx 24 data.toNat, false⟩ : Sample)) :: r ∧
        (∀ q ∈ l, q.2.edge < ((⟨s.fab, s.ns, sx 24 data.toNat, false⟩ : Sample)).edge ∨ (q.2.edge = ((⟨s.fab, s.ns, sx 24 data.toNat, false⟩ : Sample)).edge ∧ q.1 ≤ k.val)) ∧
        (∀ q, r.head? = some q → ((⟨s.fab, s.ns, sx 24 data.toNat, false⟩ : Sample)).edge < q.2.edge ∨ (((⟨s.fab, s.ns, sx 24 data.toNat, false⟩ : Sample)).edge = q.2.edge ∧ k.val < q.1)))) ∧
    (Accepts s req .filt k 0x034 data.toNat 0xFFFFFFFF → 4 ≤ (s.sig.eng.queue.filter (fun q => q.1 == k.val)).length → ∃ t, exec (.filtInWrite req k data) s = .next t ∧
      AnsweredOk t ∧ t.on FILT_STATUS_OVF k = true ∧ t.sig.eng = s.sig.eng) ∧
    (clocked s = true → (s.on FILT_CTRL_EN k = false ∨ (s.filt k).timeout = 0 ∨ s.rd FILT_OUTQ_QUAL k = 0 ∨ s.rd FILT_OUTQ_QUAL k = 2 ∨
      ∃ x ∈ (s.filt k).offers, x.edge < (s.filt k).lastEdge + (s.filt k).timeout * 256) → exec (.filtTimeout k) s = .next s) ∧
    (clocked s = true → ¬ (s.on FILT_CTRL_EN k = false ∨ (s.filt k).timeout = 0 ∨ s.rd FILT_OUTQ_QUAL k = 0 ∨ s.rd FILT_OUTQ_QUAL k = 2 ∨
      ∃ x ∈ (s.filt k).offers, x.edge < (s.filt k).lastEdge + (s.filt k).timeout * 256) → ∃ t, exec (.filtTimeout k) s = .next t ∧
      t.fab = max s.fab ((s.filt k).lastEdge + (s.filt k).timeout * 256) ∧ t.rd FILT_OUTQ_QUAL k = 2 ∧ t.on FILT_STATUS_HELD k = true ∧ t.rd FILT_OUT_VALUE k = s.rd FILT_OUT_VALUE k ∧
      t.filt k = { (s.filt k) with restart := some t.fab }) ∧
    (inCoef addr.toNat = false ∨ addr.toNat % 4 ≠ 0 → exec (.coefficientWrite req addr data) s = .next s) ∧
    (clocked s = true → powered s (.coef (BitVec.ofNat 40 (0x20180000 + 0x1000 * k.val + 0x800 * b.val + 4 * i.val)).toNat) = true → openTo s req (BitVec.ofNat 40 (0x20180000 + 0x1000 * k.val + 0x800 * b.val + 4 * i.val)).toNat = true → coefBusy s k b = false → (s.on FILT_CTRL_EN k && swapsNow s k) = false → ∃ t, exec (.coefficientWrite req (BitVec.ofNat 40 (0x20180000 + 0x1000 * k.val + 0x800 * b.val + 4 * i.val)) data) s = .next t ∧
      AnsweredOk t ∧ coefAt t k b i = sx 24 (data.toNat % 2 ^ 24) ∧ (∀ (k' : Fin 16) (b' : Fin 2) (i' : Fin 512),
        k' ≠ k ∨ b' ≠ b ∨ i' ≠ i → coefAt t k' b' i' = coefAt s k' b' i') ∧ t.regs = s.regs) ∧
    (clocked s = true → powered s (.coef (BitVec.ofNat 40 (0x20180000 + 0x1000 * k.val + 0x800 * b.val + 4 * i.val)).toNat) = true → openTo s req (BitVec.ofNat 40 (0x20180000 + 0x1000 * k.val + 0x800 * b.val + 4 * i.val)).toNat = true → coefBusy s k b = true ∨ (s.on FILT_CTRL_EN k && swapsNow s k) = true → ∃ t, exec (.coefficientWrite req (BitVec.ofNat 40 (0x20180000 + 0x1000 * k.val + 0x800 * b.val + 4 * i.val)) data) s = .next t ∧
      t.reply = ⟨E_BUSY, 0, false⟩ ∧ t.sig = s.sig) ∧
    (clocked s = true → s.sig.oc.due = [] ∨ s.sig.oc.closing = true → exec .oculusStrobe s = .next s) ∧
    (clocked s = true → s.sig.oc.due = d :: ds → s.sig.oc.closing = false → exec (.oculusStrobe) s = .next ({ s with sig := { s.sig with oc := { s.sig.oc with due := ds, interval := s.sig.oc.interval ++ [d], closing := decide (2 ^ s.rd OCULUS_STROBE_IAVG ≤ s.sig.oc.interval.length + 1) } } })) ∧
    (clocked s = true → s.sig.oc.closing = false → exec .oculusRecordClose s = .next s) ∧
    (clocked s = true → s.sig.oc.closing = true → 32 ≤ s.sig.oc.fifo.length → ∃ t, exec (.oculusRecordClose) s = .next t ∧
      t.on OCULUS_STATUS_DROP = true ∧ t.rd OCULUS_DROP_CNT_COUNT = (s.rd OCULUS_DROP_CNT_COUNT + 1) % 2 ^ 32 ∧
      t.rd OCULUS_WR_IDX_IDX = (s.rd OCULUS_WR_IDX_IDX + 1) % 2 ^ 32 ∧ t.sig.oc.fifo = s.sig.oc.fifo ∧ t.sig.oc.gap = true ∧ t.sig.oc.interval = [] ∧
      t.sig.oc.closing = false ∧ t.on OCULUS_STATUS_RUNNING = (s.on OCULUS_STATUS_RUNNING && !s.sig.oc.stop)) ∧
    (clocked s = true → s.sig.oc.closing = true → s.sig.oc.fifo.length < 32 → ∃ t, exec (.oculusRecordClose) s = .next t ∧
      (∃ r, t.sig.oc.fifo = s.sig.oc.fifo ++ [r] ∧ r.seq = s.rd OCULUS_WR_IDX_IDX ∧ r.state = s.rd OCULUS_STATUS_STATE ∧
        r.words = (upTo 12).map (probeWord s s.sig.oc.interval) ∧ (∀ w, s.sig.oc.interval.getLast? = some w → r.time = w.time)) ∧
      t.rd OCULUS_WR_IDX_IDX = (s.rd OCULUS_WR_IDX_IDX + 1) % 2 ^ 32 ∧ t.rd OCULUS_DROP_CNT_COUNT = s.rd OCULUS_DROP_CNT_COUNT ∧
      t.sig.oc.interval = [] ∧ t.sig.oc.closing = false ∧ t.on OCULUS_STATUS_RUNNING = (s.on OCULUS_STATUS_RUNNING && !s.sig.oc.stop)) ∧
    (clocked s = true → s.sig.oc.fifo = [] → exec .oculusRecordWrite s = .next s) ∧
    (clocked s = true → s.sig.oc.fifo = z :: zs → chFail s (64 * s.rd OCULUS_BUF_BASE_ADDR + 64 * (z.seq % 2 ^ s.rd OCULUS_BUF_LOG2)) = false → chOff s (64 * s.rd OCULUS_BUF_BASE_ADDR + 64 * (z.seq % 2 ^ s.rd OCULUS_BUF_LOG2)) = false → 0x800000000 ≤ (64 * s.rd OCULUS_BUF_BASE_ADDR + 64 * (z.seq % 2 ^ s.rd OCULUS_BUF_LOG2)) → (64 * s.rd OCULUS_BUF_BASE_ADDR + 64 * (z.seq % 2 ^ s.rd OCULUS_BUF_LOG2)) < 0x1000000000 → z.words.length = 12 → s.on SCAN_STATUS_BUSY = false → (∀ c : Nat, (s.mems.get {} c).caErrs < 2) → Memory.wf s.bytes = true → ∃ t, exec (.oculusRecordWrite) s = .next t ∧
      (∀ m v, z.bytes[m]? = some v → memGet t.bytes ((64 * s.rd OCULUS_BUF_BASE_ADDR + 64 * (z.seq % 2 ^ s.rd OCULUS_BUF_LOG2)) + m) = BitVec.ofNat 8 v) ∧
      ((s.sig.oc.trig = none ∨ s.on OCULUS_STATUS_RUNNING = false ∨ ∃ g, s.sig.oc.trig = some g ∧ z.seq < g + s.rd OCULUS_POST_RECORDS) → t.sig.oc = { s.sig.oc with fifo := zs } ∧ t.regs = s.regs) ∧
      (∀ g, s.sig.oc.trig = some g → g + s.rd OCULUS_POST_RECORDS ≤ z.seq → s.on OCULUS_STATUS_RUNNING = true → s.on OCULUS_CTRL_REPEAT = false →
        t.on OCULUS_STATUS_DONE = true ∧ t.on OCULUS_STATUS_RUNNING = false ∧
        t.rd OCULUS_STATUS_CAPTURES = (s.rd OCULUS_STATUS_CAPTURES + 1) % 2 ^ 16)) ∧
    (Accepts s req .oculus 0 0x000 1 1 → ∃ t, exec (.oculusArm req) s = .next t ∧
      AnsweredOk t ∧ t.on OCULUS_STATUS_RUNNING = true ∧ t.on OCULUS_STATUS_TRIGGERED = false ∧ t.rd OCULUS_WR_IDX_IDX = 0 ∧
      t.rd OCULUS_STATUS_STATE = 0 ∧ t.sig = { s.sig with oc := { snap := s.sig.oc.snap, snapWas := s.sig.oc.snapWas, snapEdge := s.sig.oc.snapEdge } }) ∧
    (Accepts s req .oculus 0 0x000 2 2 → s.on OCULUS_STATUS_RUNNING = true → exec (.oculusStop req) s = .next ({ s.answer OK 0 with sig := { s.sig with oc := { s.sig.oc with stop := true } } })) ∧
    (Accepts s req .oculus 0 0x000 4 4 → s.on OCULUS_STATUS_RUNNING = true → exec (.oculusForce req) s = .next ({ s.answer OK 0 with sig := { s.sig with oc := { s.sig.oc with forced := true } } })) ∧
    (Accepts s req .oculus 0 0x000 2 2 → s.on OCULUS_STATUS_RUNNING = false → exec (.oculusStop req) s = .next (s.answer OK 0)) ∧
    (Accepts s req .oculus 0 0x000 4 4 → s.on OCULUS_STATUS_RUNNING = false → exec (.oculusForce req) s = .next (s.answer OK 0))

/-- For every pair with the FAB clock running: a carrier change turns off at its edge what is no longer commanded and starts the
dead time of what is, latching SHOOT for both; a waiting switch turns on at its edge when its feedback confirms in time, and
otherwise INTLK_TO turns both off with INTLK; both feedbacks deasserted for four edges or both commands latch SHOOT and turn
both off. A reload loads exactly the staged fields written before its edge, none with LOAD = 2 and no GLOAD. A refresh turns A
off after HS_MAX and ends after RFSH_LEN; the trigger pulses on its edge. Clears clear their latch alone, outputs staying off
until a reload after TRIP; FORCE turns nothing on at once. Other pairs are as before. -/
def Obligations.PwmPairs : Prop :=
  ∀ (s : State) (req : Req) (n : Fin 12) (gfb : BitVec 2) (since c : Nat) (p : TurnOn) (data : BitVec 32) (mask : BitVec 12),
    (clocked s = true → s.on PWM_CTRL_EN n = false → exec (.pwmReload n) s = .next s ∧ exec (.pwmCarrierChange n) s = .next s) ∧
    (clocked s = true → s.on PWM_CTRL_EN n = true → nextChange s n = none → (s.staged.map Prod.fst).Nodup → ∃ t, exec (.pwmReload n) s = .next t ∧
      t.fab = max s.fab (nextReload s n) ∧ t.on PWM_STATUS_RELOAD n = true ∧ (t.pwm n).reload = some (nextReload s n) ∧ (t.pwm n).cur = (nextReload s n) ∧
      ((t.pwm n).onA = true → (s.pwm n).onA = true) ∧ ((t.pwm n).onB = true → (s.pwm n).onB = true) ∧
      (findKey s.staged (PWM_STATUS_TRIP.key n 0) = none → (t.pwm n).wait = s.on PWM_STATUS_TRIP n) ∧
      (∀ f ∈ [PWM_PERIOD_PERIOD, PWM_CMP_CMP, PWM_DEAD_DT_RISE, PWM_DEAD_DT_FALL, PWM_TRIG_CNT, PWM_TRIG_DIR, PWM_TRIG_EN], ∀ g, findKey s.staged (f.key n 0) = some g → g.cls = .reload → g.inst = n →
        (g.edge < (nextReload s n) → s.rd PWM_CTRL_LOAD n ≠ 2 → t.rd f n = g.val) ∧ ((nextReload s n) ≤ g.edge → (∀ w ∈ g.older, (nextReload s n) ≤ w.1) → t.rd f n = s.rd f n)) ∧
      (s.rd PWM_CTRL_LOAD n = 2 → (s.pwm n).gload = none → ∀ f ∈ [PWM_PERIOD_PERIOD, PWM_CMP_CMP, PWM_DEAD_DT_RISE, PWM_DEAD_DT_FALL, PWM_TRIG_CNT, PWM_TRIG_DIR, PWM_TRIG_EN], t.rd f n = s.rd f n)) ∧
    (clocked s = true → s.on PWM_CTRL_EN n = true → nextChange s n = some c → c ≤ nextReload s n → ∃ t, exec (.pwmCarrierChange n) s = .next t ∧
      t.fab = max s.fab c ∧ (t.pwm n).cur = c ∧ (∀ m, m ≠ n.val → t.pwm m = s.pwm m) ∧ t.on PWM_STATUS_SHOOT n = (s.on PWM_STATUS_SHOOT n || ((pwmWants s n c).1 && (pwmWants s n c).2)) ∧
      (t.pwm n).onA = ((s.pwm n).onA && (pwmWants s n c).1 && !(pwmWants s n c).2) ∧ (t.pwm n).onB = ((s.pwm n).onB && (pwmWants s n c).2 && !(pwmWants s n c).1) ∧
      ((pwmWants s n c) = (true, false) → (s.pwm n).onA = false → (s.pwm n).pend = none → (t.pwm n).pend = some ⟨false, c, c + s.rd PWM_DEAD_DT_RISE n⟩) ∧
      ((pwmWants s n c) = (false, true) → (s.pwm n).onB = false → (s.pwm n).pend = none → (t.pwm n).pend = some ⟨true, c, c + s.rd PWM_DEAD_DT_FALL n⟩) ∧
      ((pwmWants s n c).1 = (pwmWants s n c).2 → (t.pwm n).pend = none)) ∧
    (clocked s = true → nextChange s n = none ∨ (∃ c ∈ nextChange s n, nextReload s n < c) → exec (.pwmCarrierChange n) s = .next s) ∧
    (clocked s = true → (s.pwm n).pend = some p → (bit gfb.toNat (if s.on PWM_CTRL_SINGLE n || p.isB then 0 else 1) = true ∧ (s.on PWM_CTRL_SINGLE n = true ∨ (turnOnEdge s n since p) ≤ (p.off + s.rd PWM_INTLK_TO_TO n)) ∧ (∀ c ∈ nextChange s n, (turnOnEdge s n since p) < c) ∧ (turnOnEdge s n since p) < nextReload s n) → ∃ t, exec (.pwmTurnOn n gfb since) s = .next t ∧
      t.fab = max s.fab (turnOnEdge s n since p) ∧ (t.pwm n).onA = ((s.pwm n).onA || !p.isB) ∧ (t.pwm n).onB = ((s.pwm n).onB || p.isB) ∧ (t.pwm n).pend = none ∧
      t.rd PWM_STATUS_OUT n = b2n (t.pwm n).onA + 2 * b2n (t.pwm n).onB ∧ t.rd PWM_STATUS_GFB n = gfb.toNat ∧ (∀ m, m ≠ n.val → t.pwm m = s.pwm m)) ∧
    (clocked s = true → (s.pwm n).pend = some p → ¬ (bit gfb.toNat (if s.on PWM_CTRL_SINGLE n || p.isB then 0 else 1) = true ∧ (s.on PWM_CTRL_SINGLE n = true ∨ (turnOnEdge s n since p) ≤ (p.off + s.rd PWM_INTLK_TO_TO n)) ∧ (∀ c ∈ nextChange s n, (turnOnEdge s n since p) < c) ∧ (turnOnEdge s n since p) < nextReload s n) → exec (.pwmTurnOn n gfb since) s = .next (s.wr PWM_STATUS_GFB gfb.toNat n)) ∧
    (clocked s = true → (s.pwm n).pend = none → exec (.pwmTurnOn n gfb since) s = .next (s.wr PWM_STATUS_GFB gfb.toNat n) ∧ exec (.pwmInterlockTimeout n gfb since) s = .next (s.wr PWM_STATUS_GFB gfb.toNat n)) ∧
    (clocked s = true → (s.pwm n).pend = some p → (s.on PWM_CTRL_SINGLE n = false ∧ ¬ (bit gfb.toNat (if p.isB then 0 else 1) = true ∧ (turnOnEdge s n since p) ≤ (p.off + s.rd PWM_INTLK_TO_TO n)) ∧ (∀ c ∈ nextChange s n, (p.off + s.rd PWM_INTLK_TO_TO n) < c) ∧ (p.off + s.rd PWM_INTLK_TO_TO n) < nextReload s n) → ∃ t, exec (.pwmInterlockTimeout n gfb since) s = .next t ∧
      t.fab = max s.fab (p.off + s.rd PWM_INTLK_TO_TO n) ∧ t.on PWM_STATUS_INTLK n = true ∧ (t.pwm n).onA = false ∧ (t.pwm n).onB = false ∧ (t.pwm n).pend = none ∧ (∀ m, m ≠ n.val → t.pwm m = s.pwm m)) ∧
    (clocked s = true → (s.pwm n).pend = some p → ¬ (s.on PWM_CTRL_SINGLE n = false ∧ ¬ (bit gfb.toNat (if p.isB then 0 else 1) = true ∧ (turnOnEdge s n since p) ≤ (p.off + s.rd PWM_INTLK_TO_TO n)) ∧ (∀ c ∈ nextChange s n, (p.off + s.rd PWM_INTLK_TO_TO n) < c) ∧ (p.off + s.rd PWM_INTLK_TO_TO n) < nextReload s n) → exec (.pwmInterlockTimeout n gfb since) s = .next (s.wr PWM_STATUS_GFB gfb.toNat n)) ∧
    (clocked s = true → (((pwmWants s n s.fab).1 = true ∧ (pwmWants s n s.fab).2 = true) ∨ (gfb = 0 ∧ 4 ≤ since ∧ (s.pwm n).started + 3 ≤ s.fab ∧ s.on PWM_CTRL_EN n = true ∧ s.on PWM_CTRL_SINGLE n = false)) → ∃ t, exec (.pwmShoot n gfb since) s = .next t ∧
      t.on PWM_STATUS_SHOOT n = true ∧ (t.pwm n).onA = false ∧ (t.pwm n).onB = false ∧ (t.pwm n).pend = none ∧ t.fab = s.fab ∧ (∀ m, m ≠ n.val → t.pwm m = s.pwm m)) ∧
    (clocked s = true → ¬ (((pwmWants s n s.fab).1 = true ∧ (pwmWants s n s.fab).2 = true) ∨ (gfb = 0 ∧ 4 ≤ since ∧ (s.pwm n).started + 3 ≤ s.fab ∧ s.on PWM_CTRL_EN n = true ∧ s.on PWM_CTRL_SINGLE n = false)) → exec (.pwmShoot n gfb since) s = .next (s.wr PWM_STATUS_GFB gfb.toNat n)) ∧
    (clocked s = true → s.on PWM_STATUS_CP n = false → (s.pwm n).onA = true → ((∀ c ∈ nextChange s n, ((s.pwm n).aOn + s.rd PWM_REFRESH_HS_MAX n) < c) ∧ ((s.pwm n).aOn + s.rd PWM_REFRESH_HS_MAX n) < nextReload s n) → ∃ t, exec (.pwmRefreshStart n) s = .next t ∧
      t.fab = max s.fab ((s.pwm n).aOn + s.rd PWM_REFRESH_HS_MAX n) ∧ t.on PWM_STATUS_REFRESH n = true ∧ (t.pwm n).refresh = true ∧ (t.pwm n).onA = false ∧
      (t.pwm n).rfshEnd = ((s.pwm n).aOn + s.rd PWM_REFRESH_HS_MAX n) + s.rd PWM_REFRESH_RFSH_LEN n ∧ (∀ m, m ≠ n.val → t.pwm m = s.pwm m)) ∧
    (clocked s = true → s.on PWM_STATUS_CP n = true ∨ (s.pwm n).onA = false ∨ ¬ ((∀ c ∈ nextChange s n, ((s.pwm n).aOn + s.rd PWM_REFRESH_HS_MAX n) < c) ∧ ((s.pwm n).aOn + s.rd PWM_REFRESH_HS_MAX n) < nextReload s n) → exec (.pwmRefreshStart n) s = .next s) ∧
    (clocked s = true → (s.pwm n).refresh = true → (s.pwm n).onB = true ∨ s.on PWM_CTRL_SINGLE n = true ∨ s.rd PWM_FORCE_FORCE_B n = 1 → ∃ t, exec (.pwmRefreshEnd n) s = .next t ∧
      t.fab = max s.fab (s.pwm n).rfshEnd ∧ (t.pwm n).refresh = false ∧ ((t.pwm n).onA = true → (s.pwm n).onA = true) ∧ (∀ m, m ≠ n.val → t.pwm m = s.pwm m)) ∧
    (clocked s = true → (s.pwm n).refresh = false ∨ ((s.pwm n).onB = false ∧ s.on PWM_CTRL_SINGLE n = false ∧ s.rd PWM_FORCE_FORCE_B n ≠ 1) → exec (.pwmRefreshEnd n) s = .next s) ∧
    (clocked s = true → nextTrigger s n = some c → s.on PWM_TRIG_EN n = true → s.on PWM_CTRL_EN n = true → ∃ t, exec (.pwmTriggerPulse n) s = .next t ∧
      t.fab = max s.fab c ∧ t.sig = { s.sig with pulses := s.sig.pulses.set (17 + n) (c + 1) } ∧ RegsBut [CAMPANILE_STATUS_SLEWING.key 0 0] s t) ∧
    (clocked s = true → nextTrigger s n = none ∨ s.on PWM_TRIG_EN n = false ∨ s.on PWM_CTRL_EN n = false → exec (.pwmTriggerPulse n) s = .next s) ∧
    (Accepts s req .pwm n 0x024 1 1 → ∃ t, exec (.pwmTripClear req n) s = .next t ∧
      AnsweredOk t ∧ t.on PWM_STATUS_TRIP n = false ∧ ((s.pwm n).wait = true → (t.pwm n).onA = false ∧ (t.pwm n).onB = false ∧ (t.pwm n).pend = none) ∧ (∀ m, m ≠ n.val → t.pwm m = s.pwm m) ∧
      RegsBut [PWM_STATUS_TRIP.key n 0, PWM_STATUS_SHOOT.key n 0, PWM_STATUS_OUT.key n 0] s t) ∧
    (Accepts s req .pwm n 0x024 2 2 → ∃ t, exec (.pwmShootClear req n) s = .next t ∧
      AnsweredOk t ∧ t.on PWM_STATUS_SHOOT n = false ∧ (∀ m, m ≠ n.val → t.pwm m = s.pwm m) ∧ RegsBut [PWM_STATUS_SHOOT.key n 0, PWM_STATUS_OUT.key n 0] s t) ∧
    (Accepts s req .pwm n 0x024 4 4 → ∃ t, exec (.pwmIntlkClear req n) s = .next t ∧
      AnsweredOk t ∧ t.on PWM_STATUS_INTLK n = false ∧ (∀ m, m ≠ n.val → t.pwm m = s.pwm m) ∧ RegsBut [PWM_STATUS_INTLK.key n 0, PWM_STATUS_SHOOT.key n 0, PWM_STATUS_OUT.key n 0] s t) ∧
    (Accepts s req .pwm n 0x020 data.toNat 0xFFFFFFFF → ∃ t, exec (.pwmForce req n data) s = .next t ∧
      AnsweredOk t ∧ t.rd PWM_FORCE_FORCE_A n = data.toNat % 4 ∧ t.rd PWM_FORCE_FORCE_B n = data.toNat / 4 % 4 ∧ (∀ m, m ≠ n.val → t.pwm m = s.pwm m) ∧
      RegsBut [PWM_FORCE_FORCE_A.key n 0, PWM_FORCE_FORCE_B.key n 0, PWM_STATUS_SHOOT.key n 0, PWM_STATUS_OUT.key n 0] s t ∧
      (let w := pwmWants t n s.fab
       ((t.pwm n).onA = true → (s.pwm n).onA = true ∧ w.1 = true) ∧ ((t.pwm n).onB = true → (s.pwm n).onB = true ∧ w.2 = true))) ∧
    (Accepts s req .trip 0 0x004 mask.toNat 0xFFF → ∃ t, exec (.pwmGload req mask) s = .next t ∧
      AnsweredOk t ∧ ∀ m : Fin 12,
      (bit mask.toNat m = true → t.pwm m = { s.pwm m with gload := some s.fab } ∧
        t.on PWM_STATUS_LATE_UPDATE m = (s.on PWM_STATUS_LATE_UPDATE m || (s.pwm m).reload == some s.fab)) ∧
      (bit mask.toNat m = false → t.pwm m = s.pwm m))

/-- With the FAB clock running: exactly the pins given whose filter is satisfied, blanking included, assert or deassert their
level. Then every pair mapped to an asserted source has TRIP latched, one newly latched with both outputs off until a reload,
and a pair mapped to none keeps its outputs; an arm whose request rises is block-latched; the sources that rose set TRIPPED
and, the first of their edge, are one record of the log, or EVT_LOST with 16 waiting. Reading TEVT0 latches the oldest record,
reading TEVT3 removes it. The head driver request starts its 80-cycle transaction while the bus is enabled and free. -/
def Obligations.TripInputs : Prop :=
  ∀ (s : State) (req : Req) (mask levels : BitVec 16) (since : Nat) (r : TripRec) (d : DrvReq) (ds : List DrvReq),
    (clocked s = true → ∃ t, exec (.tripFilterAssert mask levels since) s = .next t ∧
      (∀ i : Fin 16, bit (t.rd TRIP_LEVEL_TRIP) i =
        (bit (s.rd TRIP_LEVEL_TRIP) i || (bit mask.toNat i && tripAsserts s i (bit levels.toNat i) (s.fab - since)))) ∧
      (∀ n : Fin 12, (bit (tripPairs t) n = true ∨ s.on PWM_STATUS_TRIP n = true → t.on PWM_STATUS_TRIP n = true) ∧
        (bit (tripPairs t) n = true → s.on PWM_STATUS_TRIP n = false → (t.pwm n).onA = false ∧ (t.pwm n).onB = false ∧ (t.pwm n).wait = true) ∧
        (bit (tripPairs t) n = false → t.pwm n = s.pwm n)) ∧
      (∀ k : Fin 8, bit (tripArms t) k = true → bit (s.rd SYS_GCS_BLOCK_ARM_REQ) k = false → bit (t.rd SYS_GCS_BLOCK_ARM) k = true) ∧
      t.rd SYS_GCS_BLOCK_ARM_REQ = tripArms t % 2 ^ 8 ∧ t.sig.trip.prev = tripSources t ∧ t.fab = s.fab ∧
      (let rose := ∃ j : Fin 40, bit (tripSources t) j = true ∧ bit s.sig.trip.prev j = false
       (¬ rose → t.sig.trip.log = s.sig.trip.log) ∧
       (rose → t.on TRIP_TSTATUS_TRIPPED = true) ∧
       (rose → s.sig.trip.riseEdge ≠ s.fab ∨ s.sig.trip.riseSrc = 0 → (16 ≤ s.sig.trip.log.length → t.on TRIP_TSTATUS_EVT_LOST = true ∧ t.sig.trip.log = s.sig.trip.log) ∧
         (s.sig.trip.log.length < 16 → ∃ r, t.sig.trip.log = s.sig.trip.log ++ [r] ∧
           ∀ j : Fin 40, bit r.src j = (bit (tripSources t) j && !bit s.sig.trip.prev j))))) ∧
    (clocked s = true → ∃ t, exec (.tripFilterDeassert mask levels since) s = .next t ∧
      (∀ i : Fin 16, bit (t.rd TRIP_LEVEL_TRIP) i =
        (bit (s.rd TRIP_LEVEL_TRIP) i && !(bit mask.toNat i && tripDeasserts s i (bit levels.toNat i) (s.fab - since)))) ∧
      (∀ n : Fin 12, (bit (tripPairs t) n = true ∨ s.on PWM_STATUS_TRIP n = true → t.on PWM_STATUS_TRIP n = true) ∧
        (bit (tripPairs t) n = true → s.on PWM_STATUS_TRIP n = false → (t.pwm n).onA = false ∧ (t.pwm n).onB = false ∧ (t.pwm n).wait = true) ∧
        (bit (tripPairs t) n = false → t.pwm n = s.pwm n)) ∧
      (∀ k : Fin 8, bit (tripArms t) k = true → bit (s.rd SYS_GCS_BLOCK_ARM_REQ) k = false → bit (t.rd SYS_GCS_BLOCK_ARM) k = true) ∧
      t.rd SYS_GCS_BLOCK_ARM_REQ = tripArms t % 2 ^ 8 ∧ t.sig.trip.prev = tripSources t ∧ t.fab = s.fab ∧
      (let rose := ∃ j : Fin 40, bit (tripSources t) j = true ∧ bit s.sig.trip.prev j = false
       (¬ rose → t.sig.trip.log = s.sig.trip.log) ∧
       (rose → t.on TRIP_TSTATUS_TRIPPED = true) ∧
       (rose → s.sig.trip.riseEdge ≠ s.fab ∨ s.sig.trip.riseSrc = 0 → (16 ≤ s.sig.trip.log.length → t.on TRIP_TSTATUS_EVT_LOST = true ∧ t.sig.trip.log = s.sig.trip.log) ∧
         (s.sig.trip.log.length < 16 → ∃ r, t.sig.trip.log = s.sig.trip.log ++ [r] ∧
           ∀ j : Fin 40, bit r.src j = (bit (tripSources t) j && !bit s.sig.trip.prev j))))) ∧
    (Reads s req .trip 0 0x200 → ∃ t, exec (.tevtLatch req) s = .next t ∧
      t = { s with sig := { s.sig with trip := { s.sig.trip with latched := s.sig.trip.log.head? } }, reply := t.reply } ∧
      t.reply = ⟨OK, (match s.sig.trip.log with | [] => 0 | r :: _ => r.time % 2 ^ 32), false⟩) ∧
    (Reads s req .trip 0 0x20C → s.sig.trip.latched = some r → ∃ t, exec (.tevtPop req) s = .next t ∧
      t.sig = { s.sig with trip := { s.sig.trip with latched := none, log := s.sig.trip.log.tail } } ∧
      t.reply = ⟨OK, r.src / 2 ^ 24 % 2 ^ 16 + (if 1 < sourceCount r.src then 2 ^ 16 else 0) + 2 ^ 17, false⟩ ∧
      RegsBut [TRIP_TSTATUS_EVT.key 0 0, TRIP_TSTATUS_EVT_LEVEL.key 0 0] s t) ∧
    (Reads s req .trip 0 0x20C → s.sig.trip.latched = none → exec (.tevtPop req) s = .next (s.answer OK 0)) ∧
    (clocked s = true → s.on TRIP_DRV_CFG_EN = true → s.sig.trip.busy = none → s.sig.trip.reqs = d :: ds → ∃ t, exec (.drvTransactionStart) s = .next t ∧
      t.sig = { s.sig with trip := { s.sig.trip with reqs := ds, busy := some d, busEnd := s.fab + 160 * (s.rd TRIP_DRV_CFG_DIV + 1) } } ∧
      RegsBut [TRIP_DRV_STATUS_REQ.key 0 0, TRIP_DRV_STATUS_RSP.key 0 0] s t) ∧
    (clocked s = true → s.on TRIP_DRV_CFG_EN = false ∨ s.sig.trip.busy ≠ none ∨ s.sig.trip.reqs = [] → exec .drvTransactionStart s = .next s)

/-- For every state with the FAB clock running and every requester against which no port reason stands: a push of DRV_REQ while 8
requests wait is refused with E_FULL and leaves both FIFOs as they were, and otherwise joins the end of the request FIFO, from
which the oldest request goes to the free bus. Reading DRV_RSP returns and removes the oldest response, and returns 0 with
none waiting. A transaction's response joins the end of the response FIFO, or with 8 waiting is dropped and sets RSP_LOST. -/
def Obligations.DriverFifos : Prop :=
  ∀ (s : State) (req : Req) (data : BitVec 32) (resp : List (BitVec 8)) (d : DrvReq) (ds : List DrvReq) (x : DrvRsp) (xs : List DrvRsp),
    (clocked s = true → powered s (.reg .trip 0 0x304) = true → portCodes s req .trip 0 0x304 data.toNat = [] →
      (8 ≤ s.sig.trip.reqs.length → ∃ t, exec (.drvReqPush req data) s = .next t ∧ t.reply = ⟨E_FULL, 0, false⟩ ∧ t.sig = s.sig) ∧
      (s.sig.trip.reqs.length < 8 → ∃ t, exec (.drvReqPush req data) s = .next t ∧ AnsweredOk t ∧
        t.sig = { s.sig with trip := { s.sig.trip with reqs := s.sig.trip.reqs ++ [⟨data.toNat % 32, data.toNat.testBit 5, data.toNat / 2 ^ 8 % 2 ^ 8, data.toNat / 2 ^ 16⟩] } } ∧
        RegsBut [TRIP_DRV_STATUS_REQ.key 0 0, TRIP_DRV_STATUS_RSP.key 0 0] s t)) ∧
    (Reads s req .trip 0 0x308 → s.sig.trip.rsps = x :: xs → ∃ t, exec (.drvRspPop req) s = .next t ∧
      t.sig = { s.sig with trip := { s.sig.trip with rsps := xs } } ∧
      t.reply = ⟨OK, x.stat % 256 + (if x.noack then 2 ^ 8 else 0) + 2 ^ 9 + 2 ^ 16 * (x.data % 2 ^ 16), false⟩ ∧
      RegsBut [TRIP_DRV_STATUS_REQ.key 0 0, TRIP_DRV_STATUS_RSP.key 0 0] s t) ∧
    (Reads s req .trip 0 0x308 → s.sig.trip.rsps = [] → exec (.drvRspPop req) s = .next (s.answer OK 0)) ∧
    (clocked s = true → s.sig.trip.busy = some d → ∃ t, exec (.drvTransactionEnd resp) s = .next t ∧ t.fab = max s.fab s.sig.trip.busEnd ∧
      t.sig.trip.busy = none ∧ t.sig.trip.reqs = s.sig.trip.reqs ∧
      (8 ≤ s.sig.trip.rsps.length → t.sig.trip.rsps = s.sig.trip.rsps ∧ t.on TRIP_DRV_STATUS_RSP_LOST = true) ∧
      (s.sig.trip.rsps.length < 8 → ∃ y, t.sig.trip.rsps = s.sig.trip.rsps ++ [y] ∧
        t.on TRIP_DRV_STATUS_RSP_LOST = s.on TRIP_DRV_STATUS_RSP_LOST)) ∧
    (clocked s = true → s.sig.trip.busy = none → exec (.drvTransactionEnd resp) s = .next s) ∧
    (clocked s = true → s.on TRIP_DRV_CFG_EN = true → s.sig.trip.busy = none → s.sig.trip.reqs = d :: ds → ∃ t, exec (.drvTransactionStart) s = .next t ∧
      t.sig.trip.reqs = ds ∧ t.sig.trip.busy = some d ∧ t.sig.trip.rsps = s.sig.trip.rsps)

/-- For every accepted write: INCR_NS applies both fields; STEP_GO adds ADJ on the next edge; SLEW_GO leaves the time and begins a
slew whose end has added exactly ADJ; SET_GO sets the time, clears LOST and sets COARSE; CLR_COARSE clears COARSE and UNCERT
alone; EN arms and disarms the tick. With the FAB clock running, a timer moves to its target or offset and counts a firing
with its time, an absolute one stops, a periodic one takes its next future target with MISSED for more than one period; an
output goes active at its target and idle WIDTH later; a selected capture edge joins its FIFO of 4 or sets CAP_OVF; reads
latch and pop records in order; a 1PPS output rises on whole seconds. -/
def Obligations.Campanile : Prop :=
  ∀ (s : State) (req : Req) (data : BitVec 32) (ns : BitVec 64) (i : Fin 16) (j k : Fin 4) (rise : Bool) (e : Nat) (r : CapRec) (rs : List CapRec)
    (x : TxRec) (xs : List TxRec),
    (Accepts s req .campanile 0 0x010 data.toNat 0xFFFFFFFF → ∃ t, exec (.incrWrite req data) s = .next t ∧
      AnsweredOk t ∧ t.camp = { s.camp with incr := data.toNat % 16 * 2 ^ 32 + s.rd CAMPANILE_INCR_FRAC_FRAC } ∧ t.rd CAMPANILE_INCR_NS_NS = data.toNat % 16 ∧
      RegsBut [CAMPANILE_INCR_NS_NS.key 0 0] s t ∧ t.time = s.time) ∧
    (Accepts s req .campanile 0 0x018 1 1 → ∃ t, exec (.stepGo req) s = .next t ∧
      AnsweredOk t ∧ t.fab = s.fab + 1 ∧ t.time = uz 96 ((s.timeAfter 1 : Int) + s.rdS CAMPANILE_ADJ_NS * 2 ^ 32) ∧ RegsBut [CAMPANILE_STATUS_SLEWING.key 0 0] s t) ∧
    (Accepts s req .campanile 0 0x018 2 2 → ∃ t, exec (.slewGo req) s = .next t ∧
      AnsweredOk t ∧ t.camp = { s.camp with slewLeft := (s.rdS CAMPANILE_ADJ_NS).natAbs * 2 ^ 32, slewNeg := decide (s.rdS CAMPANILE_ADJ_NS < 0), slewStep := s.rd CAMPANILE_SLEW_STEP_STEP } ∧ t.time = s.time ∧
      t.on CAMPANILE_STATUS_SLEWING = decide (s.rdS CAMPANILE_ADJ_NS ≠ 0) ∧ RegsBut [CAMPANILE_STATUS_SLEWING.key 0 0] s t) ∧
    (clocked s = true → s.camp.slewLeft ≠ 0 → s.camp.slewLeft ≤ 2 ^ 96 → s.camp.slewStep ≠ 0 → ∃ t, exec (.slewEnd) s = .next t ∧
      t.fab = s.fab + (ceilDiv s.camp.slewLeft s.camp.slewStep) ∧ t.camp = { s.camp with slewLeft := 0 } ∧ t.on CAMPANILE_STATUS_SLEWING = false ∧
      (t.time : Int) = ((s.time : Int) + ((ceilDiv s.camp.slewLeft s.camp.slewStep) * s.incr : Nat) + (if s.camp.slewNeg then -(s.camp.slewLeft : Int) else s.camp.slewLeft)) % 2 ^ 96) ∧
    (clocked s = true → s.camp.slewLeft = 0 → exec .slewEnd s = .next s) ∧
    (Accepts s req .campanile 0 0x018 4 4 → ∃ t, exec (.setGo req) s = .next t ∧
      AnsweredOk t ∧ t.fab = s.fab + 1 ∧ t.time = s.rd CAMPANILE_SET_NS * 2 ^ 32 ∧ t.on CAMPANILE_STATUS_LOST = false ∧ t.on CAMPANILE_STATUS_COARSE = true ∧
      t.on CAMPANILE_STATUS_COARSE_EV = (s.on CAMPANILE_STATUS_COARSE_EV || !s.on CAMPANILE_STATUS_COARSE)) ∧
    (Accepts s req .campanile 0 0x030 1 1 → ∃ t, exec (.clrCoarse req) s = .next t ∧
      AnsweredOk t ∧ t.on CAMPANILE_STATUS_COARSE = false ∧ t.rd CAMPANILE_UNCERT_NS = 0 ∧ RegsBut [CAMPANILE_STATUS_COARSE.key 0 0, CAMPANILE_UNCERT_NS.key 0 0] s t ∧
      t = { s with regs := t.regs, reply := t.reply }) ∧
    (∀ u, startAt s req ns.toNat = u → Accepts u req .campanile 0 0x044 1 1 → u.on CAMPANILE_TICK_CTRL_EN = false → ∃ t, exec (.tickEnable req ns) s = .next t ∧
      AnsweredOk t ∧ t.on CAMPANILE_TICK_CTRL_EN = true ∧ t.pipe = { u.pipe with firstPending := true } ∧ t.camp = { u.camp with gridFab := 0 } ∧
      RegsBut [CAMPANILE_TICK_CTRL_EN.key 0 0] u t ∧ (s.rd CAMPANILE_START_NS = ns.toNat → u = s)) ∧
    (Accepts s req .campanile 0 0x044 0 1 → s.on CAMPANILE_TICK_CTRL_EN = true → ∃ t, exec (.tickDisable req) s = .next t ∧
      AnsweredOk t ∧ t.on CAMPANILE_TICK_CTRL_EN = false ∧ t.pipe = { s.pipe with firstPending := false, endPending := s.pipe.running } ∧
      RegsBut [CAMPANILE_TICK_CTRL_EN.key 0 0] s t) ∧
    (Accepts s req .campanile 0 0x044 0 1 → s.on CAMPANILE_TICK_CTRL_EN = false → ∃ t, exec (.tickDisable req) s = .next t ∧
      AnsweredOk t ∧ t.on CAMPANILE_TICK_CTRL_EN = false ∧ t.pipe = s.pipe) ∧
    (clocked s = true → i.val ≠ 0 → s.rd CAMPANILE_ET_CTRL_MODE 0 i = 1 → ∃ t, exec (.timerFire i) s = .next t ∧
      t.rd CAMPANILE_ET_COUNT 0 i = (s.rd CAMPANILE_ET_COUNT 0 i + 1) % 2 ^ 32 ∧ t.on CAMPANILE_ET_CTRL_FIRED 0 i = true ∧
      t.rd CAMPANILE_ET_FIRE_NS 0 i = t.ns ∧ t.sig.pulses.get 0 (i + 1) = t.fab + 1 ∧ t.rd CAMPANILE_ET_CTRL_MODE 0 i = 0 ∧ t.fab = (if s.reached (s.rd CAMPANILE_ET_TARGET 0 i) then s.fab else s.fab + s.edgesUntil (s.rd CAMPANILE_ET_TARGET 0 i)) ∧ t.rd CAMPANILE_ET_TARGET 0 i = (s.rd CAMPANILE_ET_TARGET 0 i)) ∧
    (clocked s = true → i.val ≠ 0 → s.rd CAMPANILE_ET_CTRL_MODE 0 i = 2 → ∃ t, exec (.timerFire i) s = .next t ∧
      t.rd CAMPANILE_ET_COUNT 0 i = (s.rd CAMPANILE_ET_COUNT 0 i + 1) % 2 ^ 32 ∧ t.on CAMPANILE_ET_CTRL_FIRED 0 i = true ∧
      t.rd CAMPANILE_ET_FIRE_NS 0 i = t.ns ∧ t.sig.pulses.get 0 (i + 1) = t.fab + 1 ∧ t.rd CAMPANILE_ET_CTRL_MODE 0 i = 2 ∧ t.fab = (if s.reached (s.rd CAMPANILE_ET_TARGET 0 i) then s.fab else s.fab + s.edgesUntil (s.rd CAMPANILE_ET_TARGET 0 i)) ∧ t.rd CAMPANILE_ET_TARGET 0 i = ((s.rd CAMPANILE_ET_TARGET 0 i) + ((t.sinceNs (s.rd CAMPANILE_ET_TARGET 0 i)).toNat / max 1 (s.rd CAMPANILE_ET_PERIOD 0 i) + 1) * (s.rd CAMPANILE_ET_PERIOD 0 i)) % 2 ^ 64 ∧
      (1 < ((t.sinceNs (s.rd CAMPANILE_ET_TARGET 0 i)).toNat / max 1 (s.rd CAMPANILE_ET_PERIOD 0 i) + 1) → t.on CAMPANILE_ET_CTRL_MISSED 0 i = true ∧ t.on CAMPANILE_STATUS_MISSED = true) ∧
      (((t.sinceNs (s.rd CAMPANILE_ET_TARGET 0 i)).toNat / max 1 (s.rd CAMPANILE_ET_PERIOD 0 i) + 1) ≤ 1 → t.on CAMPANILE_ET_CTRL_MISSED 0 i = s.on CAMPANILE_ET_CTRL_MISSED 0 i)) ∧
    (clocked s = true → i.val ≠ 0 → s.rd CAMPANILE_ET_CTRL_MODE 0 i = 3 → offsetEdge s i = some e → ∃ t, exec (.timerFire i) s = .next t ∧
      t.rd CAMPANILE_ET_COUNT 0 i = (s.rd CAMPANILE_ET_COUNT 0 i + 1) % 2 ^ 32 ∧ t.on CAMPANILE_ET_CTRL_FIRED 0 i = true ∧
      t.rd CAMPANILE_ET_FIRE_NS 0 i = t.ns ∧ t.sig.pulses.get 0 (i + 1) = t.fab + 1 ∧ t.fab = max s.fab e ∧ t.camp.fired = i.val :: s.camp.fired) ∧
    (clocked s = true → i.val = 0 ∨ s.rd CAMPANILE_ET_CTRL_MODE 0 i = 0 ∨ (s.rd CAMPANILE_ET_CTRL_MODE 0 i = 3 ∧ offsetEdge s i = none) → exec (.timerFire i) s = .next s) ∧
    (clocked s = true → s.rd CAMPANILE_TO_CTRL_MODE 0 j = 1 → s.camp.outDone.contains j.val = false → s.camp.outOn.contains j.val = false → ∃ t, exec (.toutActive j) s = .next t ∧ t.camp.outOn = j.val :: s.camp.outOn ∧ t.fab = (if s.reached (s.rd CAMPANILE_TO_TARGET 0 j) then s.fab else s.fab + s.edgesUntil (s.rd CAMPANILE_TO_TARGET 0 j)) ∧ t.on CAMPANILE_TO_CTRL_DONE 0 j = true) ∧
    (clocked s = true → s.rd CAMPANILE_TO_CTRL_MODE 0 j = 2 → s.camp.outDone.contains j.val = false → s.camp.outOn.contains j.val = false → ∃ t, exec (.toutActive j) s = .next t ∧ t.camp.outOn = j.val :: s.camp.outOn ∧ t.fab = (if s.reached (s.rd CAMPANILE_TO_TARGET 0 j) then s.fab else s.fab + s.edgesUntil (s.rd CAMPANILE_TO_TARGET 0 j)) ∧ t.camp.outIdle.get 0 j = ((s.rd CAMPANILE_TO_TARGET 0 j) + s.rd CAMPANILE_TO_WIDTH 0 j) % 2 ^ 64 ∧ t.camp.outDone = j.val :: s.camp.outDone) ∧
    (clocked s = true → s.rd CAMPANILE_TO_CTRL_MODE 0 j = 3 → s.camp.outDone.contains j.val = false → s.camp.outOn.contains j.val = false → ∃ t, exec (.toutActive j) s = .next t ∧ t.camp.outOn = j.val :: s.camp.outOn ∧ t.fab = (if s.reached (s.rd CAMPANILE_TO_TARGET 0 j) then s.fab else s.fab + s.edgesUntil (s.rd CAMPANILE_TO_TARGET 0 j)) ∧ t.rd CAMPANILE_TO_TARGET 0 j = ((s.rd CAMPANILE_TO_TARGET 0 j) + ((t.sinceNs (s.rd CAMPANILE_TO_TARGET 0 j)).toNat / max 1 (s.rd CAMPANILE_TO_PERIOD 0 j) + 1) * (s.rd CAMPANILE_TO_PERIOD 0 j)) % 2 ^ 64 ∧
      (1 < ((t.sinceNs (s.rd CAMPANILE_TO_TARGET 0 j)).toNat / max 1 (s.rd CAMPANILE_TO_PERIOD 0 j) + 1) → t.on CAMPANILE_STATUS_MISSED = true)) ∧
    (clocked s = true → s.rd CAMPANILE_TO_CTRL_MODE 0 j = 0 ∨ s.camp.outDone.contains j.val = true ∨ s.camp.outOn.contains j.val = true → exec (.toutActive j) s = .next s) ∧
    (clocked s = true → 2 ≤ s.rd CAMPANILE_TO_CTRL_MODE 0 j → s.camp.outOn.contains j.val = true → ∃ t, exec (.toutIdle j) s = .next t ∧
      t.on CAMPANILE_TO_CTRL_DONE 0 j = true ∧ t.camp.outOn = s.camp.outOn.filter (· != j.val) ∧ t.fab = (if s.reached (idleTime s j) then s.fab else s.fab + s.edgesUntil (idleTime s j)) ∧
      RegsBut [CAMPANILE_TO_CTRL_DONE.key 0 j, CAMPANILE_STATUS_SLEWING.key 0 0] s t) ∧
    (clocked s = true → s.rd CAMPANILE_TO_CTRL_MODE 0 j < 2 ∨ s.camp.outOn.contains j.val = false → exec (.toutIdle j) s = .next s) ∧
    (clocked s = true → bit (s.rd CAMPANILE_CI_CTRL_EDGE 0 k) (if rise then 0 else 1) = false → exec (.captureEdge k rise) s = .next s) ∧
    (clocked s = true → bit (s.rd CAMPANILE_CI_CTRL_EDGE 0 k) (if rise then 0 else 1) = true → (s.camp.caps.get [] k).length < 4 → ∃ t, exec (.captureEdge k rise) s = .next t ∧
      t.camp.caps.get [] k = (s.camp.caps.get [] k) ++ [⟨captureNs s, rise, s.on CAMPANILE_STATUS_COARSE⟩] ∧ (∀ m, m ≠ k.val → t.camp.caps.get [] m = s.camp.caps.get [] m) ∧ t.sig = { s.sig with oc := { s.sig.oc with caps := s.sig.oc.caps ||| 2 ^ k.val } } ∧ t.regs = s.regs) ∧
    (clocked s = true → bit (s.rd CAMPANILE_CI_CTRL_EDGE 0 k) (if rise then 0 else 1) = true → 4 ≤ (s.camp.caps.get [] k).length → exec (.captureEdge k rise) s = .next ({ s.raise CAMPANILE_STATUS_CAP_OVF with sig := { s.sig with oc := { s.sig.oc with caps := s.sig.oc.caps ||| 2 ^ k.val } } })) ∧
    (Reads s req .campanile 0 (0x404 + 0x20 * k) → (s.camp.caps.get [] k) = r :: rs → ∃ t, exec (.captureLatch req k) s = .next t ∧
      t.reply = ⟨OK, r.ns % 2 ^ 32, false⟩ ∧ findKey t.camp.capLat k = some r ∧ t.camp.caps = s.camp.caps) ∧
    (Reads s req .campanile 0 (0x404 + 0x20 * k) → (s.camp.caps.get [] k) = [] → ∃ t, exec (.captureLatch req k) s = .next t ∧
      t.reply = ⟨OK, 0, false⟩ ∧ t.camp = s.camp) ∧
    (Reads s req .campanile 0 (0x40C + 0x20 * k) → findKey s.camp.capLat k = some r → ∃ t, exec (.capturePop req k) s = .next t ∧
      t.reply = ⟨OK, 1 + (if r.rise then 2 else 0) + (if r.coarse then 4 else 0) + 16 * ((s.camp.caps.get [] k).length % 8), false⟩ ∧
      t.camp.caps.get [] k = (s.camp.caps.get [] k).tail ∧ findKey t.camp.capLat k = none ∧ (∀ m, m ≠ k.val → t.camp.caps.get [] m = s.camp.caps.get [] m) ∧ t.regs = s.regs) ∧
    (Reads s req .campanile 0 (0x40C + 0x20 * k) → findKey s.camp.capLat k = none → exec (.capturePop req k) s = .next (s.answer OK (16 * ((s.camp.caps.get [] k).length % 8)))) ∧
    (Reads s req .campanile 0 (0x508 + 0x10 * k) → s.camp.txts.get [] k = x :: xs → ∃ t, exec (.txtsPop req k) s = .next t ∧
      t.reply = ⟨OK, x.seqId % 2 ^ 16 + 2 ^ 16 * (x.msgType % 16) + 2 ^ 24, false⟩ ∧ t.camp.txts.get [] k = xs ∧
      t.camp.caps = s.camp.caps ∧ t.regs = s.regs) ∧
    (Reads s req .campanile 0 (0x508 + 0x10 * k) → s.camp.txts.get [] k = [] → exec (.txtsPop req k) s = .next (s.answer OK 0)) ∧
    (clocked s = true → s.rd SYS_CLKOUT_FMT 0 j = 2 → s.on SYS_CLKOUT_OE 0 j = true → findKey s.camp.ppsIdle j = some e → ∃ t, exec (.clkout1ppsEdge j) s = .next t ∧
      t.fab = (if s.reached e then s.fab else s.fab + s.edgesUntil e) ∧ findKey t.camp.ppsIdle j = none) ∧
    (clocked s = true → s.rd SYS_CLKOUT_FMT 0 j = 2 → s.on SYS_CLKOUT_OE 0 j = true → findKey s.camp.ppsIdle j = none → ∃ t, exec (.clkout1ppsEdge j) s = .next t ∧
      let rise := (if s.time - s.ns / 1000000000 * 1000000000 * 2 ^ 32 < s.incr then s.ns / 1000000000 * 1000000000 else (s.ns / 1000000000 + 1) * 1000000000)
      t.fab = (if s.reached rise then s.fab else s.fab + s.edgesUntil rise) ∧ findKey t.camp.ppsIdle j = some (rise + s.rd SYS_CLKOUT_WIDTH 0 j * 1000)) ∧
    (clocked s = true → s.rd SYS_CLKOUT_FMT 0 j ≠ 2 ∨ s.on SYS_CLKOUT_OE 0 j = false → exec (.clkout1ppsEdge j) s = .next s)

/-- With the FAB clock running: a link up measures its latency, PEER down raises LINK_EV and makes a twin commit SOLO; a CYCLE
message is taken only over its link, and a standby, a unit in JOIN and a cascade follower follow the leader's tick; CASC_TX,
COUNT and SUMS go to their registers, arms and Cupola slot; losses of a master or follower act once at LOSS_CYC; MASK_WAIT_END
passes once a cycle and counts misses; forwarded status is kept; the holder's measured value is delivered on its edge; a
replay's result is published; lease expiry and a grant take the token with EPOCH + 1 and journal recovery, a granted holder
becomes standby; EN, REJOIN, YIELD, SYNC_DONE, chase copies and relay copies have exactly their effects. -/
def Obligations.Twin : Prop :=
  ∀ (s : State) (req : Req) (link : Fin 4) (roundTrip : BitVec 32) (msg : CycleMsg) (f : Fin 3) (k : Fin 8) (data : BitVec 32) (recs : List SumRec)
    (sr : SumRec) (ring r : Fin 128) (pos p : Fin 32) (verdict : Fin 6) (slots : List (Nat × Stat)) (stat : Stat) (values : List Meas) (e v run : Nat)
    (a : Fin 4) (n : Fin 16) (x : ReplayRec) (item : ChaseItem) (c d : Nat) (bs : List Nat) (bytes : List (BitVec 8)),
    (clocked s = true → ∃ t, exec (.peerLinkUp 0 roundTrip) s = .next t ∧
      t.on TWIN_STATUS_LINK = true ∧ t.rd TWIN_LAT_PEER_LAT = ceilDiv roundTrip.toNat 3200 % 2 ^ 16 ∧
      RegsBut [TWIN_STATUS_LINK.key 0 0, TWIN_LAT_PEER_LAT.key 0 0] s t ∧ t = { s with regs := t.regs }) ∧
    (clocked s = true → link.val ≠ 0 → ∃ t, exec (.peerLinkUp link roundTrip) s = .next t ∧
      t.rd TWIN_CASC_STATUS_LINK = (s.rd TWIN_CASC_STATUS_LINK ||| 2 ^ (link.val - 1)) % 2 ^ 3 ∧
      t.rd TWIN_CASC_STATUS_CASC_LAT = ceilDiv roundTrip.toNat 3200 % 2 ^ 16 ∧ RegsBut [TWIN_CASC_STATUS_LINK.key 0 0, TWIN_CASC_STATUS_CASC_LAT.key 0 0] s t) ∧
    (clocked s = true → s.on TWIN_STATUS_LINK = true → ∃ t, exec (.peerLinkDown 0) s = .next t ∧
      t.on TWIN_STATUS_LINK = false ∧ t.on TWIN_STATUS_LINK_EV = true ∧ t.twin.peerState = 0 ∧ (s.rd TWIN_STATUS_STATE ≠ 0 → t.jrn.solo = true)) ∧
    (clocked s = true → s.on TWIN_STATUS_LINK = false → exec (.peerLinkDown 0) s = .next (s)) ∧
    (clocked s = true → link.val ≠ 0 → ∃ t, exec (.peerLinkDown link) s = .next t ∧
      t.rd TWIN_CASC_STATUS_LINK = (s.rd TWIN_CASC_STATUS_LINK &&& (7 ^^^ 2 ^ (link.val - 1))) % 2 ^ 3 ∧
      RegsBut [TWIN_CASC_STATUS_LINK.key 0 0] s t ∧ (t.rd TWIN_CASC_STATUS_LINK = 0 → t.twin.joined = false)) ∧
    (clocked s = true → s.on TWIN_STATUS_LINK = false → exec (.cycleMessageReceive false msg) s = .next (s)) ∧
    (clocked s = true → s.on TWIN_STATUS_LINK = true → s.rd TWIN_STATUS_STATE = 3 → ∃ t, exec (.cycleMessageReceive false msg) s = .next t ∧
      t.twin.peerState = msg.state ∧ t.rd TWIN_HEALTH_TWIN = msg.health % 2 ^ 16 ∧ (msg.health &&& s.twin.fatalMask ≠ 0 → t.on TWIN_STATUS_TWIN_HEALTH = true) ∧
      t.twin.wants = (s.twin.wants || msg.req) ∧ t.twin.ack = (s.twin.ack || (msg.ack && s.twin.grant.isSome)) ∧
      (msg.count % 2 ^ SYS_CYCLE_COUNT.width = s.rd SYS_CYCLE_COUNT → t.twin.peer = some msg) ∧ t.twin.twinResult = (if msg.replay.isSome then msg.replay else s.twin.twinResult)) ∧
    (clocked s = true → s.on TWIN_STATUS_LINK = true → s.rd TWIN_STATUS_STATE = 2 → s.rd TWIN_CASC_CFG_ROLE ≠ 2 → msg.holder = true → ∃ t, exec (.cycleMessageReceive false msg) s = .next t ∧
      t.rd TWIN_LAT_TICK_SKEW = uz 16 ((s.pipe.tickEdge : Int) - ((s.fab : Int) - s.rd TWIN_LAT_PEER_LAT - msg.offset)) ∧ t.twin.followLen = some (msg.nextLen % 65536) ∧
      t.twin.evidence = (s.twin.evidence || msg.count % 2 ^ SYS_CYCLE_COUNT.width == s.rd SYS_CYCLE_COUNT) ∧ t.twin.grant = (if msg.grant.isSome then msg.grant else s.twin.grant) ∧
      (0 < sx 16 (uz 16 ((msg.epoch : Int) - s.rd TWIN_EPOCH_EPOCH)) → t.rd TWIN_EPOCH_EPOCH = msg.epoch % 2 ^ 16) ∧ t.pipe = s.pipe) ∧
    (clocked s = true → s.on TWIN_STATUS_LINK = true → s.rd TWIN_STATUS_STATE = 1 → msg.holder = true → s.pipe.running = true → s.rd SYS_CYCLE_COUNT ≠ msg.count % 2 ^ SYS_CYCLE_COUNT.width → ∃ t, exec (.cycleMessageReceive false msg) s = .next t ∧
      t.rd SYS_CYCLE_COUNT = msg.count % 2 ^ SYS_CYCLE_COUNT.width ∧ t.pipe.tickEdge = ((s.fab : Int) - s.rd TWIN_LAT_PEER_LAT - msg.offset).toNat ∧ t.rd TWIN_LAT_TICK_SKEW = 0 ∧ t.rd TWIN_STATUS_STATE = 1) ∧
    (clocked s = true → s.on TWIN_STATUS_LINK = true → s.rd TWIN_STATUS_STATE = 0 → msg.holder = true → s.twin.startEnd.isSome = true → ∃ t, exec (.cycleMessageReceive false msg) s = .next t ∧
      t.rd TWIN_STATUS_STATE = 1 ∧ t.twin.startEnd = none ∧ t.twin.copied = [] ∧ t.port.pinsHeld = true) ∧
    (clocked s = true → s.rd TWIN_CASC_CFG_ROLE ≠ 2 ∨ s.rd TWIN_CASC_STATUS_LINK = 0 → exec (.cycleMessageReceive true msg) s = .next (s)) ∧
    (clocked s = true → s.rd TWIN_CASC_CFG_ROLE = 2 → s.rd TWIN_CASC_STATUS_LINK ≠ 0 → s.twin.joined = true → s.rd TWIN_STATUS_STATE = 2 ∨ s.rd TWIN_STATUS_STATE = 3 → ∃ t, exec (.cycleMessageReceive true msg) s = .next t ∧
      t.twin.masterSeen = true ∧ t.rd TWIN_LAT_TICK_SKEW = uz 16 ((s.pipe.tickEdge : Int) - ((s.fab : Int) - s.rd TWIN_CASC_STATUS_CASC_LAT - msg.offset)) ∧ t.twin.followLen = some (msg.nextLen % 65536) ∧
      (∀ h, msg.grant = some h → t.twin.grant = some h ∧ t.twin.ack = true)) ∧
    (Accepts s req .twin 0 (0x100 + 4 * (8 * f.val + k.val)) data.toNat 0xFFFFFFFF → ∃ t, exec (.cascTxWrite req f k data) s = .next t ∧
      AnsweredOk t ∧ t.rd TWIN_CASC_TX_VALUE 0 (8 * f.val + k.val) = data.toNat ∧ RegsBut [TWIN_CASC_TX_VALUE.key 0 (8 * f.val + k.val)] s t ∧
      t = { s with regs := t.regs, reply := t.reply }) ∧
    (clocked s = true → s.rd TWIN_CASC_CFG_ROLE ≠ 2 → exec (.cascadeCountReceive k data) s = .next (s)) ∧
    (clocked s = true → s.rd TWIN_CASC_CFG_ROLE = 2 → s.on ARM_CTRL_MOD_SRC k = false → firstRefusal (armNCodes s k data.toNat) = OK → s.pipe.running = false → ∃ t, exec (.cascadeCountReceive k data) s = .next t ∧
      t.rd ARM_N_N k = data.toNat % 2 ^ 12 ∧ (t.arm k).committed = true ∧ RegsBut [ARM_N_N.key k 0] s t ∧ t.twin = s.twin) ∧
    (clocked s = true → s.rd TWIN_CASC_CFG_ROLE = 2 → s.on ARM_CTRL_MOD_SRC k = false → firstRefusal (armNCodes s k data.toNat) ≠ OK → s.rd ARM_ERR_CODE k = 0 → ∃ t, exec (.cascadeCountReceive k data) s = .next t ∧
      t.rd ARM_N_N k = s.rd ARM_N_N k ∧ t.rd ARM_ERR_CODE k = firstRefusal (armNCodes s k data.toNat) ∧ t.rd ARM_ERR_OFFSET k = 0x004 ∧
      t.twin = { s.twin with refused := s.twin.refused ||| 2 ^ k.val }) ∧
    (clocked s = true → s.rd TWIN_CASC_CFG_ROLE ≠ 1 → exec (.sumsReceive f recs) s = .next (s)) ∧
    (clocked s = true → s.rd TWIN_CASC_CFG_ROLE = 1 → Memory.wf s.bytes = true → s.on SCAN_STATUS_BUSY = false → (s.rd TWIN_CASC_SUM_BASE_ADDR * 32 + (f.val * 8 + sr.arm % 8) * 32) < 0x4000000 → guarded s 18 (s.rd TWIN_CASC_SUM_BASE_ADDR * 32 + (f.val * 8 + sr.arm % 8) * 32) 32 = false → findKey s.lineChk ((s.rd TWIN_CASC_SUM_BASE_ADDR * 32 + (f.val * 8 + sr.arm % 8) * 32) / 64) = none → ∃ t, exec (.sumsReceive f [sr]) s = .next t ∧
      f.val ∈ t.twin.sumsSeen ∧ (∀ j < 32, memGet t.bytes ((s.rd TWIN_CASC_SUM_BASE_ADDR * 32 + (f.val * 8 + sr.arm % 8) * 32) + j) = BitVec.ofNat 8 (nth 0 sr.bytes j)) ∧
      (∀ a, a < (s.rd TWIN_CASC_SUM_BASE_ADDR * 32 + (f.val * 8 + sr.arm % 8) * 32) ∨ (s.rd TWIN_CASC_SUM_BASE_ADDR * 32 + (f.val * 8 + sr.arm % 8) * 32) + 32 ≤ a → memGet t.bytes a = memGet s.bytes a) ∧ t.regs = s.regs) ∧
    (clocked s = true → s.rd TWIN_CASC_CFG_ROLE = 2 → s.on TWIN_CASC_STATUS_MASTER_LOST = false → s.rd TWIN_CASC_CFG_LOSS_CYC ≤ s.twin.masterMiss → ∃ t, exec (.masterLost) s = .next t ∧
      t.on TWIN_CASC_STATUS_MASTER_LOST = true ∧ t.on SYS_GCS_BLOCK_ALL = true ∧ Logged s t ⟨s.ns, 14, false, 0, 0, 5⟩ ∧ t.twin.followLen = none) ∧
    (clocked s = true → s.rd TWIN_CASC_CFG_ROLE ≠ 2 ∨ s.on TWIN_CASC_STATUS_MASTER_LOST = true ∨ s.twin.masterMiss < s.rd TWIN_CASC_CFG_LOSS_CYC → exec .masterLost s = .next s) ∧
    (clocked s = true → s.rd TWIN_CASC_CFG_ROLE = 1 → bit (s.rd TWIN_CASC_STATUS_LOST) f = false → s.rd TWIN_CASC_CFG_LOSS_CYC ≤ s.twin.sumsMiss.get 0 f → ∃ t, exec (.followerLost f) s = .next t ∧
      t.rd TWIN_CASC_STATUS_LOST = (s.rd TWIN_CASC_STATUS_LOST ||| 2 ^ f.val) % 2 ^ 3 ∧
      (∀ j < 8, bit (s.rd TWIN_FOLLOW_ARMS_ARMS 0 f) j = true → bit (t.rd SYS_GCS_BLOCK_ARM) j = true) ∧ Logged s t ⟨s.ns, 14, false, s.rd TWIN_FOLLOW_ARMS_ARMS 0 f, 0, 3⟩) ∧
    (clocked s = true → s.rd TWIN_CASC_CFG_ROLE ≠ 1 ∨ bit (s.rd TWIN_CASC_STATUS_LOST) f = true ∨ s.twin.sumsMiss.get 0 f < s.rd TWIN_CASC_CFG_LOSS_CYC → exec (.followerLost f) s = .next s) ∧
    (clocked s = true → s.pipe.running = true → s.pipe.retPassed = true → s.pipe.maskPassed = false → 1 ≤ s.rd TWIN_STATUS_STATE → s.rd TWIN_STATUS_STATE ≤ 3 → ∃ t, exec (.maskWaitEnd) s = .next t ∧
      t.pipe.maskPassed = true ∧ t.fab = max s.fab (s.pipe.tickEdge + s.rd SYS_PIPE_CFG_RET_DEADLINE + s.rd TWIN_CFG_MASK_WAIT) ∧ (s.twin.peer = none → t.on TWIN_STATUS_MASK_LATE = true) ∧
      t.twin.misses = (if s.rd TWIN_STATUS_STATE = 2 then (if s.twin.evidence then 0 else s.twin.misses + 1) else s.twin.misses)) ∧
    (clocked s = true → s.pipe.running = false ∨ s.pipe.retPassed = false ∨ s.pipe.maskPassed = true ∨ s.rd TWIN_STATUS_STATE = 0 → exec .maskWaitEnd s = .next s) ∧
    (clocked s = true → verdict.val = 0 → s.rd TWIN_STATUS_STATE = 3 → ∃ t, exec (.mismatchNoticeReceive ring pos verdict) s = .next t ∧
      t.on TWIN_STATUS_MISMATCH = true ∧ t.rd TWIN_MIS_CNT_COUNT = (s.rd TWIN_MIS_CNT_COUNT + 1) % 2 ^ 32 ∧ t.rd TWIN_MIS_INFO_RING = ring ∧ t.rd TWIN_MIS_INFO_POS = pos ∧
      t.rd TWIN_MIS_INFO_CYCLE = s.rd SYS_CYCLE_COUNT % 2 ^ 16 ∧ t.rd TWIN_STATUS_STATE = 3) ∧
    (clocked s = true → verdict.val ≠ 0 → s.rd TWIN_CASC_CFG_ROLE = 1 → s.rd TWIN_STATUS_STATE = 3 → ∃ t, exec (.mismatchNoticeReceive ring pos verdict) s = .next t ∧
      t.on TWIN_STATUS_VERDICT_EV = true ∧ t.rd TWIN_REPLAY_VERDICT = verdict ∧ (verdict.val = 2 → t.twin.next = some (.drop 4))) ∧
    (clocked s = true → verdict.val ≠ 0 → s.rd TWIN_CASC_CFG_ROLE ≠ 1 → exec (.mismatchNoticeReceive ring pos verdict) s = .next (s)) ∧
    (clocked s = true → s.rd TWIN_STATUS_STATE = 0 ∨ s.pipe.running = false ∨ s.pipe.retPassed = true → exec (.statusForwardReceive r slots) s = .next s) ∧
    (clocked s = true → s.rd TWIN_STATUS_STATE ≠ 0 → s.pipe.running = true → s.pipe.retPassed = false → stat.present = true → processed s r p = true → ∃ t, exec (.statusForwardReceive r [(p.val, stat)]) s = .next t ∧
      findKey (t.ring r).relayed p = some stat ∧ t.rd RING_PRESENT_MASK r = (s.rd RING_PRESENT_MASK r ||| 2 ^ p.val) % 2 ^ 32 ∧
      RegsBut [RING_PRESENT_MASK.key r 0] s t ∧ t.entries = s.entries ∧ ∀ q, q ≠ r.val → t.ring q = s.ring q) ∧
    (clocked s = true → s.rd TWIN_STATUS_STATE ≠ 2 → s.rd TWIN_STATUS_STATE ≠ 3 → exec (.twinMeasDelivery values) s = .next s) ∧
    (clocked s = true → s.rd TWIN_STATUS_STATE = 3 → s.sig.meas = [(e, .adc a n v false run)] → s.on ADC_CFG_CUP_EN a = false → ∃ t, exec (.twinMeasDelivery values) s = .next t ∧
      t.fab = max s.fab e ∧ t.sig.meas = [] ∧ t.rd ADC_RESULT_VALUE a n = v % 2 ^ 24 ∧ t.rd ADC_RESULT_QUAL a n = 1 ∧ t.rd ADC_RESULT_RUN a n = run % 2 ^ 5) ∧
    (clocked s = true → s.twin.frozen = none → exec (.replayComplete) s = .next (s)) ∧
    (clocked s = true → s.twin.frozen = some x → ∃ t, exec (.replayComplete) s = .next t ∧
      t.rd TWIN_REPLAY_OWN_OK = b2n (replayDigest s x == x.outDigest) ∧ t.twin = { s.twin with ownResult := some (replayDigest s x == x.outDigest, x.armDigest), frozen := none } ∧
      RegsBut [TWIN_REPLAY_OWN_OK.key 0 0] s t ∧ t = { s with regs := t.regs, twin := t.twin }) ∧
    (clocked s = true → s.rd TWIN_STATUS_STATE = 2 → s.rd TWIN_CFG_LEASE_MISS ≤ s.twin.misses → s.rd TWIN_CASC_CFG_ROLE ≠ 2 → s.rd TWIN_HEALTH_OWN &&& s.twin.fatalMask = 0 → ∃ t, exec (.leaseExpiry) s = .next t ∧
      t.rd TWIN_STATUS_STATE = 3 ∧ t.rd TWIN_EPOCH_EPOCH = (s.rd TWIN_EPOCH_EPOCH + 1) % 2 ^ 16 ∧ t.on TWIN_STATUS_TAKEOVER = true ∧
      t.rd TWIN_TAKEOVERS_COUNT = (s.rd TWIN_TAKEOVERS_COUNT + 1) % 2 ^ 32 ∧ t.jrn.recovering = true ∧ t.jrn.takeover = true ∧
      t.on JOURNAL_STATUS_READY = false ∧ t.twin.misses = 0 ∧ t.on TWIN_STATUS_LEASE = true) ∧
    (clocked s = true → s.rd TWIN_STATUS_STATE ≠ 2 ∨ s.twin.misses < s.rd TWIN_CFG_LEASE_MISS ∨ s.rd TWIN_CASC_CFG_ROLE = 2 ∨ ¬(s.rd TWIN_HEALTH_OWN &&& s.twin.fatalMask = 0) → exec .leaseExpiry s = .next s) ∧
    (clocked s = true → s.twin.startEnd = none → exec (.twinStartTimeout) s = .next (s)) ∧
    (clocked s = true → s.twin.startEnd = some e → ∃ t, exec (.twinStartTimeout) s = .next t ∧
      t.rd TWIN_STATUS_STATE = 3 ∧ t.fab = max s.fab e ∧ t.twin.startEnd = none ∧ t.port.pinsHeld = false) ∧
    (clocked s = true → s.twin.grant ≠ some (s.rd SYS_CYCLE_COUNT) → exec (.handover) s = .next (s)) ∧
    (clocked s = true → s.twin.grant = some (s.rd SYS_CYCLE_COUNT) → s.rd TWIN_STATUS_STATE = 2 → s.rd TWIN_HEALTH_OWN &&& s.twin.fatalMask = 0 → ∃ t, exec (.handover) s = .next t ∧
      t.rd TWIN_STATUS_STATE = 3 ∧ t.rd TWIN_EPOCH_EPOCH = (s.rd TWIN_EPOCH_EPOCH + 1) % 2 ^ 16 ∧ t.on TWIN_STATUS_TAKEOVER = true ∧
      t.rd TWIN_TAKEOVERS_COUNT = (s.rd TWIN_TAKEOVERS_COUNT + 1) % 2 ^ 32 ∧ t.jrn.recovering = true ∧ t.jrn.takeover = true ∧
      t.on JOURNAL_STATUS_READY = false ∧ t.twin.misses = 0 ∧ t.on TWIN_STATUS_LEASE = s.on TWIN_STATUS_LEASE) ∧
    (clocked s = true → s.twin.grant = some (s.rd SYS_CYCLE_COUNT) → s.rd TWIN_STATUS_STATE = 3 → s.twin.ack = true → s.twin.selfFault = false → ∃ t, exec (.handover) s = .next t ∧
      t.rd TWIN_STATUS_STATE = 2 ∧ t.on TWIN_STATUS_LOST_TOKEN = true ∧ t.rd TWIN_TAKEOVERS_COUNT = (s.rd TWIN_TAKEOVERS_COUNT + 1) % 2 ^ 32 ∧
      t.rd TWIN_EPOCH_EPOCH = s.rd TWIN_EPOCH_EPOCH ∧ t.twin.grant = none) ∧
    (Accepts s req .twin 0 0x000 1 1 → s.rd TWIN_STATUS_STATE = 0 → s.twin.startEnd = none → s.rd TWIN_CTRL_PREFER = 0 → s.on TWIN_CTRL_UNIT = true → ∃ t, exec (.twinEnWrite req true) s = .next t ∧
      AnsweredOk t ∧ t.on TWIN_CTRL_EN = true ∧ t.rd TWIN_STATUS_STATE = 1 ∧ t.twin.copied = [] ∧ t.twin.syncDone = false ∧ t.port.pinsHeld = true) ∧
    (Accepts s req .twin 0 0x000 1 1 → s.rd TWIN_STATUS_STATE = 0 → s.twin.startEnd = none → s.rd TWIN_CTRL_PREFER = 1 + s.rd TWIN_CTRL_UNIT → ∃ t, exec (.twinEnWrite req true) s = .next t ∧
      AnsweredOk t ∧ t.on TWIN_CTRL_EN = true ∧ t.rd TWIN_STATUS_STATE = 0 ∧ t.twin = { s.twin with startEnd := some (s.fab + 16 * s.rd CAMPANILE_CYCLE_FAB) }) ∧
    (Accepts s req .twin 0 0x000 0 1 → s.rd TWIN_STATUS_STATE ≠ 0 → ∃ t, exec (.twinEnWrite req false) s = .next t ∧
      AnsweredOk t ∧ t.on TWIN_CTRL_EN = false ∧ t.rd TWIN_STATUS_STATE = 0 ∧ t.on TWIN_STATUS_REPLAYING = false ∧ t.on TWIN_STATUS_RELAY = false ∧ t.port.pinsHeld = false) ∧
    (Accepts s req .twin 0 0x000 16 16 → s.on TWIN_CTRL_EN = true → ∃ t, exec (.rejoin req) s = .next t ∧
      AnsweredOk t ∧ t.rd TWIN_STATUS_STATE = 1 ∧ t.twin.copied = [] ∧ t.twin.syncDone = false ∧ t.port.pinsHeld = true ∧ RegsBut [TWIN_STATUS_STATE.key 0 0] s t) ∧
    (Accepts s req .twin 0 0x000 32 32 → s.on TWIN_CTRL_EN = true → exec (.yieldToken req) s = .next ({ s.answer OK 0 with twin := { s.twin with yieldAsked := true } })) ∧
    (Accepts s req .twin 0 0x000 64 64 → s.on TWIN_CTRL_EN = true → exec (.syncDone req) s = .next ({ s.answer OK 0 with twin := { s.twin with syncDone := true } })) ∧
    (clocked s = true → s.rd TWIN_STATUS_STATE ≠ 1 ∨ s.on TWIN_STATUS_LINK = false → exec (.chaseCopyReceive item) s = .next s) ∧
    (clocked s = true → s.rd TWIN_STATUS_STATE = 1 → s.on TWIN_STATUS_LINK = true → ∃ t, exec (.chaseCopyReceive (.entry c bs)) s = .next t ∧
      t.entry (c % 4096) = (s.entry (c % 4096)).ofBytes bs ∧ ((s.entry (c % 4096)).ofBytes bs).user = (s.entry (c % 4096)).user ∧
      c % 4096 ∈ t.twin.copied ∧ (∀ y, y ≠ c % 4096 → t.entry y = s.entry y) ∧ t = { s with entries := t.entries, twin := t.twin }) ∧
    (clocked s = true → s.rd TWIN_STATUS_STATE ≠ 2 → exec (.relayCopyReceive r bytes) s = .next s) ∧
    (clocked s = true → s.rd TWIN_STATUS_STATE = 2 → firstDiff 0 ((ringCells s r).map (fun c => Cmd.ofBytes ((nats bytes).drop (4 * (c % 32))))) ((ringCells s r).map (fun c => (s.entry c).cmd)) = some d → ∃ t, exec (.relayCopyReceive r bytes) s = .next t ∧
      t.twin = { s.twin with mismatch := s.twin.mismatch.set r (nth 0 (ringCells s r) d % 32) } ∧ t = { s with twin := t.twin }) ∧
    (clocked s = true → s.rd TWIN_STATUS_STATE = 2 → ((ringCells s r).map (fun c => Cmd.ofBytes ((nats bytes).drop (4 * (c % 32))))) = ((ringCells s r).map (fun c => (s.entry c).cmd)) → exec (.relayCopyReceive r bytes) s = .next (s))

/-- For every state in which Keep runs and every write it accepts: a demand of function 1 or 2 activates Safe Gate Removal,
function 2 also withdraws and opens its relays; a valid ACK pulse or RELEASE releases when nothing refuses it and only then;
pairs, feedback contacts, follow timers and diagnostics latch their faults at their times; a withdrawal ramps, completes at
END or fails on the limit, the tolerance or time; every failed check enters SAFE_FAULT with its cause, all outputs off; a
configuration write changes only the staged copy, COMMIT applies it with its CRC, DISCARD drops it; UNLOCK compares digests,
counts failures and locks out after three; the log appends, clears and counts. -/
def Obligations.Keep : Prop :=
  ∀ (s : State) (req : Req) (mask : BitVec 8) (i : Fin 8) (m : Fin 4) (ms : BitVec 16) (e c : Nat) (no nc : Bool) (cause : BitVec 4) (o : BitVec 12)
    (data : BitVec 32),
    (keepUp s = true → i.val < 8 → bit mask.toNat i = true → kinFunc s i = 1 ∨ kinFunc s i = 2 → ∃ t, exec (.keepDemand mask) s = .next t ∧
      t.rd KEEP_INPUTS_DEMAND = (s.rd KEEP_INPUTS_DEMAND ||| mask.toNat) % 2 ^ 8 ∧ t.on KEEP_STATUS_DEMAND = true ∧ t.on KEEP_STATUS_SGR = true ∧ t.gcs.keepReq = true ∧
      (kinFunc s i = 2 → t.on KEEP_STATUS_WITHDRAWN = true ∧ ∀ j < 4, bit (s.rd KEEP_SGR_CFG_W_RELAYS) j = true → bit (t.rd KEEP_OUTPUTS_RELAY) j = false)) ∧
    (keepUp s = true → ∀ j < 8, bit mask.toNat j = true → ¬(1 ≤ kinFunc s j ∧ kinFunc s j ≤ 3) → ∃ t, exec (.keepDemand mask) s = .next t ∧
      t.rd KEEP_INPUTS_DEMAND = (s.rd KEEP_INPUTS_DEMAND ||| mask.toNat) % 2 ^ 8 ∧ RegsBut [KEEP_INPUTS_DEMAND.key 0 0, KEEP_INPUTS_RAW.key 0 0] s t ∧ t.gcs = s.gcs) ∧
    (keepUp s = true → ∃ t, exec (.keepDemandRelease mask) s = .next t ∧
      t.rd KEEP_INPUTS_DEMAND = (s.rd KEEP_INPUTS_DEMAND &&& (0xFF ^^^ mask.toNat)) % 2 ^ 8 ∧
      t.rd KEEP_INPUTS_RAW = (s.rd KEEP_INPUTS_RAW ||| mask.toNat) % 2 ^ 8 ∧ RegsBut [KEEP_INPUTS_DEMAND.key 0 0, KEEP_INPUTS_RAW.key 0 0] s t ∧ t.gcs = s.gcs) ∧
    (keepUp s = true → kinFunc s i ≠ 4 ∨ ms.toNat < 50 ∨ 2000 < ms.toNat → exec (.keepAckPulse i ms) s = .next (s)) ∧
    (keepUp s = true → kinFunc s i = 4 → kinPaired s i = false → 50 ≤ ms.toNat → ms.toNat ≤ 2000 → releaseCodes s = [] → ∃ t, exec (.keepAckPulse i ms) s = .next t ∧
      t.on KEEP_STATUS_SGR = false ∧ t.on KEEP_STATUS_WITHDRAWN = false ∧ t.rd KEEP_OUTPUTS_KGEN = 3 ∧ t.rd KEEP_OUTPUTS_RELAY = 15 ∧ t.gcs.keepReq = false ∧ t.keep.pairFault = 0) ∧
    (keepUp s = true → kinFunc s i = 4 → kinPaired s i = false → 50 ≤ ms.toNat → ms.toNat ≤ 2000 → releaseCodes s ≠ [] → ∃ t, exec (.keepAckPulse i ms) s = .next t ∧
      t.regs = s.regs ∧ t.gcs = s.gcs ∧ t = { s with keep := t.keep }) ∧
    (keepUp s = true → findKey s.keep.disagree m = none ∨ kinPaired s (2 * m) = false → exec (.keepPairFault m) s = .next (s)) ∧
    (keepUp s = true → findKey s.keep.disagree m = some e → kinPaired s (2 * m) = true → ∃ t, exec (.keepPairFault m) s = .next t ∧
      t.on KEEP_STATUS_PAIR_FAULT = true ∧ t.keep.pairFault = s.keep.pairFault ||| 2 ^ m.val ∧ t.keep.pairBlocks = s.keep.pairBlocks ||| 2 ^ m.val ∧
      t.fab = max s.fab (e + s.rd KEEP_KIN_DISC 0 (2 * m) * MS)) ∧
    (KeepAccepts s req 0x000 1 1 → ∃ t, exec (.keepRelease req) s = .next t ∧
      AnsweredOk t ∧ t.on KEEP_STATUS_SGR = false ∧ t.on KEEP_STATUS_WITHDRAWN = false ∧ t.rd KEEP_OUTPUTS_KGEN = 3 ∧ t.rd KEEP_OUTPUTS_RELAY = 15 ∧ t.gcs.keepReq = false ∧ t.keep.pairFault = 0) ∧
    (KeepAccepts s req 0x000 2 2 → s.on KEEP_STATUS_SPW = false → s.on KEEP_STATUS_SGR = true → ∃ t, exec (.keepSpwReq req) s = .next t ∧
      AnsweredOk t ∧ t.on KEEP_STATUS_WITHDRAWN = true ∧ t.on KEEP_STATUS_SGR = true ∧ t.on KEEP_STATUS_SPW = false ∧ t.gcs.keepReq = true) ∧
    (KeepAccepts s req 0x000 2 2 → s.on KEEP_STATUS_SPW = false → s.on KEEP_STATUS_SGR = false → s.on ADC_PLAUS_EN 0 = true → ∃ t, exec (.keepSpwReq req) s = .next t ∧
      AnsweredOk t ∧ t.on KEEP_STATUS_SPW = true ∧ t.on KEEP_STATUS_DEMAND = true ∧ t.keep.rampStart = s.fab ∧ t.keep.doneRun = 0 ∧
      t.rd KEEP_RAMP_NOW_LIMIT = s.rd KEEP_RAMP_START_V % 2 ^ 24 ∧ t.gcs = s.gcs) ∧
    (KeepAccepts s req 0x000 2 2 → s.on KEEP_STATUS_SPW = false → s.on KEEP_STATUS_SGR = false → s.on ADC_PLAUS_EN 0 = false → ∃ t, exec (.keepSpwReq req) s = .next t ∧
      AnsweredOk t ∧ t.on KEEP_STATUS_RAMP_FAIL = true ∧ t.on KEEP_STATUS_WITHDRAWN = true ∧ t.on KEEP_STATUS_SGR = true ∧ t.on KEEP_STATUS_SPW = false ∧ t.gcs.keepReq = true) ∧
    (KeepAccepts s req 0x000 2 2 → s.on KEEP_STATUS_SPW = true → exec (.keepSpwReq req) s = .next (s.answer OK 0)) ∧
    (KeepAccepts s req 0x000 4 4 → s.on KEEP_STATUS_SPW = false → ∃ t, exec (.keepSgrReq req) s = .next t ∧
      AnsweredOk t ∧ t.on KEEP_STATUS_DEMAND = true ∧ t.on KEEP_STATUS_SGR = true ∧ t.gcs.keepReq = true ∧
      t.rd KEEP_OUTPUTS_KGEN = (if s.on KEEP_SGR_CFG_CHOP_KEEP && !(s.on KEEP_STATUS_SAFE_FAULT) then s.rd KEEP_OUTPUTS_KGEN &&& 2 else 0)) ∧
    (KeepAccepts s req 0x000 4 4 → s.on KEEP_STATUS_SPW = true → ∃ t, exec (.keepSgrReq req) s = .next t ∧
      AnsweredOk t ∧ t.on KEEP_STATUS_DEMAND = true ∧ t.on KEEP_STATUS_WITHDRAWN = true ∧ t.on KEEP_STATUS_SGR = true ∧ t.on KEEP_STATUS_SPW = false ∧ t.gcs.keepReq = true) ∧
    (keepUp s = true → s.on KEEP_STATUS_SPW = false ∨ s.keep.freshA = false ∨ s.keep.freshB = false → exec (.keepRampCompare) s = .next (s)) ∧
    (keepUp s = true → s.on KEEP_STATUS_SPW = true → s.keep.freshA = true → s.keep.freshB = true → (max (sx 24 (s.sig.own.get 0 (s.rd ADC_PLAUS_ENT_A 0)) * ((8 / adcGain s 0 (s.rd ADC_PLAUS_ENT_A 0) : Nat) : Int)).natAbs (sx 24 (s.sig.own.get 0 (16 + (s.rd ADC_PLAUS_ENT_B 0))) * ((8 / adcGain s 1 (s.rd ADC_PLAUS_ENT_B 0) : Nat) : Int)).natAbs) ≤ s.rd KEEP_RAMP_END_V → s.rd KEEP_RAMP_CNT_CNT ≤ s.keep.doneRun + 1 → ∃ t, exec (.keepRampCompare) s = .next t ∧
      t.rd KEEP_MON_M = (max (sx 24 (s.sig.own.get 0 (s.rd ADC_PLAUS_ENT_A 0)) * ((8 / adcGain s 0 (s.rd ADC_PLAUS_ENT_A 0) : Nat) : Int)).natAbs (sx 24 (s.sig.own.get 0 (16 + (s.rd ADC_PLAUS_ENT_B 0))) * ((8 / adcGain s 1 (s.rd ADC_PLAUS_ENT_B 0) : Nat) : Int)).natAbs) % 2 ^ 24 ∧ t.rd KEEP_RAMP_NOW_LIMIT = rampNow s % 2 ^ 24 ∧
      t.on KEEP_STATUS_WITHDRAWN = true ∧ t.on KEEP_STATUS_SGR = true ∧ t.on KEEP_STATUS_SPW = false ∧ t.gcs.keepReq = true ∧ t.on KEEP_STATUS_RAMP_FAIL = s.on KEEP_STATUS_RAMP_FAIL ∧ t.keep.freshA = false ∧ t.keep.freshB = false) ∧
    (keepUp s = true → s.on KEEP_STATUS_SPW = true → s.keep.freshA = true → s.keep.freshB = true → s.rd KEEP_RAMP_END_V < (max (sx 24 (s.sig.own.get 0 (s.rd ADC_PLAUS_ENT_A 0)) * ((8 / adcGain s 0 (s.rd ADC_PLAUS_ENT_A 0) : Nat) : Int)).natAbs (sx 24 (s.sig.own.get 0 (16 + (s.rd ADC_PLAUS_ENT_B 0))) * ((8 / adcGain s 1 (s.rd ADC_PLAUS_ENT_B 0) : Nat) : Int)).natAbs) → rampNow s < (max (sx 24 (s.sig.own.get 0 (s.rd ADC_PLAUS_ENT_A 0)) * ((8 / adcGain s 0 (s.rd ADC_PLAUS_ENT_A 0) : Nat) : Int)).natAbs (sx 24 (s.sig.own.get 0 (16 + (s.rd ADC_PLAUS_ENT_B 0))) * ((8 / adcGain s 1 (s.rd ADC_PLAUS_ENT_B 0) : Nat) : Int)).natAbs) → 1 ≤ s.rd KEEP_RAMP_CNT_CNT → s.rd KEEP_RAMP_CNT_CNT ≤ s.keep.highRun + 1 → ∃ t, exec (.keepRampCompare) s = .next t ∧
      t.on KEEP_STATUS_RAMP_FAIL = true ∧ t.on KEEP_STATUS_WITHDRAWN = true ∧ t.on KEEP_STATUS_SGR = true ∧ t.on KEEP_STATUS_SPW = false ∧ t.gcs.keepReq = true) ∧
    (keepUp s = true → s.on KEEP_STATUS_SPW = true → s.keep.freshA = true → s.keep.freshB = true → s.rd KEEP_RAMP_END_V < (max (sx 24 (s.sig.own.get 0 (s.rd ADC_PLAUS_ENT_A 0)) * ((8 / adcGain s 0 (s.rd ADC_PLAUS_ENT_A 0) : Nat) : Int)).natAbs (sx 24 (s.sig.own.get 0 (16 + (s.rd ADC_PLAUS_ENT_B 0))) * ((8 / adcGain s 1 (s.rd ADC_PLAUS_ENT_B 0) : Nat) : Int)).natAbs) → (max (sx 24 (s.sig.own.get 0 (s.rd ADC_PLAUS_ENT_A 0)) * ((8 / adcGain s 0 (s.rd ADC_PLAUS_ENT_A 0) : Nat) : Int)).natAbs (sx 24 (s.sig.own.get 0 (16 + (s.rd ADC_PLAUS_ENT_B 0))) * ((8 / adcGain s 1 (s.rd ADC_PLAUS_ENT_B 0) : Nat) : Int)).natAbs) ≤ rampNow s → ((sx 24 (s.sig.own.get 0 (s.rd ADC_PLAUS_ENT_A 0)) * ((8 / adcGain s 0 (s.rd ADC_PLAUS_ENT_A 0) : Nat) : Int)) - (sx 24 (s.sig.own.get 0 (16 + (s.rd ADC_PLAUS_ENT_B 0))) * ((8 / adcGain s 1 (s.rd ADC_PLAUS_ENT_B 0) : Nat) : Int))).natAbs ≤ s.rd KEEP_RAMP_CNT_MON_TOL → 1 ≤ s.rd KEEP_RAMP_CNT_CNT → ∃ t, exec (.keepRampCompare) s = .next t ∧
      t.on KEEP_STATUS_SPW = true ∧ t.keep.doneRun = 0 ∧ t.keep.highRun = 0 ∧ t.keep.diffRun = 0 ∧ t.keep.rampPair = s.fab ∧ t.gcs = s.gcs) ∧
    (keepUp s = true → s.on KEEP_STATUS_SPW = false → exec (.keepRampTimeout) s = .next (s)) ∧
    (keepUp s = true → s.on KEEP_STATUS_SPW = true → ∃ t, exec (.keepRampTimeout) s = .next t ∧
      t.on KEEP_STATUS_RAMP_FAIL = true ∧ t.on KEEP_STATUS_WITHDRAWN = true ∧ t.on KEEP_STATUS_SGR = true ∧ t.on KEEP_STATUS_SPW = false ∧ t.gcs.keepReq = true ∧
      t.fab = max s.fab (min (s.keep.rampPair + MS) (s.keep.rampStart + (s.rd KEEP_RAMP_T_T + s.rd KEEP_RAMP_T_GRACE) * MS))) ∧
    (keepUp s = true → ∃ t, exec (.keepFeedbackChange m no nc) s = .next t ∧
      fbState t m = fbCode no nc ∧ (∀ j < 4, j ≠ m.val → fbState t j = fbState s j) ∧
      RegsBut [KEEP_FBSTATE_STATE.key 0 0, KEEP_INPUTS_FB.key 0 0] s t ∧ t.gcs = s.gcs) ∧
    (keepUp s = true → findKey s.keep.discSince m = none ∨ s.on KEEP_FBPAIR_EN 0 m = false → exec (.keepFbDiscrepancy m) s = .next (s)) ∧
    (keepUp s = true → findKey s.keep.discSince m = some e → s.on KEEP_FBPAIR_EN 0 m = true → ∃ t, exec (.keepFbDiscrepancy m) s = .next t ∧
      t.on KEEP_STATUS_FB_FAULT = true ∧ t.keep.fbFault = s.keep.fbFault ||| 2 ^ m.val ∧ t.fab = max s.fab (e + s.rd KEEP_FBPAIR_DISC_T 0 m * MS) ∧
      (s.on KEEP_FBPAIR_ESC 0 m = true → t.on KEEP_STATUS_DEMAND = true ∧ t.on KEEP_STATUS_SGR = true ∧ t.gcs.keepReq = true) ∧ (s.on KEEP_FBPAIR_ESC 0 m = false → t.gcs = s.gcs)) ∧
    (keepUp s = true → findKey s.keep.follow m = none → exec (.keepFollowTimeout m) s = .next (s)) ∧
    (keepUp s = true → findKey s.keep.follow m = some e → ∃ t, exec (.keepFollowTimeout m) s = .next t ∧
      t.on KEEP_STATUS_FOLLOW_FAULT = true ∧ t.fab = max s.fab e ∧ RegsBut [KEEP_STATUS_FOLLOW_FAULT.key 0 0, CAMPANILE_STATUS_SLEWING.key 0 0] s t ∧ t.gcs = s.gcs) ∧
    (keepUp s = true → 1 ≤ cause.toNat → cause.toNat ≤ 8 → s.on KEEP_STATUS_SAFE_FAULT = false → ∃ t, exec (.safeFault cause) s = .next t ∧
      t.on KEEP_STATUS_SAFE_FAULT = true ∧ t.rd KEEP_STATUS_FAULT_CAUSE = cause.toNat ∧ t.on KEEP_STATUS_SGR = true ∧ t.on KEEP_STATUS_SPW = false ∧ t.rd KEEP_OUTPUTS_RELAY = 0 ∧ t.rd KEEP_OUTPUTS_KGEN = 0 ∧ t.gcs.keepReq = true) ∧
    (keepUp s = true → cause.toNat = 0 ∨ 8 < cause.toNat ∨ s.on KEEP_STATUS_SAFE_FAULT = true → exec (.safeFault cause) s = .next (s)) ∧
    (keepUp s = true → exec (.keepRelayTest i true) s = .next (s)) ∧
    (keepUp s = true → s.on KEEP_STATUS_SAFE_FAULT = false → ∃ t, exec (.keepRelayTest i false) s = .next t ∧
      t.on KEEP_STATUS_SAFE_FAULT = true ∧ t.rd KEEP_STATUS_FAULT_CAUSE = 5 ∧ t.on KEEP_STATUS_SGR = true ∧ t.on KEEP_STATUS_SPW = false ∧ t.rd KEEP_OUTPUTS_RELAY = 0 ∧ t.rd KEEP_OUTPUTS_KGEN = 0 ∧ t.gcs.keepReq = true) ∧
    (keepUp s = true → exec (.keepInputTest i true) s = .next (s)) ∧
    (keepUp s = true → s.on KEEP_STATUS_SAFE_FAULT = false → ∃ t, exec (.keepInputTest i false) s = .next t ∧
      t.on KEEP_STATUS_SAFE_FAULT = true ∧ t.rd KEEP_STATUS_FAULT_CAUSE = 7 ∧ t.on KEEP_STATUS_SGR = true ∧ t.on KEEP_STATUS_SPW = false ∧ t.rd KEEP_OUTPUTS_RELAY = 0 ∧ t.rd KEEP_OUTPUTS_KGEN = 0 ∧ t.gcs.keepReq = true) ∧
    (keepUp s = true → s.keep.crc = none ∨ s.keep.crc = some (appliedCrc s) → exec (.keepConfigCheck) s = .next (s)) ∧
    (keepUp s = true → s.keep.crc = some c → c ≠ appliedCrc s → s.on KEEP_STATUS_SAFE_FAULT = false → ∃ t, exec (.keepConfigCheck) s = .next t ∧
      t.on KEEP_STATUS_SAFE_FAULT = true ∧ t.rd KEEP_STATUS_FAULT_CAUSE = 1 ∧ t.on KEEP_STATUS_SGR = true ∧ t.on KEEP_STATUS_SPW = false ∧ t.rd KEEP_OUTPUTS_RELAY = 0 ∧ t.rd KEEP_OUTPUTS_KGEN = 0 ∧ t.gcs.keepReq = true) ∧
    (KeepAccepts s req (o.toNat - o.toNat % 4) data.toNat 0xFFFFFFFF → keepConfigOffs.contains (o.toNat - o.toNat % 4) = true → ∃ t, exec (.keepConfigWrite req o data) s = .next t ∧
      AnsweredOk t ∧ t.regs = s.regs ∧
      (∀ g ∈ keepConfigFields, ∀ j < g.cnt, keepStaged t g j = if g.off + j * g.sub = o.toNat - o.toNat % 4 then bits data.toNat g.lsb g.width else keepStaged s g j)) ∧
    (KeepAccepts s req 0x210 1 1 → s.on KEEP_CFG_STATUS_LOCKOUT = false → sha384 (passBytes s) = storedDigest s → ∃ t, exec (.keepUnlock req) s = .next t ∧
      AnsweredOk t ∧ t.on KEEP_CFG_STATUS_UNLOCKED = true ∧ t.rd KEEP_CFG_STATUS_PORT = (if req = .host then 1 else 0) ∧ t.rd KEEP_CFG_STATUS_FAILS = 0 ∧
      t.keep = { s.keep with unlockEnd := s.fab + 300000 * MS }) ∧
    (KeepAccepts s req 0x210 1 1 → s.on KEEP_CFG_STATUS_LOCKOUT = false → sha384 (passBytes s) ≠ storedDigest s → s.rd KEEP_CFG_STATUS_FAILS < 2 → ∃ t, exec (.keepUnlock req) s = .next t ∧
      t.reply = ⟨E_AUTH, 0, false⟩ ∧ t.on KEEP_CFG_STATUS_UNLOCKED = s.on KEEP_CFG_STATUS_UNLOCKED ∧ t.rd KEEP_CFG_STATUS_FAILS = s.rd KEEP_CFG_STATUS_FAILS + 1 ∧
      t.on KEEP_CFG_STATUS_LOCKOUT = false) ∧
    (KeepAccepts s req 0x210 1 1 → s.on KEEP_CFG_STATUS_LOCKOUT = false → sha384 (passBytes s) ≠ storedDigest s → 2 ≤ s.rd KEEP_CFG_STATUS_FAILS → ∃ t, exec (.keepUnlock req) s = .next t ∧
      t.reply = ⟨E_AUTH, 0, false⟩ ∧ t.on KEEP_CFG_STATUS_UNLOCKED = s.on KEEP_CFG_STATUS_UNLOCKED ∧ t.rd KEEP_CFG_STATUS_FAILS = 3 ∧ t.on KEEP_CFG_STATUS_LOCKOUT = true ∧
      t.keep.lockoutEnd = s.fab + 60000 * MS) ∧
    (KeepAccepts s req 0x210 1 1 → s.on KEEP_CFG_STATUS_LOCKOUT = true → ∃ t, exec (.keepUnlock req) s = .next t ∧
      t.reply = ⟨E_AUTH, 0, false⟩ ∧ t.on KEEP_CFG_STATUS_UNLOCKED = s.on KEEP_CFG_STATUS_UNLOCKED ∧ t.keep = s.keep) ∧
    (KeepAccepts s req 0x210 2 2 → (s.staged.map Prod.fst).Nodup → (∀ g ∈ keepConfigFields, ∀ j < g.cnt, ∀ x ∈ findKey s.staged (g.key 0 j), x.cls = .commit) → ∃ t, exec (.keepCommit req) s = .next t ∧
      AnsweredOk t ∧ t.on KEEP_CFG_STATUS_UNLOCKED = false ∧ (∀ g ∈ keepConfigFields, ∀ j < g.cnt, t.rd g 0 j = keepStaged s g j ∧ keepStaged t g j = t.rd g 0 j) ∧
      t.keep.crc = some (appliedCrc t) ∧ t.keep.log.length = s.keep.log.length + 1) ∧
    (KeepAccepts s req 0x210 4 4 → ∃ t, exec (.keepDiscard req) s = .next t ∧
      AnsweredOk t ∧ t.on KEEP_CFG_STATUS_UNLOCKED = false ∧ RegsBut [KEEP_CFG_STATUS_UNLOCKED.key 0 0] s t ∧
      t.staged = s.staged.filter (fun x => x.2.cls != .commit) ∧ t.keep = s.keep) ∧
    (KeepAccepts s req 0x210 8 8 → ∃ t, exec (.keepLock req) s = .next t ∧
      AnsweredOk t ∧ t.on KEEP_CFG_STATUS_UNLOCKED = false ∧ RegsBut [KEEP_CFG_STATUS_UNLOCKED.key 0 0] s t ∧ t.staged = s.staged ∧ t.keep = s.keep) ∧
    (KeepAccepts s req 0x210 16 16 → ∃ t, exec (.keepSetpass req) s = .next t ∧
      AnsweredOk t ∧ t.keep.digest = (if (passBytes s).all (· == 0) then none else some (sha384 (passBytes s))) ∧
      t.keep.log.length = s.keep.log.length + 1 ∧ t.on KEEP_CFG_STATUS_UNLOCKED = s.on KEEP_CFG_STATUS_UNLOCKED) ∧
    (KeepAccepts s req 0x210 32 32 → ∃ t, exec (.keepLogClear req) s = .next t ∧
      AnsweredOk t ∧ (∃ r, t.keep.log = [r] ∧ r.kind = 5 ∧ r.seq = s.keep.nextSeq) ∧ t.rd KEEP_LOG_LEVEL_N = 1 ∧ t.keep.nextSeq = (s.keep.nextSeq + 1) % 2 ^ 32) ∧
    (keepUp s = true → s.on KEEP_CFG_STATUS_UNLOCKED = false → exec (.keepUnlockExpiry) s = .next (s)) ∧
    (keepUp s = true → s.on KEEP_CFG_STATUS_UNLOCKED = true → ∃ t, exec (.keepUnlockExpiry) s = .next t ∧
      t.on KEEP_CFG_STATUS_UNLOCKED = false ∧ t.fab = max s.fab s.keep.unlockEnd ∧ t.staged = s.staged ∧ t.keep = s.keep) ∧
    (keepUp s = true → s.on KEEP_CFG_STATUS_LOCKOUT = false → exec (.keepLockoutEnd) s = .next (s)) ∧
    (keepUp s = true → s.on KEEP_CFG_STATUS_LOCKOUT = true → ∃ t, exec (.keepLockoutEnd) s = .next t ∧
      t.on KEEP_CFG_STATUS_LOCKOUT = false ∧ t.rd KEEP_CFG_STATUS_FAILS = 0 ∧ t.fab = max s.fab s.keep.lockoutEnd ∧ t.keep = s.keep)

/-- For every state: an accepted request begins an entry or queues; a wake request or wake event leaves Idle, Doze, Sleep or
Hibernate, aborts an entry into Idle or Doze and otherwise waits for the abort point; the entry steps pass in order to the
state named, closing the journal, draining Belfry, stopping FAB and the enables; a failed E2 returns to Run; an exit ends in
Run with WAKE; pins, alarm, wake port and host latch their source only where enabled; the supply events set their flags; a
brown-out and each reset source clear the device but what a reset keeps, with its cause counted; the PLL locks only on an
accepted reference; the watchdog restarts on a kick and resets on expiry; the release samples REFSEL and carries or loses the
time. -/
def Obligations.PowerAndReset : Prop :=
  ∀ (s : State) (req : Req) (st : Fin 5) (n : Nat) (good : Bool) (ticks : BitVec 64) (pin : Fin 4) (rise : Bool) (read : Bool) (addr : BitVec 7)
    (mv : BitVec 12) (above : Bool) (band : Fin 32) (ref10 : Bool),
    (Accepts s req .lantern 0 0x000 0 7 → s.rd LANTERN_STATUS_STATE = 0 → s.lant.step = 0 → exec (.lanternWakeRequest req) s = .next (s.answer OK 0)) ∧
    (Accepts s req .lantern 0 0x000 0 7 → s.rd LANTERN_STATUS_STATE ≠ 0 → s.lant.step = 0 → s.on LANTERN_STATUS_BUSY = false → ∃ t, exec (.lanternWakeRequest req) s = .next t ∧
      AnsweredOk t ∧ t.on LANTERN_STATUS_BUSY = true ∧ t.rd LANTERN_STATUS_TARGET = 0 ∧ t.lant.wake = true ∧ t.lant.penMain = true ∧ t.lant.penSer = true ∧ t.lant.penA = true) ∧
    (Accepts s req .lantern 0 0x000 0 7 → 0 < s.lant.step → s.rd LANTERN_STATUS_TARGET ≤ 2 → ∃ t, exec (.lanternWakeRequest req) s = .next t ∧
      AnsweredOk t ∧ t.rd LANTERN_STATUS_STATE = 0 ∧ t.on LANTERN_STATUS_BUSY = false ∧ t.rd LANTERN_STATUS_QUEUED = 0 ∧ t.rd LANTERN_STATUS_LAST = 1 ∧
      t.on LANTERN_STATUS_REQ_DONE = true ∧ t.jrn.shut = false ∧ t.lant.step = 0 ∧ t.on LANTERN_STATUS_WAKE = true) ∧
    (Accepts s req .lantern 0 0x000 0 7 → 0 < s.lant.step → 2 < s.rd LANTERN_STATUS_TARGET → ∃ t, exec (.lanternWakeRequest req) s = .next t ∧
      AnsweredOk t ∧ t.lant = { s.lant with wake := true } ∧ t.rd LANTERN_STATUS_QUEUED = 0 ∧ RegsBut [LANTERN_STATUS_QUEUED.key 0 0] s t) ∧
    (Accepts s req .lantern 0 0x000 st.val 7 → st.val ≠ 0 → s.on LANTERN_STATUS_BUSY = false → ∃ t, exec (.lanternStateRequest req st) s = .next t ∧
      AnsweredOk t ∧ t.on LANTERN_STATUS_BUSY = true ∧ t.rd LANTERN_STATUS_TARGET = st.val ∧ t.rd LANTERN_STATUS_QUEUED = 0 ∧ t.rd LANTERN_STATUS_STATE = s.rd LANTERN_STATUS_STATE ∧
      t.lant = { s.lant with step := if st.val ≤ 2 then 1 else 2 }) ∧
    (Accepts s req .lantern 0 0x000 st.val 7 → st.val ≠ 0 → s.on LANTERN_STATUS_BUSY = true → ∃ t, exec (.lanternStateRequest req st) s = .next t ∧
      AnsweredOk t ∧ t.rd LANTERN_STATUS_QUEUED = st.val ∧ RegsBut [LANTERN_STATUS_QUEUED.key 0 0] s t ∧ t.lant = s.lant) ∧
    (Accepts s req .lantern 0 0x000 7 7 → autoChoice s = none → ∃ t, exec (.lanternAutoRequest req) s = .next t ∧
      AnsweredOk t ∧ t.rd LANTERN_STATUS_LAST = 2 ∧ t.on LANTERN_STATUS_REQ_DONE = true ∧ t.lant = s.lant ∧
      RegsBut [LANTERN_STATUS_LAST.key 0 0, LANTERN_STATUS_REQ_DONE.key 0 0] s t) ∧
    (Accepts s req .lantern 0 0x000 7 7 → autoChoice s = some n → n ≤ 4 → s.on LANTERN_STATUS_BUSY = false → ∃ t, exec (.lanternAutoRequest req) s = .next t ∧
      AnsweredOk t ∧ t.on LANTERN_STATUS_BUSY = true ∧ t.rd LANTERN_STATUS_TARGET = n ∧ t.rd LANTERN_STATUS_QUEUED = 0 ∧ t.rd LANTERN_STATUS_STATE = s.rd LANTERN_STATUS_STATE) ∧
    (s.lant.step = 0 ∨ 5 < s.lant.step → exec (.entryStepDone good) s = .next s) ∧
    (s.lant.step = 1 → s.rd LANTERN_STATUS_TARGET ≤ 2 → s.lant.wake = false → s.rd LANTERN_STATUS_QUEUED = 0 → ∃ t, exec (.entryStepDone good) s = .next t ∧
      t.rd LANTERN_STATUS_STATE = s.rd LANTERN_STATUS_TARGET ∧ t.rd LANTERN_STATUS_TARGET = 0 ∧ t.on LANTERN_STATUS_BUSY = false ∧ t.rd LANTERN_STATUS_LAST = 0 ∧
      t.on LANTERN_STATUS_REQ_DONE = true ∧ t.lant.step = 0 ∧ t.lant.coreStop.isSome = true) ∧
    (s.lant.step = 2 → s.lant.wake = false → ∃ t, exec (.entryStepDone true) s = .next t ∧
      t.lant.step = 3 ∧ t.jrn.shut = true ∧ t.rd LANTERN_STATUS_STATE = s.rd LANTERN_STATUS_STATE) ∧
    (s.lant.step = 2 → ∃ t, exec (.entryStepDone false) s = .next t ∧
      t.rd LANTERN_STATUS_STATE = 0 ∧ t.on LANTERN_STATUS_BUSY = false ∧ t.rd LANTERN_STATUS_QUEUED = 0 ∧ t.rd LANTERN_STATUS_LAST = 3 ∧
      t.on LANTERN_STATUS_REQ_DONE = true ∧ t.jrn.shut = false ∧ t.lant.step = 0) ∧
    (s.lant.step = 3 → s.lant.wake = false → ∃ t, exec (.entryStepDone good) s = .next t ∧
      t.lant.step = 4 ∧ t.bel.res = [] ∧ t.rd LANTERN_STATUS_STATE = s.rd LANTERN_STATUS_STATE) ∧
    (s.lant.step = 3 → s.lant.wake = true → ∃ t, exec (.entryStepDone good) s = .next t ∧
      t.rd LANTERN_STATUS_STATE = 0 ∧ t.on LANTERN_STATUS_BUSY = false ∧ t.rd LANTERN_STATUS_QUEUED = 0 ∧ t.rd LANTERN_STATUS_LAST = 1 ∧
      t.on LANTERN_STATUS_REQ_DONE = true ∧ t.jrn.shut = false ∧ t.lant.step = 0 ∧ t.on LANTERN_STATUS_WAKE = true) ∧
    (s.lant.step = 4 → ∃ t, exec (.entryStepDone good) s = .next t ∧
      t.lant.step = 5 ∧ t.on SYS_CLK_STATUS_LOCK = false ∧ t.on CAMPANILE_TICK_CTRL_EN = false ∧ t.pipe.running = false ∧ t.lant.ref.isSome = true) ∧
    (s.lant.step = 5 → s.rd LANTERN_STATUS_TARGET = 3 ∨ s.rd LANTERN_STATUS_TARGET = 4 → s.lant.wake = false → s.rd LANTERN_STATUS_QUEUED = 0 → ∃ t, exec (.entryStepDone good) s = .next t ∧
      t.rd LANTERN_STATUS_STATE = s.rd LANTERN_STATUS_TARGET ∧ t.on LANTERN_STATUS_BUSY = false ∧ t.rst.pgood = false ∧ t.lant.penSer = false ∧ t.lant.penA = false ∧
      t.lant.penMain = (s.lant.penMain && s.rd LANTERN_STATUS_TARGET != 4) ∧ (s.rd LANTERN_STATUS_TARGET = 4 → ∀ a, inMram a = false → memGet t.bytes a = 0)) ∧
    (s.lant.step ≠ 0 ∨ exitReady s = false → exec (.lanternExitComplete ticks) s = .next s) ∧
    (s.lant.step = 0 → s.lant.wake = true → s.rd LANTERN_STATUS_STATE = 1 ∨ s.rd LANTERN_STATUS_STATE = 2 → s.rd LANTERN_STATUS_QUEUED = 0 → s.lant.portHeld = none → ∃ t, exec (.lanternExitComplete ticks) s = .next t ∧
      t.rd LANTERN_STATUS_STATE = 0 ∧ t.on LANTERN_STATUS_WAKE = true ∧ t.on LANTERN_STATUS_BUSY = false ∧ t.lant.wake = false ∧
      t.lant.coreStop = none ∧ t.jrn.shut = false) ∧
    (s.lant.step = 0 → s.lant.wake = true → s.rd LANTERN_STATUS_STATE = 3 → clocked s = true → s.rst.pgood = true → s.rd LANTERN_STATUS_QUEUED = 0 → s.lant.portHeld = none → ∃ t, exec (.lanternExitComplete ticks) s = .next t ∧
      t.rd LANTERN_STATUS_STATE = 0 ∧ t.on LANTERN_STATUS_WAKE = true ∧ t.lant.wake = false ∧ t.lant.ref = none ∧ t.gcs.keepReq = true ∧
      t.on KEEP_STATUS_SGR = true ∧ t.keep.digest = s.keep.digest) ∧
    (clocked s = true → bit (s.rd LANTERN_WAKE_CFG_EDGE) (2 * pin + if rise then 0 else 1) = false → exec (.lwakeEdge pin rise ticks) s = .next s) ∧
    (clocked s = true → bit (s.rd LANTERN_WAKE_CFG_EDGE) (2 * pin + if rise then 0 else 1) = true → bit (s.rd LANTERN_WAKE_EN_EN) pin = true → s.rd LANTERN_STATUS_STATE = 0 → s.lant.step = 0 → ∃ t, exec (.lwakeEdge pin rise ticks) s = .next t ∧
      t.rd LANTERN_WAKE_SRC_SRC = (s.rd LANTERN_WAKE_SRC_SRC ||| 2 ^ pin.val) % 2 ^ 8 ∧ t.rd LANTERN_WAKE_TICK_TICK = (if s.rd LANTERN_WAKE_SRC_SRC = 0 then tickNow s else s.rd LANTERN_WAKE_TICK_TICK) ∧
      RegsBut [LANTERN_WAKE_SRC_SRC.key 0 0, LANTERN_WAKE_TICK_TICK.key 0 0] s t ∧ t.lant = s.lant) ∧
    (bit (s.rd LANTERN_WAKE_CFG_EDGE) (2 * pin + if rise then 0 else 1) = true → bit (s.rd LANTERN_WAKE_EN_EN) pin = true → s.rd LANTERN_STATUS_STATE ≠ 0 → s.lant.step = 0 → s.on LANTERN_STATUS_BUSY = false → ∃ t, exec (.lwakeEdge pin rise ticks) s = .next t ∧
      t.rd LANTERN_WAKE_SRC_SRC = (s.rd LANTERN_WAKE_SRC_SRC ||| 2 ^ pin.val) % 2 ^ 8 ∧ t.on LANTERN_STATUS_BUSY = true ∧ t.rd LANTERN_STATUS_TARGET = 0 ∧ t.lant.wake = true ∧ t.lant.penMain = true ∧ t.lant.penSer = true ∧ t.lant.penA = true) ∧
    (s.on LANTERN_ALARM_HI_ALARM_EN = false → exec (.lanternAlarm) s = .next (s)) ∧
    (s.on LANTERN_ALARM_HI_ALARM_EN = true → clocked s = true → s.rd LANTERN_STATUS_STATE = 0 → s.lant.step = 0 → ∃ t, exec (.lanternAlarm) s = .next t ∧
      t.fab = max s.fab (tickEdgeAfter s ((s.rd LANTERN_ALARM_TICK + 2 ^ 48 - tickNow s) % 2 ^ 48)) ∧ t.lant = s.lant ∧
      RegsBut [CAMPANILE_STATUS_SLEWING.key 0 0] s t) ∧
    (s.on LANTERN_ALARM_HI_ALARM_EN = true → bit (s.rd LANTERN_WAKE_EN_EN) 4 = true → s.rd LANTERN_STATUS_STATE ≠ 0 → s.lant.step = 0 → s.on LANTERN_STATUS_BUSY = false → ∃ t, exec (.lanternAlarm) s = .next t ∧
      t.rd LANTERN_WAKE_SRC_SRC = (s.rd LANTERN_WAKE_SRC_SRC ||| 2 ^ 4) % 2 ^ 8 ∧ t.on LANTERN_STATUS_BUSY = true ∧ t.rd LANTERN_STATUS_TARGET = 0 ∧ t.lant.wake = true ∧ t.lant.penMain = true ∧ t.lant.penSer = true ∧ t.lant.penA = true ∧ (clocked s = false → t.lant.tickBase = s.rd LANTERN_ALARM_TICK % 2 ^ 48 ∧ t.lant.tickEdge = s.fab)) ∧
    (s.on LANTERN_PORT_EN = false ∨ addr.toNat ≠ s.rd LANTERN_PORT_ADDR ∨ s.lant.held = true → exec (.wakePortMatch read addr ticks) s = .next s) ∧
    (s.on LANTERN_PORT_EN = true → addr.toNat = s.rd LANTERN_PORT_ADDR → s.lant.held = false → clocked s = true → s.rd LANTERN_STATUS_STATE = 0 → s.lant.step = 0 → exec (.wakePortMatch true addr ticks) s = .next ({ s with lant := { s.lant with portAck := true, portOut := 8 * b2n (s.on LANTERN_STATUS_BUSY) } })) ∧
    (s.on LANTERN_PORT_EN = true → addr.toNat = s.rd LANTERN_PORT_ADDR → s.lant.held = false → clocked s = true → s.rd LANTERN_STATUS_STATE = 0 → s.lant.step = 0 → exec (.wakePortMatch false addr ticks) s = .next ({ s with lant := { s.lant with portAck := true } })) ∧
    (s.on LANTERN_PORT_EN = true → addr.toNat = s.rd LANTERN_PORT_ADDR → s.lant.held = false → bit (s.rd LANTERN_WAKE_EN_EN) 5 = true → s.rd LANTERN_STATUS_STATE = 3 → s.lant.step = 0 → s.on LANTERN_STATUS_BUSY = false → ∃ t, exec (.wakePortMatch read addr ticks) s = .next t ∧
      t.rd LANTERN_WAKE_SRC_SRC = (s.rd LANTERN_WAKE_SRC_SRC ||| 2 ^ 5) % 2 ^ 8 ∧ t.on LANTERN_STATUS_BUSY = true ∧ t.rd LANTERN_STATUS_TARGET = 0 ∧ t.lant.wake = true ∧ t.lant.penMain = true ∧ t.lant.penSer = true ∧ t.lant.penA = true ∧ t.lant.portHeld = some read) ∧
    (s.on LANTERN_PORT_EN = true → addr.toNat = s.rd LANTERN_PORT_ADDR → s.lant.held = false → bit (s.rd LANTERN_WAKE_EN_EN) 5 = true → s.rd LANTERN_STATUS_STATE = 4 → s.lant.step = 0 → s.on LANTERN_STATUS_BUSY = false → ∃ t, exec (.wakePortMatch read addr ticks) s = .next t ∧
      t.rd LANTERN_WAKE_SRC_SRC = (s.rd LANTERN_WAKE_SRC_SRC ||| 2 ^ 5) % 2 ^ 8 ∧ t.on LANTERN_STATUS_BUSY = true ∧ t.rd LANTERN_STATUS_TARGET = 0 ∧ t.lant.wake = true ∧ t.lant.penMain = true ∧ t.lant.penSer = true ∧ t.lant.penA = true ∧ t.lant.portAck = false) ∧
    (∃ t, exec (.vaonLow mv above) s = .next t ∧
      t.on LANTERN_STATUS_LOW_NOW = decide (mv.toNat < 2000) ∧ t.lant = { s.lant with vaonHigh := s.lant.vaonHigh || above || decide (2050 < mv.toNat) } ∧
      (t.on LANTERN_STATUS_VAON_LOW = (s.on LANTERN_STATUS_VAON_LOW || (decide (mv.toNat < 2000) && (s.lant.vaonHigh || above) && !(s.on LANTERN_STATUS_LOW_NOW)))) ∧
      RegsBut [LANTERN_STATUS_LOW_NOW.key 0 0, LANTERN_STATUS_VAON_LOW.key 0 0] s t) ∧
    (∃ t, exec (.brownOut) s = .next t ∧
      t.rst = { asserted := some 0, pgood := false } ∧ t.lant.held = true ∧ t.lant.penMain = false ∧ t.rd SYS_RST_CAUSE_CAUSE = 0 ∧ t.rd SYS_RST_CAUSE_COUNT = 1 ∧
      t.on SYS_CLK_STATUS_LOCK = false ∧ t.entries = [] ∧ t.gcs.keepReq = true ∧ t.pending = s.pending ∧ ∀ a, inMram a = false → memGet t.bytes a = 0) ∧
    (s.lant.held = false → exec (.brownOutRelease mv) s = .next (s)) ∧
    (s.lant.held = true → ∃ t, exec (.brownOutRelease mv) s = .next t ∧
      t.lant.held = false ∧ t.on LANTERN_STATUS_BOR = true ∧ t.lant.penMain = true ∧ t.lant.penSer = true ∧ t.lant.penA = true ∧ t.rst = s.rst) ∧
    (∃ t, exec (.oscStop) s = .next t ∧
      t.on LANTERN_STATUS_OSC_STOP = true ∧ t.lant = { s.lant with oscStop := true } ∧ RegsBut [LANTERN_STATUS_OSC_STOP.key 0 0] s t) ∧
    (bit (s.rd LANTERN_WAKE_EN_EN) 6 = false ∨ s.lant.step = 0 ∧ s.rd LANTERN_STATUS_STATE ≠ 1 ∧ s.rd LANTERN_STATUS_STATE ≠ 2 → exec .hostInbandWake s = .next s) ∧
    (bit (s.rd LANTERN_WAKE_EN_EN) 6 = true → s.rd LANTERN_STATUS_STATE = 1 ∨ s.rd LANTERN_STATUS_STATE = 2 → s.lant.step = 0 → s.on LANTERN_STATUS_BUSY = false → ∃ t, exec (.hostInbandWake) s = .next t ∧
      t.rd LANTERN_WAKE_SRC_SRC = (s.rd LANTERN_WAKE_SRC_SRC ||| 2 ^ 6) % 2 ^ 8 ∧ t.on LANTERN_STATUS_BUSY = true ∧ t.rd LANTERN_STATUS_TARGET = 0 ∧ t.lant.wake = true ∧ t.lant.penMain = true ∧ t.lant.penSer = true ∧ t.lant.penA = true) ∧
    (s.rst.asserted = none → ∃ t, exec (.refAccepted) s = .next t ∧
      t.on SYS_CLK_STATUS_REF_OK = true ∧ RegsBut [SYS_CLK_STATUS_REF_OK.key 0 0] s t ∧ t = { s with regs := t.regs }) ∧
    (s.rst.asserted.isSome = true → exec (.refAccepted) s = .next (s)) ∧
    (s.rst.asserted = none → s.rd LANTERN_STATUS_STATE ≠ 3 ∨ s.lant.wake = true → s.lant.step ≠ 5 → clocked s = false → s.on SYS_CLK_STATUS_REF_OK = true → ∃ t, exec (.pllLock band) s = .next t ∧
      t.on SYS_CLK_STATUS_LOCK = true ∧ t.rd SYS_CLK_STATUS_BAND = band ∧ (s.gcs.keepReq = true → t.on SYS_GCS_BLOCK_KEEP = true)) ∧
    (s.rst.asserted.isSome = true ∨ clocked s = true ∨ s.on SYS_CLK_STATUS_REF_OK = false → exec (.pllLock band) s = .next s) ∧
    (clocked s = false → exec (.pllLoss) s = .next (s)) ∧
    (clocked s = true → s.rst.asserted = none → s.lant.held = false → s.rd LANTERN_STATUS_STATE ≠ 4 ∨ s.rst.pgood = true → ∃ t, exec (.pllLoss) s = .next t ∧
      WasReset s t 5) ∧
    (s.rst.asserted.isSome = true ∨ s.lant.held = true → exec .resetPin s = .next s) ∧
    (s.rst.asserted = none → s.lant.held = false → s.rd LANTERN_STATUS_STATE ≠ 4 ∨ s.rst.pgood = true → ∃ t, exec (.resetPin) s = .next t ∧
      WasReset s t 2) ∧
    (s.rd LANTERN_STATUS_STATE ≠ 4 ∨ s.lant.wake = false → exec (.pgoodRise) s = .next ({ s with rst := { s.rst with pgood := true } })) ∧
    (s.rd LANTERN_STATUS_STATE = 4 → s.lant.wake = true → s.rst.asserted = none → s.lant.held = false → ∃ t, exec (.pgoodRise) s = .next t ∧
      WasReset s t 1 ∧ t.rst.pgood = true) ∧
    (3 ≤ s.rd LANTERN_STATUS_STATE → s.lant.wake = false ∨ s.rst.pgood = false → exec (.pgoodFall) s = .next ({ s with rst := { s.rst with pgood := false } })) ∧
    (s.rd LANTERN_STATUS_STATE < 3 ∨ s.lant.wake = true ∧ s.rst.pgood = true → s.lant.step = 0 → s.rst.asserted = none → s.lant.held = false → ∃ t, exec (.pgoodFall) s = .next t ∧
      WasReset s t 1 ∧ t.rst.pgood = false) ∧
    (Accepts s req .sys 0 0x540 0xA501 0xFF03 → s.rst.asserted = none → s.lant.held = false → ∃ t, exec (.rstOrderly req) s = .next t ∧
      WasReset s t 3) ∧
    (Accepts s req .sys 0 0x540 0xA502 0xFF03 → s.rst.asserted = none → s.lant.held = false → ∃ t, exec (.rstForce req) s = .next t ∧
      WasReset s t 4) ∧
    (Accepts s req .sys 0 0x548 1 1 → s.on SYS_WDT_CTRL_EN = false → ∃ t, exec (.wdtEnable req) s = .next t ∧
      AnsweredOk t ∧ t.on SYS_WDT_CTRL_EN = true ∧ t.rst = { s.rst with wdtEnd := s.fab + s.rd SYS_WDT_CTRL_TIMEOUT * 625 } ∧
      RegsBut [SYS_WDT_CTRL_EN.key 0 0] s t) ∧
    (Accepts s req .sys 0 0x548 1 1 → s.on SYS_WDT_CTRL_EN = true → ∃ t, exec (.wdtEnable req) s = .next t ∧
      AnsweredOk t ∧ t.on SYS_WDT_CTRL_EN = true ∧ t.rst = s.rst) ∧
    (Accepts s req .sys 0 0x54C 1 1 → s.on SYS_WDT_CTRL_EN = true → exec (.wdtKick req) s = .next ({ s.answer OK 0 with rst := { s.rst with wdtEnd := s.fab + s.rd SYS_WDT_CTRL_TIMEOUT * 625 } })) ∧
    (Accepts s req .sys 0 0x54C 1 1 → s.on SYS_WDT_CTRL_EN = false → exec (.wdtKick req) s = .next (s.answer OK 0)) ∧
    (clocked s = true → s.on SYS_WDT_CTRL_EN = false → exec (.wdtExpiry) s = .next (s)) ∧
    (clocked s = true → s.on SYS_WDT_CTRL_EN = true → s.rst.asserted = none → s.lant.held = false → s.rd LANTERN_STATUS_STATE ≠ 4 ∨ s.rst.pgood = true → ∃ t, exec (.wdtExpiry) s = .next t ∧
      WasReset s t 6 ∧ t.fab = max s.fab s.rst.wdtEnd ∧ t.rst.wdtEnd = 0) ∧
    (s.rst.asserted = none ∨ s.rst.pgood = false ∨ s.lant.held = true → exec (.deviceResetRelease ref10 ticks) s = .next s) ∧
    (s.rst.asserted.isSome = true → s.rst.pgood = true → s.lant.held = false → ∃ t, exec (.deviceResetRelease ref10 ticks) s = .next t ∧
      t.rst.asserted = none ∧ t.on SYS_CLK_STATUS_REF10 = ref10 ∧ t.lant.tickBase = ticks.toNat % 2 ^ 48 ∧ t.lant.tickEdge = s.fab ∧ t.lant.ref = none ∧
      t.on CAMPANILE_STATUS_COARSE = true ∧ (s.lant.ref = none → t.on CAMPANILE_STATUS_LOST = true ∧ t.time = 0) ∧
      (∀ x n u, s.lant.ref = some (x, n, u) → s.lant.oscStop = false → t.time = (x + ((ticks.toNat % 2 ^ 48 + 2 ^ 48 - n) % 2 ^ 48) * 1000000000 * 2 ^ 17) % 2 ^ 96))

/-- With the FAB clock running: a slot is loaded only while attempts are left, a good one starts core 0 with its verified entry
and uses the verification up, a bad one counts an attempt with its code; HOST_GO starts what the host staged; an accepted CMD
starts exactly that command, which ends with its code, VALID and its effect; a read of RSP clears VALID; link events,
doorbells, CMD_TAIL, entries, completions and FW_DONE have exactly their effects; STATION frames go to the queue that their
priority names and come from TXQ_HI first; UART and SAFETY frames are answered by what their access answers, a broken one with
E_VALUE; the test port, block lock, UART bytes and firmware packets do as the rules say. -/
def Obligations.BootSecurePorts : Prop :=
  ∀ (s u : State) (req : Req) (bytes : List (BitVec 8)) (good : Bool) (b : List Nat) (n code : Nat) (c : Fin 16) (image instr : BitVec 4) (down up : Bool)
    (data : BitVec 32) (data64 ts : BitVec 64) (cpl : Cpl) (cpls : List Cpl) (p : Fin 4) (w : QWord) (ws : List QWord) (v : State) (byte : BitVec 8)
    (x : Nat) (xs : List Nat),
    (clocked s = true → s.sec.tries = 0 ∨ s.on SPIRE_STATUS_INIT_DONE 0 = false → exec (.bootSlotLoad bytes good) s = .next s) ∧
    (clocked s = true → s.on SPIRE_STATUS_INIT_DONE 0 = true → s.sec.tries ≠ 0 → ∃ t, exec (.bootSlotLoad bytes false) s = .next t ∧
      t.sec = { s.sec with tries := s.sec.tries - 1, hostGo := s.sec.tries - 1 == 0 } ∧
      RegsBut [SECURE_BOOT_STATUS_STAT_A.key 0 0, SECURE_BOOT_STATUS_STAT_B.key 0 0] s t ∧ t.cores = s.cores) ∧
    (clocked s = true → s.on SPIRE_STATUS_INIT_DONE 0 = true → s.sec.tries ≠ 0 → manifestCheck (stageSlot s (nats bytes)) STAGING = (u, OK, b) → core0Image b = some n → ∃ t, exec (.bootSlotLoad bytes true) s = .next t ∧
      (t.core 0).pc = t.rd SPIRE_ENTRY_ENTRY 0 * 4 ∧ t.rd SPIRE_ENTRY_ENTRY 0 = mfEntry b n / 4 % 2 ^ 16 ∧ t.on SPIRE_STATUS_HALTED 0 = false ∧
      t.sec.manifest = some b ∧ t.sec.tries = 0 ∧ t.sec.hostGo = false ∧ t.rd SECURE_BOOT_STATUS_SLOT = bootSlot s % 4 ∧ bit (t.rd SECURE_TCM_OK_CORES) 0 = false ∧
      t.sec.runDigest.get [] 0 = mfDigest b n) ∧
    (clocked s = true → s.on SPIRE_STATUS_INIT_DONE 0 = true → s.sec.tries ≠ 0 → manifestCheck (stageSlot s (nats bytes)) STAGING = (u, code, b) → code ≠ OK → ∃ t, exec (.bootSlotLoad bytes true) s = .next t ∧
      t.sec = { s.sec with tries := s.sec.tries - 1, hostGo := s.sec.tries - 1 == 0 } ∧
      (bootSlot s = 0 → t.rd SECURE_BOOT_STATUS_STAT_A = code % 2 ^ 8) ∧ (bootSlot s ≠ 0 → t.rd SECURE_BOOT_STATUS_STAT_B = code % 2 ^ 8)) ∧
    (Accepts s req .secure 0 0x01C 2 2 → manifestCheck (s.answer OK 0) STAGING = (u, OK, b) → core0Image b = some n → ∃ t, exec (.bootHostGo req) s = .next t ∧
      (t.core 0).pc = t.rd SPIRE_ENTRY_ENTRY 0 * 4 ∧ t.rd SPIRE_ENTRY_ENTRY 0 = mfEntry b n / 4 % 2 ^ 16 ∧ t.on SPIRE_STATUS_HALTED 0 = false ∧
      t.sec.manifest = some b ∧ t.sec.tries = 0 ∧ t.sec.hostGo = false ∧ t.rd SECURE_BOOT_STATUS_SLOT = 2 % 4 ∧ bit (t.rd SECURE_TCM_OK_CORES) 0 = false ∧
      t.sec.runDigest.get [] 0 = mfDigest b n) ∧
    (Accepts s req .secure 0 0x000 1 0xFF7 → ∃ t, exec (.secureVerify req) s = .next t ∧
      AnsweredOk t ∧ t.on SECURE_RSP_BUSY = true ∧ t.sec = { s.sec with cmd := some ⟨1, 0, 0⟩ } ∧
      RegsBut [SECURE_RSP_BUSY.key 0 0] s t) ∧
    (Accepts s req .secure 0 0x000 (2 + 2 ^ 4 * c.val + 2 ^ 8 * image.toNat) 0xFF7 → ∃ t, exec (.secureVerifyTcm req c image) s = .next t ∧
      AnsweredOk t ∧ t.on SECURE_RSP_BUSY = true ∧ t.sec = { s.sec with cmd := some ⟨2, c.val, image.toNat⟩ } ∧
      RegsBut [SECURE_RSP_BUSY.key 0 0] s t) ∧
    (Accepts s req .secure 0 0x000 3 0xFF7 → ∃ t, exec (.secureKey req) s = .next t ∧
      AnsweredOk t ∧ t.on SECURE_RSP_BUSY = true ∧ t.sec = { s.sec with cmd := some ⟨3, 0, 0⟩ } ∧
      RegsBut [SECURE_RSP_BUSY.key 0 0] s t) ∧
    (Accepts s req .secure 0 0x000 4 0xFF7 → ∃ t, exec (.secureSvnCommit req) s = .next t ∧
      AnsweredOk t ∧ t.on SECURE_RSP_BUSY = true ∧ t.sec = { s.sec with cmd := some ⟨4, 0, 0⟩ } ∧
      RegsBut [SECURE_RSP_BUSY.key 0 0] s t) ∧
    (Accepts s req .secure 0 0x000 5 0xFF7 → ∃ t, exec (.secureAttest req) s = .next t ∧
      AnsweredOk t ∧ t.on SECURE_RSP_BUSY = true ∧ t.sec = { s.sec with cmd := some ⟨5, 0, 0⟩ } ∧
      RegsBut [SECURE_RSP_BUSY.key 0 0] s t) ∧
    (clocked s = true → s.sec.cmd = none → exec (.secureCommandComplete) s = .next (s)) ∧
    (clocked s = true → s.sec.cmd = some ⟨1, n, code⟩ → manifestCheck s (s.rd SECURE_ADDR_ADDR) = (u, OK, b) → ∃ t, exec (.secureCommandComplete) s = .next t ∧
      t.rd SECURE_RSP_STAT = 0 ∧ t.on SECURE_RSP_VALID = true ∧ t.on SECURE_RSP_BUSY = false ∧ t.sec.cmd = none ∧ t.sec.manifest = some b) ∧
    (clocked s = true → s.sec.cmd = some ⟨1, n, code⟩ → manifestCheck s (s.rd SECURE_ADDR_ADDR) = (u, E_AUTH, b) → ∃ t, exec (.secureCommandComplete) s = .next t ∧
      t.rd SECURE_RSP_STAT = E_AUTH ∧ t.on SECURE_RSP_VALID = true ∧ t.on SECURE_RSP_BUSY = false ∧ t.sec.cmd = none ∧ t.sec.manifest = s.sec.manifest) ∧
    (clocked s = true → s.sec.cmd = some ⟨2, c.val, n⟩ → s.sec.manifest = some b → s.on SPIRE_STATUS_HALTED c = true → mfCount b > n → (s.core c).tcmFails 0 TCM_SIZE = false → mfDest b n + mfLen b n ≤ TCM_SIZE → (∀ w ∈ (s.core c).tcm, (mfDest b n ≤ w.1 ∧ w.1 < mfDest b n + mfLen b n) ∨ w.2 = 0) → sha384 (memBytes (s.core c).tcm (mfDest b n) (mfLen b n)) = mfDigest b n → ∃ t, exec (.secureCommandComplete) s = .next t ∧
      t.rd SECURE_RSP_STAT = 0 ∧ t.on SECURE_RSP_VALID = true ∧ t.on SECURE_RSP_BUSY = false ∧ t.sec.cmd = none
      ∧ t.rd SECURE_TCM_OK_CORES = (s.rd SECURE_TCM_OK_CORES ||| 2 ^ c.val) % 2 ^ 16 ∧ t.sec.okEntry.get 0 c = mfEntry b n) ∧
    (clocked s = true → s.sec.cmd = some ⟨2, c.val, n⟩ → s.sec.manifest = some b → s.on SPIRE_STATUS_HALTED c = false → ∃ t, exec (.secureCommandComplete) s = .next t ∧
      t.rd SECURE_RSP_STAT = E_STATE ∧ t.on SECURE_RSP_VALID = true ∧ t.on SECURE_RSP_BUSY = false ∧ t.sec.cmd = none ∧ t.rd SECURE_TCM_OK_CORES = s.rd SECURE_TCM_OK_CORES) ∧
    (clocked s = true → s.sec.cmd = some ⟨4, n, code⟩ → s.sec.manifest = some b → ∃ t, exec (.secureCommandComplete) s = .next t ∧
      t.rd SECURE_RSP_STAT = 0 ∧ t.on SECURE_RSP_VALID = true ∧ t.on SECURE_RSP_BUSY = false ∧ t.sec.cmd = none
      ∧ t.rd SECURE_CTR_SVN 0 (byteAt b 6 % 16) = max (s.rd SECURE_CTR_SVN 0 (byteAt b 6 % 16)) (mfGet b 8 4) % 2 ^ 32) ∧
    (Reads s req .secure 0 0x010 → ∃ t, exec (.secureRspRead req) s = .next t ∧
      t.reply = ⟨OK, s.readWord .secure 0 0x010 % 2 ^ 32, false⟩ ∧ t.on SECURE_RSP_VALID = false ∧ RegsBut [SECURE_RSP_VALID.key 0 0] s t) ∧
    (clocked s = true → ∃ t, exec (.hostLinkEvent down) s = .next t ∧
      t.on PORT_STATUS_HOST_RESET = true ∧ t.on PORT_STATUS_LINK_UP = (s.on PORT_STATUS_LINK_UP && !down)) ∧
    (clocked s = true → s.rst.asserted = none → ∃ t, exec (.hostLinkUp) s = .next t ∧
      t.on PORT_STATUS_LINK_UP = true ∧ RegsBut [PORT_STATUS_LINK_UP.key 0 0] s t) ∧
    (Accepts s req .port 0 0x00C data.toNat 0xFFFFFFFF → ∃ t, exec (.hostDoorbell req data) s = .next t ∧
      AnsweredOk t ∧ (∀ v < 8, t.port.msix.get 0 v = s.port.msix.get 0 v + (if 2 ≤ v ∧ bit data.toNat v = true then 1 else 0)) ∧ t.regs = s.regs) ∧
    (Accepts s req .port 0 0x018 data.toNat 0xFFFFFFFF → ∃ t, exec (.cmdTailWrite req data) s = .next t ∧
      AnsweredOk t ∧ t.rd PORT_CMD_TAIL_IDX = data.toNat % 2 ^ 12 ∧ RegsBut [PORT_CMD_TAIL_IDX.key 0 0] s t ∧ t.port = s.port) ∧
    (clocked s = true → s.on PORT_CTRL_CMD_EN = false ∨ (s.rd PORT_CMD_HEAD_IDX) = s.rd PORT_CMD_TAIL_IDX → exec .cmdEntryRead s = .next s) ∧
    (clocked s = true → s.on PORT_CTRL_CMD_EN = true → (s.rd PORT_CMD_HEAD_IDX) ≠ s.rd PORT_CMD_TAIL_IDX → cplFull s = true → exec (.cmdEntryRead) s = .next (s.raise PORT_STATUS_CPL_FULL)) ∧
    (clocked s = true → s.on PORT_CTRL_CMD_EN = true → (s.rd PORT_CMD_HEAD_IDX) ≠ s.rd PORT_CMD_TAIL_IDX → cplFull s = false → (cmdAddr s (s.rd PORT_CMD_HEAD_IDX)) + 64 ≤ 0x4000000 → findKey s.lineChk ((cmdAddr s (s.rd PORT_CMD_HEAD_IDX)) / 64) = none → entryStat s (memBytes s.bytes (cmdAddr s (s.rd PORT_CMD_HEAD_IDX)) 64) = OK → ∃ t, exec (.cmdEntryRead) s = .next t ∧
      t.rd PORT_CMD_HEAD_IDX = ((s.rd PORT_CMD_HEAD_IDX) + 1) % 2 ^ 12 ∧ t.port = { s.port with subSeq := (entrySeq (memBytes s.bytes (cmdAddr s (s.rd PORT_CMD_HEAD_IDX)) 64) + 1) % 2 ^ 64, cpls := s.port.cpls ++ [{ seq := entrySeq (memBytes s.bytes (cmdAddr s (s.rd PORT_CMD_HEAD_IDX)) 64), result := opResult s (memBytes s.bytes (cmdAddr s (s.rd PORT_CMD_HEAD_IDX)) 64) }] }) ∧
    (clocked s = true → s.on PORT_CTRL_CMD_EN = true → (s.rd PORT_CMD_HEAD_IDX) ≠ s.rd PORT_CMD_TAIL_IDX → cplFull s = false → (cmdAddr s (s.rd PORT_CMD_HEAD_IDX)) + 64 ≤ 0x4000000 → findKey s.lineChk ((cmdAddr s (s.rd PORT_CMD_HEAD_IDX)) / 64) = none → entryStat s (memBytes s.bytes (cmdAddr s (s.rd PORT_CMD_HEAD_IDX)) 64) = code → code ≠ OK → code ≠ DONE_BEFORE → ∃ t, exec (.cmdEntryRead) s = .next t ∧
      t.rd PORT_CMD_HEAD_IDX = ((s.rd PORT_CMD_HEAD_IDX) + 1) % 2 ^ 12 ∧ t.jrn = s.jrn ∧
      t.port = { s.port with cpls := s.port.cpls ++ [{ seq := if entryWhole (memBytes s.bytes (cmdAddr s (s.rd PORT_CMD_HEAD_IDX)) 64) then entrySeq (memBytes s.bytes (cmdAddr s (s.rd PORT_CMD_HEAD_IDX)) 64) else 0, stat := code, final := true }] } ∧
      (s.rd PORT_ERR_CODE = 0 → t.rd PORT_ERR_CODE = code % 2 ^ 8)) ∧
    (clocked s = true → s.port.cpls = [] → exec .completionWrite s = .next s) ∧
    (clocked s = true → s.port.cpls = cpl :: cpls → cpl.final = false → exec .completionWrite s = .next s) ∧
    (clocked s = true → s.port.cpls = cpl :: cpls → cpl.final = true → cplFull s = false → Memory.wf s.bytes = true → s.on SCAN_STATUS_BUSY = false → (cplAddr s (s.rd PORT_CPL_TAIL_IDX)) + 16 ≤ 0x4000000 → guarded s 16 (cplAddr s (s.rd PORT_CPL_TAIL_IDX)) 16 = false → findKey s.lineChk ((cplAddr s (s.rd PORT_CPL_TAIL_IDX)) / 64) = none → ∃ t, exec (.completionWrite) s = .next t ∧
      t.rd PORT_CPL_TAIL_IDX = ((s.rd PORT_CPL_TAIL_IDX) + 1) % 2 ^ 12 ∧ t.on PORT_STATUS_CPL = true ∧ t.port.cpls = cpls ∧ t.port.msix.get 0 0 = s.port.msix.get 0 0 + 1 ∧
      (∀ j < 16, memGet t.bytes ((cplAddr s (s.rd PORT_CPL_TAIL_IDX)) + j) = BitVec.ofNat 8 (nth 0 (leBytes 8 cpl.seq ++ [cpl.stat, cpl.result, b2n s.port.cplPhase, 0] ++ leBytes 4 (if cpl.stat = OK ∨ cpl.stat = DONE_BEFORE then cpl.jseq % 2 ^ 32 else 0)) j)) ∧
      (∀ a, a < (cplAddr s (s.rd PORT_CPL_TAIL_IDX)) ∨ (cplAddr s (s.rd PORT_CPL_TAIL_IDX)) + 16 ≤ a → memGet t.bytes a = memGet s.bytes a)) ∧
    (∀ v, v = { s.answer OK 0 with port := { s.port with fwDoneLo := (data64.toNat % 2 ^ 32) } } → Accepts s req .port 0 0x048 (data64.toNat % 2 ^ 32) 0xFFFFFFFF → Accepts v req .port 0 0x04C (data64.toNat / 2 ^ 32) 0xFFFFFFFF →
      ∃ t, exec (.fwDoneWrite req data64) s = .next t ∧ AnsweredOk t ∧ t.rd PORT_FW_DONE_JSEQ = data64.toNat ∧ t.port = v.port) ∧
    (clocked s = true → s.on PORT_ETH_CFG_EN 0 p = false ∨ etherType (nats bytes) = 0x88BA → exec (.stationFrameReceive p bytes ts) s = .next s) ∧
    (clocked s = true → s.on PORT_ETH_CFG_EN 0 p = true → etherType (nats bytes) ≠ 0x88BA → queuePacket s (if (etherType (nats bytes) == 0x88F7 || (tagged (nats bytes) && decide (s.rd PORT_ETH_CFG_HI_PCP 0 p ≤ framePcp (nats bytes)))) then s.rd PORT_ETH_CFG_RXQ_HI 0 p else s.rd PORT_ETH_CFG_RXQ 0 p) p (rxPacket p ts.toNat (nats bytes)) = (u, true) → exec (.stationFrameReceive p bytes ts) s = .next (u)) ∧
    (clocked s = true → s.on PORT_ETH_CFG_EN 0 p = true → etherType (nats bytes) ≠ 0x88BA → queuePacket s (if (etherType (nats bytes) == 0x88F7 || (tagged (nats bytes) && decide (s.rd PORT_ETH_CFG_HI_PCP 0 p ≤ framePcp (nats bytes)))) then s.rd PORT_ETH_CFG_RXQ_HI 0 p else s.rd PORT_ETH_CFG_RXQ 0 p) p (rxPacket p ts.toNat (nats bytes)) = (u, false) → ∃ t, exec (.stationFrameReceive p bytes ts) s = .next t ∧
      t.rd PORT_RX_DROP_COUNT 0 p = (u.rd PORT_RX_DROP_COUNT 0 p + 1) % 2 ^ 32 ∧ RegsBut [PORT_RX_DROP_COUNT.key 0 p] u t ∧ t = { u with regs := t.regs }) ∧
    (clocked s = true → s.on PORT_ETH_CFG_EN 0 p = false → exec (.stationFrameTransmit p) s = .next s) ∧
    (clocked s = true → s.on PORT_ETH_CFG_EN 0 p = true → takeFor s (s.rd PORT_ETH_CFG_TXQ_HI 0 p) (4 + p) = (u, some (w :: ws)) → bit w.val 0 = false → exec (.stationFrameTransmit p) s = .next ({ u with port := { u.port with txFrame := u.port.txFrame.set p (macFrame (packetBytes ws)) } })) ∧
    (clocked s = true → s.on PORT_ETH_CFG_EN 0 p = true → takeFor s (s.rd PORT_ETH_CFG_TXQ_HI 0 p) (4 + p) = (v, none) → takeFor s (s.rd PORT_ETH_CFG_TXQ 0 p) (4 + p) = (u, some (w :: ws)) → bit w.val 0 = false → exec (.stationFrameTransmit p) s = .next ({ u with port := { u.port with txFrame := u.port.txFrame.set p (macFrame (packetBytes ws)) } })) ∧
    (clocked s = true → s.on PORT_CTRL_UART_MODE = true → exec (.uartRegisterFrame bytes) s = .next (s)) ∧
    (clocked s = true → s.on PORT_CTRL_UART_MODE = false → uartWhole (nats bytes) = false → exec (.uartRegisterFrame bytes) s = .next (uartAnswer (s.answer E_VALUE 0))) ∧
    (clocked s = true → s.on PORT_CTRL_UART_MODE = false → uartWhole (nats bytes) = true → byteAt (nats bytes) 1 = 1 → (leNat (((nats bytes).drop 2).take 5)) % 4 = 0 → exec (.uartRegisterFrame bytes) s = .next (uartAnswer (readAnswer s .maint (leNat (((nats bytes).drop 2).take 5)) 4))) ∧
    (clocked s = true → s.on PORT_CTRL_UART_MODE = false → uartWhole (nats bytes) = true → byteAt (nats bytes) 1 = 2 → (leNat (((nats bytes).drop 2).take 5)) % 4 = 0 → exec (.uartRegisterFrame bytes) s = .next (uartAnswer (busWrite s .maint (leNat (((nats bytes).drop 2).take 5)) 4 (le32At (nats bytes) 7)))) ∧
    (keepUp s = true → ((nats bytes).length == 8 && crc8 ((nats bytes).take 7) == byteAt (nats bytes) 7) = false → exec (.safetyTransaction bytes) s = .next (safetyAnswer (s.answer E_VALUE 0) (beNat (((nats bytes).drop 1).take 2)))) ∧
    (keepUp s = true → ((nats bytes).length == 8 && crc8 ((nats bytes).take 7) == byteAt (nats bytes) 7) = true → target (0x20030000 + (beNat (((nats bytes).drop 1).take 2))) ≠ .none → byteAt (nats bytes) 0 = 1 → (beNat (((nats bytes).drop 1).take 2)) % 4 = 0 → exec (.safetyTransaction bytes) s = .next (safetyAnswer (readAnswer s .safety (0x20030000 + (beNat (((nats bytes).drop 1).take 2))) 4) (beNat (((nats bytes).drop 1).take 2)))) ∧
    (keepUp s = true → ((nats bytes).length == 8 && crc8 ((nats bytes).take 7) == byteAt (nats bytes) 7) = true → target (0x20030000 + (beNat (((nats bytes).drop 1).take 2))) ≠ .none → byteAt (nats bytes) 0 = 2 → (beNat (((nats bytes).drop 1).take 2)) % 4 = 0 → exec (.safetyTransaction bytes) s = .next (safetyAnswer (busWrite s .safety (0x20030000 + (beNat (((nats bytes).drop 1).take 2))) 4 (beNat (((nats bytes).drop 3).take 4))) (beNat (((nats bytes).drop 1).take 2)))) ∧
    (instr.toNat < 8 → exec (.testPortInstruction instr) s = .next ({ s with port := { s.port with testInstr := instr.toNat } })) ∧
    (8 ≤ instr.toNat → exec (.testPortInstruction instr) s = .next (s)) ∧
    (clocked s = true → bit (s.rd PORT_STATUS_ETH_UP) p = up → exec (.stationLinkChange p up) s = .next (s)) ∧
    (clocked s = true → bit (s.rd PORT_STATUS_ETH_UP) p ≠ up → ∃ t, exec (.stationLinkChange p up) s = .next t ∧
      bit (t.rd PORT_STATUS_ETH_UP) p = up ∧ (∀ j < 4, j ≠ p.val → bit (t.rd PORT_STATUS_ETH_UP) j = bit (s.rd PORT_STATUS_ETH_UP) j) ∧
      t.on PORT_STATUS_ETH_EV = true ∧ RegsBut [PORT_STATUS_ETH_UP.key 0 0, PORT_STATUS_ETH_EV.key 0 0] s t) ∧
    (clocked s = true → s.on PORT_CTRL_UART_MODE = false ∨ queueOf s 20 = none → exec (.uartByteReceive byte) s = .next s) ∧
    (clocked s = true → s.on PORT_CTRL_UART_MODE = true → queueOf s 20 = some n → queueFull s n = false → exec (.uartByteReceive byte) s = .next (queuePut s n byte.toNat 1 true)) ∧
    (clocked s = true → s.on PORT_CTRL_UART_MODE = false → exec (.uartByteTransmit) s = .next (s)) ∧
    (clocked s = true → s.on PORT_CTRL_UART_MODE = true → s.port.uartBuf = x :: xs → exec (.uartByteTransmit) s = .next ({ s with port := { s.port with uartBuf := xs, uartOut := [x] } })) ∧
    (clocked s = true → s.on PORT_CTRL_UART_MODE = true → s.port.uartBuf = [] → consumedBy s 21 = some n → queueTake s n = (u, some ws) → packetBytes ws = x :: xs → ∃ t, exec (.uartByteTransmit) s = .next t ∧
      t.port = { u.port with uartBuf := xs, uartOut := [x] } ∧ t.queues = u.queues) ∧
    (clocked s = true → queueOf s 19 = none → exec (.peerFirmwarePacketReceive bytes) s = .next (s)) ∧
    (clocked s = true → queueOf s 19 = some n → exec (.peerFirmwarePacketReceive bytes) s = .next ((queuePacket s n 19 (packetWords (nats bytes))).1)) ∧
    (clocked s = true → s.on TWIN_STATUS_LINK = false ∨ consumedBy s 18 = none → exec .peerFirmwarePacketSend s = .next s) ∧
    (clocked s = true → s.on TWIN_STATUS_LINK = true → consumedBy s 18 = some n → queueTake s n = (u, some ws) → exec (.peerFirmwarePacketSend) s = .next ({ u with port := { u.port with peerOut := packetBytes ws } }))
end

