-- ==== Sys2Proof/Laws/Memory.lean ====
section
/-!
SUPPORT. Memory: a read after a write, and every memory operation keeps the canonical form.
-/
namespace Sys2Proof.Machine

/-- A lower bound of the addresses may be lowered. -/
theorem memWfFrom_mono (m : List Host.Cell) (a b : Nat) (hab : a ≤ b) (h : memWfFrom b m = true) : memWfFrom a m = true := by
  cases m with
  | nil => rfl
  | cons p t =>
    obtain ⟨k, v⟩ := p
    simp only [memWfFrom, Bool.and_eq_true, decide_eq_true_eq] at h ⊢
    exact ⟨⟨by omega, h.1.2⟩, h.2⟩

/-- A byte written keeps the canonical form from a bound. -/
theorem memSet_wfFrom (m : List Host.Cell) (lo n : Nat) (x : Byte) (hn : lo ≤ n) (h : memWfFrom lo m = true) :
    memWfFrom lo (memSet m n x) = true := by
  induction m generalizing lo with
  | nil =>
    unfold memSet
    split
    · rfl
    · rename_i hx; simp [memWfFrom, hn, hx]
  | cons p t ih =>
    obtain ⟨k, v⟩ := p
    simp only [memWfFrom, Bool.and_eq_true, decide_eq_true_eq] at h
    obtain ⟨⟨hk, hv⟩, ht⟩ := h
    unfold memSet
    split
    · split
      · simp [memWfFrom, hk, hv, ht]
      · rename_i hlt hx
        simp only [memWfFrom, Bool.and_eq_true, decide_eq_true_eq]
        exact ⟨⟨hn, hx⟩, ⟨⟨by omega, hv⟩, ht⟩⟩
    · split
      · rename_i hnk
        subst hnk
        split
        · exact memWfFrom_mono t lo (n + 1) (by omega) ht
        · rename_i hx; simp [memWfFrom, hk, hx, ht]
      · rename_i h1 h2
        simp only [memWfFrom, Bool.and_eq_true, decide_eq_true_eq]
        exact ⟨⟨hk, hv⟩, ih (k + 1) (by omega) ht⟩

/-- A byte written keeps the canonical form. -/
theorem memSet_wf (m : List Host.Cell) (n : Nat) (x : Byte) (h : Memory.wf m = true) : Memory.wf (memSet m n x) = true :=
  memSet_wfFrom m 0 n x (Nat.zero_le n) h

/-- A number stored keeps the canonical form. -/
theorem memPut_wf (m : List Host.Cell) (a n v : Nat) (h : Memory.wf m = true) : Memory.wf (memPut m a n v) = true := by
  induction n generalizing m a v with
  | zero => exact h
  | succ n ih => exact ih _ _ _ (memSet_wf m a _ h)

/-- Bytes stored keep the canonical form. -/
theorem memPutBytes_wf (m : List Host.Cell) (a : Nat) (bs : List Nat) (h : Memory.wf m = true) :
    Memory.wf (memPutBytes m a bs) = true := by
  induction bs generalizing m a with
  | nil => exact h
  | cons b t ih => exact ih _ _ (memSet_wf m a _ h)

/-- Entries left out keep the canonical form. -/
theorem memFilter_wfFrom (p : Host.Cell → Bool) (m : List Host.Cell) (lo : Nat) (h : memWfFrom lo m = true) :
    memWfFrom lo (m.filter p) = true := by
  induction m generalizing lo with
  | nil => rfl
  | cons q t ih =>
    obtain ⟨k, v⟩ := q
    simp only [memWfFrom, Bool.and_eq_true, decide_eq_true_eq] at h
    obtain ⟨⟨hk, hv⟩, ht⟩ := h
    simp only [List.filter_cons]
    split
    · simp [memWfFrom, hk, hv, ih (k + 1) ht]
    · exact memWfFrom_mono _ lo (k + 1) (by omega) (ih (k + 1) ht)

/-- Entries left out keep the canonical form. -/
theorem memFilter_wf (p : Host.Cell → Bool) (m : List Host.Cell) (h : Memory.wf m = true) : Memory.wf (m.filter p) = true :=
  memFilter_wfFrom p m 0 h

/-- Below every listed address a memory reads as unwritten. -/
theorem memGet_below (m : List Host.Cell) (lo n : Nat) (hn : n < lo) (h : memWfFrom lo m = true) : memGet m n = memDefault := by
  induction m generalizing lo with
  | nil => rfl
  | cons p t ih =>
    obtain ⟨k, v⟩ := p
    simp only [memWfFrom, Bool.and_eq_true, decide_eq_true_eq] at h
    obtain ⟨⟨hk, _⟩, ht⟩ := h
    simp only [memGet]
    rw [if_neg (by omega)]
    exact ih (k + 1) (by omega) ht

/-- Reading a byte of a canonical memory after a byte was written. -/
theorem memGet_memSet_from (m : List Host.Cell) (lo n k : Nat) (x : Byte) (h : memWfFrom lo m = true) :
    memGet (memSet m n x) k = if k = n then x else memGet m k := by
  induction m generalizing lo with
  | nil =>
    unfold memSet
    split
    · rename_i hx; subst hx; split <;> rfl
    · simp [memGet]
  | cons p t ih =>
    obtain ⟨j, v⟩ := p
    simp only [memWfFrom, Bool.and_eq_true, decide_eq_true_eq] at h
    obtain ⟨⟨_, _⟩, ht⟩ := h
    have hb : ∀ i, i ≤ j → memGet t i = memDefault := fun i hi => memGet_below t (j + 1) i (by omega) ht
    unfold memSet
    by_cases h1 : n < j
    · simp only [h1, if_true]
      by_cases hx : x = memDefault
      · simp only [hx, if_true, memGet]
        by_cases hk : k = n
        · subst hk
          rw [if_neg (by omega), if_pos rfl, hb k (by omega)]
        · rw [if_neg hk]
      · simp only [hx, if_false, memGet]
    · by_cases h2 : n = j
      · subst h2
        by_cases hx : x = memDefault
        · subst hx
          simp only [Nat.lt_irrefl, if_false, if_true, memGet]
          by_cases hk : k = n
          · subst hk; simp [hb k (Nat.le_refl k)]
          · simp [hk]
        · simp only [Nat.lt_irrefl, if_false, if_true, hx, memGet]
          by_cases hk : k = n <;> simp [hk]
      · simp only [h1, h2, if_false, memGet, ih (j + 1) ht]
        by_cases hk : k = j
        · subst hk; simp [Ne.symm h2]
        · simp [hk]

/-- A byte read after a byte was written: the byte written at its address, what stood there elsewhere. -/
theorem memGet_memSet (m : List Host.Cell) (n k : Nat) (x : Byte) (h : Memory.wf m = true) :
    memGet (memSet m n x) k = if k = n then x else memGet m k := memGet_memSet_from m 0 n k x h

/-- Outside the bytes stored a memory reads as before. -/
theorem memGet_memPut_ne (m : List Host.Cell) (a n v k : Nat) (h : Memory.wf m = true) (hk : k < a ∨ a + n ≤ k) :
    memGet (memPut m a n v) k = memGet m k := by
  induction n generalizing m a v with
  | zero => rfl
  | succ n ih =>
    simp only [memPut]
    rw [ih _ (a + 1) _ (memSet_wf m a _ h) (by omega), memGet_memSet m a k _ h, if_neg (by omega)]

/-- A number of n bytes read back where it was stored, cut to its bytes. -/
theorem memLe_memPut (m : List Host.Cell) (a n v : Nat) (h : Memory.wf m = true) : memLe (memPut m a n v) a n = v % 256 ^ n := by
  induction n generalizing m a v with
  | zero => simp [memLe, Nat.mod_one]
  | succ n ih =>
    simp only [memPut, memLe]
    rw [ih _ (a + 1) _ (memSet_wf m a _ h), memGet_memPut_ne _ (a + 1) n _ a (memSet_wf m a _ h) (by omega),
      memGet_memSet m a a _ h, if_pos rfl, BitVec.toNat_ofNat]
    rw [show 256 ^ (n + 1) = 256 * 256 ^ n from by rw [Nat.pow_succ, Nat.mul_comm], Nat.mod_mul]

end Sys2Proof.Machine
end

