-- ==== Sys2Proof/Laws/Table.lean ====
section
/-!
SUPPORT. Sparse tables: what a table holds after an entry has been set.
-/
namespace Sys2Proof.Machine

/-- The key that was set holds the value given. -/
@[simp] theorem Sp.get_set_same {α : Type} (d : α) (m : Sp α) (n : Nat) (x : α) : (m.set n x).get d n = x := by
  induction m with
  | nil => simp [Sp.set, Sp.get]
  | cons p t ih =>
    obtain ⟨k, v⟩ := p
    unfold Sp.set
    split
    · simp [Sp.get]
    · split
      · simp [Sp.get]
      · rename_i hk; simp [Sp.get, hk, ih]

/-- Every other key holds what it held. -/
theorem Sp.get_set_ne {α : Type} (d : α) (m : Sp α) (n k : Nat) (x : α) (h : k ≠ n) : (m.set n x).get d k = m.get d k := by
  induction m with
  | nil => simp [Sp.set, Sp.get, h]
  | cons p t ih =>
    obtain ⟨j, v⟩ := p
    unfold Sp.set
    split
    · simp [Sp.get, h]
    · split
      · rename_i hj; subst hj; simp [Sp.get, h]
      · simp only [Sp.get, ih]

/-- A table after an entry has been set, at any key. -/
theorem Sp.get_set {α : Type} (d : α) (m : Sp α) (n k : Nat) (x : α) :
    (m.set n x).get d k = if k = n then x else m.get d k := by
  split
  · subst_vars; simp
  · exact Sp.get_set_ne d m n k x ‹_›

end Sys2Proof.Machine
end

