-- ==== Sys2Proof/Laws/State.lean ====
section
/-!
SUPPORT. State: what each update of the state leaves a field at.
-/
namespace Sys2Proof.Machine

/-- A field read after it was written: the value cut to its width. -/
@[simp] theorem State.rd_wr_same (s : State) (f : Fld) (v i j : Nat) : (s.wr f v i j).rd f i j = v % 2 ^ f.width := by
  simp [State.rd, State.wr]

/-- A field read after another was written. -/
theorem State.rd_wr_ne (s : State) (f g : Fld) (v i j i' j' : Nat) (h : g.key i' j' ≠ f.key i j) :
    (s.wr f v i j).rd g i' j' = s.rd g i' j' := by
  simp only [State.rd, State.wr]
  exact Sp.get_set_ne _ _ _ _ _ h

/-- An entry read after one was changed. -/
theorem State.entry_updEntry (s : State) (c k : Nat) (f : Entry → Entry) :
    (s.updEntry c f).entry k = if k = c then f (s.entry c) else s.entry k := by
  simp only [State.entry, State.updEntry]; exact Sp.get_set _ _ _ _ _

/-- A terminal read after one was changed. -/
theorem State.term_updTerm (s : State) (c k : Nat) (f : Term → Term) :
    (s.updTerm c f).term k = if k = c then f (s.term c) else s.term k := by
  simp only [State.term, State.updTerm]; exact Sp.get_set _ _ _ _ _

/-- A ring's hidden state read after one was changed. -/
theorem State.ring_updRing (s : State) (r k : Nat) (f : RingSt → RingSt) :
    (s.updRing r f).ring k = if k = r then f (s.ring r) else s.ring k := by
  simp only [State.ring, State.updRing]; exact Sp.get_set _ _ _ _ _

/-- An arm's hidden state read after one was changed. -/
theorem State.arm_updArm (s : State) (r k : Nat) (f : ArmSt → ArmSt) :
    (s.updArm r f).arm k = if k = r then f (s.arm r) else s.arm k := by
  simp only [State.arm, State.updArm]; exact Sp.get_set _ _ _ _ _

/-- A context's hidden state read after one was changed. -/
theorem State.lease_updLease (s : State) (r k : Nat) (f : LeaseSt → LeaseSt) :
    (s.updLease r f).lease k = if k = r then f (s.lease r) else s.lease k := by
  simp only [State.lease, State.updLease]; exact Sp.get_set _ _ _ _ _

/-- A core read after one was changed. -/
theorem State.core_updCore (s : State) (c k : Nat) (f : CoreSt → CoreSt) :
    (s.updCore c f).core k = if k = c then f (s.core c) else s.core k := by
  simp only [State.core, State.updCore, State.setCore]; exact Sp.get_set _ _ _ _ _

/-! What each update leaves: every other field of the state. -/

@[simp] theorem State.wr_staged (s : State) (f : Fld) (v i j : Nat) : (s.wr f v i j).staged = s.staged := rfl
@[simp] theorem State.wr_hiLatch (s : State) (f : Fld) (v i j : Nat) : (s.wr f v i j).hiLatch = s.hiLatch := rfl
@[simp] theorem State.wr_bytes (s : State) (f : Fld) (v i j : Nat) : (s.wr f v i j).bytes = s.bytes := rfl
@[simp] theorem State.wr_fab (s : State) (f : Fld) (v i j : Nat) : (s.wr f v i j).fab = s.fab := rfl
@[simp] theorem State.wr_time (s : State) (f : Fld) (v i j : Nat) : (s.wr f v i j).time = s.time := rfl
@[simp] theorem State.wr_free (s : State) (f : Fld) (v i j : Nat) : (s.wr f v i j).free = s.free := rfl
@[simp] theorem State.wr_reply (s : State) (f : Fld) (v i j : Nat) : (s.wr f v i j).reply = s.reply := rfl
@[simp] theorem State.wr_pipe (s : State) (f : Fld) (v i j : Nat) : (s.wr f v i j).pipe = s.pipe := rfl
@[simp] theorem State.wr_entries (s : State) (f : Fld) (v i j : Nat) : (s.wr f v i j).entries = s.entries := rfl
@[simp] theorem State.wr_terms (s : State) (f : Fld) (v i j : Nat) : (s.wr f v i j).terms = s.terms := rfl
@[simp] theorem State.wr_rings (s : State) (f : Fld) (v i j : Nat) : (s.wr f v i j).rings = s.rings := rfl
@[simp] theorem State.wr_arms (s : State) (f : Fld) (v i j : Nat) : (s.wr f v i j).arms = s.arms := rfl
@[simp] theorem State.wr_gcs (s : State) (f : Fld) (v i j : Nat) : (s.wr f v i j).gcs = s.gcs := rfl
@[simp] theorem State.wr_leases (s : State) (f : Fld) (v i j : Nat) : (s.wr f v i j).leases = s.leases := rfl
@[simp] theorem State.wr_ldg (s : State) (f : Fld) (v i j : Nat) : (s.wr f v i j).ldg = s.ldg := rfl
@[simp] theorem State.wr_camp (s : State) (f : Fld) (v i j : Nat) : (s.wr f v i j).camp = s.camp := rfl
@[simp] theorem State.wr_law (s : State) (f : Fld) (v i j : Nat) : (s.wr f v i j).law = s.law := rfl
@[simp] theorem State.wr_bad (s : State) (f : Fld) (v i j : Nat) : (s.wr f v i j).bad = s.bad := rfl
@[simp] theorem State.wr_lineChk (s : State) (f : Fld) (v i j : Nat) : (s.wr f v i j).lineChk = s.lineChk := rfl
@[simp] theorem State.wr_mems (s : State) (f : Fld) (v i j : Nat) : (s.wr f v i j).mems = s.mems := rfl
@[simp] theorem State.wr_jrn (s : State) (f : Fld) (v i j : Nat) : (s.wr f v i j).jrn = s.jrn := rfl
@[simp] theorem State.wr_scan (s : State) (f : Fld) (v i j : Nat) : (s.wr f v i j).scan = s.scan := rfl
@[simp] theorem State.wr_bel (s : State) (f : Fld) (v i j : Nat) : (s.wr f v i j).bel = s.bel := rfl
@[simp] theorem State.wr_queues (s : State) (f : Fld) (v i j : Nat) : (s.wr f v i j).queues = s.queues := rfl
@[simp] theorem State.wr_port (s : State) (f : Fld) (v i j : Nat) : (s.wr f v i j).port = s.port := rfl
@[simp] theorem State.wr_sig (s : State) (f : Fld) (v i j : Nat) : (s.wr f v i j).sig = s.sig := rfl
@[simp] theorem State.wr_keep (s : State) (f : Fld) (v i j : Nat) : (s.wr f v i j).keep = s.keep := rfl
@[simp] theorem State.wr_cores (s : State) (f : Fld) (v i j : Nat) : (s.wr f v i j).cores = s.cores := rfl
@[simp] theorem State.wr_lant (s : State) (f : Fld) (v i j : Nat) : (s.wr f v i j).lant = s.lant := rfl
@[simp] theorem State.wr_rst (s : State) (f : Fld) (v i j : Nat) : (s.wr f v i j).rst = s.rst := rfl
@[simp] theorem State.wr_sec (s : State) (f : Fld) (v i j : Nat) : (s.wr f v i j).sec = s.sec := rfl
@[simp] theorem State.wr_twin (s : State) (f : Fld) (v i j : Nat) : (s.wr f v i j).twin = s.twin := rfl
@[simp] theorem State.wr_pending (s : State) (f : Fld) (v i j : Nat) : (s.wr f v i j).pending = s.pending := rfl
@[simp] theorem State.answer_regs (s : State) (a d : Nat) : (s.answer a d).regs = s.regs := rfl
@[simp] theorem State.answer_staged (s : State) (a d : Nat) : (s.answer a d).staged = s.staged := rfl
@[simp] theorem State.answer_hiLatch (s : State) (a d : Nat) : (s.answer a d).hiLatch = s.hiLatch := rfl
@[simp] theorem State.answer_bytes (s : State) (a d : Nat) : (s.answer a d).bytes = s.bytes := rfl
@[simp] theorem State.answer_fab (s : State) (a d : Nat) : (s.answer a d).fab = s.fab := rfl
@[simp] theorem State.answer_time (s : State) (a d : Nat) : (s.answer a d).time = s.time := rfl
@[simp] theorem State.answer_free (s : State) (a d : Nat) : (s.answer a d).free = s.free := rfl
@[simp] theorem State.answer_pipe (s : State) (a d : Nat) : (s.answer a d).pipe = s.pipe := rfl
@[simp] theorem State.answer_entries (s : State) (a d : Nat) : (s.answer a d).entries = s.entries := rfl
@[simp] theorem State.answer_terms (s : State) (a d : Nat) : (s.answer a d).terms = s.terms := rfl
@[simp] theorem State.answer_rings (s : State) (a d : Nat) : (s.answer a d).rings = s.rings := rfl
@[simp] theorem State.answer_arms (s : State) (a d : Nat) : (s.answer a d).arms = s.arms := rfl
@[simp] theorem State.answer_gcs (s : State) (a d : Nat) : (s.answer a d).gcs = s.gcs := rfl
@[simp] theorem State.answer_leases (s : State) (a d : Nat) : (s.answer a d).leases = s.leases := rfl
@[simp] theorem State.answer_ldg (s : State) (a d : Nat) : (s.answer a d).ldg = s.ldg := rfl
@[simp] theorem State.answer_camp (s : State) (a d : Nat) : (s.answer a d).camp = s.camp := rfl
@[simp] theorem State.answer_law (s : State) (a d : Nat) : (s.answer a d).law = s.law := rfl
@[simp] theorem State.answer_bad (s : State) (a d : Nat) : (s.answer a d).bad = s.bad := rfl
@[simp] theorem State.answer_lineChk (s : State) (a d : Nat) : (s.answer a d).lineChk = s.lineChk := rfl
@[simp] theorem State.answer_mems (s : State) (a d : Nat) : (s.answer a d).mems = s.mems := rfl
@[simp] theorem State.answer_jrn (s : State) (a d : Nat) : (s.answer a d).jrn = s.jrn := rfl
@[simp] theorem State.answer_scan (s : State) (a d : Nat) : (s.answer a d).scan = s.scan := rfl
@[simp] theorem State.answer_bel (s : State) (a d : Nat) : (s.answer a d).bel = s.bel := rfl
@[simp] theorem State.answer_queues (s : State) (a d : Nat) : (s.answer a d).queues = s.queues := rfl
@[simp] theorem State.answer_port (s : State) (a d : Nat) : (s.answer a d).port = s.port := rfl
@[simp] theorem State.answer_sig (s : State) (a d : Nat) : (s.answer a d).sig = s.sig := rfl
@[simp] theorem State.answer_keep (s : State) (a d : Nat) : (s.answer a d).keep = s.keep := rfl
@[simp] theorem State.answer_cores (s : State) (a d : Nat) : (s.answer a d).cores = s.cores := rfl
@[simp] theorem State.answer_lant (s : State) (a d : Nat) : (s.answer a d).lant = s.lant := rfl
@[simp] theorem State.answer_rst (s : State) (a d : Nat) : (s.answer a d).rst = s.rst := rfl
@[simp] theorem State.answer_sec (s : State) (a d : Nat) : (s.answer a d).sec = s.sec := rfl
@[simp] theorem State.answer_twin (s : State) (a d : Nat) : (s.answer a d).twin = s.twin := rfl
@[simp] theorem State.answer_pending (s : State) (a d : Nat) : (s.answer a d).pending = s.pending := rfl
@[simp] theorem State.stage_regs (s : State) (f : Fld) (v i j : Nat) : (s.stage f v i j).regs = s.regs := rfl
@[simp] theorem State.stage_hiLatch (s : State) (f : Fld) (v i j : Nat) : (s.stage f v i j).hiLatch = s.hiLatch := rfl
@[simp] theorem State.stage_bytes (s : State) (f : Fld) (v i j : Nat) : (s.stage f v i j).bytes = s.bytes := rfl
@[simp] theorem State.stage_fab (s : State) (f : Fld) (v i j : Nat) : (s.stage f v i j).fab = s.fab := rfl
@[simp] theorem State.stage_time (s : State) (f : Fld) (v i j : Nat) : (s.stage f v i j).time = s.time := rfl
@[simp] theorem State.stage_free (s : State) (f : Fld) (v i j : Nat) : (s.stage f v i j).free = s.free := rfl
@[simp] theorem State.stage_reply (s : State) (f : Fld) (v i j : Nat) : (s.stage f v i j).reply = s.reply := rfl
@[simp] theorem State.stage_pipe (s : State) (f : Fld) (v i j : Nat) : (s.stage f v i j).pipe = s.pipe := rfl
@[simp] theorem State.stage_entries (s : State) (f : Fld) (v i j : Nat) : (s.stage f v i j).entries = s.entries := rfl
@[simp] theorem State.stage_terms (s : State) (f : Fld) (v i j : Nat) : (s.stage f v i j).terms = s.terms := rfl
@[simp] theorem State.stage_rings (s : State) (f : Fld) (v i j : Nat) : (s.stage f v i j).rings = s.rings := rfl
@[simp] theorem State.stage_arms (s : State) (f : Fld) (v i j : Nat) : (s.stage f v i j).arms = s.arms := rfl
@[simp] theorem State.stage_gcs (s : State) (f : Fld) (v i j : Nat) : (s.stage f v i j).gcs = s.gcs := rfl
@[simp] theorem State.stage_leases (s : State) (f : Fld) (v i j : Nat) : (s.stage f v i j).leases = s.leases := rfl
@[simp] theorem State.stage_ldg (s : State) (f : Fld) (v i j : Nat) : (s.stage f v i j).ldg = s.ldg := rfl
@[simp] theorem State.stage_camp (s : State) (f : Fld) (v i j : Nat) : (s.stage f v i j).camp = s.camp := rfl
@[simp] theorem State.stage_law (s : State) (f : Fld) (v i j : Nat) : (s.stage f v i j).law = s.law := rfl
@[simp] theorem State.stage_bad (s : State) (f : Fld) (v i j : Nat) : (s.stage f v i j).bad = s.bad := rfl
@[simp] theorem State.stage_lineChk (s : State) (f : Fld) (v i j : Nat) : (s.stage f v i j).lineChk = s.lineChk := rfl
@[simp] theorem State.stage_mems (s : State) (f : Fld) (v i j : Nat) : (s.stage f v i j).mems = s.mems := rfl
@[simp] theorem State.stage_jrn (s : State) (f : Fld) (v i j : Nat) : (s.stage f v i j).jrn = s.jrn := rfl
@[simp] theorem State.stage_scan (s : State) (f : Fld) (v i j : Nat) : (s.stage f v i j).scan = s.scan := rfl
@[simp] theorem State.stage_bel (s : State) (f : Fld) (v i j : Nat) : (s.stage f v i j).bel = s.bel := rfl
@[simp] theorem State.stage_queues (s : State) (f : Fld) (v i j : Nat) : (s.stage f v i j).queues = s.queues := rfl
@[simp] theorem State.stage_port (s : State) (f : Fld) (v i j : Nat) : (s.stage f v i j).port = s.port := rfl
@[simp] theorem State.stage_sig (s : State) (f : Fld) (v i j : Nat) : (s.stage f v i j).sig = s.sig := rfl
@[simp] theorem State.stage_keep (s : State) (f : Fld) (v i j : Nat) : (s.stage f v i j).keep = s.keep := rfl
@[simp] theorem State.stage_cores (s : State) (f : Fld) (v i j : Nat) : (s.stage f v i j).cores = s.cores := rfl
@[simp] theorem State.stage_lant (s : State) (f : Fld) (v i j : Nat) : (s.stage f v i j).lant = s.lant := rfl
@[simp] theorem State.stage_rst (s : State) (f : Fld) (v i j : Nat) : (s.stage f v i j).rst = s.rst := rfl
@[simp] theorem State.stage_sec (s : State) (f : Fld) (v i j : Nat) : (s.stage f v i j).sec = s.sec := rfl
@[simp] theorem State.stage_twin (s : State) (f : Fld) (v i j : Nat) : (s.stage f v i j).twin = s.twin := rfl
@[simp] theorem State.stage_pending (s : State) (f : Fld) (v i j : Nat) : (s.stage f v i j).pending = s.pending := rfl
@[simp] theorem State.updEntry_regs (s : State) (c : Nat) (f : Entry → Entry) : (s.updEntry c f).regs = s.regs := rfl
@[simp] theorem State.updEntry_staged (s : State) (c : Nat) (f : Entry → Entry) : (s.updEntry c f).staged = s.staged := rfl
@[simp] theorem State.updEntry_hiLatch (s : State) (c : Nat) (f : Entry → Entry) : (s.updEntry c f).hiLatch = s.hiLatch := rfl
@[simp] theorem State.updEntry_bytes (s : State) (c : Nat) (f : Entry → Entry) : (s.updEntry c f).bytes = s.bytes := rfl
@[simp] theorem State.updEntry_fab (s : State) (c : Nat) (f : Entry → Entry) : (s.updEntry c f).fab = s.fab := rfl
@[simp] theorem State.updEntry_time (s : State) (c : Nat) (f : Entry → Entry) : (s.updEntry c f).time = s.time := rfl
@[simp] theorem State.updEntry_free (s : State) (c : Nat) (f : Entry → Entry) : (s.updEntry c f).free = s.free := rfl
@[simp] theorem State.updEntry_reply (s : State) (c : Nat) (f : Entry → Entry) : (s.updEntry c f).reply = s.reply := rfl
@[simp] theorem State.updEntry_pipe (s : State) (c : Nat) (f : Entry → Entry) : (s.updEntry c f).pipe = s.pipe := rfl
@[simp] theorem State.updEntry_terms (s : State) (c : Nat) (f : Entry → Entry) : (s.updEntry c f).terms = s.terms := rfl
@[simp] theorem State.updEntry_rings (s : State) (c : Nat) (f : Entry → Entry) : (s.updEntry c f).rings = s.rings := rfl
@[simp] theorem State.updEntry_arms (s : State) (c : Nat) (f : Entry → Entry) : (s.updEntry c f).arms = s.arms := rfl
@[simp] theorem State.updEntry_gcs (s : State) (c : Nat) (f : Entry → Entry) : (s.updEntry c f).gcs = s.gcs := rfl
@[simp] theorem State.updEntry_leases (s : State) (c : Nat) (f : Entry → Entry) : (s.updEntry c f).leases = s.leases := rfl
@[simp] theorem State.updEntry_ldg (s : State) (c : Nat) (f : Entry → Entry) : (s.updEntry c f).ldg = s.ldg := rfl
@[simp] theorem State.updEntry_camp (s : State) (c : Nat) (f : Entry → Entry) : (s.updEntry c f).camp = s.camp := rfl
@[simp] theorem State.updEntry_law (s : State) (c : Nat) (f : Entry → Entry) : (s.updEntry c f).law = s.law := rfl
@[simp] theorem State.updEntry_bad (s : State) (c : Nat) (f : Entry → Entry) : (s.updEntry c f).bad = s.bad := rfl
@[simp] theorem State.updEntry_lineChk (s : State) (c : Nat) (f : Entry → Entry) : (s.updEntry c f).lineChk = s.lineChk := rfl
@[simp] theorem State.updEntry_mems (s : State) (c : Nat) (f : Entry → Entry) : (s.updEntry c f).mems = s.mems := rfl
@[simp] theorem State.updEntry_jrn (s : State) (c : Nat) (f : Entry → Entry) : (s.updEntry c f).jrn = s.jrn := rfl
@[simp] theorem State.updEntry_scan (s : State) (c : Nat) (f : Entry → Entry) : (s.updEntry c f).scan = s.scan := rfl
@[simp] theorem State.updEntry_bel (s : State) (c : Nat) (f : Entry → Entry) : (s.updEntry c f).bel = s.bel := rfl
@[simp] theorem State.updEntry_queues (s : State) (c : Nat) (f : Entry → Entry) : (s.updEntry c f).queues = s.queues := rfl
@[simp] theorem State.updEntry_port (s : State) (c : Nat) (f : Entry → Entry) : (s.updEntry c f).port = s.port := rfl
@[simp] theorem State.updEntry_sig (s : State) (c : Nat) (f : Entry → Entry) : (s.updEntry c f).sig = s.sig := rfl
@[simp] theorem State.updEntry_keep (s : State) (c : Nat) (f : Entry → Entry) : (s.updEntry c f).keep = s.keep := rfl
@[simp] theorem State.updEntry_cores (s : State) (c : Nat) (f : Entry → Entry) : (s.updEntry c f).cores = s.cores := rfl
@[simp] theorem State.updEntry_lant (s : State) (c : Nat) (f : Entry → Entry) : (s.updEntry c f).lant = s.lant := rfl
@[simp] theorem State.updEntry_rst (s : State) (c : Nat) (f : Entry → Entry) : (s.updEntry c f).rst = s.rst := rfl
@[simp] theorem State.updEntry_sec (s : State) (c : Nat) (f : Entry → Entry) : (s.updEntry c f).sec = s.sec := rfl
@[simp] theorem State.updEntry_twin (s : State) (c : Nat) (f : Entry → Entry) : (s.updEntry c f).twin = s.twin := rfl
@[simp] theorem State.updEntry_pending (s : State) (c : Nat) (f : Entry → Entry) : (s.updEntry c f).pending = s.pending := rfl
@[simp] theorem State.updTerm_regs (s : State) (c : Nat) (f : Term → Term) : (s.updTerm c f).regs = s.regs := rfl
@[simp] theorem State.updTerm_staged (s : State) (c : Nat) (f : Term → Term) : (s.updTerm c f).staged = s.staged := rfl
@[simp] theorem State.updTerm_hiLatch (s : State) (c : Nat) (f : Term → Term) : (s.updTerm c f).hiLatch = s.hiLatch := rfl
@[simp] theorem State.updTerm_bytes (s : State) (c : Nat) (f : Term → Term) : (s.updTerm c f).bytes = s.bytes := rfl
@[simp] theorem State.updTerm_fab (s : State) (c : Nat) (f : Term → Term) : (s.updTerm c f).fab = s.fab := rfl
@[simp] theorem State.updTerm_time (s : State) (c : Nat) (f : Term → Term) : (s.updTerm c f).time = s.time := rfl
@[simp] theorem State.updTerm_free (s : State) (c : Nat) (f : Term → Term) : (s.updTerm c f).free = s.free := rfl
@[simp] theorem State.updTerm_reply (s : State) (c : Nat) (f : Term → Term) : (s.updTerm c f).reply = s.reply := rfl
@[simp] theorem State.updTerm_pipe (s : State) (c : Nat) (f : Term → Term) : (s.updTerm c f).pipe = s.pipe := rfl
@[simp] theorem State.updTerm_entries (s : State) (c : Nat) (f : Term → Term) : (s.updTerm c f).entries = s.entries := rfl
@[simp] theorem State.updTerm_rings (s : State) (c : Nat) (f : Term → Term) : (s.updTerm c f).rings = s.rings := rfl
@[simp] theorem State.updTerm_arms (s : State) (c : Nat) (f : Term → Term) : (s.updTerm c f).arms = s.arms := rfl
@[simp] theorem State.updTerm_gcs (s : State) (c : Nat) (f : Term → Term) : (s.updTerm c f).gcs = s.gcs := rfl
@[simp] theorem State.updTerm_leases (s : State) (c : Nat) (f : Term → Term) : (s.updTerm c f).leases = s.leases := rfl
@[simp] theorem State.updTerm_ldg (s : State) (c : Nat) (f : Term → Term) : (s.updTerm c f).ldg = s.ldg := rfl
@[simp] theorem State.updTerm_camp (s : State) (c : Nat) (f : Term → Term) : (s.updTerm c f).camp = s.camp := rfl
@[simp] theorem State.updTerm_law (s : State) (c : Nat) (f : Term → Term) : (s.updTerm c f).law = s.law := rfl
@[simp] theorem State.updTerm_bad (s : State) (c : Nat) (f : Term → Term) : (s.updTerm c f).bad = s.bad := rfl
@[simp] theorem State.updTerm_lineChk (s : State) (c : Nat) (f : Term → Term) : (s.updTerm c f).lineChk = s.lineChk := rfl
@[simp] theorem State.updTerm_mems (s : State) (c : Nat) (f : Term → Term) : (s.updTerm c f).mems = s.mems := rfl
@[simp] theorem State.updTerm_jrn (s : State) (c : Nat) (f : Term → Term) : (s.updTerm c f).jrn = s.jrn := rfl
@[simp] theorem State.updTerm_scan (s : State) (c : Nat) (f : Term → Term) : (s.updTerm c f).scan = s.scan := rfl
@[simp] theorem State.updTerm_bel (s : State) (c : Nat) (f : Term → Term) : (s.updTerm c f).bel = s.bel := rfl
@[simp] theorem State.updTerm_queues (s : State) (c : Nat) (f : Term → Term) : (s.updTerm c f).queues = s.queues := rfl
@[simp] theorem State.updTerm_port (s : State) (c : Nat) (f : Term → Term) : (s.updTerm c f).port = s.port := rfl
@[simp] theorem State.updTerm_sig (s : State) (c : Nat) (f : Term → Term) : (s.updTerm c f).sig = s.sig := rfl
@[simp] theorem State.updTerm_keep (s : State) (c : Nat) (f : Term → Term) : (s.updTerm c f).keep = s.keep := rfl
@[simp] theorem State.updTerm_cores (s : State) (c : Nat) (f : Term → Term) : (s.updTerm c f).cores = s.cores := rfl
@[simp] theorem State.updTerm_lant (s : State) (c : Nat) (f : Term → Term) : (s.updTerm c f).lant = s.lant := rfl
@[simp] theorem State.updTerm_rst (s : State) (c : Nat) (f : Term → Term) : (s.updTerm c f).rst = s.rst := rfl
@[simp] theorem State.updTerm_sec (s : State) (c : Nat) (f : Term → Term) : (s.updTerm c f).sec = s.sec := rfl
@[simp] theorem State.updTerm_twin (s : State) (c : Nat) (f : Term → Term) : (s.updTerm c f).twin = s.twin := rfl
@[simp] theorem State.updTerm_pending (s : State) (c : Nat) (f : Term → Term) : (s.updTerm c f).pending = s.pending := rfl
@[simp] theorem State.updRing_regs (s : State) (c : Nat) (f : RingSt → RingSt) : (s.updRing c f).regs = s.regs := rfl
@[simp] theorem State.updRing_staged (s : State) (c : Nat) (f : RingSt → RingSt) : (s.updRing c f).staged = s.staged := rfl
@[simp] theorem State.updRing_hiLatch (s : State) (c : Nat) (f : RingSt → RingSt) : (s.updRing c f).hiLatch = s.hiLatch := rfl
@[simp] theorem State.updRing_bytes (s : State) (c : Nat) (f : RingSt → RingSt) : (s.updRing c f).bytes = s.bytes := rfl
@[simp] theorem State.updRing_fab (s : State) (c : Nat) (f : RingSt → RingSt) : (s.updRing c f).fab = s.fab := rfl
@[simp] theorem State.updRing_time (s : State) (c : Nat) (f : RingSt → RingSt) : (s.updRing c f).time = s.time := rfl
@[simp] theorem State.updRing_free (s : State) (c : Nat) (f : RingSt → RingSt) : (s.updRing c f).free = s.free := rfl
@[simp] theorem State.updRing_reply (s : State) (c : Nat) (f : RingSt → RingSt) : (s.updRing c f).reply = s.reply := rfl
@[simp] theorem State.updRing_pipe (s : State) (c : Nat) (f : RingSt → RingSt) : (s.updRing c f).pipe = s.pipe := rfl
@[simp] theorem State.updRing_entries (s : State) (c : Nat) (f : RingSt → RingSt) : (s.updRing c f).entries = s.entries := rfl
@[simp] theorem State.updRing_terms (s : State) (c : Nat) (f : RingSt → RingSt) : (s.updRing c f).terms = s.terms := rfl
@[simp] theorem State.updRing_arms (s : State) (c : Nat) (f : RingSt → RingSt) : (s.updRing c f).arms = s.arms := rfl
@[simp] theorem State.updRing_gcs (s : State) (c : Nat) (f : RingSt → RingSt) : (s.updRing c f).gcs = s.gcs := rfl
@[simp] theorem State.updRing_leases (s : State) (c : Nat) (f : RingSt → RingSt) : (s.updRing c f).leases = s.leases := rfl
@[simp] theorem State.updRing_ldg (s : State) (c : Nat) (f : RingSt → RingSt) : (s.updRing c f).ldg = s.ldg := rfl
@[simp] theorem State.updRing_camp (s : State) (c : Nat) (f : RingSt → RingSt) : (s.updRing c f).camp = s.camp := rfl
@[simp] theorem State.updRing_law (s : State) (c : Nat) (f : RingSt → RingSt) : (s.updRing c f).law = s.law := rfl
@[simp] theorem State.updRing_bad (s : State) (c : Nat) (f : RingSt → RingSt) : (s.updRing c f).bad = s.bad := rfl
@[simp] theorem State.updRing_lineChk (s : State) (c : Nat) (f : RingSt → RingSt) : (s.updRing c f).lineChk = s.lineChk := rfl
@[simp] theorem State.updRing_mems (s : State) (c : Nat) (f : RingSt → RingSt) : (s.updRing c f).mems = s.mems := rfl
@[simp] theorem State.updRing_jrn (s : State) (c : Nat) (f : RingSt → RingSt) : (s.updRing c f).jrn = s.jrn := rfl
@[simp] theorem State.updRing_scan (s : State) (c : Nat) (f : RingSt → RingSt) : (s.updRing c f).scan = s.scan := rfl
@[simp] theorem State.updRing_bel (s : State) (c : Nat) (f : RingSt → RingSt) : (s.updRing c f).bel = s.bel := rfl
@[simp] theorem State.updRing_queues (s : State) (c : Nat) (f : RingSt → RingSt) : (s.updRing c f).queues = s.queues := rfl
@[simp] theorem State.updRing_port (s : State) (c : Nat) (f : RingSt → RingSt) : (s.updRing c f).port = s.port := rfl
@[simp] theorem State.updRing_sig (s : State) (c : Nat) (f : RingSt → RingSt) : (s.updRing c f).sig = s.sig := rfl
@[simp] theorem State.updRing_keep (s : State) (c : Nat) (f : RingSt → RingSt) : (s.updRing c f).keep = s.keep := rfl
@[simp] theorem State.updRing_cores (s : State) (c : Nat) (f : RingSt → RingSt) : (s.updRing c f).cores = s.cores := rfl
@[simp] theorem State.updRing_lant (s : State) (c : Nat) (f : RingSt → RingSt) : (s.updRing c f).lant = s.lant := rfl
@[simp] theorem State.updRing_rst (s : State) (c : Nat) (f : RingSt → RingSt) : (s.updRing c f).rst = s.rst := rfl
@[simp] theorem State.updRing_sec (s : State) (c : Nat) (f : RingSt → RingSt) : (s.updRing c f).sec = s.sec := rfl
@[simp] theorem State.updRing_twin (s : State) (c : Nat) (f : RingSt → RingSt) : (s.updRing c f).twin = s.twin := rfl
@[simp] theorem State.updRing_pending (s : State) (c : Nat) (f : RingSt → RingSt) : (s.updRing c f).pending = s.pending := rfl
@[simp] theorem State.updArm_regs (s : State) (c : Nat) (f : ArmSt → ArmSt) : (s.updArm c f).regs = s.regs := rfl
@[simp] theorem State.updArm_staged (s : State) (c : Nat) (f : ArmSt → ArmSt) : (s.updArm c f).staged = s.staged := rfl
@[simp] theorem State.updArm_hiLatch (s : State) (c : Nat) (f : ArmSt → ArmSt) : (s.updArm c f).hiLatch = s.hiLatch := rfl
@[simp] theorem State.updArm_bytes (s : State) (c : Nat) (f : ArmSt → ArmSt) : (s.updArm c f).bytes = s.bytes := rfl
@[simp] theorem State.updArm_fab (s : State) (c : Nat) (f : ArmSt → ArmSt) : (s.updArm c f).fab = s.fab := rfl
@[simp] theorem State.updArm_time (s : State) (c : Nat) (f : ArmSt → ArmSt) : (s.updArm c f).time = s.time := rfl
@[simp] theorem State.updArm_free (s : State) (c : Nat) (f : ArmSt → ArmSt) : (s.updArm c f).free = s.free := rfl
@[simp] theorem State.updArm_reply (s : State) (c : Nat) (f : ArmSt → ArmSt) : (s.updArm c f).reply = s.reply := rfl
@[simp] theorem State.updArm_pipe (s : State) (c : Nat) (f : ArmSt → ArmSt) : (s.updArm c f).pipe = s.pipe := rfl
@[simp] theorem State.updArm_entries (s : State) (c : Nat) (f : ArmSt → ArmSt) : (s.updArm c f).entries = s.entries := rfl
@[simp] theorem State.updArm_terms (s : State) (c : Nat) (f : ArmSt → ArmSt) : (s.updArm c f).terms = s.terms := rfl
@[simp] theorem State.updArm_rings (s : State) (c : Nat) (f : ArmSt → ArmSt) : (s.updArm c f).rings = s.rings := rfl
@[simp] theorem State.updArm_gcs (s : State) (c : Nat) (f : ArmSt → ArmSt) : (s.updArm c f).gcs = s.gcs := rfl
@[simp] theorem State.updArm_leases (s : State) (c : Nat) (f : ArmSt → ArmSt) : (s.updArm c f).leases = s.leases := rfl
@[simp] theorem State.updArm_ldg (s : State) (c : Nat) (f : ArmSt → ArmSt) : (s.updArm c f).ldg = s.ldg := rfl
@[simp] theorem State.updArm_camp (s : State) (c : Nat) (f : ArmSt → ArmSt) : (s.updArm c f).camp = s.camp := rfl
@[simp] theorem State.updArm_law (s : State) (c : Nat) (f : ArmSt → ArmSt) : (s.updArm c f).law = s.law := rfl
@[simp] theorem State.updArm_bad (s : State) (c : Nat) (f : ArmSt → ArmSt) : (s.updArm c f).bad = s.bad := rfl
@[simp] theorem State.updArm_lineChk (s : State) (c : Nat) (f : ArmSt → ArmSt) : (s.updArm c f).lineChk = s.lineChk := rfl
@[simp] theorem State.updArm_mems (s : State) (c : Nat) (f : ArmSt → ArmSt) : (s.updArm c f).mems = s.mems := rfl
@[simp] theorem State.updArm_jrn (s : State) (c : Nat) (f : ArmSt → ArmSt) : (s.updArm c f).jrn = s.jrn := rfl
@[simp] theorem State.updArm_scan (s : State) (c : Nat) (f : ArmSt → ArmSt) : (s.updArm c f).scan = s.scan := rfl
@[simp] theorem State.updArm_bel (s : State) (c : Nat) (f : ArmSt → ArmSt) : (s.updArm c f).bel = s.bel := rfl
@[simp] theorem State.updArm_queues (s : State) (c : Nat) (f : ArmSt → ArmSt) : (s.updArm c f).queues = s.queues := rfl
@[simp] theorem State.updArm_port (s : State) (c : Nat) (f : ArmSt → ArmSt) : (s.updArm c f).port = s.port := rfl
@[simp] theorem State.updArm_sig (s : State) (c : Nat) (f : ArmSt → ArmSt) : (s.updArm c f).sig = s.sig := rfl
@[simp] theorem State.updArm_keep (s : State) (c : Nat) (f : ArmSt → ArmSt) : (s.updArm c f).keep = s.keep := rfl
@[simp] theorem State.updArm_cores (s : State) (c : Nat) (f : ArmSt → ArmSt) : (s.updArm c f).cores = s.cores := rfl
@[simp] theorem State.updArm_lant (s : State) (c : Nat) (f : ArmSt → ArmSt) : (s.updArm c f).lant = s.lant := rfl
@[simp] theorem State.updArm_rst (s : State) (c : Nat) (f : ArmSt → ArmSt) : (s.updArm c f).rst = s.rst := rfl
@[simp] theorem State.updArm_sec (s : State) (c : Nat) (f : ArmSt → ArmSt) : (s.updArm c f).sec = s.sec := rfl
@[simp] theorem State.updArm_twin (s : State) (c : Nat) (f : ArmSt → ArmSt) : (s.updArm c f).twin = s.twin := rfl
@[simp] theorem State.updArm_pending (s : State) (c : Nat) (f : ArmSt → ArmSt) : (s.updArm c f).pending = s.pending := rfl
@[simp] theorem State.updLease_regs (s : State) (c : Nat) (f : LeaseSt → LeaseSt) : (s.updLease c f).regs = s.regs := rfl
@[simp] theorem State.updLease_staged (s : State) (c : Nat) (f : LeaseSt → LeaseSt) : (s.updLease c f).staged = s.staged := rfl
@[simp] theorem State.updLease_hiLatch (s : State) (c : Nat) (f : LeaseSt → LeaseSt) : (s.updLease c f).hiLatch = s.hiLatch := rfl
@[simp] theorem State.updLease_bytes (s : State) (c : Nat) (f : LeaseSt → LeaseSt) : (s.updLease c f).bytes = s.bytes := rfl
@[simp] theorem State.updLease_fab (s : State) (c : Nat) (f : LeaseSt → LeaseSt) : (s.updLease c f).fab = s.fab := rfl
@[simp] theorem State.updLease_time (s : State) (c : Nat) (f : LeaseSt → LeaseSt) : (s.updLease c f).time = s.time := rfl
@[simp] theorem State.updLease_free (s : State) (c : Nat) (f : LeaseSt → LeaseSt) : (s.updLease c f).free = s.free := rfl
@[simp] theorem State.updLease_reply (s : State) (c : Nat) (f : LeaseSt → LeaseSt) : (s.updLease c f).reply = s.reply := rfl
@[simp] theorem State.updLease_pipe (s : State) (c : Nat) (f : LeaseSt → LeaseSt) : (s.updLease c f).pipe = s.pipe := rfl
@[simp] theorem State.updLease_entries (s : State) (c : Nat) (f : LeaseSt → LeaseSt) : (s.updLease c f).entries = s.entries := rfl
@[simp] theorem State.updLease_terms (s : State) (c : Nat) (f : LeaseSt → LeaseSt) : (s.updLease c f).terms = s.terms := rfl
@[simp] theorem State.updLease_rings (s : State) (c : Nat) (f : LeaseSt → LeaseSt) : (s.updLease c f).rings = s.rings := rfl
@[simp] theorem State.updLease_arms (s : State) (c : Nat) (f : LeaseSt → LeaseSt) : (s.updLease c f).arms = s.arms := rfl
@[simp] theorem State.updLease_gcs (s : State) (c : Nat) (f : LeaseSt → LeaseSt) : (s.updLease c f).gcs = s.gcs := rfl
@[simp] theorem State.updLease_ldg (s : State) (c : Nat) (f : LeaseSt → LeaseSt) : (s.updLease c f).ldg = s.ldg := rfl
@[simp] theorem State.updLease_camp (s : State) (c : Nat) (f : LeaseSt → LeaseSt) : (s.updLease c f).camp = s.camp := rfl
@[simp] theorem State.updLease_law (s : State) (c : Nat) (f : LeaseSt → LeaseSt) : (s.updLease c f).law = s.law := rfl
@[simp] theorem State.updLease_bad (s : State) (c : Nat) (f : LeaseSt → LeaseSt) : (s.updLease c f).bad = s.bad := rfl
@[simp] theorem State.updLease_lineChk (s : State) (c : Nat) (f : LeaseSt → LeaseSt) : (s.updLease c f).lineChk = s.lineChk := rfl
@[simp] theorem State.updLease_mems (s : State) (c : Nat) (f : LeaseSt → LeaseSt) : (s.updLease c f).mems = s.mems := rfl
@[simp] theorem State.updLease_jrn (s : State) (c : Nat) (f : LeaseSt → LeaseSt) : (s.updLease c f).jrn = s.jrn := rfl
@[simp] theorem State.updLease_scan (s : State) (c : Nat) (f : LeaseSt → LeaseSt) : (s.updLease c f).scan = s.scan := rfl
@[simp] theorem State.updLease_bel (s : State) (c : Nat) (f : LeaseSt → LeaseSt) : (s.updLease c f).bel = s.bel := rfl
@[simp] theorem State.updLease_queues (s : State) (c : Nat) (f : LeaseSt → LeaseSt) : (s.updLease c f).queues = s.queues := rfl
@[simp] theorem State.updLease_port (s : State) (c : Nat) (f : LeaseSt → LeaseSt) : (s.updLease c f).port = s.port := rfl
@[simp] theorem State.updLease_sig (s : State) (c : Nat) (f : LeaseSt → LeaseSt) : (s.updLease c f).sig = s.sig := rfl
@[simp] theorem State.updLease_keep (s : State) (c : Nat) (f : LeaseSt → LeaseSt) : (s.updLease c f).keep = s.keep := rfl
@[simp] theorem State.updLease_cores (s : State) (c : Nat) (f : LeaseSt → LeaseSt) : (s.updLease c f).cores = s.cores := rfl
@[simp] theorem State.updLease_lant (s : State) (c : Nat) (f : LeaseSt → LeaseSt) : (s.updLease c f).lant = s.lant := rfl
@[simp] theorem State.updLease_rst (s : State) (c : Nat) (f : LeaseSt → LeaseSt) : (s.updLease c f).rst = s.rst := rfl
@[simp] theorem State.updLease_sec (s : State) (c : Nat) (f : LeaseSt → LeaseSt) : (s.updLease c f).sec = s.sec := rfl
@[simp] theorem State.updLease_twin (s : State) (c : Nat) (f : LeaseSt → LeaseSt) : (s.updLease c f).twin = s.twin := rfl
@[simp] theorem State.updLease_pending (s : State) (c : Nat) (f : LeaseSt → LeaseSt) : (s.updLease c f).pending = s.pending := rfl
@[simp] theorem State.updCore_staged (s : State) (c : Nat) (f : CoreSt → CoreSt) : (s.updCore c f).staged = s.staged := rfl
@[simp] theorem State.updCore_hiLatch (s : State) (c : Nat) (f : CoreSt → CoreSt) : (s.updCore c f).hiLatch = s.hiLatch := rfl
@[simp] theorem State.updCore_bytes (s : State) (c : Nat) (f : CoreSt → CoreSt) : (s.updCore c f).bytes = s.bytes := rfl
@[simp] theorem State.updCore_fab (s : State) (c : Nat) (f : CoreSt → CoreSt) : (s.updCore c f).fab = s.fab := rfl
@[simp] theorem State.updCore_time (s : State) (c : Nat) (f : CoreSt → CoreSt) : (s.updCore c f).time = s.time := rfl
@[simp] theorem State.updCore_free (s : State) (c : Nat) (f : CoreSt → CoreSt) : (s.updCore c f).free = s.free := rfl
@[simp] theorem State.updCore_reply (s : State) (c : Nat) (f : CoreSt → CoreSt) : (s.updCore c f).reply = s.reply := rfl
@[simp] theorem State.updCore_pipe (s : State) (c : Nat) (f : CoreSt → CoreSt) : (s.updCore c f).pipe = s.pipe := rfl
@[simp] theorem State.updCore_entries (s : State) (c : Nat) (f : CoreSt → CoreSt) : (s.updCore c f).entries = s.entries := rfl
@[simp] theorem State.updCore_terms (s : State) (c : Nat) (f : CoreSt → CoreSt) : (s.updCore c f).terms = s.terms := rfl
@[simp] theorem State.updCore_rings (s : State) (c : Nat) (f : CoreSt → CoreSt) : (s.updCore c f).rings = s.rings := rfl
@[simp] theorem State.updCore_arms (s : State) (c : Nat) (f : CoreSt → CoreSt) : (s.updCore c f).arms = s.arms := rfl
@[simp] theorem State.updCore_gcs (s : State) (c : Nat) (f : CoreSt → CoreSt) : (s.updCore c f).gcs = s.gcs := rfl
@[simp] theorem State.updCore_leases (s : State) (c : Nat) (f : CoreSt → CoreSt) : (s.updCore c f).leases = s.leases := rfl
@[simp] theorem State.updCore_ldg (s : State) (c : Nat) (f : CoreSt → CoreSt) : (s.updCore c f).ldg = s.ldg := rfl
@[simp] theorem State.updCore_camp (s : State) (c : Nat) (f : CoreSt → CoreSt) : (s.updCore c f).camp = s.camp := rfl
@[simp] theorem State.updCore_law (s : State) (c : Nat) (f : CoreSt → CoreSt) : (s.updCore c f).law = s.law := rfl
@[simp] theorem State.updCore_bad (s : State) (c : Nat) (f : CoreSt → CoreSt) : (s.updCore c f).bad = s.bad := rfl
@[simp] theorem State.updCore_lineChk (s : State) (c : Nat) (f : CoreSt → CoreSt) : (s.updCore c f).lineChk = s.lineChk := rfl
@[simp] theorem State.updCore_mems (s : State) (c : Nat) (f : CoreSt → CoreSt) : (s.updCore c f).mems = s.mems := rfl
@[simp] theorem State.updCore_jrn (s : State) (c : Nat) (f : CoreSt → CoreSt) : (s.updCore c f).jrn = s.jrn := rfl
@[simp] theorem State.updCore_scan (s : State) (c : Nat) (f : CoreSt → CoreSt) : (s.updCore c f).scan = s.scan := rfl
@[simp] theorem State.updCore_bel (s : State) (c : Nat) (f : CoreSt → CoreSt) : (s.updCore c f).bel = s.bel := rfl
@[simp] theorem State.updCore_queues (s : State) (c : Nat) (f : CoreSt → CoreSt) : (s.updCore c f).queues = s.queues := rfl
@[simp] theorem State.updCore_port (s : State) (c : Nat) (f : CoreSt → CoreSt) : (s.updCore c f).port = s.port := rfl
@[simp] theorem State.updCore_sig (s : State) (c : Nat) (f : CoreSt → CoreSt) : (s.updCore c f).sig = s.sig := rfl
@[simp] theorem State.updCore_keep (s : State) (c : Nat) (f : CoreSt → CoreSt) : (s.updCore c f).keep = s.keep := rfl
@[simp] theorem State.updCore_lant (s : State) (c : Nat) (f : CoreSt → CoreSt) : (s.updCore c f).lant = s.lant := rfl
@[simp] theorem State.updCore_rst (s : State) (c : Nat) (f : CoreSt → CoreSt) : (s.updCore c f).rst = s.rst := rfl
@[simp] theorem State.updCore_sec (s : State) (c : Nat) (f : CoreSt → CoreSt) : (s.updCore c f).sec = s.sec := rfl
@[simp] theorem State.updCore_twin (s : State) (c : Nat) (f : CoreSt → CoreSt) : (s.updCore c f).twin = s.twin := rfl
@[simp] theorem State.updCore_pending (s : State) (c : Nat) (f : CoreSt → CoreSt) : (s.updCore c f).pending = s.pending := rfl
@[simp] theorem State.put_regs (s : State) (a n v : Nat) : (s.put a n v).regs = s.regs := rfl
@[simp] theorem State.put_staged (s : State) (a n v : Nat) : (s.put a n v).staged = s.staged := rfl
@[simp] theorem State.put_hiLatch (s : State) (a n v : Nat) : (s.put a n v).hiLatch = s.hiLatch := rfl
@[simp] theorem State.put_fab (s : State) (a n v : Nat) : (s.put a n v).fab = s.fab := rfl
@[simp] theorem State.put_time (s : State) (a n v : Nat) : (s.put a n v).time = s.time := rfl
@[simp] theorem State.put_free (s : State) (a n v : Nat) : (s.put a n v).free = s.free := rfl
@[simp] theorem State.put_reply (s : State) (a n v : Nat) : (s.put a n v).reply = s.reply := rfl
@[simp] theorem State.put_pipe (s : State) (a n v : Nat) : (s.put a n v).pipe = s.pipe := rfl
@[simp] theorem State.put_entries (s : State) (a n v : Nat) : (s.put a n v).entries = s.entries := rfl
@[simp] theorem State.put_terms (s : State) (a n v : Nat) : (s.put a n v).terms = s.terms := rfl
@[simp] theorem State.put_rings (s : State) (a n v : Nat) : (s.put a n v).rings = s.rings := rfl
@[simp] theorem State.put_arms (s : State) (a n v : Nat) : (s.put a n v).arms = s.arms := rfl
@[simp] theorem State.put_gcs (s : State) (a n v : Nat) : (s.put a n v).gcs = s.gcs := rfl
@[simp] theorem State.put_leases (s : State) (a n v : Nat) : (s.put a n v).leases = s.leases := rfl
@[simp] theorem State.put_ldg (s : State) (a n v : Nat) : (s.put a n v).ldg = s.ldg := rfl
@[simp] theorem State.put_camp (s : State) (a n v : Nat) : (s.put a n v).camp = s.camp := rfl
@[simp] theorem State.put_law (s : State) (a n v : Nat) : (s.put a n v).law = s.law := rfl
@[simp] theorem State.put_bad (s : State) (a n v : Nat) : (s.put a n v).bad = s.bad := rfl
@[simp] theorem State.put_lineChk (s : State) (a n v : Nat) : (s.put a n v).lineChk = s.lineChk := rfl
@[simp] theorem State.put_mems (s : State) (a n v : Nat) : (s.put a n v).mems = s.mems := rfl
@[simp] theorem State.put_jrn (s : State) (a n v : Nat) : (s.put a n v).jrn = s.jrn := rfl
@[simp] theorem State.put_scan (s : State) (a n v : Nat) : (s.put a n v).scan = s.scan := rfl
@[simp] theorem State.put_bel (s : State) (a n v : Nat) : (s.put a n v).bel = s.bel := rfl
@[simp] theorem State.put_queues (s : State) (a n v : Nat) : (s.put a n v).queues = s.queues := rfl
@[simp] theorem State.put_port (s : State) (a n v : Nat) : (s.put a n v).port = s.port := rfl
@[simp] theorem State.put_sig (s : State) (a n v : Nat) : (s.put a n v).sig = s.sig := rfl
@[simp] theorem State.put_keep (s : State) (a n v : Nat) : (s.put a n v).keep = s.keep := rfl
@[simp] theorem State.put_cores (s : State) (a n v : Nat) : (s.put a n v).cores = s.cores := rfl
@[simp] theorem State.put_lant (s : State) (a n v : Nat) : (s.put a n v).lant = s.lant := rfl
@[simp] theorem State.put_rst (s : State) (a n v : Nat) : (s.put a n v).rst = s.rst := rfl
@[simp] theorem State.put_sec (s : State) (a n v : Nat) : (s.put a n v).sec = s.sec := rfl
@[simp] theorem State.put_twin (s : State) (a n v : Nat) : (s.put a n v).twin = s.twin := rfl
@[simp] theorem State.put_pending (s : State) (a n v : Nat) : (s.put a n v).pending = s.pending := rfl

end Sys2Proof.Machine
end

