-- ==== Sys2Proof/Laws/Access.lean ====
section
/-!
SUPPORT. Accesses to registers: what an operation of the FAB domain does with its clock on and off, what an accepted write
leaves, and when a write stores nothing.
-/
namespace Sys2Proof.Machine

/-- With the clock running an operation of the FAB domain acts. -/
theorem onFab_on {s : State} (h : clocked s = true) (f : State → State) : onFab s f = f s := if_pos h

/-- With the clock standing still it changes nothing. -/
theorem onFab_off {s : State} (h : clocked s = false) (f : State → State) : onFab s f = s := by
  unfold onFab; rw [h]; rfl

/-- A word write that reaches a powered block. -/
theorem wordCmd_powered {s : State} {req : Req} {b : Blk} {i w data m : Nat} (h : clocked s = true)
    (hp : powered s (.reg b i w) = true) : wordCmd s req b i w data m = regWrite s req b i w data m := by
  unfold wordCmd access; rw [onFab_on h]; exact if_pos hp

/-- A word write to a block without power is a bus error (R28). -/
theorem wordCmd_unpowered {s : State} {req : Req} {b : Blk} {i w data m : Nat} (h : clocked s = true)
    (hp : powered s (.reg b i w) = false) : wordCmd s req b i w data m = busError s req true (b.inst i + w) := by
  unfold wordCmd access; rw [onFab_on h, hp]; rfl

/-- A write with no reason against it is applied whole (R8). -/
theorem regWrite_ok {s : State} {req : Req} {b : Blk} {i w data m : Nat} (h : writeCode s req b i w data m = OK)
    (hn : ignoredWord b i w = false) :
    regWrite s req b i w data m = blockEffect (storeWord s b i w data m) req b i w (s.asked b i w data m) s := by
  unfold regWrite; rw [h, hn]; rfl

/-- A write of a word that its instance ignores changes nothing (R265). -/
theorem regWrite_ignored {s : State} {req : Req} {b : Blk} {i w data m : Nat} (h : writeCode s req b i w data m = OK)
    (hn : ignoredWord b i w = true) : regWrite s req b i w data m = s.answer OK 0 := by
  unfold regWrite; rw [h, hn]; rfl

/-- A write with a reason against it is not applied (R8, R9). -/
theorem regWrite_refused {s : State} {req : Req} {b : Blk} {i w data m : Nat} (h : writeCode s req b i w data m ≠ OK) :
    regWrite s req b i w data m = refuseReg s b i w (writeCode s req b i w data m) := by
  unfold regWrite; simp [h]

/-- A part whose bits a write does not carry, or that holds no value of its own, is stored nowhere. -/
def Piece.silent (m : Nat) (p : Piece) : Bool :=
  p.carried m == 0 || p.fld == PORT_FW_DONE_JSEQ || p.fld == SPIRE_CTRL_RUN || p.fld == SPIRE_LOAD_DATA_DATA
    || p.fld.acc == .ro || (p.fld.acc == .wo && p.fld != TWIN_CASC_TX_VALUE)

/-- Such a part leaves the state. -/
theorem storePiece_silent {p : Piece} {m : Nat} (h : p.silent m = true) (i data : Nat) (s : State) :
    storePiece i data m s p = s := by
  unfold Piece.silent at h
  unfold storePiece
  dsimp only
  split
  · rfl
  · rename_i hn
    simp only [Bool.or_eq_true, Bool.and_eq_true, beq_iff_eq, bne_iff_ne, decide_eq_true_eq, not_or] at h hn
    rcases h with (h | h) | h
    · grind
    · rw [h]
    · rw [h.1]; simp [h.2]

/-- A word of such parts leaves the state. -/
theorem store_silent {ps : List Piece} {m : Nat} (h : ps.all (Piece.silent m) = true) (i data : Nat) (s : State) :
    ps.foldl (storePiece i data m) s = s := by
  induction ps generalizing s with
  | nil => rfl
  | cons p t ih =>
    simp only [List.all_cons, Bool.and_eq_true] at h
    rw [List.foldl_cons, storePiece_silent h.1, ih h.2]

/-- An accepted write of a word of which it stores nothing: the answer and the block's own effect. -/
theorem regWrite_silent {s : State} {req : Req} {b : Blk} {i w data m : Nat} (h : writeCode s req b i w data m = OK)
    (hs : (b.pieces w).all (Piece.silent m) = true) (hw : w ≠ 0x0F0) (hb : b ≠ .law) (hn : ignoredWord b i w = false) :
    regWrite s req b i w data m = blockEffect (s.answer OK 0) req b i w (s.asked b i w data m) s := by
  rw [regWrite_ok h hn, storeWord, store_silent hs]
  simp [hw, hb]

/-! ### Bits of the word a write asks for -/

/-- Bits that do not meet add without a carry. -/
theorem testBit_add_apart (k : Nat) : ∀ a b : Nat, a &&& b = 0 → (a + b).testBit k = (a.testBit k || b.testBit k) := by
  have low : ∀ a b : Nat, a &&& b = 0 → ¬(a % 2 = 1 ∧ b % 2 = 1) := by
    intro a b h hc
    have h0 := congrArg (fun n => n.testBit 0) h
    simp [hc.1, hc.2] at h0
  induction k with
  | zero =>
    intro a b h
    have := low a b h
    simp only [Nat.testBit_zero]
    rcases Nat.mod_two_eq_zero_or_one a with ha | ha <;> rcases Nat.mod_two_eq_zero_or_one b with hb | hb <;>
      simp [ha, hb, Nat.add_mod] at this ⊢
  | succ k ih =>
    intro a b h
    have := low a b h
    have hd : (a + b) / 2 = a / 2 + b / 2 := by omega
    rw [Nat.testBit_succ, Nat.testBit_succ, Nat.testBit_succ, hd]
    apply ih
    have := congrArg (fun n => n / 2) h
    simpa [Nat.and_div_two] using this

/-- A bit of a number with the bits of a mask cleared. -/
theorem clearBits_testBit (v m k : Nat) : (clearBits v m).testBit k = (v.testBit k && !m.testBit k) := by
  have hs : v = (v &&& m) + clearBits v m := by
    unfold clearBits
    have : v &&& m ≤ v := Nat.and_le_left
    omega
  have hx : clearBits v m = v ^^^ (v &&& m) := by
    have hd : (v &&& m) &&& (v ^^^ (v &&& m)) = 0 := by
      apply Nat.eq_of_testBit_eq
      intro j
      simp only [Nat.testBit_and, Nat.testBit_xor, Nat.zero_testBit]
      cases v.testBit j <;> cases m.testBit j <;> rfl
    have hv : (v &&& m) + (v ^^^ (v &&& m)) = v := by
      apply Nat.eq_of_testBit_eq
      intro j
      rw [testBit_add_apart j _ _ hd]
      simp only [Nat.testBit_and, Nat.testBit_xor]
      cases v.testBit j <;> cases m.testBit j <;> rfl
    omega
  rw [hx, Nat.testBit_xor, Nat.testBit_and]
  cases v.testBit k <;> cases m.testBit k <;> rfl

/-- A bit of the word asked for: the write's own where the mask carries it, else the RW bit as last written. -/
theorem asked_testBit (s : State) (b : Blk) (i w data m k : Nat) :
    (s.asked b i w data m).testBit k = if m.testBit k then data.testBit k else (s.rwWord b i w).testBit k := by
  unfold State.asked
  rw [testBit_add_apart, clearBits_testBit, Nat.testBit_and]
  · cases m.testBit k <;> simp
  · apply Nat.eq_of_testBit_eq
    intro j
    rw [Nat.testBit_and, clearBits_testBit, Nat.testBit_and]
    cases m.testBit j <;> simp

/-- The same in the model's own reading of a bit. -/
theorem bit_asked (s : State) (b : Blk) (i w data m k : Nat) :
    bit (s.asked b i w data m) k = if bit m k then bit data k else bit (s.rwWord b i w) k := asked_testBit s b i w data m k

/-- A word without RW fields has nothing a write could leave. -/
theorem rwWord_none {s : State} {b : Blk} {w : Nat} (h : (b.pieces w).all (fun p => p.fld.acc != .rw) = true) (i : Nat) :
    s.rwWord b i w = 0 := by
  unfold State.rwWord
  generalize b.pieces w = ps at h
  induction ps with
  | nil => rfl
  | cons p t ih =>
    simp only [List.all_cons, Bool.and_eq_true, bne_iff_ne, ne_eq] at h
    simp only [sumOf, if_neg h.1, ih h.2]

/-- A word written whole is the word asked for. -/
theorem asked_whole (s : State) (b : Blk) (i w data m : Nat) (hd : data &&& m = data)
    (h : clearBits (s.rwWord b i w) m = 0) : s.asked b i w data m = data := by
  unfold State.asked; rw [h, hd, Nat.zero_add]

end Sys2Proof.Machine
end

