-- ==== Sys2Proof/Laws/Keeps.lean ====
section
/-!
SUPPORT. What every operation of the device keeps: the queue of waiting commands, the terminals, the order of the FAB edges and
the canonical form of the memories. One lemma per operation follows in the Keeps files, each in the form that chains.
-/
namespace Sys2Proof.Machine

/-- `t` can follow `s`: the queue and the terminals are the same, the clock has not run back, the memories keep their form. -/
structure Keeps (s t : State) : Prop where
  pending : t.pending = s.pending
  terms : t.terms = s.terms
  fab : s.fab ≤ t.fab
  mem : s.memOk → t.memOk

/-- Nothing changed. -/
theorem Keeps.refl (s : State) : Keeps s s := ⟨rfl, rfl, Nat.le_refl _, id⟩

/-- One operation after another. -/
theorem Keeps.trans {r s t : State} (h : Keeps r s) (k : Keeps s t) : Keeps r t :=
  ⟨k.pending.trans h.pending, k.terms.trans h.terms, Nat.le_trans h.fab k.fab, fun m => k.mem (h.mem m)⟩

/-- An update of other fields. -/
theorem Keeps.upd {r s t : State} (h : Keeps r s) (h1 : t.pending = s.pending) (h2 : t.terms = s.terms) (h3 : t.fab = s.fab)
    (h4 : t.bytes = s.bytes) (h5 : t.cores = s.cores) : Keeps r t :=
  ⟨h1.trans h.pending, h2.trans h.terms, h3 ▸ h.fab, fun m => by
    have k := h.mem m
    refine ⟨h4 ▸ k.1, fun c => ?_⟩
    have : t.core c = s.core c := by simp only [State.core, h5]
    exact this ▸ k.2 c⟩

/-- An update of the memory that keeps its form. -/
theorem Keeps.bytes {r s t : State} (h : Keeps r s) (h1 : t.pending = s.pending) (h2 : t.terms = s.terms) (h3 : t.fab = s.fab)
    (h5 : t.cores = s.cores) (h4 : Memory.wf s.bytes = true → Memory.wf t.bytes = true) : Keeps r t :=
  ⟨h1.trans h.pending, h2.trans h.terms, h3 ▸ h.fab, fun m => by
    have k := h.mem m
    refine ⟨h4 k.1, fun c => ?_⟩
    have : t.core c = s.core c := by simp only [State.core, h5]
    exact this ▸ k.2 c⟩

/-- An update of any other fields, whatever they become. -/
theorem Keeps.lit {r s : State} (regs' : Sp Nat) (staged' : Sp Staged) (hiLatch' : Sp Nat) (time' : Nat) (free' : Nat)
    (reply' : Reply) (pipe' : PipeSt) (entries' : Sp Entry) (rings' : Sp RingSt) (arms' : Sp ArmSt) (gcs' : GcsSt)
    (leases' : Sp LeaseSt) (ldg' : LdgSt) (camp' : CampSt) (law' : LawSt) (bad' : List Nat) (lineChk' : Sp (List Nat))
    (mems' : Sp MemSt) (jrn' : JrnSt) (scan' : ScanSt) (bel' : BelSt) (queues' : Sp QueueSt) (port' : PortSt) (sig' :
    SigSt) (keep' : KeepSt) (lant' : LantSt) (rst' : RstSt) (sec' : SecSt) (twin' : TwinSt)
    (h : Keeps r s) : Keeps r ⟨regs', staged', hiLatch', s.bytes, s.fab, time', free', reply', pipe', entries', s.terms,
    rings', arms', gcs', leases', ldg', camp', law', bad', lineChk', mems', jrn', scan', bel', queues', port', sig',
    keep', s.cores, lant', rst', sec', twin', s.pending⟩ := h.upd rfl rfl rfl rfl rfl

/-- An update of the memory that keeps its form, and of other fields. -/
theorem Keeps.litBytes {r s : State} (regs' : Sp Nat) (staged' : Sp Staged) (hiLatch' : Sp Nat) (time' : Nat) (free' :
    Nat)
    (reply' : Reply) (pipe' : PipeSt) (entries' : Sp Entry) (rings' : Sp RingSt) (arms' : Sp ArmSt) (gcs' : GcsSt)
    (leases' : Sp LeaseSt) (ldg' : LdgSt) (camp' : CampSt) (law' : LawSt) (bad' : List Nat) (lineChk' : Sp (List Nat))
    (mems' : Sp MemSt) (jrn' : JrnSt) (scan' : ScanSt) (bel' : BelSt) (queues' : Sp QueueSt) (port' : PortSt) (sig' :
    SigSt) (keep' : KeepSt) (lant' : LantSt) (rst' : RstSt) (sec' : SecSt) (twin' : TwinSt)
    {bytes' : List Host.Cell} (h : Keeps r s) (hb : Memory.wf s.bytes = true → Memory.wf bytes' = true) : Keeps r
    ⟨regs', staged', hiLatch', bytes', s.fab, time', free', reply', pipe', entries', s.terms,
    rings', arms', gcs', leases', ldg', camp', law', bad', lineChk', mems', jrn', scan', bel', queues', port', sig',
    keep', s.cores, lant', rst', sec', twin', s.pending⟩ := h.bytes rfl rfl rfl rfl hb

/-- Either branch. -/
theorem Keeps.ite {r a b : State} {c : Prop} [Decidable c] (ha : Keeps r a) (hb : Keeps r b) : Keeps r (if c then a else b) := by
  split <;> assumption

/-- Either branch of a pair. -/
theorem Keeps.ite_fst {α : Type} {r : State} {a b : State × α} {c : Prop} [Decidable c] (ha : Keeps r a.1) (hb : Keeps r b.1) :
    Keeps r (if c then a else b).1 := by
  split <;> assumption

/-- The state of a pair. -/
theorem Keeps.of_pair {α : Type} {r s : State} {v : α} {p : State × α} (h : p = (s, v)) (k : Keeps r p.1) : Keeps r s := by
  subst h; exact k

/-- The state of a pair, as the second part. -/
theorem Keeps.of_pair' {α : Type} {r s : State} {v : α} {p : α × State} (h : p = (v, s)) (k : Keeps r p.2) : Keeps r s := by
  subst h; exact k

/-- A list taken in order. -/
theorem Keeps.foldl {β : Type} {r s : State} (f : State → β → State) (l : List β) (h : Keeps r s)
    (hf : ∀ t b, Keeps r t → Keeps r (f t b)) : Keeps r (l.foldl f s) := by
  induction l generalizing s with
  | nil => exact h
  | cons b t ih => exact ih (hf s b h)

/-- A list taken in order, with a state beside. -/
theorem Keeps.foldl_fst {α β : Type} {r : State} (f : State × α → β → State × α) (l : List β) (p : State × α) (h : Keeps r p.1)
    (hf : ∀ t b, Keeps r t.1 → Keeps r (f t b).1) : Keeps r (l.foldl f p).1 := by
  induction l generalizing p with
  | nil => exact h
  | cons b t ih => exact ih (f p b) (hf p b h)

/-- The first n naturals taken in order. -/
theorem Keeps.forN {r s : State} (n : Nat) (f : Nat → State → State) (h : Keeps r s)
    (hf : ∀ i t, Keeps r t → Keeps r (f i t)) : Keeps r (forN n f s) := by
  induction n with
  | zero => exact h
  | succ n ih => exact hf n _ ih

/-- A register write of a core leaves its TCM. -/
theorem wf_gW {x : CoreSt} (h : Memory.wf x.tcm = true) (i : Nat) (v : BitVec 32) : Memory.wf (x.gW i v).tcm = true := by
  unfold CoreSt.gW; split <;> exact h

/-- An f register written leaves the TCM. -/
theorem wf_fW {x : CoreSt} (h : Memory.wf x.tcm = true) (i : Nat) (v : BitVec 32) : Memory.wf (x.fW i v).tcm = true := h

/-- An accumulator written leaves the TCM. -/
theorem wf_acW {x : CoreSt} (h : Memory.wf x.tcm = true) (i : Nat) (v : BitVec 72) : Memory.wf (x.acW i v).tcm = true := h

/-- Bytes stored in the TCM keep its form. -/
theorem wf_tcmPut {x : CoreSt} (h : Memory.wf x.tcm = true) (a n v : Nat) : Memory.wf (x.tcmPut a n v).tcm = true :=
  memPut_wf _ _ _ _ h

/-- A load's data written leaves the TCM. -/
theorem wf_takeLoad {x : CoreSt} (h : Memory.wf x.tcm = true) (l : LoadReq) (v : Nat) : Memory.wf (x.takeLoad l v).tcm = true := by
  show Memory.wf (if l.fp then x.fW l.rd _ else x.gW l.rd _).tcm = true
  split
  · exact wf_fW h _ _
  · exact wf_gW h _ _

/-- A message taken leaves the TCM. -/
theorem wf_takeMsg {x : CoreSt} (h : Memory.wf x.tcm = true) (i : Nat) : Memory.wf (x.takeMsg i).tcm = true := by
  unfold CoreSt.takeMsg; split
  · exact h
  · exact wf_gW (wf_gW h _ _) _ _

/-- An empty memory has the canonical form. -/
theorem wf_nil : Memory.wf [] = true := rfl

/-- A field written. -/
theorem keeps_wr {r s : State} (h : Keeps r s) (f : Fld) (v i j : Nat) : Keeps r (s.wr f v i j) := h.upd rfl rfl rfl rfl rfl

/-- A core replaced: its TCM keeps its form. -/
theorem keeps_setCore {r s : State} (h : Keeps r s) (c : Nat) (x : CoreSt)
    (hx : Memory.wf (s.core c).tcm = true → Memory.wf x.tcm = true) : Keeps r (s.setCore c x) := by
  refine ⟨h.pending, h.terms, h.fab, fun m => ?_⟩
  have k := h.mem m
  refine ⟨k.1, fun d => ?_⟩
  have : (s.setCore c x).core d = if d = c then x else s.core d := by
    simp only [State.setCore, State.core]; exact Sp.get_set _ _ _ _ _
  rw [this]
  split
  · exact hx (k.2 c)
  · exact k.2 d

/-- A core changed: its TCM keeps its form. -/
theorem keeps_updCore {r s : State} (h : Keeps r s) (c : Nat) (f : CoreSt → CoreSt)
    (hf : Memory.wf (s.core c).tcm = true → Memory.wf (f (s.core c)).tcm = true) : Keeps r (s.updCore c f) :=
  keeps_setCore h c _ hf

/-- Time moved on by edges. -/
theorem keeps_edges {r s : State} (h : Keeps r s) (n : Nat) : Keeps r (s.edges n) :=
  ⟨h.pending, h.terms, Nat.le_trans h.fab (Nat.le_add_right _ _), fun m => h.mem m⟩

/-- Time moved on to an edge. -/
theorem keeps_toEdge {r s : State} (h : Keeps r s) (e : Nat) : Keeps r (s.toEdge e) := keeps_edges h _

/-- A number stored. -/
theorem keeps_put {r s : State} (h : Keeps r s) (a n v : Nat) : Keeps r (s.put a n v) :=
  h.bytes rfl rfl rfl rfl (memPut_wf _ _ _ _)

/-- A free value drawn. -/
theorem keeps_takeFree {r s : State} (h : Keeps r s) : Keeps r s.takeFree.2 := h.upd rfl rfl rfl rfl rfl

end Sys2Proof.Machine
end

