-- ==== Sys2Proof/Laws/KeepsA.lean ====
section
/-!
SUPPORT. What every operation of Ops.lean, Words.lean, Lease.lean, QueueBase.lean, Memory.lean, Scan.lean, Store.lean,
Journal.lean keeps (Keeps.lean).
-/
namespace Sys2Proof.Machine

theorem keeps_raise {r s : State} (h : Keeps r s) : ∀ x0 x1 x2, Keeps r (State.raise s x0 x1 x2) := by
  intro x0 x1 x2
  unfold State.raise
  repeat' first
    | with_reducible assumption | intro _ | with_reducible exact Keeps.refl _ | with_reducible apply keeps_wr

theorem keeps_clear {r s : State} (h : Keeps r s) : ∀ x0 x1 x2, Keeps r (State.clear s x0 x1 x2) := by
  intro x0 x1 x2
  unfold State.clear
  repeat' first
    | with_reducible assumption | intro _ | with_reducible exact Keeps.refl _ | with_reducible apply keeps_wr

theorem keeps_orIn {r s : State} (h : Keeps r s) : ∀ x0 x1 x2 x3, Keeps r (State.orIn s x0 x1 x2 x3) := by
  intro x0 x1 x2 x3
  unfold State.orIn
  repeat' first
    | with_reducible assumption | intro _ | with_reducible exact Keeps.refl _ | with_reducible apply keeps_wr

theorem keeps_raiseIf {r s : State} (h : Keeps r s) : ∀ x0 x1 x2 x3, Keeps r (State.raiseIf s x0 x1 x2 x3) := by
  intro x0 x1 x2 x3
  unfold State.raiseIf
  repeat' first
    | with_reducible assumption | intro _ | with_reducible exact Keeps.refl _ | with_reducible apply keeps_raise
    | with_reducible apply Keeps.ite

theorem keeps_count {r s : State} (h : Keeps r s) : ∀ x0 x1 x2 x3, Keeps r (State.count s x0 x1 x2 x3) := by
  intro x0 x1 x2 x3
  unfold State.count
  repeat' first
    | with_reducible assumption | intro _ | with_reducible exact Keeps.refl _ | with_reducible apply keeps_wr

theorem keeps_countSat {r s : State} (h : Keeps r s) : ∀ x0 x1 x2 x3, Keeps r (State.countSat s x0 x1 x2 x3) := by
  intro x0 x1 x2 x3
  unfold State.countSat
  repeat' first
    | with_reducible assumption | intro _ | with_reducible exact Keeps.refl _ | with_reducible apply keeps_wr

theorem keeps_stage {r s : State} (h : Keeps r s) : ∀ x0 x1 x2 x3, Keeps r (State.stage s x0 x1 x2 x3) := by
  intro x0 x1 x2 x3
  unfold State.stage
  repeat' first
    | with_reducible assumption | intro _ | with_reducible exact Keeps.refl _ | with_reducible apply Keeps.ite
    | with_reducible apply Keeps.ite_fst | with_reducible apply Keeps.foldl | with_reducible apply Keeps.foldl_fst
    | with_reducible apply Keeps.forN | with_reducible refine Keeps.of_pair (by assumption) ?_
    | with_reducible refine Keeps.of_pair' (by assumption) ?_ | fail_if_no_progress with_reducible apply Keeps.lit

theorem keeps_load {r s : State} (h : Keeps r s) : ∀ x0, Keeps r (State.load s x0) := by
  intro x0
  unfold State.load
  repeat' first
    | with_reducible assumption | intro _ | with_reducible exact Keeps.refl _ | with_reducible apply Keeps.ite
    | with_reducible apply Keeps.ite_fst | with_reducible apply Keeps.foldl | with_reducible apply Keeps.foldl_fst
    | with_reducible apply Keeps.forN | with_reducible refine Keeps.of_pair (by assumption) ?_
    | with_reducible refine Keeps.of_pair' (by assumption) ?_ | fail_if_no_progress with_reducible apply Keeps.lit

theorem keeps_loadBefore {r s : State} (h : Keeps r s) : ∀ x0 x1, Keeps r (State.loadBefore s x0 x1) := by
  intro x0 x1
  unfold State.loadBefore
  repeat' first
    | with_reducible assumption | intro _ | with_reducible exact Keeps.refl _ | with_reducible apply Keeps.ite
    | with_reducible apply Keeps.ite_fst | with_reducible apply Keeps.foldl | with_reducible apply Keeps.foldl_fst
    | with_reducible apply Keeps.forN | with_reducible refine Keeps.of_pair (by assumption) ?_
    | with_reducible refine Keeps.of_pair' (by assumption) ?_ | fail_if_no_progress with_reducible apply Keeps.lit

theorem keeps_loadTick {r s : State} (h : Keeps r s) : ∀ x0, Keeps r (State.loadTick s x0) := by
  intro x0
  unfold State.loadTick
  repeat' first
    | with_reducible assumption | intro _ | with_reducible exact Keeps.refl _ | with_reducible apply keeps_loadBefore

theorem keeps_recordErr {r s : State} (h : Keeps r s) : ∀ x0 x1 x2 x3, Keeps r (State.recordErr s x0 x1 x2 x3) := by
  intro x0 x1 x2 x3
  unfold State.recordErr
  repeat' first
    | with_reducible assumption | intro _ | with_reducible exact Keeps.refl _ | with_reducible apply keeps_wr
    | with_reducible apply Keeps.ite

theorem keeps_clearErr {r s : State} (h : Keeps r s) : ∀ x0 x1, Keeps r (State.clearErr s x0 x1) := by
  intro x0 x1
  unfold State.clearErr
  repeat' first
    | with_reducible assumption | intro _ | with_reducible exact Keeps.refl _ | with_reducible apply keeps_wr

theorem keeps_answer {r s : State} (h : Keeps r s) : ∀ x0 x1, Keeps r (State.answer s x0 x1) := by
  intro x0 x1
  unfold State.answer
  repeat' first
    | with_reducible assumption | intro _ | with_reducible exact Keeps.refl _ | with_reducible apply Keeps.ite
    | with_reducible apply Keeps.ite_fst | with_reducible apply Keeps.foldl | with_reducible apply Keeps.foldl_fst
    | with_reducible apply Keeps.forN | with_reducible refine Keeps.of_pair (by assumption) ?_
    | with_reducible refine Keeps.of_pair' (by assumption) ?_ | fail_if_no_progress with_reducible apply Keeps.lit

theorem keeps_refuse {r s : State} (h : Keeps r s) : ∀ x0 x1 x2 x3, Keeps r (State.refuse s x0 x1 x2 x3) := by
  intro x0 x1 x2 x3
  unfold State.refuse
  repeat' first
    | with_reducible assumption | intro _ | with_reducible exact Keeps.refl _ | with_reducible apply keeps_answer
    | with_reducible apply keeps_recordErr

theorem keeps_updEntry {r s : State} (h : Keeps r s) : ∀ x0 x1, Keeps r (State.updEntry s x0 x1) := by
  intro x0 x1
  unfold State.updEntry
  repeat' first
    | with_reducible assumption | intro _ | with_reducible exact Keeps.refl _ | with_reducible apply Keeps.ite
    | with_reducible apply Keeps.ite_fst | with_reducible apply Keeps.foldl | with_reducible apply Keeps.foldl_fst
    | with_reducible apply Keeps.forN | with_reducible refine Keeps.of_pair (by assumption) ?_
    | with_reducible refine Keeps.of_pair' (by assumption) ?_ | fail_if_no_progress with_reducible apply Keeps.lit

theorem keeps_updRing {r s : State} (h : Keeps r s) : ∀ x0 x1, Keeps r (State.updRing s x0 x1) := by
  intro x0 x1
  unfold State.updRing
  repeat' first
    | with_reducible assumption | intro _ | with_reducible exact Keeps.refl _ | with_reducible apply Keeps.ite
    | with_reducible apply Keeps.ite_fst | with_reducible apply Keeps.foldl | with_reducible apply Keeps.foldl_fst
    | with_reducible apply Keeps.forN | with_reducible refine Keeps.of_pair (by assumption) ?_
    | with_reducible refine Keeps.of_pair' (by assumption) ?_ | fail_if_no_progress with_reducible apply Keeps.lit

theorem keeps_updArm {r s : State} (h : Keeps r s) : ∀ x0 x1, Keeps r (State.updArm s x0 x1) := by
  intro x0 x1
  unfold State.updArm
  repeat' first
    | with_reducible assumption | intro _ | with_reducible exact Keeps.refl _ | with_reducible apply Keeps.ite
    | with_reducible apply Keeps.ite_fst | with_reducible apply Keeps.foldl | with_reducible apply Keeps.foldl_fst
    | with_reducible apply Keeps.forN | with_reducible refine Keeps.of_pair (by assumption) ?_
    | with_reducible refine Keeps.of_pair' (by assumption) ?_ | fail_if_no_progress with_reducible apply Keeps.lit

theorem keeps_updLease {r s : State} (h : Keeps r s) : ∀ x0 x1, Keeps r (State.updLease s x0 x1) := by
  intro x0 x1
  unfold State.updLease
  repeat' first
    | with_reducible assumption | intro _ | with_reducible exact Keeps.refl _ | with_reducible apply Keeps.ite
    | with_reducible apply Keeps.ite_fst | with_reducible apply Keeps.foldl | with_reducible apply Keeps.foldl_fst
    | with_reducible apply Keeps.forN | with_reducible refine Keeps.of_pair (by assumption) ?_
    | with_reducible refine Keeps.of_pair' (by assumption) ?_ | fail_if_no_progress with_reducible apply Keeps.lit

theorem keeps_putWords {r s : State} (h : Keeps r s) : ∀ x0 x1 x2 x3 x4, Keeps r (State.putWords s x0 x1 x2 x3 x4) := by
  intro x0 x1 x2 x3 x4
  unfold State.putWords
  repeat' first
    | with_reducible assumption | intro _ | with_reducible exact Keeps.refl _ | with_reducible apply keeps_wr
    | with_reducible apply Keeps.ite | with_reducible apply Keeps.ite_fst | with_reducible apply Keeps.foldl
    | with_reducible apply Keeps.foldl_fst | with_reducible apply Keeps.forN

theorem keeps_suspShown {r s : State} (h : Keeps r s) : ∀ x0, Keeps r (suspShown s x0) := by
  intro x0
  unfold suspShown
  repeat' first
    | with_reducible assumption | intro _ | with_reducible exact Keeps.refl _ | with_reducible apply keeps_wr

theorem keeps_leaseCredit {r s : State} (h : Keeps r s) : ∀ x0 x1 x2 x3, Keeps r (leaseCredit s x0 x1 x2 x3) := by
  intro x0 x1 x2 x3
  unfold leaseCredit
  repeat' first
    | with_reducible assumption | intro _ | with_reducible exact Keeps.refl _ | with_reducible apply keeps_count
    | with_reducible apply Keeps.ite

theorem keeps_leaseObserve {r s : State} (h : Keeps r s) : ∀ x0, Keeps r (leaseObserve s x0) := by
  intro x0
  unfold leaseObserve
  repeat' first
    | with_reducible assumption | intro _ | with_reducible exact Keeps.refl _ | with_reducible apply keeps_updLease

theorem keeps_leaseUpdateCtx {r s : State} (h : Keeps r s) : ∀ x0, Keeps r (leaseUpdateCtx s x0) := by
  intro x0
  unfold leaseUpdateCtx
  repeat' first
    | with_reducible assumption | intro _ | with_reducible exact Keeps.refl _ | with_reducible apply keeps_updLease
    | with_reducible apply keeps_suspShown | with_reducible apply keeps_wr | with_reducible apply keeps_count
    | with_reducible apply keeps_raiseIf | with_reducible apply Keeps.ite

theorem keeps_setQueue {r s : State} (h : Keeps r s) : ∀ x0 x1, Keeps r (State.setQueue s x0 x1) := by
  intro x0 x1
  unfold State.setQueue
  repeat' first
    | with_reducible assumption | intro _ | with_reducible exact Keeps.refl _ | with_reducible apply Keeps.ite
    | with_reducible apply Keeps.ite_fst | with_reducible apply Keeps.foldl | with_reducible apply Keeps.foldl_fst
    | with_reducible apply Keeps.forN | with_reducible refine Keeps.of_pair (by assumption) ?_
    | with_reducible refine Keeps.of_pair' (by assumption) ?_ | fail_if_no_progress with_reducible apply Keeps.lit

theorem keeps_queueStatus {r s : State} (h : Keeps r s) : ∀ x0, Keeps r (queueStatus s x0) := by
  intro x0
  unfold queueStatus
  repeat' first
    | with_reducible assumption | intro _ | with_reducible exact Keeps.refl _ | with_reducible apply keeps_wr

theorem keeps_queueClear {r s : State} (h : Keeps r s) : ∀ x0, Keeps r (queueClear s x0) := by
  intro x0
  unfold queueClear
  repeat' first
    | with_reducible assumption | intro _ | with_reducible exact Keeps.refl _ | with_reducible apply keeps_queueStatus
    | with_reducible apply keeps_setQueue

theorem keeps_freshLine {r s : State} (h : Keeps r s) : ∀ x0, Keeps r (freshLine s x0) := by
  intro x0
  unfold freshLine
  repeat' first
    | with_reducible assumption | intro _ | with_reducible exact Keeps.refl _ | with_reducible apply Keeps.ite
    | with_reducible apply Keeps.ite_fst | with_reducible apply Keeps.foldl | with_reducible apply Keeps.foldl_fst
    | with_reducible apply Keeps.forN | with_reducible refine Keeps.of_pair (by assumption) ?_
    | with_reducible refine Keeps.of_pair' (by assumption) ?_ | fail_if_no_progress with_reducible apply Keeps.lit

theorem keeps_writeLine {r s : State} (h : Keeps r s) : ∀ a bs, Keeps r (writeLine s a bs) := by
  intro a bs
  exact (keeps_freshLine h (lineOf a)).bytes rfl rfl rfl rfl (memPutBytes_wf _ _ _)

theorem keeps_logEvent {r s : State} (h : Keeps r s) : ∀ x0 x1 x2 x3 x4, Keeps r (logEvent s x0 x1 x2 x3 x4) := by
  intro x0 x1 x2 x3 x4
  unfold logEvent
  repeat' first
    | with_reducible assumption | intro _ | with_reducible exact Keeps.refl _ | with_reducible apply keeps_wr
    | with_reducible apply keeps_raise | with_reducible apply Keeps.ite | with_reducible apply Keeps.ite_fst
    | with_reducible apply Keeps.foldl | with_reducible apply Keeps.foldl_fst | with_reducible apply Keeps.forN
    | with_reducible refine Keeps.of_pair (by assumption) ?_ | with_reducible refine Keeps.of_pair' (by assumption) ?_
    | fail_if_no_progress with_reducible apply Keeps.lit | split

theorem keeps_corrected {r s : State} (h : Keeps r s) : ∀ x0 x1 x2 x3, Keeps r (corrected s x0 x1 x2 x3) := by
  intro x0 x1 x2 x3
  unfold corrected
  repeat' first
    | with_reducible assumption | intro _ | with_reducible exact Keeps.refl _ | with_reducible apply keeps_writeLine
    | with_reducible apply keeps_logEvent | with_reducible apply keeps_countSat | with_reducible apply keeps_raise
    | with_reducible apply Keeps.ite | with_reducible apply Keeps.ite_fst | with_reducible apply Keeps.foldl
    | with_reducible apply Keeps.foldl_fst | with_reducible apply Keeps.forN
    | with_reducible refine Keeps.of_pair (by assumption) ?_ | with_reducible refine Keeps.of_pair' (by assumption) ?_
    | fail_if_no_progress with_reducible apply Keeps.lit | split

theorem keeps_enterChFail {r s : State} (h : Keeps r s) : ∀ x0, Keeps r (enterChFail s x0) := by
  intro x0
  unfold enterChFail
  repeat' first
    | with_reducible assumption | intro _ | with_reducible exact Keeps.refl _ | with_reducible apply keeps_queueClear
    | with_reducible apply keeps_raise | with_reducible apply Keeps.ite | with_reducible apply Keeps.ite_fst
    | with_reducible apply Keeps.foldl | with_reducible apply Keeps.foldl_fst | with_reducible apply Keeps.forN

theorem keeps_uncorrected {r s : State} (h : Keeps r s) : ∀ x0 x1 x2, Keeps r (uncorrected s x0 x1 x2) := by
  intro x0 x1 x2
  unfold uncorrected
  repeat' first
    | with_reducible assumption | intro _ | with_reducible exact Keeps.refl _ | with_reducible apply keeps_logEvent
    | with_reducible apply keeps_countSat | with_reducible apply keeps_raise | with_reducible apply keeps_enterChFail
    | with_reducible apply Keeps.ite | with_reducible apply Keeps.ite_fst | with_reducible apply Keeps.foldl
    | with_reducible apply Keeps.foldl_fst | with_reducible apply Keeps.forN
    | with_reducible refine Keeps.of_pair (by assumption) ?_ | with_reducible refine Keeps.of_pair' (by assumption) ?_
    | fail_if_no_progress with_reducible apply Keeps.lit | split

theorem keeps_caRetry {r s : State} (h : Keeps r s) : ∀ x0, Keeps r (caRetry s x0).1 := by
  intro x0
  unfold caRetry
  repeat' first
    | with_reducible assumption | intro _ | with_reducible exact Keeps.refl _ | with_reducible apply Keeps.ite
    | with_reducible apply Keeps.ite_fst | with_reducible apply Keeps.foldl | with_reducible apply Keeps.foldl_fst
    | with_reducible apply Keeps.forN | with_reducible refine Keeps.of_pair (by assumption) ?_
    | with_reducible refine Keeps.of_pair' (by assumption) ?_ | fail_if_no_progress with_reducible apply Keeps.lit | split

theorem keeps_decodeLine {r s : State} (h : Keeps r s) : ∀ x0 x1 x2, Keeps r (decodeLine s x0 x1 x2).1 := by
  intro x0 x1 x2
  unfold decodeLine
  repeat' first
    | with_reducible assumption | intro _ | with_reducible exact Keeps.refl _ | with_reducible apply keeps_caRetry
    | with_reducible apply keeps_uncorrected | with_reducible apply keeps_corrected | with_reducible apply Keeps.ite
    | with_reducible apply Keeps.ite_fst | with_reducible apply Keeps.foldl | with_reducible apply Keeps.foldl_fst
    | with_reducible apply Keeps.forN | with_reducible refine Keeps.of_pair (by assumption) ?_
    | with_reducible refine Keeps.of_pair' (by assumption) ?_ | fail_if_no_progress with_reducible apply Keeps.lit | split

theorem keeps_memRead {r s : State} (h : Keeps r s) : ∀ x0 x1, Keeps r (memRead s x0 x1).1 := by
  intro x0 x1
  unfold memRead
  repeat' first
    | with_reducible assumption | intro _ | with_reducible exact Keeps.refl _ | with_reducible apply keeps_decodeLine
    | with_reducible apply Keeps.ite | with_reducible apply Keeps.ite_fst | with_reducible apply Keeps.foldl
    | with_reducible apply Keeps.foldl_fst | with_reducible apply Keeps.forN
    | with_reducible refine Keeps.of_pair (by assumption) ?_ | with_reducible refine Keeps.of_pair' (by assumption) ?_
    | fail_if_no_progress with_reducible apply Keeps.lit | split

theorem keeps_loadBytes {r s : State} (h : Keeps r s) : ∀ x0 x1, Keeps r (loadBytes s x0 x1).1 := by
  intro x0 x1
  unfold loadBytes
  repeat' first
    | with_reducible assumption | intro _ | with_reducible exact Keeps.refl _ | with_reducible apply keeps_decodeLine
    | with_reducible apply Keeps.ite | with_reducible apply Keeps.ite_fst | with_reducible apply Keeps.foldl
    | with_reducible apply Keeps.foldl_fst | with_reducible apply Keeps.forN
    | with_reducible refine Keeps.of_pair (by assumption) ?_ | with_reducible refine Keeps.of_pair' (by assumption) ?_
    | fail_if_no_progress with_reducible apply Keeps.lit | split

theorem keeps_mramScan {r s : State} (h : Keeps r s) : ∀ x0 x1, Keeps r (mramScan s x0 x1) := by
  intro x0 x1
  unfold mramScan
  repeat' first
    | with_reducible assumption | intro _ | with_reducible exact Keeps.refl _ | with_reducible apply keeps_decodeLine
    | with_reducible apply Keeps.ite | with_reducible apply Keeps.ite_fst | with_reducible apply Keeps.foldl

theorem keeps_scrubLine {r s : State} (h : Keeps r s) : ∀ x0, Keeps r (scrubLine s x0) := by
  intro x0
  unfold scrubLine
  repeat' first
    | with_reducible assumption | intro _ | with_reducible exact Keeps.refl _ | with_reducible apply keeps_decodeLine
    | with_reducible apply keeps_raise | with_reducible apply Keeps.ite | with_reducible apply Keeps.ite_fst
    | with_reducible apply Keeps.foldl | with_reducible apply Keeps.foldl_fst | with_reducible apply Keeps.forN
    | with_reducible refine Keeps.of_pair (by assumption) ?_ | with_reducible refine Keeps.of_pair' (by assumption) ?_
    | fail_if_no_progress with_reducible apply Keeps.lit

theorem keeps_dramRefresh {r s : State} (h : Keeps r s) : ∀ x0, Keeps r (dramRefresh s x0) := by
  intro x0
  unfold dramRefresh
  repeat' first
    | with_reducible assumption | intro _ | with_reducible exact Keeps.refl _ | with_reducible apply keeps_toEdge
    | with_reducible apply Keeps.ite | with_reducible apply Keeps.ite_fst | with_reducible apply Keeps.foldl
    | with_reducible apply Keeps.foldl_fst | with_reducible apply Keeps.forN
    | with_reducible refine Keeps.of_pair (by assumption) ?_ | with_reducible refine Keeps.of_pair' (by assumption) ?_
    | fail_if_no_progress with_reducible apply Keeps.lit

theorem keeps_memcInit {r s : State} (h : Keeps r s) : ∀ x0, Keeps r (memcInit s x0) := by
  intro x0
  unfold memcInit
  repeat' first
    | with_reducible assumption | intro _ | with_reducible exact Keeps.refl _ | with_reducible apply keeps_clear
    | with_reducible apply Keeps.ite | with_reducible apply Keeps.ite_fst | with_reducible apply Keeps.foldl
    | with_reducible apply Keeps.foldl_fst | with_reducible apply Keeps.forN
    | with_reducible refine Keeps.of_pair (by assumption) ?_ | with_reducible refine Keeps.of_pair' (by assumption) ?_
    | fail_if_no_progress with_reducible apply Keeps.lit

theorem keeps_memcInitDone {r s : State} (h : Keeps r s) : ∀ c, Keeps r (memcInitDone s c) := by
  intro c
  unfold memcInitDone
  dsimp only
  split
  · exact h.bytes rfl rfl rfl rfl (memFilter_wf _ _)
  · exact h

theorem keeps_guardRefuse {r s : State} (h : Keeps r s) : ∀ x0, Keeps r (guardRefuse s x0) := by
  intro x0
  unfold guardRefuse
  repeat' first
    | with_reducible assumption | intro _ | with_reducible exact Keeps.refl _ | with_reducible apply keeps_raise
    | with_reducible apply keeps_recordErr

theorem keeps_updScan {r s : State} (h : Keeps r s) : ∀ x0, Keeps r (State.updScan s x0) := by
  intro x0
  unfold State.updScan
  repeat' first
    | with_reducible assumption | intro _ | with_reducible exact Keeps.refl _ | with_reducible apply Keeps.ite
    | with_reducible apply Keeps.ite_fst | with_reducible apply Keeps.foldl | with_reducible apply Keeps.foldl_fst
    | with_reducible apply Keeps.forN | with_reducible refine Keeps.of_pair (by assumption) ?_
    | with_reducible refine Keeps.of_pair' (by assumption) ?_ | fail_if_no_progress with_reducible apply Keeps.lit

theorem keeps_scanGo {r s : State} (h : Keeps r s) : Keeps r (scanGo s) := by
  unfold scanGo
  repeat' first
    | with_reducible assumption | intro _ | with_reducible exact Keeps.refl _ | with_reducible apply keeps_updScan
    | with_reducible apply keeps_raise

theorem keeps_scanLine {r s : State} (h : Keeps r s) : Keeps r (scanLine s) := by
  unfold scanLine
  repeat' first
    | with_reducible assumption | intro _ | with_reducible exact Keeps.refl _ | with_reducible apply keeps_memRead
    | with_reducible apply keeps_updScan | with_reducible apply keeps_wr | with_reducible apply keeps_clear
    | with_reducible apply keeps_raise | with_reducible apply Keeps.ite | with_reducible apply Keeps.ite_fst
    | with_reducible apply Keeps.foldl | with_reducible apply Keeps.foldl_fst | with_reducible apply Keeps.forN
    | with_reducible refine Keeps.of_pair (by assumption) ?_ | with_reducible refine Keeps.of_pair' (by assumption) ?_
    | fail_if_no_progress with_reducible apply Keeps.lit | split | dsimp only

theorem keeps_scanAdvance {r s : State} (h : Keeps r s) : Keeps r (scanAdvance s) := by
  unfold scanAdvance
  repeat' first
    | with_reducible assumption | intro _ | with_reducible exact Keeps.refl _ | with_reducible apply keeps_scanLine
    | with_reducible apply Keeps.ite | with_reducible apply Keeps.ite_fst | with_reducible apply Keeps.foldl
    | with_reducible apply Keeps.foldl_fst | with_reducible apply Keeps.forN

theorem keeps_scanFinish {r s : State} (h : Keeps r s) : Keeps r (scanFinish s) := by
  unfold scanFinish
  repeat' first
    | with_reducible assumption | intro _ | with_reducible exact Keeps.refl _ | with_reducible apply keeps_scanAdvance
    | with_reducible apply keeps_toEdge | with_reducible apply keeps_wr | with_reducible apply keeps_raise
    | with_reducible apply keeps_clear | with_reducible apply keeps_updScan | with_reducible apply Keeps.ite

theorem keeps_scanStop {r s : State} (h : Keeps r s) : Keeps r (scanStop s) := by
  unfold scanStop
  repeat' first
    | with_reducible assumption | intro _ | with_reducible exact Keeps.refl _ | with_reducible apply keeps_scanAdvance
    | with_reducible apply keeps_toEdge | with_reducible apply Keeps.ite | with_reducible apply Keeps.ite_fst
    | with_reducible apply Keeps.foldl | with_reducible apply Keeps.foldl_fst | with_reducible apply Keeps.forN
    | with_reducible refine Keeps.of_pair (by assumption) ?_ | with_reducible refine Keeps.of_pair' (by assumption) ?_
    | fail_if_no_progress with_reducible apply Keeps.lit | split

theorem keeps_scanAbort {r s : State} (h : Keeps r s) : Keeps r (scanAbort s) := by
  unfold scanAbort
  repeat' first
    | with_reducible assumption | intro _ | with_reducible exact Keeps.refl _ | with_reducible apply keeps_clear
    | with_reducible apply keeps_scanAdvance | with_reducible apply Keeps.ite

theorem keeps_scanEffect {r s : State} (h : Keeps r s) : ∀ x0 x1, Keeps r (scanEffect s x0 x1) := by
  intro x0 x1
  unfold scanEffect
  repeat' first
    | with_reducible assumption | intro _ | with_reducible exact Keeps.refl _ | with_reducible apply keeps_scanAbort
    | with_reducible apply keeps_scanGo | with_reducible apply Keeps.ite

theorem keeps_storeLine {r s : State} (h : Keeps r s) : ∀ x0 x1 x2, Keeps r (storeLine s x0 x1 x2).1 := by
  intro x0 x1 x2
  unfold storeLine
  repeat' first
    | with_reducible assumption | intro _ | with_reducible exact Keeps.refl _ | with_reducible apply keeps_scanAdvance
    | with_reducible apply keeps_guardRefuse | with_reducible apply keeps_caRetry | with_reducible apply keeps_uncorrected
    | with_reducible apply keeps_writeLine | with_reducible apply keeps_decodeLine | with_reducible apply Keeps.ite
    | with_reducible apply Keeps.ite_fst | with_reducible apply Keeps.foldl | with_reducible apply Keeps.foldl_fst
    | with_reducible apply Keeps.forN | with_reducible refine Keeps.of_pair (by assumption) ?_
    | with_reducible refine Keeps.of_pair' (by assumption) ?_ | fail_if_no_progress with_reducible apply Keeps.lit | split

theorem keeps_storeBytes {r s : State} (h : Keeps r s) : ∀ x0 x1 x2, Keeps r (storeBytes s x0 x1 x2).1 := by
  intro x0 x1 x2
  unfold storeBytes
  repeat' first
    | with_reducible assumption | intro _ | with_reducible exact Keeps.refl _ | with_reducible apply keeps_storeLine
    | with_reducible apply Keeps.ite | with_reducible apply Keeps.ite_fst | with_reducible apply Keeps.foldl
    | with_reducible apply Keeps.foldl_fst

theorem keeps_engineStore {r s : State} (h : Keeps r s) : ∀ x0 x1 x2 x3 x4, Keeps r (engineStore s x0 x1 x2 x3 x4) := by
  intro x0 x1 x2 x3 x4
  unfold engineStore
  repeat' first
    | with_reducible assumption | intro _ | with_reducible exact Keeps.refl _ | with_reducible apply keeps_storeBytes
    | with_reducible apply keeps_recordErr | with_reducible apply Keeps.ite

theorem keeps_writeWords {r s : State} (h : Keeps r s) : ∀ x0 x1, Keeps r (writeWords s x0 x1) := by
  intro x0 x1
  unfold writeWords
  repeat' first
    | with_reducible assumption | intro _ | with_reducible exact Keeps.refl _ | with_reducible apply keeps_writeLine
    | with_reducible apply keeps_scanAdvance | with_reducible apply Keeps.ite | with_reducible apply Keeps.ite_fst
    | with_reducible apply Keeps.foldl

theorem keeps_journalLevels {r s : State} (h : Keeps r s) : Keeps r (journalLevels s) := by
  unfold journalLevels
  repeat' first
    | with_reducible assumption | intro _ | with_reducible exact Keeps.refl _ | with_reducible apply keeps_wr
    | with_reducible apply Keeps.ite | with_reducible apply Keeps.ite_fst | with_reducible apply Keeps.foldl
    | with_reducible apply Keeps.foldl_fst | with_reducible apply Keeps.forN

theorem keeps_countWrites {r s : State} (h : Keeps r s) : ∀ x0 x1, Keeps r (countWrites s x0 x1) := by
  intro x0 x1
  unfold countWrites
  repeat' first
    | with_reducible assumption | intro _ | with_reducible exact Keeps.refl _ | with_reducible apply keeps_count

theorem keeps_appendRec {r s : State} (h : Keeps r s) : ∀ x0, Keeps r (appendRec s x0) := by
  intro x0
  unfold appendRec
  repeat' first
    | with_reducible assumption | intro _ | with_reducible exact Keeps.refl _ | with_reducible apply keeps_countWrites
    | with_reducible apply keeps_writeWords | with_reducible apply keeps_journalLevels | with_reducible apply keeps_count
    | with_reducible apply Keeps.ite | with_reducible apply Keeps.ite_fst | with_reducible apply Keeps.foldl
    | with_reducible apply Keeps.foldl_fst | with_reducible apply Keeps.forN
    | with_reducible refine Keeps.of_pair (by assumption) ?_ | with_reducible refine Keeps.of_pair' (by assumption) ?_
    | fail_if_no_progress with_reducible apply Keeps.lit

theorem keeps_submit {r s : State} (h : Keeps r s) : ∀ x0, Keeps r (submit s x0) := by
  intro x0
  unfold submit
  repeat' first
    | with_reducible assumption | intro _ | with_reducible exact Keeps.refl _ | with_reducible apply keeps_journalLevels
    | with_reducible apply keeps_appendRec | with_reducible apply Keeps.ite | with_reducible apply Keeps.ite_fst
    | with_reducible apply Keeps.foldl | with_reducible apply Keeps.foldl_fst | with_reducible apply Keeps.forN
    | with_reducible refine Keeps.of_pair (by assumption) ?_ | with_reducible refine Keeps.of_pair' (by assumption) ?_
    | fail_if_no_progress with_reducible apply Keeps.lit

theorem keeps_submitFault {r s : State} (h : Keeps r s) : ∀ x0, Keeps r (submitFault s x0) := by
  intro x0
  unfold submitFault
  repeat' first
    | with_reducible assumption | intro _ | with_reducible exact Keeps.refl _ | with_reducible apply keeps_submit
    | with_reducible apply keeps_raise | with_reducible apply Keeps.ite | with_reducible apply Keeps.ite_fst
    | with_reducible apply Keeps.foldl | with_reducible apply Keeps.foldl_fst | with_reducible apply Keeps.forN
    | with_reducible refine Keeps.of_pair (by assumption) ?_ | with_reducible refine Keeps.of_pair' (by assumption) ?_
    | fail_if_no_progress with_reducible apply Keeps.lit

theorem keeps_faultRecord {r s : State} (h : Keeps r s) : Keeps r (faultRecord s) := by
  unfold faultRecord
  repeat' first
    | with_reducible assumption | intro _ | with_reducible exact Keeps.refl _ | with_reducible apply keeps_takeFree
    | with_reducible apply keeps_submitFault | with_reducible apply Keeps.ite

theorem keeps_updRec {r s : State} (h : Keeps r s) : ∀ x0 x1 x2, Keeps r (updRec s x0 x1 x2) := by
  intro x0 x1 x2
  unfold updRec
  repeat' first
    | with_reducible assumption | intro _ | with_reducible exact Keeps.refl _ | with_reducible apply Keeps.ite
    | with_reducible apply Keeps.ite_fst | with_reducible apply Keeps.foldl | with_reducible apply Keeps.foldl_fst
    | with_reducible apply Keeps.forN | with_reducible refine Keeps.of_pair (by assumption) ?_
    | with_reducible refine Keeps.of_pair' (by assumption) ?_ | fail_if_no_progress with_reducible apply Keeps.lit

theorem keeps_startTrailers {r s : State} (h : Keeps r s) : ∀ x0, Keeps r (startTrailers s x0) := by
  intro x0
  unfold startTrailers
  repeat' first
    | with_reducible assumption | intro _ | with_reducible exact Keeps.refl _ | with_reducible apply Keeps.ite
    | with_reducible apply Keeps.ite_fst | with_reducible apply Keeps.foldl | with_reducible apply Keeps.foldl_fst
    | with_reducible apply Keeps.forN | with_reducible refine Keeps.of_pair (by assumption) ?_
    | with_reducible refine Keeps.of_pair' (by assumption) ?_ | fail_if_no_progress with_reducible apply Keeps.lit

theorem keeps_localPrepare {r s : State} (h : Keeps r s) : ∀ x0, Keeps r (localPrepare s x0) := by
  intro x0
  unfold localPrepare
  repeat' first
    | with_reducible assumption | intro _ | with_reducible exact Keeps.refl _ | with_reducible apply keeps_countWrites
    | with_reducible apply keeps_writeWords | with_reducible apply keeps_startTrailers | with_reducible apply keeps_updRec
    | with_reducible apply Keeps.ite | with_reducible apply Keeps.ite_fst | with_reducible apply Keeps.foldl
    | with_reducible apply Keeps.foldl_fst | with_reducible apply Keeps.forN
    | with_reducible refine Keeps.of_pair (by assumption) ?_ | with_reducible refine Keeps.of_pair' (by assumption) ?_
    | fail_if_no_progress with_reducible apply Keeps.lit | split

theorem keeps_preparedReceive {r s : State} (h : Keeps r s) : ∀ x0 x1, Keeps r (preparedReceive s x0 x1) := by
  intro x0 x1
  unfold preparedReceive
  repeat' first
    | with_reducible assumption | intro _ | with_reducible exact Keeps.refl _ | with_reducible apply keeps_startTrailers
    | with_reducible apply keeps_updRec

theorem keeps_writeTrailer {r s : State} (h : Keeps r s) : ∀ x0 x1 x2, Keeps r (writeTrailer s x0 x1 x2) := by
  intro x0 x1 x2
  unfold writeTrailer
  repeat' first
    | with_reducible assumption | intro _ | with_reducible exact Keeps.refl _ | with_reducible apply keeps_countWrites
    | with_reducible apply keeps_writeWords | with_reducible apply keeps_journalLevels | with_reducible apply keeps_updRec
    | with_reducible apply Keeps.ite | with_reducible apply Keeps.ite_fst | with_reducible apply Keeps.foldl
    | with_reducible apply Keeps.foldl_fst | with_reducible apply Keeps.forN
    | with_reducible refine Keeps.of_pair (by assumption) ?_ | with_reducible refine Keeps.of_pair' (by assumption) ?_
    | fail_if_no_progress with_reducible apply Keeps.lit | split

theorem keeps_admitWaiting {r s : State} (h : Keeps r s) : ∀ x0, Keeps r (admitWaiting s x0) := by
  intro x0
  unfold admitWaiting
  repeat' first
    | with_reducible assumption | intro _ | with_reducible exact Keeps.refl _ | with_reducible apply keeps_appendRec
    | with_reducible apply Keeps.ite | with_reducible apply Keeps.ite_fst | with_reducible apply Keeps.foldl
    | with_reducible apply Keeps.foldl_fst | with_reducible apply Keeps.forN
    | with_reducible refine Keeps.of_pair (by assumption) ?_ | with_reducible refine Keeps.of_pair' (by assumption) ?_
    | fail_if_no_progress with_reducible apply Keeps.lit | split

theorem keeps_goSolo {r s : State} (h : Keeps r s) : Keeps r (goSolo s) := by
  unfold goSolo
  repeat' first
    | with_reducible assumption | intro _ | with_reducible exact Keeps.refl _ | with_reducible apply keeps_startTrailers
    | with_reducible apply Keeps.ite | with_reducible apply Keeps.ite_fst | with_reducible apply Keeps.foldl
    | with_reducible apply Keeps.foldl_fst | with_reducible apply Keeps.forN
    | with_reducible refine Keeps.of_pair (by assumption) ?_ | with_reducible refine Keeps.of_pair' (by assumption) ?_
    | fail_if_no_progress with_reducible apply Keeps.lit

theorem keeps_soloEnds {r s : State} (h : Keeps r s) : ∀ x0, Keeps r (soloEnds s x0) := by
  intro x0
  unfold soloEnds
  repeat' first
    | with_reducible assumption | intro _ | with_reducible exact Keeps.refl _ | with_reducible apply Keeps.ite
    | with_reducible apply Keeps.ite_fst | with_reducible apply Keeps.foldl | with_reducible apply Keeps.foldl_fst
    | with_reducible apply Keeps.forN | with_reducible refine Keeps.of_pair (by assumption) ?_
    | with_reducible refine Keeps.of_pair' (by assumption) ?_ | fail_if_no_progress with_reducible apply Keeps.lit

theorem keeps_releaseHead {r s : State} (h : Keeps r s) : ∀ x0, Keeps r (releaseHead s x0) := by
  intro x0
  unfold releaseHead
  repeat' first
    | with_reducible assumption | intro _ | with_reducible exact Keeps.refl _ | with_reducible apply keeps_journalLevels
    | with_reducible apply Keeps.ite | with_reducible apply Keeps.ite_fst | with_reducible apply Keeps.foldl
    | with_reducible apply Keeps.foldl_fst | with_reducible apply Keeps.forN
    | with_reducible refine Keeps.of_pair (by assumption) ?_ | with_reducible refine Keeps.of_pair' (by assumption) ?_
    | fail_if_no_progress with_reducible apply Keeps.lit

theorem keeps_releaseWhere {r s : State} (h : Keeps r s) : ∀ x0 x1, Keeps r (releaseWhere s x0 x1) := by
  intro x0 x1
  unfold releaseWhere
  repeat' first
    | with_reducible assumption | intro _ | with_reducible exact Keeps.refl _ | with_reducible apply keeps_releaseHead
    | with_reducible apply Keeps.ite | with_reducible apply Keeps.ite_fst | with_reducible apply Keeps.foldl
    | with_reducible apply Keeps.foldl_fst | with_reducible apply Keeps.forN
    | with_reducible refine Keeps.of_pair (by assumption) ?_ | with_reducible refine Keeps.of_pair' (by assumption) ?_
    | fail_if_no_progress with_reducible apply Keeps.lit

theorem keeps_remotePrepare {r s : State} (h : Keeps r s) : ∀ x0 x1 x2 x3 x4 x5 x6 x7, Keeps r (remotePrepare s x0 x1 x2 x3 x4 x5 x6 x7) := by
  intro x0 x1 x2 x3 x4 x5 x6 x7
  unfold remotePrepare
  repeat' first
    | with_reducible assumption | intro _ | with_reducible exact Keeps.refl _ | with_reducible apply keeps_refuse
    | with_reducible apply keeps_appendRec | with_reducible apply keeps_updRec | with_reducible apply keeps_answer
    | with_reducible apply keeps_countWrites | with_reducible apply keeps_writeWords | with_reducible apply Keeps.ite
    | with_reducible apply Keeps.ite_fst | with_reducible apply Keeps.foldl | with_reducible apply Keeps.foldl_fst
    | with_reducible apply Keeps.forN | with_reducible refine Keeps.of_pair (by assumption) ?_
    | with_reducible refine Keeps.of_pair' (by assumption) ?_ | fail_if_no_progress with_reducible apply Keeps.lit | split
    | dsimp only

theorem keeps_recoverStart {r s : State} (h : Keeps r s) : Keeps r (recoverStart s) := by
  unfold recoverStart
  repeat' first
    | with_reducible assumption | intro _ | with_reducible exact Keeps.refl _ | with_reducible apply keeps_clear
    | with_reducible apply Keeps.ite | with_reducible apply Keeps.ite_fst | with_reducible apply Keeps.foldl
    | with_reducible apply Keeps.foldl_fst | with_reducible apply Keeps.forN
    | with_reducible refine Keeps.of_pair (by assumption) ?_ | with_reducible refine Keeps.of_pair' (by assumption) ?_
    | fail_if_no_progress with_reducible apply Keeps.lit

theorem keeps_resolveRegion {r s : State} (h : Keeps r s) : ∀ x0 x1, Keeps r (resolveRegion s x0 x1) := by
  intro x0 x1
  unfold resolveRegion
  repeat' first
    | with_reducible assumption | intro _ | with_reducible exact Keeps.refl _ | with_reducible apply keeps_mramScan
    | with_reducible apply keeps_raiseIf | with_reducible apply keeps_wr | with_reducible apply keeps_updRec
    | with_reducible apply keeps_raise | with_reducible apply keeps_writeTrailer | with_reducible apply Keeps.ite
    | with_reducible apply Keeps.ite_fst | with_reducible apply Keeps.foldl | with_reducible apply Keeps.foldl_fst
    | with_reducible apply Keeps.forN | with_reducible refine Keeps.of_pair (by assumption) ?_
    | with_reducible refine Keeps.of_pair' (by assumption) ?_ | fail_if_no_progress with_reducible apply Keeps.lit

theorem keeps_releaseAborted {r s : State} (h : Keeps r s) : ∀ x0, Keeps r (releaseAborted s x0) := by
  intro x0
  unfold releaseAborted
  repeat' first
    | with_reducible assumption | intro _ | with_reducible exact Keeps.refl _ | with_reducible apply keeps_releaseWhere

theorem keeps_recoverDone {r s : State} (h : Keeps r s) : ∀ x0, Keeps r (recoverDone s x0) := by
  intro x0
  unfold recoverDone
  repeat' first
    | with_reducible assumption | intro _ | with_reducible exact Keeps.refl _ | with_reducible apply keeps_releaseAborted
    | with_reducible apply keeps_resolveRegion | with_reducible apply keeps_journalLevels | with_reducible apply keeps_raise
    | with_reducible apply Keeps.ite | with_reducible apply Keeps.ite_fst | with_reducible apply Keeps.foldl
    | with_reducible apply Keeps.foldl_fst | with_reducible apply Keeps.forN
    | with_reducible refine Keeps.of_pair (by assumption) ?_ | with_reducible refine Keeps.of_pair' (by assumption) ?_
    | fail_if_no_progress with_reducible apply Keeps.lit

theorem keeps_clearRing {r s : State} (h : Keeps r s) : ∀ x, Keeps r (clearRing s x) := by
  intro x
  unfold clearRing
  refine keeps_countWrites ?_ _ _
  exact h.bytes rfl rfl rfl rfl (memFilter_wf _ _)

theorem keeps_journalFormat {r s : State} (h : Keeps r s) : Keeps r (journalFormat s) := by
  unfold journalFormat
  repeat' first
    | with_reducible assumption | intro _ | with_reducible exact Keeps.refl _ | with_reducible apply keeps_clearRing
    | with_reducible apply keeps_writeWords | with_reducible apply keeps_journalLevels | with_reducible apply Keeps.ite
    | with_reducible apply Keeps.ite_fst | with_reducible apply Keeps.foldl | with_reducible apply Keeps.foldl_fst
    | with_reducible apply Keeps.forN | with_reducible refine Keeps.of_pair (by assumption) ?_
    | with_reducible refine Keeps.of_pair' (by assumption) ?_ | fail_if_no_progress with_reducible apply Keeps.lit

theorem keeps_tornWord {r s : State} (h : Keeps r s) : ∀ x0 x1 x2, Keeps r (tornWord s x0 x1 x2) := by
  intro x0 x1 x2
  unfold tornWord
  repeat' first
    | with_reducible assumption | intro _ | with_reducible exact Keeps.refl _ | with_reducible apply keeps_takeFree
    | with_reducible apply keeps_writeWords | with_reducible apply Keeps.ite | with_reducible apply Keeps.ite_fst
    | with_reducible apply Keeps.foldl | with_reducible apply Keeps.foldl_fst | with_reducible apply Keeps.forN
    | with_reducible refine Keeps.of_pair (by assumption) ?_ | with_reducible refine Keeps.of_pair' (by assumption) ?_
    | fail_if_no_progress with_reducible apply Keeps.lit | split

theorem keeps_tornWords {r s : State} (h : Keeps r s) : ∀ x0 x1 x2, Keeps r (tornWords s x0 x1 x2) := by
  intro x0 x1 x2
  unfold tornWords
  repeat' first
    | with_reducible assumption | intro _ | with_reducible exact Keeps.refl _ | with_reducible apply keeps_tornWord
    | with_reducible apply Keeps.ite | with_reducible apply Keeps.ite_fst | with_reducible apply Keeps.foldl

theorem keeps_tornRecords {r s : State} (h : Keeps r s) : ∀ x0, Keeps r (tornRecords s x0) := by
  intro x0
  unfold tornRecords
  repeat' first
    | with_reducible assumption | intro _ | with_reducible exact Keeps.refl _ | with_reducible apply keeps_tornWords
    | with_reducible apply Keeps.ite | with_reducible apply Keeps.ite_fst | with_reducible apply Keeps.foldl

theorem keeps_userStore {r s : State} (h : Keeps r s) : ∀ x0 x1 x2, Keeps r (userStore s x0 x1 x2).1 := by
  intro x0 x1 x2
  unfold userStore
  repeat' first
    | with_reducible assumption | intro _ | with_reducible exact Keeps.refl _ | with_reducible apply keeps_refuse
    | with_reducible apply keeps_decodeLine | with_reducible apply keeps_scanAdvance | with_reducible apply keeps_count
    | with_reducible apply keeps_writeLine | with_reducible apply Keeps.ite | with_reducible apply Keeps.ite_fst

end Sys2Proof.Machine
end

