-- ==== Sys2Proof/Laws/KeepsB.lean ====
section
/-!
SUPPORT. What every operation of GateLog.lean, CellStore.lean, Oculus.lean, Campanile.lean, Pwm.lean, CellEngine.lean keeps
(Keeps.lean).
-/
namespace Sys2Proof.Machine

theorem keeps_cseRecord {r s : State} (h : Keeps r s) : ∀ x0 x1 x2, Keeps r (cseRecord s x0 x1 x2) := by
  intro x0 x1 x2
  unfold cseRecord
  repeat' first
    | with_reducible assumption | intro _ | with_reducible exact Keeps.refl _ | with_reducible apply keeps_wr
    | with_reducible apply keeps_raise | with_reducible apply Keeps.ite

theorem keeps_pushEvt {r s : State} (h : Keeps r s) : ∀ x0, Keeps r (pushEvt s x0) := by
  intro x0
  unfold pushEvt
  repeat' first
    | with_reducible assumption | intro _ | with_reducible exact Keeps.refl _ | with_reducible apply keeps_faultRecord
    | with_reducible apply keeps_raise | with_reducible apply Keeps.ite | with_reducible apply Keeps.ite_fst
    | with_reducible apply Keeps.foldl | with_reducible apply Keeps.foldl_fst | with_reducible apply Keeps.forN
    | with_reducible refine Keeps.of_pair (by assumption) ?_ | with_reducible refine Keeps.of_pair' (by assumption) ?_
    | fail_if_no_progress with_reducible apply Keeps.lit

theorem keeps_setArmLatch {r s : State} (h : Keeps r s) : ∀ x0, Keeps r (setArmLatch s x0) := by
  intro x0
  unfold setArmLatch
  repeat' first
    | with_reducible assumption | intro _ | with_reducible exact Keeps.refl _ | with_reducible apply keeps_raise
    | with_reducible apply keeps_orIn

theorem keeps_setRingLatch {r s : State} (h : Keeps r s) : ∀ x0, Keeps r (setRingLatch s x0) := by
  intro x0
  unfold setRingLatch
  repeat' first
    | with_reducible assumption | intro _ | with_reducible exact Keeps.refl _ | with_reducible apply keeps_orIn
    | with_reducible apply keeps_raise | with_reducible apply Keeps.ite | with_reducible apply Keeps.ite_fst
    | with_reducible apply Keeps.foldl | with_reducible apply Keeps.foldl_fst | with_reducible apply Keeps.forN
    | with_reducible refine Keeps.of_pair (by assumption) ?_ | with_reducible refine Keeps.of_pair' (by assumption) ?_
    | fail_if_no_progress with_reducible apply Keeps.lit | split | dsimp only

theorem keeps_setAllLatch {r s : State} (h : Keeps r s) : Keeps r (setAllLatch s) := by
  unfold setAllLatch
  repeat' first
    | with_reducible assumption | intro _ | with_reducible exact Keeps.refl _ | with_reducible apply keeps_raise
    | with_reducible apply Keeps.ite | with_reducible apply Keeps.ite_fst | with_reducible apply Keeps.foldl
    | with_reducible apply Keeps.foldl_fst | with_reducible apply Keeps.forN

theorem keeps_setArmLatches {r s : State} (h : Keeps r s) : ∀ x0, Keeps r (setArmLatches s x0) := by
  intro x0
  unfold setArmLatches
  repeat' first
    | with_reducible assumption | intro _ | with_reducible exact Keeps.refl _ | with_reducible apply keeps_setArmLatch
    | with_reducible apply Keeps.ite | with_reducible apply Keeps.ite_fst | with_reducible apply Keeps.foldl
    | with_reducible apply Keeps.foldl_fst | with_reducible apply Keeps.forN

theorem keeps_react {r s : State} (h : Keeps r s) : ∀ x0 x1, Keeps r (react s x0 x1) := by
  intro x0 x1
  unfold react
  repeat' first
    | with_reducible assumption | intro _ | with_reducible exact Keeps.refl _ | with_reducible apply keeps_raise
    | with_reducible apply keeps_updEntry | with_reducible apply keeps_pushEvt | with_reducible apply keeps_setRingLatch
    | with_reducible apply keeps_setAllLatch | with_reducible apply keeps_setArmLatch | with_reducible apply keeps_setArmLatches
    | with_reducible apply Keeps.ite | with_reducible apply Keeps.ite_fst | with_reducible apply Keeps.foldl
    | with_reducible apply Keeps.foldl_fst | with_reducible apply Keeps.forN
    | with_reducible refine Keeps.of_pair (by assumption) ?_ | with_reducible refine Keeps.of_pair' (by assumption) ?_
    | fail_if_no_progress with_reducible apply Keeps.lit | split | dsimp only

theorem keeps_flushGroup {r s : State} (h : Keeps r s) : Keeps r (flushGroup s) := by
  unfold flushGroup
  repeat' first
    | with_reducible assumption | intro _ | with_reducible exact Keeps.refl _ | with_reducible apply keeps_pushEvt
    | with_reducible apply keeps_setArmLatches | with_reducible apply keeps_raiseIf | with_reducible apply Keeps.ite
    | with_reducible apply Keeps.ite_fst | with_reducible apply Keeps.foldl | with_reducible apply Keeps.foldl_fst
    | with_reducible apply Keeps.forN | with_reducible refine Keeps.of_pair (by assumption) ?_
    | with_reducible refine Keeps.of_pair' (by assumption) ?_ | fail_if_no_progress with_reducible apply Keeps.lit | split
    | dsimp only

theorem keeps_stateErr {r s : State} (h : Keeps r s) : ∀ x0, Keeps r (stateErr s x0) := by
  intro x0
  unfold stateErr
  repeat' first
    | with_reducible assumption | intro _ | with_reducible exact Keeps.refl _ | with_reducible apply keeps_updEntry
    | with_reducible apply keeps_raise | with_reducible apply keeps_react | with_reducible apply Keeps.ite
    | with_reducible apply Keeps.ite_fst | with_reducible apply Keeps.foldl | with_reducible apply Keeps.foldl_fst
    | with_reducible apply Keeps.forN | with_reducible refine Keeps.of_pair (by assumption) ?_
    | with_reducible refine Keeps.of_pair' (by assumption) ?_ | fail_if_no_progress with_reducible apply Keeps.lit | split

theorem keeps_setLate {r s : State} (h : Keeps r s) : ∀ x0 x1, Keeps r (State.setLate s x0 x1) := by
  intro x0 x1
  unfold State.setLate
  repeat' first
    | with_reducible assumption | intro _ | with_reducible exact Keeps.refl _ | with_reducible apply Keeps.ite
    | with_reducible apply Keeps.ite_fst | with_reducible apply Keeps.foldl | with_reducible apply Keeps.foldl_fst
    | with_reducible apply Keeps.forN | with_reducible refine Keeps.of_pair (by assumption) ?_
    | with_reducible refine Keeps.of_pair' (by assumption) ?_ | fail_if_no_progress with_reducible apply Keeps.lit

theorem keeps_engineWrite {r s : State} (h : Keeps r s) : ∀ x0 x1, Keeps r (engineWrite s x0 x1) := by
  intro x0 x1
  unfold engineWrite
  repeat' first
    | with_reducible assumption | intro _ | with_reducible exact Keeps.refl _ | with_reducible apply keeps_setLate
    | with_reducible apply keeps_updEntry

theorem keeps_takePut {r s : State} (h : Keeps r s) : ∀ x0 x1, Keeps r (takePut s x0 x1) := by
  intro x0 x1
  unfold takePut
  repeat' first
    | with_reducible assumption | intro _ | with_reducible exact Keeps.refl _ | with_reducible apply keeps_setLate
    | with_reducible apply keeps_updEntry

theorem keeps_cseCorrect {r s : State} (h : Keeps r s) : ∀ x0 x1 x2, Keeps r (cseCorrect s x0 x1 x2) := by
  intro x0 x1 x2
  unfold cseCorrect
  repeat' first
    | with_reducible assumption | intro _ | with_reducible exact Keeps.refl _ | with_reducible apply keeps_countSat
    | with_reducible apply keeps_updEntry | with_reducible apply Keeps.ite

theorem keeps_cellRead {r s : State} (h : Keeps r s) : ∀ x0 x1 x2, Keeps r (cellRead s x0 x1 x2).1 := by
  intro x0 x1 x2
  unfold cellRead
  repeat' first
    | with_reducible assumption | intro _ | with_reducible exact Keeps.refl _ | with_reducible apply keeps_cseCorrect
    | with_reducible apply keeps_cseRecord | with_reducible apply keeps_raise | with_reducible apply Keeps.ite
    | with_reducible apply Keeps.ite_fst

theorem keeps_cseRewrite {r s : State} (h : Keeps r s) : ∀ x0 x1 x2, Keeps r (cseRewrite s x0 x1 x2) := by
  intro x0 x1 x2
  unfold cseRewrite
  repeat' first
    | with_reducible assumption | intro _ | with_reducible exact Keeps.refl _ | with_reducible apply keeps_cseCorrect
    | with_reducible apply keeps_updEntry

theorem keeps_cellWrite {r s : State} (h : Keeps r s) : ∀ x0 x1 x2 x3 x4 x5, Keeps r (cellWrite s x0 x1 x2 x3 x4 x5) := by
  intro x0 x1 x2 x3 x4 x5
  unfold cellWrite
  repeat' first
    | with_reducible assumption | intro _ | with_reducible exact Keeps.refl _ | with_reducible apply keeps_answer
    | with_reducible apply keeps_takePut | with_reducible apply keeps_cseRewrite | with_reducible apply keeps_cseRecord
    | with_reducible apply Keeps.ite

theorem keeps_storeInit {r s : State} (h : Keeps r s) : Keeps r (storeInit s) := by
  unfold storeInit
  repeat' first
    | with_reducible assumption | intro _ | with_reducible exact Keeps.refl _ | with_reducible apply keeps_clear
    | with_reducible apply Keeps.ite | with_reducible apply Keeps.ite_fst | with_reducible apply Keeps.foldl
    | with_reducible apply Keeps.foldl_fst | with_reducible apply Keeps.forN
    | with_reducible refine Keeps.of_pair (by assumption) ?_ | with_reducible refine Keeps.of_pair' (by assumption) ?_
    | fail_if_no_progress with_reducible apply Keeps.lit

theorem keeps_storeInitDone {r s : State} (h : Keeps r s) : Keeps r (storeInitDone s) := by
  unfold storeInitDone
  repeat' first
    | with_reducible assumption | intro _ | with_reducible exact Keeps.refl _ | with_reducible apply keeps_raise
    | with_reducible apply Keeps.ite | with_reducible apply Keeps.ite_fst | with_reducible apply Keeps.foldl
    | with_reducible apply Keeps.foldl_fst | with_reducible apply Keeps.forN
    | with_reducible refine Keeps.of_pair (by assumption) ?_ | with_reducible refine Keeps.of_pair' (by assumption) ?_
    | fail_if_no_progress with_reducible apply Keeps.lit

theorem keeps_updOc {r s : State} (h : Keeps r s) : ∀ x0, Keeps r (State.updOc s x0) := by
  intro x0
  unfold State.updOc
  repeat' first
    | with_reducible assumption | intro _ | with_reducible exact Keeps.refl _ | with_reducible apply Keeps.ite
    | with_reducible apply Keeps.ite_fst | with_reducible apply Keeps.foldl | with_reducible apply Keeps.foldl_fst
    | with_reducible apply Keeps.forN | with_reducible refine Keeps.of_pair (by assumption) ?_
    | with_reducible refine Keeps.of_pair' (by assumption) ?_ | fail_if_no_progress with_reducible apply Keeps.lit

theorem keeps_ocKeep {r s : State} (h : Keeps r s) : ∀ x0 x1, Keeps r (ocKeep s x0 x1) := by
  intro x0 x1
  unfold ocKeep
  repeat' first
    | with_reducible assumption | intro _ | with_reducible exact Keeps.refl _ | with_reducible apply keeps_updOc
    | with_reducible apply Keeps.ite | with_reducible apply Keeps.ite_fst | with_reducible apply Keeps.foldl
    | with_reducible apply Keeps.foldl_fst | with_reducible apply Keeps.forN
    | with_reducible refine Keeps.of_pair (by assumption) ?_ | with_reducible refine Keeps.of_pair' (by assumption) ?_
    | fail_if_no_progress with_reducible apply Keeps.lit | split

theorem keeps_ocCells {r s : State} (h : Keeps r s) : Keeps r (ocCells s) := by
  unfold ocCells
  repeat' first
    | with_reducible assumption | intro _ | with_reducible exact Keeps.refl _ | with_reducible apply keeps_updOc

theorem keeps_ocSource {r s : State} (h : Keeps r s) : ∀ x0 x1, Keeps r (ocSource s x0 x1) := by
  intro x0 x1
  unfold ocSource
  repeat' first
    | with_reducible assumption | intro _ | with_reducible exact Keeps.refl _ | with_reducible apply keeps_updOc
    | with_reducible apply Keeps.ite

theorem keeps_ocStrobe {r s : State} (h : Keeps r s) : Keeps r (ocStrobe s) := by
  unfold ocStrobe
  repeat' first
    | with_reducible assumption | intro _ | with_reducible exact Keeps.refl _ | with_reducible apply keeps_updOc
    | with_reducible apply Keeps.ite | with_reducible apply Keeps.ite_fst | with_reducible apply Keeps.foldl
    | with_reducible apply Keeps.foldl_fst | with_reducible apply Keeps.forN
    | with_reducible refine Keeps.of_pair (by assumption) ?_ | with_reducible refine Keeps.of_pair' (by assumption) ?_
    | fail_if_no_progress with_reducible apply Keeps.lit | split

theorem keeps_ocEnter {r s : State} (h : Keeps r s) : ∀ x0, Keeps r (ocEnter s x0) := by
  intro x0
  unfold ocEnter
  repeat' first
    | with_reducible assumption | intro _ | with_reducible exact Keeps.refl _ | with_reducible apply keeps_updOc
    | with_reducible apply keeps_wr

theorem keeps_ocEval {r s : State} (h : Keeps r s) : ∀ x0 x1 x2, Keeps r (ocEval s x0 x1 x2).1 := by
  intro x0 x1 x2
  unfold ocEval
  repeat' first
    | with_reducible assumption | intro _ | with_reducible exact Keeps.refl _ | with_reducible apply keeps_ocEnter
    | with_reducible apply keeps_updOc | with_reducible apply keeps_wr | with_reducible apply keeps_raise
    | with_reducible apply keeps_raiseIf | with_reducible apply Keeps.ite | with_reducible apply Keeps.ite_fst

theorem keeps_maskProbes {r s : State} (h : Keeps r s) : ∀ x0 x1, Keeps r (maskProbes s x0 x1).1 := by
  intro x0 x1
  unfold maskProbes
  repeat' first
    | with_reducible assumption | intro _ | with_reducible exact Keeps.refl _ | with_reducible apply keeps_loadBytes
    | with_reducible apply Keeps.ite | with_reducible apply Keeps.ite_fst | with_reducible apply Keeps.foldl
    | with_reducible apply Keeps.foldl_fst | with_reducible apply Keeps.forN
    | with_reducible refine Keeps.of_pair (by assumption) ?_ | with_reducible refine Keeps.of_pair' (by assumption) ?_
    | fail_if_no_progress with_reducible apply Keeps.lit | split

theorem keeps_ocViolation {r s : State} (h : Keeps r s) : ∀ x0 x1, Keeps r (ocViolation s x0 x1) := by
  intro x0 x1
  unfold ocViolation
  repeat' first
    | with_reducible assumption | intro _ | with_reducible exact Keeps.refl _ | with_reducible apply keeps_updOc
    | with_reducible apply keeps_wr | with_reducible apply keeps_raise | with_reducible apply Keeps.ite

theorem keeps_ocNewInterval {r s : State} (h : Keeps r s) : Keeps r (ocNewInterval s) := by
  unfold ocNewInterval
  repeat' first
    | with_reducible assumption | intro _ | with_reducible exact Keeps.refl _ | with_reducible apply keeps_updOc

theorem keeps_ocStopped {r s : State} (h : Keeps r s) : Keeps r (ocStopped s) := by
  unfold ocStopped
  repeat' first
    | with_reducible assumption | intro _ | with_reducible exact Keeps.refl _ | with_reducible apply keeps_updOc
    | with_reducible apply keeps_clear | with_reducible apply Keeps.ite

theorem keeps_ocClose {r s : State} (h : Keeps r s) : Keeps r (ocClose s) := by
  unfold ocClose
  repeat' first
    | with_reducible assumption | intro _ | with_reducible exact Keeps.refl _ | with_reducible apply keeps_wr
    | with_reducible apply keeps_updOc | with_reducible apply keeps_raise | with_reducible apply keeps_count
    | with_reducible apply keeps_ocStopped | with_reducible apply keeps_ocNewInterval | with_reducible apply keeps_ocEval
    | with_reducible apply keeps_maskProbes | with_reducible apply keeps_ocViolation | with_reducible apply Keeps.ite

theorem keeps_ocCaptureEnd {r s : State} (h : Keeps r s) : Keeps r (ocCaptureEnd s) := by
  unfold ocCaptureEnd
  repeat' first
    | with_reducible assumption | intro _ | with_reducible exact Keeps.refl _ | with_reducible apply keeps_clear
    | with_reducible apply keeps_count | with_reducible apply keeps_updOc | with_reducible apply keeps_raise
    | with_reducible apply keeps_ocEnter | with_reducible apply Keeps.ite

theorem keeps_ocWrite {r s : State} (h : Keeps r s) : Keeps r (ocWrite s) := by
  unfold ocWrite
  repeat' first
    | with_reducible assumption | intro _ | with_reducible exact Keeps.refl _ | with_reducible apply keeps_updOc
    | with_reducible apply keeps_engineStore | with_reducible apply keeps_ocCaptureEnd | with_reducible apply Keeps.ite
    | with_reducible apply Keeps.ite_fst | with_reducible apply Keeps.foldl | with_reducible apply Keeps.foldl_fst
    | with_reducible apply Keeps.forN | with_reducible refine Keeps.of_pair (by assumption) ?_
    | with_reducible refine Keeps.of_pair' (by assumption) ?_ | fail_if_no_progress with_reducible apply Keeps.lit | split
    | dsimp only

theorem keeps_ocArm {r s : State} (h : Keeps r s) : Keeps r (ocArm s) := by
  unfold ocArm
  repeat' first
    | with_reducible assumption | intro _ | with_reducible exact Keeps.refl _ | with_reducible apply keeps_wr
    | with_reducible apply keeps_clear | with_reducible apply keeps_raise | with_reducible apply keeps_updOc

theorem keeps_ocStop {r s : State} (h : Keeps r s) : Keeps r (ocStop s) := by
  unfold ocStop
  repeat' first
    | with_reducible assumption | intro _ | with_reducible exact Keeps.refl _ | with_reducible apply keeps_updOc
    | with_reducible apply Keeps.ite

theorem keeps_ocForce {r s : State} (h : Keeps r s) : Keeps r (ocForce s) := by
  unfold ocForce
  repeat' first
    | with_reducible assumption | intro _ | with_reducible exact Keeps.refl _ | with_reducible apply keeps_updOc
    | with_reducible apply Keeps.ite

theorem keeps_oculusEffect {r s : State} (h : Keeps r s) : ∀ x0 x1, Keeps r (oculusEffect s x0 x1) := by
  intro x0 x1
  unfold oculusEffect
  repeat' first
    | with_reducible assumption | intro _ | with_reducible exact Keeps.refl _ | with_reducible apply keeps_ocArm
    | with_reducible apply keeps_ocStop | with_reducible apply keeps_ocForce | with_reducible apply Keeps.ite

theorem keeps_setCoarse {r s : State} (h : Keeps r s) : Keeps r (setCoarse s) := by
  unfold setCoarse
  repeat' first
    | with_reducible assumption | intro _ | with_reducible exact Keeps.refl _ | with_reducible apply keeps_raise
    | with_reducible apply keeps_raiseIf

theorem keeps_setLost {r s : State} (h : Keeps r s) : Keeps r (setLost s) := by
  unfold setLost
  repeat' first
    | with_reducible assumption | intro _ | with_reducible exact Keeps.refl _ | with_reducible apply keeps_raise
    | with_reducible apply keeps_raiseIf

theorem keeps_applyIncr {r s : State} (h : Keeps r s) : Keeps r (applyIncr s) := by
  unfold applyIncr
  repeat' first
    | with_reducible assumption | intro _ | with_reducible exact Keeps.refl _ | with_reducible apply Keeps.ite
    | with_reducible apply Keeps.ite_fst | with_reducible apply Keeps.foldl | with_reducible apply Keeps.foldl_fst
    | with_reducible apply Keeps.forN | with_reducible refine Keeps.of_pair (by assumption) ?_
    | with_reducible refine Keeps.of_pair' (by assumption) ?_ | fail_if_no_progress with_reducible apply Keeps.lit

theorem keeps_toReach {r s : State} (h : Keeps r s) : ∀ x0, Keeps r (toReach s x0) := by
  intro x0
  unfold toReach
  repeat' first
    | with_reducible assumption | intro _ | with_reducible exact Keeps.refl _ | with_reducible apply keeps_toEdge

theorem keeps_rearmOutputs {r s : State} (h : Keeps r s) : Keeps r (rearmOutputs s) := by
  unfold rearmOutputs
  repeat' first
    | with_reducible assumption | intro _ | with_reducible exact Keeps.refl _ | with_reducible apply Keeps.ite
    | with_reducible apply Keeps.ite_fst | with_reducible apply Keeps.foldl | with_reducible apply Keeps.foldl_fst
    | with_reducible apply Keeps.forN | with_reducible refine Keeps.of_pair (by assumption) ?_
    | with_reducible refine Keeps.of_pair' (by assumption) ?_ | fail_if_no_progress with_reducible apply Keeps.lit

theorem keeps_stepTime {r s : State} (h : Keeps r s) : Keeps r (stepTime s) := by
  unfold stepTime
  repeat' first
    | with_reducible assumption | intro _ | with_reducible exact Keeps.refl _ | with_reducible apply keeps_rearmOutputs
    | with_reducible apply keeps_edges | with_reducible apply Keeps.ite | with_reducible apply Keeps.ite_fst
    | with_reducible apply Keeps.foldl | with_reducible apply Keeps.foldl_fst | with_reducible apply Keeps.forN
    | with_reducible refine Keeps.of_pair (by assumption) ?_ | with_reducible refine Keeps.of_pair' (by assumption) ?_
    | fail_if_no_progress with_reducible apply Keeps.lit

theorem keeps_startSlew {r s : State} (h : Keeps r s) : Keeps r (startSlew s) := by
  unfold startSlew
  repeat' first
    | with_reducible assumption | intro _ | with_reducible exact Keeps.refl _ | with_reducible apply keeps_wr
    | with_reducible apply Keeps.ite | with_reducible apply Keeps.ite_fst | with_reducible apply Keeps.foldl
    | with_reducible apply Keeps.foldl_fst | with_reducible apply Keeps.forN
    | with_reducible refine Keeps.of_pair (by assumption) ?_ | with_reducible refine Keeps.of_pair' (by assumption) ?_
    | fail_if_no_progress with_reducible apply Keeps.lit

theorem keeps_endSlew {r s : State} (h : Keeps r s) : Keeps r (endSlew s) := by
  unfold endSlew
  repeat' first
    | with_reducible assumption | intro _ | with_reducible exact Keeps.refl _ | with_reducible apply keeps_edges
    | with_reducible apply Keeps.ite

theorem keeps_setTime {r s : State} (h : Keeps r s) : Keeps r (setTime s) := by
  unfold setTime
  repeat' first
    | with_reducible assumption | intro _ | with_reducible exact Keeps.refl _ | with_reducible apply keeps_edges
    | with_reducible apply keeps_rearmOutputs | with_reducible apply keeps_setCoarse | with_reducible apply keeps_clear
    | with_reducible apply Keeps.ite | with_reducible apply Keeps.ite_fst | with_reducible apply Keeps.foldl
    | with_reducible apply Keeps.foldl_fst | with_reducible apply Keeps.forN
    | with_reducible refine Keeps.of_pair (by assumption) ?_ | with_reducible refine Keeps.of_pair' (by assumption) ?_
    | fail_if_no_progress with_reducible apply Keeps.lit

theorem keeps_clearCoarse {r s : State} (h : Keeps r s) : Keeps r (clearCoarse s) := by
  unfold clearCoarse
  repeat' first
    | with_reducible assumption | intro _ | with_reducible exact Keeps.refl _ | with_reducible apply keeps_wr
    | with_reducible apply keeps_clear

theorem keeps_timeLost {r s : State} (h : Keeps r s) : Keeps r (timeLost s) := by
  unfold timeLost
  repeat' first
    | with_reducible assumption | intro _ | with_reducible exact Keeps.refl _ | with_reducible apply keeps_wr
    | with_reducible apply keeps_setCoarse | with_reducible apply keeps_setLost | with_reducible apply Keeps.ite
    | with_reducible apply Keeps.ite_fst | with_reducible apply Keeps.foldl | with_reducible apply Keeps.foldl_fst
    | with_reducible apply Keeps.forN | with_reducible refine Keeps.of_pair (by assumption) ?_
    | with_reducible refine Keeps.of_pair' (by assumption) ?_ | fail_if_no_progress with_reducible apply Keeps.lit

theorem keeps_timeCarried {r s : State} (h : Keeps r s) : ∀ x0 x1, Keeps r (timeCarried s x0 x1) := by
  intro x0 x1
  unfold timeCarried
  repeat' first
    | with_reducible assumption | intro _ | with_reducible exact Keeps.refl _ | with_reducible apply keeps_wr
    | with_reducible apply keeps_setCoarse | with_reducible apply Keeps.ite | with_reducible apply Keeps.ite_fst
    | with_reducible apply Keeps.foldl | with_reducible apply Keeps.foldl_fst | with_reducible apply Keeps.forN
    | with_reducible refine Keeps.of_pair (by assumption) ?_ | with_reducible refine Keeps.of_pair' (by assumption) ?_
    | fail_if_no_progress with_reducible apply Keeps.lit

theorem keeps_recordFire {r s : State} (h : Keeps r s) : ∀ x0, Keeps r (recordFire s x0) := by
  intro x0
  unfold recordFire
  repeat' first
    | with_reducible assumption | intro _ | with_reducible exact Keeps.refl _ | with_reducible apply keeps_wr
    | with_reducible apply keeps_raise | with_reducible apply keeps_count | with_reducible apply Keeps.ite
    | with_reducible apply Keeps.ite_fst | with_reducible apply Keeps.foldl | with_reducible apply Keeps.foldl_fst
    | with_reducible apply Keeps.forN | with_reducible refine Keeps.of_pair (by assumption) ?_
    | with_reducible refine Keeps.of_pair' (by assumption) ?_ | fail_if_no_progress with_reducible apply Keeps.lit

theorem keeps_timerWritten {r s : State} (h : Keeps r s) : ∀ x0, Keeps r (timerWritten s x0) := by
  intro x0
  unfold timerWritten
  repeat' first
    | with_reducible assumption | intro _ | with_reducible exact Keeps.refl _ | with_reducible apply Keeps.ite
    | with_reducible apply Keeps.ite_fst | with_reducible apply Keeps.foldl | with_reducible apply Keeps.foldl_fst
    | with_reducible apply Keeps.forN | with_reducible refine Keeps.of_pair (by assumption) ?_
    | with_reducible refine Keeps.of_pair' (by assumption) ?_ | fail_if_no_progress with_reducible apply Keeps.lit | split

theorem keeps_timerFire {r s : State} (h : Keeps r s) : ∀ x0, Keeps r (timerFire s x0) := by
  intro x0
  unfold timerFire
  repeat' first
    | with_reducible assumption | intro _ | with_reducible exact Keeps.refl _ | with_reducible apply keeps_wr
    | with_reducible apply keeps_recordFire | with_reducible apply keeps_toReach | with_reducible apply keeps_raiseIf
    | with_reducible apply keeps_toEdge | with_reducible apply Keeps.ite | with_reducible apply Keeps.ite_fst
    | with_reducible apply Keeps.foldl | with_reducible apply Keeps.foldl_fst | with_reducible apply Keeps.forN
    | with_reducible refine Keeps.of_pair (by assumption) ?_ | with_reducible refine Keeps.of_pair' (by assumption) ?_
    | fail_if_no_progress with_reducible apply Keeps.lit | split

theorem keeps_outActive {r s : State} (h : Keeps r s) : ∀ x0, Keeps r (outActive s x0) := by
  intro x0
  unfold outActive
  repeat' first
    | with_reducible assumption | intro _ | with_reducible exact Keeps.refl _ | with_reducible apply keeps_toReach
    | with_reducible apply keeps_raise | with_reducible apply keeps_raiseIf | with_reducible apply keeps_wr
    | with_reducible apply Keeps.ite | with_reducible apply Keeps.ite_fst | with_reducible apply Keeps.foldl
    | with_reducible apply Keeps.foldl_fst | with_reducible apply Keeps.forN
    | with_reducible refine Keeps.of_pair (by assumption) ?_ | with_reducible refine Keeps.of_pair' (by assumption) ?_
    | fail_if_no_progress with_reducible apply Keeps.lit

theorem keeps_outIdle {r s : State} (h : Keeps r s) : ∀ x0, Keeps r (outIdle s x0) := by
  intro x0
  unfold outIdle
  repeat' first
    | with_reducible assumption | intro _ | with_reducible exact Keeps.refl _ | with_reducible apply keeps_toReach
    | with_reducible apply keeps_raise | with_reducible apply Keeps.ite | with_reducible apply Keeps.ite_fst
    | with_reducible apply Keeps.foldl | with_reducible apply Keeps.foldl_fst | with_reducible apply Keeps.forN
    | with_reducible refine Keeps.of_pair (by assumption) ?_ | with_reducible refine Keeps.of_pair' (by assumption) ?_
    | fail_if_no_progress with_reducible apply Keeps.lit

theorem keeps_outModeWritten {r s : State} (h : Keeps r s) : ∀ x0 x1, Keeps r (outModeWritten s x0 x1) := by
  intro x0 x1
  unfold outModeWritten
  repeat' first
    | with_reducible assumption | intro _ | with_reducible exact Keeps.refl _ | with_reducible apply Keeps.ite
    | with_reducible apply Keeps.ite_fst | with_reducible apply Keeps.foldl | with_reducible apply Keeps.foldl_fst
    | with_reducible apply Keeps.forN | with_reducible refine Keeps.of_pair (by assumption) ?_
    | with_reducible refine Keeps.of_pair' (by assumption) ?_ | fail_if_no_progress with_reducible apply Keeps.lit

theorem keeps_captureEdge {r s : State} (h : Keeps r s) : ∀ x0 x1, Keeps r (captureEdge s x0 x1) := by
  intro x0 x1
  unfold captureEdge
  repeat' first
    | with_reducible assumption | intro _ | with_reducible exact Keeps.refl _ | with_reducible apply keeps_raise
    | with_reducible apply Keeps.ite | with_reducible apply Keeps.ite_fst | with_reducible apply Keeps.foldl
    | with_reducible apply Keeps.foldl_fst | with_reducible apply Keeps.forN
    | with_reducible refine Keeps.of_pair (by assumption) ?_ | with_reducible refine Keeps.of_pair' (by assumption) ?_
    | fail_if_no_progress with_reducible apply Keeps.lit

theorem keeps_captureLatch {r s : State} (h : Keeps r s) : ∀ x0, Keeps r (captureLatch s x0) := by
  intro x0
  unfold captureLatch
  repeat' first
    | with_reducible assumption | intro _ | with_reducible exact Keeps.refl _ | with_reducible apply keeps_wr
    | with_reducible apply Keeps.ite | with_reducible apply Keeps.ite_fst | with_reducible apply Keeps.foldl
    | with_reducible apply Keeps.foldl_fst | with_reducible apply Keeps.forN
    | with_reducible refine Keeps.of_pair (by assumption) ?_ | with_reducible refine Keeps.of_pair' (by assumption) ?_
    | fail_if_no_progress with_reducible apply Keeps.lit | split

theorem keeps_capturePop {r s : State} (h : Keeps r s) : ∀ x0, Keeps r (capturePop s x0) := by
  intro x0
  unfold capturePop
  repeat' first
    | with_reducible assumption | intro _ | with_reducible exact Keeps.refl _ | with_reducible apply keeps_answer
    | with_reducible apply Keeps.ite | with_reducible apply Keeps.ite_fst | with_reducible apply Keeps.foldl
    | with_reducible apply Keeps.foldl_fst | with_reducible apply Keeps.forN
    | with_reducible refine Keeps.of_pair (by assumption) ?_ | with_reducible refine Keeps.of_pair' (by assumption) ?_
    | fail_if_no_progress with_reducible apply Keeps.lit | split

theorem keeps_txTimestamp {r s : State} (h : Keeps r s) : ∀ x0 x1, Keeps r (txTimestamp s x0 x1) := by
  intro x0 x1
  unfold txTimestamp
  repeat' first
    | with_reducible assumption | intro _ | with_reducible exact Keeps.refl _ | with_reducible apply keeps_raise
    | with_reducible apply Keeps.ite | with_reducible apply Keeps.ite_fst | with_reducible apply Keeps.foldl
    | with_reducible apply Keeps.foldl_fst | with_reducible apply Keeps.forN
    | with_reducible refine Keeps.of_pair (by assumption) ?_ | with_reducible refine Keeps.of_pair' (by assumption) ?_
    | fail_if_no_progress with_reducible apply Keeps.lit

theorem keeps_txLatch {r s : State} (h : Keeps r s) : ∀ x0, Keeps r (txLatch s x0) := by
  intro x0
  unfold txLatch
  repeat' first
    | with_reducible assumption | intro _ | with_reducible exact Keeps.refl _ | with_reducible apply keeps_wr
    | with_reducible apply Keeps.ite | with_reducible apply Keeps.ite_fst | with_reducible apply Keeps.foldl
    | with_reducible apply Keeps.foldl_fst | with_reducible apply Keeps.forN
    | with_reducible refine Keeps.of_pair (by assumption) ?_ | with_reducible refine Keeps.of_pair' (by assumption) ?_
    | fail_if_no_progress with_reducible apply Keeps.lit | split

theorem keeps_txPop {r s : State} (h : Keeps r s) : ∀ x0, Keeps r (txPop s x0) := by
  intro x0
  unfold txPop
  repeat' first
    | with_reducible assumption | intro _ | with_reducible exact Keeps.refl _ | with_reducible apply keeps_answer
    | with_reducible apply Keeps.ite | with_reducible apply Keeps.ite_fst | with_reducible apply Keeps.foldl
    | with_reducible apply Keeps.foldl_fst | with_reducible apply Keeps.forN
    | with_reducible refine Keeps.of_pair (by assumption) ?_ | with_reducible refine Keeps.of_pair' (by assumption) ?_
    | fail_if_no_progress with_reducible apply Keeps.lit | split

theorem keeps_armTick {r s : State} (h : Keeps r s) : Keeps r (armTick s) := by
  unfold armTick
  repeat' first
    | with_reducible assumption | intro _ | with_reducible exact Keeps.refl _ | with_reducible apply Keeps.ite
    | with_reducible apply Keeps.ite_fst | with_reducible apply Keeps.foldl | with_reducible apply Keeps.foldl_fst
    | with_reducible apply Keeps.forN | with_reducible refine Keeps.of_pair (by assumption) ?_
    | with_reducible refine Keeps.of_pair' (by assumption) ?_ | fail_if_no_progress with_reducible apply Keeps.lit

theorem keeps_disarmTick {r s : State} (h : Keeps r s) : Keeps r (disarmTick s) := by
  unfold disarmTick
  repeat' first
    | with_reducible assumption | intro _ | with_reducible exact Keeps.refl _ | with_reducible apply Keeps.ite
    | with_reducible apply Keeps.ite_fst | with_reducible apply Keeps.foldl | with_reducible apply Keeps.foldl_fst
    | with_reducible apply Keeps.forN | with_reducible refine Keeps.of_pair (by assumption) ?_
    | with_reducible refine Keeps.of_pair' (by assumption) ?_ | fail_if_no_progress with_reducible apply Keeps.lit

theorem keeps_updPwm {r s : State} (h : Keeps r s) : ∀ x0 x1, Keeps r (State.updPwm s x0 x1) := by
  intro x0 x1
  unfold State.updPwm
  repeat' first
    | with_reducible assumption | intro _ | with_reducible exact Keeps.refl _ | with_reducible apply Keeps.ite
    | with_reducible apply Keeps.ite_fst | with_reducible apply Keeps.foldl | with_reducible apply Keeps.foldl_fst
    | with_reducible apply Keeps.forN | with_reducible refine Keeps.of_pair (by assumption) ?_
    | with_reducible refine Keeps.of_pair' (by assumption) ?_ | fail_if_no_progress with_reducible apply Keeps.lit

theorem keeps_pwmShow {r s : State} (h : Keeps r s) : ∀ x0, Keeps r (pwmShow s x0) := by
  intro x0
  unfold pwmShow
  repeat' first
    | with_reducible assumption | intro _ | with_reducible exact Keeps.refl _ | with_reducible apply keeps_wr

theorem keeps_pwmDrive {r s : State} (h : Keeps r s) : ∀ x0 x1, Keeps r (pwmDrive s x0 x1) := by
  intro x0 x1
  unfold pwmDrive
  repeat' first
    | with_reducible assumption | intro _ | with_reducible exact Keeps.refl _ | with_reducible apply keeps_raiseIf
    | with_reducible apply keeps_pwmShow | with_reducible apply keeps_updPwm

theorem keeps_pwmGfb {r s : State} (h : Keeps r s) : ∀ x0 x1, Keeps r (pwmGfb s x0 x1) := by
  intro x0 x1
  unfold pwmGfb
  repeat' first
    | with_reducible assumption | intro _ | with_reducible exact Keeps.refl _ | with_reducible apply keeps_wr

theorem keeps_pwmChange {r s : State} (h : Keeps r s) : ∀ x0, Keeps r (pwmChange s x0) := by
  intro x0
  unfold pwmChange
  repeat' first
    | with_reducible assumption | intro _ | with_reducible exact Keeps.refl _ | with_reducible apply keeps_pwmDrive
    | with_reducible apply keeps_updPwm | with_reducible apply keeps_toEdge | with_reducible apply Keeps.ite
    | with_reducible apply Keeps.ite_fst | with_reducible apply Keeps.foldl | with_reducible apply Keeps.foldl_fst
    | with_reducible apply Keeps.forN | with_reducible refine Keeps.of_pair (by assumption) ?_
    | with_reducible refine Keeps.of_pair' (by assumption) ?_ | fail_if_no_progress with_reducible apply Keeps.lit | split

theorem keeps_pwmLoad {r s : State} (h : Keeps r s) : ∀ x0 x1, Keeps r (pwmLoad s x0 x1) := by
  intro x0 x1
  unfold pwmLoad
  repeat' first
    | with_reducible assumption | intro _ | with_reducible exact Keeps.refl _ | with_reducible apply keeps_raiseIf
    | with_reducible apply keeps_updPwm | with_reducible apply keeps_loadBefore | with_reducible apply Keeps.ite

theorem keeps_pwmReload {r s : State} (h : Keeps r s) : ∀ x0, Keeps r (pwmReload s x0) := by
  intro x0
  unfold pwmReload
  repeat' first
    | with_reducible assumption | intro _ | with_reducible exact Keeps.refl _ | with_reducible apply keeps_pwmChange
    | with_reducible apply keeps_pwmLoad | with_reducible apply keeps_toEdge | with_reducible apply keeps_updPwm
    | with_reducible apply keeps_raise | with_reducible apply keeps_pwmDrive | with_reducible apply Keeps.ite

theorem keeps_pwmTurnOn {r s : State} (h : Keeps r s) : ∀ x0 x1 x2, Keeps r (pwmTurnOn s x0 x1 x2) := by
  intro x0 x1 x2
  unfold pwmTurnOn
  repeat' first
    | with_reducible assumption | intro _ | with_reducible exact Keeps.refl _ | with_reducible apply keeps_pwmGfb
    | with_reducible apply keeps_toEdge | with_reducible apply keeps_pwmShow | with_reducible apply keeps_updPwm
    | with_reducible apply Keeps.ite | with_reducible apply Keeps.ite_fst | with_reducible apply Keeps.foldl
    | with_reducible apply Keeps.foldl_fst | with_reducible apply Keeps.forN
    | with_reducible refine Keeps.of_pair (by assumption) ?_ | with_reducible refine Keeps.of_pair' (by assumption) ?_
    | fail_if_no_progress with_reducible apply Keeps.lit | split

theorem keeps_pwmOff {r s : State} (h : Keeps r s) : ∀ x0 x1, Keeps r (pwmOff s x0 x1) := by
  intro x0 x1
  unfold pwmOff
  repeat' first
    | with_reducible assumption | intro _ | with_reducible exact Keeps.refl _ | with_reducible apply keeps_pwmShow
    | with_reducible apply keeps_updPwm

theorem keeps_pwmTimeout {r s : State} (h : Keeps r s) : ∀ x0 x1 x2, Keeps r (pwmTimeout s x0 x1 x2) := by
  intro x0 x1 x2
  unfold pwmTimeout
  repeat' first
    | with_reducible assumption | intro _ | with_reducible exact Keeps.refl _ | with_reducible apply keeps_pwmGfb
    | with_reducible apply keeps_pwmOff | with_reducible apply keeps_raise | with_reducible apply keeps_toEdge
    | with_reducible apply Keeps.ite | with_reducible apply Keeps.ite_fst | with_reducible apply Keeps.foldl
    | with_reducible apply Keeps.foldl_fst | with_reducible apply Keeps.forN
    | with_reducible refine Keeps.of_pair (by assumption) ?_ | with_reducible refine Keeps.of_pair' (by assumption) ?_
    | fail_if_no_progress with_reducible apply Keeps.lit | split

theorem keeps_pwmShoot {r s : State} (h : Keeps r s) : ∀ x0 x1 x2, Keeps r (pwmShoot s x0 x1 x2) := by
  intro x0 x1 x2
  unfold pwmShoot
  repeat' first
    | with_reducible assumption | intro _ | with_reducible exact Keeps.refl _ | with_reducible apply keeps_pwmGfb
    | with_reducible apply keeps_pwmOff | with_reducible apply keeps_raise | with_reducible apply Keeps.ite

theorem keeps_pwmRefreshStart {r s : State} (h : Keeps r s) : ∀ x0, Keeps r (pwmRefreshStart s x0) := by
  intro x0
  unfold pwmRefreshStart
  repeat' first
    | with_reducible assumption | intro _ | with_reducible exact Keeps.refl _ | with_reducible apply keeps_updPwm
    | with_reducible apply keeps_toEdge | with_reducible apply keeps_pwmDrive | with_reducible apply keeps_raise
    | with_reducible apply Keeps.ite

theorem keeps_pwmRefreshEnd {r s : State} (h : Keeps r s) : ∀ x0, Keeps r (pwmRefreshEnd s x0) := by
  intro x0
  unfold pwmRefreshEnd
  repeat' first
    | with_reducible assumption | intro _ | with_reducible exact Keeps.refl _ | with_reducible apply keeps_updPwm
    | with_reducible apply keeps_toEdge | with_reducible apply keeps_pwmDrive | with_reducible apply Keeps.ite

theorem keeps_pwmPulse {r s : State} (h : Keeps r s) : ∀ x0, Keeps r (pwmPulse s x0) := by
  intro x0
  unfold pwmPulse
  repeat' first
    | with_reducible assumption | intro _ | with_reducible exact Keeps.refl _ | with_reducible apply keeps_toEdge
    | with_reducible apply Keeps.ite | with_reducible apply Keeps.ite_fst | with_reducible apply Keeps.foldl
    | with_reducible apply Keeps.foldl_fst | with_reducible apply Keeps.forN
    | with_reducible refine Keeps.of_pair (by assumption) ?_ | with_reducible refine Keeps.of_pair' (by assumption) ?_
    | fail_if_no_progress with_reducible apply Keeps.lit | split

theorem keeps_pwmTick {r s : State} (h : Keeps r s) : ∀ x0 x1, Keeps r (pwmTick s x0 x1) := by
  intro x0 x1
  unfold pwmTick
  repeat' first
    | with_reducible assumption | intro _ | with_reducible exact Keeps.refl _ | with_reducible apply keeps_wr
    | with_reducible apply keeps_pwmOff | with_reducible apply keeps_updPwm | with_reducible apply keeps_pwmLoad
    | with_reducible apply keeps_pwmDrive | with_reducible apply keeps_raise | with_reducible apply Keeps.ite

theorem keeps_pwmTrip {r s : State} (h : Keeps r s) : ∀ x0 x1, Keeps r (pwmTrip s x0 x1) := by
  intro x0 x1
  unfold pwmTrip
  repeat' first
    | with_reducible assumption | intro _ | with_reducible exact Keeps.refl _ | with_reducible apply keeps_pwmOff
    | with_reducible apply keeps_updPwm | with_reducible apply keeps_raise

theorem keeps_pwmGload {r s : State} (h : Keeps r s) : ∀ x0, Keeps r (pwmGload s x0) := by
  intro x0
  unfold pwmGload
  repeat' first
    | with_reducible assumption | intro _ | with_reducible exact Keeps.refl _ | with_reducible apply keeps_updPwm
    | with_reducible apply keeps_raiseIf | with_reducible apply Keeps.ite | with_reducible apply Keeps.ite_fst
    | with_reducible apply Keeps.foldl | with_reducible apply Keeps.foldl_fst | with_reducible apply Keeps.forN

theorem keeps_pwmEffect {r s : State} (h : Keeps r s) : ∀ x0 x1, Keeps r (pwmEffect s x0 x1) := by
  intro x0 x1
  unfold pwmEffect
  repeat' first
    | with_reducible assumption | intro _ | with_reducible exact Keeps.refl _ | with_reducible apply keeps_raiseIf
    | with_reducible apply keeps_pwmDrive | with_reducible apply keeps_updPwm | with_reducible apply Keeps.ite
    | with_reducible apply Keeps.ite_fst | with_reducible apply Keeps.foldl | with_reducible apply Keeps.foldl_fst
    | with_reducible apply Keeps.forN | with_reducible refine Keeps.of_pair (by assumption) ?_
    | with_reducible refine Keeps.of_pair' (by assumption) ?_ | fail_if_no_progress with_reducible apply Keeps.lit

theorem keeps_judgeStatus {r s : State} (h : Keeps r s) : ∀ x0 x1 x2, Keeps r (judgeStatus s x0 x1 x2) := by
  intro x0 x1 x2
  unfold judgeStatus
  repeat' first
    | with_reducible assumption | intro _ | with_reducible exact Keeps.refl _ | with_reducible apply keeps_react
    | with_reducible apply keeps_updEntry | with_reducible apply keeps_stateErr | with_reducible apply Keeps.ite
    | with_reducible apply Keeps.ite_fst | with_reducible apply Keeps.foldl

theorem keeps_processCell {r s : State} (h : Keeps r s) : ∀ x0 x1 x2 x3, Keeps r (processCell s x0 x1 x2 x3) := by
  intro x0 x1 x2 x3
  unfold processCell
  repeat' first
    | with_reducible assumption | intro _ | with_reducible exact Keeps.refl _ | with_reducible apply keeps_cseCorrect
    | with_reducible apply keeps_leaseCredit | with_reducible apply keeps_engineWrite | with_reducible apply keeps_leaseObserve
    | with_reducible apply keeps_cseRecord | with_reducible apply keeps_raise | with_reducible apply keeps_raiseIf
    | with_reducible apply keeps_judgeStatus | with_reducible apply Keeps.ite | with_reducible apply Keeps.ite_fst
    | with_reducible apply Keeps.foldl | with_reducible apply Keeps.foldl_fst | with_reducible apply Keeps.forN
    | with_reducible refine Keeps.of_pair (by assumption) ?_ | with_reducible refine Keeps.of_pair' (by assumption) ?_
    | fail_if_no_progress with_reducible apply Keeps.lit | split

theorem keeps_cseRefuse {r s : State} (h : Keeps r s) : ∀ x0 x1 x2, Keeps r (cseRefuse s x0 x1 x2) := by
  intro x0 x1 x2
  unfold cseRefuse
  repeat' first
    | with_reducible assumption | intro _ | with_reducible exact Keeps.refl _ | with_reducible apply keeps_answer
    | with_reducible apply keeps_cseRecord

theorem keeps_publishMean {r s : State} (h : Keeps r s) : ∀ x0, Keeps r (publishMean s x0) := by
  intro x0
  unfold publishMean
  repeat' first
    | with_reducible assumption | intro _ | with_reducible exact Keeps.refl _ | with_reducible apply keeps_wr
    | with_reducible apply Keeps.ite

end Sys2Proof.Machine
end

