-- ==== Sys2Proof/Laws/KeepsC.lean ====
section
/-!
SUPPORT. What every operation of ArmSelect.lean, GateStage.lean, Ring.lean, Trip.lean, Filter.lean, Queue.lean keeps
(Keeps.lean).
-/
namespace Sys2Proof.Machine

theorem keeps_countAt {r s : State} (h : Keeps r s) : ∀ x0, Keeps r (countAt s x0) := by
  intro x0
  unfold countAt
  repeat' first
    | with_reducible assumption | intro _ | with_reducible exact Keeps.refl _ | with_reducible apply keeps_updArm
    | with_reducible apply keeps_raiseIf | with_reducible apply keeps_orIn | with_reducible apply Keeps.ite

theorem keeps_cutoffArm {r s : State} (h : Keeps r s) : ∀ x0, Keeps r (cutoffArm s x0) := by
  intro x0
  unfold cutoffArm
  repeat' first
    | with_reducible assumption | intro _ | with_reducible exact Keeps.refl _ | with_reducible apply keeps_countAt
    | with_reducible apply keeps_updArm | with_reducible apply Keeps.ite

theorem keeps_countAgain {r s : State} (h : Keeps r s) : ∀ x0, Keeps r (countAgain s x0) := by
  intro x0
  unfold countAgain
  repeat' first
    | with_reducible assumption | intro _ | with_reducible exact Keeps.refl _ | with_reducible apply keeps_wr
    | with_reducible apply keeps_countAt | with_reducible apply keeps_updArm | with_reducible apply Keeps.ite

theorem keeps_refillArm {r s : State} (h : Keeps r s) : ∀ x0, Keeps r (refillArm s x0) := by
  intro x0
  unfold refillArm
  repeat' first
    | with_reducible assumption | intro _ | with_reducible exact Keeps.refl _ | with_reducible apply keeps_updArm
    | with_reducible apply keeps_updEntry | with_reducible apply Keeps.ite | with_reducible apply Keeps.ite_fst
    | with_reducible apply Keeps.foldl

theorem keeps_publishSums {r s : State} (h : Keeps r s) : ∀ x0 x1 x2, Keeps r (publishSums s x0 x1 x2) := by
  intro x0 x1 x2
  unfold publishSums
  repeat' first
    | with_reducible assumption | intro _ | with_reducible exact Keeps.refl _ | with_reducible apply keeps_wr

theorem keeps_selectRun {r s : State} (h : Keeps r s) : ∀ x0 x1 x2, Keeps r (selectRun s x0 x1 x2) := by
  intro x0 x1 x2
  unfold selectRun
  repeat' first
    | with_reducible assumption | intro _ | with_reducible exact Keeps.refl _ | with_reducible apply keeps_refillArm
    | with_reducible apply keeps_updEntry | with_reducible apply keeps_wr | with_reducible apply keeps_raiseIf
    | with_reducible apply Keeps.ite | with_reducible apply Keeps.ite_fst | with_reducible apply Keeps.foldl

theorem keeps_clearResults {r s : State} (h : Keeps r s) : ∀ x0, Keeps r (clearResults s x0) := by
  intro x0
  unfold clearResults
  repeat' first
    | with_reducible assumption | intro _ | with_reducible exact Keeps.refl _ | with_reducible apply keeps_wr

theorem keeps_selectArm {r s : State} (h : Keeps r s) : ∀ x0, Keeps r (selectArm s x0) := by
  intro x0
  unfold selectArm
  repeat' first
    | with_reducible assumption | intro _ | with_reducible exact Keeps.refl _ | with_reducible apply keeps_selectRun
    | with_reducible apply keeps_updEntry | with_reducible apply keeps_clearResults | with_reducible apply keeps_publishSums
    | with_reducible apply Keeps.ite | with_reducible apply Keeps.ite_fst | with_reducible apply Keeps.foldl

theorem keeps_selectAll {r s : State} (h : Keeps r s) : Keeps r (selectAll s) := by
  unfold selectAll
  repeat' first
    | with_reducible assumption | intro _ | with_reducible exact Keeps.refl _ | with_reducible apply keeps_selectArm
    | with_reducible apply keeps_updEntry | with_reducible apply Keeps.ite | with_reducible apply Keeps.ite_fst
    | with_reducible apply Keeps.foldl

theorem keeps_assembleRing {r s : State} (h : Keeps r s) : ∀ x0, Keeps r (assembleRing s x0) := by
  intro x0
  unfold assembleRing
  repeat' first
    | with_reducible assumption | intro _ | with_reducible exact Keeps.refl _ | with_reducible apply keeps_updEntry
    | with_reducible apply keeps_raiseIf | with_reducible apply keeps_react | with_reducible apply Keeps.ite
    | with_reducible apply Keeps.ite_fst | with_reducible apply Keeps.foldl | with_reducible apply Keeps.foldl_fst
    | with_reducible apply Keeps.forN | with_reducible refine Keeps.of_pair (by assumption) ?_
    | with_reducible refine Keeps.of_pair' (by assumption) ?_ | fail_if_no_progress with_reducible apply Keeps.lit | split

theorem keeps_publishGcount {r s : State} (h : Keeps r s) : ∀ x0, Keeps r (publishGcount s x0) := by
  intro x0
  unfold publishGcount
  repeat' first
    | with_reducible assumption | intro _ | with_reducible exact Keeps.refl _ | with_reducible apply keeps_wr
    | with_reducible apply keeps_raiseIf

theorem keeps_resampleRing {r s : State} (h : Keeps r s) : ∀ x0, Keeps r (resampleRing s x0) := by
  intro x0
  unfold resampleRing
  repeat' first
    | with_reducible assumption | intro _ | with_reducible exact Keeps.refl _ | with_reducible apply keeps_updEntry
    | with_reducible apply Keeps.ite | with_reducible apply Keeps.ite_fst | with_reducible apply Keeps.foldl

theorem keeps_gateStageDone {r s : State} (h : Keeps r s) : Keeps r (gateStageDone s) := by
  unfold gateStageDone
  repeat' first
    | with_reducible assumption | intro _ | with_reducible exact Keeps.refl _ | with_reducible apply keeps_assembleRing
    | with_reducible apply keeps_flushGroup | with_reducible apply keeps_resampleRing | with_reducible apply keeps_publishGcount
    | with_reducible apply Keeps.ite | with_reducible apply Keeps.ite_fst | with_reducible apply Keeps.foldl

theorem keeps_holdRing {r s : State} (h : Keeps r s) : ∀ x0 x1, Keeps r (holdRing s x0 x1) := by
  intro x0 x1
  unfold holdRing
  repeat' first
    | with_reducible assumption | intro _ | with_reducible exact Keeps.refl _ | with_reducible apply keeps_updEntry
    | with_reducible apply Keeps.ite | with_reducible apply Keeps.ite_fst | with_reducible apply Keeps.foldl

theorem keeps_ovrLimit {r s : State} (h : Keeps r s) : ∀ x0, Keeps r (ovrLimit s x0) := by
  intro x0
  unfold ovrLimit
  repeat' first
    | with_reducible assumption | intro _ | with_reducible exact Keeps.refl _ | with_reducible apply keeps_updRing
    | with_reducible apply keeps_raise | with_reducible apply keeps_orIn | with_reducible apply Keeps.ite

theorem keeps_setupRing {r s : State} (h : Keeps r s) : ∀ x0 x1, Keeps r (setupRing s x0 x1) := by
  intro x0 x1
  unfold setupRing
  repeat' first
    | with_reducible assumption | intro _ | with_reducible exact Keeps.refl _ | with_reducible apply keeps_updRing
    | with_reducible apply keeps_ovrLimit | with_reducible apply keeps_raise | with_reducible apply keeps_holdRing
    | with_reducible apply keeps_resampleRing | with_reducible apply Keeps.ite

theorem keeps_blockRing {r s : State} (h : Keeps r s) : ∀ x0, Keeps r (blockRing s x0) := by
  intro x0
  unfold blockRing
  repeat' first
    | with_reducible assumption | intro _ | with_reducible exact Keeps.refl _ | with_reducible apply keeps_updEntry
    | with_reducible apply Keeps.ite | with_reducible apply Keeps.ite_fst | with_reducible apply Keeps.foldl

theorem keeps_clearOvr {r s : State} (h : Keeps r s) : ∀ x0 x1, Keeps r (clearOvr s x0 x1) := by
  intro x0 x1
  unfold clearOvr
  repeat' first
    | with_reducible assumption | intro _ | with_reducible exact Keeps.refl _ | with_reducible apply keeps_wr
    | with_reducible apply keeps_updRing | with_reducible apply Keeps.ite | with_reducible apply Keeps.ite_fst
    | with_reducible apply Keeps.foldl | with_reducible apply Keeps.foldl_fst | with_reducible apply Keeps.forN

theorem keeps_mgmtComplete {r s : State} (h : Keeps r s) : ∀ x0 x1 x2 x3, Keeps r (mgmtComplete s x0 x1 x2 x3) := by
  intro x0 x1 x2 x3
  unfold mgmtComplete
  repeat' first
    | with_reducible assumption | intro _ | with_reducible exact Keeps.refl _ | with_reducible apply keeps_updRing
    | with_reducible apply keeps_raiseIf | with_reducible apply keeps_updEntry | with_reducible apply Keeps.ite
    | with_reducible apply Keeps.ite_fst | with_reducible apply Keeps.foldl | with_reducible apply Keeps.foldl_fst
    | with_reducible apply Keeps.forN | with_reducible refine Keeps.of_pair (by assumption) ?_
    | with_reducible refine Keeps.of_pair' (by assumption) ?_ | fail_if_no_progress with_reducible apply Keeps.lit | split
    | dsimp only

theorem keeps_mgmtNoack {r s : State} (h : Keeps r s) : ∀ x0, Keeps r (mgmtNoack s x0) := by
  intro x0
  unfold mgmtNoack
  repeat' first
    | with_reducible assumption | intro _ | with_reducible exact Keeps.refl _ | with_reducible apply keeps_mgmtComplete
    | with_reducible apply Keeps.ite

theorem keeps_updateBreak {r s : State} (h : Keeps r s) : ∀ x0 x1, Keeps r (updateBreak s x0 x1) := by
  intro x0 x1
  unfold updateBreak
  repeat' first
    | with_reducible assumption | intro _ | with_reducible exact Keeps.refl _ | with_reducible apply keeps_raise
    | with_reducible apply keeps_wr | with_reducible apply keeps_clear | with_reducible apply Keeps.ite
    | with_reducible apply Keeps.ite_fst | with_reducible apply Keeps.foldl | with_reducible apply Keeps.foldl_fst
    | with_reducible apply Keeps.forN | with_reducible refine Keeps.of_pair (by assumption) ?_
    | with_reducible refine Keeps.of_pair' (by assumption) ?_ | fail_if_no_progress with_reducible apply Keeps.lit | split

theorem keeps_supplyCell {r s : State} (h : Keeps r s) : ∀ x0 x1 x2 x3, Keeps r (supplyCell s x0 x1 x2 x3) := by
  intro x0 x1 x2 x3
  unfold supplyCell
  repeat' first
    | with_reducible assumption | intro _ | with_reducible exact Keeps.refl _ | with_reducible apply keeps_updRing
    | with_reducible apply keeps_orIn | with_reducible apply keeps_processCell | with_reducible apply Keeps.ite

theorem keeps_heldSupply {r s : State} (h : Keeps r s) : ∀ x0 x1 x2 x3, Keeps r (heldSupply s x0 x1 x2 x3) := by
  intro x0 x1 x2 x3
  unfold heldSupply
  repeat' first
    | with_reducible assumption | intro _ | with_reducible exact Keeps.refl _ | with_reducible apply keeps_orIn
    | with_reducible apply keeps_updRing | with_reducible apply Keeps.ite

theorem keeps_ringAccept {r s : State} (h : Keeps r s) : ∀ x0 x1 x2, Keeps r (ringAccept s x0 x1 x2) := by
  intro x0 x1 x2
  unfold ringAccept
  repeat' first
    | with_reducible assumption | intro _ | with_reducible exact Keeps.refl _ | with_reducible apply keeps_updRing
    | with_reducible apply keeps_wr | with_reducible apply keeps_clear | with_reducible apply keeps_count
    | with_reducible apply keeps_updateBreak | with_reducible apply keeps_mgmtComplete | with_reducible apply keeps_heldSupply
    | with_reducible apply keeps_supplyCell | with_reducible apply Keeps.ite | with_reducible apply Keeps.ite_fst
    | with_reducible apply Keeps.foldl | with_reducible apply Keeps.foldl_fst | with_reducible apply Keeps.forN
    | with_reducible refine Keeps.of_pair (by assumption) ?_ | with_reducible refine Keeps.of_pair' (by assumption) ?_
    | fail_if_no_progress with_reducible apply Keeps.lit

theorem keeps_ringReceive {r s : State} (h : Keeps r s) : ∀ x0 x1 x2, Keeps r (ringReceive s x0 x1 x2) := by
  intro x0 x1 x2
  unfold ringReceive
  repeat' first
    | with_reducible assumption | intro _ | with_reducible exact Keeps.refl _ | with_reducible apply keeps_toEdge
    | with_reducible apply keeps_count | with_reducible apply keeps_raise | with_reducible apply keeps_ringAccept
    | with_reducible apply Keeps.ite | with_reducible apply Keeps.ite_fst | with_reducible apply Keeps.foldl
    | with_reducible apply Keeps.foldl_fst | with_reducible apply Keeps.forN
    | with_reducible refine Keeps.of_pair (by assumption) ?_ | with_reducible refine Keeps.of_pair' (by assumption) ?_
    | fail_if_no_progress with_reducible apply Keeps.lit | split

theorem keeps_ringStale {r s : State} (h : Keeps r s) : ∀ x0, Keeps r (ringStale s x0) := by
  intro x0
  unfold ringStale
  repeat' first
    | with_reducible assumption | intro _ | with_reducible exact Keeps.refl _ | with_reducible apply keeps_raiseIf

theorem keeps_ringLost {r s : State} (h : Keeps r s) : ∀ x0, Keeps r (ringLost s x0) := by
  intro x0
  unfold ringLost
  repeat' first
    | with_reducible assumption | intro _ | with_reducible exact Keeps.refl _ | with_reducible apply keeps_updEntry
    | with_reducible apply keeps_raise | with_reducible apply Keeps.ite | with_reducible apply Keeps.ite_fst
    | with_reducible apply Keeps.foldl | with_reducible apply Keeps.foldl_fst | with_reducible apply Keeps.forN

theorem keeps_ringMissed {r s : State} (h : Keeps r s) : ∀ x0, Keeps r (ringMissed s x0) := by
  intro x0
  unfold ringMissed
  repeat' first
    | with_reducible assumption | intro _ | with_reducible exact Keeps.refl _ | with_reducible apply keeps_updRing
    | with_reducible apply keeps_raise | with_reducible apply keeps_ringLost | with_reducible apply keeps_ringStale
    | with_reducible apply Keeps.ite | with_reducible apply Keeps.ite_fst | with_reducible apply Keeps.foldl
    | with_reducible apply Keeps.foldl_fst | with_reducible apply Keeps.forN
    | with_reducible refine Keeps.of_pair (by assumption) ?_ | with_reducible refine Keeps.of_pair' (by assumption) ?_
    | fail_if_no_progress with_reducible apply Keeps.lit

theorem keeps_holdRest {r s : State} (h : Keeps r s) : ∀ x0, Keeps r (holdRest s x0) := by
  intro x0
  unfold holdRest
  repeat' first
    | with_reducible assumption | intro _ | with_reducible exact Keeps.refl _ | with_reducible apply keeps_supplyCell
    | with_reducible apply keeps_updRing | with_reducible apply keeps_raise | with_reducible apply keeps_processCell
    | with_reducible apply Keeps.ite | with_reducible apply Keeps.ite_fst | with_reducible apply Keeps.foldl
    | with_reducible apply Keeps.foldl_fst | with_reducible apply Keeps.forN
    | with_reducible refine Keeps.of_pair (by assumption) ?_ | with_reducible refine Keeps.of_pair' (by assumption) ?_
    | fail_if_no_progress with_reducible apply Keeps.lit | split

theorem keeps_mgmtPush {r s : State} (h : Keeps r s) : ∀ x0 x1, Keeps r (mgmtPush s x0 x1) := by
  intro x0 x1
  unfold mgmtPush
  repeat' first
    | with_reducible assumption | intro _ | with_reducible exact Keeps.refl _ | with_reducible apply keeps_refuse
    | with_reducible apply keeps_answer | with_reducible apply keeps_updRing | with_reducible apply Keeps.ite

theorem keeps_mgmtPop {r s : State} (h : Keeps r s) : ∀ x0, Keeps r (mgmtPop s x0) := by
  intro x0
  unfold mgmtPop
  repeat' first
    | with_reducible assumption | intro _ | with_reducible exact Keeps.refl _ | with_reducible apply keeps_answer
    | with_reducible apply keeps_updRing | with_reducible apply Keeps.ite | with_reducible apply Keeps.ite_fst
    | with_reducible apply Keeps.foldl | with_reducible apply Keeps.foldl_fst | with_reducible apply Keeps.forN
    | with_reducible refine Keeps.of_pair (by assumption) ?_ | with_reducible refine Keeps.of_pair' (by assumption) ?_
    | fail_if_no_progress with_reducible apply Keeps.lit | split

theorem keeps_updTrip {r s : State} (h : Keeps r s) : ∀ x0, Keeps r (State.updTrip s x0) := by
  intro x0
  unfold State.updTrip
  repeat' first
    | with_reducible assumption | intro _ | with_reducible exact Keeps.refl _ | with_reducible apply Keeps.ite
    | with_reducible apply Keeps.ite_fst | with_reducible apply Keeps.foldl | with_reducible apply Keeps.foldl_fst
    | with_reducible apply Keeps.forN | with_reducible refine Keeps.of_pair (by assumption) ?_
    | with_reducible refine Keeps.of_pair' (by assumption) ?_ | fail_if_no_progress with_reducible apply Keeps.lit

theorem keeps_tripStatus {r s : State} (h : Keeps r s) : Keeps r (tripStatus s) := by
  unfold tripStatus
  repeat' first
    | with_reducible assumption | intro _ | with_reducible exact Keeps.refl _ | with_reducible apply keeps_wr

theorem keeps_pushTrip {r s : State} (h : Keeps r s) : ∀ x0 x1, Keeps r (pushTrip s x0 x1) := by
  intro x0 x1
  unfold pushTrip
  repeat' first
    | with_reducible assumption | intro _ | with_reducible exact Keeps.refl _ | with_reducible apply keeps_updTrip
    | with_reducible apply keeps_raise | with_reducible apply keeps_tripStatus | with_reducible apply Keeps.ite

theorem keeps_regroup {r s : State} (h : Keeps r s) : ∀ x0, Keeps r (regroup s x0) := by
  intro x0
  unfold regroup
  repeat' first
    | with_reducible assumption | intro _ | with_reducible exact Keeps.refl _ | with_reducible apply keeps_pushEvt
    | with_reducible apply Keeps.ite | with_reducible apply Keeps.ite_fst | with_reducible apply Keeps.foldl
    | with_reducible apply Keeps.foldl_fst | with_reducible apply Keeps.forN
    | with_reducible refine Keeps.of_pair (by assumption) ?_ | with_reducible refine Keeps.of_pair' (by assumption) ?_
    | fail_if_no_progress with_reducible apply Keeps.lit

theorem keeps_groupRequests {r s : State} (h : Keeps r s) : ∀ x0 x1 x2, Keeps r (groupRequests s x0 x1 x2) := by
  intro x0 x1 x2
  unfold groupRequests
  repeat' first
    | with_reducible assumption | intro _ | with_reducible exact Keeps.refl _ | with_reducible apply keeps_pushEvt
    | with_reducible apply keeps_setArmLatch | with_reducible apply keeps_raiseIf | with_reducible apply keeps_setArmLatches
    | with_reducible apply keeps_regroup | with_reducible apply Keeps.ite | with_reducible apply Keeps.ite_fst
    | with_reducible apply Keeps.foldl | with_reducible apply Keeps.foldl_fst | with_reducible apply Keeps.forN
    | with_reducible refine Keeps.of_pair (by assumption) ?_ | with_reducible refine Keeps.of_pair' (by assumption) ?_
    | fail_if_no_progress with_reducible apply Keeps.lit | split

theorem keeps_armRequests {r s : State} (h : Keeps r s) : ∀ x0 x1, Keeps r (armRequests s x0 x1) := by
  intro x0 x1
  unfold armRequests
  repeat' first
    | with_reducible assumption | intro _ | with_reducible exact Keeps.refl _ | with_reducible apply keeps_updTrip
    | with_reducible apply keeps_wr | with_reducible apply keeps_groupRequests | with_reducible apply Keeps.ite

theorem keeps_tripUpdate {r s : State} (h : Keeps r s) : ∀ x0, Keeps r (tripUpdate s x0) := by
  intro x0
  unfold tripUpdate
  repeat' first
    | with_reducible assumption | intro _ | with_reducible exact Keeps.refl _ | with_reducible apply keeps_updTrip
    | with_reducible apply keeps_pushTrip | with_reducible apply keeps_raise | with_reducible apply keeps_pwmTrip
    | with_reducible apply keeps_armRequests | with_reducible apply Keeps.ite | with_reducible apply Keeps.ite_fst
    | with_reducible apply Keeps.foldl | with_reducible apply Keeps.foldl_fst | with_reducible apply Keeps.forN

theorem keeps_tripAssert {r s : State} (h : Keeps r s) : ∀ x0 x1 x2, Keeps r (tripAssert s x0 x1 x2) := by
  intro x0 x1 x2
  unfold tripAssert
  repeat' first
    | with_reducible assumption | intro _ | with_reducible exact Keeps.refl _ | with_reducible apply keeps_tripUpdate
    | with_reducible apply keeps_wr

theorem keeps_tripDeassert {r s : State} (h : Keeps r s) : ∀ x0 x1 x2, Keeps r (tripDeassert s x0 x1 x2) := by
  intro x0 x1 x2
  unfold tripDeassert
  repeat' first
    | with_reducible assumption | intro _ | with_reducible exact Keeps.refl _ | with_reducible apply keeps_tripUpdate
    | with_reducible apply keeps_wr

theorem keeps_tevtLatch {r s : State} (h : Keeps r s) : Keeps r (tevtLatch s).1 := by
  unfold tevtLatch
  repeat' first
    | with_reducible assumption | intro _ | with_reducible exact Keeps.refl _ | with_reducible apply keeps_updTrip
    | with_reducible apply Keeps.ite | with_reducible apply Keeps.ite_fst | with_reducible apply Keeps.foldl
    | with_reducible apply Keeps.foldl_fst | with_reducible apply Keeps.forN
    | with_reducible refine Keeps.of_pair (by assumption) ?_ | with_reducible refine Keeps.of_pair' (by assumption) ?_
    | fail_if_no_progress with_reducible apply Keeps.lit | split

theorem keeps_tevtPop {r s : State} (h : Keeps r s) : Keeps r (tevtPop s).1 := by
  unfold tevtPop
  repeat' first
    | with_reducible assumption | intro _ | with_reducible exact Keeps.refl _ | with_reducible apply keeps_updTrip
    | with_reducible apply keeps_tripStatus | with_reducible apply Keeps.ite | with_reducible apply Keeps.ite_fst
    | with_reducible apply Keeps.foldl | with_reducible apply Keeps.foldl_fst | with_reducible apply Keeps.forN
    | with_reducible refine Keeps.of_pair (by assumption) ?_ | with_reducible refine Keeps.of_pair' (by assumption) ?_
    | fail_if_no_progress with_reducible apply Keeps.lit | split

theorem keeps_drvLevels {r s : State} (h : Keeps r s) : Keeps r (drvLevels s) := by
  unfold drvLevels
  repeat' first
    | with_reducible assumption | intro _ | with_reducible exact Keeps.refl _ | with_reducible apply keeps_wr

theorem keeps_drvPush {r s : State} (h : Keeps r s) : ∀ x0, Keeps r (drvPush s x0) := by
  intro x0
  unfold drvPush
  repeat' first
    | with_reducible assumption | intro _ | with_reducible exact Keeps.refl _ | with_reducible apply keeps_drvLevels
    | with_reducible apply keeps_updTrip

theorem keeps_drvStart {r s : State} (h : Keeps r s) : Keeps r (drvStart s) := by
  unfold drvStart
  repeat' first
    | with_reducible assumption | intro _ | with_reducible exact Keeps.refl _ | with_reducible apply keeps_drvLevels
    | with_reducible apply keeps_updTrip | with_reducible apply Keeps.ite | with_reducible apply Keeps.ite_fst
    | with_reducible apply Keeps.foldl | with_reducible apply Keeps.foldl_fst | with_reducible apply Keeps.forN
    | with_reducible refine Keeps.of_pair (by assumption) ?_ | with_reducible refine Keeps.of_pair' (by assumption) ?_
    | fail_if_no_progress with_reducible apply Keeps.lit | split

theorem keeps_drvEnd {r s : State} (h : Keeps r s) : ∀ x0, Keeps r (drvEnd s x0) := by
  intro x0
  unfold drvEnd
  repeat' first
    | with_reducible assumption | intro _ | with_reducible exact Keeps.refl _ | with_reducible apply keeps_toEdge
    | with_reducible apply keeps_updTrip | with_reducible apply keeps_wr | with_reducible apply keeps_raise
    | with_reducible apply keeps_drvLevels | with_reducible apply Keeps.ite | with_reducible apply Keeps.ite_fst
    | with_reducible apply Keeps.foldl | with_reducible apply Keeps.foldl_fst | with_reducible apply Keeps.forN
    | with_reducible refine Keeps.of_pair (by assumption) ?_ | with_reducible refine Keeps.of_pair' (by assumption) ?_
    | fail_if_no_progress with_reducible apply Keeps.lit | split

theorem keeps_drvPop {r s : State} (h : Keeps r s) : Keeps r (drvPop s).1 := by
  unfold drvPop
  repeat' first
    | with_reducible assumption | intro _ | with_reducible exact Keeps.refl _ | with_reducible apply keeps_drvLevels
    | with_reducible apply keeps_updTrip | with_reducible apply Keeps.ite | with_reducible apply Keeps.ite_fst
    | with_reducible apply Keeps.foldl | with_reducible apply Keeps.foldl_fst | with_reducible apply Keeps.forN
    | with_reducible refine Keeps.of_pair (by assumption) ?_ | with_reducible refine Keeps.of_pair' (by assumption) ?_
    | fail_if_no_progress with_reducible apply Keeps.lit | split

theorem keeps_tripEffect {r s : State} (h : Keeps r s) : ∀ x0 x1, Keeps r (tripEffect s x0 x1) := by
  intro x0 x1
  unfold tripEffect
  repeat' first
    | with_reducible assumption | intro _ | with_reducible exact Keeps.refl _ | with_reducible apply keeps_pwmGload
    | with_reducible apply keeps_updTrip | with_reducible apply keeps_tripUpdate | with_reducible apply keeps_drvPush
    | with_reducible apply Keeps.ite

theorem keeps_updFilt {r s : State} (h : Keeps r s) : ∀ x0 x1, Keeps r (State.updFilt s x0 x1) := by
  intro x0 x1
  unfold State.updFilt
  repeat' first
    | with_reducible assumption | intro _ | with_reducible exact Keeps.refl _ | with_reducible apply Keeps.ite
    | with_reducible apply Keeps.ite_fst | with_reducible apply Keeps.foldl | with_reducible apply Keeps.foldl_fst
    | with_reducible apply Keeps.forN | with_reducible refine Keeps.of_pair (by assumption) ?_
    | with_reducible refine Keeps.of_pair' (by assumption) ?_ | fail_if_no_progress with_reducible apply Keeps.lit

theorem keeps_updEng {r s : State} (h : Keeps r s) : ∀ x0, Keeps r (State.updEng s x0) := by
  intro x0
  unfold State.updEng
  repeat' first
    | with_reducible assumption | intro _ | with_reducible exact Keeps.refl _ | with_reducible apply Keeps.ite
    | with_reducible apply Keeps.ite_fst | with_reducible apply Keeps.foldl | with_reducible apply Keeps.foldl_fst
    | with_reducible apply Keeps.forN | with_reducible refine Keeps.of_pair (by assumption) ?_
    | with_reducible refine Keeps.of_pair' (by assumption) ?_ | fail_if_no_progress with_reducible apply Keeps.lit

theorem keeps_coefWrite {r s : State} (h : Keeps r s) : ∀ x0 x1 x2, Keeps r (coefWrite s x0 x1 x2) := by
  intro x0 x1 x2
  unfold coefWrite
  repeat' first
    | with_reducible assumption | intro _ | with_reducible exact Keeps.refl _ | with_reducible apply keeps_answer
    | with_reducible apply keeps_recordErr | with_reducible apply keeps_updEng | with_reducible apply Keeps.ite

theorem keeps_filtArrive {r s : State} (h : Keeps r s) : ∀ x0 x1, Keeps r (filtArrive s x0 x1) := by
  intro x0 x1
  unfold filtArrive
  repeat' first
    | with_reducible assumption | intro _ | with_reducible exact Keeps.refl _ | with_reducible apply keeps_updFilt
    | with_reducible apply keeps_raise | with_reducible apply keeps_updEng | with_reducible apply Keeps.ite

theorem keeps_filtSample {r s : State} (h : Keeps r s) : ∀ x0, Keeps r (filtSample s x0) := by
  intro x0
  unfold filtSample
  repeat' first
    | with_reducible assumption | intro _ | with_reducible exact Keeps.refl _ | with_reducible apply keeps_filtArrive
    | with_reducible apply keeps_updFilt | with_reducible apply keeps_toEdge | with_reducible apply Keeps.ite
    | with_reducible apply Keeps.ite_fst | with_reducible apply Keeps.foldl | with_reducible apply Keeps.foldl_fst
    | with_reducible apply Keeps.forN | with_reducible refine Keeps.of_pair (by assumption) ?_
    | with_reducible refine Keeps.of_pair' (by assumption) ?_ | fail_if_no_progress with_reducible apply Keeps.lit | split

theorem keeps_filtOffer {r s : State} (h : Keeps r s) : ∀ x0 x1 x2 x3 x4 x5 x6, Keeps r (filtOffer s x0 x1 x2 x3 x4 x5 x6) := by
  intro x0 x1 x2 x3 x4 x5 x6
  unfold filtOffer
  repeat' first
    | with_reducible assumption | intro _ | with_reducible exact Keeps.refl _ | with_reducible apply keeps_raiseIf
    | with_reducible apply keeps_updFilt | with_reducible apply Keeps.ite | with_reducible apply Keeps.ite_fst
    | with_reducible apply Keeps.foldl | with_reducible apply Keeps.foldl_fst | with_reducible apply Keeps.forN

theorem keeps_filtBoundary {r s : State} (h : Keeps r s) : ∀ x0 x1, Keeps r (filtBoundary s x0 x1) := by
  intro x0 x1
  unfold filtBoundary
  repeat' first
    | with_reducible assumption | intro _ | with_reducible exact Keeps.refl _ | with_reducible apply keeps_updFilt
    | with_reducible apply keeps_wr | with_reducible apply keeps_clear | with_reducible apply keeps_raise
    | with_reducible apply Keeps.ite

theorem keeps_filtJobStart {r s : State} (h : Keeps r s) : Keeps r (filtJobStart s) := by
  unfold filtJobStart
  repeat' first
    | with_reducible assumption | intro _ | with_reducible exact Keeps.refl _ | with_reducible apply keeps_updEng
    | with_reducible apply keeps_toEdge | with_reducible apply keeps_updFilt | with_reducible apply keeps_filtBoundary
    | with_reducible apply Keeps.ite | with_reducible apply Keeps.ite_fst | with_reducible apply Keeps.foldl
    | with_reducible apply Keeps.foldl_fst | with_reducible apply Keeps.forN
    | with_reducible refine Keeps.of_pair (by assumption) ?_ | with_reducible refine Keeps.of_pair' (by assumption) ?_
    | fail_if_no_progress with_reducible apply Keeps.lit | split

theorem keeps_filtThreshold {r s : State} (h : Keeps r s) : ∀ x0 x1, Keeps r (filtThreshold s x0 x1) := by
  intro x0 x1
  unfold filtThreshold
  repeat' first
    | with_reducible assumption | intro _ | with_reducible exact Keeps.refl _ | with_reducible apply keeps_wr
    | with_reducible apply keeps_raiseIf | with_reducible apply keeps_tripUpdate

theorem keeps_filtJobEnd {r s : State} (h : Keeps r s) : Keeps r (filtJobEnd s) := by
  unfold filtJobEnd
  repeat' first
    | with_reducible assumption | intro _ | with_reducible exact Keeps.refl _ | with_reducible apply keeps_updEng
    | with_reducible apply keeps_toEdge | with_reducible apply keeps_ocKeep | with_reducible apply keeps_ocSource
    | with_reducible apply keeps_raise | with_reducible apply keeps_wr | with_reducible apply keeps_count
    | with_reducible apply keeps_raiseIf | with_reducible apply keeps_clear | with_reducible apply keeps_engineStore
    | with_reducible apply keeps_filtThreshold | with_reducible apply keeps_filtOffer | with_reducible apply Keeps.ite
    | with_reducible apply Keeps.ite_fst | with_reducible apply Keeps.foldl | with_reducible apply Keeps.foldl_fst
    | with_reducible apply Keeps.forN | with_reducible refine Keeps.of_pair (by assumption) ?_
    | with_reducible refine Keeps.of_pair' (by assumption) ?_ | fail_if_no_progress with_reducible apply Keeps.lit | split

theorem keeps_filtTimeout {r s : State} (h : Keeps r s) : ∀ x0, Keeps r (filtTimeout s x0) := by
  intro x0
  unfold filtTimeout
  repeat' first
    | with_reducible assumption | intro _ | with_reducible exact Keeps.refl _ | with_reducible apply keeps_toEdge
    | with_reducible apply keeps_ocKeep | with_reducible apply keeps_updFilt | with_reducible apply keeps_raise
    | with_reducible apply keeps_wr | with_reducible apply Keeps.ite

theorem keeps_filtEnable {r s : State} (h : Keeps r s) : ∀ x0, Keeps r (filtEnable s x0) := by
  intro x0
  unfold filtEnable
  repeat' first
    | with_reducible assumption | intro _ | with_reducible exact Keeps.refl _ | with_reducible apply keeps_updFilt
    | with_reducible apply keeps_clear | with_reducible apply keeps_updEng | with_reducible apply Keeps.ite

theorem keeps_filtSwap {r s : State} (h : Keeps r s) : ∀ x0, Keeps r (filtSwap s x0) := by
  intro x0
  unfold filtSwap
  repeat' first
    | with_reducible assumption | intro _ | with_reducible exact Keeps.refl _ | with_reducible apply keeps_updFilt
    | with_reducible apply keeps_raise

theorem keeps_filtPreset {r s : State} (h : Keeps r s) : ∀ x0, Keeps r (filtPreset s x0) := by
  intro x0
  unfold filtPreset
  repeat' first
    | with_reducible assumption | intro _ | with_reducible exact Keeps.refl _ | with_reducible apply keeps_updFilt

theorem keeps_filtEffect {r s : State} (h : Keeps r s) : ∀ x0 x1 x2, Keeps r (filtEffect s x0 x1 x2) := by
  intro x0 x1 x2
  unfold filtEffect
  repeat' first
    | with_reducible assumption | intro _ | with_reducible exact Keeps.refl _ | with_reducible apply keeps_filtEnable
    | with_reducible apply keeps_filtSwap | with_reducible apply keeps_filtPreset | with_reducible apply keeps_filtArrive
    | with_reducible apply Keeps.ite | with_reducible apply Keeps.ite_fst | with_reducible apply Keeps.foldl
    | with_reducible apply Keeps.foldl_fst | with_reducible apply Keeps.forN
    | with_reducible refine Keeps.of_pair (by assumption) ?_ | with_reducible refine Keeps.of_pair' (by assumption) ?_
    | fail_if_no_progress with_reducible apply Keeps.lit | split

theorem keeps_spillGranule {r s : State} (h : Keeps r s) : ∀ x0 x1, Keeps r (spillGranule s x0 x1) := by
  intro x0 x1
  unfold spillGranule
  repeat' first
    | with_reducible assumption | intro _ | with_reducible exact Keeps.refl _ | with_reducible apply keeps_storeBytes
    | with_reducible apply keeps_setQueue

theorem keeps_queueSettle {r s : State} (h : Keeps r s) : ∀ n k, Keeps r (queueSettle n s k) := by
  intro n k
  induction n generalizing s with
  | zero => exact h
  | succ n ih =>
    unfold queueSettle
    dsimp only
    split
    · exact ih (keeps_setQueue h _ _)
    · split
      · exact ih (keeps_spillGranule h _ _)
      · exact h

theorem keeps_queueFlush {r s : State} (h : Keeps r s) : ∀ x0, Keeps r (queueFlush s x0) := by
  intro x0
  unfold queueFlush
  repeat' first
    | with_reducible assumption | intro _ | with_reducible exact Keeps.refl _ | with_reducible apply keeps_spillGranule
    | with_reducible apply keeps_setQueue | with_reducible apply Keeps.ite | with_reducible apply Keeps.ite_fst
    | with_reducible apply Keeps.foldl | with_reducible apply Keeps.foldl_fst | with_reducible apply Keeps.forN

theorem keeps_queueSince {r s : State} (h : Keeps r s) : ∀ x0, Keeps r (queueSince s x0) := by
  intro x0
  unfold queueSince
  repeat' first
    | with_reducible assumption | intro _ | with_reducible exact Keeps.refl _ | with_reducible apply keeps_setQueue

theorem keeps_queueUpdate {r s : State} (h : Keeps r s) : ∀ x0, Keeps r (queueUpdate s x0) := by
  intro x0
  unfold queueUpdate
  repeat' first
    | with_reducible assumption | intro _ | with_reducible exact Keeps.refl _ | with_reducible apply keeps_queueStatus
    | with_reducible apply keeps_queueSince | with_reducible apply keeps_queueFlush | with_reducible apply keeps_queueSettle

theorem keeps_queueAbort {r s : State} (h : Keeps r s) : ∀ x0, Keeps r (queueAbort s x0) := by
  intro x0
  unfold queueAbort
  repeat' first
    | with_reducible assumption | intro _ | with_reducible exact Keeps.refl _ | with_reducible apply keeps_setQueue
    | with_reducible apply keeps_queueUpdate | with_reducible apply keeps_raise

theorem keeps_queuePut {r s : State} (h : Keeps r s) : ∀ x0 x1 x2 x3, Keeps r (queuePut s x0 x1 x2 x3) := by
  intro x0 x1 x2 x3
  unfold queuePut
  repeat' first
    | with_reducible assumption | intro _ | with_reducible exact Keeps.refl _ | with_reducible apply keeps_setQueue
    | with_reducible apply keeps_queueUpdate | with_reducible apply Keeps.ite

theorem keeps_queueVisible {r s : State} (h : Keeps r s) : ∀ x0, Keeps r (queueVisible s x0) := by
  intro x0
  unfold queueVisible
  repeat' first
    | with_reducible assumption | intro _ | with_reducible exact Keeps.refl _ | with_reducible apply keeps_setQueue

theorem keeps_packetVisible {r s : State} (h : Keeps r s) : ∀ x0, Keeps r (packetVisible s x0) := by
  intro x0
  unfold packetVisible
  repeat' first
    | with_reducible assumption | intro _ | with_reducible exact Keeps.refl _ | with_reducible apply keeps_queueVisible
    | with_reducible apply keeps_toEdge | with_reducible apply Keeps.ite | with_reducible apply Keeps.ite_fst
    | with_reducible apply Keeps.foldl | with_reducible apply Keeps.foldl_fst | with_reducible apply Keeps.forN
    | with_reducible refine Keeps.of_pair (by assumption) ?_ | with_reducible refine Keeps.of_pair' (by assumption) ?_
    | fail_if_no_progress with_reducible apply Keeps.lit | split

theorem keeps_queuePacket_go {r s : State} (h : Keeps r s) : ∀ k ws, Keeps r (queuePacket.go k s ws).1 := by
  intro k ws
  induction ws generalizing s with
  | nil => exact h
  | cons w t ih =>
    unfold queuePacket.go
    split
    · exact keeps_raise (keeps_count (keeps_queueAbort h _) _ _ _ _) _ _ _
    · exact ih (keeps_queuePut h _ _ _ _)

theorem keeps_queuePacket {r s : State} (h : Keeps r s) : ∀ x0 x1 x2, Keeps r (queuePacket s x0 x1 x2).1 := by
  intro x0 x1 x2
  unfold queuePacket
  repeat' first
    | with_reducible assumption | intro _ | with_reducible exact Keeps.refl _ | with_reducible apply keeps_recordErr
    | with_reducible apply keeps_queuePacket_go | with_reducible apply Keeps.ite | with_reducible apply Keeps.ite_fst

theorem keeps_packetBroken {r s : State} (h : Keeps r s) : ∀ x0 x1, Keeps r (packetBroken s x0 x1) := by
  intro x0 x1
  unfold packetBroken
  repeat' first
    | with_reducible assumption | intro _ | with_reducible exact Keeps.refl _ | with_reducible apply keeps_queueAbort
    | with_reducible apply Keeps.ite

theorem keeps_queuePush {r s : State} (h : Keeps r s) : ∀ x0 x1, Keeps r (queuePush s x0 x1) := by
  intro x0 x1
  unfold queuePush
  repeat' first
    | with_reducible assumption | intro _ | with_reducible exact Keeps.refl _ | with_reducible apply keeps_queuePut

theorem keeps_queuePopTag {r s : State} (h : Keeps r s) : ∀ x0, Keeps r (queuePopTag s x0).1 := by
  intro x0
  unfold queuePopTag
  repeat' first
    | with_reducible assumption | intro _ | with_reducible exact Keeps.refl _ | with_reducible apply keeps_queueVisible
    | with_reducible apply keeps_setQueue | with_reducible apply Keeps.ite | with_reducible apply Keeps.ite_fst
    | with_reducible apply Keeps.foldl | with_reducible apply Keeps.foldl_fst | with_reducible apply Keeps.forN
    | with_reducible refine Keeps.of_pair (by assumption) ?_ | with_reducible refine Keeps.of_pair' (by assumption) ?_
    | fail_if_no_progress with_reducible apply Keeps.lit | split | dsimp only

theorem keeps_queuePopHi {r s : State} (h : Keeps r s) : ∀ x0, Keeps r (queuePopHi s x0).1 := by
  intro x0
  unfold queuePopHi
  repeat' first
    | with_reducible assumption | intro _ | with_reducible exact Keeps.refl _ | with_reducible apply keeps_setQueue
    | with_reducible apply keeps_queueUpdate | with_reducible apply Keeps.ite | with_reducible apply Keeps.ite_fst
    | with_reducible apply Keeps.foldl | with_reducible apply Keeps.foldl_fst | with_reducible apply Keeps.forN
    | with_reducible refine Keeps.of_pair (by assumption) ?_ | with_reducible refine Keeps.of_pair' (by assumption) ?_
    | fail_if_no_progress with_reducible apply Keeps.lit | split | dsimp only

theorem keeps_spillReadback {r s : State} (h : Keeps r s) : ∀ x0, Keeps r (spillReadback s x0) := by
  intro x0
  unfold spillReadback
  repeat' first
    | with_reducible assumption | intro _ | with_reducible exact Keeps.refl _ | with_reducible apply keeps_decodeLine
    | with_reducible apply keeps_setQueue | with_reducible apply keeps_queueUpdate | with_reducible apply keeps_raise
    | with_reducible apply Keeps.ite | with_reducible apply Keeps.ite_fst | with_reducible apply Keeps.foldl
    | with_reducible apply Keeps.foldl_fst | with_reducible apply Keeps.forN
    | with_reducible refine Keeps.of_pair (by assumption) ?_ | with_reducible refine Keeps.of_pair' (by assumption) ?_
    | fail_if_no_progress with_reducible apply Keeps.lit | split | dsimp only

theorem keeps_queuePopTo {r s : State} (h : Keeps r s) : ∀ k n acc, Keeps r (queuePopTo k n s acc).1 := by
  intro k n acc
  induction n generalizing s acc with
  | zero => exact h
  | succ n ih =>
    unfold queuePopTo
    have h1 : Keeps r (if (s.queue k).head.isEmpty then spillReadback s k else s) := Keeps.ite (keeps_spillReadback h _) h
    generalize (if (s.queue k).head.isEmpty then spillReadback s k else s) = s1 at h1
    dsimp only
    split
    · exact h1
    · split
      · exact keeps_queueUpdate (keeps_setQueue h1 _ _) _
      · exact ih (keeps_queueUpdate (keeps_setQueue h1 _ _) _) _

theorem keeps_queueTake {r s : State} (h : Keeps r s) : ∀ x0, Keeps r (queueTake s x0).1 := by
  intro x0
  unfold queueTake
  repeat' first
    | with_reducible assumption | intro _ | with_reducible exact Keeps.refl _ | with_reducible apply keeps_queueVisible
    | with_reducible apply keeps_setQueue | with_reducible apply keeps_queuePopTo | with_reducible apply keeps_queueUpdate
    | with_reducible apply Keeps.ite | with_reducible apply Keeps.ite_fst

theorem keeps_queueFlushReq {r s : State} (h : Keeps r s) : ∀ x0, Keeps r (queueFlushReq s x0) := by
  intro x0
  unfold queueFlushReq
  repeat' first
    | with_reducible assumption | intro _ | with_reducible exact Keeps.refl _ | with_reducible apply keeps_queueUpdate
    | with_reducible apply keeps_setQueue

theorem keeps_queueAutoFlush {r s : State} (h : Keeps r s) : ∀ x0, Keeps r (queueAutoFlush s x0) := by
  intro x0
  unfold queueAutoFlush
  repeat' first
    | with_reducible assumption | intro _ | with_reducible exact Keeps.refl _ | with_reducible apply keeps_queueFlushReq
    | with_reducible apply keeps_toEdge | with_reducible apply Keeps.ite | with_reducible apply Keeps.ite_fst
    | with_reducible apply Keeps.foldl | with_reducible apply Keeps.foldl_fst | with_reducible apply Keeps.forN
    | with_reducible refine Keeps.of_pair (by assumption) ?_ | with_reducible refine Keeps.of_pair' (by assumption) ?_
    | fail_if_no_progress with_reducible apply Keeps.lit | split

theorem keeps_queueEffect {r s : State} (h : Keeps r s) : ∀ x0 x1 x2, Keeps r (queueEffect s x0 x1 x2) := by
  intro x0 x1 x2
  unfold queueEffect
  repeat' first
    | with_reducible assumption | intro _ | with_reducible exact Keeps.refl _ | with_reducible apply keeps_queueClear
    | with_reducible apply keeps_queueAbort | with_reducible apply keeps_queueFlushReq | with_reducible apply keeps_queueStatus
    | with_reducible apply keeps_setQueue | with_reducible apply keeps_queuePush | with_reducible apply Keeps.ite
    | with_reducible apply Keeps.ite_fst | with_reducible apply Keeps.foldl | with_reducible apply Keeps.foldl_fst
    | with_reducible apply Keeps.forN | with_reducible refine Keeps.of_pair (by assumption) ?_
    | with_reducible refine Keeps.of_pair' (by assumption) ?_ | fail_if_no_progress with_reducible apply Keeps.lit | split

end Sys2Proof.Machine
end

