-- ==== Sys2Proof/Laws/KeepsD.lean ====
section
/-!
SUPPORT. What every operation of Adc.lean, Arm.lean, Ledger.lean keeps (Keeps.lean).
-/
namespace Sys2Proof.Machine

theorem keeps_updAdc {r s : State} (h : Keeps r s) : ∀ x0 x1, Keeps r (State.updAdc s x0 x1) := by
  intro x0 x1
  unfold State.updAdc
  repeat' first
    | with_reducible assumption | intro _ | with_reducible exact Keeps.refl _ | with_reducible apply Keeps.ite
    | with_reducible apply Keeps.ite_fst | with_reducible apply Keeps.foldl | with_reducible apply Keeps.foldl_fst
    | with_reducible apply Keeps.forN | with_reducible refine Keeps.of_pair (by assumption) ?_
    | with_reducible refine Keeps.of_pair' (by assumption) ?_ | fail_if_no_progress with_reducible apply Keeps.lit

theorem keeps_updSv {r s : State} (h : Keeps r s) : ∀ x0 x1, Keeps r (State.updSv s x0 x1) := by
  intro x0 x1
  unfold State.updSv
  repeat' first
    | with_reducible assumption | intro _ | with_reducible exact Keeps.refl _ | with_reducible apply Keeps.ite
    | with_reducible apply Keeps.ite_fst | with_reducible apply Keeps.foldl | with_reducible apply Keeps.foldl_fst
    | with_reducible apply Keeps.forN | with_reducible refine Keeps.of_pair (by assumption) ?_
    | with_reducible refine Keeps.of_pair' (by assumption) ?_ | fail_if_no_progress with_reducible apply Keeps.lit

theorem keeps_adcShow {r s : State} (h : Keeps r s) : ∀ x0, Keeps r (adcShow s x0) := by
  intro x0
  unfold adcShow
  repeat' first
    | with_reducible assumption | intro _ | with_reducible exact Keeps.refl _ | with_reducible apply keeps_wr

theorem keeps_adcArm {r s : State} (h : Keeps r s) : ∀ x0 x1, Keeps r (adcArm s x0 x1) := by
  intro x0 x1
  unfold adcArm
  repeat' first
    | with_reducible assumption | intro _ | with_reducible exact Keeps.refl _ | with_reducible apply keeps_raise
    | with_reducible apply keeps_adcShow | with_reducible apply keeps_updAdc | with_reducible apply Keeps.ite

theorem keeps_adcTrigger {r s : State} (h : Keeps r s) : ∀ x0, Keeps r (adcTrigger s x0) := by
  intro x0
  unfold adcTrigger
  repeat' first
    | with_reducible assumption | intro _ | with_reducible exact Keeps.refl _ | with_reducible apply keeps_adcArm
    | with_reducible apply keeps_updAdc | with_reducible apply Keeps.ite

theorem keeps_adcRunStart {r s : State} (h : Keeps r s) : ∀ x0, Keeps r (adcRunStart s x0) := by
  intro x0
  unfold adcRunStart
  repeat' first
    | with_reducible assumption | intro _ | with_reducible exact Keeps.refl _ | with_reducible apply keeps_toEdge
    | with_reducible apply keeps_adcShow | with_reducible apply keeps_updAdc | with_reducible apply keeps_wr
    | with_reducible apply Keeps.ite | with_reducible apply Keeps.ite_fst | with_reducible apply Keeps.foldl
    | with_reducible apply Keeps.foldl_fst | with_reducible apply Keeps.forN
    | with_reducible refine Keeps.of_pair (by assumption) ?_ | with_reducible refine Keeps.of_pair' (by assumption) ?_
    | fail_if_no_progress with_reducible apply Keeps.lit | split

theorem keeps_adcEndEarly {r s : State} (h : Keeps r s) : ∀ x0, Keeps r (adcEndEarly s x0) := by
  intro x0
  unfold adcEndEarly
  repeat' first
    | with_reducible assumption | intro _ | with_reducible exact Keeps.refl _ | with_reducible apply keeps_wr
    | with_reducible apply keeps_ocKeep | with_reducible apply keeps_adcShow | with_reducible apply keeps_updAdc
    | with_reducible apply keeps_raise | with_reducible apply Keeps.ite | with_reducible apply Keeps.ite_fst
    | with_reducible apply Keeps.foldl | with_reducible apply Keeps.foldl_fst | with_reducible apply Keeps.forN

theorem keeps_adcWindow {r s : State} (h : Keeps r s) : ∀ k e n vs, Keeps r (adcWindow s k e n vs).1 := by
  intro k e n vs
  induction n generalizing s vs with
  | zero => exact h
  | succ n ih => exact ih (keeps_takeFree h) _

theorem keeps_plausCompare {r s : State} (h : Keeps r s) : ∀ x0, Keeps r (plausCompare s x0) := by
  intro x0
  unfold plausCompare
  repeat' first
    | with_reducible assumption | intro _ | with_reducible exact Keeps.refl _ | with_reducible apply keeps_updAdc
    | with_reducible apply keeps_wr | with_reducible apply keeps_raise | with_reducible apply Keeps.ite

theorem keeps_plausFlag {r s : State} (h : Keeps r s) : ∀ x0, Keeps r (plausFlag s x0) := by
  intro x0
  unfold plausFlag
  repeat' first
    | with_reducible assumption | intro _ | with_reducible exact Keeps.refl _ | with_reducible apply keeps_wr
    | with_reducible apply keeps_raise | with_reducible apply Keeps.ite | with_reducible apply Keeps.ite_fst
    | with_reducible apply Keeps.foldl | with_reducible apply Keeps.foldl_fst | with_reducible apply Keeps.forN
    | with_reducible refine Keeps.of_pair (by assumption) ?_ | with_reducible refine Keeps.of_pair' (by assumption) ?_
    | fail_if_no_progress with_reducible apply Keeps.lit | split

theorem keeps_adcDeliver {r s : State} (h : Keeps r s) : ∀ x0 x1 x2 x3 x4 x5, Keeps r (adcDeliver s x0 x1 x2 x3 x4 x5) := by
  intro x0 x1 x2 x3 x4 x5
  unfold adcDeliver
  repeat' first
    | with_reducible assumption | intro _ | with_reducible exact Keeps.refl _ | with_reducible apply keeps_ocKeep
    | with_reducible apply keeps_wr | with_reducible apply keeps_raiseIf | with_reducible apply keeps_engineStore
    | with_reducible apply keeps_plausCompare | with_reducible apply keeps_updAdc | with_reducible apply keeps_filtOffer
    | with_reducible apply Keeps.ite

theorem keeps_measLater {r s : State} (h : Keeps r s) : ∀ x0, Keeps r (measLater s x0) := by
  intro x0
  unfold measLater
  repeat' first
    | with_reducible assumption | intro _ | with_reducible exact Keeps.refl _ | with_reducible apply Keeps.ite
    | with_reducible apply Keeps.ite_fst | with_reducible apply Keeps.foldl | with_reducible apply Keeps.foldl_fst
    | with_reducible apply Keeps.forN | with_reducible refine Keeps.of_pair (by assumption) ?_
    | with_reducible refine Keeps.of_pair' (by assumption) ?_ | fail_if_no_progress with_reducible apply Keeps.lit

theorem keeps_keepResult {r s : State} (h : Keeps r s) : ∀ x0 x1, Keeps r (keepResult s x0 x1) := by
  intro x0 x1
  unfold keepResult
  repeat' first
    | with_reducible assumption | intro _ | with_reducible exact Keeps.refl _ | with_reducible apply Keeps.ite
    | with_reducible apply Keeps.ite_fst | with_reducible apply Keeps.foldl | with_reducible apply Keeps.foldl_fst
    | with_reducible apply Keeps.forN | with_reducible refine Keeps.of_pair (by assumption) ?_
    | with_reducible refine Keeps.of_pair' (by assumption) ?_ | fail_if_no_progress with_reducible apply Keeps.lit

theorem keeps_adcEntryComplete {r s : State} (h : Keeps r s) : ∀ x0 x1, Keeps r (adcEntryComplete s x0 x1) := by
  intro x0 x1
  unfold adcEntryComplete
  repeat' first
    | with_reducible assumption | intro _ | with_reducible exact Keeps.refl _ | with_reducible apply keeps_toEdge
    | with_reducible apply keeps_adcWindow | with_reducible apply keeps_keepResult | with_reducible apply keeps_ocSource
    | with_reducible apply keeps_updAdc | with_reducible apply keeps_measLater | with_reducible apply keeps_adcDeliver
    | with_reducible apply keeps_adcShow | with_reducible apply keeps_count | with_reducible apply keeps_raise
    | with_reducible apply Keeps.ite | with_reducible apply Keeps.ite_fst | with_reducible apply Keeps.foldl
    | with_reducible apply Keeps.foldl_fst | with_reducible apply Keeps.forN
    | with_reducible refine Keeps.of_pair (by assumption) ?_ | with_reducible refine Keeps.of_pair' (by assumption) ?_
    | fail_if_no_progress with_reducible apply Keeps.lit | split

theorem keeps_adcEnable {r s : State} (h : Keeps r s) : ∀ x0, Keeps r (adcEnable s x0) := by
  intro x0
  unfold adcEnable
  repeat' first
    | with_reducible assumption | intro _ | with_reducible exact Keeps.refl _ | with_reducible apply keeps_updAdc
    | with_reducible apply Keeps.ite

theorem keeps_adcEffect {r s : State} (h : Keeps r s) : ∀ x0 x1 x2, Keeps r (adcEffect s x0 x1 x2) := by
  intro x0 x1 x2
  unfold adcEffect
  repeat' first
    | with_reducible assumption | intro _ | with_reducible exact Keeps.refl _ | with_reducible apply keeps_adcEnable
    | with_reducible apply keeps_adcEndEarly | with_reducible apply keeps_adcArm | with_reducible apply Keeps.ite

theorem keeps_svSamples {r s : State} (h : Keeps r s) : ∀ i flag n as, Keeps r (svSamples s i flag n as) := by
  intro i flag n as
  induction as generalizing s n with
  | nil => exact h
  | cons a t ih =>
    unfold svSamples
    refine ih (Keeps.forN _ _ h fun c u hu => ?_) _
    exact Keeps.ite (keeps_filtOffer hu _ _ _ _ _ _ _) hu

theorem keeps_svDeliver {r s : State} (h : Keeps r s) : ∀ x0 x1 x2 x3, Keeps r (svDeliver s x0 x1 x2 x3) := by
  intro x0 x1 x2 x3
  unfold svDeliver
  repeat' first
    | with_reducible assumption | intro _ | with_reducible exact Keeps.refl _ | with_reducible apply keeps_raise
    | with_reducible apply keeps_wr | with_reducible apply keeps_count | with_reducible apply keeps_updSv
    | with_reducible apply keeps_queuePacket | with_reducible apply keeps_svSamples | with_reducible apply Keeps.ite
    | with_reducible apply Keeps.ite_fst | with_reducible apply Keeps.foldl | with_reducible apply Keeps.foldl_fst
    | with_reducible apply Keeps.forN | with_reducible refine Keeps.of_pair (by assumption) ?_
    | with_reducible refine Keeps.of_pair' (by assumption) ?_ | fail_if_no_progress with_reducible apply Keeps.lit | split

theorem keeps_svOrdered {r s : State} (h : Keeps r s) : ∀ x0 x1, Keeps r (svOrdered s x0 x1) := by
  intro x0 x1
  unfold svOrdered
  repeat' first
    | with_reducible assumption | intro _ | with_reducible exact Keeps.refl _ | with_reducible apply keeps_measLater
    | with_reducible apply keeps_svDeliver | with_reducible apply keeps_raise | with_reducible apply Keeps.ite

theorem keeps_svFrame {r s : State} (h : Keeps r s) : ∀ x0 x1 x2 x3, Keeps r (svFrame s x0 x1 x2 x3) := by
  intro x0 x1 x2 x3
  unfold svFrame
  repeat' first
    | with_reducible assumption | intro _ | with_reducible exact Keeps.refl _ | with_reducible apply keeps_packetBroken
    | with_reducible apply keeps_raise | with_reducible apply keeps_count | with_reducible apply keeps_svOrdered
    | with_reducible apply Keeps.ite | with_reducible apply Keeps.ite_fst | with_reducible apply Keeps.foldl
    | with_reducible apply Keeps.foldl_fst | with_reducible apply Keeps.forN
    | with_reducible refine Keeps.of_pair (by assumption) ?_ | with_reducible refine Keeps.of_pair' (by assumption) ?_
    | fail_if_no_progress with_reducible apply Keeps.lit | split

theorem keeps_svReceive {r s : State} (h : Keeps r s) : ∀ x0 x1 x2, Keeps r (svReceive s x0 x1 x2) := by
  intro x0 x1 x2
  unfold svReceive
  repeat' first
    | with_reducible assumption | intro _ | with_reducible exact Keeps.refl _ | with_reducible apply keeps_svFrame
    | with_reducible apply Keeps.ite | with_reducible apply Keeps.ite_fst | with_reducible apply Keeps.foldl
    | with_reducible apply Keeps.foldl_fst | with_reducible apply Keeps.forN
    | with_reducible refine Keeps.of_pair (by assumption) ?_ | with_reducible refine Keeps.of_pair' (by assumption) ?_
    | fail_if_no_progress with_reducible apply Keeps.lit | split

theorem keeps_svTripLine {r s : State} (h : Keeps r s) : ∀ x0, Keeps r (svTripLine s x0) := by
  intro x0
  unfold svTripLine
  repeat' first
    | with_reducible assumption | intro _ | with_reducible exact Keeps.refl _ | with_reducible apply keeps_wr
    | with_reducible apply Keeps.ite

theorem keeps_svStale {r s : State} (h : Keeps r s) : ∀ x0 x1, Keeps r (svStale s x0 x1) := by
  intro x0 x1
  unfold svStale
  repeat' first
    | with_reducible assumption | intro _ | with_reducible exact Keeps.refl _ | with_reducible apply keeps_updSv
    | with_reducible apply keeps_raise | with_reducible apply Keeps.ite

theorem keeps_svLost {r s : State} (h : Keeps r s) : ∀ x0 x1, Keeps r (svLost s x0 x1) := by
  intro x0 x1
  unfold svLost
  repeat' first
    | with_reducible assumption | intro _ | with_reducible exact Keeps.refl _ | with_reducible apply keeps_svTripLine
    | with_reducible apply keeps_raise | with_reducible apply Keeps.ite

theorem keeps_svSnapshot {r s : State} (h : Keeps r s) : ∀ x0, Keeps r (svSnapshot s x0) := by
  intro x0
  unfold svSnapshot
  repeat' first
    | with_reducible assumption | intro _ | with_reducible exact Keeps.refl _ | with_reducible apply keeps_updSv
    | with_reducible apply keeps_engineStore

theorem keeps_svTick {r s : State} (h : Keeps r s) : ∀ x0 x1, Keeps r (svTick s x0 x1) := by
  intro x0 x1
  unfold svTick
  repeat' first
    | with_reducible assumption | intro _ | with_reducible exact Keeps.refl _ | with_reducible apply keeps_updSv
    | with_reducible apply keeps_clear | with_reducible apply keeps_wr | with_reducible apply keeps_svSnapshot
    | with_reducible apply keeps_svLost | with_reducible apply keeps_svStale | with_reducible apply Keeps.ite

theorem keeps_svTicks {r s : State} (h : Keeps r s) : ∀ x0, Keeps r (svTicks s x0) := by
  intro x0
  unfold svTicks
  repeat' first
    | with_reducible assumption | intro _ | with_reducible exact Keeps.refl _ | with_reducible apply keeps_tripUpdate
    | with_reducible apply keeps_svTick | with_reducible apply Keeps.ite | with_reducible apply Keeps.ite_fst
    | with_reducible apply Keeps.foldl | with_reducible apply Keeps.foldl_fst | with_reducible apply Keeps.forN

theorem keeps_svClearStats {r s : State} (h : Keeps r s) : ∀ x0, Keeps r (svClearStats s x0) := by
  intro x0
  unfold svClearStats
  repeat' first
    | with_reducible assumption | intro _ | with_reducible exact Keeps.refl _ | with_reducible apply keeps_wr

theorem keeps_svEffect {r s : State} (h : Keeps r s) : ∀ x0 x1 x2, Keeps r (svEffect s x0 x1 x2) := by
  intro x0 x1 x2
  unfold svEffect
  repeat' first
    | with_reducible assumption | intro _ | with_reducible exact Keeps.refl _ | with_reducible apply keeps_svClearStats
    | with_reducible apply keeps_tripUpdate | with_reducible apply keeps_svTripLine | with_reducible apply Keeps.ite

theorem keeps_armCommit {r s : State} (h : Keeps r s) : ∀ x0, Keeps r (armCommit s x0) := by
  intro x0
  unfold armCommit
  repeat' first
    | with_reducible assumption | intro _ | with_reducible exact Keeps.refl _ | with_reducible apply keeps_countAgain
    | with_reducible apply keeps_updArm | with_reducible apply keeps_raiseIf | with_reducible apply Keeps.ite

theorem keeps_armNApply {r s : State} (h : Keeps r s) : ∀ x0 x1, Keeps r (armNApply s x0 x1) := by
  intro x0 x1
  unfold armNApply
  repeat' first
    | with_reducible assumption | intro _ | with_reducible exact Keeps.refl _ | with_reducible apply keeps_armCommit
    | with_reducible apply keeps_wr

theorem keeps_armVrefApply {r s : State} (h : Keeps r s) : ∀ x0 x1, Keeps r (armVrefApply s x0 x1) := by
  intro x0 x1
  unfold armVrefApply
  repeat' first
    | with_reducible assumption | intro _ | with_reducible exact Keeps.refl _ | with_reducible apply keeps_armCommit
    | with_reducible apply keeps_wr

theorem keeps_armEffect {r s : State} (h : Keeps r s) : ∀ x0 x1, Keeps r (armEffect s x0 x1) := by
  intro x0 x1
  unfold armEffect
  repeat' first
    | with_reducible assumption | intro _ | with_reducible exact Keeps.refl _ | with_reducible apply keeps_armCommit
    | with_reducible apply Keeps.ite

theorem keeps_updLdg {r s : State} (h : Keeps r s) : ∀ x0, Keeps r (State.updLdg s x0) := by
  intro x0
  unfold State.updLdg
  repeat' first
    | with_reducible assumption | intro _ | with_reducible exact Keeps.refl _ | with_reducible apply Keeps.ite
    | with_reducible apply Keeps.ite_fst | with_reducible apply Keeps.foldl | with_reducible apply Keeps.foldl_fst
    | with_reducible apply Keeps.forN | with_reducible refine Keeps.of_pair (by assumption) ?_
    | with_reducible refine Keeps.of_pair' (by assumption) ?_ | fail_if_no_progress with_reducible apply Keeps.lit

theorem keeps_clearPeriod {r s : State} (h : Keeps r s) : ∀ x0, Keeps r (clearPeriod s x0) := by
  intro x0
  unfold clearPeriod
  repeat' first
    | with_reducible assumption | intro _ | with_reducible exact Keeps.refl _ | with_reducible apply keeps_wr
    | with_reducible apply keeps_updLease | with_reducible apply Keeps.ite | with_reducible apply Keeps.ite_fst
    | with_reducible apply Keeps.foldl

theorem keeps_openPeriod {r s : State} (h : Keeps r s) : ∀ x0 x1, Keeps r (openPeriod s x0 x1) := by
  intro x0 x1
  unfold openPeriod
  repeat' first
    | with_reducible assumption | intro _ | with_reducible exact Keeps.refl _ | with_reducible apply keeps_clear
    | with_reducible apply keeps_raise | with_reducible apply keeps_clearPeriod | with_reducible apply keeps_wr

theorem keeps_closePeriod {r s : State} (h : Keeps r s) : ∀ x0 x1, Keeps r (closePeriod s x0 x1) := by
  intro x0 x1
  unfold closePeriod
  repeat' first
    | with_reducible assumption | intro _ | with_reducible exact Keeps.refl _ | with_reducible apply keeps_updEntry
    | with_reducible apply keeps_updLdg | with_reducible apply keeps_updLease | with_reducible apply keeps_clear
    | with_reducible apply keeps_suspShown | with_reducible apply keeps_clearPeriod | with_reducible apply keeps_openPeriod
    | with_reducible apply Keeps.ite | with_reducible apply Keeps.ite_fst | with_reducible apply Keeps.foldl

theorem keeps_closeAt {r s : State} (h : Keeps r s) : ∀ x0 x1, Keeps r (closeAt s x0 x1).1 := by
  intro x0 x1
  unfold closeAt
  repeat' first
    | with_reducible assumption | intro _ | with_reducible exact Keeps.refl _ | with_reducible apply keeps_updLease
    | with_reducible apply keeps_raise | with_reducible apply keeps_closePeriod | with_reducible apply keeps_clear
    | with_reducible apply Keeps.ite | with_reducible apply Keeps.ite_fst

theorem keeps_leaseTick {r s : State} (h : Keeps r s) : ∀ x0 x1, Keeps r (leaseTick s x0 x1).1 := by
  intro x0 x1
  unfold leaseTick
  repeat' first
    | with_reducible assumption | intro _ | with_reducible exact Keeps.refl _ | with_reducible apply keeps_clear
    | with_reducible apply keeps_load | with_reducible apply keeps_closeAt | with_reducible apply keeps_openPeriod
    | with_reducible apply keeps_updLease | with_reducible apply Keeps.ite | with_reducible apply Keeps.ite_fst

theorem keeps_pagePending {r s : State} (h : Keeps r s) : Keeps r (pagePending s) := by
  unfold pagePending
  repeat' first
    | with_reducible assumption | intro _ | with_reducible exact Keeps.refl _ | with_reducible apply keeps_wr

theorem keeps_submitPages {r s : State} (h : Keeps r s) : Keeps r (submitPages s) := by
  unfold submitPages
  repeat' first
    | with_reducible assumption | intro _ | with_reducible exact Keeps.refl _ | with_reducible apply keeps_submit
    | with_reducible apply keeps_updLdg | with_reducible apply Keeps.ite | with_reducible apply Keeps.ite_fst
    | with_reducible apply Keeps.foldl

theorem keeps_offerPage {r s : State} (h : Keeps r s) : ∀ x0, Keeps r (offerPage s x0) := by
  intro x0
  unfold offerPage
  repeat' first
    | with_reducible assumption | intro _ | with_reducible exact Keeps.refl _ | with_reducible apply keeps_queuePacket
    | with_reducible apply keeps_updLdg

theorem keeps_offerPages {r s : State} (h : Keeps r s) : Keeps r (offerPages s) := by
  unfold offerPages
  repeat' first
    | with_reducible assumption | intro _ | with_reducible exact Keeps.refl _ | with_reducible apply keeps_offerPage
    | with_reducible apply Keeps.ite | with_reducible apply Keeps.ite_fst | with_reducible apply Keeps.foldl

theorem keeps_rebuildPages {r s : State} (h : Keeps r s) : Keeps r (rebuildPages s) := by
  unfold rebuildPages
  repeat' first
    | with_reducible assumption | intro _ | with_reducible exact Keeps.refl _ | with_reducible apply keeps_updLdg
    | with_reducible apply keeps_updLease | with_reducible apply keeps_wr | with_reducible apply keeps_pagePending
    | with_reducible apply Keeps.ite | with_reducible apply Keeps.ite_fst | with_reducible apply Keeps.foldl

theorem keeps_offerAgain {r s : State} (h : Keeps r s) : Keeps r (offerAgain s) := by
  unfold offerAgain
  repeat' first
    | with_reducible assumption | intro _ | with_reducible exact Keeps.refl _ | with_reducible apply keeps_offerPages
    | with_reducible apply keeps_updLdg

theorem keeps_pageIssue {r s : State} (h : Keeps r s) : ∀ x0 x1, Keeps r (pageIssue s x0 x1) := by
  intro x0 x1
  unfold pageIssue
  repeat' first
    | with_reducible assumption | intro _ | with_reducible exact Keeps.refl _ | with_reducible apply keeps_updLdg
    | with_reducible apply keeps_raise | with_reducible apply keeps_wr | with_reducible apply keeps_pagePending
    | with_reducible apply Keeps.ite

theorem keeps_pageSign {r s : State} (h : Keeps r s) : Keeps r (pageSign s) := by
  unfold pageSign
  repeat' first
    | with_reducible assumption | intro _ | with_reducible exact Keeps.refl _ | with_reducible apply keeps_offerPages
    | with_reducible apply keeps_updLdg | with_reducible apply Keeps.ite | with_reducible apply Keeps.ite_fst
    | with_reducible apply Keeps.foldl | with_reducible apply Keeps.foldl_fst | with_reducible apply Keeps.forN
    | with_reducible refine Keeps.of_pair (by assumption) ?_ | with_reducible refine Keeps.of_pair' (by assumption) ?_
    | fail_if_no_progress with_reducible apply Keeps.lit | split

theorem keeps_pageResend {r s : State} (h : Keeps r s) : Keeps r (pageResend s) := by
  unfold pageResend
  repeat' first
    | with_reducible assumption | intro _ | with_reducible exact Keeps.refl _ | with_reducible apply keeps_offerPage
    | with_reducible apply keeps_edges | with_reducible apply Keeps.ite | with_reducible apply Keeps.ite_fst
    | with_reducible apply Keeps.foldl | with_reducible apply Keeps.foldl_fst | with_reducible apply Keeps.forN
    | with_reducible refine Keeps.of_pair (by assumption) ?_ | with_reducible refine Keeps.of_pair' (by assumption) ?_
    | fail_if_no_progress with_reducible apply Keeps.lit | split

theorem keeps_releasePages {r s : State} (h : Keeps r s) : ∀ x0 x1, Keeps r (releasePages s x0 x1) := by
  intro x0 x1
  unfold releasePages
  repeat' first
    | with_reducible assumption | intro _ | with_reducible exact Keeps.refl _ | with_reducible apply keeps_wr
    | with_reducible apply keeps_updLdg | with_reducible apply keeps_pagePending | with_reducible apply keeps_releaseWhere

theorem keeps_ldgAck {r s : State} (h : Keeps r s) : ∀ x0, Keeps r (ldgAck s x0) := by
  intro x0
  unfold ldgAck
  repeat' first
    | with_reducible assumption | intro _ | with_reducible exact Keeps.refl _ | with_reducible apply keeps_raise
    | with_reducible apply keeps_wr | with_reducible apply keeps_updLdg | with_reducible apply keeps_submit
    | with_reducible apply Keeps.ite

theorem keeps_ackAccepted {r s : State} (h : Keeps r s) : ∀ x0 x1 x2 x3, Keeps r (ackAccepted s x0 x1 x2 x3) := by
  intro x0 x1 x2 x3
  unfold ackAccepted
  repeat' first
    | with_reducible assumption | intro _ | with_reducible exact Keeps.refl _ | with_reducible apply keeps_raise
    | with_reducible apply keeps_wr | with_reducible apply keeps_releasePages | with_reducible apply keeps_releaseWhere
    | with_reducible apply Keeps.ite

theorem keeps_ldgAckRspRead {r s : State} (h : Keeps r s) : Keeps r (ldgAckRspRead s).1 := by
  unfold ldgAckRspRead
  repeat' first
    | with_reducible assumption | intro _ | with_reducible exact Keeps.refl _ | with_reducible apply keeps_updLdg
    | with_reducible apply keeps_clear | with_reducible apply Keeps.ite | with_reducible apply Keeps.ite_fst

theorem keeps_ckptCapture {r s : State} (h : Keeps r s) : ∀ x0, Keeps r (ckptCapture s x0) := by
  intro x0
  unfold ckptCapture
  repeat' first
    | with_reducible assumption | intro _ | with_reducible exact Keeps.refl _ | with_reducible apply keeps_clear
    | with_reducible apply keeps_updLdg

theorem keeps_ckptRequest {r s : State} (h : Keeps r s) : Keeps r (ckptRequest s) := by
  unfold ckptRequest
  repeat' first
    | with_reducible assumption | intro _ | with_reducible exact Keeps.refl _ | with_reducible apply keeps_stage
    | with_reducible apply keeps_ckptCapture | with_reducible apply Keeps.ite

theorem keeps_tornCkpt {r s : State} (h : Keeps r s) : ∀ x0, Keeps r (tornCkpt s x0) := by
  intro x0
  unfold tornCkpt
  repeat' first
    | with_reducible assumption | intro _ | with_reducible exact Keeps.refl _ | with_reducible apply keeps_takeFree
    | with_reducible apply keeps_tornWords | with_reducible apply keeps_writeWords | with_reducible apply Keeps.ite

theorem keeps_ckptTimer {r s : State} (h : Keeps r s) : Keeps r (ckptTimer s) := by
  unfold ckptTimer
  repeat' first
    | with_reducible assumption | intro _ | with_reducible exact Keeps.refl _ | with_reducible apply keeps_edges
    | with_reducible apply keeps_ckptRequest | with_reducible apply Keeps.ite

theorem keeps_ckptComplete {r s : State} (h : Keeps r s) : ∀ x0, Keeps r (ckptComplete s x0) := by
  intro x0
  unfold ckptComplete
  repeat' first
    | with_reducible assumption | intro _ | with_reducible exact Keeps.refl _ | with_reducible apply keeps_updLdg
    | with_reducible apply keeps_writeWords | with_reducible apply keeps_wr | with_reducible apply keeps_raise
    | with_reducible apply Keeps.ite

theorem keeps_ckptNow {r s : State} (h : Keeps r s) : ∀ x0, Keeps r (ckptNow s x0) := by
  intro x0
  unfold ckptNow
  repeat' first
    | with_reducible assumption | intro _ | with_reducible exact Keeps.refl _ | with_reducible apply keeps_ckptComplete
    | with_reducible apply keeps_ckptCapture

theorem keeps_restoreStart {r s : State} (h : Keeps r s) : Keeps r (restoreStart s) := by
  unfold restoreStart
  repeat' first
    | with_reducible assumption | intro _ | with_reducible exact Keeps.refl _ | with_reducible apply keeps_updLdg

theorem keeps_restoreContext {r s : State} (h : Keeps r s) : ∀ x0 x1, Keeps r (restoreContext s x0 x1) := by
  intro x0 x1
  unfold restoreContext
  repeat' first
    | with_reducible assumption | intro _ | with_reducible exact Keeps.refl _ | with_reducible apply keeps_putWords
    | with_reducible apply keeps_wr | with_reducible apply keeps_updLease | with_reducible apply Keeps.ite
    | with_reducible apply Keeps.ite_fst | with_reducible apply Keeps.foldl | with_reducible apply Keeps.foldl_fst
    | with_reducible apply Keeps.forN | with_reducible refine Keeps.of_pair (by assumption) ?_
    | with_reducible refine Keeps.of_pair' (by assumption) ?_ | fail_if_no_progress with_reducible apply Keeps.lit

theorem keeps_restoreComplete {r s : State} (h : Keeps r s) : Keeps r (restoreComplete s) := by
  unfold restoreComplete
  repeat' first
    | with_reducible assumption | intro _ | with_reducible exact Keeps.refl _ | with_reducible apply keeps_mramScan
    | with_reducible apply keeps_updLdg | with_reducible apply keeps_recordErr | with_reducible apply keeps_restoreContext
    | with_reducible apply keeps_updEntry | with_reducible apply keeps_releasePages | with_reducible apply keeps_raise
    | with_reducible apply keeps_wr | with_reducible apply keeps_offerAgain | with_reducible apply Keeps.ite
    | with_reducible apply Keeps.ite_fst | with_reducible apply Keeps.foldl | with_reducible apply Keeps.foldl_fst
    | with_reducible apply Keeps.forN | with_reducible refine Keeps.of_pair (by assumption) ?_
    | with_reducible refine Keeps.of_pair' (by assumption) ?_ | fail_if_no_progress with_reducible apply Keeps.lit | split
    | dsimp only

theorem keeps_restoreGap {r s : State} (h : Keeps r s) : ∀ x0, Keeps r (restoreGap s x0) := by
  intro x0
  unfold restoreGap
  repeat' first
    | with_reducible assumption | intro _ | with_reducible exact Keeps.refl _ | with_reducible apply keeps_updLease
    | with_reducible apply keeps_updLdg | with_reducible apply Keeps.ite | with_reducible apply Keeps.ite_fst
    | with_reducible apply Keeps.foldl | with_reducible apply Keeps.foldl_fst | with_reducible apply Keeps.forN
    | with_reducible refine Keeps.of_pair (by assumption) ?_ | with_reducible refine Keeps.of_pair' (by assumption) ?_
    | fail_if_no_progress with_reducible apply Keeps.lit | split

theorem keeps_leaseTicks {r s : State} (h : Keeps r s) : ∀ x0, Keeps r (leaseTicks s x0).1 := by
  intro x0
  unfold leaseTicks
  repeat' first
    | with_reducible assumption | intro _ | with_reducible exact Keeps.refl _ | with_reducible apply keeps_leaseTick
    | with_reducible apply Keeps.ite | with_reducible apply Keeps.ite_fst | with_reducible apply Keeps.foldl
    | with_reducible apply Keeps.foldl_fst

theorem keeps_ledgerTick {r s : State} (h : Keeps r s) : ∀ x0, Keeps r (ledgerTick s x0) := by
  intro x0
  unfold ledgerTick
  repeat' first
    | with_reducible assumption | intro _ | with_reducible exact Keeps.refl _ | with_reducible apply keeps_leaseTicks
    | with_reducible apply keeps_restoreGap | with_reducible apply keeps_wr | with_reducible apply keeps_ckptCapture
    | with_reducible apply keeps_offerPages | with_reducible apply keeps_submitPages | with_reducible apply Keeps.ite

theorem keeps_leaseEffect {r s : State} (h : Keeps r s) : ∀ x0 x1 x2, Keeps r (leaseEffect s x0 x1 x2) := by
  intro x0 x1 x2
  unfold leaseEffect
  repeat' first
    | with_reducible assumption | intro _ | with_reducible exact Keeps.refl _ | with_reducible apply keeps_stage
    | with_reducible apply keeps_updLease | with_reducible apply Keeps.ite | with_reducible apply Keeps.ite_fst
    | with_reducible apply Keeps.foldl | with_reducible apply Keeps.foldl_fst | with_reducible apply Keeps.forN
    | with_reducible refine Keeps.of_pair (by assumption) ?_ | with_reducible refine Keeps.of_pair' (by assumption) ?_
    | fail_if_no_progress with_reducible apply Keeps.lit | split

end Sys2Proof.Machine
end

