-- ==== Sys2Proof/Laws/KeepsE.lean ====
section
/-!
SUPPORT. What every operation of Law.lean, Belfry.lean, SpireCore.lean keeps (Keeps.lean).
-/
namespace Sys2Proof.Machine

theorem keeps_setLawWord {r s : State} (h : Keeps r s) : ∀ x0 x1, Keeps r (setLawWord s x0 x1) := by
  intro x0 x1
  unfold setLawWord
  repeat' first
    | with_reducible assumption | intro _ | with_reducible exact Keeps.refl _ | with_reducible apply Keeps.ite
    | with_reducible apply Keeps.ite_fst | with_reducible apply Keeps.foldl | with_reducible apply Keeps.foldl_fst
    | with_reducible apply Keeps.forN | with_reducible refine Keeps.of_pair (by assumption) ?_
    | with_reducible refine Keeps.of_pair' (by assumption) ?_ | fail_if_no_progress with_reducible apply Keeps.lit

theorem keeps_putLawWord {r s : State} (h : Keeps r s) : ∀ x0 x1, Keeps r (putLawWord s x0 x1) := by
  intro x0 x1
  unfold putLawWord
  repeat' first
    | with_reducible assumption | intro _ | with_reducible exact Keeps.refl _ | with_reducible apply keeps_setLawWord
    | with_reducible apply Keeps.ite | with_reducible apply Keeps.ite_fst | with_reducible apply Keeps.foldl
    | with_reducible apply Keeps.foldl_fst | with_reducible apply Keeps.forN
    | with_reducible refine Keeps.of_pair (by assumption) ?_ | with_reducible refine Keeps.of_pair' (by assumption) ?_
    | fail_if_no_progress with_reducible apply Keeps.lit

theorem keeps_xfTake {r s : State} (h : Keeps r s) : ∀ x0 x1, Keeps r (xfTake s x0 x1).1 := by
  intro x0 x1
  unfold xfTake
  repeat' first
    | with_reducible assumption | intro _ | with_reducible exact Keeps.refl _ | with_reducible apply keeps_takeFree
    | with_reducible apply Keeps.ite | with_reducible apply Keeps.ite_fst

theorem keeps_xfOut {r s : State} (h : Keeps r s) : ∀ x0, Keeps r (xfOut s x0).1 := by
  intro x0
  unfold xfOut
  repeat' first
    | with_reducible assumption | intro _ | with_reducible exact Keeps.refl _ | with_reducible apply keeps_xfTake
    | with_reducible apply Keeps.ite | with_reducible apply Keeps.ite_fst

theorem keeps_setSlotWord {r s : State} (h : Keeps r s) : ∀ x0 x1 x2, Keeps r (setSlotWord s x0 x1 x2) := by
  intro x0 x1 x2
  unfold setSlotWord
  repeat' first
    | with_reducible assumption | intro _ | with_reducible exact Keeps.refl _ | with_reducible apply keeps_setLawWord
    | with_reducible apply Keeps.ite | with_reducible apply Keeps.ite_fst | with_reducible apply Keeps.foldl
    | with_reducible apply Keeps.foldl_fst | with_reducible apply Keeps.forN
    | with_reducible refine Keeps.of_pair (by assumption) ?_ | with_reducible refine Keeps.of_pair' (by assumption) ?_
    | fail_if_no_progress with_reducible apply Keeps.lit

theorem keeps_lawLevels {r s : State} (h : Keeps r s) : Keeps r (lawLevels s) := by
  unfold lawLevels
  repeat' first
    | with_reducible assumption | intro _ | with_reducible exact Keeps.refl _ | with_reducible apply keeps_wr
    | with_reducible apply Keeps.ite | with_reducible apply Keeps.ite_fst | with_reducible apply Keeps.foldl
    | with_reducible apply Keeps.foldl_fst | with_reducible apply Keeps.forN

theorem keeps_slotInit {r s : State} (h : Keeps r s) : ∀ x0 x1, Keeps r (slotInit s x0 x1) := by
  intro x0 x1
  unfold slotInit
  repeat' first
    | with_reducible assumption | intro _ | with_reducible exact Keeps.refl _ | with_reducible apply keeps_setSlotWord
    | with_reducible apply Keeps.ite | with_reducible apply Keeps.ite_fst | with_reducible apply Keeps.foldl
    | with_reducible apply Keeps.foldl_fst | with_reducible apply Keeps.forN

theorem keeps_recordWrite {r s : State} (h : Keeps r s) : ∀ x0 x1 x2 x3, Keeps r (recordWrite s x0 x1 x2 x3) := by
  intro x0 x1 x2 x3
  unfold recordWrite
  repeat' first
    | with_reducible assumption | intro _ | with_reducible exact Keeps.refl _ | with_reducible apply keeps_putLawWord
    | with_reducible apply Keeps.ite | with_reducible apply Keeps.ite_fst | with_reducible apply Keeps.foldl
    | with_reducible apply Keeps.foldl_fst | with_reducible apply Keeps.forN
    | with_reducible refine Keeps.of_pair (by assumption) ?_ | with_reducible refine Keeps.of_pair' (by assumption) ?_
    | fail_if_no_progress with_reducible apply Keeps.lit | split | dsimp only

theorem keeps_xfPut {r s : State} (h : Keeps r s) : ∀ x0 x1, Keeps r (xfPut s x0 x1) := by
  intro x0 x1
  unfold xfPut
  repeat' first
    | with_reducible assumption | intro _ | with_reducible exact Keeps.refl _ | with_reducible apply keeps_putLawWord
    | with_reducible apply keeps_raiseIf | with_reducible apply Keeps.ite

theorem keeps_xfEntryWrite {r s : State} (h : Keeps r s) : ∀ x0 x1 x2, Keeps r (xfEntryWrite s x0 x1 x2) := by
  intro x0 x1 x2
  unfold xfEntryWrite
  repeat' first
    | with_reducible assumption | intro _ | with_reducible exact Keeps.refl _ | with_reducible apply keeps_xfPut

theorem keeps_xfIn {r s : State} (h : Keeps r s) : ∀ x0 x1, Keeps r (xfIn s x0 x1) := by
  intro x0 x1
  unfold xfIn
  repeat' first
    | with_reducible assumption | intro _ | with_reducible exact Keeps.refl _ | with_reducible apply keeps_recordErr
    | with_reducible apply keeps_xfPut | with_reducible apply Keeps.ite

theorem keeps_lawGo {r s : State} (h : Keeps r s) : ∀ x0 x1, Keeps r (lawGo s x0 x1) := by
  intro x0 x1
  unfold lawGo
  repeat' first
    | with_reducible assumption | intro _ | with_reducible exact Keeps.refl _ | with_reducible apply keeps_lawLevels
    | with_reducible apply keeps_recordErr | with_reducible apply Keeps.ite | with_reducible apply Keeps.ite_fst
    | with_reducible apply Keeps.foldl | with_reducible apply Keeps.foldl_fst | with_reducible apply Keeps.forN
    | with_reducible refine Keeps.of_pair (by assumption) ?_ | with_reducible refine Keeps.of_pair' (by assumption) ?_
    | fail_if_no_progress with_reducible apply Keeps.lit

theorem keeps_lawListStart {r s : State} (h : Keeps r s) : Keeps r (lawListStart s) := by
  unfold lawListStart
  repeat' first
    | with_reducible assumption | intro _ | with_reducible exact Keeps.refl _ | with_reducible apply keeps_toEdge
    | with_reducible apply keeps_lawLevels | with_reducible apply Keeps.ite | with_reducible apply Keeps.ite_fst
    | with_reducible apply Keeps.foldl | with_reducible apply Keeps.foldl_fst | with_reducible apply Keeps.forN
    | with_reducible refine Keeps.of_pair (by assumption) ?_ | with_reducible refine Keeps.of_pair' (by assumption) ?_
    | fail_if_no_progress with_reducible apply Keeps.lit | split

theorem keeps_lawListDone {r s : State} (h : Keeps r s) : ∀ x0 x1, Keeps r (lawListDone s x0 x1) := by
  intro x0 x1
  unfold lawListDone
  repeat' first
    | with_reducible assumption | intro _ | with_reducible exact Keeps.refl _ | with_reducible apply keeps_wr
    | with_reducible apply keeps_lawLevels | with_reducible apply Keeps.ite | with_reducible apply Keeps.ite_fst
    | with_reducible apply Keeps.foldl | with_reducible apply Keeps.foldl_fst | with_reducible apply Keeps.forN
    | with_reducible refine Keeps.of_pair (by assumption) ?_ | with_reducible refine Keeps.of_pair' (by assumption) ?_
    | fail_if_no_progress with_reducible apply Keeps.lit

theorem keeps_captureRecord {r s : State} (h : Keeps r s) : ∀ x0, Keeps r (captureRecord s x0) := by
  intro x0
  unfold captureRecord
  repeat' first
    | with_reducible assumption | intro _ | with_reducible exact Keeps.refl _ | with_reducible apply keeps_raise
    | with_reducible apply Keeps.ite | with_reducible apply Keeps.ite_fst | with_reducible apply Keeps.foldl
    | with_reducible apply Keeps.foldl_fst | with_reducible apply Keeps.forN
    | with_reducible refine Keeps.of_pair (by assumption) ?_ | with_reducible refine Keeps.of_pair' (by assumption) ?_
    | fail_if_no_progress with_reducible apply Keeps.lit

theorem keeps_captureDrain {r s : State} (h : Keeps r s) : Keeps r (captureDrain s) := by
  unfold captureDrain
  repeat' first
    | with_reducible assumption | intro _ | with_reducible exact Keeps.refl _ | with_reducible apply keeps_engineStore
    | with_reducible apply keeps_wr | with_reducible apply Keeps.ite | with_reducible apply Keeps.ite_fst
    | with_reducible apply Keeps.foldl | with_reducible apply Keeps.foldl_fst | with_reducible apply Keeps.forN
    | with_reducible refine Keeps.of_pair (by assumption) ?_ | with_reducible refine Keeps.of_pair' (by assumption) ?_
    | fail_if_no_progress with_reducible apply Keeps.lit | split

theorem keeps_captureFly {r s : State} (h : Keeps r s) : ∀ x0, Keeps r (captureFly s x0) := by
  intro x0
  unfold captureFly
  repeat' first
    | with_reducible assumption | intro _ | with_reducible exact Keeps.refl _ | with_reducible apply keeps_captureRecord
    | with_reducible apply keeps_takeFree | with_reducible apply Keeps.ite | with_reducible apply Keeps.ite_fst
    | with_reducible apply Keeps.foldl | with_reducible apply Keeps.foldl_fst | with_reducible apply Keeps.forN
    | with_reducible refine Keeps.of_pair (by assumption) ?_ | with_reducible refine Keeps.of_pair' (by assumption) ?_
    | fail_if_no_progress with_reducible apply Keeps.lit | split

theorem keeps_lawComplete {r s : State} (h : Keeps r s) : ∀ x0 x1, Keeps r (lawComplete s x0 x1) := by
  intro x0 x1
  unfold lawComplete
  repeat' first
    | with_reducible assumption | intro _ | with_reducible exact Keeps.refl _ | with_reducible apply keeps_raise
    | with_reducible apply keeps_captureFly | with_reducible apply keeps_putLawWord | with_reducible apply keeps_raiseIf
    | with_reducible apply keeps_xfEntryWrite | with_reducible apply Keeps.ite | with_reducible apply Keeps.ite_fst
    | with_reducible apply Keeps.foldl | with_reducible apply Keeps.foldl_fst | with_reducible apply Keeps.forN
    | with_reducible refine Keeps.of_pair (by assumption) ?_ | with_reducible refine Keeps.of_pair' (by assumption) ?_
    | fail_if_no_progress with_reducible apply Keeps.lit | split

theorem keeps_lawEntryComplete {r s : State} (h : Keeps r s) : Keeps r (lawEntryComplete s) := by
  unfold lawEntryComplete
  repeat' first
    | with_reducible assumption | intro _ | with_reducible exact Keeps.refl _ | with_reducible apply keeps_lawComplete
    | with_reducible apply keeps_toEdge | with_reducible apply keeps_lawListDone | with_reducible apply Keeps.ite
    | with_reducible apply Keeps.ite_fst | with_reducible apply Keeps.foldl | with_reducible apply Keeps.foldl_fst
    | with_reducible apply Keeps.forN | with_reducible refine Keeps.of_pair (by assumption) ?_
    | with_reducible refine Keeps.of_pair' (by assumption) ?_ | fail_if_no_progress with_reducible apply Keeps.lit | split

theorem keeps_lawCompleteUpTo {r s : State} (h : Keeps r s) : ∀ e n, Keeps r (lawCompleteUpTo e n s) := by
  intro e n
  induction n generalizing s with
  | zero => exact h
  | succ n ih =>
    unfold lawCompleteUpTo
    split
    · exact h
    · split
      · exact h
      · split
        · exact ih (keeps_lawEntryComplete h)
        · exact h

theorem keeps_testAdvance {r s : State} (h : Keeps r s) : Keeps r (testAdvance s) := by
  unfold testAdvance
  repeat' first
    | with_reducible assumption | intro _ | with_reducible exact Keeps.refl _ | with_reducible apply keeps_count
    | with_reducible apply Keeps.ite | with_reducible apply Keeps.ite_fst | with_reducible apply Keeps.foldl
    | with_reducible apply Keeps.foldl_fst | with_reducible apply Keeps.forN
    | with_reducible refine Keeps.of_pair (by assumption) ?_ | with_reducible refine Keeps.of_pair' (by assumption) ?_
    | fail_if_no_progress with_reducible apply Keeps.lit

theorem keeps_testEnd {r s : State} (h : Keeps r s) : Keeps r (testEnd s) := by
  unfold testEnd
  repeat' first
    | with_reducible assumption | intro _ | with_reducible exact Keeps.refl _ | with_reducible apply keeps_clear
    | with_reducible apply Keeps.ite

theorem keeps_testTick_testStop {r s : State} (h : Keeps r s) : ∀ x0, Keeps r (testTick.testStop x0 s) := by
  intro x0
  unfold testTick.testStop
  repeat' first
    | with_reducible assumption | intro _ | with_reducible exact Keeps.refl _ | with_reducible apply keeps_wr
    | with_reducible apply keeps_clear | with_reducible apply Keeps.ite

theorem keeps_testTick_testStart {r s : State} (h : Keeps r s) : ∀ x0, Keeps r (testTick.testStart x0 s) := by
  intro x0
  unfold testTick.testStart
  repeat' first
    | with_reducible assumption | intro _ | with_reducible exact Keeps.refl _ | with_reducible apply keeps_wr
    | with_reducible apply keeps_raise | with_reducible apply Keeps.ite | with_reducible apply Keeps.ite_fst
    | with_reducible apply Keeps.foldl | with_reducible apply Keeps.foldl_fst | with_reducible apply Keeps.forN
    | with_reducible refine Keeps.of_pair (by assumption) ?_ | with_reducible refine Keeps.of_pair' (by assumption) ?_
    | fail_if_no_progress with_reducible apply Keeps.lit

theorem keeps_testTick {r s : State} (h : Keeps r s) : Keeps r (testTick s) := by
  unfold testTick
  repeat' first
    | with_reducible assumption | intro _ | with_reducible exact Keeps.refl _ | with_reducible apply keeps_testTick_testStop
    | with_reducible apply keeps_testTick_testStart | with_reducible apply Keeps.ite | with_reducible apply Keeps.ite_fst
    | with_reducible apply Keeps.foldl | with_reducible apply Keeps.foldl_fst | with_reducible apply Keeps.forN
    | with_reducible refine Keeps.of_pair (by assumption) ?_ | with_reducible refine Keeps.of_pair' (by assumption) ?_
    | fail_if_no_progress with_reducible apply Keeps.lit

theorem keeps_lawInputs {r s : State} (h : Keeps r s) : ∀ x0 x1 x2, Keeps r (lawInputs s x0 x1 x2).1 := by
  intro x0 x1 x2
  unfold lawInputs
  repeat' first
    | with_reducible assumption | intro _ | with_reducible exact Keeps.refl _ | with_reducible apply keeps_xfTake

theorem keeps_issueEntry {r s : State} (h : Keeps r s) : ∀ x0 x1, Keeps r (issueEntry s x0 x1) := by
  intro x0 x1
  unfold issueEntry
  repeat' first
    | with_reducible assumption | intro _ | with_reducible exact Keeps.refl _ | with_reducible apply keeps_raise
    | with_reducible apply keeps_recordErr | with_reducible apply keeps_lawInputs | with_reducible apply keeps_testEnd
    | with_reducible apply keeps_testAdvance | with_reducible apply Keeps.ite | with_reducible apply Keeps.ite_fst
    | with_reducible apply Keeps.foldl | with_reducible apply Keeps.foldl_fst | with_reducible apply Keeps.forN
    | with_reducible refine Keeps.of_pair (by assumption) ?_ | with_reducible refine Keeps.of_pair' (by assumption) ?_
    | fail_if_no_progress with_reducible apply Keeps.lit

theorem keeps_lawEntryIssue {r s : State} (h : Keeps r s) : Keeps r (lawEntryIssue s) := by
  unfold lawEntryIssue
  repeat' first
    | with_reducible assumption | intro _ | with_reducible exact Keeps.refl _ | with_reducible apply keeps_toEdge
    | with_reducible apply keeps_lawCompleteUpTo | with_reducible apply keeps_raise | with_reducible apply keeps_lawListDone
    | with_reducible apply keeps_issueEntry | with_reducible apply Keeps.ite | with_reducible apply Keeps.ite_fst
    | with_reducible apply Keeps.foldl | with_reducible apply Keeps.foldl_fst | with_reducible apply Keeps.forN
    | with_reducible refine Keeps.of_pair (by assumption) ?_ | with_reducible refine Keeps.of_pair' (by assumption) ?_
    | fail_if_no_progress with_reducible apply Keeps.lit | split | dsimp only

theorem keeps_lawInit {r s : State} (h : Keeps r s) : Keeps r (lawInit s) := by
  unfold lawInit
  repeat' first
    | with_reducible assumption | intro _ | with_reducible exact Keeps.refl _ | with_reducible apply keeps_clear
    | with_reducible apply keeps_wr | with_reducible apply Keeps.ite | with_reducible apply Keeps.ite_fst
    | with_reducible apply Keeps.foldl | with_reducible apply Keeps.foldl_fst | with_reducible apply Keeps.forN
    | with_reducible refine Keeps.of_pair (by assumption) ?_ | with_reducible refine Keeps.of_pair' (by assumption) ?_
    | fail_if_no_progress with_reducible apply Keeps.lit

theorem keeps_lawInitDone {r s : State} (h : Keeps r s) : Keeps r (lawInitDone s) := by
  unfold lawInitDone
  repeat' first
    | with_reducible assumption | intro _ | with_reducible exact Keeps.refl _ | with_reducible apply keeps_raise
    | with_reducible apply Keeps.ite | with_reducible apply Keeps.ite_fst | with_reducible apply Keeps.foldl
    | with_reducible apply Keeps.foldl_fst | with_reducible apply Keeps.forN
    | with_reducible refine Keeps.of_pair (by assumption) ?_ | with_reducible refine Keeps.of_pair' (by assumption) ?_
    | fail_if_no_progress with_reducible apply Keeps.lit

theorem keeps_lawDisabled {r s : State} (h : Keeps r s) : Keeps r (lawDisabled s) := by
  unfold lawDisabled
  repeat' first
    | with_reducible assumption | intro _ | with_reducible exact Keeps.refl _ | with_reducible apply keeps_lawLevels
    | with_reducible apply Keeps.ite | with_reducible apply Keeps.ite_fst | with_reducible apply Keeps.foldl
    | with_reducible apply Keeps.foldl_fst | with_reducible apply Keeps.forN
    | with_reducible refine Keeps.of_pair (by assumption) ?_ | with_reducible refine Keeps.of_pair' (by assumption) ?_
    | fail_if_no_progress with_reducible apply Keeps.lit

theorem keeps_lawAnswer {r s : State} (h : Keeps r s) : ∀ x0 x1, Keeps r (lawAnswer s x0 x1).1 := by
  intro x0 x1
  unfold lawAnswer
  repeat' first
    | with_reducible assumption | intro _ | with_reducible exact Keeps.refl _ | with_reducible apply keeps_takeFree
    | with_reducible apply Keeps.ite | with_reducible apply Keeps.ite_fst

theorem keeps_lawWindowApply {r s : State} (h : Keeps r s) : ∀ x0 x1 x2, Keeps r (lawWindowApply s x0 x1 x2) := by
  intro x0 x1 x2
  unfold lawWindowApply
  repeat' first
    | with_reducible assumption | intro _ | with_reducible exact Keeps.refl _ | with_reducible apply keeps_recordWrite
    | with_reducible apply keeps_xfPut | with_reducible apply Keeps.ite | with_reducible apply Keeps.ite_fst
    | with_reducible apply Keeps.foldl | with_reducible apply Keeps.foldl_fst | with_reducible apply Keeps.forN
    | with_reducible refine Keeps.of_pair (by assumption) ?_ | with_reducible refine Keeps.of_pair' (by assumption) ?_
    | fail_if_no_progress with_reducible apply Keeps.lit

theorem keeps_lawRegEffect {r s : State} (h : Keeps r s) : ∀ x0 x1, Keeps r (lawRegEffect s x0 x1) := by
  intro x0 x1
  unfold lawRegEffect
  repeat' first
    | with_reducible assumption | intro _ | with_reducible exact Keeps.refl _ | with_reducible apply keeps_lawInit
    | with_reducible apply keeps_lawDisabled | with_reducible apply keeps_slotInit | with_reducible apply keeps_wr
    | with_reducible apply Keeps.ite | with_reducible apply Keeps.ite_fst | with_reducible apply Keeps.foldl
    | with_reducible apply Keeps.foldl_fst | with_reducible apply Keeps.forN
    | with_reducible refine Keeps.of_pair (by assumption) ?_ | with_reducible refine Keeps.of_pair' (by assumption) ?_
    | fail_if_no_progress with_reducible apply Keeps.lit | split

theorem keeps_setRes {r s : State} (h : Keeps r s) : ∀ x0 x1, Keeps r (State.setRes s x0 x1) := by
  intro x0 x1
  unfold State.setRes
  repeat' first
    | with_reducible assumption | intro _ | with_reducible exact Keeps.refl _ | with_reducible apply Keeps.ite
    | with_reducible apply Keeps.ite_fst | with_reducible apply Keeps.foldl | with_reducible apply Keeps.foldl_fst
    | with_reducible apply Keeps.forN | with_reducible refine Keeps.of_pair (by assumption) ?_
    | with_reducible refine Keeps.of_pair' (by assumption) ?_ | fail_if_no_progress with_reducible apply Keeps.lit

theorem keeps_belRequest {r s : State} (h : Keeps r s) : ∀ x0 x1 x2, Keeps r (belRequest s x0 x1 x2) := by
  intro x0 x1 x2
  unfold belRequest
  repeat' first
    | with_reducible assumption | intro _ | with_reducible exact Keeps.refl _ | with_reducible apply keeps_setRes
    | with_reducible apply Keeps.ite | with_reducible apply Keeps.ite_fst | with_reducible apply Keeps.foldl
    | with_reducible apply Keeps.foldl_fst | with_reducible apply Keeps.forN
    | with_reducible refine Keeps.of_pair (by assumption) ?_ | with_reducible refine Keeps.of_pair' (by assumption) ?_
    | fail_if_no_progress with_reducible apply Keeps.lit | split

theorem keeps_grantTo {r s : State} (h : Keeps r s) : ∀ x0 x1, Keeps r (grantTo s x0 x1) := by
  intro x0 x1
  unfold grantTo
  repeat' first
    | with_reducible assumption | intro _ | with_reducible exact Keeps.refl _ | with_reducible apply keeps_wr
    | with_reducible apply keeps_setRes

theorem keeps_belGrant {r s : State} (h : Keeps r s) : ∀ x0, Keeps r (belGrant s x0) := by
  intro x0
  unfold belGrant
  repeat' first
    | with_reducible assumption | intro _ | with_reducible exact Keeps.refl _ | with_reducible apply keeps_toEdge
    | with_reducible apply keeps_setRes | with_reducible apply keeps_grantTo | with_reducible apply keeps_captureDrain
    | with_reducible apply keeps_scrubLine | with_reducible apply Keeps.ite | with_reducible apply Keeps.ite_fst
    | with_reducible apply Keeps.foldl | with_reducible apply Keeps.foldl_fst | with_reducible apply Keeps.forN
    | with_reducible refine Keeps.of_pair (by assumption) ?_ | with_reducible refine Keeps.of_pair' (by assumption) ?_
    | fail_if_no_progress with_reducible apply Keeps.lit | split | dsimp only

theorem keeps_scrubRead {r s : State} (h : Keeps r s) : ∀ x0, Keeps r (scrubRead s x0) := by
  intro x0
  unfold scrubRead
  repeat' first
    | with_reducible assumption | intro _ | with_reducible exact Keeps.refl _ | with_reducible apply keeps_edges
    | with_reducible apply keeps_belRequest | with_reducible apply keeps_grantTo | with_reducible apply keeps_scrubLine
    | with_reducible apply keeps_setRes | with_reducible apply Keeps.ite | with_reducible apply Keeps.ite_fst
    | with_reducible apply Keeps.foldl | with_reducible apply Keeps.foldl_fst | with_reducible apply Keeps.forN
    | with_reducible refine Keeps.of_pair (by assumption) ?_ | with_reducible refine Keeps.of_pair' (by assumption) ?_
    | fail_if_no_progress with_reducible apply Keeps.lit | split | dsimp only

theorem keeps_belWithdraw {r s : State} (h : Keeps r s) : ∀ x0 x1, Keeps r (belWithdraw s x0 x1) := by
  intro x0 x1
  unfold belWithdraw
  repeat' first
    | with_reducible assumption | intro _ | with_reducible exact Keeps.refl _ | with_reducible apply keeps_setRes
    | with_reducible apply Keeps.ite | with_reducible apply Keeps.ite_fst | with_reducible apply Keeps.foldl
    | with_reducible apply Keeps.foldl_fst | with_reducible apply Keeps.forN
    | with_reducible refine Keeps.of_pair (by assumption) ?_ | with_reducible refine Keeps.of_pair' (by assumption) ?_
    | fail_if_no_progress with_reducible apply Keeps.lit | split | dsimp only

theorem keeps_starvation {r s : State} (h : Keeps r s) : ∀ x0, Keeps r (starvation s x0) := by
  intro x0
  unfold starvation
  repeat' first
    | with_reducible assumption | intro _ | with_reducible exact Keeps.refl _ | with_reducible apply keeps_orIn
    | with_reducible apply keeps_toEdge | with_reducible apply Keeps.ite | with_reducible apply Keeps.ite_fst
    | with_reducible apply Keeps.foldl | with_reducible apply Keeps.foldl_fst | with_reducible apply Keeps.forN
    | with_reducible refine Keeps.of_pair (by assumption) ?_ | with_reducible refine Keeps.of_pair' (by assumption) ?_
    | fail_if_no_progress with_reducible apply Keeps.lit | split

theorem keeps_starvedCleared {r s : State} (h : Keeps r s) : ∀ x0, Keeps r (starvedCleared s x0) := by
  intro x0
  unfold starvedCleared
  repeat' first
    | with_reducible assumption | intro _ | with_reducible exact Keeps.refl _ | with_reducible apply keeps_wr
    | with_reducible apply Keeps.ite | with_reducible apply Keeps.ite_fst | with_reducible apply Keeps.foldl
    | with_reducible apply Keeps.foldl_fst | with_reducible apply Keeps.forN

theorem keeps_giveToken {r s : State} (h : Keeps r s) : ∀ x0 x1, Keeps r (giveToken s x0 x1) := by
  intro x0 x1
  unfold giveToken
  repeat' first
    | with_reducible assumption | intro _ | with_reducible exact Keeps.refl _ | with_reducible apply keeps_wr
    | with_reducible apply keeps_raise

theorem keeps_freeToken {r s : State} (h : Keeps r s) : ∀ x0, Keeps r (freeToken s x0) := by
  intro x0
  unfold freeToken
  repeat' first
    | with_reducible assumption | intro _ | with_reducible exact Keeps.refl _ | with_reducible apply keeps_wr
    | with_reducible apply keeps_clear | with_reducible apply Keeps.ite | with_reducible apply Keeps.ite_fst
    | with_reducible apply Keeps.foldl | with_reducible apply Keeps.foldl_fst | with_reducible apply Keeps.forN
    | with_reducible refine Keeps.of_pair (by assumption) ?_ | with_reducible refine Keeps.of_pair' (by assumption) ?_
    | fail_if_no_progress with_reducible apply Keeps.lit

theorem keeps_setWaiters {r s : State} (h : Keeps r s) : ∀ x0 x1, Keeps r (setWaiters s x0 x1) := by
  intro x0 x1
  unfold setWaiters
  repeat' first
    | with_reducible assumption | intro _ | with_reducible exact Keeps.refl _ | with_reducible apply keeps_wr
    | with_reducible apply Keeps.ite | with_reducible apply Keeps.ite_fst | with_reducible apply Keeps.foldl
    | with_reducible apply Keeps.foldl_fst | with_reducible apply Keeps.forN
    | with_reducible refine Keeps.of_pair (by assumption) ?_ | with_reducible refine Keeps.of_pair' (by assumption) ?_
    | fail_if_no_progress with_reducible apply Keeps.lit

theorem keeps_lockTry {r s : State} (h : Keeps r s) : ∀ x0 x1, Keeps r (lockTry s x0 x1).1 := by
  intro x0 x1
  unfold lockTry
  repeat' first
    | with_reducible assumption | intro _ | with_reducible exact Keeps.refl _ | with_reducible apply keeps_giveToken
    | with_reducible apply Keeps.ite | with_reducible apply Keeps.ite_fst

theorem keeps_lockRel {r s : State} (h : Keeps r s) : ∀ x0 x1, Keeps r (lockRel s x0 x1).1 := by
  intro x0 x1
  unfold lockRel
  repeat' first
    | with_reducible assumption | intro _ | with_reducible exact Keeps.refl _ | with_reducible apply keeps_freeToken
    | with_reducible apply Keeps.ite | with_reducible apply Keeps.ite_fst

theorem keeps_lockClr {r s : State} (h : Keeps r s) : ∀ x0 x1, Keeps r (lockClr s x0 x1).1 := by
  intro x0 x1
  unfold lockClr
  repeat' first
    | with_reducible assumption | intro _ | with_reducible exact Keeps.refl _ | with_reducible apply keeps_clear
    | with_reducible apply Keeps.ite | with_reducible apply Keeps.ite_fst

theorem keeps_lockWait {r s : State} (h : Keeps r s) : ∀ x0 x1, Keeps r (lockWait s x0 x1) := by
  intro x0 x1
  unfold lockWait
  repeat' first
    | with_reducible assumption | intro _ | with_reducible exact Keeps.refl _ | with_reducible apply keeps_setWaiters

theorem keeps_lockWithdraw {r s : State} (h : Keeps r s) : ∀ x0 x1, Keeps r (lockWithdraw s x0 x1) := by
  intro x0 x1
  unfold lockWithdraw
  repeat' first
    | with_reducible assumption | intro _ | with_reducible exact Keeps.refl _ | with_reducible apply keeps_setWaiters

theorem keeps_passToken {r s : State} (h : Keeps r s) : ∀ x0 x1, Keeps r (passToken s x0 x1) := by
  intro x0 x1
  unfold passToken
  repeat' first
    | with_reducible assumption | intro _ | with_reducible exact Keeps.refl _ | with_reducible apply keeps_giveToken
    | with_reducible apply keeps_lockWithdraw

theorem keeps_ownerFault {r s : State} (h : Keeps r s) : ∀ x0, Keeps r (ownerFault s x0) := by
  intro x0
  unfold ownerFault
  repeat' first
    | with_reducible assumption | intro _ | with_reducible exact Keeps.refl _ | with_reducible apply keeps_lockWithdraw
    | with_reducible apply keeps_count | with_reducible apply keeps_raise | with_reducible apply keeps_freeToken
    | with_reducible apply keeps_raiseIf | with_reducible apply Keeps.ite | with_reducible apply Keeps.ite_fst
    | with_reducible apply Keeps.foldl | with_reducible apply Keeps.foldl_fst | with_reducible apply Keeps.forN

theorem keeps_lockCmd {r s : State} (h : Keeps r s) : ∀ x0 x1, Keeps r (lockCmd s x0 x1) := by
  intro x0 x1
  unfold lockCmd
  repeat' first
    | with_reducible assumption | intro _ | with_reducible exact Keeps.refl _ | with_reducible apply keeps_lockTry
    | with_reducible apply keeps_lockRel | with_reducible apply keeps_lockClr | with_reducible apply keeps_wr
    | with_reducible apply Keeps.ite | with_reducible apply Keeps.ite_fst | with_reducible apply Keeps.foldl
    | with_reducible apply Keeps.foldl_fst | with_reducible apply Keeps.forN
    | with_reducible refine Keeps.of_pair (by assumption) ?_ | with_reducible refine Keeps.of_pair' (by assumption) ?_
    | fail_if_no_progress with_reducible apply Keeps.lit | split

theorem keeps_belfryEffect {r s : State} (h : Keeps r s) : ∀ x0 x1, Keeps r (belfryEffect s x0 x1) := by
  intro x0 x1
  unfold belfryEffect
  repeat' first
    | with_reducible assumption | intro _ | with_reducible exact Keeps.refl _ | with_reducible apply keeps_lockCmd
    | with_reducible apply keeps_starvedCleared | with_reducible apply keeps_wr | with_reducible apply Keeps.ite

theorem keeps_tcmCorrect {r s : State} (h : Keeps r s) : ∀ x0 x1 x2, Keeps r (tcmCorrect s x0 x1 x2) := by
  intro x0 x1 x2
  unfold tcmCorrect
  repeat' first
    | with_reducible assumption | intro _ | with_reducible exact Keeps.refl _ | with_reducible apply keeps_countSat
    | with_reducible apply keeps_setCore | with_reducible apply Keeps.ite

theorem keeps_haltCore {r s : State} (h : Keeps r s) : ∀ x0 x1, Keeps r (haltCore s x0 x1) := by
  intro x0 x1
  unfold haltCore
  repeat' first
    | with_reducible assumption | intro _ | with_reducible exact Keeps.refl _ | with_reducible apply keeps_setCore
    | with_reducible apply keeps_ownerFault | with_reducible apply keeps_wr | with_reducible apply keeps_raise

theorem keeps_enterExc {r s : State} (h : Keeps r s) : ∀ x0 x1 x2 x3 x4 x5, Keeps r (enterExc s x0 x1 x2 x3 x4 x5) := by
  intro x0 x1 x2 x3 x4 x5
  unfold enterExc
  repeat' first
    | with_reducible assumption | intro _ | with_reducible exact Keeps.refl _ | with_reducible apply keeps_updCore

theorem keeps_syncExc {r s : State} (h : Keeps r s) : ∀ x0 x1 x2 x3 x4, Keeps r (syncExc s x0 x1 x2 x3 x4) := by
  intro x0 x1 x2 x3 x4
  unfold syncExc
  repeat' first
    | with_reducible assumption | intro _ | with_reducible exact Keeps.refl _ | with_reducible apply keeps_haltCore
    | with_reducible apply keeps_enterExc | with_reducible apply Keeps.ite

theorem keeps_leaveExc {r s : State} (h : Keeps r s) : ∀ x0, Keeps r (leaveExc s x0) := by
  intro x0
  unfold leaveExc
  repeat' first
    | with_reducible assumption | intro _ | with_reducible exact Keeps.refl _ | with_reducible apply keeps_updCore

theorem keeps_atBoundary {r s : State} (h : Keeps r s) : ∀ x0, Keeps r (atBoundary s x0) := by
  intro x0
  unfold atBoundary
  repeat' first
    | with_reducible assumption | intro _ | with_reducible exact Keeps.refl _ | with_reducible apply keeps_haltCore
    | with_reducible apply Keeps.ite

theorem keeps_withdrawWait {r s : State} (h : Keeps r s) : ∀ x0, Keeps r (withdrawWait s x0) := by
  intro x0
  unfold withdrawWait
  repeat' first
    | with_reducible assumption | intro _ | with_reducible exact Keeps.refl _ | with_reducible apply keeps_lockWithdraw
    | with_reducible apply Keeps.ite | with_reducible apply Keeps.ite_fst | with_reducible apply Keeps.foldl
    | with_reducible apply Keeps.foldl_fst | with_reducible apply Keeps.forN
    | with_reducible refine Keeps.of_pair (by assumption) ?_ | with_reducible refine Keeps.of_pair' (by assumption) ?_
    | fail_if_no_progress with_reducible apply Keeps.lit | split

theorem keeps_lockDone {r s : State} (h : Keeps r s) : ∀ x0, Keeps r (lockDone s x0) := by
  intro x0
  unfold lockDone
  repeat' first
    | with_reducible assumption | intro _ | with_reducible exact Keeps.refl _ | with_reducible apply keeps_passToken
    | with_reducible apply keeps_updCore | with_reducible apply Keeps.ite | with_reducible apply Keeps.ite_fst
    | with_reducible apply Keeps.foldl | with_reducible apply Keeps.foldl_fst | with_reducible apply Keeps.forN
    | with_reducible refine Keeps.of_pair (by assumption) ?_ | with_reducible refine Keeps.of_pair' (by assumption) ?_
    | fail_if_no_progress with_reducible apply Keeps.lit | with_reducible apply wf_gW | with_reducible apply wf_fW
    | with_reducible apply wf_acW | with_reducible apply wf_tcmPut | with_reducible apply wf_takeLoad
    | with_reducible apply wf_takeMsg | with_reducible exact wf_nil | split

theorem keeps_takeAsync {r s : State} (h : Keeps r s) : ∀ x0 x1 x2, Keeps r (takeAsync s x0 x1 x2) := by
  intro x0 x1 x2
  unfold takeAsync
  repeat' first
    | with_reducible assumption | intro _ | with_reducible exact Keeps.refl _ | with_reducible apply keeps_lockDone
    | with_reducible apply keeps_withdrawWait | with_reducible apply keeps_enterExc | with_reducible apply Keeps.ite

theorem keeps_takeInterrupt {r s : State} (h : Keeps r s) : ∀ x0, Keeps r (takeInterrupt s x0) := by
  intro x0
  unfold takeInterrupt
  repeat' first
    | with_reducible assumption | intro _ | with_reducible exact Keeps.refl _ | with_reducible apply keeps_takeAsync
    | with_reducible apply Keeps.ite | with_reducible apply Keeps.ite_fst | with_reducible apply Keeps.foldl
    | with_reducible apply Keeps.foldl_fst | with_reducible apply Keeps.forN
    | with_reducible refine Keeps.of_pair (by assumption) ?_ | with_reducible refine Keeps.of_pair' (by assumption) ?_
    | fail_if_no_progress with_reducible apply Keeps.lit | split

theorem keeps_takeMessage {r s : State} (h : Keeps r s) : ∀ x0, Keeps r (takeMessage s x0) := by
  intro x0
  unfold takeMessage
  repeat' first
    | with_reducible assumption | intro _ | with_reducible exact Keeps.refl _ | with_reducible apply keeps_takeAsync
    | with_reducible apply Keeps.ite

theorem keeps_sendMessage {r s : State} (h : Keeps r s) : ∀ x0 x1, Keeps r (sendMessage s x0 x1) := by
  intro x0 x1
  unfold sendMessage
  repeat' first
    | with_reducible assumption | intro _ | with_reducible exact Keeps.refl _ | with_reducible apply keeps_updCore

theorem keeps_messageArrives {r s : State} (h : Keeps r s) : ∀ x0, Keeps r (messageArrives s x0) := by
  intro x0
  unfold messageArrives
  repeat' first
    | with_reducible assumption | intro _ | with_reducible exact Keeps.refl _ | with_reducible apply keeps_updCore
    | with_reducible apply keeps_toEdge | with_reducible apply Keeps.ite | with_reducible apply Keeps.ite_fst
    | with_reducible apply Keeps.foldl | with_reducible apply Keeps.foldl_fst | with_reducible apply Keeps.forN
    | with_reducible refine Keeps.of_pair (by assumption) ?_ | with_reducible refine Keeps.of_pair' (by assumption) ?_
    | fail_if_no_progress with_reducible apply Keeps.lit | with_reducible apply wf_gW | with_reducible apply wf_fW
    | with_reducible apply wf_acW | with_reducible apply wf_tcmPut | with_reducible apply wf_takeLoad
    | with_reducible apply wf_takeMsg | with_reducible exact wf_nil | split

end Sys2Proof.Machine
end

