-- ==== Sys2Proof/Laws/KeepsF.lean ====
section
/-!
SUPPORT. What every operation of Twin.lean, Keep.lean keeps (Keeps.lean).
-/
namespace Sys2Proof.Machine

theorem keeps_updTwin {r s : State} (h : Keeps r s) : ∀ x0, Keeps r (State.updTwin s x0) := by
  intro x0
  unfold State.updTwin
  repeat' first
    | with_reducible assumption | intro _ | with_reducible exact Keeps.refl _ | with_reducible apply Keeps.ite
    | with_reducible apply Keeps.ite_fst | with_reducible apply Keeps.foldl | with_reducible apply Keeps.foldl_fst
    | with_reducible apply Keeps.forN | with_reducible refine Keeps.of_pair (by assumption) ?_
    | with_reducible refine Keeps.of_pair' (by assumption) ?_ | fail_if_no_progress with_reducible apply Keeps.lit

theorem keeps_pinsFollow {r s : State} (h : Keeps r s) : Keeps r (pinsFollow s) := by
  unfold pinsFollow
  repeat' first
    | with_reducible assumption | intro _ | with_reducible exact Keeps.refl _ | with_reducible apply Keeps.ite
    | with_reducible apply Keeps.ite_fst | with_reducible apply Keeps.foldl | with_reducible apply Keeps.foldl_fst
    | with_reducible apply Keeps.forN | with_reducible refine Keeps.of_pair (by assumption) ?_
    | with_reducible refine Keeps.of_pair' (by assumption) ?_ | fail_if_no_progress with_reducible apply Keeps.lit

theorem keeps_twinFault {r s : State} (h : Keeps r s) : Keeps r (twinFault s) := by
  unfold twinFault
  repeat' first
    | with_reducible assumption | intro _ | with_reducible exact Keeps.refl _ | with_reducible apply keeps_faultRecord

theorem keeps_healthNow {r s : State} (h : Keeps r s) : Keeps r (healthNow s) := by
  unfold healthNow
  repeat' first
    | with_reducible assumption | intro _ | with_reducible exact Keeps.refl _ | with_reducible apply keeps_updTwin
    | with_reducible apply keeps_wr

theorem keeps_enterJoin {r s : State} (h : Keeps r s) : Keeps r (enterJoin s) := by
  unfold enterJoin
  repeat' first
    | with_reducible assumption | intro _ | with_reducible exact Keeps.refl _ | with_reducible apply keeps_updTwin
    | with_reducible apply keeps_wr

theorem keeps_takeToken {r s : State} (h : Keeps r s) : ∀ x0, Keeps r (takeToken s x0) := by
  intro x0
  unfold takeToken
  repeat' first
    | with_reducible assumption | intro _ | with_reducible exact Keeps.refl _ | with_reducible apply keeps_wr
    | with_reducible apply keeps_count | with_reducible apply keeps_raiseIf | with_reducible apply keeps_raise
    | with_reducible apply keeps_updTwin | with_reducible apply keeps_recoverStart | with_reducible apply keeps_twinFault
    | with_reducible apply Keeps.ite | with_reducible apply Keeps.ite_fst | with_reducible apply Keeps.foldl
    | with_reducible apply Keeps.foldl_fst | with_reducible apply Keeps.forN
    | with_reducible refine Keeps.of_pair (by assumption) ?_ | with_reducible refine Keeps.of_pair' (by assumption) ?_
    | fail_if_no_progress with_reducible apply Keeps.lit

theorem keeps_leaveState {r s : State} (h : Keeps r s) : ∀ x0, Keeps r (leaveState s x0) := by
  intro x0
  unfold leaveState
  repeat' first
    | with_reducible assumption | intro _ | with_reducible exact Keeps.refl _ | with_reducible apply keeps_count
    | with_reducible apply keeps_twinFault | with_reducible apply keeps_raise | with_reducible apply keeps_updTwin
    | with_reducible apply keeps_enterJoin | with_reducible apply keeps_wr | with_reducible apply Keeps.ite

theorem keeps_handoverAt {r s : State} (h : Keeps r s) : ∀ x0, Keeps r (handoverAt s x0) := by
  intro x0
  unfold handoverAt
  repeat' first
    | with_reducible assumption | intro _ | with_reducible exact Keeps.refl _ | with_reducible apply keeps_takeToken
    | with_reducible apply keeps_leaveState | with_reducible apply keeps_updTwin | with_reducible apply Keeps.ite

theorem keeps_adoptEpoch {r s : State} (h : Keeps r s) : ∀ x0, Keeps r (adoptEpoch s x0) := by
  intro x0
  unfold adoptEpoch
  repeat' first
    | with_reducible assumption | intro _ | with_reducible exact Keeps.refl _ | with_reducible apply keeps_wr
    | with_reducible apply Keeps.ite

theorem keeps_tokenTick {r s : State} (h : Keeps r s) : Keeps r (tokenTick s) := by
  unfold tokenTick
  repeat' first
    | with_reducible assumption | intro _ | with_reducible exact Keeps.refl _ | with_reducible apply keeps_updTwin
    | with_reducible apply keeps_takeToken | with_reducible apply keeps_leaveState | with_reducible apply keeps_handoverAt
    | with_reducible apply keeps_wr | with_reducible apply keeps_pinsFollow | with_reducible apply Keeps.ite
    | with_reducible apply Keeps.ite_fst | with_reducible apply Keeps.foldl | with_reducible apply Keeps.foldl_fst
    | with_reducible apply Keeps.forN | with_reducible refine Keeps.of_pair (by assumption) ?_
    | with_reducible refine Keeps.of_pair' (by assumption) ?_ | fail_if_no_progress with_reducible apply Keeps.lit | split

theorem keeps_leaseExpiry {r s : State} (h : Keeps r s) : Keeps r (leaseExpiry s) := by
  unfold leaseExpiry
  repeat' first
    | with_reducible assumption | intro _ | with_reducible exact Keeps.refl _ | with_reducible apply keeps_takeToken
    | with_reducible apply Keeps.ite

theorem keeps_noteMismatch {r s : State} (h : Keeps r s) : ∀ x0 x1, Keeps r (noteMismatch s x0 x1) := by
  intro x0 x1
  unfold noteMismatch
  repeat' first
    | with_reducible assumption | intro _ | with_reducible exact Keeps.refl _ | with_reducible apply keeps_updTwin
    | with_reducible apply Keeps.ite | with_reducible apply Keeps.ite_fst | with_reducible apply Keeps.foldl
    | with_reducible apply Keeps.foldl_fst | with_reducible apply Keeps.forN
    | with_reducible refine Keeps.of_pair (by assumption) ?_ | with_reducible refine Keeps.of_pair' (by assumption) ?_
    | fail_if_no_progress with_reducible apply Keeps.lit | split

theorem keeps_twinAccept {r s : State} (h : Keeps r s) : ∀ x0 x1, Keeps r (twinAccept s x0 x1) := by
  intro x0 x1
  unfold twinAccept
  repeat' first
    | with_reducible assumption | intro _ | with_reducible exact Keeps.refl _ | with_reducible apply keeps_adoptEpoch
    | with_reducible apply keeps_leaveState | with_reducible apply keeps_updTwin | with_reducible apply keeps_noteMismatch
    | with_reducible apply Keeps.ite | with_reducible apply Keeps.ite_fst | with_reducible apply Keeps.foldl
    | with_reducible apply Keeps.foldl_fst | with_reducible apply Keeps.forN
    | with_reducible refine Keeps.of_pair (by assumption) ?_ | with_reducible refine Keeps.of_pair' (by assumption) ?_
    | fail_if_no_progress with_reducible apply Keeps.lit | split | dsimp only

theorem keeps_relayCopy {r s : State} (h : Keeps r s) : ∀ x0 x1, Keeps r (relayCopy s x0 x1) := by
  intro x0 x1
  unfold relayCopy
  repeat' first
    | with_reducible assumption | intro _ | with_reducible exact Keeps.refl _ | with_reducible apply keeps_noteMismatch
    | with_reducible apply Keeps.ite | with_reducible apply Keeps.ite_fst | with_reducible apply Keeps.foldl
    | with_reducible apply Keeps.foldl_fst | with_reducible apply Keeps.forN
    | with_reducible refine Keeps.of_pair (by assumption) ?_ | with_reducible refine Keeps.of_pair' (by assumption) ?_
    | fail_if_no_progress with_reducible apply Keeps.lit | split | dsimp only

theorem keeps_mismatchFinal {r s : State} (h : Keeps r s) : ∀ x0 x1, Keeps r (mismatchFinal s x0 x1) := by
  intro x0 x1
  unfold mismatchFinal
  repeat' first
    | with_reducible assumption | intro _ | with_reducible exact Keeps.refl _ | with_reducible apply keeps_count
    | with_reducible apply keeps_raise | with_reducible apply keeps_wr | with_reducible apply keeps_updTwin
    | with_reducible apply keeps_twinFault

theorem keeps_compareFinal {r s : State} (h : Keeps r s) : Keeps r (compareFinal s) := by
  unfold compareFinal
  repeat' first
    | with_reducible assumption | intro _ | with_reducible exact Keeps.refl _ | with_reducible apply keeps_updTwin
    | with_reducible apply keeps_mismatchFinal | with_reducible apply Keeps.ite | with_reducible apply Keeps.ite_fst
    | with_reducible apply Keeps.foldl | with_reducible apply Keeps.foldl_fst | with_reducible apply Keeps.forN
    | with_reducible refine Keeps.of_pair (by assumption) ?_ | with_reducible refine Keeps.of_pair' (by assumption) ?_
    | fail_if_no_progress with_reducible apply Keeps.lit | split | dsimp only

theorem keeps_recordOpen {r s : State} (h : Keeps r s) : Keeps r (recordOpen s) := by
  unfold recordOpen
  repeat' first
    | with_reducible assumption | intro _ | with_reducible exact Keeps.refl _ | with_reducible apply keeps_updTwin

theorem keeps_recordUpd {r s : State} (h : Keeps r s) : ∀ x0, Keeps r (recordUpd s x0) := by
  intro x0
  unfold recordUpd
  repeat' first
    | with_reducible assumption | intro _ | with_reducible exact Keeps.refl _ | with_reducible apply keeps_updTwin

theorem keeps_recordSetup {r s : State} (h : Keeps r s) : ∀ x0, Keeps r (recordSetup s x0) := by
  intro x0
  unfold recordSetup
  repeat' first
    | with_reducible assumption | intro _ | with_reducible exact Keeps.refl _ | with_reducible apply keeps_recordUpd

theorem keeps_recordLaunch {r s : State} (h : Keeps r s) : Keeps r (recordLaunch s) := by
  unfold recordLaunch
  repeat' first
    | with_reducible assumption | intro _ | with_reducible exact Keeps.refl _ | with_reducible apply keeps_recordUpd

theorem keeps_replayStart {r s : State} (h : Keeps r s) : Keeps r (replayStart s) := by
  unfold replayStart
  repeat' first
    | with_reducible assumption | intro _ | with_reducible exact Keeps.refl _ | with_reducible apply keeps_updTwin
    | with_reducible apply keeps_wr | with_reducible apply keeps_raise | with_reducible apply keeps_leaveState
    | with_reducible apply Keeps.ite | with_reducible apply Keeps.ite_fst | with_reducible apply Keeps.foldl
    | with_reducible apply Keeps.foldl_fst | with_reducible apply Keeps.forN
    | with_reducible refine Keeps.of_pair (by assumption) ?_ | with_reducible refine Keeps.of_pair' (by assumption) ?_
    | fail_if_no_progress with_reducible apply Keeps.lit | split | dsimp only

theorem keeps_replayComplete {r s : State} (h : Keeps r s) : Keeps r (replayComplete s) := by
  unfold replayComplete
  repeat' first
    | with_reducible assumption | intro _ | with_reducible exact Keeps.refl _ | with_reducible apply keeps_updTwin
    | with_reducible apply keeps_wr | with_reducible apply Keeps.ite | with_reducible apply Keeps.ite_fst
    | with_reducible apply Keeps.foldl | with_reducible apply Keeps.foldl_fst | with_reducible apply Keeps.forN
    | with_reducible refine Keeps.of_pair (by assumption) ?_ | with_reducible refine Keeps.of_pair' (by assumption) ?_
    | fail_if_no_progress with_reducible apply Keeps.lit | split

theorem keeps_verdict {r s : State} (h : Keeps r s) : Keeps r (verdict s) := by
  unfold verdict
  repeat' first
    | with_reducible assumption | intro _ | with_reducible exact Keeps.refl _ | with_reducible apply keeps_clear
    | with_reducible apply keeps_wr | with_reducible apply keeps_updTwin | with_reducible apply keeps_twinFault
    | with_reducible apply keeps_raise | with_reducible apply Keeps.ite | with_reducible apply Keeps.ite_fst
    | with_reducible apply Keeps.foldl | with_reducible apply Keeps.foldl_fst | with_reducible apply Keeps.forN
    | with_reducible refine Keeps.of_pair (by assumption) ?_ | with_reducible refine Keeps.of_pair' (by assumption) ?_
    | fail_if_no_progress with_reducible apply Keeps.lit | split | dsimp only

theorem keeps_messageSend {r s : State} (h : Keeps r s) : Keeps r (messageSend s) := by
  unfold messageSend
  repeat' first
    | with_reducible assumption | intro _ | with_reducible exact Keeps.refl _ | with_reducible apply keeps_healthNow
    | with_reducible apply keeps_replayComplete | with_reducible apply keeps_updTwin | with_reducible apply Keeps.ite

theorem keeps_followTick {r s : State} (h : Keeps r s) : ∀ x0 x1, Keeps r (followTick s x0 x1) := by
  intro x0 x1
  unfold followTick
  repeat' first
    | with_reducible assumption | intro _ | with_reducible exact Keeps.refl _ | with_reducible apply keeps_updTwin
    | with_reducible apply keeps_wr | with_reducible apply Keeps.ite | with_reducible apply Keeps.ite_fst
    | with_reducible apply Keeps.foldl | with_reducible apply Keeps.foldl_fst | with_reducible apply Keeps.forN
    | with_reducible refine Keeps.of_pair (by assumption) ?_ | with_reducible refine Keeps.of_pair' (by assumption) ?_
    | fail_if_no_progress with_reducible apply Keeps.lit

theorem keeps_followTaken {r s : State} (h : Keeps r s) : Keeps r (followTaken s) := by
  unfold followTaken
  repeat' first
    | with_reducible assumption | intro _ | with_reducible exact Keeps.refl _ | with_reducible apply keeps_updTwin

theorem keeps_peerHeard {r s : State} (h : Keeps r s) : ∀ x0, Keeps r (peerHeard s x0) := by
  intro x0
  unfold peerHeard
  repeat' first
    | with_reducible assumption | intro _ | with_reducible exact Keeps.refl _ | with_reducible apply keeps_updTwin
    | with_reducible apply Keeps.ite

theorem keeps_twinMessage {r s : State} (h : Keeps r s) : ∀ x0, Keeps r (twinMessage s x0) := by
  intro x0
  unfold twinMessage
  repeat' first
    | with_reducible assumption | intro _ | with_reducible exact Keeps.refl _ | with_reducible apply keeps_updTwin
    | with_reducible apply keeps_raiseIf | with_reducible apply keeps_wr | with_reducible apply keeps_soloEnds
    | with_reducible apply keeps_pinsFollow | with_reducible apply keeps_enterJoin | with_reducible apply keeps_peerHeard
    | with_reducible apply keeps_followTick | with_reducible apply keeps_adoptEpoch | with_reducible apply Keeps.ite

theorem keeps_masterMessage {r s : State} (h : Keeps r s) : ∀ x0, Keeps r (masterMessage s x0) := by
  intro x0
  unfold masterMessage
  repeat' first
    | with_reducible assumption | intro _ | with_reducible exact Keeps.refl _ | with_reducible apply keeps_followTick
    | with_reducible apply keeps_updTwin | with_reducible apply keeps_adoptEpoch | with_reducible apply Keeps.ite
    | with_reducible apply Keeps.ite_fst | with_reducible apply Keeps.foldl | with_reducible apply Keeps.foldl_fst
    | with_reducible apply Keeps.forN | with_reducible refine Keeps.of_pair (by assumption) ?_
    | with_reducible refine Keeps.of_pair' (by assumption) ?_ | fail_if_no_progress with_reducible apply Keeps.lit | split

theorem keeps_statusForward {r s : State} (h : Keeps r s) : ∀ x0 x1, Keeps r (statusForward s x0 x1) := by
  intro x0 x1
  unfold statusForward
  repeat' first
    | with_reducible assumption | intro _ | with_reducible exact Keeps.refl _ | with_reducible apply keeps_heldSupply
    | with_reducible apply Keeps.ite | with_reducible apply Keeps.ite_fst | with_reducible apply Keeps.foldl

theorem keeps_agreeCell {r s : State} (h : Keeps r s) : ∀ x0 x1, Keeps r (agreeCell s x0 x1) := by
  intro x0 x1
  unfold agreeCell
  repeat' first
    | with_reducible assumption | intro _ | with_reducible exact Keeps.refl _ | with_reducible apply keeps_updRing
    | with_reducible apply keeps_processCell | with_reducible apply Keeps.ite | with_reducible apply Keeps.ite_fst
    | with_reducible apply Keeps.foldl | with_reducible apply Keeps.foldl_fst | with_reducible apply Keeps.forN
    | with_reducible refine Keeps.of_pair (by assumption) ?_ | with_reducible refine Keeps.of_pair' (by assumption) ?_
    | fail_if_no_progress with_reducible apply Keeps.lit | split | dsimp only

theorem keeps_maskWaitEnd {r s : State} (h : Keeps r s) : Keeps r (maskWaitEnd s) := by
  unfold maskWaitEnd
  repeat' first
    | with_reducible assumption | intro _ | with_reducible exact Keeps.refl _ | with_reducible apply keeps_toEdge
    | with_reducible apply keeps_updTwin | with_reducible apply keeps_raise | with_reducible apply keeps_agreeCell
    | with_reducible apply keeps_compareFinal | with_reducible apply Keeps.ite | with_reducible apply Keeps.ite_fst
    | with_reducible apply Keeps.foldl | with_reducible apply Keeps.foldl_fst | with_reducible apply Keeps.forN
    | with_reducible refine Keeps.of_pair (by assumption) ?_ | with_reducible refine Keeps.of_pair' (by assumption) ?_
    | fail_if_no_progress with_reducible apply Keeps.lit

theorem keeps_relayTick {r s : State} (h : Keeps r s) : Keeps r (relayTick s) := by
  unfold relayTick
  repeat' first
    | with_reducible assumption | intro _ | with_reducible exact Keeps.refl _ | with_reducible apply keeps_wr
    | with_reducible apply keeps_updRing | with_reducible apply Keeps.ite | with_reducible apply Keeps.ite_fst
    | with_reducible apply Keeps.foldl | with_reducible apply Keeps.foldl_fst | with_reducible apply Keeps.forN

theorem keeps_installJournal {r s : State} (h : Keeps r s) : ∀ x0 x1, Keeps r (installJournal s x0 x1) := by
  intro x0 x1
  unfold installJournal
  repeat' first
    | with_reducible assumption | intro _ | with_reducible exact Keeps.refl _ | with_reducible apply keeps_writeWords
    | with_reducible apply keeps_wr | with_reducible apply keeps_pagePending | with_reducible apply keeps_updLdg
    | with_reducible apply keeps_journalLevels | with_reducible apply Keeps.ite | with_reducible apply Keeps.ite_fst
    | with_reducible apply Keeps.foldl | with_reducible apply Keeps.foldl_fst | with_reducible apply Keeps.forN
    | with_reducible refine Keeps.of_pair (by assumption) ?_ | with_reducible refine Keeps.of_pair' (by assumption) ?_
    | fail_if_no_progress with_reducible apply Keeps.lit | split

theorem keeps_installItem {r s : State} (h : Keeps r s) : ∀ x0, Keeps r (installItem s x0).1 := by
  intro x0
  unfold installItem
  repeat' first
    | with_reducible assumption | intro _ | with_reducible exact Keeps.refl _ | with_reducible apply keeps_updEntry
    | with_reducible apply keeps_putWords | with_reducible apply keeps_wr | with_reducible apply keeps_setSlotWord
    | with_reducible apply keeps_installJournal | with_reducible apply Keeps.ite | with_reducible apply Keeps.ite_fst
    | with_reducible apply Keeps.foldl | with_reducible apply Keeps.foldl_fst | with_reducible apply Keeps.forN
    | with_reducible refine Keeps.of_pair (by assumption) ?_ | with_reducible refine Keeps.of_pair' (by assumption) ?_
    | fail_if_no_progress with_reducible apply Keeps.lit | split

theorem keeps_chaseCopy {r s : State} (h : Keeps r s) : ∀ x0, Keeps r (chaseCopy s x0) := by
  intro x0
  unfold chaseCopy
  repeat' first
    | with_reducible assumption | intro _ | with_reducible exact Keeps.refl _ | with_reducible apply keeps_installItem
    | with_reducible apply keeps_updTwin | with_reducible apply Keeps.ite

theorem keeps_linkUp {r s : State} (h : Keeps r s) : ∀ x0 x1, Keeps r (linkUp s x0 x1) := by
  intro x0 x1
  unfold linkUp
  repeat' first
    | with_reducible assumption | intro _ | with_reducible exact Keeps.refl _ | with_reducible apply keeps_wr
    | with_reducible apply keeps_raise | with_reducible apply keeps_orIn | with_reducible apply Keeps.ite

theorem keeps_twinLost {r s : State} (h : Keeps r s) : Keeps r (twinLost s) := by
  unfold twinLost
  repeat' first
    | with_reducible assumption | intro _ | with_reducible exact Keeps.refl _ | with_reducible apply keeps_twinFault
    | with_reducible apply keeps_raise | with_reducible apply keeps_goSolo | with_reducible apply Keeps.ite

theorem keeps_prepareTimeout {r s : State} (h : Keeps r s) : ∀ x0 x1, Keeps r (prepareTimeout s x0 x1) := by
  intro x0 x1
  unfold prepareTimeout
  repeat' first
    | with_reducible assumption | intro _ | with_reducible exact Keeps.refl _ | with_reducible apply keeps_twinLost
    | with_reducible apply keeps_raise | with_reducible apply keeps_toEdge | with_reducible apply Keeps.ite
    | with_reducible apply Keeps.ite_fst | with_reducible apply Keeps.foldl | with_reducible apply Keeps.foldl_fst
    | with_reducible apply Keeps.forN | with_reducible refine Keeps.of_pair (by assumption) ?_
    | with_reducible refine Keeps.of_pair' (by assumption) ?_ | fail_if_no_progress with_reducible apply Keeps.lit | split

theorem keeps_linkDown {r s : State} (h : Keeps r s) : ∀ x0, Keeps r (linkDown s x0) := by
  intro x0
  unfold linkDown
  repeat' first
    | with_reducible assumption | intro _ | with_reducible exact Keeps.refl _ | with_reducible apply keeps_twinLost
    | with_reducible apply keeps_updTwin | with_reducible apply keeps_clear | with_reducible apply keeps_wr
    | with_reducible apply Keeps.ite

theorem keeps_countReceive {r s : State} (h : Keeps r s) : ∀ x0 x1, Keeps r (countReceive s x0 x1) := by
  intro x0 x1
  unfold countReceive
  repeat' first
    | with_reducible assumption | intro _ | with_reducible exact Keeps.refl _ | with_reducible apply keeps_armVrefApply
    | with_reducible apply keeps_armNApply | with_reducible apply keeps_updTwin | with_reducible apply keeps_recordErr
    | with_reducible apply Keeps.ite

theorem keeps_sumsSent {r s : State} (h : Keeps r s) : Keeps r (sumsSent s) := by
  unfold sumsSent
  repeat' first
    | with_reducible assumption | intro _ | with_reducible exact Keeps.refl _ | with_reducible apply keeps_updTwin
    | with_reducible apply Keeps.ite

theorem keeps_sumsReceive {r s : State} (h : Keeps r s) : ∀ x0 x1, Keeps r (sumsReceive s x0 x1) := by
  intro x0 x1
  unfold sumsReceive
  repeat' first
    | with_reducible assumption | intro _ | with_reducible exact Keeps.refl _ | with_reducible apply keeps_updTwin
    | with_reducible apply keeps_engineStore | with_reducible apply Keeps.ite | with_reducible apply Keeps.ite_fst
    | with_reducible apply Keeps.foldl

theorem keeps_masterLost {r s : State} (h : Keeps r s) : Keeps r (masterLost s) := by
  unfold masterLost
  repeat' first
    | with_reducible assumption | intro _ | with_reducible exact Keeps.refl _ | with_reducible apply keeps_setAllLatch
    | with_reducible apply keeps_raise | with_reducible apply keeps_pushEvt | with_reducible apply keeps_twinFault
    | with_reducible apply keeps_updTwin | with_reducible apply Keeps.ite

theorem keeps_followerLost {r s : State} (h : Keeps r s) : ∀ x0, Keeps r (followerLost s x0) := by
  intro x0
  unfold followerLost
  repeat' first
    | with_reducible assumption | intro _ | with_reducible exact Keeps.refl _ | with_reducible apply keeps_setArmLatches
    | with_reducible apply keeps_orIn | with_reducible apply keeps_twinFault | with_reducible apply keeps_pushEvt
    | with_reducible apply Keeps.ite

theorem keeps_cascadeTick {r s : State} (h : Keeps r s) : Keeps r (cascadeTick s) := by
  unfold cascadeTick
  repeat' first
    | with_reducible assumption | intro _ | with_reducible exact Keeps.refl _ | with_reducible apply keeps_updTwin
    | with_reducible apply keeps_masterLost | with_reducible apply keeps_followerLost | with_reducible apply Keeps.ite
    | with_reducible apply Keeps.ite_fst | with_reducible apply Keeps.foldl | with_reducible apply Keeps.foldl_fst
    | with_reducible apply Keeps.forN

theorem keeps_twinTick {r s : State} (h : Keeps r s) : Keeps r (twinTick s) := by
  unfold twinTick
  repeat' first
    | with_reducible assumption | intro _ | with_reducible exact Keeps.refl _ | with_reducible apply keeps_cascadeTick
    | with_reducible apply keeps_pinsFollow | with_reducible apply keeps_relayTick | with_reducible apply keeps_updTwin
    | with_reducible apply keeps_tokenTick | with_reducible apply keeps_replayStart | with_reducible apply Keeps.ite

theorem keeps_twinEnable {r s : State} (h : Keeps r s) : ∀ x0, Keeps r (twinEnable s x0) := by
  intro x0
  unfold twinEnable
  repeat' first
    | with_reducible assumption | intro _ | with_reducible exact Keeps.refl _ | with_reducible apply keeps_updTwin
    | with_reducible apply keeps_pinsFollow | with_reducible apply keeps_enterJoin | with_reducible apply keeps_clear
    | with_reducible apply keeps_wr | with_reducible apply keeps_relayTick | with_reducible apply Keeps.ite

theorem keeps_twinStartTimeout {r s : State} (h : Keeps r s) : Keeps r (twinStartTimeout s) := by
  unfold twinStartTimeout
  repeat' first
    | with_reducible assumption | intro _ | with_reducible exact Keeps.refl _ | with_reducible apply keeps_updTwin
    | with_reducible apply keeps_toEdge | with_reducible apply keeps_pinsFollow | with_reducible apply keeps_wr
    | with_reducible apply Keeps.ite | with_reducible apply Keeps.ite_fst | with_reducible apply Keeps.foldl
    | with_reducible apply Keeps.foldl_fst | with_reducible apply Keeps.forN
    | with_reducible refine Keeps.of_pair (by assumption) ?_ | with_reducible refine Keeps.of_pair' (by assumption) ?_
    | fail_if_no_progress with_reducible apply Keeps.lit | split

theorem keeps_twinRejoin {r s : State} (h : Keeps r s) : Keeps r (twinRejoin s) := by
  unfold twinRejoin
  repeat' first
    | with_reducible assumption | intro _ | with_reducible exact Keeps.refl _ | with_reducible apply keeps_pinsFollow
    | with_reducible apply keeps_enterJoin | with_reducible apply Keeps.ite

theorem keeps_twinYield {r s : State} (h : Keeps r s) : Keeps r (twinYield s) := by
  unfold twinYield
  repeat' first
    | with_reducible assumption | intro _ | with_reducible exact Keeps.refl _ | with_reducible apply keeps_updTwin

theorem keeps_yieldTaken {r s : State} (h : Keeps r s) : Keeps r (yieldTaken s) := by
  unfold yieldTaken
  repeat' first
    | with_reducible assumption | intro _ | with_reducible exact Keeps.refl _ | with_reducible apply keeps_updTwin
    | with_reducible apply Keeps.ite

theorem keeps_twinSyncDone {r s : State} (h : Keeps r s) : Keeps r (twinSyncDone s) := by
  unfold twinSyncDone
  repeat' first
    | with_reducible assumption | intro _ | with_reducible exact Keeps.refl _ | with_reducible apply keeps_updTwin

theorem keeps_twinEffect {r s : State} (h : Keeps r s) : ∀ x0 x1, Keeps r (twinEffect s x0 x1) := by
  intro x0 x1
  unfold twinEffect
  repeat' first
    | with_reducible assumption | intro _ | with_reducible exact Keeps.refl _ | with_reducible apply keeps_twinEnable
    | with_reducible apply keeps_twinRejoin | with_reducible apply keeps_twinYield | with_reducible apply keeps_twinSyncDone
    | with_reducible apply Keeps.ite

theorem keeps_updKeep {r s : State} (h : Keeps r s) : ∀ x0, Keeps r (State.updKeep s x0) := by
  intro x0
  unfold State.updKeep
  repeat' first
    | with_reducible assumption | intro _ | with_reducible exact Keeps.refl _ | with_reducible apply Keeps.ite
    | with_reducible apply Keeps.ite_fst | with_reducible apply Keeps.foldl | with_reducible apply Keeps.foldl_fst
    | with_reducible apply Keeps.forN | with_reducible refine Keeps.of_pair (by assumption) ?_
    | with_reducible refine Keeps.of_pair' (by assumption) ?_ | fail_if_no_progress with_reducible apply Keeps.lit

theorem keeps_keepLog {r s : State} (h : Keeps r s) : ∀ x0 x1 x2 x3 x4 x5 x6, Keeps r (keepLog s x0 x1 x2 x3 x4 x5 x6) := by
  intro x0 x1 x2 x3 x4 x5 x6
  unfold keepLog
  repeat' first
    | with_reducible assumption | intro _ | with_reducible exact Keeps.refl _ | with_reducible apply keeps_raise
    | with_reducible apply keeps_updKeep | with_reducible apply keeps_wr | with_reducible apply Keeps.ite

theorem keeps_deenergise {r s : State} (h : Keeps r s) : ∀ x0, Keeps r (deenergise s x0) := by
  intro x0
  unfold deenergise
  repeat' first
    | with_reducible assumption | intro _ | with_reducible exact Keeps.refl _ | with_reducible apply keeps_wr
    | with_reducible apply keeps_updKeep | with_reducible apply Keeps.ite | with_reducible apply Keeps.ite_fst
    | with_reducible apply Keeps.foldl | with_reducible apply Keeps.foldl_fst | with_reducible apply Keeps.forN

theorem keeps_keepRises {r s : State} (h : Keeps r s) : Keeps r (keepRises s) := by
  unfold keepRises
  repeat' first
    | with_reducible assumption | intro _ | with_reducible exact Keeps.refl _ | with_reducible apply keeps_pushEvt
    | with_reducible apply keeps_raise

theorem keeps_keepAtLock {r s : State} (h : Keeps r s) : Keeps r (keepAtLock s) := by
  unfold keepAtLock
  repeat' first
    | with_reducible assumption | intro _ | with_reducible exact Keeps.refl _ | with_reducible apply keeps_keepRises
    | with_reducible apply Keeps.ite

theorem keeps_gateRemoval {r s : State} (h : Keeps r s) : Keeps r (gateRemoval s) := by
  unfold gateRemoval
  repeat' first
    | with_reducible assumption | intro _ | with_reducible exact Keeps.refl _ | with_reducible apply keeps_wr
    | with_reducible apply keeps_raise | with_reducible apply keeps_keepRises | with_reducible apply Keeps.ite
    | with_reducible apply Keeps.ite_fst | with_reducible apply Keeps.foldl | with_reducible apply Keeps.foldl_fst
    | with_reducible apply Keeps.forN | with_reducible refine Keeps.of_pair (by assumption) ?_
    | with_reducible refine Keeps.of_pair' (by assumption) ?_ | fail_if_no_progress with_reducible apply Keeps.lit

theorem keeps_withdrawn {r s : State} (h : Keeps r s) : Keeps r (withdrawn s) := by
  unfold withdrawn
  repeat' first
    | with_reducible assumption | intro _ | with_reducible exact Keeps.refl _ | with_reducible apply keeps_deenergise
    | with_reducible apply keeps_gateRemoval | with_reducible apply keeps_raise | with_reducible apply keeps_clear

theorem keeps_demandSgr {r s : State} (h : Keeps r s) : Keeps r (demandSgr s) := by
  unfold demandSgr
  repeat' first
    | with_reducible assumption | intro _ | with_reducible exact Keeps.refl _ | with_reducible apply keeps_raise
    | with_reducible apply keeps_withdrawn | with_reducible apply keeps_gateRemoval | with_reducible apply Keeps.ite

theorem keeps_demandSpw {r s : State} (h : Keeps r s) : Keeps r (demandSpw s) := by
  unfold demandSpw
  repeat' first
    | with_reducible assumption | intro _ | with_reducible exact Keeps.refl _ | with_reducible apply keeps_withdrawn
    | with_reducible apply keeps_raise | with_reducible apply keeps_updKeep | with_reducible apply keeps_wr
    | with_reducible apply Keeps.ite

theorem keeps_kinPairs {r s : State} (h : Keeps r s) : Keeps r (kinPairs s) := by
  unfold kinPairs
  repeat' first
    | with_reducible assumption | intro _ | with_reducible exact Keeps.refl _ | with_reducible apply keeps_updKeep
    | with_reducible apply Keeps.ite | with_reducible apply Keeps.ite_fst | with_reducible apply Keeps.foldl
    | with_reducible apply Keeps.foldl_fst | with_reducible apply Keeps.forN

theorem keeps_keepDemand {r s : State} (h : Keeps r s) : ∀ x0, Keeps r (keepDemand s x0) := by
  intro x0
  unfold keepDemand
  repeat' first
    | with_reducible assumption | intro _ | with_reducible exact Keeps.refl _ | with_reducible apply keeps_orIn
    | with_reducible apply keeps_wr | with_reducible apply keeps_kinPairs | with_reducible apply keeps_raiseIf
    | with_reducible apply keeps_demandSgr | with_reducible apply keeps_raise | with_reducible apply keeps_deenergise
    | with_reducible apply keeps_demandSpw | with_reducible apply Keeps.ite

theorem keeps_keepDemandEnd {r s : State} (h : Keeps r s) : ∀ x0, Keeps r (keepDemandEnd s x0) := by
  intro x0
  unfold keepDemandEnd
  repeat' first
    | with_reducible assumption | intro _ | with_reducible exact Keeps.refl _ | with_reducible apply keeps_wr
    | with_reducible apply keeps_kinPairs | with_reducible apply keeps_orIn

theorem keeps_keepPairFault {r s : State} (h : Keeps r s) : ∀ x0, Keeps r (keepPairFault s x0) := by
  intro x0
  unfold keepPairFault
  repeat' first
    | with_reducible assumption | intro _ | with_reducible exact Keeps.refl _ | with_reducible apply keeps_toEdge
    | with_reducible apply keeps_updKeep | with_reducible apply keeps_raise | with_reducible apply Keeps.ite
    | with_reducible apply Keeps.ite_fst | with_reducible apply Keeps.foldl | with_reducible apply Keeps.foldl_fst
    | with_reducible apply Keeps.forN | with_reducible refine Keeps.of_pair (by assumption) ?_
    | with_reducible refine Keeps.of_pair' (by assumption) ?_ | fail_if_no_progress with_reducible apply Keeps.lit | split

theorem keeps_keepRelease {r s : State} (h : Keeps r s) : ∀ x0, Keeps r (keepRelease s x0) := by
  intro x0
  unfold keepRelease
  repeat' first
    | with_reducible assumption | intro _ | with_reducible exact Keeps.refl _ | with_reducible apply keeps_clear
    | with_reducible apply keeps_wr | with_reducible apply keeps_updKeep | with_reducible apply keeps_keepLog
    | with_reducible apply Keeps.ite | with_reducible apply Keeps.ite_fst | with_reducible apply Keeps.foldl
    | with_reducible apply Keeps.foldl_fst | with_reducible apply Keeps.forN
    | with_reducible refine Keeps.of_pair (by assumption) ?_ | with_reducible refine Keeps.of_pair' (by assumption) ?_
    | fail_if_no_progress with_reducible apply Keeps.lit

theorem keeps_keepAck {r s : State} (h : Keeps r s) : ∀ x0 x1, Keeps r (keepAck s x0 x1) := by
  intro x0 x1
  unfold keepAck
  repeat' first
    | with_reducible assumption | intro _ | with_reducible exact Keeps.refl _ | with_reducible apply keeps_updKeep
    | with_reducible apply keeps_keepRelease | with_reducible apply Keeps.ite

theorem keeps_keepCompare {r s : State} (h : Keeps r s) : Keeps r (keepCompare s) := by
  unfold keepCompare
  repeat' first
    | with_reducible assumption | intro _ | with_reducible exact Keeps.refl _ | with_reducible apply keeps_wr
    | with_reducible apply keeps_updKeep | with_reducible apply keeps_withdrawn | with_reducible apply keeps_raise
    | with_reducible apply Keeps.ite

theorem keeps_keepRampTimeout {r s : State} (h : Keeps r s) : Keeps r (keepRampTimeout s) := by
  unfold keepRampTimeout
  repeat' first
    | with_reducible assumption | intro _ | with_reducible exact Keeps.refl _ | with_reducible apply keeps_withdrawn
    | with_reducible apply keeps_raise | with_reducible apply keeps_toEdge | with_reducible apply Keeps.ite

theorem keeps_keepFeedback {r s : State} (h : Keeps r s) : ∀ x0 x1 x2, Keeps r (keepFeedback s x0 x1 x2) := by
  intro x0 x1 x2
  unfold keepFeedback
  repeat' first
    | with_reducible assumption | intro _ | with_reducible exact Keeps.refl _ | with_reducible apply keeps_wr
    | with_reducible apply keeps_updKeep

theorem keeps_keepDiscrepancy {r s : State} (h : Keeps r s) : ∀ x0, Keeps r (keepDiscrepancy s x0) := by
  intro x0
  unfold keepDiscrepancy
  repeat' first
    | with_reducible assumption | intro _ | with_reducible exact Keeps.refl _ | with_reducible apply keeps_toEdge
    | with_reducible apply keeps_updKeep | with_reducible apply keeps_raise | with_reducible apply keeps_demandSgr
    | with_reducible apply Keeps.ite | with_reducible apply Keeps.ite_fst | with_reducible apply Keeps.foldl
    | with_reducible apply Keeps.foldl_fst | with_reducible apply Keeps.forN
    | with_reducible refine Keeps.of_pair (by assumption) ?_ | with_reducible refine Keeps.of_pair' (by assumption) ?_
    | fail_if_no_progress with_reducible apply Keeps.lit | split

theorem keeps_fbFaultCleared {r s : State} (h : Keeps r s) : Keeps r (fbFaultCleared s) := by
  unfold fbFaultCleared
  repeat' first
    | with_reducible assumption | intro _ | with_reducible exact Keeps.refl _ | with_reducible apply keeps_updKeep

theorem keeps_keepFollow {r s : State} (h : Keeps r s) : ∀ x0, Keeps r (keepFollow s x0) := by
  intro x0
  unfold keepFollow
  repeat' first
    | with_reducible assumption | intro _ | with_reducible exact Keeps.refl _ | with_reducible apply keeps_updKeep
    | with_reducible apply keeps_raise | with_reducible apply keeps_toEdge | with_reducible apply Keeps.ite
    | with_reducible apply Keeps.ite_fst | with_reducible apply Keeps.foldl | with_reducible apply Keeps.foldl_fst
    | with_reducible apply Keeps.forN | with_reducible refine Keeps.of_pair (by assumption) ?_
    | with_reducible refine Keeps.of_pair' (by assumption) ?_ | fail_if_no_progress with_reducible apply Keeps.lit | split

theorem keeps_safeFault {r s : State} (h : Keeps r s) : ∀ x0, Keeps r (safeFault s x0) := by
  intro x0
  unfold safeFault
  repeat' first
    | with_reducible assumption | intro _ | with_reducible exact Keeps.refl _ | with_reducible apply keeps_wr
    | with_reducible apply keeps_raise | with_reducible apply keeps_withdrawn | with_reducible apply keeps_gateRemoval
    | with_reducible apply keeps_faultRecord | with_reducible apply keeps_deenergise | with_reducible apply keeps_keepLog
    | with_reducible apply Keeps.ite

theorem keeps_keepConfigCheck {r s : State} (h : Keeps r s) : Keeps r (keepConfigCheck s) := by
  unfold keepConfigCheck
  repeat' first
    | with_reducible assumption | intro _ | with_reducible exact Keeps.refl _ | with_reducible apply keeps_safeFault
    | with_reducible apply Keeps.ite | with_reducible apply Keeps.ite_fst | with_reducible apply Keeps.foldl
    | with_reducible apply Keeps.foldl_fst | with_reducible apply Keeps.forN
    | with_reducible refine Keeps.of_pair (by assumption) ?_ | with_reducible refine Keeps.of_pair' (by assumption) ?_
    | fail_if_no_progress with_reducible apply Keeps.lit | split

theorem keeps_keepMonitor {r s : State} (h : Keeps r s) : ∀ x0, Keeps r (keepMonitor s x0) := by
  intro x0
  unfold keepMonitor
  repeat' first
    | with_reducible assumption | intro _ | with_reducible exact Keeps.refl _ | with_reducible apply keeps_updKeep
    | with_reducible apply keeps_safeFault | with_reducible apply Keeps.ite

theorem keeps_keepUnlock {r s : State} (h : Keeps r s) : ∀ x0, Keeps r (keepUnlock s x0).1 := by
  intro x0
  unfold keepUnlock
  repeat' first
    | with_reducible assumption | intro _ | with_reducible exact Keeps.refl _ | with_reducible apply keeps_wr
    | with_reducible apply keeps_raise | with_reducible apply keeps_updKeep | with_reducible apply keeps_keepLog
    | with_reducible apply Keeps.ite | with_reducible apply Keeps.ite_fst

theorem keeps_keepLock {r s : State} (h : Keeps r s) : Keeps r (keepLock s) := by
  unfold keepLock
  repeat' first
    | with_reducible assumption | intro _ | with_reducible exact Keeps.refl _ | with_reducible apply keeps_clear

theorem keeps_keepCommit {r s : State} (h : Keeps r s) : ∀ x0, Keeps r (keepCommit s x0) := by
  intro x0
  unfold keepCommit
  repeat' first
    | with_reducible assumption | intro _ | with_reducible exact Keeps.refl _ | with_reducible apply keeps_load
    | with_reducible apply keeps_updKeep | with_reducible apply keeps_keepLock | with_reducible apply keeps_keepLog

theorem keeps_keepDiscard {r s : State} (h : Keeps r s) : Keeps r (keepDiscard s) := by
  unfold keepDiscard
  repeat' first
    | with_reducible assumption | intro _ | with_reducible exact Keeps.refl _ | with_reducible apply keeps_keepLock
    | with_reducible apply Keeps.ite | with_reducible apply Keeps.ite_fst | with_reducible apply Keeps.foldl
    | with_reducible apply Keeps.foldl_fst | with_reducible apply Keeps.forN
    | with_reducible refine Keeps.of_pair (by assumption) ?_ | with_reducible refine Keeps.of_pair' (by assumption) ?_
    | fail_if_no_progress with_reducible apply Keeps.lit

theorem keeps_keepSetPass {r s : State} (h : Keeps r s) : ∀ x0, Keeps r (keepSetPass s x0) := by
  intro x0
  unfold keepSetPass
  repeat' first
    | with_reducible assumption | intro _ | with_reducible exact Keeps.refl _ | with_reducible apply keeps_keepLog
    | with_reducible apply keeps_updKeep

theorem keeps_keepLogClear {r s : State} (h : Keeps r s) : ∀ x0, Keeps r (keepLogClear s x0) := by
  intro x0
  unfold keepLogClear
  repeat' first
    | with_reducible assumption | intro _ | with_reducible exact Keeps.refl _ | with_reducible apply keeps_keepLog
    | with_reducible apply keeps_updKeep

theorem keeps_keepUnlockExpiry {r s : State} (h : Keeps r s) : Keeps r (keepUnlockExpiry s) := by
  unfold keepUnlockExpiry
  repeat' first
    | with_reducible assumption | intro _ | with_reducible exact Keeps.refl _ | with_reducible apply keeps_keepLock
    | with_reducible apply keeps_toEdge | with_reducible apply Keeps.ite

theorem keeps_keepLockoutEnd {r s : State} (h : Keeps r s) : Keeps r (keepLockoutEnd s) := by
  unfold keepLockoutEnd
  repeat' first
    | with_reducible assumption | intro _ | with_reducible exact Keeps.refl _ | with_reducible apply keeps_wr
    | with_reducible apply keeps_clear | with_reducible apply keeps_toEdge | with_reducible apply Keeps.ite

theorem keeps_keepEffect {r s : State} (h : Keeps r s) : ∀ x0 x1 x2, Keeps r (keepEffect s x0 x1 x2) := by
  intro x0 x1 x2
  unfold keepEffect
  repeat' first
    | with_reducible assumption | intro _ | with_reducible exact Keeps.refl _ | with_reducible apply keeps_keepRelease
    | with_reducible apply keeps_demandSpw | with_reducible apply keeps_demandSgr | with_reducible apply keeps_fbFaultCleared
    | with_reducible apply keeps_updKeep | with_reducible apply keeps_keepCommit | with_reducible apply keeps_keepDiscard
    | with_reducible apply keeps_keepSetPass | with_reducible apply keeps_keepLogClear | with_reducible apply keeps_keepLock
    | with_reducible apply keeps_keepUnlock | with_reducible apply keeps_answer | with_reducible apply keeps_recordErr
    | with_reducible apply Keeps.ite

end Sys2Proof.Machine
end

