-- ==== Sys2Proof/Laws/KeepsG.lean ====
section
/-!
SUPPORT. What every operation of SpireSync.lean, Pipeline.lean, Command.lean keeps (Keeps.lean).
-/
namespace Sys2Proof.Machine

theorem keeps_resume {r s : State} (h : Keeps r s) : ∀ x0, Keeps r (resume s x0) := by
  intro x0
  unfold resume
  repeat' first
    | with_reducible assumption | intro _ | with_reducible exact Keeps.refl _ | with_reducible apply keeps_atBoundary
    | with_reducible apply keeps_updCore

theorem keeps_coreTicks {r s : State} (h : Keeps r s) : Keeps r (coreTicks s) := by
  unfold coreTicks
  repeat' first
    | with_reducible assumption | intro _ | with_reducible exact Keeps.refl _ | with_reducible apply keeps_updCore
    | with_reducible apply Keeps.ite | with_reducible apply Keeps.ite_fst | with_reducible apply Keeps.foldl
    | with_reducible apply Keeps.foldl_fst | with_reducible apply Keeps.forN

theorem keeps_waittRelease {r s : State} (h : Keeps r s) : Keeps r (waittRelease s) := by
  unfold waittRelease
  repeat' first
    | with_reducible assumption | intro _ | with_reducible exact Keeps.refl _ | with_reducible apply keeps_toEdge
    | with_reducible apply keeps_resume | with_reducible apply keeps_updCore | with_reducible apply Keeps.ite
    | with_reducible apply Keeps.ite_fst | with_reducible apply Keeps.foldl | with_reducible apply Keeps.foldl_fst
    | with_reducible apply Keeps.forN | with_reducible refine Keeps.of_pair (by assumption) ?_
    | with_reducible refine Keeps.of_pair' (by assumption) ?_ | fail_if_no_progress with_reducible apply Keeps.lit
    | with_reducible apply wf_gW | with_reducible apply wf_fW | with_reducible apply wf_acW | with_reducible apply wf_tcmPut
    | with_reducible apply wf_takeLoad | with_reducible apply wf_takeMsg | with_reducible exact wf_nil | split

theorem keeps_barRelease {r s : State} (h : Keeps r s) : ∀ x0, Keeps r (barRelease s x0) := by
  intro x0
  unfold barRelease
  repeat' first
    | with_reducible assumption | intro _ | with_reducible exact Keeps.refl _ | with_reducible apply keeps_toEdge
    | with_reducible apply keeps_resume | with_reducible apply keeps_updCore | with_reducible apply Keeps.ite
    | with_reducible apply Keeps.ite_fst | with_reducible apply Keeps.foldl | with_reducible apply Keeps.foldl_fst
    | with_reducible apply Keeps.forN | with_reducible refine Keeps.of_pair (by assumption) ?_
    | with_reducible refine Keeps.of_pair' (by assumption) ?_ | fail_if_no_progress with_reducible apply Keeps.lit
    | with_reducible apply wf_gW | with_reducible apply wf_fW | with_reducible apply wf_acW | with_reducible apply wf_tcmPut
    | with_reducible apply wf_takeLoad | with_reducible apply wf_takeMsg | with_reducible exact wf_nil | split

theorem keeps_barTimeout {r s : State} (h : Keeps r s) : ∀ x0, Keeps r (barTimeout s x0) := by
  intro x0
  unfold barTimeout
  repeat' first
    | with_reducible assumption | intro _ | with_reducible exact Keeps.refl _ | with_reducible apply keeps_raise
    | with_reducible apply keeps_toEdge | with_reducible apply keeps_resume | with_reducible apply keeps_updCore
    | with_reducible apply Keeps.ite | with_reducible apply Keeps.ite_fst | with_reducible apply Keeps.foldl
    | with_reducible apply Keeps.foldl_fst | with_reducible apply Keeps.forN
    | with_reducible refine Keeps.of_pair (by assumption) ?_ | with_reducible refine Keeps.of_pair' (by assumption) ?_
    | fail_if_no_progress with_reducible apply Keeps.lit | with_reducible apply wf_gW | with_reducible apply wf_fW
    | with_reducible apply wf_acW | with_reducible apply wf_tcmPut | with_reducible apply wf_takeLoad
    | with_reducible apply wf_takeMsg | with_reducible exact wf_nil | split

theorem keeps_recvRelease {r s : State} (h : Keeps r s) : ∀ x0, Keeps r (recvRelease s x0) := by
  intro x0
  unfold recvRelease
  repeat' first
    | with_reducible assumption | intro _ | with_reducible exact Keeps.refl _ | with_reducible apply keeps_resume
    | with_reducible apply keeps_updCore | with_reducible apply Keeps.ite | with_reducible apply Keeps.ite_fst
    | with_reducible apply Keeps.foldl | with_reducible apply Keeps.foldl_fst | with_reducible apply Keeps.forN
    | with_reducible refine Keeps.of_pair (by assumption) ?_ | with_reducible refine Keeps.of_pair' (by assumption) ?_
    | fail_if_no_progress with_reducible apply Keeps.lit | with_reducible apply wf_gW | with_reducible apply wf_fW
    | with_reducible apply wf_acW | with_reducible apply wf_tcmPut | with_reducible apply wf_takeLoad
    | with_reducible apply wf_takeMsg | with_reducible exact wf_nil | split

theorem keeps_lockGrant {r s : State} (h : Keeps r s) : ∀ x0, Keeps r (lockGrant s x0) := by
  intro x0
  unfold lockGrant
  repeat' first
    | with_reducible assumption | intro _ | with_reducible exact Keeps.refl _ | with_reducible apply keeps_atBoundary
    | with_reducible apply keeps_lockDone | with_reducible apply keeps_toEdge | with_reducible apply Keeps.ite
    | with_reducible apply Keeps.ite_fst | with_reducible apply Keeps.foldl | with_reducible apply Keeps.foldl_fst
    | with_reducible apply Keeps.forN | with_reducible refine Keeps.of_pair (by assumption) ?_
    | with_reducible refine Keeps.of_pair' (by assumption) ?_ | fail_if_no_progress with_reducible apply Keeps.lit | split

theorem keeps_onFab {r s : State} (h : Keeps r s) : ∀ x0, (∀ t, Keeps r t → Keeps r (x0 t)) → Keeps r (onFab s x0) := by
  intro x0 hf0
  unfold onFab
  repeat' first
    | with_reducible assumption | intro _ | with_reducible exact Keeps.refl _ | apply hf0 | with_reducible apply Keeps.ite

theorem keeps_correctedCycle {r s : State} (h : Keeps r s) : ∀ x0 x1, Keeps r (correctedCycle s x0 x1).1 := by
  intro x0 x1
  unfold correctedCycle
  repeat' first
    | with_reducible assumption | intro _ | with_reducible exact Keeps.refl _ | with_reducible apply keeps_raise
    | with_reducible apply Keeps.ite | with_reducible apply Keeps.ite_fst

theorem keeps_gridPassed {r s : State} (h : Keeps r s) : ∀ x0, Keeps r (gridPassed s x0) := by
  intro x0
  unfold gridPassed
  repeat' first
    | with_reducible assumption | intro _ | with_reducible exact Keeps.refl _ | with_reducible apply Keeps.ite
    | with_reducible apply Keeps.ite_fst | with_reducible apply Keeps.foldl | with_reducible apply Keeps.foldl_fst
    | with_reducible apply Keeps.forN | with_reducible refine Keeps.of_pair (by assumption) ?_
    | with_reducible refine Keeps.of_pair' (by assumption) ?_ | fail_if_no_progress with_reducible apply Keeps.lit

theorem keeps_gridCorrected {r s : State} (h : Keeps r s) : ∀ x0 x1, Keeps r (gridCorrected s x0 x1).1 := by
  intro x0 x1
  unfold gridCorrected
  repeat' first
    | with_reducible assumption | intro _ | with_reducible exact Keeps.refl _ | with_reducible apply keeps_correctedCycle
    | with_reducible apply keeps_wr

theorem keeps_discipline {r s : State} (h : Keeps r s) : Keeps r (discipline s).1 := by
  unfold discipline
  repeat' first
    | with_reducible assumption | intro _ | with_reducible exact Keeps.refl _ | with_reducible apply keeps_gridCorrected
    | with_reducible apply keeps_gridPassed | with_reducible apply Keeps.ite | with_reducible apply Keeps.ite_fst

theorem keeps_latchCycle {r s : State} (h : Keeps r s) : ∀ x0, Keeps r (latchCycle s x0) := by
  intro x0
  unfold latchCycle
  repeat' first
    | with_reducible assumption | intro _ | with_reducible exact Keeps.refl _ | with_reducible apply keeps_wr
    | with_reducible apply keeps_discipline | with_reducible apply keeps_followTaken | with_reducible apply Keeps.ite
    | with_reducible apply Keeps.ite_fst | with_reducible apply Keeps.foldl | with_reducible apply Keeps.foldl_fst
    | with_reducible apply Keeps.forN | with_reducible refine Keeps.of_pair (by assumption) ?_
    | with_reducible refine Keeps.of_pair' (by assumption) ?_ | fail_if_no_progress with_reducible apply Keeps.lit

theorem keeps_launchRing {r s : State} (h : Keeps r s) : ∀ x0, Keeps r (launchRing s x0) := by
  intro x0
  unfold launchRing
  repeat' first
    | with_reducible assumption | intro _ | with_reducible exact Keeps.refl _ | with_reducible apply keeps_mgmtNoack
    | with_reducible apply keeps_takeFree | with_reducible apply keeps_updEntry | with_reducible apply keeps_updRing
    | with_reducible apply keeps_clear | with_reducible apply keeps_wr | with_reducible apply Keeps.ite
    | with_reducible apply Keeps.ite_fst | with_reducible apply Keeps.foldl | with_reducible apply Keeps.foldl_fst
    | with_reducible apply Keeps.forN | with_reducible refine Keeps.of_pair (by assumption) ?_
    | with_reducible refine Keeps.of_pair' (by assumption) ?_ | fail_if_no_progress with_reducible apply Keeps.lit | split

theorem keeps_idleRing {r s : State} (h : Keeps r s) : ∀ x0, Keeps r (idleRing s x0) := by
  intro x0
  unfold idleRing
  repeat' first
    | with_reducible assumption | intro _ | with_reducible exact Keeps.refl _ | with_reducible apply keeps_updRing
    | with_reducible apply Keeps.ite

theorem keeps_launchAll {r s : State} (h : Keeps r s) : ∀ x0 x1, Keeps r (launchAll s x0 x1) := by
  intro x0 x1
  unfold launchAll
  repeat' first
    | with_reducible assumption | intro _ | with_reducible exact Keeps.refl _ | with_reducible apply keeps_idleRing
    | with_reducible apply keeps_blockRing | with_reducible apply keeps_updRing | with_reducible apply keeps_launchRing
    | with_reducible apply keeps_keepMonitor | with_reducible apply Keeps.ite | with_reducible apply Keeps.ite_fst
    | with_reducible apply Keeps.foldl

theorem keeps_setupOne {r s : State} (h : Keeps r s) : ∀ x0 x1, Keeps r (setupOne x0 s x1) := by
  intro x0 x1
  unfold setupOne
  repeat' first
    | with_reducible assumption | intro _ | with_reducible exact Keeps.refl _ | with_reducible apply keeps_updRing
    | with_reducible apply keeps_holdRing | with_reducible apply keeps_assembleRing | with_reducible apply keeps_resampleRing
    | with_reducible apply keeps_setupRing | with_reducible apply Keeps.ite

theorem keeps_launchSetup {r s : State} (h : Keeps r s) : ∀ x0, Keeps r (launchSetup s x0) := by
  intro x0
  unfold launchSetup
  repeat' first
    | with_reducible assumption | intro _ | with_reducible exact Keeps.refl _ | with_reducible apply keeps_toEdge
    | with_reducible apply keeps_clear | with_reducible apply keeps_flushGroup | with_reducible apply keeps_setupOne
    | with_reducible apply keeps_yieldTaken | with_reducible apply keeps_leaseExpiry | with_reducible apply keeps_verdict
    | with_reducible apply keeps_recordSetup | with_reducible apply Keeps.ite | with_reducible apply Keeps.ite_fst
    | with_reducible apply Keeps.foldl | with_reducible apply Keeps.foldl_fst | with_reducible apply Keeps.forN
    | with_reducible refine Keeps.of_pair (by assumption) ?_ | with_reducible refine Keeps.of_pair' (by assumption) ?_
    | fail_if_no_progress with_reducible apply Keeps.lit

theorem keeps_pipeTime {r s : State} (h : Keeps r s) : Keeps r (pipeTime s) := by
  unfold pipeTime
  repeat' first
    | with_reducible assumption | intro _ | with_reducible exact Keeps.refl _ | with_reducible apply keeps_wr
    | with_reducible apply Keeps.ite

theorem keeps_tickModes {r s : State} (h : Keeps r s) : ∀ x0, Keeps r (tickModes s x0) := by
  intro x0
  unfold tickModes
  repeat' first
    | with_reducible assumption | intro _ | with_reducible exact Keeps.refl _ | with_reducible apply keeps_loadTick
    | with_reducible apply keeps_wr | with_reducible apply keeps_updArm | with_reducible apply Keeps.ite
    | with_reducible apply Keeps.ite_fst | with_reducible apply Keeps.foldl | with_reducible apply Keeps.foldl_fst
    | with_reducible apply Keeps.forN

theorem keeps_tickAt {r s : State} (h : Keeps r s) : ∀ x0 x1, Keeps r (tickAt s x0 x1) := by
  intro x0 x1
  unfold tickAt
  repeat' first
    | with_reducible assumption | intro _ | with_reducible exact Keeps.refl _ | with_reducible apply keeps_toEdge
    | with_reducible apply keeps_recordLaunch | with_reducible apply keeps_pipeTime | with_reducible apply keeps_count
    | with_reducible apply keeps_updTwin | with_reducible apply keeps_twinTick | with_reducible apply keeps_tickModes
    | with_reducible apply keeps_ocSource | with_reducible apply keeps_latchCycle | with_reducible apply keeps_launchAll
    | with_reducible apply keeps_svTicks | with_reducible apply keeps_pwmTick | with_reducible apply keeps_ledgerTick
    | with_reducible apply keeps_coreTicks | with_reducible apply keeps_testTick | with_reducible apply Keeps.ite
    | with_reducible apply Keeps.ite_fst | with_reducible apply Keeps.foldl | with_reducible apply Keeps.foldl_fst
    | with_reducible apply Keeps.forN | with_reducible refine Keeps.of_pair (by assumption) ?_
    | with_reducible refine Keeps.of_pair' (by assumption) ?_ | fail_if_no_progress with_reducible apply Keeps.lit

theorem keeps_pipeEnd {r s : State} (h : Keeps r s) : Keeps r (pipeEnd s) := by
  unfold pipeEnd
  repeat' first
    | with_reducible assumption | intro _ | with_reducible exact Keeps.refl _ | with_reducible apply keeps_launchSetup
    | with_reducible apply keeps_pipeTime | with_reducible apply keeps_toEdge | with_reducible apply keeps_updRing
    | with_reducible apply Keeps.ite | with_reducible apply Keeps.ite_fst | with_reducible apply Keeps.foldl
    | with_reducible apply Keeps.foldl_fst | with_reducible apply Keeps.forN
    | with_reducible refine Keeps.of_pair (by assumption) ?_ | with_reducible refine Keeps.of_pair' (by assumption) ?_
    | fail_if_no_progress with_reducible apply Keeps.lit

theorem keeps_cycleTick {r s : State} (h : Keeps r s) : Keeps r (cycleTick s) := by
  unfold cycleTick
  repeat' first
    | with_reducible assumption | intro _ | with_reducible exact Keeps.refl _ | with_reducible apply keeps_launchSetup
    | with_reducible apply keeps_tickAt | with_reducible apply keeps_pipeEnd | with_reducible apply Keeps.ite

theorem keeps_posErr {r s : State} (h : Keeps r s) : ∀ x0, Keeps r (posErr s x0) := by
  intro x0
  unfold posErr
  repeat' first
    | with_reducible assumption | intro _ | with_reducible exact Keeps.refl _ | with_reducible apply keeps_raiseIf

theorem keeps_retDeadline {r s : State} (h : Keeps r s) : Keeps r (retDeadline s) := by
  unfold retDeadline
  repeat' first
    | with_reducible assumption | intro _ | with_reducible exact Keeps.refl _ | with_reducible apply keeps_toEdge
    | with_reducible apply keeps_ringMissed | with_reducible apply keeps_mgmtNoack | with_reducible apply keeps_posErr
    | with_reducible apply keeps_holdRest | with_reducible apply keeps_messageSend | with_reducible apply Keeps.ite
    | with_reducible apply Keeps.ite_fst | with_reducible apply Keeps.foldl | with_reducible apply Keeps.foldl_fst
    | with_reducible apply Keeps.forN | with_reducible refine Keeps.of_pair (by assumption) ?_
    | with_reducible refine Keeps.of_pair' (by assumption) ?_ | fail_if_no_progress with_reducible apply Keeps.lit

theorem keeps_cseCompletion {r s : State} (h : Keeps r s) : Keeps r (cseCompletion s) := by
  unfold cseCompletion
  repeat' first
    | with_reducible assumption | intro _ | with_reducible exact Keeps.refl _ | with_reducible apply keeps_toEdge
    | with_reducible apply keeps_ocCells | with_reducible apply keeps_flushGroup | with_reducible apply keeps_publishMean
    | with_reducible apply Keeps.ite | with_reducible apply Keeps.ite_fst | with_reducible apply Keeps.foldl
    | with_reducible apply Keeps.foldl_fst | with_reducible apply Keeps.forN
    | with_reducible refine Keeps.of_pair (by assumption) ?_ | with_reducible refine Keeps.of_pair' (by assumption) ?_
    | fail_if_no_progress with_reducible apply Keeps.lit

theorem keeps_leaseUpdate {r s : State} (h : Keeps r s) : Keeps r (leaseUpdate s) := by
  unfold leaseUpdate
  repeat' first
    | with_reducible assumption | intro _ | with_reducible exact Keeps.refl _ | with_reducible apply keeps_leaseUpdateCtx
    | with_reducible apply Keeps.ite | with_reducible apply Keeps.ite_fst | with_reducible apply Keeps.foldl
    | with_reducible apply Keeps.foldl_fst | with_reducible apply Keeps.forN
    | with_reducible refine Keeps.of_pair (by assumption) ?_ | with_reducible refine Keeps.of_pair' (by assumption) ?_
    | fail_if_no_progress with_reducible apply Keeps.lit

theorem keeps_nCutoff {r s : State} (h : Keeps r s) : Keeps r (nCutoff s) := by
  unfold nCutoff
  repeat' first
    | with_reducible assumption | intro _ | with_reducible exact Keeps.refl _ | with_reducible apply keeps_toEdge
    | with_reducible apply keeps_cutoffArm | with_reducible apply Keeps.ite | with_reducible apply Keeps.ite_fst
    | with_reducible apply Keeps.foldl | with_reducible apply Keeps.foldl_fst | with_reducible apply Keeps.forN
    | with_reducible refine Keeps.of_pair (by assumption) ?_ | with_reducible refine Keeps.of_pair' (by assumption) ?_
    | fail_if_no_progress with_reducible apply Keeps.lit

theorem keeps_budgetRefill {r s : State} (h : Keeps r s) : ∀ x0, Keeps r (budgetRefill s x0) := by
  intro x0
  unfold budgetRefill
  repeat' first
    | with_reducible assumption | intro _ | with_reducible exact Keeps.refl _ | with_reducible apply keeps_refillArm
    | with_reducible apply Keeps.ite

theorem keeps_selectorsDone {r s : State} (h : Keeps r s) : Keeps r (selectorsDone s) := by
  unfold selectorsDone
  repeat' first
    | with_reducible assumption | intro _ | with_reducible exact Keeps.refl _ | with_reducible apply keeps_toEdge
    | with_reducible apply keeps_sumsSent | with_reducible apply keeps_selectAll | with_reducible apply keeps_recordOpen
    | with_reducible apply Keeps.ite | with_reducible apply Keeps.ite_fst | with_reducible apply Keeps.foldl
    | with_reducible apply Keeps.foldl_fst | with_reducible apply Keeps.forN
    | with_reducible refine Keeps.of_pair (by assumption) ?_ | with_reducible refine Keeps.of_pair' (by assumption) ?_
    | fail_if_no_progress with_reducible apply Keeps.lit

theorem keeps_gateStageEnd {r s : State} (h : Keeps r s) : Keeps r (gateStageEnd s) := by
  unfold gateStageEnd
  repeat' first
    | with_reducible assumption | intro _ | with_reducible exact Keeps.refl _ | with_reducible apply keeps_toEdge
    | with_reducible apply keeps_gateStageDone | with_reducible apply Keeps.ite | with_reducible apply Keeps.ite_fst
    | with_reducible apply Keeps.foldl | with_reducible apply Keeps.foldl_fst | with_reducible apply Keeps.forN
    | with_reducible refine Keeps.of_pair (by assumption) ?_ | with_reducible refine Keeps.of_pair' (by assumption) ?_
    | fail_if_no_progress with_reducible apply Keeps.lit

theorem keeps_ringFrame {r s : State} (h : Keeps r s) : ∀ x0 x1 x2, Keeps r (ringFrame s x0 x1 x2) := by
  intro x0 x1 x2
  unfold ringFrame
  repeat' first
    | with_reducible assumption | intro _ | with_reducible exact Keeps.refl _ | with_reducible apply keeps_ringReceive
    | with_reducible apply keeps_twinAccept | with_reducible apply Keeps.ite | with_reducible apply Keeps.ite_fst
    | with_reducible apply Keeps.foldl | with_reducible apply Keeps.foldl_fst | with_reducible apply Keeps.forN
    | with_reducible refine Keeps.of_pair (by assumption) ?_ | with_reducible refine Keeps.of_pair' (by assumption) ?_
    | fail_if_no_progress with_reducible apply Keeps.lit | split

theorem keeps_ringLock {r s : State} (h : Keeps r s) : ∀ x0 x1, Keeps r (ringLock s x0 x1) := by
  intro x0 x1
  unfold ringLock
  repeat' first
    | with_reducible assumption | intro _ | with_reducible exact Keeps.refl _ | with_reducible apply keeps_wr

theorem keeps_ringClrStats {r s : State} (h : Keeps r s) : ∀ x0, Keeps r (ringClrStats s x0) := by
  intro x0
  unfold ringClrStats
  repeat' first
    | with_reducible assumption | intro _ | with_reducible exact Keeps.refl _ | with_reducible apply keeps_wr

theorem keeps_ringEffect {r s : State} (h : Keeps r s) : ∀ x0 x1 x2, Keeps r (ringEffect s x0 x1 x2) := by
  intro x0 x1 x2
  unfold ringEffect
  repeat' first
    | with_reducible assumption | intro _ | with_reducible exact Keeps.refl _ | with_reducible apply keeps_ringClrStats
    | with_reducible apply keeps_updRing | with_reducible apply Keeps.ite | with_reducible apply Keeps.ite_fst
    | with_reducible apply Keeps.foldl | with_reducible apply Keeps.foldl_fst | with_reducible apply Keeps.forN
    | with_reducible refine Keeps.of_pair (by assumption) ?_ | with_reducible refine Keeps.of_pair' (by assumption) ?_
    | fail_if_no_progress with_reducible apply Keeps.lit | split

theorem keeps_mgmtReturn {r s : State} (h : Keeps r s) : ∀ x0 x1 x2 x3, Keeps r (mgmtReturn s x0 x1 x2 x3) := by
  intro x0 x1 x2 x3
  unfold mgmtReturn
  repeat' first
    | with_reducible assumption | intro _ | with_reducible exact Keeps.refl _ | with_reducible apply keeps_mgmtComplete
    | with_reducible apply Keeps.ite

theorem keeps_gcsCellClr {r s : State} (h : Keeps r s) : ∀ x0, Keeps r (gcsCellClr s x0) := by
  intro x0
  unfold gcsCellClr
  repeat' first
    | with_reducible assumption | intro _ | with_reducible exact Keeps.refl _ | with_reducible apply keeps_updEntry

theorem keeps_gcsSet {r s : State} (h : Keeps r s) : ∀ x0, Keeps r (gcsSet s x0) := by
  intro x0
  unfold gcsSet
  repeat' first
    | with_reducible assumption | intro _ | with_reducible exact Keeps.refl _ | with_reducible apply keeps_pushEvt
    | with_reducible apply keeps_setArmLatches | with_reducible apply keeps_setRingLatch
    | with_reducible apply keeps_setAllLatch | with_reducible apply Keeps.ite

theorem keeps_evtLatch {r s : State} (h : Keeps r s) : Keeps r (evtLatch s).1 := by
  unfold evtLatch
  repeat' first
    | with_reducible assumption | intro _ | with_reducible exact Keeps.refl _ | with_reducible apply Keeps.ite
    | with_reducible apply Keeps.ite_fst | with_reducible apply Keeps.foldl | with_reducible apply Keeps.foldl_fst
    | with_reducible apply Keeps.forN | with_reducible refine Keeps.of_pair (by assumption) ?_
    | with_reducible refine Keeps.of_pair' (by assumption) ?_ | fail_if_no_progress with_reducible apply Keeps.lit

theorem keeps_evtPop {r s : State} (h : Keeps r s) : Keeps r (evtPop s).1 := by
  unfold evtPop
  repeat' first
    | with_reducible assumption | intro _ | with_reducible exact Keeps.refl _ | with_reducible apply Keeps.ite
    | with_reducible apply Keeps.ite_fst | with_reducible apply Keeps.foldl | with_reducible apply Keeps.foldl_fst
    | with_reducible apply Keeps.forN | with_reducible refine Keeps.of_pair (by assumption) ?_
    | with_reducible refine Keeps.of_pair' (by assumption) ?_ | fail_if_no_progress with_reducible apply Keeps.lit | split

theorem keeps_pipeEffect {r s : State} (h : Keeps r s) : ∀ x0 x1 x2, Keeps r (pipeEffect s x0 x1 x2) := by
  intro x0 x1 x2
  unfold pipeEffect
  repeat' first
    | with_reducible assumption | intro _ | with_reducible exact Keeps.refl _ | with_reducible apply keeps_clearOvr
    | with_reducible apply keeps_wr | with_reducible apply keeps_storeInit | with_reducible apply keeps_gcsSet
    | with_reducible apply keeps_gcsCellClr | with_reducible apply Keeps.ite | with_reducible apply Keeps.ite_fst
    | with_reducible apply Keeps.foldl | with_reducible apply Keeps.foldl_fst | with_reducible apply Keeps.forN

theorem keeps_updPort {r s : State} (h : Keeps r s) : ∀ x0, Keeps r (State.updPort s x0) := by
  intro x0
  unfold State.updPort
  repeat' first
    | with_reducible assumption | intro _ | with_reducible exact Keeps.refl _ | with_reducible apply Keeps.ite
    | with_reducible apply Keeps.ite_fst | with_reducible apply Keeps.foldl | with_reducible apply Keeps.foldl_fst
    | with_reducible apply Keeps.forN | with_reducible refine Keeps.of_pair (by assumption) ?_
    | with_reducible refine Keeps.of_pair' (by assumption) ?_ | fail_if_no_progress with_reducible apply Keeps.lit

theorem keeps_cplStatus {r s : State} (h : Keeps r s) : Keeps r (cplStatus s) := by
  unfold cplStatus
  repeat' first
    | with_reducible assumption | intro _ | with_reducible exact Keeps.refl _ | with_reducible apply keeps_clear
    | with_reducible apply Keeps.ite

theorem keeps_cmdEntryRead {r s : State} (h : Keeps r s) : Keeps r (cmdEntryRead s) := by
  unfold cmdEntryRead
  repeat' first
    | with_reducible assumption | intro _ | with_reducible exact Keeps.refl _ | with_reducible apply keeps_raise
    | with_reducible apply keeps_loadBytes | with_reducible apply keeps_wr | with_reducible apply keeps_updPort
    | with_reducible apply keeps_submit | with_reducible apply keeps_raiseIf | with_reducible apply keeps_recordErr
    | with_reducible apply Keeps.ite | with_reducible apply Keeps.ite_fst | with_reducible apply Keeps.foldl
    | with_reducible apply Keeps.foldl_fst | with_reducible apply Keeps.forN
    | with_reducible refine Keeps.of_pair (by assumption) ?_ | with_reducible refine Keeps.of_pair' (by assumption) ?_
    | fail_if_no_progress with_reducible apply Keeps.lit | split

theorem keeps_completionWrite {r s : State} (h : Keeps r s) : Keeps r (completionWrite s) := by
  unfold completionWrite
  repeat' first
    | with_reducible assumption | intro _ | with_reducible exact Keeps.refl _ | with_reducible apply keeps_raise
    | with_reducible apply keeps_engineStore | with_reducible apply keeps_wr | with_reducible apply keeps_updPort
    | with_reducible apply keeps_raiseIf | with_reducible apply Keeps.ite | with_reducible apply Keeps.ite_fst
    | with_reducible apply Keeps.foldl | with_reducible apply Keeps.foldl_fst | with_reducible apply Keeps.forN
    | with_reducible refine Keeps.of_pair (by assumption) ?_ | with_reducible refine Keeps.of_pair' (by assumption) ?_
    | fail_if_no_progress with_reducible apply Keeps.lit | split

theorem keeps_oldestSeq {r s : State} (h : Keeps r s) : Keeps r (oldestSeq s) := by
  unfold oldestSeq
  repeat' first
    | with_reducible assumption | intro _ | with_reducible exact Keeps.refl _ | with_reducible apply keeps_wr

theorem keeps_releaseCmds {r s : State} (h : Keeps r s) : Keeps r (releaseCmds s) := by
  unfold releaseCmds
  repeat' first
    | with_reducible assumption | intro _ | with_reducible exact Keeps.refl _ | with_reducible apply keeps_oldestSeq
    | with_reducible apply keeps_releaseWhere

theorem keeps_deliver {r s : State} (h : Keeps r s) : ∀ x0 x1, Keeps r (deliver s x0 x1) := by
  intro x0 x1
  unfold deliver
  repeat' first
    | with_reducible assumption | intro _ | with_reducible exact Keeps.refl _ | with_reducible apply keeps_queuePacket

theorem keeps_redeliver {r s : State} (h : Keeps r s) : ∀ x0, Keeps r (redeliver s x0) := by
  intro x0
  unfold redeliver
  repeat' first
    | with_reducible assumption | intro _ | with_reducible exact Keeps.refl _ | with_reducible apply keeps_deliver
    | with_reducible apply Keeps.ite | with_reducible apply Keeps.ite_fst | with_reducible apply Keeps.foldl

theorem keeps_installPage {r s : State} (h : Keeps r s) : ∀ x0 x1 x2, Keeps r (installPage s x0 x1 x2) := by
  intro x0 x1 x2
  unfold installPage
  repeat' first
    | with_reducible assumption | intro _ | with_reducible exact Keeps.refl _ | with_reducible apply keeps_raiseIf
    | with_reducible apply keeps_updLease | with_reducible apply keeps_updLdg | with_reducible apply Keeps.ite
    | with_reducible apply Keeps.ite_fst | with_reducible apply Keeps.foldl | with_reducible apply Keeps.foldl_fst
    | with_reducible apply Keeps.forN | with_reducible refine Keeps.of_pair (by assumption) ?_
    | with_reducible refine Keeps.of_pair' (by assumption) ?_ | fail_if_no_progress with_reducible apply Keeps.lit | split
    | dsimp only

theorem keeps_cmdAccepted {r s : State} (h : Keeps r s) : ∀ x0 x1 x2 x3, Keeps r (cmdAccepted s x0 x1 x2 x3) := by
  intro x0 x1 x2 x3
  unfold cmdAccepted
  repeat' first
    | with_reducible assumption | intro _ | with_reducible exact Keeps.refl _ | with_reducible apply keeps_updPort
    | with_reducible apply keeps_wr | with_reducible apply keeps_deliver | with_reducible apply keeps_releasePages
    | with_reducible apply keeps_releaseWhere | with_reducible apply keeps_releaseCmds | with_reducible apply Keeps.ite
    | with_reducible apply Keeps.ite_fst | with_reducible apply Keeps.foldl | with_reducible apply Keeps.foldl_fst
    | with_reducible apply Keeps.forN | with_reducible refine Keeps.of_pair (by assumption) ?_
    | with_reducible refine Keeps.of_pair' (by assumption) ?_ | fail_if_no_progress with_reducible apply Keeps.lit | split

theorem keeps_acceptWork {r s : State} (h : Keeps r s) : ∀ x, Keeps r (acceptWork s x) := by
  intro x
  unfold acceptWork
  split
  · exact keeps_cmdAccepted h _ _ _ _
  · exact keeps_offerPages (keeps_pageIssue (Keeps.ite (keeps_installPage h _ _ _) h) _ _)
  · exact keeps_ackAccepted h _ _ _ _
  · exact h

theorem keeps_journalAccept {r s : State} (h : Keeps r s) : ∀ x0, Keeps r (journalAccept s x0) := by
  intro x0
  unfold journalAccept
  repeat' first
    | with_reducible assumption | intro _ | with_reducible exact Keeps.refl _ | with_reducible apply keeps_writeTrailer
    | with_reducible apply keeps_acceptWork | with_reducible apply keeps_submitPages | with_reducible apply keeps_admitWaiting
    | with_reducible apply Keeps.ite | with_reducible apply Keeps.ite_fst | with_reducible apply Keeps.foldl
    | with_reducible apply Keeps.foldl_fst | with_reducible apply Keeps.forN
    | with_reducible refine Keeps.of_pair (by assumption) ?_ | with_reducible refine Keeps.of_pair' (by assumption) ?_
    | fail_if_no_progress with_reducible apply Keeps.lit | split

theorem keeps_remoteCommit {r s : State} (h : Keeps r s) : ∀ x0 x1, Keeps r (remoteCommit s x0 x1) := by
  intro x0 x1
  unfold remoteCommit
  repeat' first
    | with_reducible assumption | intro _ | with_reducible exact Keeps.refl _ | with_reducible apply keeps_acceptWork
    | with_reducible apply keeps_writeTrailer | with_reducible apply Keeps.ite | with_reducible apply Keeps.ite_fst
    | with_reducible apply Keeps.foldl | with_reducible apply Keeps.foldl_fst | with_reducible apply Keeps.forN
    | with_reducible refine Keeps.of_pair (by assumption) ?_ | with_reducible refine Keeps.of_pair' (by assumption) ?_
    | fail_if_no_progress with_reducible apply Keeps.lit | split

theorem keeps_journalDrain {r s : State} (h : Keeps r s) : Keeps r (journalDrain s) := by
  unfold journalDrain
  repeat' first
    | with_reducible assumption | intro _ | with_reducible exact Keeps.refl _ | with_reducible apply keeps_localPrepare
    | with_reducible apply keeps_preparedReceive | with_reducible apply keeps_journalAccept | with_reducible apply Keeps.ite
    | with_reducible apply Keeps.ite_fst | with_reducible apply Keeps.foldl | with_reducible apply Keeps.foldl_fst
    | with_reducible apply Keeps.forN | with_reducible refine Keeps.of_pair (by assumption) ?_
    | with_reducible refine Keeps.of_pair' (by assumption) ?_ | fail_if_no_progress with_reducible apply Keeps.lit | split

theorem keeps_rebuildSeq {r s : State} (h : Keeps r s) : Keeps r (rebuildSeq s) := by
  unfold rebuildSeq
  repeat' first
    | with_reducible assumption | intro _ | with_reducible exact Keeps.refl _ | with_reducible apply keeps_wr
    | with_reducible apply keeps_oldestSeq | with_reducible apply keeps_updPort | with_reducible apply Keeps.ite
    | with_reducible apply Keeps.ite_fst | with_reducible apply Keeps.foldl | with_reducible apply Keeps.foldl_fst
    | with_reducible apply Keeps.forN | with_reducible refine Keeps.of_pair (by assumption) ?_
    | with_reducible refine Keeps.of_pair' (by assumption) ?_ | fail_if_no_progress with_reducible apply Keeps.lit | split

theorem keeps_rollForward {r s : State} (h : Keeps r s) : Keeps r (rollForward s) := by
  unfold rollForward
  repeat' first
    | with_reducible assumption | intro _ | with_reducible exact Keeps.refl _ | with_reducible apply keeps_cmdAccepted
    | with_reducible apply keeps_acceptWork | with_reducible apply keeps_updRec | with_reducible apply Keeps.ite
    | with_reducible apply Keeps.ite_fst | with_reducible apply Keeps.foldl | with_reducible apply Keeps.foldl_fst
    | with_reducible apply Keeps.forN | with_reducible refine Keeps.of_pair (by assumption) ?_
    | with_reducible refine Keeps.of_pair' (by assumption) ?_ | fail_if_no_progress with_reducible apply Keeps.lit | split

theorem keeps_releaseFound {r s : State} (h : Keeps r s) : Keeps r (releaseFound s) := by
  unfold releaseFound
  repeat' first
    | with_reducible assumption | intro _ | with_reducible exact Keeps.refl _ | with_reducible apply keeps_wr
    | with_reducible apply keeps_releaseWhere | with_reducible apply keeps_releasePages | with_reducible apply Keeps.ite
    | with_reducible apply Keeps.ite_fst | with_reducible apply Keeps.foldl | with_reducible apply Keeps.foldl_fst
    | with_reducible apply Keeps.forN | with_reducible refine Keeps.of_pair (by assumption) ?_
    | with_reducible refine Keeps.of_pair' (by assumption) ?_ | fail_if_no_progress with_reducible apply Keeps.lit | split

theorem keeps_completeDropped {r s : State} (h : Keeps r s) : Keeps r (completeDropped s) := by
  unfold completeDropped
  repeat' first
    | with_reducible assumption | intro _ | with_reducible exact Keeps.refl _ | with_reducible apply keeps_raise
    | with_reducible apply keeps_wr | with_reducible apply keeps_updPort | with_reducible apply Keeps.ite

theorem keeps_recoveryComplete {r s : State} (h : Keeps r s) : ∀ x0, Keeps r (recoveryComplete s x0) := by
  intro x0
  unfold recoveryComplete
  repeat' first
    | with_reducible assumption | intro _ | with_reducible exact Keeps.refl _ | with_reducible apply keeps_recoverDone
    | with_reducible apply keeps_rollForward | with_reducible apply keeps_releaseFound | with_reducible apply keeps_rebuildPages
    | with_reducible apply keeps_releaseCmds | with_reducible apply keeps_redeliver | with_reducible apply keeps_rebuildSeq
    | with_reducible apply keeps_completeDropped | with_reducible apply keeps_submitPages
    | with_reducible apply keeps_offerAgain | with_reducible apply keeps_offerPages | with_reducible apply Keeps.ite

theorem keeps_fwDone {r s : State} (h : Keeps r s) : ∀ x0, Keeps r (fwDone s x0) := by
  intro x0
  unfold fwDone
  repeat' first
    | with_reducible assumption | intro _ | with_reducible exact Keeps.refl _ | with_reducible apply keeps_releaseCmds
    | with_reducible apply keeps_wr

theorem keeps_doorbell {r s : State} (h : Keeps r s) : ∀ x0, Keeps r (doorbell s x0) := by
  intro x0
  unfold doorbell
  repeat' first
    | with_reducible assumption | intro _ | with_reducible exact Keeps.refl _ | with_reducible apply keeps_updPort
    | with_reducible apply Keeps.ite | with_reducible apply Keeps.ite_fst | with_reducible apply Keeps.foldl
    | with_reducible apply Keeps.foldl_fst | with_reducible apply Keeps.forN

theorem keeps_hostEvent {r s : State} (h : Keeps r s) : ∀ x0, Keeps r (hostEvent s x0) := by
  intro x0
  unfold hostEvent
  repeat' first
    | with_reducible assumption | intro _ | with_reducible exact Keeps.refl _ | with_reducible apply keeps_ownerFault
    | with_reducible apply keeps_raise | with_reducible apply keeps_clear | with_reducible apply Keeps.ite

end Sys2Proof.Machine
end

