-- ==== Sys2Proof/Laws/KeepsH.lean ====
section
/-!
SUPPORT. What every operation of Lantern.lean, System.lean, Secure.lean keeps (Keeps.lean).
-/
namespace Sys2Proof.Machine

theorem keeps_updLant {r s : State} (h : Keeps r s) : ∀ x0, Keeps r (State.updLant s x0) := by
  intro x0
  unfold State.updLant
  repeat' first
    | with_reducible assumption | intro _ | with_reducible exact Keeps.refl _ | with_reducible apply Keeps.ite
    | with_reducible apply Keeps.ite_fst | with_reducible apply Keeps.foldl | with_reducible apply Keeps.foldl_fst
    | with_reducible apply Keeps.forN | with_reducible refine Keeps.of_pair (by assumption) ?_
    | with_reducible refine Keeps.of_pair' (by assumption) ?_ | fail_if_no_progress with_reducible apply Keeps.lit

theorem keeps_setTick {r s : State} (h : Keeps r s) : ∀ x0, Keeps r (setTick s x0) := by
  intro x0
  unfold setTick
  repeat' first
    | with_reducible assumption | intro _ | with_reducible exact Keeps.refl _ | with_reducible apply keeps_updLant

theorem keeps_tickAtEvent {r s : State} (h : Keeps r s) : ∀ x0, Keeps r (tickAtEvent s x0) := by
  intro x0
  unfold tickAtEvent
  repeat' first
    | with_reducible assumption | intro _ | with_reducible exact Keeps.refl _ | with_reducible apply keeps_setTick
    | with_reducible apply Keeps.ite

theorem keeps_disarmAuto {r s : State} (h : Keeps r s) : Keeps r (disarmAuto s) := by
  unfold disarmAuto
  repeat' first
    | with_reducible assumption | intro _ | with_reducible exact Keeps.refl _ | with_reducible apply keeps_updLant
    | with_reducible apply keeps_clear | with_reducible apply Keeps.ite

theorem keeps_stopCores {r s : State} (h : Keeps r s) : Keeps r (stopCores s) := by
  unfold stopCores
  repeat' first
    | with_reducible assumption | intro _ | with_reducible exact Keeps.refl _ | with_reducible apply keeps_updLant

theorem keeps_resumeCores {r s : State} (h : Keeps r s) : Keeps r (resumeCores s) := by
  unfold resumeCores
  repeat' first
    | with_reducible assumption | intro _ | with_reducible exact Keeps.refl _ | with_reducible apply keeps_updLant
    | with_reducible apply keeps_updCore | with_reducible apply Keeps.ite | with_reducible apply Keeps.ite_fst
    | with_reducible apply Keeps.foldl | with_reducible apply Keeps.foldl_fst | with_reducible apply Keeps.forN
    | with_reducible refine Keeps.of_pair (by assumption) ?_ | with_reducible refine Keeps.of_pair' (by assumption) ?_
    | fail_if_no_progress with_reducible apply Keeps.lit | with_reducible apply wf_gW | with_reducible apply wf_fW
    | with_reducible apply wf_acW | with_reducible apply wf_tcmPut | with_reducible apply wf_takeLoad
    | with_reducible apply wf_takeMsg | with_reducible exact wf_nil | split

theorem keeps_backInRun {r s : State} (h : Keeps r s) : Keeps r (backInRun s) := by
  unfold backInRun
  repeat' first
    | with_reducible assumption | intro _ | with_reducible exact Keeps.refl _ | with_reducible apply keeps_resumeCores
    | with_reducible apply keeps_wr | with_reducible apply keeps_updLant | with_reducible apply keeps_disarmAuto
    | with_reducible apply keeps_clear | with_reducible apply Keeps.ite | with_reducible apply Keeps.ite_fst
    | with_reducible apply Keeps.foldl | with_reducible apply Keeps.foldl_fst | with_reducible apply Keeps.forN
    | with_reducible refine Keeps.of_pair (by assumption) ?_ | with_reducible refine Keeps.of_pair' (by assumption) ?_
    | fail_if_no_progress with_reducible apply Keeps.lit

theorem keeps_entryAbort {r s : State} (h : Keeps r s) : Keeps r (entryAbort s) := by
  unfold entryAbort
  repeat' first
    | with_reducible assumption | intro _ | with_reducible exact Keeps.refl _ | with_reducible apply keeps_raise
    | with_reducible apply keeps_wr | with_reducible apply keeps_backInRun

theorem keeps_entryStart {r s : State} (h : Keeps r s) : ∀ x0, Keeps r (entryStart s x0) := by
  intro x0
  unfold entryStart
  repeat' first
    | with_reducible assumption | intro _ | with_reducible exact Keeps.refl _ | with_reducible apply keeps_wr
    | with_reducible apply keeps_raise | with_reducible apply keeps_updLant

theorem keeps_exitStart {r s : State} (h : Keeps r s) : Keeps r (exitStart s) := by
  unfold exitStart
  repeat' first
    | with_reducible assumption | intro _ | with_reducible exact Keeps.refl _ | with_reducible apply keeps_updLant
    | with_reducible apply keeps_wr | with_reducible apply keeps_raise

theorem keeps_wakeNow {r s : State} (h : Keeps r s) : Keeps r (wakeNow s) := by
  unfold wakeNow
  repeat' first
    | with_reducible assumption | intro _ | with_reducible exact Keeps.refl _ | with_reducible apply keeps_updLant
    | with_reducible apply keeps_wr | with_reducible apply keeps_entryAbort | with_reducible apply keeps_exitStart
    | with_reducible apply Keeps.ite

theorem keeps_latchWake {r s : State} (h : Keeps r s) : ∀ x0, Keeps r (latchWake s x0) := by
  intro x0
  unfold latchWake
  repeat' first
    | with_reducible assumption | intro _ | with_reducible exact Keeps.refl _ | with_reducible apply keeps_wr
    | with_reducible apply keeps_orIn | with_reducible apply keeps_wakeNow | with_reducible apply Keeps.ite

theorem keeps_campanileWake {r s : State} (h : Keeps r s) : Keeps r (campanileWake s) := by
  unfold campanileWake
  repeat' first
    | with_reducible assumption | intro _ | with_reducible exact Keeps.refl _ | with_reducible apply keeps_latchWake

theorem keeps_keepHeld {r s : State} (h : Keeps r s) : ∀ old, Keeps r (keepHeld old s) := by
  intro old
  unfold keepHeld
  refine keeps_wr (keeps_wr (Keeps.foldl _ _ ?_ (fun t p k => ?_)) _ _ _ _) _ _ _ _
  · exact h.upd rfl rfl rfl rfl rfl
  · exact k.upd rfl rfl rfl rfl rfl

theorem keeps_keepRestart {r s : State} (h : Keeps r s) : Keeps r (keepRestart s) := by
  unfold keepRestart
  repeat' first
    | with_reducible assumption | intro _ | with_reducible exact Keeps.refl _ | with_reducible apply keeps_keepHeld
    | with_reducible apply Keeps.ite | with_reducible apply Keeps.ite_fst | with_reducible apply Keeps.foldl
    | with_reducible apply Keeps.foldl_fst | with_reducible apply Keeps.forN
    | with_reducible refine Keeps.of_pair (by assumption) ?_ | with_reducible refine Keeps.of_pair' (by assumption) ?_
    | fail_if_no_progress with_reducible apply Keeps.lit

theorem keeps_loseMemory {r s : State} (h : Keeps r s) : Keeps r (loseMemory s) :=
  h.bytes rfl rfl rfl rfl (memFilter_wf _ _)

theorem keeps_stopConv {r s : State} (h : Keeps r s) : Keeps r (stopConv s) := by
  unfold stopConv
  repeat' first
    | with_reducible assumption | intro _ | with_reducible exact Keeps.refl _ | with_reducible apply keeps_adcEndEarly
    | with_reducible apply Keeps.ite | with_reducible apply Keeps.ite_fst | with_reducible apply Keeps.foldl
    | with_reducible apply Keeps.foldl_fst | with_reducible apply Keeps.forN

theorem keeps_stateReached {r s : State} (h : Keeps r s) : ∀ x0, Keeps r (stateReached s x0) := by
  intro x0
  unfold stateReached
  repeat' first
    | with_reducible assumption | intro _ | with_reducible exact Keeps.refl _ | with_reducible apply keeps_stopCores
    | with_reducible apply keeps_stopConv | with_reducible apply keeps_loseMemory | with_reducible apply keeps_clear
    | with_reducible apply keeps_wr | with_reducible apply keeps_updLant | with_reducible apply keeps_raise
    | with_reducible apply keeps_exitStart | with_reducible apply keeps_entryStart | with_reducible apply Keeps.ite
    | with_reducible apply Keeps.ite_fst | with_reducible apply Keeps.foldl | with_reducible apply Keeps.foldl_fst
    | with_reducible apply Keeps.forN | with_reducible refine Keeps.of_pair (by assumption) ?_
    | with_reducible refine Keeps.of_pair' (by assumption) ?_ | fail_if_no_progress with_reducible apply Keeps.lit

theorem keeps_entryE2 {r s : State} (h : Keeps r s) : ∀ x0, Keeps r (entryE2 s x0) := by
  intro x0
  unfold entryE2
  repeat' first
    | with_reducible assumption | intro _ | with_reducible exact Keeps.refl _ | with_reducible apply keeps_journalDrain
    | with_reducible apply keeps_ckptNow | with_reducible apply keeps_raise | with_reducible apply keeps_raiseIf
    | with_reducible apply keeps_wr
    | with_reducible apply keeps_backInRun | with_reducible apply keeps_entryAbort | with_reducible apply keeps_updLant
    | with_reducible apply Keeps.ite | with_reducible apply Keeps.ite_fst | with_reducible apply Keeps.foldl
    | with_reducible apply Keeps.foldl_fst | with_reducible apply Keeps.forN
    | with_reducible refine Keeps.of_pair (by assumption) ?_ | with_reducible refine Keeps.of_pair' (by assumption) ?_
    | fail_if_no_progress with_reducible apply Keeps.lit

theorem keeps_entryE3 {r s : State} (h : Keeps r s) : Keeps r (entryE3 s) := by
  unfold entryE3
  repeat' first
    | with_reducible assumption | intro _ | with_reducible exact Keeps.refl _ | with_reducible apply keeps_queueVisible
    | with_reducible apply keeps_entryAbort | with_reducible apply keeps_updLant | with_reducible apply Keeps.ite
    | with_reducible apply Keeps.ite_fst | with_reducible apply Keeps.foldl | with_reducible apply Keeps.foldl_fst
    | with_reducible apply Keeps.forN | with_reducible refine Keeps.of_pair (by assumption) ?_
    | with_reducible refine Keeps.of_pair' (by assumption) ?_ | fail_if_no_progress with_reducible apply Keeps.lit

theorem keeps_entryE4 {r s : State} (h : Keeps r s) : Keeps r (entryE4 s) := by
  unfold entryE4
  repeat' first
    | with_reducible assumption | intro _ | with_reducible exact Keeps.refl _ | with_reducible apply keeps_stopCores
    | with_reducible apply keeps_stopConv | with_reducible apply keeps_toEdge | with_reducible apply keeps_disarmTick
    | with_reducible apply keeps_wr | with_reducible apply keeps_clear | with_reducible apply keeps_setTick
    | with_reducible apply keeps_updLant | with_reducible apply Keeps.ite | with_reducible apply Keeps.ite_fst
    | with_reducible apply Keeps.foldl | with_reducible apply Keeps.foldl_fst | with_reducible apply Keeps.forN
    | with_reducible refine Keeps.of_pair (by assumption) ?_ | with_reducible refine Keeps.of_pair' (by assumption) ?_
    | fail_if_no_progress with_reducible apply Keeps.lit

theorem keeps_entryE5 {r s : State} (h : Keeps r s) : Keeps r (entryE5 s) := by
  unfold entryE5
  repeat' first
    | with_reducible assumption | intro _ | with_reducible exact Keeps.refl _ | with_reducible apply keeps_stateReached
    | with_reducible apply keeps_updLant

theorem keeps_entryStep {r s : State} (h : Keeps r s) : ∀ x0, Keeps r (entryStep s x0) := by
  intro x0
  unfold entryStep
  repeat' first
    | with_reducible assumption | intro _ | with_reducible exact Keeps.refl _ | with_reducible apply keeps_stateReached
    | with_reducible apply keeps_entryE2 | with_reducible apply keeps_entryE3 | with_reducible apply keeps_entryE4
    | with_reducible apply keeps_entryE5 | with_reducible apply Keeps.ite | with_reducible apply Keeps.ite_fst
    | with_reducible apply Keeps.foldl | with_reducible apply Keeps.foldl_fst | with_reducible apply Keeps.forN
    | with_reducible refine Keeps.of_pair (by assumption) ?_ | with_reducible refine Keeps.of_pair' (by assumption) ?_
    | fail_if_no_progress with_reducible apply Keeps.lit | split

theorem keeps_leaveSleep {r s : State} (h : Keeps r s) : ∀ x0, Keeps r (leaveSleep s x0) := by
  intro x0
  unfold leaveSleep
  repeat' first
    | with_reducible assumption | intro _ | with_reducible exact Keeps.refl _ | with_reducible apply keeps_timeLost
    | with_reducible apply keeps_timeCarried | with_reducible apply keeps_keepRestart | with_reducible apply keeps_updLant
    | with_reducible apply keeps_setTick | with_reducible apply Keeps.ite | with_reducible apply Keeps.ite_fst
    | with_reducible apply Keeps.foldl | with_reducible apply Keeps.foldl_fst | with_reducible apply Keeps.forN
    | with_reducible refine Keeps.of_pair (by assumption) ?_ | with_reducible refine Keeps.of_pair' (by assumption) ?_
    | fail_if_no_progress with_reducible apply Keeps.lit | split

theorem keeps_exitComplete {r s : State} (h : Keeps r s) : ∀ x0, Keeps r (exitComplete s x0) := by
  intro x0
  unfold exitComplete
  repeat' first
    | with_reducible assumption | intro _ | with_reducible exact Keeps.refl _ | with_reducible apply keeps_leaveSleep
    | with_reducible apply keeps_raise | with_reducible apply keeps_backInRun | with_reducible apply keeps_updLant
    | with_reducible apply keeps_entryStart | with_reducible apply Keeps.ite | with_reducible apply Keeps.ite_fst
    | with_reducible apply Keeps.foldl | with_reducible apply Keeps.foldl_fst | with_reducible apply Keeps.forN
    | with_reducible refine Keeps.of_pair (by assumption) ?_ | with_reducible refine Keeps.of_pair' (by assumption) ?_
    | fail_if_no_progress with_reducible apply Keeps.lit | split

theorem keeps_requestState {r s : State} (h : Keeps r s) : ∀ x0, Keeps r (requestState s x0) := by
  intro x0
  unfold requestState
  repeat' first
    | with_reducible assumption | intro _ | with_reducible exact Keeps.refl _ | with_reducible apply keeps_wr
    | with_reducible apply keeps_entryStart | with_reducible apply Keeps.ite

theorem keeps_armAuto {r s : State} (h : Keeps r s) : ∀ x0, Keeps r (armAuto s x0) := by
  intro x0
  unfold armAuto
  repeat' first
    | with_reducible assumption | intro _ | with_reducible exact Keeps.refl _ | with_reducible apply keeps_updLant
    | with_reducible apply keeps_raise | with_reducible apply keeps_wr | with_reducible apply Keeps.ite
    | with_reducible apply Keeps.ite_fst | with_reducible apply Keeps.foldl | with_reducible apply Keeps.foldl_fst
    | with_reducible apply Keeps.forN | with_reducible refine Keeps.of_pair (by assumption) ?_
    | with_reducible refine Keeps.of_pair' (by assumption) ?_ | fail_if_no_progress with_reducible apply Keeps.lit | split

theorem keeps_lanternReq {r s : State} (h : Keeps r s) : ∀ x0, Keeps r (lanternReq s x0) := by
  intro x0
  unfold lanternReq
  repeat' first
    | with_reducible assumption | intro _ | with_reducible exact Keeps.refl _ | with_reducible apply keeps_wakeNow
    | with_reducible apply keeps_requestState | with_reducible apply keeps_armAuto | with_reducible apply keeps_raise
    | with_reducible apply keeps_wr | with_reducible apply Keeps.ite | with_reducible apply Keeps.ite_fst
    | with_reducible apply Keeps.foldl | with_reducible apply Keeps.foldl_fst | with_reducible apply Keeps.forN
    | with_reducible refine Keeps.of_pair (by assumption) ?_ | with_reducible refine Keeps.of_pair' (by assumption) ?_
    | fail_if_no_progress with_reducible apply Keeps.lit | split

theorem keeps_lwakeEdge {r s : State} (h : Keeps r s) : ∀ x0 x1 x2, Keeps r (lwakeEdge s x0 x1 x2) := by
  intro x0 x1 x2
  unfold lwakeEdge
  repeat' first
    | with_reducible assumption | intro _ | with_reducible exact Keeps.refl _ | with_reducible apply keeps_tickAtEvent
    | with_reducible apply keeps_latchWake | with_reducible apply Keeps.ite

theorem keeps_lanternAlarm {r s : State} (h : Keeps r s) : Keeps r (lanternAlarm s) := by
  unfold lanternAlarm
  repeat' first
    | with_reducible assumption | intro _ | with_reducible exact Keeps.refl _ | with_reducible apply keeps_toEdge
    | with_reducible apply keeps_setTick | with_reducible apply keeps_latchWake | with_reducible apply Keeps.ite

theorem keeps_wakePort {r s : State} (h : Keeps r s) : ∀ x0 x1 x2, Keeps r (wakePort s x0 x1 x2) := by
  intro x0 x1 x2
  unfold wakePort
  repeat' first
    | with_reducible assumption | intro _ | with_reducible exact Keeps.refl _ | with_reducible apply keeps_tickAtEvent
    | with_reducible apply keeps_updLant | with_reducible apply keeps_latchWake | with_reducible apply keeps_wakeNow
    | with_reducible apply Keeps.ite

theorem keeps_vaonLevel {r s : State} (h : Keeps r s) : ∀ x0 x1, Keeps r (vaonLevel s x0 x1) := by
  intro x0 x1
  unfold vaonLevel
  repeat' first
    | with_reducible assumption | intro _ | with_reducible exact Keeps.refl _ | with_reducible apply keeps_updLant
    | with_reducible apply keeps_raiseIf | with_reducible apply keeps_wr

theorem keeps_oscStopped {r s : State} (h : Keeps r s) : Keeps r (oscStopped s) := by
  unfold oscStopped
  repeat' first
    | with_reducible assumption | intro _ | with_reducible exact Keeps.refl _ | with_reducible apply keeps_updLant
    | with_reducible apply keeps_raise

theorem keeps_lanternEffect {r s : State} (h : Keeps r s) : ∀ x0 x1, Keeps r (lanternEffect s x0 x1) := by
  intro x0 x1
  unfold lanternEffect
  repeat' first
    | with_reducible assumption | intro _ | with_reducible exact Keeps.refl _ | with_reducible apply keeps_lanternReq
    | with_reducible apply keeps_updLant | with_reducible apply Keeps.ite | with_reducible apply Keeps.ite_fst
    | with_reducible apply Keeps.foldl | with_reducible apply Keeps.foldl_fst | with_reducible apply Keeps.forN
    | with_reducible refine Keeps.of_pair (by assumption) ?_ | with_reducible refine Keeps.of_pair' (by assumption) ?_
    | fail_if_no_progress with_reducible apply Keeps.lit | split

theorem keeps_deviceCleared {r s : State} (h : Keeps r s) : Keeps r (deviceCleared s) := by
  have k := keeps_loseMemory h
  unfold deviceCleared
  refine keeps_keepHeld ?_ _
  refine ⟨k.pending, k.terms, k.fab, fun m => ⟨(k.mem m).1, fun c => ?_⟩⟩
  exact wf_nil

theorem keeps_mramTorn {r s : State} (h : Keeps r s) : ∀ x0, Keeps r (mramTorn s x0) := by
  intro x0
  unfold mramTorn
  repeat' first
    | with_reducible assumption | intro _ | with_reducible exact Keeps.refl _ | with_reducible apply keeps_tornCkpt
    | with_reducible apply keeps_tornRecords

theorem keeps_assertReset {r s : State} (h : Keeps r s) : ∀ x0, Keeps r (assertReset s x0) := by
  intro x0
  unfold assertReset
  repeat' first
    | with_reducible assumption | intro _ | with_reducible exact Keeps.refl _ | with_reducible apply keeps_updLant
    | with_reducible apply keeps_backInRun | with_reducible apply keeps_count | with_reducible apply keeps_deviceCleared
    | with_reducible apply keeps_mramTorn | with_reducible apply keeps_wr | with_reducible apply Keeps.ite
    | with_reducible apply Keeps.ite_fst | with_reducible apply Keeps.foldl | with_reducible apply Keeps.foldl_fst
    | with_reducible apply Keeps.forN | with_reducible refine Keeps.of_pair (by assumption) ?_
    | with_reducible refine Keeps.of_pair' (by assumption) ?_ | fail_if_no_progress with_reducible apply Keeps.lit

theorem keeps_timeAfterReset {r s : State} (h : Keeps r s) : Keeps r (timeAfterReset s) := by
  unfold timeAfterReset
  repeat' first
    | with_reducible assumption | intro _ | with_reducible exact Keeps.refl _ | with_reducible apply keeps_timeLost
    | with_reducible apply keeps_timeCarried | with_reducible apply keeps_wr | with_reducible apply keeps_clear
    | with_reducible apply keeps_updLant | with_reducible apply Keeps.ite | with_reducible apply Keeps.ite_fst
    | with_reducible apply Keeps.foldl | with_reducible apply Keeps.foldl_fst | with_reducible apply Keeps.forN
    | with_reducible refine Keeps.of_pair (by assumption) ?_ | with_reducible refine Keeps.of_pair' (by assumption) ?_
    | fail_if_no_progress with_reducible apply Keeps.lit | split

theorem keeps_resetRelease {r s : State} (h : Keeps r s) : ∀ x0 x1, Keeps r (resetRelease s x0 x1) := by
  intro x0 x1
  unfold resetRelease
  repeat' first
    | with_reducible assumption | intro _ | with_reducible exact Keeps.refl _ | with_reducible apply keeps_setTick
    | with_reducible apply keeps_timeAfterReset | with_reducible apply keeps_wr | with_reducible apply Keeps.ite
    | with_reducible apply Keeps.ite_fst | with_reducible apply Keeps.foldl | with_reducible apply Keeps.foldl_fst
    | with_reducible apply Keeps.forN | with_reducible refine Keeps.of_pair (by assumption) ?_
    | with_reducible refine Keeps.of_pair' (by assumption) ?_ | fail_if_no_progress with_reducible apply Keeps.lit

theorem keeps_pgoodRise {r s : State} (h : Keeps r s) : Keeps r (pgoodRise s) := by
  unfold pgoodRise
  repeat' first
    | with_reducible assumption | intro _ | with_reducible exact Keeps.refl _ | with_reducible apply keeps_assertReset
    | with_reducible apply Keeps.ite | with_reducible apply Keeps.ite_fst | with_reducible apply Keeps.foldl
    | with_reducible apply Keeps.foldl_fst | with_reducible apply Keeps.forN
    | with_reducible refine Keeps.of_pair (by assumption) ?_ | with_reducible refine Keeps.of_pair' (by assumption) ?_
    | fail_if_no_progress with_reducible apply Keeps.lit

theorem keeps_pgoodFall {r s : State} (h : Keeps r s) : Keeps r (pgoodFall s) := by
  unfold pgoodFall
  repeat' first
    | with_reducible assumption | intro _ | with_reducible exact Keeps.refl _ | with_reducible apply keeps_assertReset
    | with_reducible apply Keeps.ite | with_reducible apply Keeps.ite_fst | with_reducible apply Keeps.foldl
    | with_reducible apply Keeps.foldl_fst | with_reducible apply Keeps.forN
    | with_reducible refine Keeps.of_pair (by assumption) ?_ | with_reducible refine Keeps.of_pair' (by assumption) ?_
    | fail_if_no_progress with_reducible apply Keeps.lit

theorem keeps_brownOut {r s : State} (h : Keeps r s) : Keeps r (brownOut s) := by
  unfold brownOut
  repeat' first
    | with_reducible assumption | intro _ | with_reducible exact Keeps.refl _ | with_reducible apply keeps_deviceCleared
    | with_reducible apply keeps_mramTorn | with_reducible apply keeps_wr | with_reducible apply Keeps.ite
    | with_reducible apply Keeps.ite_fst | with_reducible apply Keeps.foldl | with_reducible apply Keeps.foldl_fst
    | with_reducible apply Keeps.forN | with_reducible refine Keeps.of_pair (by assumption) ?_
    | with_reducible refine Keeps.of_pair' (by assumption) ?_ | fail_if_no_progress with_reducible apply Keeps.lit

theorem keeps_brownOutRelease {r s : State} (h : Keeps r s) : ∀ x0, Keeps r (brownOutRelease s x0) := by
  intro x0
  unfold brownOutRelease
  repeat' first
    | with_reducible assumption | intro _ | with_reducible exact Keeps.refl _ | with_reducible apply keeps_updLant
    | with_reducible apply keeps_vaonLevel | with_reducible apply keeps_raise | with_reducible apply Keeps.ite

theorem keeps_refAccepted {r s : State} (h : Keeps r s) : Keeps r (refAccepted s) := by
  unfold refAccepted
  repeat' first
    | with_reducible assumption | intro _ | with_reducible exact Keeps.refl _ | with_reducible apply keeps_raise
    | with_reducible apply Keeps.ite

theorem keeps_pllLock {r s : State} (h : Keeps r s) : ∀ x0, Keeps r (pllLock s x0) := by
  intro x0
  unfold pllLock
  repeat' first
    | with_reducible assumption | intro _ | with_reducible exact Keeps.refl _ | with_reducible apply keeps_keepAtLock
    | with_reducible apply keeps_wr | with_reducible apply keeps_raise | with_reducible apply Keeps.ite

theorem keeps_pllLoss {r s : State} (h : Keeps r s) : Keeps r (pllLoss s) := by
  unfold pllLoss
  repeat' first
    | with_reducible assumption | intro _ | with_reducible exact Keeps.refl _ | with_reducible apply keeps_assertReset
    | with_reducible apply Keeps.ite

theorem keeps_rstOrderly {r s : State} (h : Keeps r s) : Keeps r (rstOrderly s) := by
  unfold rstOrderly
  repeat' first
    | with_reducible assumption | intro _ | with_reducible exact Keeps.refl _ | with_reducible apply keeps_journalDrain
    | with_reducible apply keeps_assertReset | with_reducible apply keeps_ckptNow | with_reducible apply Keeps.ite
    | with_reducible apply Keeps.ite_fst | with_reducible apply Keeps.foldl | with_reducible apply Keeps.foldl_fst
    | with_reducible apply Keeps.forN | with_reducible refine Keeps.of_pair (by assumption) ?_
    | with_reducible refine Keeps.of_pair' (by assumption) ?_ | fail_if_no_progress with_reducible apply Keeps.lit

theorem keeps_rstCtrl {r s : State} (h : Keeps r s) : ∀ x0, Keeps r (rstCtrl s x0) := by
  intro x0
  unfold rstCtrl
  repeat' first
    | with_reducible assumption | intro _ | with_reducible exact Keeps.refl _ | with_reducible apply keeps_assertReset
    | with_reducible apply keeps_rstOrderly | with_reducible apply Keeps.ite

theorem keeps_wdtRestart {r s : State} (h : Keeps r s) : Keeps r (wdtRestart s) := by
  unfold wdtRestart
  repeat' first
    | with_reducible assumption | intro _ | with_reducible exact Keeps.refl _ | with_reducible apply Keeps.ite
    | with_reducible apply Keeps.ite_fst | with_reducible apply Keeps.foldl | with_reducible apply Keeps.foldl_fst
    | with_reducible apply Keeps.forN | with_reducible refine Keeps.of_pair (by assumption) ?_
    | with_reducible refine Keeps.of_pair' (by assumption) ?_ | fail_if_no_progress with_reducible apply Keeps.lit

theorem keeps_wdtEnable {r s : State} (h : Keeps r s) : ∀ x0, Keeps r (wdtEnable s x0) := by
  intro x0
  unfold wdtEnable
  repeat' first
    | with_reducible assumption | intro _ | with_reducible exact Keeps.refl _ | with_reducible apply keeps_wdtRestart
    | with_reducible apply keeps_raise | with_reducible apply Keeps.ite

theorem keeps_wdtKick {r s : State} (h : Keeps r s) : Keeps r (wdtKick s) := by
  unfold wdtKick
  repeat' first
    | with_reducible assumption | intro _ | with_reducible exact Keeps.refl _ | with_reducible apply keeps_wdtRestart
    | with_reducible apply Keeps.ite

theorem keeps_wdtExpiry {r s : State} (h : Keeps r s) : Keeps r (wdtExpiry s) := by
  unfold wdtExpiry
  repeat' first
    | with_reducible assumption | intro _ | with_reducible exact Keeps.refl _ | with_reducible apply keeps_assertReset
    | with_reducible apply keeps_toEdge | with_reducible apply Keeps.ite

theorem keeps_clkoutPps {r s : State} (h : Keeps r s) : ∀ x0, Keeps r (clkoutPps s x0) := by
  intro x0
  unfold clkoutPps
  repeat' first
    | with_reducible assumption | intro _ | with_reducible exact Keeps.refl _ | with_reducible apply keeps_toReach
    | with_reducible apply Keeps.ite | with_reducible apply Keeps.ite_fst | with_reducible apply Keeps.foldl
    | with_reducible apply Keeps.foldl_fst | with_reducible apply Keeps.forN
    | with_reducible refine Keeps.of_pair (by assumption) ?_ | with_reducible refine Keeps.of_pair' (by assumption) ?_
    | fail_if_no_progress with_reducible apply Keeps.lit | split

theorem keeps_clkEffect {r s : State} (h : Keeps r s) : ∀ x0 x1 x2, Keeps r (clkEffect s x0 x1 x2) := by
  intro x0 x1 x2
  unfold clkEffect
  repeat' first
    | with_reducible assumption | intro _ | with_reducible exact Keeps.refl _ | with_reducible apply keeps_rstCtrl
    | with_reducible apply keeps_wdtEnable | with_reducible apply keeps_wdtKick | with_reducible apply Keeps.ite

theorem keeps_updSec {r s : State} (h : Keeps r s) : ∀ x0, Keeps r (State.updSec s x0) := by
  intro x0
  unfold State.updSec
  repeat' first
    | with_reducible assumption | intro _ | with_reducible exact Keeps.refl _ | with_reducible apply Keeps.ite
    | with_reducible apply Keeps.ite_fst | with_reducible apply Keeps.foldl | with_reducible apply Keeps.foldl_fst
    | with_reducible apply Keeps.forN | with_reducible refine Keeps.of_pair (by assumption) ?_
    | with_reducible refine Keeps.of_pair' (by assumption) ?_ | fail_if_no_progress with_reducible apply Keeps.lit

theorem keeps_clearTcmOk {r s : State} (h : Keeps r s) : ∀ x0, Keeps r (clearTcmOk s x0) := by
  intro x0
  unfold clearTcmOk
  repeat' first
    | with_reducible assumption | intro _ | with_reducible exact Keeps.refl _ | with_reducible apply keeps_wr
    | with_reducible apply Keeps.ite

theorem keeps_startCore {r s : State} (h : Keeps r s) : ∀ x0 x1, Keeps r (startCore s x0 x1) := by
  intro x0 x1
  unfold startCore
  repeat' first
    | with_reducible assumption | intro _ | with_reducible exact Keeps.refl _ | with_reducible apply keeps_clear
    | with_reducible apply keeps_setCore

theorem keeps_spireRun {r s : State} (h : Keeps r s) : ∀ x0, Keeps r (spireRun s x0) := by
  intro x0
  unfold spireRun
  repeat' first
    | with_reducible assumption | intro _ | with_reducible exact Keeps.refl _ | with_reducible apply keeps_updSec
    | with_reducible apply keeps_startCore | with_reducible apply keeps_clearTcmOk

theorem keeps_spireHalt {r s : State} (h : Keeps r s) : ∀ x0, Keeps r (spireHalt s x0) := by
  intro x0
  unfold spireHalt
  repeat' first
    | with_reducible assumption | intro _ | with_reducible exact Keeps.refl _ | with_reducible apply keeps_updCore
    | with_reducible apply keeps_haltCore | with_reducible apply keeps_withdrawWait | with_reducible apply Keeps.ite
    | with_reducible apply Keeps.ite_fst | with_reducible apply Keeps.foldl | with_reducible apply Keeps.foldl_fst
    | with_reducible apply Keeps.forN | with_reducible refine Keeps.of_pair (by assumption) ?_
    | with_reducible refine Keeps.of_pair' (by assumption) ?_ | fail_if_no_progress with_reducible apply Keeps.lit
    | with_reducible apply wf_gW | with_reducible apply wf_fW | with_reducible apply wf_acW | with_reducible apply wf_tcmPut
    | with_reducible apply wf_takeLoad | with_reducible apply wf_takeMsg | with_reducible exact wf_nil | split

theorem keeps_tcmInit {r s : State} (h : Keeps r s) : ∀ x0, Keeps r (tcmInit s x0) := by
  intro x0
  unfold tcmInit
  repeat' first
    | with_reducible assumption | intro _ | with_reducible exact Keeps.refl _ | with_reducible apply keeps_updCore
    | with_reducible apply keeps_clear | with_reducible apply keeps_clearTcmOk

theorem keeps_tcmInitDone {r s : State} (h : Keeps r s) : ∀ x0, Keeps r (tcmInitDone s x0) := by
  intro x0
  unfold tcmInitDone
  repeat' first
    | with_reducible assumption | intro _ | with_reducible exact Keeps.refl _ | with_reducible apply keeps_raise
    | with_reducible apply keeps_updCore | with_reducible apply Keeps.ite | with_reducible apply Keeps.ite_fst
    | with_reducible apply Keeps.foldl | with_reducible apply Keeps.foldl_fst | with_reducible apply Keeps.forN
    | with_reducible refine Keeps.of_pair (by assumption) ?_ | with_reducible refine Keeps.of_pair' (by assumption) ?_
    | fail_if_no_progress with_reducible apply Keeps.lit | with_reducible apply wf_gW | with_reducible apply wf_fW
    | with_reducible apply wf_acW | with_reducible apply wf_tcmPut | with_reducible apply wf_takeLoad
    | with_reducible apply wf_takeMsg | with_reducible exact wf_nil

theorem keeps_loadDataWrite {r s : State} (h : Keeps r s) : ∀ x0 x1, Keeps r (loadDataWrite s x0 x1) := by
  intro x0 x1
  unfold loadDataWrite
  repeat' first
    | with_reducible assumption | intro _ | with_reducible exact Keeps.refl _ | with_reducible apply keeps_count
    | with_reducible apply keeps_clearTcmOk | with_reducible apply keeps_updCore | with_reducible apply Keeps.ite
    | with_reducible apply Keeps.ite_fst | with_reducible apply Keeps.foldl | with_reducible apply Keeps.foldl_fst
    | with_reducible apply Keeps.forN | with_reducible refine Keeps.of_pair (by assumption) ?_
    | with_reducible refine Keeps.of_pair' (by assumption) ?_ | fail_if_no_progress with_reducible apply Keeps.lit
    | with_reducible apply wf_gW | with_reducible apply wf_fW | with_reducible apply wf_acW | with_reducible apply wf_tcmPut

theorem keeps_loadDataRead {r s : State} (h : Keeps r s) : ∀ x0, Keeps r (loadDataRead s x0).1 := by
  intro x0
  unfold loadDataRead
  repeat' first
    | with_reducible assumption | intro _ | with_reducible exact Keeps.refl _ | with_reducible apply keeps_raiseIf
    | with_reducible apply keeps_tcmCorrect | with_reducible apply keeps_count

theorem keeps_mboxSend {r s : State} (h : Keeps r s) : ∀ x0 x1, Keeps r (mboxSend s x0 x1) := by
  intro x0 x1
  unfold mboxSend
  repeat' first
    | with_reducible assumption | intro _ | with_reducible exact Keeps.refl _ | with_reducible apply keeps_sendMessage

theorem keeps_spireEffect {r s : State} (h : Keeps r s) : ∀ x0 x1 x2, Keeps r (spireEffect s x0 x1 x2) := by
  intro x0 x1 x2
  unfold spireEffect
  repeat' first
    | with_reducible assumption | intro _ | with_reducible exact Keeps.refl _ | with_reducible apply keeps_spireHalt
    | with_reducible apply keeps_tcmInit | with_reducible apply keeps_spireRun | with_reducible apply keeps_loadDataWrite
    | with_reducible apply keeps_wr | with_reducible apply keeps_mboxSend | with_reducible apply Keeps.ite
    | with_reducible apply Keeps.ite_fst | with_reducible apply Keeps.foldl | with_reducible apply Keeps.foldl_fst
    | with_reducible apply Keeps.forN | with_reducible refine Keeps.of_pair (by assumption) ?_
    | with_reducible refine Keeps.of_pair' (by assumption) ?_ | fail_if_no_progress with_reducible apply Keeps.lit | split

theorem keeps_secRead {r s : State} (h : Keeps r s) : ∀ x0 x1, Keeps r (secRead s x0 x1).1 := by
  intro x0 x1
  unfold secRead
  repeat' first
    | with_reducible assumption | intro _ | with_reducible exact Keeps.refl _ | with_reducible apply keeps_loadBytes
    | with_reducible apply Keeps.ite | with_reducible apply Keeps.ite_fst

theorem keeps_imagesCheck {r s : State} (h : Keeps r s) : ∀ base b is, Keeps r (imagesCheck s base b is).1 := by
  intro base b is
  induction is generalizing s with
  | nil => exact h
  | cons i t ih =>
    unfold imagesCheck
    have h1 := keeps_secRead h (base + mfSrc b i) (mfLen b i)
    generalize secRead s (base + mfSrc b i) (mfLen b i) = p at h1
    obtain ⟨s1, c1, m1⟩ := p
    dsimp only
    split
    · exact h1
    · split
      · exact h1
      · exact ih h1

theorem keeps_manifestCheck {r s : State} (h : Keeps r s) : ∀ x0, Keeps r (manifestCheck s x0).1 := by
  intro x0
  unfold manifestCheck
  repeat' first
    | with_reducible assumption | intro _ | with_reducible exact Keeps.refl _ | with_reducible apply keeps_secRead
    | with_reducible apply keeps_imagesCheck | with_reducible apply Keeps.ite | with_reducible apply Keeps.ite_fst

theorem keeps_bootStaged {r s : State} (h : Keeps r s) : ∀ x0, Keeps r (bootStaged s x0).1 := by
  intro x0
  unfold bootStaged
  repeat' first
    | with_reducible assumption | intro _ | with_reducible exact Keeps.refl _ | with_reducible apply keeps_manifestCheck
    | with_reducible apply keeps_takeFree | with_reducible apply keeps_updCore | with_reducible apply keeps_orIn
    | with_reducible apply keeps_wr | with_reducible apply keeps_updSec | with_reducible apply keeps_spireRun
    | with_reducible apply Keeps.ite | with_reducible apply Keeps.ite_fst | with_reducible apply Keeps.foldl
    | with_reducible apply Keeps.foldl_fst | with_reducible apply Keeps.forN
    | with_reducible refine Keeps.of_pair (by assumption) ?_ | with_reducible refine Keeps.of_pair' (by assumption) ?_
    | fail_if_no_progress with_reducible apply Keeps.lit | with_reducible apply wf_gW | with_reducible apply wf_fW
    | with_reducible apply wf_acW | with_reducible apply wf_tcmPut | with_reducible apply wf_takeLoad
    | with_reducible apply wf_takeMsg | with_reducible exact wf_nil | split

theorem keeps_bootFail {r s : State} (h : Keeps r s) : ∀ x0 x1, Keeps r (bootFail s x0 x1) := by
  intro x0 x1
  unfold bootFail
  repeat' first
    | with_reducible assumption | intro _ | with_reducible exact Keeps.refl _ | with_reducible apply keeps_wr
    | with_reducible apply keeps_updSec | with_reducible apply Keeps.ite

theorem keeps_stageSlot {r s : State} (h : Keeps r s) : ∀ x0, Keeps r (stageSlot s x0) := by
  intro x0
  unfold stageSlot
  repeat' first
    | with_reducible assumption | intro _ | with_reducible exact Keeps.refl _ | with_reducible apply keeps_storeBytes
    | with_reducible apply Keeps.ite | with_reducible apply Keeps.ite_fst | with_reducible apply Keeps.foldl

theorem keeps_bootSlotLoad {r s : State} (h : Keeps r s) : ∀ x0 x1, Keeps r (bootSlotLoad s x0 x1) := by
  intro x0 x1
  unfold bootSlotLoad
  repeat' first
    | with_reducible assumption | intro _ | with_reducible exact Keeps.refl _ | with_reducible apply keeps_takeFree
    | with_reducible apply keeps_bootFail | with_reducible apply keeps_bootStaged | with_reducible apply keeps_stageSlot
    | with_reducible apply Keeps.ite

theorem keeps_bootHostGo {r s : State} (h : Keeps r s) : Keeps r (bootHostGo s) := by
  unfold bootHostGo
  repeat' first
    | with_reducible assumption | intro _ | with_reducible exact Keeps.refl _ | with_reducible apply keeps_bootStaged

theorem keeps_doVerify {r s : State} (h : Keeps r s) : Keeps r (doVerify s).1 := by
  unfold doVerify
  repeat' first
    | with_reducible assumption | intro _ | with_reducible exact Keeps.refl _ | with_reducible apply keeps_manifestCheck
    | with_reducible apply keeps_updSec | with_reducible apply Keeps.ite

theorem keeps_doVerifyTcm {r s : State} (h : Keeps r s) : ∀ x0 x1, Keeps r (doVerifyTcm s x0 x1).1 := by
  intro x0 x1
  unfold doVerifyTcm
  repeat' first
    | with_reducible assumption | intro _ | with_reducible exact Keeps.refl _ | with_reducible apply keeps_updSec
    | with_reducible apply keeps_orIn | with_reducible apply Keeps.ite | with_reducible apply Keeps.ite_fst
    | with_reducible apply Keeps.foldl | with_reducible apply Keeps.foldl_fst | with_reducible apply Keeps.forN
    | with_reducible refine Keeps.of_pair (by assumption) ?_ | with_reducible refine Keeps.of_pair' (by assumption) ?_
    | fail_if_no_progress with_reducible apply Keeps.lit | split

theorem keeps_keyMessage {r s : State} (h : Keeps r s) : ∀ x0 x1 x2 x3 x4, Keeps r (keyMessage s x0 x1 x2 x3 x4).1 := by
  intro x0 x1 x2 x3 x4
  unfold keyMessage
  repeat' first
    | with_reducible assumption | intro _ | with_reducible exact Keeps.refl _ | with_reducible apply keeps_count
    | with_reducible apply keeps_updSec | with_reducible apply keeps_orIn | with_reducible apply Keeps.ite
    | with_reducible apply Keeps.ite_fst

theorem keeps_doKey {r s : State} (h : Keeps r s) : Keeps r (doKey s).1 := by
  unfold doKey
  repeat' first
    | with_reducible assumption | intro _ | with_reducible exact Keeps.refl _ | with_reducible apply keeps_secRead
    | with_reducible apply keeps_keyMessage | with_reducible apply Keeps.ite | with_reducible apply Keeps.ite_fst

theorem keeps_doSvn {r s : State} (h : Keeps r s) : Keeps r (doSvn s).1 := by
  unfold doSvn
  repeat' first
    | with_reducible assumption | intro _ | with_reducible exact Keeps.refl _ | with_reducible apply keeps_wr
    | with_reducible apply Keeps.ite | with_reducible apply Keeps.ite_fst | with_reducible apply Keeps.foldl
    | with_reducible apply Keeps.foldl_fst | with_reducible apply Keeps.forN
    | with_reducible refine Keeps.of_pair (by assumption) ?_ | with_reducible refine Keeps.of_pair' (by assumption) ?_
    | fail_if_no_progress with_reducible apply Keeps.lit | split

theorem keeps_doAttest {r s : State} (h : Keeps r s) : Keeps r (doAttest s).1 := by
  unfold doAttest
  repeat' first
    | with_reducible assumption | intro _ | with_reducible exact Keeps.refl _ | with_reducible apply keeps_secRead
    | with_reducible apply keeps_storeBytes | with_reducible apply Keeps.ite | with_reducible apply Keeps.ite_fst

theorem keeps_secureComplete {r s : State} (h : Keeps r s) : Keeps r (secureComplete s) := by
  unfold secureComplete
  repeat' first
    | with_reducible assumption | intro _ | with_reducible exact Keeps.refl _ | with_reducible apply keeps_doVerify
    | with_reducible apply keeps_doVerifyTcm | with_reducible apply keeps_doKey | with_reducible apply keeps_doSvn
    | with_reducible apply keeps_doAttest | with_reducible apply keeps_updSec | with_reducible apply keeps_clear
    | with_reducible apply keeps_raise | with_reducible apply keeps_wr | with_reducible apply Keeps.ite
    | with_reducible apply Keeps.ite_fst | with_reducible apply Keeps.foldl | with_reducible apply Keeps.foldl_fst
    | with_reducible apply Keeps.forN | with_reducible refine Keeps.of_pair (by assumption) ?_
    | with_reducible refine Keeps.of_pair' (by assumption) ?_ | fail_if_no_progress with_reducible apply Keeps.lit | split

theorem keeps_secureStart {r s : State} (h : Keeps r s) : ∀ x0 x1 x2, Keeps r (secureStart s x0 x1 x2) := by
  intro x0 x1 x2
  unfold secureStart
  repeat' first
    | with_reducible assumption | intro _ | with_reducible exact Keeps.refl _ | with_reducible apply keeps_updSec
    | with_reducible apply keeps_raise

theorem keeps_secureRspRead {r s : State} (h : Keeps r s) : Keeps r (secureRspRead s).1 := by
  unfold secureRspRead
  repeat' first
    | with_reducible assumption | intro _ | with_reducible exact Keeps.refl _ | with_reducible apply keeps_clear

theorem keeps_secureEffect {r s : State} (h : Keeps r s) : ∀ x0 x1, Keeps r (secureEffect s x0 x1) := by
  intro x0 x1
  unfold secureEffect
  repeat' first
    | with_reducible assumption | intro _ | with_reducible exact Keeps.refl _ | with_reducible apply keeps_secureStart
    | with_reducible apply keeps_bootHostGo | with_reducible apply Keeps.ite | with_reducible apply Keeps.ite_fst
    | with_reducible apply Keeps.foldl | with_reducible apply Keeps.foldl_fst | with_reducible apply Keeps.forN
    | with_reducible refine Keeps.of_pair (by assumption) ?_ | with_reducible refine Keeps.of_pair' (by assumption) ?_
    | fail_if_no_progress with_reducible apply Keeps.lit | split

end Sys2Proof.Machine
end

