-- ==== Sys2Proof/Laws/KeepsI.lean ====
section
/-!
SUPPORT. What every operation of Ports.lean, Bus.lean, CmdCells.lean, SpireBus.lean, CmdFabric.lean, CmdKeep.lean,
CmdLease.lean, Serial.lean, CmdPort.lean, CmdQueue.lean, CmdReset.lean, CmdTime.lean, TwinMeas.lean, CmdTwin.lean keeps
(Keeps.lean).
-/
namespace Sys2Proof.Machine

theorem keeps_stationReceive {r s : State} (h : Keeps r s) : ∀ x0 x1 x2, Keeps r (stationReceive s x0 x1 x2) := by
  intro x0 x1 x2
  unfold stationReceive
  repeat' first
    | with_reducible assumption | intro _ | with_reducible exact Keeps.refl _ | with_reducible apply keeps_queuePacket
    | with_reducible apply keeps_count | with_reducible apply Keeps.ite

theorem keeps_takeFor {r s : State} (h : Keeps r s) : ∀ x0 x1, Keeps r (takeFor s x0 x1).1 := by
  intro x0 x1
  unfold takeFor
  repeat' first
    | with_reducible assumption | intro _ | with_reducible exact Keeps.refl _ | with_reducible apply keeps_queueTake
    | with_reducible apply Keeps.ite | with_reducible apply Keeps.ite_fst

theorem keeps_stationTransmit {r s : State} (h : Keeps r s) : ∀ x0, Keeps r (stationTransmit s x0) := by
  intro x0
  unfold stationTransmit
  repeat' first
    | with_reducible assumption | intro _ | with_reducible exact Keeps.refl _ | with_reducible apply keeps_takeFor
    | with_reducible apply keeps_updPort | with_reducible apply keeps_txTimestamp | with_reducible apply Keeps.ite
    | with_reducible apply Keeps.ite_fst | with_reducible apply Keeps.foldl | with_reducible apply Keeps.foldl_fst
    | with_reducible apply Keeps.forN | with_reducible refine Keeps.of_pair (by assumption) ?_
    | with_reducible refine Keeps.of_pair' (by assumption) ?_ | fail_if_no_progress with_reducible apply Keeps.lit | split

theorem keeps_stationLink {r s : State} (h : Keeps r s) : ∀ x0 x1, Keeps r (stationLink s x0 x1) := by
  intro x0 x1
  unfold stationLink
  repeat' first
    | with_reducible assumption | intro _ | with_reducible exact Keeps.refl _ | with_reducible apply keeps_raise
    | with_reducible apply keeps_wr | with_reducible apply Keeps.ite

theorem keeps_uartByteIn {r s : State} (h : Keeps r s) : ∀ x0, Keeps r (uartByteIn s x0) := by
  intro x0
  unfold uartByteIn
  repeat' first
    | with_reducible assumption | intro _ | with_reducible exact Keeps.refl _ | with_reducible apply keeps_queuePacket
    | with_reducible apply Keeps.ite | with_reducible apply Keeps.ite_fst | with_reducible apply Keeps.foldl
    | with_reducible apply Keeps.foldl_fst | with_reducible apply Keeps.forN
    | with_reducible refine Keeps.of_pair (by assumption) ?_ | with_reducible refine Keeps.of_pair' (by assumption) ?_
    | fail_if_no_progress with_reducible apply Keeps.lit | split

theorem keeps_uartByteOut {r s : State} (h : Keeps r s) : Keeps r (uartByteOut s) := by
  unfold uartByteOut
  repeat' first
    | with_reducible assumption | intro _ | with_reducible exact Keeps.refl _ | with_reducible apply keeps_takeFor
    | with_reducible apply keeps_updPort | with_reducible apply Keeps.ite | with_reducible apply Keeps.ite_fst
    | with_reducible apply Keeps.foldl | with_reducible apply Keeps.foldl_fst | with_reducible apply Keeps.forN
    | with_reducible refine Keeps.of_pair (by assumption) ?_ | with_reducible refine Keeps.of_pair' (by assumption) ?_
    | fail_if_no_progress with_reducible apply Keeps.lit | split | dsimp only

theorem keeps_peerPacketIn {r s : State} (h : Keeps r s) : ∀ x0, Keeps r (peerPacketIn s x0) := by
  intro x0
  unfold peerPacketIn
  repeat' first
    | with_reducible assumption | intro _ | with_reducible exact Keeps.refl _ | with_reducible apply keeps_queuePacket
    | with_reducible apply Keeps.ite | with_reducible apply Keeps.ite_fst | with_reducible apply Keeps.foldl
    | with_reducible apply Keeps.foldl_fst | with_reducible apply Keeps.forN
    | with_reducible refine Keeps.of_pair (by assumption) ?_ | with_reducible refine Keeps.of_pair' (by assumption) ?_
    | fail_if_no_progress with_reducible apply Keeps.lit | split

theorem keeps_peerPacketOut {r s : State} (h : Keeps r s) : Keeps r (peerPacketOut s) := by
  unfold peerPacketOut
  repeat' first
    | with_reducible assumption | intro _ | with_reducible exact Keeps.refl _ | with_reducible apply keeps_takeFor
    | with_reducible apply keeps_updPort | with_reducible apply Keeps.ite | with_reducible apply Keeps.ite_fst
    | with_reducible apply Keeps.foldl | with_reducible apply Keeps.foldl_fst | with_reducible apply Keeps.forN
    | with_reducible refine Keeps.of_pair (by assumption) ?_ | with_reducible refine Keeps.of_pair' (by assumption) ?_
    | fail_if_no_progress with_reducible apply Keeps.lit | split

theorem keeps_testInstruction {r s : State} (h : Keeps r s) : ∀ x0, Keeps r (testInstruction s x0) := by
  intro x0
  unfold testInstruction
  repeat' first
    | with_reducible assumption | intro _ | with_reducible exact Keeps.refl _ | with_reducible apply keeps_updPort
    | with_reducible apply Keeps.ite

theorem keeps_latchHi {r s : State} (h : Keeps r s) : ∀ x0 x1, Keeps r (latchHi s x0 x1).1 := by
  intro x0 x1
  unfold latchHi
  repeat' first
    | with_reducible assumption | intro _ | with_reducible exact Keeps.refl _ | with_reducible apply Keeps.ite
    | with_reducible apply Keeps.ite_fst | with_reducible apply Keeps.foldl | with_reducible apply Keeps.foldl_fst
    | with_reducible apply Keeps.forN | with_reducible refine Keeps.of_pair (by assumption) ?_
    | with_reducible refine Keeps.of_pair' (by assumption) ?_ | fail_if_no_progress with_reducible apply Keeps.lit

theorem keeps_timeRead {r s : State} (h : Keeps r s) : ∀ x0, Keeps r (timeRead s x0).1 := by
  intro x0
  unfold timeRead
  repeat' first
    | with_reducible assumption | intro _ | with_reducible exact Keeps.refl _ | with_reducible apply keeps_latchHi
    | with_reducible apply Keeps.ite | with_reducible apply Keeps.ite_fst | with_reducible apply Keeps.foldl
    | with_reducible apply Keeps.foldl_fst | with_reducible apply Keeps.forN
    | with_reducible refine Keeps.of_pair (by assumption) ?_ | with_reducible refine Keeps.of_pair' (by assumption) ?_
    | fail_if_no_progress with_reducible apply Keeps.lit

theorem keeps_plainRead {r s : State} (h : Keeps r s) : ∀ x0 x1 x2, Keeps r (plainRead s x0 x1 x2).1 := by
  intro x0 x1 x2
  unfold plainRead
  repeat' first
    | with_reducible assumption | intro _ | with_reducible exact Keeps.refl _ | with_reducible apply keeps_latchHi
    | with_reducible apply Keeps.ite | with_reducible apply Keeps.ite_fst | with_reducible apply Keeps.foldl
    | with_reducible apply Keeps.foldl_fst | with_reducible apply Keeps.forN
    | with_reducible refine Keeps.of_pair (by assumption) ?_ | with_reducible refine Keeps.of_pair' (by assumption) ?_
    | fail_if_no_progress with_reducible apply Keeps.lit | split

theorem keeps_regRead {r s : State} (h : Keeps r s) : ∀ x0 x1 x2, Keeps r (regRead s x0 x1 x2).1 := by
  intro x0 x1 x2
  unfold regRead
  repeat' first
    | with_reducible assumption | intro _ | with_reducible exact Keeps.refl _ | with_reducible apply keeps_evtLatch
    | with_reducible apply keeps_evtPop | with_reducible apply keeps_ldgAckRspRead | with_reducible apply keeps_plainRead
    | with_reducible apply keeps_latchHi | with_reducible apply keeps_timeRead | with_reducible apply keeps_captureLatch
    | with_reducible apply keeps_capturePop | with_reducible apply keeps_txLatch | with_reducible apply keeps_txPop
    | with_reducible apply keeps_secureRspRead | with_reducible apply keeps_tevtLatch | with_reducible apply keeps_tevtPop
    | with_reducible apply keeps_drvPop | with_reducible apply keeps_mgmtPop | with_reducible apply keeps_queuePopTag
    | with_reducible apply keeps_queuePopHi | with_reducible apply Keeps.ite | with_reducible apply Keeps.ite_fst
    | with_reducible apply Keeps.foldl | with_reducible apply Keeps.foldl_fst | with_reducible apply Keeps.forN
    | with_reducible refine Keeps.of_pair (by assumption) ?_ | with_reducible refine Keeps.of_pair' (by assumption) ?_
    | fail_if_no_progress with_reducible apply Keeps.lit | split

theorem keeps_busRead {r s : State} (h : Keeps r s) : ∀ x0 x1 x2, Keeps r (busRead s x0 x1 x2).1 := by
  intro x0 x1 x2
  unfold busRead
  repeat' first
    | with_reducible assumption | intro _ | with_reducible exact Keeps.refl _ | with_reducible apply keeps_memRead
    | with_reducible apply keeps_cellRead | with_reducible apply keeps_lawAnswer | with_reducible apply keeps_loadDataRead
    | with_reducible apply keeps_recordErr | with_reducible apply keeps_regRead | with_reducible apply Keeps.ite
    | with_reducible apply Keeps.ite_fst | with_reducible apply Keeps.foldl | with_reducible apply Keeps.foldl_fst
    | with_reducible apply Keeps.forN | with_reducible refine Keeps.of_pair (by assumption) ?_
    | with_reducible refine Keeps.of_pair' (by assumption) ?_ | fail_if_no_progress with_reducible apply Keeps.lit | split

theorem keeps_storePiece {r s : State} (h : Keeps r s) : ∀ x0 x1 x2 x3, Keeps r (storePiece x0 x1 x2 s x3) := by
  intro x0 x1 x2 x3
  unfold storePiece
  repeat' first
    | with_reducible assumption | intro _ | with_reducible exact Keeps.refl _ | with_reducible apply keeps_wr
    | with_reducible apply keeps_stage | with_reducible apply Keeps.ite | with_reducible apply Keeps.ite_fst
    | with_reducible apply Keeps.foldl | with_reducible apply Keeps.foldl_fst | with_reducible apply Keeps.forN
    | with_reducible refine Keeps.of_pair (by assumption) ?_ | with_reducible refine Keeps.of_pair' (by assumption) ?_
    | fail_if_no_progress with_reducible apply Keeps.lit | split

theorem keeps_campEffect {r s : State} (h : Keeps r s) : ∀ x0 x1 x2, Keeps r (campEffect s x0 x1 x2) := by
  intro x0 x1 x2
  unfold campEffect
  repeat' first
    | with_reducible assumption | intro _ | with_reducible exact Keeps.refl _ | with_reducible apply keeps_applyIncr
    | with_reducible apply keeps_stepTime | with_reducible apply keeps_startSlew | with_reducible apply keeps_setTime
    | with_reducible apply keeps_clearCoarse | with_reducible apply keeps_armTick | with_reducible apply keeps_disarmTick
    | with_reducible apply keeps_timerWritten | with_reducible apply keeps_outModeWritten | with_reducible apply Keeps.ite

theorem keeps_sysEffect {r s : State} (h : Keeps r s) : ∀ x0 x1 x2, Keeps r (sysEffect s x0 x1 x2) := by
  intro x0 x1 x2
  unfold sysEffect
  repeat' first
    | with_reducible assumption | intro _ | with_reducible exact Keeps.refl _ | with_reducible apply keeps_restoreStart
    | with_reducible apply keeps_ckptRequest | with_reducible apply keeps_ldgAck | with_reducible apply keeps_clearErr
    | with_reducible apply keeps_clkEffect | with_reducible apply keeps_pipeEffect | with_reducible apply Keeps.ite

theorem keeps_portEffect {r s : State} (h : Keeps r s) : ∀ x0 x1, Keeps r (portEffect s x0 x1) := by
  intro x0 x1
  unfold portEffect
  repeat' first
    | with_reducible assumption | intro _ | with_reducible exact Keeps.refl _ | with_reducible apply keeps_doorbell
    | with_reducible apply keeps_cplStatus | with_reducible apply keeps_updPort | with_reducible apply keeps_fwDone
    | with_reducible apply Keeps.ite

theorem keeps_memcEffect {r s : State} (h : Keeps r s) : ∀ x0 x1 x2 x3, Keeps r (memcEffect s x0 x1 x2 x3) := by
  intro x0 x1 x2 x3
  unfold memcEffect
  repeat' first
    | with_reducible assumption | intro _ | with_reducible exact Keeps.refl _ | with_reducible apply keeps_memcInit
    | with_reducible apply keeps_enterChFail | with_reducible apply Keeps.ite | with_reducible apply Keeps.ite_fst
    | with_reducible apply Keeps.foldl | with_reducible apply Keeps.foldl_fst | with_reducible apply Keeps.forN
    | with_reducible refine Keeps.of_pair (by assumption) ?_ | with_reducible refine Keeps.of_pair' (by assumption) ?_
    | fail_if_no_progress with_reducible apply Keeps.lit

theorem keeps_journalEffect {r s : State} (h : Keeps r s) : ∀ x0 x1, Keeps r (journalEffect s x0 x1) := by
  intro x0 x1
  unfold journalEffect
  repeat' first
    | with_reducible assumption | intro _ | with_reducible exact Keeps.refl _ | with_reducible apply keeps_journalFormat
    | with_reducible apply keeps_recoverStart | with_reducible apply Keeps.ite

theorem keeps_blockEffect {r s : State} (h : Keeps r s) : ∀ x0 x1 x2 x3 x4 x5, Keeps r (blockEffect s x0 x1 x2 x3 x4 x5) := by
  intro x0 x1 x2 x3 x4 x5
  unfold blockEffect
  repeat' first
    | with_reducible assumption | intro _ | with_reducible exact Keeps.refl _ | with_reducible apply keeps_sysEffect
    | with_reducible apply keeps_lanternEffect | with_reducible apply keeps_campEffect | with_reducible apply keeps_keepEffect
    | with_reducible apply keeps_belfryEffect | with_reducible apply keeps_memcEffect | with_reducible apply keeps_journalEffect
    | with_reducible apply keeps_scanEffect | with_reducible apply keeps_portEffect | with_reducible apply keeps_twinEffect
    | with_reducible apply keeps_secureEffect | with_reducible apply keeps_adcEffect | with_reducible apply keeps_svEffect
    | with_reducible apply keeps_filtEffect | with_reducible apply keeps_oculusEffect | with_reducible apply keeps_pwmEffect
    | with_reducible apply keeps_tripEffect | with_reducible apply keeps_lawRegEffect | with_reducible apply keeps_armEffect
    | with_reducible apply keeps_ringEffect | with_reducible apply keeps_leaseEffect | with_reducible apply keeps_queueEffect
    | with_reducible apply keeps_spireEffect | with_reducible apply Keeps.ite | with_reducible apply Keeps.ite_fst
    | with_reducible apply Keeps.foldl | with_reducible apply Keeps.foldl_fst | with_reducible apply Keeps.forN
    | with_reducible refine Keeps.of_pair (by assumption) ?_ | with_reducible refine Keeps.of_pair' (by assumption) ?_
    | fail_if_no_progress with_reducible apply Keeps.lit | split

theorem keeps_refuseReg {r s : State} (h : Keeps r s) : ∀ x0 x1 x2 x3, Keeps r (refuseReg s x0 x1 x2 x3) := by
  intro x0 x1 x2 x3
  unfold refuseReg
  repeat' first
    | with_reducible assumption | intro _ | with_reducible exact Keeps.refl _ | with_reducible apply keeps_answer
    | with_reducible apply keeps_recordErr | with_reducible apply keeps_refuse | with_reducible apply Keeps.ite

theorem keeps_storeWord {r s : State} (h : Keeps r s) : ∀ x0 x1 x2 x3 x4, Keeps r (storeWord s x0 x1 x2 x3 x4) := by
  intro x0 x1 x2 x3 x4
  unfold storeWord
  repeat' first
    | with_reducible assumption | intro _ | with_reducible exact Keeps.refl _ | with_reducible apply keeps_answer
    | with_reducible apply keeps_storePiece | with_reducible apply keeps_clearErr | with_reducible apply Keeps.ite
    | with_reducible apply Keeps.ite_fst | with_reducible apply Keeps.foldl | with_reducible apply Keeps.foldl_fst
    | with_reducible apply Keeps.forN | with_reducible refine Keeps.of_pair (by assumption) ?_
    | with_reducible refine Keeps.of_pair' (by assumption) ?_ | fail_if_no_progress with_reducible apply Keeps.lit

theorem keeps_regWrite {r s : State} (h : Keeps r s) : ∀ x0 x1 x2 x3 x4 x5, Keeps r (regWrite s x0 x1 x2 x3 x4 x5) := by
  intro x0 x1 x2 x3 x4 x5
  unfold regWrite
  repeat' first
    | with_reducible assumption | intro _ | with_reducible exact Keeps.refl _ | with_reducible apply keeps_answer
    | with_reducible apply keeps_blockEffect | with_reducible apply keeps_storeWord | with_reducible apply keeps_refuseReg
    | with_reducible apply Keeps.ite

theorem keeps_busError {r s : State} (h : Keeps r s) : ∀ x0 x1 x2, Keeps r (busError s x0 x1 x2) := by
  intro x0 x1 x2
  unfold busError
  repeat' first
    | with_reducible assumption | intro _ | with_reducible exact Keeps.refl _ | with_reducible apply keeps_recordErr
    | with_reducible apply Keeps.ite | with_reducible apply Keeps.ite_fst | with_reducible apply Keeps.foldl
    | with_reducible apply Keeps.foldl_fst | with_reducible apply Keeps.forN
    | with_reducible refine Keeps.of_pair (by assumption) ?_ | with_reducible refine Keeps.of_pair' (by assumption) ?_
    | fail_if_no_progress with_reducible apply Keeps.lit | split

theorem keeps_memStore {r s : State} (h : Keeps r s) : ∀ x0 x1 x2 x3, Keeps r (memStore s x0 x1 x2 x3) := by
  intro x0 x1 x2 x3
  unfold memStore
  repeat' first
    | with_reducible assumption | intro _ | with_reducible exact Keeps.refl _ | with_reducible apply keeps_userStore
    | with_reducible apply keeps_answer | with_reducible apply keeps_busError | with_reducible apply keeps_storeLine
    | with_reducible apply Keeps.ite

theorem keeps_busWrite {r s : State} (h : Keeps r s) : ∀ x0 x1 x2 x3, Keeps r (busWrite s x0 x1 x2 x3) := by
  intro x0 x1 x2 x3
  unfold busWrite
  repeat' first
    | with_reducible assumption | intro _ | with_reducible exact Keeps.refl _ | with_reducible apply keeps_busError
    | with_reducible apply keeps_regWrite | with_reducible apply keeps_answer | with_reducible apply keeps_refuse
    | with_reducible apply keeps_memStore | with_reducible apply keeps_recordErr | with_reducible apply keeps_cellWrite
    | with_reducible apply keeps_cseRecord | with_reducible apply keeps_coefWrite | with_reducible apply keeps_lawWindowApply
    | with_reducible apply Keeps.ite | with_reducible apply Keeps.ite_fst | with_reducible apply Keeps.foldl
    | with_reducible apply Keeps.foldl_fst | with_reducible apply Keeps.forN
    | with_reducible refine Keeps.of_pair (by assumption) ?_ | with_reducible refine Keeps.of_pair' (by assumption) ?_
    | fail_if_no_progress with_reducible apply Keeps.lit | split

theorem keeps_access {r s : State} (h : Keeps r s) : ∀ x0, (∀ t, Keeps r t → Keeps r (x0 t)) → Keeps r (access s x0) := by
  intro x0 hf0
  unfold access
  repeat' first
    | with_reducible assumption | intro _ | with_reducible exact Keeps.refl _ | apply hf0 | with_reducible apply keeps_onFab

theorem keeps_readAnswer {r s : State} (h : Keeps r s) : ∀ x0 x1 x2, Keeps r (readAnswer s x0 x1 x2) := by
  intro x0 x1 x2
  unfold readAnswer
  repeat' first
    | with_reducible assumption | intro _ | with_reducible exact Keeps.refl _ | with_reducible apply keeps_busError
    | with_reducible apply keeps_busRead | with_reducible apply keeps_answer | with_reducible apply Keeps.ite
    | with_reducible apply Keeps.ite_fst | with_reducible apply Keeps.foldl | with_reducible apply Keeps.foldl_fst
    | with_reducible apply Keeps.forN | with_reducible refine Keeps.of_pair (by assumption) ?_
    | with_reducible refine Keeps.of_pair' (by assumption) ?_ | fail_if_no_progress with_reducible apply Keeps.lit | split

theorem keeps_wordCmd {r s : State} (h : Keeps r s) : ∀ x0 x1 x2 x3 x4 x5, Keeps r (wordCmd s x0 x1 x2 x3 x4 x5) := by
  intro x0 x1 x2 x3 x4 x5
  unfold wordCmd
  repeat' first
    | with_reducible assumption | intro _ | with_reducible exact Keeps.refl _ | with_reducible apply keeps_access
    | with_reducible apply keeps_regWrite | with_reducible apply keeps_busError | with_reducible apply Keeps.ite

theorem keeps_bitCmd {r s : State} (h : Keeps r s) : ∀ x0 x1 x2 x3 x4, Keeps r (bitCmd s x0 x1 x2 x3 x4) := by
  intro x0 x1 x2 x3 x4
  unfold bitCmd
  repeat' first
    | with_reducible assumption | intro _ | with_reducible exact Keeps.refl _ | with_reducible apply keeps_wordCmd

theorem keeps_fieldCmd {r s : State} (h : Keeps r s) : ∀ x0 x1 x2 x3 x4, Keeps r (fieldCmd s x0 x1 x2 x3 x4) := by
  intro x0 x1 x2 x3 x4
  unfold fieldCmd
  repeat' first
    | with_reducible assumption | intro _ | with_reducible exact Keeps.refl _ | with_reducible apply keeps_wordCmd

theorem keeps_readCmd {r s : State} (h : Keeps r s) : ∀ x0 x1 x2 x3, Keeps r (readCmd s x0 x1 x2 x3) := by
  intro x0 x1 x2 x3
  unfold readCmd
  repeat' first
    | with_reducible assumption | intro _ | with_reducible exact Keeps.refl _ | with_reducible apply keeps_access
    | with_reducible apply keeps_readAnswer

theorem keeps_cellBit {r s : State} (h : Keeps r s) : ∀ x0 x1 x2, Keeps r (cellBit s x0 x1 x2) := by
  intro x0 x1 x2
  unfold cellBit
  repeat' first
    | with_reducible assumption | intro _ | with_reducible exact Keeps.refl _ | with_reducible apply keeps_access
    | with_reducible apply keeps_busWrite

theorem keeps_stateErrEvent {r s : State} (h : Keeps r s) : ∀ x0, Keeps r (stateErrEvent s x0) := by
  intro x0
  unfold stateErrEvent
  repeat' first
    | with_reducible assumption | intro _ | with_reducible exact Keeps.refl _ | with_reducible apply keeps_stateErr
    | with_reducible apply Keeps.ite

theorem keeps_commitStore {r s : State} (h : Keeps r s) : ∀ x0 x1, Keeps r (commitStore s x0 x1) := by
  intro x0 x1
  unfold commitStore
  repeat' first
    | with_reducible assumption | intro _ | with_reducible exact Keeps.refl _ | with_reducible apply keeps_busWrite
    | with_reducible apply Keeps.ite | with_reducible apply Keeps.ite_fst | with_reducible apply Keeps.foldl
    | with_reducible apply Keeps.foldl_fst | with_reducible apply Keeps.forN
    | with_reducible refine Keeps.of_pair (by assumption) ?_ | with_reducible refine Keeps.of_pair' (by assumption) ?_
    | fail_if_no_progress with_reducible apply Keeps.lit

theorem keeps_bufferMoved {r s : State} (h : Keeps r s) : ∀ x0, Keeps r (bufferMoved s x0) := by
  intro x0
  unfold bufferMoved
  repeat' first
    | with_reducible assumption | intro _ | with_reducible exact Keeps.refl _ | with_reducible apply keeps_resume
    | with_reducible apply keeps_setCore | with_reducible apply Keeps.ite | with_reducible apply Keeps.ite_fst
    | with_reducible apply Keeps.foldl | with_reducible apply Keeps.foldl_fst | with_reducible apply Keeps.forN
    | with_reducible refine Keeps.of_pair (by assumption) ?_ | with_reducible refine Keeps.of_pair' (by assumption) ?_
    | fail_if_no_progress with_reducible apply Keeps.lit | with_reducible apply wf_gW | with_reducible apply wf_fW
    | with_reducible apply wf_acW | with_reducible apply wf_tcmPut | with_reducible apply wf_takeLoad
    | with_reducible apply wf_takeMsg | with_reducible exact wf_nil | split | dsimp only

theorem keeps_storeCommit {r s : State} (h : Keeps r s) : ∀ x0, Keeps r (storeCommit s x0) := by
  intro x0
  unfold storeCommit
  repeat' first
    | with_reducible assumption | intro _ | with_reducible exact Keeps.refl _ | with_reducible apply keeps_bufferMoved
    | with_reducible apply keeps_commitStore | with_reducible apply keeps_updCore | with_reducible apply Keeps.ite
    | with_reducible apply Keeps.ite_fst | with_reducible apply Keeps.foldl | with_reducible apply Keeps.foldl_fst
    | with_reducible apply Keeps.forN | with_reducible refine Keeps.of_pair (by assumption) ?_
    | with_reducible refine Keeps.of_pair' (by assumption) ?_ | fail_if_no_progress with_reducible apply Keeps.lit
    | with_reducible apply wf_gW | with_reducible apply wf_fW | with_reducible apply wf_acW | with_reducible apply wf_tcmPut
    | with_reducible apply wf_takeLoad | with_reducible apply wf_takeMsg | with_reducible exact wf_nil | split

theorem keeps_loadExc {r s : State} (h : Keeps r s) : ∀ x0 x1 x2 x3, Keeps r (loadExc s x0 x1 x2 x3) := by
  intro x0 x1 x2 x3
  unfold loadExc
  repeat' first
    | with_reducible assumption | intro _ | with_reducible exact Keeps.refl _ | with_reducible apply keeps_updCore
    | with_reducible apply keeps_atBoundary | with_reducible apply keeps_syncExc

theorem keeps_loadReturn {r s : State} (h : Keeps r s) : ∀ x0, Keeps r (loadReturn s x0) := by
  intro x0
  unfold loadReturn
  repeat' first
    | with_reducible assumption | intro _ | with_reducible exact Keeps.refl _ | with_reducible apply keeps_busRead
    | with_reducible apply keeps_resume | with_reducible apply keeps_updCore | with_reducible apply keeps_loadExc
    | with_reducible apply Keeps.ite | with_reducible apply Keeps.ite_fst | with_reducible apply Keeps.foldl
    | with_reducible apply Keeps.foldl_fst | with_reducible apply Keeps.forN
    | with_reducible refine Keeps.of_pair (by assumption) ?_ | with_reducible refine Keeps.of_pair' (by assumption) ?_
    | fail_if_no_progress with_reducible apply Keeps.lit | with_reducible apply wf_gW | with_reducible apply wf_fW
    | with_reducible apply wf_acW | with_reducible apply wf_tcmPut | with_reducible apply wf_takeLoad
    | with_reducible apply wf_takeMsg | with_reducible exact wf_nil | split | dsimp only

theorem keeps_lawwtRelease {r s : State} (h : Keeps r s) : ∀ x0, Keeps r (lawwtRelease s x0) := by
  intro x0
  unfold lawwtRelease
  repeat' first
    | with_reducible assumption | intro _ | with_reducible exact Keeps.refl _ | with_reducible apply keeps_resume
    | with_reducible apply Keeps.ite | with_reducible apply Keeps.ite_fst | with_reducible apply Keeps.foldl
    | with_reducible apply Keeps.foldl_fst | with_reducible apply Keeps.forN
    | with_reducible refine Keeps.of_pair (by assumption) ?_ | with_reducible refine Keeps.of_pair' (by assumption) ?_
    | fail_if_no_progress with_reducible apply Keeps.lit | split

theorem keeps_absentAccess {r s : State} (h : Keeps r s) : ∀ x0 x1 x2, Keeps r (absentAccess s x0 x1 x2) := by
  intro x0 x1 x2
  unfold absentAccess
  repeat' first
    | with_reducible assumption | intro _ | with_reducible exact Keeps.refl _ | with_reducible apply keeps_busError
    | with_reducible apply keeps_loadExc | with_reducible apply Keeps.ite | with_reducible apply Keeps.ite_fst
    | with_reducible apply Keeps.foldl | with_reducible apply Keeps.foldl_fst | with_reducible apply Keeps.forN
    | with_reducible refine Keeps.of_pair (by assumption) ?_ | with_reducible refine Keeps.of_pair' (by assumption) ?_
    | fail_if_no_progress with_reducible apply Keeps.lit | split

theorem keeps_onKeep {r s : State} (h : Keeps r s) : ∀ x0, (∀ t, Keeps r t → Keeps r (x0 t)) → Keeps r (onKeep s x0) := by
  intro x0 hf0
  unfold onKeep
  repeat' first
    | with_reducible assumption | intro _ | with_reducible exact Keeps.refl _ | apply hf0 | with_reducible apply Keeps.ite

theorem keeps_keepCmd {r s : State} (h : Keeps r s) : ∀ x0 x1 x2 x3, Keeps r (keepCmd s x0 x1 x2 x3) := by
  intro x0 x1 x2 x3
  unfold keepCmd
  repeat' first
    | with_reducible assumption | intro _ | with_reducible exact Keeps.refl _ | with_reducible apply keeps_onKeep
    | with_reducible apply keeps_busError | with_reducible apply keeps_regWrite | with_reducible apply keeps_wordCmd
    | with_reducible apply Keeps.ite

theorem keeps_relayTest {r s : State} (h : Keeps r s) : ∀ x0, Keeps r (relayTest s x0) := by
  intro x0
  unfold relayTest
  repeat' first
    | with_reducible assumption | intro _ | with_reducible exact Keeps.refl _ | with_reducible apply keeps_safeFault
    | with_reducible apply Keeps.ite

theorem keeps_inputTest {r s : State} (h : Keeps r s) : ∀ x0, Keeps r (inputTest s x0) := by
  intro x0
  unfold inputTest
  repeat' first
    | with_reducible assumption | intro _ | with_reducible exact Keeps.refl _ | with_reducible apply keeps_safeFault
    | with_reducible apply Keeps.ite

theorem keeps_checkFailed {r s : State} (h : Keeps r s) : ∀ x0, Keeps r (checkFailed s x0) := by
  intro x0
  unfold checkFailed
  repeat' first
    | with_reducible assumption | intro _ | with_reducible exact Keeps.refl _ | with_reducible apply keeps_safeFault
    | with_reducible apply Keeps.ite

theorem keeps_periodClose {r s : State} (h : Keeps r s) : ∀ x0, Keeps r (periodClose s x0) := by
  intro x0
  unfold periodClose
  repeat' first
    | with_reducible assumption | intro _ | with_reducible exact Keeps.refl _ | with_reducible apply keeps_offerPages
    | with_reducible apply keeps_submitPages | with_reducible apply keeps_closeAt | with_reducible apply Keeps.ite

theorem keeps_portWord {r s : State} (h : Keeps r s) : ∀ x0 x1 x2 x3, Keeps r (portWord s x0 x1 x2 x3) := by
  intro x0 x1 x2 x3
  unfold portWord
  repeat' first
    | with_reducible assumption | intro _ | with_reducible exact Keeps.refl _ | with_reducible apply keeps_answer
    | with_reducible apply keeps_readAnswer | with_reducible apply keeps_busWrite | with_reducible apply Keeps.ite

theorem keeps_uartAnswer {r s : State} (h : Keeps r s) : Keeps r (uartAnswer s) := by
  unfold uartAnswer
  repeat' first
    | with_reducible assumption | intro _ | with_reducible exact Keeps.refl _ | with_reducible apply keeps_updPort

theorem keeps_uartFrame {r s : State} (h : Keeps r s) : ∀ x0, Keeps r (uartFrame s x0) := by
  intro x0
  unfold uartFrame
  repeat' first
    | with_reducible assumption | intro _ | with_reducible exact Keeps.refl _ | with_reducible apply keeps_uartAnswer
    | with_reducible apply keeps_portWord | with_reducible apply keeps_answer | with_reducible apply Keeps.ite

theorem keeps_safetyAnswer {r s : State} (h : Keeps r s) : ∀ x0, Keeps r (safetyAnswer s x0) := by
  intro x0
  unfold safetyAnswer
  repeat' first
    | with_reducible assumption | intro _ | with_reducible exact Keeps.refl _ | with_reducible apply keeps_updPort

theorem keeps_safetyFrame {r s : State} (h : Keeps r s) : ∀ x0, Keeps r (safetyFrame s x0) := by
  intro x0
  unfold safetyFrame
  repeat' first
    | with_reducible assumption | intro _ | with_reducible exact Keeps.refl _ | with_reducible apply keeps_safetyAnswer
    | with_reducible apply keeps_portWord | with_reducible apply keeps_answer | with_reducible apply Keeps.ite

theorem keeps_linkTrained {r s : State} (h : Keeps r s) : Keeps r (linkTrained s) := by
  unfold linkTrained
  repeat' first
    | with_reducible assumption | intro _ | with_reducible exact Keeps.refl _ | with_reducible apply keeps_raise
    | with_reducible apply Keeps.ite

theorem keeps_lockHost {r s : State} (h : Keeps r s) : ∀ x0 x1 x2, Keeps r (lockHost s x0 x1 x2) := by
  intro x0 x1 x2
  unfold lockHost
  repeat' first
    | with_reducible assumption | intro _ | with_reducible exact Keeps.refl _ | with_reducible apply keeps_wordCmd

theorem keeps_secureCmd {r s : State} (h : Keeps r s) : ∀ x0 x1 x2 x3, Keeps r (secureCmd s x0 x1 x2 x3) := by
  intro x0 x1 x2 x3
  unfold secureCmd
  repeat' first
    | with_reducible assumption | intro _ | with_reducible exact Keeps.refl _ | with_reducible apply keeps_wordCmd

theorem keeps_startAt {r s : State} (h : Keeps r s) : ∀ x0 x1, Keeps r (startAt s x0 x1) := by
  intro x0 x1
  unfold startAt
  repeat' first
    | with_reducible assumption | intro _ | with_reducible exact Keeps.refl _ | with_reducible apply keeps_wordCmd
    | with_reducible apply Keeps.ite

theorem keeps_timerFires {r s : State} (h : Keeps r s) : ∀ x0, Keeps r (timerFires s x0) := by
  intro x0
  unfold timerFires
  repeat' first
    | with_reducible assumption | intro _ | with_reducible exact Keeps.refl _ | with_reducible apply keeps_campanileWake
    | with_reducible apply keeps_timerFire | with_reducible apply Keeps.ite

theorem keeps_outputFires {r s : State} (h : Keeps r s) : ∀ x0, Keeps r (outputFires s x0) := by
  intro x0
  unfold outputFires
  repeat' first
    | with_reducible assumption | intro _ | with_reducible exact Keeps.refl _ | with_reducible apply keeps_campanileWake
    | with_reducible apply keeps_outActive | with_reducible apply Keeps.ite

theorem keeps_measDeliver {r s : State} (h : Keeps r s) : ∀ x0, Keeps r (measDeliver s x0) := by
  intro x0
  unfold measDeliver
  repeat' first
    | with_reducible assumption | intro _ | with_reducible exact Keeps.refl _ | with_reducible apply keeps_adcDeliver
    | with_reducible apply keeps_svDeliver | with_reducible apply Keeps.ite | with_reducible apply Keeps.ite_fst
    | with_reducible apply Keeps.foldl | with_reducible apply Keeps.foldl_fst | with_reducible apply Keeps.forN
    | with_reducible refine Keeps.of_pair (by assumption) ?_ | with_reducible refine Keeps.of_pair' (by assumption) ?_
    | fail_if_no_progress with_reducible apply Keeps.lit | split

theorem keeps_measFlag {r s : State} (h : Keeps r s) : ∀ x0, Keeps r (measFlag s x0) := by
  intro x0
  unfold measFlag
  repeat' first
    | with_reducible assumption | intro _ | with_reducible exact Keeps.refl _ | with_reducible apply keeps_updTwin
    | with_reducible apply keeps_raise

theorem keeps_measMissing {r s : State} (h : Keeps r s) : ∀ x0, Keeps r (measMissing s x0) := by
  intro x0
  unfold measMissing
  repeat' first
    | with_reducible assumption | intro _ | with_reducible exact Keeps.refl _ | with_reducible apply keeps_measFlag
    | with_reducible apply keeps_adcDeliver | with_reducible apply Keeps.ite | with_reducible apply Keeps.ite_fst
    | with_reducible apply Keeps.foldl | with_reducible apply Keeps.foldl_fst | with_reducible apply Keeps.forN
    | with_reducible refine Keeps.of_pair (by assumption) ?_ | with_reducible refine Keeps.of_pair' (by assumption) ?_
    | fail_if_no_progress with_reducible apply Keeps.lit | split

theorem keeps_measCompare {r s : State} (h : Keeps r s) : ∀ x0 x1, Keeps r (measCompare x0 s x1) := by
  intro x0 x1
  unfold measCompare
  repeat' first
    | with_reducible assumption | intro _ | with_reducible exact Keeps.refl _ | with_reducible apply keeps_measFlag
    | with_reducible apply keeps_measMissing | with_reducible apply Keeps.ite | with_reducible apply Keeps.ite_fst
    | with_reducible apply Keeps.foldl | with_reducible apply Keeps.foldl_fst | with_reducible apply Keeps.forN
    | with_reducible refine Keeps.of_pair (by assumption) ?_ | with_reducible refine Keeps.of_pair' (by assumption) ?_
    | fail_if_no_progress with_reducible apply Keeps.lit | split

theorem keeps_measEdge {r s : State} (h : Keeps r s) : ∀ x0, Keeps r (measEdge s x0) := by
  intro x0
  unfold measEdge
  repeat' first
    | with_reducible assumption | intro _ | with_reducible exact Keeps.refl _ | with_reducible apply keeps_toEdge
    | with_reducible apply keeps_measDeliver | with_reducible apply keeps_measCompare | with_reducible apply Keeps.ite
    | with_reducible apply Keeps.ite_fst | with_reducible apply Keeps.foldl | with_reducible apply Keeps.foldl_fst
    | with_reducible apply Keeps.forN | with_reducible refine Keeps.of_pair (by assumption) ?_
    | with_reducible refine Keeps.of_pair' (by assumption) ?_ | fail_if_no_progress with_reducible apply Keeps.lit | split

theorem keeps_followerVerdict {r s : State} (h : Keeps r s) : ∀ x0, Keeps r (followerVerdict s x0) := by
  intro x0
  unfold followerVerdict
  repeat' first
    | with_reducible assumption | intro _ | with_reducible exact Keeps.refl _ | with_reducible apply keeps_twinFault
    | with_reducible apply keeps_wr | with_reducible apply keeps_raise | with_reducible apply keeps_updTwin

theorem keeps_mismatchNotice {r s : State} (h : Keeps r s) : ∀ x0 x1 x2, Keeps r (mismatchNotice s x0 x1 x2) := by
  intro x0 x1 x2
  unfold mismatchNotice
  repeat' first
    | with_reducible assumption | intro _ | with_reducible exact Keeps.refl _ | with_reducible apply keeps_mismatchFinal
    | with_reducible apply keeps_followerVerdict | with_reducible apply Keeps.ite

theorem keeps_handoverEvent {r s : State} (h : Keeps r s) : Keeps r (handoverEvent s) := by
  unfold handoverEvent
  repeat' first
    | with_reducible assumption | intro _ | with_reducible exact Keeps.refl _ | with_reducible apply keeps_pinsFollow
    | with_reducible apply keeps_handoverAt | with_reducible apply Keeps.ite

end Sys2Proof.Machine
end

