-- ==== Sys2Proof/Laws/Spire.lean ====
section
/-!
SUPPORT. The frame of an instruction of a Spire core: what an instruction that runs leaves, and what every instruction keeps.
-/
namespace Sys2Proof.Machine

/-- The state inside a result. -/
def SpRes.st : SpRes → State
  | .done s => s
  | .jump s _ => s
  | .hold s => s
  | .halt s => s
  | .ret s => s
  | .exc s _ _ _ _ => s

/-- The end of an instruction keeps what its result keeps. -/
theorem keeps_spFinish {r : State} {q : SpRes} (h : Keeps r q.st) (c pc : Nat) : Keeps r (spFinish c pc q) := by
  cases q with
  | done s => exact keeps_atBoundary (keeps_updCore h _ _ id) _
  | jump s t => exact keeps_atBoundary (keeps_updCore h _ _ id) _
  | hold s => exact h
  | halt s => exact keeps_haltCore (keeps_updCore h _ _ id) _ _
  | ret s => exact keeps_atBoundary (keeps_leaveExc h _) _
  | exc s code stat addr after => exact keeps_atBoundary (keeps_syncExc h _ _ _ _ _) _

/-- An instruction keeps what its own effect keeps. -/
theorem keeps_spire {r s : State} (h : Keeps r s) (c : Fin 16) (i : Instr) (bad : Bool) (body : State → CoreSt → SpRes)
    (hb : ∀ t, Keeps r t → Keeps r (body t (t.core c)).st) : Keeps r (spire s c i bad body) := by
  have ht := keeps_tcmCorrect h c (s.core c).pc 4
  unfold spire
  split
  · dsimp only
    split
    · rename_i q hq
      apply keeps_spFinish
      unfold fetchFault at hq
      dsimp only at hq
      by_cases h1 : TCM_SIZE ≤ (s.core c).pc
      · rw [if_pos h1] at hq; cases hq; exact h
      · rw [if_neg h1] at hq
        by_cases h2 : (s.core c).tcmFails (s.core c).pc 4 = true
        · rw [if_pos h2] at hq; cases hq; exact keeps_raise h _ _ _
        · rw [if_neg h2] at hq; cases hq
    · split
      · apply keeps_spFinish
        cases bad
        · exact hb _ ht
        · exact ht
      · split
        · exact keeps_spFinish (q := .plainExc _ _) ht _ _
        · exact h
  · exact h

/-- An instruction that changes only its core's own registers. -/
theorem keeps_spReg {r s : State} (h : Keeps r s) (c : Fin 16) (i : Instr) (bad : Bool) (f : CoreSt → CoreSt)
    (hf : ∀ x, Memory.wf x.tcm = true → Memory.wf (f x).tcm = true) : Keeps r (spReg s c i bad f) :=
  keeps_spire h c i bad _ fun _ ht => keeps_setCore ht c _ (hf _)

/-- A core after it was replaced. -/
theorem State.core_setCore (s : State) (c k : Nat) (x : CoreSt) : (s.setCore c x).core k = if k = c then x else s.core k := by
  simp only [State.setCore, State.core]; exact Sp.get_set _ _ _ _ _

/-- The core that was replaced. -/
@[simp] theorem State.core_setCore_same (s : State) (c : Nat) (x : CoreSt) : (s.setCore c x).core c = x := by
  rw [State.core_setCore, if_pos rfl]

/-- The core that was changed. -/
@[simp] theorem State.core_updCore_same (s : State) (c : Nat) (f : CoreSt → CoreSt) : (s.updCore c f).core c = f (s.core c) := by
  rw [State.core_updCore, if_pos rfl]

/-- The instruction that the word at the PC spells, with a good fetch and no stray bits, acts on the state after the fetch. -/
theorem spire_runs {s : State} {c : Fin 16} {i : Instr} (h : coreRuns s c = true) (hf : fetchFault s c = none)
    (hi : fetched s c = some i) (body : State → CoreSt → SpRes) :
    spire s c i false body = spFinish c (s.core c).pc
      (body (tcmCorrect s c (s.core c).pc 4) ((tcmCorrect s c (s.core c).pc 4).core c)) := by
  unfold spire; rw [if_pos h, hf]; dsimp only; rw [if_pos hi]; rfl

/-- An instruction with an unused field that is not 0 raises ILLEGAL (R173). -/
theorem spire_illegal {s : State} {c : Fin 16} {i : Instr} (h : coreRuns s c = true) (hf : fetchFault s c = none)
    (hi : fetched s c = some i) (body : State → CoreSt → SpRes) :
    spire s c i true body = spFinish c (s.core c).pc (.plainExc (tcmCorrect s c (s.core c).pc 4) X_ILLEGAL) := by
  unfold spire; rw [if_pos h, hf]; dsimp only; rw [if_pos hi]; rfl

/-- A word that no row has raises ILLEGAL (R173). -/
theorem spire_unknown {s : State} {c : Fin 16} (h : coreRuns s c = true) (hf : fetchFault s c = none)
    (hi : fetched s c = none) (i : Instr) (bad : Bool) (body : State → CoreSt → SpRes) :
    spire s c i bad body = spFinish c (s.core c).pc (.plainExc (tcmCorrect s c (s.core c).pc 4) X_ILLEGAL) := by
  unfold spire; rw [if_pos h, hf]; dsimp only; rw [hi]; simp

/-- An instruction that the word at the PC does not spell is not executed (log 20). -/
theorem spire_other {s : State} {c : Fin 16} {i j : Instr} (hf : fetchFault s c = none) (hi : fetched s c = some j) (hn : j ≠ i)
    (bad : Bool) (body : State → CoreSt → SpRes) : spire s c i bad body = s := by
  unfold spire; rw [hf]; dsimp only; rw [hi]; simp [hn]

/-- A fetch that faults. -/
theorem spire_fetchFault {s : State} {c : Fin 16} {q : SpRes} (h : coreRuns s c = true) (hf : fetchFault s c = some q) (i : Instr)
    (bad : Bool) (body : State → CoreSt → SpRes) : spire s c i bad body = spFinish c (s.core c).pc q := by
  unfold spire; rw [if_pos h, hf]

/-- A core that does not run executes nothing. -/
theorem spire_idle {s : State} {c : Fin 16} (h : coreRuns s c = false) (i : Instr) (bad : Bool) (body : State → CoreSt → SpRes) :
    spire s c i bad body = s := by
  unfold spire; rw [h]; rfl

/-- Without a halt that was asked for, a boundary changes nothing. -/
theorem atBoundary_none {s : State} {c : Nat} (h : (s.core c).haltReq = false) : atBoundary s c = s := by
  unfold atBoundary; rw [h]; rfl

/-- The fetch leaves everything of the core but the words corrected. -/
theorem core_tcmCorrect (s : State) (c a n : Nat) :
    (tcmCorrect s c a n).core c = { s.core c with tcmCorr := ((tcmCorrect s c a n).core c).tcmCorr } := by
  unfold tcmCorrect
  dsimp only
  split
  · rfl
  · have hc : ∀ (u : State) (f : Fld) (i j m k : Nat), (u.countSat f i j m).core k = u.core k := fun _ _ _ _ _ _ => rfl
    simp only [hc, State.core_setCore_same]

/-! ### The ends of an instruction, one at a time -/

/-- Done: the PC goes to the next word. -/
theorem spFinish_done (c pc : Nat) (s : State) :
    spFinish c pc (.done s) = atBoundary (s.updCore c fun x => { x with pc := pc + 4 }) c := rfl

/-- A branch taken. -/
theorem spFinish_jump (c pc : Nat) (s : State) (a : Nat) :
    spFinish c pc (.jump s a) = atBoundary (s.updCore c fun x => { x with pc := a }) c := rfl

/-- A stall: the PC stays. -/
theorem spFinish_hold (c pc : Nat) (s : State) : spFinish c pc (.hold s) = s := rfl

/-- HALT. -/
theorem spFinish_halt (c pc : Nat) (s : State) :
    spFinish c pc (.halt s) = haltCore (s.updCore c fun x => { x with pc := pc + 4 }) c HC_INSTR := rfl

/-- XRET. -/
theorem spFinish_ret (c pc : Nat) (s : State) : spFinish c pc (.ret s) = atBoundary (leaveExc s c) c := rfl

/-- A synchronous exception. -/
theorem spFinish_exc (c pc : Nat) (s : State) (code stat : Nat) (addr : Option Nat) (after : Bool) :
    spFinish c pc (.exc s code stat addr after) =
      atBoundary (syncExc s c code stat (if after then pc + 4 else pc) addr) c := rfl

end Sys2Proof.Machine
end

