-- ==== Sys2Proof/Machine/Pins.lean ====
section
/-!
DEFINITION. The output pins as the state drives or releases them (R288, R316, R334, R371, R378, R416, R419, R420). The pins
are read off the state; no operation stores them.
-/
namespace Sys2Proof.Machine

/-- An output pin: the two outputs of a PWM pair, the driver bus, a timed output, a clock output, a relay and a gate output
of Keep, the transmitters of a ring, Lantern's rail enables. -/
inductive Pin where
  | pwmA (n : Nat) | pwmB (n : Nat)
  | drvCs | drvSclk | drvMosi
  | tout (j : Nat)
  | clkout (j : Nat)
  | krly (i : Nat) | kgen (i : Nat)
  | ringTx (r : Nat)
  | penMain | penSer | penA
  deriving DecidableEq, Repr

/-- What a pin does (R419): driven to a level, driven as the running clock or bus shows, pulled weakly up or down, floating, a
transmitter at electrical idle. -/
inductive Drive where
  | level (high : Bool)
  | running
  | weakUp
  | weakDown
  | hiZ
  | idle
  deriving DecidableEq, Repr

/-- The group of a rail: the main rails, VDD_SER and VDD_SERH; a rail is powered while its enable is asserted and no reset holds
the rails off (R416). -/
def mainRail (s : State) : Bool := s.lant.penMain && !s.lant.held

/-- A pin of the FAB domain is released while a device reset is asserted or its domain is off (R371, R419). -/
def fabOff (s : State) : Bool := s.rst.asserted.isSome || decide (3 ≤ powerState s) || s.lant.held

/-- A pulled pin floats while its bank rail is off (R419). -/
def weak (s : State) (pull : Drive) : Drive := if mainRail s then pull else .hiZ

/-- A twin unit that does not hold the token releases its outputs (R334). -/
def twinReleased (s : State) : Bool := s.port.pinsHeld

/-- An output of PWM pair n (R288): released, driven off while the pair is stopped, else its switch's command. -/
def pwmPin (s : State) (n b : Nat) : Drive :=
  if fabOff s || twinReleased s || !(s.on PWM_CTRL_OE n) then weak s .weakDown
  else .level (s.on PWM_CTRL_EN n && bit (s.rd PWM_STATUS_OUT n) b)

/-- A pin of the driver bus (R420). -/
def drvPin (s : State) (pull : Drive) (idleHigh : Bool) : Drive :=
  if fabOff s || twinReleased s || !(s.on TRIP_DRV_CFG_EN) then weak s pull
  else if s.sig.trip.busy.isSome then .running else .level idleHigh

/-- A timed output (R316, R334): released, or LEVEL while it is active and the other level while idle. -/
def toutPin (s : State) (j : Nat) : Drive :=
  if fabOff s || twinReleased s || !(s.on CAMPANILE_TO_CTRL_OE 0 j) then weak s .weakDown
  else .level (s.on CAMPANILE_TO_CTRL_LEVEL 0 j == s.camp.outOn.contains j)

/-- A clock output (R378): format 0 drives nothing, 1PPS and 10 MHz follow Campanile and are held low while they are gated,
format 1 shows its clock. -/
def clkoutPin (s : State) (j : Nat) : Drive :=
  if fabOff s || !(s.on SYS_CLKOUT_OE 0 j) then .hiZ
  else
    match s.rd SYS_CLKOUT_FMT 0 j with
    | 0 => .hiZ
    | 2 => .level ((findKey s.camp.ppsIdle j).any (fun t => decide (s.ns < t)) && !(clkGated s j))
    | 3 => .level (decide (s.time % (100 * 2 ^ 32) < 50 * 2 ^ 32) && !(clkGated s j))
    | _ => .running

/-- A relay or gate output of Keep (R420). -/
def keepPin (s : State) (f : Fld) (i : Nat) : Drive := if keepUp s then .level (bit (s.rd f) i) else weak s .weakDown

/-- A rail enable (R371, R420): floating below the brown-out level. -/
def penPin (s : State) (on : Bool) : Drive := if s.lant.held then .hiZ else .level on

/-- What a pin does in a state (R420). -/
def Pin.drive (s : State) : Pin → Drive
  | .pwmA n => pwmPin s n 0
  | .pwmB n => pwmPin s n 1
  | .drvCs => drvPin s .weakUp true
  | .drvSclk => drvPin s .weakDown false
  | .drvMosi => drvPin s .weakDown false
  | .tout j => toutPin s j
  | .clkout j => clkoutPin s j
  | .krly i => keepPin s KEEP_OUTPUTS_RELAY i
  | .kgen i => keepPin s KEEP_OUTPUTS_KGEN i
  | .ringTx r =>
    if fabOff s || decide (2 ≤ powerState s) || !(s.on RING_CTRL_EN r) || s.on KEEP_STATUS_SAFE_FAULT then .idle else .running
  | .penMain => penPin s s.lant.penMain
  | .penSer => penPin s s.lant.penSer
  | .penA => penPin s s.lant.penA

end Sys2Proof.Machine
end

