-- ==== Sys2Proof/Tests/Slice0.lean ====
section
/-!
SUPPORT. Small checks: the well-formedness checks refuse ill-formed commands, words and worked values of the spec, and for each
statement that has hypotheses a witness that states and operands meet those of each clause together.
-/
namespace Sys2Proof.Machine.Tests
open Sys2Proof Sys2Proof.Machine

set_option Elab.async false
set_option maxRecDepth 10000
set_option synthInstance.maxSize 4000
set_option synthInstance.maxHeartbeats 2000000
set_option linter.unusedVariables false

/-! ### States the witnesses start from -/

/-- The machine at FAB edge 1000, the clocks locked, Keep and Lantern running. -/
def base : State :=
  { State.reset.wr SYS_CLK_STATUS_LOCK 1 with
    fab := 1000, time := 5000000 * 2 ^ 32, camp := { State.reset.camp with incr := 6871947674 }
    lant := { State.reset.lant with held := false }, free := 7, rst := { asserted := none, pgood := true, wdtEnd := 0 } }

/-- Core c runs privileged at 0x100 with values in its registers. -/
def up (s : State) (c : Nat) : State :=
  ((s.wr SPIRE_STATUS_HALTED 0 c).wr SPIRE_STATUS_PRIV 1 c).updCore c fun x => { x with
    initBusy := false, pc := 0x100, g := [(5, 0x2004), (6, 77), (8, 0x80000003#32), (9, 4)]
    f := [(5, 0x3F800000#32), (6, 0x40490FDB#32), (8, 0xC0000000#32)], ac := [(0, 0x7F0123456789ABCDEF#72), (1, 0x123456789#72)]
    vbase := 0x400, ie := true, mie := true, xsIe := true, xpc := 0x200 }

/-- The word at the PC of core c. -/
def poke (s : State) (c w : Nat) : State := s.updCore c fun x => { x with tcm := memPutBytes x.tcm x.pc (leBytes 4 w) }

/-- No channel meets a second CA parity error. -/
theorem quiet {m : Sp MemSt} (h : m.all (fun p => decide (p.2.caErrs < 2)) = true) (c : Nat) : (m.get {} c).caErrs < 2 := by
  induction m with
  | nil => exact Nat.zero_lt_two
  | cons p t ih =>
    obtain ⟨k, v⟩ := p
    simp only [List.all_cons, Bool.and_eq_true, decide_eq_true_eq] at h
    by_cases hc : c = k
    · simpa [Sp.get, hc] using h.1
    · simpa [Sp.get, hc] using ih h.2

/-- A property of the numbers of a range, checked one by one. -/
theorem ball_range {lo hi : Nat} {p : Nat → Prop} (h : ∀ a ∈ (List.range (hi - lo)).map (lo + ·), p a) (a : Nat) (hl : lo ≤ a)
    (hu : a < hi) : p a :=
  h a (List.mem_map.mpr ⟨a - lo, List.mem_range.mpr (by omega), by omega⟩)

/-- What waits for nothing waits for no particular thing. -/
theorem ne_some_of_none {α : Type} {o : Option α} (h : o = none) (a : α) : o ≠ some a := by simp [h]

/-! ### Hypotheses of the statements, clause by clause

Each theorem goes through the clauses of the statement it is named after in their order. -/

theorem witness_SpireAluResults :
  let c : Fin 16 := 1; let rd : BitVec 5 := 6; let rs1 : BitVec 5 := 5; let rs2 : BitVec 5 := 8; let imm : BitVec 16 := 5;
  (let s : State := poke (up base 1) c 0x00C54000;
    Executes s c ∧ fetched s c = some (.spAdd c rd rs1 rs2)) ∧
  (let s : State := poke (up base 1) c 0x00C54001;
    Executes s c ∧ fetched s c = some (.spSub c rd rs1 rs2)) ∧
  (let s : State := poke (up base 1) c 0x00C54002;
    Executes s c ∧ fetched s c = some (.spAnd c rd rs1 rs2)) ∧
  (let s : State := poke (up base 1) c 0x00C54003;
    Executes s c ∧ fetched s c = some (.spOr c rd rs1 rs2)) ∧
  (let s : State := poke (up base 1) c 0x00C54004;
    Executes s c ∧ fetched s c = some (.spXor c rd rs1 rs2)) ∧
  (let s : State := poke (up base 1) c 0x00C54005;
    Executes s c ∧ fetched s c = some (.spNor c rd rs1 rs2)) ∧
  (let s : State := poke (up base 1) c 0x00C54006;
    Executes s c ∧ fetched s c = some (.spSlt c rd rs1 rs2)) ∧
  (let s : State := poke (up base 1) c 0x00C54007;
    Executes s c ∧ fetched s c = some (.spSltu c rd rs1 rs2)) ∧
  (let s : State := poke (up base 1) c 0x00C54008;
    Executes s c ∧ fetched s c = some (.spSll c rd rs1 rs2)) ∧
  (let s : State := poke (up base 1) c 0x00C54009;
    Executes s c ∧ fetched s c = some (.spSrl c rd rs1 rs2)) ∧
  (let s : State := poke (up base 1) c 0x00C5400A;
    Executes s c ∧ fetched s c = some (.spSra c rd rs1 rs2)) ∧
  (let s : State := poke (up base 1) c 0x00C5400B;
    Executes s c ∧ fetched s c = some (.spSlli c rd rs1 rs2)) ∧
  (let s : State := poke (up base 1) c 0x00C5400C;
    Executes s c ∧ fetched s c = some (.spSrli c rd rs1 rs2)) ∧
  (let s : State := poke (up base 1) c 0x00C5400D;
    Executes s c ∧ fetched s c = some (.spSrai c rd rs1 rs2)) ∧
  (let s : State := poke (up base 1) c 0x00C5400E;
    Executes s c ∧ fetched s c = some (.spMin c rd rs1 rs2)) ∧
  (let s : State := poke (up base 1) c 0x00C5400F;
    Executes s c ∧ fetched s c = some (.spMax c rd rs1 rs2)) ∧
  (let s : State := poke (up base 1) c 0x00C54010;
    Executes s c ∧ fetched s c = some (.spMinu c rd rs1 rs2)) ∧
  (let s : State := poke (up base 1) c 0x00C54011;
    Executes s c ∧ fetched s c = some (.spMaxu c rd rs1 rs2)) ∧
  (let s : State := poke (up base 1) c 0x00C50014;
    Executes s c ∧ fetched s c = some (.spClz c rd rs1 0)) ∧
  (let s : State := poke (up base 1) c 0x00C50015;
    Executes s c ∧ fetched s c = some (.spSextb c rd rs1 0)) ∧
  (let s : State := poke (up base 1) c 0x00C50016;
    Executes s c ∧ fetched s c = some (.spSexth c rd rs1 0)) ∧
  (let s : State := poke (up base 1) c 0x00C50017;
    Executes s c ∧ fetched s c = some (.spZexth c rd rs1 0)) ∧
  (let s : State := poke (up base 1) c 0x04C50005;
    Executes s c ∧ fetched s c = some (.spAddi c rd rs1 imm)) ∧
  (let s : State := poke (up base 1) c 0x08C50005;
    Executes s c ∧ fetched s c = some (.spAndi c rd rs1 imm)) ∧
  (let s : State := poke (up base 1) c 0x0CC50005;
    Executes s c ∧ fetched s c = some (.spOri c rd rs1 imm)) ∧
  (let s : State := poke (up base 1) c 0x10C50005;
    Executes s c ∧ fetched s c = some (.spXori c rd rs1 imm)) ∧
  (let s : State := poke (up base 1) c 0x14C50005;
    Executes s c ∧ fetched s c = some (.spSlti c rd rs1 imm)) ∧
  (let s : State := poke (up base 1) c 0x18C50005;
    Executes s c ∧ fetched s c = some (.spSltiu c rd rs1 imm)) ∧
  (let s : State := poke (up base 1) c 0x1CC00005;
    Executes s c ∧ fetched s c = some (.spImmh c rd 0 imm)) := by
  decide +kernel

theorem witness_SpireSaturation :
  let c : Fin 16 := 1; let rd : BitVec 5 := 6; let rs1 : BitVec 5 := 5; let rs2 : BitVec 5 := 8; let ac : Fin 4 := 1;
  (let s : State := poke (up base 1) c 0x00C54012;
    Executes s c ∧ fetched s c = some (.spAdds c rd rs1 rs2)) ∧
  (let s : State := poke (up base 1) c 0x00C54013;
    Executes s c ∧ fetched s c = some (.spSubs c rd rs1 rs2)) ∧
  (let s : State := poke (up base 1) c 0x00C50018;
    Executes s c ∧ fetched s c = some (.spAbs c rd rs1 0)) ∧
  (let s : State := poke (up base 1) c 0x20C54003;
    Executes s c ∧ fetched s c = some (.spMulq c rd rs1 rs2)) ∧
  (let s : State := poke (up base 1) c 0x20254013;
    Executes s c ∧ fetched s c = some (.spMacs c (BitVec.ofNat 5 ac.val) rs1 rs2)) ∧
  (let s : State := poke (up base 1) c 0x20254014;
    Executes s c ∧ fetched s c = some (.spMsus c (BitVec.ofNat 5 ac.val) rs1 rs2)) ∧
  (let s : State := poke (up base 1) c 0x20C14020;
    Executes s c ∧ fetched s c = some (.spAcrd c rd (BitVec.ofNat 5 ac.val) rs2)) ∧
  (let s : State := poke (up base 1) c 0x20C14021;
    Executes s c ∧ fetched s c = some (.spAcrdt c rd (BitVec.ofNat 5 ac.val) rs2)) := by
  decide +kernel

theorem witness_SpireProducts :
  let c : Fin 16 := 1; let rd : BitVec 5 := 6; let rs1 : BitVec 5 := 5; let rs2 : BitVec 5 := 8; let ac : Fin 4 := 1;
  (let s : State := poke (up base 1) c 0x20C54000;
    Executes s c ∧ fetched s c = some (.spMul c rd rs1 rs2)) ∧
  (let s : State := poke (up base 1) c 0x20C54001;
    Executes s c ∧ fetched s c = some (.spMulh c rd rs1 rs2)) ∧
  (let s : State := poke (up base 1) c 0x20C54002;
    Executes s c ∧ fetched s c = some (.spMulhu c rd rs1 rs2)) ∧
  (let s : State := poke (up base 1) c 0x20254010;
    Executes s c ∧ fetched s c = some (.spMac c (BitVec.ofNat 5 ac.val) rs1 rs2)) ∧
  (let s : State := poke (up base 1) c 0x20254011;
    Executes s c ∧ fetched s c = some (.spMacu c (BitVec.ofNat 5 ac.val) rs1 rs2)) ∧
  (let s : State := poke (up base 1) c 0x20254012;
    Executes s c ∧ fetched s c = some (.spMsu c (BitVec.ofNat 5 ac.val) rs1 rs2)) := by
  decide +kernel

theorem witness_SpireAccumulatorMoves :
  let c : Fin 16 := 1; let rd : BitVec 5 := 6; let ac : Fin 4 := 1; let rs1 : BitVec 5 := 5;
  (let s : State := poke (up base 1) c 0x20C10022;
    Executes s c ∧ fetched s c = some (.spAcrdl c rd (BitVec.ofNat 5 ac.val) 0)) ∧
  (let s : State := poke (up base 1) c 0x20C10023;
    Executes s c ∧ fetched s c = some (.spAcrdh c rd (BitVec.ofNat 5 ac.val) 0)) ∧
  (let s : State := poke (up base 1) c 0x20C10024;
    Executes s c ∧ fetched s c = some (.spAcrdx c rd (BitVec.ofNat 5 ac.val) 0)) ∧
  (let s : State := poke (up base 1) c 0x20250030;
    Executes s c ∧ fetched s c = some (.spAcwr c (BitVec.ofNat 5 ac.val) rs1 0)) ∧
  (let s : State := poke (up base 1) c 0x20250031;
    Executes s c ∧ fetched s c = some (.spAcwrh c (BitVec.ofNat 5 ac.val) rs1 0)) ∧
  (let s : State := poke (up base 1) c 0x20250032;
    Executes s c ∧ fetched s c = some (.spAcwrx c (BitVec.ofNat 5 ac.val) rs1 0)) ∧
  (let s : State := poke (up base 1) c 0x20200033;
    Executes s c ∧ fetched s c = some (.spAcclr c (BitVec.ofNat 5 ac.val) 0 0)) := by
  decide +kernel

theorem witness_SpireFloatResults :
  let c : Fin 16 := 1; let rd : BitVec 5 := 6; let rs1 : BitVec 5 := 5; let rs2 : BitVec 5 := 8;
  (let s : State := poke (up base 1) c 0x24C54000;
    Executes s c ∧ fetched s c = some (.spFadd c rd rs1 rs2)) ∧
  (let s : State := poke (up base 1) c 0x24C54001;
    Executes s c ∧ fetched s c = some (.spFsub c rd rs1 rs2)) ∧
  (let s : State := poke (up base 1) c 0x24C54002;
    Executes s c ∧ fetched s c = some (.spFmul c rd rs1 rs2)) ∧
  (let s : State := poke (up base 1) c 0x24C54003;
    Executes s c ∧ fetched s c = some (.spFdiv c rd rs1 rs2)) ∧
  (let s : State := poke (up base 1) c 0x24C54005;
    Executes s c ∧ fetched s c = some (.spFmin c rd rs1 rs2)) ∧
  (let s : State := poke (up base 1) c 0x24C54006;
    Executes s c ∧ fetched s c = some (.spFmax c rd rs1 rs2)) ∧
  (let s : State := poke (up base 1) c 0x24C50004;
    Executes s c ∧ fetched s c = some (.spFsqrt c rd rs1 0)) ∧
  (let s : State := poke (up base 1) c 0x24C50007;
    Executes s c ∧ fetched s c = some (.spFabs c rd rs1 0)) ∧
  (let s : State := poke (up base 1) c 0x24C50008;
    Executes s c ∧ fetched s c = some (.spFneg c rd rs1 0)) ∧
  (let s : State := poke (up base 1) c 0x24C50009;
    Executes s c ∧ fetched s c = some (.spFmv c rd rs1 0)) ∧
  (let s : State := poke (up base 1) c 0x24C5400A;
    Executes s c ∧ fetched s c = some (.spFeq c rd rs1 rs2)) ∧
  (let s : State := poke (up base 1) c 0x24C5400B;
    Executes s c ∧ fetched s c = some (.spFlt c rd rs1 rs2)) ∧
  (let s : State := poke (up base 1) c 0x24C5400C;
    Executes s c ∧ fetched s c = some (.spFle c rd rs1 rs2)) ∧
  (let s : State := poke (up base 1) c 0x24C5000D;
    Executes s c ∧ fetched s c = some (.spFcvtsw c rd rs1 0)) ∧
  (let s : State := poke (up base 1) c 0x24C5000E;
    Executes s c ∧ fetched s c = some (.spFcvtw c rd rs1 0)) ∧
  (let s : State := poke (up base 1) c 0x24C5000F;
    Executes s c ∧ fetched s c = some (.spFcvtwt c rd rs1 0)) ∧
  (let s : State := poke (up base 1) c 0x24C50010;
    Executes s c ∧ fetched s c = some (.spFmvgf c rd rs1 0)) ∧
  (let s : State := poke (up base 1) c 0x24C50011;
    Executes s c ∧ fetched s c = some (.spFmvfg c rd rs1 0)) := by
  decide +kernel

theorem witness_SpireUnusedFieldsIllegal :
  let c : Fin 16 := 1; let rd : BitVec 5 := 6; let rs1 : BitVec 5 := 5; let rs2 : BitVec 5 := 8;
  (let s : State := poke (up base 1) c 0x00C54014;
    Executes s c ∧ (s.core c).inx = false ∧ rs2 ≠ 0 ∧ fetched s c = some (.spClz c rd rs1 rs2)) ∧
  (let s : State := poke (up base 1) c 0x00C54015;
    Executes s c ∧ (s.core c).inx = false ∧ rs2 ≠ 0 ∧ fetched s c = some (.spSextb c rd rs1 rs2)) ∧
  (let s : State := poke (up base 1) c 0x00C54016;
    Executes s c ∧ (s.core c).inx = false ∧ rs2 ≠ 0 ∧ fetched s c = some (.spSexth c rd rs1 rs2)) ∧
  (let s : State := poke (up base 1) c 0x00C54017;
    Executes s c ∧ (s.core c).inx = false ∧ rs2 ≠ 0 ∧ fetched s c = some (.spZexth c rd rs1 rs2)) ∧
  (let s : State := poke (up base 1) c 0x00C54018;
    Executes s c ∧ (s.core c).inx = false ∧ rs2 ≠ 0 ∧ fetched s c = some (.spAbs c rd rs1 rs2)) ∧
  (let s : State := poke (up base 1) c 0x24C54004;
    Executes s c ∧ (s.core c).inx = false ∧ rs2 ≠ 0 ∧ fetched s c = some (.spFsqrt c rd rs1 rs2)) ∧
  (let s : State := poke (up base 1) c 0x24C54007;
    Executes s c ∧ (s.core c).inx = false ∧ rs2 ≠ 0 ∧ fetched s c = some (.spFabs c rd rs1 rs2)) ∧
  (let s : State := poke (up base 1) c 0x24C54008;
    Executes s c ∧ (s.core c).inx = false ∧ rs2 ≠ 0 ∧ fetched s c = some (.spFneg c rd rs1 rs2)) ∧
  (let s : State := poke (up base 1) c 0x24C54009;
    Executes s c ∧ (s.core c).inx = false ∧ rs2 ≠ 0 ∧ fetched s c = some (.spFmv c rd rs1 rs2)) ∧
  (let s : State := poke (up base 1) c 0x24C5400D;
    Executes s c ∧ (s.core c).inx = false ∧ rs2 ≠ 0 ∧ fetched s c = some (.spFcvtsw c rd rs1 rs2)) ∧
  (let s : State := poke (up base 1) c 0x24C5400E;
    Executes s c ∧ (s.core c).inx = false ∧ rs2 ≠ 0 ∧ fetched s c = some (.spFcvtw c rd rs1 rs2)) ∧
  (let s : State := poke (up base 1) c 0x24C5400F;
    Executes s c ∧ (s.core c).inx = false ∧ rs2 ≠ 0 ∧ fetched s c = some (.spFcvtwt c rd rs1 rs2)) ∧
  (let s : State := poke (up base 1) c 0x24C54010;
    Executes s c ∧ (s.core c).inx = false ∧ rs2 ≠ 0 ∧ fetched s c = some (.spFmvgf c rd rs1 rs2)) ∧
  (let s : State := poke (up base 1) c 0x24C54011;
    Executes s c ∧ (s.core c).inx = false ∧ rs2 ≠ 0 ∧ fetched s c = some (.spFmvfg c rd rs1 rs2)) ∧
  (let imm : BitVec 16 := 5; let s : State := poke (up base 1) c 0x1CC50005;
    Executes s c ∧ (s.core c).inx = false ∧ rs1 ≠ 0 ∧ fetched s c = some (.spImmh c rd rs1 imm)) ∧
  (let s : State := poke (up base 1) c 0x20C54010;
    Executes s c ∧ (s.core c).inx = false ∧ 4 ≤ rd.toNat ∧ fetched s c = some (.spMac c rd rs1 rs2)) ∧
  (let s : State := poke (up base 1) c 0x20C54011;
    Executes s c ∧ (s.core c).inx = false ∧ 4 ≤ rd.toNat ∧ fetched s c = some (.spMacu c rd rs1 rs2)) ∧
  (let s : State := poke (up base 1) c 0x20C54012;
    Executes s c ∧ (s.core c).inx = false ∧ 4 ≤ rd.toNat ∧ fetched s c = some (.spMsu c rd rs1 rs2)) ∧
  (let s : State := poke (up base 1) c 0x20C54013;
    Executes s c ∧ (s.core c).inx = false ∧ 4 ≤ rd.toNat ∧ fetched s c = some (.spMacs c rd rs1 rs2)) ∧
  (let s : State := poke (up base 1) c 0x20C54014;
    Executes s c ∧ (s.core c).inx = false ∧ 4 ≤ rd.toNat ∧ fetched s c = some (.spMsus c rd rs1 rs2)) ∧
  (let s : State := poke (up base 1) c 0x20C54020;
    Executes s c ∧ (s.core c).inx = false ∧ 4 ≤ rs1.toNat ∧ fetched s c = some (.spAcrd c rd rs1 rs2)) ∧
  (let s : State := poke (up base 1) c 0x20C54021;
    Executes s c ∧ (s.core c).inx = false ∧ 4 ≤ rs1.toNat ∧ fetched s c = some (.spAcrdt c rd rs1 rs2)) ∧
  (let s : State := poke (up base 1) c 0x20C54022;
    Executes s c ∧ (s.core c).inx = false ∧ (4 ≤ rs1.toNat ∨ rs2 ≠ 0) ∧ fetched s c = some (.spAcrdl c rd rs1 rs2)) ∧
  (let s : State := poke (up base 1) c 0x20C54023;
    Executes s c ∧ (s.core c).inx = false ∧ (4 ≤ rs1.toNat ∨ rs2 ≠ 0) ∧ fetched s c = some (.spAcrdh c rd rs1 rs2)) ∧
  (let s : State := poke (up base 1) c 0x20C54024;
    Executes s c ∧ (s.core c).inx = false ∧ (4 ≤ rs1.toNat ∨ rs2 ≠ 0) ∧ fetched s c = some (.spAcrdx c rd rs1 rs2)) ∧
  (let s : State := poke (up base 1) c 0x20C54030;
    Executes s c ∧ (s.core c).inx = false ∧ (4 ≤ rd.toNat ∨ rs2 ≠ 0) ∧ fetched s c = some (.spAcwr c rd rs1 rs2)) ∧
  (let s : State := poke (up base 1) c 0x20C54031;
    Executes s c ∧ (s.core c).inx = false ∧ (4 ≤ rd.toNat ∨ rs2 ≠ 0) ∧ fetched s c = some (.spAcwrh c rd rs1 rs2)) ∧
  (let s : State := poke (up base 1) c 0x20C54032;
    Executes s c ∧ (s.core c).inx = false ∧ (4 ≤ rd.toNat ∨ rs2 ≠ 0) ∧ fetched s c = some (.spAcwrx c rd rs1 rs2)) ∧
  (let s : State := poke (up base 1) c 0x20C54033;
    Executes s c ∧ (s.core c).inx = false ∧ (4 ≤ rd.toNat ∨ rs1 ≠ 0 ∨ rs2 ≠ 0) ∧ fetched s c = some (.spAcclr c rd rs1 rs2)) ∧
  (let s : State := poke (up base 1) c 0x30C54000;
    Executes s c ∧ (s.core c).inx = false ∧ (rs1 ≠ 0 ∨ rs2 ≠ 0) ∧ fetched s c = some (.spWaitt c rd rs1 rs2)) ∧
  (let s : State := poke (up base 1) c 0x30C54002;
    Executes s c ∧ (s.core c).inx = false ∧ (rd ≠ 0 ∨ rs1 ≠ 0 ∨ rs2 ≠ 0) ∧ fetched s c = some (.spFence c rd rs1 rs2)) ∧
  (let s : State := poke (up base 1) c 0x40C54000;
    Executes s c ∧ (s.core c).inx = false ∧ (rd ≠ 0 ∨ rs1 ≠ 0 ∨ rs2 ≠ 0) ∧ fetched s c = some (.spXret c rd rs1 rs2)) ∧
  (let s : State := poke (up base 1) c 0x40C54001;
    Executes s c ∧ (s.core c).inx = false ∧ (rd ≠ 0 ∨ rs1 ≠ 0 ∨ rs2 ≠ 0) ∧ fetched s c = some (.spHalt c rd rs1 rs2)) ∧
  (let s : State := poke (up base 1) c 0x40C54003;
    Executes s c ∧ (s.core c).inx = false ∧ (rd ≠ 0 ∨ rs1 ≠ 0 ∨ rs2 ≠ 0) ∧ fetched s c = some (.spBreak c rd rs1 rs2)) ∧
  (let csr : BitVec 12 := 64; let s : State := poke (up base 1) c 0x38C51040;
    Executes s c ∧ (s.core c).inx = false ∧ csr.toNat / 64 ≠ 0 ∧ fetched s c = some (.spLocktry c rd rs1 csr)) ∧
  (let csr : BitVec 12 := 32; let s : State := poke (up base 1) c 0x2CC54020;
    Executes s c ∧ (s.core c).inx = false ∧ csr.toNat / 32 ≠ 0 ∧ fetched s c = some (.spLawgo c rd rs1 csr)) := by
  decide +kernel

theorem witness_SpireLoads :
  let c : Fin 16 := 1; let form : Form := .tcm; let rd : BitVec 5 := 6; let rs1 : BitVec 5 := 5; let imm : BitVec 16 := 4;
  (let s : State := poke (up base 1) c 0x80C50004;
    Executes s c ∧ accessFault (s.core c) form false (((s.core c).gR rs1.toNat + imm.signExtend 32).toNat) 1 = none ∧
    ownTcm (physAddr (s.core c) form (((s.core c).gR rs1.toNat + imm.signExtend 32).toNat)) = true ∧
    (s.core c).tcmFails ((physAddr (s.core c) form (((s.core c).gR rs1.toNat + imm.signExtend 32).toNat)) - 0xF0000000) 1 = false ∧
    fetched s c = some (.spLdb c form rd rs1 imm)) ∧
  (let form : Form := .dram; let s : State := poke (up base 1) c 0x88C50004;
    Executes s c ∧ accessFault (s.core c) form false (((s.core c).gR rs1.toNat + imm.signExtend 32).toNat) 1 = none ∧
    ownTcm (physAddr (s.core c) form (((s.core c).gR rs1.toNat + imm.signExtend 32).toNat)) = false ∧
    fetched s c = some (.spLdb c form rd rs1 imm)) ∧
  (let s : State := poke (up base 1) c 0x90C50004;
    Executes s c ∧ accessFault (s.core c) form false (((s.core c).gR rs1.toNat + imm.signExtend 32).toNat) 1 = none ∧
    ownTcm (physAddr (s.core c) form (((s.core c).gR rs1.toNat + imm.signExtend 32).toNat)) = true ∧
    (s.core c).tcmFails ((physAddr (s.core c) form (((s.core c).gR rs1.toNat + imm.signExtend 32).toNat)) - 0xF0000000) 1 = false ∧
    fetched s c = some (.spLdbu c form rd rs1 imm)) ∧
  (let form : Form := .dram; let s : State := poke (up base 1) c 0x98C50004;
    Executes s c ∧ accessFault (s.core c) form false (((s.core c).gR rs1.toNat + imm.signExtend 32).toNat) 1 = none ∧
    ownTcm (physAddr (s.core c) form (((s.core c).gR rs1.toNat + imm.signExtend 32).toNat)) = false ∧
    fetched s c = some (.spLdbu c form rd rs1 imm)) ∧
  (let s : State := poke (up base 1) c 0xA0C50004;
    Executes s c ∧ accessFault (s.core c) form false (((s.core c).gR rs1.toNat + imm.signExtend 32).toNat) 2 = none ∧
    ownTcm (physAddr (s.core c) form (((s.core c).gR rs1.toNat + imm.signExtend 32).toNat)) = true ∧
    (s.core c).tcmFails ((physAddr (s.core c) form (((s.core c).gR rs1.toNat + imm.signExtend 32).toNat)) - 0xF0000000) 2 = false ∧
    fetched s c = some (.spLdh c form rd rs1 imm)) ∧
  (let form : Form := .dram; let s : State := poke (up base 1) c 0xA8C50004;
    Executes s c ∧ accessFault (s.core c) form false (((s.core c).gR rs1.toNat + imm.signExtend 32).toNat) 2 = none ∧
    ownTcm (physAddr (s.core c) form (((s.core c).gR rs1.toNat + imm.signExtend 32).toNat)) = false ∧
    fetched s c = some (.spLdh c form rd rs1 imm)) ∧
  (let s : State := poke (up base 1) c 0xB0C50004;
    Executes s c ∧ accessFault (s.core c) form false (((s.core c).gR rs1.toNat + imm.signExtend 32).toNat) 2 = none ∧
    ownTcm (physAddr (s.core c) form (((s.core c).gR rs1.toNat + imm.signExtend 32).toNat)) = true ∧
    (s.core c).tcmFails ((physAddr (s.core c) form (((s.core c).gR rs1.toNat + imm.signExtend 32).toNat)) - 0xF0000000) 2 = false ∧
    fetched s c = some (.spLdhu c form rd rs1 imm)) ∧
  (let form : Form := .dram; let s : State := poke (up base 1) c 0xB8C50004;
    Executes s c ∧ accessFault (s.core c) form false (((s.core c).gR rs1.toNat + imm.signExtend 32).toNat) 2 = none ∧
    ownTcm (physAddr (s.core c) form (((s.core c).gR rs1.toNat + imm.signExtend 32).toNat)) = false ∧
    fetched s c = some (.spLdhu c form rd rs1 imm)) ∧
  (let s : State := poke (up base 1) c 0xC0C50004;
    Executes s c ∧ accessFault (s.core c) form false (((s.core c).gR rs1.toNat + imm.signExtend 32).toNat) 4 = none ∧
    ownTcm (physAddr (s.core c) form (((s.core c).gR rs1.toNat + imm.signExtend 32).toNat)) = true ∧
    (s.core c).tcmFails ((physAddr (s.core c) form (((s.core c).gR rs1.toNat + imm.signExtend 32).toNat)) - 0xF0000000) 4 = false ∧
    fetched s c = some (.spLdw c form rd rs1 imm)) ∧
  (let form : Form := .dram; let s : State := poke (up base 1) c 0xC8C50004;
    Executes s c ∧ accessFault (s.core c) form false (((s.core c).gR rs1.toNat + imm.signExtend 32).toNat) 4 = none ∧
    ownTcm (physAddr (s.core c) form (((s.core c).gR rs1.toNat + imm.signExtend 32).toNat)) = false ∧
    fetched s c = some (.spLdw c form rd rs1 imm)) ∧
  (let s : State := poke (up base 1) c 0x8CC50004;
    Executes s c ∧ accessFault (s.core c) form false (((s.core c).gR rs1.toNat + imm.signExtend 32).toNat) 4 = none ∧
    ownTcm (physAddr (s.core c) form (((s.core c).gR rs1.toNat + imm.signExtend 32).toNat)) = true ∧
    (s.core c).tcmFails ((physAddr (s.core c) form (((s.core c).gR rs1.toNat + imm.signExtend 32).toNat)) - 0xF0000000) 4 = false ∧
    fetched s c = some (.spFlw c form rd rs1 imm)) ∧
  (let form : Form := .dram; let s : State := poke (up base 1) c 0xACC50004;
    Executes s c ∧ accessFault (s.core c) form false (((s.core c).gR rs1.toNat + imm.signExtend 32).toNat) 4 = none ∧
    ownTcm (physAddr (s.core c) form (((s.core c).gR rs1.toNat + imm.signExtend 32).toNat)) = false ∧
    fetched s c = some (.spFlw c form rd rs1 imm)) := by
  decide +kernel

theorem witness_SpireStores :
  let c : Fin 16 := 1; let form : Form := .dram; let rd : BitVec 5 := 6; let rs1 : BitVec 5 := 5; let imm : BitVec 16 := 4;
  (let form : Form := .tcm; let s : State := poke (up base 1) c 0xD0C50004;
    Executes s c ∧ accessFault (s.core c) form true (((s.core c).gR rs1.toNat + imm.signExtend 32).toNat) 1 = none ∧
    ownTcm (physAddr (s.core c) form (((s.core c).gR rs1.toNat + imm.signExtend 32).toNat)) = true ∧
    Memory.wf (s.core c).tcm = true ∧
    (s.core c).tcmFails ((physAddr (s.core c) form (((s.core c).gR rs1.toNat + imm.signExtend 32).toNat)) - 0xF0000000) 1 = false ∧
    fetched s c = some (.spStb c form rd rs1 imm)) ∧
  (let s : State := poke (up base 1) c 0xD8C50004;
    Executes s c ∧ accessFault (s.core c) form true (((s.core c).gR rs1.toNat + imm.signExtend 32).toNat) 1 = none ∧
    ownTcm (physAddr (s.core c) form (((s.core c).gR rs1.toNat + imm.signExtend 32).toNat)) = false ∧
    (s.core c).buf.length < 4 ∧ fetched s c = some (.spStb c form rd rs1 imm)) ∧
  (let s : State := poke ((up base 1).updCore c fun zz => { zz with buf := List.replicate 4 ⟨0, 1, 0, false⟩ }) c 0xD8C50004;
    Executes s c ∧ accessFault (s.core c) form true (((s.core c).gR rs1.toNat + imm.signExtend 32).toNat) 1 = none ∧
    ownTcm (physAddr (s.core c) form (((s.core c).gR rs1.toNat + imm.signExtend 32).toNat)) = false ∧
    4 ≤ (s.core c).buf.length ∧ fetched s c = some (.spStb c form rd rs1 imm)) ∧
  (let form : Form := .tcm; let s : State := poke (up base 1) c 0xE0C50004;
    Executes s c ∧ accessFault (s.core c) form true (((s.core c).gR rs1.toNat + imm.signExtend 32).toNat) 2 = none ∧
    ownTcm (physAddr (s.core c) form (((s.core c).gR rs1.toNat + imm.signExtend 32).toNat)) = true ∧
    Memory.wf (s.core c).tcm = true ∧
    (s.core c).tcmFails ((physAddr (s.core c) form (((s.core c).gR rs1.toNat + imm.signExtend 32).toNat)) - 0xF0000000) 2 = false ∧
    fetched s c = some (.spSth c form rd rs1 imm)) ∧
  (let s : State := poke (up base 1) c 0xE8C50004;
    Executes s c ∧ accessFault (s.core c) form true (((s.core c).gR rs1.toNat + imm.signExtend 32).toNat) 2 = none ∧
    ownTcm (physAddr (s.core c) form (((s.core c).gR rs1.toNat + imm.signExtend 32).toNat)) = false ∧
    (s.core c).buf.length < 4 ∧ fetched s c = some (.spSth c form rd rs1 imm)) ∧
  (let s : State := poke ((up base 1).updCore c fun zz => { zz with buf := List.replicate 4 ⟨0, 1, 0, false⟩ }) c 0xE8C50004;
    Executes s c ∧ accessFault (s.core c) form true (((s.core c).gR rs1.toNat + imm.signExtend 32).toNat) 2 = none ∧
    ownTcm (physAddr (s.core c) form (((s.core c).gR rs1.toNat + imm.signExtend 32).toNat)) = false ∧
    4 ≤ (s.core c).buf.length ∧ fetched s c = some (.spSth c form rd rs1 imm)) ∧
  (let form : Form := .tcm; let s : State := poke (up base 1) c 0xF0C50004;
    Executes s c ∧ accessFault (s.core c) form true (((s.core c).gR rs1.toNat + imm.signExtend 32).toNat) 4 = none ∧
    ownTcm (physAddr (s.core c) form (((s.core c).gR rs1.toNat + imm.signExtend 32).toNat)) = true ∧
    Memory.wf (s.core c).tcm = true ∧ fetched s c = some (.spStw c form rd rs1 imm)) ∧
  (let s : State := poke (up base 1) c 0xF8C50004;
    Executes s c ∧ accessFault (s.core c) form true (((s.core c).gR rs1.toNat + imm.signExtend 32).toNat) 4 = none ∧
    ownTcm (physAddr (s.core c) form (((s.core c).gR rs1.toNat + imm.signExtend 32).toNat)) = false ∧
    (s.core c).buf.length < 4 ∧ fetched s c = some (.spStw c form rd rs1 imm)) ∧
  (let s : State := poke ((up base 1).updCore c fun zz => { zz with buf := List.replicate 4 ⟨0, 1, 0, false⟩ }) c 0xF8C50004;
    Executes s c ∧ accessFault (s.core c) form true (((s.core c).gR rs1.toNat + imm.signExtend 32).toNat) 4 = none ∧
    ownTcm (physAddr (s.core c) form (((s.core c).gR rs1.toNat + imm.signExtend 32).toNat)) = false ∧
    4 ≤ (s.core c).buf.length ∧ fetched s c = some (.spStw c form rd rs1 imm)) ∧
  (let form : Form := .tcm; let s : State := poke (up base 1) c 0xCCC50004;
    Executes s c ∧ accessFault (s.core c) form true (((s.core c).gR rs1.toNat + imm.signExtend 32).toNat) 4 = none ∧
    ownTcm (physAddr (s.core c) form (((s.core c).gR rs1.toNat + imm.signExtend 32).toNat)) = true ∧
    Memory.wf (s.core c).tcm = true ∧ fetched s c = some (.spFsw c form rd rs1 imm)) ∧
  (let s : State := poke (up base 1) c 0xECC50004;
    Executes s c ∧ accessFault (s.core c) form true (((s.core c).gR rs1.toNat + imm.signExtend 32).toNat) 4 = none ∧
    ownTcm (physAddr (s.core c) form (((s.core c).gR rs1.toNat + imm.signExtend 32).toNat)) = false ∧
    (s.core c).buf.length < 4 ∧ fetched s c = some (.spFsw c form rd rs1 imm)) ∧
  (let s : State := poke ((up base 1).updCore c fun zz => { zz with buf := List.replicate 4 ⟨0, 1, 0, false⟩ }) c 0xECC50004;
    Executes s c ∧ accessFault (s.core c) form true (((s.core c).gR rs1.toNat + imm.signExtend 32).toNat) 4 = none ∧
    ownTcm (physAddr (s.core c) form (((s.core c).gR rs1.toNat + imm.signExtend 32).toNat)) = false ∧
    4 ≤ (s.core c).buf.length ∧ fetched s c = some (.spFsw c form rd rs1 imm)) := by
  decide +kernel

theorem witness_SpireAccessFaults :
  let c : Fin 16 := 1; let form : Form := .tcm; let rd : BitVec 5 := 6; let rs1 : BitVec 5 := 5; let imm : BitVec 16 := 1;
  (let imm : BitVec 16 := 0xFFFF; let s : State := (up base 1).updCore c (fun zz => { zz with inx := false });
    let s : State := s.updCore c fun zz => { zz with g := zz.g.set 5 (0x40001) };
    let ca := (accessFault (s.core c) form false ((s.core c).gR rs1.toNat + imm.signExtend 32).toNat 1).getD (0, 0);
    let code := ca.1; let addr := ca.2; let s : State := s;
    let s : State := poke s c ((32 + 0 * 4 + (match (form : Form) with | .tcm => 0 | .fabric => 1 | .dram => 2)) * 2^26 + ((rd : BitVec 5)).toNat * 2^21 + ((rs1 : BitVec 5)).toNat * 2^16 + ((imm : BitVec 16)).toNat);
    Executes s c ∧ (s.core c).inx = false ∧
    accessFault (s.core c) form false (((s.core c).gR rs1.toNat + imm.signExtend 32).toNat) 1 = some (code, addr) ∧
    fetched s c = some (.spLdb c form rd rs1 imm)) ∧
  (let imm : BitVec 16 := 0xFFFF; let s : State := (up base 1).updCore c (fun zz => { zz with inx := false });
    let s : State := s.updCore c fun zz => { zz with g := zz.g.set 5 (0x40001) };
    let ca := (accessFault (s.core c) form false ((s.core c).gR rs1.toNat + imm.signExtend 32).toNat 1).getD (0, 0);
    let code := ca.1; let addr := ca.2; let s : State := s;
    let s : State := poke s c ((32 + 1 * 4 + (match (form : Form) with | .tcm => 0 | .fabric => 1 | .dram => 2)) * 2^26 + ((rd : BitVec 5)).toNat * 2^21 + ((rs1 : BitVec 5)).toNat * 2^16 + ((imm : BitVec 16)).toNat);
    Executes s c ∧ (s.core c).inx = false ∧
    accessFault (s.core c) form false (((s.core c).gR rs1.toNat + imm.signExtend 32).toNat) 1 = some (code, addr) ∧
    fetched s c = some (.spLdbu c form rd rs1 imm)) ∧
  (let s : State := ((up base 1).updCore c (fun zz => { zz with inx := false }));
    let ca := (accessFault (s.core c) form false ((s.core c).gR rs1.toNat + imm.signExtend 32).toNat 2).getD (0, 0);
    let code := ca.1; let addr := ca.2; let s : State := s;
    let s : State := poke s c ((32 + 2 * 4 + (match (form : Form) with | .tcm => 0 | .fabric => 1 | .dram => 2)) * 2^26 + ((rd : BitVec 5)).toNat * 2^21 + ((rs1 : BitVec 5)).toNat * 2^16 + ((imm : BitVec 16)).toNat);
    Executes s c ∧ (s.core c).inx = false ∧
    accessFault (s.core c) form false (((s.core c).gR rs1.toNat + imm.signExtend 32).toNat) 2 = some (code, addr) ∧
    fetched s c = some (.spLdh c form rd rs1 imm)) ∧
  (let s : State := ((up base 1).updCore c (fun zz => { zz with inx := false }));
    let ca := (accessFault (s.core c) form false ((s.core c).gR rs1.toNat + imm.signExtend 32).toNat 2).getD (0, 0);
    let code := ca.1; let addr := ca.2; let s : State := s;
    let s : State := poke s c ((32 + 3 * 4 + (match (form : Form) with | .tcm => 0 | .fabric => 1 | .dram => 2)) * 2^26 + ((rd : BitVec 5)).toNat * 2^21 + ((rs1 : BitVec 5)).toNat * 2^16 + ((imm : BitVec 16)).toNat);
    Executes s c ∧ (s.core c).inx = false ∧
    accessFault (s.core c) form false (((s.core c).gR rs1.toNat + imm.signExtend 32).toNat) 2 = some (code, addr) ∧
    fetched s c = some (.spLdhu c form rd rs1 imm)) ∧
  (let s : State := ((up base 1).updCore c (fun zz => { zz with inx := false }));
    let ca := (accessFault (s.core c) form false ((s.core c).gR rs1.toNat + imm.signExtend 32).toNat 4).getD (0, 0);
    let code := ca.1; let addr := ca.2; let s : State := s;
    let s : State := poke s c ((32 + 4 * 4 + (match (form : Form) with | .tcm => 0 | .fabric => 1 | .dram => 2)) * 2^26 + ((rd : BitVec 5)).toNat * 2^21 + ((rs1 : BitVec 5)).toNat * 2^16 + ((imm : BitVec 16)).toNat);
    Executes s c ∧ (s.core c).inx = false ∧
    accessFault (s.core c) form false (((s.core c).gR rs1.toNat + imm.signExtend 32).toNat) 4 = some (code, addr) ∧
    fetched s c = some (.spLdw c form rd rs1 imm)) ∧
  (let s : State := ((up base 1).updCore c (fun zz => { zz with inx := false }));
    let ca := (accessFault (s.core c) form false ((s.core c).gR rs1.toNat + imm.signExtend 32).toNat 4).getD (0, 0);
    let code := ca.1; let addr := ca.2; let s : State := s;
    let s : State := poke s c ((32 + (0 + (match (form : Form) with | .tcm => 0 | .fabric => 1 | .dram => 2)) * 4 + 3) * 2^26 + ((rd : BitVec 5)).toNat * 2^21 + ((rs1 : BitVec 5)).toNat * 2^16 + ((imm : BitVec 16)).toNat);
    Executes s c ∧ (s.core c).inx = false ∧
    accessFault (s.core c) form false (((s.core c).gR rs1.toNat + imm.signExtend 32).toNat) 4 = some (code, addr) ∧
    fetched s c = some (.spFlw c form rd rs1 imm)) ∧
  (let imm : BitVec 16 := 0xFFFF; let s : State := (up base 1).updCore c (fun zz => { zz with inx := false });
    let s : State := s.updCore c fun zz => { zz with g := zz.g.set 5 (0x40001) };
    let ca := (accessFault (s.core c) form true ((s.core c).gR rs1.toNat + imm.signExtend 32).toNat 1).getD (0, 0);
    let code := ca.1; let addr := ca.2; let s : State := s;
    let s : State := poke s c ((32 + 5 * 4 + (match (form : Form) with | .tcm => 0 | .fabric => 1 | .dram => 2)) * 2^26 + ((rd : BitVec 5)).toNat * 2^21 + ((rs1 : BitVec 5)).toNat * 2^16 + ((imm : BitVec 16)).toNat);
    Executes s c ∧ (s.core c).inx = false ∧
    accessFault (s.core c) form true (((s.core c).gR rs1.toNat + imm.signExtend 32).toNat) 1 = some (code, addr) ∧
    fetched s c = some (.spStb c form rd rs1 imm)) ∧
  (let s : State := ((up base 1).updCore c (fun zz => { zz with inx := false }));
    let ca := (accessFault (s.core c) form true ((s.core c).gR rs1.toNat + imm.signExtend 32).toNat 2).getD (0, 0);
    let code := ca.1; let addr := ca.2; let s : State := s;
    let s : State := poke s c ((32 + 6 * 4 + (match (form : Form) with | .tcm => 0 | .fabric => 1 | .dram => 2)) * 2^26 + ((rd : BitVec 5)).toNat * 2^21 + ((rs1 : BitVec 5)).toNat * 2^16 + ((imm : BitVec 16)).toNat);
    Executes s c ∧ (s.core c).inx = false ∧
    accessFault (s.core c) form true (((s.core c).gR rs1.toNat + imm.signExtend 32).toNat) 2 = some (code, addr) ∧
    fetched s c = some (.spSth c form rd rs1 imm)) ∧
  (let s : State := ((up base 1).updCore c (fun zz => { zz with inx := false }));
    let ca := (accessFault (s.core c) form true ((s.core c).gR rs1.toNat + imm.signExtend 32).toNat 4).getD (0, 0);
    let code := ca.1; let addr := ca.2; let s : State := s;
    let s : State := poke s c ((32 + 7 * 4 + (match (form : Form) with | .tcm => 0 | .fabric => 1 | .dram => 2)) * 2^26 + ((rd : BitVec 5)).toNat * 2^21 + ((rs1 : BitVec 5)).toNat * 2^16 + ((imm : BitVec 16)).toNat);
    Executes s c ∧ (s.core c).inx = false ∧
    accessFault (s.core c) form true (((s.core c).gR rs1.toNat + imm.signExtend 32).toNat) 4 = some (code, addr) ∧
    fetched s c = some (.spStw c form rd rs1 imm)) ∧
  (let s : State := ((up base 1).updCore c (fun zz => { zz with inx := false }));
    let ca := (accessFault (s.core c) form true ((s.core c).gR rs1.toNat + imm.signExtend 32).toNat 4).getD (0, 0);
    let code := ca.1; let addr := ca.2; let s : State := s;
    let s : State := poke s c ((32 + (4 + (match (form : Form) with | .tcm => 0 | .fabric => 1 | .dram => 2)) * 4 + 3) * 2^26 + ((rd : BitVec 5)).toNat * 2^21 + ((rs1 : BitVec 5)).toNat * 2^16 + ((imm : BitVec 16)).toNat);
    Executes s c ∧ (s.core c).inx = false ∧
    accessFault (s.core c) form true (((s.core c).gR rs1.toNat + imm.signExtend 32).toNat) 4 = some (code, addr) ∧
    fetched s c = some (.spFsw c form rd rs1 imm)) := by
  decide +kernel

theorem witness_SpireBranches :
  let c : Fin 16 := 1; let ra : BitVec 5 := 5; let rb : BitVec 5 := 8; let off : BitVec 16 := 5; let far : BitVec 26 := 5;
  (let rb : BitVec 5 := (5); let s : State := poke (up base 1) c 0x50A50005;
    Executes s c ∧ (((s.core c).gR ra.toNat) = ((s.core c).gR rb.toNat)) ∧ 0 ≤ (((s.core c).pc : Int) + 4 * off.toInt) ∧
    (((s.core c).pc : Int) + 4 * off.toInt) < 0x40000 ∧ fetched s c = some (.spBeq c ra rb off)) ∧
  (let s : State := poke (up base 1) c 0x50A80005;
    Executes s c ∧ ¬(((s.core c).gR ra.toNat) = ((s.core c).gR rb.toNat)) ∧ fetched s c = some (.spBeq c ra rb off)) ∧
  (let s : State := poke (up base 1) c 0x54A80005;
    Executes s c ∧ (((s.core c).gR ra.toNat) ≠ ((s.core c).gR rb.toNat)) ∧ 0 ≤ (((s.core c).pc : Int) + 4 * off.toInt) ∧
    (((s.core c).pc : Int) + 4 * off.toInt) < 0x40000 ∧ fetched s c = some (.spBne c ra rb off)) ∧
  (let rb : BitVec 5 := (5); let s : State := poke (up base 1) c 0x54A50005;
    Executes s c ∧ ¬(((s.core c).gR ra.toNat) ≠ ((s.core c).gR rb.toNat)) ∧ fetched s c = some (.spBne c ra rb off)) ∧
  (let ra : BitVec 5 := 8; let rb : BitVec 5 := (5); let s : State := poke (up base 1) c 0x59050005;
    Executes s c ∧ (((s.core c).gR ra.toNat).toInt < ((s.core c).gR rb.toNat).toInt) ∧
    0 ≤ (((s.core c).pc : Int) + 4 * off.toInt) ∧ (((s.core c).pc : Int) + 4 * off.toInt) < 0x40000 ∧
    fetched s c = some (.spBlt c ra rb off)) ∧
  (let s : State := poke (up base 1) c 0x58A80005;
    Executes s c ∧ ¬(((s.core c).gR ra.toNat).toInt < ((s.core c).gR rb.toNat).toInt) ∧
    fetched s c = some (.spBlt c ra rb off)) ∧
  (let s : State := poke (up base 1) c 0x5CA80005;
    Executes s c ∧ (((s.core c).gR rb.toNat).toInt ≤ ((s.core c).gR ra.toNat).toInt) ∧
    0 ≤ (((s.core c).pc : Int) + 4 * off.toInt) ∧ (((s.core c).pc : Int) + 4 * off.toInt) < 0x40000 ∧
    fetched s c = some (.spBge c ra rb off)) ∧
  (let ra : BitVec 5 := 8; let rb : BitVec 5 := (5); let s : State := poke (up base 1) c 0x5D050005;
    Executes s c ∧ ¬(((s.core c).gR rb.toNat).toInt ≤ ((s.core c).gR ra.toNat).toInt) ∧
    fetched s c = some (.spBge c ra rb off)) ∧
  (let s : State := poke (up base 1) c 0x60A80005;
    Executes s c ∧ (((s.core c).gR ra.toNat).toNat < ((s.core c).gR rb.toNat).toNat) ∧
    0 ≤ (((s.core c).pc : Int) + 4 * off.toInt) ∧ (((s.core c).pc : Int) + 4 * off.toInt) < 0x40000 ∧
    fetched s c = some (.spBltu c ra rb off)) ∧
  (let ra : BitVec 5 := 8; let rb : BitVec 5 := (8); let s : State := poke (up base 1) c 0x61080005;
    Executes s c ∧ ¬(((s.core c).gR ra.toNat).toNat < ((s.core c).gR rb.toNat).toNat) ∧
    fetched s c = some (.spBltu c ra rb off)) ∧
  (let rb : BitVec 5 := (5); let s : State := poke (up base 1) c 0x64A50005;
    Executes s c ∧ (((s.core c).gR rb.toNat).toNat ≤ ((s.core c).gR ra.toNat).toNat) ∧
    0 ≤ (((s.core c).pc : Int) + 4 * off.toInt) ∧ (((s.core c).pc : Int) + 4 * off.toInt) < 0x40000 ∧
    fetched s c = some (.spBgeu c ra rb off)) ∧
  (let s : State := poke (up base 1) c 0x64A80005;
    Executes s c ∧ ¬(((s.core c).gR rb.toNat).toNat ≤ ((s.core c).gR ra.toNat).toNat) ∧
    fetched s c = some (.spBgeu c ra rb off)) ∧
  (let rb : BitVec 5 := 0x18;
    let s : State := poke ((up base 1).updCore c fun zz => { zz with g := zz.g.set 5 (-8) }) c 0x68B80005;
    Executes s c ∧ (((s.core c).gR ra.toNat) = rb.signExtend 32) ∧ 0 ≤ (((s.core c).pc : Int) + 4 * off.toInt) ∧
    (((s.core c).pc : Int) + 4 * off.toInt) < 0x40000 ∧ fetched s c = some (.spBeqi c ra rb off)) ∧
  (let s : State := poke (up base 1) c 0x68A80005;
    Executes s c ∧ ¬(((s.core c).gR ra.toNat) = rb.signExtend 32) ∧ fetched s c = some (.spBeqi c ra rb off)) ∧
  (let s : State := poke (up base 1) c 0x6CA80005;
    Executes s c ∧ (((s.core c).gR ra.toNat) ≠ rb.signExtend 32) ∧ 0 ≤ (((s.core c).pc : Int) + 4 * off.toInt) ∧
    (((s.core c).pc : Int) + 4 * off.toInt) < 0x40000 ∧ fetched s c = some (.spBnei c ra rb off)) ∧
  (let rb : BitVec 5 := (15);
    let s : State := poke ((up base 1).updCore c fun zz => { zz with g := zz.g.set 5 (15) }) c 0x6CAF0005;
    Executes s c ∧ ¬(((s.core c).gR ra.toNat) ≠ rb.signExtend 32) ∧ fetched s c = some (.spBnei c ra rb off)) ∧
  (let ra : BitVec 5 := 8; let rb : BitVec 5 := 0x10; let s : State := poke (up base 1) c 0x71100005;
    Executes s c ∧ (((s.core c).gR ra.toNat).toInt < rb.toInt) ∧ 0 ≤ (((s.core c).pc : Int) + 4 * off.toInt) ∧
    (((s.core c).pc : Int) + 4 * off.toInt) < 0x40000 ∧ fetched s c = some (.spBlti c ra rb off)) ∧
  (let s : State := poke (up base 1) c 0x70A80005;
    Executes s c ∧ ¬(((s.core c).gR ra.toNat).toInt < rb.toInt) ∧ fetched s c = some (.spBlti c ra rb off)) ∧
  (let s : State := poke (up base 1) c 0x74A80005;
    Executes s c ∧ (rb.toInt ≤ ((s.core c).gR ra.toNat).toInt) ∧ 0 ≤ (((s.core c).pc : Int) + 4 * off.toInt) ∧
    (((s.core c).pc : Int) + 4 * off.toInt) < 0x40000 ∧ fetched s c = some (.spBgei c ra rb off)) ∧
  (let ra : BitVec 5 := 8; let rb : BitVec 5 := 0x10; let s : State := poke (up base 1) c 0x75100005;
    Executes s c ∧ ¬(rb.toInt ≤ ((s.core c).gR ra.toNat).toInt) ∧ fetched s c = some (.spBgei c ra rb off)) ∧
  (let s : State := poke (up base 1) c 0x44000005;
    Executes s c ∧ 0 ≤ (((s.core c).pc : Int) + 4 * far.toInt) ∧ (((s.core c).pc : Int) + 4 * far.toInt) < 0x40000 ∧
    fetched s c = some (.spBr c far)) ∧
  (let s : State := poke (up base 1) c 0x48000005;
    Executes s c ∧ 0 ≤ (((s.core c).pc : Int) + 4 * far.toInt) ∧ (((s.core c).pc : Int) + 4 * far.toInt) < 0x40000 ∧
    fetched s c = some (.spBrl c far)) ∧
  (let rb : BitVec 5 := (5); let imm : BitVec 16 := 0; let s : State := poke (up base 1) c 0x4CA50000;
    Executes s c ∧ ((s.core c).gR rb.toNat + imm.signExtend 32).toNat < 0x40000 ∧
    ((s.core c).gR rb.toNat + imm.signExtend 32).toNat % 4 = 0 ∧ fetched s c = some (.spJalr c ra rb imm)) := by
  decide +kernel

theorem witness_SpireBranchFaults :
  let c : Fin 16 := 1; let ra : BitVec 5 := 5; let rb : BitVec 5 := (5);
  (let far : BitVec 26 := 0x2000000; let s : State := poke (up base 1) c 0x46000000;
    Executes s c ∧ (s.core c).inx = false ∧
    ((((s.core c).pc : Int) + 4 * far.toInt) < 0 ∨ 0x40000 ≤ (((s.core c).pc : Int) + 4 * far.toInt)) ∧
    fetched s c = some (.spBr c far)) ∧
  (let far : BitVec 26 := 0xFFC0; let s : State := poke (up base 1) c 0x4800FFC0;
    Executes s c ∧ (s.core c).inx = false ∧
    ((((s.core c).pc : Int) + 4 * far.toInt) < 0 ∨ 0x40000 ≤ (((s.core c).pc : Int) + 4 * far.toInt)) ∧
    fetched s c = some (.spBrl c far)) ∧
  (let off : BitVec 16 := 0x8000; let s : State := poke (up base 1) c 0x50A58000;
    Executes s c ∧ (s.core c).inx = false ∧ ((s.core c).gR ra.toNat) = ((s.core c).gR rb.toNat) ∧
    ((((s.core c).pc : Int) + 4 * off.toInt) < 0 ∨ 0x40000 ≤ (((s.core c).pc : Int) + 4 * off.toInt)) ∧
    fetched s c = some (.spBeq c ra rb off)) ∧
  (let rb : BitVec 5 := (8); let imm : BitVec 16 := 5; let s : State := poke (up base 1) c 0x4CA80005;
    Executes s c ∧ (s.core c).inx = false ∧ 0x40000 ≤ ((s.core c).gR rb.toNat + imm.signExtend 32).toNat ∧
    fetched s c = some (.spJalr c ra rb imm)) ∧
  (let imm : BitVec 16 := 2; let s : State := poke (up base 1) c 0x4CA50002;
    Executes s c ∧ (s.core c).inx = false ∧ ((s.core c).gR rb.toNat + imm.signExtend 32).toNat < 0x40000 ∧
    ((s.core c).gR rb.toNat + imm.signExtend 32).toNat % 4 ≠ 0 ∧ fetched s c = some (.spJalr c ra rb imm)) := by
  decide +kernel

theorem witness_SpireSystemInstructions :
  let c : Fin 16 := 1;
  (let s : State := poke (up base 1) c 0x40000000;
    Executes s c ∧ (s.core c).task = false ∧ fetched s c = some (.spXret c 0 0 0)) ∧
  (let code : BitVec 10 := 5; let s : State := poke (up base 1) c 0x40002802;
    Executes s c ∧ (s.core c).inx = false ∧ fetched s c = some (.spTrap c 0 code)) ∧
  (let s : State := poke (up base 1) c 0x40000003;
    Executes s c ∧ (s.core c).inx = false ∧ fetched s c = some (.spBreak c 0 0 0)) ∧
  (let s : State := poke ((up base 1).updCore c (fun zz => { zz with task := true })) c 0x40000000;
    Executes s c ∧ (s.core c).task = true ∧ (s.core c).inx = false ∧ fetched s c = some (.spXret c 0 0 0)) ∧
  (let s : State := poke ((up base 1).updCore c (fun zz => { zz with task := true })) c 0x40000001;
    Executes s c ∧ (s.core c).task = true ∧ (s.core c).inx = false ∧ fetched s c = some (.spHalt c 0 0 0)) ∧
  (let s : State := poke (up base 1) c 0x40000001;
    Executes s c ∧ (s.core c).task = false ∧ fetched s c = some (.spHalt c 0 0 0)) := by
  decide +kernel

theorem witness_SpireCsrAccess :
  let c : Fin 16 := 1; let rd : BitVec 5 := 6; let csr : BitVec 12 := 0x006; let rs1 : BitVec 5 := 5;
  (let s : State := up base 1; let old := (csrRead s c 0x006 (s.core c)).getD 0; let s : State := s;
    let s : State := poke s c (15 * 2^26 + ((rd : BitVec 5)).toNat * 2^21 + ((0 : BitVec 5)).toNat * 2^16 + 0 * 2^12 + ((csr : BitVec 12)).toNat);
    Executes s c ∧ csrRead (afterFetch s c) c csr.toNat (s.core c) = some old ∧ fetched s c = some (.spCsrr c rd 0 csr)) ∧
  (let s : State := (up base 1).updCore c (fun zz => { zz with task := false });
    let old := (csrRead s c 0x006 (s.core c)).getD 0; let s : State := s;
    let s : State := poke s c (15 * 2^26 + ((rd : BitVec 5)).toNat * 2^21 + ((rs1 : BitVec 5)).toNat * 2^16 + 1 * 2^12 + ((csr : BitVec 12)).toNat);
    Executes s c ∧ csrRead (afterFetch s c) c csr.toNat (s.core c) = some old ∧
    ((s.core c).task = false ∨ csr.toNat = 0x00B) ∧ fetched s c = some (.spCsrw c rd rs1 csr)) ∧
  (let s : State := ((up base 1).updCore c (fun zz => { zz with task := true })).updCore c (fun zz => { zz with inx := false });
    let old := (csrRead s c 0x006 (s.core c)).getD 0; let s : State := s;
    let s : State := poke s c (15 * 2^26 + ((rd : BitVec 5)).toNat * 2^21 + ((rs1 : BitVec 5)).toNat * 2^16 + 1 * 2^12 + ((csr : BitVec 12)).toNat);
    Executes s c ∧ csrRead (afterFetch s c) c csr.toNat (s.core c) = some old ∧ (s.core c).task = true ∧ csr.toNat ≠ 0x00B ∧
    (s.core c).inx = false ∧ fetched s c = some (.spCsrw c rd rs1 csr)) ∧
  (let s : State := (up base 1).updCore c (fun zz => { zz with task := false });
    let old := (csrRead s c 0x006 (s.core c)).getD 0; let s : State := s;
    let s : State := poke s c (15 * 2^26 + ((rd : BitVec 5)).toNat * 2^21 + ((rs1 : BitVec 5)).toNat * 2^16 + 2 * 2^12 + ((csr : BitVec 12)).toNat);
    Executes s c ∧ csrRead (afterFetch s c) c csr.toNat (s.core c) = some old ∧
    ((s.core c).task = false ∨ csr.toNat = 0x00B) ∧ fetched s c = some (.spCsrs c rd rs1 csr)) ∧
  (let s : State := ((up base 1).updCore c (fun zz => { zz with task := true })).updCore c (fun zz => { zz with inx := false });
    let old := (csrRead s c 0x006 (s.core c)).getD 0; let s : State := s;
    let s : State := poke s c (15 * 2^26 + ((rd : BitVec 5)).toNat * 2^21 + ((rs1 : BitVec 5)).toNat * 2^16 + 2 * 2^12 + ((csr : BitVec 12)).toNat);
    Executes s c ∧ csrRead (afterFetch s c) c csr.toNat (s.core c) = some old ∧ (s.core c).task = true ∧ csr.toNat ≠ 0x00B ∧
    (s.core c).inx = false ∧ fetched s c = some (.spCsrs c rd rs1 csr)) ∧
  (let s : State := (up base 1).updCore c (fun zz => { zz with task := false });
    let old := (csrRead s c 0x006 (s.core c)).getD 0; let s : State := s;
    let s : State := poke s c (15 * 2^26 + ((rd : BitVec 5)).toNat * 2^21 + ((rs1 : BitVec 5)).toNat * 2^16 + 3 * 2^12 + ((csr : BitVec 12)).toNat);
    Executes s c ∧ csrRead (afterFetch s c) c csr.toNat (s.core c) = some old ∧
    ((s.core c).task = false ∨ csr.toNat = 0x00B) ∧ fetched s c = some (.spCsrc c rd rs1 csr)) ∧
  (let s : State := ((up base 1).updCore c (fun zz => { zz with task := true })).updCore c (fun zz => { zz with inx := false });
    let old := (csrRead s c 0x006 (s.core c)).getD 0; let s : State := s;
    let s : State := poke s c (15 * 2^26 + ((rd : BitVec 5)).toNat * 2^21 + ((rs1 : BitVec 5)).toNat * 2^16 + 3 * 2^12 + ((csr : BitVec 12)).toNat);
    Executes s c ∧ csrRead (afterFetch s c) c csr.toNat (s.core c) = some old ∧ (s.core c).task = true ∧ csr.toNat ≠ 0x00B ∧
    (s.core c).inx = false ∧ fetched s c = some (.spCsrc c rd rs1 csr)) ∧
  (let csr : BitVec 12 := 0xFFF; let s : State := poke (up base 1) c 0x3CC00FFF;
    Executes s c ∧ csrRead (afterFetch s c) c csr.toNat (s.core c) = none ∧ (s.core c).inx = false ∧
    fetched s c = some (.spCsrr c rd 0 csr)) ∧
  (let csr : BitVec 12 := 0xFFF; let s : State := poke (up base 1) c 0x3CC51FFF;
    Executes s c ∧ csrRead (afterFetch s c) c csr.toNat (s.core c) = none ∧ (s.core c).inx = false ∧
    fetched s c = some (.spCsrw c rd rs1 csr)) ∧
  (let csr : BitVec 12 := 0xFFF; let s : State := poke (up base 1) c 0x3CC52FFF;
    Executes s c ∧ csrRead (afterFetch s c) c csr.toNat (s.core c) = none ∧ (s.core c).inx = false ∧
    fetched s c = some (.spCsrs c rd rs1 csr)) ∧
  (let csr : BitVec 12 := 0xFFF; let s : State := poke (up base 1) c 0x3CC53FFF;
    Executes s c ∧ csrRead (afterFetch s c) c csr.toNat (s.core c) = none ∧ (s.core c).inx = false ∧
    fetched s c = some (.spCsrc c rd rs1 csr)) := by
  decide +kernel

theorem witness_SpireSynchronisation :
  let c : Fin 16 := 1; let rd : BitVec 5 := 6; let rs1 : BitVec 5 := 5; let m := (⟨7, 9, 3⟩ : Msg);
  let rest := ([] : List Msg); let rs2 : BitVec 5 := 8; let n : Fin 16 := 3;
  (let s : State := poke (up base 1) c 0x30C00000;
    Executes s c ∧ (s.core c).ticks = 0 ∧ fetched s c = some (.spWaitt c rd 0 0)) ∧
  (let s : State := poke ((up base 1).updCore c fun zz => { zz with ticks := 2 }) c 0x30C00000;
    Executes s c ∧ (s.core c).ticks ≠ 0 ∧ fetched s c = some (.spWaitt c rd 0 0)) ∧
  (let s : State := poke ((up base 1).updCore c fun zz => { zz with g := zz.g.set 5 (2) }) c 0x30C50001;
    Executes s c ∧ bit ((s.core c).gR rs1.toNat).toNat c.val = true ∧ fetched s c = some (.spBar c rd rs1 0)) ∧
  (let s : State := poke (up base 1) c 0x30C50001;
    Executes s c ∧ bit ((s.core c).gR rs1.toNat).toNat c.val = false ∧ (s.core c).inx = false ∧
    fetched s c = some (.spBar c rd rs1 0)) ∧
  (let s : State := poke (up base 1) c 0x30000002;
    Executes s c ∧ (s.core c).buf = [] ∧ fetched s c = some (.spFence c 0 0 0)) ∧
  (let s : State := poke ((up base 1).updCore c fun zz => { zz with buf := [⟨0, 1, 0, false⟩] }) c 0x30000002;
    Executes s c ∧ (s.core c).buf ≠ [] ∧ fetched s c = some (.spFence c 0 0 0)) ∧
  (let s : State := poke (up base 1) c 0x34C00001;
    Executes s c ∧ (s.core c).mbox = [] ∧ rd.toNat % 2 = 0 ∧ fetched s c = some (.spRecv c rd 0 0)) ∧
  (let s : State := poke (up base 1) c 0x34C00002;
    Executes s c ∧ (s.core c).mbox = [] ∧ rd.toNat % 2 = 0 ∧ fetched s c = some (.spRecvn c rd 0 0)) ∧
  (let s : State := poke ((up base 1).updCore c (fun zz => { zz with mbox := m :: rest })) c 0x34C00001;
    Executes s c ∧ (s.core c).mbox = m :: rest ∧ rd.toNat % 2 = 0 ∧ fetched s c = some (.spRecv c rd 0 0)) ∧
  (let s : State := poke ((up base 1).updCore c (fun zz => { zz with mbox := m :: rest })) c 0x34C00002;
    Executes s c ∧ (s.core c).mbox = m :: rest ∧ rd.toNat % 2 = 0 ∧ fetched s c = some (.spRecvn c rd 0 0)) ∧
  (let s : State := poke (up base 1) c 0x34C54000;
    Executes s c ∧ rs2.toNat % 2 = 0 ∧ 16 ≤ ((s.core c).gR rs1.toNat).toNat ∧ (s.core c).inx = false ∧
    fetched s c = some (.spSend c rd rs1 rs2)) ∧
  (let s : State := (up base 1).updCore c fun zz => { zz with g := zz.g.set 5 (3) };
    let s : State := poke (s.updCore 3 fun zz => { zz with soon := List.replicate 16 (2000, ⟨0, 0, 0⟩) }) c 0x34C54000;
    Executes s c ∧ rs2.toNat % 2 = 0 ∧ ((s.core c).gR rs1.toNat).toNat = n.val ∧ mailboxFull s n.val = true ∧
    fetched s c = some (.spSend c rd rs1 rs2)) ∧
  (let s : State := poke ((up base 1).updCore c fun zz => { zz with g := zz.g.set 5 (3) }) c 0x34C54000;
    Executes s c ∧ rs2.toNat % 2 = 0 ∧ ((s.core c).gR rs1.toNat).toNat = n.val ∧ mailboxFull s n.val = false ∧
    fetched s c = some (.spSend c rd rs1 rs2)) := by
  decide +kernel

theorem witness_SpireLockInstructions :
  let c : Fin 16 := 1; let rd : BitVec 5 := 6; let rs1 : BitVec 5 := 5; let k : Fin 64 := 1;
  (let s : State := poke (up base 1) c 0x38C51001;
    Executes s c ∧ holds s ((((s.core c).gR rs1.toNat).toNat + k.val) % 64) c = false ∧
    s.on BELFRY_TOK_STATE_HELD 0 ((((s.core c).gR rs1.toNat).toNat + k.val) % 64) = false ∧
    s.bel.waiters.get [] ((((s.core c).gR rs1.toNat).toNat + k.val) % 64) = [] ∧
    fetched s c = some (.spLocktry c rd rs1 (BitVec.ofNat 12 k.val))) ∧
  (let s : State := poke (giveToken (up base 1) ((0x2004 + k.val) % 64) c) c 0x38C51001;
    Executes s c ∧ holds s ((((s.core c).gR rs1.toNat).toNat + k.val) % 64) c = true ∧
    fetched s c = some (.spLocktry c rd rs1 (BitVec.ofNat 12 k.val))) ∧
  (let s : State := poke (giveToken (up base 1) ((0x2004 + k.val) % 64) 9) c 0x38C51001;
    Executes s c ∧ holds s ((((s.core c).gR rs1.toNat).toNat + k.val) % 64) c = false ∧
    (s.on BELFRY_TOK_STATE_HELD 0 ((((s.core c).gR rs1.toNat).toNat + k.val) % 64) = true ∨ s.bel.waiters.get [] ((((s.core c).gR rs1.toNat).toNat + k.val) % 64) ≠ []) ∧
    fetched s c = some (.spLocktry c rd rs1 (BitVec.ofNat 12 k.val))) ∧
  (let s : State := poke (up base 1) c 0x38C50001;
    Executes s c ∧ holds s ((((s.core c).gR rs1.toNat).toNat + k.val) % 64) c = false ∧
    s.on BELFRY_TOK_STATE_HELD 0 ((((s.core c).gR rs1.toNat).toNat + k.val) % 64) = false ∧
    s.bel.waiters.get [] ((((s.core c).gR rs1.toNat).toNat + k.val) % 64) = [] ∧
    fetched s c = some (.spLockacq c rd rs1 (BitVec.ofNat 12 k.val))) ∧
  (let s : State := poke (giveToken (up base 1) ((0x2004 + k.val) % 64) c) c 0x38C50001;
    Executes s c ∧ holds s ((((s.core c).gR rs1.toNat).toNat + k.val) % 64) c = true ∧
    fetched s c = some (.spLockacq c rd rs1 (BitVec.ofNat 12 k.val))) ∧
  (let s : State := poke (giveToken (up base 1) ((0x2004 + k.val) % 64) 9) c 0x38C50001;
    Executes s c ∧ holds s ((((s.core c).gR rs1.toNat).toNat + k.val) % 64) c = false ∧
    (s.on BELFRY_TOK_STATE_HELD 0 ((((s.core c).gR rs1.toNat).toNat + k.val) % 64) = true ∨ s.bel.waiters.get [] ((((s.core c).gR rs1.toNat).toNat + k.val) % 64) ≠ []) ∧
    fetched s c = some (.spLockacq c rd rs1 (BitVec.ofNat 12 k.val))) ∧
  (let s : State := poke (giveToken (up base 1) ((0x2004 + k.val) % 64) c) c 0x38C52001;
    Executes s c ∧ holds s ((((s.core c).gR rs1.toNat).toNat + k.val) % 64) c = true ∧
    fetched s c = some (.spLockrel c rd rs1 (BitVec.ofNat 12 k.val))) ∧
  (let s : State := poke (up base 1) c 0x38C52001;
    Executes s c ∧ holds s ((((s.core c).gR rs1.toNat).toNat + k.val) % 64) c = false ∧
    fetched s c = some (.spLockrel c rd rs1 (BitVec.ofNat 12 k.val))) ∧
  (let s : State := poke (giveToken (up base 1) ((0x2004 + k.val) % 64) c) c 0x38C53001;
    Executes s c ∧ holds s ((((s.core c).gR rs1.toNat).toNat + k.val) % 64) c = true ∧
    fetched s c = some (.spLockclr c rd rs1 (BitVec.ofNat 12 k.val))) ∧
  (let s : State := poke (up base 1) c 0x38C53001;
    Executes s c ∧ holds s ((((s.core c).gR rs1.toNat).toNat + k.val) % 64) c = false ∧
    fetched s c = some (.spLockclr c rd rs1 (BitVec.ofNat 12 k.val))) := by
  decide +kernel

theorem witness_SpireLawInstructions :
  let c : Fin 16 := 1; let rd : BitVec 5 := 6; let rs1 : BitVec 5 := 5; let operand : BitVec 12 := 5; let k : Fin 32 := 1;
  (let s : State := { (up base 1) with law.initBusy := false };
    let s : State := poke s c (11 * 2^26 + ((rd : BitVec 5)).toNat * 2^21 + ((rs1 : BitVec 5)).toNat * 2^16 + 0 * 2^12 + ((operand : BitVec 12)).toNat);
    Executes s c ∧ s.law.initBusy = false ∧
    (∀ l ∈ findKey s.law.late (xfKey ((((s.core c).gR rs1.toNat).toNat + operand.toNat) % 4096)), ∀ p ∈ l.puts, p.edge ≤ s.fab) ∧
    fetched s c = some (.spLawin c rd rs1 operand)) ∧
  (let s : State := { (up base 1) with law.initBusy := false };
    let s : State := poke s c (11 * 2^26 + ((rd : BitVec 5)).toNat * 2^21 + ((rs1 : BitVec 5)).toNat * 2^16 + 1 * 2^12 + ((operand : BitVec 12)).toNat);
    Executes s c ∧ s.law.initBusy = false ∧
    (∀ l ∈ findKey s.law.late (xfKey ((((s.core c).gR rs1.toNat).toNat + operand.toNat) % 4096)), ∀ p ∈ l.puts, p.edge ≤ s.fab) ∧
    fetched s c = some (.spLawing c rd rs1 operand)) ∧
  (let s : State := poke ({ (up base 1) with law.initBusy := false }) c 0x2CC52005;
    Executes s c ∧ s.law.initBusy = false ∧
    ((((s.core c).gR rs1.toNat).toNat + operand.toNat) % 4096 = 0 ∨ lawBad s (4 * xfKey ((((s.core c).gR rs1.toNat).toNat + operand.toNat) % 4096)) 1 = false) ∧
    fetched s c = some (.spLawout c rd rs1 operand)) ∧
  (let s : State := poke (up base 1) c 0x2CC52005;
    Executes s c ∧ s.law.initBusy = true ∧ fetched s c = some (.spLawout c rd rs1 operand)) ∧
  (let s : State := poke ({ (up base 1) with law.initBusy := false }) c 0x2CC53005;
    Executes s c ∧ s.law.initBusy = false ∧
    ((((s.core c).gR rs1.toNat).toNat + operand.toNat) % 4096 = 0 ∨ lawBad s (4 * xfKey ((((s.core c).gR rs1.toNat).toNat + operand.toNat) % 4096)) 1 = false) ∧
    fetched s c = some (.spLawoutg c rd rs1 operand)) ∧
  (let s : State := poke (up base 1) c 0x2CC53005;
    Executes s c ∧ s.law.initBusy = true ∧ fetched s c = some (.spLawoutg c rd rs1 operand)) ∧
  (let s : State := up base 1;
    let s : State := poke ({ s with law := { s.law with run := some ⟨(0x2004 + k.val) % 32, 0, 0, 0, 0, 0, []⟩ } }) c 0x2C055001;
    Executes s c ∧ listActive s ((((s.core c).gR rs1.toNat).toNat + k.val) % 32) = true ∧
    fetched s c = some (.spLawwt c 0 rs1 (BitVec.ofNat 12 k.val))) ∧
  (let s : State := poke (up base 1) c 0x2C055001;
    Executes s c ∧ listActive s ((((s.core c).gR rs1.toNat).toNat + k.val) % 32) = false ∧
    fetched s c = some (.spLawwt c 0 rs1 (BitVec.ofNat 12 k.val))) ∧
  (let s : State := poke ({ (up base 1) with law.initBusy := false }) c 0x2CC56001;
    Executes s c ∧ s.law.initBusy = false ∧
    lawBad s (0x104 + 0x10 * ((((s.core c).gR rs1.toNat).toNat + k.val) % 32)) 1 = false ∧
    fetched s c = some (.spLawst c rd rs1 (BitVec.ofNat 12 k.val))) ∧
  (let s : State := poke (up base 1) c 0x2CC54001;
    Executes s c ∧ fetched s c = some (.spLawgo c rd rs1 (BitVec.ofNat 12 k.val))) := by
  decide +kernel

theorem witness_SpireCellInstructions :
  let c : Fin 16 := 1; let rd : BitVec 5 := 6; let rs1 : BitVec 5 := 5; let rs2 : BitVec 5 := 8;
  (let s : State := poke (up base 1) c 0x28C54000;
    Executes s c ∧ (CellDesc.of ((s.core c).gR rs2.toNat)).illegal false = false ∧
    (((s.core c).gR rs1.toNat).toNat) + (CellDesc.of ((s.core c).gR rs2.toNat)).cnt * (CellDesc.of ((s.core c).gR rs2.toNat)).size ≤ 0x40000 ∧
    (((s.core c).gR rs1.toNat).toNat) % (CellDesc.of ((s.core c).gR rs2.toNat)).size = 0 ∧
    ((CellDesc.of ((s.core c).gR rs2.toNat)).size < 4 → (s.core c).tcmFails (((s.core c).gR rs1.toNat).toNat) ((CellDesc.of ((s.core c).gR rs2.toNat)).cnt * (CellDesc.of ((s.core c).gR rs2.toNat)).size) = false) ∧
    fetched s c = some (.spCgath c rd rs1 rs2)) ∧
  (let s : State := poke ((up base 1).updCore c fun zz => { zz with g := zz.g.set 8 (24 + 2^7 * 2 + 2^9 * 3) }) c 0x28C54000;
    Executes s c ∧ (CellDesc.of ((s.core c).gR rs2.toNat)).illegal false = true ∧ (s.core c).inx = false ∧
    fetched s c = some (.spCgath c rd rs1 rs2)) ∧
  (let rs1 : BitVec 5 := 4; let s : State := poke (up base 1) c 0x28C44001;
    Executes s c ∧ (CellDesc.of ((s.core c).gR rs2.toNat)).illegal true = false ∧
    (((s.core c).gR rs1.toNat).toNat) + (CellDesc.of ((s.core c).gR rs2.toNat)).cnt * (CellDesc.of ((s.core c).gR rs2.toNat)).size ≤ 0x40000 ∧
    (((s.core c).gR rs1.toNat).toNat) % (CellDesc.of ((s.core c).gR rs2.toNat)).size = 0 ∧ rs1.toNat % 2 = 0 ∧
    (((s.core c).gR (rs1.toNat + 1)).toNat) + 2 * (CellDesc.of ((s.core c).gR rs2.toNat)).cnt ≤ 0x40000 ∧
    (((s.core c).gR (rs1.toNat + 1)).toNat) % 2 = 0 ∧
    (s.core c).tcmFails (((s.core c).gR (rs1.toNat + 1)).toNat) (2 * (CellDesc.of ((s.core c).gR rs2.toNat)).cnt) = false ∧
    ((CellDesc.of ((s.core c).gR rs2.toNat)).size < 4 → (s.core c).tcmFails (((s.core c).gR rs1.toNat).toNat) ((CellDesc.of ((s.core c).gR rs2.toNat)).cnt * (CellDesc.of ((s.core c).gR rs2.toNat)).size) = false) ∧
    fetched s c = some (.spCgathx c rd rs1 rs2)) ∧
  (let rs1 : BitVec 5 := 4;
    let s : State := (up base 1).updCore c fun zz => { zz with g := zz.g.set 8 (24 + 2^7 * 2 + 2^9 * 3 + 2^21 * 4) };
    let s : State := poke s c 0x28C44001;
    Executes s c ∧ (CellDesc.of ((s.core c).gR rs2.toNat)).illegal true = true ∧ (s.core c).inx = false ∧ rs1.toNat % 2 = 0 ∧
    fetched s c = some (.spCgathx c rd rs1 rs2)) ∧
  (let s : State := poke (up base 1) c 0x28C54002;
    Executes s c ∧ (CellDesc.of ((s.core c).gR rs2.toNat)).illegal false = false ∧
    (((s.core c).gR rs1.toNat).toNat) + (CellDesc.of ((s.core c).gR rs2.toNat)).cnt * (CellDesc.of ((s.core c).gR rs2.toNat)).size ≤ 0x40000 ∧
    (((s.core c).gR rs1.toNat).toNat) % (CellDesc.of ((s.core c).gR rs2.toNat)).size = 0 ∧
    (s.core c).tcmFails (((s.core c).gR rs1.toNat).toNat) ((CellDesc.of ((s.core c).gR rs2.toNat)).cnt * (CellDesc.of ((s.core c).gR rs2.toNat)).size) = false ∧
    fetched s c = some (.spCscat c rd rs1 rs2)) ∧
  (let s : State := poke ((up base 1).updCore c fun zz => { zz with g := zz.g.set 8 (24 + 2^7 * 2 + 2^9 * 3) }) c 0x28C54002;
    Executes s c ∧ (CellDesc.of ((s.core c).gR rs2.toNat)).illegal false = true ∧ (s.core c).inx = false ∧
    fetched s c = some (.spCscat c rd rs1 rs2)) ∧
  (let rs1 : BitVec 5 := 4; let s : State := poke (up base 1) c 0x28C44003;
    Executes s c ∧ (CellDesc.of ((s.core c).gR rs2.toNat)).illegal true = false ∧
    (((s.core c).gR rs1.toNat).toNat) + (CellDesc.of ((s.core c).gR rs2.toNat)).cnt * (CellDesc.of ((s.core c).gR rs2.toNat)).size ≤ 0x40000 ∧
    (((s.core c).gR rs1.toNat).toNat) % (CellDesc.of ((s.core c).gR rs2.toNat)).size = 0 ∧ rs1.toNat % 2 = 0 ∧
    (((s.core c).gR (rs1.toNat + 1)).toNat) + 2 * (CellDesc.of ((s.core c).gR rs2.toNat)).cnt ≤ 0x40000 ∧
    (((s.core c).gR (rs1.toNat + 1)).toNat) % 2 = 0 ∧
    (s.core c).tcmFails (((s.core c).gR (rs1.toNat + 1)).toNat) (2 * (CellDesc.of ((s.core c).gR rs2.toNat)).cnt) = false ∧
    (s.core c).tcmFails (((s.core c).gR rs1.toNat).toNat) ((CellDesc.of ((s.core c).gR rs2.toNat)).cnt * (CellDesc.of ((s.core c).gR rs2.toNat)).size) = false ∧
    fetched s c = some (.spCscatx c rd rs1 rs2)) ∧
  (let rs1 : BitVec 5 := 4;
    let s : State := (up base 1).updCore c fun zz => { zz with g := zz.g.set 8 (24 + 2^7 * 2 + 2^9 * 3 + 2^21 * 4) };
    let s : State := poke s c 0x28C44003;
    Executes s c ∧ (CellDesc.of ((s.core c).gR rs2.toNat)).illegal true = true ∧ (s.core c).inx = false ∧ rs1.toNat % 2 = 0 ∧
    fetched s c = some (.spCscatx c rd rs1 rs2)) := by
  decide +kernel

theorem witness_SpireFetchFaults :
  let c : Fin 16 := 1;
  (let s : State := (up base 1).updCore c fun zz => { zz with pc := 0x40000 };
    coreRuns s c = true ∧ (s.core c).haltReq = false ∧ (s.core c).inx = false ∧ 0x40000 ≤ (s.core c).pc) ∧
  (let s : State := (up base 1).updCore c fun zz => { zz with tcmBad := [0x100] };
    coreRuns s c = true ∧ (s.core c).haltReq = false ∧ (s.core c).inx = false ∧ (s.core c).pc < 0x40000 ∧
    (s.core c).tcmFails (s.core c).pc 4 = true) ∧
  (let s : State := poke (up base 1) c (0x1E * 2 ^ 26);
    coreRuns s c = true ∧ (s.core c).haltReq = false ∧ (s.core c).inx = false ∧ fetchFault s c = none ∧ fetched s c = none) := by
  decide +kernel

theorem witness_SpireDoubleFault :
  (let c : Fin 16 := 1; let code : BitVec 10 := 5;
    let s : State := poke ((up base 1).updCore c (fun zz => { zz with inx := true })) c 0x40002802;
    Executes s c ∧ (s.core c).inx = true ∧ fetched s c = some (.spTrap c 0 code)) := by
  decide +kernel

theorem witness_SpireEventsComplete :
  let c : Fin 16 := 1; let rd := (6 : Nat); let e := (900 : Nat); let s : State := up base 1;
  (let s : State := (up base 1).updCore c fun zz => { zz with wait := some (.waitt rd), ticks := 3 };
    clocked s = true ∧ inRun s = true ∧ s.on SPIRE_STATUS_HALTED c = false ∧ (s.core c).wait = some (.waitt rd) ∧
    1 ≤ (s.core c).ticks) ∧
  (let m : BitVec 16 := 2; let s : State := (up base 1).updCore c (fun zz => { zz with wait := some (.bar rd m.toNat e) });
    clocked s = true ∧ inRun s = true ∧ m.toNat = 2 ^ c.val ∧ s.on SPIRE_STATUS_HALTED c = false ∧
    (s.core c).wait = some (.bar rd m.toNat e)) ∧
  (let m := (6 : Nat); let s : State := (up base 1).updCore c fun zz => { zz with wait := some (.bar rd m e), barTo := 3 };
    clocked s = true ∧ inRun s = true ∧ (s.core c).wait = some (.bar rd m e) ∧ (s.core c).barTo ≠ 0) ∧
  (let a := ((1007, ⟨7, 9, 3⟩) : Nat × Msg);
    let s : State := (up base 1).updCore c fun zz => { zz with soon := [(1008, ⟨0, 1, 2⟩), (1007, ⟨7, 9, 4⟩), a] };
    clocked s = true ∧ nextArrival (s.core c).soon = some a) ∧
  (let m := (⟨7, 9, 3⟩ : Msg); let rest := ([] : List Msg);
    let s : State := (up base 1).updCore c (fun zz => { zz with wait := some (.recv rd) });
    let s : State := s.updCore c (fun zz => { zz with mbox := m :: rest });
    clocked s = true ∧ inRun s = true ∧ (s.core c).wait = some (.recv rd) ∧ (s.core c).mbox = m :: rest) ∧
  (let k := (5 : Nat); let s : State := (up base 1).updCore c (fun zz => { zz with wait := some (.lawwt k) });
    clocked s = true ∧ (s.core c).wait = some (.lawwt k) ∧ listActive s k = false ∧ (s.core c).haltReq = false) ∧
  (let l := (⟨0x20000000, 4, false, 6, false⟩ : LoadReq);
    let s : State := (up base 1).updCore c (fun zz => { zz with wait := some (.load l) });
    let s : State := (s.updCore c (fun zz => { zz with buf := [] })).updCore c (fun zz => { zz with haltReq := false });
    let s : State := (s.updCore c fun zz => { zz with wait := some (.load l) }).wr JOURNAL_CTRL_EN 1;
    let v := (match (busRead s (.core c false) l.addr l.size).2 with | .ok v => v | _ => 0);
    clocked s = true ∧ (s.core c).wait = some (.load l) ∧ (s.core c).buf = [] ∧
    (busRead s (.core c false) l.addr l.size).2 = .ok v ∧ (s.core c).haltReq = false) ∧
  (let b := (⟨0x800000000, 4, 77, false⟩ : BufStore); let rest := ([] : List BufStore);
    let s : State := (up base 1).updCore c (fun zz => { zz with buf := b :: rest });
    clocked s = true ∧ (s.core c).buf = b :: rest ∧
    ((busWrite (s.updCore c fun x => { x with buf := rest }) (.core c b.task) b.addr b.size b.val).core c).wait = none) ∧
  (let tok : Fin 64 := (9 : Fin 64);
    let s : State := (up base 1).updCore c (fun zz => { zz with wait := some (.lock rd tok) });
    let s : State := freeToken ({ s with bel := { s.bel with waiters := s.bel.waiters.set 9 [⟨1, 900⟩] } }) 9;
    clocked s = true ∧ firstWaiter s tok = some c.val ∧ (s.core c).wait = some (.lock rd tok)) := by
  decide +kernel

theorem witness_SpireEventsComplete_a :
  let c : Fin 16 := 1; let rd := (6 : Nat); let s : State := up base 1
  let s : State := (up base 1).updCore c (fun zz => { zz with ie := true });
    let s : State := s.updCore c fun zz => { zz with ien := [(0, 0xFFFFFFFF), (6, 0x8000)] };
    let s : State := ((s.wr JOURNAL_STATUS_READY 1).wr JOURNAL_INT_EN_EN 0x3F); let n := (pickSource s (s.core c)).getD 999;
    clocked s = true ∧ interruptible s c = true ∧ (∀ rd tok, (s.core c).wait ≠ some (.lock rd tok)) ∧ (s.core c).ie = true ∧
    pickSource s (s.core c) = some n :=
  ⟨by decide +kernel, by decide +kernel, fun _ _ => ne_some_of_none (by decide +kernel) _, by decide +kernel, by decide +kernel⟩

theorem witness_SpireEventsComplete_b :
  let c : Fin 16 := 1; let rd := (6 : Nat); let s : State := up base 1
  let s : State := ((up base 1).updCore c (fun zz => { zz with mie := true })).updCore c (fun zz => { zz with ie := false });
    let s : State := s.updCore c fun zz => { zz with mbox := [⟨7, 9, 3⟩] };
    clocked s = true ∧ interruptible s c = true ∧ (∀ rd tok, (s.core c).wait ≠ some (.lock rd tok)) ∧ (s.core c).mie = true ∧
    (s.core c).mbox ≠ [] ∧ (s.core c).ie = false :=
  ⟨by decide +kernel, by decide +kernel, fun _ _ => ne_some_of_none (by decide +kernel) _, by decide +kernel, by decide +kernel, by decide +kernel⟩

theorem witness_PipelineEdges :
  (let s : State := { base with pipe.running := true };
    clocked s = true ∧ s.pipe.running = true ∧ s.pipe.endPending = false) ∧
  (let s : State := { base with pipe.firstPending := true };
    clocked s = true ∧ s.pipe.running = false ∧ s.pipe.firstPending = true) ∧
  (let s : State := { ({ base with pipe.running := true }) with pipe.endPending := true };
    clocked s = true ∧ s.pipe.running = true ∧ s.pipe.endPending = true) ∧
  (let s : State := { base with pipe.running := true };
    clocked s = true ∧ s.pipe.running = true ∧ s.pipe.retPassed = false) ∧
  (let s : State := { ({ base with pipe.running := true }) with pipe.retPassed := true };
    clocked s = true ∧ s.pipe.running = true ∧ s.pipe.retPassed = true ∧ s.pipe.cseDone = false ∧
    (twinAgrees s = true → s.pipe.maskPassed = true)) ∧
  (let s : State := { ({ base with pipe.running := true }) with pipe.cseDone := true };
    clocked s = true ∧ s.pipe.running = true ∧ s.pipe.cseDone = true ∧ s.pipe.leaseDone = false) ∧
  (let s : State := { ({ base with pipe.running := true }) with pipe.cseDone := true };
    clocked s = true ∧ s.pipe.running = true ∧ s.pipe.cseDone = true ∧ s.pipe.cutoff = false) ∧
  (let k : Fin 8 := 1; let s : State := { ({ base with pipe.running := true }) with pipe.cutoff := true };
    let s : State := s.updArm k (fun zz => { zz with refillDue := true });
    clocked s = true ∧ s.pipe.running = true ∧ s.pipe.cutoff = true ∧ s.pipe.selDone = false ∧ (s.arm k).refillDue = true) ∧
  (let s : State := { ({ base with pipe.running := true }) with pipe.cutoff := true };
    clocked s = true ∧ s.pipe.running = true ∧ s.pipe.cutoff = true ∧ s.pipe.selDone = false) ∧
  (let s : State := { ({ base with pipe.running := true }) with pipe.selDone := true };
    clocked s = true ∧ s.pipe.running = true ∧ s.pipe.selDone = true ∧ s.pipe.gateDone = false ∧ s.pipe.setup = false) ∧
  (let s : State := { base with pipe.running := true };
    clocked s = true ∧ s.pipe.running = true ∧ s.pipe.setup = false) ∧
  (let s : State := base;
    clocked s = true ∧ s.pipe.running = false) := by
  decide +kernel

theorem witness_RingEvents :
  let r : Fin 128 := 1; let edge : Nat := 3; let s : State := base;
  (let blocks : List Block66 := [startBlock, idleBlock];
    let s : State := ({ base with pipe.running := true }).wr RING_CTRL_EN 1 r;
    clocked s = true ∧ s.pipe.running = true ∧ s.pipe.retPassed = false ∧ s.on RING_CTRL_EN r = true ∧
    (s.ring r).accepted = false ∧ s.pipe.tickEdge ≤ edge ∧ edge - s.pipe.tickEdge ≤ s.rd SYS_PIPE_CFG_RET_DEADLINE ∧
    arrivalOf blocks = .broken) ∧
  (let s : State := ({ ({ base with pipe.running := true }) with pipe.retPassed := false }).wr RING_CTRL_EN 1 r;
    let s : State := s.updRing r (fun zz => { zz with accepted := false });
    let s : State := s.wr SYS_PIPE_CFG_RET_DEADLINE ((edge - s.pipe.tickEdge)); let b := List.replicate 660 7;
    let blocks := frameBlocks b;
    clocked s = true ∧ s.pipe.running = true ∧ s.pipe.retPassed = false ∧ s.on RING_CTRL_EN r = true ∧
    (s.ring r).accepted = false ∧ s.pipe.tickEdge ≤ edge ∧ edge - s.pipe.tickEdge ≤ s.rd SYS_PIPE_CFG_RET_DEADLINE ∧
    arrivalOf blocks = .whole b ∧ frameCrcOk s.mode16 b = false) ∧
  (let s : State := ({ ({ base with pipe.running := true }) with pipe.retPassed := false }).wr RING_CTRL_EN 1 r;
    let s : State := s.updRing r (fun zz => { zz with accepted := false });
    let s : State := s.wr SYS_PIPE_CFG_RET_DEADLINE ((edge - s.pipe.tickEdge));
    let f : Frame := { hdr := { ringId := 1, dev := 0, cycleNo := 77, cells := 32 }, cmds := List.replicate 32 {}, stats := List.replicate 32 {} };
    let b := f.bytes; let blocks := frameBlocks b;
    clocked s = true ∧ s.pipe.running = true ∧ s.pipe.retPassed = false ∧ s.on RING_CTRL_EN r = true ∧
    (s.ring r).accepted = false ∧ s.pipe.tickEdge ≤ edge ∧ edge - s.pipe.tickEdge ≤ s.rd SYS_PIPE_CFG_RET_DEADLINE ∧
    arrivalOf blocks = .whole b ∧ frameCrcOk s.mode16 b = true ∧ (Hdr.ofBytes b).version = 1 ∧ (Hdr.ofBytes b).ftype = 1 ∧
    ((Hdr.ofBytes b).ringId ≠ r ∨ (Hdr.ofBytes b).dev ≠ s.rd TWIN_CASC_CFG_POS ∨ (Hdr.ofBytes b).cycleNo ≠ s.rd SYS_CYCLE_COUNT % 65536)) ∧
  (let s : State := ({ ({ base with pipe.running := true }) with pipe.retPassed := false }).wr RING_CTRL_EN 1 r;
    let s : State := s.updRing r (fun zz => { zz with accepted := false });
    let s : State := (s.wr SYS_PIPE_CFG_RET_DEADLINE ((edge - s.pipe.tickEdge))).updRing r fun zz => { zz with misses := 3 };
    let f : Frame := { hdr := { ringId := 1, dev := 0, cycleNo := 0, cells := 32 }, cmds := List.replicate 32 {}, stats := List.replicate 32 {} };
    let b := f.bytes; let blocks := frameBlocks b;
    clocked s = true ∧ s.pipe.running = true ∧ s.pipe.retPassed = false ∧ s.on RING_CTRL_EN r = true ∧
    (s.ring r).accepted = false ∧ s.pipe.tickEdge ≤ edge ∧ edge - s.pipe.tickEdge ≤ s.rd SYS_PIPE_CFG_RET_DEADLINE ∧
    arrivalOf blocks = .whole b ∧ frameCrcOk s.mode16 b = true ∧ (Hdr.ofBytes b).version = 1 ∧ (Hdr.ofBytes b).ftype = 1 ∧
    (Hdr.ofBytes b).ringId = r ∧ (Hdr.ofBytes b).dev = s.rd TWIN_CASC_CFG_POS ∧
    (Hdr.ofBytes b).cycleNo = s.rd SYS_CYCLE_COUNT % 65536 ∧ twState s = TW_OFF) ∧
  (let s : State := base.updRing r (fun zz => { zz with accepted := true });
    clocked s = true ∧ ((s.ring r).accepted = true ∨ s.pipe.retPassed = true ∨ edge < s.pipe.tickEdge)) ∧
  (let s : State := base.updRing r fun zz => { zz with misses := 2 };
    clocked s = true ∧ 2 ≤ (s.ring r).misses) ∧
  (let s : State := (base.updRing r fun zz => { zz with misses := 4 }).wr RING_CFG_LOST_LIMIT 4 r;
    clocked s = true ∧ s.rd RING_CFG_LOST_LIMIT r ≤ (s.ring r).misses ∧ 0 < (s.ring r).misses) ∧
  (clocked s = true) ∧
  (let q : MgmtReq := ⟨3, true, 8, 77⟩; let rest : List MgmtReq := [⟨3, false, 8, 0⟩];
    let s : State := (s.updRing r fun zz => { zz with carried := true, tries := 4, reqs := q :: rest }).wr RING_CTRL_MGMT_RETRY 3 r;
    clocked s = true ∧ mgmtExhausted s r = true ∧ (s.ring r).reqs = q :: rest) ∧
  (let q : MgmtReq := ⟨3, false, 1, 77⟩; let rest : List MgmtReq := [];
    let s : State := ((s.updRing r fun zz => { zz with carried := true, tries := 4, reqs := q :: rest }).wr TWIN_STATUS_STATE 2);
    clocked s = true ∧ twState s ≠ TW_OFF ∧ (s.ring r).carried = true ∧ (s.ring r).reqs = q :: rest) := by
  decide +kernel

theorem witness_RingCommands :
  let req : Req := .core 0 false; let r : Fin 128 := 1; let s : State := base;
  (Accepts s req .ring r 0x008 4 4) ∧
  (Accepts s req .ring r 0x000 4 4) ∧
  (let data : BitVec 32 := 5;
    Accepts s req .ring r 0x020 data.toNat 0xFFFFFFFF) ∧
  (let x : MgmtRsp := ⟨1, false, 2, 77⟩; let xs : List MgmtRsp := [];
    let s : State := base.updRing r (fun zz => { zz with rsps := x :: xs });
    clocked s = true ∧ powered s (.reg .ring r 0x024) = true ∧ req ≠ .safety ∧ (s.ring r).rsps = x :: xs) ∧
  (let i : Fin 4 := 1; let mask : BitVec 32 := 5;
    Accepts s req .sys 0 (0x030 + 4 * i) mask.toNat 0xFFFFFFFF) ∧
  (Accepts s req .sys 0 0x018 8 8) ∧
  (let s : State := (base.updRing r fun zz => { zz with ovr := 3, ovrSeen := false }).wr SYS_PIPE_CFG_OVR_LIMIT 3;
    clocked s = true ∧ s.rd SYS_PIPE_CFG_OVR_LIMIT ≤ (s.ring r).ovr ∧ 0 < (s.ring r).ovr ∧ (s.ring r).ovrSeen = false) := by
  decide +kernel

theorem witness_TerminalEvents :
  let c : Fin 4096 := 1;
  let sensors : SensorIn := { vcap := 3000, vpack := 2500, ipack := 5, tempPack := 9, tempSw := 9, age := 3, vce := 1, sinceOn := 0, supplyLow := false };
  let p := 2; let pos : Option (Fin 32) := some 4; let k : Fin 4 := 1;
  let leg : LegIn := { sinceOff := 1000, sinceApply := 900, offConf := true, vgMax := 0xEC, vgFor := 50 };
  let up : Bool := true; let s : State := base;
  (let blocks : List Block66 := [startBlock, idleBlock];
    arrivalOf blocks = .broken) ∧
  (let f0 : Frame := { hdr := { holder := true, ringId := 3, cycleNo := 9, cells := 32, wrapped := true }, cmds := (List.range 32).map (fun p => { iref := p, state := 2 }), stats := (List.range 32).map (fun p => { present := p < 2 }) };
    let b := f0.bytes; let blocks := frameBlocks b;
    arrivalOf blocks = .whole b ∧ (Hdr.ofBytes b).wrapped = true) ∧
  (let f0 : Frame := { hdr := { holder := true, ringId := 3, cycleNo := 9, cells := 32, }, cmds := (List.range 32).map (fun p => { iref := p, state := 2 }), stats := (List.range 32).map (fun p => { present := p < 2 }) };
    let b := (f0.bytes.set 40 255); let blocks := frameBlocks b;
    arrivalOf blocks = .whole b ∧ (Hdr.ofBytes b).wrapped = false ∧ (crcGood b) = false) ∧
  (let f0 : Frame := { hdr := { holder := true, ringId := 3, cycleNo := 9, cells := 32, epoch := 1 }, cmds := (List.range 32).map (fun p => { iref := p, state := 2 }), stats := (List.range 32).map (fun p => { present := p < 2 }) };
    let b := f0.bytes; let blocks := frameBlocks b;
    let s : State := s.updTerm c fun zz => { zz with epochUnset := false, cdr := { zz.cdr with epoch := 2 } };
    arrivalOf blocks = .whole b ∧ (crcGood b) = true ∧ (Hdr.ofBytes b).version = 1 ∧ (Hdr.ofBytes b).ftype = 1 ∧
    (Hdr.ofBytes b).wrapped = false ∧ ((s.term c).observe sensors).bound (Hdr.ofBytes b) = true ∧
    (Hdr.ofBytes b).holder = true ∧ ((s.term c).observe sensors).olderEpoch (Hdr.ofBytes b) = true) ∧
  (let f0 : Frame := { hdr := { holder := true, ringId := 3, cycleNo := 9, cells := 32, epoch := 2 }, cmds := (List.range 32).map (fun p => { iref := p, state := 2 }), stats := (List.range 32).map (fun p => { present := p < 2 }) };
    let b := f0.bytes; let blocks := frameBlocks b; let s : State := s;
    let s : State := s.updTerm c fun zz => { zz with epochUnset := false, appliedOnce := true, cdr := { zz.cdr with epoch := 2, lastCycle := 9 } };
    arrivalOf blocks = .whole b ∧ (crcGood b) = true ∧ (Hdr.ofBytes b).version = 1 ∧ (Hdr.ofBytes b).ftype = 1 ∧
    (Hdr.ofBytes b).wrapped = false ∧ ((s.term c).observe sensors).bound (Hdr.ofBytes b) = true ∧
    (Hdr.ofBytes b).holder = true ∧ ((s.term c).observe sensors).olderEpoch (Hdr.ofBytes b) = false ∧
    derivePos (Frame.ofBytes (Hdr.ofBytes b).ring16 b) ((b.length - 20) / 20) = some p ∧
    ((s.term c).observe sensors).appliedOnce = true ∧ (Hdr.ofBytes b).cycleNo = ((s.term c).observe sensors).cdr.lastCycle) ∧
  (let f0 : Frame := { hdr := { holder := true, ringId := 3, cycleNo := 9, cells := 32, epoch := 2 }, cmds := (List.range 32).map (fun p => { iref := p, state := 2 }), stats := (List.range 32).map (fun p => { present := p < 2 }) };
    let b := f0.bytes; let blocks := frameBlocks b; let s : State := s;
    let s : State := s.updTerm c fun zz => { zz with epochUnset := false, appliedOnce := true, cdr := { zz.cdr with epoch := 2, lastCycle := 8 } };
    arrivalOf blocks = .whole b ∧ (crcGood b) = true ∧ (Hdr.ofBytes b).version = 1 ∧ (Hdr.ofBytes b).ftype = 1 ∧
    (Hdr.ofBytes b).wrapped = false ∧ ((s.term c).observe sensors).bound (Hdr.ofBytes b) = true ∧
    (Hdr.ofBytes b).holder = true ∧ ((s.term c).observe sensors).olderEpoch (Hdr.ofBytes b) = false ∧
    derivePos (Frame.ofBytes (Hdr.ofBytes b).ring16 b) ((b.length - 20) / 20) = some p ∧
    (((s.term c).observe sensors).appliedOnce = false ∨ (Hdr.ofBytes b).cycleNo ≠ ((s.term c).observe sensors).cdr.lastCycle) ∧
    (Hdr.ofBytes b).mReq = false ∧ ((s.term c).observe sensors).hdrFor = none ∧ ((s.term c).observe sensors).latched = false ∧
    ((s.term c).observe sensors).cdr.running = false ∧ ((Frame.ofBytes (Hdr.ofBytes b).ring16 b).cmd p).state < 4 ∧
    (((Frame.ofBytes (Hdr.ofBytes b).ring16 b).cmd p).state = 3 → ((s.term c).observe sensors).cdr.fullBridge = true)) ∧
  (let header : BitVec 128 := 5; let pos : Option (Fin 32) := none;
    ((Hdr.ofBytes (leBytes 16 header.toNat)).version ≠ 1 ∨ (Hdr.ofBytes (leBytes 16 header.toNat)).ftype ≠ 1 ∨ (Hdr.ofBytes (leBytes 16 header.toNat)).wrapped = true ∨ (Hdr.ofBytes (leBytes 16 header.toNat)).mReq = false ∨ pos.map (·.val) ≠ some (Hdr.ofBytes (leBytes 16 header.toNat)).mPos)) ∧
  (let header : BitVec 128 := BitVec.ofNat 128 (leNat ((({ mReq := true, mPos := 4, mWrite := false, mAddr := 0x10, mData := 300, mTag := 6 } : Hdr)).bytes));
    (Hdr.ofBytes (leBytes 16 header.toNat)).version = 1 ∧ (Hdr.ofBytes (leBytes 16 header.toNat)).ftype = 1 ∧
    (Hdr.ofBytes (leBytes 16 header.toNat)).wrapped = false ∧ (Hdr.ofBytes (leBytes 16 header.toNat)).mReq = true ∧
    pos.map (·.val) = some (Hdr.ofBytes (leBytes 16 header.toNat)).mPos ∧
    (Hdr.ofBytes (leBytes 16 header.toNat)).mWrite = false) ∧
  (let header : BitVec 128 := BitVec.ofNat 128 (leNat ((({ mReq := true, mPos := 4, mWrite := true, mAddr := 0x10, mData := 300, mTag := 6 } : Hdr)).bytes));
    (Hdr.ofBytes (leBytes 16 header.toNat)).version = 1 ∧ (Hdr.ofBytes (leBytes 16 header.toNat)).ftype = 1 ∧
    (Hdr.ofBytes (leBytes 16 header.toNat)).wrapped = false ∧ (Hdr.ofBytes (leBytes 16 header.toNat)).mReq = true ∧
    pos.map (·.val) = some (Hdr.ofBytes (leBytes 16 header.toNat)).mPos ∧
    (Hdr.ofBytes (leBytes 16 header.toNat)).mWrite = true) ∧
  (let s : State := base.updTerm c (fun zz => { zz with cdr.running := true });
    (s.term c).cdr.running = true) ∧
  (let since : BitVec 32 := 44; let s : State := base.updTerm c (fun zz => { zz with appliedOnce := true });
    (s.term c).appliedOnce = true ∧ 44 * (s.term c).cycleLen ≤ since.toNat) ∧
  (let since : BitVec 32 := 5;
    ((s.term c).appliedOnce = false ∨ since.toNat < 44 * (s.term c).cycleLen)) ∧
  (let s : State := base.updTerm c fun zz => { zz with wait := setNth zz.wait k true, cdr := { zz.cdr with intlkTo := 900 } };
    nth false (s.term c).wait k = true ∧ nth false (s.term c).on (complement k) = false ∧ (s.term c).cdr.running = false ∧
    (s.term c).intlkMet leg = true ∧ leg.waited ≤ (s.term c).cdr.intlkTo) ∧
  ((nth false (s.term c).wait k = false ∨ nth false (s.term c).on (complement k) = true ∨ (s.term c).cdr.running = true ∨ (s.term c).intlkMet leg = false)) ∧
  (let leg : LegIn := { sinceOff := 1000, sinceApply := 900, offConf := false, vgMax := 0, vgFor := 0 };
    let s : State := base.updTerm c fun zz => { zz with wait := setNth zz.wait k true, cdr := { zz.cdr with intlkTo := 900 } };
    nth false (s.term c).wait k = true ∧ (s.term c).intlkMet leg = false ∧ (s.term c).cdr.intlkTo ≤ leg.waited) ∧
  (let sensors : SensorIn := { vcap := 3000, vpack := 2500, ipack := -8001, tempPack := 9, tempSw := 9, age := 3, vce := 1, sinceOn := 0, supplyLow := false };
    let k3 : Fin 8 := 2;
    bit ((s.term c).rawOf sensors) k3 = true ∧ bit (s.term c).cdr.fault k3 = false ∧ (s.term c).underTest k3 = false ∧
    (k3.val ∈ [0, 1, 2, 4, 7] ∨ (k3 = 3 ∧ (s.term c).cdr.ovAction = true))) ∧
  (let sensors : SensorIn := { vcap := 30001, vpack := 2500, ipack := 5, tempPack := 9, tempSw := 9, age := 3, vce := 1, sinceOn := 0, supplyLow := false };
    bit ((s.term c).rawOf sensors) 3 = true ∧ (s.term c).underTest 3 = false ∧ (s.term c).cdr.ovAction = false ∧
    (s.term c).latched = false) ∧
  (let k3 : Fin 8 := 1;
    bit ((s.term c).rawOf sensors) k3 = false) ∧
  (let s : State := base.updTerm c fun zz => { zz with wiredU := true, lockU := false };
    (s.term c).wiredOf up = true ∧ (s.term c).lockOf up = false) ∧
  (let s : State := base.updTerm c fun zz => { zz with wrapping := true, wiredU := true, lockU := true, lockD := true };
    (s.term c).lockOf up = true ∧ ((s.term c).wiredOf (!up) = false ∨ (s.term c).lockOf (!up) = true)) := by
  decide +kernel

theorem witness_CellStoreWrites :
  let req : Req := .core 0 false; let c : Fin 4096 := 1; let val : BitVec 64 := 5; let s : State := base;
  (let s : State := { s with pipe := { s.pipe with storeInit := false } };
    NoLateWrite s c ∧ clocked s = true ∧ powerState s ≤ 1 ∧ openTo s req (CELL_BASE + 0x80 * c + 0x18) = true ∧
    storeReady s = true ∧ (s.pipe.running = false ∨ (s.entry c).corrupt = true)) ∧
  (let s : State := { s with pipe := { s.pipe with storeInit := false } };
    NoLateWrite s c ∧ clocked s = true ∧ powerState s ≤ 1 ∧ openTo s req (CELL_BASE + 0x80 * c + 0x20) = true ∧
    storeReady s = true ∧ (s.pipe.running = false ∨ (s.entry c).corrupt = true)) ∧
  (let s : State := { s with pipe := { s.pipe with storeInit := false } };
    NoLateWrite s c ∧ clocked s = true ∧ powerState s ≤ 1 ∧ openTo s req (CELL_BASE + 0x80 * c + 0x28) = true ∧
    storeReady s = true ∧ (s.pipe.running = false ∨ (s.entry c).corrupt = true) ∧ val.toNat < 5 * 10 ^ 11) ∧
  (let s : State := { s with pipe := { s.pipe with storeInit := false } };
    NoLateWrite s c ∧ clocked s = true ∧ powerState s ≤ 1 ∧ openTo s req (CELL_BASE + 0x80 * c + 0x30) = true ∧
    storeReady s = true ∧ (s.pipe.running = false ∨ (s.entry c).corrupt = true) ∧ val.toNat < 5 * 10 ^ 11) ∧
  (let s : State := { s with pipe := { s.pipe with storeInit := false } };
    NoLateWrite s c ∧ clocked s = true ∧ powerState s ≤ 1 ∧ openTo s req (CELL_BASE + 0x80 * c + 0x38) = true ∧
    storeReady s = true ∧ (s.pipe.running = false ∨ (s.entry c).corrupt = true)) ∧
  (let s : State := { s with pipe := { s.pipe with storeInit := false } };
    NoLateWrite s c ∧ clocked s = true ∧ powerState s ≤ 1 ∧ openTo s req (CELL_BASE + 0x80 * c + 0x60) = true ∧
    storeReady s = true) ∧
  (let s : State := { s with pipe := { s.pipe with storeInit := false } };
    NoLateWrite s c ∧ clocked s = true ∧ powerState s ≤ 1 ∧ openTo s req (CELL_BASE + 0x80 * c + 0x64) = true ∧
    storeReady s = true) ∧
  (let s : State := { s with pipe := { s.pipe with storeInit := false } };
    NoLateWrite s c ∧ clocked s = true ∧ powerState s ≤ 1 ∧ openTo s req (CELL_BASE + 0x80 * c + 0x68) = true ∧
    storeReady s = true) ∧
  (let s : State := { s with pipe := { s.pipe with storeInit := false } };
    NoLateWrite s c ∧ clocked s = true ∧ powerState s ≤ 1 ∧ openTo s req (CELL_BASE + 0x80 * c + 0x6a) = true ∧
    storeReady s = true) ∧
  (let s : State := { s with pipe := { s.pipe with storeInit := false } };
    NoLateWrite s c ∧ clocked s = true ∧ powerState s ≤ 1 ∧ openTo s req (CELL_BASE + 0x80 * c + 0x6b) = true ∧
    storeReady s = true) ∧
  (let s : State := { s with pipe := { s.pipe with storeInit := false } };
    NoLateWrite s c ∧ clocked s = true ∧ powerState s ≤ 1 ∧ openTo s req (CELL_BASE + 0x80 * c + 0x6c) = true ∧
    storeReady s = true) ∧
  (let s : State := { s with pipe := { s.pipe with storeInit := false } };
    NoLateWrite s c ∧ clocked s = true ∧ powerState s ≤ 1 ∧ openTo s req (CELL_BASE + 0x80 * c + 0x6B) = true ∧
    storeReady s = true) ∧
  (let s : State := { ({ s with pipe := { s.pipe with storeInit := false } }) with pipe.running := true };
    clocked s = true ∧ powerState s ≤ 1 ∧ openTo s req (CELL_BASE + 0x80 * c + 0x18) = true ∧ storeReady s = true ∧
    s.pipe.running = true ∧ (s.entry c).corrupt = false) := by
  decide +kernel

theorem witness_GateCommands :
  let req : Req := .core 0 false; let k : Fin 8 := 1; let data : BitVec 32 := 5; let c : Fin 4096 := 1;
  let mask : BitVec 8 := 5; let s : State := base;
  (let s : State := { s with pipe := { s.pipe with storeInit := false } };
    Accepts s req .sys 0 0x100 1 1) ∧
  (clocked s = true ∧ s.pipe.storeInit = true) ∧
  (Accepts s req .arm k 0x004 data.toNat 0xFFFFFFFF ∧
    (s.pipe.running = true → s.pipe.cutoff = true → s.pipe.selDone = true ∨ s.fab ≠ cutoffEdge s)) ∧
  (let s : State := base.wr ARM_CTRL_MOD_SRC 1 k;
    Accepts s req .arm k 0x008 data.toNat 0xFFFFFFFF ∧
    (s.pipe.running = true → s.pipe.cutoff = true → s.pipe.selDone = true ∨ s.fab ≠ cutoffEdge s)) ∧
  (let s : State := s.wr SYS_GCS_CFG_STATE_LIMIT ((s.entry c).gate.misCnt);
    clocked s = true ∧ s.rd SYS_GCS_CFG_STATE_LIMIT ≤ (s.entry c).gate.misCnt) ∧
  (clocked s = true ∧ (s.entry c).gate.misCnt < s.rd SYS_GCS_CFG_STATE_LIMIT) ∧
  (Accepts s req .sys 0 0x210 mask.toNat 0xFF ∧ mask ≠ 0) ∧
  (Accepts s req .sys 0 0x210 0x100 0x100) ∧
  (let r : Fin 128 := 1;
    Accepts s req .sys 0 0x210 (2 ^ 16 + 2 ^ 17 * r) 0xFF0000) ∧
  (Accepts s req .sys 0 0x20C mask.toNat mask.toNat) ∧
  (Accepts s req .sys 0 0x20C 0x100 0x100) ∧
  (let i : Fin 4 := 1; let word : BitVec 32 := 5;
    Accepts s req .sys 0 (0x220 + 4 * i) word.toNat 0xFFFFFFFF) ∧
  (Accepts s req .sys 0 0x230 (c + 2 ^ 16) 0x30FFF) ∧
  (Accepts s req .sys 0 0x230 (c + 2 ^ 17) 0x30FFF) ∧
  (Reads s req .sys 0 0x240) ∧
  (let x : EvtRec := ⟨7, 3, false, 1, 5, 2⟩; let s : State := { base with gcs.latched := some x };
    Reads s req .sys 0 0x248 ∧ s.gcs.latched = some x) ∧
  (Reads s req .sys 0 0x248 ∧ s.gcs.latched = none) := by
  decide +kernel

theorem witness_LawEngine :
  let r : LawRun := ⟨3, 880, 5, 2, 990, 4, []⟩; let req : Req := .core 0 false; let s : State := base;
  (let k : Nat := 3; let go : Nat := 3; let core : Nat := 3; let q : List LawGo := [⟨4, 990, 1⟩];
    let s : State := { base with law.queue := ⟨k, go, core⟩ :: q };
    clocked s = true ∧ s.law.run = none ∧ s.law.queue = ⟨k, go, core⟩ :: q) ∧
  (let s : State := { base with law.run := some r };
    clocked s = true ∧ s.law.run = some r ∧ r.left ≠ 0 ∧ r.fly = [] ∧ lawBad s (0x20000 + r.next * 16) 4 = false ∧
    (slotType s (entryHalf s r.next 0)) = 0) ∧
  (let s : State := ({ ({ s with law := { s.law with initBusy := false } }) with law.run := some r }).wr LAW_TEST_CTRL_ACTIVE 0;
    let s : State := (match (execSlotInit req 0 5 (s.wr SYS_CLK_STATUS_LOCK 1) : Out) with | .next t => t | _ => s);
    let s : State := { s with law := { s.law with run := some r } };
    clocked s = true ∧ s.law.run = some r ∧ r.left ≠ 0 ∧ r.fly = [] ∧ lawBad s (0x20000 + r.next * 16) 4 = false ∧
    (slotType s (entryHalf s r.next 0)) ≠ 0 ∧ lawBad s (0x10000 + (entryHalf s r.next 0) * 0x40) 16 = false ∧
    s.on LAW_TEST_CTRL_ACTIVE = false ∧
    (∀ n ∈ [1, 2, 3, 4], entryHalf s r.next n = 0 ∨ lawBad s (4 * xfKey (entryHalf s r.next n)) 1 = false)) ∧
  (let r : LawRun := ⟨3, 880, 6, 0, 990, 4, [⟨5, 7, 5, 1003, false, some { words := [(3, 9)], out0 := 77 }, [], false, 0, 0, false, 0⟩]⟩;
    let f : LawFly := ⟨5, 7, 5, 1003, false, some { words := [(3, 9)], out0 := 77 }, [], false, 0, 0, false, 0⟩;
    let s : State := { base with law.run := some r };
    clocked s = true ∧ s.law.run = some r ∧ firstFly r.fly = some f ∧ f.skip = false ∧ f.test = false ∧ f.slot < 1024) ∧
  (let i : Fin 1024 := 9; let typ : BitVec 4 := 5; let s : State := { s with law := { s.law with initBusy := false } };
    Accepts s req .law 0 0x008 (i + 2 ^ 16 * typ.toNat) 0xF03FF) ∧
  (let s : State := { s with law := { s.law with initBusy := false } };
    Accepts s req .law 0 0x000 2 2) ∧
  (let s : State := { base with law.initBusy := true };
    clocked s = true ∧ s.law.initBusy = true) ∧
  (let s : State := { s with law := { s.law with initBusy := false } };
    Accepts s req .law 0 0x010 (2 ^ 24) (2 ^ 24)) ∧
  (let s : State := { s with law := { s.law with initBusy := false } };
    Accepts s req .law 0 0x010 (2 ^ 25) (2 ^ 25)) ∧
  (let s : State := ((base.wr LAW_TEST_CTRL_ACTIVE 1).wr LAW_TEST_COUNT_N 3).wr LAW_TEST_DONE_N_DONE 3;
    clocked s = true ∧ s.on LAW_TEST_CTRL_ACTIVE = true ∧ s.rd LAW_TEST_COUNT_N ≠ 0 ∧
    s.rd LAW_TEST_COUNT_N ≤ s.rd LAW_TEST_DONE_N_DONE) ∧
  (clocked s = true ∧
    (s.on LAW_TEST_CTRL_ACTIVE = false ∨ s.rd LAW_TEST_COUNT_N = 0 ∨ s.rd LAW_TEST_DONE_N_DONE < s.rd LAW_TEST_COUNT_N)) := by
  decide +kernel

theorem witness_SpireControl :
  let req : Req := .core 0 false; let c : Fin 16 := 1; let data : BitVec 32 := 5; let s : State := base;
  (let s : State := ((base.updCore c fun zz => { zz with initBusy := false }).wr SECURE_TCM_OK_CORES 2).wr SPIRE_ENTRY_ENTRY 64 c;
    let s : State := { s with sec := { s.sec with okEntry := s.sec.okEntry.set c 256 } };
    Accepts s req .spire c 0x000 1 1) ∧
  (Accepts s req .spire c 0x000 2 2 ∧ s.on SPIRE_STATUS_HALTED c = true) ∧
  (let s : State := (base.wr SPIRE_STATUS_HALTED 0 c).updCore c (fun zz => { zz with wait := some .fence });
    Accepts s req .spire c 0x000 2 2 ∧ s.on SPIRE_STATUS_HALTED c = false ∧ (s.core c).wait = some .fence) ∧
  (Accepts s req .spire c 0x000 4 4) ∧
  (clocked s = true ∧ (s.core c).initBusy = true) ∧
  (let s : State := base.updCore c (fun zz => { zz with initBusy := false });
    clocked s = true ∧ (s.core c).initBusy = false) ∧
  (Accepts s req .spire c 0x014 data.toNat 0xFFFFFFFF ∧ Memory.wf (s.core c).tcm = true) ∧
  (Reads s req .spire c 0x014 ∧ (s.core c).tcmFails (s.rd SPIRE_LOAD_ADDR_ADDR c * 4) 4 = false) ∧
  (Accepts s req .spire c 0x01C data.toNat 0xFFFFFFFF) := by
  decide +kernel

theorem witness_SpireControl_a :
  let req : Req := .core 0 false; let c : Fin 16 := 1; let s : State := base
  let s : State := base.wr SPIRE_STATUS_HALTED 0 c;
    Accepts s req .spire c 0x000 2 2 ∧ s.on SPIRE_STATUS_HALTED c = false ∧
    (∀ l b, (s.core c).wait ≠ some (.load l) ∧ (s.core c).wait ≠ some (.store b) ∧ (s.core c).wait ≠ some .fence) :=
  ⟨by decide +kernel, by decide +kernel, fun _ _ => ⟨ne_some_of_none (by decide +kernel) _, ne_some_of_none (by decide +kernel) _, ne_some_of_none (by decide +kernel) _⟩⟩

theorem witness_LedgerPages :
  let req : Req := .core 0 false; let n : Fin 256 := 1; let set : Bool := true; let post : List Page := [];
  let s : State := base;
  (Accepts s req .lease n 0x000 (b2n set) 1) ∧
  (Accepts s req .lease n 0x000 (b2n set * 2) 2) ∧
  (let s : State := base.wr LEASE_CTRL_EN 1 n;
    Accepts s req .lease n 0x000 8 8) ∧
  (Accepts s req .lease n 0x000 16 16) ∧
  (clocked s = true ∧ (s.on LEASE_STATUS_OPEN n = false ∨ s.pipe.running = false ∨ s.fab ≠ s.pipe.tickEdge)) ∧
  (let s : State := { base with pipe.running := true };
    let s : State := (({ s with fab := s.pipe.tickEdge }).wr CAMPANILE_STATUS_LOST 0).wr SYS_LDG_CTRL_EN 1;
    let s : State := ((s.wr LEASE_STATUS_OPEN 1 n).wr LEASE_CTRL_CLOSE_NOW 1 n).wr JOURNAL_STATUS_READY 1;
    clocked s = true ∧ s.pipe.running = true ∧ s.fab = s.pipe.tickEdge ∧ closeDue s n s.tickNs = true ∧
    s.on CAMPANILE_STATUS_LOST = false ∧ regionShort s (capturedCells s n).length = false ∧ s.on SYS_LDG_CTRL_EN = true) ∧
  (let s : State := { base with pipe.running := true };
    let s : State := (({ s with fab := s.pipe.tickEdge }).wr LEASE_STATUS_OPEN 1 n).wr LEASE_CTRL_CLOSE_NOW 1 n;
    clocked s = true ∧ s.pipe.running = true ∧ s.fab = s.pipe.tickEdge ∧ closeDue s n s.tickNs = true ∧
    (s.on CAMPANILE_STATUS_LOST = true ∨ regionShort s (capturedCells s n).length = true ∨ s.on SYS_LDG_CTRL_EN = false)) ∧
  (let pre : List Page := [];
    let p : Page := { ctx := 4, seq := 2, body := [1, 2], table := [], issued := true, signed := false };
    let s : State := { base with ldg.pages := pre ++ p :: post };
    clocked s = true ∧ s.ldg.pages = pre ++ p :: post ∧ (∀ q ∈ pre, (q.issued && !q.signed) = false) ∧ p.issued = true ∧
    p.signed = false) ∧
  (clocked s = true ∧ (∀ q ∈ s.ldg.pages, (q.issued && !q.signed) = false)) ∧
  (let pre : List Page := [{ ctx := 3, seq := 2, body := [1, 2], table := [], issued := true, signed := true, lastOffer := some 3000 }];
    let e : Nat := 2000;
    let p : Page := { ctx := 4, seq := 2, body := [1, 2], table := [], issued := true, signed := true, lastOffer := some e };
    let s : State := { (base.wr SYS_LDG_CTRL_EN 1) with ldg.pages := pre ++ p :: post };
    let s : State := { s with ldg := { s.ldg with pages := pre ++ p :: [] } };
    let s : State := { (s.wr SYS_LDG_CFG_RESEND_S 1) with time := 3000000000 * 2 ^ 32 };
    clocked s = true ∧ holdsToken s = true ∧ s.on SYS_LDG_CTRL_EN = true ∧ s.ldg.pages = pre ++ p :: post ∧
    (p.issued && p.signed) = true ∧ p.lastOffer = some e ∧ s.reached (e + s.rd SYS_LDG_CFG_RESEND_S * SEC) = true ∧
    (∀ q ∈ pre, (q.ctx ≠ p.ctx ∨ q.seq ≠ p.seq) ∧ ∀ o ∈ q.lastOffer, e < o) ∧ (∀ q ∈ post, ∀ o ∈ q.lastOffer, e ≤ o)) ∧
  (clocked s = true ∧ (holdsToken s = false ∨ s.on SYS_LDG_CTRL_EN = false)) ∧
  (let data : BitVec 32 := 5; let s : State := base.wr TWIN_STATUS_STATE 2;
    Accepts s req .sys 0 0x314 data.toNat 0xFFFFFFFF ∧ holdsToken s = false) ∧
  (let data : BitVec 32 := 3; let s : State := (base.wr JOURNAL_STATUS_READY 1).wr JOURNAL_CTRL_EN 1;
    Accepts s req .sys 0 0x314 data.toNat 0xFFFFFFFF ∧ holdsToken s = true) ∧
  (let s : State := base.wr SYS_LDG_ACK_RSP_VALID 1;
    Reads s req .sys 0 0x320 ∧ s.on SYS_LDG_ACK_RSP_VALID = true) ∧
  (Reads s req .sys 0 0x320 ∧ s.on SYS_LDG_ACK_RSP_VALID = false) := by
  decide +kernel

theorem witness_Checkpoints :
  let req : Req := .core 0 false; let s : State := base;
  (let s : State := { (({ base with pipe.running := true }).wr SYS_LDG_CFG_CKPT_S 1) with time := 3000000000 * 2 ^ 32 };
    clocked s = true ∧ s.reached (s.ldg.ckptNs + s.rd SYS_LDG_CFG_CKPT_S * SEC) = true ∧ ckptBusy s = false ∧
    s.pipe.running = true) ∧
  (let s : State := { (base.wr SYS_LDG_CFG_CKPT_S 1) with time := 3000000000 * 2 ^ 32 };
    clocked s = true ∧ s.reached (s.ldg.ckptNs + s.rd SYS_LDG_CFG_CKPT_S * SEC) = true ∧ ckptBusy s = false ∧
    s.pipe.running = false) ∧
  (let s : State := base.wr SYS_LDG_CFG_CKPT_S 1;
    let s : State := { ({ s with ldg := { s.ldg with ckptBusy := true } }) with time := 3000000000 * 2 ^ 32 };
    clocked s = true ∧ s.reached (s.ldg.ckptNs + s.rd SYS_LDG_CFG_CKPT_S * SEC) = true ∧ ckptBusy s = true) ∧
  (let s : State := { base with pipe.running := true };
    Accepts s req .sys 0 0x300 4 4 ∧ s.pipe.running = true) ∧
  (Accepts s req .sys 0 0x300 4 4 ∧ s.pipe.running = false) ∧
  (let s : State := { base with ldg.ckptBusy := true };
    clocked s = true ∧ s.ldg.ckptBusy = true ∧ Memory.wf s.bytes = true ∧ s.on SCAN_STATUS_BUSY = false) ∧
  (let s : State := { base with ldg.ckptBusy := true };
    clocked s = true ∧ s.ldg.ckptBusy = true) ∧
  (clocked s = true ∧ s.ldg.ckptBusy = false) ∧
  (let s : State := { s with pipe := { s.pipe with running := false, storeInit := false } };
    Accepts s req .sys 0 0x300 2 2) ∧
  (let s : State := { base with ldg.restoring := true };
    clocked s = true ∧ s.ldg.restoring = true ∧ newestGen (mramScan s (s.rd SYS_LDG_CKPT_BASE_ADDR) 0x140000) = none ∧
    s.rd SYS_LDG_ERR_CODE = 0) ∧
  (clocked s = true ∧ s.ldg.restoring = false) := by
  decide +kernel

theorem witness_MemoryEngines :
  let i : Fin 3 := 0; let r := 32; let req : Req := .core 0 false; let c : Fin 2 := 1; let s : State := base;
  (clocked s = true ∧ scrubOn s i = false) ∧
  (let s : State := (base.wr MEMC_CTRL_SCRUB_EN 1 0).wr MEMC_CTRL_EN 1 0;
    let s : State := { s with mems := s.mems.set 0 { s.mems.get {} 0 with line := 7 } }; let s : State := s;
    let s : State := s.setRes 32 { s.res 32 with busyEdge := 900000 };
    clocked s = true ∧ scrubOn s i = true ∧ (s.mems.get {} i).line < scrubLines i ∧
    resourceOf ((scrubAddr i (s.mems.get {} i).line) * 64) = some r ∧
    ((s.res r).waiting ≠ [] ∨ (s.res r).holder ≠ none ∨ s.fab + (if i.val < 2 then s.rd MEMC_SCRUB_INT i else s.rd SYS_CUP_SCRUB_INT) < (s.res r).busyEdge) ∧
    presented (s.res r) (scrubReq i) = false) ∧
  (let s : State := (base.wr MEMC_CTRL_SCRUB_EN 1 0).wr MEMC_CTRL_EN 1 0;
    let s : State := { s with mems := s.mems.set 0 { s.mems.get {} 0 with line := 7 } };
    clocked s = true ∧ scrubOn s i = true ∧ (s.mems.get {} i).line < scrubLines i ∧
    resourceOf ((scrubAddr i (s.mems.get {} i).line) * 64) = some r ∧ (s.res r).waiting = [] ∧ (s.res r).holder = none ∧
    (s.res r).busyEdge ≤ s.fab + (if i.val < 2 then s.rd MEMC_SCRUB_INT i else s.rd SYS_CUP_SCRUB_INT) ∧
    (chFail s ((scrubAddr i (s.mems.get {} i).line) * 64) = true ∨ ((i.val < 2 → (s.mems.get {} i).caErrs < 2) ∧ lineFixes s (scrubAddr i (s.mems.get {} i).line) = some []))) ∧
  (let s : State := (base.wr MEMC_CTRL_SCRUB_EN 1 0).wr MEMC_CTRL_EN 1 0;
    let s : State := { s with mems := s.mems.set 0 { s.mems.get {} 0 with line := 7 } }; let l := scrubAddr 0 7;
    let s : State := { s with bytes := memPutBytes [] (l * 64 + 9) [0xAA], lineChk := [(l, checkSymbols (List.replicate 64 0))] };
    let fixes := (lineFixes s l).getD [];
    clocked s = true ∧ scrubOn s i = true ∧ (s.mems.get {} i).line < scrubLines i ∧
    resourceOf ((scrubAddr i (s.mems.get {} i).line) * 64) = some r ∧ (s.res r).waiting = [] ∧ (s.res r).holder = none ∧
    (s.res r).busyEdge ≤ s.fab + (if i.val < 2 then s.rd MEMC_SCRUB_INT i else s.rd SYS_CUP_SCRUB_INT) ∧
    chFail s ((scrubAddr i (s.mems.get {} i).line) * 64) = false ∧ (i.val < 2 → (s.mems.get {} i).caErrs < 2) ∧
    lineFixes s (scrubAddr i (s.mems.get {} i).line) = some fixes ∧ fixes ≠ [] ∧ Memory.wf s.bytes = true) ∧
  (let s : State := (base.wr MEMC_CTRL_SCRUB_EN 1 0).wr MEMC_CTRL_EN 1 0;
    let s : State := { s with mems := s.mems.set 0 { s.mems.get {} 0 with line := 7 } };
    let s : State := { s with lineChk := [(scrubAddr 0 7, [])], bytes := [] };
    clocked s = true ∧ scrubOn s i = true ∧ (s.mems.get {} i).line < scrubLines i ∧
    resourceOf ((scrubAddr i (s.mems.get {} i).line) * 64) = some r ∧ (s.res r).waiting = [] ∧ (s.res r).holder = none ∧
    (s.res r).busyEdge ≤ s.fab + (if i.val < 2 then s.rd MEMC_SCRUB_INT i else s.rd SYS_CUP_SCRUB_INT) ∧
    chFail s ((scrubAddr i (s.mems.get {} i).line) * 64) = false ∧ lineFixes s (scrubAddr i (s.mems.get {} i).line) = none) ∧
  (Accepts s req .memc c 0x000 8 8) ∧
  (Accepts s req .memc c 0x000 4 4) ∧
  (let s : State := { s with mems := s.mems.set c { s.mems.get {} c with initBusy := true } };
    clocked s = true ∧ (s.mems.get {} c).initBusy = true) ∧
  (clocked s = true ∧ (s.mems.get {} c).initBusy = false) ∧
  (let s : State := base.wr MEMC_CTRL_EN 1 c;
    clocked s = true ∧ s.on MEMC_CTRL_EN c = true) ∧
  (clocked s = true ∧ s.on MEMC_CTRL_EN c = false) := by
  decide +kernel

theorem witness_ScanEngine :
  let req : Req := .core 0 false; let s : State := base;
  (let s : State := (base.wr SCAN_LEN_BYTES 64).wr SCAN_ADDR_ADDR 0x800000000;
    Accepts s req .scan 0 0x000 1 1) ∧
  (let s : State := base.wr SCAN_STATUS_BUSY 1;
    Accepts s req .scan 0 0x000 2 2 ∧ s.on SCAN_STATUS_BUSY = true) ∧
  (Accepts s req .scan 0 0x000 2 2 ∧ s.on SCAN_STATUS_BUSY = false) ∧
  (clocked s = true ∧ s.on SCAN_STATUS_BUSY = false) := by
  decide +kernel

theorem witness_ScanEngine_a :
  let s : State := base
  let s : State := base.wr SCAN_STATUS_BUSY 1; let s : State := ({ s with scan.total := (s.scan.left) }).wr MEMC_CTRL_EN 1 0;
    let s : State := { s with scan := { s.scan with addr := 0x800000000, left := 2, total := 256 }, bytes := [(0x800000001, 7)] };
    clocked s = true ∧ s.on SCAN_STATUS_BUSY = true ∧ s.scan.left ≤ s.scan.total ∧ (∀ c : Nat, (s.mems.get {} c).caErrs < 2) ∧
    (∀ a, s.scan.addr ≤ a → a < s.scan.addr + s.scan.left → memOf a ≠ none ∧ chOff s a = false ∧ chFail s a = false ∧ lineFixes s (lineOf a) = some []) :=
  ⟨by decide +kernel, by decide +kernel, by decide +kernel, quiet (by decide +kernel), ball_range (by decide +kernel)⟩

theorem witness_ScanEngine_b :
  let s : State := base
  let l : Nat := 0x20000002; let s : State := base.wr SCAN_STATUS_BUSY 1;
    let s : State := ({ s with scan.total := (s.scan.left) }).wr MEMC_CTRL_EN 1 0;
    let s : State := { s with scan := { s.scan with addr := 0x80000007E, left := 200, total := 256 }, lineChk := [(0x20000002, [])] };
    clocked s = true ∧ s.on SCAN_STATUS_BUSY = true ∧ s.scan.left ≤ s.scan.total ∧ s.scan.addr / 64 ≤ l ∧
    l * 64 < s.scan.addr + s.scan.left ∧ uncorrectable s l = true ∧ (∀ c : Nat, (s.mems.get {} c).caErrs < 2) ∧
    (∀ a, s.scan.addr ≤ a → a < l * 64 → memOf a ≠ none ∧ chOff s a = false ∧ chFail s a = false ∧ lineFixes s (lineOf a) = some []) :=
  ⟨by decide +kernel, by decide +kernel, by decide +kernel, by decide +kernel, by decide +kernel, by decide +kernel, quiet (by decide +kernel), ball_range (by decide +kernel)⟩

theorem witness_ScanEngine_c :
  let s : State := base
  let l : Nat := 3; let s : State := (base.wr SCAN_STATUS_BUSY 1).wr MEMC_CTRL_EN 1 0;
    let s : State := { s with scan := { s.scan with addr := 0x800000000, left := 2, total := 256 } };
    clocked s = true ∧ s.on SCAN_STATUS_BUSY = true ∧
    (∀ l, s.scan.addr / 64 ≤ l → l * 64 < s.scan.addr + s.scan.left → (chFail s (l * 64) || uncorrectable s l) = false) :=
  ⟨by decide +kernel, by decide +kernel, fun l hl hu => ball_range (lo := 0x20000000) (hi := 0x20000001)
    (p := fun l => (chFail _ (l * 64) || uncorrectable _ l) = false) (by decide +kernel) l hl (by have h : l * 64 < 0x800000002 := hu; omega)⟩

theorem witness_JournalCommands :
  let r : Fin 3 := 1;
  let pre : List JrnRec := [⟨1, 8, 5, 0, 2, 100, [1, 2, 3], 0, 0, 16, 900, .page 3 4, true, false, false, true, 0, false, false, false⟩];
  let post : List JrnRec := [];
  let x : JrnRec := ⟨1, 9, 5, 0, 2, 100, [1, 2, 3], 16, 0, 16, 900, .page 3 4, true, false, false, false, 0, false, false, false⟩;
  let jseq : BitVec 64 := 5; let payload : List (BitVec 8) := []; let req : Req := .core 0 false;
  let addr : BitVec 40 := 0x10A90004; let s : State := base;
  (let x : JrnRec := ⟨1, 9, 5, 0, 2, 100, [1, 2, 3], 16, 0, 16, 900, .page 3 4, false, false, false, false, 0, false, false, false⟩;
    let s : State := ({ base with jrn.recs := pre ++ x :: post }).wr SCAN_STATUS_BUSY 0;
    let post : List JrnRec := [⟨2, 9, 5, 0, 2, 100, [1, 2, 3], 16, 0, 16, 900, .page 3 4, false, false, false, false, 0, false, false, false⟩];
    let s : State := s; let s : State := { s with jrn := { s.jrn with recs := pre ++ x :: post } };
    clocked s = true ∧ s.jrn.recs = pre ++ x :: post ∧ x.region = r.val ∧ x.trailer = false ∧ x.foreign = false ∧
    (∀ y ∈ pre, y.region = r.val → y.trailer = true ∧ y.localDone = true) ∧
    (∀ y ∈ pre ++ post, y.region = r.val → y.jseq ≠ x.jseq) ∧ x.localDone = false ∧ s.on SCAN_STATUS_BUSY = false ∧
    Memory.wf s.bytes = true) ∧
  (clocked s = true ∧ (∀ y ∈ s.jrn.recs, y.region = r.val → (y.localDone || y.foreign) = true)) ∧
  (let s : State := { base with jrn.recs := pre ++ x :: post };
    let post : List JrnRec := [⟨2, 9, 5, 0, 2, 100, [1, 2, 3], 16, 0, 16, 900, .page 3 4, false, false, false, false, 0, false, false, false⟩];
    let s : State := s; let s : State := { s with jrn := { s.jrn with recs := pre ++ x :: post } };
    clocked s = true ∧ s.jrn.recs = pre ++ x :: post ∧ x.region = r.val ∧ x.trailer = false ∧ x.foreign = false ∧
    (∀ y ∈ pre, y.region = r.val → y.trailer = true ∧ y.localDone = true) ∧
    (∀ y ∈ pre ++ post, y.region = r.val → y.jseq ≠ x.jseq) ∧ x.jseq < 2 ^ 64) ∧
  (let s : State := { base with jrn.recs := pre ++ x :: post };
    let post : List JrnRec := [⟨2, 9, 5, 0, 2, 100, [1, 2, 3], 16, 0, 16, 900, .page 3 4, false, false, false, false, 0, false, false, false⟩];
    let s : State := s;
    let s : State := (({ s with jrn := { s.jrn with recs := pre ++ x :: post } }).wr TWIN_STATUS_STATE 3).wr JOURNAL_CFG_ACK_TO 300;
    clocked s = true ∧ s.jrn.recs = pre ++ x :: post ∧ x.region = r.val ∧ x.trailer = false ∧ x.foreign = false ∧
    (∀ y ∈ pre, y.region = r.val → y.trailer = true ∧ y.localDone = true) ∧
    (∀ y ∈ pre ++ post, y.region = r.val → y.jseq ≠ x.jseq) ∧ x.jseq < 2 ^ 64 ∧ x.remote = false ∧ x.state = 0 ∧
    needsRemote s = true) ∧
  (clocked s = true ∧ needsRemote s = false) ∧
  (let x : JrnRec := ⟨1, 9, 5, 0, 2, 100, [1, 2, 3], 16, 0, 16, 900, .page 3 4, true, false, false, true, 0, false, false, false⟩;
    let s : State := { s with jrn := { s.jrn with recs := [⟨1, 8, 5, 0, 2, 100, [1, 2, 3], 0, 0, 16, 900, .page 3 4, true, false, false, true, 1, false, false, false⟩, x] } };
    clocked s = true ∧ trailerDue s r = some x ∧ (∀ z ∈ s.jrn.recs, z.region = r.val → z.jseq = x.jseq → z = x) ∧
    Memory.wf s.bytes = true) ∧
  (clocked s = true ∧ trailerDue s r = none) ∧
  (let x : JrnRec := ⟨1, 5, 5, 0, 2, 100, [1, 2, 3], 16, 0, 16, 900, .page 3 4, true, false, false, false, 0, false, false, true⟩;
    let s : State := { s with jrn := { s.jrn with recs := [⟨1, 8, 5, 0, 2, 100, [1, 2, 3], 0, 0, 16, 900, .page 3 4, true, false, false, true, 1, false, false, false⟩, x] } };
    clocked s = true ∧ firstRec s r (fun z => z.jseq == jseq.toNat && z.foreign && z.state == 0) = some x ∧
    (∀ z ∈ s.jrn.recs, z.region = r.val → z.jseq = jseq.toNat → z = x)) ∧
  (clocked s = true ∧ firstRec s r (fun z => z.jseq == jseq.toNat && z.foreign && z.state == 0) = none) ∧
  (let epoch : BitVec 32 := 0xFFFF;
    clocked s = true ∧
    (if (sx 16 (uz 16 ((epoch.toNat : Int) - s.rd TWIN_EPOCH_EPOCH)) < 0) then E_TOKEN else if jseq.toNat ≠ s.rd JOURNAL_REGION_NEXT_JSEQ 0 r then E_SEQ else if regionFits s r (recordSpan r (nats payload)) = false then E_FULL else OK) ≠ OK) ∧
  (let epoch : BitVec 32 := 0; let jseq : BitVec 64 := BitVec.ofNat 64 (s.rd JOURNAL_REGION_NEXT_JSEQ 0 r);
    clocked s = true ∧
    (if (sx 16 (uz 16 ((epoch.toNat : Int) - s.rd TWIN_EPOCH_EPOCH)) < 0) then E_TOKEN else if jseq.toNat ≠ s.rd JOURNAL_REGION_NEXT_JSEQ 0 r then E_SEQ else if regionFits s r (recordSpan r (nats payload)) = false then E_FULL else OK) = OK ∧
    (∀ z ∈ s.jrn.recs, z.region = r.val → z.jseq ≠ jseq.toNat)) ∧
  (let s : State := { s with jrn := { s.jrn with recovering := false } };
    Accepts s req .journal 0 0x000 4 4) ∧
  (let s : State := { base with jrn.recovering := false };
    clocked s = true ∧ s.jrn.recovering = false) ∧
  (clocked s = true ∧ s.jrn.recovering = true) ∧
  (Accepts s req .journal 0 0x000 2 2 ∧ s.on SCAN_STATUS_BUSY = false) ∧
  (clocked s = true ∧ inUser addr.toNat = true ∧ powered s .mem = true ∧ openTo s req addr.toNat = true ∧
    lineFixes s (lineOf addr.toNat) = some [] ∧ s.on SCAN_STATUS_BUSY = false ∧ Memory.wf s.bytes = true) ∧
  (let s : State := { base with lineChk := [(lineOf 0x10A90004, [])] };
    clocked s = true ∧ inUser addr.toNat = true ∧ powered s .mem = true ∧ openTo s req addr.toNat = true ∧
    uncorrectable s (lineOf addr.toNat) = true ∧ s.on SCAN_STATUS_BUSY = false) := by
  decide +kernel

theorem witness_BelfryArbitration :
  let r : Fin 34 := 32; let q : Fin 32 := 5; let addr : BitVec 40 := 0x800001040; let req : Req := .core 0 false;
  let total : BitVec 32 := 5; let s : State := base;
  (let r : Fin 34 := 33;
    clocked s = true ∧ resourceOf addr.toNat = some r.val ∧ mayPresent s r q = true) ∧
  (let s : State := s.setRes 32 { s.res 32 with waiting := [{ req := 5, edge := 900, total := 4 }] };
    clocked s = true ∧ (∀ p ∈ resourceOf addr.toNat, mayPresent s p q = false)) ∧
  (let h : BelReq := { req := 22, edge := 900, total := 20, limit := 9, burst := 3, done := 3 };
    let s : State := s.setRes r { s.res r with waiting := [{ req := 25, edge := 900, total := 7 }], holder := some h, busyEdge := 1003, last := [(0, 20), (2, 9)] };
    clocked s = true ∧ (s.res r).holder = some h ∧ h.done + 1 < h.total ∧ h.burst + 1 < h.limit ∧
    (∀ w ∈ (s.res r).waiting, levelOf s w.req ≤ levelOf s h.req)) ∧
  (let h : BelReq := { req := 22, edge := 900, total := 4, limit := 4, burst := 3, done := 3 };
    clocked s = true ∧
    (∀ h ∈ (s.res r).holder, h.total ≤ h.done + 1 ∨ h.limit ≤ h.burst + 1 ∨ ∃ w ∈ (s.res r).waiting, levelOf s h.req < levelOf s w.req) ∧
    ((s.res r).waiting ++ (match (s.res r).holder with | some h => if h.done + 1 < h.total then [{ h with done := h.done + 1, burst := 0, edge := max s.fab (s.res r).busyEdge }] else [] | none => [])) = []) ∧
  (let h : BelReq := { req := 22, edge := 900, total := 20, limit := 4, burst := 3, done := 3 };
    let s : State := s.setRes r { s.res r with waiting := [{ req := 25, edge := 900, total := 7 }, { req := 21, edge := 850, total := 7 }, { req := 3, edge := 900, total := 1 }], holder := some h, busyEdge := 1003, last := [(0, 20), (2, 9)] };
    clocked s = true ∧
    (∀ h ∈ (s.res r).holder, h.total ≤ h.done + 1 ∨ h.limit ≤ h.burst + 1 ∨ ∃ w ∈ (s.res r).waiting, levelOf s h.req < levelOf s w.req) ∧
    ((s.res r).waiting ++ (match (s.res r).holder with | some h => if h.done + 1 < h.total then [{ h with done := h.done + 1, burst := 0, edge := max s.fab (s.res r).busyEdge }] else [] | none => [])) ≠ []) ∧
  (let r : Fin 34 := 1; let q : Fin 32 := 22; let h : BelReq := { req := 22, edge := 900, total := 4, granted := 1000 };
    let s : State := s.setRes r { s.res r with waiting := [{ req := 25, edge := 900, total := 7 }], holder := some h, busyEdge := 1003, last := [(0, 20), (2, 9)] };
    clocked s = true ∧ (s.res r).holder = some h ∧ h.req = q ∧ h.burst = 0 ∧ s.fab ≤ h.granted) ∧
  (let r : Fin 34 := 1; let q : Fin 32 := 22; let h : BelReq := { req := 22, edge := 900, total := 4, granted := 900 };
    let s : State := s.setRes r { s.res r with waiting := [{ req := 25, edge := 900, total := 7 }], holder := some h, busyEdge := 1003, last := [(0, 20), (2, 9)] };
    clocked s = true ∧ (s.res r).holder = some h ∧ h.req = q ∧ (0 < h.burst ∨ h.granted < s.fab)) ∧
  (let r : Fin 34 := 1; let q : Fin 32 := 25; let h : BelReq := { req := 1, edge := 900, total := 4 };
    clocked s = true ∧ (∀ h ∈ (s.res r).holder, h.req ≠ q)) ∧
  (let q : Fin 32 := 1;
    clocked s = true ∧ (s.rd BELFRY_CFG_STARVE_LIM = 0 ∨ (∀ p : Fin 34, ∀ w ∈ (s.res p).waiting, w.req ≠ q))) ∧
  (let q : Fin 32 := 25;
    let s : State := s.setRes 32 { s.res 32 with waiting := [{ req := 25, edge := 900, total := 4 }, { req := 22, edge := 700, total := 4 }] };
    clocked s = true ∧ s.rd BELFRY_CFG_STARVE_LIM ≠ 0 ∧ (∃ w ∈ (s.res r).waiting, w.req = q)) ∧
  (let q : Fin 32 := 1; let level : BitVec 3 := 5;
    Accepts s req .belfry 0 (0x40 + 4 * q) level.toNat 7) := by
  decide +kernel

theorem witness_LockTokens :
  let req : Req := .core 0 false; let k : Fin 64 := 1; let s : State := base;
  (clocked s = true) ∧
  (Accepts s req .belfry 0 0x100 (k + 2 ^ 8 * 1) 0x33F ∧ s.on BELFRY_TOK_STATE_HELD 0 k = false ∧ s.bel.waiters.get [] k = []) ∧
  (let s : State := base.wr BELFRY_TOK_STATE_HELD 1 0 k;
    Accepts s req .belfry 0 0x100 (k + 2 ^ 8 * 1) 0x33F ∧
    (s.on BELFRY_TOK_STATE_HELD 0 k = true ∨ s.bel.waiters.get [] k ≠ [])) ∧
  (let s : State := giveToken base k 16;
    Accepts s req .belfry 0 0x100 (k + 2 ^ 8 * 2) 0x33F ∧ holds s k 16 = true) ∧
  (let s : State := giveToken base k 16;
    Accepts s req .belfry 0 0x100 (k + 2 ^ 8 * 3) 0x33F ∧ holds s k 16 = true) ∧
  (Accepts s req .belfry 0 0x100 (k + 2 ^ 8 * 2) 0x33F ∧ holds s k 16 = false) ∧
  (Accepts s req .belfry 0 0x100 (k + 2 ^ 8 * 3) 0x33F ∧ holds s k 16 = false) := by
  decide +kernel

theorem witness_SpillQueues :
  let req : Req := .core 0 false; let k : Fin 32 := 1; let hi : BitVec 32 := 5; let e : Nat := 3;
  let g : Gran := ⟨0, List.replicate 7 ⟨7, 8, true, true⟩⟩; let gs : List Gran := []; let s : State := base;
  (let s : State := ((s.wr QUEUE_CTRL_EN 1 k).wr QUEUE_CFG_CONS ((reqCode req).getD 0) k).wr QUEUE_CFG_PROD ((reqCode req).getD 0) k;
    let s : State := s.setQueue k { s.queue k with head := [⟨5, 8, false, true⟩, ⟨6, 8, true, false⟩], openLen := 0, pushTag := 0x18, pushLo := 99, visible := 1, aborted := s.fab };
    Accepts s req .queue k 0x038 hi.toNat 0xFFFFFFFF ∧ bit (s.queue k).pushTag 4 = true ∧ (s.queue k).openLen = 0 ∧
    (s.queue k).aborted = s.fab ∧ 0 < s.fab) ∧
  (let w : QWord := ⟨5, 8, false, true⟩;
    let s : State := s.setQueue k { s.queue k with head := [⟨5, 8, false, true⟩, ⟨6, 8, true, false⟩], visible := 1 };
    Reads s req .queue k 0x040 ∧ reqCode req = some (s.rd QUEUE_CFG_CONS k) ∧ poppable s k = some w) ∧
  (Reads s req .queue k 0x040 ∧ reqCode req = some (s.rd QUEUE_CFG_CONS k) ∧ poppable s k = none) ∧
  (Reads s req .queue k 0x048 ∧ reqCode req = some (s.rd QUEUE_CFG_CONS k) ∧ (s.queue k).latched = none) ∧
  (let s : State := base.wr QUEUE_CFG_CONS 9 k;
    Reads s req .queue k 0x040 ∧ reqCode req ≠ some (s.rd QUEUE_CFG_CONS k) ∧ s.rd QUEUE_ERR_CODE k = 0) ∧
  (clocked s = true ∧ ((s.queue k).since = none ∨ s.rd QUEUE_CFG_FLUSH_TO k = 0)) ∧
  (Accepts s req .queue k 0x000 4 4) ∧
  (let es : List Nat := []; let s : State := s.setQueue k { s.queue k with soon := e :: es };
    clocked s = true ∧ (s.queue k).soon = e :: es) ∧
  (clocked s = true ∧ (s.queue k).soon = []) ∧
  (clocked s = true ∧ ((s.queue k).ring = [] ∨ 56 < (s.queue k).head.length + 7)) := by
  decide +kernel

theorem witness_SpillQueues_a :
  let req : Req := .core 0 false; let k : Fin 32 := 1; let hi : BitVec 32 := 5; let s : State := base
  let s : State := ((s.wr QUEUE_CTRL_EN 1 k).wr QUEUE_CFG_CONS ((reqCode req).getD 0) k).wr QUEUE_CFG_PROD ((reqCode req).getD 0) k;
    let s : State := s.setQueue k { s.queue k with head := [⟨5, 8, false, true⟩, ⟨6, 8, true, false⟩], openLen := 0, pushTag := 0x13, pushLo := 99, visible := 1 };
    Accepts s req .queue k 0x038 hi.toNat 0xFFFFFFFF ∧ Undisturbed s k ∧ (s.queue k).aborted ≠ s.fab :=
  ⟨by decide +kernel, ⟨by decide +kernel, by decide +kernel, quiet (by decide +kernel)⟩, by decide +kernel⟩

theorem witness_SpillQueues_b :
  let req : Req := .core 0 false; let k : Fin 32 := 1; let s : State := base
  let w : QWord := ⟨5, 8, true, true⟩; let ws : List QWord := [];
    let s : State := s.setQueue k { s.queue k with latched := some w };
    let s : State := s.setQueue k { s.queue k with head := w :: ws };
    Reads s req .queue k 0x048 ∧ reqCode req = some (s.rd QUEUE_CFG_CONS k) ∧ Undisturbed s k ∧ (s.queue k).latched = some w ∧
    (s.queue k).head = w :: ws :=
  ⟨by decide +kernel, by decide +kernel, ⟨by decide +kernel, by decide +kernel, quiet (by decide +kernel)⟩, by decide +kernel, by decide +kernel⟩

theorem witness_SpillQueues_c :
  let req : Req := .core 0 false; let k : Fin 32 := 1; let s : State := base
  let s : State := s.setQueue k { s.queue k with head := [⟨5, 8, false, true⟩, ⟨6, 8, true, false⟩, ⟨7, 8, false, true⟩], tail := [], openLen := 1, visible := 1 };
    Accepts s req .queue k 0x000 8 8 ∧ Undisturbed s k :=
  ⟨by decide +kernel, ⟨by decide +kernel, by decide +kernel, quiet (by decide +kernel)⟩⟩

theorem witness_SpillQueues_d :
  let req : Req := .core 0 false; let k : Fin 32 := 1; let s : State := base
  Accepts s req .queue k 0x000 2 2 ∧ Undisturbed s k ∧ (s.queue k).openLen = 0 ∧
    ((s.queue k).tail.length + 6) / 7 + (s.queue k).ring.length ≤ ringSize s k :=
  ⟨by decide +kernel, ⟨by decide +kernel, by decide +kernel, quiet (by decide +kernel)⟩, by decide +kernel, by decide +kernel⟩

theorem witness_SpillQueues_e :
  let req : Req := .core 0 false; let k : Fin 32 := 1; let s : State := base
  let s : State := s.setQueue k { s.queue k with head := [⟨5, 8, false, true⟩, ⟨6, 8, true, false⟩, ⟨7, 8, false, true⟩], tail := [], openLen := 1, visible := 1 };
    Accepts s req .queue k 0x000 2 2 ∧ Undisturbed s k ∧ 0 < (s.queue k).openLen :=
  ⟨by decide +kernel, ⟨by decide +kernel, by decide +kernel, quiet (by decide +kernel)⟩, by decide +kernel⟩

theorem witness_SpillQueues_f :
  let k : Fin 32 := 1; let e : Nat := 3; let s : State := base
  let s : State := (s.setQueue k { s.queue k with since := some e }).wr QUEUE_CFG_FLUSH_TO ((0) + 1) k;
    clocked s = true ∧ (s.queue k).since = some e ∧ s.rd QUEUE_CFG_FLUSH_TO k ≠ 0 ∧ Undisturbed s k ∧
    (s.queue k).openLen = 0 ∧ ((s.queue k).tail.length + 6) / 7 + (s.queue k).ring.length ≤ ringSize s k :=
  ⟨by decide +kernel, by decide +kernel, by decide +kernel, ⟨by decide +kernel, by decide +kernel, quiet (by decide +kernel)⟩, by decide +kernel, by decide +kernel⟩

theorem witness_SpillQueues_g :
  let k : Fin 32 := 1; let g : Gran := ⟨0, List.replicate 7 ⟨7, 8, true, true⟩⟩; let gs : List Gran := []; let s : State := base
  let s : State := ((s.setQueue k { s.queue k with ring := g :: gs }).wr QUEUE_SPILL_BASE_ADDR 0x800004000 k).wr MEMC_CTRL_EN 1 0;
    let s : State := { s with bytes := memPutBytes [] 0x800004000 (granBytes 0 g.words) };
    clocked s = true ∧ (s.queue k).ring = g :: gs ∧ (s.queue k).head.length + 7 ≤ 56 ∧ Undisturbed s k ∧
    lineFixes s ((granAddr s k (s.queue k).ringAt) / 64) = some [] ∧
    chFail s ((granAddr s k (s.queue k).ringAt) / 64 * 64) = false ∧
    s.mem ((granAddr s k (s.queue k).ringAt) + 63) 1 = g.seq ∧
    granRead s (granAddr s k (s.queue k).ringAt) g.words.length = g.words :=
  ⟨by decide +kernel, by decide +kernel, by decide +kernel, ⟨by decide +kernel, by decide +kernel, quiet (by decide +kernel)⟩, by decide +kernel, by decide +kernel, by decide +kernel, by decide +kernel⟩

theorem witness_SpillQueues_h :
  let k : Fin 32 := 1; let g : Gran := ⟨0, List.replicate 7 ⟨7, 8, true, true⟩⟩; let gs : List Gran := []; let s : State := base
  let s : State := ((s.setQueue k { s.queue k with ring := g :: gs }).wr QUEUE_SPILL_BASE_ADDR 0x800004000 k).wr MEMC_CTRL_EN 1 0;
    let s : State := { s with lineChk := [(0x800004000 / 64, [])] };
    clocked s = true ∧ (s.queue k).ring = g :: gs ∧ (s.queue k).head.length + 7 ≤ 56 ∧ Undisturbed s k ∧
    chFail s ((granAddr s k (s.queue k).ringAt) / 64 * 64) = false ∧
    lineFixes s ((granAddr s k (s.queue k).ringAt) / 64) = none ∧
    (s.mems.get {} ((granAddr s k (s.queue k).ringAt) / 4096 % 2)).passUe + 1 < s.rd MEMC_CFG_UE_LIMIT ((granAddr s k (s.queue k).ringAt) / 4096 % 2) :=
  ⟨by decide +kernel, by decide +kernel, by decide +kernel, ⟨by decide +kernel, by decide +kernel, quiet (by decide +kernel)⟩, by decide +kernel, by decide +kernel, by decide +kernel⟩

theorem witness_Converters :
  let k : Fin 4 := 1; let e : Nat := 2; let pair : Fin 2 := 1; let req : Req := .core 0 false; let s : State := base;
  (clocked s = true ∧ ((s.rd ADC_CFG_TRIG_SRC k) = 0 ∨ (s.sig.pulses.get 0 (s.rd ADC_CFG_TRIG_SRC k)) ≤ (s.adc k).taken)) ∧
  (let s : State := ({ s with sig := { s.sig with pulses := s.sig.pulses.set 3 990 } }).wr ADC_CFG_TRIG_SRC 3 k;
    clocked s = true ∧ (s.rd ADC_CFG_TRIG_SRC k) ≠ 0 ∧ (s.adc k).taken < (s.sig.pulses.get 0 (s.rd ADC_CFG_TRIG_SRC k)) ∧
    s.on ADC_CTRL_EN k = false) ∧
  (let s : State := base.wr ADC_CTRL_EN 1 k;
    let s : State := ({ s with sig := { s.sig with pulses := s.sig.pulses.set 3 990 } }).wr ADC_CFG_TRIG_SRC 3 k;
    let s : State := s.updAdc k fun x => { x with entry := some 1, on := true };
    clocked s = true ∧ (s.rd ADC_CFG_TRIG_SRC k) ≠ 0 ∧ (s.adc k).taken < (s.sig.pulses.get 0 (s.rd ADC_CFG_TRIG_SRC k)) ∧
    s.on ADC_CTRL_EN k = true ∧ adcBusy s k = true) ∧
  (let s : State := base.wr ADC_CTRL_EN 1 k;
    let s : State := ({ s with sig := { s.sig with pulses := s.sig.pulses.set 3 990 } }).wr ADC_CFG_TRIG_SRC 3 k;
    clocked s = true ∧ (s.rd ADC_CFG_TRIG_SRC k) ≠ 0 ∧ (s.adc k).taken < (s.sig.pulses.get 0 (s.rd ADC_CFG_TRIG_SRC k)) ∧
    s.on ADC_CTRL_EN k = true ∧ adcBusy s k = false) ∧
  (let e : Nat := 8125; let s : State := base.updAdc k (fun zz => { zz with pend := some e });
    clocked s = true ∧ (s.adc k).pend = some e) ∧
  (clocked s = true ∧ (s.adc k).pend = none) ∧
  (let s : State := base.updAdc k (fun zz => { zz with entry := some e });
    clocked s = true ∧ (s.adc k).entry = some e ∧ e < 16) ∧
  (clocked s = true ∧ (s.adc k).entry = none) ∧
  (let s : State := s.updAdc (2 * pair) (fun zz => { zz with flag := some (s.fab, e) });
    clocked s = true ∧ (s.adc (2 * pair)).flag = some (s.fab, e)) ∧
  (let s : State := base.updAdc (2 * pair) fun x => { x with flag := some (900, e) };
    clocked s = true ∧ (∀ p ∈ (s.adc (2 * pair)).flag, p.1 ≠ s.fab)) ∧
  (let s : State := (base.wr ADC_CFG_LEN 4 k).updAdc k fun x => { x with entry := some 1, on := true };
    Accepts s req .adc k 0x000 2 2 ∧ adcBusy s k = true) ∧
  (Accepts s req .adc k 0x000 2 2 ∧ adcBusy s k = false) ∧
  (let s : State := (base.wr ADC_CFG_LEN 4 k).updAdc k fun x => { x with entry := some 1, on := true };
    Accepts s req .adc k 0x000 0 1 ∧ adcBusy s k = true) ∧
  (Accepts s req .adc k 0x000 0 1 ∧ adcBusy s k = false) ∧
  (let s : State := (base.wr ADC_CTRL_EN 1 k).wr ADC_CFG_TRIG_SRC 0 k;
    let s : State := (s.wr ADC_CFG_LEN 4 k).updAdc k fun x => { x with entry := some 1, on := true };
    Accepts s req .adc k 0x000 4 4 ∧ s.on ADC_CTRL_EN k = true ∧ adcBusy s k = true) ∧
  (let s : State := (base.wr ADC_CTRL_EN 1 k).wr ADC_CFG_TRIG_SRC 0 k;
    Accepts s req .adc k 0x000 4 4 ∧ s.on ADC_CTRL_EN k = true ∧ adcBusy s k = false) := by
  decide +kernel

theorem witness_SampledValues :
  let port : Fin 4 := 1; let cut : Bool := false; let i : Fin 8 := 1;
  let el : Nat → List Nat → List Nat := fun t c => t :: c.length :: c; let req : Req := .core 0 false; let s : State := base;
  (let octets : List (BitVec 8) := []; let cut : Bool := true;
    clocked s = true ∧
    (s.on PORT_ETH_CFG_EN 0 port = false ∨ svHeader (if cut then (octets.map (·.toNat)) else (octets.map (·.toNat)).take ((octets.map (·.toNat)).length - 4)) = none)) ∧
  (let s : State := base.wr PORT_ETH_CFG_EN 1 0 port;
    let asdu : Nat → List Nat := fun n => el 0x30 (el 0x80 [0x41, 0x42] ++ el 0x82 [n / 256, n % 256] ++ el 0x83 [0, 0, 0, 1] ++ el 0x85 [2] ++ el 0x87 (List.replicate 64 7));
    let pdu : List Nat := el 0x60 (el 0x80 [1] ++ el 0xA2 (asdu 9));
    let f : List Nat := [1, 0x0C, 0xCD, 4, 0, 1, 9, 9, 9, 9, 9, 9, 0x81, 0, 0, 5, 0x88, 0xBA, 0x40, 3, 0, pdu.length + 8, 0, 0, 0, 0] ++ pdu;
    let f : List Nat := f ++ fcsBytes f; let octets : List (BitVec 8) := f.map (BitVec.ofNat 8); let s : State := s;
    let s : State := (((((s.wr PORT_ETH_CFG_EN 1 0 port).wr SV_CTRL_EN 0 i).wr SV_MAC_MAC 0x010CCD040001 i).wr SV_ID_APPID 0x4003 i).wr SV_CFG_PORTS 15 i).wr SV_ID_VID_EN 0 i;
    let s : State := ((((s.wr SV_SVID_CRC_CRC (crc32c [0x41, 0x42]) i).wr SV_CONFREV_REV 1 i).wr SV_CFG_NCH 7 i).wr SV_CFG_SYNC_REQ 3 i).wr SV_CFG_NASDU 0 i;
    let h : SvHeader := (svHeader (f.take (f.length - 4))).getD ⟨0, [], 0, 0, false, []⟩;
    clocked s = true ∧ s.on PORT_ETH_CFG_EN 0 port = true ∧
    svHeader (if cut then (octets.map (·.toNat)) else (octets.map (·.toNat)).take ((octets.map (·.toNat)).length - 4)) = some h ∧
    (∀ j : Fin 8, svAddressed s j h = false)) ∧
  (let cut : Bool := true; let s : State := base.wr PORT_ETH_CFG_EN 1 0 port;
    let asdu : Nat → List Nat := fun n => el 0x30 (el 0x80 [0x41, 0x42] ++ el 0x82 [n / 256, n % 256] ++ el 0x83 [0, 0, 0, 1] ++ el 0x85 [2] ++ el 0x87 (List.replicate 64 7));
    let pdu : List Nat := el 0x60 (el 0x80 [1] ++ el 0xA2 (asdu 9));
    let f : List Nat := [1, 0x0C, 0xCD, 4, 0, 1, 9, 9, 9, 9, 9, 9, 0x81, 0, 0, 5, 0x88, 0xBA, 0x40, 3, 0, pdu.length + 8, 0, 0, 0, 0] ++ pdu;
    let f : List Nat := f ++ [0,0,0,0]; let octets : List (BitVec 8) := f.map (BitVec.ofNat 8); let s : State := s;
    let s : State := (((((s.wr PORT_ETH_CFG_EN 1 0 port).wr SV_CTRL_EN 1 i).wr SV_MAC_MAC 0x010CCD040001 i).wr SV_ID_APPID 0x4003 i).wr SV_CFG_PORTS 15 i).wr SV_ID_VID_EN 0 i;
    let s : State := ((((s.wr SV_SVID_CRC_CRC (crc32c [0x41, 0x42]) i).wr SV_CONFREV_REV 1 i).wr SV_CFG_NCH 7 i).wr SV_CFG_SYNC_REQ 3 i).wr SV_CFG_NASDU 0 i;
    let h : SvHeader := (svHeader (f.take (f.length - 4))).getD ⟨0, [], 0, 0, false, []⟩;
    let h : SvHeader := (svHeader f).getD ⟨0, [], 0, 0, false, []⟩;
    clocked s = true ∧ s.on PORT_ETH_CFG_EN 0 port = true ∧
    svHeader (if cut then (octets.map (·.toNat)) else (octets.map (·.toNat)).take ((octets.map (·.toNat)).length - 4)) = some h ∧
    svAddressed s i h = true ∧ (!cut && fcsOk (octets.map (·.toNat))) = false) ∧
  (let s : State := base.wr PORT_ETH_CFG_EN 1 0 port;
    let asdu : Nat → List Nat := fun n => el 0x30 (el 0x80 [0x41, 0x42] ++ el 0x82 [n / 256, n % 256] ++ el 0x83 [0, 0, 0, 1] ++ el 0x85 [2] ++ el 0x87 (List.replicate 64 7));
    let pdu : List Nat := el 0x60 (el 0x80 [1] ++ el 0xA2 (asdu 9));
    let f : List Nat := [1, 0x0C, 0xCD, 4, 0, 1, 9, 9, 9, 9, 9, 9, 0x81, 0, 0, 5, 0x88, 0xBA, 0x40, 3, 0, pdu.length + 8, 0, 0, 0, 0] ++ pdu;
    let f : List Nat := f ++ fcsBytes f; let octets : List (BitVec 8) := f.map (BitVec.ofNat 8); let s : State := s;
    let s : State := (((((s.wr PORT_ETH_CFG_EN 1 0 port).wr SV_CTRL_EN 1 i).wr SV_MAC_MAC 0x010CCD040001 i).wr SV_ID_APPID 0x4003 i).wr SV_CFG_PORTS 0 i).wr SV_ID_VID_EN 0 i;
    let s : State := ((((s.wr SV_SVID_CRC_CRC (crc32c [0x41, 0x42]) i).wr SV_CONFREV_REV 1 i).wr SV_CFG_NCH 7 i).wr SV_CFG_SYNC_REQ 3 i).wr SV_CFG_NASDU 0 i;
    let h : SvHeader := (svHeader (f.take (f.length - 4))).getD ⟨0, [], 0, 0, false, []⟩;
    clocked s = true ∧ s.on PORT_ETH_CFG_EN 0 port = true ∧
    svHeader (if cut then (octets.map (·.toNat)) else (octets.map (·.toNat)).take ((octets.map (·.toNat)).length - 4)) = some h ∧
    svAddressed s i h = true ∧ (!cut && fcsOk (octets.map (·.toNat))) = true ∧ svAsdus s i port h = none) ∧
  (let s : State := (base.wr PORT_ETH_CFG_EN 1 0 port).wr SV_STATUS_STALE 1 i;
    let asdu : Nat → List Nat := fun n => el 0x30 (el 0x80 [0x41, 0x42] ++ el 0x82 [n / 256, n % 256] ++ el 0x83 [0, 0, 0, 1] ++ el 0x85 [2] ++ el 0x87 (List.replicate 64 7));
    let pdu : List Nat := el 0x60 (el 0x80 [1] ++ el 0xA2 (asdu 9));
    let f : List Nat := [1, 0x0C, 0xCD, 4, 0, 1, 9, 9, 9, 9, 9, 9, 0x81, 0, 0, 5, 0x88, 0xBA, 0x40, 3, 0, pdu.length + 8, 0, 0, 0, 0] ++ pdu;
    let f : List Nat := f ++ fcsBytes f; let octets : List (BitVec 8) := f.map (BitVec.ofNat 8); let s : State := s;
    let s : State := (((((s.wr PORT_ETH_CFG_EN 1 0 port).wr SV_CTRL_EN 1 i).wr SV_MAC_MAC 0x010CCD040001 i).wr SV_ID_APPID 0x4003 i).wr SV_CFG_PORTS 15 i).wr SV_ID_VID_EN 0 i;
    let s : State := ((((s.wr SV_SVID_CRC_CRC (crc32c [0x41, 0x42]) i).wr SV_CONFREV_REV 1 i).wr SV_CFG_NCH 7 i).wr SV_CFG_SYNC_REQ 3 i).wr SV_CFG_NASDU 0 i;
    let h : SvHeader := (svHeader (f.take (f.length - 4))).getD ⟨0, [], 0, 0, false, []⟩;
    let s : State := ((s.wr SV_STATUS_STALE 0 i).wr SV_LAST_VALID 1 i).wr SV_LAST_SMPCNT 6 i;
    let asdus : List Asdu := (svAsdus s i port h).getD [];
    clocked s = true ∧ s.on PORT_ETH_CFG_EN 0 port = true ∧
    svHeader (if cut then (octets.map (·.toNat)) else (octets.map (·.toNat)).take ((octets.map (·.toNat)).length - 4)) = some h ∧
    svAddressed s i h = true ∧ (!cut && fcsOk (octets.map (·.toNat))) = true ∧ svAsdus s i port h = some asdus ∧
    twinMeasures s = false ∧
    (s.on SV_STATUS_STALE i = true ∨ s.on SV_LAST_VALID i = false ∨ 2 * (((asdus.headD ⟨0, 0, []⟩).smpCnt % (s.rd SV_WRAP_WRAP i) + 2 * (s.rd SV_WRAP_WRAP i) - (s.rd SV_LAST_SMPCNT i + 1) % (s.rd SV_WRAP_WRAP i)) % (s.rd SV_WRAP_WRAP i)) < (s.rd SV_WRAP_WRAP i))) ∧
  (let s : State := ((base.wr PORT_ETH_CFG_EN 1 0 port).wr SV_STATUS_STALE 0 i).wr SV_LAST_VALID 1 i;
    let asdu : Nat → List Nat := fun n => el 0x30 (el 0x80 [0x41, 0x42] ++ el 0x82 [n / 256, n % 256] ++ el 0x83 [0, 0, 0, 1] ++ el 0x85 [2] ++ el 0x87 (List.replicate 64 7));
    let pdu : List Nat := el 0x60 (el 0x80 [1] ++ el 0xA2 (asdu 9));
    let f : List Nat := [1, 0x0C, 0xCD, 4, 0, 1, 9, 9, 9, 9, 9, 9, 0x81, 0, 0, 5, 0x88, 0xBA, 0x40, 3, 0, pdu.length + 8, 0, 0, 0, 0] ++ pdu;
    let f : List Nat := f ++ fcsBytes f; let octets : List (BitVec 8) := f.map (BitVec.ofNat 8); let s : State := s;
    let s : State := (((((s.wr PORT_ETH_CFG_EN 1 0 port).wr SV_CTRL_EN 1 i).wr SV_MAC_MAC 0x010CCD040001 i).wr SV_ID_APPID 0x4003 i).wr SV_CFG_PORTS 15 i).wr SV_ID_VID_EN 0 i;
    let s : State := ((((s.wr SV_SVID_CRC_CRC (crc32c [0x41, 0x42]) i).wr SV_CONFREV_REV 1 i).wr SV_CFG_NCH 7 i).wr SV_CFG_SYNC_REQ 3 i).wr SV_CFG_NASDU 0 i;
    let h : SvHeader := (svHeader (f.take (f.length - 4))).getD ⟨0, [], 0, 0, false, []⟩;
    let s : State := ((s.wr SV_STATUS_STALE 0 i).wr SV_LAST_VALID 1 i).wr SV_LAST_SMPCNT 9 i;
    let asdus : List Asdu := (svAsdus s i port h).getD [];
    clocked s = true ∧ s.on PORT_ETH_CFG_EN 0 port = true ∧
    svHeader (if cut then (octets.map (·.toNat)) else (octets.map (·.toNat)).take ((octets.map (·.toNat)).length - 4)) = some h ∧
    svAddressed s i h = true ∧ (!cut && fcsOk (octets.map (·.toNat))) = true ∧ svAsdus s i port h = some asdus ∧
    twinMeasures s = false ∧ s.on SV_STATUS_STALE i = false ∧ s.on SV_LAST_VALID i = true ∧
    (s.rd SV_WRAP_WRAP i) ≤ 2 * (((asdus.headD ⟨0, 0, []⟩).smpCnt % (s.rd SV_WRAP_WRAP i) + 2 * (s.rd SV_WRAP_WRAP i) - (s.rd SV_LAST_SMPCNT i + 1) % (s.rd SV_WRAP_WRAP i)) % (s.rd SV_WRAP_WRAP i))) ∧
  (let s : State := base.wr SV_CTRL_EN 1 i;
    let s : State := { s with pipe := { s.pipe with tickTime := 4990000 * 2 ^ 32, tickEdge := 990 } };
    clocked s = true ∧ s.on SV_CTRL_EN i = true ∧ 2 ≤ svGap s i s.tickNs) ∧
  (clocked s = true ∧ (s.on SV_CTRL_EN i = false ∨ svGap s i s.tickNs < 2)) ∧
  (let s : State := base.wr SV_CTRL_EN 1 i; let s : State := s.wr SV_CFG_LOST_LIMIT (svGap s i s.tickNs) i;
    clocked s = true ∧ s.on SV_CTRL_EN i = true ∧ s.rd SV_CFG_LOST_LIMIT i ≤ svGap s i s.tickNs) ∧
  (clocked s = true ∧ (s.on SV_CTRL_EN i = false ∨ svGap s i s.tickNs < s.rd SV_CFG_LOST_LIMIT i)) ∧
  (Accepts s req .sv i 0x030 2 2) ∧
  (Accepts s req .sv i 0x000 2 2) := by
  decide +kernel

theorem witness_FiltersAndOculus :
  let k : Fin 16 := 1; let x : Sample := ⟨1002, 77, 5, false⟩; let xs : List Sample := []; let q : List (Nat × Sample) := [];
  let n : Nat := 3; let z : OcRec := ⟨7, 3, 1, 0, 0, []⟩; let req : Req := .core 0 false; let data : BitVec 32 := 5;
  let b : Fin 2 := 1; let i : Fin 512 := 1; let s : State := base;
  (clocked s = true ∧ (s.filt k).offers = []) ∧
  (let s : State := (base.updFilt k (fun zz => { zz with offers := x :: xs })).wr FILT_CTRL_EN 1 k;
    clocked s = true ∧ (s.filt k).offers = x :: xs ∧ s.on FILT_CTRL_EN k = true ∧
    (s.sig.eng.queue.filter (fun q => q.1 == k.val)).length < 4) ∧
  (let s : State := (base.updFilt k (fun zz => { zz with offers := x :: xs })).wr FILT_CTRL_EN 1 k;
    let s : State := { s with sig := { s.sig with eng := { s.sig.eng with queue := [(k.val, ⟨990, 77, 5, false⟩), (k.val, ⟨991, 77, 5, false⟩), (k.val, ⟨992, 77, 5, false⟩), (k.val, ⟨993, 77, 5, false⟩), (7, ⟨995, 77, 5, false⟩)] } } };
    clocked s = true ∧ (s.filt k).offers = x :: xs ∧ s.on FILT_CTRL_EN k = true ∧
    4 ≤ (s.sig.eng.queue.filter (fun q => q.1 == k.val)).length) ∧
  (let s : State := base.updFilt k (fun zz => { zz with offers := x :: xs });
    clocked s = true ∧ (s.filt k).offers = x :: xs ∧ s.on FILT_CTRL_EN k = false) ∧
  (clocked s = true ∧ (s.sig.eng.queue = [] ∨ s.sig.eng.job ≠ none)) ∧
  (let q : List (Nat × Sample) := [(2, ⟨1003, 78, 6, false⟩)];
    let s : State := ({ base with sig.eng.queue := (n, x) :: q }).updFilt n fun z => { z with decim := 2 };
    clocked s = true ∧ s.sig.eng.job = none ∧ s.sig.eng.queue = (n, x) :: q ∧ (s.filt n).decim ≠ 0) ∧
  (let q : List (Nat × Sample) := [(2, ⟨1003, 78, 6, false⟩)]; let s : State := { base with sig.eng.queue := (n, x) :: q };
    clocked s = true ∧ s.sig.eng.job = none ∧ s.sig.eng.queue = (n, x) :: q ∧ (s.filt n).decim = 0 ∧
    (s.filt n).fadeLen ≤ (s.filt n).fade ∧ (s.filt n).swapEdge = none ∧ (s.filt n).restart = none ∧ (s.filt n).preset = none ∧
    x.gap = false) ∧
  (clocked s = true ∧ s.sig.eng.job = none) ∧
  (let j : FiltJob := { chan := 1, edge := 1005 }; let s : State := { base with sig.eng.job := some j };
    clocked s = true ∧ s.sig.eng.job = some j ∧ j.out = none) ∧
  (let j : FiltJob := ⟨1, 1005, some (-70000), false, 1, 66, false⟩; let y : Int := -70000;
    let s : State := { base with sig.eng.job := some j };
    clocked s = true ∧ s.sig.eng.job = some j ∧ j.out = some y ∧ j.chan = k.val) ∧
  (Accepts s req .filt k 0x000 2 2 ∧ s.on FILT_CTRL_EN k = (s.filt k).on) ∧
  (Accepts s req .filt k 0x000 4 4 ∧ s.on FILT_CTRL_EN k = (s.filt k).on) ∧
  (let s : State := (base.wr FILT_CFG_SRC 3 k).wr FILT_CTRL_EN 1 k;
    Accepts s req .filt k 0x034 data.toNat 0xFFFFFFFF ∧ (s.sig.eng.queue.filter (fun q => q.1 == k.val)).length < 4) ∧
  (let s : State := (base.wr FILT_CFG_SRC 3 k).wr FILT_CTRL_EN 1 k;
    let s : State := { s with sig := { s.sig with eng := { s.sig.eng with queue := [(k.val, ⟨990, 77, 5, false⟩), (k.val, ⟨991, 77, 5, false⟩), (k.val, ⟨992, 77, 5, false⟩), (k.val, ⟨993, 77, 5, false⟩), (7, ⟨995, 77, 5, false⟩)] } } };
    Accepts s req .filt k 0x034 data.toNat 0xFFFFFFFF ∧ 4 ≤ (s.sig.eng.queue.filter (fun q => q.1 == k.val)).length) ∧
  (clocked s = true ∧
    (s.on FILT_CTRL_EN k = false ∨ (s.filt k).timeout = 0 ∨ s.rd FILT_OUTQ_QUAL k = 0 ∨ s.rd FILT_OUTQ_QUAL k = 2 ∨ ∃ x ∈ (s.filt k).offers, x.edge < (s.filt k).lastEdge + (s.filt k).timeout * 256)) ∧
  (let s : State := ((s.wr FILT_CTRL_EN 1 k).wr FILT_OUTQ_QUAL 1 k).updFilt k fun z => { z with timeout := 2, lastEdge := 900, offers := [⟨1500, 1, 1, false⟩] };
    clocked s = true ∧
    (¬ (s.on FILT_CTRL_EN k = false ∨ (s.filt k).timeout = 0 ∨ s.rd FILT_OUTQ_QUAL k = 0 ∨ s.rd FILT_OUTQ_QUAL k = 2 ∨ ∃ x ∈ (s.filt k).offers, x.edge < (s.filt k).lastEdge + (s.filt k).timeout * 256))) ∧
  (let addr : BitVec 40 := 5;
    (inCoef addr.toNat = false ∨ addr.toNat % 4 ≠ 0)) ∧
  (clocked s = true ∧
    powered s (.coef (BitVec.ofNat 40 (0x20180000 + 0x1000 * k.val + 0x800 * b.val + 4 * i.val)).toNat) = true ∧
    openTo s req (BitVec.ofNat 40 (0x20180000 + 0x1000 * k.val + 0x800 * b.val + 4 * i.val)).toNat = true ∧
    coefBusy s k b = false ∧ (s.on FILT_CTRL_EN k && swapsNow s k) = false) ∧
  (let s : State := (base.wr FILT_CTRL_EN 1 k).wr FILT_STATUS_BANK b k;
    clocked s = true ∧
    powered s (.coef (BitVec.ofNat 40 (0x20180000 + 0x1000 * k.val + 0x800 * b.val + 4 * i.val)).toNat) = true ∧
    openTo s req (BitVec.ofNat 40 (0x20180000 + 0x1000 * k.val + 0x800 * b.val + 4 * i.val)).toNat = true ∧
    (coefBusy s k b = true ∨ (s.on FILT_CTRL_EN k && swapsNow s k) = true)) ∧
  (clocked s = true ∧ (s.sig.oc.due = [] ∨ s.sig.oc.closing = true)) ∧
  (let d : Strobe := ⟨77, List.replicate 12 ⟨5, false⟩, 0, 0, 0⟩; let ds : List Strobe := [];
    let s : State := { base with sig.oc.due := d :: ds };
    clocked s = true ∧ s.sig.oc.due = d :: ds ∧ s.sig.oc.closing = false) ∧
  (clocked s = true ∧ s.sig.oc.closing = false) ∧
  (let s : State := { s with sig := { s.sig with oc := { s.sig.oc with closing := true, interval := [⟨77, List.replicate 12 ⟨5, false⟩, 0, 0, 0⟩, ⟨77, List.replicate 12 ⟨5, false⟩, 0, 0, 0⟩], fifo := List.replicate 32 ⟨77, 5, 1, 0, 0, List.replicate 12 9⟩ } } };
    clocked s = true ∧ s.sig.oc.closing = true ∧ 32 ≤ s.sig.oc.fifo.length) ∧
  (let s : State := { base with sig.oc.closing := true };
    clocked s = true ∧ s.sig.oc.closing = true ∧ s.sig.oc.fifo.length < 32) ∧
  (clocked s = true ∧ s.sig.oc.fifo = []) ∧
  (let s : State := (((s.wr OCULUS_BUF_BASE_ADDR (0x800001000 / 64)).wr OCULUS_BUF_LOG2 6).wr OCULUS_POST_RECORDS 20).wr OCULUS_PRE_RECORDS 20;
    Accepts s req .oculus 0 0x000 1 1) ∧
  (let s : State := base.wr OCULUS_STATUS_RUNNING 1;
    Accepts s req .oculus 0 0x000 2 2 ∧ s.on OCULUS_STATUS_RUNNING = true) ∧
  (let s : State := base.wr OCULUS_STATUS_RUNNING 1;
    Accepts s req .oculus 0 0x000 4 4 ∧ s.on OCULUS_STATUS_RUNNING = true) ∧
  (Accepts s req .oculus 0 0x000 2 2 ∧ s.on OCULUS_STATUS_RUNNING = false) ∧
  (Accepts s req .oculus 0 0x000 4 4 ∧ s.on OCULUS_STATUS_RUNNING = false) := by
  decide +kernel

theorem witness_FiltersAndOculus_a :
  let z : OcRec := ⟨7, 3, 1, 0, 0, []⟩; let s : State := base
  let z : OcRec := ⟨77, 5, 1, 0, 0, List.replicate 12 9⟩; let zs : List OcRec := [];
    let s : State := ({ base with sig.oc.fifo := z :: zs }).wr SCAN_STATUS_BUSY 0;
    let s : State := { s with sig := { s.sig with oc := { s.sig.oc with fifo := z :: zs, trig := some 3 } } };
    let s : State := (((s.wr OCULUS_BUF_BASE_ADDR (0x800001000 / 64)).wr MEMC_CTRL_EN 1 0).wr MEMC_CTRL_EN 1 1).wr OCULUS_BUF_LOG2 4;
    let s : State := ((s.wr OCULUS_POST_RECORDS 2).wr OCULUS_STATUS_RUNNING 1).wr OCULUS_CTRL_REPEAT 0;
    clocked s = true ∧ s.sig.oc.fifo = z :: zs ∧
    chFail s (64 * s.rd OCULUS_BUF_BASE_ADDR + 64 * (z.seq % 2 ^ s.rd OCULUS_BUF_LOG2)) = false ∧
    chOff s (64 * s.rd OCULUS_BUF_BASE_ADDR + 64 * (z.seq % 2 ^ s.rd OCULUS_BUF_LOG2)) = false ∧
    0x800000000 ≤ (64 * s.rd OCULUS_BUF_BASE_ADDR + 64 * (z.seq % 2 ^ s.rd OCULUS_BUF_LOG2)) ∧
    (64 * s.rd OCULUS_BUF_BASE_ADDR + 64 * (z.seq % 2 ^ s.rd OCULUS_BUF_LOG2)) < 0x1000000000 ∧ z.words.length = 12 ∧
    s.on SCAN_STATUS_BUSY = false ∧ (∀ c : Nat, (s.mems.get {} c).caErrs < 2) ∧ Memory.wf s.bytes = true :=
  ⟨by decide +kernel, by decide +kernel, by decide +kernel, by decide +kernel, by decide +kernel, by decide +kernel, by decide +kernel, by decide +kernel, quiet (by decide +kernel), by decide +kernel⟩

theorem witness_PwmPairs :
  let n : Fin 12 := 2; let c : Nat := 3; let gfb : BitVec 2 := 5; let since : Nat := 4; let p : TurnOn := ⟨false, 1000, 1010⟩;
  let req : Req := .core 0 false; let s : State := base;
  (clocked s = true ∧ s.on PWM_CTRL_EN n = false) ∧
  (let s : State := ((base.wr PWM_CTRL_EN 1 n).wr PWM_CMP_CMP 0 n).wr PWM_CTRL_LOAD 1 n;
    clocked s = true ∧ s.on PWM_CTRL_EN n = true ∧ nextChange s n = none ∧ (s.staged.map Prod.fst).Nodup) ∧
  (let s : State := base.wr PWM_CTRL_EN 1 n;
    let s : State := ((((((s.wr PWM_PERIOD_PERIOD 100 n).wr PWM_CMP_CMP 40 n).wr PWM_CTRL_MODE 0 n).wr PWM_CTRL_OE 1 n).wr PWM_STATUS_TRIP 0 n).wr PWM_CTRL_EN 1 n).updPwm n fun z => { z with base := 980, cur := 990, onB := true };
    let c := (nextChange s n).getD 0;
    clocked s = true ∧ s.on PWM_CTRL_EN n = true ∧ nextChange s n = some c ∧ c ≤ nextReload s n) ∧
  (clocked s = true ∧ (nextChange s n = none ∨ (∃ c ∈ nextChange s n, nextReload s n < c))) ∧
  (let gfb : BitVec 2 := 3; let s : State := base.updPwm n (fun zz => { zz with pend := some p });
    clocked s = true ∧ (s.pwm n).pend = some p ∧
    (bit gfb.toNat (if s.on PWM_CTRL_SINGLE n || p.isB then 0 else 1) = true ∧ (s.on PWM_CTRL_SINGLE n = true ∨ (turnOnEdge s n since p) ≤ (p.off + s.rd PWM_INTLK_TO_TO n)) ∧ (∀ c ∈ nextChange s n, (turnOnEdge s n since p) < c) ∧ (turnOnEdge s n since p) < nextReload s n)) ∧
  (let since : Nat := 3; let s : State := base.updPwm n (fun zz => { zz with pend := some p });
    clocked s = true ∧ (s.pwm n).pend = some p ∧
    (¬ (bit gfb.toNat (if s.on PWM_CTRL_SINGLE n || p.isB then 0 else 1) = true ∧ (s.on PWM_CTRL_SINGLE n = true ∨ (turnOnEdge s n since p) ≤ (p.off + s.rd PWM_INTLK_TO_TO n)) ∧ (∀ c ∈ nextChange s n, (turnOnEdge s n since p) < c) ∧ (turnOnEdge s n since p) < nextReload s n))) ∧
  (clocked s = true ∧ (s.pwm n).pend = none) ∧
  (let gfb : BitVec 2 := 0; let p : TurnOn := ⟨false, 1000, 1004⟩;
    let s : State := ((base.updPwm n (fun zz => { zz with pend := some p })).wr PWM_CTRL_SINGLE 0 n).wr PWM_INTLK_TO_TO 8 n;
    clocked s = true ∧ (s.pwm n).pend = some p ∧
    (s.on PWM_CTRL_SINGLE n = false ∧ ¬ (bit gfb.toNat (if p.isB then 0 else 1) = true ∧ (turnOnEdge s n since p) ≤ (p.off + s.rd PWM_INTLK_TO_TO n)) ∧ (∀ c ∈ nextChange s n, (p.off + s.rd PWM_INTLK_TO_TO n) < c) ∧ (p.off + s.rd PWM_INTLK_TO_TO n) < nextReload s n)) ∧
  (let gfb : BitVec 2 := 2; let s : State := base.updPwm n (fun zz => { zz with pend := some p });
    clocked s = true ∧ (s.pwm n).pend = some p ∧
    (¬ (s.on PWM_CTRL_SINGLE n = false ∧ ¬ (bit gfb.toNat (if p.isB then 0 else 1) = true ∧ (turnOnEdge s n since p) ≤ (p.off + s.rd PWM_INTLK_TO_TO n)) ∧ (∀ c ∈ nextChange s n, (p.off + s.rd PWM_INTLK_TO_TO n) < c) ∧ (p.off + s.rd PWM_INTLK_TO_TO n) < nextReload s n))) ∧
  (let gfb : BitVec 2 := 0;
    let s : State := ((((((s.wr PWM_PERIOD_PERIOD 100 n).wr PWM_CMP_CMP 40 n).wr PWM_CTRL_MODE 0 n).wr PWM_CTRL_OE 1 n).wr PWM_STATUS_TRIP 0 n).wr PWM_CTRL_EN 1 n).updPwm n fun z => { z with base := 980, cur := 990, onB := true, started := 0 };
    clocked s = true ∧
    (((pwmWants s n s.fab).1 = true ∧ (pwmWants s n s.fab).2 = true) ∨ (gfb = 0 ∧ 4 ≤ since ∧ (s.pwm n).started + 3 ≤ s.fab ∧ s.on PWM_CTRL_EN n = true ∧ s.on PWM_CTRL_SINGLE n = false))) ∧
  (let since : Nat := 3;
    clocked s = true ∧
    (¬ (((pwmWants s n s.fab).1 = true ∧ (pwmWants s n s.fab).2 = true) ∨ (gfb = 0 ∧ 4 ≤ since ∧ (s.pwm n).started + 3 ≤ s.fab ∧ s.on PWM_CTRL_EN n = true ∧ s.on PWM_CTRL_SINGLE n = false)))) ∧
  (let s : State := base.updPwm n (fun zz => { zz with onA := true });
    let s : State := ((s.wr PWM_REFRESH_HS_MAX 15 n).wr PWM_STATUS_CP 0 n).wr PWM_CTRL_MODE 0 n;
    clocked s = true ∧ s.on PWM_STATUS_CP n = false ∧ (s.pwm n).onA = true ∧
    ((∀ c ∈ nextChange s n, ((s.pwm n).aOn + s.rd PWM_REFRESH_HS_MAX n) < c) ∧ ((s.pwm n).aOn + s.rd PWM_REFRESH_HS_MAX n) < nextReload s n)) ∧
  (clocked s = true ∧
    (s.on PWM_STATUS_CP n = true ∨ (s.pwm n).onA = false ∨ ¬ ((∀ c ∈ nextChange s n, ((s.pwm n).aOn + s.rd PWM_REFRESH_HS_MAX n) < c) ∧ ((s.pwm n).aOn + s.rd PWM_REFRESH_HS_MAX n) < nextReload s n))) ∧
  (let s : State := (base.updPwm n (fun zz => { zz with refresh := true })).updPwm n (fun zz => { zz with onB := true });
    clocked s = true ∧ (s.pwm n).refresh = true ∧
    ((s.pwm n).onB = true ∨ s.on PWM_CTRL_SINGLE n = true ∨ s.rd PWM_FORCE_FORCE_B n = 1)) ∧
  (clocked s = true ∧
    ((s.pwm n).refresh = false ∨ ((s.pwm n).onB = false ∧ s.on PWM_CTRL_SINGLE n = false ∧ s.rd PWM_FORCE_FORCE_B n ≠ 1))) ∧
  (let s : State := (base.wr PWM_TRIG_EN 1 n).wr PWM_CTRL_EN 1 n;
    let s : State := ((((((s.wr PWM_PERIOD_PERIOD 100 n).wr PWM_CMP_CMP 40 n).wr PWM_CTRL_MODE 0 n).wr PWM_CTRL_OE 1 n).wr PWM_STATUS_TRIP 0 n).wr PWM_CTRL_EN 1 n).updPwm n fun z => { z with base := 980, cur := 990, onB := true };
    let s : State := ((s.wr PWM_TRIG_CNT 30 n).wr PWM_TRIG_DIR 0 n).wr PWM_TRIG_EN 1 n; let c := (nextTrigger s n).getD 0;
    clocked s = true ∧ nextTrigger s n = some c ∧ s.on PWM_TRIG_EN n = true ∧ s.on PWM_CTRL_EN n = true) ∧
  (clocked s = true ∧ (nextTrigger s n = none ∨ s.on PWM_TRIG_EN n = false ∨ s.on PWM_CTRL_EN n = false)) ∧
  (Accepts s req .pwm n 0x024 1 1) ∧
  (Accepts s req .pwm n 0x024 2 2) ∧
  (let s : State := (base.wr PWM_STATUS_INTLK 1 n).wr PWM_STATUS_GFB 3 n;
    Accepts s req .pwm n 0x024 4 4) ∧
  (let data : BitVec 32 := 5;
    Accepts s req .pwm n 0x020 data.toNat 0xFFFFFFFF) ∧
  (let mask : BitVec 12 := 5;
    Accepts s req .trip 0 0x004 mask.toNat 0xFFF) := by
  decide +kernel

theorem witness_TripInputs :
  let req : Req := .core 0 false; let s : State := base;
  (clocked s = true) ∧
  (Reads s req .trip 0 0x200) ∧
  (let r : TripRec := ⟨7, 3⟩; let s : State := { base with sig.trip.latched := some r };
    Reads s req .trip 0 0x20C ∧ s.sig.trip.latched = some r) ∧
  (Reads s req .trip 0 0x20C ∧ s.sig.trip.latched = none) ∧
  (let d : DrvReq := ⟨3, true, 8, 77⟩; let ds : List DrvReq := [];
    let s : State := { (base.wr TRIP_DRV_CFG_EN 1) with sig.trip.reqs := d :: ds };
    clocked s = true ∧ s.on TRIP_DRV_CFG_EN = true ∧ s.sig.trip.busy = none ∧ s.sig.trip.reqs = d :: ds) ∧
  (clocked s = true ∧ (s.on TRIP_DRV_CFG_EN = false ∨ s.sig.trip.busy ≠ none ∨ s.sig.trip.reqs = [])) := by
  decide +kernel

theorem witness_DriverFifos :
  let req : Req := .core 0 false; let data : BitVec 32 := 5; let d : DrvReq := ⟨3, true, 8, 77⟩; let s : State := base;
  (let s : State := { s with sig := { s.sig with trip := { s.sig.trip with reqs := List.replicate 8 ⟨3, true, 8, 77⟩ } } };
    clocked s = true ∧ powered s (.reg .trip 0 0x304) = true ∧ portCodes s req .trip 0 0x304 data.toNat = [] ∧
    8 ≤ s.sig.trip.reqs.length) ∧
  (clocked s = true ∧ powered s (.reg .trip 0 0x304) = true ∧ portCodes s req .trip 0 0x304 data.toNat = [] ∧
    s.sig.trip.reqs.length < 8) ∧
  (let x : DrvRsp := ⟨1, false, 77⟩; let xs : List DrvRsp := []; let s : State := { base with sig.trip.rsps := x :: xs };
    Reads s req .trip 0 0x308 ∧ s.sig.trip.rsps = x :: xs) ∧
  (Reads s req .trip 0 0x308 ∧ s.sig.trip.rsps = []) ∧
  (let s : State := { base with sig.trip.busy := some d };
    clocked s = true ∧ s.sig.trip.busy = some d) ∧
  (clocked s = true ∧ s.sig.trip.busy = none) ∧
  (let ds : List DrvReq := []; let s : State := { (base.wr TRIP_DRV_CFG_EN 1) with sig.trip.reqs := d :: ds };
    clocked s = true ∧ s.on TRIP_DRV_CFG_EN = true ∧ s.sig.trip.busy = none ∧ s.sig.trip.reqs = d :: ds) := by
  decide +kernel

theorem witness_Campanile :
  let req : Req := .core 0 false; let i : Fin 16 := 1; let j : Fin 4 := 1; let k : Fin 4 := 1; let rise : Bool := true;
  let r : CapRec := ⟨7, true, false⟩; let s : State := base;
  (let data : BitVec 32 := 1;
    Accepts s req .campanile 0 0x010 data.toNat 0xFFFFFFFF) ∧
  (Accepts s req .campanile 0 0x018 1 1) ∧
  (Accepts s req .campanile 0 0x018 2 2) ∧
  (let s : State := { s with camp := { s.camp with slewLeft := 7000000, slewStep := 300000 } };
    clocked s = true ∧ s.camp.slewLeft ≠ 0 ∧ s.camp.slewLeft ≤ 2 ^ 96 ∧ s.camp.slewStep ≠ 0) ∧
  (clocked s = true ∧ s.camp.slewLeft = 0) ∧
  (Accepts s req .campanile 0 0x018 4 4) ∧
  (let s : State := (base.wr CAMPANILE_STATUS_LOST 0).wr CAMPANILE_STATUS_COARSE 1;
    Accepts s req .campanile 0 0x030 1 1) ∧
  (let s : State := base.wr CAMPANILE_TICK_CTRL_EN 1;
    Accepts s req .campanile 0 0x044 0 1 ∧ s.on CAMPANILE_TICK_CTRL_EN = true) ∧
  (Accepts s req .campanile 0 0x044 0 1 ∧ s.on CAMPANILE_TICK_CTRL_EN = false) ∧
  (let s : State := base.wr CAMPANILE_ET_CTRL_MODE (1) 0 i;
    clocked s = true ∧ i.val ≠ 0 ∧ s.rd CAMPANILE_ET_CTRL_MODE 0 i = 1) ∧
  (let s : State := base.wr CAMPANILE_ET_CTRL_MODE (2) 0 i;
    clocked s = true ∧ i.val ≠ 0 ∧ s.rd CAMPANILE_ET_CTRL_MODE 0 i = 2) ∧
  (let i : Fin 16 := 5; let s : State := base.wr CAMPANILE_ET_CTRL_MODE (3) 0 i;
    let s : State := { s with pipe := { s.pipe with running := true, tickEdge := 950, cycleFab := 5000 } };
    let s : State := (s.wr CAMPANILE_ET_CTRL_MODE 3 0 i).wr CAMPANILE_ET_PERIOD 80 0 i; let e := (offsetEdge s i).getD 0;
    clocked s = true ∧ i.val ≠ 0 ∧ s.rd CAMPANILE_ET_CTRL_MODE 0 i = 3 ∧ offsetEdge s i = some e) ∧
  (clocked s = true ∧
    (i.val = 0 ∨ s.rd CAMPANILE_ET_CTRL_MODE 0 i = 0 ∨ (s.rd CAMPANILE_ET_CTRL_MODE 0 i = 3 ∧ offsetEdge s i = none))) ∧
  (let s : State := base.wr CAMPANILE_TO_CTRL_MODE (1) 0 j;
    clocked s = true ∧ s.rd CAMPANILE_TO_CTRL_MODE 0 j = 1 ∧ s.camp.outDone.contains j.val = false ∧
    s.camp.outOn.contains j.val = false) ∧
  (let s : State := base.wr CAMPANILE_TO_CTRL_MODE (2) 0 j;
    clocked s = true ∧ s.rd CAMPANILE_TO_CTRL_MODE 0 j = 2 ∧ s.camp.outDone.contains j.val = false ∧
    s.camp.outOn.contains j.val = false) ∧
  (let s : State := base.wr CAMPANILE_TO_CTRL_MODE (3) 0 j;
    clocked s = true ∧ s.rd CAMPANILE_TO_CTRL_MODE 0 j = 3 ∧ s.camp.outDone.contains j.val = false ∧
    s.camp.outOn.contains j.val = false) ∧
  (clocked s = true ∧
    (s.rd CAMPANILE_TO_CTRL_MODE 0 j = 0 ∨ s.camp.outDone.contains j.val = true ∨ s.camp.outOn.contains j.val = true)) ∧
  (let s : State := base.wr CAMPANILE_TO_CTRL_MODE ((2)) 0 j;
    let s : State := { s with camp := { s.camp with outOn := [j.val] } };
    clocked s = true ∧ 2 ≤ s.rd CAMPANILE_TO_CTRL_MODE 0 j ∧ s.camp.outOn.contains j.val = true) ∧
  (clocked s = true ∧ (s.rd CAMPANILE_TO_CTRL_MODE 0 j < 2 ∨ s.camp.outOn.contains j.val = false)) ∧
  (clocked s = true ∧ bit (s.rd CAMPANILE_CI_CTRL_EDGE 0 k) (if rise then 0 else 1) = false) ∧
  (let s : State := s.wr CAMPANILE_CI_CTRL_EDGE (s.rd CAMPANILE_CI_CTRL_EDGE 0 k ^^^ 2 ^ ((if rise then 0 else 1) : Nat)) 0 k;
    clocked s = true ∧ bit (s.rd CAMPANILE_CI_CTRL_EDGE 0 k) (if rise then 0 else 1) = true ∧
    (s.camp.caps.get [] k).length < 4) ∧
  (let s : State := s.wr CAMPANILE_CI_CTRL_EDGE (s.rd CAMPANILE_CI_CTRL_EDGE 0 k ^^^ 2 ^ ((if rise then 0 else 1) : Nat)) 0 k;
    let s : State := { s with camp := { s.camp with caps := s.camp.caps.set k (List.replicate 4 ⟨7, true, false⟩) } };
    clocked s = true ∧ bit (s.rd CAMPANILE_CI_CTRL_EDGE 0 k) (if rise then 0 else 1) = true ∧
    4 ≤ (s.camp.caps.get [] k).length) ∧
  (let rs : List CapRec := []; let s : State := { s with camp.caps := s.camp.caps.set k (r :: rs) };
    Reads s req .campanile 0 (0x404 + 0x20 * k) ∧ (s.camp.caps.get [] k) = r :: rs) ∧
  (Reads s req .campanile 0 (0x404 + 0x20 * k) ∧ (s.camp.caps.get [] k) = []) ∧
  (let s : State := { s with camp.capLat := s.camp.capLat.set k r };
    Reads s req .campanile 0 (0x40C + 0x20 * k) ∧ findKey s.camp.capLat k = some r) ∧
  (Reads s req .campanile 0 (0x40C + 0x20 * k) ∧ findKey s.camp.capLat k = none) ∧
  (let x : TxRec := ⟨7, 3, 1⟩; let xs : List TxRec := [];
    let s : State := { s with camp.txts := s.camp.txts.set k (x :: xs) };
    Reads s req .campanile 0 (0x508 + 0x10 * k) ∧ s.camp.txts.get [] k = x :: xs) ∧
  (Reads s req .campanile 0 (0x508 + 0x10 * k) ∧ s.camp.txts.get [] k = []) ∧
  (let e : Nat := 3; let s : State := (base.wr SYS_CLKOUT_FMT (2) 0 j).wr SYS_CLKOUT_OE 1 0 j;
    let s : State := { s with camp.ppsIdle := s.camp.ppsIdle.set j e };
    clocked s = true ∧ s.rd SYS_CLKOUT_FMT 0 j = 2 ∧ s.on SYS_CLKOUT_OE 0 j = true ∧ findKey s.camp.ppsIdle j = some e) ∧
  (let s : State := (base.wr SYS_CLKOUT_FMT (2) 0 j).wr SYS_CLKOUT_OE 1 0 j;
    clocked s = true ∧ s.rd SYS_CLKOUT_FMT 0 j = 2 ∧ s.on SYS_CLKOUT_OE 0 j = true ∧ findKey s.camp.ppsIdle j = none) ∧
  (clocked s = true ∧ (s.rd SYS_CLKOUT_FMT 0 j ≠ 2 ∨ s.on SYS_CLKOUT_OE 0 j = false)) := by
  decide +kernel

theorem witness_Campanile_a :
  let req : Req := .core 0 false; let s : State := base
  let ns : BitVec 64 := 6000000; let s : State := base.wr SYS_CSE_STATUS_INIT_DONE 1; let u := startAt s req ns.toNat;
    startAt s req ns.toNat = u ∧ Accepts u req .campanile 0 0x044 1 1 ∧ u.on CAMPANILE_TICK_CTRL_EN = false :=
  ⟨rfl, by decide +kernel, by decide +kernel⟩

theorem witness_Twin :
  let req : Req := .core 0 false; let f : Fin 3 := 1; let k : Fin 8 := 1; let data : BitVec 32 := 5; let verdict : Fin 6 := 1;
  let r : Fin 128 := 1; let e : Nat := 3; let c : Nat := 3; let bytes : List (BitVec 8) := []; let s : State := base;
  (clocked s = true) ∧
  (let link : Fin 4 := 1;
    clocked s = true ∧ link.val ≠ 0) ∧
  (let s : State := base.wr TWIN_STATUS_LINK 1;
    clocked s = true ∧ s.on TWIN_STATUS_LINK = true) ∧
  (clocked s = true ∧ s.on TWIN_STATUS_LINK = false) ∧
  (let s : State := (base.wr TWIN_STATUS_LINK 1).wr TWIN_STATUS_STATE (3);
    clocked s = true ∧ s.on TWIN_STATUS_LINK = true ∧ s.rd TWIN_STATUS_STATE = 3) ∧
  (let msg : CycleMsg := { count := 0, nextLen := 0x1F5D, offset := 12, epoch := 6, holder := true, state := 2, health := 0x0001, full := 0, masks := [], held := 0, req := true, grant := some 2, ack := true, replay := some (true, 9) };
    let s : State := (base.wr TWIN_STATUS_LINK 1).wr TWIN_STATUS_STATE (2);
    clocked s = true ∧ s.on TWIN_STATUS_LINK = true ∧ s.rd TWIN_STATUS_STATE = 2 ∧ s.rd TWIN_CASC_CFG_ROLE ≠ 2 ∧
    msg.holder = true) ∧
  (let msg : CycleMsg := { count := 0, nextLen := 0x1F5D, offset := 12, epoch := 6, holder := true, state := 2, health := 0x0001, full := 0, masks := [], held := 0, req := true, grant := some 2, ack := true, replay := some (true, 9) };
    let s : State := { ((base.wr TWIN_STATUS_LINK 1).wr TWIN_STATUS_STATE (1)) with pipe.running := true };
    let s : State := s.wr SYS_CYCLE_COUNT ((msg.count % 2 ^ SYS_CYCLE_COUNT.width) + 1);
    clocked s = true ∧ s.on TWIN_STATUS_LINK = true ∧ s.rd TWIN_STATUS_STATE = 1 ∧ msg.holder = true ∧ s.pipe.running = true ∧
    s.rd SYS_CYCLE_COUNT ≠ msg.count % 2 ^ SYS_CYCLE_COUNT.width) ∧
  (let msg : CycleMsg := { count := 0, nextLen := 0x1F5D, offset := 12, epoch := 6, holder := true, state := 2, health := 0x0001, full := 0, masks := [], held := 0, req := true, grant := some 2, ack := true, replay := some (true, 9) };
    let s : State := { (base.wr TWIN_STATUS_LINK 1) with twin.startEnd := some 0 };
    clocked s = true ∧ s.on TWIN_STATUS_LINK = true ∧ s.rd TWIN_STATUS_STATE = 0 ∧ msg.holder = true ∧
    s.twin.startEnd.isSome = true) ∧
  (clocked s = true ∧ (s.rd TWIN_CASC_CFG_ROLE ≠ 2 ∨ s.rd TWIN_CASC_STATUS_LINK = 0)) ∧
  (let s : State := { ((base.wr TWIN_CASC_CFG_ROLE (2)).wr TWIN_CASC_STATUS_LINK ((0) + 1)) with twin.joined := true };
    let s : State := s.wr TWIN_STATUS_STATE (2);
    clocked s = true ∧ s.rd TWIN_CASC_CFG_ROLE = 2 ∧ s.rd TWIN_CASC_STATUS_LINK ≠ 0 ∧ s.twin.joined = true ∧
    (s.rd TWIN_STATUS_STATE = 2 ∨ s.rd TWIN_STATUS_STATE = 3)) ∧
  (let s : State := (base.wr TWIN_CASC_CFG_ROLE 1).wr TWIN_CASC_CFG_FOLLOWERS 7;
    Accepts s req .twin 0 (0x100 + 4 * (8 * f.val + k.val)) data.toNat 0xFFFFFFFF) ∧
  (clocked s = true ∧ s.rd TWIN_CASC_CFG_ROLE ≠ 2) ∧
  (let s : State := base.wr TWIN_CASC_CFG_ROLE (2);
    clocked s = true ∧ s.rd TWIN_CASC_CFG_ROLE = 2 ∧ s.on ARM_CTRL_MOD_SRC k = false ∧
    firstRefusal (armNCodes s k data.toNat) = OK ∧ s.pipe.running = false) ∧
  (let data : BitVec 32 := 4095; let s : State := base.wr TWIN_CASC_CFG_ROLE (2);
    clocked s = true ∧ s.rd TWIN_CASC_CFG_ROLE = 2 ∧ s.on ARM_CTRL_MOD_SRC k = false ∧
    firstRefusal (armNCodes s k data.toNat) ≠ OK ∧ s.rd ARM_ERR_CODE k = 0) ∧
  (clocked s = true ∧ s.rd TWIN_CASC_CFG_ROLE ≠ 1) ∧
  (let sr : SumRec := ⟨1, []⟩; let s : State := base.wr TWIN_CASC_CFG_ROLE (1);
    clocked s = true ∧ s.rd TWIN_CASC_CFG_ROLE = 1 ∧ Memory.wf s.bytes = true ∧ s.on SCAN_STATUS_BUSY = false ∧
    (s.rd TWIN_CASC_SUM_BASE_ADDR * 32 + (f.val * 8 + sr.arm % 8) * 32) < 0x4000000 ∧
    guarded s 18 (s.rd TWIN_CASC_SUM_BASE_ADDR * 32 + (f.val * 8 + sr.arm % 8) * 32) 32 = false ∧
    findKey s.lineChk ((s.rd TWIN_CASC_SUM_BASE_ADDR * 32 + (f.val * 8 + sr.arm % 8) * 32) / 64) = none) ∧
  (let s : State := base.wr TWIN_CASC_CFG_ROLE (2); let s : State := s.wr TWIN_CASC_CFG_LOSS_CYC (s.twin.masterMiss);
    clocked s = true ∧ s.rd TWIN_CASC_CFG_ROLE = 2 ∧ s.on TWIN_CASC_STATUS_MASTER_LOST = false ∧
    s.rd TWIN_CASC_CFG_LOSS_CYC ≤ s.twin.masterMiss) ∧
  (clocked s = true ∧
    (s.rd TWIN_CASC_CFG_ROLE ≠ 2 ∨ s.on TWIN_CASC_STATUS_MASTER_LOST = true ∨ s.twin.masterMiss < s.rd TWIN_CASC_CFG_LOSS_CYC)) ∧
  (let s : State := base.wr TWIN_CASC_CFG_ROLE (1); let s : State := s.wr TWIN_CASC_CFG_LOSS_CYC (s.twin.sumsMiss.get 0 f);
    clocked s = true ∧ s.rd TWIN_CASC_CFG_ROLE = 1 ∧ bit (s.rd TWIN_CASC_STATUS_LOST) f = false ∧
    s.rd TWIN_CASC_CFG_LOSS_CYC ≤ s.twin.sumsMiss.get 0 f) ∧
  (clocked s = true ∧
    (s.rd TWIN_CASC_CFG_ROLE ≠ 1 ∨ bit (s.rd TWIN_CASC_STATUS_LOST) f = true ∨ s.twin.sumsMiss.get 0 f < s.rd TWIN_CASC_CFG_LOSS_CYC)) ∧
  (let s : State := ({ ({ base with pipe.running := true }) with pipe.retPassed := true }).wr TWIN_STATUS_STATE ((1));
    clocked s = true ∧ s.pipe.running = true ∧ s.pipe.retPassed = true ∧ s.pipe.maskPassed = false ∧
    1 ≤ s.rd TWIN_STATUS_STATE ∧ s.rd TWIN_STATUS_STATE ≤ 3) ∧
  (clocked s = true ∧
    (s.pipe.running = false ∨ s.pipe.retPassed = false ∨ s.pipe.maskPassed = true ∨ s.rd TWIN_STATUS_STATE = 0)) ∧
  (let verdict : Fin 6 := 0; let s : State := base.wr TWIN_STATUS_STATE (3);
    clocked s = true ∧ verdict.val = 0 ∧ s.rd TWIN_STATUS_STATE = 3) ∧
  (let s : State := (base.wr TWIN_CASC_CFG_ROLE (1)).wr TWIN_STATUS_STATE (3);
    clocked s = true ∧ verdict.val ≠ 0 ∧ s.rd TWIN_CASC_CFG_ROLE = 1 ∧ s.rd TWIN_STATUS_STATE = 3) ∧
  (clocked s = true ∧ verdict.val ≠ 0 ∧ s.rd TWIN_CASC_CFG_ROLE ≠ 1) ∧
  (clocked s = true ∧ (s.rd TWIN_STATUS_STATE = 0 ∨ s.pipe.running = false ∨ s.pipe.retPassed = true)) ∧
  (let p : Fin 32 := 1; let stat : Stat := { present := true };
    let s : State := ({ (base.wr TWIN_STATUS_STATE ((0) + 1)) with pipe.running := true }).wr RING_CTRL_EN 1 r;
    clocked s = true ∧ s.rd TWIN_STATUS_STATE ≠ 0 ∧ s.pipe.running = true ∧ s.pipe.retPassed = false ∧ stat.present = true ∧
    processed s r p = true) ∧
  (clocked s = true ∧ s.rd TWIN_STATUS_STATE ≠ 2 ∧ s.rd TWIN_STATUS_STATE ≠ 3) ∧
  (let v : Nat := 3; let run : Nat := 3; let a : Fin 4 := 1; let n : Fin 16 := 1;
    let s : State := { (base.wr TWIN_STATUS_STATE (3)) with sig.meas := [(e, .adc a n v false run)] };
    clocked s = true ∧ s.rd TWIN_STATUS_STATE = 3 ∧ s.sig.meas = [(e, .adc a n v false run)] ∧ s.on ADC_CFG_CUP_EN a = false) ∧
  (clocked s = true ∧ s.twin.frozen = none) ∧
  (let x : ReplayRec := { cycle := 9, regs := [], entries := [], arms := [] };
    let s : State := { base with twin.frozen := some x };
    clocked s = true ∧ s.twin.frozen = some x) ∧
  (let s : State := base.wr TWIN_STATUS_STATE (2); let s : State := s.wr TWIN_CFG_LEASE_MISS (s.twin.misses);
    clocked s = true ∧ s.rd TWIN_STATUS_STATE = 2 ∧ s.rd TWIN_CFG_LEASE_MISS ≤ s.twin.misses ∧ s.rd TWIN_CASC_CFG_ROLE ≠ 2 ∧
    s.rd TWIN_HEALTH_OWN &&& s.twin.fatalMask = 0) ∧
  (clocked s = true ∧
    (s.rd TWIN_STATUS_STATE ≠ 2 ∨ s.twin.misses < s.rd TWIN_CFG_LEASE_MISS ∨ s.rd TWIN_CASC_CFG_ROLE = 2 ∨ ¬(s.rd TWIN_HEALTH_OWN &&& s.twin.fatalMask = 0))) ∧
  (clocked s = true ∧ s.twin.startEnd = none) ∧
  (let s : State := { base with twin.startEnd := some e };
    clocked s = true ∧ s.twin.startEnd = some e) ∧
  (clocked s = true ∧ s.twin.grant ≠ some (s.rd SYS_CYCLE_COUNT)) ∧
  (let s : State := ({ s with twin.grant := some (s.rd SYS_CYCLE_COUNT) }).wr TWIN_STATUS_STATE (2);
    clocked s = true ∧ s.twin.grant = some (s.rd SYS_CYCLE_COUNT) ∧ s.rd TWIN_STATUS_STATE = 2 ∧
    s.rd TWIN_HEALTH_OWN &&& s.twin.fatalMask = 0) ∧
  (let s : State := { (({ s with twin.grant := some (s.rd SYS_CYCLE_COUNT) }).wr TWIN_STATUS_STATE (3)) with twin.ack := true };
    clocked s = true ∧ s.twin.grant = some (s.rd SYS_CYCLE_COUNT) ∧ s.rd TWIN_STATUS_STATE = 3 ∧ s.twin.ack = true ∧
    s.twin.selfFault = false) ∧
  (let s : State := base.wr TWIN_CTRL_UNIT 1;
    Accepts s req .twin 0 0x000 1 1 ∧ s.rd TWIN_STATUS_STATE = 0 ∧ s.twin.startEnd = none ∧ s.rd TWIN_CTRL_PREFER = 0 ∧
    s.on TWIN_CTRL_UNIT = true) ∧
  (let s : State := s.wr TWIN_CTRL_PREFER (1 + s.rd TWIN_CTRL_UNIT);
    Accepts s req .twin 0 0x000 1 1 ∧ s.rd TWIN_STATUS_STATE = 0 ∧ s.twin.startEnd = none ∧
    s.rd TWIN_CTRL_PREFER = 1 + s.rd TWIN_CTRL_UNIT) ∧
  (let s : State := base.wr TWIN_STATUS_STATE ((0) + 1);
    Accepts s req .twin 0 0x000 0 1 ∧ s.rd TWIN_STATUS_STATE ≠ 0) ∧
  (let s : State := (base.wr TWIN_CTRL_EN 1).wr TWIN_STATUS_STATE 4;
    Accepts s req .twin 0 0x000 16 16 ∧ s.on TWIN_CTRL_EN = true) ∧
  (let s : State := base.wr TWIN_CTRL_EN 1;
    let s : State := { (s.wr TWIN_STATUS_STATE 3) with twin := { s.twin with peerState := 2 } };
    Accepts s req .twin 0 0x000 32 32 ∧ s.on TWIN_CTRL_EN = true) ∧
  (let s : State := (base.wr TWIN_CTRL_EN 1).wr TWIN_STATUS_STATE 1;
    Accepts s req .twin 0 0x000 64 64 ∧ s.on TWIN_CTRL_EN = true) ∧
  (clocked s = true ∧ (s.rd TWIN_STATUS_STATE ≠ 1 ∨ s.on TWIN_STATUS_LINK = false)) ∧
  (let s : State := (base.wr TWIN_STATUS_STATE (1)).wr TWIN_STATUS_LINK 1;
    clocked s = true ∧ s.rd TWIN_STATUS_STATE = 1 ∧ s.on TWIN_STATUS_LINK = true) ∧
  (clocked s = true ∧ s.rd TWIN_STATUS_STATE ≠ 2) ∧
  (let d : Nat := 0; let s : State := ((base.wr TWIN_STATUS_STATE (2)).wr RING_CTRL_EN 1 r).wr ARM_RING_MASK_MASK 2 0 0;
    let s : State := s.updEntry 32 (fun e => { e with cmd := { e.cmd with state := 2 } });
    clocked s = true ∧ s.rd TWIN_STATUS_STATE = 2 ∧
    firstDiff 0 ((ringCells s r).map (fun c => Cmd.ofBytes ((nats bytes).drop (4 * (c % 32))))) ((ringCells s r).map (fun c => (s.entry c).cmd)) = some d) ∧
  (let s : State := base.wr TWIN_STATUS_STATE (2);
    clocked s = true ∧ s.rd TWIN_STATUS_STATE = 2 ∧
    ((ringCells s r).map (fun c => Cmd.ofBytes ((nats bytes).drop (4 * (c % 32))))) = ((ringCells s r).map (fun c => (s.entry c).cmd))) := by
  decide +kernel

theorem witness_Keep :
  let i : Fin 8 := 1; let ms : BitVec 16 := 100; let m : Fin 4 := 1; let e : Nat := 3; let req : Req := .safety;
  let s : State := base;
  (let mask : BitVec 8 := 2;
    keepUp s = true ∧ i.val < 8 ∧ bit mask.toNat i = true ∧ (kinFunc s i = 1 ∨ kinFunc s i = 2)) ∧
  (let mask : BitVec 8 := 5; let j : Nat := 0; let s : State := (base.wr KEEP_KIN_FUNC 0 0 0).wr KEEP_KIN_FUNC 0 0 2;
    keepUp s = true ∧ bit mask.toNat j = true ∧ ¬(1 ≤ kinFunc s j ∧ kinFunc s j ≤ 3)) ∧
  (keepUp s = true) ∧
  (let ms : BitVec 16 := 5;
    keepUp s = true ∧ (kinFunc s i ≠ 4 ∨ ms.toNat < 50 ∨ 2000 < ms.toNat)) ∧
  (let s : State := (base.wr KEEP_KIN_FUNC 4 0 1).wr KEEP_INPUTS_DEMAND 0;
    keepUp s = true ∧ kinFunc s i = 4 ∧ kinPaired s i = false ∧ 50 ≤ ms.toNat ∧ ms.toNat ≤ 2000 ∧ releaseCodes s = []) ∧
  (let s : State := (base.wr KEEP_KIN_FUNC 4 0 1).wr KEEP_INPUTS_DEMAND 1;
    keepUp s = true ∧ kinFunc s i = 4 ∧ kinPaired s i = false ∧ 50 ≤ ms.toNat ∧ ms.toNat ≤ 2000 ∧ releaseCodes s ≠ []) ∧
  (keepUp s = true ∧ (findKey s.keep.disagree m = none ∨ kinPaired s (2 * m) = false)) ∧
  (let s : State := ({ s with keep.disagree := s.keep.disagree.set m e }).wr KEEP_KIN_PAIRED 1 0 2;
    keepUp s = true ∧ findKey s.keep.disagree m = some e ∧ kinPaired s (2 * m) = true) ∧
  (let s : State := base.wr KEEP_INPUTS_DEMAND 0;
    KeepAccepts s req 0x000 1 1) ∧
  (KeepAccepts s req 0x000 2 2 ∧ s.on KEEP_STATUS_SPW = false ∧ s.on KEEP_STATUS_SGR = true) ∧
  (let req : Req := .core 0 false; let s : State := (base.wr KEEP_STATUS_SGR 0).wr ADC_PLAUS_EN 1 0;
    KeepAccepts s req 0x000 2 2 ∧ s.on KEEP_STATUS_SPW = false ∧ s.on KEEP_STATUS_SGR = false ∧ s.on ADC_PLAUS_EN 0 = true) ∧
  (let req : Req := .core 0 false; let s : State := base.wr KEEP_STATUS_SGR 0;
    KeepAccepts s req 0x000 2 2 ∧ s.on KEEP_STATUS_SPW = false ∧ s.on KEEP_STATUS_SGR = false ∧ s.on ADC_PLAUS_EN 0 = false) ∧
  (let req : Req := .core 0 false; let s : State := base.wr KEEP_STATUS_SPW 1;
    KeepAccepts s req 0x000 2 2 ∧ s.on KEEP_STATUS_SPW = true) ∧
  (let req : Req := .core 0 false;
    KeepAccepts s req 0x000 4 4 ∧ s.on KEEP_STATUS_SPW = false) ∧
  (let req : Req := .core 0 false; let s : State := base.wr KEEP_STATUS_SPW 1;
    KeepAccepts s req 0x000 4 4 ∧ s.on KEEP_STATUS_SPW = true) ∧
  (keepUp s = true ∧ (s.on KEEP_STATUS_SPW = false ∨ s.keep.freshA = false ∨ s.keep.freshB = false)) ∧
  (let s : State := { ({ (base.wr KEEP_STATUS_SPW 1) with keep.freshA := true }) with keep.freshB := true };
    let s : State := s.wr KEEP_RAMP_CNT_CNT (s.keep.doneRun + 1);
    keepUp s = true ∧ s.on KEEP_STATUS_SPW = true ∧ s.keep.freshA = true ∧ s.keep.freshB = true ∧
    (max (sx 24 (s.sig.own.get 0 (s.rd ADC_PLAUS_ENT_A 0)) * ((8 / adcGain s 0 (s.rd ADC_PLAUS_ENT_A 0) : Nat) : Int)).natAbs (sx 24 (s.sig.own.get 0 (16 + (s.rd ADC_PLAUS_ENT_B 0))) * ((8 / adcGain s 1 (s.rd ADC_PLAUS_ENT_B 0) : Nat) : Int)).natAbs) ≤ s.rd KEEP_RAMP_END_V ∧
    s.rd KEEP_RAMP_CNT_CNT ≤ s.keep.doneRun + 1) ∧
  (let s : State := { ({ (base.wr KEEP_STATUS_SPW 1) with keep.freshA := true }) with keep.freshB := true };
    let s : State := { s with sig := { s.sig with own := [(0, 500), (16, 400)] }, keep := { s.keep with highRun := 5, doneRun := 2 } };
    keepUp s = true ∧ s.on KEEP_STATUS_SPW = true ∧ s.keep.freshA = true ∧ s.keep.freshB = true ∧
    s.rd KEEP_RAMP_END_V < (max (sx 24 (s.sig.own.get 0 (s.rd ADC_PLAUS_ENT_A 0)) * ((8 / adcGain s 0 (s.rd ADC_PLAUS_ENT_A 0) : Nat) : Int)).natAbs (sx 24 (s.sig.own.get 0 (16 + (s.rd ADC_PLAUS_ENT_B 0))) * ((8 / adcGain s 1 (s.rd ADC_PLAUS_ENT_B 0) : Nat) : Int)).natAbs) ∧
    rampNow s < (max (sx 24 (s.sig.own.get 0 (s.rd ADC_PLAUS_ENT_A 0)) * ((8 / adcGain s 0 (s.rd ADC_PLAUS_ENT_A 0) : Nat) : Int)).natAbs (sx 24 (s.sig.own.get 0 (16 + (s.rd ADC_PLAUS_ENT_B 0))) * ((8 / adcGain s 1 (s.rd ADC_PLAUS_ENT_B 0) : Nat) : Int)).natAbs) ∧
    1 ≤ s.rd KEEP_RAMP_CNT_CNT ∧ s.rd KEEP_RAMP_CNT_CNT ≤ s.keep.highRun + 1) ∧
  (let s : State := { ({ (base.wr KEEP_STATUS_SPW 1) with keep.freshA := true }) with keep.freshB := true };
    let s : State := { s with sig := { s.sig with own := [(0, 500), (16, 400)] }, keep := { s.keep with highRun := 2 } };
    let s : State := (((s.wr KEEP_RAMP_END_V 0).wr KEEP_RAMP_START_V 9000).wr KEEP_RAMP_CNT_MON_TOL 1000).wr ADC_PLAUS_ENT_B 0;
    keepUp s = true ∧ s.on KEEP_STATUS_SPW = true ∧ s.keep.freshA = true ∧ s.keep.freshB = true ∧
    s.rd KEEP_RAMP_END_V < (max (sx 24 (s.sig.own.get 0 (s.rd ADC_PLAUS_ENT_A 0)) * ((8 / adcGain s 0 (s.rd ADC_PLAUS_ENT_A 0) : Nat) : Int)).natAbs (sx 24 (s.sig.own.get 0 (16 + (s.rd ADC_PLAUS_ENT_B 0))) * ((8 / adcGain s 1 (s.rd ADC_PLAUS_ENT_B 0) : Nat) : Int)).natAbs) ∧
    (max (sx 24 (s.sig.own.get 0 (s.rd ADC_PLAUS_ENT_A 0)) * ((8 / adcGain s 0 (s.rd ADC_PLAUS_ENT_A 0) : Nat) : Int)).natAbs (sx 24 (s.sig.own.get 0 (16 + (s.rd ADC_PLAUS_ENT_B 0))) * ((8 / adcGain s 1 (s.rd ADC_PLAUS_ENT_B 0) : Nat) : Int)).natAbs) ≤ rampNow s ∧
    ((sx 24 (s.sig.own.get 0 (s.rd ADC_PLAUS_ENT_A 0)) * ((8 / adcGain s 0 (s.rd ADC_PLAUS_ENT_A 0) : Nat) : Int)) - (sx 24 (s.sig.own.get 0 (16 + (s.rd ADC_PLAUS_ENT_B 0))) * ((8 / adcGain s 1 (s.rd ADC_PLAUS_ENT_B 0) : Nat) : Int))).natAbs ≤ s.rd KEEP_RAMP_CNT_MON_TOL ∧
    1 ≤ s.rd KEEP_RAMP_CNT_CNT) ∧
  (keepUp s = true ∧ s.on KEEP_STATUS_SPW = false) ∧
  (let s : State := base.wr KEEP_STATUS_SPW 1;
    keepUp s = true ∧ s.on KEEP_STATUS_SPW = true) ∧
  (keepUp s = true ∧ (findKey s.keep.discSince m = none ∨ s.on KEEP_FBPAIR_EN 0 m = false)) ∧
  (let s : State := ({ s with keep.discSince := s.keep.discSince.set m e }).wr KEEP_FBPAIR_EN 1 0 m;
    keepUp s = true ∧ findKey s.keep.discSince m = some e ∧ s.on KEEP_FBPAIR_EN 0 m = true) ∧
  (keepUp s = true ∧ findKey s.keep.follow m = none) ∧
  (let s : State := { s with keep.follow := s.keep.follow.set m e };
    keepUp s = true ∧ findKey s.keep.follow m = some e) ∧
  (let cause : BitVec 4 := 5;
    keepUp s = true ∧ 1 ≤ cause.toNat ∧ cause.toNat ≤ 8 ∧ s.on KEEP_STATUS_SAFE_FAULT = false) ∧
  (let cause : BitVec 4 := 0;
    keepUp s = true ∧ (cause.toNat = 0 ∨ 8 < cause.toNat ∨ s.on KEEP_STATUS_SAFE_FAULT = true)) ∧
  (keepUp s = true ∧ s.on KEEP_STATUS_SAFE_FAULT = false) ∧
  (keepUp s = true ∧ (s.keep.crc = none ∨ s.keep.crc = some (appliedCrc s))) ∧
  (let c : Nat := 3; let s : State := { base with keep.crc := some c };
    keepUp s = true ∧ s.keep.crc = some c ∧ c ≠ appliedCrc s ∧ s.on KEEP_STATUS_SAFE_FAULT = false) ∧
  (let o : BitVec 12 := 0x101; let data : BitVec 32 := 0x00640C0A;
    let s : State := (base.wr KEEP_CFG_STATUS_UNLOCKED 1).wr KEEP_CFG_STATUS_PORT 0;
    KeepAccepts s req (o.toNat - o.toNat % 4) data.toNat 0xFFFFFFFF ∧ keepConfigOffs.contains (o.toNat - o.toNat % 4) = true) ∧
  (KeepAccepts s req 0x210 1 1 ∧ s.on KEEP_CFG_STATUS_LOCKOUT = false ∧ sha384 (passBytes s) = storedDigest s) ∧
  (let s : State := { s with keep := { s.keep with pass := [(0, 5)] } };
    KeepAccepts s req 0x210 1 1 ∧ s.on KEEP_CFG_STATUS_LOCKOUT = false ∧ sha384 (passBytes s) ≠ storedDigest s ∧
    s.rd KEEP_CFG_STATUS_FAILS < 2) ∧
  (let s : State := base.wr KEEP_CFG_STATUS_FAILS ((2)); let s : State := { s with keep := { s.keep with pass := [(0, 5)] } };
    KeepAccepts s req 0x210 1 1 ∧ s.on KEEP_CFG_STATUS_LOCKOUT = false ∧ sha384 (passBytes s) ≠ storedDigest s ∧
    2 ≤ s.rd KEEP_CFG_STATUS_FAILS) ∧
  (let s : State := base.wr KEEP_CFG_STATUS_LOCKOUT 1;
    KeepAccepts s req 0x210 1 1 ∧ s.on KEEP_CFG_STATUS_LOCKOUT = true) ∧
  (let s : State := (base.wr KEEP_CFG_STATUS_UNLOCKED 1).wr KEEP_CFG_STATUS_PORT 0;
    let s : State := { s with keep := { s.keep with digest := some [1] }, staged := [(KEEP_KIN_FILT.key 0 0, ⟨.commit, 0, 7, 0, []⟩), (KEEP_FBPAIR_EN.key 0 0, ⟨.commit, 0, 1, 0, []⟩)] };
    KeepAccepts s req 0x210 2 2 ∧ (s.staged.map Prod.fst).Nodup ∧
    (∀ g ∈ keepConfigFields, ∀ j < g.cnt, ∀ x ∈ findKey s.staged (g.key 0 j), x.cls = .commit)) ∧
  (KeepAccepts s req 0x210 4 4) ∧
  (KeepAccepts s req 0x210 8 8) ∧
  (let s : State := (base.wr KEEP_CFG_STATUS_UNLOCKED 1).wr KEEP_CFG_STATUS_PORT 0;
    KeepAccepts s req 0x210 16 16) ∧
  (let s : State := (base.wr KEEP_CFG_STATUS_UNLOCKED 1).wr KEEP_CFG_STATUS_PORT 0;
    KeepAccepts s req 0x210 32 32) ∧
  (keepUp s = true ∧ s.on KEEP_CFG_STATUS_UNLOCKED = false) ∧
  (let s : State := base.wr KEEP_CFG_STATUS_UNLOCKED 1;
    keepUp s = true ∧ s.on KEEP_CFG_STATUS_UNLOCKED = true) ∧
  (keepUp s = true ∧ s.on KEEP_CFG_STATUS_LOCKOUT = false) ∧
  (let s : State := base.wr KEEP_CFG_STATUS_LOCKOUT 1;
    keepUp s = true ∧ s.on KEEP_CFG_STATUS_LOCKOUT = true) := by
  decide +kernel

theorem witness_PowerAndReset :
  let req : Req := .core 0 false; let st : Fin 5 := 1; let pin : Fin 4 := 1; let rise : Bool := true;
  let addr : BitVec 7 := 0x2C; let s : State := base;
  (Accepts s req .lantern 0 0x000 0 7 ∧ s.rd LANTERN_STATUS_STATE = 0 ∧ s.lant.step = 0) ∧
  (let s : State := base.wr LANTERN_STATUS_STATE ((0) + 1);
    Accepts s req .lantern 0 0x000 0 7 ∧ s.rd LANTERN_STATUS_STATE ≠ 0 ∧ s.lant.step = 0 ∧ s.on LANTERN_STATUS_BUSY = false) ∧
  (let s : State := { base with lant.step := (0) + 1 };
    Accepts s req .lantern 0 0x000 0 7 ∧ 0 < s.lant.step ∧ s.rd LANTERN_STATUS_TARGET ≤ 2) ∧
  (let s : State := ({ base with lant.step := (0) + 1 }).wr LANTERN_STATUS_TARGET ((2) + 1);
    Accepts s req .lantern 0 0x000 0 7 ∧ 0 < s.lant.step ∧ 2 < s.rd LANTERN_STATUS_TARGET) ∧
  (Accepts s req .lantern 0 0x000 st.val 7 ∧ st.val ≠ 0 ∧ s.on LANTERN_STATUS_BUSY = false) ∧
  (let s : State := base.wr LANTERN_STATUS_BUSY 1;
    Accepts s req .lantern 0 0x000 st.val 7 ∧ st.val ≠ 0 ∧ s.on LANTERN_STATUS_BUSY = true) ∧
  (let s : State := (s.wr LANTERN_ALARM_TICK (tickNow s)).wr LANTERN_ALARM_HI_ALARM_EN 1;
    Accepts s req .lantern 0 0x000 7 7 ∧ autoChoice s = none) ∧
  (let n : Nat := 2;
    Accepts s req .lantern 0 0x000 7 7 ∧ autoChoice s = some n ∧ n ≤ 4 ∧ s.on LANTERN_STATUS_BUSY = false) ∧
  ((s.lant.step = 0 ∨ 5 < s.lant.step)) ∧
  (let s : State := { base with lant.step := 1 };
    s.lant.step = 1 ∧ s.rd LANTERN_STATUS_TARGET ≤ 2 ∧ s.lant.wake = false ∧ s.rd LANTERN_STATUS_QUEUED = 0) ∧
  (let s : State := { base with lant.step := 2 };
    s.lant.step = 2 ∧ s.lant.wake = false) ∧
  (let s : State := { base with lant.step := 2 };
    s.lant.step = 2) ∧
  (let s : State := { base with lant.step := 3 };
    s.lant.step = 3 ∧ s.lant.wake = false) ∧
  (let s : State := { ({ base with lant.step := 3 }) with lant.wake := true };
    s.lant.step = 3 ∧ s.lant.wake = true) ∧
  (let s : State := { base with lant.step := 4 };
    s.lant.step = 4) ∧
  (let s : State := ({ base with lant.step := 5 }).wr LANTERN_STATUS_TARGET (3);
    s.lant.step = 5 ∧ (s.rd LANTERN_STATUS_TARGET = 3 ∨ s.rd LANTERN_STATUS_TARGET = 4) ∧ s.lant.wake = false ∧
    s.rd LANTERN_STATUS_QUEUED = 0) ∧
  ((s.lant.step ≠ 0 ∨ exitReady s = false)) ∧
  (let s : State := ({ base with lant.wake := true }).wr LANTERN_STATUS_STATE (1);
    s.lant.step = 0 ∧ s.lant.wake = true ∧ (s.rd LANTERN_STATUS_STATE = 1 ∨ s.rd LANTERN_STATUS_STATE = 2) ∧
    s.rd LANTERN_STATUS_QUEUED = 0 ∧ s.lant.portHeld = none) ∧
  (let s : State := ({ base with lant.wake := true }).wr LANTERN_STATUS_STATE (3);
    s.lant.step = 0 ∧ s.lant.wake = true ∧ s.rd LANTERN_STATUS_STATE = 3 ∧ clocked s = true ∧ s.rst.pgood = true ∧
    s.rd LANTERN_STATUS_QUEUED = 0 ∧ s.lant.portHeld = none) ∧
  (let s : State := s.wr LANTERN_WAKE_CFG_EDGE (s.rd LANTERN_WAKE_CFG_EDGE ^^^ 2 ^ ((2 * pin + if rise then 0 else 1) : Nat));
    clocked s = true ∧ bit (s.rd LANTERN_WAKE_CFG_EDGE) (2 * pin + if rise then 0 else 1) = false) ∧
  (clocked s = true ∧ bit (s.rd LANTERN_WAKE_CFG_EDGE) (2 * pin + if rise then 0 else 1) = true ∧
    bit (s.rd LANTERN_WAKE_EN_EN) pin = true ∧ s.rd LANTERN_STATUS_STATE = 0 ∧ s.lant.step = 0) ∧
  (let s : State := base.wr LANTERN_STATUS_STATE ((0) + 1);
    bit (s.rd LANTERN_WAKE_CFG_EDGE) (2 * pin + if rise then 0 else 1) = true ∧ bit (s.rd LANTERN_WAKE_EN_EN) pin = true ∧
    s.rd LANTERN_STATUS_STATE ≠ 0 ∧ s.lant.step = 0 ∧ s.on LANTERN_STATUS_BUSY = false) ∧
  (s.on LANTERN_ALARM_HI_ALARM_EN = false) ∧
  (let s : State := base.wr LANTERN_ALARM_HI_ALARM_EN 1;
    s.on LANTERN_ALARM_HI_ALARM_EN = true ∧ clocked s = true ∧ s.rd LANTERN_STATUS_STATE = 0 ∧ s.lant.step = 0) ∧
  (let s : State := (base.wr LANTERN_ALARM_HI_ALARM_EN 1).wr LANTERN_STATUS_STATE ((0) + 1);
    s.on LANTERN_ALARM_HI_ALARM_EN = true ∧ bit (s.rd LANTERN_WAKE_EN_EN) 4 = true ∧ s.rd LANTERN_STATUS_STATE ≠ 0 ∧
    s.lant.step = 0 ∧ s.on LANTERN_STATUS_BUSY = false) ∧
  (let s : State := base.wr LANTERN_PORT_EN 0;
    (s.on LANTERN_PORT_EN = false ∨ addr.toNat ≠ s.rd LANTERN_PORT_ADDR ∨ s.lant.held = true)) ∧
  (s.on LANTERN_PORT_EN = true ∧ addr.toNat = s.rd LANTERN_PORT_ADDR ∧ s.lant.held = false ∧ clocked s = true ∧
    s.rd LANTERN_STATUS_STATE = 0 ∧ s.lant.step = 0) ∧
  (let s : State := base.wr LANTERN_STATUS_STATE (3);
    s.on LANTERN_PORT_EN = true ∧ addr.toNat = s.rd LANTERN_PORT_ADDR ∧ s.lant.held = false ∧
    bit (s.rd LANTERN_WAKE_EN_EN) 5 = true ∧ s.rd LANTERN_STATUS_STATE = 3 ∧ s.lant.step = 0 ∧
    s.on LANTERN_STATUS_BUSY = false) ∧
  (let s : State := base.wr LANTERN_STATUS_STATE (4);
    s.on LANTERN_PORT_EN = true ∧ addr.toNat = s.rd LANTERN_PORT_ADDR ∧ s.lant.held = false ∧
    bit (s.rd LANTERN_WAKE_EN_EN) 5 = true ∧ s.rd LANTERN_STATUS_STATE = 4 ∧ s.lant.step = 0 ∧
    s.on LANTERN_STATUS_BUSY = false) ∧
  (s.lant.held = false) ∧
  (let s : State := { base with lant.held := true };
    s.lant.held = true) ∧
  ((bit (s.rd LANTERN_WAKE_EN_EN) 6 = false ∨ s.lant.step = 0 ∧ s.rd LANTERN_STATUS_STATE ≠ 1 ∧ s.rd LANTERN_STATUS_STATE ≠ 2)) ∧
  (let s : State := (s.wr LANTERN_WAKE_EN_EN (s.rd LANTERN_WAKE_EN_EN ^^^ 2 ^ (6 : Nat))).wr LANTERN_STATUS_STATE (1);
    bit (s.rd LANTERN_WAKE_EN_EN) 6 = true ∧ (s.rd LANTERN_STATUS_STATE = 1 ∨ s.rd LANTERN_STATUS_STATE = 2) ∧
    s.lant.step = 0 ∧ s.on LANTERN_STATUS_BUSY = false) ∧
  (s.rst.asserted = none) ∧
  (let s : State := { base with rst.asserted := some 0 };
    s.rst.asserted.isSome = true) ∧
  (let s : State := (base.wr SYS_CLK_STATUS_LOCK 0).wr SYS_CLK_STATUS_REF_OK 1;
    s.rst.asserted = none ∧ (s.rd LANTERN_STATUS_STATE ≠ 3 ∨ s.lant.wake = true) ∧ s.lant.step ≠ 5 ∧ clocked s = false ∧
    s.on SYS_CLK_STATUS_REF_OK = true) ∧
  ((s.rst.asserted.isSome = true ∨ clocked s = true ∨ s.on SYS_CLK_STATUS_REF_OK = false)) ∧
  (let s : State := base.wr SYS_CLK_STATUS_LOCK 0;
    clocked s = false) ∧
  (clocked s = true ∧ s.rst.asserted = none ∧ s.lant.held = false ∧ (s.rd LANTERN_STATUS_STATE ≠ 4 ∨ s.rst.pgood = true)) ∧
  (let s : State := { base with rst.asserted := some 0 };
    (s.rst.asserted.isSome = true ∨ s.lant.held = true)) ∧
  (s.rst.asserted = none ∧ s.lant.held = false ∧ (s.rd LANTERN_STATUS_STATE ≠ 4 ∨ s.rst.pgood = true)) ∧
  ((s.rd LANTERN_STATUS_STATE ≠ 4 ∨ s.lant.wake = false)) ∧
  (let s : State := { (base.wr LANTERN_STATUS_STATE (4)) with lant.wake := true };
    s.rd LANTERN_STATUS_STATE = 4 ∧ s.lant.wake = true ∧ s.rst.asserted = none ∧ s.lant.held = false) ∧
  (let s : State := base.wr LANTERN_STATUS_STATE ((3));
    3 ≤ s.rd LANTERN_STATUS_STATE ∧ (s.lant.wake = false ∨ s.rst.pgood = false)) ∧
  (let s : State := { (base.wr LANTERN_STATUS_STATE 3) with lant.wake := true };
    (s.rd LANTERN_STATUS_STATE < 3 ∨ s.lant.wake = true ∧ s.rst.pgood = true) ∧ s.lant.step = 0 ∧ s.rst.asserted = none ∧
    s.lant.held = false) ∧
  (Accepts s req .sys 0 0x540 0xA501 0xFF03 ∧ s.rst.asserted = none ∧ s.lant.held = false) ∧
  (Accepts s req .sys 0 0x540 0xA502 0xFF03 ∧ s.rst.asserted = none ∧ s.lant.held = false) ∧
  (Accepts s req .sys 0 0x548 1 1 ∧ s.on SYS_WDT_CTRL_EN = false) ∧
  (let s : State := base.wr SYS_WDT_CTRL_EN 1;
    Accepts s req .sys 0 0x548 1 1 ∧ s.on SYS_WDT_CTRL_EN = true) ∧
  (let s : State := base.wr SYS_WDT_CTRL_EN 1;
    Accepts s req .sys 0 0x54C 1 1 ∧ s.on SYS_WDT_CTRL_EN = true) ∧
  (Accepts s req .sys 0 0x54C 1 1 ∧ s.on SYS_WDT_CTRL_EN = false) ∧
  (clocked s = true ∧ s.on SYS_WDT_CTRL_EN = false) ∧
  (let s : State := base.wr SYS_WDT_CTRL_EN 1;
    clocked s = true ∧ s.on SYS_WDT_CTRL_EN = true ∧ s.rst.asserted = none ∧ s.lant.held = false ∧
    (s.rd LANTERN_STATUS_STATE ≠ 4 ∨ s.rst.pgood = true)) ∧
  ((s.rst.asserted = none ∨ s.rst.pgood = false ∨ s.lant.held = true)) ∧
  (let s : State := { base with rst.asserted := some 0 };
    s.rst.asserted.isSome = true ∧ s.rst.pgood = true ∧ s.lant.held = false) := by
  decide +kernel

theorem witness_BootSecurePorts :
  let code : Nat := 3;
  let b : List Nat := List.replicate 7 0 ++ [1] ++ [9, 0, 0, 0] ++ List.replicate 52 0 ++ sha384 [] ++ List.replicate 1200 0;
  let req : Req := .core 0 false; let c : Fin 16 := 1; let n : Nat := 3; let data : BitVec 32 := 5; let p : Fin 4 := 1;
  let e := leBytes 8 1 ++ [0, 0, 0, 0] ++ leBytes 4 (crc32c (leBytes 8 1 ++ [0, 0, 0, 0] ++ List.replicate 48 0)) ++ List.replicate 48 0;
  let cpls : List Cpl := []; let ts : BitVec 64 := 5; let k := 3; let s : State := base;
  (clocked s = true ∧ (s.sec.tries = 0 ∨ s.on SPIRE_STATUS_INIT_DONE 0 = false)) ∧
  (let s : State := base.wr SPIRE_STATUS_INIT_DONE 1 0;
    clocked s = true ∧ s.on SPIRE_STATUS_INIT_DONE 0 = true ∧ s.sec.tries ≠ 0) ∧
  (let bytes : List (BitVec 8) := (List.range 40).map (fun n => BitVec.ofNat 8 n);
    let s : State := base.wr SPIRE_STATUS_INIT_DONE 1 0; let r := manifestCheck (stageSlot s (nats bytes)) STAGING;
    let u := r.1; let code := r.2.1; let b := r.2.2;
    clocked s = true ∧ s.on SPIRE_STATUS_INIT_DONE 0 = true ∧ s.sec.tries ≠ 0 ∧
    manifestCheck (stageSlot s (nats bytes)) STAGING = (u, code, b) ∧ code ≠ OK) ∧
  (Accepts s req .secure 0 0x000 1 0xFF7) ∧
  (let image : BitVec 4 := 5;
    Accepts s req .secure 0 0x000 (2 + 2 ^ 4 * c.val + 2 ^ 8 * image.toNat) 0xFF7) ∧
  (Accepts s req .secure 0 0x000 3 0xFF7) ∧
  (let s : State := { s with sec := { s.sec with manifest := some [] } };
    Accepts s req .secure 0 0x000 4 0xFF7) ∧
  (Accepts s req .secure 0 0x000 5 0xFF7) ∧
  (clocked s = true ∧ s.sec.cmd = none) ∧
  (let n : Nat := 0; let w : QWord := ⟨5, 8, true, true⟩;
    let s : State := ({ ({ s with sec.cmd := some ⟨2, c.val, n⟩ }) with sec.manifest := some b }).wr SPIRE_STATUS_HALTED 1 c;
    clocked s = true ∧ s.sec.cmd = some ⟨2, c.val, n⟩ ∧ s.sec.manifest = some b ∧ s.on SPIRE_STATUS_HALTED c = true ∧
    mfCount b > n ∧ (s.core c).tcmFails 0 TCM_SIZE = false ∧ mfDest b n + mfLen b n ≤ TCM_SIZE ∧
    (∀ w ∈ (s.core c).tcm, (mfDest b n ≤ w.1 ∧ w.1 < mfDest b n + mfLen b n) ∨ w.2 = 0) ∧
    sha384 (memBytes (s.core c).tcm (mfDest b n) (mfLen b n)) = mfDigest b n) ∧
  (let n : Nat := 0;
    let s : State := ({ ({ s with sec.cmd := some ⟨2, c.val, n⟩ }) with sec.manifest := some b }).wr SPIRE_STATUS_HALTED 0 c;
    clocked s = true ∧ s.sec.cmd = some ⟨2, c.val, n⟩ ∧ s.sec.manifest = some b ∧ s.on SPIRE_STATUS_HALTED c = false) ∧
  (let s : State := { ({ s with sec.cmd := some ⟨4, n, code⟩ }) with sec.manifest := some b };
    clocked s = true ∧ s.sec.cmd = some ⟨4, n, code⟩ ∧ s.sec.manifest = some b) ∧
  (Reads s req .secure 0 0x010) ∧
  (clocked s = true) ∧
  (clocked s = true ∧ s.rst.asserted = none) ∧
  (Accepts s req .port 0 0x00C data.toNat 0xFFFFFFFF) ∧
  (Accepts s req .port 0 0x018 data.toNat 0xFFFFFFFF) ∧
  (clocked s = true ∧ (s.on PORT_CTRL_CMD_EN = false ∨ (s.rd PORT_CMD_HEAD_IDX) = s.rd PORT_CMD_TAIL_IDX)) ∧
  (let s : State := base.wr PORT_CTRL_CMD_EN 1;
    let s : State := (s.wr PORT_CMD_HEAD_IDX ((s.rd PORT_CMD_TAIL_IDX) + 1)).wr PORT_CPL_HEAD_IDX 1;
    clocked s = true ∧ s.on PORT_CTRL_CMD_EN = true ∧ (s.rd PORT_CMD_HEAD_IDX) ≠ s.rd PORT_CMD_TAIL_IDX ∧ cplFull s = true) ∧
  (let bytes : List (BitVec 8) := (List.range 40).map (fun n => BitVec.ofNat 8 n);
    let s : State := base.wr PORT_CTRL_CMD_EN 1; let s : State := s.wr PORT_CMD_HEAD_IDX ((s.rd PORT_CMD_TAIL_IDX) + 1);
    let s : State := { s with lineChk := s.lineChk.filter (fun p => p.1 != ((cmdAddr s (s.rd PORT_CMD_HEAD_IDX)) / 64)) };
    let s : State := (s.wr JOURNAL_STATUS_READY 1).wr JOURNAL_CTRL_EN 1;
    let s : State := { s with bytes := memPutBytes [] (cmdAddr s (s.rd PORT_CMD_HEAD_IDX)) e };
    clocked s = true ∧ s.on PORT_CTRL_CMD_EN = true ∧ (s.rd PORT_CMD_HEAD_IDX) ≠ s.rd PORT_CMD_TAIL_IDX ∧ cplFull s = false ∧
    (cmdAddr s (s.rd PORT_CMD_HEAD_IDX)) + 64 ≤ 0x4000000 ∧
    findKey s.lineChk ((cmdAddr s (s.rd PORT_CMD_HEAD_IDX)) / 64) = none ∧
    entryStat s (memBytes s.bytes (cmdAddr s (s.rd PORT_CMD_HEAD_IDX)) 64) = OK) ∧
  (let bytes : List (BitVec 8) := (List.range 40).map (fun n => BitVec.ofNat 8 n); let code : Nat := E_STATE;
    let s : State := base.wr PORT_CTRL_CMD_EN 1; let s : State := s.wr PORT_CMD_HEAD_IDX ((s.rd PORT_CMD_TAIL_IDX) + 1);
    let s : State := { s with lineChk := s.lineChk.filter (fun p => p.1 != ((cmdAddr s (s.rd PORT_CMD_HEAD_IDX)) / 64)) };
    let s : State := s; let s : State := { s with bytes := memPutBytes [] (cmdAddr s (s.rd PORT_CMD_HEAD_IDX)) e };
    clocked s = true ∧ s.on PORT_CTRL_CMD_EN = true ∧ (s.rd PORT_CMD_HEAD_IDX) ≠ s.rd PORT_CMD_TAIL_IDX ∧ cplFull s = false ∧
    (cmdAddr s (s.rd PORT_CMD_HEAD_IDX)) + 64 ≤ 0x4000000 ∧
    findKey s.lineChk ((cmdAddr s (s.rd PORT_CMD_HEAD_IDX)) / 64) = none ∧
    entryStat s (memBytes s.bytes (cmdAddr s (s.rd PORT_CMD_HEAD_IDX)) 64) = code ∧ code ≠ OK ∧ code ≠ DONE_BEFORE) ∧
  (clocked s = true ∧ s.port.cpls = []) ∧
  (let cpl : Cpl := { seq := 9 }; let s : State := { base with port.cpls := cpl :: cpls };
    clocked s = true ∧ s.port.cpls = cpl :: cpls ∧ cpl.final = false) ∧
  (let cpl : Cpl := { seq := 9, final := true, jseq := 5 }; let s : State := { base with port.cpls := cpl :: cpls };
    clocked s = true ∧ s.port.cpls = cpl :: cpls ∧ cpl.final = true ∧ cplFull s = false ∧ Memory.wf s.bytes = true ∧
    s.on SCAN_STATUS_BUSY = false ∧ (cplAddr s (s.rd PORT_CPL_TAIL_IDX)) + 16 ≤ 0x4000000 ∧
    guarded s 16 (cplAddr s (s.rd PORT_CPL_TAIL_IDX)) 16 = false ∧
    findKey s.lineChk ((cplAddr s (s.rd PORT_CPL_TAIL_IDX)) / 64) = none) ∧
  (let data64 : BitVec 64 := 0x500000007;
    let v := { s.answer OK 0 with port := { s.port with fwDoneLo := data64.toNat % 2 ^ 32 } };
    v = { s.answer OK 0 with port := { s.port with fwDoneLo := (data64.toNat % 2 ^ 32) } } ∧
    Accepts s req .port 0 0x048 (data64.toNat % 2 ^ 32) 0xFFFFFFFF ∧
    Accepts v req .port 0 0x04C (data64.toNat / 2 ^ 32) 0xFFFFFFFF) ∧
  (let bytes : List (BitVec 8) := (List.range 40).map (fun n => BitVec.ofNat 8 n);
    clocked s = true ∧ (s.on PORT_ETH_CFG_EN 0 p = false ∨ etherType (nats bytes) = 0x88BA)) ∧
  (let bytes : List (BitVec 8) := (List.range 40).map (fun n => BitVec.ofNat 8 n);
    let s : State := ((base.wr PORT_ETH_CFG_EN 1 0 p).wr QUEUE_CTRL_EN 1 0).wr QUEUE_CFG_PROD (32 + p) 0;
    let u := (queuePacket s 0 p (rxPacket p ts.toNat (nats bytes))).1;
    clocked s = true ∧ s.on PORT_ETH_CFG_EN 0 p = true ∧ etherType (nats bytes) ≠ 0x88BA ∧
    queuePacket s (if (etherType (nats bytes) == 0x88F7 || (tagged (nats bytes) && decide (s.rd PORT_ETH_CFG_HI_PCP 0 p ≤ framePcp (nats bytes)))) then s.rd PORT_ETH_CFG_RXQ_HI 0 p else s.rd PORT_ETH_CFG_RXQ 0 p) p (rxPacket p ts.toNat (nats bytes)) = (u, true)) ∧
  (let bytes : List (BitVec 8) := (List.range 40).map (fun n => BitVec.ofNat 8 n);
    let s : State := ((base.wr PORT_ETH_CFG_EN 1 0 p).wr QUEUE_CTRL_EN 0 0).wr QUEUE_CFG_PROD (32 + p) 0;
    let u := (queuePacket s 0 p (rxPacket p ts.toNat (nats bytes))).1;
    clocked s = true ∧ s.on PORT_ETH_CFG_EN 0 p = true ∧ etherType (nats bytes) ≠ 0x88BA ∧
    queuePacket s (if (etherType (nats bytes) == 0x88F7 || (tagged (nats bytes) && decide (s.rd PORT_ETH_CFG_HI_PCP 0 p ≤ framePcp (nats bytes)))) then s.rd PORT_ETH_CFG_RXQ_HI 0 p else s.rd PORT_ETH_CFG_RXQ 0 p) p (rxPacket p ts.toNat (nats bytes)) = (u, false)) ∧
  (clocked s = true ∧ s.on PORT_ETH_CFG_EN 0 p = false) ∧
  (let s : State := base.wr PORT_ETH_CFG_EN 1 0 p;
    let s : State := (((s.wr QUEUE_CTRL_EN 1 k).wr QUEUE_CFG_PROD 32 k).wr QUEUE_CFG_CONS ((32 + 4 + p)) k);
    let s : State := queueVisible ((queuePacket s k 0 [(0, 8), (0x1122334455667788, 8), (7, 3)]).1.edges 5) k;
    let s : State := s.wr PORT_ETH_CFG_TXQ_HI k 0 p; let r := takeFor s k (4 + p); let u := r.1;
    let w := (r.2.getD []).headD ⟨0, 0, false, false⟩; let ws := (r.2.getD []).tail;
    clocked s = true ∧ s.on PORT_ETH_CFG_EN 0 p = true ∧
    takeFor s (s.rd PORT_ETH_CFG_TXQ_HI 0 p) (4 + p) = (u, some (w :: ws)) ∧ bit w.val 0 = false) ∧
  (let s : State := base.wr PORT_ETH_CFG_EN 1 0 p;
    let s : State := (((s.wr QUEUE_CTRL_EN 1 k).wr QUEUE_CFG_PROD 32 k).wr QUEUE_CFG_CONS ((32 + 4 + p)) k);
    let s : State := queueVisible ((queuePacket s k 0 [(0, 8), (0x1122334455667788, 8), (7, 3)]).1.edges 5) k;
    let s : State := s.wr PORT_ETH_CFG_TXQ k 0 p; let v := (takeFor s 0 (4 + p)).1; let r := takeFor s k (4 + p); let u := r.1;
    let w := (r.2.getD []).headD ⟨0, 0, false, false⟩; let ws := (r.2.getD []).tail;
    clocked s = true ∧ s.on PORT_ETH_CFG_EN 0 p = true ∧ takeFor s (s.rd PORT_ETH_CFG_TXQ_HI 0 p) (4 + p) = (v, none) ∧
    takeFor s (s.rd PORT_ETH_CFG_TXQ 0 p) (4 + p) = (u, some (w :: ws)) ∧ bit w.val 0 = false) ∧
  (let s : State := base.wr PORT_CTRL_UART_MODE 1;
    clocked s = true ∧ s.on PORT_CTRL_UART_MODE = true) ∧
  (let bytes : List (BitVec 8) := (List.range 40).map (fun n => BitVec.ofNat 8 n);
    clocked s = true ∧ s.on PORT_CTRL_UART_MODE = false ∧ uartWhole (nats bytes) = false) ∧
  (let s : State := base.wr PORT_CTRL_UART_MODE 0; let raw : List Nat := [0x5A, 1, 0x20, 0, 0, 0x20, 0];
    let bytes : List (BitVec 8) := (raw ++ [crc8 raw]).map (BitVec.ofNat 8);
    clocked s = true ∧ s.on PORT_CTRL_UART_MODE = false ∧ uartWhole (nats bytes) = true ∧ byteAt (nats bytes) 1 = 1 ∧
    (leNat (((nats bytes).drop 2).take 5)) % 4 = 0) ∧
  (let s : State := base.wr PORT_CTRL_UART_MODE 0; let raw : List Nat := [0x5A, 2, 0x08, 0, 8, 0x20, 0, 1, 0, 0, 0];
    let bytes : List (BitVec 8) := (raw ++ [crc8 raw]).map (BitVec.ofNat 8); let s : State := s.wr PORT_CTRL_MAINT_WR 1;
    clocked s = true ∧ s.on PORT_CTRL_UART_MODE = false ∧ uartWhole (nats bytes) = true ∧ byteAt (nats bytes) 1 = 2 ∧
    (leNat (((nats bytes).drop 2).take 5)) % 4 = 0) ∧
  (let bytes : List (BitVec 8) := (List.range 40).map (fun n => BitVec.ofNat 8 n);
    keepUp s = true ∧ ((nats bytes).length == 8 && crc8 ((nats bytes).take 7) == byteAt (nats bytes) 7) = false) ∧
  (let s : State := { s with rst := { s.rst with asserted := none } }; let raw : List Nat := [1, 0, 4, 0, 0, 0, 0];
    let bytes : List (BitVec 8) := (raw ++ [crc8 raw]).map (BitVec.ofNat 8);
    keepUp s = true ∧ ((nats bytes).length == 8 && crc8 ((nats bytes).take 7) == byteAt (nats bytes) 7) = true ∧
    target (0x20030000 + (beNat (((nats bytes).drop 1).take 2))) ≠ .none ∧ byteAt (nats bytes) 0 = 1 ∧
    (beNat (((nats bytes).drop 1).take 2)) % 4 = 0) ∧
  (let s : State := { s with rst := { s.rst with asserted := none } }; let raw : List Nat := [2, 0, 0, 0, 0, 0, 4];
    let bytes : List (BitVec 8) := (raw ++ [crc8 raw]).map (BitVec.ofNat 8);
    keepUp s = true ∧ ((nats bytes).length == 8 && crc8 ((nats bytes).take 7) == byteAt (nats bytes) 7) = true ∧
    target (0x20030000 + (beNat (((nats bytes).drop 1).take 2))) ≠ .none ∧ byteAt (nats bytes) 0 = 2 ∧
    (beNat (((nats bytes).drop 1).take 2)) % 4 = 0) ∧
  (let instr : BitVec 4 := 5;
    instr.toNat < 8) ∧
  (let instr : BitVec 4 := 9;
    8 ≤ instr.toNat) ∧
  (let up : Bool := false;
    clocked s = true ∧ bit (s.rd PORT_STATUS_ETH_UP) p = up) ∧
  (let up : Bool := true;
    clocked s = true ∧ bit (s.rd PORT_STATUS_ETH_UP) p ≠ up) ∧
  (clocked s = true ∧ (s.on PORT_CTRL_UART_MODE = false ∨ queueOf s 20 = none)) ∧
  (let s : State := ((base.wr PORT_CTRL_UART_MODE 1).wr QUEUE_CTRL_EN 1 n).wr QUEUE_CFG_PROD 52 n;
    clocked s = true ∧ s.on PORT_CTRL_UART_MODE = true ∧ queueOf s 20 = some n ∧ queueFull s n = false) ∧
  (clocked s = true ∧ s.on PORT_CTRL_UART_MODE = false) ∧
  (let x : Nat := 3; let xs : List Nat := [];
    let s : State := { (base.wr PORT_CTRL_UART_MODE 1) with port.uartBuf := x :: xs };
    clocked s = true ∧ s.on PORT_CTRL_UART_MODE = true ∧ s.port.uartBuf = x :: xs) ∧
  (let s : State := { (base.wr PORT_CTRL_UART_MODE 1) with port.uartBuf := [] };
    let s : State := (((s.wr QUEUE_CTRL_EN 1 k).wr QUEUE_CFG_PROD 32 k).wr QUEUE_CFG_CONS (53) k);
    let s : State := queueVisible ((queuePacket s k 0 [(0, 8), (0x1122334455667788, 8), (7, 3)]).1.edges 5) k;
    let r := queueTake s 3; let u := r.1; let ws := r.2.getD []; let x := (packetBytes ws).headD 0;
    let xs := (packetBytes ws).tail;
    clocked s = true ∧ s.on PORT_CTRL_UART_MODE = true ∧ s.port.uartBuf = [] ∧ consumedBy s 21 = some n ∧
    queueTake s n = (u, some ws) ∧ packetBytes ws = x :: xs) ∧
  (clocked s = true ∧ queueOf s 19 = none) ∧
  (let s : State := (base.wr QUEUE_CTRL_EN 1 3).wr QUEUE_CFG_PROD 51 3;
    clocked s = true ∧ queueOf s 19 = some n) ∧
  (clocked s = true ∧ (s.on TWIN_STATUS_LINK = false ∨ consumedBy s 18 = none)) ∧
  (let s : State := base.wr TWIN_STATUS_LINK 1;
    let s : State := (((s.wr QUEUE_CTRL_EN 1 k).wr QUEUE_CFG_PROD 32 k).wr QUEUE_CFG_CONS (50) k);
    let s : State := queueVisible ((queuePacket s k 0 [(0, 8), (0x1122334455667788, 8), (7, 3)]).1.edges 5) k;
    let r := queueTake s 3; let u := r.1; let ws := r.2.getD [];
    clocked s = true ∧ s.on TWIN_STATUS_LINK = true ∧ consumedBy s 18 = some n ∧ queueTake s n = (u, some ws)) := by
  decide +kernel

theorem witness_BootSecurePorts_a :
  let code : Nat := 3; let b : List Nat := List.replicate 7 0 ++ [1] ++ [9, 0, 0, 0] ++ List.replicate 52 0 ++ sha384 [] ++ List.replicate 1200 0; let n : Nat := 3; let s : State := base
  let bytes : List (BitVec 8) := (List.range 40).map (fun n => BitVec.ofNat 8 n);
    let s : State := { ({ base with sec.cmd := some ⟨1, n, code⟩ }) with bytes := [(5, 7)] };
    let r := manifestCheck s (s.rd SECURE_ADDR_ADDR); let u := r.1; let b := r.2.2;
    clocked s = true ∧ s.sec.cmd = some ⟨1, n, code⟩ ∧ manifestCheck s (s.rd SECURE_ADDR_ADDR) = (u, E_AUTH, b) :=
  ⟨by decide +kernel, by decide +kernel, Prod.ext rfl (Prod.ext (by decide +kernel) rfl)⟩

/-! ### Statements about every command or every register -/

theorem witness_IdleStep : (base.pending = [] ∧ clocked base = true) ∧ State.reset.pending = [] ∧ clocked State.reset = false := by
  decide +kernel

theorem witness_StepKeepsMemory : State.reset.memOk ∧ ∃ t, step State.reset = .next t := ⟨⟨rfl, fun _ => rfl⟩, _, rfl⟩

theorem witness_StepKeepsLegs : (∀ c : Nat, (State.reset.term c).legOk = true) ∧ ∃ t, step State.reset = .next t :=
  ⟨fun _ => rfl, _, rfl⟩

theorem witness_StepConsumesQueue : ∃ t, step { base with pending := [.starvation 25, .starvation 3] } = .next t := ⟨_, rfl⟩

/-- INCR_NS = 5 is out of range (R308): refused with ERR empty, and with ERR taken. -/
theorem witness_RegisterWriteRefused :
  let req : Req := .host; let addr : BitVec 40 := 0x20020010; let data : BitVec 32 := 5;
  (clocked base = true ∧ target addr.toNat = .reg .campanile 0 0x10 ∧ powered base (.reg .campanile 0 0x10) = true ∧
    writeCode base req .campanile 0 0x10 data.toNat 0xFFFFFFFF ≠ OK ∧ base.rd Blk.campanile.errCode 0 = 0) ∧
  (let s : State := base.wr CAMPANILE_ERR_CODE E_VALUE;
    clocked s = true ∧ target addr.toNat = .reg .campanile 0 0x10 ∧ powered s (.reg .campanile 0 0x10) = true ∧
    writeCode s req .campanile 0 0x10 data.toNat 0xFFFFFFFF ≠ OK ∧ s.rd Blk.campanile.errCode 0 ≠ 0) ∧
  (target 0x20000314 = .reg .sys 0 0x314 ∧ powered base (.reg .sys 0 0x314) = true ∧
    writeCode base req .sys 0 0x314 3 0xFFFFFFFF ≠ OK) := by
  decide +kernel

/-- An accepted write of a word of MEMC_1 with a live field, of one of another block, and a part of each kind. -/
theorem witness_RegisterWriteApplied :
  let req : Req := .host; let addr : BitVec 40 := 0x20058008; let data : BitVec 32 := 0x10;
  (clocked base = true ∧ target addr.toNat = .reg .memc 1 8 ∧ powered base (.reg .memc 1 8) = true ∧ addr.toNat % 4 = 0 ∧
    writeCode base req .memc 1 8 data.toNat 0xFFFFFFFF = OK ∧ ignoredWord .memc 1 8 = false ∧ 8 ∉ [0x000, 0x0F0] ∧
    (Blk.memc.pieces 8).any (fun p => p.fld.acc == .rw && (p.fld.cls == .live || p.fld.cls == .held)) = true) ∧
  (Blk.keep.pieces 0x100).any (fun p => p.carried 0xFFFFFFFF != 0 && p.fld.acc == .rw && p.fld.cls == .commit) = true ∧
  (Blk.campanile.pieces 0x000).any (fun p => p.fld.acc == .ro) = true := by
  decide +kernel

/-- ERR of a block, of the cell store and of the ledger. -/
theorem witness_ErrClear : ∀ x ∈ [(Blk.campanile, 0x0F0), (.sys, 0x1F0), (.sys, 0x3F0)],
    clocked base = true ∧ target (x.1.base + x.2) = .reg x.1 0 x.2 ∧ powered base (.reg x.1 0 x.2) = true ∧
      writeCode base .host x.1 0 x.2 (2 ^ 30) 0xFFFFFFFF = OK := by
  decide +kernel

/-- The first address after Cupola names nothing; in Sleep a block of FAB has no power. -/
theorem witness_UnmappedAccess : (clocked base = true ∧ absent base 0x4000000 = true ∧ absent base 0x3FFFFFF = false) ∧
    base.on SPIRE_STATUS_HALTED 1 = true ∧ (up base 1).on SPIRE_STATUS_HALTED 1 = false ∧ absent (up base 1) 0x4000000 = true := by
  decide +kernel

theorem witness_TimeRead : clocked base = true ∧ powered base (.reg .campanile 0 0) = true ∧ (Req.core 0 false) ≠ .safety := by
  decide +kernel

/-! ### Ill-formed commands -/

/-- A CYCLE message has a unit state of R320, at most 4. -/
theorem test_wf_cycle_message : (Instr.cycleMessageReceive true
    { count := 0, nextLen := 3125, offset := 0, epoch := 0, holder := true, state := 5, health := 0, full := 0, masks := [], held := 0, req := false, grant := none, ack := false
      replay := none }).wf
    = false := by decide

/-- A SUMS record has 32 bytes (R324). -/
theorem test_wf_sums : (Instr.sumsReceive 0 [⟨1, List.replicate 31 0⟩]).wf = false := by decide

/-- A forwarded status lies at positions 0 to 31 (R329). -/
theorem test_wf_status : (Instr.statusForwardReceive 0 [(32, {})]).wf = false := by decide

/-- A measured value of a converter has 24 bits (R330). -/
theorem test_wf_meas : (Instr.twinMeasDelivery [.adc 0 0 (2 ^ 24) false 0]).wf = false := by decide

/-- An entry of a chase copy has 128 bytes (R340). -/
theorem test_wf_chase : (Instr.chaseCopyReceive (.entry 0 [])).wf = false := by decide

/-! ### Words of the spec's worked example (09_spire_instructions.md) -/

theorem test_word_immh : decodeSpire 3 0x1CE02020 = some (.spImmh 3 7 0 0x2020) := by decide +kernel
theorem test_word_ori : decodeSpire 3 0x0CE71018 = some (.spOri 3 7 7 0x1018) := by decide +kernel
theorem test_word_waitt : decodeSpire 3 0x30800000 = some (.spWaitt 3 4 0 0) := by decide +kernel
theorem test_word_bnei : decodeSpire 3 0x6C810028 = some (.spBnei 3 4 1 40) := by decide +kernel
theorem test_word_lawgo : decodeSpire 3 0x2C004003 = some (.spLawgo 3 0 0 3) := by decide +kernel
theorem test_word_lawwt : decodeSpire 3 0x2C005003 = some (.spLawwt 3 0 0 3) := by decide +kernel
theorem test_word_lawout : decodeSpire 3 0x2C402068 = some (.spLawout 3 2 0 104) := by decide +kernel
theorem test_word_fcvtw : decodeSpire 3 0x24C2000E = some (.spFcvtw 3 6 2 0) := by decide +kernel
theorem test_word_stw : decodeSpire 3 0xF4C70000 = some (.spStw 3 .fabric 6 7 0) := by decide +kernel
theorem test_word_fence : decodeSpire 3 0x30000002 = some (.spFence 3 0 0 0) := by decide +kernel
theorem test_word_br : decodeSpire 3 0x47FFFFD8 = some (.spBr 3 (-40)) := by decide +kernel

/-! ### Worked values -/

/-- Cell 645 in cycle c (03_cell_state_engine.md): 0.5868 J carry the residue past one joule. -/
theorem test_cell645_energy :
    let e : Entry := { img := { vpack := 26080, ipack := 3600 }, ec := 567000000, eDis := 2000000000, resDis := 499000000000 };
    (integrate e 3125).1.resDis = 292400000000 ∧ (integrate e 3125).1.eDis = 2000000001 ∧ (integrate e 3125).1.ec = 566999999 := by
  decide +kernel

/-- The keys of cell 645 in cycles c and c + 2 (03_cell_state_engine.md). -/
theorem test_cell645_keys :
    soeOf 567000000 945000000 = 39321 ∧ keyHigh 24068 24000 4 false = 0x8004 ∧ keyHigh 24082 24030 4 true = 0x7FFC ∧
      keyLow 39321 0x8000 0xFFFF 128 96 32 false = 40140 ∧ keyLow 39321 0x7000 0xFFFF 128 96 32 true = 32050 := by
  decide +kernel

/-- The current of cell 645 in cycle c (04_arm_selection.md). -/
theorem test_cell645_current :
    let s : State := { ((base.wr ARM_IREF_BASE 3000 1).wr ARM_TILT_TILT 4000 1).wr ARM_IREF_MAX 6000 1 with
      pipe := { base.pipe with lwSnap := [(17, 0x8000)] } };
    (splitCurrent s 1 36000 { soe := 39321, leaseEn := true, leaseId := 17, avail := true }).iref = 1601 := by
  decide +kernel

/-- Three hours in Sleep (16_campanile_time.md): the time and UNCERT after the wake. -/
theorem test_sleep_time :
    let s : State := (base.wr CAMPANILE_OSC_TOL_PPB 20000).clear CAMPANILE_STATUS_COARSE;
    let t : State := timeCarried s (1893456000250000000 * 2 ^ 32) (370671616 - 16777216);
    t.ns = 1893466800250000000 ∧ t.rd CAMPANILE_UNCERT_NS = 216030518 ∧ t.on CAMPANILE_STATUS_COARSE = true ∧
      t.on CAMPANILE_STATUS_COARSE_EV = true := by
  decide +kernel

/-- The check value of CRC-32C (R35, RFC 3720): the CRC of the ASCII digits 1 to 9. -/
theorem test_crc32c : crc32c [0x31, 0x32, 0x33, 0x34, 0x35, 0x36, 0x37, 0x38, 0x39] = 0xE3069283 := by decide +kernel

/-- The digest of "abc" of FIPS 180-4's example, SHA-256. -/
theorem test_sha256 : beNat (SHA256.digest [0x61, 0x62, 0x63])
    = 0xBA7816BF8F01CFEA414140DE5DAE2223B00361A396177A9CB410FF61F20015AD := by decide +kernel

/-- The digest of "abc" of FIPS 180-4's example, SHA-384. -/
theorem test_sha384 : beNat (sha384 [0x61, 0x62, 0x63])
    = 0xCB00753F45A35E8BB5A03D699AC65007272C32AB0EDED1631A8B605A43FF5BED8086072BA1E7CC2358BAECA134C825A7 := by decide +kernel

end Sys2Proof.Machine.Tests
end

/-!
SUPPORT. What a command can do: every one of the 418 answers a next state, in which either nothing has happened to the terminals
and everything of Keeps.lean holds, or one terminal has gone through one of the operations of R42 to R58.
-/
namespace Sys2Proof.Machine

/-! ### The form of an answer -/

/-- The commands of a cell terminal (R42 to R58): which terminal changes, and what it becomes. -/
inductive TermOp : Instr → Nat → (Term → Term) → Prop
  | reset (c : Fin 4096) (ver : BitVec 8) (fullBridge hsCp dcdc : Bool) :
      TermOp (.termReset c ver fullBridge hsCp dcdc) c (fun _ => Term.powerUp ver.toNat fullBridge hsCp dcdc)
  | frameEnd (c : Fin 4096) (blocks : List Block66) (m : SensorIn) :
      TermOp (.termFrameEnd c blocks m) c (fun t => t.frameEnd blocks m)
  | header (c : Fin 4096) (pos : Option (Fin 32)) (hd : BitVec 128) (m : SensorIn) :
      TermOp (.termMgmtHeader c pos hd m) c (fun t => t.headerPasses (pos.map (·.val)) hd m)
  | testDone (c : Fin 4096) (pass : BitVec 5) : TermOp (.termSelfTestComplete c pass) c (fun t => t.testDone pass.toNat)
  | frameBreak (c : Fin 4096) (blocks : List Block66) : TermOp (.termFrameBreak c blocks) c (fun t => t.breakOff blocks)
  | watchdog (c : Fin 4096) (since : BitVec 32) : TermOp (.termWatchdogExpiry c since) c (fun t => t.watchdog since.toNat)
  | turnOn (c : Fin 4096) (k : Fin 4) (leg : LegIn) : TermOp (.termSwitchTurnOn c k leg) c (fun t => t.turnOn k leg)
  | interlock (c : Fin 4096) (k : Fin 4) (leg : LegIn) :
      TermOp (.termInterlockTimeout c k leg) c (fun t => t.interlockTimeout k leg)
  | trip (c : Fin 4096) (b : Fin 8) (m : SensorIn) : TermOp (.termComparatorTrip c b m) c (fun t => t.trip b m)
  | lockLost (c : Fin 4096) (up : Bool) : TermOp (.termLockLost c up) c (fun t => t.setLock up false)
  | lockRegained (c : Fin 4096) (up : Bool) : TermOp (.termLockRegained c up) c (fun t => t.setLock up true)
  | wrapStart (c : Fin 4096) (up : Bool) : TermOp (.termWrapStart c up) c (fun t => t.wrapStart up)
  | wrapStop (c : Fin 4096) (up : Bool) : TermOp (.termWrapStop c up) c (fun t => t.wrapStop up)

/-- What a command answers: a next state that keeps what every operation keeps, or the state with one terminal changed. -/
inductive Answer (i : Instr) (s : State) : Out → Prop
  | kept {t : State} (h : Keeps s t) : Answer i s (.next t)
  | term {c : Nat} {f : Term → Term} (h : TermOp i c f) : Answer i s (.next (s.updTerm c f))

/-! ### Operations under a clock and accesses of a port -/

section
variable {i : Instr} {s : State}

/-- An event of the FAB domain. -/
theorem Answer.onFab {f : State → State} (hf : ∀ t, Keeps s t → Keeps s (f t)) : Answer i s (.next (onFab s f)) :=
  .kept (keeps_onFab (.refl s) f hf)

/-- An event in Keep. -/
theorem Answer.onKeep {f : State → State} (hf : ∀ t, Keeps s t → Keeps s (f t)) : Answer i s (.next (onKeep s f)) :=
  .kept (keeps_onKeep (.refl s) f hf)

/-- A software access. -/
theorem Answer.access {f : State → State} (hf : ∀ t, Keeps s t → Keeps s (f t)) : Answer i s (.next (access s f)) :=
  .kept (keeps_access (.refl s) f hf)

/-- A register word written. -/
theorem Answer.word {req : Req} {b : Blk} {n w data m : Nat} : Answer i s (.next (wordCmd s req b n w data m)) :=
  .kept (keeps_wordCmd (.refl s) _ _ _ _ _ _)

/-- Command bits of a register word written. -/
theorem Answer.bit {req : Req} {b : Blk} {n w m : Nat} : Answer i s (.next (bitCmd s req b n w m)) :=
  .kept (keeps_bitCmd (.refl s) _ _ _ _ _)

/-- A register field written. -/
theorem Answer.field {req : Req} {f : Fld} {n j v : Nat} : Answer i s (.next (fieldCmd s req f n j v)) :=
  .kept (keeps_fieldCmd (.refl s) _ _ _ _ _)

/-- A register word read. -/
theorem Answer.read {req : Req} {b : Blk} {n w : Nat} : Answer i s (.next (readCmd s req b n w)) :=
  .kept (keeps_readCmd (.refl s) _ _ _ _)

/-- A word of Keep written. -/
theorem Answer.keepWord {req : Req} {w data m : Nat} : Answer i s (.next (keepCmd s req w data m)) :=
  .kept (keeps_keepCmd (.refl s) _ _ _ _)

/-- A flag of a cell's entry written. -/
theorem Answer.cellFlag {req : Req} {c m : Nat} : Answer i s (.next (cellBit s req c m)) :=
  .kept (keeps_cellBit (.refl s) _ _ _)

/-- A word of LOCK_CMD written. -/
theorem Answer.lockWord {req : Req} {t op : Nat} : Answer i s (.next (lockHost s req t op)) :=
  .kept (keeps_lockHost (.refl s) _ _ _)

/-- A word of SECURE.CMD written. -/
theorem Answer.secureWord {req : Req} {op core image : Nat} : Answer i s (.next (secureCmd s req op core image)) :=
  .kept (keeps_secureCmd (.refl s) _ _ _ _)

end

/-! ### Instructions of a core -/

/-- A core replaced by one whose TCM has the canonical form wherever the memories of the first state have it. -/
theorem keeps_setCore_of_mem {r s : State} (h : Keeps r s) {c : Nat} {x : CoreSt} (hx : r.memOk → Memory.wf x.tcm = true) :
    Keeps r (s.setCore c x) := by
  refine ⟨h.pending, h.terms, h.fab, fun m => ⟨(h.mem m).1, fun d => ?_⟩⟩
  rw [State.core_setCore]
  split
  · exact hx m
  · exact (h.mem m).2 d

/-- The TCM of every core has the canonical form in a state that follows one in which it has. -/
theorem Keeps.tcm {r s : State} (h : Keeps r s) (m : r.memOk) (c : Nat) : Memory.wf (s.core c).tcm = true := (h.mem m).2 c

/-- A result with flags written to a g register leaves the TCM. -/
theorem wf_put {x : CoreSt} (h : Memory.wf x.tcm = true) (rd : Nat) (q : FpRes) : Memory.wf (x.put rd q).tcm = true :=
  wf_gW h _ _

/-- Flags set leave the TCM. -/
theorem wf_flag {x : CoreSt} (h : Memory.wf x.tcm = true) (fl : Nat) : Memory.wf (x.flag fl).tcm = true := h

/-- A CSR read leaves the TCM. -/
theorem wf_csrLatch {x : CoreSt} (h : Memory.wf x.tcm = true) (s : State) (n : Nat) : Memory.wf (csrLatch s n x).tcm = true := by
  unfold csrLatch; split <;> exact h

/-- A CSR written leaves the TCM. -/
theorem wf_csrWrite {x : CoreSt} (h : Memory.wf x.tcm = true) (n v : Nat) : Memory.wf (csrWrite n v x).tcm = true := by
  unfold csrWrite; repeat' split
  all_goals exact h

/-- The state of a result, form by form. -/
theorem Keeps.done {r s : State} (h : Keeps r s) : Keeps r (SpRes.done s).st := h
theorem Keeps.jump {r s : State} (h : Keeps r s) (a : Nat) : Keeps r (SpRes.jump s a).st := h
theorem Keeps.hold {r s : State} (h : Keeps r s) : Keeps r (SpRes.hold s).st := h
theorem Keeps.exc {r s : State} (h : Keeps r s) (code stat : Nat) (addr : Option Nat) (after : Bool) :
    Keeps r (SpRes.exc s code stat addr after).st := h
theorem Keeps.plainExc {r s : State} (h : Keeps r s) (code : Nat) : Keeps r (SpRes.plainExc s code).st := h
theorem Keeps.tcmEcc {r s : State} (h : Keeps r s) (c a : Nat) : Keeps r (tcmEcc s c a).st := keeps_raise h _ _ _

/-- A branch leaves the state but for the PC. -/
theorem branchTo_st (s : State) (a : Int) : (branchTo s a).st = s := by
  unfold branchTo; split <;> rfl

/-- A predicate that every turn of a loop keeps holds at its end. -/
theorem forN_keeps {σ : Type} {P : σ → Prop} {f : Nat → σ → σ} (hf : ∀ k x, P x → P (f k x)) (n : Nat) {x : σ} (hx : P x) :
    P (forN n f x) := by
  induction n with
  | zero => exact hx
  | succ n ih => exact hf n _ ih

section
variable {i j : Instr} {s : State} {c : Fin 16}

/-- An instruction keeps what its own effect keeps. -/
theorem Answer.spire {bad : Bool} {body : State → CoreSt → SpRes} (hb : ∀ t, Keeps s t → Keeps s (body t (t.core c)).st) :
    Answer i s (.next (spire s c j bad body)) := .kept (keeps_spire (.refl s) c j bad body hb)

/-- An instruction that changes only its core's own registers. -/
theorem Answer.spReg {bad : Bool} {f : CoreSt → CoreSt} (hf : ∀ x, Memory.wf x.tcm = true → Memory.wf (f x).tcm = true) :
    Answer i s (.next (spReg s c j bad f)) := .kept (keeps_spReg (.refl s) c j bad f hf)

variable {rd rs1 rs2 : BitVec 5}

theorem Answer.alu3 {f : BitVec 32 → BitVec 32 → BitVec 32} : Answer i s (alu3 s c j rd rs1 rs2 f) :=
  .spReg fun _ h => wf_gW h _ _

theorem Answer.alu2 {f : BitVec 32 → BitVec 32} : Answer i s (alu2 s c j rd rs1 rs2 f) := .spReg fun _ h => wf_gW h _ _

theorem Answer.aluImm {f : BitVec 32 → BitVec 32} : Answer i s (aluImm s c j rd rs1 f) := .spReg fun _ h => wf_gW h _ _

theorem Answer.aluSat {bad : Bool} {f : Int → Int → Int} : Answer i s (aluSat s c j bad rd rs1 rs2 f) :=
  .spReg fun _ h => wf_put h _ _

theorem Answer.mul3 {f : BitVec 32 → BitVec 32 → FpRes} : Answer i s (mul3 s c j rd rs1 rs2 f) := .spReg fun _ h => wf_put h _ _

theorem Answer.mac {f : Int → BitVec 32 → BitVec 32 → Int} : Answer i s (mac s c j rd rs1 rs2 f) :=
  .spReg fun _ h => wf_acW h _ _

theorem Answer.macSat {f : Int → BitVec 32 → BitVec 32 → Int} : Answer i s (macSat s c j rd rs1 rs2 f) :=
  .spReg fun _ h => wf_flag (wf_acW h _ _) _

theorem Answer.acrd {bad : Bool} {f : BitVec 72 → FpRes} : Answer i s (acrd s c j bad rd rs1 f) := .spReg fun _ h => wf_put h _ _

theorem Answer.acwr {bad : Bool} {f : BitVec 72 → BitVec 32 → BitVec 72} : Answer i s (acwr s c j bad rd rs1 f) :=
  .spReg fun _ h => wf_acW h _ _

theorem Answer.fp3 {f : Nat → Nat → FpRes} : Answer i s (fp3 s c j rd rs1 rs2 f) := .spReg fun _ h => wf_flag (wf_fW h _ _) _

theorem Answer.fp2 {f : BitVec 32 → FpRes} : Answer i s (fp2 s c j rd rs1 rs2 f) := .spReg fun _ h => wf_flag (wf_fW h _ _) _

theorem Answer.fpCmp {f : Nat → Nat → FpRes} : Answer i s (fpCmp s c j rd rs1 rs2 f) := .spReg fun _ h => wf_put h _ _

theorem Answer.fpToG {f : Nat → FpRes} : Answer i s (fpToG s c j rd rs1 rs2 f) := .spReg fun _ h => wf_put h _ _

theorem Answer.gToFp {f : BitVec 32 → FpRes} : Answer i s (gToFp s c j rd rs1 rs2 f) := .spReg fun _ h => wf_flag (wf_fW h _ _) _

/-- A load: an exception, the data from the own TCM, or a wait. -/
theorem Answer.load {form : Form} {imm : BitVec 16} {n : Nat} {signed fp : Bool} :
    Answer i s (loadInstr s c j form rs1 imm n signed rd fp) := by
  refine .spire fun t ht => ?_
  dsimp only
  split
  · exact .exc ht _ _ _ _
  split
  · split
    · exact .tcmEcc ht _ _
    · exact .done (keeps_updCore (keeps_tcmCorrect ht _ _ _) _ _ fun h => wf_takeLoad h _ _)
  · exact .hold (keeps_setCore ht _ _ id)

/-- A store: an exception, the bytes in the own TCM, an entry of the write buffer, or a wait. -/
theorem Answer.store {form : Form} {imm : BitVec 16} {n : Nat} {val : CoreSt → BitVec 32} :
    Answer i s (storeInstr s c j form rs1 imm n val) := by
  refine .spire fun t ht => ?_
  dsimp only
  split
  · exact .exc ht _ _ _ _
  split
  · split
    · exact .tcmEcc ht _ _
    · exact .done (keeps_updCore (.ite ht (keeps_tcmCorrect ht _ _ _)) _ _ fun h => wf_tcmPut h _ _ _)
  · split
    · exact .done (keeps_setCore ht _ _ id)
    · exact .hold (keeps_setCore ht _ _ id)

/-- A CSR instruction: an exception, or the CSR read and perhaps written. -/
theorem Answer.csr {bad : Bool} {n : BitVec 12} {new : CoreSt → Nat → Option Nat} : Answer i s (csrInstr s c j bad rd n new) := by
  refine .spire fun t ht => ?_
  split
  · exact .plainExc ht _
  split
  · exact .done (keeps_setCore ht _ _ fun h => wf_gW (wf_csrLatch h _ _) _ _)
  split
  · exact .plainExc ht _
  · exact .done (keeps_setCore ht _ _ fun h => wf_csrWrite (wf_gW (wf_csrLatch h _ _) _ _) _ _)

/-- A conditional branch. -/
theorem Answer.branch {off : BitVec 16} {taken : CoreSt → Bool} : Answer i s (condBranch s c j off taken) := by
  refine .spire fun t ht => ?_
  split
  · rw [branchTo_st]; exact ht
  · exact .done ht

/-- A SYS instruction without operands. -/
theorem Answer.sys {f : State → SpRes} (hf : ∀ t, (f t).st = t) : Answer i s (sysInstr s c j rd rs1 rs2 f) := by
  refine .spire fun t ht => ?_
  split
  · exact .plainExc ht _
  · rw [hf]; exact ht

/-- A LOCK operation that ends at once. -/
theorem Answer.lock {n : BitVec 12} {op : State → Nat → Nat → State × Nat}
    (hop : ∀ t, Keeps s t → ∀ k d, Keeps s (op t k d).1) : Answer i s (lockInstr s c j rd rs1 n op) :=
  .spire fun t ht => .done (keeps_updCore (hop t ht _ _) _ _ fun h => wf_gW h _ _)

/-! ### CELL instructions -/

/-- A step of a CELL instruction keeps what every operation keeps. -/
def KeepsRun (s : State) (one : Nat → CellDesc → Nat → Nat → Nat → CellRun → CellRun) : Prop :=
  ∀ (c : Nat) (d : CellDesc) (base k id : Nat) (q : CellRun), Keeps s q.s → Keeps s (one c d base k id q).s

/-- An element's status counted changes no more of the state than the element itself. -/
theorem keepsRun_count {t : State} (h : Keeps s t) (q : CellRun) (code : Nat) : Keeps s (q.count t code).s := h

/-- A gathered element: a read of an entry, and bytes of the TCM. -/
theorem keepsRun_gatherOne : KeepsRun s gatherOne := by
  intro c d base k id q h
  unfold gatherOne
  split
  · exact h
  · have hr := keeps_cellRead h id d.off d.size
    generalize cellRead q.s id d.off d.size = p at hr ⊢
    obtain ⟨t, code, v⟩ := p
    exact keepsRun_count (keeps_updCore (.ite (keeps_tcmCorrect hr _ _ _) hr) _ _ fun h => wf_tcmPut h _ _ _) q code

/-- A scattered element: a write of an entry. -/
theorem keepsRun_scatterOne : KeepsRun s scatterOne := by
  intro c d base k id q h
  unfold scatterOne
  split
  · exact h
  · exact (keeps_cellWrite (keeps_tcmCorrect h _ _ _) _ _ _ _ _ _).upd rfl rfl rfl rfl rfl

/-- The id of an element: words of the id table in TCM are corrected as they are read. -/
theorem keeps_cellId {q : CellRun} (h : Keeps s q.s) (c : Nat) (d : CellDesc) (indexed : Bool) (table k : Nat) :
    Keeps s (cellId c d indexed table k q).2.s := by
  unfold cellId
  split
  · exact keeps_tcmCorrect h _ _ _
  · exact h

/-- A CELL instruction: an exception, or its elements one after another. -/
theorem Answer.cell {indexed reads : Bool} {one : Nat → CellDesc → Nat → Nat → Nat → CellRun → CellRun} (h1 : KeepsRun s one) :
    Answer i s (cellInstr s c j rd rs1 rs2 indexed one reads) := by
  refine .spire fun t ht => ?_
  dsimp only
  split
  · exact .plainExc ht _
  split
  · exact .exc ht _ _ _ _
  split
  · exact .exc ht _ _ _ _
  split
  · exact .exc ht _ _ _ _
  split
  · exact .exc ht _ _ _ _
  split
  · exact .exc (keeps_raise ht _ _ _) _ _ _ _
  split
  · exact .exc (keeps_raise ht _ _ _) _ _ _ _
  · refine .done (keeps_updCore ?_ _ _ fun h => wf_gW h _ _)
    exact forN_keeps (P := fun q : CellRun => Keeps s q.s) (fun k q hq => h1 _ _ _ _ _ _ (keeps_cellId hq _ _ _ _ _)) _ ht

/-! ### The other instructions, one by one -/

variable {n : BitVec 12} {imm : BitVec 16}

theorem answer_lawin : Answer i s (execSpLawin c rd rs1 n s) := .spire fun _ ht => .done (keeps_xfIn ht _ _)

theorem answer_lawing : Answer i s (execSpLawing c rd rs1 n s) := .spire fun _ ht => .done (keeps_xfIn ht _ _)

theorem answer_lawout : Answer i s (execSpLawout c rd rs1 n s) :=
  .spire fun _ ht => .done (keeps_setCore_of_mem (keeps_xfOut ht _) fun m => wf_fW (ht.tcm m c) _ _)

theorem answer_lawoutg : Answer i s (execSpLawoutg c rd rs1 n s) :=
  .spire fun _ ht => .done (keeps_setCore_of_mem (keeps_xfOut ht _) fun m => wf_gW (ht.tcm m c) _ _)

theorem answer_lawgo : Answer i s (execSpLawgo c rd rs1 n s) :=
  .spire fun _ ht => .done (keeps_updCore (keeps_lawGo ht _ _) _ _ fun h => wf_gW h _ _)

theorem answer_lawwt : Answer i s (execSpLawwt c rd rs1 n s) := by
  refine .spire fun t ht => ?_
  dsimp only
  split
  · exact .hold (keeps_setCore ht _ _ id)
  · exact .done ht

theorem answer_lawst : Answer i s (execSpLawst c rd rs1 n s) :=
  .spire fun _ ht => .done (keeps_setCore_of_mem (keeps_lawAnswer ht _ _) fun m => wf_gW (ht.tcm m c) _ _)

theorem answer_waitt : Answer i s (execSpWaitt c rd rs1 rs2 s) := by
  refine .spire fun t ht => ?_
  split
  · exact .hold (keeps_setCore ht _ _ id)
  · refine .done (keeps_setCore ht _ _ fun h => wf_gW ?_ _ _)
    exact h

theorem answer_bar : Answer i s (execSpBar c rd rs1 rs2 s) := by
  refine .spire fun t ht => ?_
  dsimp only
  split
  · exact .hold (keeps_setCore ht _ _ id)
  · exact .plainExc ht _

theorem answer_fence : Answer i s (execSpFence c rd rs1 rs2 s) := by
  refine .spire fun t ht => ?_
  split
  · exact .done ht
  · exact .hold (keeps_setCore ht _ _ id)

theorem answer_send : Answer i s (execSpSend c rd rs1 rs2 s) := by
  refine .spire fun t ht => ?_
  dsimp only
  split
  · exact .plainExc ht _
  split
  · exact .done (keeps_setCore ht _ _ fun h => wf_gW h _ _)
  · exact .done (keeps_updCore (keeps_sendMessage ht _ _) _ _ fun h => wf_gW h _ _)

theorem answer_recv : Answer i s (execSpRecv c rd rs1 rs2 s) := by
  refine .spire fun t ht => ?_
  split
  · exact .hold (keeps_setCore ht _ _ id)
  · exact .done (keeps_setCore ht _ _ fun h => wf_takeMsg h _)

theorem answer_recvn : Answer i s (execSpRecvn c rd rs1 rs2 s) := by
  refine .spire fun t ht => ?_
  split
  · exact .done (keeps_setCore ht _ _ id)
  · exact .done (keeps_setCore ht _ _ fun h => wf_takeMsg h _)

theorem answer_lockacq : Answer i s (execSpLockacq c rd rs1 n s) := by
  refine .spire fun t ht => ?_
  dsimp only
  split
  · exact .hold (keeps_updCore (keeps_lockWait ht _ _) _ _ id)
  · exact .done (keeps_updCore (keeps_lockTry ht _ _) _ _ fun h => wf_gW h _ _)

theorem answer_br {off : BitVec 26} : Answer i s (execSpBr c off s) :=
  .spire fun t ht => by rw [branchTo_st]; exact ht

theorem answer_brl {off : BitVec 26} : Answer i s (execSpBrl c off s) := by
  refine .spire fun t ht => ?_
  have hb := branchTo_st t (relTarget (t.core c) off.toInt)
  split
  · rename_i u a hu
    rw [hu] at hb
    change u = t at hb
    subst hb
    exact .jump (keeps_setCore ht _ _ fun h => wf_gW h _ _) _
  · rw [hb]; exact ht

theorem answer_jalr : Answer i s (execSpJalr c rd rs1 imm s) := by
  refine .spire fun t ht => ?_
  dsimp only
  split
  · exact .exc ht _ _ _ _
  split
  · exact .exc ht _ _ _ _
  · exact .jump (keeps_setCore ht _ _ fun h => wf_gW h _ _) _

end

/-- The load port of a core written or read (R171). -/
theorem answer_loadData {i : Instr} {s : State} (req : Req) (c : Fin 16) (write : Bool) (data : BitVec 32) :
    Answer i s (execSpireLoadData req c write data s) := by
  have hw := keeps_wordCmd (.refl s) req .spire c 0x014 data.toNat 0xFFFFFFFF
  have hr := keeps_readCmd (.refl s) req .spire c 0x014
  exact .kept (Keeps.ite hw hr)

/-! ### Every command -/

/-- Every command, whatever its operands and the state, answers in one of the two forms. The instructions of a core come to the
form they share (`alu3`, `loadInstr`, …), the accesses to the one path of Bus.lean, each event to its own operation. -/
theorem exec_answer (i : Instr) (s : State) : Answer i s (exec i s) := by
  cases i with
  | registerWrite => exact .access fun _ h => .ite (keeps_busWrite h _ _ _ _) (keeps_busError h _ _ _)
  | errClear | userStore | coefficientWrite => exact .access fun _ h => .ite (keeps_busWrite h _ _ _ _) h
  | unmappedAccess => exact .access fun _ h => .ite (keeps_absentAccess h _ _ _) h
  | hiWordLatchRead => exact .access fun _ h => keeps_readAnswer h _ _ _
  | cycleTick => exact .onFab fun _ h => keeps_cycleTick h
  | pipeEnd => exact .onFab fun _ h => keeps_pipeEnd h
  | retDeadline => exact .onFab fun _ h => keeps_retDeadline h
  | cseCompletion => exact .onFab fun _ h => keeps_cseCompletion h
  | nCutoff => exact .onFab fun _ h => keeps_nCutoff h
  | budgetRefill => exact .onFab fun _ h => keeps_budgetRefill h _
  | selectorsDone => exact .onFab fun _ h => keeps_selectorsDone h
  | gateStageDone => exact .onFab fun _ h => keeps_gateStageEnd h
  | launchSetupPoint => exact .onFab fun _ h => keeps_launchSetup h _
  | ovrLimitReached => exact .onFab fun _ h => keeps_ovrLimit h _
  | pipeOvrClear | mgmtReqPush | armNWrite | armVrefArmWrite | gcsSetArm | gcsSetRing | gcsRingClear | gcsCellClrFlt
  | gcsCellClrIllegal | slotInit | spireMboxSend | ldgAck | queuePush | filtInWrite | pwmForce | pwmGload | drvReqPush
  | incrWrite | cascTxWrite | lanternWakeRequest | lanternStateRequest | lanternAutoRequest | rstOrderly | rstForce
  | hostDoorbell | cmdTailWrite => exact .word
  | ovrBlockClear | ringLostClear | ringClrStats | cseInit | gcsSetAll | gcsArmClear | gcsAllClear | lawInit | testStart
  | testStop | spireRun | spireHalt | spireTcmInit | closeNow | curveLoad | ckptNow | ldgRestore | markFail | memcInit
  | journalRecover | journalFormat | scanGo | scanAbort | queueAbort | queueFlush | queueClear | adcAbort | adcSwtrig
  | svLostClear | svClrStats | filtSwap | filtPreset | oculusArm | oculusStop | oculusForce | pwmTripClear | pwmShootClear
  | pwmIntlkClear | stepGo | slewGo | setGo | clrCoarse | rejoin | yieldToken | syncDone | wdtEnable | wdtKick | bootHostGo =>
    exact .bit
  | ringFrameReceive => exact .onFab fun _ h => keeps_ringFrame h _ _ _
  | ringStale => exact .onFab fun _ h => keeps_ringStale h _
  | ringLost => exact .onFab fun _ h => keeps_ringLost h _
  | ringLockLost | ringLockRegained => exact .onFab fun _ h => keeps_ringLock h _ _
  | mgmtRspPop | gcsEvtLatch | gcsEvtPop | ldgAckRspRead | queuePopTag | queuePop | tevtLatch | tevtPop | drvRspPop
  | captureLatch | capturePop | txtsPop | secureRspRead => exact .read
  | mgmtNoack => exact .onFab fun _ h => keeps_mgmtNoack h _
  | mgmtResponseReturn => exact .onFab fun _ h => keeps_mgmtReturn h _ _ _ _
  | termReset => exact .term (.reset _ _ _ _ _)
  | termFrameEnd => exact .term (.frameEnd _ _ _)
  | termMgmtHeader => exact .term (.header _ _ _ _)
  | termSelfTestComplete => exact .term (.testDone _ _)
  | termFrameBreak => exact .term (.frameBreak _ _)
  | termWatchdogExpiry => exact .term (.watchdog _ _)
  | termSwitchTurnOn => exact .term (.turnOn _ _ _)
  | termInterlockTimeout => exact .term (.interlock _ _ _)
  | termComparatorTrip => exact .term (.trip _ _ _)
  | termLockLost => exact .term (.lockLost _ _)
  | termLockRegained => exact .term (.lockRegained _ _)
  | termWrapStart => exact .term (.wrapStart _ _)
  | termWrapStop => exact .term (.wrapStop _ _)
  | cellStoreWrite => exact .access fun _ h => keeps_busWrite h _ _ _ _
  | ecSetPend | clrMax | clrCorrupt => exact .cellFlag
  | cseInitDone => exact .onFab fun _ h => keeps_storeInitDone h
  | leaseUpdate => exact .onFab fun _ h => keeps_leaseUpdate h
  | stateErr => exact .onFab fun _ h => keeps_stateErrEvent h _
  | lawListStart => exact .onFab fun _ h => keeps_lawListStart h
  | lawEntryIssue => exact .onFab fun _ h => keeps_lawEntryIssue h
  | lawEntryComplete => exact .onFab fun _ h => keeps_lawEntryComplete h
  | lawInitDone => exact .onFab fun _ h => keeps_lawInitDone h
  | testEnd => exact .onFab fun _ h => keeps_testEnd h
  | interruptTaken => exact .onFab fun _ h => keeps_takeInterrupt h _
  | msgException => exact .onFab fun _ h => keeps_takeMessage h _
  | waittRelease => exact .onFab fun _ h => keeps_waittRelease h
  | barRelease => exact .onFab fun _ h => keeps_barRelease h _
  | barTimeout => exact .onFab fun _ h => keeps_barTimeout h _
  | messageArrival => exact .onFab fun _ h => keeps_messageArrives h _
  | recvRelease => exact .onFab fun _ h => keeps_recvRelease h _
  | storeCommit => exact .onFab fun _ h => keeps_storeCommit h _
  | loadReturn => exact .onFab fun _ h => keeps_loadReturn h _
  | lawwtRelease => exact .onFab fun _ h => keeps_lawwtRelease h _
  | lockGrant => exact .onFab fun _ h => keeps_lockGrant h _
  | spireTcmInitDone => exact .onFab fun _ h => keeps_tcmInitDone h _
  | spireLoadData => exact answer_loadData _ _ _ _
  | spAdd | spSub | spAnd | spOr | spXor | spNor | spSlt | spSltu | spSll | spSrl | spSra | spMin | spMax | spMinu | spMaxu =>
    unfold exec; exact .alu3
  | spSlli | spSrli | spSrai | spAddi | spAndi | spOri | spXori | spSlti | spSltiu => unfold exec; exact .aluImm
  | spAdds | spSubs | spAbs => unfold exec; exact .aluSat
  | spClz | spSextb | spSexth | spZexth => unfold exec; exact .alu2
  | spImmh => unfold exec; exact .spReg fun _ h => wf_gW h _ _
  | spMul | spMulh | spMulhu | spMulq => unfold exec; exact .mul3
  | spMac | spMacu | spMsu => unfold exec; exact .mac
  | spMacs | spMsus => unfold exec; exact .macSat
  | spAcrd | spAcrdt | spAcrdl | spAcrdh | spAcrdx => unfold exec; exact .acrd
  | spAcwr | spAcwrh | spAcwrx | spAcclr => unfold exec; exact .acwr
  | spFadd | spFsub | spFmul | spFdiv | spFmin | spFmax => unfold exec; exact .fp3
  | spFsqrt | spFabs | spFneg | spFmv => unfold exec; exact .fp2
  | spFeq | spFlt | spFle => unfold exec; exact .fpCmp
  | spFcvtsw | spFmvgf => unfold exec; exact .gToFp
  | spFcvtw | spFcvtwt | spFmvfg => unfold exec; exact .fpToG
  | spLdb | spLdbu | spLdh | spLdhu | spLdw | spFlw => unfold exec; exact .load
  | spStb | spSth | spStw | spFsw => unfold exec; exact .store
  | spCgath | spCgathx => unfold exec; exact .cell keepsRun_gatherOne
  | spCscat | spCscatx => unfold exec; exact .cell keepsRun_scatterOne
  | spLawin => unfold exec; exact answer_lawin
  | spLawing => unfold exec; exact answer_lawing
  | spLawout => unfold exec; exact answer_lawout
  | spLawoutg => unfold exec; exact answer_lawoutg
  | spLawgo => unfold exec; exact answer_lawgo
  | spLawwt => unfold exec; exact answer_lawwt
  | spLawst => unfold exec; exact answer_lawst
  | spWaitt => unfold exec; exact answer_waitt
  | spBar => unfold exec; exact answer_bar
  | spFence => unfold exec; exact answer_fence
  | spSend => unfold exec; exact answer_send
  | spRecv => unfold exec; exact answer_recv
  | spRecvn => unfold exec; exact answer_recvn
  | spLockacq => unfold exec; exact answer_lockacq
  | spLocktry => unfold exec; exact .lock fun _ h _ _ => keeps_lockTry h _ _
  | spLockrel => unfold exec; exact .lock fun _ h _ _ => keeps_lockRel h _ _
  | spLockclr => unfold exec; exact .lock fun _ h _ _ => keeps_lockClr h _ _
  | spCsrr | spCsrw | spCsrs | spCsrc => unfold exec; exact .csr
  | spBr => unfold exec; exact answer_br
  | spBrl => unfold exec; exact answer_brl
  | spJalr => unfold exec; exact answer_jalr
  | spBeq | spBne | spBlt | spBge | spBltu | spBgeu | spBeqi | spBnei | spBlti | spBgei => unfold exec; exact .branch
  | spXret | spHalt => unfold exec; exact .sys fun _ => rfl
  | spTrap | spBreak => unfold exec; exact .spire fun _ ht => .exc ht _ _ _ _
  | leaseEnWrite | leaseSuspend | priLevelWrite | adcDisable | tickDisable | twinEnWrite => exact .field
  | periodClose => exact .onFab fun _ h => keeps_periodClose h _
  | pageSignComplete => exact .onFab fun _ h => keeps_pageSign h
  | pageResend => exact .onFab fun _ h => keeps_pageResend h
  | checkpointTimer => exact .onFab fun _ h => keeps_ckptTimer h
  | checkpointComplete => exact .onFab fun _ h => keeps_ckptComplete h _
  | restoreComplete => exact .onFab fun _ h => keeps_restoreComplete h
  | scrubRead => exact .onFab fun _ h => keeps_scrubRead h _
  | memcInitDone => exact .onFab fun _ h => keeps_memcInitDone h _
  | localPrepareDone => exact .onFab fun _ h => keeps_localPrepare h _
  | remotePrepare => exact .onFab fun _ h => keeps_remotePrepare h _ _ _ _ _ _ _ _
  | preparedReceive => exact .onFab fun _ h => keeps_preparedReceive h _ _
  | journalAccept => exact .onFab fun _ h => keeps_journalAccept h _
  | remoteCommit => exact .onFab fun _ h => keeps_remoteCommit h _ _
  | prepareTimeout => exact .onFab fun _ h => keeps_prepareTimeout h _ _
  | journalRecoveryComplete => exact .onFab fun _ h => keeps_recoveryComplete h _
  | scanDone => exact .onFab fun _ h => keeps_scanFinish h
  | scanEccStop => exact .onFab fun _ h => keeps_scanStop h
  | belfryRequest => exact .onFab fun _ h => keeps_belRequest h _ _ _
  | belfryGrant => exact .onFab fun _ h => keeps_belGrant h _
  | belfryWithdraw => exact .onFab fun _ h => keeps_belWithdraw h _ _
  | starvation => exact .onFab fun _ h => keeps_starvation h _
  | ownerFault => exact .onFab fun _ h => keeps_ownerFault h _
  | lockCmdTry | lockCmdRel | lockCmdClr => exact .lockWord
  | queueAutoFlush => exact .onFab fun _ h => keeps_queueAutoFlush h _
  | packetVisible => exact .onFab fun _ h => keeps_packetVisible h _
  | spillReadback => exact .onFab fun _ h => keeps_spillReadback h _
  | adcTrigger => exact .onFab fun _ h => keeps_adcTrigger h _
  | adcRunStart => exact .onFab fun _ h => keeps_adcRunStart h _
  | adcEntryComplete => exact .onFab fun _ h => keeps_adcEntryComplete h _ _
  | plausFlag => exact .onFab fun _ h => keeps_plausFlag h _
  | svFrameReceive => exact .onFab fun _ h => keeps_svReceive h _ _ _
  | svStale => exact .onFab fun _ h => keeps_svStale h _ _
  | svLost => exact .onFab fun _ h => keeps_tripUpdate (keeps_svLost h _ _) _
  | filtSampleArrival => exact .onFab fun _ h => keeps_filtSample h _
  | filtJobStart => exact .onFab fun _ h => keeps_filtJobStart h
  | filtJobEnd => exact .onFab fun _ h => keeps_filtJobEnd h
  | filtTimeout => exact .onFab fun _ h => keeps_filtTimeout h _
  | oculusStrobe => exact .onFab fun _ h => keeps_ocStrobe h
  | oculusRecordClose => exact .onFab fun _ h => keeps_ocClose h
  | oculusRecordWrite => exact .onFab fun _ h => keeps_ocWrite h
  | pwmReload => exact .onFab fun _ h => keeps_pwmReload h _
  | pwmCarrierChange => exact .onFab fun _ h => keeps_pwmChange h _
  | pwmTurnOn => exact .onFab fun _ h => keeps_pwmTurnOn h _ _ _
  | pwmInterlockTimeout => exact .onFab fun _ h => keeps_pwmTimeout h _ _ _
  | pwmShoot => exact .onFab fun _ h => keeps_pwmShoot h _ _ _
  | pwmRefreshStart => exact .onFab fun _ h => keeps_pwmRefreshStart h _
  | pwmRefreshEnd => exact .onFab fun _ h => keeps_pwmRefreshEnd h _
  | pwmTriggerPulse => exact .onFab fun _ h => keeps_pwmPulse h _
  | tripFilterAssert => exact .onFab fun _ h => keeps_tripAssert h _ _ _
  | tripFilterDeassert => exact .onFab fun _ h => keeps_tripDeassert h _ _ _
  | drvTransactionStart => exact .onFab fun _ h => keeps_drvStart h
  | drvTransactionEnd => exact .onFab fun _ h => keeps_drvEnd h _
  | slewEnd => exact .onFab fun _ h => keeps_endSlew h
  | tickEnable => exact .kept (keeps_fieldCmd (keeps_startAt (.refl s) _ _) _ _ _ _ _)
  | timerFire => exact .onFab fun _ h => keeps_timerFires h _
  | toutActive => exact .onFab fun _ h => keeps_outputFires h _
  | toutIdle => exact .onFab fun _ h => keeps_outIdle h _
  | captureEdge => exact .onFab fun _ h => keeps_captureEdge h _ _
  | peerLinkUp => exact .onFab fun _ h => keeps_linkUp h _ _
  | peerLinkDown => exact .onFab fun _ h => keeps_linkDown h _
  | cycleMessageReceive => exact .onFab fun _ h => .ite (keeps_masterMessage h _) (keeps_twinMessage h _)
  | cascadeCountReceive => exact .onFab fun _ h => keeps_countReceive h _ _
  | sumsReceive => exact .onFab fun _ h => keeps_sumsReceive h _ _
  | masterLost => exact .onFab fun _ h => keeps_masterLost h
  | followerLost => exact .onFab fun _ h => keeps_followerLost h _
  | maskWaitEnd => exact .onFab fun _ h => keeps_maskWaitEnd h
  | mismatchNoticeReceive => exact .onFab fun _ h => keeps_mismatchNotice h _ _ _
  | statusForwardReceive => exact .onFab fun _ h => keeps_statusForward h _ _
  | twinMeasDelivery => exact .onFab fun _ h => keeps_measEdge h _
  | replayComplete => exact .onFab fun _ h => keeps_replayComplete h
  | leaseExpiry => exact .onFab fun _ h => keeps_leaseExpiry h
  | twinStartTimeout => exact .onFab fun _ h => keeps_twinStartTimeout h
  | handover => exact .onFab fun _ h => keeps_handoverEvent h
  | chaseCopyReceive => exact .onFab fun _ h => keeps_chaseCopy h _
  | relayCopyReceive => exact .onFab fun _ h => keeps_relayCopy h _ _
  | keepDemand => exact .onKeep fun _ h => keeps_keepDemand h _
  | keepAckPulse => exact .onKeep fun _ h => keeps_keepAck h _ _
  | keepPairFault => exact .onKeep fun _ h => keeps_keepPairFault h _
  | keepRelease | keepSpwReq | keepSgrReq | keepConfigWrite | keepUnlock | keepCommit | keepDiscard | keepLock | keepSetpass
  | keepLogClear => exact .keepWord
  | keepRampCompare => exact .onKeep fun _ h => keeps_keepCompare h
  | keepRampTimeout => exact .onKeep fun _ h => keeps_keepRampTimeout h
  | keepFbDiscrepancy => exact .onKeep fun _ h => keeps_keepDiscrepancy h _
  | keepFollowTimeout => exact .onKeep fun _ h => keeps_keepFollow h _
  | safeFault => exact .onKeep fun _ h => keeps_checkFailed h _
  | keepRelayTest => exact .onKeep fun _ h => keeps_relayTest h _
  | keepInputTest => exact .onKeep fun _ h => keeps_inputTest h _
  | keepConfigCheck => exact .onKeep fun _ h => keeps_keepConfigCheck h
  | keepUnlockExpiry => exact .onKeep fun _ h => keeps_keepUnlockExpiry h
  | keepLockoutEnd => exact .onKeep fun _ h => keeps_keepLockoutEnd h
  | entryStepDone => exact .kept (keeps_entryStep (.refl s) _)
  | lanternExitComplete => exact .kept (keeps_exitComplete (.refl s) _)
  | lwakeEdge => exact .kept (keeps_lwakeEdge (.refl s) _ _ _)
  | lanternAlarm => exact .kept (keeps_lanternAlarm (.refl s))
  | wakePortMatch => exact .kept (keeps_wakePort (.refl s) _ _ _)
  | vaonLow => exact .kept (keeps_vaonLevel (.refl s) _ _)
  | brownOut => exact .kept (keeps_brownOut (.refl s))
  | brownOutRelease => exact .kept (keeps_brownOutRelease (.refl s) _)
  | oscStop => exact .kept (keeps_oscStopped (.refl s))
  | refAccepted => exact .kept (keeps_refAccepted (.refl s))
  | pllLock => exact .kept (keeps_pllLock (.refl s) _)
  | pllLoss => exact .kept (keeps_pllLoss (.refl s))
  | resetPin => exact .kept (keeps_assertReset (.refl s) _)
  | pgoodRise => exact .kept (keeps_pgoodRise (.refl s))
  | pgoodFall => exact .kept (keeps_pgoodFall (.refl s))
  | wdtExpiry => exact .onFab fun _ h => keeps_wdtExpiry h
  | deviceResetRelease => exact .kept (keeps_resetRelease (.refl s) _ _)
  | bootSlotLoad => exact .onFab fun _ h => keeps_bootSlotLoad h _ _
  | secureVerify | secureVerifyTcm | secureKey | secureSvnCommit | secureAttest => exact .secureWord
  | secureCommandComplete => exact .onFab fun _ h => keeps_secureComplete h
  | hostLinkEvent => exact .onFab fun _ h => keeps_hostEvent h _
  | cmdEntryRead => exact .onFab fun _ h => keeps_cmdEntryRead h
  | completionWrite => exact .onFab fun _ h => keeps_completionWrite h
  | fwDoneWrite => exact .kept (keeps_wordCmd (keeps_wordCmd (.refl s) _ _ _ _ _ _) _ _ _ _ _ _)
  | stationFrameReceive => exact .onFab fun _ h => keeps_stationReceive h _ _ _
  | stationFrameTransmit => exact .onFab fun _ h => keeps_stationTransmit h _
  | uartRegisterFrame => exact .onFab fun _ h => keeps_uartFrame h _
  | safetyTransaction => exact .onKeep fun _ h => keeps_safetyFrame h _
  | testPortInstruction => exact .kept (keeps_testInstruction (.refl s) _)
  | keepFeedbackChange => exact .onKeep fun _ h => keeps_keepFeedback h _ _ _
  | keepDemandRelease => exact .onKeep fun _ h => keeps_keepDemandEnd h _
  | stationLinkChange => exact .onFab fun _ h => keeps_stationLink h _ _
  | hostLinkUp => exact .onFab fun _ h => keeps_linkTrained h
  | hostInbandWake => exact .kept (keeps_latchWake (.refl s) _)
  | uartByteReceive => exact .onFab fun _ h => keeps_uartByteIn h _
  | uartByteTransmit => exact .onFab fun _ h => keeps_uartByteOut h
  | peerFirmwarePacketReceive => exact .onFab fun _ h => keeps_peerPacketIn h _
  | peerFirmwarePacketSend => exact .onFab fun _ h => keeps_peerPacketOut h
  | dramRefresh => exact .onFab fun _ h => keeps_dramRefresh h _
  | clkout1ppsEdge => exact .onFab fun _ h => keeps_clkoutPps h _

/-! ### What every answer and every step leaves -/

/-- A command answers a next state with the queue as it was, the edge count not lower and the memories still in canonical form. -/
theorem Answer.next {i : Instr} {s : State} {o : Out} (h : Answer i s o) :
    ∃ t, o = .next t ∧ t.pending = s.pending ∧ s.fab ≤ t.fab ∧ (s.memOk → t.memOk) := by
  cases h with
  | kept h => exact ⟨_, rfl, h.pending, h.fab, h.mem⟩
  | term h => exact ⟨_, rfl, rfl, Nat.le_refl _, id⟩

/-- A step that answers: an edge on an empty queue, or the front command on the state that holds the rest of the queue. -/
theorem step_cases {s t : State} (h : step s = .next t) :
    (s.pending = [] ∧ t = idleEdge s) ∨ ∃ c rest, s.pending = c :: rest ∧ exec c { s with pending := rest } = .next t := by
  unfold step at h
  split at h
  · injection h with h
    exact .inl ⟨‹_›, h.symm⟩
  · exact .inr ⟨_, _, ‹_›, h⟩

/-- An idle edge keeps what every operation keeps. -/
theorem keeps_idleEdge (s : State) : Keeps s (idleEdge s) := Keeps.ite (keeps_edges (.refl s) 1) (.refl s)

/-- A step takes the front command from the queue, does not run the edge count back and keeps the form of the memories. -/
theorem step_leaves {s t : State} (h : step s = .next t) :
    t.pending = s.pending.tail ∧ s.fab ≤ t.fab ∧ (s.memOk → t.memOk) := by
  obtain ⟨hp, rfl⟩ | ⟨c, rest, hp, he⟩ := step_cases h
  · have k := keeps_idleEdge s
    exact ⟨by rw [k.pending, hp, List.tail_nil], k.fab, k.mem⟩
  · obtain ⟨u, hu, hpend, hfab, hmem⟩ := (exec_answer c { s with pending := rest }).next
    obtain rfl : u = t := by rw [hu] at he; injection he
    exact ⟨by rw [hpend, hp, List.tail_cons], hfab, hmem⟩

/-- Settles O25: an operation that stores bytes stores them through `memPut`, which keeps the canonical form. -/
theorem stepKeepsMemory : Obligations.StepKeepsMemory := fun _ _ hm h =>
  let ⟨_, _, hmem⟩ := step_leaves h
  hmem hm

/-- Settles O23, by the case split over the commands (`exec_answer`). -/
theorem everyCommandAnswers : Obligations.EveryCommandAnswers := fun i s =>
  let ⟨t, ht, hpend, hfab, _⟩ := (exec_answer i s).next
  ⟨t, ht, hpend, hfab⟩

/-- Settles O27: the command runs with the rest of the queue, which no command changes. -/
theorem stepConsumesQueue : Obligations.StepConsumesQueue := fun _ _ h =>
  let ⟨hpend, hfab, _⟩ := step_leaves h
  ⟨hpend, hfab⟩

/-- Settles O21: the two sides are one term. -/
theorem frontCommand : Obligations.FrontCommand := fun _ _ _ => rfl

/-! ### The state after reset -/

/-- Settles O28, by evaluation of the reset state. -/
theorem resetState : Obligations.ResetState := by
  unfold Obligations.ResetState
  decide +kernel

end Sys2Proof.Machine

/-!
SUPPORT. A register write that is refused (R8 to R11): the write comes to the register's word, and the refusal goes to the block's ERR.
-/
namespace Sys2Proof.Machine

/-! ### Fields outside a list of places -/

/-- A field written at a place of the list. -/
theorem RegsBut.wr {ks : List Nat} {s t : State} (h : RegsBut ks s t) {f : Fld} {i j : Nat} (hk : f.key i j ∈ ks) (v : Nat) :
    RegsBut ks s (t.wr f v i j) := fun g a b hg =>
  (State.rd_wr_ne t f g v i j a b fun e => hg (e ▸ hk)).trans (h g a b hg)

/-- Nothing written. -/
theorem RegsBut.refl (ks : List Nat) (s : State) : RegsBut ks s s := fun _ _ _ _ => rfl

/-! ### An aligned word written at a register -/

/-- A bus write of an aligned word at a powered register is the write of that word. -/
theorem busWrite_word {s : State} {req : Req} {a v : Nat} {b : Blk} {i off : Nat} (ht : target a = .reg b i off)
    (hp : powered s (.reg b i off) = true) (ha : a % 4 = 0) :
    busWrite s req a 4 v = regWrite s req b i (off - off % 4) v 0xFFFFFFFF := by
  unfold busWrite
  simp [ht, hp, ha]

/-- REGISTER_WRITE at a register with power, under a running clock (R8). -/
theorem exec_registerWrite {s : State} {addr : BitVec 40} {b : Blk} {i off : Nat} (hc : clocked s = true)
    (ht : target addr.toNat = .reg b i off) (hp : powered s (.reg b i off) = true) (ha : addr.toNat % 4 = 0) (req : Req)
    (data : BitVec 32) :
    exec (.registerWrite req addr data) s = .next (regWrite s req b i (off - off % 4) data.toNat 0xFFFFFFFF) := by
  show Host.Outcome.next (onFab s _) = _
  rw [onFab_on hc, if_pos ha, busWrite_word ht hp ha]

/-- What follows from either branch of a choice that answers r. -/
theorem of_ite_eq {α : Type} {c : Prop} [Decidable c] {x y r : α} {p : Prop} (hx : x = r → p) (hy : y = r → p)
    (h : (if c then x else y) = r) : p := by
  by_cases hc : c
  · exact hx (by rwa [if_pos hc] at h)
  · exact hy (by rwa [if_neg hc] at h)

/-- The block of SYS has one copy. -/
theorem blkAt_sys {o i off : Nat} : blkAt o = some (.sys, i, off) → i = 0 := by
  unfold blkAt
  refine of_ite_eq ?_ ?_
  · generalize o / 0x10000 = n
    intro h
    match n with
    | 0 => cases h; rfl
    | 1 | 2 | 3 | 4 | 5 | 6 | 7 | 8 | 9 | _ + 10 => cases h
  · repeat' refine of_ite_eq ?_ ?_
    all_goals intro h; cases h

/-- An address in SYS names copy 0. -/
theorem target_sys {a i off : Nat} (h : target a = .reg .sys i off) : i = 0 := by
  unfold target at h
  repeat' split at h
  all_goals cases h
  exact blkAt_sys ‹_›

/-! ### Refusals -/

/-- The codes of R11's order fit the field CODE. -/
theorem firstRefusal_lt (codes : List Nat) : firstRefusal codes < 2 ^ 8 := by
  unfold firstRefusal
  split
  · exact (by decide : ∀ c ∈ refusalOrder, c < 2 ^ 8) _ (List.mem_of_find?_eq_some ‹_›)
  · decide

/-- The CODE field of every ERR register is the low byte of its word (R10). -/
theorem errCode_place (b : Blk) : b.errCode.lsb = 0 ∧ b.errCode.width = 8 := by cases b <;> decide

/-- The places of the CODE, the two parts of the offset and MORE in the ERR word of a CODE field. -/
abbrev errKeys (f : Fld) (k : Nat) : List Nat := [f.key k 0, (f.inErr 8 12).key k 0, (f.inErr 20 10).key k 0, (f.inErr 31 1).key k 0]

/-- A further field of an ERR word lies in the same word. -/
theorem key_inErr (f : Fld) (lsb width i j : Nat) : (f.inErr lsb width).key i j = f.addr i j * 32 + lsb := rfl

/-- A CODE field lies at the low end of its word. -/
theorem key_code {f : Fld} (hf : f.lsb = 0) (i j : Nat) : f.key i j = f.addr i j * 32 := by rw [Fld.key, hf, Nat.add_zero]

/-- What recording a refusal leaves (R9, R10): the first refusal with its offset in two parts, a later one only as MORE. -/
theorem recordErr_leaves (s : State) {f : Fld} (hf : f.lsb = 0) (hw : f.width = 8) (k o : Nat) {code : Nat} (hcode : code < 2 ^ 8) :
    let t := s.recordErr f k code o
    t = { s with regs := t.regs } ∧ RegsBut (errKeys f k) s t ∧
      (s.rd f k = 0 → t.rd f k = code ∧ t.rd (f.inErr 8 12) k = o % 4096 ∧ t.rd (f.inErr 20 10) k = o / 4096 % 1024 ∧
        t.rd (f.inErr 31 1) k = s.rd (f.inErr 31 1) k) ∧
      (s.rd f k ≠ 0 → t.on (f.inErr 31 1) k = true ∧ RegsBut [(f.inErr 31 1).key k 0] s t) := by
  have hk := key_code hf k 0
  dsimp only
  by_cases h : s.rd f k = 0
  · simp only [State.recordErr, if_pos h]
    refine ⟨rfl, ((((RegsBut.refl _ s).wr ?_ _).wr ?_ _).wr ?_ _), fun _ => ⟨?_, ?_, ?_, ?_⟩, fun hn => absurd h hn⟩
    · simp
    · simp
    · simp
    · rw [State.rd_wr_ne _ _ _ _ _ _ _ _ (by simp only [key_inErr, hk]; omega),
        State.rd_wr_ne _ _ _ _ _ _ _ _ (by simp only [key_inErr, hk]; omega), State.rd_wr_same, hw, Nat.mod_eq_of_lt hcode]
    · rw [State.rd_wr_ne _ _ _ _ _ _ _ _ (by simp only [key_inErr]; omega), State.rd_wr_same]
      exact Nat.mod_eq_of_lt (Nat.mod_lt _ (by decide))
    · exact State.rd_wr_same _ _ _ _ _
    · iterate 3 rw [State.rd_wr_ne _ _ _ _ _ _ _ _ (by simp only [key_inErr, hk]; omega)]
  · simp only [State.recordErr, if_neg h]
    refine ⟨rfl, (RegsBut.refl _ s).wr ?_ _, fun h0 => absurd h0 h, fun _ => ⟨?_, (RegsBut.refl _ s).wr ?_ _⟩⟩
    · simp
    · rw [State.on, State.rd_wr_same]; rfl
    · simp

/-- The ERR word that records a refused write of a register word (R9, R216): that of the ledger for words of the ledger. -/
abbrev refusalField (b : Blk) (w : Nat) : Fld := if b = .sys ∧ 0x300 ≤ w ∧ w < 0x400 then SYS_LDG_ERR_CODE else b.errCode

/-- A refused write of a register word is recorded and answered. -/
theorem refuseReg_eq (s : State) {b : Blk} {i : Nat} (hi : b = .sys → i = 0) (w code : Nat) :
    refuseReg s b i w code = (s.recordErr (refusalField b w) (b.errInst i) code (b.errOff i w)).answer code 0 := by
  by_cases h : b = .sys ∧ 0x300 ≤ w ∧ w < 0x400
  · obtain ⟨rfl, h1, h2⟩ := h
    simp [refuseReg, refusalField, h1, h2, hi rfl, Blk.errInst, Blk.errOff]
  · rw [refuseReg, refusalField, if_neg h, if_neg (by simpa [and_assoc] using h)]
    rfl

/-- The place of the CODE field that records a refused write. -/
theorem refusalField_place (b : Blk) (w : Nat) : (refusalField b w).lsb = 0 ∧ (refusalField b w).width = 8 := by
  unfold refusalField
  split
  · decide
  · exact errCode_place b

/-- Settles O29: the write comes to `refuseReg`, which records the refusal and answers. -/
theorem registerWriteRefused : Obligations.RegisterWriteRefused := by
  intro s req addr data b i off hc ht hp ha w code f k o hne
  obtain ⟨hlsb, hwid⟩ := refusalField_place b w
  obtain ⟨hrest, hregs, hfirst, hmore⟩ := recordErr_leaves s hlsb hwid k o (firstRefusal_lt _ : code < 2 ^ 8)
  refine ⟨(s.recordErr f k code o).answer code 0, ?_, rfl, ?_, hregs, hfirst, hmore⟩
  · rw [exec_registerWrite hc ht hp ha, regWrite_refused hne, refuseReg_eq s fun hb => target_sys (hb ▸ ht)]
  · exact congrArg (State.answer · code 0) hrest

end Sys2Proof.Machine

/-!
SUPPORT. The parts of a written word (R4 to R6): what storing one does, and what storing all of them leaves.
-/
namespace Sys2Proof.Machine

/-! ### Waiting values -/

/-- The entry of a key after an entry has been set. -/
theorem findKey_set {α : Type} (m : Sp α) (n k : Nat) (x : α) :
    findKey (m.set n x) k = if k = n then some x else findKey m k := by
  induction m with
  | nil => simp [Sp.set, findKey]
  | cons p t ih =>
    obtain ⟨j, v⟩ := p
    unfold Sp.set
    split
    · simp [findKey]
    · split
      · rename_i hj
        subst hj
        by_cases hk : k = n <;> simp [findKey, hk]
      · rename_i hj
        by_cases hk : k = j
        · subst hk; simp [findKey, Ne.symm hj]
        · simp [findKey, hk, ih]

/-- The value last written to a field after another field's place was written. -/
theorem written_wr_ne (s : State) {f g : Fld} {i j i' j' : Nat} (h : g.key i' j' ≠ f.key i j) (v : Nat) :
    (s.wr f v i j).written g i' j' = s.written g i' j' := by
  unfold State.written
  rw [State.wr_staged, State.rd_wr_ne _ _ _ _ _ _ _ _ h]

/-- A staged field leaves the values in force. -/
theorem rd_stage (s : State) (f g : Fld) (v i j i' j' : Nat) : (s.stage f v i j).rd g i' j' = s.rd g i' j' := rfl

/-- The value last written to a field after another was staged. -/
theorem written_stage_ne (s : State) {f g : Fld} {i j i' j' : Nat} (h : g.key i' j' ≠ f.key i j) (v : Nat) :
    (s.stage f v i j).written g i' j' = s.written g i' j' := by
  unfold State.written
  rw [rd_stage]
  simp only [State.stage, findKey_set, if_neg h]

/-! ### One part of a word stored -/

/-- The fields whose write stores nothing, whatever their access type. -/
abbrev unstored : List Fld := [PORT_FW_DONE_JSEQ, SPIRE_CTRL_RUN, SPIRE_LOAD_DATA_DATA]

/-- A part takes effect in the register file at once: a bit written as 1, or a field without a load event (R5, R6). -/
def Piece.direct (p : Piece) : Prop :=
  p.fld.acc = .w1c ∨ p.fld.acc = .w1s ∨ (p.fld.acc = .rw ∧ (p.fld.cls = .live ∨ p.fld.cls = .held))

section
variable {s : State} {i data m : Nat} {p : Piece}

/-- A part that the write does not carry, or of an RO field, is stored nowhere. -/
theorem storePiece_skip (h : p.carried m = 0 ∨ p.fld.acc = .ro) : storePiece i data m s p = s :=
  storePiece_silent (by unfold Piece.silent; obtain h | h := h <;> simp [h]) i data s

/-- A part that takes effect at once is written. -/
theorem storePiece_direct (hc : p.carried m ≠ 0) (hn : p.fld ∉ unstored) (hd : p.direct) :
    storePiece i data m s p = s.wr p.fld (s.after i p data m) i p.idx := by
  simp only [List.mem_cons, List.not_mem_nil, or_false, not_or] at hn
  obtain ⟨h1, h2, h3⟩ := hn
  unfold storePiece
  obtain ha | ha | ⟨ha, hl⟩ := hd
  · simp [hc, h1, h2, h3, ha]
  · simp [hc, h1, h2, h3, ha]
  · simp [hc, h1, h2, h3, ha, hl]

/-- A part of a lease curve or of Keep's configuration waits for its load event. -/
theorem storePiece_staged (hc : p.carried m ≠ 0) (hn : p.fld ∉ unstored) (ha : p.fld.acc = .rw)
    (hl : p.fld.cls = .commit ∨ p.fld.cls = .curve) :
    storePiece i data m s p = s.stage p.fld (s.after i p data m) i p.idx := by
  simp only [List.mem_cons, List.not_mem_nil, or_false, not_or] at hn
  obtain ⟨h1, h2, h3⟩ := hn
  unfold storePiece
  obtain hl | hl := hl <;> simp [hc, h1, h2, h3, ha, hl]

/-- What storing a part can do: nothing, a write, or a value that waits. -/
theorem storePiece_cases (s : State) (i data m : Nat) (p : Piece) :
    storePiece i data m s p = s ∨ (∃ v, storePiece i data m s p = s.wr p.fld v i p.idx) ∨
      ∃ v, storePiece i data m s p = s.stage p.fld v i p.idx := by
  unfold storePiece
  dsimp only
  split
  · exact .inl rfl
  · split
    case h_1 => exact .inl rfl
    case h_2 => split; exacts [.inr (.inl ⟨_, rfl⟩), .inl rfl]
    case h_3 => exact .inr (.inl ⟨_, rfl⟩)
    case h_4 => exact .inr (.inl ⟨_, rfl⟩)
    case h_5 => split_ifs; exacts [.inr (.inl ⟨_, rfl⟩), .inl rfl, .inr (.inr ⟨_, rfl⟩)]

/-- Storing a part changes the register file and the waiting values only. -/
theorem storePiece_rest (s : State) (i data m : Nat) (p : Piece) :
    storePiece i data m s p =
      { s with regs := (storePiece i data m s p).regs, staged := (storePiece i data m s p).staged } := by
  obtain h | ⟨v, h⟩ | ⟨v, h⟩ := storePiece_cases s i data m p <;> rw [h] <;> rfl

/-- Storing a part leaves the value in force of every field at another place. -/
theorem rd_storePiece_ne (s : State) (data m : Nat) {g : Fld} {j : Nat} (h : g.key i j ≠ p.fld.key i p.idx) :
    (storePiece i data m s p).rd g i j = s.rd g i j := by
  obtain e | ⟨v, e⟩ | ⟨v, e⟩ := storePiece_cases s i data m p <;> rw [e]
  · exact State.rd_wr_ne _ _ _ _ _ _ _ _ h
  · exact rd_stage _ _ _ _ _ _ _ _

/-- Storing a part leaves the value last written to every field at another place. -/
theorem written_storePiece_ne (s : State) (data m : Nat) {g : Fld} {j : Nat} (h : g.key i j ≠ p.fld.key i p.idx) :
    (storePiece i data m s p).written g i j = s.written g i j := by
  obtain e | ⟨v, e⟩ | ⟨v, e⟩ := storePiece_cases s i data m p <;> rw [e]
  · exact written_wr_ne _ h _
  · exact written_stage_ne _ h _

end

/-! ### The parts of a word stored one after another -/

/-- Two parts of a word lie at different places of copy i. -/
def Piece.Apart (i : Nat) (p q : Piece) : Prop := p.fld.key i p.idx ≠ q.fld.key i q.idx

/-- Storing parts changes the register file and the waiting values only. -/
theorem storeAll_rest (ps : List Piece) (s : State) (i data m : Nat) :
    let t := ps.foldl (storePiece i data m) s
    t = { s with regs := t.regs, staged := t.staged } := by
  induction ps generalizing s with
  | nil => rfl
  | cons p ps ih =>
    rw [List.foldl_cons]
    have h := ih (storePiece i data m s p)
    dsimp only at h ⊢
    rw [h, storePiece_rest s i data m p]

/-- Parts at other places leave the value in force of a field. -/
theorem rd_storeAll_ne {ps : List Piece} {i j : Nat} {g : Fld} (h : ∀ p ∈ ps, g.key i j ≠ p.fld.key i p.idx) (s : State)
    (data m : Nat) : (ps.foldl (storePiece i data m) s).rd g i j = s.rd g i j := by
  induction ps generalizing s with
  | nil => rfl
  | cons p ps ih =>
    rw [List.foldl_cons, ih fun q hq => h q (List.mem_cons_of_mem _ hq), rd_storePiece_ne s data m (h p List.mem_cons_self)]

/-- Where the parts of a word lie apart, each that takes effect at once holds its new value at the end. -/
theorem rd_storeAll {ps : List Piece} {i : Nat} (ha : ps.Pairwise (Piece.Apart i)) {p : Piece} (hp : p ∈ ps) {m : Nat}
    (hc : p.carried m ≠ 0) (hn : p.fld ∉ unstored) (hd : p.direct) (s : State) (data : Nat) :
    (ps.foldl (storePiece i data m) s).rd p.fld i p.idx = s.after i p data m % 2 ^ p.fld.width := by
  induction ps generalizing s with
  | nil => exact absurd hp List.not_mem_nil
  | cons q ps ih =>
    obtain ⟨hq, ha⟩ := List.pairwise_cons.mp ha
    rw [List.foldl_cons]
    obtain rfl | hp := List.mem_cons.mp hp
    · rw [rd_storeAll_ne hq, storePiece_direct hc hn hd, State.rd_wr_same]
    · rw [ih ha hp]
      unfold State.after
      rw [written_storePiece_ne s data m (Ne.symm (hq p hp))]

end Sys2Proof.Machine

/-!
A register write that is accepted (R4 to R8).
-/
namespace Sys2Proof.Machine

/-! ### The fields of PORT, JOURNAL and MEMC_n lie apart -/

/-- Two fields of a block share no place at any second index. -/
abbrev Fld.Apart (f g : Fld) : Prop :=
  f.blk = g.blk ∧ f.lsb < 32 ∧ g.lsb < 32 ∧
    (f.lsb = g.lsb → ∀ j ≤ f.cnt - 1, ∀ k ≤ g.cnt - 1, f.off + j * f.sub ≠ g.off + k * g.sub)

/-- The keys of fields that lie apart. -/
theorem Fld.Apart.key_ne {f g : Fld} (h : f.Apart g) (i : Nat) {j k : Nat} (hj : j ≤ f.cnt - 1) (hk : k ≤ g.cnt - 1) :
    f.key i j ≠ g.key i k := by
  obtain ⟨hb, hf, hg, ho⟩ := h
  unfold Fld.key Fld.addr
  rw [hb]
  intro e
  have := ho (by omega) j hj k hk
  omega

/-- No two fields of these blocks share a place. -/
theorem fields_apart {b : Blk} (hb : b = .port ∨ b = .journal ∨ b = .memc) : b.fields.Pairwise Fld.Apart := by
  obtain rfl | rfl | rfl := hb <;> decide +kernel

/-- What a field's part of a word is: some bits of that word, at an index the field has. -/
theorem of_piece {f : Fld} {w : Nat} {p : Piece} (h : f.piece w = some p) :
    p.fld = f ∧ p.idx ≤ f.cnt - 1 ∧ p.pos < 32 ∧ 0 < p.n := by
  unfold Fld.piece at h
  dsimp only at h
  split_ifs at h <;> cases h <;> refine ⟨rfl, ?_, ?_, ?_⟩ <;> dsimp only <;> omega

/-- The parts of a word of these blocks lie apart. -/
theorem pieces_apart {b : Blk} (hb : b = .port ∨ b = .journal ∨ b = .memc) (w i : Nat) :
    (b.pieces w).Pairwise (Piece.Apart i) := by
  refine (fields_apart hb).filterMap _ fun f g hfg p hp q hq => ?_
  obtain ⟨rfl, hj, -, -⟩ := of_piece hp
  obtain ⟨rfl, hk, -, -⟩ := of_piece hq
  exact hfg.key_ne i hj hk

/-! ### A full write of a word of these blocks -/

/-- A part of a word is the part of one of the block's fields. -/
theorem mem_pieces {b : Blk} {w : Nat} {p : Piece} (h : p ∈ b.pieces w) : p.fld ∈ b.fields ∧ p.fld.piece w = some p := by
  obtain ⟨f, hf, hp⟩ := List.mem_filterMap.mp h
  obtain ⟨rfl, -⟩ := of_piece hp
  exact ⟨hf, hp⟩

/-- A full write carries every part of the word. -/
theorem carried_full {b : Blk} {w : Nat} {p : Piece} (h : p ∈ b.pieces w) : p.carried 0xFFFFFFFF ≠ 0 := by
  obtain ⟨-, -, hpos, hn⟩ := of_piece (mem_pieces h).2
  have hbit : (bits 0xFFFFFFFF p.pos p.n).testBit 0 = true := by
    rw [bits, Nat.testBit_mod_two_pow, Nat.testBit_div_two_pow, show (0xFFFFFFFF : Nat) = 2 ^ 32 - 1 from rfl,
      Nat.testBit_two_pow_sub_one]
    simp [hn, hpos]
  have hne : bits 0xFFFFFFFF p.pos p.n ≠ 0 := by
    intro h0
    rw [h0] at hbit
    cases hbit
  exact Nat.mul_ne_zero hne (Nat.two_pow_pos _).ne'

/-- The words of these blocks whose write has no effect beyond its fields. -/
def plainWord (b : Blk) (w : Nat) : Prop :=
  (b = .port ∧ w ∉ [0x00C, 0x02C, 0x048, 0x04C, 0x0F0]) ∨ ((b = .journal ∨ b = .memc) ∧ w ∉ [0x000, 0x0F0])

/-- Of the fields of these blocks, FW_DONE alone is not stored. -/
theorem field_stored {b : Blk} (hb : b = .port ∨ b = .journal ∨ b = .memc) :
    ∀ f ∈ b.fields, f ∈ unstored → b = .port ∧ f = PORT_FW_DONE_JSEQ := by
  obtain rfl | rfl | rfl := hb <;> decide +kernel

/-- FW_DONE has its parts in two words. -/
theorem piece_fwDone {w : Nat} {p : Piece} (hw : w % 4 = 0) (h : PORT_FW_DONE_JSEQ.piece w = some p) : w = 0x048 ∨ w = 0x04C := by
  unfold Fld.piece PORT_FW_DONE_JSEQ at h
  dsimp only at h
  split_ifs at h <;> omega

section
variable {b : Blk} {w : Nat} (h : plainWord b w)
include h

/-- The blocks of those words. -/
theorem plainWord.blk : b = .port ∨ b = .journal ∨ b = .memc := h.imp And.left And.left

/-- None is an ERR word. -/
theorem plainWord.ne_err : w ≠ 0x0F0 := by
  rintro rfl
  obtain ⟨-, hw⟩ | ⟨-, hw⟩ := h <;> exact hw (by decide)

/-- Every part of such a word is stored. -/
theorem plainWord.stored (hw : w % 4 = 0) {p : Piece} (hp : p ∈ b.pieces w) : p.fld ∉ unstored := by
  intro hu
  obtain ⟨hf, hpw⟩ := mem_pieces hp
  obtain ⟨rfl, e⟩ := field_stored h.blk _ hf hu
  have hw2 := piece_fwDone hw (e ▸ hpw)
  obtain ⟨-, hn⟩ | ⟨hj | hm, -⟩ := h
  · obtain rfl | rfl := hw2 <;> exact hn (by decide)
  · cases hj
  · cases hm

/-- Such a word has no effect of its block. -/
theorem plainWord.blockEffect_eq (s : State) (req : Req) (i ask : Nat) (old : State) : blockEffect s req b i w ask old = s := by
  obtain ⟨rfl, hn⟩ | ⟨rfl | rfl, hn⟩ := h
  · simp only [List.mem_cons, List.not_mem_nil, or_false, not_or] at hn
    obtain ⟨h1, h2, h3, h4, -⟩ := hn
    simp [blockEffect, portEffect, h1, h2, h3, h4]
  · simp only [List.mem_cons, List.not_mem_nil, or_false, not_or] at hn
    exact if_neg hn.1
  · simp only [List.mem_cons, List.not_mem_nil, or_false, not_or] at hn
    exact if_neg hn.1

/-- A write of such a word stores its parts and answers OK. -/
theorem plainWord.storeWord_eq (s : State) (i data m : Nat) :
    storeWord s b i w data m = ((b.pieces w).foldl (storePiece i data m) s).answer OK 0 := by
  have hb : b ≠ .law := by obtain rfl | rfl | rfl := h.blk <;> decide
  simp [storeWord, hb, h.ne_err]

end

/-- A staged part waits with its value, its class, its copy and the edge of the write. -/
theorem findKey_storePiece_staged {s : State} {i data m : Nat} {p : Piece} (hc : p.carried m ≠ 0) (hn : p.fld ∉ unstored)
    (ha : p.fld.acc = .rw) (hl : p.fld.cls = .commit ∨ p.fld.cls = .curve) :
    (findKey (storePiece i data m s p).staged (p.fld.key i p.idx)).map (fun g => (g.cls, g.inst, g.val, g.edge)) =
      some (p.fld.cls, i, s.after i p data m % 2 ^ p.fld.width, s.fab) := by
  rw [storePiece_staged hc hn ha hl]
  simp [State.stage, findKey_set]

/-- A write of a plain word against which nothing stands: its fields, and the answer. -/
theorem plainWord.write {b : Blk} {w : Nat} (h : plainWord b w) (hw : w % 4 = 0) (s : State) (i data : Nat) :
    let t := storeWord s b i w data 0xFFFFFFFF
    AnsweredOk t ∧ t = { s with regs := t.regs, staged := t.staged, reply := t.reply } ∧
      ∀ p ∈ b.pieces w, p.fld.acc = .rw → p.fld.cls = .live ∨ p.fld.cls = .held →
        t.rd p.fld i p.idx = s.after i p data 0xFFFFFFFF % 2 ^ p.fld.width := by
  dsimp only
  rw [h.storeWord_eq]
  refine ⟨rfl, congrArg (State.answer · OK 0) (storeAll_rest (b.pieces w) s i data 0xFFFFFFFF), fun p hp ha hl => ?_⟩
  exact rd_storeAll (pieces_apart h.blk w i) hp (carried_full hp) (h.stored hw hp) (.inr (.inr ⟨ha, hl⟩)) s data

/-- Settles O30: an accepted write is `storeWord` with the block's effect; the parts of a plain word lie apart, so each keeps
what it stored. -/
theorem registerWriteApplied : Obligations.RegisterWriteApplied := by
  constructor
  · intro s req addr data b i off hc ht hp ha w hok hign
    have hexec := (exec_registerWrite hc ht hp ha req data).trans (congrArg _ (regWrite_ok hok hign))
    refine ⟨hexec, fun hplain => ⟨_, ?_, plainWord.write hplain (by omega) s i data.toNat⟩⟩
    rw [hexec, plainWord.blockEffect_eq hplain]
  · intro s i data m p
    refine ⟨storePiece_skip, fun hcar hn => ⟨storePiece_direct hcar hn, fun hacc hl => ?_⟩⟩
    refine ⟨?_, findKey_storePiece_staged hcar hn hacc hl⟩
    rw [storePiece_staged hcar hn hacc hl]
    rfl

end Sys2Proof.Machine

/-!
ERR.CLEAR (R10).
-/
namespace Sys2Proof.Machine

/-! ### ERR.CLEAR on a word of LAW under an uncorrectable error -/

/-- The FAB clock runs, LAW is initialised, and LAW.ERR (0x2014_00F0) lies under an uncorrectable error. -/
def lawErrBad : State :=
  { State.reset.wr SYS_CLK_STATUS_LOCK 1 with
    bad := [0x201400F0]
    law := { State.reset.law with initBusy := false } }

/-- The address of LAW.ERR. -/
theorem target_lawErr : target (0x201400F0 : BitVec 40).toNat = .reg .law 0 0x0F0 := by decide +kernel

/-- The clock of that state runs. -/
theorem clocked_lawErrBad : clocked lawErrBad = true := by decide +kernel

/-- LAW has power. -/
theorem powered_lawErrBad : powered lawErrBad (.reg .law 0 0x0F0) = true := by decide +kernel

/-- Nothing stands against HOST's write of CLEAR. -/
theorem writeCode_lawErrBad : writeCode lawErrBad .host .law 0 0x0F0 (2 ^ 30) 0xFFFFFFFF = OK := by decide +kernel

/-- LAW.ERR is an ERR word. -/
theorem errWord_lawErr : errWord (0x201400F0 : BitVec 40).toNat = true := by decide +kernel

/-- ERR.CLEAR at an ERR word with power, under a running clock, is the write of its CLEAR bit (R10). -/
theorem exec_errClear {s : State} {addr : BitVec 40} {b : Blk} {i off : Nat} (hc : clocked s = true)
    (ht : target addr.toNat = .reg b i off) (hp : powered s (.reg b i off) = true) (ha : addr.toNat % 4 = 0)
    (he : errWord addr.toNat = true) (req : Req) :
    exec (.errClear req addr) s = .next (regWrite s req b i (off - off % 4) (2 ^ 30) 0xFFFFFFFF) := by
  show Host.Outcome.next (onFab s _) = _
  rw [onFab_on hc, if_pos he, busWrite_word ht hp ha]

/-- The write of the whole word makes it good again (R135). -/
theorem bad_regWrite_lawErrBad : (regWrite lawErrBad .host .law 0 0x0F0 (2 ^ 30) 0xFFFFFFFF).bad = [] := by decide +kernel

/-- Refutes O31: on LAW.ERR under an uncorrectable error, the write of CLEAR also takes the word off the bad ones, so the
registers and the answer are not all it changes. -/
theorem not_errClear : ¬ Obligations.ErrClear := by
  unfold Obligations.ErrClear
  intro h
  obtain ⟨t, he, -, hf, -⟩ := h lawErrBad .host 0x201400F0 .law 0 0x0F0 clocked_lawErrBad target_lawErr powered_lawErrBad
    (by decide) (.inl rfl) writeCode_lawErrBad
  rw [exec_errClear clocked_lawErrBad target_lawErr powered_lawErrBad (by decide) errWord_lawErr] at he
  have kept : t.bad = [0x201400F0] := by rw [hf]; rfl
  rw [← Host.Outcome.next.inj he] at kept
  exact List.cons_ne_nil _ _ (kept.symm.trans bad_regWrite_lawErrBad)

end Sys2Proof.Machine

/-!
An access that no powered block answers (R28).
-/
namespace Sys2Proof.Machine

/-! ### Accesses that meet no target (R28) -/

/-- UNMAPPED_ACCESS at an address that nothing answers, under a running clock. -/
theorem exec_unmappedAccess {s : State} {addr : BitVec 40} (hc : clocked s = true) (ha : absent s addr.toNat = true) (req : Req)
    (write : Bool) (size : Fin 4) (data : BitVec 64) :
    exec (.unmappedAccess req addr write size data) s = .next (absentAccess s req addr.toNat write) := by
  show Host.Outcome.next (onFab s _) = _
  rw [onFab_on hc, if_pos ha]

/-- A bus error is recorded only for a HOST write. -/
theorem busError_of_not_hostWrite {req : Req} {write : Bool} (h : req ≠ .host ∨ write = false) (s : State) (a : Nat) :
    busError s req write a = { s with reply := ⟨E_VALUE, 0, true⟩ } := by
  cases req with
  | host => rw [h.resolve_left fun hn => hn rfl]; rfl
  | maint | safety | core => rfl

/-- The access of a port has no report but the bus error. -/
theorem absentAccess_port {req : Req} (h : ∀ c task, req ≠ .core c task) (s : State) (a : Nat) (write : Bool) :
    absentAccess s req a write = busError s req write a := by
  cases req with
  | core c task => exact absurd rfl (h c task)
  | host | maint | safety => rfl

/-- A core's access: its read takes ACCESS while it is not halted. -/
theorem absentAccess_core (s : State) (c : Fin 16) (task : Bool) (a : Nat) (write : Bool) :
    absentAccess s (.core c task) a write =
      if write || s.on SPIRE_STATUS_HALTED c then { s with reply := ⟨E_VALUE, 0, true⟩ }
      else loadExc { s with reply := ⟨E_VALUE, 0, true⟩ } c X_ACCESS E_VALUE a := rfl

/-- Settles O32, by the requester of the access. -/
theorem unmappedAccess : Obligations.UnmappedAccess := by
  intro s req addr write size data hc ha i r
  have he := exec_unmappedAccess hc ha req write size data
  refine ⟨fun hport hnot => ?_, fun hreq hw => ?_, fun c task hreq => ⟨fun h => ?_, fun hw hrun => ?_⟩⟩
  · rw [he, absentAccess_port hport, busError_of_not_hostWrite hnot]
  · subst hreq hw
    exact he
  · subst hreq
    rw [he, absentAccess_core, if_pos (by simpa using h)]
  · subst hreq
    rw [he, absentAccess_core, if_neg (by simp [hw, hrun])]

end Sys2Proof.Machine

/-!
The commands of the rings and of the overrun block (R22, R26, R56, R62, R63).
-/
namespace Sys2Proof.Machine

/-! ### Accepted word commands -/

/-- A word command that is carried out: the word stored, then the block's effect. -/
theorem wordCmd_accepted {s : State} {req : Req} {b : Blk} {i w data m : Nat} (h : Accepts s req b i w data m)
    (hn : ignoredWord b i w = false) :
    wordCmd s req b i w data m = blockEffect (storeWord s b i w data m) req b i w (s.asked b i w data m) s := by
  obtain ⟨hc, hp, hok⟩ := h
  rw [wordCmd_powered hc hp, regWrite_ok hok hn]

/-- Parts that hold no value of their own, or that the write does not carry, may be left out of a store. -/
theorem foldl_storePiece_filter (ps : List Piece) (i data m : Nat) (s : State) :
    ps.foldl (storePiece i data m) s = (ps.filter fun p => !p.silent m).foldl (storePiece i data m) s := by
  induction ps generalizing s with
  | nil => rfl
  | cons p ps ih =>
    cases hp : p.silent m
    · simp [hp, ih]
    · simp [hp, ih, storePiece_silent hp]

/-- A word of which a write stores one part. -/
theorem storeWord_one {b : Blk} {w m : Nat} {p : Piece} (h : ((b.pieces w).filter fun p => !p.silent m) = [p]) (hb : b ≠ .law)
    (hw : w ≠ 0x0F0) (s : State) (i data : Nat) :
    storeWord s b i w data m = (storePiece i data m s p).answer OK 0 := by
  simp [storeWord, foldl_storePiece_filter, h, hb, hw]

/-- A word of which a write stores nothing. -/
theorem storeWord_none {b : Blk} {w m : Nat} (h : ((b.pieces w).filter fun p => !p.silent m) = []) (hb : b ≠ .law)
    (hw : w ≠ 0x0F0) (s : State) (i data : Nat) : storeWord s b i w data m = s.answer OK 0 := by
  simp [storeWord, foldl_storePiece_filter, h, hb, hw]

/-- A bit that the write carries is the write's own in the word asked for. -/
theorem bit_asked_carried {m k : Nat} (h : bit m k = true) (s : State) (b : Blk) (i w data : Nat) :
    bit (s.asked b i w data m) k = bit data k := by
  rw [bit_asked, if_pos h]

/-- A 32-bit word written whole, of a word without RW fields, is the word asked for. -/
theorem asked_data {b : Blk} {w : Nat} (h : (b.pieces w).all (fun p => p.fld.acc != .rw) = true) (s : State) (i : Nat)
    (data : BitVec 32) : s.asked b i w data.toNat 0xFFFFFFFF = data.toNat := by
  refine asked_whole s b i w _ _ ?_ ?_
  · rw [show (0xFFFFFFFF : Nat) = 2 ^ 32 - 1 from rfl, Nat.and_two_pow_sub_one_eq_mod, Nat.mod_eq_of_lt data.isLt]
  · rw [rwWord_none h, clearBits, Nat.zero_and]

/-- Where no reason stands against a write, no code of R11's order is among them. -/
theorem not_mem_of_firstRefusal_ok {codes : List Nat} (h : firstRefusal codes = OK) {c : Nat} (hc : c ∈ refusalOrder) :
    c ∉ codes := by
  intro hm
  unfold firstRefusal at h
  split at h
  · have hmem := List.mem_of_find?_eq_some ‹_›
    exact (by decide : ∀ c ∈ refusalOrder, c ≠ OK) _ hmem h
  · have := List.find?_eq_none.mp ‹_› c hc
    simp [hm] at this

/-- A code of the block does not stand against an accepted write. -/
theorem not_mem_blockCodes {s : State} {req : Req} {b : Blk} {i w data m : Nat} (h : writeCode s req b i w data m = OK)
    (hn : ignoredWord b i w = false) {c : Nat} (hc : c ∈ refusalOrder) :
    c ∉ blockCodes s req b i w (s.asked b i w data m) (s.valueOf b i w data m) := by
  have := not_mem_of_firstRefusal_ok h hc
  simp only [hn, List.mem_append, not_or, Bool.false_eq_true, if_false] at this
  exact this.2.1.2

/-! ### What a write stores of the words of rings and of PIPE_STATUS and PIPE_OVR -/

/-- Writing LOST stores LOST alone. -/
theorem pieces_lost : ((Blk.ring.pieces 0x008).filter fun p => !p.silent 4) = [⟨RING_STATUS_LOST, 0, 2, 0, 1⟩] := by decide +kernel

/-- CLR_STATS stores nothing of its word. -/
theorem pieces_clrStats : ((Blk.ring.pieces 0x000).filter fun p => !p.silent 4) = [] := by decide +kernel

/-- MGMT_REQ stores nothing. -/
theorem pieces_mgmtReq : ((Blk.ring.pieces 0x020).filter fun p => !p.silent 0xFFFFFFFF) = [] := by decide +kernel

/-- A word of PIPE_OVR is one field. -/
theorem pieces_pipeOvr (i : Fin 4) : ((Blk.sys.pieces (0x030 + 4 * i)).filter fun p => !p.silent 0xFFFFFFFF) =
    [⟨SYS_PIPE_OVR, i, 0, 0, 32⟩] := by decide +kernel +revert

/-- Writing OVR_BLOCK stores OVR_BLOCK alone. -/
theorem pieces_ovrBlock : ((Blk.sys.pieces 0x018).filter fun p => !p.silent 8) = [⟨SYS_PIPE_STATUS_OVR_BLOCK, 0, 3, 0, 1⟩] := by
  decide +kernel


/-! ### Clearing PIPE_OVR (R26) -/

/-- A ring's overrun count starts again (R26). -/
def RingSt.ovrClear (g : RingSt) : RingSt := { g with ovr := 0, ovrSeen := false }

/-- The counts of the first n rings from a ring on start again where a condition holds. -/
def clearCounts (c : Nat → Bool) (a n : Nat) (s : State) : State :=
  forN n (fun j s => if c j then s.updRing (a + j) RingSt.ovrClear else s) s

/-- A step of that. -/
theorem clearCounts_succ (c : Nat → Bool) (a n : Nat) (s : State) :
    clearCounts c a (n + 1) s =
      if c n then (clearCounts c a n s).updRing (a + n) RingSt.ovrClear else clearCounts c a n s := rfl

/-- The rings of that. -/
theorem ring_clearCounts (c : Nat → Bool) (a n k : Nat) (s : State) :
    (clearCounts c a n s).ring k =
      if a ≤ k ∧ k < a + n ∧ c (k - a) = true then (s.ring k).ovrClear else s.ring k := by
  induction n with
  | zero => rw [if_neg (by omega)]; rfl
  | succ n ih =>
    rw [clearCounts_succ]
    by_cases hk : k = a + n
    · subst hk
      cases hc : c n <;> simp [State.ring_updRing, ih, hc]
    · have hlt : k < a + (n + 1) ↔ k < a + n := by omega
      simp only [hlt]
      rw [← ih]
      split
      · rw [State.ring_updRing, if_neg hk]
      · rfl

/-- Nothing but the rings changes. -/
theorem clearCounts_rest (c : Nat → Bool) (a n : Nat) (s : State) :
    clearCounts c a n s = { s with rings := (clearCounts c a n s).rings } := by
  induction n with
  | zero => rfl
  | succ n ih =>
    rw [clearCounts_succ]
    split
    · rw [ih]; rfl
    · exact ih

/-- The register file is as it was. -/
theorem rd_clearCounts (c : Nat → Bool) (a n : Nat) (s : State) (f : Fld) (i j : Nat) :
    (clearCounts c a n s).rd f i j = s.rd f i j := by
  rw [clearCounts_rest]; rfl

/-- The place of word i of PIPE_OVR is not that of OVR_BLOCK. -/
theorem key_pipeOvr_ne_ovrBlock (i : Nat) : SYS_PIPE_OVR.key 0 i ≠ SYS_PIPE_STATUS_OVR_BLOCK.key 0 0 := by
  show (0x20000030 + i * 4) * 32 ≠ 0x20000018 * 32 + 3
  omega

/-- The words of PIPE_OVR lie at different places. -/
theorem key_pipeOvr_inj {i j : Nat} (h : SYS_PIPE_OVR.key 0 i = SYS_PIPE_OVR.key 0 j) : i = j := by
  have h : (0x20000030 + i * 4) * 32 = (0x20000030 + j * 4) * 32 := h
  omega

/-- Some bit of PIPE_OVR is set. -/
def anyOvr (s : State) : Bool := (upTo 4).any (fun j => s.rd SYS_PIPE_OVR 0 j != 0)

section
variable (s : State) (i mask : Nat)

/-- The state in which word i of PIPE_OVR has lost the bits of a mask and the counts of those rings start again. -/
def ovrWordCleared : State :=
  let old := s.rd SYS_PIPE_OVR 0 i
  clearCounts (fun j => bit old j && bit mask j) (32 * i) 32 (s.wr SYS_PIPE_OVR (old &&& (0xFFFFFFFF ^^^ mask)) 0 i)

/-- Clearing bits of a word, and OVR_BLOCK after it (R26). -/
theorem clearOvr_eq :
    clearOvr s i mask = (ovrWordCleared s i mask).wr SYS_PIPE_STATUS_OVR_BLOCK (b2n (anyOvr (ovrWordCleared s i mask))) := rfl

/-- Nothing but registers and rings changes. -/
theorem clearOvr_rest : clearOvr s i mask = { s with regs := (clearOvr s i mask).regs, rings := (clearOvr s i mask).rings } := by
  rw [clearOvr_eq, ovrWordCleared, clearCounts_rest]
  rfl

/-- The registers it changes. -/
theorem rd_clearOvr_ne {f : Fld} {a b : Nat} (h1 : f.key a b ≠ SYS_PIPE_OVR.key 0 i)
    (h2 : f.key a b ≠ SYS_PIPE_STATUS_OVR_BLOCK.key 0 0) : (clearOvr s i mask).rd f a b = s.rd f a b := by
  rw [clearOvr_eq, State.rd_wr_ne _ _ _ _ _ _ _ _ h2, ovrWordCleared, rd_clearCounts, State.rd_wr_ne _ _ _ _ _ _ _ _ h1]

/-- The word keeps the bits outside the mask. -/
theorem rd_clearOvr_same :
    (clearOvr s i mask).rd SYS_PIPE_OVR 0 i = (s.rd SYS_PIPE_OVR 0 i &&& (0xFFFFFFFF ^^^ mask)) % 2 ^ 32 := by
  rw [clearOvr_eq, State.rd_wr_ne _ _ _ _ _ _ _ _ (key_pipeOvr_ne_ovrBlock i), ovrWordCleared, rd_clearCounts, State.rd_wr_same]
  rfl

/-- Another word keeps all of them. -/
theorem rd_clearOvr_word {j : Nat} (h : j ≠ i) : (clearOvr s i mask).rd SYS_PIPE_OVR 0 j = s.rd SYS_PIPE_OVR 0 j :=
  rd_clearOvr_ne s i mask (fun e => h (key_pipeOvr_inj e)) (key_pipeOvr_ne_ovrBlock j)

/-- OVR_BLOCK shows whether a bit is left. -/
theorem on_clearOvr_ovrBlock : (clearOvr s i mask).on SYS_PIPE_STATUS_OVR_BLOCK = anyOvr (clearOvr s i mask) := by
  have h : anyOvr (clearOvr s i mask) = anyOvr (ovrWordCleared s i mask) := by
    unfold anyOvr
    congr 1
    funext j
    rw [clearOvr_eq, State.rd_wr_ne _ _ _ _ _ _ _ _ (key_pipeOvr_ne_ovrBlock j)]
  rw [h, State.on, clearOvr_eq, State.rd_wr_same]
  cases anyOvr (ovrWordCleared s i mask) <;> rfl

/-- The rings whose bit is cleared count anew. -/
theorem ring_clearOvr (n : Nat) :
    (clearOvr s i mask).ring n =
      if n / 32 = i ∧ bit (s.rd SYS_PIPE_OVR 0 i) (n % 32) = true ∧ bit mask (n % 32) = true then (s.ring n).ovrClear
      else s.ring n := by
  rw [clearOvr_eq]
  show (ovrWordCleared s i mask).ring n = _
  rw [ovrWordCleared, ring_clearCounts]
  by_cases hn : n / 32 = i
  · have hm : n - 32 * i = n % 32 := by omega
    have h1 : 32 * i ≤ n := by omega
    have h2 : n < 32 * i + 32 := by omega
    simp only [hm, h1, h2, hn, Bool.and_eq_true, true_and]
    rfl
  · rw [if_neg (by omega), if_neg (by omega)]
    rfl

end

/-! ### Clearing OVR_BLOCK: the words of PIPE_OVR one after another (R26) -/

/-- A mask of ones carries every bit of a word. -/
theorem bit_ones {k : Nat} (h : k < 32) : bit 0xFFFFFFFF k = true := by
  rw [bit, show (0xFFFFFFFF : Nat) = 2 ^ 32 - 1 from rfl, Nat.testBit_two_pow_sub_one]
  exact decide_eq_true h

/-- The first m words of PIPE_OVR cleared. -/
def clearOvrs (m : Nat) (s : State) : State := forN m (fun i s => clearOvr s i 0xFFFFFFFF) s

/-- One more word. -/
theorem clearOvrs_succ (m : Nat) (s : State) : clearOvrs (m + 1) s = clearOvr (clearOvrs m s) m 0xFFFFFFFF := rfl

/-- Nothing but registers and rings changes. -/
theorem clearOvrs_rest (m : Nat) (s : State) :
    clearOvrs m s = { s with regs := (clearOvrs m s).regs, rings := (clearOvrs m s).rings } := by
  induction m with
  | zero => rfl
  | succ m ih => rw [clearOvrs_succ, clearOvr_rest, ih]

/-- The registers it changes. -/
theorem rd_clearOvrs_ne {m : Nat} {f : Fld} {a b : Nat} (h1 : ∀ j < m, f.key a b ≠ SYS_PIPE_OVR.key 0 j)
    (h2 : f.key a b ≠ SYS_PIPE_STATUS_OVR_BLOCK.key 0 0) (s : State) : (clearOvrs m s).rd f a b = s.rd f a b := by
  induction m with
  | zero => rfl
  | succ m ih =>
    rw [clearOvrs_succ, rd_clearOvr_ne _ _ _ (h1 m (Nat.lt_succ_self m)) h2,
      ih fun j hj => h1 j (Nat.lt_succ_of_lt hj)]

/-- The words cleared are 0, the others as they were. -/
theorem rd_clearOvrs_word (m j : Nat) (s : State) :
    (clearOvrs m s).rd SYS_PIPE_OVR 0 j = if j < m then 0 else s.rd SYS_PIPE_OVR 0 j := by
  induction m with
  | zero => rfl
  | succ m ih =>
    rw [clearOvrs_succ]
    by_cases hj : j = m
    · subst hj
      rw [rd_clearOvr_same, if_pos (Nat.lt_succ_self j), Nat.xor_self, Nat.and_zero, Nat.zero_mod]
    · rw [rd_clearOvr_word _ _ _ hj, ih]
      simp only [show j < m + 1 ↔ j < m by omega]

/-- The rings with a bit in a word cleared count anew. -/
theorem ring_clearOvrs (m n : Nat) (s : State) :
    (clearOvrs m s).ring n =
      if n / 32 < m ∧ bit (s.rd SYS_PIPE_OVR 0 (n / 32)) (n % 32) = true then (s.ring n).ovrClear else s.ring n := by
  induction m with
  | zero => rw [if_neg (by omega)]; rfl
  | succ m ih =>
    rw [clearOvrs_succ, ring_clearOvr, ih, rd_clearOvrs_word, if_neg (Nat.lt_irrefl m), bit_ones (Nat.mod_lt n (by decide))]
    by_cases hn : n / 32 = m
    · subst hn
      simp
    · rw [if_neg fun h => hn h.1]
      simp only [show n / 32 < m + 1 ↔ n / 32 < m by omega]

/-- With all four words cleared no block of OVR is left. -/
theorem on_clearOvrs_ovrBlock (s : State) : (clearOvrs 4 s).on SYS_PIPE_STATUS_OVR_BLOCK = false := by
  rw [clearOvrs_succ, on_clearOvr_ovrBlock, ← clearOvrs_succ, anyOvr, List.any_eq_false]
  intro j hj
  rw [rd_clearOvrs_word, if_pos (List.mem_range.mp hj)]
  decide

/-! ### What the commands leave -/

/-- With its lowest bit cleared a number is even. -/
theorem clearBits_one_mod_two (v : Nat) : clearBits v 1 % 2 = 0 := by
  have h := clearBits_testBit v 1 0
  simpa using h

/-- Clearing LOST (R56). -/
theorem ringLostClear_leaves {s : State} {req : Req} {r : Fin 128} (h : Accepts s req .ring r 0x008 4 4) :
    ∃ t, exec (.ringLostClear req r) s = .next t ∧ AnsweredOk t ∧ t.on RING_STATUS_LOST r = false ∧
      RegsBut [RING_STATUS_LOST.key r 0] s t ∧ t = { s with regs := t.regs, reply := t.reply } := by
  refine ⟨(s.wr RING_STATUS_LOST (s.after r ⟨RING_STATUS_LOST, 0, 2, 0, 1⟩ 4 4) r).answer OK 0, ?_, rfl, ?_, ?_, rfl⟩
  · show Host.Outcome.next (wordCmd s req .ring r 0x008 4 4) = _
    rw [wordCmd_accepted h rfl, storeWord_one pieces_lost (by decide) (by decide),
      storePiece_direct (by decide) (by decide) (.inl rfl)]
    rfl
  · show ((s.wr RING_STATUS_LOST _ r).rd RING_STATUS_LOST r != 0) = false
    rw [State.rd_wr_same]
    exact congrArg (· != 0) (clearBits_one_mod_two (s.written RING_STATUS_LOST r 0))
  · exact (RegsBut.refl _ s).wr (by simp) _

/-- A counter of a ring after another of its fields was cleared. -/
theorem rd_wr_ring_ne {f g : Fld} (h : g.Apart f) (s : State) (v r : Nat) : (s.wr f v r).rd g r = s.rd g r :=
  State.rd_wr_ne _ _ _ _ _ _ _ _ (h.key_ne r (Nat.zero_le _) (Nat.zero_le _))

/-- CLR_STATS (R62). -/
theorem ringClrStats_leaves {s : State} {req : Req} {r : Fin 128} (h : Accepts s req .ring r 0x000 4 4) :
    ∃ t, exec (.ringClrStats req r) s = .next t ∧ AnsweredOk t ∧ t.rd RING_CRC_CNT_COUNT r = 0 ∧ t.rd RING_MISS_CNT_GAP r = 0 ∧
      t.rd RING_MISS_CNT_PARTIAL r = 0 ∧ t.rd RING_RET_TIME_MAX r = 0 ∧
      RegsBut [RING_CRC_CNT_COUNT.key r 0, RING_MISS_CNT_GAP.key r 0, RING_MISS_CNT_PARTIAL.key r 0, RING_RET_TIME_MAX.key r 0] s t ∧
      t = { s with regs := t.regs, reply := t.reply } := by
  refine ⟨ringClrStats (s.answer OK 0) r, ?_, rfl, ?_, ?_, ?_, ?_, ?_, rfl⟩
  · show Host.Outcome.next (wordCmd s req .ring r 0x000 4 4) = _
    rw [wordCmd_accepted h rfl, storeWord_none pieces_clrStats (by decide) (by decide)]
    exact congrArg _ (if_pos (bit_asked_carried rfl ..))
  all_goals unfold ringClrStats
  · rw [rd_wr_ring_ne (by decide), rd_wr_ring_ne (by decide), rd_wr_ring_ne (by decide), State.rd_wr_same, Nat.zero_mod]
  · rw [rd_wr_ring_ne (by decide), rd_wr_ring_ne (by decide), State.rd_wr_same, Nat.zero_mod]
  · rw [rd_wr_ring_ne (by decide), State.rd_wr_same, Nat.zero_mod]
  · rw [State.rd_wr_same, Nat.zero_mod]
  · exact ((((RegsBut.refl _ s).wr (by simp) _).wr (by simp) _).wr (by simp) _).wr (by simp) _

/-- A push to MGMT_REQ (R62, R63). -/
theorem mgmtReqPush_leaves {s : State} {req : Req} {r : Fin 128} {data : BitVec 32}
    (h : Accepts s req .ring r 0x020 data.toNat 0xFFFFFFFF) :
    ∃ t, exec (.mgmtReqPush req r data) s = .next t ∧ AnsweredOk t ∧ (s.ring r).reqs.length < 16 ∧
      t = { s with rings := t.rings, reply := t.reply } ∧
      t.ring r = { (s.ring r) with reqs := (s.ring r).reqs ++ [mgmtOf data.toNat] } := by
  have hask := asked_data (b := .ring) (w := 0x020) (by decide) s r data
  refine ⟨(s.answer OK 0).updRing r (fun g => { g with reqs := g.reqs ++ [mgmtOf data.toNat] }), ?_, rfl, ?_, rfl, ?_⟩
  · show Host.Outcome.next (wordCmd s req .ring r 0x020 data.toNat 0xFFFFFFFF) = _
    rw [wordCmd_accepted h rfl, storeWord_none pieces_mgmtReq (by decide) (by decide), hask]
    rfl
  · obtain ⟨-, -, hok⟩ := h
    by_contra hlen
    refine not_mem_blockCodes hok rfl (c := E_FULL) (by decide) ?_
    show E_FULL ∈ codeIf (decide (16 ≤ (s.ring r).reqs.length)) E_FULL
    simp [codeIf, Nat.le_of_not_lt hlen]
  · rw [State.ring_updRing, if_pos rfl]
    rfl

/-! ### The management responses -/

/-- The address of MGMT_RSP of a ring. -/
theorem target_mgmtRsp : ∀ r : Fin 128, target (Blk.ring.inst r + 0x024) = .reg .ring r 0x024 := by decide +kernel

/-- The word of a response fits a register. -/
theorem mgmtRsp_word_lt (x : MgmtRsp) :
    x.stat % 256 + bitv 8 x.noack + 512 + 4096 * (x.tries % 16) + 65536 * (x.data % 65536) < 2 ^ 32 := by
  unfold bitv
  split <;> omega

/-- A bus read of MGMT_RSP with power pops it. -/
theorem busRead_mgmtRsp {s : State} {r : Fin 128} (hp : powered s (.reg .ring r 0x024) = true) (req : Req) :
    busRead s req (Blk.ring.inst r + 0x024) 4 =
      (mgmtPop s r, .ok (cutWord (mgmtPop s r).reply.data 0x024 4)) := by
  unfold busRead
  dsimp only
  rw [target_mgmtRsp, hp]
  rfl

/-- A pop of MGMT_RSP (R62, R63). -/
theorem exec_mgmtRspPop {s : State} {req : Req} {r : Fin 128} {x : MgmtRsp} {xs : List MgmtRsp} (hc : clocked s = true)
    (hp : powered s (.reg .ring r 0x024) = true) (hreq : req ≠ .safety) (hx : (s.ring r).rsps = x :: xs) :
    exec (.mgmtRspPop req r) s = .next ((s.updRing r (fun g => { g with rsps := xs })).answer OK
      (x.stat % 256 + bitv 8 x.noack + 512 + 4096 * (x.tries % 16) + 65536 * (x.data % 65536))) := by
  have haddr : (Blk.ring.inst r + 0x024) % 4 = 0 := by
    show (0x20300000 + r.val * 0x400 + 0x024) % 4 = 0
    omega
  have hcut : cutWord (mgmtPop s r).reply.data 0x024 4 = (mgmtPop s r).reply.data := by
    rw [mgmtPop, hx]
    show _ / 1 % 2 ^ 32 = _
    rw [Nat.div_one]
    exact Nat.mod_eq_of_lt (mgmtRsp_word_lt x)
  show Host.Outcome.next (readCmd s req .ring r 0x024) = _
  rw [readCmd, access, onFab_on hc, readAnswer, busRead_mgmtRsp hp, hcut, target_mgmtRsp, haddr, mgmtPop, hx]
  simp [hreq]
  rfl

/-! ### The words of PIPE_OVR and OVR_BLOCK -/

/-- What a write of a word of PIPE_OVR does beyond storing it (R26). -/
theorem blockEffect_pipeOvr (t s : State) (req : Req) (i : Fin 4) (ask : Nat) :
    blockEffect t req .sys 0 (0x030 + 4 * i) ask s = clearOvr (t.wr SYS_PIPE_OVR (s.rd SYS_PIPE_OVR 0 i) 0 i) i ask := by
  fin_cases i <;> rfl

/-- Clearing bits of PIPE_OVR (R26). -/
theorem exec_pipeOvrClear {s : State} {req : Req} {i : Fin 4} {mask : BitVec 32}
    (h : Accepts s req .sys 0 (0x030 + 4 * i) mask.toNat 0xFFFFFFFF) :
    ∃ v, exec (.pipeOvrClear req i mask) s =
      .next (clearOvr (((s.wr SYS_PIPE_OVR v 0 i).answer OK 0).wr SYS_PIPE_OVR (s.rd SYS_PIPE_OVR 0 i) 0 i) i mask.toNat) := by
  have hrw : ∀ i : Fin 4, (Blk.sys.pieces (0x030 + 4 * i)).all (fun p => p.fld.acc != .rw) = true := by decide +kernel
  have hw : 0x030 + 4 * i.val ≠ 0x0F0 := by omega
  have hcar : (⟨SYS_PIPE_OVR, i, 0, 0, 32⟩ : Piece).carried 0xFFFFFFFF ≠ 0 := (by decide : bits 0xFFFFFFFF 0 32 * 2 ^ 0 ≠ 0)
  have hst : SYS_PIPE_OVR ∉ unstored := by decide
  refine ⟨s.after 0 ⟨SYS_PIPE_OVR, i, 0, 0, 32⟩ mask.toNat 0xFFFFFFFF, ?_⟩
  show Host.Outcome.next (wordCmd s req .sys 0 (0x030 + 4 * i) mask.toNat 0xFFFFFFFF) = _
  rw [wordCmd_accepted h rfl, storeWord_one (pieces_pipeOvr i) (by decide) hw,
    storePiece_direct hcar hst (.inl rfl), blockEffect_pipeOvr, asked_data (hrw i)]

/-- Clearing bits of a word of PIPE_OVR changes that word and OVR_BLOCK only. -/
theorem regsBut_clearOvr {s t : State} {i : Nat} (h : RegsBut [SYS_PIPE_OVR.key 0 i, SYS_PIPE_STATUS_OVR_BLOCK.key 0 0] s t)
    (mask : Nat) : RegsBut [SYS_PIPE_OVR.key 0 i, SYS_PIPE_STATUS_OVR_BLOCK.key 0 0] s (clearOvr t i mask) := by
  intro f a b hk
  have hk' := hk
  simp only [List.mem_cons, List.not_mem_nil, or_false, not_or] at hk'
  obtain ⟨h1, h2⟩ := hk'
  rw [rd_clearOvr_ne _ _ _ h1 h2, h f a b hk]

/-- A bit of a number cut to 32 bits. -/
theorem bit_mod_word {k : Nat} (h : k < 32) (v : Nat) : bit (v % 2 ^ 32) k = bit v k := by
  rw [bit, Nat.testBit_mod_two_pow, decide_eq_true h, Bool.true_and]
  rfl

/-- Clearing bits of PIPE_OVR (R26). -/
theorem pipeOvrClear_leaves {s : State} {req : Req} {i : Fin 4} {mask : BitVec 32}
    (h : Accepts s req .sys 0 (0x030 + 4 * i) mask.toNat 0xFFFFFFFF) :
    ∃ t, exec (.pipeOvrClear req i mask) s = .next t ∧ AnsweredOk t ∧
      t.rd SYS_PIPE_OVR 0 i = s.rd SYS_PIPE_OVR 0 i &&& (0xFFFFFFFF ^^^ mask.toNat) ∧
      RegsBut [SYS_PIPE_OVR.key 0 i, SYS_PIPE_STATUS_OVR_BLOCK.key 0 0] s t ∧
      t = { s with regs := t.regs, rings := t.rings, reply := t.reply } ∧
      (∀ n : Fin 128, t.ring n = if n.val / 32 = i ∧ bit (s.rd SYS_PIPE_OVR 0 i) (n % 32) ∧ bit mask.toNat (n % 32)
        then { s.ring n with ovr := 0, ovrSeen := false } else s.ring n) := by
  obtain ⟨v, he⟩ := exec_pipeOvrClear h
  have hword : (((s.wr SYS_PIPE_OVR v 0 i).answer OK 0).wr SYS_PIPE_OVR (s.rd SYS_PIPE_OVR 0 i) 0 i).rd SYS_PIPE_OVR 0 i =
      s.rd SYS_PIPE_OVR 0 i % 2 ^ 32 := State.rd_wr_same ..
  have hmask : 0xFFFFFFFF ^^^ mask.toNat < 2 ^ 32 := Nat.xor_lt_two_pow (by decide) mask.isLt
  refine ⟨_, he, ?_, ?_, ?_, ?_, fun n => ?_⟩
  · rw [AnsweredOk, clearOvr_rest]
    rfl
  · rw [rd_clearOvr_same, hword, Nat.and_mod_two_pow, Nat.mod_mod, ← Nat.and_mod_two_pow,
      Nat.mod_eq_of_lt (Nat.and_lt_two_pow _ hmask)]
  · exact regsBut_clearOvr (RegsBut.wr (t := (s.wr SYS_PIPE_OVR v 0 i).answer OK 0)
      ((RegsBut.refl _ s).wr (by simp) v) (by simp) _) _
  · rw [clearOvr_rest]
    rfl
  · rw [ring_clearOvr, hword, bit_mod_word (Nat.mod_lt n.val (by decide))]
    rfl

/-- Clearing OVR_BLOCK (R26). -/
theorem ovrBlockClear_leaves {s : State} {req : Req} (h : Accepts s req .sys 0 0x018 8 8) :
    ∃ t, exec (.ovrBlockClear req) s = .next t ∧ AnsweredOk t ∧ (∀ j : Fin 4, t.rd SYS_PIPE_OVR 0 j = 0) ∧
      t.on SYS_PIPE_STATUS_OVR_BLOCK = false ∧
      RegsBut [SYS_PIPE_OVR.key 0 0, SYS_PIPE_OVR.key 0 1, SYS_PIPE_OVR.key 0 2, SYS_PIPE_OVR.key 0 3,
        SYS_PIPE_STATUS_OVR_BLOCK.key 0 0] s t ∧
      t = { s with regs := t.regs, rings := t.rings, reply := t.reply } ∧
      (∀ n : Fin 128, t.ring n = if bit (s.rd SYS_PIPE_OVR 0 (n / 32)) (n % 32)
        then { s.ring n with ovr := 0, ovrSeen := false } else s.ring n) := by
  let u := (s.wr SYS_PIPE_STATUS_OVR_BLOCK (s.after 0 ⟨SYS_PIPE_STATUS_OVR_BLOCK, 0, 3, 0, 1⟩ 8 8)).answer OK 0
  refine ⟨clearOvrs 4 u, ?_, ?_, fun j => ?_, on_clearOvrs_ovrBlock u, ?_, ?_, fun n => ?_⟩
  · show Host.Outcome.next (wordCmd s req .sys 0 0x018 8 8) = _
    rw [wordCmd_accepted h rfl, storeWord_one pieces_ovrBlock (by decide) (by decide),
      storePiece_direct (by decide) (by decide) (.inl rfl)]
    exact congrArg _ (if_pos (bit_asked_carried rfl ..))
  · rw [AnsweredOk, clearOvrs_rest]
    rfl
  · rw [rd_clearOvrs_word, if_pos j.isLt]
  · intro f a b hk
    simp only [List.mem_cons, List.not_mem_nil, or_false, not_or] at hk
    obtain ⟨h0, h1, h2, h3, h4⟩ := hk
    have hword : ∀ j < 4, f.key a b ≠ SYS_PIPE_OVR.key 0 j := fun j hj => match j with
      | 0 => h0 | 1 => h1 | 2 => h2 | 3 => h3
      | _ + 4 => by omega
    rw [rd_clearOvrs_ne hword h4]
    exact State.rd_wr_ne _ _ _ _ _ _ _ _ h4
  · rw [clearOvrs_rest]
    rfl
  · have hrd : u.rd SYS_PIPE_OVR 0 (n.val / 32) = s.rd SYS_PIPE_OVR 0 (n.val / 32) :=
      State.rd_wr_ne _ _ _ _ _ _ _ _ (key_pipeOvr_ne_ovrBlock _)
    have hlt : n.val / 32 < 4 := by omega
    rw [ring_clearOvrs, hrd]
    simp only [hlt, true_and]
    rfl

/-- A ring reaches OVR_LIMIT (R22). -/
theorem ovrLimitReached_leaves {s : State} {r : Fin 128} (hc : clocked s = true)
    (hl : s.rd SYS_PIPE_CFG_OVR_LIMIT ≤ (s.ring r).ovr) (h0 : 0 < (s.ring r).ovr) (hs : (s.ring r).ovrSeen = false) :
    ∃ t, exec (.ovrLimitReached r) s = .next t ∧ bit (t.rd SYS_PIPE_OVR 0 (r / 32)) (r % 32) = true ∧
      t.on SYS_PIPE_STATUS_OVR_BLOCK = true ∧ t.on SYS_PIPE_STATUS_OVR_NEW = true ∧ (t.ring r).ovrSeen = true ∧
      t = { s with regs := t.regs, rings := t.rings } ∧
      RegsBut [SYS_PIPE_OVR.key 0 (r / 32), SYS_PIPE_STATUS_OVR_BLOCK.key 0 0, SYS_PIPE_STATUS_OVR_NEW.key 0 0] s t := by
  have hnew : ∀ j, SYS_PIPE_OVR.key 0 j ≠ SYS_PIPE_STATUS_OVR_NEW.key 0 0 := fun j => by
    show (0x20000030 + j * 4) * 32 ≠ 0x20000018 * 32 + 4
    omega
  have hlt : r.val % 32 < 32 := Nat.mod_lt _ (by decide)
  refine ⟨(((s.updRing r (fun g => { g with ovrSeen := true })).orIn SYS_PIPE_OVR (2 ^ (r.val % 32)) 0 (r.val / 32)).raise
    SYS_PIPE_STATUS_OVR_BLOCK).raise SYS_PIPE_STATUS_OVR_NEW, ?_, ?_, ?_, ?_, ?_, rfl, ?_⟩
  · show Host.Outcome.next (onFab s _) = _
    rw [onFab_on hc, ovrLimit, if_pos (by simp [hl, h0, hs])]
  · rw [State.raise, State.rd_wr_ne _ _ _ _ _ _ _ _ (hnew _), State.raise,
      State.rd_wr_ne _ _ _ _ _ _ _ _ (key_pipeOvr_ne_ovrBlock _), State.orIn, State.rd_wr_same]
    show bit (_ % 2 ^ 32) _ = true
    rw [bit_mod_word hlt, bit, Nat.testBit_or, Nat.testBit_two_pow_self, Bool.or_true]
  · rw [State.raise, State.on, State.rd_wr_ne _ _ _ _ _ _ _ _ (by decide), State.raise, State.rd_wr_same]
    rfl
  · rw [State.raise, State.on, State.rd_wr_same]
    rfl
  · show ((s.updRing r (fun g => { g with ovrSeen := true })).ring r).ovrSeen = true
    rw [State.ring_updRing, if_pos rfl]
  · exact (((RegsBut.refl _ s).wr (t := s.updRing r _) (by simp) _).wr (by simp) _).wr (by simp) _

/-- Settles O36, command by command. -/
theorem ringCommands : Obligations.RingCommands := by
  intro s req r i mask data x xs
  refine ⟨ringLostClear_leaves, ringClrStats_leaves, mgmtReqPush_leaves, fun hc hp hreq hx => ?_, pipeOvrClear_leaves,
    ovrBlockClear_leaves, ovrLimitReached_leaves⟩
  exact ⟨_, exec_mgmtRspPop hc hp hreq hx, (State.ring_updRing s r r fun g => { g with rsps := xs }).trans (if_pos rfl), rfl, rfl⟩

end Sys2Proof.Machine

/-!
What the processing of a cell leaves of the ring side of the state (R66, R69).
-/
namespace Sys2Proof.Machine

/-! ### The ring side of the state -/

/-- What the processing of a cell leaves alone: the edge count, the rings' hidden state, and the pipeline but for the late writes of
entries (R66). -/
def State.ringSide (s : State) : Nat × Sp RingSt × PipeSt := (s.fab, s.rings, { s.pipe with late := [] })

/-- A field written. -/
theorem ringSide_wr (s : State) (f : Fld) (v i j : Nat) : (s.wr f v i j).ringSide = s.ringSide := rfl

/-- Either branch. -/
theorem ringSide_ite {c : Prop} [Decidable c] {a b : State} {x : Nat × Sp RingSt × PipeSt} (ha : a.ringSide = x)
    (hb : b.ringSide = x) : (if c then a else b).ringSide = x := by
  split <;> assumption

/-- The first n naturals taken in order. -/
theorem ringSide_forN {f : Nat → State → State} (h : ∀ i t, (f i t).ringSide = t.ringSide) (n : Nat) (s : State) :
    (forN n f s).ringSide = s.ringSide := by
  induction n with
  | zero => rfl
  | succ n ih => exact (h n _).trans ih

/-- A list taken in order. -/
theorem ringSide_foldl {α : Type} {f : State → α → State} (h : ∀ t a, (f t a).ringSide = t.ringSide) (l : List α) (s : State) :
    (l.foldl f s).ringSide = s.ringSide := by
  induction l generalizing s with
  | nil => rfl
  | cons a l ih => exact (ih _).trans (h s a)

/-! ### Memory and the scan engine -/

/-- The log of the memories. -/
theorem ringSide_logEvent (s : State) (m : Mem) (a : Nat) (unc scrub : Bool) (syms : List Nat) :
    (logEvent s m a unc scrub syms).ringSide = s.ringSide := by
  cases m with
  | cupola | dram => exact ringSide_ite rfl rfl
  | mram => rfl

/-- A correction. -/
theorem ringSide_corrected (s : State) (m : Mem) (line : Nat) (es : List (Nat × Nat)) (scrub : Bool) :
    (corrected s m line es scrub).ringSide = s.ringSide := by
  have hlog := ringSide_logEvent (writeLine s (line * 64) ((correctWith (storedWord s line) es).take 64)) m (line * 64) false scrub
    (es.map (·.1))
  cases m with
  | cupola | mram => exact hlog
  | dram c =>
    refine (ringSide_forN (fun d t => ?_) 9 _).trans hlog
    exact ringSide_ite rfl rfl

/-- CH_FAIL. -/
theorem ringSide_enterChFail (s : State) (c : Nat) : (enterChFail s c).ringSide = s.ringSide := by
  unfold enterChFail
  exact ringSide_forN (fun k t => by rfl) 32 (s.raise MEMC_STATUS_CH_FAIL c)

/-- An uncorrectable event. -/
theorem ringSide_uncorrected (s : State) (m : Mem) (line : Nat) (scrub : Bool) :
    (uncorrected s m line scrub).ringSide = s.ringSide := by
  have hlog := ringSide_logEvent s m (line * 64) true scrub []
  cases m with
  | cupola | mram => exact hlog
  | dram c => exact ringSide_ite ((ringSide_enterChFail ..).trans hlog) hlog

/-- A retried access. -/
theorem ringSide_caRetry (s : State) (m : Mem) : (caRetry s m).1.ringSide = s.ringSide := by
  cases m <;> rfl

/-- A line read and decoded. -/
theorem ringSide_decodeLine (s : State) (m : Mem) (line : Nat) (scrub : Bool) :
    (decodeLine s m line scrub).1.ringSide = s.ringSide := by
  have hretry := ringSide_caRetry s m
  unfold decodeLine
  split
  · rfl
  · generalize caRetry s m = p at hretry ⊢
    obtain ⟨t, ca⟩ := p
    dsimp only at hretry ⊢
    split
    · exact (ringSide_uncorrected ..).trans hretry
    · split
      · exact (ringSide_uncorrected ..).trans hretry
      · exact hretry
      · exact (ringSide_corrected ..).trans hretry

/-- A read of memory. -/
theorem ringSide_memRead (s : State) (a n : Nat) : (memRead s a n).1.ringSide = s.ringSide := by
  unfold memRead
  split
  · rfl
  · split
    · rfl
    · exact ringSide_decodeLine ..

/-- A line of a scan. -/
theorem ringSide_scanLine (s : State) : (scanLine s).ringSide = s.ringSide := by
  have hread := ringSide_memRead s s.scan.addr (min s.scan.left (64 - s.scan.addr % 64))
  unfold scanLine
  split
  · rfl
  · dsimp only
    generalize memRead s s.scan.addr (min s.scan.left (64 - s.scan.addr % 64)) = p at hread ⊢
    obtain ⟨t, ans⟩ := p
    cases ans <;> exact hread

/-- A scan that keeps up with the present edge. -/
theorem ringSide_scanAdvance (s : State) : (scanAdvance s).ringSide = s.ringSide :=
  ringSide_ite (ringSide_forN (fun _ => ringSide_scanLine) _ _) rfl

/-- Words written to the MRAM. -/
theorem ringSide_writeWords (s : State) (a : Nat) (bs : List Nat) : (writeWords s a bs).ringSide = s.ringSide := by
  unfold writeWords
  refine (ringSide_foldl (fun t w => ?_) _ _).trans (ringSide_scanAdvance s)
  rfl

/-! ### The journal and the event log -/

/-- The levels of the journal's rings. -/
theorem ringSide_journalLevels (s : State) : (journalLevels s).ringSide = s.ringSide := by
  unfold journalLevels
  dsimp only
  rw [ringSide_wr, ringSide_wr]
  exact ringSide_forN (fun r t => by rfl) 3 s

/-- A record appended. -/
theorem ringSide_appendRec (s : State) (j : JrnSub) : (appendRec s j).ringSide = s.ringSide :=
  (ringSide_journalLevels _).trans (ringSide_ite rfl (ringSide_writeWords ..))

/-- A submission. -/
theorem ringSide_submit (s : State) (j : JrnSub) : (submit s j).ringSide = s.ringSide :=
  ringSide_ite (ringSide_journalLevels _) (ringSide_appendRec s j)

/-- A FAULT record submitted. -/
theorem ringSide_submitFault (s : State) (payload : List Nat) : (submitFault s payload).ringSide = s.ringSide :=
  ringSide_ite rfl (ringSide_ite (ringSide_submit ..) rfl)

/-- A FAULT record. -/
theorem ringSide_faultRecord (s : State) : (faultRecord s).ringSide = s.ringSide :=
  ringSide_ite rfl (ringSide_submitFault ..)

/-- A record of the gate event log. -/
theorem ringSide_pushEvt (s : State) (e : EvtRec) : (pushEvt s e).ringSide = s.ringSide := by
  have h : (if e.src = 14 then s else faultRecord s).ringSide = s.ringSide := ringSide_ite rfl (ringSide_faultRecord s)
  exact ringSide_ite h h

/-! ### Reactions (R110 to R115) -/

/-- Block latches of arms. -/
theorem ringSide_setArmLatches (s : State) (mask : Nat) : (setArmLatches s mask).ringSide = s.ringSide := by
  unfold setArmLatches
  refine ringSide_forN (fun k t => ?_) 8 s
  exact ringSide_ite rfl rfl

/-- The block latch of a ring. -/
theorem ringSide_setRingLatch (s : State) (r : Nat) : (setRingLatch s r).ringSide = s.ringSide := by
  unfold setRingLatch
  dsimp only
  split <;> rfl

/-- The latch of all arms. -/
theorem ringSide_setAllLatch (s : State) : (setAllLatch s).ringSide = s.ringSide := by
  unfold setAllLatch
  exact ringSide_forN (fun k t => by rfl) 8 (s.raise SYS_GCS_BLOCK_ALL)

/-- An entry changed where a condition holds. -/
theorem ringSide_updEntry_if (s : State) (p : Prop) [Decidable p] (c : Nat) (f : Entry → Entry) :
    (if p then s.updEntry c f else s).ringSide = s.ringSide := ringSide_ite rfl rfl

/-- A reaction of a cell: in each action of R112 the latches and the record of it. -/
theorem ringSide_react (s : State) (c src : Nat) : (react s c src).ringSide = s.ringSide := by
  unfold react
  dsimp only
  generalize ringArm s (c / 32) = arm
  cases arm with
  | none =>
    split
    · rw [ringSide_pushEvt, ringSide_updEntry_if]
    · rw [ringSide_pushEvt, ringSide_updEntry_if]
    · rw [ringSide_pushEvt, ringSide_setRingLatch, ringSide_updEntry_if]
    · rw [ringSide_pushEvt, ringSide_setAllLatch, ringSide_updEntry_if]
    · contradiction
    · contradiction
    · rw [ringSide_pushEvt, ringSide_updEntry_if]
  | some k =>
    split
    · rw [ringSide_pushEvt, ringSide_updEntry_if]; rfl
    · rw [ringSide_pushEvt, ringSide_updEntry_if]; rfl
    · rw [ringSide_pushEvt, ringSide_setRingLatch, ringSide_updEntry_if]; rfl
    · rw [ringSide_pushEvt, ringSide_setAllLatch, ringSide_updEntry_if]; rfl
    · exact ringSide_ite rfl rfl
    · exact (ringSide_setArmLatches ..).trans (ringSide_updEntry_if ..)
    · rw [ringSide_pushEvt, ringSide_updEntry_if]; rfl

/-- The STATE_ERR reaction. -/
theorem ringSide_stateErr (s : State) (c : Nat) : (stateErr s c).ringSide = s.ringSide := by
  unfold stateErr
  refine (ringSide_react ..).trans ?_
  dsimp only
  split <;> rfl

/-- The judgement of a supplied status. -/
theorem ringSide_judgeStatus (s : State) (c : Nat) (old new : Stat) : (judgeStatus s c old new).ringSide = s.ringSide := by
  unfold judgeStatus
  dsimp only
  refine (ringSide_foldl (fun t x => ringSide_react t c x) _ _).trans ?_
  have hlow := ringSide_foldl (fun t x => ringSide_react t c x) ((onsets old new).filter (· < 9)) s
  exact ringSide_ite ((ringSide_stateErr ..).trans hlow) hlow

/-! ### The processing of a cell (R69) -/

/-- The credit of a cell's energy. -/
theorem ringSide_leaseCredit (s : State) (n w : Nat) (dis estim : Bool) : (leaseCredit s n w dis estim).ringSide = s.ringSide := by
  unfold leaseCredit
  split
  · have h : (if dis then s.count LEASE_DIS_J n 0 w else s.count LEASE_CHG_J n 0 w).ringSide = s.ringSide := ringSide_ite rfl rfl
    exact ringSide_ite h h
  · rfl

/-- An error recorded in SYS.CSE_ERR. -/
theorem ringSide_cseRecord (s : State) (c off code : Nat) : (cseRecord s c off code).ringSide = s.ringSide := ringSide_ite rfl rfl

/-- Words corrected in the cell store. -/
theorem ringSide_cseCorrect (s : State) (c lo hi : Nat) : (cseCorrect s c lo hi).ringSide = s.ringSide := ringSide_ite rfl rfl

/-- The engine's write of an entry. -/
theorem ringSide_engineWrite (s : State) (c : Nat) (e : Entry) : (engineWrite s c e).ringSide = s.ringSide := rfl

/-- Energy is credited to a context where the entry is live. -/
theorem ringSide_leaseCredit_if (s : State) (p : Prop) [Decidable p] (n w : Nat) (dis estim : Bool) :
    (if p then leaseCredit s n w dis estim else s).ringSide = s.ringSide := ringSide_ite (ringSide_leaseCredit ..) rfl

/-- An uncorrectable word is raised and recorded where it is new. -/
theorem ringSide_cseRecord_if (s : State) (p : Prop) [Decidable p] (f : Fld) (c off code : Nat) :
    (if p then cseRecord (s.raise f) c off code else s).ringSide = s.ringSide := ringSide_ite (ringSide_cseRecord ..) rfl

/-- A status bit raised where a condition holds. -/
theorem ringSide_raiseIf (s : State) (b : Bool) (f : Fld) (i j : Nat) : (s.raiseIf b f i j).ringSide = s.ringSide :=
  ringSide_ite rfl rfl

/-- The extremes of a context. -/
theorem ringSide_leaseObserve (s : State) (e : Entry) : (leaseObserve s e).ringSide = s.ringSide := rfl

/-- The processing of a cell. -/
theorem ringSide_processCell (s : State) (c : Nat) (st : Option Stat) (relayed : Bool) (cycleNo : Nat) :
    (processCell s c st relayed cycleNo).ringSide = s.ringSide := by
  unfold processCell
  cases st with
  | none =>
    dsimp only
    rw [ringSide_raiseIf, ringSide_cseRecord_if, ringSide_leaseObserve, ringSide_engineWrite, ringSide_leaseCredit_if,
      ringSide_cseCorrect]
  | some x =>
    dsimp only
    rw [ringSide_judgeStatus, ringSide_raiseIf, ringSide_cseRecord_if, ringSide_leaseObserve, ringSide_engineWrite,
      ringSide_leaseCredit_if, ringSide_cseCorrect]

/-! ### The state of the twin (R331, R333, R335) -/

/-- A change of the unit's state. -/
theorem ringSide_leaveState (s : State) (st : Nat) : (leaveState s st).ringSide = s.ringSide := by
  have hlost : (if twState s = TW_HOLDER then (twinFault (s.raise TWIN_STATUS_LOST_TOKEN)).count TWIN_TAKEOVERS_COUNT
      else s).ringSide = s.ringSide := ringSide_ite (ringSide_faultRecord _) rfl
  exact ringSide_ite hlost hlost

/-- A newer epoch adopted. -/
theorem ringSide_adoptEpoch (s : State) (epoch : Nat) : (adoptEpoch s epoch).ringSide = s.ringSide := ringSide_ite rfl rfl

/-- A mismatch noted. -/
theorem ringSide_noteMismatch (s : State) (r : Nat) (d : Option Nat) : (noteMismatch s r d).ringSide = s.ringSide := by
  cases d <;> rfl

/-- What an accepted frame means to the twin logic. -/
theorem ringSide_twinAccept (s : State) (r : Nat) (f : Frame) : (twinAccept s r f).ringSide = s.ringSide := by
  have hadopt := ringSide_adoptEpoch s f.hdr.epoch
  unfold twinAccept
  dsimp only
  split
  · rfl
  · split
    · exact (ringSide_adoptEpoch ..).trans (ringSide_leaveState ..)
    · split
      · split
        · exact (ringSide_noteMismatch ..).trans hadopt
        · exact hadopt
      · exact hadopt

end Sys2Proof.Machine

/-!
The events of the rings (R17, R43, R55, R56, R63, R102).
-/
namespace Sys2Proof.Machine

/-! ### What an accepted frame leaves of a ring -/

/-- What shows an accepted frame: the edge, the ring's mark and its missed cycles, the latest arrival. -/
def State.arrival (s : State) (r : Nat) : Nat × Bool × Nat × Nat :=
  (s.fab, (s.ring r).accepted, (s.ring r).misses, s.pipe.lastArrival)

/-- It lies on the ring side of the state. -/
theorem arrival_of_ringSide {s t : State} (h : t.ringSide = s.ringSide) (r : Nat) : t.arrival r = s.arrival r := by
  have hfab : t.fab = s.fab := congrArg (fun x => x.1) h
  have hrings : t.rings = s.rings := congrArg (fun x => x.2.1) h
  have hlast : t.pipe.lastArrival = s.pipe.lastArrival := congrArg (fun x => x.2.2.lastArrival) h
  simp only [State.arrival, State.ring, hfab, hrings, hlast]

/-- A ring's hidden state changed elsewhere. -/
theorem arrival_updRing {f : RingSt → RingSt} (hf : ∀ g, (f g).accepted = g.accepted ∧ (f g).misses = g.misses) (s : State)
    (k r : Nat) : (s.updRing k f).arrival r = s.arrival r := by
  obtain ⟨ha, hm⟩ := hf (s.ring r)
  unfold State.arrival
  rw [State.ring_updRing]
  split
  · subst_vars
    rw [ha, hm]
    rfl
  · rfl

/-- Either branch. -/
theorem arrival_ite {c : Prop} [Decidable c] {a b : State} {r : Nat} {x : Nat × Bool × Nat × Nat} (ha : a.arrival r = x)
    (hb : b.arrival r = x) : (if c then a else b).arrival r = x := by
  split <;> assumption

/-- A list taken in order. -/
theorem arrival_foldl {α : Type} {f : State → α → State} {r : Nat} (h : ∀ t a, (f t a).arrival r = t.arrival r) (l : List α)
    (s : State) : (l.foldl f s).arrival r = s.arrival r := by
  induction l generalizing s with
  | nil => rfl
  | cons a l ih => exact (ih _).trans (h s a)

/-- Bits OR-ed into a field. -/
theorem arrival_orIn (s : State) (f : Fld) (v i j r : Nat) : (s.orIn f v i j).arrival r = s.arrival r := rfl

/-- A status bit raised where a condition holds. -/
theorem arrival_raiseIf (s : State) (b : Bool) (f : Fld) (i j r : Nat) : (s.raiseIf b f i j).arrival r = s.arrival r :=
  arrival_ite rfl rfl

/-- A position processed with its status. -/
theorem arrival_supplyCell (s : State) (k p : Nat) (x : Stat) (relayed : Bool) (r : Nat) :
    (supplyCell s k p x relayed).arrival r = s.arrival r := by
  refine arrival_ite ?_ rfl
  rw [arrival_of_ringSide (ringSide_processCell ..), arrival_orIn]
  exact arrival_updRing (fun g => by exact ⟨rfl, rfl⟩) s k r

/-- A status kept for the agreed processing. -/
theorem arrival_heldSupply (s : State) (k p : Nat) (x : Stat) (relayed : Bool) (r : Nat) :
    (heldSupply s k p x relayed).arrival r = s.arrival r := by
  refine arrival_ite ?_ rfl
  rw [arrival_orIn]
  cases relayed <;> exact arrival_updRing (fun g => by exact ⟨rfl, rfl⟩) s k r

/-- A management request that completes. -/
theorem arrival_mgmtComplete (s : State) (k stat : Nat) (noack : Bool) (data r : Nat) :
    (mgmtComplete s k stat noack data).arrival r = s.arrival r := by
  unfold mgmtComplete
  dsimp only
  split
  · rfl
  · refine arrival_ite ?_ ?_
    · show (State.raiseIf _ noack RING_STATUS_MGMT_FAIL k).arrival r = _
      rw [arrival_raiseIf]
      exact arrival_updRing (fun g => by exact ⟨rfl, rfl⟩) s k r
    · rw [arrival_raiseIf]
      exact arrival_updRing (fun g => by exact ⟨rfl, rfl⟩) s k r

/-- BREAK_AFTER and BREAK_VALID. -/
theorem arrival_updateBreak (s : State) (k : Nat) (f : Frame) (r : Nat) : (updateBreak s k f).arrival r = s.arrival r := by
  unfold updateBreak
  split <;> rfl

/-- The latest arrival noted. -/
theorem arrival_noteArrival {s : State} {r fab misses last : Nat} {acc : Bool} (h : s.arrival r = (fab, acc, misses, last)) (at_ : Nat) :
    State.arrival { s with pipe := { s.pipe with lastArrival := max s.pipe.lastArrival at_ } } r = (fab, acc, misses, max last at_) := by
  simp only [State.arrival, Prod.mk.injEq] at h ⊢
  obtain ⟨hf, ha, hm, hl⟩ := h
  exact ⟨hf, ha, hm, by rw [hl]⟩

/-- A position of a frame taken where it is present. -/
theorem arrival_if_present (s : State) (x : Stat) {t : State} {r : Nat} (h : t.arrival r = s.arrival r) :
    (if x.present then t else s).arrival r = s.arrival r := arrival_ite h rfl

/-- An accepted frame shows as accepted (R55, R56): the ring has missed no cycle any more, and its arrival counts. -/
theorem arrival_ringAccept (s : State) (r at_ : Nat) (f : Frame) :
    (ringAccept s r at_ f).arrival r = (s.fab, true, 0, max s.pipe.lastArrival at_) := by
  have hmark : (s.updRing r (fun g => { g with accepted := true, misses := 0 })).arrival r =
      (s.fab, true, 0, s.pipe.lastArrival) := by
    simp only [State.arrival, State.ring_updRing, if_pos]
    rfl
  unfold ringAccept
  dsimp only
  refine arrival_ite ((arrival_foldl (fun t p => ?_) _ _).trans (arrival_noteArrival ?_ at_))
    ((arrival_foldl (fun t p => ?_) _ _).trans (arrival_noteArrival ?_ at_))
  · exact arrival_if_present t _ (arrival_heldSupply ..)
  · refine arrival_ite ((arrival_mgmtComplete ..).trans ((arrival_updateBreak ..).trans hmark)) ((arrival_updateBreak ..).trans hmark)
  · exact arrival_if_present t _ (arrival_supplyCell ..)
  · refine arrival_ite ((arrival_mgmtComplete ..).trans ((arrival_updateBreak ..).trans hmark)) ((arrival_updateBreak ..).trans hmark)

/-! ### A frame that arrives (R55) -/

/-- The ring takes a frame of this cycle (R17, R55): it is enabled, none has been accepted, and RET_DEADLINE has not passed. -/
structure TakesFrame (s : State) (r at_ : Nat) : Prop where
  running : s.pipe.running = true
  open_ : s.pipe.retPassed = false
  enabled : s.on RING_CTRL_EN r = true
  first : (s.ring r).accepted = false
  inTime : at_ ≤ s.rd SYS_PIPE_CFG_RET_DEADLINE

/-- Time moved on to an edge leaves every field but SLEWING. -/
theorem rd_toEdge {f : Fld} {i j : Nat} (h : f.key i j ≠ CAMPANILE_STATUS_SLEWING.key 0 0) (s : State) (e : Nat) :
    (s.toEdge e).rd f i j = s.rd f i j := State.rd_wr_ne _ _ _ _ _ _ _ _ h

/-- The mode of the rings is as it was. -/
theorem mode16_toEdge (s : State) (e : Nat) : (s.toEdge e).mode16 = s.mode16 :=
  congrArg (· != 0) (rd_toEdge (by decide) s e)

section
variable {s : State} {r at_ : Nat} (h : TakesFrame s r at_)
include h

/-- Nothing discards the frame. -/
theorem TakesFrame.guard : (!s.pipe.running || s.pipe.retPassed || !(s.on RING_CTRL_EN r) || (s.ring r).accepted
    || decide (s.rd SYS_PIPE_CFG_RET_DEADLINE < at_)) = false := by
  simp [h.running, h.open_, h.enabled, h.first, h.inTime]

/-- A frame that breaks off. -/
theorem TakesFrame.broken : ringReceive s r at_ .broken =
    ((s.toEdge (s.pipe.tickEdge + at_)).raise RING_STATUS_PARTIAL r).count RING_MISS_CNT_PARTIAL r := by
  rw [ringReceive, h.guard]
  rfl

/-- A frame with a wrong CRC. -/
theorem TakesFrame.badCrc {b : List Nat} (hb : frameCrcOk s.mode16 b = false) : ringReceive s r at_ (.whole b) =
    ((s.toEdge (s.pipe.tickEdge + at_)).raise RING_STATUS_CRC_ERR r).count RING_CRC_CNT_COUNT r := by
  rw [ringReceive, h.guard]
  dsimp only
  rw [mode16_toEdge, hb]
  rfl

/-- A frame whose CRC and type are right is judged by RING_ID, DEV and CYCLE_NO. -/
theorem TakesFrame.judged {b : List Nat} (hb : frameCrcOk s.mode16 b = true) (hv : (Hdr.ofBytes b).version = 1)
    (ht : (Hdr.ofBytes b).ftype = 1) :
    ringReceive s r at_ (.whole b) =
      if (Hdr.ofBytes b).ringId ≠ r ∨ (Hdr.ofBytes b).dev ≠ s.rd TWIN_CASC_CFG_POS ∨
          (Hdr.ofBytes b).cycleNo ≠ s.rd SYS_CYCLE_COUNT % 65536 then
        (s.toEdge (s.pipe.tickEdge + at_)).raise RING_STATUS_SEQ_ERR r
      else ringAccept (s.toEdge (s.pipe.tickEdge + at_)) r at_ (Frame.ofBytes s.mode16 b) := by
  have htype : hdrTypeOk (Hdr.ofBytes b) = true := by simp [hdrTypeOk, hv, ht]
  rw [ringReceive, h.guard]
  dsimp only [Frame.ofBytes]
  rw [mode16_toEdge, hb, htype, rd_toEdge (by decide), rd_toEdge (by decide)]
  simp only [Bool.or_eq_true, bne_iff_ne, or_assoc]
  rfl

end

/-- What comes at a ring that takes no frame any more changes nothing (R17, log 102). -/
theorem ringReceive_late {s : State} {r : Nat} (h : (s.ring r).accepted = true ∨ s.pipe.retPassed = true) (at_ : Nat) (f : Arrival) :
    ringReceive s r at_ f = s := by
  rw [ringReceive, if_pos]
  obtain h | h := h <;> simp [h]

section
variable {s : State} {r edge : Nat} (hle : s.pipe.tickEdge ≤ edge) (h : TakesFrame s r (edge - s.pipe.tickEdge))
include hle h

/-- A frame that breaks off is nothing to the twin. -/
theorem ringFrame_broken :
    ringFrame s r edge .broken = ((s.toEdge edge).raise RING_STATUS_PARTIAL r).count RING_MISS_CNT_PARTIAL r := by
  rw [ringFrame, if_neg (Nat.not_lt.mpr hle), h.broken, Nat.add_sub_cancel' hle]

/-- A frame that the ring does not accept is nothing to the twin. -/
theorem ringFrame_refused {b : List Nat} {t : State} (ht : ringReceive s r (edge - s.pipe.tickEdge) (.whole b) = t)
    (hr : t.rings = s.rings) : ringFrame s r edge (.whole b) = t := by
  have hacc : (t.ring r).accepted = false := by
    rw [State.ring, hr]
    exact h.first
  rw [ringFrame, if_neg (Nat.not_lt.mpr hle), ht]
  simp [hacc]

/-- A frame with a wrong CRC. -/
theorem ringFrame_badCrc {b : List Nat} (hb : frameCrcOk s.mode16 b = false) :
    ringFrame s r edge (.whole b) = ((s.toEdge edge).raise RING_STATUS_CRC_ERR r).count RING_CRC_CNT_COUNT r :=
  ringFrame_refused hle h (by rw [h.badCrc hb, Nat.add_sub_cancel' hle]) rfl

/-- A frame that is not the one launched. -/
theorem ringFrame_foreign {b : List Nat} (hb : frameCrcOk s.mode16 b = true) (hv : (Hdr.ofBytes b).version = 1)
    (ht : (Hdr.ofBytes b).ftype = 1) (hf : (Hdr.ofBytes b).ringId ≠ r ∨ (Hdr.ofBytes b).dev ≠ s.rd TWIN_CASC_CFG_POS ∨
      (Hdr.ofBytes b).cycleNo ≠ s.rd SYS_CYCLE_COUNT % 65536) :
    ringFrame s r edge (.whole b) = (s.toEdge edge).raise RING_STATUS_SEQ_ERR r :=
  ringFrame_refused hle h (by rw [h.judged hb hv ht, if_pos hf, Nat.add_sub_cancel' hle]) rfl

/-- The frame launched: the ring accepts it, and then it is the twin's. -/
theorem arrival_ringFrame_own {b : List Nat} (hb : frameCrcOk s.mode16 b = true) (hv : (Hdr.ofBytes b).version = 1)
    (ht : (Hdr.ofBytes b).ftype = 1) (hr : (Hdr.ofBytes b).ringId = r) (hd : (Hdr.ofBytes b).dev = s.rd TWIN_CASC_CFG_POS)
    (hc : (Hdr.ofBytes b).cycleNo = s.rd SYS_CYCLE_COUNT % 65536) :
    (ringFrame s r edge (.whole b)).arrival r =
      (max s.fab edge, true, 0, max s.pipe.lastArrival (edge - s.pipe.tickEdge)) := by
  have hfab : (s.toEdge edge).fab = max s.fab edge := by
    show s.fab + (edge - s.fab) = max s.fab edge
    omega
  rw [ringFrame, if_neg (Nat.not_lt.mpr hle), h.judged hb hv ht, if_neg (by simp [hr, hd, hc]), Nat.add_sub_cancel' hle]
  refine (arrival_ite (arrival_of_ringSide (ringSide_twinAccept ..) r) rfl).trans ?_
  rw [arrival_ringAccept, hfab]
  rfl

end

/-- A frame before the tick, or at a ring that takes none, changes nothing. -/
theorem ringFrame_late {s : State} {r edge : Nat}
    (h : (s.ring r).accepted = true ∨ s.pipe.retPassed = true ∨ edge < s.pipe.tickEdge) (f : Arrival) : ringFrame s r edge f = s := by
  unfold ringFrame
  by_cases hlt : edge < s.pipe.tickEdge
  · rw [if_pos hlt]
  · have hl : (s.ring r).accepted = true ∨ s.pipe.retPassed = true := h.imp id fun h => h.resolve_right hlt
    rw [if_neg hlt, ringReceive_late hl]
    dsimp only
    split
    · simp
    · rfl

/-! ### Missed cycles and the receiver (R43, R56) -/

/-- STALE after a second missed cycle. -/
theorem exec_ringStale {s : State} {r : Fin 128} (hc : clocked s = true) (h : 2 ≤ (s.ring r).misses) :
    exec (.ringStale r) s = .next (s.raise RING_STATUS_STALE r) := by
  show Host.Outcome.next (onFab s _) = _
  rw [onFab_on hc, ringStale, State.raiseIf, if_pos (decide_eq_true h)]

/-- Charge-pump bits of the first n cells from a cell on cleared. -/
def clearCp (base n : Nat) (s : State) : State :=
  forN n (fun p s => s.updEntry (base + p) (fun e => { e with gate := { e.gate with cp := false } })) s

/-- One more cell. -/
theorem clearCp_succ (base n : Nat) (s : State) : clearCp base (n + 1) s =
    (clearCp base n s).updEntry (base + n) (fun e => { e with gate := { e.gate with cp := false } }) := rfl

/-- The bits are clear. -/
theorem cp_clearCp {base n p : Nat} (hp : p < n) (s : State) : ((clearCp base n s).entry (base + p)).gate.cp = false := by
  induction n with
  | zero => omega
  | succ n ih =>
    rw [clearCp_succ, State.entry_updEntry]
    by_cases hpn : p = n
    · rw [hpn, if_pos rfl]
    · rw [if_neg (by omega)]
      exact ih (by omega)

/-- Nothing but entries changes. -/
theorem clearCp_rest (base n : Nat) (s : State) : clearCp base n s = { s with entries := (clearCp base n s).entries } := by
  induction n with
  | zero => rfl
  | succ n ih => rw [clearCp_succ, ih]; rfl

/-- LOST after LOST_LIMIT missed cycles (R56, R102). -/
theorem ringLost_leaves {s : State} {r : Fin 128} (hc : clocked s = true) (hl : s.rd RING_CFG_LOST_LIMIT r ≤ (s.ring r).misses)
    (h0 : 0 < (s.ring r).misses) :
    ∃ t, exec (.ringLost r) s = .next t ∧ t.on RING_STATUS_LOST r = true ∧
      (∀ p, p < ringSlots s → (t.entry (r * 32 + p)).gate.cp = false) ∧ RegsBut [RING_STATUS_LOST.key r 0] s t ∧
      t = { s with regs := t.regs, entries := t.entries } := by
  have hrest := clearCp_rest (r * 32) (ringSlots s) (s.raise RING_STATUS_LOST r)
  refine ⟨clearCp (r * 32) (ringSlots s) (s.raise RING_STATUS_LOST r), ?_, ?_, fun p hp => cp_clearCp hp _, ?_, ?_⟩
  · show Host.Outcome.next (onFab s _) = _
    rw [onFab_on hc, ringLost, if_pos (by simp [hl, h0])]
    rfl
  · rw [hrest]
    show ((s.wr RING_STATUS_LOST 1 r).rd RING_STATUS_LOST r != 0) = true
    rw [State.rd_wr_same]
    rfl
  · rw [hrest]
    exact (RegsBut.refl _ s).wr (by simp) 1
  · rw [hrest]
    rfl

/-- The receiver's lock is shown (R43). -/
theorem exec_ringLock {s : State} (hc : clocked s = true) (r : Fin 128) :
    exec (.ringLockLost r) s = .next (s.wr RING_STATUS_LOCK 0 r) ∧ exec (.ringLockRegained r) s = .next (s.wr RING_STATUS_LOCK 1 r) := by
  constructor
  · show Host.Outcome.next (onFab s _) = _
    rw [onFab_on hc]
    rfl
  · show Host.Outcome.next (onFab s _) = _
    rw [onFab_on hc]
    rfl

/-! ### The management channel (R63) -/

/-- A ring whose head request has completed. -/
def RingSt.answered (g : RingSt) (q : MgmtReq) (rest : List MgmtReq) (stat : Nat) (noack : Bool) (data : Nat) : RingSt :=
  { g with reqs := rest, rsps := g.rsps ++ [⟨stat, noack, g.tries, if q.write then 0 else data⟩], tag := (g.tag + 1) % 256, tries := 0, carried := false }

section
variable {s : State} {r : Nat} {q : MgmtReq} {rest : List MgmtReq} (hq : (s.ring r).reqs = q :: rest)
include hq

/-- The head request completes: its response is at the end of the response FIFO; a completed read of CDR 0x01 sets the cell's
charge-pump bit (R102). -/
theorem mgmtComplete_cons (stat : Nat) (noack : Bool) (data : Nat) :
    mgmtComplete s r stat noack data =
      let t := (s.updRing r fun g => g.answered q rest stat noack data).raiseIf noack RING_STATUS_MGMT_FAIL r
      if !noack && !q.write && q.addr = 0x01 && stat = OK && q.pos < ringSlots t then
        t.updEntry (r * 32 + q.pos) (fun e => { e with gate := { e.gate with cp := bit data 1 } })
      else t := by
  rw [mgmtComplete, hq]
  rfl

/-- Its ring. -/
theorem ring_mgmtComplete (stat : Nat) (noack : Bool) (data : Nat) :
    (mgmtComplete s r stat noack data).ring r = (s.ring r).answered q rest stat noack data := by
  have h : ((s.updRing r fun g => g.answered q rest stat noack data).raiseIf noack RING_STATUS_MGMT_FAIL r).ring r =
      (s.ring r).answered q rest stat noack data := by
    have hu : (s.updRing r fun g => g.answered q rest stat noack data).ring r = (s.ring r).answered q rest stat noack data :=
      (State.ring_updRing ..).trans (if_pos rfl)
    cases noack <;> exact hu
  rw [mgmtComplete_cons hq]
  dsimp only
  split <;> exact h

/-- Without an acknowledgement MGMT_FAIL is set and no cell is touched. -/
theorem mgmtComplete_noack (stat data : Nat) :
    mgmtComplete s r stat true data = (s.updRing r fun g => g.answered q rest stat true data).raise RING_STATUS_MGMT_FAIL r := by
  rw [mgmtComplete_cons hq]
  rfl

/-- A completed read of CDR 0x01 shows the charge pump of its cell (R102). -/
theorem cp_mgmtComplete {data : Nat} (hw : q.write = false) (ha : q.addr = 1) (hp : q.pos < ringSlots s) :
    ((mgmtComplete s r OK false data).entry (r * 32 + q.pos)).gate.cp = bit data 1 := by
  have hp' : q.pos < ringSlots (s.updRing r fun g => g.answered q rest OK false data) := hp
  rw [mgmtComplete_cons hq]
  simp only [State.raiseIf, Bool.false_eq_true, if_false, hw, ha, hp', Bool.not_false, Bool.and_self, decide_true, if_true,
    State.entry_updEntry]

end

/-- A request out of tries (R63). -/
theorem mgmtNoack_leaves {s : State} {r : Fin 128} {q : MgmtReq} {rest : List MgmtReq} (hc : clocked s = true)
    (hx : mgmtExhausted s r = true) (hq : (s.ring r).reqs = q :: rest) :
    ∃ t, exec (.mgmtNoack r) s = .next t ∧ t.on RING_STATUS_MGMT_FAIL r = true ∧ t = { s with regs := t.regs, rings := t.rings } ∧
      t.ring r = (s.ring r).answered q rest E_STATE true 0 := by
  refine ⟨mgmtComplete s r E_STATE true 0, ?_, ?_, ?_, ring_mgmtComplete hq ..⟩
  · show Host.Outcome.next (onFab s _) = _
    rw [onFab_on hc, mgmtNoack, if_pos hx]
  · rw [mgmtComplete_noack hq, State.raise, State.on, State.rd_wr_same]
    rfl
  · rw [mgmtComplete_noack hq]
    rfl

/-- A response over PEER (R63). -/
theorem exec_mgmtResponseReturn {s : State} {r : Fin 128} (hc : clocked s = true) (ht : twState s ≠ TW_OFF)
    (hcar : (s.ring r).carried = true) (stat : BitVec 4) (data : BitVec 32) (noack : Bool) :
    exec (.mgmtResponseReturn r stat data noack) s = .next (mgmtComplete s r stat.toNat noack data.toNat) := by
  show Host.Outcome.next (onFab s _) = _
  rw [onFab_on hc, mgmtReturn, if_neg (by simp [ht, hcar])]

/-- A frame at a ring of a running device. -/
theorem exec_ringFrameReceive {s : State} (hc : clocked s = true) (r : Fin 128) (edge : Nat) (blocks : List Block66) :
    exec (.ringFrameReceive r edge blocks) s = .next (ringFrame s r edge (arrivalOf blocks)) := by
  show Host.Outcome.next (onFab s _) = _
  rw [onFab_on hc]

/-- Settles O35: an accepted frame's processing stays off the ring side of the state (`ringSide_processCell`). -/
theorem ringEvents : Obligations.RingEvents := by
  intro s r edge noack blocks q rest stat data hc
  have hrecv := exec_ringFrameReceive hc r edge blocks
  refine ⟨fun hrun hret hen hacc hle hin => ?_, fun h => ?_, exec_ringStale hc, ringLost_leaves hc, (exec_ringLock hc r).1,
    (exec_ringLock hc r).2, fun hx hq => ?_, fun ht hcar hq => ?_⟩
  · have h : TakesFrame s r (edge - s.pipe.tickEdge) := ⟨hrun, hret, hen, hacc, hin⟩
    refine ⟨fun hb => ?_, fun b hb => ⟨fun hcrc => ?_, fun hcrc => ?_⟩⟩
    · rw [hrecv, hb, ringFrame_broken hle h]
    · rw [hrecv, hb, ringFrame_badCrc hle h hcrc]
    · intro hd hv hft
      refine ⟨fun hf => ?_, fun hr hdev hcyc _ => ?_⟩
      · rw [hrecv, hb, ringFrame_foreign hle h hcrc hv hft hf]
      · have ha := arrival_ringFrame_own hle h hcrc hv hft hr hdev hcyc
        simp only [State.arrival, Prod.mk.injEq] at ha
        obtain ⟨hfab, hacc', hmiss, hlast⟩ := ha
        exact ⟨_, hb ▸ hrecv, hacc', hmiss, hfab, hlast⟩
  · rw [hrecv, ringFrame_late h]
  · obtain ⟨t, he, hfail, hrest, hring⟩ := mgmtNoack_leaves hc hx hq
    exact ⟨t, he, hfail, hrest, hring.trans (by simp [RingSt.answered])⟩
  · refine ⟨_, exec_mgmtResponseReturn hc ht hcar stat data noack, ring_mgmtComplete hq .., fun hn hw ha hs hp => ?_⟩
    subst hn hs
    exact cp_mgmtComplete hq hw ha hp

end Sys2Proof.Machine

/-!
A tick after whose launch a ring becomes enabled (R25).
-/
namespace Sys2Proof.Machine

/-! ### The ledger's tick with no context in use -/

/-- A context that a tick leaves alone (R200): disabled, with no period open and no curve to load. -/
def leaseIdle (s : State) (n : Nat) : Bool :=
  !(s.on LEASE_CTRL_CURVE_LOAD n) && !(s.on LEASE_CTRL_EN n) && !(s.on LEASE_STATUS_OPEN n)

/-- Such a context at a tick. -/
theorem leaseTick_idle {s : State} {n : Nat} (h : leaseIdle s n = true) (t : Nat) : leaseTick s n t = (s, false, false) := by
  simp only [leaseIdle, Bool.and_eq_true, Bool.not_eq_true'] at h
  obtain ⟨⟨hload, hen⟩, hopen⟩ := h
  simp [leaseTick, hload, hen, hopen]

/-- A tick with every context idle. -/
theorem leaseTicks_idle {s : State} (h : (upTo 256).all (leaseIdle s) = true) (t : Nat) :
    leaseTicks s t = (s, false, false) := by
  unfold leaseTicks
  generalize upTo 256 = l at h
  induction l with
  | nil => rfl
  | cons n l ih =>
    rw [List.all_cons, Bool.and_eq_true] at h
    rw [List.foldl_cons, leaseTick_idle h.1]
    exact ih h.2

/-- The ledger's tick with every context idle, without a restore and a checkpoint under way: pages are submitted and offered. -/
theorem ledgerTick_idle {s : State} (h : (upTo 256).all (leaseIdle s) = true) (hgap : s.ldg.gapFrom = none)
    (hckpt : s.on SYS_LDG_CTRL_CKPT_NOW = false) (t : Nat) :
    ledgerTick s t = offerPages (submitPages ((s.wr SYS_LDG_STATUS_TIME_HOLD 0).wr SYS_LDG_STATUS_FULL 0)) := by
  have hrest : restoreGap s t = s := by rw [restoreGap, hgap]
  have hon : ((s.wr SYS_LDG_STATUS_TIME_HOLD 0).wr SYS_LDG_STATUS_FULL 0).on SYS_LDG_CTRL_CKPT_NOW = false := by
    rw [State.on, State.rd_wr_ne _ _ _ _ _ _ _ _ (by decide), State.rd_wr_ne _ _ _ _ _ _ _ _ (by decide)]
    exact hckpt
  unfold ledgerTick
  rw [hrest, leaseTicks_idle h]
  exact congrArg (fun u => offerPages (submitPages u)) (if_neg (ne_true_of_eq_false hon))

/-! ### A tick up to the ledger -/

/-- What a tick does before the ledger (R25). -/
def tickToLedger (s : State) (edge : Nat) (first : Bool) : State :=
  let s := s.toEdge edge
  let s := if first then s else recordLaunch (pipeTime s)
  let heldMask := if first then 0 else s.pipe.held
  let s := s.count SYS_CYCLE_COUNT
  let s := (twinTick s).updTwin (fun t => { t with heldRings := heldMask })
  let before := enabledRings s
  let s := tickModes s edge
  let s := ocSource s 0 0
  let s := latchCycle s edge
  let s := { s with sig := { s.sig with pulses := s.sig.pulses.set 1 (edge + 1) } }
  let s := launchAll s first before
  let s := svTicks s s.ns
  forN 12 (fun n s => pwmTick s n edge) s

/-- A tick, with the ledger's part set apart. -/
theorem tickAt_eq (s : State) (edge : Nat) (first : Bool) :
    tickAt s edge first =
      coreTicks (testTick (ledgerTick (tickToLedger s edge first) (tickToLedger s edge first).ns)) := rfl

/-! ### A tick after whose launch a ring becomes enabled -/

/-- The pipeline runs, no ring is enabled, PWM pair 0 starts at the next tick; a 1 waits at the place of RING_0's EN under the class of a
PWM reload. No register write leaves such an entry: it is one of the states the statement ranges over. -/
def strayEnable : State :=
  { State.reset with
    regs := setAll [(SYS_CLK_STATUS_LOCK.key 0 0, 1), (PWM_CTRL_EN.key 0 0, 1)] []
    staged := [(RING_CTRL_EN.key 0 0, { cls := .reload, inst := 0, val := 1, edge := 0 })]
    pipe := { running := true, tickEdge := 1 } }

/-- What stands before the ledger's part of the tick. -/
def strayBeforeLedger : State := tickToLedger (launchSetup strayEnable) (cycleEnd (launchSetup strayEnable)) false

/-- What stands after the ledger's part. -/
def strayAfterLedger : State :=
  offerPages (submitPages ((strayBeforeLedger.wr SYS_LDG_STATUS_TIME_HOLD 0).wr SYS_LDG_STATUS_FULL 0))

/-- The ledger has nothing to do at this tick. -/
theorem strayBeforeLedger_idle : (upTo 256).all (leaseIdle strayBeforeLedger) = true := by decide +kernel

/-- Neither a restore nor a checkpoint is under way. -/
theorem strayBeforeLedger_noCheckpoint :
    strayBeforeLedger.ldg.gapFrom = none ∧ strayBeforeLedger.on SYS_LDG_CTRL_CKPT_NOW = false := by decide +kernel

/-- The tick of this state, the ledger's part evaluated. -/
theorem cycleTick_strayEnable : cycleTick strayEnable = coreTicks (testTick strayAfterLedger) := by
  obtain ⟨hgap, hckpt⟩ := strayBeforeLedger_noCheckpoint
  have htick : cycleTick strayEnable =
      tickAt (launchSetup strayEnable) (cycleEnd (launchSetup strayEnable)) false := if_pos rfl
  rw [htick, tickAt_eq]
  exact congrArg (fun u => coreTicks (testTick u)) (ledgerTick_idle strayBeforeLedger_idle hgap hckpt _)

/-- The reload enables RING_0 after the launch: EN = 1 and no SAFE_FAULT, yet the ring has no frame to launch. -/
theorem cycleTick_strayEnable_noFrame :
    (cycleTick strayEnable).on RING_CTRL_EN 0 = true ∧ (cycleTick strayEnable).on KEEP_STATUS_SAFE_FAULT = false ∧
      ((cycleTick strayEnable).ring 0).tx.isSome = false := by
  rw [cycleTick_strayEnable]
  decide +kernel

/-- Refutes O34: its first clause reads EN after the tick, and in `strayEnable` a PWM reload of the same tick sets RING_0's EN after
the frames were made. -/
theorem not_pipelineEdges : ¬ Obligations.PipelineEdges := by
  unfold Obligations.PipelineEdges
  intro h
  have hc : clocked strayEnable = true := by decide
  obtain ⟨hTick, -⟩ := h strayEnable 0 0 hc
  obtain ⟨t, hexec, -, -, -, hframe⟩ := hTick rfl rfl
  have hnext : exec .cycleTick strayEnable = .next (cycleTick strayEnable) := congrArg Host.Outcome.next (onFab_on hc _)
  have ht : t = cycleTick strayEnable := (Host.Outcome.next.inj (hnext.symm.trans hexec)).symm
  obtain ⟨hen, hsafe, hnone⟩ := cycleTick_strayEnable_noFrame
  rw [ht] at hframe
  exact absurd (hframe 0 hen hsafe) (ne_true_of_eq_false hnone)

end Sys2Proof.Machine

/-!
SUPPORT. What an operation of a terminal does to its switches (R49, R98, R99): only the interlock turns one on, each under a complement
that is off, and every other operation at most turns switches off.
-/
namespace Sys2Proof.Machine

/-! ### Lists of switches -/

/-- Lists joined by "and" hold a place where both hold it; past the end of one of them there is none. -/
theorem nth_zipBool_and (xs ys : List Bool) (k : Nat) :
    nth false (zipBool (· && ·) xs ys) k = (nth false xs k && nth false ys k) := by
  induction xs generalizing ys k with
  | nil => rfl
  | cons x xs ih =>
    cases ys with
    | nil => exact (Bool.and_false _).symm
    | cons y ys =>
      cases k with
      | zero => rfl
      | succ k => exact ih ys k

/-- Lists joined by a function that needs its second place hold no place that the second list leaves open. -/
theorem nth_zipBool_false {f : Bool → Bool → Bool} (hf : ∀ a, f a false = false) (xs ys : List Bool) {k : Nat}
    (h : nth false ys k = false) : nth false (zipBool f xs ys) k = false := by
  induction xs generalizing ys k with
  | nil => rfl
  | cons x xs ih =>
    cases ys with
    | nil => rfl
    | cons y ys =>
      cases k with
      | zero => exact (congrArg (f x) h).trans (hf x)
      | succ k => exact ih ys h

/-- A place that was not set reads as before. -/
theorem nth_setNth_ne {α : Type} (d : α) (xs : List α) {n k : Nat} (h : k ≠ n) (y : α) :
    nth d (setNth xs n y) k = nth d xs k := by
  induction xs generalizing n k with
  | nil => rfl
  | cons x xs ih =>
    cases n with
    | zero =>
      cases k with
      | zero => exact absurd rfl h
      | succ k => rfl
    | succ n =>
      cases k with
      | zero => rfl
      | succ k => exact ih (fun hk => h (congrArg Nat.succ hk))

/-- BLOCK uses no switch (R98). -/
theorem nth_switchesOf_block (fullBridge : Bool) : ∀ k, nth false (switchesOf fullBridge 0) k = false
  | 0 | 1 | 2 | 3 | _ + 4 => rfl

/-! ### Operations that turn no switch on -/

/-- Every switch that is on in x is on in t. -/
def Term.TurnsNoneOn (t x : Term) : Prop := ∀ k, nth false x.on k = true → nth false t.on k = true

/-- The same switches. -/
theorem Term.TurnsNoneOn.of_on {t x : Term} (h : x.on = t.on) : t.TurnsNoneOn x := fun _ hk => h ▸ hk

/-- Nothing changed. -/
theorem Term.TurnsNoneOn.refl (t : Term) : t.TurnsNoneOn t := fun _ => id

/-- One operation after another. -/
theorem Term.TurnsNoneOn.trans {t x y : Term} (h : t.TurnsNoneOn x) (hy : x.TurnsNoneOn y) : t.TurnsNoneOn y :=
  fun k hk => h k (hy k hk)

/-- One operation or another. -/
theorem Term.TurnsNoneOn.ite {c : Prop} [Decidable c] {t x y : Term} (hx : t.TurnsNoneOn x) (hy : t.TurnsNoneOn y) :
    t.TurnsNoneOn (if c then x else y) := by
  split
  · exact hx
  · exact hy

/-- The two legs, switch by switch. -/
theorem Term.legOk_iff (t : Term) :
    t.legOk = true ↔ (nth false t.on 0 = true → nth false t.on 1 = false) ∧ (nth false t.on 2 = true → nth false t.on 3 = false) := by
  simp [Term.legOk, or_iff_not_imp_left]

/-- Where no switch turns on, no leg comes to have both on. -/
theorem Term.TurnsNoneOn.legOk {t x : Term} (h : t.TurnsNoneOn x) (ht : t.legOk = true) : x.legOk = true := by
  have keeps (j k : Nat) (hleg : nth false t.on j = true → nth false t.on k = false) (hj : nth false x.on j = true) :
      nth false x.on k = false := by
    by_contra hk
    have hoff := hleg (h j hj)
    rw [h k (eq_true_of_ne_false hk)] at hoff
    exact Bool.noConfusion hoff
  obtain ⟨hleft, hright⟩ := t.legOk_iff.mp ht
  exact x.legOk_iff.mpr ⟨keeps 0 1 hleft, keeps 2 3 hright⟩

/-- A state applied turns switches off, or leaves them to the interlock (R99). -/
theorem Term.turnsNoneOn_apply (t : Term) (st : Nat) : t.TurnsNoneOn (t.apply st) := by
  unfold Term.apply
  split
  · exact .refl t
  · intro k hk
    rw [nth_zipBool_and, Bool.and_eq_true] at hk
    exact hk.1

/-- A fault's reaction is BLOCK or BYPASS (R50). -/
theorem Term.turnsNoneOn_latchFault (t : Term) (b : Nat) (bypass : Bool) : t.TurnsNoneOn (t.latchFault b bypass) := by
  unfold Term.latchFault
  dsimp only
  exact .ite (Term.turnsNoneOn_apply { t with cdr := _, dcdcOn := false } 1)
    (Term.turnsNoneOn_apply { t with cdr := _, dcdcOn := false } 0)

/-- A comparator's reaction latches its fault, if any. -/
theorem Term.turnsNoneOn_react (t : Term) (b : Nat) : t.TurnsNoneOn (t.react b) := by
  unfold Term.react
  exact .ite (.refl t) (t.turnsNoneOn_latchFault _ _)

/-- The reactions of the comparators of a list, one after another. -/
theorem Term.turnsNoneOn_foldl_react (raw : Nat) (bs : List Nat) (t : Term) :
    t.TurnsNoneOn (bs.foldl (fun t b => if bit raw b then t.react b else t) t) := by
  induction bs generalizing t with
  | nil => exact .refl t
  | cons b bs ih => exact .trans (.ite (t.turnsNoneOn_react b) (.refl t)) (ih _)

/-- The sensors observed. -/
theorem Term.turnsNoneOn_observe (t : Term) (m : SensorIn) : t.TurnsNoneOn (t.observe m) :=
  Term.turnsNoneOn_foldl_react _ _ (t.showRaw m)

/-- A CDR write turns switches off where it starts a self-test (R54), and changes none otherwise. -/
theorem Term.turnsNoneOn_cdrWrite (t : Term) (a d : Nat) : t.TurnsNoneOn (t.cdrWrite a d) := by
  unfold Term.cdrWrite
  dsimp only
  split
  case h_16 => exact .ite (.refl t) (t.turnsNoneOn_apply 0)
  all_goals exact .refl t

/-- The slot's command applied: its state, BLOCK, or nothing (R47). -/
theorem Term.turnsNoneOn_applyCmd (t : Term) (c : Cmd) : t.TurnsNoneOn (t.applyCmd c) := by
  unfold Term.applyCmd
  extract_lets bad _ _ marked
  have hmarked : t.TurnsNoneOn marked := .ite (.of_on rfl) (.refl t)
  refine hmarked.trans (.ite (.of_on rfl) (.ite ?_ ?_))
  · exact Term.turnsNoneOn_apply { marked with iref := _, dcdcOn := _, ovReact := _ } 0
  · exact Term.turnsNoneOn_apply { marked with iref := _, dcdcOn := _, ovReact := _ } c.state

/-- An accepted management write, then the command (R46). -/
theorem Term.turnsNoneOn_applyFrame (t : Term) (h : Hdr) (c : Cmd) : t.TurnsNoneOn (t.applyFrame h c) := by
  unfold Term.applyFrame
  extract_lets fresh written driven
  have hwritten : t.TurnsNoneOn written := by
    unfold written
    split
    next w _ =>
      exact Term.TurnsNoneOn.trans (x := fresh.cdrWrite w.addr w.data) (fresh.turnsNoneOn_cdrWrite w.addr w.data)
        (.ite (.of_on rfl) (.of_on rfl))
    next => exact .refl t
  exact hwritten.trans (written.turnsNoneOn_applyCmd c)

end Sys2Proof.Machine

/-!
SUPPORT. What passing a frame leaves of a terminal (R40 to R46, R52): its status, its answer and its counts change, and only the
judgement at the frame's end reaches the cell.
-/
namespace Sys2Proof.Machine

/-! ### A terminal that holds its cell as another -/

/-- x holds its cell and stands in its epoch as z does: what differs is the management answer and the tags, the events, what is sent
on, the count of bad CRCs and the position. -/
def Term.HoldsAs (x z : Term) : Prop :=
  x = { z with
    alive := x.alive, hdrWrite := x.hdrWrite, hdrOut := x.hdrOut, hdrFor := x.hdrFor, tagA := x.tagA, tagB := x.tagB
    evStale := x.evStale, evDup := x.evDup, evBad := x.evBad, evMissed := x.evMissed, out := x.out, back := x.back
    cdr := { z.cdr with crcErr := x.cdr.crcErr, pos := x.cdr.pos, posDir := x.cdr.posDir } }

/-- The same state at the same switches, the same current reference, and the DC/DC stage alike (R98). -/
def Term.SameDrive (x z : Term) : Prop :=
  x.state = z.state ∧ x.on = z.on ∧ x.wait = z.wait ∧ x.iref = z.iref ∧ x.dcdcOn = z.dcdcOn

/-- The epoch of a commanding frame taken over (R45). -/
def Term.takeEpoch (t : Term) (h : Hdr) : Term := { t with epochUnset := false, cdr := { t.cdr with epoch := h.epoch } }

section
variable {x y z : Term}

/-- One operation after another. -/
theorem Term.HoldsAs.trans (hy : y.HoldsAs x) (hx : x.HoldsAs z) : y.HoldsAs z :=
  Eq.trans hy (congrArg (fun x : Term => { x with
    alive := y.alive, hdrWrite := y.hdrWrite, hdrOut := y.hdrOut, hdrFor := y.hdrFor, tagA := y.tagA, tagB := y.tagB
    evStale := y.evStale, evDup := y.evDup, evBad := y.evBad, evMissed := y.evMissed, out := y.out, back := y.back
    cdr := { x.cdr with crcErr := y.cdr.crcErr, pos := y.cdr.pos, posDir := y.cdr.posDir } }) hx)

variable (h : x.HoldsAs z)
include h

/-- The switches and what they are set to. -/
theorem Term.HoldsAs.sameDrive : x.SameDrive z :=
  ⟨(congrArg Term.state h :), (congrArg Term.on h :), (congrArg Term.wait h :), (congrArg Term.iref h :), (congrArg Term.dcdcOn h :)⟩

/-- The topology (R54). -/
theorem Term.HoldsAs.fullBridge : x.cdr.fullBridge = z.cdr.fullBridge := (congrArg (·.cdr.fullBridge) h :)

/-- A self-test runs in the one where one does in the other (R54). -/
theorem Term.HoldsAs.running : x.cdr.running = z.cdr.running := (congrArg (·.cdr.running) h :)

/-- The epoch. -/
theorem Term.HoldsAs.epoch : x.cdr.epoch = z.cdr.epoch := (congrArg (·.cdr.epoch) h :)

/-- A fault is latched in the one where one is in the other. -/
theorem Term.HoldsAs.latched : x.latched = z.latched := (congrArg Term.latched h :)

/-- A frame is for the one where it is for the other (R44). -/
theorem Term.HoldsAs.bound (hd : Hdr) : x.bound hd = z.bound hd := (congrArg (Term.bound · hd) h :)

/-- A frame is stale to the one where it is stale to the other (R45). -/
theorem Term.HoldsAs.olderEpoch (hd : Hdr) : x.olderEpoch hd = z.olderEpoch hd := (congrArg (Term.olderEpoch · hd) h :)

/-- A frame has been applied by the one where one has been by the other (R46). -/
theorem Term.HoldsAs.appliedOnce : x.appliedOnce = z.appliedOnce := (congrArg Term.appliedOnce h :)

/-- The CYCLE_NO last applied. -/
theorem Term.HoldsAs.lastCycle : x.cdr.lastCycle = z.cdr.lastCycle := (congrArg (·.cdr.lastCycle) h :)

/-- The command last applied. -/
theorem Term.HoldsAs.appliedCmd : x.appliedCmd = z.appliedCmd := (congrArg Term.appliedCmd h :)

/-- The same epoch taken over. -/
theorem Term.HoldsAs.takeEpoch (hd : Hdr) : (x.takeEpoch hd).HoldsAs (z.takeEpoch hd) := (congrArg (Term.takeEpoch · hd) h :)

end

/-! ### A frame on its way through the terminal -/

/-- The header that passes decides the answer and nothing else (R52). -/
theorem Term.header_eq (t : Term) (pos : Option Nat) (h : Hdr) :
    t.header pos h = { t with hdrWrite := (t.header pos h).hdrWrite, hdrOut := (t.header pos h).hdrOut } := by
  unfold Term.header
  dsimp only
  split
  · rfl
  split
  · rfl
  · split <;> rfl

/-- The answer decided as the header passed, or now: nothing else changes. -/
theorem Term.decided_eq (t : Term) (pos : Option Nat) (b : List Nat) :
    t.decided pos b = { t with hdrWrite := (t.decided pos b).hdrWrite, hdrOut := (t.decided pos b).hdrOut } := by
  unfold Term.decided
  dsimp only
  split
  · rfl
  · exact t.header_eq pos _

/-- The answer decided. -/
theorem Term.holdsAs_decided (t : Term) (pos : Option Nat) (b : List Nat) : (t.decided pos b).HoldsAs t := by
  rw [t.decided_eq pos b]
  rfl

/-- The count of bad CRCs is all that changes (R54). -/
theorem Term.countCrc_eq (t : Term) (ok : Bool) :
    t.countCrc ok = { t with cdr := { t.cdr with crcErr := if ok then t.cdr.crcErr else (t.cdr.crcErr + 1) % 65536 } } := by
  cases ok <;> rfl

/-- The frame's CRC counted. -/
theorem Term.holdsAs_countCrc (t : Term) (ok : Bool) : (t.countCrc ok).HoldsAs t := by
  rw [t.countCrc_eq ok]
  rfl

/-- A forgotten tag is all that changes (R53). -/
theorem Term.forgetTag_eq (t : Term) (h : Hdr) :
    t.forgetTag h = { t with tagA := (t.forgetTag h).tagA, tagB := (t.forgetTag h).tagB } := by
  unfold Term.forgetTag
  split
  · rfl
  · split <;> rfl

/-- A tag forgotten. -/
theorem Term.holdsAs_forgetTag (t : Term) (h : Hdr) : (t.forgetTag h).HoldsAs t := by
  rw [t.forgetTag_eq h]
  rfl

/-- The position a terminal derives from a frame's octets (R40). -/
def frameSlot (b : List Nat) : Option Nat := derivePos (Frame.ofBytes (Hdr.ofBytes b).ring16 b) ((b.length - 20) / 20)

/-- The command of a position in a frame's octets, and its four octets (R37, R46). -/
def commandAt (b : List Nat) (p : Nat) : Cmd × Nat := ((Frame.ofBytes (Hdr.ofBytes b).ring16 b).cmd p, le32At b (16 + 20 * p))

/-- The terminal that a whole frame has passed, its status filled in and the frame sent on, before the frame is judged. -/
def Term.passed (t : Term) (b : List Nat) (m : SensorIn) : Term :=
  let z := (t.observe m).decided (frameSlot b) b
  match frameSlot b with
  | none => (z.send b none {} (crcGood b)).countCrc (crcGood b)
  | some p =>
    let x := z.sample (Hdr.ofBytes b).cycleNo
    let y := (x.send b (some p) (x.status m (Hdr.ofBytes b).cycleNo) (crcGood b)).countCrc (crcGood b)
    { y with cdr := { y.cdr with pos := p, posDir := (Hdr.ofBytes b).dir } }

/-- A whole frame passes, and is judged at its end. -/
theorem Term.process_eq (t : Term) (b : List Nat) (m : SensorIn) :
    t.process b m =
      { (t.passed b m).judgeFrame (Hdr.ofBytes b) ((frameSlot b).map (commandAt b)) (crcGood b) with hdrFor := none } := by
  unfold Term.process Term.passed frameSlot
  dsimp only
  cases derivePos (Frame.ofBytes (Hdr.ofBytes b).ring16 b) ((b.length - 20) / 20) <;> rfl

section
variable (t : Term) (b : List Nat) (m : SensorIn)

/-- A frame that passes leaves the terminal's hold of its cell as the sensors left it. -/
theorem Term.holdsAs_passed : (t.passed b m).HoldsAs (t.observe m) := by
  have hz := (t.observe m).holdsAs_decided (frameSlot b) b
  unfold Term.passed
  dsimp only
  split
  · exact (Term.holdsAs_countCrc _ _).trans (Term.HoldsAs.trans rfl hz)
  · exact Term.HoldsAs.trans rfl ((Term.holdsAs_countCrc _ _).trans (Term.HoldsAs.trans rfl hz))

/-- The count of bad CRCs once a frame has passed (R54). -/
theorem Term.passed_crcErr : (t.passed b m).cdr.crcErr =
    if crcGood b then (t.observe m).cdr.crcErr else ((t.observe m).cdr.crcErr + 1) % 65536 := by
  have hcdr : ((t.observe m).decided (frameSlot b) b).cdr = (t.observe m).cdr :=
    (congrArg Term.cdr ((t.observe m).decided_eq (frameSlot b) b) :)
  rw [← hcdr]
  unfold Term.passed
  dsimp only
  split <;> rw [Term.countCrc_eq] <;> rfl

/-- The management write kept for the frame's end is the one its header was answered with (R52). -/
theorem Term.passed_hdrWrite : (t.passed b m).hdrWrite = ((t.observe m).decided (frameSlot b) b).hdrWrite := by
  unfold Term.passed
  dsimp only
  split <;> rw [Term.countCrc_eq] <;> rfl

/-- The position a frame gives the terminal (R40). -/
theorem Term.passed_pos {p : Nat} (hp : frameSlot b = some p) :
    (t.passed b m).cdr.pos = p ∧ (t.passed b m).cdr.posDir = (Hdr.ofBytes b).dir := by
  unfold Term.passed
  rw [hp]
  exact ⟨rfl, rfl⟩

end

/-! ### A frame's end (R44 to R47) -/

/-- A commanding frame's command applied under its epoch. -/
def Term.takeCmd (t : Term) (h : Hdr) (c : Cmd) (raw : Nat) : Term :=
  { (t.takeEpoch h).applyFrame h c with appliedCmd := raw }

/-- A frame judged applies its command, or leaves the switches alone. -/
theorem Term.judgeFrame_applies_or_on (t : Term) (h : Hdr) (c : Option (Cmd × Nat)) (crcOk : Bool) :
    (∃ k raw, t.judgeFrame h c crcOk = (t.forgetTag h).takeCmd h k raw) ∨ (t.judgeFrame h c crcOk).on = t.on := by
  obtain ⟨-, hforget, -⟩ := (t.holdsAs_forgetTag h).sameDrive
  unfold Term.judgeFrame
  dsimp only
  split
  · exact .inr rfl
  split
  · exact .inr hforget
  split
  · exact .inr hforget
  split
  · exact .inr hforget
  next k raw =>
    split
    · exact .inr hforget
    · exact .inl ⟨k, raw, rfl⟩

/-- A frame judged turns switches off, or leaves them to the interlock. -/
theorem Term.turnsNoneOn_judgeFrame (t : Term) (h : Hdr) (c : Option (Cmd × Nat)) (crcOk : Bool) :
    t.TurnsNoneOn (t.judgeFrame h c crcOk) := by
  obtain ⟨-, hforget, -⟩ := (t.holdsAs_forgetTag h).sameDrive
  obtain ⟨k, raw, hy⟩ | hon := t.judgeFrame_applies_or_on h c crcOk
  · rw [hy]
    exact Term.TurnsNoneOn.trans (.of_on hforget) (((t.forgetTag h).takeEpoch h).turnsNoneOn_applyFrame h k)
  · exact .of_on hon

/-- A whole frame turns no switch on. -/
theorem Term.turnsNoneOn_process (t : Term) (b : List Nat) (m : SensorIn) : t.TurnsNoneOn (t.process b m) := by
  obtain ⟨-, hpassed, -⟩ := (t.holdsAs_passed b m).sameDrive
  rw [Term.process_eq]
  exact ((t.turnsNoneOn_observe m).trans (.of_on hpassed)).trans ((t.passed b m).turnsNoneOn_judgeFrame _ _ _)

/-- Nor does one that breaks off (R42). -/
theorem Term.turnsNoneOn_breakOff (t : Term) (blocks : List Block66) : t.TurnsNoneOn (t.breakOff blocks) := .of_on rfl

/-- A frame's end turns no switch on, and a frame repeated leaves them (R58). -/
theorem Term.turnsNoneOn_frameEnd (t : Term) (blocks : List Block66) (m : SensorIn) : t.TurnsNoneOn (t.frameEnd blocks m) := by
  unfold Term.frameEnd
  split
  · exact .refl t
  · exact t.turnsNoneOn_breakOff blocks
  next b _ =>
    obtain ⟨-, hcount, -⟩ := (t.holdsAs_countCrc (crcGood b)).sameDrive
    exact .ite (.of_on hcount) (t.turnsNoneOn_process b m)

/-- Nor does a header that passes (R52). -/
theorem Term.turnsNoneOn_headerPasses (t : Term) (pos : Option Nat) (hd : BitVec 128) (m : SensorIn) :
    t.TurnsNoneOn (t.headerPasses pos hd m) :=
  (t.turnsNoneOn_observe m).trans (.of_on (congrArg Term.on ((t.observe m).header_eq pos (Hdr.ofBytes (leBytes 16 hd.toNat))) :))

end Sys2Proof.Machine

/-!
No step turns both switches of a leg on (R49, R98, R99): of a terminal's operations, the interlock's turn-on alone adds a switch.
-/
namespace Sys2Proof.Machine

section
variable (t : Term)

/-- The end of a self-test leaves the switches. -/
theorem Term.turnsNoneOn_testDone (pass : Nat) : t.TurnsNoneOn (t.testDone pass) := by
  unfold Term.testDone
  exact .ite (.of_on rfl) (.refl t)

/-- The watchdog blocks the cell (R48). -/
theorem Term.turnsNoneOn_watchdog (since : Nat) : t.TurnsNoneOn (t.watchdog since) := by
  unfold Term.watchdog
  exact .ite (.trans (t.turnsNoneOn_latchFault 6 false) (.of_on rfl)) (.refl t)

/-- An interlock time-out blocks the cell (R49). -/
theorem Term.turnsNoneOn_interlockTimeout (k : Nat) (leg : LegIn) : t.TurnsNoneOn (t.interlockTimeout k leg) := by
  unfold Term.interlockTimeout
  exact .ite (t.turnsNoneOn_latchFault 5 false) (.refl t)

/-- A comparator blocks or bypasses the cell (R50). -/
theorem Term.turnsNoneOn_trip (b : Nat) (m : SensorIn) : t.TurnsNoneOn (t.trip b m) := by
  unfold Term.trip
  exact .ite ((t.showRaw m).turnsNoneOn_react b) (.of_on rfl)

/-- A port's lock leaves the switches (R43). -/
theorem Term.turnsNoneOn_setLock (up on : Bool) : t.TurnsNoneOn (t.setLock up on) := by
  unfold Term.setLock
  exact .ite (.of_on rfl) (.of_on rfl)

/-- So does the start of wrapping (R57). -/
theorem Term.turnsNoneOn_wrapStart (up : Bool) : t.TurnsNoneOn (t.wrapStart up) := by
  unfold Term.wrapStart
  exact .ite (.of_on rfl) (.refl t)

/-- So does its end (R57). -/
theorem Term.turnsNoneOn_wrapStop (up : Bool) : t.TurnsNoneOn (t.wrapStop up) := by
  unfold Term.wrapStop
  exact .ite (.of_on rfl) (.refl t)

end

/-- The interlock turns a switch on only while its complement is off (R49, R99). -/
theorem Term.legOk_turnOn {t : Term} (ht : t.legOk = true) (k : Fin 4) (leg : LegIn) : (t.turnOn k leg).legOk = true := by
  unfold Term.turnOn
  split
  next hmet =>
    simp only [Bool.and_eq_true, Bool.not_eq_true'] at hmet
    obtain ⟨⟨⟨⟨-, hoff⟩, -⟩, -⟩, -⟩ := hmet
    obtain ⟨hleft, hright⟩ := t.legOk_iff.mp ht
    rw [Term.legOk_iff]
    match k with
    | 0 => exact ⟨fun _ => (nth_setNth_ne _ _ (by decide) _).trans hoff, by simpa [nth_setNth_ne] using hright⟩
    | 1 => exact ⟨by simp [nth_setNth_ne, show nth false t.on 0 = false from hoff], by simpa [nth_setNth_ne] using hright⟩
    | 2 => exact ⟨by simpa [nth_setNth_ne] using hleft, fun _ => (nth_setNth_ne _ _ (by decide) _).trans hoff⟩
    | 3 => exact ⟨by simpa [nth_setNth_ne] using hleft, by simp [nth_setNth_ne, show nth false t.on 2 = false from hoff]⟩
  next => exact ht

/-- Every command of a terminal keeps its legs apart. -/
theorem TermOp.legOk {i : Instr} {c : Nat} {f : Term → Term} (h : TermOp i c f) {t : Term} (ht : t.legOk = true) :
    (f t).legOk = true := by
  cases h with
  | reset => rfl
  | frameEnd _ blocks m => exact (t.turnsNoneOn_frameEnd blocks m).legOk ht
  | header _ pos hd m => exact (t.turnsNoneOn_headerPasses _ hd m).legOk ht
  | testDone _ pass => exact (t.turnsNoneOn_testDone pass.toNat).legOk ht
  | frameBreak _ blocks => exact (t.turnsNoneOn_breakOff blocks).legOk ht
  | watchdog _ since => exact (t.turnsNoneOn_watchdog since.toNat).legOk ht
  | turnOn _ k leg => exact Term.legOk_turnOn ht k leg
  | interlock _ k leg => exact (t.turnsNoneOn_interlockTimeout k leg).legOk ht
  | trip _ b m => exact (t.turnsNoneOn_trip b m).legOk ht
  | lockLost _ up => exact (t.turnsNoneOn_setLock up false).legOk ht
  | lockRegained _ up => exact (t.turnsNoneOn_setLock up true).legOk ht
  | wrapStart _ up => exact (t.turnsNoneOn_wrapStart up).legOk ht
  | wrapStop _ up => exact (t.turnsNoneOn_wrapStop up).legOk ht

/-- Settles O26: a step leaves the terminals, or runs one operation of one terminal. -/
theorem stepKeepsLegs : Obligations.StepKeepsLegs := by
  intro s t hs h c
  obtain ⟨-, rfl⟩ | ⟨i, rest, -, he⟩ := step_cases h
  · rw [State.term, (keeps_idleEdge s).terms]
    exact hs c
  · have ha := exec_answer i { s with pending := rest }
    rw [he] at ha
    cases ha with
    | kept hkeep =>
      rw [State.term, hkeep.terms]
      exact hs c
    | @term n _ hop =>
      rw [State.term_updTerm]
      split
      · exact hop.legOk (hs n)
      · exact hs c

end Sys2Proof.Machine

/-!
SUPPORT. What a frame's end, a header, a fault and a switch's turn-on make of a terminal, case by case (R44 to R53, R98, R99).
-/
namespace Sys2Proof.Machine

/-! ### The judgement of a frame (R44 to R46) -/

section
variable {t : Term} {h : Hdr}

/-- A frame with a wrong CRC is dropped. -/
theorem Term.judgeFrame_badCrc (c : Option (Cmd × Nat)) : t.judgeFrame h c false = { t with hdrWrite := none } := if_pos rfl

variable (htype : h.typeOk = true) (hbound : t.bound h = true) (hholder : h.holder = true)
include htype hbound hholder

/-- Nothing drops it before its epoch is looked at. -/
theorem Term.judgeFrame_valid : (!true || !h.typeOk || !(t.bound h)) = false ∧ (!h.holder) = false := by
  simp [htype, hbound, hholder]

/-- A frame of an older epoch is a stale one. -/
theorem Term.judgeFrame_stale (hold : t.olderEpoch h = true) (c : Option (Cmd × Nat)) :
    t.judgeFrame h c true =
      { t.forgetTag h with hdrWrite := none, evStale := { (t.forgetTag h).evStale with pend := true } } := by
  obtain ⟨hvalid, hheld⟩ := Term.judgeFrame_valid htype hbound hholder
  have hold' := ((t.holdsAs_forgetTag h).olderEpoch h).trans hold
  rw [Term.judgeFrame, if_neg (ne_true_of_eq_false hvalid), if_neg (ne_true_of_eq_false hheld), if_pos hold']

variable (hepoch : t.olderEpoch h = false)
include hepoch

/-- A CYCLE_NO already applied is a duplicate. -/
theorem Term.judgeFrame_duplicate (honce : t.appliedOnce = true) (hcycle : h.cycleNo = t.cdr.lastCycle) (k : Cmd) (raw : Nat) :
    t.judgeFrame h (some (k, raw)) true =
      { (t.forgetTag h).takeEpoch h with
        hdrWrite := none
        evDup := if raw = t.appliedCmd then (t.forgetTag h).evDup else { (t.forgetTag h).evDup with pend := true } } := by
  obtain ⟨hvalid, hheld⟩ := Term.judgeFrame_valid htype hbound hholder
  have hsame := t.holdsAs_forgetTag h
  have hepoch' := (hsame.olderEpoch h).trans hepoch
  have hdup : ((t.forgetTag h).appliedOnce && h.cycleNo == (t.forgetTag h).cdr.lastCycle) = true := by
    rw [hsame.appliedOnce, hsame.lastCycle, honce, hcycle, beq_self_eq_true, Bool.true_and]
  rw [← hsame.appliedCmd, Term.judgeFrame, if_neg (ne_true_of_eq_false hvalid), if_neg (ne_true_of_eq_false hheld),
    if_neg (ne_true_of_eq_false hepoch')]
  exact if_pos hdup

/-- Any other is applied. -/
theorem Term.judgeFrame_new (hnew : t.appliedOnce = false ∨ h.cycleNo ≠ t.cdr.lastCycle) (k : Cmd) (raw : Nat) :
    t.judgeFrame h (some (k, raw)) true = (t.forgetTag h).takeCmd h k raw := by
  obtain ⟨hvalid, hheld⟩ := Term.judgeFrame_valid htype hbound hholder
  have hsame := t.holdsAs_forgetTag h
  have hepoch' := (hsame.olderEpoch h).trans hepoch
  have hdup : ((t.forgetTag h).appliedOnce && h.cycleNo == (t.forgetTag h).cdr.lastCycle) = false := by
    rw [hsame.appliedOnce, hsame.lastCycle, Bool.and_eq_false_iff, beq_eq_false_iff_ne]
    exact hnew
  rw [Term.judgeFrame, if_neg (ne_true_of_eq_false hvalid), if_neg (ne_true_of_eq_false hheld),
    if_neg (ne_true_of_eq_false hepoch')]
  exact if_neg (ne_true_of_eq_false hdup)

end

/-! ### A command applied (R47, R99) -/

/-- A state other than HOLD at the switches. -/
theorem Term.apply_eq {st : Nat} (hst : st ≠ 4) (t : Term) :
    t.apply st = { t with
      state := st
      on := zipBool (· && ·) t.on (switchesOf t.cdr.fullBridge st)
      wait := zipBool (fun o u => u && !o) t.on (switchesOf t.cdr.fullBridge st) } := if_neg hst

/-- A legal command without a fault or a self-test. -/
theorem Term.applyCmd_legal {t : Term} {c : Cmd} (hlatched : t.latched = false) (hrunning : t.cdr.running = false)
    (hstate : c.state < 4) (hbridge : c.state = 3 → t.cdr.fullBridge = true) :
    t.applyCmd c = Term.apply { t with iref := c.iref, dcdcOn := c.dcdcEn, ovReact := false } c.state := by
  have hlegal : (decide (5 ≤ c.state) || (c.state == 3 && !t.cdr.fullBridge)) = false := by
    simpa using ⟨by omega, hbridge⟩
  simp [Term.applyCmd, hlegal, hlatched, hrunning]

/-- A frame with a legal command and no management write. -/
theorem Term.applyFrame_legal {t : Term} {h : Hdr} {c : Cmd} (hwrite : t.hdrWrite = none) (hlatched : t.latched = false)
    (hrunning : t.cdr.running = false) (hstate : c.state < 4) (hbridge : c.state = 3 → t.cdr.fullBridge = true) :
    t.applyFrame h c = { t with
      wdog := false, cycleLen := h.cycleLen, iref := c.iref, dcdcOn := c.dcdcEn, ovReact := false, state := c.state
      on := zipBool (· && ·) t.on (switchesOf t.cdr.fullBridge c.state)
      wait := zipBool (fun o u => u && !o) t.on (switchesOf t.cdr.fullBridge c.state)
      prevCycle := if t.appliedOnce then some t.cdr.lastCycle else none
      appliedOnce := true, hdrWrite := none, cdr := { t.cdr with lastCycle := h.cycleNo } } := by
  unfold Term.applyFrame
  extract_lets fresh written driven cdr
  have hwritten : written = fresh := by
    unfold written
    rw [show fresh.hdrWrite = none from hwrite]
  have hdriven : driven = Term.apply { fresh with iref := c.iref, dcdcOn := c.dcdcEn, ovReact := false } c.state := by
    unfold driven
    rw [hwritten]
    exact Term.applyCmd_legal hlatched hrunning hstate hbridge
  rw [show cdr = driven.cdr from rfl, hdriven, Term.apply_eq (by omega)]

/-- The command taken under the frame's epoch: the slot's STATE, IREF and DCDC_EN, epoch and cycle, and the watchdog's restart. -/
theorem Term.takeCmd_legal {x z : Term} {h : Hdr} {c : Cmd} (hx : x.HoldsAs z) (hwrite : x.hdrWrite = none)
    (hlatched : z.latched = false) (hrunning : z.cdr.running = false) (hstate : c.state < 4)
    (hbridge : c.state = 3 → z.cdr.fullBridge = true) (raw : Nat) :
    x.takeCmd h c raw = { x with
      epochUnset := false, wdog := false, cycleLen := h.cycleLen, iref := c.iref, dcdcOn := c.dcdcEn, ovReact := false
      state := c.state
      on := zipBool (· && ·) z.on (switchesOf z.cdr.fullBridge c.state)
      wait := zipBool (fun o u => u && !o) z.on (switchesOf z.cdr.fullBridge c.state)
      prevCycle := if x.appliedOnce then some x.cdr.lastCycle else none
      appliedOnce := true, hdrWrite := none, appliedCmd := raw
      cdr := { x.cdr with epoch := h.epoch, lastCycle := h.cycleNo } } := by
  obtain ⟨-, hon, -⟩ := hx.sameDrive
  rw [← hx.latched] at hlatched
  rw [← hx.running] at hrunning
  rw [← hx.fullBridge] at hbridge
  rw [← hon, ← hx.fullBridge, Term.takeCmd, Term.applyFrame_legal (t := x.takeEpoch h) hwrite hlatched hrunning hstate hbridge]
  rfl

/-! ### The header that passes (R52, R53) -/

section
variable (t : Term) {pos : Option Nat} {h : Hdr}

/-- A header without a request for this position. -/
theorem Term.header_unasked
    (hn : h.version ≠ 1 ∨ h.ftype ≠ 1 ∨ h.wrapped = true ∨ h.mReq = false ∨ pos ≠ some h.mPos) :
    t.header pos h = { t with hdrWrite := none, hdrOut := none } := by
  refine if_pos ?_
  simp only [Hdr.typeOk, Bool.or_eq_true, Bool.not_eq_true', Bool.and_eq_false_iff, beq_eq_false_iff_ne, bne_iff_ne]
  tauto

/-- The answer to a read of the CDR (R52, R53). -/
def Term.readAnswer (a : Nat) : Option MgmtOut :=
  match t.cdrRead a with
  | some v => some ⟨OK, some v⟩
  | none => some ⟨E_VALUE, some 0⟩

variable (hversion : h.version = 1) (hftype : h.ftype = 1) (hwrapped : h.wrapped = false) (hreq : h.mReq = true)
  (hpos : pos = some h.mPos)
include hversion hftype hwrapped hreq hpos

/-- The header asks this terminal. -/
theorem Hdr.asks : (!h.typeOk || h.wrapped || !h.mReq || pos != some h.mPos) = false := by
  simp [Hdr.typeOk, hversion, hftype, hwrapped, hreq, hpos]

/-- A read is answered with the CDR word. -/
theorem Term.header_read (hread : h.mWrite = false) :
    t.header pos h = { t with hdrWrite := none, hdrOut := t.readAnswer h.mAddr } := by
  have hanswer : Term.cdrRead { t with hdrWrite := none, hdrOut := none } h.mAddr = t.cdrRead h.mAddr := rfl
  rw [Term.header, if_neg (ne_true_of_eq_false (Hdr.asks hversion hftype hwrapped hreq hpos)),
    if_neg (ne_true_of_eq_false hread), hanswer, Term.readAnswer]
  cases t.cdrRead h.mAddr <;> rfl

/-- A write is answered with its code, and kept for the frame's end where that is OK. -/
theorem Term.header_write (hwrite : h.mWrite = true) :
    t.header pos h = { t with
      hdrOut := some ⟨t.judgeWrite h, none⟩
      hdrWrite := if t.judgeWrite h = OK then some ⟨h.mAddr, h.mData, h.mTag⟩ else none } := by
  rw [Term.header, if_neg (ne_true_of_eq_false (Hdr.asks hversion hftype hwrapped hreq hpos)), if_pos hwrite]
  rfl

end

/-! ### A whole frame, from its sensors to its end (R40 to R47) -/

section
variable {t : Term} {b : List Nat} {m : SensorIn}

/-- A frame with a wrong CRC is counted, and the terminal holds its cell. -/
theorem Term.process_badCrc (hcrc : crcGood b = false) :
    (t.process b m).HoldsAs (t.observe m) ∧ (t.process b m).cdr.crcErr = ((t.observe m).cdr.crcErr + 1) % 65536 := by
  have hcount := t.passed_crcErr b m
  rw [Term.process_eq, hcrc, Term.judgeFrame_badCrc]
  rw [hcrc] at hcount
  exact ⟨Term.HoldsAs.trans rfl (t.holdsAs_passed b m), hcount⟩

variable (hcrc : crcGood b = true) (htype : (Hdr.ofBytes b).typeOk = true)
  (hbound : (t.observe m).bound (Hdr.ofBytes b) = true) (hholder : (Hdr.ofBytes b).holder = true)
include hcrc htype hbound hholder

/-- A stale frame is noted, and the terminal holds its cell and its epoch. -/
theorem Term.process_stale (hold : (t.observe m).olderEpoch (Hdr.ofBytes b) = true) :
    (t.process b m).HoldsAs (t.observe m) ∧ (t.process b m).evStale.pend = true := by
  have hpassed := t.holdsAs_passed b m
  rw [Term.process_eq, hcrc, Term.judgeFrame_stale htype ((hpassed.bound _).trans hbound) hholder ((hpassed.olderEpoch _).trans hold)]
  exact ⟨Term.HoldsAs.trans rfl ((Term.holdsAs_forgetTag _ _).trans hpassed), rfl⟩

variable (hepoch : (t.observe m).olderEpoch (Hdr.ofBytes b) = false) {p : Nat} (hp : frameSlot b = some p)
include hepoch hp

/-- A duplicate is noted where its command differs, and the terminal holds its cell. -/
theorem Term.process_duplicate (honce : (t.observe m).appliedOnce = true)
    (hcycle : (Hdr.ofBytes b).cycleNo = (t.observe m).cdr.lastCycle) :
    (t.process b m).HoldsAs ((t.observe m).takeEpoch (Hdr.ofBytes b)) ∧
      (le32At b (16 + 20 * p) ≠ (t.observe m).appliedCmd → (t.process b m).evDup.pend = true) := by
  have hpassed := t.holdsAs_passed b m
  rw [Term.process_eq, hcrc, hp, Option.map_some, commandAt, Term.judgeFrame_duplicate htype ((hpassed.bound _).trans hbound) hholder
    ((hpassed.olderEpoch _).trans hepoch) (hpassed.appliedOnce.trans honce) (hcycle.trans hpassed.lastCycle.symm)]
  refine ⟨Term.HoldsAs.trans (x := ((t.passed b m).forgetTag (Hdr.ofBytes b)).takeEpoch (Hdr.ofBytes b)) rfl
    (((Term.holdsAs_forgetTag _ _).trans hpassed).takeEpoch _), fun hraw => ?_⟩
  rw [← hpassed.appliedCmd] at hraw
  exact congrArg EvFlag.pend (if_neg hraw)

/-- A new command is applied. -/
theorem Term.process_new
    (hnew : (t.observe m).appliedOnce = false ∨ (Hdr.ofBytes b).cycleNo ≠ (t.observe m).cdr.lastCycle) :
    t.process b m = { ((t.passed b m).forgetTag (Hdr.ofBytes b)).takeCmd (Hdr.ofBytes b)
      (commandAt b p).1 (commandAt b p).2 with hdrFor := none } := by
  have hpassed := t.holdsAs_passed b m
  rw [Term.process_eq, hcrc, hp, Option.map_some, Term.judgeFrame_new htype ((hpassed.bound _).trans hbound) hholder
    ((hpassed.olderEpoch _).trans hepoch) (by rwa [hpassed.appliedOnce, hpassed.lastCycle])]

/-- Without a request in its header and a decision made before, a new legal command gives the terminal the slot's state. -/
theorem Term.process_legal
    (hnew : (t.observe m).appliedOnce = false ∨ (Hdr.ofBytes b).cycleNo ≠ (t.observe m).cdr.lastCycle)
    (hreq : (Hdr.ofBytes b).mReq = false) (hfor : (t.observe m).hdrFor = none) (hlatched : (t.observe m).latched = false)
    (hrunning : (t.observe m).cdr.running = false) (hstate : (commandAt b p).1.state < 4)
    (hbridge : (commandAt b p).1.state = 3 → (t.observe m).cdr.fullBridge = true) :
    let y := t.process b m
    let z := t.observe m
    let k := (commandAt b p).1
    let use := switchesOf z.cdr.fullBridge k.state
    y.state = k.state ∧ y.iref = k.iref ∧ y.dcdcOn = k.dcdcEn ∧ y.on = zipBool (· && ·) z.on use ∧
      y.wait = zipBool (fun o u => u && !o) z.on use ∧ y.wdog = false ∧ y.cycleLen = (Hdr.ofBytes b).cycleLen ∧
      y.appliedOnce = true ∧ y.cdr.lastCycle = (Hdr.ofBytes b).cycleNo ∧ y.cdr.epoch = (Hdr.ofBytes b).epoch ∧
      y.cdr.pos = p ∧ y.cdr.posDir = (Hdr.ofBytes b).dir := by
  intro y z k use
  have hdecided : (t.passed b m).hdrWrite = none := by
    rw [Term.passed_hdrWrite, Term.decided, if_neg (by rw [hfor]; exact fun h => nomatch h),
      Term.header_unasked _ (.inr (.inr (.inr (.inl hreq))))]
  have hforget := (t.passed b m).forgetTag_eq (Hdr.ofBytes b)
  have hwrite : ((t.passed b m).forgetTag (Hdr.ofBytes b)).hdrWrite = none := by rw [hforget]; exact hdecided
  have hcdr : ((t.passed b m).forgetTag (Hdr.ofBytes b)).cdr = (t.passed b m).cdr := by rw [hforget]
  obtain ⟨hpos, hdir⟩ := t.passed_pos b m hp
  have hy : y = { ((t.passed b m).forgetTag (Hdr.ofBytes b)).takeCmd (Hdr.ofBytes b) k (commandAt b p).2 with hdrFor := none } :=
    Term.process_new hcrc htype hbound hholder hepoch hp hnew
  rw [hy, Term.takeCmd_legal ((Term.holdsAs_forgetTag _ _).trans (t.holdsAs_passed b m)) hwrite hlatched hrunning hstate hbridge]
  exact ⟨rfl, rfl, rfl, rfl, rfl, rfl, rfl, rfl, rfl, rfl, (congrArg Cdr.pos hcdr).trans hpos,
    (congrArg Cdr.posDir hcdr).trans hdir⟩

end

/-! ### Faults (R48 to R50) -/

/-- A fault whose reaction is BLOCK blocks the cell, and its bit is latched. -/
theorem Term.latchFault_blocks (t : Term) (b : Nat) :
    (t.latchFault b false).blocked ∧ (t.latchFault b false).cdr = { t.cdr with fault := t.cdr.fault ||| 2 ^ b } :=
  ⟨⟨rfl, rfl, fun k => ⟨(nth_zipBool_and _ _ k).trans (by rw [nth_switchesOf_block, Bool.and_false]),
    nth_zipBool_false (fun _ => rfl) _ _ (nth_switchesOf_block _ k)⟩⟩, rfl⟩

/-- Without a latched fault no FAULT bit is set (R38). -/
theorem Term.fault_of_not_latched {t : Term} (h : t.latched = false) {b : Nat} (hb : b < 8) : bit t.cdr.fault b = false := by
  have hzero : t.cdr.fault % 2 ^ 8 = 0 := by simpa [Term.latched] using h
  have hbit := Nat.testBit_mod_two_pow t.cdr.fault 8 b
  rw [hzero, Nat.zero_testBit, decide_eq_true hb, Bool.true_and] at hbit
  exact hbit.symm

end Sys2Proof.Machine

/-!
A terminal's events (R42 to R58, R98, R99): each command makes its terminal into one operation's result.
-/
namespace Sys2Proof.Machine

/-- A command of a terminal runs its operation there. -/
theorem TermOp.exec_eq {i : Instr} {c : Nat} {f : Term → Term} (h : TermOp i c f) (s : State) : exec i s = .next (s.updTerm c f) := by
  cases h <;> rfl

/-- What holds of the operation's result holds of the terminal, and nothing else changes. -/
theorem TermOp.termIs {i : Instr} {c : Nat} {f : Term → Term} (h : TermOp i c f) {s : State} {P : Term → Prop} (hp : P (f (s.term c))) :
    TermIs i s c P := by
  refine ⟨_, h.exec_eq s, ?_, fun d hd => ?_, rfl⟩
  · rw [State.term_updTerm, if_pos rfl]
    exact hp
  · rw [State.term_updTerm, if_neg hd]

section
variable {t : Term} {blocks : List Block66} {m : SensorIn}

/-- A frame that breaks off (R42). -/
theorem Term.frameEnd_broken (h : arrivalOf blocks = .broken) : t.frameEnd blocks m = t.breakOff blocks := by
  rw [Term.frameEnd, h]

/-- A whole frame that came back wrapped (R58). -/
theorem Term.frameEnd_wrapped {b : List Nat} (h : arrivalOf blocks = .whole b) (hw : (Hdr.ofBytes b).wrapped = true) :
    t.frameEnd blocks m = t.repeatFrame b := by
  rw [Term.frameEnd, h]
  exact if_pos hw

/-- Any other whole frame. -/
theorem Term.frameEnd_whole {b : List Nat} (h : arrivalOf blocks = .whole b) (hw : (Hdr.ofBytes b).wrapped = false) :
    t.frameEnd blocks m = t.process b m := by
  rw [Term.frameEnd, h]
  exact if_neg (ne_true_of_eq_false hw)

/-- A frame that breaks off is sent on as far as it came, and then an error block (R42). -/
theorem Term.breakOff_eq :
    t.breakOff blocks = { t with
      hdrWrite := none, hdrOut := none, hdrFor := none
      out := (t.breakOff blocks).out, back := (t.breakOff blocks).back } ∧ errorBlock ∈ (t.breakOff blocks).out :=
  ⟨rfl, List.mem_append_right _ (List.mem_cons_self ..)⟩

/-- A wrapped frame repeated: its CRC is counted. -/
theorem Term.repeatFrame_eq (b : List Nat) :
    t.repeatFrame b = { t with
      out := frameBlocks b, back := if t.wrapping then frameBlocks b else [], hdrFor := none
      cdr := { t.cdr with crcErr := if crcGood b then t.cdr.crcErr else (t.cdr.crcErr + 1) % 65536 } } := by
  rw [Term.repeatFrame, t.countCrc_eq]

end

section
variable {t : Term}

/-- The watchdog 2.75 cycles after the last apply (R48). -/
theorem Term.watchdog_expired {since : Nat} (honce : t.appliedOnce = true) (hlate : 44 * t.cycleLen ≤ since) :
    t.watchdog since = { t.latchFault 6 false with wdog := true } :=
  if_pos (by rw [honce, Bool.true_and, decide_eq_true hlate])

/-- The watchdog before that, and before the first apply. -/
theorem Term.watchdog_pending {since : Nat} (h : t.appliedOnce = false ∨ since < 44 * t.cycleLen) : t.watchdog since = t :=
  if_neg (by
    rw [Bool.and_eq_true, decide_eq_true_eq]
    rintro ⟨honce, hlate⟩
    exact h.elim (ne_false_of_eq_true honce) (Nat.not_lt.mpr hlate))

variable {k : Nat} {leg : LegIn}

/-- A waiting switch whose interlock condition is met in time, its complement off, turns on (R49, R99). -/
theorem Term.turnOn_met (hwait : nth false t.wait k = true) (hoff : nth false t.on (complement k) = false)
    (htest : t.cdr.running = false) (hmet : t.intlkMet leg = true) (htime : leg.waited ≤ t.cdr.intlkTo) :
    t.turnOn k leg = { t with on := setNth t.on k true, wait := setNth t.wait k false } :=
  if_pos (by simp [hwait, hoff, htest, hmet, htime])

/-- No other switch does. -/
theorem Term.turnOn_unmet (h : nth false t.wait k = false ∨ nth false t.on (complement k) = true ∨ t.cdr.running = true ∨
    t.intlkMet leg = false) : t.turnOn k leg = t := by
  refine if_neg ?_
  obtain h | h | h | h := h <;> simp [h]

/-- An interlock condition that INTLK_TO has not seen met (R49). -/
theorem Term.interlockTimeout_unmet (hwait : nth false t.wait k = true) (hmet : t.intlkMet leg = false)
    (htime : t.cdr.intlkTo ≤ leg.waited) : t.interlockTimeout k leg = t.latchFault 5 false :=
  if_pos (by simp [hwait, hmet, htime])

variable {b : Nat} {m : SensorIn}

/-- A comparator whose output is absent (R54). -/
theorem Term.trip_absent (hraw : bit (t.rawOf m) b = false) : t.trip b m = t.showRaw m := if_neg (ne_true_of_eq_false hraw)

/-- A comparator whose output is at its onset and not under test latches its fault (R50). -/
theorem Term.trip_onset (hraw : bit (t.rawOf m) b = true) (hfault : bit t.cdr.fault b = false) (htest : t.underTest b = false) :
    t.trip b m = (t.showRaw m).latchFault b (b == 3 && !t.cdr.ovAction) := by
  have honset : (bit (t.showRaw m).cdr.fault b || (t.showRaw m).underTest b) = false :=
    Bool.or_eq_false_iff.mpr ⟨hfault, htest⟩
  rw [Term.trip, if_pos hraw, Term.react, if_neg (ne_true_of_eq_false honset)]
  rfl

/-- Every comparator but OV blocks the cell, and so does OV under OV_ACTION = 1. -/
theorem Term.trip_blocks (hraw : bit (t.rawOf m) b = true) (hfault : bit t.cdr.fault b = false) (htest : t.underTest b = false)
    (hblock : b ≠ 3 ∨ t.cdr.ovAction = true) :
    (t.trip b m).blocked ∧ (t.trip b m).cdr = { t.cdr with fault := t.cdr.fault ||| 2 ^ b, faultRaw := t.rawOf m } := by
  have hreact : (b == 3 && !t.cdr.ovAction) = false := by
    rw [Bool.and_eq_false_iff, beq_eq_false_iff_ne, Bool.not_eq_false']
    exact hblock
  rw [Term.trip_onset hraw hfault htest, hreact]
  exact (t.showRaw m).latchFault_blocks b

/-- OV as the first fault bypasses the cell under OV_ACTION = 0. -/
theorem Term.trip_bypasses (hraw : bit (t.rawOf m) 3 = true) (htest : t.underTest 3 = false) (haction : t.cdr.ovAction = false)
    (hlatched : t.latched = false) :
    t.trip 3 m = { t.apply 1 with
      dcdcOn := false, ovReact := true, cdr := { t.cdr with fault := t.cdr.fault ||| 2 ^ 3, faultRaw := t.rawOf m } } := by
  have hfirst : (true && (!(t.showRaw m).latched || (t.showRaw m).ovReact)) = true := by
    rw [show (t.showRaw m).latched = false from hlatched]
    rfl
  rw [Term.trip_onset hraw (Term.fault_of_not_latched hlatched (by decide)) htest, haction]
  exact if_pos hfirst

/-- Wrapping starts at a wired port without lock (R57). -/
theorem Term.wrapStart_of_lost {up : Bool} (hwired : t.wiredOf up = true) (hlost : t.lockOf up = false) :
    t.wrapStart up = { t with wrapping := true } := if_pos (by rw [hwired, hlost]; rfl)

/-- Wrapping stops at a port with lock where the other port is not wired, or has lock (R57). -/
theorem Term.wrapStop_of_locked {up : Bool} (hlock : t.lockOf up = true) (hother : t.wiredOf (!up) = false ∨ t.lockOf (!up) = true) :
    t.wrapStop up = { t with wrapping := false } := by
  refine if_pos ?_
  obtain hother | hother := hother <;> simp [hlock, hother]

end

/-- Settles O37, command by command: a whole frame by what its end finds, then the header, the faults, the switches and the locks. -/
theorem terminalEvents : Obligations.TerminalEvents := by
  intro s c blocks header sensors pos pass k k3 leg since up ver fb hs dc
  refine ⟨(TermOp.reset ..).termIs rfl, fun ha => ?broken, fun b ha => ⟨fun hw => ?wrapped, fun hw hcrc => ?badCrc,
    fun hcrc hversion hftype hw hbound hholder => ?commanding⟩,
    ⟨fun hn => ?unasked, fun hversion hftype hw hreq hpos => ⟨fun hread => ?read, fun hwrite => ?write⟩⟩,
    fun hrunning => (TermOp.testDone ..).termIs (if_pos hrunning), (TermOp.frameBreak ..).termIs Term.breakOff_eq,
    fun honce hlate => ?watchdog, fun h => (TermOp.watchdog ..).termIs (Term.watchdog_pending h),
    fun hwait hoff htest hmet htime => (TermOp.turnOn ..).termIs (Term.turnOn_met hwait hoff htest hmet htime),
    fun h => (TermOp.turnOn ..).termIs (Term.turnOn_unmet h), fun hwait hmet htime => ?interlock,
    fun hraw hfault htest hblock => ?trip,
    fun hraw htest haction hlatched => (TermOp.trip ..).termIs (Term.trip_bypasses hraw htest haction hlatched),
    fun hraw => (TermOp.trip ..).termIs (Term.trip_absent hraw), (TermOp.lockLost ..).termIs ?lost,
    (TermOp.lockRegained ..).termIs ?regained,
    fun hwired hlost => (TermOp.wrapStart ..).termIs (Term.wrapStart_of_lost hwired hlost),
    fun hlock hother => (TermOp.wrapStop ..).termIs (Term.wrapStop_of_locked hlock hother)⟩
  case broken =>
    refine (TermOp.frameEnd ..).termIs ?_
    rw [Term.frameEnd_broken ha]
    exact ⟨rfl, rfl, rfl, rfl, rfl⟩
  case wrapped =>
    refine (TermOp.frameEnd ..).termIs ?_
    rw [Term.frameEnd_wrapped ha hw, Term.repeatFrame_eq]
    exact ⟨rfl, rfl, rfl, rfl, rfl, rfl⟩
  case badCrc =>
    refine (TermOp.frameEnd ..).termIs ?_
    rw [Term.frameEnd_whole ha hw]
    obtain ⟨hholds, hcount⟩ := (s.term c).process_badCrc (m := sensors) hcrc
    obtain ⟨hstate, hon, hwait, hiref, hdcdc⟩ := hholds.sameDrive
    exact ⟨hcount, hstate, hon, hwait, hiref, hdcdc, hholds.epoch, hholds.lastCycle⟩
  case commanding =>
    have htype : (Hdr.ofBytes b).typeOk = true := by rw [Hdr.typeOk, hversion, hftype]; rfl
    refine ⟨fun hold => (TermOp.frameEnd ..).termIs ?_, fun p hepoch hp => ⟨fun honce hcycle => (TermOp.frameEnd ..).termIs ?_,
      fun hnew hreq hfor hlatched hrunning hstate hbridge => (TermOp.frameEnd ..).termIs ?_⟩⟩ <;>
      rw [Term.frameEnd_whole ha hw]
    · obtain ⟨hholds, hstale⟩ := Term.process_stale hcrc htype hbound hholder hold
      obtain ⟨hstate, hon, hwait, hiref, hdcdc⟩ := hholds.sameDrive
      exact ⟨hstale, hstate, hon, hwait, hiref, hdcdc, hholds.epoch⟩
    · obtain ⟨hholds, hdup⟩ := Term.process_duplicate hcrc htype hbound hholder hepoch hp honce hcycle
      obtain ⟨hstate, hon, hwait, hiref, hdcdc⟩ := hholds.sameDrive
      exact ⟨hstate, hon, hwait, hiref, hdcdc, hdup⟩
    · exact Term.process_legal hcrc htype hbound hholder hepoch hp hnew hreq hfor hlatched hrunning hstate hbridge
  case unasked =>
    refine (TermOp.header ..).termIs ?_
    rw [Term.headerPasses, Term.header_unasked _ hn]
  case read =>
    refine (TermOp.header ..).termIs ?_
    rw [Term.headerPasses, Term.header_read _ hversion hftype hw hreq hpos hread]
    rfl
  case write =>
    refine (TermOp.header ..).termIs ?_
    rw [Term.headerPasses, Term.header_write _ hversion hftype hw hreq hpos hwrite]
  case watchdog =>
    refine (TermOp.watchdog ..).termIs ?_
    rw [Term.watchdog_expired honce hlate]
    obtain ⟨hblocked, hcdr⟩ := (s.term c).latchFault_blocks 6
    exact ⟨hblocked, rfl, hcdr⟩
  case interlock =>
    refine (TermOp.interlock ..).termIs ?_
    rw [Term.interlockTimeout_unmet hwait hmet htime]
    exact (s.term c).latchFault_blocks 5
  case trip =>
    refine (TermOp.trip ..).termIs (Term.trip_blocks hraw hfault htest ?_)
    exact hblock.imp (fun hk h3 => by simp [h3] at hk) And.right
  case lost =>
    cases up <;> simp [Term.setLock]
  case regained =>
    cases up <;> simp [Term.setLock]

end Sys2Proof.Machine

/-!
A software write of an entry of the cell store (R65 to R68, R78).
-/
namespace Sys2Proof.Machine

/-! ### Numbers and their bytes -/

/-- The bytes of a number are as many as were asked for. -/
@[simp] theorem length_leBytes (n v : Nat) : (leBytes n v).length = n := by
  induction n generalizing v with
  | zero => rfl
  | succ n ih => rw [leBytes, List.length_cons, ih]

/-- A number read back from its bytes. -/
theorem leNat_leBytes (n v : Nat) : leNat (leBytes n v) = v % 256 ^ n := by
  induction n generalizing v with
  | zero => rw [Nat.pow_zero, Nat.mod_one]; rfl
  | succ n ih => rw [leBytes, leNat, ih, Nat.mod_mod, Nat.pow_succ', Nat.mod_mul]

/-- A number read from one more byte. -/
theorem leNat_window_succ (b : List Nat) (i n : Nat) :
    leNat ((b.drop i).take (n + 1)) = byteAt b i + 256 * leNat ((b.drop (i + 1)).take n) := by
  induction b generalizing i with
  | nil => simp [leNat, byteAt, nth]
  | cons x b ih =>
    cases i with
    | zero => rfl
    | succ i => exact ih i

/-- A byte is a number of one byte. -/
theorem byteAt_eq_leNat (b : List Nat) (i : Nat) : byteAt b i = leNat ((b.drop i).take 1) := by
  rw [leNat_window_succ, List.take_zero]; rfl

/-- A 16-bit field is a number of two bytes. -/
theorem le16At_eq_leNat (b : List Nat) (i : Nat) : le16At b i = leNat ((b.drop i).take 2) := by
  rw [leNat_window_succ, ← byteAt_eq_leNat]; rfl

/-- A 32-bit field is a number of four bytes. -/
theorem le32At_eq_leNat (b : List Nat) (i : Nat) : le32At b i = leNat ((b.drop i).take 4) := by
  have hhalf : le16At b (i + 1 + 1) = le16At b (i + 2) := rfl
  rw [leNat_window_succ, leNat_window_succ, ← le16At_eq_leNat, hhalf, le32At, le16At]
  omega

/-- The bytes spliced into a list, read from where they were put. -/
theorem window_spliceBytes {b : List Nat} {i : Nat} (h : i ≤ b.length) (new : List Nat) :
    ((spliceBytes b i new).drop i).take new.length = new := by
  have hlen : (b.take i).length = i := List.length_take_of_le h
  rw [spliceBytes, List.append_assoc, List.drop_append_of_le_length hlen.ge, List.drop_of_length_le hlen.le, List.nil_append,
    List.take_left]

/-- Replacing an element keeps a list's length. -/
theorem length_setNth {α : Type} (xs : List α) (n : Nat) (y : α) : (setNth xs n y).length = xs.length := by
  induction xs generalizing n with
  | nil => rfl
  | cons x xs ih =>
    cases n with
    | zero => rfl
    | succ n => exact congrArg (· + 1) (ih n)

/-! ### The bytes of an entry with a write in them -/

/-- A status field has 16 bytes (R38). -/
theorem Stat.length_bytes (x : Stat) : x.bytes.length = 16 := by
  unfold Stat.bytes
  simp only [List.length_append, length_leBytes]
  rfl

/-- An entry has 128 bytes (R65). -/
theorem Entry.length_bytes (e : Entry) : e.bytes.length = 128 := by
  unfold Entry.bytes
  simp only [List.length_append, length_leBytes, Stat.length_bytes]
  rfl

/-- A store of n bytes over the fabric, on the present edge (R66). -/
def fabricPut (s : State) (off n v : Nat) : CellPut := ⟨s.fab, off, leBytes n v, true⟩

/-- The bytes of an entry with a write in them: the entry after it takes its writable fields from these (R65, R66). -/
def CellPut.image (p : CellPut) (e : Entry) : List Nat := spliceBytes (clearW1S e.bytes) p.off p.bytes

/-- The bytes stored, read as a number. -/
theorem leNat_image (s : State) {off : Nat} (h : off ≤ 128) (n v : Nat) (e : Entry) :
    leNat ((((fabricPut s off n v).image e).drop off).take n) = v % 256 ^ n := by
  have hlen : off ≤ (clearW1S e.bytes).length := by rwa [clearW1S, length_setNth, e.length_bytes]
  have hwin := window_spliceBytes hlen (leBytes n v)
  rw [length_leBytes] at hwin
  rw [CellPut.image, fabricPut, hwin, leNat_leBytes]

/-- A value stored as a word. -/
theorem le32At_image (s : State) {off : Nat} (h : off ≤ 128) (v : Nat) (e : Entry) :
    le32At ((fabricPut s off 4 (v % 2 ^ (8 * 4))).image e) off = v % 2 ^ 32 :=
  (le32At_eq_leNat _ _).trans ((leNat_image s h 4 _ e).trans (Nat.mod_mod _ _))

/-- A value stored as a half-word. -/
theorem le16At_image (s : State) {off : Nat} (h : off ≤ 128) (v : Nat) (e : Entry) :
    le16At ((fabricPut s off 2 (v % 2 ^ (8 * 2))).image e) off = v % 2 ^ 16 :=
  (le16At_eq_leNat _ _).trans ((leNat_image s h 2 _ e).trans (Nat.mod_mod _ _))

/-- A byte stored. -/
theorem byteAt_image (s : State) {off : Nat} (h : off ≤ 128) (v : Nat) (e : Entry) :
    byteAt ((fabricPut s off 1 v).image e) off = v % 2 ^ 8 :=
  (byteAt_eq_leNat _ _).trans (leNat_image s h 1 v e)

/-! ### The writable fields of an entry taken from bytes (R65) -/

section
variable (e : Entry) (b : List Nat)

theorem Entry.eDis_soft_take : (e.soft (e.take b)).eDis = leNat ((b.drop 0x18).take 8) := rfl
theorem Entry.eChg_soft_take : (e.soft (e.take b)).eChg = leNat ((b.drop 0x20).take 8) := rfl
theorem Entry.resDis_soft_take : (e.soft (e.take b)).resDis = bits (leNat ((b.drop 0x28).take 8)) 0 39 := rfl
theorem Entry.resChg_soft_take : (e.soft (e.take b)).resChg = bits (leNat ((b.drop 0x30).take 8)) 0 39 := rfl
theorem Entry.ec_soft_take : (e.soft (e.take b)).ec = le32At b 0x38 := rfl
theorem Entry.capJ_soft_take : (e.soft (e.take b)).capJ = le32At b 0x60 := rfl
theorem Entry.ecSet_soft_take : (e.soft (e.take b)).ecSet = le32At b 0x64 := rfl
theorem Entry.hw_soft_take : (e.soft (e.take b)).hw = le16At b 0x68 := rfl
theorem Entry.leaseId_soft_take : (e.soft (e.take b)).leaseId = byteAt b 0x6A := rfl
theorem Entry.user_soft_take : (e.soft (e.take b)).user = le32At b 0x6C := rfl

end

/-! ### Words under an error of one bit (R78) -/

/-- t is s but for words of entry c under an error of one bit that have been corrected, and perhaps counted (R78). -/
structure SinglesCorrected (s t : State) (c : Nat) : Prop where
  entry : ∃ l, t.entry c = { s.entry c with single := l }
  others : ∀ d, d ≠ c → t.entry d = s.entry d
  regs : RegsBut [SYS_CSE_STATUS_ECC_CORR.key 0 0] s t
  rest : t = { s with entries := t.entries, regs := t.regs }

section
variable {s t : State} {c : Nat}

/-- Nothing corrected. -/
theorem SinglesCorrected.refl (s : State) (c : Nat) : SinglesCorrected s s c := ⟨⟨_, rfl⟩, fun _ _ => rfl, .refl _ s, rfl⟩

variable (h : SinglesCorrected s t c)
include h

/-- Words taken off the list of those under an error. -/
theorem SinglesCorrected.filter (p : Nat → Bool) :
    SinglesCorrected s (t.updEntry c fun e => { e with single := e.single.filter p }) c := by
  obtain ⟨⟨l, hl⟩, hothers, hregs, hrest⟩ := h
  refine ⟨⟨l.filter p, ?_⟩, fun d hd => ?_, hregs, ?_⟩
  · rw [State.entry_updEntry, if_pos rfl, hl]
  · rw [State.entry_updEntry, if_neg hd, hothers d hd]
  · rw [State.updEntry, hrest]

/-- Corrected words counted. -/
theorem SinglesCorrected.counted (n : Nat) : SinglesCorrected s (t.countSat SYS_CSE_STATUS_ECC_CORR 0 0 n) c := by
  obtain ⟨hentry, hothers, hregs, hrest⟩ := h
  exact ⟨hentry, hothers, hregs.wr (by simp) _,
    congrArg (fun u : State => { u with regs := (t.countSat SYS_CSE_STATUS_ECC_CORR 0 0 n).regs }) hrest⟩

/-- A read of bytes of the entry corrects the words it meets. -/
theorem SinglesCorrected.cseCorrect (lo hi : Nat) : SinglesCorrected s (cseCorrect t c lo hi) c := by
  unfold Machine.cseCorrect
  dsimp only
  split
  · exact h
  · exact (h.filter _).counted _

/-- Late writes of the entry wait after the correction where they did before. -/
theorem SinglesCorrected.noLateWrite (hlate : NoLateWrite s c) : NoLateWrite t c := by
  rw [h.rest]
  unfold NoLateWrite lateWrites at hlate ⊢
  cases hk : findKey s.pipe.late c with
  | none => simp [LateWrites.since]
  | some l => simpa [hk] using hlate

end

/-- The words that a write meets. -/
theorem singlesCorrected_cseRewrite (s : State) (c off n : Nat) : SinglesCorrected s (cseRewrite s c off n) c :=
  ((SinglesCorrected.refl s c).filter _).cseCorrect _ _

/-! ### A write that is accepted -/

/-- The entries under the late writes of one of them. -/
@[simp] theorem State.entry_setLate (s : State) (c : Nat) (l : LateWrites) (d : Nat) : (s.setLate c l).entry d = s.entry d := rfl

/-- The entries under an answer. -/
@[simp] theorem State.entry_answer (s : State) (status data d : Nat) : (s.answer status data).entry d = s.entry d := rfl

/-- Where no other write of the entry waits, an accepted one gives it its fields at once (R66). -/
theorem takePut_alone {s : State} {c : Nat} (hlate : NoLateWrite s c) (p : CellPut) :
    takePut s c p = (s.updEntry c fun e => e.soft (p.run (s.entry c))).setLate c ⟨s.entry c, [p]⟩ := by
  unfold takePut
  simp [hlate, putInOrder]

/-- A write of an entry against which nothing stands: OK is answered, and what y says of the fields it stores holds. -/
theorem entryWritten_of_cellWrite {i : Instr} {s : State} {c off n v : Nat} {y : Entry → Prop}
    (hexec : exec i s = .next (cellWrite s c off n v s.fab true)) (hlate : NoLateWrite s c)
    (hcodes : cellWriteCodes s c off n ((fabricPut s off n v).run (s.entry c)) = [])
    (hy : ∀ l, let e := { s.entry c with single := l }; y (e.soft (e.take ((fabricPut s off n v).image e)))) :
    EntryWritten i s c y := by
  have hcor := singlesCorrected_cseRewrite s c off n
  have hwrite : cellWrite s c off n v s.fab true = (takePut (cseRewrite s c off n) c (fabricPut s off n v)).answer OK 0 := by
    rw [fabricPut] at hcodes ⊢
    rw [cellWrite, hcodes]
    exact if_pos rfl
  rw [hwrite, takePut_alone (hcor.noLateWrite hlate)] at hexec
  generalize cseRewrite s c off n = u at hexec hcor
  obtain ⟨⟨l, hl⟩, hothers, hregs, hrest⟩ := hcor
  have hentry : ∀ d, ((u.updEntry c fun e => e.soft ((fabricPut s off n v).run (u.entry c))).entry d) =
      if d = c then (u.entry c).soft ((u.entry c).take ((fabricPut s off n v).image (u.entry c))) else u.entry d :=
    fun d => State.entry_updEntry u c d _
  refine ⟨_, hexec, rfl, ?_, ?_, fun d hd => ?_, ?_, hregs, ?_⟩
  · rw [State.entry_answer, State.entry_setLate, hentry, if_pos rfl, hl]
    exact hy l
  · rw [State.entry_answer, State.entry_setLate, hentry, if_pos rfl, hl]
    rfl
  · rw [State.entry_answer, State.entry_setLate, hentry, if_neg hd, hothers d hd]
  · rw [hrest]
    rfl
  · rw [hrest]
    rfl

/-! ### The codes of a write (R67, R79) -/

/-- Behind the counters nothing stands against a write. -/
theorem cellWriteCodes_behind {s : State} {c off : Nat} (hr : storeReady s = true) (hoff : 0x3C ≤ off) (n : Nat) (e : Entry) :
    cellWriteCodes s c off n e = [] := by
  have h1 : ¬off < 0x2D := by omega
  have h2 : ¬off < 0x35 := by omega
  have h3 : ¬off < 0x3C := by omega
  simp [cellWriteCodes, codeIf, hr, h1, h2, h3]

/-- Nor does anything against one of the counters of a standing pipeline or a CORRUPT entry, with legal residues. -/
theorem cellWriteCodes_stopped {s : State} {c off n : Nat} (hr : storeReady s = true)
    (hs : s.pipe.running = false ∨ (s.entry c).corrupt = true) {e : Entry}
    (hdis : 0x28 < off + n → off < 0x2D → e.resDis < jouleUnits) (hchg : 0x30 < off + n → off < 0x35 → e.resChg < jouleUnits) :
    cellWriteCodes s c off n e = [] := by
  have hcount : (s.pipe.running && !(s.entry c).corrupt) = false := by obtain h | h := hs <;> simp [h]
  have hres : ((decide (0x28 < off + n) && decide (off < 0x2D) && decide (jouleUnits ≤ e.resDis)) ||
      (decide (0x30 < off + n) && decide (off < 0x35) && decide (jouleUnits ≤ e.resChg))) = false := by
    simpa using ⟨hdis, hchg⟩
  simp only [cellWriteCodes, Bool.and_assoc, hcount] at hres ⊢
  simp [codeIf, hr, hres]

/-- A counter's write against a running pipeline (R67). -/
theorem cellWriteCodes_running {s : State} {c : Nat} (hr : storeReady s = true) (hrun : s.pipe.running = true)
    (hcor : (s.entry c).corrupt = false) (e : Entry) : cellWriteCodes s c 0x18 8 e = [E_BUSY] := by
  simp [cellWriteCodes, codeIf, hr, hrun, hcor]

/-! ### A store at an address of the cell store -/

/-- The address of a byte of an entry (R28). -/
theorem target_entry {c off : Nat} (hc : c < 4096) (hoff : off < 0x80) : target (CELL_BASE + 0x80 * c + off) = .cell c off := by
  have hmem : memOf (CELL_BASE + 0x80 * c + off) = none := by
    unfold memOf CELL_BASE
    rw [if_neg (by omega), if_neg (by simp; omega), if_neg (by simp; omega)]
  have hin : inCellStore (CELL_BASE + 0x80 * c + off) = true := by
    unfold inCellStore CELL_BASE
    rw [decide_eq_true (by omega), decide_eq_true (by omega)]
    rfl
  have hcell : (CELL_BASE + 0x80 * c + off - CELL_BASE) / 0x80 = c := by omega
  have hbyte : (CELL_BASE + 0x80 * c + off) % 0x80 = off := by unfold CELL_BASE; omega
  rw [target, hmem, hin, hcell, hbyte]
  rfl

/-- In Run and Idle the cell store has power (R359). -/
theorem powered_cell {s : State} (hp : powerState s ≤ 1) (c off : Nat) : powered s (.cell c off) = true := by
  have h : powerState s = 0 ∨ powerState s = 1 := by omega
  obtain h | h := h <;> simp [powered, h]

section
variable {s : State} {req : Req} {c : Fin 4096} {off : Nat} (hc : clocked s = true) (hp : powerState s ≤ 1)
  (ho : openTo s req (CELL_BASE + 0x80 * c + off) = true)
include hp ho

/-- A store to an entry over the fabric. -/
theorem busWrite_cell (hoff : off < 0x80) (n v : Nat) :
    busWrite s req (CELL_BASE + 0x80 * c + off) n v = cellWrite s c off n v s.fab true := by
  rw [busWrite, target_entry c.isLt hoff, powered_cell hp]
  exact if_pos ho

include hc

/-- CELL_STORE_WRITE (R66): the low n bytes of the value, at an offset n divides. -/
theorem exec_cellStoreWrite {idx : BitVec 7} {size : Fin 4} (n : Nat) (hn : 2 ^ size.val = n) (hidx : idx.toNat * n % 128 = off)
    (val : BitVec 64) :
    exec (.cellStoreWrite req c idx size val) s = .next (cellWrite s c off n (val.toNat % 2 ^ (8 * n)) s.fab true) := by
  subst hn hidx
  exact congrArg Host.Outcome.next ((onFab_on hc _).trans (busWrite_cell hp ho (Nat.mod_lt _ (by decide)) _ _))

end

/-! ### The fields written -/

/-- What holds of the written entry may be weakened. -/
theorem EntryWritten.imp {i : Instr} {s : State} {c : Nat} {y z : Entry → Prop} (h : EntryWritten i s c y) (hyz : ∀ e, y e → z e) :
    EntryWritten i s c z := by
  obtain ⟨t, hexec, hok, hy, hrest⟩ := h
  exact ⟨t, hexec, hok, hyz _ hy, hrest⟩

/-- A 64-bit value is its eight bytes. -/
theorem toNat_bytes8 (val : BitVec 64) : val.toNat % 2 ^ (8 * 8) % 256 ^ 8 = val.toNat := by
  rw [Nat.mod_eq_of_lt (a := val.toNat) val.isLt]
  exact Nat.mod_eq_of_lt val.isLt

/-- The eight bytes of a counter stored whole (R66). -/
theorem leNat_image_val (s : State) {off : Nat} (h : off ≤ 128) (val : BitVec 64) (e : Entry) :
    leNat ((((fabricPut s off 8 (val.toNat % 2 ^ (8 * 8))).image e).drop off).take 8) = val.toNat :=
  (leNat_image s h 8 _ e).trans (toNat_bytes8 val)

/-- A residue below a joule keeps its value in its 39 bits (R65). -/
theorem bits_residue {v : Nat} (h : v < 5 * 10 ^ 11) : bits v 0 39 = v := by
  rw [bits, Nat.pow_zero, Nat.div_one]
  exact Nat.mod_eq_of_lt (by omega)

/-- The flag byte that sets W1S bits of an entry and keeps LEASE_EN and SW_BLOCK (R65, R68). -/
def Entry.flagByte (e : Entry) (m : Nat) : Nat := m + bitv 0 e.leaseEn + bitv 1 e.swBlock

/-- Its bits. -/
theorem Entry.bit_flagByte (e : Entry) {m : Nat} (hm : m = 4 ∨ m = 8 ∨ m = 16) :
    let f := e.flagByte m % 2 ^ 8
    bit f 0 = e.leaseEn ∧ bit f 1 = e.swBlock ∧ bit f 2 = (m == 4) ∧ bit f 3 = (m == 8) ∧ bit f 4 = (m == 16) := by
  unfold Entry.flagByte
  generalize e.leaseEn = a
  generalize e.swBlock = b
  obtain rfl | rfl | rfl := hm <;> revert a b <;> decide

section
variable {s : State} {req : Req} {c : Fin 4096} {off : Nat} (hlate : NoLateWrite s c) (hc : clocked s = true) (hp : powerState s ≤ 1)
  (ho : openTo s req (CELL_BASE + 0x80 * c + off) = true) (hr : storeReady s = true)
include hlate hc hp ho hr

/-- A write of a field behind the counters. -/
theorem cellStoreWrite_behind {idx : BitVec 7} {size : Fin 4} {val : BitVec 64} {y : Entry → Prop} (n : Nat) (hn : 2 ^ size.val = n)
    (hidx : idx.toNat * n % 128 = off) (hoff : 0x3C ≤ off)
    (hy : ∀ e : Entry, y (e.soft (e.take ((fabricPut s off n (val.toNat % 2 ^ (8 * n))).image e)))) :
    EntryWritten (.cellStoreWrite req c idx size val) s c y :=
  entryWritten_of_cellWrite (exec_cellStoreWrite hc hp ho n hn hidx val) hlate (cellWriteCodes_behind hr hoff _ _) fun _ => hy _

/-- A write of a counter of a standing pipeline or of a CORRUPT entry. -/
theorem cellStoreWrite_stopped {idx : BitVec 7} {size : Fin 4} {val : BitVec 64} {y : Entry → Prop} (n : Nat) (hn : 2 ^ size.val = n)
    (hidx : idx.toNat * n % 128 = off) (hs : s.pipe.running = false ∨ (s.entry c).corrupt = true)
    (hlegal : ∀ e : Entry, let t := e.take ((fabricPut s off n (val.toNat % 2 ^ (8 * n))).image e)
      (0x28 < off + n → off < 0x2D → t.resDis < jouleUnits) ∧ (0x30 < off + n → off < 0x35 → t.resChg < jouleUnits))
    (hy : ∀ e : Entry, y (e.soft (e.take ((fabricPut s off n (val.toNat % 2 ^ (8 * n))).image e)))) :
    EntryWritten (.cellStoreWrite req c idx size val) s c y :=
  entryWritten_of_cellWrite (exec_cellStoreWrite hc hp ho n hn hidx val) hlate
    (cellWriteCodes_stopped hr hs (hlegal _).1 (hlegal _).2) fun _ => hy _

end

section
variable {s : State} {c : Fin 4096} (hlate : NoLateWrite s c) (hr : storeReady s = true)
include hlate hr

/-- The flag byte written (R65): LEASE_EN and SW_BLOCK take their bits, a 1 sets a W1S bit. -/
theorem flagByte_written {i : Instr} {v : Nat} (hexec : exec i s = .next (cellWrite s c 0x6B 1 v s.fab true)) :
    EntryWritten i s c fun y => y.leaseEn = bit (v % 2 ^ 8) 0 ∧ y.swBlock = bit (v % 2 ^ 8) 1 ∧
      y.ecSetPend = ((s.entry c).ecSetPend || bit (v % 2 ^ 8) 2) ∧ y.clrMax = ((s.entry c).clrMax || bit (v % 2 ^ 8) 3) ∧
      y.clrCorrupt = ((s.entry c).clrCorrupt || bit (v % 2 ^ 8) 4) := by
  refine entryWritten_of_cellWrite hexec hlate (cellWriteCodes_behind hr (by decide) _ _) fun l => ?_
  rw [← byteAt_image s (by decide : 0x6B ≤ 128) v { s.entry c with single := l }]
  exact ⟨rfl, rfl, rfl, rfl, rfl⟩

/-- EC_SET_PEND, CLR_MAX and CLR_CORRUPT: the bit is set, the other flags are kept. -/
theorem cellBit_written {i : Instr} {req : Req} {m : Nat} (hm : m = 4 ∨ m = 8 ∨ m = 16) (hc : clocked s = true)
    (hp : powerState s ≤ 1) (ho : openTo s req (CELL_BASE + 0x80 * c + 0x6B) = true) (hexec : exec i s = .next (cellBit s req c m)) :
    EntryWritten i s c fun y => y.leaseEn = (s.entry c).leaseEn ∧ y.swBlock = (s.entry c).swBlock ∧
      y.ecSetPend = ((s.entry c).ecSetPend || m == 4) ∧ y.clrMax = ((s.entry c).clrMax || m == 8) ∧
      y.clrCorrupt = ((s.entry c).clrCorrupt || m == 16) := by
  have hwrite : cellBit s req c m = cellWrite s c 0x6B 1 ((s.entry c).flagByte m) s.fab true := by
    rw [cellBit, access, onFab_on hc]
    exact busWrite_cell hp ho (by decide) _ _
  obtain ⟨h0, h1, h2, h3, h4⟩ := (s.entry c).bit_flagByte hm
  have h := flagByte_written hlate hr (hexec.trans (congrArg _ hwrite))
  rwa [h0, h1, h2, h3, h4] at h

end

/-- Settles O38: a store comes to `cellWrite`, against which no code stands, and the entry takes the field from the bytes stored. -/
theorem cellStoreWrites : Obligations.CellStoreWrites := by
  intro s req c val
  refine ⟨?eDis, ?eChg, ?resDis, ?resChg, ?ec, ?capJ, ?ecSet, ?hw, ?leaseId, ?flags, ?user, ?ecSetPend, ?clrMax, ?clrCorrupt, ?busy⟩
  case eDis =>
    intro hlate hc hp ho hr hs
    exact cellStoreWrite_stopped hlate hc hp ho hr 8 rfl rfl hs (fun _ => by omega) fun e =>
      (e.eDis_soft_take _).trans (leNat_image_val s (by decide) val e)
  case eChg =>
    intro hlate hc hp ho hr hs
    exact cellStoreWrite_stopped hlate hc hp ho hr 8 rfl rfl hs (fun _ => by omega) fun e =>
      (e.eChg_soft_take _).trans (leNat_image_val s (by decide) val e)
  case resDis =>
    intro hlate hc hp ho hr hs hval
    have hfield : ∀ e : Entry, (e.soft (e.take ((fabricPut s 0x28 8 (val.toNat % 2 ^ (8 * 8))).image e))).resDis = val.toNat := fun e => by
      rw [e.resDis_soft_take, leNat_image_val s (by decide), bits_residue hval]
    exact cellStoreWrite_stopped hlate hc hp ho hr 8 rfl rfl hs
      (fun e => ⟨fun _ _ => (hfield e).trans_lt hval, by omega⟩) hfield
  case resChg =>
    intro hlate hc hp ho hr hs hval
    have hfield : ∀ e : Entry, (e.soft (e.take ((fabricPut s 0x30 8 (val.toNat % 2 ^ (8 * 8))).image e))).resChg = val.toNat := fun e => by
      rw [e.resChg_soft_take, leNat_image_val s (by decide), bits_residue hval]
    exact cellStoreWrite_stopped hlate hc hp ho hr 8 rfl rfl hs
      (fun e => ⟨by omega, fun _ _ => (hfield e).trans_lt hval⟩) hfield
  case ec =>
    intro hlate hc hp ho hr hs
    exact cellStoreWrite_stopped hlate hc hp ho hr 4 rfl rfl hs (fun _ => by omega) fun e =>
      (e.ec_soft_take _).trans (le32At_image s (by decide) _ e)
  case capJ =>
    intro hlate hc hp ho hr
    exact cellStoreWrite_behind hlate hc hp ho hr 4 rfl rfl (by decide) fun e =>
      (e.capJ_soft_take _).trans (le32At_image s (by decide) _ e)
  case ecSet =>
    intro hlate hc hp ho hr
    exact cellStoreWrite_behind hlate hc hp ho hr 4 rfl rfl (by decide) fun e =>
      (e.ecSet_soft_take _).trans (le32At_image s (by decide) _ e)
  case hw =>
    intro hlate hc hp ho hr
    exact cellStoreWrite_behind hlate hc hp ho hr 2 rfl rfl (by decide) fun e =>
      (e.hw_soft_take _).trans (le16At_image s (by decide) _ e)
  case leaseId =>
    intro hlate hc hp ho hr
    exact cellStoreWrite_behind hlate hc hp ho hr 1 rfl rfl (by decide) fun e =>
      (e.leaseId_soft_take _).trans ((byteAt_image s (by decide) _ e).trans (Nat.mod_mod _ _))
  case flags =>
    intro hlate hc hp ho hr
    have hbit : ∀ k < 8, bit (val.toNat % 2 ^ (8 * 1) % 2 ^ 8) k = val.toNat.testBit k := fun k hk => by
      rw [Nat.mod_mod, bit, Nat.testBit_mod_two_pow, decide_eq_true hk, Bool.true_and]
    have h := flagByte_written hlate hr (exec_cellStoreWrite (idx := 107) (size := 0) hc hp ho 1 rfl rfl val)
    rwa [hbit 0 (by decide), hbit 1 (by decide), hbit 2 (by decide), hbit 3 (by decide), hbit 4 (by decide)] at h
  case user =>
    intro hlate hc hp ho hr
    exact cellStoreWrite_behind hlate hc hp ho hr 4 rfl rfl (by decide) fun e =>
      (e.user_soft_take _).trans (le32At_image s (by decide) _ e)
  case ecSetPend =>
    intro hlate hc hp ho hr
    refine (cellBit_written hlate hr (.inl rfl) hc hp ho rfl).imp fun e ⟨h0, h1, h2, h3, h4⟩ => ?_
    simp [h0, h1, h2, h3, h4]
  case clrMax =>
    intro hlate hc hp ho hr
    refine (cellBit_written hlate hr (.inr (.inl rfl)) hc hp ho rfl).imp fun e ⟨h0, h1, h2, h3, h4⟩ => ?_
    simp [h0, h1, h2, h3, h4]
  case clrCorrupt =>
    intro hlate hc hp ho hr
    refine (cellBit_written hlate hr (.inr (.inr rfl)) hc hp ho rfl).imp fun e ⟨h0, h1, h2, h3, h4⟩ => ?_
    simp [h0, h1, h2, h3, h4]
  case busy =>
    intro hc hp ho hr hrun hcor
    refine ⟨_, exec_cellStoreWrite hc hp ho 8 rfl rfl val, ?_, ?_⟩
    all_goals rw [cellWrite, cellWriteCodes_running hr hrun hcor]
    · rfl
    · show (cseRecord s c 0x18 E_BUSY).entries = s.entries
      unfold cseRecord
      split <;> rfl

end Sys2Proof.Machine

/-!
A clear of the arms' block latches over a value that waits at their place (R5, R113).
-/
namespace Sys2Proof.Machine

/-! ### Clearing GCS_BLOCK.ARM -/

/-- A clear of ARM_1's latch stores GCS_BLOCK.ARM alone. -/
theorem pieces_gcsBlockArm : ((Blk.sys.pieces 0x20C).filter fun p => !p.silent 2) = [⟨SYS_GCS_BLOCK_ARM, 0, 0, 0, 8⟩] := by
  decide +kernel

/-- The clear takes ARM_1's bit from the value last written to GCS_BLOCK.ARM, whether or not that value is in force. -/
theorem exec_gcsArmClear_arm1 {s : State} {req : Req} (h : Accepts s req .sys 0 0x20C 2 2) :
    exec (.gcsArmClear req 2) s =
      .next ((s.wr SYS_GCS_BLOCK_ARM (clearBits (s.written SYS_GCS_BLOCK_ARM 0 0) 2)).answer OK 0) := by
  show Host.Outcome.next (wordCmd s req .sys 0 0x20C 2 2) = _
  rw [wordCmd_accepted h rfl, storeWord_one pieces_gcsBlockArm (by decide) (by decide),
    storePiece_direct (by decide) (by decide) (.inl rfl)]
  rfl

/-! ### A value that waits at the place of the latches -/

/-- No block latch is set; a 1 waits at the place of GCS_BLOCK.ARM. No command stages a W1C field: it is one of the states the
statement ranges over. -/
def strayLatch : State :=
  { State.reset with
    regs := setAll [(SYS_CLK_STATUS_LOCK.key 0 0, 1)] []
    staged := [(SYS_GCS_BLOCK_ARM.key 0 0, { cls := .tick, inst := 0, val := 1, edge := 0 })] }

/-- Core 0's clear of ARM_1's latch is carried out. -/
theorem accepts_strayLatch : Accepts strayLatch (.core 0 false) .sys 0 0x20C 2 2 := by decide +kernel

/-- Refutes O39: its clause on clears of GCS_BLOCK reads the latches in force before the clear, and in `strayLatch` the clear of
ARM_1's latch works on the value that waits and so sets ARM_0's. -/
theorem not_gateCommands : ¬ Obligations.GateCommands := by
  unfold Obligations.GateCommands
  intro h
  obtain ⟨-, -, -, -, -, -, -, -, -, hArmClear, -⟩ := h strayLatch (.core 0 false) 0 0 0 0 2 0 0 ⟨0, 0, false, 0, 0, 0⟩
  obtain ⟨t, hexec, -, hbits, -⟩ := hArmClear accepts_strayLatch
  rw [exec_gcsArmClear_arm1 accepts_strayLatch] at hexec
  have hlatch := hbits 0
  rw [← Host.Outcome.next.inj hexec] at hlatch
  exact absurd hlatch (by decide +kernel)

end Sys2Proof.Machine

/-!
The invariants of memory and of the terminals' legs at reset (R98, R170, R219).
-/
namespace Sys2Proof.Machine

/-- Settles O24, by evaluation: at reset no memory, no TCM and no terminal is listed. -/
theorem resetInvariants : Obligations.ResetInvariants :=
  ⟨⟨rfl, fun _ => rfl⟩, fun _ => rfl, fun _ => rfl⟩

end Sys2Proof.Machine

/-!
SUPPORT. What an operation leaves of the trips' part of the state: a record of the gate event log, with all that it sets off in the
journal, the memories and the scan engine, leaves it whole (R117, R225).
-/
namespace Sys2Proof.Machine

/-! ### What an operation leaves of the trips -/

/-- The places of the register file that the trips read and drive: GCS_BLOCK (R122) and the words of the PWM pairs and of TRIP. -/
abbrev tripPlace (k : Nat) : Prop := k / 32 = 0x2000020C ∨ (0x20130000 ≤ k / 32 ∧ k / 32 < 0x20140000)

/-- From s to t the edge, the hidden state of chapters 13 to 15 and the fields at the places of the trips are kept, those of the list
apart. -/
structure TripsBut (ks : List Nat) (s t : State) : Prop where
  fab : t.fab = s.fab
  sig : t.sig = s.sig
  regs : ∀ (f : Fld) (i j : Nat), tripPlace (f.key i j) → f.key i j ∉ ks → t.rd f i j = s.rd f i j

section
variable {ks : List Nat} {s t u : State}

/-- Nothing changed. -/
theorem TripsBut.refl (ks : List Nat) (s : State) : TripsBut ks s s := ⟨rfl, rfl, fun _ _ _ _ _ => rfl⟩

/-- One change after another. -/
theorem TripsBut.trans (h : TripsBut ks s t) (hu : TripsBut ks t u) : TripsBut ks s u :=
  ⟨hu.fab.trans h.fab, hu.sig.trans h.sig, fun f i j hp hk => (hu.regs f i j hp hk).trans (h.regs f i j hp hk)⟩

/-- Other parts of the state replaced. -/
theorem TripsBut.rest (h : TripsBut ks s t) (hfab : u.fab = t.fab) (hsig : u.sig = t.sig) (hregs : u.regs = t.regs) :
    TripsBut ks s u :=
  h.trans ⟨hfab, hsig, fun _ _ _ _ _ => by rw [State.rd, State.rd, hregs]⟩

/-- A field written at another place, or at one of the list. -/
theorem TripsBut.wr (h : TripsBut ks s t) {f : Fld} {i j : Nat} (hk : ¬ tripPlace (f.key i j) ∨ f.key i j ∈ ks) (v : Nat) :
    TripsBut ks s (t.wr f v i j) :=
  h.trans ⟨rfl, rfl, fun _ _ _ hp hn => State.rd_wr_ne _ _ _ _ _ _ _ _ fun e => hk.elim (· (e ▸ hp)) fun hm => hn (e ▸ hm)⟩

/-- Either branch. -/
theorem TripsBut.ite {c : Prop} [Decidable c] (ht : TripsBut ks s t) (hu : TripsBut ks s u) : TripsBut ks s (if c then t else u) := by
  split <;> assumption

/-- The naturals below n taken in order. -/
theorem TripsBut.forN {f : Nat → State → State} {n : Nat} (h : TripsBut ks s t) (hf : ∀ i < n, ∀ t, TripsBut ks t (f i t)) :
    TripsBut ks s (forN n f t) := by
  induction n with
  | zero => exact h
  | succ n ih => exact (ih fun i hi => hf i (Nat.lt_succ_of_lt hi)).trans (hf n (Nat.lt_succ_self n) _)

/-- A list taken in order. -/
theorem TripsBut.foldl {α : Type} {f : State → α → State} (hf : ∀ t a, TripsBut ks t (f t a)) (l : List α) (s : State) :
    TripsBut ks s (l.foldl f s) := by
  induction l generalizing s with
  | nil => exact .refl ks s
  | cons a l ih => exact (hf s a).trans (ih _)

end

/-! ### Fields of other blocks -/

/-- A field whose word lies between SYS and the PWM pairs, or behind TRIP. -/
theorem off_trips {f : Fld} {i j : Nat} (hl : f.lsb < 32)
    (ha : 0x20010000 ≤ f.addr i j ∧ f.addr i j < 0x20130000 ∨ 0x20140000 ≤ f.addr i j) : ¬ tripPlace (f.key i j) := by
  unfold Fld.key
  omega

/-- A field of ARM_k or QUEUE_k. -/
theorem off_trips_high {f : Fld} (hb : f.blk = .arm ∨ f.blk = .queue) (hl : f.lsb < 32) (i j : Nat) : ¬ tripPlace (f.key i j) := by
  refine off_trips hl (.inr ?_)
  obtain hb | hb := hb <;> simp only [Fld.addr, Blk.inst, hb, Blk.base, Blk.stride] <;> simp <;> omega

/-- A field of a memory controller or of the journal, at an index it has. -/
theorem off_trips_low {f : Fld} (hb : f.blk = .memc ∨ f.blk = .journal) (hl : f.lsb < 32) (ho : f.off < 0x100) (hs : f.sub ≤ 0x20)
    {i j : Nat} (hi : i < 2) (hj : j < 9) : ¬ tripPlace (f.key i j) := by
  have hm : j * f.sub ≤ 8 * 0x20 := Nat.mul_le_mul (by omega) hs
  refine off_trips hl (.inl ?_)
  obtain hb | hb := hb <;> simp only [Fld.addr, Blk.inst, hb, Blk.base, Blk.stride] <;> simp <;> omega

/-! ### Memory, the scan engine and the journal -/

section
variable {ks : List Nat}

/-- There are two channels of DRAM. -/
theorem memOf_dram {a c : Nat} (h : memOf a = some (.dram c)) : c < 2 := by
  unfold memOf at h
  split_ifs at h <;> cases h
  exact Nat.mod_lt _ (by decide)

/-- A queue emptied (R255). -/
theorem tripsBut_queueClear (s : State) (k : Nat) : TripsBut ks s (queueClear s k) := by
  unfold queueClear queueStatus
  iterate 7 refine TripsBut.wr ?_ (.inl (off_trips_high (.inr rfl) (by decide) _ _)) _
  exact (TripsBut.refl ks s).rest rfl rfl rfl

/-- A field of a channel of DRAM. -/
theorem off_trips_memc {f : Fld} {c : Nat} (hc : c < 2)
    (hf : f.blk = .memc ∧ f.lsb < 32 ∧ f.off < 0x100 ∧ f.sub ≤ 0x20 := by decide) : ¬ tripPlace (f.key c 0) :=
  off_trips_low (.inl hf.1) hf.2.1 hf.2.2.1 hf.2.2.2 hc (by decide)

/-- A field of a region of the journal. -/
theorem off_trips_journal {f : Fld} {r : Nat} (hr : r < 9)
    (hf : f.blk = .journal ∧ f.lsb < 32 ∧ f.off < 0x100 ∧ f.sub ≤ 0x20 := by decide) : ¬ tripPlace (f.key 0 r) :=
  off_trips_low (.inr hf.1) hf.2.1 hf.2.2.1 hf.2.2.2 (by decide) hr

/-- The log of the memories. -/
theorem tripsBut_logEvent (s : State) {m : Mem} {b : Nat} (hm : memOf b = some m) (a : Nat) (unc scrub : Bool) (syms : List Nat) :
    TripsBut ks s (logEvent s m a unc scrub syms) := by
  have h := TripsBut.refl ks s
  cases m with
  | cupola =>
    refine h.ite ?_
    iterate 7 refine TripsBut.wr ?_ (.inl (by decide)) _
    exact h
  | dram c =>
    refine h.ite ?_
    iterate 7 refine TripsBut.wr ?_ (.inl (off_trips_low (.inl rfl) (by decide) (by decide) (by decide) (memOf_dram hm) (by decide))) _
    exact h
  | mram => exact h

/-- CH_FAIL. -/
theorem tripsBut_enterChFail (s : State) {c : Nat} (hc : c < 2) : TripsBut ks s (enterChFail s c) :=
  .forN (.wr (.refl ks s) (.inl (off_trips_memc hc)) 1) fun k _ t => tripsBut_queueClear t k

/-- A line written. -/
theorem tripsBut_writeLine (s : State) (a : Nat) (bs : List Nat) : TripsBut ks s (writeLine s a bs) := .rest (.refl ks s) rfl rfl rfl

/-- A correction. -/
theorem tripsBut_corrected (s : State) {m : Mem} {b : Nat} (hm : memOf b = some m) (line : Nat) (es : List (Nat × Nat)) (scrub : Bool) :
    TripsBut ks s (corrected s m line es scrub) := by
  have hlog := (tripsBut_writeLine s (line * 64) ((correctWith (storedWord s line) es).take 64)).trans (ks := ks)
    (tripsBut_logEvent _ hm (line * 64) false scrub (es.map (·.1)))
  cases m with
  | cupola => exact (hlog.wr (.inl (by decide)) _).wr (.inl (by decide)) _
  | dram c =>
    have hc := memOf_dram hm
    refine .forN ((hlog.wr (.inl (off_trips_memc hc)) _).wr (.inl (off_trips_memc hc)) _) fun d hd t => ?_
    refine .ite (.wr (.refl ks t) ?_ _) (.refl ks t)
    exact .inl (off_trips_low (.inl rfl) (by decide) (by decide) (by decide) hc hd)
  | mram => exact hlog

/-- The memories' hidden state replaced. -/
theorem tripsBut_mems (s : State) (x : Sp MemSt) : TripsBut ks s { s with mems := x } := .rest (.refl ks s) rfl rfl rfl

/-- An uncorrectable event. -/
theorem tripsBut_uncorrected (s : State) {m : Mem} {b : Nat} (hm : memOf b = some m) (line : Nat) (scrub : Bool) :
    TripsBut ks s (uncorrected s m line scrub) := by
  have hlog := tripsBut_logEvent (ks := ks) s hm (line * 64) true scrub []
  cases m with
  | cupola => exact (hlog.wr (.inl (by decide)) _).wr (.inl (by decide)) _
  | dram c =>
    have hc := memOf_dram hm
    have hcount (n : Nat) (x : Sp MemSt) := ((hlog.wr (.inl (off_trips_memc (f := MEMC_STATUS_UE) hc)) 1).wr
      (.inl (off_trips_memc (f := MEMC_UE_CNT_COUNT) hc)) n).trans (tripsBut_mems _ x)
    exact .ite ((hcount _ _).trans (tripsBut_enterChFail _ hc)) (hcount _ _)
  | mram => exact hlog.wr (.inl (by decide)) _

/-- A line read and decoded. -/
theorem tripsBut_decodeLine (s : State) {m : Mem} {b : Nat} (hm : memOf b = some m) (line : Nat) (scrub : Bool) :
    TripsBut ks s (decodeLine s m line scrub).1 := by
  have hretry : TripsBut ks s (caRetry s m).1 := by cases m <;> exact (TripsBut.refl ks s).rest rfl rfl rfl
  unfold decodeLine
  split
  · exact .refl ks s
  · generalize caRetry s m = p at hretry ⊢
    obtain ⟨t, ca⟩ := p
    dsimp only at hretry ⊢
    split
    · exact hretry.trans (tripsBut_uncorrected t hm line scrub)
    · split
      · exact hretry.trans (tripsBut_uncorrected t hm line scrub)
      · exact hretry
      · exact hretry.trans (tripsBut_corrected t hm line _ scrub)

/-- A read of memory. -/
theorem tripsBut_memRead (s : State) (a n : Nat) : TripsBut ks s (memRead s a n).1 := by
  unfold memRead
  split
  · exact .refl ks s
  · split
    · exact .refl ks s
    · exact tripsBut_decodeLine s ‹_› (lineOf a) false

/-- A line of a scan. -/
theorem tripsBut_scanLine (s : State) : TripsBut ks s (scanLine s) := by
  unfold scanLine
  dsimp only
  have hread := tripsBut_memRead (ks := ks) s s.scan.addr (min s.scan.left (64 - s.scan.addr % 64))
  generalize memRead s s.scan.addr (min s.scan.left (64 - s.scan.addr % 64)) = p at hread ⊢
  obtain ⟨t, ans⟩ := p
  have hfail : TripsBut ks s (((t.raise SCAN_STATUS_ECC).clear SCAN_STATUS_BUSY).wr SCAN_FAIL_ADDR_ADDR
      (s.scan.addr - s.scan.addr % 64)) :=
    ((hread.wr (.inl (by decide)) _).wr (.inl (by decide)) _).wr (.inl (by decide)) _
  refine .ite (.refl ks s) ?_
  cases ans with
  | ok => exact hread.rest rfl rfl rfl
  | ecc | no | bus => exact hfail

/-- Words written to the MRAM, after the scan has caught up. -/
theorem tripsBut_writeWords (s : State) (a : Nat) (bs : List Nat) : TripsBut ks s (writeWords s a bs) := by
  have hscan : TripsBut ks s (scanAdvance s) := .ite (.forN (.refl ks s) fun _ _ => tripsBut_scanLine) (.refl ks s)
  exact hscan.trans (.foldl (fun t _ => tripsBut_writeLine t _ _) _ _)

/-- The levels of the journal's rings. -/
theorem tripsBut_journalLevels (s : State) : TripsBut ks s (journalLevels s) := by
  have hlevels : TripsBut ks s (forN 3 (fun r s =>
      let s := (s.wr JOURNAL_REGION_FREE (regionFree s r) 0 r).wr JOURNAL_REGION_INFLIGHT (inFlight s r) 0 r
      s.wr JOURNAL_REGION_OLDEST_JSEQ
        (match regionRecs s r with | [] => s.rd JOURNAL_REGION_NEXT_JSEQ 0 r | x :: _ => x.jseq) 0 r) s) := by
    refine .forN (.refl ks s) fun r hr t => ?_
    exact (((TripsBut.refl ks t).wr (.inl (off_trips_journal (by omega))) _).wr (.inl (off_trips_journal (by omega))) _).wr
      (.inl (off_trips_journal (by omega))) _
  exact (hlevels.wr (.inl (by decide)) _).wr (.inl (by decide)) _

/-- A record appended. -/
theorem tripsBut_appendRec (s : State) {j : JrnSub} (hj : j.region < 3) : TripsBut ks s (appendRec s j) := by
  have hr : j.region < 9 := by omega
  unfold appendRec
  dsimp only
  refine .trans (.wr ?_ (.inl (off_trips_journal hr)) _) (tripsBut_journalLevels _)
  refine TripsBut.rest (.ite (.refl ks s) (.wr ?_ (.inl (off_trips_journal hr)) _)) rfl rfl rfl
  exact tripsBut_writeWords ..

/-- The journal's hidden state replaced. -/
theorem tripsBut_jrn (s : State) (x : JrnSt) : TripsBut ks s { s with jrn := x } := .rest (.refl ks s) rfl rfl rfl

/-- A submission to the journal. -/
theorem tripsBut_submit (s : State) {j : JrnSub} (hj : j.region < 3) : TripsBut ks s (submit s j) :=
  .ite (.trans (tripsBut_jrn s _) (tripsBut_journalLevels _)) (tripsBut_appendRec s hj)

/-- A FAULT record submitted. -/
theorem tripsBut_submitFault (s : State) (payload : List Nat) : TripsBut ks s (submitFault s payload) :=
  .ite (.refl ks s) (.ite (.trans (tripsBut_jrn s _) (tripsBut_submit _ (show RG_FAULT < 3 by decide)))
    (.wr (.refl ks s) (.inl (by decide)) _))

/-- A FAULT record (R225). -/
theorem tripsBut_faultRecord (s : State) : TripsBut ks s (faultRecord s) := by
  have hfree : TripsBut ks s s.takeFree.2 := .rest (.refl ks s) rfl rfl rfl
  exact .ite (.refl ks s) (hfree.trans (tripsBut_submitFault _ _))

/-- A record of the gate event log (R117). -/
theorem tripsBut_pushEvt (s : State) (e : EvtRec) : TripsBut ks s (pushEvt s e) := by
  have h : TripsBut ks s (if e.src = 14 then s else faultRecord s) := .ite (.refl ks s) (tripsBut_faultRecord s)
  exact .ite (h.wr (.inl (by decide)) _) (h.rest rfl rfl rfl)

end

end Sys2Proof.Machine

/-!
SUPPORT. Masks built bit by bit.
-/
namespace Sys2Proof.Machine

/-- The first n naturals taken by two functions that agree on them. -/
theorem forN_congr {σ : Type} {f g : Nat → σ → σ} {n : Nat} (h : ∀ i < n, ∀ x, f i x = g i x) (s : σ) : forN n f s = forN n g s := by
  induction n with
  | zero => rfl
  | succ n ih => rw [forN, forN, ih fun i hi => h i (Nat.lt_succ_of_lt hi), h n (Nat.lt_succ_self n)]

/-- A bit of a number with another bit set. -/
theorem bit_or_two_pow (m n k : Nat) : bit (m ||| 2 ^ n) k = (bit m k || decide (k = n)) := by
  unfold bit
  rw [Nat.testBit_or, Nat.testBit_two_pow]
  simp only [eq_comm]

/-- The bits below n that a test selects, set one after another. -/
theorem bit_forN_or (c : Nat → Bool) (n v k : Nat) :
    bit (forN n (fun i m => if c i then m ||| 2 ^ i else m) v) k = (bit v k || (decide (k < n) && c k)) := by
  induction n with
  | zero => simp [forN]
  | succ n ih =>
    have hbit : bit (forN (n + 1) (fun i m => if c i then m ||| 2 ^ i else m) v) k =
        (bit (forN n (fun i m => if c i then m ||| 2 ^ i else m) v) k || (c n && decide (k = n))) := by
      cases hc : c n <;> simp [forN, hc, bit_or_two_pow]
    rw [hbit, ih]
    by_cases hk : k = n
    · subst hk
      simp
    · simp [hk, show k < n + 1 ↔ k < n by omega]

/-- A number and one of its bits. -/
theorem and_two_pow_eq (m n : Nat) : m &&& 2 ^ n = if bit m n then 2 ^ n else 0 := by
  rw [Nat.and_two_pow, bit]
  cases m.testBit n <;> simp

/-- The bits below n that a test selects, added one after another. -/
theorem bit_forN_add (c : Nat → Bool) (n k : Nat) :
    bit (forN n (fun i m => if c i then m + 2 ^ i else m) 0) k = (decide (k < n) && c k) := by
  induction n generalizing k with
  | zero => simp [forN, bit]
  | succ n ih =>
    generalize hm : forN n (fun i m => if c i then m + 2 ^ i else m) 0 = m at ih
    have hfree : m &&& 2 ^ n = 0 := by rw [and_two_pow_eq, ih]; simp
    have hbit : bit (if c n then m + 2 ^ n else m) k = (bit m k || (c n && decide (k = n))) := by
      cases c n with
      | false => simp
      | true =>
        simp only [if_true, Bool.true_and, bit, testBit_add_apart k m _ hfree, Nat.testBit_two_pow]
        simp only [eq_comm]
    rw [forN, hm, hbit, ih]
    by_cases hk : k = n
    · subst hk
      simp
    · simp [hk, show k < n + 1 ↔ k < n by omega]

/-- The bits below n that a test selects, taken off one after another where they are set. -/
theorem bit_forN_sub (c : Nat → Bool) (n v k : Nat) :
    bit (forN n (fun i m => if bit m i && c i then m - 2 ^ i else m) v) k = (bit v k && !(decide (k < n) && c k)) := by
  induction n with
  | zero => simp [forN]
  | succ n ih =>
    have hbit (m : Nat) : bit (if bit m n && c n then m - 2 ^ n else m) k = (bit m k && !(c n && decide (k = n))) := by
      by_cases h : (bit m n && c n) = true
      · obtain ⟨hb, hc⟩ := Bool.and_eq_true_iff.mp h
        have hclear : m - 2 ^ n = clearBits m (2 ^ n) := by rw [clearBits, and_two_pow_eq, if_pos hb]
        rw [if_pos h, hclear, bit, clearBits_testBit, Nat.testBit_two_pow, hc, bit]
        simp only [eq_comm, Bool.true_and]
      · rw [if_neg h]
        by_cases hk : k = n
        · subst hk
          cases hb : bit m k <;> simp [hb] at h ⊢
          exact h
        · simp [hk]
    rw [forN, hbit, ih]
    by_cases hk : k = n
    · subst hk
      simp
    · simp [hk, show k < n + 1 ↔ k < n by omega]

/-- A number that holds the bits below n that a test selects is 0 where it selects none. -/
theorem ne_zero_iff_of_bits {c : Nat → Bool} {n v : Nat} (hv : ∀ k, bit v k = (decide (k < n) && c k)) :
    v ≠ 0 ↔ ∃ k < n, c k = true := by
  constructor
  · intro h
    obtain ⟨k, hk⟩ := Nat.exists_testBit_of_ne_zero h
    have := (hv k).symm.trans hk
    simp at this
    exact ⟨k, this⟩
  · rintro ⟨k, hk, hc⟩ rfl
    have := hv k
    simp [bit, hk, hc] at this

end Sys2Proof.Machine

/-!
SUPPORT. The rules of the trips, one for each part of an update of the sources: the log (R303), the pairs (R301, R302) and the arm
requests (R112, R114, R115).
-/
namespace Sys2Proof.Machine

/-! ### The sources and what they are mapped to (R300, R301) -/

/-- More places may have changed. -/
theorem RegsBut.mono {ks ls : List Nat} {s t : State} (h : RegsBut ks s t) (hs : ∀ k ∈ ks, k ∈ ls) : RegsBut ls s t :=
  fun f i j hk => h f i j fun hm => hk (hs _ hm)

/-- One change after another. -/
theorem RegsBut.trans {ks : List Nat} {s t u : State} (h : RegsBut ks s t) (hu : RegsBut ks t u) : RegsBut ks s u :=
  fun f i j hk => (hu f i j hk).trans (h f i j hk)

/-- The fields that show the sources and their mapping: LEVEL and FLEVEL, and the words of MAP (R300, R301, R307). -/
abbrev sourcePlace (k : Nat) : Prop :=
  k / 32 = 0x2013100C ∨ k / 32 = 0x20131010 ∨ (0x20131100 ≤ k / 32 ∧ k / 32 < 0x201311A0)

/-- The fields of the sources and their mapping are as before. -/
def KeepsSources (s t : State) : Prop := ∀ (f : Fld) (i j : Nat), sourcePlace (f.key i j) → t.rd f i j = s.rd f i j

/-- One change after another. -/
theorem KeepsSources.trans {s t u : State} (h : KeepsSources s t) (hu : KeepsSources t u) : KeepsSources s u :=
  fun f i j hp => (hu f i j hp).trans (h f i j hp)

/-- Changes at other places keep the sources. -/
theorem RegsBut.keepsSources {ks : List Nat} {s t : State} (h : RegsBut ks s t) (hk : ∀ k ∈ ks, ¬ sourcePlace k) : KeepsSources s t :=
  fun f i j hp => h f i j fun hm => hk _ hm hp

section
variable {s t : State} (h : KeepsSources s t)
include h

/-- The sources asserted are the same. -/
theorem KeepsSources.tripSources : tripSources t = tripSources s := by
  unfold Machine.tripSources
  rw [h _ _ _ (by decide), h _ _ _ (by decide), h _ _ _ (by decide)]

/-- The masks mapped to asserted sources. -/
theorem KeepsSources.mapped {f : Fld} (hf : ∀ j < 40, sourcePlace (f.key 0 j)) :
    forN 40 (fun j m => if bit (Machine.tripSources t) j then m ||| t.rd f 0 j else m) 0 =
      forN 40 (fun j m => if bit (Machine.tripSources s) j then m ||| s.rd f 0 j else m) 0 :=
  forN_congr (fun j hj m => by rw [h.tripSources, h f 0 j (hf j hj)]) 0

/-- The pairs mapped to them are the same. -/
theorem KeepsSources.tripPairs : tripPairs t = tripPairs s := h.mapped (by decide)

/-- The arms mapped to them are the same. -/
theorem KeepsSources.tripArms : tripArms t = tripArms s := h.mapped (by decide)

end

/-! ### The log of the trips (R303) -/

/-- The fields of TSTATUS that show the log. -/
abbrev logKeys : List Nat := [TRIP_TSTATUS_EVT.key 0 0, TRIP_TSTATUS_EVT_LEVEL.key 0 0, TRIP_TSTATUS_EVT_LOST.key 0 0]

/-- The log's level shown. -/
theorem regsBut_tripStatus (s : State) :
    RegsBut [TRIP_TSTATUS_EVT.key 0 0, TRIP_TSTATUS_EVT_LEVEL.key 0 0] s (tripStatus s) :=
  ((RegsBut.refl _ s).wr (by decide) _).wr (by decide) _

/-- A record changes nothing but the log and the fields that show it. -/
theorem pushTrip_rest (s : State) (again : Bool) (r : TripRec) :
    ∃ log, (pushTrip s again r).sig = { s.sig with trip := { s.sig.trip with log := log } } ∧ (pushTrip s again r).fab = s.fab ∧
      RegsBut logKeys s (pushTrip s again r) := by
  unfold pushTrip
  dsimp only
  split
  · exact ⟨_, rfl, rfl, .refl _ s⟩
  · split
    · exact ⟨s.sig.trip.log, rfl, rfl, (RegsBut.refl _ s).wr (by decide) 1⟩
    · exact ⟨_, rfl, rfl, (regsBut_tripStatus (s.updTrip _)).mono (by decide)⟩

/-- The first record of an edge joins a log that has room, and is lost at a full one. -/
theorem pushTrip_first (s : State) (r : TripRec) :
    (16 ≤ s.sig.trip.log.length →
        (pushTrip s false r).on TRIP_TSTATUS_EVT_LOST = true ∧ (pushTrip s false r).sig.trip.log = s.sig.trip.log) ∧
      (s.sig.trip.log.length < 16 → (pushTrip s false r).sig.trip.log = s.sig.trip.log ++ [r]) := by
  constructor
  · intro h
    have he : pushTrip s false r = s.raise TRIP_TSTATUS_EVT_LOST := if_pos h
    rw [he]
    exact ⟨by rw [State.on, State.raise, State.rd_wr_same]; rfl, rfl⟩
  · intro h
    have he : pushTrip s false r = tripStatus (s.updTrip (fun t => { t with log := t.log ++ [r] })) := if_neg (Nat.not_le.mpr h)
    rw [he]
    rfl

/-! ### The pairs that trip (R301, R302) -/

/-- A pair's hidden state read after one was changed. -/
theorem State.pwm_updPwm (s : State) (n k : Nat) (f : PwmSt → PwmSt) :
    (s.updPwm n f).pwm k = if k = n then f (s.pwm n) else s.pwm k := Sp.get_set _ _ _ _ _

/-- A pair with both outputs off from an edge, nothing waiting. -/
def PwmSt.off (x : PwmSt) (edge : Nat) : PwmSt :=
  { x with
    onA := false, onB := false, pend := none, refresh := false
    aOff := if x.onA then edge else x.aOff, bOff := if x.onB then edge else x.bOff
    lastOffB := if x.onB then true else if x.onA then false else x.lastOffB }

/-- A pair tripped on an edge: off until the next reload. -/
def PwmSt.tripped (x : PwmSt) (edge : Nat) : PwmSt := { x with wait := true }.off edge

/-- The places a pair's trip writes. -/
abbrev tripKeys (n : Nat) : List Nat := [PWM_STATUS_TRIP.key n 0, PWM_STATUS_OUT.key n 0]

section
variable (s : State) (n edge : Nat)

/-- The pair that trips, and every other. -/
theorem pwm_pwmTrip (k : Nat) : (pwmTrip s n edge).pwm k = if k = n then (s.pwm n).tripped edge else s.pwm k := by
  have hpwm : (pwmTrip s n edge).pwm k =
      (((s.raise PWM_STATUS_TRIP n).updPwm n (fun x => { x with wait := true })).updPwm n (·.off edge)).pwm k := rfl
  rw [hpwm, State.pwm_updPwm, State.pwm_updPwm, State.pwm_updPwm]
  by_cases hk : k = n
  · rw [if_pos hk, if_pos hk, if_pos rfl]
    rfl
  · rw [if_neg hk, if_neg hk, if_neg hk]
    rfl

/-- A pair's trip writes its STATUS only. -/
theorem regsBut_pwmTrip : RegsBut (tripKeys n) s (pwmTrip s n edge) :=
  ((RegsBut.refl (tripKeys n) s).wr List.mem_cons_self 1).wr (List.mem_cons_of_mem _ List.mem_cons_self) _

/-- Of the hidden state, a pair's trip changes the pairs only. -/
theorem pwmTrip_rest : ∃ pwms, (pwmTrip s n edge).sig = { s.sig with pwms := pwms } ∧ (pwmTrip s n edge).fab = s.fab :=
  ⟨_, rfl, rfl⟩

/-- The places of TRIP and of OUT in a pair's STATUS. -/
theorem key_pwmStatus (k : Nat) : PWM_STATUS_TRIP.key k 0 = (0x20130024 + k * 0x100) * 32 ∧
    PWM_STATUS_OUT.key k 0 = (0x20130024 + k * 0x100) * 32 + 8 := by
  simp [Fld.key, Fld.addr, Blk.inst, PWM_STATUS_TRIP, PWM_STATUS_OUT, Blk.base, Blk.stride]
  omega

/-- A trip of pair n writes the latch of no other pair. -/
theorem key_pwmStatus_inj {k n : Nat} (h : PWM_STATUS_TRIP.key k 0 ∈ tripKeys n) : k = n := by
  simp only [List.mem_cons, List.not_mem_nil, or_false, key_pwmStatus] at h
  omega

/-- TRIP and OUT of a pair's STATUS lie apart. -/
theorem key_pwmOut_ne : PWM_STATUS_TRIP.key n 0 ≠ PWM_STATUS_OUT.key n 0 := by
  simp [key_pwmStatus]

/-- The latches after a pair's trip. -/
theorem on_pwmTrip (k : Nat) : (pwmTrip s n edge).on PWM_STATUS_TRIP k = (s.on PWM_STATUS_TRIP k || decide (k = n)) := by
  by_cases hk : k = n
  · subst hk
    have hrd : (pwmTrip s k edge).rd PWM_STATUS_TRIP k = 1 :=
      (State.rd_wr_ne _ _ _ _ _ _ _ _ (key_pwmOut_ne k)).trans (State.rd_wr_same s _ 1 k 0)
    simp [State.on, hrd]
  · have hrd : (pwmTrip s n edge).rd PWM_STATUS_TRIP k = s.rd PWM_STATUS_TRIP k :=
      regsBut_pwmTrip s n edge _ _ _ fun hm => hk (key_pwmStatus_inj hm)
    simp [State.on, hrd, hk]

end

/-- The pairs below m of a mask trip that have not. -/
def tripMasked (pairs edge m : Nat) (s : State) : State :=
  forN m (fun n s => if bit pairs n && !(s.on PWM_STATUS_TRIP n) then pwmTrip s n edge else s) s

section
variable (pairs edge m : Nat) (s : State)

/-- One more pair. -/
theorem tripMasked_succ : tripMasked pairs edge (m + 1) s =
    if bit pairs m && !((tripMasked pairs edge m s).on PWM_STATUS_TRIP m) then pwmTrip (tripMasked pairs edge m s) m edge
    else tripMasked pairs edge m s := rfl

/-- Nothing changes but the pairs and their STATUS. -/
theorem tripMasked_rest : ∃ pwms, (tripMasked pairs edge m s).sig = { s.sig with pwms := pwms } ∧
    (tripMasked pairs edge m s).fab = s.fab ∧
    RegsBut ((List.range m).flatMap tripKeys) s (tripMasked pairs edge m s) := by
  induction m with
  | zero => exact ⟨s.sig.pwms, rfl, rfl, .refl _ s⟩
  | succ m ih =>
    obtain ⟨pwms, hsig, hfab, hregs⟩ := ih
    replace hregs := hregs.mono (ls := (List.range (m + 1)).flatMap tripKeys) fun k hk => by
      obtain ⟨n, hn, hk⟩ := List.mem_flatMap.mp hk
      exact List.mem_flatMap.mpr ⟨n, List.mem_range.mpr (by have := List.mem_range.mp hn; omega), hk⟩
    rw [tripMasked_succ]
    split
    · obtain ⟨pwms', hsig', hfab'⟩ := pwmTrip_rest (tripMasked pairs edge m s) m edge
      refine ⟨pwms', by rw [hsig', hsig], hfab'.trans hfab, hregs.trans ?_⟩
      exact (regsBut_pwmTrip _ m edge).mono fun k hk => List.mem_flatMap.mpr ⟨m, List.mem_range.mpr (Nat.lt_succ_self m), hk⟩
    · exact ⟨pwms, hsig, hfab, hregs⟩

/-- The latches of the pairs below m. -/
theorem on_tripMasked (k : Nat) :
    (tripMasked pairs edge m s).on PWM_STATUS_TRIP k = (s.on PWM_STATUS_TRIP k || (decide (k < m) && bit pairs k)) := by
  induction m with
  | zero => simp [tripMasked, forN]
  | succ m ih =>
    rw [tripMasked_succ]
    by_cases hk : k = m
    · subst hk
      cases hp : bit pairs k <;> cases hs : (tripMasked pairs edge k s).on PWM_STATUS_TRIP k <;> simp_all [on_pwmTrip]
    · have hstep : ∀ b : Bool, (if b then pwmTrip (tripMasked pairs edge m s) m edge else tripMasked pairs edge m s).on
          PWM_STATUS_TRIP k = (tripMasked pairs edge m s).on PWM_STATUS_TRIP k := by
        intro b
        cases b <;> simp [on_pwmTrip, hk]
      rw [hstep, ih]
      simp [show k < m + 1 ↔ k < m by omega]

/-- Of the pairs below m, those of the mask that had not tripped do. -/
theorem pwm_tripMasked (k : Nat) :
    (tripMasked pairs edge m s).pwm k =
      if k < m ∧ bit pairs k = true ∧ s.on PWM_STATUS_TRIP k = false then (s.pwm k).tripped edge else s.pwm k := by
  induction m with
  | zero => simp [tripMasked, forN]
  | succ m ih =>
    rw [tripMasked_succ, on_tripMasked]
    by_cases hk : k = m
    · subst hk
      have hpwm : (tripMasked pairs edge k s).pwm k = s.pwm k := by rw [ih, if_neg fun h => Nat.lt_irrefl k h.1]
      cases hp : bit pairs k <;> cases hs : s.on PWM_STATUS_TRIP k <;> simp [pwm_pwmTrip, hpwm]
    · have hstep : ∀ b : Bool, (if b then pwmTrip (tripMasked pairs edge m s) m edge else tripMasked pairs edge m s).pwm k =
          (tripMasked pairs edge m s).pwm k := by
        intro b
        cases b <;> simp [pwm_pwmTrip, hk]
      rw [hstep, ih]
      simp only [show k < m + 1 ↔ k < m by omega]

end

/-! ### The arms whose requests rise (R112, R114, R115) -/

/-- The place of the arms' block latches. -/
abbrev armLatchKey : Nat := SYS_GCS_BLOCK_ARM.key 0 0

/-- Arm k's block latch is set. -/
abbrev ArmLatched (s : State) (k : Nat) : Prop := bit (s.rd SYS_GCS_BLOCK_ARM) k = true

/-- Bits below the width of a field are kept. -/
theorem bit_mod_two_pow {k w : Nat} (h : k < w) (v : Nat) : bit (v % 2 ^ w) k = bit v k := by
  rw [bit, Nat.testBit_mod_two_pow, decide_eq_true h, Bool.true_and, bit]

/-- The sum of distinct powers of two holds their bits. -/
theorem bit_sumOf_two_pow {l : List Nat} (hl : l.Nodup) (k : Nat) : bit (sumOf (fun k => 2 ^ k) l) k = decide (k ∈ l) := by
  induction l generalizing k with
  | nil => simp [sumOf, bit]
  | cons a l ih =>
    obtain ⟨ha, hl⟩ := List.nodup_cons.mp hl
    have hfree : 2 ^ a &&& sumOf (fun k => 2 ^ k) l = 0 := by
      rw [Nat.and_comm, and_two_pow_eq, ih hl, if_neg (by simpa using ha)]
    rw [sumOf, bit, testBit_add_apart k _ _ hfree, Nat.testBit_two_pow, ← bit, ih hl]
    simp [List.mem_cons, eq_comm]

/-- The arms of a mask are among those of it and their partners. -/
theorem bit_withPartners {mask k : Nat} (hk : k < 8) (h : bit mask k = true) : bit (withPartners mask) k = true := by
  have hall (n : Nat) (hn : k < n) : bit (forN n (fun k m => if bit mask k then m ||| 2 ^ k ||| 2 ^ partner k else m) 0) k = true := by
    induction n with
    | zero => omega
    | succ n ih =>
      rw [forN]
      by_cases hkn : k = n
      · subst hkn
        rw [if_pos h, bit_or_two_pow, bit_or_two_pow]
        simp
      · have := ih (by omega)
        split
        · rw [bit_or_two_pow, bit_or_two_pow, this]
          rfl
        · exact this
  exact hall 8 hk

section
variable (s : State)

/-- An arm's latch set. -/
theorem tripsBut_setArmLatch (k : Nat) : TripsBut [armLatchKey] s (setArmLatch s k) :=
  .wr (.wr (.refl _ s) (.inr List.mem_cons_self) _) (.inl (off_trips_high (.inl rfl) (by decide) k 0)) _

/-- The latches after one was set. -/
theorem bit_setArmLatch {j : Nat} (hj : j < 8) (k : Nat) :
    bit ((setArmLatch s k).rd SYS_GCS_BLOCK_ARM) j = (bit (s.rd SYS_GCS_BLOCK_ARM) j || decide (j = k)) := by
  have hne : armLatchKey ≠ ARM_GSTATUS_ARM_BLK.key k 0 := fun e =>
    off_trips_high (f := ARM_GSTATUS_ARM_BLK) (.inl rfl) (by decide) k 0 (e ▸ .inl (by decide))
  rw [setArmLatch, State.raise, State.rd_wr_ne _ _ _ _ _ _ _ _ hne, State.orIn, State.rd_wr_same]
  rw [bit_mod_two_pow (show j < SYS_GCS_BLOCK_ARM.width from hj), bit_or_two_pow]

/-- The latches of a set of arms. -/
theorem setArmLatches_leaves (mask : Nat) : TripsBut [armLatchKey] s (setArmLatches s mask) ∧
    ∀ j < 8, bit ((setArmLatches s mask).rd SYS_GCS_BLOCK_ARM) j = (bit (s.rd SYS_GCS_BLOCK_ARM) j || bit mask j) := by
  have hall (n : Nat) : ∀ j < 8, bit ((forN n (fun k s => if bit mask k then setArmLatch s k else s) s).rd SYS_GCS_BLOCK_ARM) j =
      (bit (s.rd SYS_GCS_BLOCK_ARM) j || (decide (j < n) && bit mask j)) := by
    intro j hj
    induction n with
    | zero => simp [forN]
    | succ n ih =>
      rw [forN]
      by_cases hjn : j = n
      · subst hjn
        cases hm : bit mask j <;> simp [bit_setArmLatch _ hj, ih]
      · split
        · simp [bit_setArmLatch _ hj, ih, hjn, show j < n + 1 ↔ j < n by omega]
        · simp [ih, show j < n + 1 ↔ j < n by omega]
  refine ⟨.forN (.refl _ s) fun k _ t => .ite (tripsBut_setArmLatch t k) (.refl _ t), fun j hj => ?_⟩
  rw [setArmLatches, hall 8 j hj, decide_eq_true hj, Bool.true_and]

/-- A record of several arms. -/
theorem tripsBut_regroup (ks : List Nat) (e : EvtRec) : TripsBut ks s (regroup s e) :=
  .ite (.rest (.refl ks s) rfl rfl rfl) (tripsBut_pushEvt s e)

/-- The arms' latch field is kept where nothing of the trips has changed. -/
theorem TripsBut.armLatch {s t : State} (h : TripsBut [] s t) : t.rd SYS_GCS_BLOCK_ARM = s.rd SYS_GCS_BLOCK_ARM :=
  h.regs _ _ _ (.inl (by decide)) List.not_mem_nil

/-- More places may have changed. -/
theorem TripsBut.mono {s t : State} (h : TripsBut [] s t) (ks : List Nat) : TripsBut ks s t :=
  ⟨h.fab, h.sig, fun f i j hp _ => h.regs f i j hp List.not_mem_nil⟩

/-- GSTATUS.SIMUL of the arms of a mask. -/
theorem tripsBut_simul (mask : Nat) :
    TripsBut [] s (forN 8 (fun k s => s.raiseIf (bit mask k) ARM_GSTATUS_SIMUL k) s) :=
  .forN (.refl _ s) fun k _ t => .ite (.wr (.refl _ t) (.inl (off_trips_high (.inl rfl) (by decide) k 0)) 1) (.refl _ t)

/-- Each arm whose request has risen has its latch set, and of the trips' own places no other changes. -/
theorem groupRequests_leaves (ns : Nat) (again : Bool) {ks : List Nat} (hks : ks.Nodup) (hlt : ∀ k ∈ ks, k < 8) :
    TripsBut [armLatchKey] s (groupRequests s ns again ks) ∧ ∀ k ∈ ks, ArmLatched (groupRequests s ns again ks) k := by
  match ks with
  | [] => exact ⟨.refl _ s, fun _ hk => absurd hk List.not_mem_nil⟩
  | [k] =>
    have hpush := tripsBut_pushEvt (ks := []) (setArmLatch s k) ⟨ns, 12, false, 2 ^ k, 0, 3⟩
    refine ⟨(tripsBut_setArmLatch s k).trans (hpush.mono _), fun j hj => ?_⟩
    obtain rfl := List.mem_singleton.mp hj
    rw [ArmLatched, groupRequests, hpush.armLatch, bit_setArmLatch s (hlt _ hj)]
    simp
  | a :: b :: l =>
    let mask := sumOf (fun k => 2 ^ k) (a :: b :: l)
    let u := (if again then regroup else pushEvt) s ⟨ns, 12, true, mask, 0, 4⟩
    have hgroup : TripsBut [] s u := by
      cases again
      · exact tripsBut_pushEvt s _
      · exact tripsBut_regroup s [] _
    obtain ⟨hlatch, hbits⟩ := setArmLatches_leaves u (withPartners mask)
    have hsimul := tripsBut_simul (setArmLatches u (withPartners mask)) mask
    refine ⟨((hgroup.mono _).trans hlatch).trans (hsimul.mono _), fun k hk => ?_⟩
    have hmask : bit mask k = true := by rw [bit_sumOf_two_pow hks]; exact decide_eq_true hk
    have hbit : bit ((setArmLatches u (withPartners mask)).rd SYS_GCS_BLOCK_ARM) k = true := by
      rw [hbits k (hlt k hk), bit_withPartners (hlt k hk) hmask, Bool.or_true]
    exact (congrArg (bit · k) hsimul.armLatch).trans hbit

/-- The arms whose requests rise. -/
def armsRisen (s : State) : Nat :=
  forN 8 (fun k m => if bit (tripArms s) k && !(bit (s.rd SYS_GCS_BLOCK_ARM_REQ) k) then m ||| 2 ^ k else m) 0

/-- An arm's request rises where it is mapped to an asserted source and was not requested. -/
theorem bit_armsRisen (k : Nat) :
    bit (armsRisen s) k = (decide (k < 8) && (bit (tripArms s) k && !(bit (s.rd SYS_GCS_BLOCK_ARM_REQ) k))) := by
  rw [armsRisen, bit_forN_or (fun k => bit (tripArms s) k && !(bit (s.rd SYS_GCS_BLOCK_ARM_REQ) k)), bit, Nat.zero_testBit,
    Bool.false_or]

/-- The requests shown, with those that have risen on the edge. -/
def State.showRequests (s : State) (requests risen : Nat) : State :=
  (s.wr SYS_GCS_BLOCK_ARM_REQ requests).updTrip (fun t => { t with riseArms := risen })

/-- Showing the requests writes ARM_REQ only. -/
theorem regsBut_showRequests (requests risen : Nat) : RegsBut [SYS_GCS_BLOCK_ARM_REQ.key 0 0] s (s.showRequests requests risen) :=
  (RegsBut.refl _ s).wr List.mem_cons_self requests

/-- What is shown, and that of the hidden state the arms that have risen alone change. -/
theorem showRequests_rest (requests risen : Nat) : (s.showRequests requests risen).fab = s.fab ∧
    (s.showRequests requests risen).sig = { s.sig with trip := { s.sig.trip with riseArms := risen } } ∧
    (s.showRequests requests risen).rd SYS_GCS_BLOCK_ARM_REQ = requests % 2 ^ 8 := ⟨rfl, rfl, State.rd_wr_same s _ requests 0 0⟩

/-- The arm requests in two parts: what is shown, and the reaction to those that rise. -/
theorem armRequests_eq (ns before : Nat) : armRequests s ns before =
    if armsRisen s = 0 then s.showRequests (tripArms s) (before ||| armsRisen s)
    else groupRequests (s.showRequests (tripArms s) (before ||| armsRisen s)) ns (before != 0)
      ((upTo 8).filter (fun k => bit (before ||| armsRisen s) k)) := rfl

/-- What the arm requests leave of the trips: the requests shown, and the latches of the arms whose requests rise. -/
theorem armRequests_leaves (ns before : Nat) :
    TripsBut [armLatchKey] (s.showRequests (tripArms s) (before ||| armsRisen s)) (armRequests s ns before) ∧
      ∀ k < 8, bit (tripArms s) k = true → bit (s.rd SYS_GCS_BLOCK_ARM_REQ) k = false → ArmLatched (armRequests s ns before) k := by
  rw [armRequests_eq]
  split
  · refine ⟨.refl _ _, fun k hk hnew hold => ?_⟩
    have hbit := bit_armsRisen s k
    simp_all [bit]
  · obtain ⟨hkept, hlatched⟩ := groupRequests_leaves (s.showRequests (tripArms s) (before ||| armsRisen s)) ns (before != 0)
      (ks := (upTo 8).filter (fun k => bit (before ||| armsRisen s) k)) (List.nodup_range.filter _)
      fun k hk => List.mem_range.mp (List.mem_filter.mp hk).1
    refine ⟨hkept, fun k hk hnew hold => hlatched k (List.mem_filter.mpr ⟨List.mem_range.mpr hk, ?_⟩)⟩
    rw [bit, Nat.testBit_or, ← bit, ← bit, bit_armsRisen, hnew, hold, decide_eq_true hk]
    exact Bool.or_true _

end

end Sys2Proof.Machine

/-!
SUPPORT. An update of the sources on one edge: the rises logged, the pairs tripped, the arm requests shown (R114, R301, R303).
-/
namespace Sys2Proof.Machine

/-! ### The sources that rise on an edge (R301, R303) -/

/-- The sources that are asserted and were not. -/
def sourcesRisen (s : State) : Nat :=
  forN 40 (fun j m => if bit (tripSources s) j && !(bit s.sig.trip.prev j) then m + 2 ^ j else m) 0

/-- A source has risen. -/
def Rose (s : State) : Prop := ∃ j : Fin 40, bit (tripSources s) j = true ∧ bit s.sig.trip.prev j = false

/-- A source of the 40 that is asserted and was not. -/
theorem bit_sourcesRisen (s : State) (k : Nat) :
    bit (sourcesRisen s) k = (decide (k < 40) && (bit (tripSources s) k && !(bit s.sig.trip.prev k))) :=
  bit_forN_add (fun j => bit (tripSources s) j && !(bit s.sig.trip.prev j)) 40 k

/-- The mask is 0 where none has risen. -/
theorem sourcesRisen_ne_zero (s : State) : sourcesRisen s ≠ 0 ↔ Rose s := by
  rw [ne_zero_iff_of_bits (bit_sourcesRisen s)]
  constructor
  · rintro ⟨k, hk, h⟩
    exact ⟨⟨k, hk⟩, by simpa using h⟩
  · rintro ⟨k, h⟩
    exact ⟨k, k.isLt, by simpa using h⟩

/-- The sources that have risen on an edge before the present update. -/
def risenBefore (s : State) (edge : Nat) : Nat := if s.sig.trip.riseEdge == edge then s.sig.trip.riseSrc else 0

/-- The time of an edge in ns. -/
def edgeNs (s : State) (edge : Nat) : Nat := (s.timeAfter (edge - s.fab) / 2 ^ 32) % 2 ^ 64

/-- The sources of an edge noted, with all that have risen on it. -/
def State.noteSources (s : State) (edge sources risen : Nat) : State :=
  s.updTrip (fun t => { t with prev := sources, riseEdge := edge, riseSrc := risen })

/-- The sources of an edge, of which some have just risen and some before, noted and logged. -/
def noteRise (s : State) (edge ns sources before risen : Nat) : State :=
  let s := s.noteSources edge sources (before ||| risen)
  if risen = 0 then s else pushTrip (s.raise TRIP_TSTATUS_TRIPPED) (before != 0) ⟨ns, risen⟩

/-- The sources noted, and those that have risen logged. -/
def risesLogged (s : State) (edge : Nat) : State :=
  noteRise s edge (edgeNs s edge) (tripSources s) (risenBefore s edge) (sourcesRisen s)

/-- The fields of TSTATUS that a rise can change. -/
abbrev riseKeys : List Nat := TRIP_TSTATUS_TRIPPED.key 0 0 :: logKeys

section
variable (s : State) (edge ns sources before : Nat)

/-- Noting a rise changes no more than the log, what is noted, and TSTATUS. -/
theorem noteRise_rest (risen : Nat) : (∃ log n, (noteRise s edge ns sources before risen).sig =
      { s.sig with trip := { s.sig.trip with log := log, prev := sources, riseEdge := edge, riseSrc := n } }) ∧
    (noteRise s edge ns sources before risen).fab = s.fab ∧ RegsBut riseKeys s (noteRise s edge ns sources before risen) := by
  unfold noteRise
  dsimp only
  split
  · exact ⟨⟨_, _, rfl⟩, rfl, .refl _ s⟩
  · obtain ⟨log, hsig, hfab, hregs⟩ := pushTrip_rest ((s.noteSources edge sources (before ||| risen)).raise TRIP_TSTATUS_TRIPPED)
      (before != 0) ⟨ns, risen⟩
    refine ⟨⟨log, _, hsig⟩, hfab, ?_⟩
    exact ((RegsBut.refl riseKeys (s.noteSources edge sources (before ||| risen))).wr List.mem_cons_self 1).trans
      (hregs.mono fun _ => List.mem_cons_of_mem _)

/-- The sources noted. -/
theorem prev_noteRise (risen : Nat) : (noteRise s edge ns sources before risen).sig.trip.prev = sources := by
  obtain ⟨⟨log, n, hsig⟩, -⟩ := noteRise_rest s edge ns sources before risen
  rw [hsig]

/-- Without a rise the log stays. -/
theorem noteRise_none : (noteRise s edge ns sources before 0).sig.trip.log = s.sig.trip.log := rfl

variable {risen : Nat} (h : risen ≠ 0)
include h

/-- A rise is logged with TRIPPED. -/
theorem noteRise_some : noteRise s edge ns sources before risen =
    pushTrip ((s.noteSources edge sources (before ||| risen)).raise TRIP_TSTATUS_TRIPPED) (before != 0) ⟨ns, risen⟩ := if_neg h

/-- A rise sets TRIPPED. -/
theorem noteRise_tripped : (noteRise s edge ns sources before risen).on TRIP_TSTATUS_TRIPPED = true := by
  obtain ⟨-, -, -, hregs⟩ := pushTrip_rest ((s.noteSources edge sources (before ||| risen)).raise TRIP_TSTATUS_TRIPPED)
    (before != 0) ⟨ns, risen⟩
  rw [noteRise_some _ _ _ _ _ h, State.on, hregs _ _ _ (by decide), State.raise, State.rd_wr_same]
  rfl

/-- The first rise of an edge is one record of the sources that have risen, or sets EVT_LOST at a full log. -/
theorem noteRise_first :
    (16 ≤ s.sig.trip.log.length → (noteRise s edge ns sources 0 risen).on TRIP_TSTATUS_EVT_LOST = true ∧
      (noteRise s edge ns sources 0 risen).sig.trip.log = s.sig.trip.log) ∧
    (s.sig.trip.log.length < 16 → (noteRise s edge ns sources 0 risen).sig.trip.log = s.sig.trip.log ++ [⟨ns, risen⟩]) := by
  rw [noteRise_some _ _ _ _ _ h]
  exact pushTrip_first ((s.noteSources edge sources (0 ||| risen)).raise TRIP_TSTATUS_TRIPPED) ⟨ns, risen⟩

end

/-! ### What the asserted sources act on (R114, R301) -/

/-- The pairs mapped to asserted sources trip, and the arm requests follow. -/
def actOnSources (s : State) (edge ns before : Nat) : State := armRequests (tripMasked (tripPairs s) edge 12 s) ns before

/-- The places of the pairs' trips. -/
abbrev pairKeys : List Nat := (List.range 12).flatMap tripKeys

section
variable (s : State) (edge ns before : Nat)

/-- The arm requests change no more of the trips' hidden state than the arms that have risen, and are shown. -/
theorem armRequests_rest : (∃ n, (armRequests s ns before).sig = { s.sig with trip := { s.sig.trip with riseArms := n } }) ∧
    (armRequests s ns before).fab = s.fab ∧ (armRequests s ns before).rd SYS_GCS_BLOCK_ARM_REQ = tripArms s % 2 ^ 8 := by
  obtain ⟨hkept, -⟩ := armRequests_leaves s ns before
  obtain ⟨hfab, hsig, hreq⟩ := showRequests_rest s (tripArms s) (before ||| armsRisen s)
  exact ⟨⟨_, hkept.sig.trans hsig⟩, hkept.fab.trans hfab, (hkept.regs _ _ _ (by decide) (by decide)).trans hreq⟩

/-- The arm requests leave every place of the trips but those of GCS_BLOCK. -/
theorem rd_armRequests {f : Fld} {i j : Nat} (hp : tripPlace (f.key i j))
    (ha : f.key i j ∉ [armLatchKey, SYS_GCS_BLOCK_ARM_REQ.key 0 0]) : (armRequests s ns before).rd f i j = s.rd f i j := by
  obtain ⟨hlatch, hreq⟩ := List.forall_mem_cons.mp (List.forall_mem_ne'.mpr ha)
  obtain ⟨hkept, -⟩ := armRequests_leaves s ns before
  rw [hkept.regs _ _ _ hp (by simpa using Ne.symm hlatch)]
  exact regsBut_showRequests s _ _ _ _ _ fun hm => ha (List.mem_cons_of_mem _ hm)

/-- Of the places of the trips, only those of GCS_BLOCK and of the pairs' STATUS change. -/
theorem rd_actOnSources {f : Fld} {i j : Nat} (hp : tripPlace (f.key i j))
    (ha : f.key i j ∉ [armLatchKey, SYS_GCS_BLOCK_ARM_REQ.key 0 0]) (hk : f.key i j ∉ pairKeys) :
    (actOnSources s edge ns before).rd f i j = s.rd f i j := by
  obtain ⟨-, -, -, hregs⟩ := tripMasked_rest (tripPairs s) edge 12 s
  exact (rd_armRequests _ ns before hp ha).trans (hregs f i j hk)

/-- The sources and their mapping stay. -/
theorem keepsSources_actOnSources : KeepsSources s (actOnSources s edge ns before) := fun f i j hp =>
  rd_actOnSources s edge ns before (by omega)
    (fun hm => (by decide : ∀ k ∈ [armLatchKey, SYS_GCS_BLOCK_ARM_REQ.key 0 0], ¬ sourcePlace k) _ hm hp)
    (fun hm => (by decide : ∀ k ∈ pairKeys, ¬ sourcePlace k) _ hm hp)

/-- The log, the sources noted and the edge stay; the pairs' hidden state is as their trips leave it. -/
theorem actOnSources_rest : (actOnSources s edge ns before).sig.trip.log = s.sig.trip.log ∧
    (actOnSources s edge ns before).sig.trip.prev = s.sig.trip.prev ∧
    (∀ k, (actOnSources s edge ns before).pwm k = (tripMasked (tripPairs s) edge 12 s).pwm k) ∧
    (actOnSources s edge ns before).fab = s.fab := by
  obtain ⟨pwms, hsig, hfab, -⟩ := tripMasked_rest (tripPairs s) edge 12 s
  obtain ⟨⟨n, hreq⟩, hfabReq, -⟩ := armRequests_rest (tripMasked (tripPairs s) edge 12 s) ns before
  unfold actOnSources State.pwm
  rw [hreq, hsig]
  exact ⟨rfl, rfl, fun _ => rfl, hfabReq.trans hfab⟩

/-- The latches of the pairs. -/
theorem on_actOnSources (n : Fin 12) :
    (actOnSources s edge ns before).on PWM_STATUS_TRIP n = (s.on PWM_STATUS_TRIP n || bit (tripPairs s) n) := by
  have hplace : ∀ n : Fin 12, tripPlace (PWM_STATUS_TRIP.key n 0) ∧
      PWM_STATUS_TRIP.key n 0 ∉ [armLatchKey, SYS_GCS_BLOCK_ARM_REQ.key 0 0] := by decide
  have hon := on_tripMasked (tripPairs s) edge 12 s n
  rw [decide_eq_true n.isLt, Bool.true_and] at hon
  rw [← hon, State.on, State.on, actOnSources, rd_armRequests _ ns before (hplace n).1 (hplace n).2]

/-- A pair of the mask that had not tripped does, every other is as it was. -/
theorem pwm_actOnSources (n : Fin 12) : (actOnSources s edge ns before).pwm n =
    if bit (tripPairs s) n = true ∧ s.on PWM_STATUS_TRIP n = false then (s.pwm n).tripped edge else s.pwm n := by
  obtain ⟨-, -, hpwm, -⟩ := actOnSources_rest s edge ns before
  rw [hpwm, pwm_tripMasked]
  simp only [n.isLt, true_and]

/-- The requests shown, and the latches of the arms whose requests rise. -/
theorem arms_actOnSources : (actOnSources s edge ns before).rd SYS_GCS_BLOCK_ARM_REQ = tripArms s % 2 ^ 8 ∧
    ∀ k < 8, bit (tripArms s) k = true → bit (s.rd SYS_GCS_BLOCK_ARM_REQ) k = false → ArmLatched (actOnSources s edge ns before) k := by
  obtain ⟨-, -, -, hregs⟩ := tripMasked_rest (tripPairs s) edge 12 s
  have harms : tripArms (tripMasked (tripPairs s) edge 12 s) = tripArms s := (hregs.keepsSources (by decide)).tripArms
  obtain ⟨-, hlatched⟩ := armRequests_leaves (tripMasked (tripPairs s) edge 12 s) ns before
  obtain ⟨-, -, hreq⟩ := armRequests_rest (tripMasked (tripPairs s) edge 12 s) ns before
  rw [harms, hregs _ _ _ (by decide)] at hlatched
  exact ⟨hreq.trans (by rw [harms]), hlatched⟩

end

/-- The whole update: the rises logged, the pairs tripped, the arm requests shown. -/
theorem tripUpdate_eq (s : State) (edge : Nat) : tripUpdate s edge =
    actOnSources (risesLogged s edge) edge (edgeNs s edge)
      (if s.sig.trip.riseEdge == edge then s.sig.trip.riseArms else 0) := by
  unfold tripUpdate actOnSources risesLogged noteRise State.noteSources risenBefore edgeNs sourcesRisen tripMasked
  rfl

/-- What the rises leave, seen from the state before. -/
theorem risesLogged_rest (s : State) (edge : Nat) : (∃ log n, (risesLogged s edge).sig =
      { s.sig with trip := { s.sig.trip with log := log, prev := tripSources s, riseEdge := edge, riseSrc := n } }) ∧
    (risesLogged s edge).fab = s.fab ∧ RegsBut riseKeys s (risesLogged s edge) := noteRise_rest ..

/-- The sources asserted are noted. -/
theorem prev_risesLogged (s : State) (edge : Nat) : (risesLogged s edge).sig.trip.prev = tripSources s := prev_noteRise ..

/-- Where no source rises the log stays. -/
theorem risesLogged_still {s : State} (h : ¬ Rose s) (edge : Nat) : (risesLogged s edge).sig.trip.log = s.sig.trip.log := by
  rw [risesLogged, not_not.mp (mt (sourcesRisen_ne_zero s).mp h)]
  exact noteRise_none ..

/-- Where a source rises TRIPPED is set. -/
theorem risesLogged_tripped {s : State} (h : Rose s) (edge : Nat) : (risesLogged s edge).on TRIP_TSTATUS_TRIPPED = true :=
  noteRise_tripped _ _ _ _ _ ((sourcesRisen_ne_zero s).mpr h)

/-- The first rise of an edge is one record, or is lost at a full log. -/
theorem risesLogged_first {s : State} (h : Rose s) {edge : Nat} (hfirst : s.sig.trip.riseEdge ≠ edge ∨ s.sig.trip.riseSrc = 0) :
    (16 ≤ s.sig.trip.log.length → (risesLogged s edge).on TRIP_TSTATUS_EVT_LOST = true ∧
      (risesLogged s edge).sig.trip.log = s.sig.trip.log) ∧
    (s.sig.trip.log.length < 16 → (risesLogged s edge).sig.trip.log = s.sig.trip.log ++ [⟨edgeNs s edge, sourcesRisen s⟩]) := by
  have hbefore : risenBefore s edge = 0 := by
    obtain hne | h0 := hfirst
    · exact if_neg (by simpa using hne)
    · rw [risenBefore, h0, ite_self]
  rw [risesLogged, hbefore]
  exact noteRise_first _ _ _ _ ((sourcesRisen_ne_zero s).mpr h)

/-- What an update of the sources on the present edge makes of the trips (R301, R303, R114). -/
def TripUpdated (s t : State) : Prop :=
  (∀ n : Fin 12, (bit (tripPairs t) n = true ∨ s.on PWM_STATUS_TRIP n = true → t.on PWM_STATUS_TRIP n = true) ∧
    (bit (tripPairs t) n = true → s.on PWM_STATUS_TRIP n = false →
      (t.pwm n).onA = false ∧ (t.pwm n).onB = false ∧ (t.pwm n).wait = true) ∧
    (bit (tripPairs t) n = false → t.pwm n = s.pwm n)) ∧
  (∀ k : Fin 8, bit (tripArms t) k = true → bit (s.rd SYS_GCS_BLOCK_ARM_REQ) k = false → bit (t.rd SYS_GCS_BLOCK_ARM) k = true) ∧
  t.rd SYS_GCS_BLOCK_ARM_REQ = tripArms t % 2 ^ 8 ∧ t.sig.trip.prev = tripSources t ∧ t.fab = s.fab ∧
  (let rose := ∃ j : Fin 40, bit (tripSources t) j = true ∧ bit s.sig.trip.prev j = false
   (¬ rose → t.sig.trip.log = s.sig.trip.log) ∧
   (rose → t.on TRIP_TSTATUS_TRIPPED = true) ∧
   (rose → s.sig.trip.riseEdge ≠ s.fab ∨ s.sig.trip.riseSrc = 0 →
     (16 ≤ s.sig.trip.log.length → t.on TRIP_TSTATUS_EVT_LOST = true ∧ t.sig.trip.log = s.sig.trip.log) ∧
     (s.sig.trip.log.length < 16 → ∃ r, t.sig.trip.log = s.sig.trip.log ++ [r] ∧
       ∀ j : Fin 40, bit r.src j = (bit (tripSources t) j && !bit s.sig.trip.prev j))))

/-- Nothing before the pairs' trips touches their STATUS. -/
theorem on_pwm_risesLogged (s : State) (edge : Nat) (n : Fin 12) :
    (risesLogged s edge).on PWM_STATUS_TRIP n = s.on PWM_STATUS_TRIP n := by
  obtain ⟨-, -, hregs⟩ := risesLogged_rest s edge
  rw [State.on, State.on, hregs _ _ _ ((by decide : ∀ n : Fin 12, PWM_STATUS_TRIP.key n 0 ∉ riseKeys) n)]

/-- Nothing before the pairs' trips touches their hidden state. -/
theorem pwm_risesLogged (s : State) (edge n : Nat) : (risesLogged s edge).pwm n = s.pwm n := by
  obtain ⟨⟨log, k, hsig⟩, -, -⟩ := risesLogged_rest s edge
  rw [State.pwm, State.pwm, hsig]

/-- What acts on the sources leaves TSTATUS. -/
theorem on_rise_actOnSources (s : State) (edge ns before : Nat) {f : Fld} (hf : f.key 0 0 ∈ riseKeys) :
    (actOnSources s edge ns before).on f = s.on f := by
  have hplace : ∀ k ∈ riseKeys, tripPlace k ∧ k ∉ [armLatchKey, SYS_GCS_BLOCK_ARM_REQ.key 0 0] ∧ k ∉ pairKeys := by decide
  obtain ⟨hp, ha, hk⟩ := hplace _ hf
  rw [State.on, State.on, rd_actOnSources s edge ns before hp ha hk]

/-- The update on the present edge. -/
theorem tripUpdate_leaves (s : State) : KeepsSources s (tripUpdate s s.fab) ∧ TripUpdated s (tripUpdate s s.fab) := by
  rw [tripUpdate_eq]
  generalize (if s.sig.trip.riseEdge == s.fab then s.sig.trip.riseArms else 0) = before
  generalize hns : edgeNs s s.fab = ns
  obtain ⟨-, hfab, hregs⟩ := risesLogged_rest s s.fab
  have hprev := prev_risesLogged s s.fab
  have hstill := fun h => risesLogged_still (s := s) h s.fab
  have htripped := fun h => risesLogged_tripped (s := s) h s.fab
  have hfirst := fun h => risesLogged_first (s := s) h (edge := s.fab)
  have honA := on_pwm_risesLogged s s.fab
  have hpwmA := pwm_risesLogged s s.fab
  generalize risesLogged s s.fab = a at *
  obtain ⟨hlog, hprevT, -, hfabT⟩ := actOnSources_rest a s.fab ns before
  obtain ⟨hreq, hlatched⟩ := arms_actOnSources a s.fab ns before
  have hkeeps := keepsSources_actOnSources a s.fab ns before
  have hrise : ∀ f : Fld, f.key 0 0 ∈ riseKeys → _ := fun f => on_rise_actOnSources a s.fab ns before
  have honT := on_actOnSources a s.fab ns before
  have hpwmT := pwm_actOnSources a s.fab ns before
  generalize actOnSources a s.fab ns before = t at *
  have hsources : KeepsSources s t := (hregs.keepsSources (by decide)).trans hkeeps
  have hrose : Rose s ↔ ∃ j : Fin 40, bit (tripSources t) j = true ∧ bit s.sig.trip.prev j = false := by
    rw [hsources.tripSources]; rfl
  have hon (n : Fin 12) : t.on PWM_STATUS_TRIP n = (s.on PWM_STATUS_TRIP n || bit (tripPairs t) n) := by
    rw [honT, honA, hkeeps.tripPairs]
  have hpwm (n : Fin 12) : t.pwm n =
      if bit (tripPairs t) n = true ∧ s.on PWM_STATUS_TRIP n = false then (s.pwm n).tripped s.fab else s.pwm n := by
    rw [hpwmT, honA, hpwmA, hkeeps.tripPairs]
  refine ⟨hsources, fun n => ⟨fun h => ?_, fun hnew hold => ?_, fun hnot => ?_⟩, fun k hnew hold => ?_, ?_, ?_, hfabT.trans hfab,
    fun hr => ?_, fun hr => ?_, fun hr hone => ?_⟩
  · rw [hon]
    obtain h | h := h <;> rw [h]
    · exact Bool.or_true _
    · rfl
  · rw [hpwm, if_pos ⟨hnew, hold⟩]
    exact ⟨rfl, rfl, rfl⟩
  · rw [hpwm, if_neg (by simp [hnot])]
  · refine hlatched k k.isLt (hkeeps.tripArms ▸ hnew) ?_
    rw [hregs _ _ _ (by decide)]
    exact hold
  · exact hkeeps.tripArms.symm ▸ hreq
  · rw [hprevT, hprev, hsources.tripSources]
  · exact hlog.trans (hstill fun h => hr (hrose.mp h))
  · rw [hrise _ (by decide)]
    exact htripped (hrose.mpr hr)
  · obtain ⟨hfull, hroom⟩ := hfirst (hrose.mpr hr) hone
    refine ⟨fun h => ⟨?_, hlog.trans (hfull h).2⟩, fun h => ⟨_, hlog.trans (hroom h), fun j => ?_⟩⟩
    · rw [hrise _ (by decide)]
      exact (hfull h).1
    · rw [bit_sourcesRisen, decide_eq_true j.isLt, Bool.true_and, hsources.tripSources]

end Sys2Proof.Machine

/-!
The filtered trip inputs, the event log of the trips and the start of a transaction on the driver bus (R298 to R304).
-/
namespace Sys2Proof.Machine

/-! ### The filtered inputs (R298, R299) -/

/-- An update that follows a write of LEVEL, seen from the state before the write. -/
theorem TripUpdated.of_level {s t : State} {v : Nat} (h : TripUpdated (s.wr TRIP_LEVEL_TRIP v) t) : TripUpdated s t := by
  have hkey : ∀ n : Fin 12, PWM_STATUS_TRIP.key n 0 ≠ TRIP_LEVEL_TRIP.key 0 0 := by decide
  have hon (n : Fin 12) : (s.wr TRIP_LEVEL_TRIP v).on PWM_STATUS_TRIP n = s.on PWM_STATUS_TRIP n := by
    rw [State.on, State.on, State.rd_wr_ne _ _ _ _ _ _ _ _ (hkey n)]
  have hreq : (s.wr TRIP_LEVEL_TRIP v).rd SYS_GCS_BLOCK_ARM_REQ = s.rd SYS_GCS_BLOCK_ARM_REQ :=
    State.rd_wr_ne _ _ _ _ _ _ _ _ (by decide)
  have hpwm (n : Nat) : (s.wr TRIP_LEVEL_TRIP v).pwm n = s.pwm n := rfl
  unfold TripUpdated at h ⊢
  simp only [hon, hreq, hpwm, State.wr_sig, State.wr_fab] at h
  exact h

/-- LEVEL written and the sources updated on the present edge. -/
theorem levelUpdate_leaves (s : State) (v : Nat) : TripUpdated s (tripUpdate (s.wr TRIP_LEVEL_TRIP v) s.fab) ∧
    ∀ i < 16, bit ((tripUpdate (s.wr TRIP_LEVEL_TRIP v) s.fab).rd TRIP_LEVEL_TRIP) i = bit v i := by
  obtain ⟨hsources, hupd⟩ := tripUpdate_leaves (s.wr TRIP_LEVEL_TRIP v)
  rw [State.wr_fab] at hsources hupd
  refine ⟨hupd.of_level, fun i hi => ?_⟩
  rw [hsources _ _ _ (by decide), State.rd_wr_same, bit_mod_two_pow (show i < TRIP_LEVEL_TRIP.width from hi)]

section
variable (s : State) (mask levels steady : Nat)

/-- The pins given whose filter asserts do, and the sources are updated. -/
theorem tripAssert_leaves : TripUpdated s (tripAssert s mask levels steady) ∧
    ∀ i < 16, bit ((tripAssert s mask levels steady).rd TRIP_LEVEL_TRIP) i =
      (bit (s.rd TRIP_LEVEL_TRIP) i || (bit mask i && tripAsserts s i (bit levels i) (s.fab - steady))) := by
  obtain ⟨hupd, hlevel⟩ := levelUpdate_leaves s (forN 16 (fun i m =>
    if bit mask i && tripAsserts s i (bit levels i) (s.fab - steady) then m ||| 2 ^ i else m) (s.rd TRIP_LEVEL_TRIP))
  refine ⟨hupd, fun i hi => (hlevel i hi).trans ?_⟩
  rw [bit_forN_or (fun i => bit mask i && tripAsserts s i (bit levels i) (s.fab - steady)), decide_eq_true hi, Bool.true_and]

/-- The pins given whose filter deasserts do, and the sources are updated. -/
theorem tripDeassert_leaves : TripUpdated s (tripDeassert s mask levels steady) ∧
    ∀ i < 16, bit ((tripDeassert s mask levels steady).rd TRIP_LEVEL_TRIP) i =
      (bit (s.rd TRIP_LEVEL_TRIP) i && !(bit mask i && tripDeasserts s i (bit levels i) (s.fab - steady))) := by
  obtain ⟨hupd, hlevel⟩ := levelUpdate_leaves s (forN 16 (fun i m =>
    if bit mask i && bit m i && tripDeasserts s i (bit levels i) (s.fab - steady) then m - 2 ^ i else m) (s.rd TRIP_LEVEL_TRIP))
  refine ⟨hupd, fun i hi => (hlevel i hi).trans ?_⟩
  simp only [Bool.and_comm (bit mask _) (bit _ _), Bool.and_assoc]
  rw [bit_forN_sub (fun i => bit mask i && tripDeasserts s i (bit levels i) (s.fab - steady)), decide_eq_true hi, Bool.true_and]

end

/-! ### Reads of the trips' registers (R303) -/

/-- A read of a register that answers with its word: that of a block other than SPIRE, QUEUE and LAW. -/
theorem readCmd_eq {s : State} {req : Req} {b : Blk} {i w : Nat} (h : Reads s req b i w) (hb : b ∉ [.spire, .queue, .law])
    (ht : target (b.inst i + w) = .reg b i w) (ha : (b.inst i + w) % 4 = 0) (hw : w % 4 = 0) :
    readCmd s req b i w = (regRead s b i w).1.answer OK ((regRead s b i w).2 % 2 ^ 32) := by
  obtain ⟨hc, hp, hreq⟩ := h
  simp only [List.mem_cons, List.not_mem_nil, or_false, not_or] at hb
  obtain ⟨hspire, hqueue, hlaw⟩ := hb
  have hread : busRead s req (b.inst i + w) 4 = ((regRead s b i w).1, .ok ((regRead s b i w).2 % 2 ^ 32)) := by
    unfold busRead
    simp [ht, hp, hspire, hlaw, popRefused, hqueue, hw, cutWord]
  rw [readCmd, access, onFab_on hc, readAnswer, hread, ht]
  simp [hreq, ha]

section
variable {s : State} {req : Req}

/-- Reading TEVT0 latches the oldest record. -/
theorem exec_tevtLatch (h : Reads s req .trip 0 0x200) :
    exec (.tevtLatch req) s = .next ((tevtLatch s).1.answer OK ((tevtLatch s).2 % 2 ^ 32)) :=
  congrArg Host.Outcome.next (readCmd_eq h (by decide) (by decide +kernel) (by decide) (by decide))

/-- The oldest record, where there is one, and the low word of its time. -/
theorem tevtLatch_eq (s : State) : tevtLatch s =
    (s.updTrip (fun t => { t with latched := t.log.head? }), match s.sig.trip.log with | [] => 0 | r :: _ => r.time % 2 ^ 32) := by
  unfold tevtLatch
  cases h : s.sig.trip.log with
  | nil => simp only [State.updTrip, h]; rfl
  | cons r l => simp only [State.updTrip, h]; rfl

/-- Reading TEVT3 takes the latched record. -/
theorem exec_tevtPop (h : Reads s req .trip 0 0x20C) :
    exec (.tevtPop req) s = .next ((tevtPop s).1.answer OK ((tevtPop s).2 % 2 ^ 32)) :=
  congrArg Host.Outcome.next (readCmd_eq h (by decide) (by decide +kernel) (by decide) (by decide))

/-- Without a latched record nothing is taken. -/
theorem tevtPop_none (h : s.sig.trip.latched = none) : tevtPop s = (s, 0) := by rw [tevtPop, h]

/-- The oldest record is removed; the word gives the rest of the latched one. -/
theorem tevtPop_some {r : TripRec} (h : s.sig.trip.latched = some r) : tevtPop s =
    (tripStatus (s.updTrip (fun t => { t with latched := none, log := t.log.tail })),
      r.src / 2 ^ 24 % 2 ^ 16 + (if 1 < sourceCount r.src then 2 ^ 16 else 0) + 2 ^ 17) := by
  rw [tevtPop, h]
  simp only [b2n, decide_eq_true_eq, mul_ite, Nat.mul_one, Nat.mul_zero]

/-! ### The driver bus (R304) -/

/-- Without a request, or with the bus disabled or busy, no transaction starts. -/
theorem drvStart_busy (h : s.on TRIP_DRV_CFG_EN = false ∨ s.sig.trip.busy ≠ none ∨ s.sig.trip.reqs = []) : drvStart s = s := by
  unfold drvStart
  cases hreqs : s.sig.trip.reqs with
  | nil => rfl
  | cons d ds =>
    refine if_pos ?_
    obtain hen | hbusy | hnone := h
    · simp [hen]
    · simp [Option.isSome_iff_ne_none.mpr hbusy]
    · exact absurd (hreqs.symm.trans hnone) (List.cons_ne_nil d ds)

/-- The head request takes the free bus. -/
theorem drvStart_free {d : DrvReq} {ds : List DrvReq} (hen : s.on TRIP_DRV_CFG_EN = true) (hfree : s.sig.trip.busy = none)
    (hreqs : s.sig.trip.reqs = d :: ds) : drvStart s =
      drvLevels (s.updTrip (fun x => { x with reqs := ds, busy := some d, busEnd := s.fab + drvClocks s })) := by
  rw [drvStart, hreqs]
  simp [hen, hfree]

end

/-- The levels of the FIFOs shown. -/
theorem regsBut_drvLevels (s : State) :
    RegsBut [TRIP_DRV_STATUS_REQ.key 0 0, TRIP_DRV_STATUS_RSP.key 0 0] s (drvLevels s) :=
  ((RegsBut.refl _ s).wr (by decide) _).wr (by decide) _

/-- The word of a record fits a register. -/
theorem tevtPop_word_lt (src : Nat) : src / 2 ^ 24 % 2 ^ 16 + (if 1 < sourceCount src then 2 ^ 16 else 0) + 2 ^ 17 < 2 ^ 32 := by
  split <;> omega

/-- Settles O54: an update of the sources is the rises logged, the pairs tripped and the arm requests shown (`tripUpdate_eq`), each
of which leaves what the others speak of. -/
theorem tripInputs : Obligations.TripInputs := by
  intro s req mask levels since r d ds
  refine ⟨fun hc => ?_, fun hc => ?_, fun hread => ?_, fun hread hlatched => ?_, fun hread hlatched => ?_,
    fun hc hen hfree hreqs => ?_, fun hc hidle => ?_⟩
  · obtain ⟨hupd, hlevel⟩ := tripAssert_leaves s mask.toNat levels.toNat since
    exact ⟨_, congrArg Host.Outcome.next (onFab_on hc _), fun i => hlevel i i.isLt, hupd⟩
  · obtain ⟨hupd, hlevel⟩ := tripDeassert_leaves s mask.toNat levels.toNat since
    exact ⟨_, congrArg Host.Outcome.next (onFab_on hc _), fun i => hlevel i i.isLt, hupd⟩
  · refine ⟨_, exec_tevtLatch hread, ?_⟩
    rw [tevtLatch_eq]
    refine ⟨rfl, ?_⟩
    cases s.sig.trip.log with
    | nil => rfl
    | cons r l => exact congrArg (Reply.mk OK · false) (Nat.mod_mod _ _)
  · refine ⟨_, exec_tevtPop hread, ?_⟩
    rw [tevtPop_some hlatched, Nat.mod_eq_of_lt (tevtPop_word_lt r.src)]
    exact ⟨rfl, rfl, regsBut_tripStatus (s.updTrip _)⟩
  · rw [exec_tevtPop hread, tevtPop_none hlatched]
    rfl
  · refine ⟨drvStart s, congrArg Host.Outcome.next (onFab_on hc _), ?_⟩
    rw [drvStart_free hen hfree hreqs]
    exact ⟨rfl, regsBut_drvLevels (s.updTrip _)⟩
  · exact congrArg Host.Outcome.next ((onFab_on hc _).trans (drvStart_busy hidle))

end Sys2Proof.Machine

/-!
SUPPORT. The frame of an instruction of a Spire core, seen from the state before its fetch (R152, R156, R171).
-/
namespace Sys2Proof.Machine

/-! ### Nothing but one core changes -/

section
variable {s t : State} {c : Nat}

/-- Nothing changed. -/
theorem OnlyCore.refl (s : State) (c : Nat) : OnlyCore s s c := ⟨rfl, fun _ _ => rfl, .refl _ s⟩

/-- The core replaced, with the register fields that show it. -/
theorem OnlyCore.setCore (h : OnlyCore s t c) (x : CoreSt) : OnlyCore s (t.setCore c x) c where
  rest := by rw [h.rest]; rfl
  cores k hk := by rw [State.core_setCore, if_neg hk, h.cores k hk]
  regs := ((h.regs.wr (by simp [coreKeys]) _).wr (by simp [coreKeys]) _).wr (by simp [coreKeys]) _

/-- The core changed by a function. -/
theorem OnlyCore.updCore (h : OnlyCore s t c) (f : CoreSt → CoreSt) : OnlyCore s (t.updCore c f) c := h.setCore _

/-- Corrections counted. -/
theorem OnlyCore.countCorr (h : OnlyCore s t c) (n : Nat) : OnlyCore s (t.countSat SPIRE_ECC_CORR c 0 n) c where
  rest := by rw [h.rest]; rfl
  cores := h.cores
  regs := h.regs.wr (by simp [coreKeys]) _

/-- The fetch changes nothing but the core and its count of corrections (R156). -/
theorem onlyCore_afterFetch (s : State) (c : Nat) : OnlyCore s (afterFetch s c) c := by
  unfold afterFetch tcmCorrect
  dsimp only
  split
  · exact .refl s c
  · exact ((OnlyCore.refl s c).setCore _).countCorr _

end

/-! ### The state after the fetch -/

section
variable (s : State) (c : Nat)

/-- The fetch takes corrected words off the core's list, and changes nothing else of the core. -/
theorem core_afterFetch :
    (afterFetch s c).core c = { s.core c with tcmCorr := ((afterFetch s c).core c).tcmCorr } := core_tcmCorrect ..

/-- The words under a single-bit error that are left were under one before. -/
theorem tcmCorr_afterFetch_subset : ∀ w ∈ ((afterFetch s c).core c).tcmCorr, w ∈ (s.core c).tcmCorr := by
  unfold afterFetch tcmCorrect
  dsimp only
  split
  · exact fun _ h => h
  · have hcount (u : State) (f : Fld) (i j n : Nat) : (u.countSat f i j n).core c = u.core c := rfl
    rw [hcount, State.core_setCore_same]
    exact fun _ h => List.mem_of_mem_filter h

/-- The registers g and f are as before the fetch. -/
@[simp] theorem gR_afterFetch (i : Nat) : ((afterFetch s c).core c).gR i = (s.core c).gR i := by rw [core_afterFetch]; rfl
@[simp] theorem fR_afterFetch (i : Nat) : ((afterFetch s c).core c).fR i = (s.core c).fR i := by rw [core_afterFetch]; rfl

/-- No halt is asked for by the fetch. -/
@[simp] theorem haltReq_afterFetch : ((afterFetch s c).core c).haltReq = (s.core c).haltReq := by rw [core_afterFetch]

/-- The blocks outside the core are as before the fetch. -/
@[simp] theorem law_afterFetch : (afterFetch s c).law = s.law := by rw [(onlyCore_afterFetch s c).rest]
@[simp] theorem bad_afterFetch : (afterFetch s c).bad = s.bad := by rw [(onlyCore_afterFetch s c).rest]
@[simp] theorem fab_afterFetch : (afterFetch s c).fab = s.fab := by rw [(onlyCore_afterFetch s c).rest]
@[simp] theorem bytes_afterFetch : (afterFetch s c).bytes = s.bytes := by rw [(onlyCore_afterFetch s c).rest]

end

/-! ### How an instruction ends -/

section
variable {i : Instr} {s : State} {c : Fin 16}

/-- An instruction that the core executes acts on the state after the fetch. -/
theorem spire_executes (h : Executes s c) (hi : fetched s c = some i) (body : State → CoreSt → SpRes) :
    spire s c i false body = spFinish c (s.core c).pc (body (afterFetch s c) ((afterFetch s c).core c)) :=
  let ⟨hruns, hfetch, _⟩ := h
  spire_runs hruns hfetch hi body

/-- An instruction that is done, with no halt asked for: the PC goes to the next word. -/
theorem spFinish_done_quiet {u : State} {c pc : Nat} (h : (u.core c).haltReq = false) :
    spFinish c pc (.done u) = u.updCore c fun x => { x with pc := pc + 4 } := by
  rw [spFinish_done, atBoundary_none]
  rw [State.core_updCore_same]
  exact h

/-- A state in which the core is y but for the words corrected, and in which nothing else has changed. -/
theorem leaves_of {y : CoreSt} {t : State} (hexec : exec i s = .next t) (honly : OnlyCore s t c)
    (hcore : t.core c = { y with tcmCorr := ((afterFetch s c).core c).tcmCorr }) : Leaves i s c y :=
  ⟨t, hexec, by rw [hcore], by rw [hcore]; exact tcmCorr_afterFetch_subset s c, honly⟩

/-- A stall leaves the state at the stall. -/
theorem leaves_hold {y : CoreSt} {u : State} (hexec : exec i s = .next (spFinish c (s.core c).pc (.hold u)))
    (honly : OnlyCore s u c) (hcore : u.core c = { y with tcmCorr := ((afterFetch s c).core c).tcmCorr }) : Leaves i s c y :=
  leaves_of hexec honly hcore

/-- An instruction that is done leaves the core as its own effect does, at the next word. -/
theorem leaves_done {y : CoreSt} {u : State} (hexec : exec i s = .next (spFinish c (s.core c).pc (.done u)))
    (honly : OnlyCore s u c) (hcore : u.core c = { y with tcmCorr := ((afterFetch s c).core c).tcmCorr })
    (hhalt : y.haltReq = false) : Leaves i s c { y with pc := (s.core c).pc + 4 } := by
  rw [spFinish_done_quiet (by rw [hcore]; exact hhalt)] at hexec
  refine leaves_of hexec (honly.updCore _) ?_
  rw [State.core_updCore_same, hcore]

/-- An instruction that changes registers of its core alone retires with that change. -/
theorem retires_setCore {f : CoreSt → CoreSt} (h : Executes s c)
    (hexec : fetched s c = some i → exec i s = .next (spFinish c (s.core c).pc
      (.done ((afterFetch s c).setCore c (f ((afterFetch s c).core c))))))
    (hcorr : ∀ x k, f { x with tcmCorr := k } = { f x with tcmCorr := k }) (hhalt : ∀ x, (f x).haltReq = x.haltReq) :
    Retires i s c f := by
  obtain ⟨-, -, hquiet⟩ := h
  refine fun hi => leaves_done (hexec hi) ((onlyCore_afterFetch s c).setCore _) ?_ ((hhalt _).trans hquiet)
  rw [State.core_setCore_same, ← hcorr, ← core_afterFetch]

/-- A g register written leaves every other field of the core. -/
theorem gW_eq (x : CoreSt) (i : Nat) (v : BitVec 32) : x.gW i v = { x with g := (x.gW i v).g } := by
  unfold CoreSt.gW; split <;> rfl

/-- A g register written, beside words corrected. -/
theorem gW_tcmCorr (x : CoreSt) (k : List Nat) (i : Nat) (v : BitVec 32) :
    { x with tcmCorr := k }.gW i v = { x.gW i v with tcmCorr := k } := by
  unfold CoreSt.gW; split <;> rfl

/-- A g register but g0 read after it was written (R153). -/
theorem gR_gW_same (x : CoreSt) {i : Nat} (h : i ≠ 0) (v : BitVec 32) : (x.gW i v).gR i = v := by
  simp [CoreSt.gW, CoreSt.gR, h]

/-- An instruction whose result goes to g[rd] retires. -/
theorem retires_gW {rd : Nat} {v : BitVec 32} (h : Executes s c)
    (hexec : fetched s c = some i → exec i s = .next (spFinish c (s.core c).pc
      (.done ((afterFetch s c).setCore c (((afterFetch s c).core c).gW rd v))))) :
    Retires i s c fun x => x.gW rd v :=
  retires_setCore h hexec (fun x k => gW_tcmCorr x k rd v) fun x => by rw [gW_eq]

/-- An instruction whose result goes to f[rd] retires. -/
theorem retires_fW {rd : Nat} {v : BitVec 32} (h : Executes s c)
    (hexec : fetched s c = some i → exec i s = .next (spFinish c (s.core c).pc
      (.done ((afterFetch s c).setCore c (((afterFetch s c).core c).fW rd v))))) :
    Retires i s c fun x => x.fW rd v :=
  retires_setCore h hexec (fun _ _ => rfl) fun _ => rfl

end

end Sys2Proof.Machine

/-!
SUPPORT. The words of the Law engine's windows and their latest writes (R134, R137, R146, R186): what a write of a word leaves, and
what a reader finds after it.
-/
namespace Sys2Proof.Machine

/-! ### The latest writes of a word -/

/-- A write of a whole word leaves its own value. -/
theorem WordPut.run_whole {p : WordPut} (h : p.mask = 0xFFFFFFFF) (v : Nat) : p.run v = p.val % 2 ^ 32 := by
  rw [WordPut.run, h, Nat.xor_self, Nat.and_zero, Nat.zero_or, show (0xFFFFFFFF : Nat) = 2 ^ 32 - 1 from rfl,
    Nat.and_two_pow_sub_one_eq_mod]

/-- A write later than all others comes last. -/
theorem insertPut_last {p : WordPut} {l : List WordPut} (h : ∀ q ∈ l, q.edge < p.edge) : insertPut p l = l ++ [p] := by
  induction l with
  | nil => rfl
  | cons q l ih =>
    have hq := h q List.mem_cons_self
    rw [insertPut, if_neg, ih fun r hr => h r (List.mem_cons_of_mem _ hr), List.cons_append]
    rw [Bool.or_eq_true, Bool.and_eq_true, Bool.and_eq_true, decide_eq_true_eq, beq_iff_eq]
    omega

/-- A reader that sees the last write, a whole word, finds its value. -/
theorem LateWord.seen_last (b : Nat) (l : List WordPut) {p : WordPut} (hp : p.mask = 0xFFFFFFFF) {sees : WordPut → Bool}
    (hs : sees p = true) : (⟨b, l ++ [p]⟩ : LateWord).seen sees = p.val % 2 ^ 32 := by
  rw [LateWord.seen, List.filter_append, List.foldl_append]
  simp only [List.filter_cons, hs, if_true, List.filter_nil, List.foldl_cons, List.foldl_nil, WordPut.run_whole hp]

/-- The latest writes of an edge and later are among those listed. -/
theorem lateWord_puts {s : State} {key edge : Nat} {q : WordPut} (h : q ∈ (lateWord s key edge).puts) :
    ∃ l ∈ findKey s.law.late key, q ∈ l.puts := by
  unfold lateWord at h
  split at h
  · exact ⟨_, ‹_›, List.mem_of_mem_filter h⟩
  · exact absurd h List.not_mem_nil

/-! ### Words stored -/

/-- The number of an XF word lies behind those of the slot records. -/
theorem slotKey_lt_xf {i w : Nat} (hi : i < 1024) (hw : w < 16) : slotKey i w < 0xC000 := by unfold slotKey; omega

/-- XF words have different numbers. -/
theorem xfKey_inj {x y : Nat} : xfKey x = xfKey y ↔ x = y := Nat.add_left_cancel_iff

/-- From s to t words of the slot records and of XF have been written, and register fields; nothing else has changed. -/
def WordsOnly (s t : State) : Prop :=
  t = { s with regs := t.regs, bad := t.bad, law := { s.law with slots := t.law.slots, xf := t.law.xf, late := t.law.late } }

/-- XF word x reads the same to every reader in t as in s. -/
def SameXf (x : Nat) (s t : State) : Prop :=
  findKey t.law.late (xfKey x) = findKey s.law.late (xfKey x) ∧ lawWord t (xfKey x) = lawWord s (xfKey x)

section
variable {s t u : State} {x : Nat}

/-- Nothing written. -/
theorem WordsOnly.refl (s : State) : WordsOnly s s := rfl

/-- One write after another. -/
theorem WordsOnly.trans (h : WordsOnly s t) (k : WordsOnly t u) : WordsOnly s u := by
  unfold WordsOnly at h k ⊢
  rw [k, h]

/-- A list taken in order. -/
theorem WordsOnly.foldl {α : Type} {f : State → α → State} (hf : ∀ t a, WordsOnly t (f t a)) (l : List α) (s : State) :
    WordsOnly s (l.foldl f s) := by
  induction l generalizing s with
  | nil => exact .refl s
  | cons a l ih => exact (hf s a).trans (ih _)

/-- A list's entries stay. -/
theorem WordsOnly.entryHalf (h : WordsOnly s t) (j n : Nat) : entryHalf t j n = entryHalf s j n := by rw [h]; rfl

/-- The running list stays. -/
theorem WordsOnly.run (h : WordsOnly s t) : t.law.run = s.law.run := by rw [h]

/-- The clock stays. -/
theorem WordsOnly.fab (h : WordsOnly s t) : t.fab = s.fab := by rw [h]

/-- Nothing written. -/
theorem SameXf.refl (x : Nat) (s : State) : SameXf x s s := ⟨rfl, rfl⟩

/-- One write after another. -/
theorem SameXf.trans (h : SameXf x s t) (k : SameXf x t u) : SameXf x s u := ⟨k.1.trans h.1, k.2.trans h.2⟩

/-- A list taken in order. -/
theorem SameXf.foldl {α : Type} {f : State → α → State} {l : List α} (hf : ∀ t, ∀ a ∈ l, SameXf x t (f t a)) (s : State) :
    SameXf x s (l.foldl f s) := by
  induction l generalizing s with
  | nil => exact .refl x s
  | cons a l ih => exact (hf s a List.mem_cons_self).trans (ih (fun t b hb => hf t b (List.mem_cons_of_mem _ hb)) _)

/-- Every reader finds the same. -/
theorem SameXf.wordSeen (h : SameXf x s t) (sees : WordPut → Bool) : wordSeen t (xfKey x) sees = wordSeen s (xfKey x) sees := by
  obtain ⟨hlate, hword⟩ := h
  rw [Machine.wordSeen, Machine.wordSeen, hlate, hword]

end

/-! ### A write entered -/

section
variable (s : State) (key : Nat) (p : WordPut)

/-- A word stored leaves the lists, the queue and the clock. -/
theorem wordsOnly_setLawWord (v : Nat) : WordsOnly s (setLawWord s key v) := by
  unfold WordsOnly setLawWord
  split <;> rfl

/-- A word stored in the slot records leaves XF. -/
theorem xf_setLawWord_slot {key : Nat} (h : key < 0xC000) (v : Nat) : (setLawWord s key v).law.xf = s.law.xf := by
  simp only [setLawWord, if_pos h]

/-- A word stored leaves the latest writes. -/
theorem late_setLawWord (v : Nat) : (setLawWord s key v).law.late = s.law.late := by
  unfold setLawWord
  split <;> rfl

/-- An XF word after a word was stored. -/
theorem lawWord_setLawWord_xf (v x : Nat) :
    lawWord (setLawWord s key v) (xfKey x) = if xfKey x = key then v % 2 ^ 32 else lawWord s (xfKey x) := by
  have hx : ¬ xfKey x < 0xC000 := by unfold xfKey; omega
  unfold lawWord
  rw [if_neg hx, if_neg hx]
  by_cases hk : key < 0xC000
  · rw [xf_setLawWord_slot s hk, if_neg (by omega)]
  · simp only [setLawWord, if_neg hk, Sp.get_set]
    refine if_congr ?_ rfl rfl
    omega

/-- What a word holds once a write has entered its latest writes. -/
def putLate : LateWord :=
  ⟨(lateWord s key (min s.fab p.edge)).before, insertPut p (lateWord s key (min s.fab p.edge)).puts⟩

/-- A write is entered in the word's latest writes, and the word is what they make of it. -/
theorem putLawWord_eq : putLawWord s key p =
    setLawWord { s with law := { s.law with late := s.law.late.set key (putLate s key p) } } key
      ((putLate s key p).seen fun _ => true) := rfl

/-- A write leaves the lists, the queue and the clock. -/
theorem wordsOnly_putLawWord : WordsOnly s (putLawWord s key p) :=
  WordsOnly.trans (t := { s with law := { s.law with late := s.law.late.set key (putLate s key p) } }) rfl
    (wordsOnly_setLawWord _ _ _)

/-- A write in the slot records leaves XF. -/
theorem xf_putLawWord_slot {key : Nat} (h : key < 0xC000) : (putLawWord s key p).law.xf = s.law.xf := by
  rw [putLawWord_eq, xf_setLawWord_slot _ h]

/-- The latest writes of a word after a write of a word. -/
theorem findKey_late_putLawWord (k : Nat) : findKey (putLawWord s key p).law.late k =
    if k = key then some (putLate s key p) else findKey s.law.late k := by
  rw [putLawWord_eq, late_setLawWord, findKey_set]

/-- A write of another word leaves an XF word. -/
theorem sameXf_putLawWord {key x : Nat} (h : xfKey x ≠ key) : SameXf x s (putLawWord s key p) := by
  refine ⟨by rw [findKey_late_putLawWord, if_neg h], ?_⟩
  rw [putLawWord_eq, lawWord_setLawWord_xf, if_neg h]
  rfl

end

/-! ### A write of XF (R134, R146) -/

section
variable (s : State) {x : Nat} (p : WordPut)

/-- A write of an XF word but word 0 is noted where it collides, and entered. -/
theorem xfPut_eq (hx : x ≠ 0) : ∃ coll, xfPut s x p = putLawWord (s.raiseIf coll LAW_STATUS_XF_COLL) (xfKey x) p :=
  ⟨_, by rw [xfPut, if_neg hx]⟩

/-- A status bit set or not leaves the words. -/
theorem wordsOnly_raiseIf (c : Bool) (f : Fld) (i j : Nat) : WordsOnly s (s.raiseIf c f i j) := by
  unfold State.raiseIf
  split <;> rfl

/-- A status bit set or not leaves the engine. -/
theorem law_raiseIf (c : Bool) (f : Fld) (i j : Nat) : (s.raiseIf c f i j).law = s.law := by
  unfold State.raiseIf
  split <;> rfl

/-- A write of XF leaves the lists, the queue and the clock. -/
theorem wordsOnly_xfPut (x : Nat) : WordsOnly s (xfPut s x p) := by
  by_cases hx : x = 0
  · rw [xfPut, if_pos hx]
    exact .refl s
  · obtain ⟨coll, h⟩ := xfPut_eq s p hx
    rw [h]
    exact (wordsOnly_raiseIf s coll _ 0 0).trans (wordsOnly_putLawWord _ _ _)

/-- An XF word is the same where XF and the latest writes are. -/
theorem sameXf_of_words {s t : State} (hxf : t.law.xf = s.law.xf) (hlate : t.law.late = s.law.late) (x : Nat) : SameXf x s t := by
  have hx : ¬ xfKey x < 0xC000 := by unfold xfKey; omega
  unfold SameXf lawWord
  rw [if_neg hx, if_neg hx, hxf, hlate]
  exact ⟨rfl, rfl⟩

/-- A status bit set or not leaves XF. -/
theorem sameXf_raiseIf (s : State) (c : Bool) (f : Fld) (i j x : Nat) : SameXf x s (s.raiseIf c f i j) :=
  have h := law_raiseIf s c f i j
  sameXf_of_words (by rw [h]) (by rw [h]) x

/-- A write of an XF word leaves the others. -/
theorem sameXf_xfPut {w : Nat} (h : w ≠ x) : SameXf w s (xfPut s x p) := by
  by_cases hx : x = 0
  · rw [xfPut, if_pos hx]
    exact .refl w s
  · obtain ⟨coll, he⟩ := xfPut_eq s p hx
    rw [he]
    exact (sameXf_raiseIf s coll _ 0 0 w).trans (sameXf_putLawWord _ _ (xfKey_inj.not.mpr h))

/-- A write of a whole XF word, later than all others listed: the word holds it, and every reader that sees it finds it. -/
theorem xfPut_last (hx : x ≠ 0) {p : WordPut} (hp : p.mask = 0xFFFFFFFF)
    (hl : ∀ l ∈ findKey s.law.late (xfKey x), ∀ q ∈ l.puts, q.edge < p.edge) :
    lawWord (xfPut s x p) (xfKey x) = p.val % 2 ^ 32 ∧
      ∀ sees : WordPut → Bool, sees p = true → wordSeen (xfPut s x p) (xfKey x) sees = p.val % 2 ^ 32 := by
  obtain ⟨coll, he⟩ := xfPut_eq s p hx
  rw [he]
  have hlaw := law_raiseIf s coll LAW_STATUS_XF_COLL 0 0
  generalize s.raiseIf coll LAW_STATUS_XF_COLL = t at hlaw ⊢
  have hlast : (putLate t (xfKey x) p).puts = (lateWord t (xfKey x) (min t.fab p.edge)).puts ++ [p] :=
    insertPut_last fun q hq => by
      obtain ⟨l, hm, hql⟩ := lateWord_puts hq
      exact hl l (hlaw ▸ hm) q hql
  have hseen (sees : WordPut → Bool) (h : sees p = true) : (putLate t (xfKey x) p).seen sees = p.val % 2 ^ 32 := by
    have := LateWord.seen_last (putLate t (xfKey x) p).before (lateWord t (xfKey x) (min t.fab p.edge)).puts hp h
    rwa [← hlast] at this
  refine ⟨?_, fun sees h => ?_⟩
  · rw [putLawWord_eq, lawWord_setLawWord_xf, if_pos rfl, hseen _ rfl, Nat.mod_mod]
  · rw [wordSeen, findKey_late_putLawWord, if_pos rfl]
    exact hseen sees h

end

/-- A good XF word is taken as the reader sees it (R135). -/
theorem xfTake_good {s : State} {x : Nat} (h : x = 0 ∨ lawBad s (4 * xfKey x) 1 = false) (sees : WordPut → Bool) :
    xfTake s x sees = (s, xfSeen s x sees) := by
  refine if_neg ?_
  obtain rfl | h := h
  · simp
  · simp [h]

end Sys2Proof.Machine

/-!
The LAW instructions (R144, R185, R186).
-/
namespace Sys2Proof.Machine

/-! ### What they name -/

section
variable {s : State} {c : Fin 16} {rs1 : BitVec 5}

/-- The XF word named, seen after the fetch. -/
theorem xfIndex_afterFetch (s : State) (c : Fin 16) (rs1 : BitVec 5) (operand : BitVec 12) :
    xfIndex ((afterFetch s c).core c) rs1 operand = (((s.core c).gR rs1.toNat).toNat + operand.toNat) % 4096 := by
  rw [xfIndex, gR_afterFetch]

/-- The number of a list fits the operand. -/
theorem toNat_listOperand (k : Fin 32) : (BitVec.ofNat 12 k.val).toNat = k.val :=
  Nat.mod_eq_of_lt (Nat.lt_trans k.isLt (by decide))

/-- A list operand has no stray bits. -/
theorem listBad_operand (k : Fin 32) : listBad (BitVec.ofNat 12 k.val) = false := by
  rw [listBad, toNat_listOperand, Nat.div_eq_of_lt k.isLt]
  rfl

/-- The list named, seen after the fetch. -/
theorem listIndex_afterFetch (s : State) (c : Fin 16) (rs1 : BitVec 5) (k : Fin 32) :
    listIndex ((afterFetch s c).core c) rs1 (BitVec.ofNat 12 k.val) = (((s.core c).gR rs1.toNat).toNat + k.val) % 32 := by
  rw [listIndex, gR_afterFetch, toNat_listOperand, Nat.mod_eq_of_lt k.isLt]

/-- The words of the engine are as before the fetch. -/
theorem lawWord_afterFetch (s : State) (c key : Nat) : lawWord (afterFetch s c) key = lawWord s key := by
  unfold lawWord
  rw [law_afterFetch]

/-! ### LAWIN and LAWING -/

/-- A write of an XF word by a core while no initialisation runs is one on the next edge (R186). -/
theorem xfIn_ready (h : s.law.initBusy = false) (x v : Nat) :
    xfIn s x v = xfPut s x { edge := s.fab + 1, mask := 0xFFFFFFFF, val := v, entry := false } :=
  if_neg (by simp [h])

/-- A word's number and its value after a core's write, later than all others listed. -/
theorem lawWord_xfIn (h : s.law.initBusy = false) {x : Nat} (v : BitVec 32)
    (hl : ∀ l ∈ findKey s.law.late (xfKey x), ∀ p ∈ l.puts, p.edge ≤ s.fab) (w : Nat) :
    lawWord (xfIn s x v.toNat) (xfKey w) = if w = x ∧ w ≠ 0 then v.toNat else lawWord s (xfKey w) := by
  rw [xfIn_ready h]
  split
  · obtain ⟨rfl, hw⟩ := ‹w = x ∧ w ≠ 0›
    obtain ⟨hword, -⟩ := xfPut_last s hw (p := { edge := s.fab + 1, mask := 0xFFFFFFFF, val := v.toNat, entry := false }) rfl
      fun l hm q hq => Nat.lt_succ_of_le (hl l hm q hq)
    rw [hword, Nat.mod_eq_of_lt v.isLt]
  · rename_i hne
    by_cases hwx : w = x
    · have h0 : x = 0 := by
        subst hwx
        exact not_not.mp fun h0 => hne ⟨rfl, h0⟩
      rw [xfPut, if_pos h0]
    · exact (sameXf_xfPut s _ hwx).2

/-- From the next edge on the word reads as written. -/
theorem xfRead_xfIn (h : s.law.initBusy = false) {x : Nat} (hx : x ≠ 0) (v : BitVec 32)
    (hl : ∀ l ∈ findKey s.law.late (xfKey x), ∀ p ∈ l.puts, p.edge ≤ s.fab) :
    xfSeen (xfIn s x v.toNat) x (fun p => decide (p.edge ≤ s.fab + 1)) = v.toNat := by
  obtain ⟨-, hseen⟩ := xfPut_last s hx (p := { edge := s.fab + 1, mask := 0xFFFFFFFF, val := v.toNat, entry := false }) rfl
    fun l hm q hq => Nat.lt_succ_of_le (hl l hm q hq)
  rw [xfIn_ready h, xfSeen, if_neg hx, hseen _ (by simp), Nat.mod_eq_of_lt v.isLt]

/-- What an instruction that writes an XF word and is done leaves. -/
theorem lawIn_leaves {i : Instr} {x : Nat} {v : BitVec 32} (hex : Executes s c) (hready : s.law.initBusy = false)
    (hl : ∀ l ∈ findKey s.law.late (xfKey x), ∀ p ∈ l.puts, p.edge ≤ s.fab)
    (hexec : exec i s = .next (spFinish c (s.core c).pc (.done (xfIn (afterFetch s c) x v.toNat)))) :
    ∃ t, exec i s = .next t ∧ (t.core c).pc = (s.core c).pc + 4 ∧
      (∀ w, w < 4096 → lawWord t (xfKey w) = if w = x ∧ w ≠ 0 then v.toNat else lawWord s (xfKey w)) ∧
      (x ≠ 0 → xfRead { t with fab := s.fab + 1 } x = v.toNat) ∧ (∀ i, (t.core c).gR i = (s.core c).gR i) ∧ SameMemory s t := by
  obtain ⟨-, -, hquiet⟩ := hex
  have hready' : (afterFetch s c).law.initBusy = false := by rw [law_afterFetch, hready]
  have hl' : ∀ l ∈ findKey (afterFetch s c).law.late (xfKey x), ∀ p ∈ l.puts, p.edge ≤ (afterFetch s c).fab := by
    rw [law_afterFetch, fab_afterFetch]
    exact hl
  have hwords : WordsOnly (afterFetch s c) (xfIn (afterFetch s c) x v.toNat) := by
    rw [xfIn_ready hready']
    exact wordsOnly_xfPut ..
  have hcore : (xfIn (afterFetch s c) x v.toNat).core c = (afterFetch s c).core c := by rw [hwords]; rfl
  rw [spFinish_done_quiet (by rw [hcore, haltReq_afterFetch, hquiet])] at hexec
  refine ⟨_, hexec, by rw [State.core_updCore_same], fun w _ => ?_, fun hx => ?_, fun i => ?_, fun a => ?_⟩
  · rw [← lawWord_afterFetch s c]
    exact lawWord_xfIn hready' v hl' w
  · have := xfRead_xfIn hready' hx v hl'
    rw [fab_afterFetch] at this
    exact this
  · rw [State.core_updCore_same, hcore]
    exact gR_afterFetch s c i
  · rw [State.updCore_bytes, hwords]
    exact congrArg (memGet · a) (bytes_afterFetch s c)

/-! ### LAWOUT and LAWOUTG -/

/-- While initialisation runs a core reads 0 (R151). -/
theorem xfOut_busy (h : s.law.initBusy = true) (x : Nat) : xfOut s x = (s, 0) := if_pos h

/-- A good word, as it stood before the present edge (R186). -/
theorem xfOut_good {x : Nat} (h : s.law.initBusy = false) (hgood : x = 0 ∨ lawBad s (4 * xfKey x) 1 = false) :
    xfOut s x = (s, xfSeen s x fun p => decide (p.edge < s.fab)) := by
  rw [xfOut, if_neg (by simp [h]), xfTake_good hgood]

/-- The value a core reads from XF is that before the fetch. -/
theorem xfOut_afterFetch_good {x : Nat} (h : s.law.initBusy = false) (hgood : x = 0 ∨ lawBad s (4 * xfKey x) 1 = false) :
    xfOut (afterFetch s c) x = (afterFetch s c, xfSeen s x fun p => decide (p.edge < s.fab)) := by
  rw [xfOut_good (by rw [law_afterFetch, h]) (by unfold lawBad at hgood ⊢; rw [bad_afterFetch]; exact hgood), fab_afterFetch]
  unfold xfSeen wordSeen lawWord
  rw [law_afterFetch]

/-- An instruction that takes an XF word into a register is done with what XF gives. -/
theorem spire_xfOut {i : Instr} {operand : BitVec 12} {v : Nat} (write : CoreSt → BitVec 32 → CoreSt) (hex : Executes s c)
    (hi : fetched s c = some i)
    (hv : xfOut (afterFetch s c) ((((s.core c).gR rs1.toNat).toNat + operand.toNat) % 4096) = (afterFetch s c, v)) :
    spire s c i false (fun s x =>
      let (s, v) := xfOut s (xfIndex x rs1 operand)
      .done (s.setCore c (write x (BitVec.ofNat 32 v)))) =
    spFinish c (s.core c).pc (.done ((afterFetch s c).setCore c (write ((afterFetch s c).core c) (BitVec.ofNat 32 v)))) := by
  rw [spire_executes hex hi, xfIndex_afterFetch, hv]

section
variable {rd : BitVec 5} {operand : BitVec 12} {v : Nat} (hex : Executes s c)
  (hv : xfOut (afterFetch s c) ((((s.core c).gR rs1.toNat).toNat + operand.toNat) % 4096) = (afterFetch s c, v))
include hex hv

/-- LAWOUT retires with what XF gives. -/
theorem lawout_retires : Retires (.spLawout c rd rs1 operand) s c fun x => x.fW rd.toNat (BitVec.ofNat 32 v) :=
  retires_fW hex fun hi => congrArg Host.Outcome.next (spire_xfOut (fun x => x.fW rd.toNat) hex hi hv)

/-- LAWOUTG retires with what XF gives. -/
theorem lawoutg_retires : Retires (.spLawoutg c rd rs1 operand) s c fun x => x.gW rd.toNat (BitVec.ofNat 32 v) :=
  retires_gW hex fun hi => congrArg Host.Outcome.next (spire_xfOut (fun x => x.gW rd.toNat) hex hi hv)

end

/-! ### LAWWT and LAWST -/

/-- A list is active after the fetch where it was before. -/
theorem listActive_afterFetch (s : State) (c k : Nat) : listActive (afterFetch s c) k = listActive s k := by
  unfold listActive
  rw [law_afterFetch]

/-- LAWWT of an active list stalls the core, of another it is done. -/
theorem exec_lawwt (k : Fin 32) (hex : Executes s c) (hi : fetched s c = some (.spLawwt c 0 rs1 (BitVec.ofNat 12 k.val))) :
    exec (.spLawwt c 0 rs1 (BitVec.ofNat 12 k.val)) s = .next (spFinish c (s.core c).pc
      (if listActive s ((((s.core c).gR rs1.toNat).toNat + k.val) % 32) then
        .hold ((afterFetch s c).setCore c { (afterFetch s c).core c with
          wait := some (.lawwt ((((s.core c).gR rs1.toNat).toNat + k.val) % 32)) })
      else .done (afterFetch s c))) := by
  show Host.Outcome.next (spire s c _ (listBad (BitVec.ofNat 12 k.val) || (0 : BitVec 5) != 0) _) = _
  rw [listBad_operand]
  refine congrArg Host.Outcome.next ((spire_executes hex hi _).trans ?_)
  rw [listIndex_afterFetch]
  dsimp only
  rw [listActive_afterFetch]

/-- LAWWT of an active list stalls the core. -/
theorem lawwt_active {k : Fin 32} (hex : Executes s c)
    (hactive : listActive s ((((s.core c).gR rs1.toNat).toNat + k.val) % 32) = true) :
    LeavesCore (.spLawwt c 0 rs1 (BitVec.ofNat 12 k.val)) s c
      { s.core c with wait := some (.lawwt ((((s.core c).gR rs1.toNat).toNat + k.val) % 32)) } := by
  intro hi
  have hexec := exec_lawwt k hex hi
  rw [if_pos hactive] at hexec
  refine leaves_hold hexec ((onlyCore_afterFetch s c).setCore _) ?_
  rw [State.core_setCore_same, core_afterFetch]

/-- LAWWT of another list is done. -/
theorem lawwt_idle {k : Fin 32} (hex : Executes s c)
    (hidle : listActive s ((((s.core c).gR rs1.toNat).toNat + k.val) % 32) = false) :
    Retires (.spLawwt c 0 rs1 (BitVec.ofNat 12 k.val)) s c id := by
  intro hi
  have hexec := exec_lawwt k hex hi
  rw [if_neg (ne_true_of_eq_false hidle)] at hexec
  obtain ⟨-, -, hquiet⟩ := hex
  exact leaves_done hexec (onlyCore_afterFetch s c) (core_afterFetch s c) hquiet

/-- A good word of LAW reads as its value outside initialisation (R135, R151). -/
theorem lawAnswer_good {w : Nat} (h : s.law.initBusy = false) (hgood : lawBad s w 1 = false) (v : Nat) :
    lawAnswer s w v = (s, OK, v) := by
  rw [lawAnswer, if_neg (by simp [h]), if_neg (by simp [hgood])]

/-- LAWST is done with the list's status word. -/
theorem exec_lawst {rd : BitVec 5} (k : Fin 32) (hex : Executes s c)
    (hi : fetched s c = some (.spLawst c rd rs1 (BitVec.ofNat 12 k.val))) (hready : s.law.initBusy = false)
    (hgood : lawBad s (0x104 + 0x10 * ((((s.core c).gR rs1.toNat).toNat + k.val) % 32)) 1 = false) :
    exec (.spLawst c rd rs1 (BitVec.ofNat 12 k.val)) s = .next (spFinish c (s.core c).pc
      (.done ((afterFetch s c).setCore c (((afterFetch s c).core c).gW rd.toNat (BitVec.ofNat 32
        ((afterFetch s c).readWord .law 0 (0x104 + 0x10 * ((((s.core c).gR rs1.toNat).toNat + k.val) % 32)))))))) := by
  show Host.Outcome.next (spire s c _ (listBad (BitVec.ofNat 12 k.val)) _) = _
  rw [listBad_operand, spire_executes hex hi, listIndex_afterFetch]
  dsimp only
  rw [lawAnswer_good]
  · rw [law_afterFetch, hready]
  · unfold lawBad at hgood ⊢
    rw [bad_afterFetch, hgood]

/-! ### LAWGO -/

/-- The levels shown leave everything but register fields. -/
theorem lawLevels_rest (s : State) : lawLevels s = { s with regs := (lawLevels s).regs } := by
  unfold lawLevels
  exact forN_keeps (P := fun t : State => t = { s with regs := t.regs }) (fun k t ht => by rw [ht]; rfl) 32 rfl

/-- LAWGO changes register fields and the queue alone. -/
theorem lawGo_rest (s : State) (k core : Nat) :
    lawGo s k core = { s with regs := (lawGo s k core).regs, law := { s.law with queue := (lawGo s k core).law.queue } } := by
  unfold lawGo
  dsimp only
  split
  · rw [lawLevels_rest]
  · unfold State.recordErr
    split <;> rfl

/-- The list enters the queue exactly when nothing stands against it (R144). -/
theorem queue_lawGo (s : State) (k core : Nat) : (lawGo s k core).law.queue =
    if lawGoCode s k = OK then queueGo ⟨k, s.fab + 1, core⟩ s.law.queue else s.law.queue := by
  unfold lawGo
  dsimp only
  split
  · rw [lawLevels_rest]
  · unfold State.recordErr
    split <;> rfl

/-- What LAWGO leaves. -/
theorem lawgo_leaves {rd : BitVec 5} (k : Fin 32) (hex : Executes s c)
    (hi : fetched s c = some (.spLawgo c rd rs1 (BitVec.ofNat 12 k.val))) :
    ∃ t, exec (.spLawgo c rd rs1 (BitVec.ofNat 12 k.val)) s = .next t ∧ (t.core c).pc = (s.core c).pc + 4 ∧ SameMemory s t ∧
      (rd ≠ 0 → (t.core c).gR rd.toNat =
        BitVec.ofNat 32 (lawGoCode (afterFetch s c) ((((s.core c).gR rs1.toNat).toNat + k.val) % 32))) ∧
      t.law.queue = if lawGoCode (afterFetch s c) ((((s.core c).gR rs1.toNat).toNat + k.val) % 32) = OK
        then queueGo ⟨(((s.core c).gR rs1.toNat).toNat + k.val) % 32, s.fab + 1, c.val⟩ s.law.queue else s.law.queue := by
  have hexec : exec (.spLawgo c rd rs1 (BitVec.ofNat 12 k.val)) s = .next (spFinish c (s.core c).pc
      (.done ((lawGo (afterFetch s c) ((((s.core c).gR rs1.toNat).toNat + k.val) % 32) c).updCore c fun x =>
        x.gW rd.toNat (BitVec.ofNat 32 (lawGoCode (afterFetch s c) ((((s.core c).gR rs1.toNat).toNat + k.val) % 32)))))) := by
    show Host.Outcome.next (spire s c _ (listBad (BitVec.ofNat 12 k.val)) _) = _
    rw [listBad_operand, spire_executes hex hi, listIndex_afterFetch]
  obtain ⟨-, -, hquiet⟩ := hex
  generalize (((s.core c).gR rs1.toNat).toNat + k.val) % 32 = n at hexec ⊢
  have hrest := lawGo_rest (afterFetch s c) n c
  have hqueue := queue_lawGo (afterFetch s c) n c
  rw [law_afterFetch, fab_afterFetch] at hqueue
  have hcore : (lawGo (afterFetch s c) n c).core c = (afterFetch s c).core c := by rw [hrest]; rfl
  rw [spFinish_done_quiet (by rw [State.core_updCore_same, gW_eq, hcore]; exact (haltReq_afterFetch s c).trans hquiet)] at hexec
  refine ⟨_, hexec, by rw [State.core_updCore_same], fun a => ?_, fun hrd => ?_, hqueue⟩
  · rw [State.updCore_bytes, State.updCore_bytes, hrest]
    exact congrArg (memGet · a) (bytes_afterFetch s c)
  · rw [State.core_updCore_same, State.core_updCore_same]
    exact gR_gW_same _ (fun h0 => hrd (BitVec.eq_of_toNat_eq h0)) _

end

/-- Settles O16, instruction by instruction: each acts on the state after the fetch, which leaves the engine as it was. -/
theorem spireLawInstructions : Obligations.SpireLawInstructions := by
  intro s c rd rs1 operand k hex
  refine ⟨fun hready hl hi => lawIn_leaves hex hready hl ?_, fun hready hl hi => lawIn_leaves hex hready hl ?_,
    fun hready hgood => lawout_retires hex (xfOut_afterFetch_good hready hgood),
    fun hbusy => lawout_retires hex (xfOut_busy (by rw [law_afterFetch, hbusy]) _),
    fun hready hgood => lawoutg_retires hex (xfOut_afterFetch_good hready hgood),
    fun hbusy => lawoutg_retires hex (xfOut_busy (by rw [law_afterFetch, hbusy]) _),
    lawwt_active hex, lawwt_idle hex, fun hready hgood => retires_gW hex fun hi => exec_lawst k hex hi hready hgood,
    lawgo_leaves k hex⟩
  · show Host.Outcome.next (spire s c _ _ _) = _
    rw [spire_executes hex hi, xfIndex_afterFetch, fR_afterFetch]
  · show Host.Outcome.next (spire s c _ _ _) = _
    rw [spire_executes hex hi, xfIndex_afterFetch, gR_afterFetch]

end Sys2Proof.Machine

/-!
SUPPORT. The register fields of the Law engine (R150) and the edge on which an operation of it acts.
-/
namespace Sys2Proof.Machine

/-! ### The places of the fields -/

/-- The place of a field of LAW. -/
theorem key_law {f : Fld} (h : f.blk = .law) (j : Nat) : f.key 0 j = (0x20140000 + f.off + j * f.sub) * 32 + f.lsb := by
  simp [Fld.key, Fld.addr, Blk.inst, h, Blk.base]

/-- Two fields of LAW share no place, whatever their second indices: they differ in their lowest bits, in their words' places in a list's
four, or the first lies before the second. -/
abbrev Fld.ApartInLaw (f g : Fld) : Prop :=
  f.blk = .law ∧ g.blk = .law ∧ f.lsb < 32 ∧ g.lsb < 32 ∧
    (f.lsb ≠ g.lsb ∨ (f.sub % 16 = 0 ∧ g.sub % 16 = 0 ∧ f.off % 16 ≠ g.off % 16) ∨ (f.sub = 0 ∧ f.off < g.off))

/-- The keys of fields that lie apart. -/
theorem Fld.ApartInLaw.key_ne {f g : Fld} (h : f.ApartInLaw g) (j k : Nat) : f.key 0 j ≠ g.key 0 k := by
  obtain ⟨hf, hg, hfl, hgl, hap⟩ := h
  rw [key_law hf, key_law hg]
  obtain hl | ⟨hfs, hgs, ho⟩ | ⟨hs, ho⟩ := hap
  · omega
  · have hj : j * f.sub % 16 = 0 := by rw [Nat.mul_mod, hfs, Nat.mul_zero, Nat.zero_mod]
    have hk : k * g.sub % 16 = 0 := by rw [Nat.mul_mod, hgs, Nat.mul_zero, Nat.zero_mod]
    omega
  · rw [hs]
    omega

/-- A field of LAW after another was written. -/
theorem rd_wr_law_ne {f g : Fld} (h : f.ApartInLaw g) (s : State) (v j k : Nat) : (s.wr g v 0 k).rd f 0 j = s.rd f 0 j :=
  State.rd_wr_ne _ _ _ _ _ _ _ _ (h.key_ne j k)

/-- A field of a list's registers after that of another list was written. -/
theorem rd_wr_list_ne {f : Fld} (hb : f.blk = .law) (hs : f.sub = 0x10) {j k : Nat} (h : j ≠ k) (s : State) (v : Nat) :
    (s.wr f v 0 k).rd f 0 j = s.rd f 0 j := by
  refine State.rd_wr_ne _ _ _ _ _ _ _ _ ?_
  rw [key_law hb, key_law hb, hs]
  omega

/-! ### Time -/

/-- The clock after a move to an edge. -/
theorem fab_toEdge (s : State) (e : Nat) : (s.toEdge e).fab = max s.fab e := by
  show s.fab + (e - s.fab) = max s.fab e
  omega

/-- A move to an edge leaves the fields of LAW. -/
theorem rd_law_toEdge {f : Fld} (h : f.blk = .law) (s : State) (e j : Nat) : (s.toEdge e).rd f 0 j = s.rd f 0 j := by
  refine rd_toEdge ?_ s e
  rw [key_law h, show CAMPANILE_STATUS_SLEWING.key 0 0 = 0x20020028 * 32 + 2 from rfl]
  omega

/-! ### The levels shown (R150) -/

/-- QUEUED and RUNNING of a list as the queue stands. -/
def listLevel (k : Nat) (s : State) : State :=
  (s.wr LAW_LIST_STATUS_QUEUED (b2n (s.law.queue.any (·.list == k))) 0 k).wr LAW_LIST_STATUS_RUNNING
    (b2n (match s.law.run with | some r => r.list == k | none => false)) 0 k

/-- The levels are QLEVEL and those of each list. -/
theorem lawLevels_eq (s : State) : lawLevels s = forN 32 listLevel (s.wr LAW_STATUS_QLEVEL s.law.queue.length) := rfl

/-- The levels leave the engine. -/
theorem law_lawLevels (s : State) : (lawLevels s).law = s.law := by rw [lawLevels_rest]

/-- Showing the levels of lists leaves the engine. -/
theorem law_forN_listLevel (n : Nat) (s : State) : (forN n listLevel s).law = s.law :=
  forN_keeps (P := fun t : State => t.law = s.law) (f := listLevel) (fun _ _ ht => ht) n rfl

/-- The levels leave every other field. -/
theorem rd_lawLevels {f : Fld} (h : ∀ g ∈ [LAW_STATUS_QLEVEL, LAW_LIST_STATUS_QUEUED, LAW_LIST_STATUS_RUNNING], f.ApartInLaw g)
    (s : State) (j : Nat) : (lawLevels s).rd f 0 j = s.rd f 0 j := by
  simp only [List.forall_mem_cons] at h
  obtain ⟨hlevel, hqueued, hrunning, -⟩ := h
  rw [lawLevels_eq, ← rd_wr_law_ne hlevel s s.law.queue.length j 0]
  refine forN_keeps (P := fun t : State => t.rd f 0 j = _) (fun k t ht => ?_) 32 rfl
  rw [listLevel, rd_wr_law_ne hrunning, rd_wr_law_ne hqueued, ht]

/-- The running list is shown as running. -/
theorem running_lawLevels {s : State} {r : LawRun} (h : s.law.run = some r) (hk : r.list < 32) :
    (lawLevels s).on LAW_LIST_STATUS_RUNNING 0 r.list = true := by
  have hshown (n : Nat) (t : State) (ht : t.law.run = some r) (hn : r.list < n) :
      (forN n listLevel t).on LAW_LIST_STATUS_RUNNING 0 r.list = true := by
    induction n with
    | zero => exact absurd hn (Nat.not_lt_zero _)
    | succ n ih =>
      rw [forN, State.on, listLevel, law_forN_listLevel, ht]
      by_cases hl : r.list = n
      · subst hl
        simp [b2n, LAW_LIST_STATUS_RUNNING]
      · rw [rd_wr_list_ne rfl rfl hl, rd_wr_law_ne (by decide)]
        exact ih (by omega)
  exact hshown 32 _ h hk

end Sys2Proof.Machine

/-!
The running list (R144, R145): its start, the issue of an entry and its completion.
-/
namespace Sys2Proof.Machine

/-! ### The start of a list -/

/-- The running list that the head of the queue becomes on an edge. -/
def startedRun (s : State) (k go e : Nat) : LawRun :=
  { list := k, goEdge := go, next := s.rd LAW_LIST_CFG_START 0 k, left := s.rd LAW_LIST_CFG_LEN 0 k, issueEdge := e, issueI := 0 }

/-- The head of the queue starts on the later of its LAWGO edge + 8 and the edge after the last list was done. -/
theorem lawListStart_eq {s : State} {k go core : Nat} {q : List LawGo} (hrun : s.law.run = none)
    (hq : s.law.queue = ⟨k, go, core⟩ :: q) :
    lawListStart s = lawLevels { s.toEdge (max (go + 8) s.law.freeEdge) with law := { s.law with
      queue := q, run := some (startedRun s k go (max (go + 8) s.law.freeEdge)) } } := by
  unfold lawListStart startedRun
  rw [hrun, hq]
  dsimp only
  rw [rd_law_toEdge rfl, rd_law_toEdge rfl]
  rfl

/-- What the start of a list leaves. -/
theorem lawListStart_leaves {s : State} {k go core : Nat} {q : List LawGo} (hc : clocked s = true) (hrun : s.law.run = none)
    (hq : s.law.queue = ⟨k, go, core⟩ :: q) :
    ∃ t, exec .lawListStart s = .next t ∧
      let e := max (go + 8) s.law.freeEdge
      t.fab = max s.fab e ∧ (k < 32 → t.on LAW_LIST_STATUS_RUNNING 0 k = true) ∧
      t.law = { s.law with queue := q, run := some (startedRun s k go e) } := by
  refine ⟨_, congrArg Host.Outcome.next (onFab_on hc _), ?_⟩
  rw [lawListStart_eq hrun hq]
  have hfab := fab_toEdge s (max (go + 8) s.law.freeEdge)
  generalize max (go + 8) s.law.freeEdge = e at hfab ⊢
  generalize s.toEdge e = u at hfab ⊢
  refine ⟨?_, fun hk => running_lawLevels (r := startedRun s k go e) rfl hk, law_lawLevels _⟩
  rw [lawLevels_rest]
  exact hfab

/-! ### The issue of an entry -/

/-- Without an entry in flight nothing completes first. -/
theorem lawCompleteUpTo_idle {s : State} {r : LawRun} (hrun : s.law.run = some r) (hfly : r.fly = []) (e n : Nat) :
    lawCompleteUpTo e n s = s := by
  cases n with
  | zero => rfl
  | succ n => simp [lawCompleteUpTo, hrun, hfly, firstFly]

/-- The inputs of an entry whose words are good leave the state. -/
theorem lawInputs_good {s : State} {j : Nat}
    (h : ∀ n ∈ [1, 2, 3, 4], entryHalf s j n = 0 ∨ lawBad s (4 * xfKey (entryHalf s j n)) 1 = false) (i e : Nat) :
    (lawInputs s j i e).1 = s := by
  simp only [List.forall_mem_cons] at h
  obtain ⟨h1, h2, h3, h4, -⟩ := h
  simp only [lawInputs, xfTake_good h1, xfTake_good h2, xfTake_good h3, xfTake_good h4]

/-- An evaluation takes no value while no test is active. -/
theorem takesValue_inactive {s : State} (h : s.on LAW_TEST_CTRL_ACTIVE = false) (i typ : Nat) (x : LawIn) :
    takesValue s i typ x = false := by
  simp [takesValue, h]

/-- The words of a record that software writes on an edge or later: its evaluation on that edge leaves them (R137). -/
def touchedFrom (s : State) (i edge : Nat) : List Nat :=
  (upTo 16).filter fun w => w != 0 && (lateWord s (slotKey i w) edge).puts.any fun p => !p.entry

/-- The next entry of the running list in flight, its slot skipped. -/
def skippedFly (s : State) (r : LawRun) (e : Nat) : LawFly :=
  let j := entryHalf s r.next 0
  let y := slotType s j
  { entry := r.next, slot := j, typ := y, edge := e + (lawTiming y).2, skip := true }

/-- The next entry of the running list in flight, its slot evaluated on its record and inputs on the edge of its issue. -/
def evaluatedFly (s : State) (r : LawRun) (e : Nat) : LawFly :=
  let j := entryHalf s r.next 0
  let y := slotType s j
  let x := (lawInputs s r.next j e).2
  { entry := r.next, slot := j, typ := y, edge := e + (lawTiming y).2, touched := touchedFrom s j e
    ev := evalSlot y (if s.rd LAW_TEST_CTRL_SLOT = j then { x with s := some (s.rd LAW_TEST_CTRL_POINT, 0) } else x) }

/-- The state in which entry f of the running list has issued on an edge. -/
def issued (s : State) (r : LawRun) (e : Nat) (f : LawFly) : State :=
  { s with law := { s.law with run := some { r with
      next := r.next + 1, left := r.left - 1, issueEdge := e, issueI := (lawTiming f.typ).1, fly := r.fly ++ [f] } } }

section
variable {s : State} {r : LawRun} {e : Nat}

/-- An entry of a FREE slot is skipped. -/
theorem issueEntry_free (hfree : slotType s (entryHalf s r.next 0) = 0) :
    issueEntry s r e = issued (s.raise LAW_LIST_STATUS_FREE 0 r.list) r e (skippedFly s r e) := by
  rw [issueEntry]
  dsimp only
  rw [if_pos hfree]
  rfl

/-- An entry of a good slot, with good inputs and no test, is evaluated at its issue. -/
theorem issueEntry_evaluated (hslot : slotType s (entryHalf s r.next 0) ≠ 0)
    (hrec : lawBad s (0x10000 + entryHalf s r.next 0 * 0x40) 16 = false) (htest : s.on LAW_TEST_CTRL_ACTIVE = false)
    (hin : ∀ n ∈ [1, 2, 3, 4], entryHalf s r.next n = 0 ∨ lawBad s (4 * xfKey (entryHalf s r.next n)) 1 = false) :
    issueEntry s r e = issued s r e (evaluatedFly s r e) := by
  rw [issueEntry]
  dsimp only
  rw [if_neg hslot, if_neg (ne_true_of_eq_false hrec), lawInputs_good hin, if_neg (ne_true_of_eq_false (takesValue_inactive htest _ _ _))]
  rfl

/-- With no entry in flight the next one issues an interval after the last. -/
theorem lawEntryIssue_eq (hrun : s.law.run = some r) (hleft : r.left ≠ 0) (hfly : r.fly = [])
    (hgood : lawBad s (0x20000 + r.next * 16) 4 = false) :
    lawEntryIssue s = issueEntry (s.toEdge (r.issueEdge + r.issueI)) r (r.issueEdge + r.issueI) := by
  have hedge : issueEdgeOf s r = r.issueEdge + r.issueI := by rw [issueEdgeOf, hfly]; rfl
  have hlaw : (s.toEdge (r.issueEdge + r.issueI)).law.run = some r := hrun
  have hbad : lawBad (s.toEdge (r.issueEdge + r.issueI)) (0x20000 + r.next * 16) 4 = false := hgood
  rw [lawEntryIssue, hrun]
  dsimp only
  rw [if_neg hleft, hedge, lawCompleteUpTo_idle hrun hfly, hlaw]
  exact if_neg (ne_true_of_eq_false hbad)

/-- What the issue of an entry on an edge leaves: the clock, and the entry in flight that completes L clocks later. -/
def IssuedOn (s : State) (r : LawRun) (e : Nat) (f : LawFly) (t : State) : Prop :=
  let j := entryHalf s r.next 0
  let y := slotType s j
  t.fab = max s.fab e ∧ f.entry = r.next ∧ f.slot = j ∧ f.typ = y ∧ f.edge = e + (lawTiming y).2 ∧
    t.law = { s.law with run := some { r with
      next := r.next + 1, left := r.left - 1, issueEdge := e, issueI := (lawTiming y).1, fly := [f] } }

section
variable (hc : clocked s = true) (hrun : s.law.run = some r) (hleft : r.left ≠ 0) (hfly : r.fly = [])
  (hgood : lawBad s (0x20000 + r.next * 16) 4 = false)
include hc hrun hleft hfly hgood

/-- LAW_ENTRY_ISSUE with no entry in flight. -/
theorem exec_lawEntryIssue :
    exec .lawEntryIssue s = .next (issueEntry (s.toEdge (r.issueEdge + r.issueI)) r (r.issueEdge + r.issueI)) :=
  congrArg Host.Outcome.next ((onFab_on hc _).trans (lawEntryIssue_eq hrun hleft hfly hgood))

/-- A FREE slot is skipped with FREE set. -/
theorem lawEntryIssue_free (hfree : slotType s (entryHalf s r.next 0) = 0) :
    ∃ t f, exec .lawEntryIssue s = .next t ∧ t.on LAW_LIST_STATUS_FREE 0 r.list = true ∧ f.skip = true ∧
      IssuedOn s r (r.issueEdge + r.issueI) f t := by
  refine ⟨_, skippedFly (s.toEdge (r.issueEdge + r.issueI)) r (r.issueEdge + r.issueI),
    (exec_lawEntryIssue hc hrun hleft hfly hgood).trans (congrArg _ (issueEntry_free hfree)), ?_, rfl,
    fab_toEdge s _, rfl, rfl, rfl, rfl, ?_⟩
  · show State.on (State.raise _ _ _ _) _ _ _ = true
    rw [State.on, State.raise, State.rd_wr_same]
    rfl
  · simp only [issued, hfly]
    rfl

/-- Another slot is evaluated on its record and its inputs at the issue. -/
theorem lawEntryIssue_evaluated (hslot : slotType s (entryHalf s r.next 0) ≠ 0)
    (hrec : lawBad s (0x10000 + entryHalf s r.next 0 * 0x40) 16 = false) (htest : s.on LAW_TEST_CTRL_ACTIVE = false)
    (hin : ∀ n ∈ [1, 2, 3, 4], entryHalf s r.next n = 0 ∨ lawBad s (4 * xfKey (entryHalf s r.next n)) 1 = false) :
    let e := r.issueEdge + r.issueI
    let j := entryHalf s r.next 0
    let y := slotType s j
    let x := (lawInputs (s.toEdge e) r.next j e).2
    ∃ t f, exec .lawEntryIssue s = .next t ∧ f.skip = false ∧ f.test = false ∧ IssuedOn s r e f t ∧
      f.ev = evalSlot y (if s.rd LAW_TEST_CTRL_SLOT = j then { x with s := some (s.rd LAW_TEST_CTRL_POINT, 0) } else x) := by
  have htest' : (s.toEdge (r.issueEdge + r.issueI)).on LAW_TEST_CTRL_ACTIVE = false := by
    rw [State.on, rd_law_toEdge rfl]
    exact htest
  refine ⟨_, evaluatedFly (s.toEdge (r.issueEdge + r.issueI)) r (r.issueEdge + r.issueI),
    (exec_lawEntryIssue hc hrun hleft hfly hgood).trans (congrArg _ (issueEntry_evaluated hslot hrec htest' hin)), rfl, rfl,
    ⟨fab_toEdge s _, rfl, rfl, rfl, rfl, ?_⟩, ?_⟩
  · simp only [issued, hfly]
    rfl
  · have hslotReg := rd_law_toEdge (f := LAW_TEST_CTRL_SLOT) rfl s (r.issueEdge + r.issueI) 0
    have hpoint := rd_law_toEdge (f := LAW_TEST_CTRL_POINT) rfl s (r.issueEdge + r.issueI) 0
    rw [← hslotReg, ← hpoint]
    rfl

end

end

/-! ### The completion of an entry -/

/-- A value captured only where the evaluation took one. -/
theorem captureFly_untested {f : LawFly} (h : f.test = false) (s : State) : captureFly s f = s := if_neg (by simp [h])

/-- The state words of an evaluation written, those software has written since the issue apart (R137). -/
def putState (f : LawFly) (v : LawEv) (s : State) : State :=
  v.words.foldl (fun s p => if f.touched.contains p.1 then s
    else putLawWord s (slotKey f.slot p.1) { edge := f.edge, mask := 0xFFFFFFFF, val := p.2, entry := true }) s

/-- The record as an evaluation leaves it, with the DUP bit of the list. -/
def putRecord (k : Nat) (f : LawFly) (v : LawEv) (s : State) : State :=
  (putLawWord (putState f v s) (slotKey f.slot 0) (ctrlPut f.typ f.edge v)).raiseIf v.dup LAW_LIST_STATUS_DUP 0 k

/-- An entry's write of an output halfword. -/
def putOutput (f : LawFly) (n v : Nat) (s : State) : State := xfEntryWrite s (entryHalf s f.entry n) v f.edge

section
variable {s : State} {f : LawFly} {k : Nat}

/-- A completion writes the record, then the three outputs. -/
theorem lawComplete_some {v : LawEv} (hskip : f.skip = false) (htest : f.test = false) (hev : f.ev = some v) :
    lawComplete s k f = putOutput f 7 (bits (slotWord (putRecord k f v s) f.slot 0) 8 8)
      (putOutput f 6 v.out1 (putOutput f 5 v.out0 (putRecord k f v s))) := by
  rw [lawComplete, if_neg (by simp [hskip]), hev]
  dsimp only
  rw [captureFly_untested htest]
  rfl

/-- A completion without a finite result sets NF, and SAT_HI of a record other than VSM's. -/
theorem lawComplete_none (hskip : f.skip = false) (htest : f.test = false) (hev : f.ev = none) :
    lawComplete s k f = if f.typ = T_VSM then s.raise LAW_LIST_STATUS_NF 0 k
      else putLawWord (s.raise LAW_LIST_STATUS_NF 0 k) (slotKey f.slot 0)
        { edge := f.edge, mask := 2 ^ 11, val := 2 ^ 11, entry := true } := by
  rw [lawComplete, if_neg (by simp [hskip]), hev]
  dsimp only
  rw [captureFly_untested htest]

/-- The state words' writes leave the lists, the queue and the clock. -/
theorem wordsOnly_putState (f : LawFly) (v : LawEv) (s : State) : WordsOnly s (putState f v s) := by
  refine .foldl (fun t p => ?_) _ s
  split
  · exact .refl t
  · exact wordsOnly_putLawWord ..

/-- The record's writes leave the lists, the queue and the clock. -/
theorem wordsOnly_putRecord (k : Nat) (f : LawFly) (v : LawEv) (s : State) : WordsOnly s (putRecord k f v s) :=
  ((wordsOnly_putState f v s).trans (wordsOnly_putLawWord ..)).trans (wordsOnly_raiseIf ..)

/-- An output's write leaves them too. -/
theorem wordsOnly_putOutput (f : LawFly) (n v : Nat) (s : State) : WordsOnly s (putOutput f n v s) := wordsOnly_xfPut ..

/-- A completion leaves the lists, the queue and the clock. -/
theorem wordsOnly_lawComplete (hskip : f.skip = false) (htest : f.test = false) (k : Nat) (s : State) :
    WordsOnly s (lawComplete s k f) := by
  cases hev : f.ev with
  | none =>
    rw [lawComplete_none hskip htest hev]
    split
    · rfl
    · exact wordsOnly_putLawWord (s.raise LAW_LIST_STATUS_NF 0 k) _ _
  | some v =>
    rw [lawComplete_some hskip htest hev]
    exact (((wordsOnly_putRecord k f v s).trans (wordsOnly_putOutput ..)).trans (wordsOnly_putOutput ..)).trans
      (wordsOnly_putOutput ..)

/-- The record's writes leave XF. -/
theorem sameXf_putRecord {v : LawEv} (hslot : f.slot < 1024) (hwords : ∀ p ∈ v.words, p.1 < 16) (k x : Nat) (s : State) :
    SameXf x s (putRecord k f v s) := by
  have hne {w : Nat} (hw : w < 16) : xfKey x ≠ slotKey f.slot w := by
    have := slotKey_lt_xf hslot hw
    unfold xfKey
    omega
  refine .trans (.trans (.foldl (fun t p hp => ?_) s) (sameXf_putLawWord _ _ (hne (by decide)))) (sameXf_raiseIf ..)
  split
  · exact .refl x t
  · exact sameXf_putLawWord _ _ (hne (hwords p hp))

/-- An output's write leaves every other word. -/
theorem sameXf_putOutput {n x : Nat} (h : entryHalf s f.entry n ≠ x) (v : Nat) : SameXf x s (putOutput f n v s) :=
  sameXf_xfPut s _ (Ne.symm h)

/-- Without a finite result NF is set and XF is as it was. -/
theorem lawComplete_notFinite (hskip : f.skip = false) (htest : f.test = false) (hev : f.ev = none) (hslot : f.slot < 1024) :
    (lawComplete s k f).on LAW_LIST_STATUS_NF 0 k = true ∧ (lawComplete s k f).law.xf = s.law.xf := by
  have hnf : (s.raise LAW_LIST_STATUS_NF 0 k).on LAW_LIST_STATUS_NF 0 k = true := by
    rw [State.on, State.raise, State.rd_wr_same]
    rfl
  rw [lawComplete_none hskip htest hev]
  split
  · exact ⟨hnf, rfl⟩
  · exact ⟨hnf, xf_putLawWord_slot (s.raise LAW_LIST_STATUS_NF 0 k) _ (slotKey_lt_xf hslot (by decide))⟩

/-- A word that the first output alone names, without late writes, reads so from the completion edge on. -/
theorem lawComplete_out0 {v : LawEv} {a : Nat} (hskip : f.skip = false) (htest : f.test = false) (hev : f.ev = some v)
    (hslot : f.slot < 1024) (hwords : ∀ p ∈ v.words, p.1 < 16) (ha : a ≠ 0) (hlate : findKey s.law.late (xfKey a) = none)
    (h5 : entryHalf s f.entry 5 = a) (h6 : entryHalf s f.entry 6 ≠ a) (h7 : entryHalf s f.entry 7 ≠ a)
    {n : Nat} (hn : f.edge ≤ n) :
    wordSeen (lawComplete s k f) (xfKey a) (fun p => decide (p.edge ≤ n)) = v.out0 % 2 ^ 32 := by
  rw [lawComplete_some hskip htest hev]
  have hsame := sameXf_putRecord (f := f) (v := v) hslot hwords k a s
  have hentries := wordsOnly_putRecord k f v s
  generalize putRecord k f v s = t at hsame hentries ⊢
  have hentries5 := hentries.trans (wordsOnly_putOutput f 5 v.out0 t)
  have hentries6 := hentries5.trans (wordsOnly_putOutput f 6 v.out1 _)
  have hsame67 := (sameXf_putOutput (n := 6) (by rw [hentries5.entryHalf]; exact h6) v.out1).trans
    (sameXf_putOutput (n := 7) (by rw [hentries6.entryHalf]; exact h7) (bits (slotWord t f.slot 0) 8 8))
  rw [hsame67.wordSeen, putOutput, hentries.entryHalf, h5]
  obtain ⟨-, hseen⟩ := xfPut_last t ha (p := { edge := f.edge, mask := 0xFFFFFFFF, val := v.out0, entry := true }) rfl
    (by rw [hsame.1, hlate]; exact fun _ hl => absurd hl (Option.not_mem_none _))
  exact hseen _ (decide_eq_true hn)

end

/-! ### The end of a list -/

/-- A list that is done leaves the words of the engine, the clock and its NF bit; nothing runs. -/
theorem lawListDone_leaves (s : State) (r : LawRun) (e : Nat) :
    (lawListDone s r e).law = { s.law with run := none, freeEdge := e + 1 } ∧ (lawListDone s r e).fab = s.fab ∧
      (lawListDone s r e).on LAW_LIST_STATUS_NF 0 r.list = s.on LAW_LIST_STATUS_NF 0 r.list := by
  unfold lawListDone
  dsimp only
  refine ⟨law_lawLevels _, by rw [lawLevels_rest]; rfl, ?_⟩
  rw [State.on, rd_lawLevels (by decide), rd_wr_law_ne (by decide), rd_wr_law_ne (by decide), rd_wr_law_ne (by decide)]
  rfl

section
variable {s : State} {r : LawRun} {f : LawFly}

/-- The running list without the entry in flight that has completed. -/
def LawRun.without (r : LawRun) (f : LawFly) : LawRun := { r with fly := r.fly.filter fun g => g.entry != f.entry }

/-- The first entry in flight completes on its edge, and the list ends with its last one. -/
theorem lawEntryComplete_eq (hrun : s.law.run = some r) (hfirst : firstFly r.fly = some f) (hskip : f.skip = false)
    (htest : f.test = false) :
    let t := lawComplete (s.toEdge f.edge) r.list f
    let u := { t with law := { t.law with run := some (r.without f) } }
    lawEntryComplete s = if r.left = 0 ∧ (r.without f).fly = [] then lawListDone u (r.without f) f.edge else u := by
  have hrun' : (lawComplete (s.toEdge f.edge) r.list f).law.run = some r := (wordsOnly_lawComplete hskip htest _ _).run.trans hrun
  rw [lawEntryComplete, hrun]
  dsimp only
  rw [hfirst]
  dsimp only
  rw [hrun']
  simp only [Bool.and_eq_true, decide_eq_true_eq, List.isEmpty_iff]
  rfl

/-- What follows an entry's completion leaves the clock, the list's NF bit, XF and its latest writes. -/
theorem lawEntryComplete_frame (hrun : s.law.run = some r) (hfirst : firstFly r.fly = some f) (hskip : f.skip = false)
    (htest : f.test = false) :
    let t := lawComplete (s.toEdge f.edge) r.list f
    let u := lawEntryComplete s
    u.law.run = (if r.left = 0 ∧ (r.without f).fly = [] then none else some (r.without f)) ∧ u.fab = t.fab ∧
      u.on LAW_LIST_STATUS_NF 0 r.list = t.on LAW_LIST_STATUS_NF 0 r.list ∧ u.law.xf = t.law.xf ∧ u.law.late = t.law.late := by
  have heq := lawEntryComplete_eq hrun hfirst hskip htest
  dsimp only at heq ⊢
  rw [heq]
  generalize lawComplete (s.toEdge f.edge) r.list f = t
  split
  · obtain ⟨hlaw, hfab, hnf⟩ := lawListDone_leaves { t with law := { t.law with run := some (r.without f) } } (r.without f) f.edge
    rw [hlaw]
    exact ⟨rfl, hfab, hnf, rfl, rfl⟩
  · exact ⟨rfl, rfl, rfl, rfl, rfl⟩

/-- What the completion of an entry leaves. -/
theorem lawEntryComplete_leaves (hc : clocked s = true) (hrun : s.law.run = some r) (hfirst : firstFly r.fly = some f)
    (hskip : f.skip = false) (htest : f.test = false) (hslot : f.slot < 1024) :
    let rest := r.fly.filter (fun g => g.entry != f.entry)
    ∃ t, exec .lawEntryComplete s = .next t ∧ t.fab = max s.fab f.edge ∧
      t.law.run = (if r.left = 0 ∧ rest = [] then none else some { r with fly := rest }) ∧
      (f.ev = none → t.on LAW_LIST_STATUS_NF 0 r.list = true ∧ t.law.xf = s.law.xf) ∧
      (∀ v, f.ev = some v → (∀ p ∈ v.words, p.1 < 16) → ∀ a, a ≠ 0 → findKey s.law.late (xfKey a) = none →
        entryHalf s f.entry 5 = a → entryHalf s f.entry 6 ≠ a → entryHalf s f.entry 7 ≠ a → xfRead t a = v.out0 % 2 ^ 32) := by
  obtain ⟨hrun', hfab, hnf, hxf, hlate⟩ := lawEntryComplete_frame hrun hfirst hskip htest
  have hfab' : (lawEntryComplete s).fab = max s.fab f.edge :=
    (hfab.trans (wordsOnly_lawComplete hskip htest _ _).fab).trans (fab_toEdge s _)
  refine ⟨_, congrArg Host.Outcome.next (onFab_on hc _), hfab', hrun', fun hev => ?_, fun v hev hwords a ha hl h5 h6 h7 => ?_⟩
  · rw [hnf, hxf]
    exact lawComplete_notFinite hskip htest hev hslot
  · rw [xfRead, xfSeen, if_neg ha, (sameXf_of_words hxf hlate a).wordSeen, hfab']
    exact lawComplete_out0 (s := s.toEdge f.edge) hskip htest hev hslot hwords ha hl h5 h6 h7 (Nat.le_max_right _ _)

end

end Sys2Proof.Machine

/-!
The commands of the Law engine (R136, R148, R151): SLOT_INIT, INIT, START and STOP, and the statement of the engine.
-/
namespace Sys2Proof.Machine

/-! ### Accepted commands of LAW -/

/-- The state of an accepted command before its effect: the answer, and a fresh code for its word (R135). -/
def lawAnswered (s : State) (w : Nat) : State := { s.answer OK 0 with bad := s.bad.filter (· != 0x20140000 + w) }

/-- A word of LAW of which a write stores nothing. -/
theorem storeWord_law_none {w m : Nat} (h : ((Blk.law.pieces w).filter fun p => !p.silent m) = []) (hw : w ≠ 0x0F0) (s : State)
    (i data : Nat) : storeWord s .law i w data m = lawAnswered s w := by
  simp [storeWord, foldl_storePiece_filter, h, hw]
  rfl

section
variable {s : State} {req : Req} {w data m : Nat} (h : Accepts s req .law 0 w data m)
include h

/-- An accepted command of LAW that stores nothing: the answer and its effect. -/
theorem lawCmd_accepted (hs : ((Blk.law.pieces w).filter fun p => !p.silent m) = []) (hw : w ≠ 0x0F0) :
    wordCmd s req .law 0 w data m = lawRegEffect (lawAnswered s w) w (s.asked .law 0 w data m) := by
  rw [wordCmd_accepted h rfl, storeWord_law_none hs hw]
  rfl

/-- No reason of LAW's own stands against it. -/
theorem not_mem_lawRegCodes {c : Nat} (hc : c ∈ refusalOrder) : c ∉ lawRegCodes s w (s.asked .law 0 w data m) :=
  not_mem_blockCodes h.2.2 rfl hc

end

/-- SLOT_INIT stores nothing of its word. -/
theorem pieces_slotInit : ((Blk.law.pieces 0x008).filter fun p => !p.silent 0xF03FF) = [] := by decide +kernel

/-- INIT stores nothing. -/
theorem pieces_lawInit : ((Blk.law.pieces 0x000).filter fun p => !p.silent 2) = [] := by decide +kernel

/-- START stores nothing. -/
theorem pieces_testStart : ((Blk.law.pieces 0x010).filter fun p => !p.silent (2 ^ 24)) = [] := by decide +kernel

/-- STOP stores nothing. -/
theorem pieces_testStop : ((Blk.law.pieces 0x010).filter fun p => !p.silent (2 ^ 25)) = [] := by decide +kernel

/-! ### SLOT_INIT (R136) -/

/-- From s to t words of the slot records have been replaced, and nothing else has changed. -/
def SlotsOnly (s t : State) : Prop :=
  t = { s with law := { s.law with slots := t.law.slots, late := t.law.late }, bad := t.bad }

/-- One replacement after another. -/
theorem SlotsOnly.trans {s t u : State} (h : SlotsOnly s t) (k : SlotsOnly t u) : SlotsOnly s u := by
  unfold SlotsOnly at h k ⊢
  rw [k, h]

section
variable {s : State} {i w : Nat} (hi : i < 1024) (hw : w < 16)
include hi hw

/-- A word of a record replaced changes nothing outside the records. -/
theorem slotsOnly_setSlotWord (s : State) (v : Nat) : SlotsOnly s (setSlotWord s i w v) := by
  simp only [SlotsOnly, setSlotWord, setLawWord, if_pos (slotKey_lt_xf hi hw)]

/-- The words of the records after one was replaced. -/
theorem slotWord_setSlotWord (s : State) (v n : Nat) {k : Nat} (hk : k < 16) :
    slotWord (setSlotWord s i w v) n k = if n = i ∧ k = w then v % 2 ^ 32 else slotWord s n k := by
  have hkey : slotKey i w - 0x4000 = i * 16 + w := by unfold slotKey; omega
  simp only [slotWord, setSlotWord, setLawWord, if_pos (slotKey_lt_xf hi hw), hkey, Sp.get_set]
  refine if_congr ?_ rfl rfl
  omega

end

/-- A key that no entry of a table carries. -/
theorem findKey_none {α : Type} {ps : Sp α} {k : Nat} (h : ∀ p ∈ ps, k ≠ p.1) : findKey ps k = none := by
  induction ps with
  | nil => rfl
  | cons p ps ih =>
    rw [findKey, if_neg (h p List.mem_cons_self)]
    exact ih fun q hq => h q (List.mem_cons_of_mem _ hq)

/-- The words of a list written to a record. -/
def setSlotWords (i : Nat) (ps : List (Nat × Nat)) (s : State) : State := ps.foldl (fun s p => setSlotWord s i p.1 p.2) s

/-- The words below n of a record cleared. -/
def clearSlot (i n : Nat) (s : State) : State := forN n (fun w s => setSlotWord s i w 0) s

section
variable {i : Nat} (hi : i < 1024)
include hi

/-- The words of a list written to a record change nothing outside the records. -/
theorem slotsOnly_setSlotWords {ps : List (Nat × Nat)} (hps : ∀ p ∈ ps, p.1 < 16) (s : State) :
    SlotsOnly s (setSlotWords i ps s) := by
  induction ps generalizing s with
  | nil => rfl
  | cons p ps ih =>
    exact (slotsOnly_setSlotWord hi (hps p List.mem_cons_self) s p.2).trans (ih (fun q hq => hps q (List.mem_cons_of_mem _ hq)) _)

/-- Each word of the list holds its value, every other word what it held. -/
theorem slotWord_setSlotWords {ps : List (Nat × Nat)} (hps : ∀ p ∈ ps, p.1 < 16 ∧ p.2 < 2 ^ 32)
    (hd : ps.Pairwise fun p q => p.1 ≠ q.1) (s : State) (n : Nat) {k : Nat} (hk : k < 16) :
    slotWord (setSlotWords i ps s) n k = if n = i then (findKey ps k).getD (slotWord s i k) else slotWord s n k := by
  induction ps generalizing s with
  | nil =>
    by_cases hn : n = i
    · subst hn
      exact (if_pos rfl).symm
    · exact (if_neg hn).symm
  | cons p ps ih =>
    obtain ⟨w, v⟩ := p
    obtain ⟨hw, hv⟩ := hps (w, v) List.mem_cons_self
    obtain ⟨hne, hd⟩ := List.pairwise_cons.mp hd
    have hstep := ih (fun q hq => hps q (List.mem_cons_of_mem _ hq)) hd (setSlotWord s i w v)
    rw [slotWord_setSlotWord hi hw s v n hk, slotWord_setSlotWord hi hw s v i hk] at hstep
    refine hstep.trans ?_
    by_cases hn : n = i
    · subst hn
      by_cases hkw : k = w
      · subst hkw
        rw [if_pos rfl, if_pos rfl, if_pos ⟨rfl, rfl⟩, findKey_none hne, findKey, if_pos rfl]
        exact Nat.mod_eq_of_lt hv
      · rw [if_pos rfl, if_pos rfl, if_neg fun h => hkw h.2, findKey, if_neg hkw]
    · rw [if_neg hn, if_neg hn, if_neg fun h => hn h.1]

/-- The words cleared change nothing outside the records. -/
theorem slotsOnly_clearSlot {n : Nat} (hn : n ≤ 16) (s : State) : SlotsOnly s (clearSlot i n s) := by
  induction n with
  | zero => rfl
  | succ n ih => exact (ih (by omega)).trans (slotsOnly_setSlotWord hi (by omega) _ 0)

/-- The words cleared are 0, every other word holds what it held. -/
theorem slotWord_clearSlot {n : Nat} (hn : n ≤ 16) (s : State) (j : Nat) {k : Nat} (hk : k < 16) :
    slotWord (clearSlot i n s) j k = if j = i ∧ k < n then 0 else slotWord s j k := by
  induction n with
  | zero => rw [if_neg (by omega)]; rfl
  | succ n ih =>
    rw [clearSlot, forN, slotWord_setSlotWord hi (by omega) _ 0 j hk]
    rw [clearSlot] at ih
    rw [ih (by omega), Nat.zero_mod, ← ite_or]
    exact if_congr (by omega) rfl rfl

end

/-- SLOT_INIT clears the record and writes the type's words. -/
theorem slotInit_eq (s : State) (i typ : Nat) : slotInit s i typ = setSlotWords i (slotReset typ) (clearSlot i 16 s) := rfl

/-- The words that a type names at initialisation are words of a record, each named once. -/
theorem slotReset_words : ∀ typ : BitVec 4, (∀ p ∈ slotReset typ.toNat, p.1 < 16 ∧ p.2 < 2 ^ 32) ∧
    (slotReset typ.toNat).Pairwise fun p q => p.1 ≠ q.1 := by decide +kernel

/-- What SLOT_INIT leaves of the records. -/
theorem slotInit_leaves (s : State) (i : Fin 1024) (typ : BitVec 4) :
    SlotsOnly s (slotInit s i typ.toNat) ∧
      ∀ (n : Nat) (w : Fin 16), slotWord (slotInit s i typ.toNat) n w =
        if n = i then (findKey (slotReset typ.toNat) w).getD 0 else slotWord s n w := by
  obtain ⟨hwords, hdistinct⟩ := slotReset_words typ
  rw [slotInit_eq]
  refine ⟨(slotsOnly_clearSlot i.isLt (Nat.le_refl 16) s).trans (slotsOnly_setSlotWords i.isLt (fun p hp => (hwords p hp).1) _),
    fun n w => ?_⟩
  rw [slotWord_setSlotWords i.isLt hwords hdistinct _ n w.isLt, slotWord_clearSlot i.isLt (Nat.le_refl 16) s i w.isLt,
    slotWord_clearSlot i.isLt (Nat.le_refl 16) s n w.isLt, if_pos (And.intro rfl w.isLt)]
  exact if_ctx_congr Iff.rfl (fun _ => rfl) fun hn => if_neg fun h => hn h.1

/-- Two numbers with a mask of two parts: the parts masked. -/
theorem and_two_pow_mul_add {n b d : Nat} (hb : b < 2 ^ n) (hd : d < 2 ^ n) (a c : Nat) :
    (2 ^ n * a + b) &&& (2 ^ n * c + d) = 2 ^ n * (a &&& c) + (b &&& d) := by
  apply Nat.eq_of_testBit_eq
  intro k
  rw [Nat.testBit_and, Nat.testBit_two_pow_mul_add _ hb, Nat.testBit_two_pow_mul_add _ hd,
    Nat.testBit_two_pow_mul_add _ (Nat.and_lt_two_pow b hd)]
  split <;> simp

/-- The word of SLOT_INIT carries the slot and the type. -/
theorem asked_slotInit (s : State) (i : Fin 1024) (typ : BitVec 4) :
    s.asked .law 0 0x008 (i + 2 ^ 16 * typ.toNat) 0xF03FF = i + 2 ^ 16 * typ.toNat := by
  have hi : i.val < 2 ^ 16 := Nat.lt_trans i.isLt (by decide)
  refine asked_whole s _ _ _ _ _ ?_ ?_
  · rw [Nat.add_comm, show (0xF03FF : Nat) = 2 ^ 16 * (2 ^ 4 - 1) + (2 ^ 10 - 1) from rfl, and_two_pow_mul_add hi (by decide),
      Nat.and_two_pow_sub_one_eq_mod, Nat.and_two_pow_sub_one_eq_mod, Nat.mod_eq_of_lt typ.isLt, Nat.mod_eq_of_lt i.isLt]
  · rw [rwWord_none (by decide +kernel), clearBits, Nat.zero_and]

/-- SLOT_INIT carried out. -/
theorem slotInit_command {s : State} {req : Req} {i : Fin 1024} {typ : BitVec 4}
    (h : Accepts s req .law 0 0x008 (i + 2 ^ 16 * typ.toNat) 0xF03FF) :
    ∃ t, exec (.slotInit req i typ) s = .next t ∧
      AnsweredOk t ∧ t = { s with law := { s.law with slots := t.law.slots, late := t.law.late }, bad := t.bad, reply := t.reply } ∧
      (∀ w : Fin 16, slotWord t i w = (findKey (slotReset typ.toNat) w).getD 0) ∧
      (∀ (n : Nat) (w : Fin 16), n ≠ i → slotWord t n w = slotWord s n w) := by
  have heffect : lawRegEffect (lawAnswered s 0x008) 0x008 (i + 2 ^ 16 * typ.toNat) = slotInit (lawAnswered s 0x008) i typ.toNat := by
    have hslot : bits (i + 2 ^ 16 * typ.toNat) 0 10 = i := by unfold bits; omega
    have htyp : bits (i + 2 ^ 16 * typ.toNat) 16 4 = typ.toNat := by unfold bits; omega
    show slotInit _ (bits _ 0 10) (bits _ 16 4) = _
    rw [hslot, htyp]
  have hexec := (lawCmd_accepted h pieces_slotInit (by decide)).trans ((congrArg _ (asked_slotInit s i typ)).trans heffect)
  obtain ⟨hrest, hwords⟩ := slotInit_leaves (lawAnswered s 0x008) i typ
  generalize slotInit (lawAnswered s 0x008) i typ.toNat = t at hexec hrest hwords
  have hreply : t.reply = ⟨OK, 0, false⟩ := by rw [hrest]; rfl
  refine ⟨t, congrArg Host.Outcome.next hexec, hreply, ?_, fun w => by rw [hwords, if_pos rfl], fun n w hn => by rw [hwords, if_neg hn]; rfl⟩
  rw [hreply]
  exact hrest

/-! ### INIT (R151) -/

/-- START and LEN of a list cleared. -/
def clearListCfg (k : Nat) (s : State) : State := (s.wr LAW_LIST_CFG_START 0 0 k).wr LAW_LIST_CFG_LEN 0 0 k

/-- START and LEN of the lists below n cleared. -/
def clearListCfgs (n : Nat) (s : State) : State := forN n clearListCfg s

/-- Clearing the lists' configurations leaves the engine. -/
theorem law_clearListCfgs (n : Nat) (s : State) : (clearListCfgs n s).law = s.law :=
  forN_keeps (P := fun t : State => t.law = s.law) (f := clearListCfg) (fun _ _ ht => ht) n rfl

/-- Clearing the lists' configurations leaves every other field, and the answer. -/
theorem clearListCfgs_leaves {f : Fld} (hs : f.ApartInLaw LAW_LIST_CFG_START) (hl : f.ApartInLaw LAW_LIST_CFG_LEN) (n j : Nat) (s : State) :
    (clearListCfgs n s).rd f 0 j = s.rd f 0 j ∧ (clearListCfgs n s).reply = s.reply :=
  forN_keeps (P := fun t : State => t.rd f 0 j = s.rd f 0 j ∧ t.reply = s.reply) (f := clearListCfg)
    (fun k t ht => ⟨by rw [clearListCfg, rd_wr_law_ne hl, rd_wr_law_ne hs, ht.1], ht.2⟩) n ⟨rfl, rfl⟩

/-- The configurations cleared read 0. -/
theorem rd_clearListCfgs {n j : Nat} (h : j < n) (s : State) :
    (clearListCfgs n s).rd LAW_LIST_CFG_START 0 j = 0 ∧ (clearListCfgs n s).rd LAW_LIST_CFG_LEN 0 j = 0 := by
  induction n with
  | zero => exact absurd h (Nat.not_lt_zero _)
  | succ n ih =>
    rw [clearListCfgs, forN, clearListCfg, rd_wr_law_ne (by decide)]
    by_cases hj : j = n
    · subst hj
      exact ⟨State.rd_wr_same .., State.rd_wr_same ..⟩
    · rw [rd_wr_list_ne rfl rfl hj, rd_wr_list_ne rfl rfl hj, rd_wr_law_ne (by decide)]
      exact ih (by omega)

/-- What INIT makes of the engine: the windows emptied, their late writes with them, and initialisation running. -/
def initLaw (l : LawSt) : LawSt := { l with slots := [], lists := [], xf := [], late := [], initBusy := true }

/-- INIT empties the windows and clears INIT_DONE and the lists' configurations. -/
theorem lawInit_leaves (s : State) :
    (lawInit s).law = initLaw s.law ∧ (lawInit s).reply = s.reply ∧ (lawInit s).rd LAW_STATUS_INIT_DONE = 0 ∧
      ∀ n < 32, (lawInit s).rd LAW_LIST_CFG_START 0 n = 0 ∧ (lawInit s).rd LAW_LIST_CFG_LEN 0 n = 0 := by
  obtain ⟨hdone, hreply⟩ := clearListCfgs_leaves (f := LAW_STATUS_INIT_DONE) (by decide) (by decide) 32 0 (State.clear { s with
    bad := s.bad.filter (fun a => !(decide (0x20150000 ≤ a) && decide (a < 0x20174000)))
    law := initLaw s.law } LAW_STATUS_INIT_DONE)
  exact ⟨law_clearListCfgs 32 _, hreply, hdone.trans (State.rd_wr_same ..), fun n hn => rd_clearListCfgs hn _⟩

/-- Where nothing is queued, EN as it stands changes nothing of the engine, the answer and the fields beside the levels. -/
theorem lawDisabled_leaves {s : State} (hq : s.law.queue = []) :
    (lawDisabled s).law = s.law ∧ (lawDisabled s).reply = s.reply ∧
      ∀ f, (∀ g ∈ [LAW_STATUS_QLEVEL, LAW_LIST_STATUS_QUEUED, LAW_LIST_STATUS_RUNNING], f.ApartInLaw g) →
        ∀ j, (lawDisabled s).rd f 0 j = s.rd f 0 j := by
  unfold lawDisabled
  split
  · exact ⟨rfl, rfl, fun _ _ _ => rfl⟩
  · refine ⟨?_, by rw [lawLevels_rest], fun f hf j => rd_lawLevels hf ..⟩
    rw [law_lawLevels, ← hq]

/-- An INIT that is carried out finds no list queued. -/
theorem queue_of_lawInit {s : State} {req : Req} (h : Accepts s req .law 0 0x000 2 2) : s.law.queue = [] := by
  have hbit : bit (s.asked .law 0 0x000 2 2) 1 = true := bit_asked_carried rfl s .law 0 0x000 2
  have hbusy : E_BUSY ∉ lawRegCodes s 0x000 (s.asked .law 0 0x000 2 2) := not_mem_lawRegCodes h (by decide)
  by_contra hq
  exact hbusy (by simp [lawRegCodes, hbit, lawBusy, hq, codeIf])

/-- INIT carried out. -/
theorem lawInit_command {s : State} {req : Req} (h : Accepts s req .law 0 0x000 2 2) :
    ∃ t, exec (.lawInit req) s = .next t ∧
      AnsweredOk t ∧ t.law = initLaw s.law ∧ t.on LAW_STATUS_INIT_DONE = false ∧
      (∀ n : Fin 32, t.rd LAW_LIST_CFG_START 0 n = 0 ∧ t.rd LAW_LIST_CFG_LEN 0 n = 0) := by
  have hbit : bit (s.asked .law 0 0x000 2 2) 1 = true := bit_asked_carried rfl s .law 0 0x000 2
  have hexec : wordCmd s req .law 0 0x000 2 2 = lawDisabled (lawInit (lawAnswered s 0x000)) := by
    rw [lawCmd_accepted h pieces_lawInit (by decide)]
    simp only [lawRegEffect, hbit, if_true]
  obtain ⟨hlaw, hreply, hdone, hcfg⟩ := lawInit_leaves (lawAnswered s 0x000)
  generalize lawInit (lawAnswered s 0x000) = u at hexec hlaw hreply hdone hcfg
  have hqueue : u.law.queue = [] := (congrArg LawSt.queue hlaw).trans (queue_of_lawInit (s := s) h)
  obtain ⟨hlaw', hreply', hrd⟩ := lawDisabled_leaves hqueue
  refine ⟨_, congrArg Host.Outcome.next hexec, hreply'.trans hreply, hlaw'.trans hlaw, ?_, fun n => ?_⟩
  · rw [State.on, hrd _ (by decide), hdone]
    rfl
  · rw [hrd _ (by decide), hrd _ (by decide)]
    exact hcfg n n.isLt

/-- The end of initialisation. -/
theorem lawInitDone_leaves {s : State} (hc : clocked s = true) (hinit : s.law.initBusy = true) :
    exec .lawInitDone s = .next { s.raise LAW_STATUS_INIT_DONE with law := { s.law with initBusy := false } } :=
  congrArg Host.Outcome.next ((onFab_on hc _).trans (if_pos hinit))

/-! ### START, STOP and the end of the test (R148) -/

/-- The RW bits of a word lie below a bound that its RW parts keep to. -/
theorem rwWord_le (s : State) (b : Blk) (i w : Nat) :
    s.rwWord b i w ≤ sumOf (fun p => if p.fld.acc = .rw then 2 ^ (p.n + p.pos) else 0) (b.pieces w) := by
  unfold State.rwWord
  induction b.pieces w with
  | nil => exact Nat.le_refl 0
  | cons p ps ih =>
    refine Nat.add_le_add ?_ ih
    dsimp only
    split
    · rw [Nat.pow_add]
      exact Nat.mul_le_mul_right _ (Nat.le_of_lt (Nat.mod_lt _ (Nat.two_pow_pos _)))
    · exact Nat.le_refl 0

/-- The RW parts of the test signal's control word lie below START and STOP. -/
theorem bit_rwWord_test {k : Nat} (hk : 24 ≤ k) (s : State) : bit (s.rwWord .law 0 0x010) k = false := by
  have hbound : sumOf (fun p => if p.fld.acc = .rw then 2 ^ (p.n + p.pos) else 0) (Blk.law.pieces 0x010) < 2 ^ 24 := by decide +kernel
  exact Nat.testBit_lt_two_pow (Nat.lt_of_lt_of_le (Nat.lt_of_le_of_lt (rwWord_le ..) hbound) (Nat.pow_le_pow_right (by decide) hk))

/-- The requests of a START and of a STOP added to those that wait for the tick. -/
def requestTest (start stop : Bool) (s : State) : State :=
  { s with law := { s.law with startReq := s.law.startReq || start, stopReq := s.law.stopReq || stop } }

/-- START carried out. -/
theorem testStart_command {s : State} {req : Req} (h : Accepts s req .law 0 0x010 (2 ^ 24) (2 ^ 24)) :
    exec (.testStart req) s = .next (requestTest true false (lawAnswered s 0x010)) := by
  have hstart : bit (s.asked .law 0 0x010 (2 ^ 24) (2 ^ 24)) 24 = true := bit_asked_carried (by decide) ..
  have hstop : bit (s.asked .law 0 0x010 (2 ^ 24) (2 ^ 24)) 25 = false := by
    rw [bit_asked, if_neg (by decide), bit_rwWord_test (by decide)]
  refine congrArg Host.Outcome.next ((lawCmd_accepted h pieces_testStart (by decide)).trans ?_)
  show requestTest (bit _ 24) (bit _ 25) _ = _
  rw [hstart, hstop]

/-- STOP carried out. -/
theorem testStop_command {s : State} {req : Req} (h : Accepts s req .law 0 0x010 (2 ^ 25) (2 ^ 25)) :
    exec (.testStop req) s = .next (requestTest false true (lawAnswered s 0x010)) := by
  have hstart : bit (s.asked .law 0 0x010 (2 ^ 25) (2 ^ 25)) 24 = false := by
    rw [bit_asked, if_neg (by decide), bit_rwWord_test (by decide)]
  have hstop : bit (s.asked .law 0 0x010 (2 ^ 25) (2 ^ 25)) 25 = true := bit_asked_carried (by decide) ..
  refine congrArg Host.Outcome.next ((lawCmd_accepted h pieces_testStop (by decide)).trans ?_)
  show requestTest (bit _ 24) (bit _ 25) _ = _
  rw [hstart, hstop]

/-- The end of the test, where the engine's clock runs. -/
theorem exec_testEnd {s : State} (hc : clocked s = true) : exec .testEnd s = .next (testEnd s) :=
  congrArg Host.Outcome.next (onFab_on hc _)

/-- The test ends after its values. -/
theorem testEnd_due {s : State} (hactive : s.on LAW_TEST_CTRL_ACTIVE = true) (hn : s.rd LAW_TEST_COUNT_N ≠ 0)
    (hdone : s.rd LAW_TEST_COUNT_N ≤ s.rd LAW_TEST_DONE_N_DONE) : testEnd s = s.clear LAW_TEST_CTRL_ACTIVE :=
  if_pos (by simp [hactive, hn, hdone])

/-- The test goes on while it is endless or values are left. -/
theorem testEnd_undue {s : State} (h : s.on LAW_TEST_CTRL_ACTIVE = false ∨ s.rd LAW_TEST_COUNT_N = 0 ∨
    s.rd LAW_TEST_DONE_N_DONE < s.rd LAW_TEST_COUNT_N) : testEnd s = s := by
  refine if_neg ?_
  obtain hactive | hn | hdone := h
  · simp [hactive]
  · simp [hn]
  · simp [Nat.not_le_of_lt hdone]

/-! ### The statement -/

/-- Settles O40, from what each operation on the running list leaves and what each command of the engine does. -/
theorem lawEngine : Obligations.LawEngine := by
  intro s req k go core q r f i typ
  refine ⟨fun hc hrun hq => lawListStart_leaves hc hrun hq,
    fun hc hrun hleft hfly hgood => ⟨lawEntryIssue_free hc hrun hleft hfly hgood, fun hslot hrec htest hin => ?_⟩,
    fun hc hrun hfirst hskip htest hslot => lawEntryComplete_leaves hc hrun hfirst hskip htest hslot,
    slotInit_command, lawInit_command, lawInitDone_leaves,
    fun h => ⟨_, testStart_command h, rfl, ?_⟩, fun h => ⟨_, testStop_command h, rfl, ?_⟩,
    fun hc hactive hn hdone => by rw [exec_testEnd hc, testEnd_due hactive hn hdone],
    fun hc h => by rw [exec_testEnd hc, testEnd_undue h]⟩
  · exact lawEntryIssue_evaluated hc hrun hleft hfly hgood hslot hrec htest hin
  · simp [requestTest, lawAnswered]
  · simp [requestTest, lawAnswered]

end Sys2Proof.Machine

/-!
SUPPORT. How an instruction of a Spire core ends (R156, R161, R162, R171): what it leaves where it read words of TCM, where it is done
or stalls, and where it takes an exception.
-/
namespace Sys2Proof.Machine

/-! ### Words of TCM corrected (R156) -/

/-- Nothing but core c has changed, and of that core only its words under a single-bit error, of which some may be corrected. -/
structure Corrected (s t : State) (c : Nat) : Prop where
  only : OnlyCore s t c
  core : t.core c = { s.core c with tcmCorr := (t.core c).tcmCorr }
  fewer : ∀ w ∈ (t.core c).tcmCorr, w ∈ (s.core c).tcmCorr

/-- A change of a core that neither looks at its words under a single-bit error nor changes them. -/
def KeepsCorr (f : CoreSt → CoreSt) : Prop := ∀ x k, f { x with tcmCorr := k } = { f x with tcmCorr := k }

section
variable {s t u : State} {c : Nat}

/-- One change of a core after another. -/
theorem OnlyCore.trans (h : OnlyCore s t c) (k : OnlyCore t u c) : OnlyCore s u c where
  rest := by rw [k.rest, h.rest]
  cores n hn := (k.cores n hn).trans (h.cores n hn)
  regs := h.regs.trans k.regs

/-- Nothing read. -/
theorem Corrected.refl (s : State) (c : Nat) : Corrected s s c := ⟨.refl s c, rfl, fun _ h => h⟩

/-- A range of TCM read. -/
theorem corrected_tcmCorrect (s : State) (c a n : Nat) : Corrected s (tcmCorrect s c a n) c := by
  have hcore := core_tcmCorrect s c a n
  unfold tcmCorrect at hcore ⊢
  dsimp only at hcore ⊢
  split at hcore
  · rw [if_pos ‹_›]
    exact .refl s c
  · rw [if_neg ‹_›]
    refine ⟨((OnlyCore.refl s c).setCore _).countCorr _, hcore, fun w hw => ?_⟩
    rw [State.countSat, State.core, State.wr_cores] at hw
    change w ∈ ((s.setCore c _).core c).tcmCorr at hw
    rw [State.core_setCore_same] at hw
    exact List.mem_of_mem_filter hw

/-- The fetch. -/
theorem corrected_afterFetch (s : State) (c : Nat) : Corrected s (afterFetch s c) c := corrected_tcmCorrect s c _ 4

/-- One correction after another. -/
theorem Corrected.trans (h : Corrected s t c) (k : Corrected t u c) : Corrected s u c where
  only := h.only.trans k.only
  core := by rw [k.core, h.core]
  fewer w hw := h.fewer w (k.fewer w hw)

/-- What no correction touches of the core. -/
theorem Corrected.eq {α : Type} (h : Corrected s t c) {f : CoreSt → α} (hf : ∀ x k, f { x with tcmCorr := k } = f x) :
    f (t.core c) = f (s.core c) := by rw [h.core, hf]

/-- A core that no correction has changed otherwise, changed. -/
theorem Corrected.apply (h : Corrected s t c) {f : CoreSt → CoreSt} (hf : KeepsCorr f) :
    f (t.core c) = { f (s.core c) with tcmCorr := (t.core c).tcmCorr } := by rw [← hf, ← h.core]

end

/-! ### How an instruction ends -/

section
variable {i : Instr} {s u t : State} {c : Fin 16}

/-- An instruction with no stray bits runs its body on the state after the fetch. -/
theorem exec_executes (hex : Executes s c) (hi : fetched s c = some i) {bad : Bool} {body : State → CoreSt → SpRes}
    (hexec : exec i s = .next (spire s c i bad body)) (hbad : bad = false) :
    exec i s = .next (spFinish c (s.core c).pc (body (afterFetch s c) ((afterFetch s c).core c))) := by
  rw [hexec, hbad, spire_executes hex hi]

/-- An instruction that, beside corrections, changes its core alone. -/
theorem Corrected.leaves (h : Corrected s u c) {f : CoreSt → CoreSt} (hf : KeepsCorr f) (hexec : exec i s = .next t)
    (honly : OnlyCore u t c) (hcore : t.core c = f (u.core c)) : Leaves i s c (f (s.core c)) := by
  have hcorr := hcore.trans (h.apply hf)
  exact ⟨t, hexec, by rw [hcorr], fun w hw => h.fewer w (by rwa [hcorr] at hw), h.only.trans honly⟩

/-- An instruction that stalls. -/
theorem Corrected.hold (h : Corrected s u c) {f : CoreSt → CoreSt} (hf : KeepsCorr f)
    (hexec : exec i s = .next (spFinish c (s.core c).pc (.hold (u.setCore c (f (u.core c)))))) : Leaves i s c (f (s.core c)) :=
  h.leaves hf hexec ((OnlyCore.refl u c).setCore _) (State.core_setCore_same ..)

/-- An instruction that is done, with no halt asked for. -/
theorem Corrected.done (h : Corrected s u c) (hquiet : (s.core c).haltReq = false) {f : CoreSt → CoreSt} (hf : KeepsCorr f)
    (hhalt : ∀ x, (f x).haltReq = x.haltReq)
    (hexec : exec i s = .next (spFinish c (s.core c).pc (.done (u.updCore c f)))) :
    Leaves i s c { f (s.core c) with pc := (s.core c).pc + 4 } := by
  rw [spFinish_done_quiet (by rw [State.core_updCore_same, hhalt, h.core, hquiet])] at hexec
  refine h.leaves (f := fun x => { f x with pc := (s.core c).pc + 4 }) (fun x k => by simp only [hf x k]) hexec
    (((OnlyCore.refl u c).updCore f).updCore _) ?_
  rw [State.core_updCore_same, State.core_updCore_same]

/-- Outside an exception a synchronous exception enters at its vector (R161, R162). -/
theorem syncExc_enters {c : Nat} (h : (u.core c).inx = false) (code stat xpc : Nat) (addr : Option Nat) :
    syncExc u c code stat xpc addr = u.updCore c fun x => x.entered code stat xpc addr := by
  rw [syncExc, h]
  rfl

/-- An instruction that takes an exception outside one, with no halt asked for. -/
theorem Corrected.exc (h : Corrected s u c) (hquiet : (s.core c).haltReq = false) (hinx : (s.core c).inx = false)
    {code stat : Nat} {addr : Option Nat} {after : Bool}
    (hexec : exec i s = .next (spFinish c (s.core c).pc (.exc u code stat addr after))) :
    Leaves i s c ((s.core c).entered code stat (if after then (s.core c).pc + 4 else (s.core c).pc) addr) := by
  have hhalt : (u.core c).haltReq = false := by rw [h.core, hquiet]
  rw [spFinish_exc, syncExc_enters (by rw [h.core, hinx]),
    atBoundary_none (by rw [State.core_updCore_same]; exact hhalt)] at hexec
  exact h.leaves (f := fun x => x.entered code stat (if after then (s.core c).pc + 4 else (s.core c).pc) addr) (fun _ _ => rfl) hexec
    ((OnlyCore.refl u c).updCore _) (State.core_updCore_same ..)

end

end Sys2Proof.Machine

/-!
Loads and stores of the Spire cores (R155 to R158, R160, R181, R182).
-/
namespace Sys2Proof.Machine

/-! ### Loads -/

section
variable {i : Instr} {s : State} {c : Fin 16} {form : Form} {rs1 rd : BitVec 5} {imm : BitVec 16} {n : Nat} {signed fp : Bool}

/-- A value taken into a register leaves the words under a single-bit error. -/
theorem takeLoad_tcmCorr (x : CoreSt) (k : List Nat) (l : LoadReq) (v : Nat) :
    { x with tcmCorr := k }.takeLoad l v = { x.takeLoad l v with tcmCorr := k } := by
  unfold CoreSt.takeLoad
  dsimp only
  split
  · rfl
  · exact gW_tcmCorr ..

/-- A value taken into a register asks for no halt. -/
theorem haltReq_takeLoad (x : CoreSt) (l : LoadReq) (v : Nat) : (x.takeLoad l v).haltReq = x.haltReq := by
  unfold CoreSt.takeLoad
  dsimp only
  split
  · rfl
  · rw [gW_eq]

/-- The fetch changes nothing of what an access raises, nor of where it leads. -/
theorem access_afterFetch (s : State) (c : Fin 16) (form : Form) (write : Bool) (rs1 : BitVec 5) (imm : BitVec 16) (n : Nat) :
    accessFault ((afterFetch s c).core c) form write (effAddr ((afterFetch s c).core c) rs1 imm) n =
        accessFault (s.core c) form write (effAddr (s.core c) rs1 imm) n ∧
      physAddr ((afterFetch s c).core c) form (effAddr ((afterFetch s c).core c) rs1 imm) =
        physAddr (s.core c) form (effAddr (s.core c) rs1 imm) :=
  ⟨(corrected_afterFetch s c).eq (f := fun x => accessFault x form write (effAddr x rs1 imm) n) fun _ _ => rfl,
    (corrected_afterFetch s c).eq (f := fun x => physAddr x form (effAddr x rs1 imm)) fun _ _ => rfl⟩

/-- A load whose access raises an exception takes it. -/
theorem load_faults (hex : Executes s c) (hinx : (s.core c).inx = false)
    (hexec : exec i s = loadInstr s c i form rs1 imm n signed rd fp) {code addr : Nat}
    (hfault : accessFault (s.core c) form false (effAddr (s.core c) rs1 imm) n = some (code, addr)) :
    LeavesCore i s c ((s.core c).entered code 0 (s.core c).pc (some addr)) := by
  intro hi
  have hrun := exec_executes hex hi hexec rfl
  dsimp only at hrun
  rw [(access_afterFetch s c form false rs1 imm n).1, hfault] at hrun
  exact (corrected_afterFetch s c).exc hex.2.2 hinx hrun

/-- A load in the own TCM, of good words, is done with the bytes there. -/
theorem load_own (hex : Executes s c) (hexec : exec i s = loadInstr s c i form rs1 imm n signed rd fp)
    (hfault : accessFault (s.core c) form false (effAddr (s.core c) rs1 imm) n = none)
    (hown : ownTcm (physAddr (s.core c) form (effAddr (s.core c) rs1 imm)) = true)
    (hgood : (s.core c).tcmFails (physAddr (s.core c) form (effAddr (s.core c) rs1 imm) - TCM_BASE) n = false) :
    Retires i s c fun x => x.takeLoad ⟨physAddr (s.core c) form (effAddr (s.core c) rs1 imm), n, signed, rd.toNat, fp⟩
      (memLe x.tcm (physAddr (s.core c) form (effAddr (s.core c) rs1 imm) - TCM_BASE) n) := by
  intro hi
  have hrun := exec_executes hex hi hexec rfl
  have hgood' := ((corrected_afterFetch s c).eq (f := fun x => x.tcmFails _ n) fun _ _ => rfl).trans hgood
  obtain ⟨hsame, haddr⟩ := access_afterFetch s c form false rs1 imm n
  dsimp only at hrun
  rw [hsame, hfault, haddr] at hrun
  dsimp only at hrun
  rw [if_pos hown, if_neg (by rw [hgood']; decide)] at hrun
  exact ((corrected_afterFetch s c).trans (corrected_tcmCorrect ..)).done hex.2.2
    (f := fun x => x.takeLoad ⟨_, n, signed, rd.toNat, fp⟩ (memLe x.tcm _ n)) (fun x k => takeLoad_tcmCorr x k _ _)
    (fun x => haltReq_takeLoad x _ _) hrun

/-- A load elsewhere stalls the core. -/
theorem load_waits (hex : Executes s c) (hexec : exec i s = loadInstr s c i form rs1 imm n signed rd fp)
    (hfault : accessFault (s.core c) form false (effAddr (s.core c) rs1 imm) n = none)
    (hown : ownTcm (physAddr (s.core c) form (effAddr (s.core c) rs1 imm)) = false) :
    LeavesCore i s c { s.core c with
      wait := some (.load ⟨physAddr (s.core c) form (effAddr (s.core c) rs1 imm), n, signed, rd.toNat, fp⟩) } := by
  intro hi
  have hrun := exec_executes hex hi hexec rfl
  obtain ⟨hsame, haddr⟩ := access_afterFetch s c form false rs1 imm n
  dsimp only at hrun
  rw [hsame, hfault, haddr] at hrun
  dsimp only at hrun
  rw [if_neg (by rw [hown]; decide)] at hrun
  exact (corrected_afterFetch s c).hold (f := fun x => { x with wait := some (.load _) }) (fun _ _ => rfl) hrun

/-- A load that raises nothing. -/
theorem load_completes (hex : Executes s c) (hexec : exec i s = loadInstr s c i form rs1 imm n signed rd fp)
    (hfault : accessFault (s.core c) form false (effAddr (s.core c) rs1 imm) n = none) :
    let a := physAddr (s.core c) form (effAddr (s.core c) rs1 imm)
    (ownTcm a = true → (s.core c).tcmFails (a - TCM_BASE) n = false →
      Retires i s c fun x => x.takeLoad ⟨a, n, signed, rd.toNat, fp⟩ (memLe x.tcm (a - TCM_BASE) n)) ∧
    (ownTcm a = false → LeavesCore i s c { s.core c with wait := some (.load ⟨a, n, signed, rd.toNat, fp⟩) }) :=
  ⟨load_own hex hexec hfault, load_waits hex hexec hfault⟩

end

/-- Settles O7, load by load: each is one shape, of its size and its register. -/
theorem spireLoads : Obligations.SpireLoads := by
  intro s c form rd rs1 imm hex
  have hload {i : Instr} {n : Nat} (signed fp : Bool) (hexec : exec i s = loadInstr s c i form rs1 imm n signed rd fp) :=
    load_completes hex hexec
  exact ⟨hload true false rfl, hload false false rfl, hload true false rfl, hload false false rfl, hload false false rfl,
    hload false true rfl⟩

/-! ### Stores -/

/-- A byte read after a number was stored: the number's byte where it lies, what stood there elsewhere. -/
theorem memGet_memPut {m : List Host.Cell} (h : Memory.wf m = true) (a n v b : Nat) :
    memGet (memPut m a n v) b = if a ≤ b ∧ b < a + n then BitVec.ofNat 8 (v / 256 ^ (b - a)) else memGet m b := by
  by_cases hb : a ≤ b ∧ b < a + n
  · rw [if_pos hb]
    induction n generalizing m a v with
    | zero => omega
    | succ n ih =>
      rw [memPut]
      by_cases ha : b = a
      · subst ha
        rw [memGet_memPut_ne _ _ _ _ _ (memSet_wf _ _ _ h) (by omega), memGet_memSet _ _ _ _ h, if_pos rfl, Nat.sub_self,
          Nat.pow_zero, Nat.div_one]
      · rw [ih (memSet_wf _ _ _ h) (a + 1) (v / 256) (by omega), Nat.div_div_eq_div_mul, ← Nat.pow_succ',
          show (b - (a + 1)).succ = b - a by omega]
  · rw [if_neg hb, memGet_memPut_ne _ _ _ _ _ h (by omega)]

/-- A byte of a number is a byte of the number cut to more bytes. -/
theorem byte_of_cut {k n : Nat} (h : k < n) (v : Nat) :
    BitVec.ofNat 8 (v % 2 ^ (8 * n) / 256 ^ k) = BitVec.ofNat 8 (v / 256 ^ k) := by
  apply BitVec.eq_of_toNat_eq
  rw [BitVec.toNat_ofNat, BitVec.toNat_ofNat, show 8 * n = 8 * k + (8 + 8 * (n - k - 1)) by omega, Nat.pow_add, Nat.pow_add,
    show (256 : Nat) ^ k = 2 ^ (8 * k) from (Nat.pow_mul 2 8 k).symm, Nat.mod_mul_right_div_self, Nat.mod_mul_right_mod]

section
variable {i : Instr} {s : State} {c : Fin 16} {form : Form} {rs1 : BitVec 5} {imm : BitVec 16} {n : Nat} {val : CoreSt → BitVec 32}

/-- A store whose access raises an exception takes it. -/
theorem store_faults (hex : Executes s c) (hinx : (s.core c).inx = false)
    (hexec : exec i s = storeInstr s c i form rs1 imm n val) {code addr : Nat}
    (hfault : accessFault (s.core c) form true (effAddr (s.core c) rs1 imm) n = some (code, addr)) :
    LeavesCore i s c ((s.core c).entered code 0 (s.core c).pc (some addr)) := by
  intro hi
  have hrun := exec_executes hex hi hexec rfl
  dsimp only at hrun
  rw [(access_afterFetch s c form true rs1 imm n).1, hfault] at hrun
  exact (corrected_afterFetch s c).exc hex.2.2 hinx hrun

/-- A store to the own TCM. -/
theorem store_own (hex : Executes s c) (hexec : exec i s = storeInstr s c i form rs1 imm n val)
    (hval : ∀ x k, val { x with tcmCorr := k } = val x) (hi : fetched s c = some i)
    (hfault : accessFault (s.core c) form true (effAddr (s.core c) rs1 imm) n = none)
    (hown : ownTcm (physAddr (s.core c) form (effAddr (s.core c) rs1 imm)) = true)
    (hwf : Memory.wf (s.core c).tcm = true)
    (hgood : n = 4 ∨ (s.core c).tcmFails (physAddr (s.core c) form (effAddr (s.core c) rs1 imm) - TCM_BASE) n = false) :
    let off := physAddr (s.core c) form (effAddr (s.core c) rs1 imm) - TCM_BASE
    ∃ t, exec i s = .next t ∧
      t.core c = { s.core c with pc := (s.core c).pc + 4, tcm := (t.core c).tcm, tcmBad := (t.core c).tcmBad,
                                 tcmCorr := (t.core c).tcmCorr } ∧
      (∀ b, memGet (t.core c).tcm b =
        if off ≤ b ∧ b < off + n then BitVec.ofNat 8 ((val (s.core c)).toNat / 256 ^ (b - off)) else memGet (s.core c).tcm b) ∧
      OnlyCore s t c := by
  have hrun := exec_executes hex hi hexec rfl
  have hfetch := corrected_afterFetch s c
  obtain ⟨hsame, haddr⟩ := access_afterFetch s c form true rs1 imm n
  dsimp only at hrun
  rw [hsame, hfault, haddr, hfetch.eq hval] at hrun
  generalize physAddr (s.core c) form (effAddr (s.core c) rs1 imm) - TCM_BASE = off at hrun hgood ⊢
  have hgood' : ((((afterFetch s c).core c).tcmFails off n && n != 4) : Bool) = false := by
    rw [hfetch.eq (f := fun x => x.tcmFails off n) fun _ _ => rfl]
    obtain rfl | hgood := hgood
    · simp
    · simp [hgood]
  dsimp only at hrun
  rw [if_pos hown, if_neg (by rw [hgood']; decide)] at hrun
  have hready : Corrected s (if n = 4 then afterFetch s c else tcmCorrect (afterFetch s c) c off n) c := by
    split
    · exact hfetch
    · exact hfetch.trans (corrected_tcmCorrect ..)
  generalize (if n = 4 then afterFetch s c else tcmCorrect (afterFetch s c) c off n) = u at hrun hready
  have hhalt : (u.core c).haltReq = false := by rw [hready.core, hex.2.2]
  rw [spFinish_done_quiet (by rw [State.core_updCore_same]; exact hhalt)] at hrun
  refine ⟨_, hrun, ?_, fun b => ?_, (hready.only.updCore _).updCore _⟩
  · rw [State.core_updCore_same, State.core_updCore_same, hready.core]
    rfl
  · rw [State.core_updCore_same, State.core_updCore_same, hready.core]
    show memGet (memPut (s.core c).tcm off n _) b = _
    rw [memGet_memPut hwf]
    split
    · exact byte_of_cut (by omega) _
    · rfl

/-- A store elsewhere joins the write buffer while it has room, and stalls the core else. -/
theorem store_elsewhere (hex : Executes s c) (hexec : exec i s = storeInstr s c i form rs1 imm n val)
    (hval : ∀ x k, val { x with tcmCorr := k } = val x)
    (hfault : accessFault (s.core c) form true (effAddr (s.core c) rs1 imm) n = none) :
    let a := physAddr (s.core c) form (effAddr (s.core c) rs1 imm)
    let b : BufStore := ⟨a, n, (val (s.core c)).toNat % 2 ^ (8 * n), (s.core c).task⟩
    (ownTcm a = false → (s.core c).buf.length < 4 → Retires i s c fun x => { x with buf := x.buf ++ [b] }) ∧
      (ownTcm a = false → 4 ≤ (s.core c).buf.length → LeavesCore i s c { s.core c with wait := some (.store b) }) := by
  have hfetch := corrected_afterFetch s c
  obtain ⟨hsame, haddr⟩ := access_afterFetch s c form true rs1 imm n
  have hbuf := hfetch.eq (f := CoreSt.buf) fun _ _ => rfl
  constructor
  all_goals
    intro hown hlen hi
    have hrun := exec_executes hex hi hexec rfl
    dsimp only at hrun
    rw [hsame, hfault, haddr, hfetch.eq hval] at hrun
    dsimp only at hrun
    rw [if_neg (by rw [hown]; decide)] at hrun
  · rw [if_pos (by rw [hbuf]; exact hlen)] at hrun
    exact hfetch.done hex.2.2 (f := fun x => { x with buf := x.buf ++ [⟨_, _, _, x.task⟩] }) (fun _ _ => rfl) (fun _ => rfl) hrun
  · rw [if_neg (by rw [hbuf]; omega)] at hrun
    exact hfetch.hold (f := fun x => { x with wait := some (.store ⟨_, _, _, x.task⟩) }) (fun _ _ => rfl) hrun

end

/-- Settles O8, store by store: each is one shape, of its size and its register; a whole word needs no good word there. -/
theorem spireStores : Obligations.SpireStores := by
  intro s c form rd rs1 imm hex
  have hown {i : Instr} {n : Nat} (val : CoreSt → BitVec 32) (hexec : exec i s = storeInstr s c i form rs1 imm n val)
      (hval : ∀ x k, val { x with tcmCorr := k } = val x) (hi : fetched s c = some i) := store_own hex hexec hval hi
  have helse {i : Instr} {n : Nat} (val : CoreSt → BitVec 32) (hexec : exec i s = storeInstr s c i form rs1 imm n val)
      (hval : ∀ x k, val { x with tcmCorr := k } = val x) := store_elsewhere hex hexec hval
  exact ⟨fun h => ⟨fun ho hwf hgood hi => hown (·.gR rd.toNat) rfl (fun _ _ => rfl) hi h ho hwf (.inr hgood),
      helse (·.gR rd.toNat) rfl (fun _ _ => rfl) h⟩,
    fun h => ⟨fun ho hwf hgood hi => hown (·.gR rd.toNat) rfl (fun _ _ => rfl) hi h ho hwf (.inr hgood),
      helse (·.gR rd.toNat) rfl (fun _ _ => rfl) h⟩,
    fun h => ⟨fun ho hwf hi => hown (·.gR rd.toNat) rfl (fun _ _ => rfl) hi h ho hwf (.inl rfl),
      helse (·.gR rd.toNat) rfl (fun _ _ => rfl) h⟩,
    fun h => ⟨fun ho hwf hi => hown (·.fR rd.toNat) rfl (fun _ _ => rfl) hi h ho hwf (.inl rfl),
      helse (·.fR rd.toNat) rfl (fun _ _ => rfl) h⟩⟩

/-! ### Access faults -/

/-- Settles O9: a load or store whose access raises ACCESS or ALIGN takes it. -/
theorem spireAccessFaults : Obligations.SpireAccessFaults := by
  intro s c form rd rs1 imm code addr hex hinx
  exact ⟨load_faults hex hinx rfl, load_faults hex hinx rfl, load_faults hex hinx rfl, load_faults hex hinx rfl,
    load_faults hex hinx rfl, load_faults hex hinx rfl, store_faults hex hinx rfl, store_faults hex hinx rfl,
    store_faults hex hinx rfl, store_faults hex hinx rfl⟩

end Sys2Proof.Machine

/-!
SUPPORT. What a core's halt leaves (R165, R171, R245): the core and Belfry change, and the fields that show them.
-/
namespace Sys2Proof.Machine

/-! ### Places of register fields -/

/-- A place among the register fields of Belfry (R28). -/
def belfryPlace (k : Nat) : Prop := 0x20040000 * 32 ≤ k ∧ k < 0x20050000 * 32

/-- A field of the SPIRE blocks (R28), of one word. -/
abbrev Fld.OfSpire (f : Fld) : Prop := f.blk = .spire ∧ f.off < 0x1000 ∧ f.lsb < 32

section
variable {f g : Fld}

/-- A field of a lock token lies in Belfry. -/
theorem belfryPlace_token (hf : f.blk = .belfry ∧ f.sub = 0x10 ∧ f.off < 0x500 ∧ f.lsb < 32) {t : Nat} (ht : t < 64) :
    belfryPlace (f.key 0 t) := by
  obtain ⟨hb, hs, ho, hl⟩ := hf
  simp only [belfryPlace, Fld.key, Fld.addr, hb, hs, Blk.inst, Blk.base, Blk.stride, reduceCtorEq, if_false]
  omega

/-- The place of a field of SPIRE_c. -/
theorem Fld.OfSpire.key (hf : f.OfSpire) (c : Nat) : f.key c 0 = (0x20600000 + c * 0x1000 + f.off) * 32 + f.lsb := by
  obtain ⟨hb, -, -⟩ := hf
  simp only [Fld.key, Fld.addr, hb, Blk.inst, Blk.base, Blk.stride, reduceCtorEq, if_false]
  omega

/-- The fields of the SPIRE blocks lie behind those of Belfry and of Lantern. -/
theorem Fld.OfSpire.behind (hf : f.OfSpire) (c : Nat) : 0x20600000 * 32 ≤ f.key c 0 := by rw [hf.key]; omega

/-- No field of the SPIRE blocks lies in Belfry. -/
theorem Fld.OfSpire.not_belfry (hf : f.OfSpire) (c : Nat) : ¬ belfryPlace (f.key c 0) := by
  have := hf.behind c
  unfold belfryPlace
  omega

/-- Fields of different cores, or at different places of the block, lie apart. -/
theorem Fld.OfSpire.ne (hf : f.OfSpire) (hg : g.OfSpire) {c d : Nat} (h : c ≠ d ∨ f.off ≠ g.off ∨ f.lsb ≠ g.lsb) :
    f.key c 0 ≠ g.key d 0 := by
  rw [hf.key, hg.key]
  obtain ⟨-, hfo, hfl⟩ := hf
  obtain ⟨-, hgo, hgl⟩ := hg
  omega

/-- The fields that show a core's own state. -/
def coreFields : List Fld := [SPIRE_STATUS_WAITING, SPIRE_STATUS_PRIV, SPIRE_MBOX_LEVEL_LEVEL, SPIRE_ECC_CORR]

/-- A place among those that show core c is that of one of these fields. -/
theorem mem_coreKeys {k c : Nat} : k ∈ coreKeys c ↔ ∃ g ∈ coreFields, k = g.key c 0 := by
  simp [coreKeys, coreFields]

/-- The fields that show a core are fields of its block. -/
theorem ofSpire_coreFields : ∀ g ∈ coreFields, g.OfSpire := by decide

/-- Another field of the SPIRE blocks shows no core. -/
theorem Fld.OfSpire.not_core (hf : f.OfSpire) (h : ∀ g ∈ coreFields, f.off ≠ g.off ∨ f.lsb ≠ g.lsb) (c d : Nat) :
    f.key d 0 ∉ coreKeys c := by
  rw [mem_coreKeys]
  rintro ⟨g, hg, he⟩
  exact hf.ne (ofSpire_coreFields g hg) (.inr (h g hg)) he

/-- A field before the SPIRE blocks shows no core. -/
theorem not_core_of_low {k : Nat} (h : k < 0x20600000 * 32) (c : Nat) : k ∉ coreKeys c := by
  rw [mem_coreKeys]
  rintro ⟨g, hg, rfl⟩
  exact Nat.not_le_of_lt h ((ofSpire_coreFields g hg).behind c)

end

/-! ### What an operation of Belfry may change -/

/-- Nothing has changed but Belfry: its hidden state and its register fields. -/
structure BelfryOnly (s t : State) : Prop where
  rest : t = { s with regs := t.regs, bel := t.bel }
  rd : ∀ (f : Fld) (i j : Nat), ¬ belfryPlace (f.key i j) → t.rd f i j = s.rd f i j

section
variable {s t u : State}

/-- Nothing changed. -/
theorem BelfryOnly.refl (s : State) : BelfryOnly s s := ⟨rfl, fun _ _ _ _ => rfl⟩

/-- One change after another. -/
theorem BelfryOnly.trans (h : BelfryOnly s t) (k : BelfryOnly t u) : BelfryOnly s u where
  rest := by rw [k.rest, h.rest]
  rd f i j hf := (k.rd f i j hf).trans (h.rd f i j hf)

/-- A field of Belfry written. -/
theorem BelfryOnly.wr (h : BelfryOnly s t) {f : Fld} {i j : Nat} (hf : belfryPlace (f.key i j)) (v : Nat) :
    BelfryOnly s (t.wr f v i j) where
  rest := by rw [h.rest]; rfl
  rd g a b hg := (State.rd_wr_ne t f g v i j a b fun e => hg (e ▸ hf)).trans (h.rd g a b hg)

/-- Belfry's hidden state changed. -/
theorem BelfryOnly.bel (h : BelfryOnly s t) (b : BelSt) : BelfryOnly s { t with bel := b } where
  rest := by rw [h.rest]
  rd := h.rd

/-- Either branch. -/
theorem BelfryOnly.ite {c : Prop} [Decidable c] (ht : BelfryOnly s t) (hu : BelfryOnly s u) : BelfryOnly s (if c then t else u) := by
  split <;> assumption

/-- The numbers below n taken in order. -/
theorem BelfryOnly.forN {n : Nat} {f : Nat → State → State} (hf : ∀ k < n, ∀ t, BelfryOnly t (f k t)) (s : State) :
    BelfryOnly s (forN n f s) := by
  induction n with
  | zero => exact .refl s
  | succ n ih => exact (ih fun k hk => hf k (Nat.lt_succ_of_lt hk)).trans (hf n (Nat.lt_succ_self n) _)

/-- The cores are as before. -/
theorem BelfryOnly.core (h : BelfryOnly s t) (k : Nat) : t.core k = s.core k := by rw [h.rest]; rfl

end

section
variable {t : Nat} (ht : t < 64) (s : State)
include ht

/-- Waiters of a token replaced. -/
theorem belfryOnly_setWaiters (ws : List Waiter) : BelfryOnly s (setWaiters s t ws) :=
  ((BelfryOnly.refl s).wr (belfryPlace_token (by decide) ht) _).bel _

/-- A token released. -/
theorem belfryOnly_freeToken : BelfryOnly s (freeToken s t) :=
  (((BelfryOnly.refl s).wr (belfryPlace_token (by decide) ht) _).wr (belfryPlace_token (by decide) ht) _).bel _

/-- A token passed to a waiting core. -/
theorem belfryOnly_passToken (core : Nat) : BelfryOnly s (passToken s t core) :=
  ((belfryOnly_setWaiters ht s _).wr (belfryPlace_token (by decide) ht) _).wr (belfryPlace_token (by decide) ht) _

/-- A token released and broken where its owner failed. -/
theorem belfryOnly_breakToken : BelfryOnly s (((freeToken s t).raise BELFRY_TOK_STATE_BROKEN 0 t).count BELFRY_TOK_STATE_EPOCH 0 t) :=
  ((belfryOnly_freeToken ht s).wr (belfryPlace_token (by decide) ht) _).wr (belfryPlace_token (by decide) ht) _

end

/-- A fault of an owner (R245): token by token, a waiting request is withdrawn and a token held is released as broken. -/
theorem belfryOnly_ownerFault (s : State) (owner : Nat) : BelfryOnly s (ownerFault s owner) := by
  unfold ownerFault State.raiseIf
  dsimp only
  have htokens := BelfryOnly.forN (n := 64) (f := fun t s =>
    let s := if (s.bel.waiters.get [] t).any (fun w => w.core == owner) then lockWithdraw s t owner else s
    if holds s t owner then ((freeToken s t).raise BELFRY_TOK_STATE_BROKEN 0 t).count BELFRY_TOK_STATE_EPOCH 0 t else s)
    (fun k hk t => (BelfryOnly.ite (belfryOnly_setWaiters hk t _) (.refl t)).trans (.ite (belfryOnly_breakToken hk _) (.refl _))) s
  exact .ite (htokens.wr (by unfold belfryPlace; decide) _) htokens

/-! ### What a halt may change -/

/-- The register fields that a halt of core c writes in its block: those that show the core, HALTED, CAUSE and PC (R171). -/
def haltKeys (c : Nat) : List Nat :=
  SPIRE_STATUS_HALTED.key c 0 :: SPIRE_STATUS_CAUSE.key c 0 :: SPIRE_PC_PC.key c 0 :: coreKeys c

/-- Nothing has changed but core c, Belfry, and the register fields that show them and a halt of the core. -/
structure HaltOnly (s t : State) (c : Nat) : Prop where
  rest : t = { s with regs := t.regs, cores := t.cores, bel := t.bel }
  cores : ∀ k, k ≠ c → t.core k = s.core k
  rd : ∀ (f : Fld) (i j : Nat), ¬ belfryPlace (f.key i j) → f.key i j ∉ haltKeys c → t.rd f i j = s.rd f i j

section
variable {s t u : State} {c : Nat}

/-- Nothing changed. -/
theorem HaltOnly.refl (s : State) (c : Nat) : HaltOnly s s c := ⟨rfl, fun _ _ => rfl, fun _ _ _ _ _ => rfl⟩

/-- One change after another. -/
theorem HaltOnly.trans (h : HaltOnly s t c) (k : HaltOnly t u c) : HaltOnly s u c where
  rest := by rw [k.rest, h.rest]
  cores n hn := (k.cores n hn).trans (h.cores n hn)
  rd f i j hb hk := (k.rd f i j hb hk).trans (h.rd f i j hb hk)

/-- The core alone changed. -/
theorem OnlyCore.haltOnly (h : OnlyCore s t c) : HaltOnly s t c where
  rest := by rw [h.rest]
  cores := h.cores
  rd f i j _ hk := h.regs f i j fun hm => hk (by simp [haltKeys, hm])

/-- Belfry alone changed. -/
theorem BelfryOnly.haltOnly (h : BelfryOnly s t) (c : Nat) : HaltOnly s t c where
  rest := by rw [h.rest]
  cores k _ := h.core k
  rd f i j hb _ := h.rd f i j hb

/-- A field written that a halt writes. -/
theorem HaltOnly.wr (h : HaltOnly s t c) {f : Fld} {i j : Nat} (hf : f.key i j ∈ haltKeys c) (v : Nat) :
    HaltOnly s (t.wr f v i j) c where
  rest := by rw [h.rest]; rfl
  cores := h.cores
  rd g a b hb hk := (State.rd_wr_ne t f g v i j a b fun e => hk (e ▸ hf)).trans (h.rd g a b hb hk)

/-- The memory is as before. -/
theorem HaltOnly.sameMemory (h : HaltOnly s t c) : SameMemory s t := fun a => by rw [h.rest]

/-- The clock is as before. -/
theorem HaltOnly.fab (h : HaltOnly s t c) : t.fab = s.fab := by rw [h.rest]

/-- Another core is halted where it was before. -/
theorem HaltOnly.halted (h : HaltOnly s t c) {k : Nat} (hk : k ≠ c) : t.on SPIRE_STATUS_HALTED k = s.on SPIRE_STATUS_HALTED k := by
  have hspire : SPIRE_STATUS_HALTED.OfSpire := by decide
  rw [State.on, State.on, h.rd _ _ _ (hspire.not_belfry k)]
  simp only [haltKeys, List.mem_cons, not_or]
  exact ⟨hspire.ne hspire (.inl hk), hspire.ne (by decide) (.inl hk), hspire.ne (by decide) (.inl hk),
    hspire.not_core (by decide) c k⟩

/-- The power state is as before. -/
theorem HaltOnly.inRun (h : HaltOnly s t c) : inRun t = inRun s := by
  have hlow : LANTERN_STATUS_STATE.key 0 0 < 0x20040000 * 32 := by decide
  have hhalt {f : Fld} (hf : f.OfSpire) : LANTERN_STATUS_STATE.key 0 0 ≠ f.key c 0 :=
    fun e => absurd (hf.behind c) (by omega)
  rw [Machine.inRun, Machine.inRun, h.rd _ _ _ (by unfold belfryPlace; omega)]
  simp only [haltKeys, List.mem_cons, not_or]
  exact ⟨hhalt (by decide), hhalt (by decide), hhalt (by decide), not_core_of_low (by omega) c⟩

end

/-! ### The halt of a core -/

section
variable (s : State) (c cause : Nat)

/-- A halt as its register fields show it, before the core's tokens are released (R171). -/
def haltShown : State :=
  (((s.setCore c { s.core c with wait := none, haltReq := false }).raise SPIRE_STATUS_HALTED c).wr SPIRE_STATUS_CAUSE cause c).wr
    SPIRE_PC_PC ((s.core c).pc / 4) c

/-- A halt changes the core and Belfry. -/
theorem haltOnly_haltCore : HaltOnly s (haltCore s c cause) c :=
  ((((((OnlyCore.refl s c).setCore _).haltOnly).wr (by simp [haltKeys]) _).wr (by simp [haltKeys]) _).wr
    (by simp [haltKeys]) _).trans ((belfryOnly_ownerFault _ c).haltOnly c)

/-- A core that halts waits for nothing, and its registers stay. -/
theorem core_haltCore : (haltCore s c cause).core c = { s.core c with wait := none, haltReq := false } :=
  ((belfryOnly_ownerFault (haltShown s c cause) c).core c).trans (State.core_setCore_same ..)

/-- A halt is shown with its cause. -/
theorem rd_haltCore : (haltCore s c cause).on SPIRE_STATUS_HALTED c = true ∧
    (haltCore s c cause).rd SPIRE_STATUS_CAUSE c = cause % 2 ^ 4 := by
  have hne {f g : Fld} (hf : f.OfSpire) (hg : g.OfSpire) (h : f.off ≠ g.off ∨ f.lsb ≠ g.lsb) : f.key c 0 ≠ g.key c 0 :=
    hf.ne hg (.inr h)
  have howner {f : Fld} (hf : f.OfSpire) : (haltCore s c cause).rd f c = (haltShown s c cause).rd f c :=
    (belfryOnly_ownerFault (haltShown s c cause) c).rd f c 0 (hf.not_belfry c)
  constructor
  · rw [State.on, howner (by decide), haltShown, State.rd_wr_ne _ _ _ _ _ _ _ _ (hne (by decide) (by decide) (by decide)),
      State.rd_wr_ne _ _ _ _ _ _ _ _ (hne (by decide) (by decide) (by decide)), State.raise, State.rd_wr_same]
    rfl
  · rw [howner (by decide), haltShown, State.rd_wr_ne _ _ _ _ _ _ _ _ (hne (by decide) (by decide) (by decide)), State.rd_wr_same]
    rfl

end

/-! ### The end of an instruction or of a wait (R171) -/

section
variable {s : State} {c : Nat}

/-- At a boundary a core halts if it was asked to, and nothing else happens. -/
theorem haltOnly_atBoundary (s : State) (c : Nat) : HaltOnly s (atBoundary s c) c := by
  unfold atBoundary
  split
  · exact haltOnly_haltCore ..
  · exact .refl s c

/-- A core that waits for nothing is at a boundary as it was, but for the halt asked for. -/
theorem core_atBoundary (h : (s.core c).wait = none) :
    (atBoundary s c).core c = { s.core c with haltReq := ((atBoundary s c).core c).haltReq } := by
  unfold atBoundary
  split
  · rw [core_haltCore, ← h]
  · rfl

/-- The end of a wait changes the core and Belfry. -/
theorem haltOnly_resume (s : State) (c : Nat) : HaltOnly s (resume s c) c :=
  (((OnlyCore.refl s c).updCore _).haltOnly).trans (haltOnly_atBoundary ..)

/-- A core whose wait ends goes on at the next instruction, but for a halt asked for. -/
theorem core_resume (s : State) (c : Nat) : (resume s c).core c =
    { s.core c with wait := none, pc := (s.core c).pc + 4, haltReq := ((resume s c).core c).haltReq } := by
  have hcore : (s.updCore c fun x => { x with wait := none, pc := x.pc + 4 }).core c =
      { s.core c with wait := none, pc := (s.core c).pc + 4 } := State.core_updCore_same ..
  have := core_atBoundary (s := s.updCore c fun x => { x with wait := none, pc := x.pc + 4 }) (c := c) (by rw [hcore])
  rw [hcore] at this
  exact this

end

end Sys2Proof.Machine

/-!
The system instructions, exceptions inside exceptions and faults of the fetch (R152, R156, R161, R162, R165, R171, R173, R193).
-/
namespace Sys2Proof.Machine

/-! ### XRET, TRAP, BREAK and HALT (R162, R193) -/

section
variable {s : State} {c : Fin 16}

/-- XRET in SUP returns to what exception entry saved. -/
theorem xret_returns (hex : Executes s c) (hsup : (s.core c).task = false) : LeavesCore (.spXret c 0 0 0) s c
    { s.core c with ie := (s.core c).xsIe, mie := (s.core c).xsMie, task := (s.core c).xsTask, inx := false, pc := (s.core c).xpc } := by
  intro hi
  have hfetch := corrected_afterFetch s c
  have hsup' : ¬ ((afterFetch s c).core c).task = true := by rw [hfetch.core, hsup]; decide
  have hhalt : ((afterFetch s c).core c).haltReq = false := by rw [hfetch.core, hex.2.2]
  have hrun := exec_executes hex hi rfl rfl
  rw [if_neg hsup', spFinish_ret, atBoundary_none (by rw [leaveExc, State.core_updCore_same]; exact hhalt)] at hrun
  exact hfetch.leaves (f := fun x => { x with ie := x.xsIe, mie := x.xsMie, task := x.xsTask, inx := false, pc := x.xpc })
    (fun _ _ => rfl) hrun ((OnlyCore.refl _ c).updCore _) (State.core_updCore_same ..)

/-- XRET and HALT in TASK raise PRIV. -/
theorem sysInstr_priv {i : Instr} {f : State → SpRes} (hex : Executes s c) (htask : (s.core c).task = true)
    (hinx : (s.core c).inx = false) (hexec : exec i s = sysInstr s c i 0 0 0 f) :
    LeavesCore i s c ((s.core c).entered 3 0 (s.core c).pc none) := by
  intro hi
  have hfetch := corrected_afterFetch s c
  have hrun := exec_executes hex hi hexec rfl
  rw [if_pos (by rw [hfetch.core, htask])] at hrun
  exact hfetch.exc hex.2.2 hinx hrun

/-- HALT in SUP halts the core behind the instruction. -/
theorem halt_halts (hex : Executes s c) (hsup : (s.core c).task = false) (hi : fetched s c = some (.spHalt c 0 0 0)) :
    ∃ t, exec (.spHalt c 0 0 0) s = .next t ∧ t.on SPIRE_STATUS_HALTED c = true ∧ t.rd SPIRE_STATUS_CAUSE c = 3 ∧
      (t.core c).pc = (s.core c).pc + 4 ∧ SameMemory s t := by
  have hfetch := corrected_afterFetch s c
  have hsup' : ¬ ((afterFetch s c).core c).task = true := by rw [hfetch.core, hsup]; decide
  have hrun := exec_executes hex hi rfl rfl
  rw [if_neg hsup', spFinish_halt] at hrun
  obtain ⟨hhalted, hcause⟩ := rd_haltCore ((afterFetch s c).updCore c fun x => { x with pc := (s.core c).pc + 4 }) c HC_INSTR
  refine ⟨_, hrun, hhalted, hcause, ?_, ?_⟩
  · rw [core_haltCore, State.core_updCore_same]
  · exact ((hfetch.only.updCore _).haltOnly.trans (haltOnly_haltCore ..)).sameMemory

end

/-- Settles O12, instruction by instruction. -/
theorem spireSystemInstructions : Obligations.SpireSystemInstructions := by
  intro s c code hex
  have hfetch := corrected_afterFetch s c
  exact ⟨xret_returns hex, fun hinx hi => hfetch.exc hex.2.2 hinx (after := true) (exec_executes hex hi rfl rfl),
    fun hinx hi => hfetch.exc hex.2.2 hinx (after := false) (exec_executes hex hi rfl rfl),
    fun htask hinx => ⟨sysInstr_priv hex htask hinx rfl, sysInstr_priv hex htask hinx rfl⟩, halt_halts hex⟩

/-! ### An exception inside an exception (R162) -/

/-- An exception raised inside one halts the core with cause DOUBLE. -/
theorem exc_doubles {i : Instr} {s u : State} {c : Fin 16} (h : Corrected s u c) (hinx : (s.core c).inx = true)
    {code stat : Nat} {addr : Option Nat} {after : Bool}
    (hexec : exec i s = .next (spFinish c (s.core c).pc (.exc u code stat addr after))) :
    ∃ t, exec i s = .next t ∧ t.on SPIRE_STATUS_HALTED c = true ∧ t.rd SPIRE_STATUS_CAUSE c = 2 ∧
      (t.core c).xpc = (s.core c).xpc ∧ (t.core c).xcode = (s.core c).xcode ∧ (∀ k, (t.core c).gR k = (s.core c).gR k) ∧
      SameMemory s t := by
  have hcore := core_haltCore u c HC_DOUBLE
  obtain ⟨hhalted, hcause⟩ := rd_haltCore u c HC_DOUBLE
  rw [spFinish_exc, syncExc, if_pos (by rw [h.core, hinx]), atBoundary_none (by rw [hcore])] at hexec
  rw [h.core] at hcore
  exact ⟨_, hexec, hhalted, hcause, by rw [hcore], by rw [hcore], fun k => by rw [hcore]; rfl,
    (h.only.haltOnly.trans (haltOnly_haltCore ..)).sameMemory⟩

/-- Settles O19: TRAP and BREAK raise their exceptions inside one. -/
theorem spireDoubleFault : Obligations.SpireDoubleFault := by
  intro s c code hex hinx i hmem hi
  have hfetch := corrected_afterFetch s c
  simp only [List.mem_cons, List.not_mem_nil, or_false] at hmem
  obtain rfl | rfl := hmem
  · exact exc_doubles hfetch hinx (after := true) (exec_executes hex hi rfl rfl)
  · exact exc_doubles hfetch hinx (after := false) (exec_executes hex hi rfl rfl)

/-! ### Faults of the fetch (R152, R156, R173) -/

section
variable {i : Instr} {s : State} {c : Fin 16} {bad : Bool} {body : State → CoreSt → SpRes}
  (hexec : exec i s = .next (spire s c i bad body)) (hruns : coreRuns s c = true) (hquiet : (s.core c).haltReq = false)
  (hinx : (s.core c).inx = false)
include hexec hruns hquiet hinx

/-- A fetch beyond TCM takes ACCESS. -/
theorem fetch_beyond (hpc : 0x40000 ≤ (s.core c).pc) :
    Leaves i s c ((s.core c).entered 4 0 (s.core c).pc (some (0xF0000000 + (s.core c).pc))) := by
  rw [spire_fetchFault hruns (if_pos hpc)] at hexec
  exact (Corrected.refl s c).exc hquiet hinx hexec

/-- A fetch of a word under an uncorrectable error takes ECC. -/
theorem fetch_ecc (hpc : (s.core c).pc < 0x40000) (hbad : (s.core c).tcmFails (s.core c).pc 4 = true) :
    ∃ t, exec i s = .next t ∧ t.on SPIRE_ECC_UNCORR c = true ∧
      t.core c = (s.core c).entered 6 0x0F (s.core c).pc (some (0xF0000000 + (s.core c).pc)) ∧ SameMemory s t := by
  rw [spire_fetchFault hruns ((if_neg (Nat.not_le_of_lt hpc)).trans (if_pos hbad)), spFinish_exc, syncExc_enters (u := s.raise SPIRE_ECC_UNCORR c) hinx,
    atBoundary_none (by rw [State.core_updCore_same]; exact hquiet)] at hexec
  refine ⟨_, hexec, ?_, State.core_updCore_same .., fun _ => rfl⟩
  rw [State.on, ((OnlyCore.refl _ c).updCore _).regs _ _ _ (Fld.OfSpire.not_core (by decide) (by decide) c c), State.raise,
    State.rd_wr_same]
  rfl

/-- A word that no row has takes ILLEGAL. -/
theorem fetch_unknown (hfetch : fetchFault s c = none) (hi : fetched s c = none) :
    Leaves i s c ((s.core c).entered 2 0 (s.core c).pc none) := by
  rw [spire_unknown hruns hfetch hi] at hexec
  exact (corrected_afterFetch s c).exc hquiet hinx hexec

end

/-- Settles O18: whatever the instruction, its frame judges the fetch first. -/
theorem spireFetchFaults : Obligations.SpireFetchFaults := by
  intro s c rd rs1 rs2 imm csr far code i hmem hruns hquiet hinx
  have hframe : ∃ bad body, exec i s = .next (spire s c i bad body) := by
    simp only [List.mem_cons, List.not_mem_nil, or_false] at hmem
    obtain rfl | rfl | rfl | rfl | rfl | rfl := hmem <;> exact ⟨_, _, rfl⟩
  obtain ⟨bad, body, hexec⟩ := hframe
  exact ⟨fetch_beyond hexec hruns hquiet hinx, fetch_ecc hexec hruns hquiet hinx, fetch_unknown hexec hruns hquiet hinx⟩

end Sys2Proof.Machine

/-!
The CSR instructions (R160, R169, R180, R191).
-/
namespace Sys2Proof.Machine

/-! ### A CSR written beside words corrected -/

/-- Changes that leave the words under a single-bit error, one after the other. -/
theorem KeepsCorr.comp {f g : CoreSt → CoreSt} (hf : KeepsCorr f) (hg : KeepsCorr g) : KeepsCorr fun x => f (g x) := by
  intro x k
  dsimp only
  rw [hg, hf]

/-- A g register written. -/
theorem keepsCorr_gW (rd : Nat) (v : BitVec 32) : KeepsCorr (·.gW rd v) := fun x k => gW_tcmCorr x k rd v

/-- The latch of CCOUNT_HI. -/
theorem keepsCorr_csrLatch (s : State) (n : Nat) : KeepsCorr (csrLatch s n) := by
  intro x k
  unfold csrLatch
  split <;> rfl

/-- A CSR written leaves the words under a single-bit error, and asks for no halt. -/
theorem csrWrite_rest (n v : Nat) (x : CoreSt) (k : List Nat) :
    csrWrite n v { x with tcmCorr := k } = { csrWrite n v x with tcmCorr := k } ∧ (csrWrite n v x).haltReq = x.haltReq := by
  unfold csrWrite
  split
  case h_8 =>
    split
    · exact ⟨rfl, rfl⟩
    split
    · exact ⟨rfl, rfl⟩
    split
    · split <;> exact ⟨rfl, rfl⟩
    · exact ⟨rfl, rfl⟩
  all_goals exact ⟨rfl, rfl⟩

/-- A CSR written. -/
theorem keepsCorr_csrWrite (n v : Nat) : KeepsCorr (csrWrite n v) := fun x k => (csrWrite_rest n v x k).1

/-- A latch asks for no halt. -/
theorem haltReq_csrLatch (s : State) (n : Nat) (x : CoreSt) : (csrLatch s n x).haltReq = x.haltReq := by
  unfold csrLatch
  split <;> rfl

/-- The latch holds the same count after the fetch. -/
theorem csrLatch_afterFetch (s : State) (c n : Nat) (x : CoreSt) : csrLatch (afterFetch s c) n x = csrLatch s n x := by
  unfold csrLatch coreClocks
  rw [fab_afterFetch]

/-! ### The CSR instructions -/

section
variable {i : Instr} {s : State} {c : Fin 16} {bad : Bool} {rd : BitVec 5} {csr : BitVec 12} {new : CoreSt → Nat → Option Nat}
  {old v : Nat}

/-- What a CSR reads as after the fetch is that of the core before it. -/
theorem csrRead_afterFetch (s : State) (c : Fin 16) (n : Nat) :
    csrRead (afterFetch s c) c n ((afterFetch s c).core c) = csrRead (afterFetch s c) c n (s.core c) :=
  (corrected_afterFetch s c).eq fun _ _ => rfl

section
variable (hexec : exec i s = csrInstr s c i bad rd csr new) (hbad : bad = false) (hex : Executes s c)
include hexec hbad hex

/-- An unknown number raises ILLEGAL. -/
theorem csr_unknown (hread : csrRead (afterFetch s c) c csr.toNat (s.core c) = none) (hinx : (s.core c).inx = false) :
    LeavesCore i s c ((s.core c).entered 2 0 (s.core c).pc none) := by
  intro hi
  have hrun := exec_executes hex hi hexec hbad
  rw [csrRead_afterFetch, hread] at hrun
  exact (corrected_afterFetch s c).exc hex.2.2 hinx hrun

/-- A CSR that is only read. -/
theorem csr_reads (hread : csrRead (afterFetch s c) c csr.toNat (s.core c) = some old)
    (hnew : new ((afterFetch s c).core c) old = none) : LeavesCore i s c
      { (csrLatch s csr.toNat (s.core c)).gW rd.toNat (BitVec.ofNat 32 old) with pc := (s.core c).pc + 4 } := by
  intro hi
  have hrun := exec_executes hex hi hexec hbad
  rw [csrRead_afterFetch, hread] at hrun
  dsimp only at hrun
  rw [hnew, csrLatch_afterFetch] at hrun
  exact (corrected_afterFetch s c).done hex.2.2 ((keepsCorr_gW _ _).comp (keepsCorr_csrLatch s _))
    (fun x => by rw [gW_eq]; exact haltReq_csrLatch ..) hrun

/-- A CSR that is written. -/
theorem csr_writes (hread : csrRead (afterFetch s c) c csr.toNat (s.core c) = some old)
    (hnew : new ((afterFetch s c).core c) old = some v) (hmay : (s.core c).task = false ∨ csr.toNat = 0x00B) : LeavesCore i s c
      { csrWrite csr.toNat v ((csrLatch s csr.toNat (s.core c)).gW rd.toNat (BitVec.ofNat 32 old)) with pc := (s.core c).pc + 4 } := by
  intro hi
  have hfetch := corrected_afterFetch s c
  have hmay' : ¬ (((afterFetch s c).core c).task && csr.toNat != 0x00B) = true := by
    rw [hfetch.core]
    obtain h | h := hmay <;> simp [h]
  have hrun := exec_executes hex hi hexec hbad
  rw [csrRead_afterFetch, hread] at hrun
  dsimp only at hrun
  rw [hnew] at hrun
  dsimp only at hrun
  rw [if_neg hmay', csrLatch_afterFetch] at hrun
  exact hfetch.done hex.2.2 ((keepsCorr_csrWrite _ v).comp ((keepsCorr_gW _ _).comp (keepsCorr_csrLatch s _)))
    (fun x => by rw [(csrWrite_rest _ _ _ []).2, gW_eq]; exact haltReq_csrLatch ..) hrun

/-- A CSR but DWIN that TASK would write. -/
theorem csr_priv (hread : csrRead (afterFetch s c) c csr.toNat (s.core c) = some old)
    (hnew : new ((afterFetch s c).core c) old = some v) (htask : (s.core c).task = true) (hdwin : csr.toNat ≠ 0x00B)
    (hinx : (s.core c).inx = false) : LeavesCore i s c ((s.core c).entered 3 0 (s.core c).pc none) := by
  intro hi
  have hfetch := corrected_afterFetch s c
  have hrun := exec_executes hex hi hexec hbad
  rw [csrRead_afterFetch, hread] at hrun
  dsimp only at hrun
  rw [hnew] at hrun
  dsimp only at hrun
  rw [if_pos (by rw [hfetch.core, htask]; simp [hdwin])] at hrun
  exact hfetch.exc hex.2.2 hinx hrun

end

end

/-- Settles O13: CSRR only reads; CSRW, CSRS and CSRC differ in the value they write. -/
theorem spireCsrAccess : Obligations.SpireCsrAccess := by
  intro s c rd rs1 csr old hex
  have hr : exec (.spCsrr c rd 0 csr) s = csrInstr s c _ false rd csr fun _ _ => none := rfl
  have hw : exec (.spCsrw c rd rs1 csr) s = csrInstr s c _ false rd csr fun x _ => some (x.gR rs1.toNat).toNat := rfl
  have hs : exec (.spCsrs c rd rs1 csr) s = csrInstr s c _ false rd csr fun x old => some (old ||| (x.gR rs1.toNat).toNat) := rfl
  have hc : exec (.spCsrc c rd rs1 csr) s = csrInstr s c _ false rd csr fun x old => some (old &&& (~~~(x.gR rs1.toNat)).toNat) :=
    rfl
  exact ⟨fun hread => csr_reads hr rfl hex hread rfl,
    fun hread => csr_writes hw rfl hex hread (by simp only [gR_afterFetch]),
    fun hread => csr_priv hw rfl hex hread rfl,
    fun hread => csr_writes hs rfl hex hread (by simp only [gR_afterFetch]),
    fun hread => csr_priv hs rfl hex hread rfl,
    fun hread => csr_writes hc rfl hex hread (by simp only [gR_afterFetch]),
    fun hread => csr_priv hc rfl hex hread rfl,
    csr_unknown hr rfl hex, csr_unknown hw rfl hex, csr_unknown hs rfl hex, csr_unknown hc rfl hex⟩

end Sys2Proof.Machine

/-!
WAITT, BAR, FENCE, SEND, RECV and RECVN (R157, R166 to R168, R187).
-/
namespace Sys2Proof.Machine

/-! ### WAITT, BAR and FENCE -/

section
variable {s : State} {c : Fin 16} {rd rs1 : BitVec 5}

/-- WAITT without a tick counted stalls the core. -/
theorem waitt_waits (hex : Executes s c) (hticks : (s.core c).ticks = 0) :
    LeavesCore (.spWaitt c rd 0 0) s c { s.core c with wait := some (.waitt rd.toNat) } := by
  intro hi
  have hfetch := corrected_afterFetch s c
  have hrun := exec_executes hex hi rfl rfl
  rw [if_pos (by rw [hfetch.core, hticks])] at hrun
  exact hfetch.hold (f := fun x => { x with wait := some (.waitt rd.toNat) }) (fun _ _ => rfl) hrun

/-- The ticks answered and cleared leave the words under a single-bit error. -/
theorem keepsCorr_answerTicks (rd : Nat) : KeepsCorr fun x => { x with ticks := 0 }.gW rd (lateTicks x.ticks) :=
  fun x k => gW_tcmCorr { x with ticks := 0 } k rd (lateTicks x.ticks)

/-- WAITT with ticks counted is done with their number. -/
theorem waitt_late (hex : Executes s c) (hticks : (s.core c).ticks ≠ 0) : Retires (.spWaitt c rd 0 0) s c fun x =>
    { x with ticks := 0 }.gW rd.toNat (lateTicks x.ticks) := by
  intro hi
  have hfetch := corrected_afterFetch s c
  have hrun := exec_executes hex hi rfl rfl
  rw [if_neg (by rw [hfetch.core]; exact hticks)] at hrun
  exact hfetch.done hex.2.2 (keepsCorr_answerTicks rd.toNat) (fun x => by rw [gW_eq]) hrun

/-- The mask of a BAR is as before the fetch, and names the core where its register does. -/
theorem barMask_afterFetch (s : State) (c : Fin 16) (rs1 : BitVec 5) :
    barMask ((afterFetch s c).core c) rs1 = ((s.core c).gR rs1.toNat).toNat % 2 ^ 16 ∧
      bit (((s.core c).gR rs1.toNat).toNat % 2 ^ 16) c.val = bit ((s.core c).gR rs1.toNat).toNat c.val :=
  ⟨by rw [barMask, gR_afterFetch], bit_mod_two_pow c.isLt _⟩

/-- BAR of a mask that names the core stalls it. -/
theorem bar_waits (hex : Executes s c) (hbit : bit ((s.core c).gR rs1.toNat).toNat c.val = true) :
    LeavesCore (.spBar c rd rs1 0) s c
      { s.core c with wait := some (.bar rd.toNat (((s.core c).gR rs1.toNat).toNat % 2 ^ 16) s.fab) } := by
  intro hi
  obtain ⟨hmask, hnamed⟩ := barMask_afterFetch s c rs1
  have hrun := exec_executes hex hi rfl rfl
  dsimp only at hrun
  rw [hmask, if_pos (by rw [hnamed, hbit]), fab_afterFetch] at hrun
  exact (corrected_afterFetch s c).hold (f := fun x => { x with wait := some (.bar rd.toNat _ s.fab) }) (fun _ _ => rfl) hrun

/-- BAR of a mask that does not name the core raises ILLEGAL. -/
theorem bar_illegal (hex : Executes s c) (hbit : bit ((s.core c).gR rs1.toNat).toNat c.val = false)
    (hinx : (s.core c).inx = false) : LeavesCore (.spBar c rd rs1 0) s c ((s.core c).entered 2 0 (s.core c).pc none) := by
  intro hi
  obtain ⟨hmask, hnamed⟩ := barMask_afterFetch s c rs1
  have hrun := exec_executes hex hi rfl rfl
  dsimp only at hrun
  rw [hmask, if_neg (by rw [hnamed, hbit]; decide)] at hrun
  exact (corrected_afterFetch s c).exc hex.2.2 hinx hrun

/-- FENCE with an empty write buffer is done. -/
theorem fence_done (hex : Executes s c) (hbuf : (s.core c).buf = []) : Retires (.spFence c 0 0 0) s c id := by
  intro hi
  have hrun := exec_executes hex hi rfl rfl
  rw [if_pos (by rw [core_afterFetch, hbuf]; rfl)] at hrun
  exact leaves_done hrun (onlyCore_afterFetch s c) (core_afterFetch s c) hex.2.2

/-- FENCE with stores in the write buffer stalls the core. -/
theorem fence_waits (hex : Executes s c) (hbuf : (s.core c).buf ≠ []) :
    LeavesCore (.spFence c 0 0 0) s c { s.core c with wait := some .fence } := by
  intro hi
  have hfetch := corrected_afterFetch s c
  have hrun := exec_executes hex hi rfl rfl
  rw [if_neg (by rw [hfetch.core, List.isEmpty_iff]; exact hbuf)] at hrun
  exact hfetch.hold (f := fun x => { x with wait := some .fence }) (fun _ _ => rfl) hrun

end

/-! ### RECV and RECVN -/

section
variable {s : State} {c : Fin 16} {rd : BitVec 5}

/-- A message taken leaves the words under a single-bit error. -/
theorem keepsCorr_takeMsg (rd : Nat) : KeepsCorr (·.takeMsg rd) := by
  intro x k
  unfold CoreSt.takeMsg
  dsimp only
  split
  · rfl
  · have hmsg (t : List Msg) (n : Nat) : KeepsCorr fun y => { y with mbox := t, msrc := n, msrcValid := true } := fun _ _ => rfl
    exact ((hmsg _ _).comp ((keepsCorr_gW _ _).comp (keepsCorr_gW _ _))) x k

/-- A message taken asks for no halt. -/
theorem haltReq_takeMsg (x : CoreSt) (rd : Nat) : (x.takeMsg rd).haltReq = x.haltReq := by
  unfold CoreSt.takeMsg
  split
  · rfl
  · rw [gW_eq, gW_eq x]

/-- The oldest message into a register pair (R168). -/
theorem takeMsg_cons {x : CoreSt} {m : Msg} {rest : List Msg} (h : x.mbox = m :: rest) (rd : Nat) :
    x.takeMsg rd = { ((x.gW rd m.lo).gW (rd + 1) m.hi) with mbox := rest, msrc := m.src, msrcValid := true } := by
  rw [CoreSt.takeMsg, h]

/-- An even register pair is none of the stray bits of RECV and RECVN. -/
theorem recv_noStray (hrd : rd.toNat % 2 = 0) : (rd.toNat % 2 == 1 || (0 : BitVec 5) != 0 || (0 : BitVec 5) != 0) = false := by
  rw [hrd]
  rfl

section
variable (hex : Executes s c) (hrd : rd.toNat % 2 = 0)
include hex hrd

/-- RECV of an empty mailbox stalls the core. -/
theorem recv_waits (hmbox : (s.core c).mbox = []) :
    LeavesCore (.spRecv c rd 0 0) s c { s.core c with wait := some (.recv rd.toNat) } := by
  intro hi
  have hfetch := corrected_afterFetch s c
  have hrun := exec_executes hex hi rfl (recv_noStray hrd)
  rw [if_pos (by rw [hfetch.core, hmbox]; rfl)] at hrun
  exact hfetch.hold (f := fun x => { x with wait := some (.recv rd.toNat) }) (fun _ _ => rfl) hrun

/-- RECVN of an empty mailbox clears MSRC's valid bit. -/
theorem recvn_none (hmbox : (s.core c).mbox = []) : Retires (.spRecvn c rd 0 0) s c fun x => { x with msrcValid := false } := by
  intro hi
  have hfetch := corrected_afterFetch s c
  have hrun := exec_executes hex hi rfl (recv_noStray hrd)
  rw [if_pos (by rw [hfetch.core, hmbox]; rfl)] at hrun
  exact hfetch.done hex.2.2 (f := fun x => { x with msrcValid := false }) (fun _ _ => rfl) (fun _ => rfl) hrun

/-- An instruction that takes the oldest message where there is one. -/
theorem takeMsg_retires {i : Instr} {m : Msg} {rest : List Msg} {none : State → CoreSt → SpRes} (hmbox : (s.core c).mbox = m :: rest)
    (hexec : exec i s = .next (spire s c i (rd.toNat % 2 == 1 || (0 : BitVec 5) != 0 || (0 : BitVec 5) != 0) fun s x =>
      if x.mbox.isEmpty then none s x else .done (s.setCore c (x.takeMsg rd.toNat)))) :
    Retires i s c fun x =>
      { ((x.gW rd.toNat m.lo).gW (rd.toNat + 1) m.hi) with mbox := rest, msrc := m.src, msrcValid := true } := by
  intro hi
  have hfetch := corrected_afterFetch s c
  have hrun := exec_executes hex hi hexec (recv_noStray hrd)
  rw [if_neg (by rw [hfetch.core, hmbox]; simp)] at hrun
  have := hfetch.done hex.2.2 (keepsCorr_takeMsg rd.toNat) (fun x => haltReq_takeMsg x _) hrun
  rwa [takeMsg_cons hmbox] at this

end

end

/-! ### SEND -/

section
variable {s : State} {c : Fin 16} {rd rs1 rs2 : BitVec 5}

/-- The fetch leaves the messages of every core. -/
theorem messages_afterFetch (s : State) (c k : Nat) :
    ((afterFetch s c).core k).mbox = (s.core k).mbox ∧ ((afterFetch s c).core k).soon = (s.core k).soon := by
  by_cases hk : k = c
  · subst hk
    rw [core_afterFetch]
    exact ⟨rfl, rfl⟩
  · rw [(onlyCore_afterFetch s c).cores k hk]
    exact ⟨rfl, rfl⟩

/-- A mailbox is full after the fetch where it was before. -/
theorem mailboxFull_afterFetch (s : State) (c n : Nat) : mailboxFull (afterFetch s c) n = mailboxFull s n := by
  obtain ⟨hmbox, hsoon⟩ := messages_afterFetch s c n
  rw [mailboxFull, mailboxFull, hmbox, hsoon]

/-- A g register given 0 reads 0. -/
theorem gR_gW_zero (x : CoreSt) (i : Nat) : (x.gW i 0).gR i = 0 := by
  by_cases h : i = 0
  · rw [CoreSt.gR, if_pos h]
  · exact gR_gW_same x h 0

/-- A change of a core that leaves the messages on their way. -/
theorem soon_updCore (u : State) (c k : Nat) (f : CoreSt → CoreSt) (hf : ∀ x, (f x).soon = x.soon) :
    ((u.updCore c f).core k).soon = (u.core k).soon := by
  rw [State.core_updCore]
  split
  · subst_vars
    exact hf _
  · rfl

/-- A message sent asks for no halt. -/
theorem haltReq_sendMessage (u : State) (n k : Nat) (m : Msg) : ((sendMessage u n m).core k).haltReq = (u.core k).haltReq := by
  rw [sendMessage, State.core_updCore]
  split
  · subst_vars
    rfl
  · rfl

section
variable (hex : Executes s c) (hrs : rs2.toNat % 2 = 0)
include hex hrs

/-- SEND to a number that no core has raises ILLEGAL. -/
theorem send_illegal (hn : 16 ≤ ((s.core c).gR rs1.toNat).toNat) (hinx : (s.core c).inx = false) :
    LeavesCore (.spSend c rd rs1 rs2) s c ((s.core c).entered 2 0 (s.core c).pc none) := by
  intro hi
  have hrun := exec_executes hex hi rfl (by rw [hrs]; rfl)
  dsimp only at hrun
  rw [gR_afterFetch, if_pos hn] at hrun
  exact (corrected_afterFetch s c).exc hex.2.2 hinx hrun

/-- SEND to a full mailbox returns E_FULL. -/
theorem send_full (n : Fin 16) (hn : ((s.core c).gR rs1.toNat).toNat = n.val) (hfull : mailboxFull s n.val = true) :
    Retires (.spSend c rd rs1 rs2) s c fun x => x.gW rd.toNat 8 := by
  intro hi
  have hrun := exec_executes hex hi rfl (by rw [hrs]; rfl)
  dsimp only at hrun
  rw [gR_afterFetch, hn, if_neg (by omega), mailboxFull_afterFetch, if_pos hfull] at hrun
  exact (corrected_afterFetch s c).done hex.2.2 (keepsCorr_gW _ _) (fun x => by rw [gW_eq]) hrun

/-- SEND to a mailbox with room puts the message on its way. -/
theorem send_sends (n : Fin 16) (hn : ((s.core c).gR rs1.toNat).toNat = n.val) (hroom : mailboxFull s n.val = false)
    (hi : fetched s c = some (.spSend c rd rs1 rs2)) :
    ∃ t, exec (.spSend c rd rs1 rs2) s = .next t ∧ (t.core c).pc = (s.core c).pc + 4 ∧ (t.core c).gR rd.toNat = 0 ∧
      (t.core n.val).soon = (s.core n.val).soon ++ [(s.fab + 6, ⟨(s.core c).gR rs2.toNat, (s.core c).gR (rs2.toNat + 1), c.val⟩)] ∧
      (∀ k : Nat, k ≠ n.val → (t.core k).soon = (s.core k).soon) ∧ SameMemory s t := by
  have hrun := exec_executes hex hi rfl (by rw [hrs]; rfl)
  dsimp only at hrun
  rw [gR_afterFetch, hn, if_neg (by omega), mailboxFull_afterFetch, if_neg (by rw [hroom]; decide), gR_afterFetch, gR_afterFetch]
    at hrun
  have hsoon (k : Nat) (msg : Msg) : ((sendMessage (afterFetch s c) n msg).core k).soon =
      if k = n.val then (s.core n.val).soon ++ [(s.fab + 6, msg)] else (s.core k).soon := by
    rw [sendMessage, State.core_updCore, apply_ite CoreSt.soon, fab_afterFetch, (messages_afterFetch s c k).2,
      (messages_afterFetch s c n).2]
  have hquiet (msg : Msg) : ((sendMessage (afterFetch s c) n msg).core c).haltReq = false := by
    rw [haltReq_sendMessage, haltReq_afterFetch, hex.2.2]
  rw [spFinish_done_quiet (by rw [State.core_updCore_same, gW_eq]; exact hquiet _)] at hrun
  have hlast (u : State) (k : Nat) : (((u.updCore c fun x => x.gW rd.toNat (BitVec.ofNat 32 OK)).updCore c fun x =>
      { x with pc := (s.core c).pc + 4 }).core k).soon = (u.core k).soon := by
    exact (soon_updCore _ c k (fun x => { x with pc := (s.core c).pc + 4 }) fun _ => rfl).trans
      (soon_updCore u c k _ fun x => by rw [gW_eq])
  refine ⟨_, hrun, ?_, ?_, ?_, fun k hk => ?_, fun a => ?_⟩
  · rw [State.core_updCore_same]
  · rw [State.core_updCore_same, State.core_updCore_same]
    exact gR_gW_zero ..
  · rw [hlast, hsoon, if_pos rfl]
  · rw [hlast, hsoon, if_neg hk]
  · exact congrArg (memGet · a) (bytes_afterFetch s c)

end

end

/-- Settles O14, instruction by instruction. -/
theorem spireSynchronisation : Obligations.SpireSynchronisation := by
  intro s c rd rs1 rs2 hex
  exact ⟨waitt_waits hex, waitt_late hex, bar_waits hex, bar_illegal hex, fence_done hex, fence_waits hex,
    fun hmbox hrd => ⟨recv_waits hex hrd hmbox, recvn_none hex hrd hmbox⟩,
    fun m rest hmbox hrd => ⟨takeMsg_retires hex hrd hmbox rfl, takeMsg_retires hex hrd hmbox rfl⟩,
    fun hrs hn => send_illegal hex hrs hn, fun hrs => send_full hex hrs, fun hrs => send_sends hex hrs⟩

end Sys2Proof.Machine

/-!
The events that end a core's wait or take it from its program, and its traffic with the fabric (R157, R158, R161 to R168, R186, R244).
-/
namespace Sys2Proof.Machine

/-! ### Loops over the cores -/

/-- A loop in which every turn but one keeps to a relation: from its start to that turn, and from there to its end. -/
theorem forN_split {σ : Type} {R : σ → σ → Prop} (hrefl : ∀ x, R x x) (htrans : ∀ x y z, R x y → R y z → R x z) {f : Nat → σ → σ}
    {c n : Nat} (hc : c < n) (hf : ∀ k < n, k ≠ c → ∀ x, R x (f k x)) (x : σ) : ∃ y, R x y ∧ R (f c y) (forN n f x) := by
  induction n with
  | zero => exact absurd hc (Nat.not_lt_zero c)
  | succ n ih =>
    by_cases hcn : c = n
    · subst hcn
      refine ⟨forN c f x, ?_, hrefl _⟩
      have hbefore : ∀ m ≤ c, R x (forN m f x) := by
        intro m hm
        induction m with
        | zero => exact hrefl x
        | succ m ihm => exact htrans _ _ _ (ihm (by omega)) (hf m (by omega) (by omega) _)
      exact hbefore c (Nat.le_refl c)
    · obtain ⟨y, hy, hend⟩ := ih (by omega) fun k hk => hf k (by omega)
      exact ⟨y, hy, htrans _ _ _ hend (hf n (Nat.lt_succ_self n) (Ne.symm hcn) _)⟩

/-- A loop of which one turn alone does anything. -/
theorem forN_single {σ : Type} {f : Nat → σ → σ} {c n : Nat} (hc : c < n) (hf : ∀ k < n, k ≠ c → ∀ x, f k x = x) (x : σ) :
    forN n f x = f c x := by
  obtain ⟨y, rfl, hend⟩ := forN_split (R := fun x y => y = x) (fun _ => rfl) (fun _ _ _ h k => k.trans h) hc hf x
  exact hend

/-! ### What an event leaves for another core -/

/-- What another core's event leaves of core c: its state, whether it is halted, and the power state. -/
structure SameFor (c : Nat) (s t : State) : Prop where
  core : t.core c = s.core c
  halted : t.on SPIRE_STATUS_HALTED c = s.on SPIRE_STATUS_HALTED c
  inRun : inRun t = inRun s

/-- Nothing changed. -/
theorem SameFor.refl (c : Nat) (s : State) : SameFor c s s := ⟨rfl, rfl, rfl⟩

/-- One event after another. -/
theorem SameFor.trans {c : Nat} {s t u : State} (h : SameFor c s t) (k : SameFor c t u) : SameFor c s u :=
  ⟨k.core.trans h.core, k.halted.trans h.halted, k.inRun.trans h.inRun⟩

/-- An event of another core. -/
theorem HaltOnly.sameFor {s t : State} {c k : Nat} (h : HaltOnly s t k) (hk : k ≠ c) : SameFor c s t :=
  ⟨h.cores c hk.symm, h.halted hk.symm, h.inRun⟩

/-- The clock moved on. -/
theorem sameFor_toEdge (c : Nat) (s : State) (e : Nat) : SameFor c s (s.toEdge e) where
  core := rfl
  halted := by
    have hspire : SPIRE_STATUS_HALTED.OfSpire := by decide
    have hlow : CAMPANILE_STATUS_SLEWING.key 0 0 < 0x20600000 * 32 := by decide
    have := hspire.behind c
    rw [State.on, State.on, rd_toEdge (by omega)]
  inRun := by rw [inRun, inRun, rd_toEdge (by decide)]

/-! ### Registers of a core beside a result -/

section
variable (x : CoreSt) (i : Nat) (v : BitVec 32)

@[simp] theorem pc_gW : (x.gW i v).pc = x.pc := by rw [gW_eq]
@[simp] theorem ticks_gW : (x.gW i v).ticks = x.ticks := by rw [gW_eq]

end

/-- A register read in a core of which other fields have changed. -/
theorem gR_congr {x y : CoreSt} (h : y.g = x.g) (i : Nat) : y.gR i = x.gR i := by rw [CoreSt.gR, CoreSt.gR, h]

section
variable {i : Instr} {s : State} {c : Fin 16}

/-- An event of the FAB domain while its clock runs. -/
theorem exec_onFab (hc : clocked s = true) {f : State → State} (hexec : exec i s = .next (onFab s f)) : exec i s = .next (f s) := by
  rw [hexec, onFab_on hc]

/-! ### INT and MSG (R161 to R164) -/

/-- A core that stands in no LOCKACQ takes INT or MSG where it stands. -/
theorem takeAsync_free (hlock : ∀ rd tok, (s.core c).wait ≠ some (.lock rd tok)) (code src : Nat) :
    takeAsync s c code src = enterExc s c code src 0 (s.core c).pc none := by
  have hgrant : grantStands s c = false := by
    unfold grantStands
    split
    · exact absurd ‹_› (hlock _ _)
    · rfl
  have hwithdraw : withdrawWait s c = s := by
    unfold withdrawWait
    split
    · exact absurd ‹_› (hlock _ _)
    · rfl
  rw [takeAsync, hgrant, if_neg (by decide), hwithdraw]

/-- INT taken. -/
theorem takeInterrupt_takes {n : Nat} (hint : interruptible s c = true) (hie : (s.core c).ie = true)
    (hpick : pickSource s (s.core c) = some n) : takeInterrupt s c = takeAsync s c X_INT n := by
  rw [takeInterrupt, if_pos (by rw [hint, hie]; rfl), hpick]

/-- MSG taken. -/
theorem takeMessage_takes (hint : interruptible s c = true) (hmie : (s.core c).mie = true) (hmbox : (s.core c).mbox ≠ [])
    (hie : (s.core c).ie = false) : takeMessage s c = takeAsync s c X_MSG 0 := by
  rw [takeMessage, if_pos]
  simp [hint, hmie, hmbox, hie]

/-- INTERRUPT_TAKEN enters INT. -/
theorem interruptTaken_enters (hc : clocked s = true) {n : Nat} (hint : interruptible s c = true)
    (hlock : ∀ rd tok, (s.core c).wait ≠ some (.lock rd tok)) (hie : (s.core c).ie = true)
    (hpick : pickSource s (s.core c) = some n) :
    ∃ t, exec (.interruptTaken c) s = .next t ∧ (t.core c).pc = (s.core c).vbase ∧ (t.core c).xcode = 0 ∧ (t.core c).xsrc = n ∧
      (t.core c).xpc = (s.core c).pc ∧ (t.core c).inx = true ∧ (t.core c).task = false ∧ (t.core c).wait = none := by
  have hexec := exec_onFab (i := .interruptTaken c) hc rfl
  rw [takeInterrupt_takes hint hie hpick, takeAsync_free hlock, enterExc] at hexec
  refine ⟨_, hexec, ?_⟩
  rw [State.core_updCore_same]
  exact ⟨rfl, rfl, rfl, rfl, rfl, rfl, rfl⟩

/-- MSG_EXCEPTION enters MSG. -/
theorem msgException_enters (hc : clocked s = true) (hint : interruptible s c = true)
    (hlock : ∀ rd tok, (s.core c).wait ≠ some (.lock rd tok)) (hmie : (s.core c).mie = true) (hmbox : (s.core c).mbox ≠ [])
    (hie : (s.core c).ie = false) :
    ∃ t, exec (.msgException c) s = .next t ∧ (t.core c).pc = (s.core c).vbase + 16 ∧ (t.core c).xcode = 1 ∧
      (t.core c).xpc = (s.core c).pc ∧ (t.core c).inx = true ∧ (t.core c).mbox = (s.core c).mbox := by
  have hexec := exec_onFab (i := .msgException c) hc rfl
  rw [takeMessage_takes hint hmie hmbox hie, takeAsync_free hlock, enterExc] at hexec
  refine ⟨_, hexec, ?_⟩
  rw [State.core_updCore_same]
  exact ⟨rfl, rfl, rfl, rfl, rfl⟩

/-! ### WAITT_RELEASE (R166) -/

/-- What a release does with one core. -/
def waittTurn (c : Nat) (s : State) : State :=
  if waittRelease.waits s c then
    match (s.core c).wait with
    | some (.waitt rd) => resume (s.updCore c fun x => { x with ticks := 0 }.gW rd 1) c
    | _ => s
  else s

/-- A release goes through the cores from the edge of the release. -/
theorem waittRelease_eq (hc : clocked s = true) (hany : ((upTo 16).any fun k => waittRelease.waits s k) = true) :
    waittRelease s = forN 16 waittTurn (s.toEdge (s.pipe.tickEdge + 4)) := by
  rw [waittRelease, if_pos (by rw [hc, hany]; rfl)]
  rfl

/-- A turn leaves the other cores. -/
theorem sameFor_waittTurn {k : Nat} (hk : k ≠ c) (s : State) : SameFor c s (waittTurn k s) := by
  unfold waittTurn
  split
  · split
    · exact ((((OnlyCore.refl s k).updCore _).haltOnly).trans (haltOnly_resume _ k)).sameFor hk
    · exact .refl c s
  · exact .refl c s

section
variable {rd : Nat} (hrun : inRun s = true) (hhalted : s.on SPIRE_STATUS_HALTED c = false) (hwait : (s.core c).wait = some (.waitt rd))
  (hticks : 1 ≤ (s.core c).ticks)
include hrun hhalted hwait hticks

/-- A core that has seen a tick waits for the release. -/
theorem waits_of_tick : waittRelease.waits s c = true := by
  simp [waittRelease.waits, hrun, hhalted, hwait, hticks]

/-- The core's own turn. -/
theorem waittTurn_own : waittTurn c s = resume (s.updCore c fun x => { x with ticks := 0 }.gW rd 1) c := by
  rw [waittTurn, if_pos (waits_of_tick hrun hhalted hwait hticks), hwait]

/-- WAITT_RELEASE ends a WAITT with the tick. -/
theorem waittRelease_ends (hc : clocked s = true) :
    ∃ t, exec .waittRelease s = .next t ∧ (t.core c).wait = none ∧ (t.core c).pc = (s.core c).pc + 4 ∧ (t.core c).ticks = 0 ∧
      (rd ≠ 0 → (t.core c).gR rd = 1) := by
  have hany : ((upTo 16).any fun k => waittRelease.waits s k) = true :=
    List.any_eq_true.mpr ⟨c.val, by fin_cases c <;> decide, waits_of_tick hrun hhalted hwait hticks⟩
  obtain ⟨u, hu, hend⟩ := forN_split (R := SameFor c) (SameFor.refl c) (fun _ _ _ => .trans) c.isLt
    (fun k _ hk => sameFor_waittTurn hk) (s.toEdge (s.pipe.tickEdge + 4))
  have hsame := (sameFor_toEdge c s _).trans hu
  have hcore := hend.core
  rw [waittTurn_own (rd := rd) (by rw [hsame.inRun, hrun]) (by rw [hsame.halted, hhalted]) (by rw [hsame.core, hwait])
    (by rw [hsame.core]; exact hticks), core_resume, State.core_updCore_same, hsame.core] at hcore
  refine ⟨_, exec_onFab hc rfl, ?_⟩
  rw [waittRelease_eq hc hany, hcore]
  refine ⟨rfl, by simp, by simp, fun hrd => ?_⟩
  exact (gR_congr rfl rd).trans (gR_gW_same { s.core c with ticks := 0 } hrd 1)

end

end

end Sys2Proof.Machine

/-!
The ends of barriers, of waits for messages, lists and tokens, and a core's traffic with the fabric (R157, R158, R167, R168, R182, R186,
R244).
-/
namespace Sys2Proof.Machine

section
variable {s : State} {c : Fin 16}

/-! ### BAR_RELEASE and BAR_TIMEOUT (R167) -/

/-- A mask of one core names that core alone. -/
theorem bit_two_pow (n k : Nat) : bit (2 ^ n) k = decide (n = k) := Nat.testBit_two_pow

/-- What a barrier's release does with one core. -/
def barTurn (m c : Nat) (s : State) : State :=
  if bit m c then
    match (s.core c).wait with
    | some (.bar rd _ _) => resume (s.updCore c fun x => x.gW rd 0) c
    | _ => s
  else s

section
variable {rd e : Nat} (hhalted : s.on SPIRE_STATUS_HALTED c = false) (hwait : (s.core c).wait = some (.bar rd (2 ^ c.val) e))
include hwait

/-- The latest arrival of a barrier of one core is that core's. -/
theorem lastArrival_one : lastArrival s (2 ^ c.val) = e := by
  rw [lastArrival, forN_single c.isLt]
  · rw [if_pos (by rw [bit_two_pow, decide_eq_true rfl]), hwait]
    exact Nat.max_zero e
  · intro k _ hk _
    rw [if_neg (by rw [bit_two_pow, decide_eq_false (Ne.symm hk)]; decide)]

include hhalted

/-- A barrier of one core is complete where the core stalls in it. -/
theorem barrier_one : ((upTo 16).all fun k => !(bit (2 ^ c.val) k) || inBar s (2 ^ c.val) k) = true := by
  rw [List.all_eq_true]
  intro k _
  rw [bit_two_pow]
  by_cases hk : c.val = k
  · subst hk
    simp [inBar, hhalted, hwait]
  · rw [decide_eq_false hk]
    rfl

/-- A barrier of one core releases that core. -/
theorem barRelease_one (hc : clocked s = true) (hrun : inRun s = true) :
    barRelease s (2 ^ c.val) = resume ((s.toEdge (e + 2)).updCore c fun x => x.gW rd 0) c := by
  have hnone : (2 ^ c.val != 0) = true := bne_iff_ne.mpr (by have := Nat.two_pow_pos c.val; omega)
  rw [barRelease, if_pos (by rw [hc, hrun, hnone, barrier_one hhalted hwait]; rfl), lastArrival_one hwait]
  refine (forN_single (f := barTurn (2 ^ c.val)) c.isLt (fun k _ hk u => ?_) _).trans ?_
  · rw [barTurn, if_neg (by rw [bit_two_pow, decide_eq_false (Ne.symm hk)]; decide)]
  · have hedge : ((s.toEdge (e + 2)).core c).wait = some (.bar rd (2 ^ c.val) e) := hwait
    rw [barTurn, if_pos (by rw [bit_two_pow, decide_eq_true rfl]), hedge]

end

/-- BAR_RELEASE ends a barrier of one core with 0. -/
theorem barRelease_ends (hc : clocked s = true) {rd e : Nat} {m : BitVec 16} (hrun : inRun s = true) (hm : m.toNat = 2 ^ c.val)
    (hhalted : s.on SPIRE_STATUS_HALTED c = false) (hwait : (s.core c).wait = some (.bar rd m.toNat e)) :
    ∃ t, exec (.barRelease m) s = .next t ∧ (t.core c).wait = none ∧ (t.core c).pc = (s.core c).pc + 4 ∧ (t.core c).gR rd = 0 ∧
      t.fab = max s.fab (e + 2) := by
  have hexec := exec_onFab (i := .barRelease m) hc rfl
  rw [hm] at hexec hwait
  rw [barRelease_one hhalted hwait hc hrun] at hexec
  refine ⟨_, hexec, ?_⟩
  rw [(haltOnly_resume _ _).fab, core_resume, State.core_updCore_same]
  exact ⟨rfl, by dsimp only; rw [pc_gW]; rfl, (gR_congr rfl rd).trans (gR_gW_zero _ rd), fab_toEdge s (e + 2)⟩

/-- BAR_TIMEOUT ends a BAR with 1. -/
theorem barTimeout_ends (hc : clocked s = true) {rd m e : Nat} (hrun : inRun s = true)
    (hwait : (s.core c).wait = some (.bar rd m e)) (hto : (s.core c).barTo ≠ 0) :
    ∃ t, exec (.barTimeout c) s = .next t ∧ (t.core c).wait = none ∧ (t.core c).pc = (s.core c).pc + 4 ∧
      (rd ≠ 0 → (t.core c).gR rd = 1) := by
  have hexec := exec_onFab (i := .barTimeout c) hc rfl
  rw [barTimeout, if_pos (by rw [hc, hrun]; rfl), hwait] at hexec
  dsimp only at hexec
  rw [if_neg hto] at hexec
  refine ⟨_, hexec, ?_⟩
  rw [core_resume, State.core_updCore_same]
  exact ⟨rfl, by dsimp only; rw [pc_gW]; rfl, fun hrd => (gR_congr rfl rd).trans (gR_gW_same _ hrd 1)⟩

/-! ### MESSAGE_ARRIVAL and RECV_RELEASE (R168) -/

/-- MESSAGE_ARRIVAL makes the next message visible. -/
theorem messageArrival_arrives (hc : clocked s = true) {a : Nat × Msg} (hnext : nextArrival (s.core c).soon = some a) :
    ∃ t, exec (.messageArrival c) s = .next t ∧ (t.core c).mbox = (s.core c).mbox ++ [a.2] ∧
      (t.core c).soon = (s.core c).soon.erase a ∧ t.fab = max s.fab a.1 := by
  have hexec := exec_onFab (i := .messageArrival c) hc rfl
  rw [messageArrives, hnext] at hexec
  refine ⟨_, hexec, ?_⟩
  rw [State.core_updCore_same]
  exact ⟨rfl, rfl, fab_toEdge s a.1⟩

/-- RECV_RELEASE ends a RECV with the oldest message. -/
theorem recvRelease_ends (hc : clocked s = true) {rd : Nat} {m : Msg} {rest : List Msg} (hrun : inRun s = true)
    (hwait : (s.core c).wait = some (.recv rd)) (hmbox : (s.core c).mbox = m :: rest) :
    ∃ t, exec (.recvRelease c) s = .next t ∧ (t.core c).wait = none ∧ (t.core c).pc = (s.core c).pc + 4 ∧ (t.core c).mbox = rest ∧
      (t.core c).msrc = m.src ∧ (t.core c).msrcValid = true := by
  have hexec := exec_onFab (i := .recvRelease c) hc rfl
  rw [recvRelease, if_pos (by rw [hc, hrun, hmbox]; rfl), hwait] at hexec
  refine ⟨_, hexec, ?_⟩
  rw [core_resume, State.core_updCore_same, takeMsg_cons hmbox]
  exact ⟨rfl, by simp, rfl, rfl, rfl⟩

/-! ### LAWWT_RELEASE (R186) -/

/-- LAWWT_RELEASE ends a LAWWT of a list that is done. -/
theorem lawwtRelease_ends (hc : clocked s = true) {k : Nat} (hwait : (s.core c).wait = some (.lawwt k))
    (hdone : listActive s k = false) (hquiet : (s.core c).haltReq = false) :
    ∃ t, exec (.lawwtRelease c) s = .next t ∧ t.core c = { s.core c with wait := none, pc := (s.core c).pc + 4 } ∧
      OnlyCore s t c := by
  have hexec := exec_onFab (i := .lawwtRelease c) hc rfl
  rw [lawwtRelease, hwait] at hexec
  dsimp only at hexec
  rw [if_neg (by rw [hdone]; decide), resume, atBoundary_none (by rw [State.core_updCore_same, hquiet])] at hexec
  exact ⟨_, hexec, State.core_updCore_same .., (OnlyCore.refl s c).updCore _⟩

/-! ### LOAD_RETURN and STORE_COMMIT (R157, R158, R182) -/

/-- LOAD_RETURN ends a load with the data read. -/
theorem loadReturn_ends (hc : clocked s = true) {l : LoadReq} {v : Nat} (hwait : (s.core c).wait = some (.load l))
    (hbuf : (s.core c).buf = []) (hread : (busRead s (.core c false) l.addr l.size).2 = .ok v) :
    ∃ t, exec (.loadReturn c) s = .next t ∧ (t.core c).wait = none ∧
      SameMemory (busRead s (.core c false) l.addr l.size).1 t ∧
      (l.fp = false → l.signed = false → l.rd ≠ 0 → (t.core c).gR l.rd = BitVec.ofNat 32 v) := by
  have hexec := exec_onFab (i := .loadReturn c) hc rfl
  rw [loadReturn, hwait] at hexec
  dsimp only at hexec
  rw [if_neg (by rw [hbuf]; decide)] at hexec
  generalize busRead s (.core c false) l.addr l.size = r at hread hexec ⊢
  obtain ⟨u, p⟩ := r
  subst hread
  refine ⟨_, hexec, ?_, ?_, fun hfp hsigned hrd => ?_⟩
  · rw [core_resume]
  · exact (((OnlyCore.refl u c).updCore _).haltOnly.trans (haltOnly_resume _ c)).sameMemory
  · rw [core_resume, State.core_updCore_same]
    refine (gR_congr rfl l.rd).trans ?_
    rw [CoreSt.takeLoad, hfp, hsigned]
    exact gR_gW_same _ hrd _

/-- STORE_COMMIT carries the oldest store of the write buffer to the fabric. -/
theorem storeCommit_commits (hc : clocked s = true) {b : BufStore} {rest : List BufStore} (hbuf : (s.core c).buf = b :: rest)
    (hwait : ((busWrite (s.updCore c fun x => { x with buf := rest }) (.core c b.task) b.addr b.size b.val).core c).wait = none) :
    ∃ t, exec (.storeCommit c) s = .next t ∧
      t = { busWrite (s.updCore c fun x => { x with buf := rest }) (.core c b.task) b.addr b.size b.val with reply := s.reply } := by
  have hexec := exec_onFab (i := .storeCommit c) hc rfl
  have hmoved : ((commitStore (s.updCore c fun x => { x with buf := rest }) c b).core c).wait = none := hwait
  rw [storeCommit, hbuf] at hexec
  dsimp only at hexec
  rw [bufferMoved, hmoved] at hexec
  exact ⟨_, hexec, rfl⟩

/-! ### LOCK_GRANT (R244) -/

/-- A waiting LOCKACQ completes with the token and the PC at the next instruction. -/
theorem lockDone_done {u : State} {tok : Fin 64} {rd : Nat} (hwait : (u.core c).wait = some (.lock rd tok)) :
    HaltOnly u (lockDone u c) c ∧ ((lockDone u c).core c).wait = none ∧ ((lockDone u c).core c).pc = (u.core c).pc + 4 := by
  have hpass := belfryOnly_passToken tok.isLt u c
  rw [lockDone, hwait]
  refine ⟨(hpass.haltOnly c).trans ((OnlyCore.refl _ c).updCore _).haltOnly, ?_⟩
  rw [State.core_updCore_same, hpass.core]
  exact ⟨rfl, rfl⟩

/-- LOCK_GRANT passes a free token to its first waiter. -/
theorem lockGrant_grants (hc : clocked s = true) {tok : Fin 64} {rd : Nat} (hfirst : firstWaiter s tok = some c.val)
    (hwait : (s.core c).wait = some (.lock rd tok)) :
    ∃ t, exec (.lockGrant tok) s = .next t ∧ (t.core c).wait = none ∧ (t.core c).pc = (s.core c).pc + 4 ∧
      t.fab = max s.fab (grantEdge s tok) := by
  have hexec := exec_onFab (i := .lockGrant tok) hc rfl
  rw [lockGrant, if_pos hc, hfirst] at hexec
  obtain ⟨honly, hnone, hpc⟩ := lockDone_done (u := s.toEdge (grantEdge s tok)) (c := c) (rd := rd) hwait
  refine ⟨_, hexec, ?_⟩
  rw [core_atBoundary hnone]
  exact ⟨hnone, hpc, ((haltOnly_atBoundary _ _).fab.trans honly.fab).trans (fab_toEdge s _)⟩

end

/-- Settles O20, event by event. -/
theorem spireEventsComplete : Obligations.SpireEventsComplete := by
  intro s c hc
  exact ⟨fun _ hint hlock hie hpick => interruptTaken_enters hc hint hlock hie hpick,
    fun hint hlock hmie hmbox hie => msgException_enters hc hint hlock hmie hmbox hie,
    fun _ hrun hhalted hwait hticks => waittRelease_ends hrun hhalted hwait hticks hc,
    fun _ _ _ hrun hm hhalted hwait => barRelease_ends hc hrun hm hhalted hwait,
    fun _ _ _ hrun hwait hto => barTimeout_ends hc hrun hwait hto,
    fun _ hnext => messageArrival_arrives hc hnext,
    fun _ _ _ hrun hwait hmbox => recvRelease_ends hc hrun hwait hmbox,
    fun _ hwait hdone hquiet => lawwtRelease_ends hc hwait hdone hquiet,
    fun _ _ hwait hbuf hread _ => loadReturn_ends hc hwait hbuf hread,
    fun _ _ hbuf hwait => storeCommit_commits hc hbuf hwait,
    fun _ _ hfirst hwait => lockGrant_grants hc hfirst hwait⟩

end Sys2Proof.Machine

/-!
The registers of SPIRE_n that act on a core: RUN, HALT, TCM_INIT, LOAD_DATA and the host's mailbox (R153, R168, R170, R171, R391).
-/
namespace Sys2Proof.Machine

section
variable {s : State} {req : Req} {c : Fin 16}

/-! ### Fields beside a core -/

/-- A field that does not show a core stays where the core changes. -/
theorem rd_updCore {f : Fld} {i j k : Nat} (h : f.key i j ∉ coreKeys k) (u : State) (g : CoreSt → CoreSt) :
    (u.updCore k g).rd f i j = u.rd f i j :=
  ((OnlyCore.refl u k).updCore g).regs f i j h

/-- A field written leaves the cores. -/
@[simp] theorem core_wr (u : State) (f : Fld) (v i j k : Nat) : (u.wr f v i j).core k = u.core k := by
  rw [State.core, State.core, State.wr_cores]

/-- TCM_OK lies before the SPIRE blocks. -/
theorem low_tcmOk : SECURE_TCM_OK_CORES.key 0 0 < 0x20600000 * 32 := by decide

/-- TCM_OK is no field of the SPIRE blocks. -/
theorem tcmOk_ne {f : Fld} (hf : f.OfSpire) (k : Nat) : SECURE_TCM_OK_CORES.key 0 0 ≠ f.key k 0 := by
  have := low_tcmOk
  have := hf.behind k
  omega

/-- A bit taken off a number. -/
theorem bit_sub_two_pow {v n : Nat} (h : bit v n = true) : bit (v - 2 ^ n) n = false := by
  have hclear : v - 2 ^ n = clearBits v (2 ^ n) := by rw [clearBits, and_two_pow_eq, if_pos h]
  rw [hclear, bit, clearBits_testBit, Nat.testBit_two_pow_self]
  simp

section
variable (u : State) (k : Nat)

/-- TCM_OK of a core cleared leaves every other field. -/
theorem rd_clearTcmOk {f : Fld} {i j : Nat} (h : f.key i j ≠ SECURE_TCM_OK_CORES.key 0 0) :
    (clearTcmOk u k).rd f i j = u.rd f i j := by
  unfold clearTcmOk
  split
  · exact State.rd_wr_ne _ _ _ _ _ _ _ _ h
  · rfl

/-- TCM_OK of a core cleared changes no more than registers. -/
theorem clearTcmOk_rest : clearTcmOk u k = { u with regs := (clearTcmOk u k).regs } := by
  unfold clearTcmOk
  split <;> rfl

/-- The cores are as before. -/
theorem core_clearTcmOk (n : Nat) : (clearTcmOk u k).core n = u.core n := by
  rw [clearTcmOk_rest]
  rfl

end

/-- TCM_OK of a core is then clear. -/
theorem bit_clearTcmOk (u : State) (c : Fin 16) : bit ((clearTcmOk u c).rd SECURE_TCM_OK_CORES) c = false := by
  unfold clearTcmOk
  split
  · rw [State.rd_wr_same]
    exact (bit_mod_two_pow c.isLt _).trans (bit_sub_two_pow ‹_›)
  · exact eq_false_of_ne_true ‹_›

/-! ### CTRL -/

/-- CTRL holds no value of its own. -/
theorem pieces_spireCtrl : ∀ m ∈ [1, 2, 4], ((Blk.spire.pieces 0x000).filter fun p => !p.silent m) = [] := by decide +kernel

/-- A command of CTRL that is carried out. -/
theorem bitCmd_spireCtrl {m : Nat} (hm : m ∈ [1, 2, 4]) (h : Accepts s req .spire c 0x000 m m) :
    bitCmd s req .spire c 0x000 m = spireEffect (s.answer OK 0) c 0x000 m := by
  rw [bitCmd, wordCmd_accepted h rfl, storeWord_none (pieces_spireCtrl m hm) (by decide) (by decide),
    asked_whole _ _ _ _ _ _ (Nat.and_self m) (by rw [rwWord_none (by decide), clearBits, Nat.zero_and])]
  rfl

/-! ### RUN (R153, R171, R391) -/

/-- The core as it starts at an entry. -/
def CoreSt.started (x : CoreSt) (entry edge : Nat) : CoreSt :=
  { pc := entry, startEdge := edge, tcm := x.tcm, tcmCorr := x.tcmCorr, tcmBad := x.tcmBad, mbox := x.mbox, soon := x.soon, buf := x.buf,
    initBusy := x.initBusy }

/-- A start: the core as it starts, no longer halted. -/
theorem startCore_eq (u : State) (k entry : Nat) :
    startCore u k entry = (u.updCore k (·.started entry u.fab)).clear SPIRE_STATUS_HALTED k := rfl

/-- The start uses up the verification, whose DIGEST is recorded. -/
theorem spireRun_eq (u : State) (k : Nat) : spireRun u k =
    startCore (clearTcmOk (u.updSec fun g => { g with runDigest := g.runDigest.set k (g.okDigest.get [] k) }) k) k
      (u.rd SPIRE_ENTRY_ENTRY k * 4) := rfl

/-- A start changes no more than registers and cores. -/
theorem startCore_rest (u : State) (k entry : Nat) :
    startCore u k entry = { u with regs := (startCore u k entry).regs, cores := (startCore u k entry).cores } := rfl

/-- RUN starts a core and uses up its verification. -/
theorem spireRun_starts (h : Accepts s req .spire c 0x000 1 1) : ∃ t, exec (.spireRun req c) s = .next t ∧ AnsweredOk t ∧
    t.on SPIRE_STATUS_HALTED c = false ∧ bit (t.rd SECURE_TCM_OK_CORES) c = false ∧
    t.sec.runDigest.get [] c = s.sec.okDigest.get [] c ∧ (∀ n, n ≠ c.val → t.core n = s.core n) ∧ SameMemory s t ∧
    t.core c = (s.core c).started (s.rd SPIRE_ENTRY_ENTRY c * 4) s.fab := by
  have hexec : exec (.spireRun req c) s = .next (spireRun (s.answer OK 0) c) :=
    congrArg Host.Outcome.next (bitCmd_spireCtrl (by decide) h)
  rw [spireRun_eq] at hexec
  generalize hv : (s.answer OK 0).updSec _ = v at hexec
  have hclear := clearTcmOk_rest v c
  have hcores := core_clearTcmOk v c
  have hok := bit_clearTcmOk v c
  generalize clearTcmOk v c = u at hexec hclear hcores hok
  refine ⟨_, hexec, ?_, ?_, ?_, ?_, fun n hn => ?_, fun a => ?_, ?_⟩
  · rw [AnsweredOk, startCore_rest, hclear, ← hv]
    rfl
  · rw [startCore_eq, State.clear, State.on, State.rd_wr_same]
    rfl
  · rw [startCore_eq, State.clear, State.rd_wr_ne _ _ _ _ _ _ _ _ (tcmOk_ne (by decide) c),
      rd_updCore (not_core_of_low low_tcmOk c), hok]
  · rw [startCore_rest, hclear, ← hv]
    exact Sp.get_set_same ..
  · rw [startCore_eq, State.clear, core_wr, ((OnlyCore.refl u c).updCore _).cores n hn, hcores, ← hv]
    rfl
  · rw [startCore_rest, hclear, ← hv]
    rfl
  · rw [startCore_eq, State.clear, core_wr, State.core_updCore_same, hcores, hclear, ← hv]
    rfl

/-! ### HALT (R171) -/

/-- A wait withdrawn leaves the cores and the memory. -/
theorem withdrawWait_leaves (u : State) (k : Nat) : (withdrawWait u k).cores = u.cores ∧ (withdrawWait u k).bytes = u.bytes := by
  unfold withdrawWait
  split <;> exact ⟨rfl, rfl⟩

/-- A running core with no access in progress halts at once. -/
theorem spireHalt_now {u : State} {k : Nat} (hrun : u.on SPIRE_STATUS_HALTED k = false)
    (hfree : ∀ l b, (u.core k).wait ≠ some (.load l) ∧ (u.core k).wait ≠ some (.store b) ∧ (u.core k).wait ≠ some .fence) :
    spireHalt u k = haltCore (withdrawWait u k) k HC_HOST := by
  rw [spireHalt, if_neg (by rw [hrun]; decide)]
  split
  case h_1 l hwait => exact absurd hwait (hfree l ⟨0, 0, 0, false⟩).1
  case h_2 b hwait => exact absurd hwait (hfree ⟨0, 0, false, 0, false⟩ b).2.1
  case h_3 hwait => exact absurd hwait (hfree ⟨0, 0, false, 0, false⟩ ⟨0, 0, 0, false⟩).2.2
  case h_4 => rfl

section
variable (h : Accepts s req .spire c 0x000 2 2)
include h

/-- HALT as a core stands. -/
theorem exec_spireHalt : exec (.spireHalt req c) s = .next (spireHalt (s.answer OK 0) c) :=
  congrArg Host.Outcome.next (bitCmd_spireCtrl (by decide) h)

/-- HALT halts a running core with no access in progress. -/
theorem spireHalt_halts (hrun : s.on SPIRE_STATUS_HALTED c = false)
    (hfree : ∀ l b, (s.core c).wait ≠ some (.load l) ∧ (s.core c).wait ≠ some (.store b) ∧ (s.core c).wait ≠ some .fence) :
    ∃ t, exec (.spireHalt req c) s = .next t ∧ t.on SPIRE_STATUS_HALTED c = true ∧ t.rd SPIRE_STATUS_CAUSE c = HC_HOST ∧
      (t.core c).wait = none ∧ (t.core c).pc = (s.core c).pc ∧ SameMemory s t := by
  have hexec := exec_spireHalt h
  rw [spireHalt_now (u := s.answer OK 0) hrun hfree] at hexec
  obtain ⟨hcores, hbytes⟩ := withdrawWait_leaves (s.answer OK 0) c
  obtain ⟨hhalted, hcause⟩ := rd_haltCore (withdrawWait (s.answer OK 0) c) c HC_HOST
  refine ⟨_, hexec, hhalted, hcause, ?_, ?_, fun a => ?_⟩
  · rw [core_haltCore]
  · rw [core_haltCore, State.core, hcores]
    rfl
  · rw [(haltOnly_haltCore _ c HC_HOST).sameMemory a, hbytes]
    rfl

/-- HALT of a halted core does nothing. -/
theorem spireHalt_halted (hhalted : s.on SPIRE_STATUS_HALTED c = true) : exec (.spireHalt req c) s = .next (s.answer OK 0) := by
  have hanswer : (s.answer OK 0).on SPIRE_STATUS_HALTED c = true := hhalted
  rw [exec_spireHalt h, spireHalt, if_pos hanswer]

/-- HALT in a FENCE is asked for. -/
theorem spireHalt_fence (hrun : s.on SPIRE_STATUS_HALTED c = false) (hwait : (s.core c).wait = some .fence) :
    exec (.spireHalt req c) s = .next ((s.answer OK 0).updCore c fun y => { y with haltReq := true }) := by
  have hanswer : (s.answer OK 0).on SPIRE_STATUS_HALTED c = false := hrun
  have hfence : ((s.answer OK 0).core c).wait = some .fence := hwait
  rw [exec_spireHalt h, spireHalt, if_neg (by rw [hanswer]; decide), hfence]

end

/-! ### TCM_INIT (R170, R171, R391) -/

/-- TCM_INIT clears TCM_OK and INIT_DONE. -/
theorem spireTcmInit_begins (h : Accepts s req .spire c 0x000 4 4) : ∃ t, exec (.spireTcmInit req c) s = .next t ∧ AnsweredOk t ∧
    t.on SPIRE_STATUS_INIT_DONE c = false ∧ bit (t.rd SECURE_TCM_OK_CORES) c = false ∧
    t.core c = { s.core c with initBusy := true } ∧ (∀ n, n ≠ c.val → t.core n = s.core n) := by
  have hexec : exec (.spireTcmInit req c) s = .next (tcmInit (s.answer OK 0) c) :=
    congrArg Host.Outcome.next (bitCmd_spireCtrl (by decide) h)
  rw [tcmInit] at hexec
  have hclear := clearTcmOk_rest (s.answer OK 0) c
  have hok := bit_clearTcmOk (s.answer OK 0) c
  generalize clearTcmOk (s.answer OK 0) c = u at hexec hclear hok
  refine ⟨_, hexec, ?_, ?_, ?_, ?_, fun n hn => ?_⟩
  · rw [hclear]
    rfl
  · rw [State.on, rd_updCore (Fld.OfSpire.not_core (by decide) (by decide) c c), State.clear, State.rd_wr_same]
    rfl
  · rw [rd_updCore (not_core_of_low low_tcmOk c), State.clear, State.rd_wr_ne _ _ _ _ _ _ _ _ (tcmOk_ne (by decide) c), hok]
  · rw [State.core_updCore_same, hclear]
    rfl
  · rw [((OnlyCore.refl _ c).updCore _).cores n hn, hclear]
    rfl

/-- The end of a TCM initialisation leaves every word zero. -/
theorem spireTcmInitDone_ends (hc : clocked s = true) (hbusy : (s.core c).initBusy = true) :
    ∃ t, exec (.spireTcmInitDone c) s = .next t ∧ t.on SPIRE_STATUS_INIT_DONE c = true ∧
      t.core c = { s.core c with initBusy := false, tcm := [], tcmBad := [], tcmCorr := [] } ∧
      (∀ n, n ≠ c.val → t.core n = s.core n) ∧ RegsBut (SPIRE_STATUS_INIT_DONE.key c 0 :: coreKeys c) s t := by
  have hexec := exec_onFab (i := .spireTcmInitDone c) hc rfl
  rw [tcmInitDone, if_pos hbusy] at hexec
  have honly := (OnlyCore.refl s c).updCore fun x => { x with initBusy := false, tcm := [], tcmBad := [], tcmCorr := [] }
  refine ⟨_, hexec, ?_, ?_, fun n hn => ?_, ?_⟩
  · rw [State.raise, State.on, State.rd_wr_same]
    rfl
  · rw [State.raise, core_wr, State.core_updCore_same]
  · rw [State.raise, core_wr, honly.cores n hn]
  · exact (honly.regs.mono fun k hk => List.mem_cons_of_mem _ hk).wr (by simp) _

/-- Without a TCM initialisation there is none to end. -/
theorem spireTcmInitDone_idle (hc : clocked s = true) (hidle : (s.core c).initBusy = false) :
    exec (.spireTcmInitDone c) s = .next s := by
  rw [exec_onFab (i := .spireTcmInitDone c) hc rfl, tcmInitDone, if_neg (by rw [hidle]; decide)]

/-! ### LOAD_DATA (R156, R171, R391) -/

/-- LOAD_DATA holds no value of its own. -/
theorem pieces_loadData : ((Blk.spire.pieces 0x014).filter fun p => !p.silent 0xFFFFFFFF) = [] := by decide +kernel

/-- LOAD_DATA is one field of 32 bits. -/
theorem pieces_loadData_whole : Blk.spire.pieces 0x014 = [⟨SPIRE_LOAD_DATA_DATA, 0, 0, 0, 32⟩] := by decide +kernel

/-- A word of 32 bits under the whole mask. -/
theorem and_word {v : Nat} (h : v < 2 ^ 32) : v &&& 0xFFFFFFFF = v := by
  rw [show (0xFFFFFFFF : Nat) = 2 ^ 32 - 1 from rfl, Nat.and_two_pow_sub_one_eq_mod, Nat.mod_eq_of_lt h]

/-- The word asked for at LOAD_DATA is the one written. -/
theorem asked_loadData (u : State) (k : Nat) (data : BitVec 32) : u.asked .spire k 0x014 data.toNat 0xFFFFFFFF = data.toNat := by
  refine asked_whole _ _ _ _ _ _ (and_word data.isLt) ?_
  have hlt : u.rwWord .spire k 0x014 < 2 ^ 32 := by
    rw [State.rwWord, pieces_loadData_whole]
    show bits _ 0 32 * 2 ^ 0 + 0 < 2 ^ 32
    unfold bits
    omega
  rw [clearBits, and_word hlt, Nat.sub_self]

/-- LOAD_ADDR shows no core and is not TCM_OK. -/
theorem loadAddr_apart (k : Nat) : SPIRE_LOAD_ADDR_ADDR.key k 0 ∉ coreKeys k ∧
    SPIRE_LOAD_ADDR_ADDR.key k 0 ≠ SECURE_TCM_OK_CORES.key 0 0 :=
  ⟨Fld.OfSpire.not_core (by decide) (by decide) k k, (tcmOk_ne (by decide) k).symm⟩

/-- A write of LOAD_DATA stores the word at LOAD_ADDR. -/
theorem spireLoadData_stores {data : BitVec 32} (h : Accepts s req .spire c 0x014 data.toNat 0xFFFFFFFF)
    (hwf : Memory.wf (s.core c).tcm = true) : ∃ t, exec (.spireLoadData req c true data) s = .next t ∧ AnsweredOk t ∧
    t.rd SPIRE_LOAD_ADDR_ADDR c = (s.rd SPIRE_LOAD_ADDR_ADDR c + 1) % 2 ^ 16 ∧ bit (t.rd SECURE_TCM_OK_CORES) c = false ∧
    (∀ b, memGet (t.core c).tcm b = if s.rd SPIRE_LOAD_ADDR_ADDR c * 4 ≤ b ∧ b < s.rd SPIRE_LOAD_ADDR_ADDR c * 4 + 4
      then BitVec.ofNat 8 (data.toNat / 256 ^ (b - s.rd SPIRE_LOAD_ADDR_ADDR c * 4)) else memGet (s.core c).tcm b) := by
  have hexec : exec (.spireLoadData req c true data) s = .next (loadDataWrite (s.answer OK 0) c data.toNat) := by
    show Host.Outcome.next (wordCmd s req .spire c 0x014 data.toNat 0xFFFFFFFF) = _
    rw [wordCmd_accepted h rfl, storeWord_none pieces_loadData (by decide) (by decide), asked_loadData]
    rfl
  rw [loadDataWrite] at hexec
  obtain ⟨hcoreKey, hokKey⟩ := loadAddr_apart c
  generalize hv : (s.answer OK 0).updCore c _ = v at hexec
  have haddr : v.rd SPIRE_LOAD_ADDR_ADDR c = s.rd SPIRE_LOAD_ADDR_ADDR c := by
    rw [← hv, rd_updCore hcoreKey]
    rfl
  refine ⟨_, hexec, ?_, ?_, ?_, fun b => ?_⟩
  · rw [clearTcmOk_rest, ← hv]
    rfl
  · rw [State.count, State.rd_wr_same, rd_clearTcmOk v c hokKey, haddr]
    rfl
  · rw [State.count, State.rd_wr_ne _ _ _ _ _ _ _ _ hokKey.symm]
    exact bit_clearTcmOk v c
  · have hcore : ((clearTcmOk v c).count SPIRE_LOAD_ADDR_ADDR c).core c =
        (s.core c).tcmPut (s.rd SPIRE_LOAD_ADDR_ADDR c * 4) 4 data.toNat := by
      refine (core_clearTcmOk v c c).trans ?_
      rw [← hv, State.core_updCore_same]
      rfl
    rw [hcore]
    exact memGet_memPut hwf _ 4 _ b

/-- A number of n bytes of memory is below 256^n. -/
theorem memLe_lt (m : List Host.Cell) (a n : Nat) : memLe m a n < 256 ^ n := by
  induction n generalizing a with
  | zero => exact Nat.one_pos
  | succ n ih =>
    have := ih (a + 1)
    have := (memGet m a).isLt
    rw [memLe, Nat.pow_succ]
    omega

/-- The address of LOAD_DATA of a core. -/
theorem target_loadData : ∀ c : Fin 16, target (Blk.spire.inst c + 0x014) = .reg .spire c 0x014 := by decide +kernel

/-- A bus read of LOAD_DATA with power, of a good word, answers with it. -/
theorem busRead_loadData (hp : powered s (.reg .spire c 0x014) = true) (hgood : (s.core c).tcmFails (loadOff s c) 4 = false) :
    busRead s req (Blk.spire.inst c + 0x014) 4 =
      ((tcmCorrect s c (loadOff s c) 4).count SPIRE_LOAD_ADDR_ADDR c, .ok (memLe (s.core c).tcm (loadOff s c) 4)) := by
  have hcut : cutWord (memLe (s.core c).tcm (loadOff s c) 4) 0x014 4 = memLe (s.core c).tcm (loadOff s c) 4 := by
    have := memLe_lt (s.core c).tcm (loadOff s c) 4
    show _ / 1 % 2 ^ 32 = _
    omega
  have hload : loadDataRead s c = ((tcmCorrect s c (loadOff s c) 4).count SPIRE_LOAD_ADDR_ADDR c, OK,
      memLe (s.core c).tcm (loadOff s c) 4) := by
    simp only [loadDataRead, hgood, State.raiseIf, Bool.false_eq_true, if_false]
    rw [CoreSt.tcmLe, (corrected_tcmCorrect s c (loadOff s c) 4).eq (f := (·.tcm)) fun _ _ => rfl]
  unfold busRead
  dsimp only
  rw [target_loadData, hp]
  simp only [Bool.not_true, Bool.false_eq_true, if_false]
  rw [if_pos (by rfl), hload]
  dsimp only
  rw [if_neg (by decide), hcut]

/-- A read of LOAD_DATA answers with the word read where it is good. -/
theorem readCmd_loadData (h : Reads s req .spire c 0x014) (hgood : (s.core c).tcmFails (loadOff s c) 4 = false) :
    readCmd s req .spire c 0x014 =
      ((tcmCorrect s c (loadOff s c) 4).count SPIRE_LOAD_ADDR_ADDR c).answer OK (memLe (s.core c).tcm (loadOff s c) 4) := by
  obtain ⟨hc, hp, hreq⟩ := h
  have haddr : (Blk.spire.inst c + 0x014) % 4 = 0 := by
    show (0x20600000 + c.val * 0x1000 + 0x014) % 4 = 0
    omega
  rw [readCmd, access, onFab_on hc, readAnswer, busRead_loadData hp hgood, target_loadData]
  simp [hreq, haddr]

/-- A read of LOAD_DATA returns the word at LOAD_ADDR. -/
theorem spireLoadData_returns (data : BitVec 32) (h : Reads s req .spire c 0x014)
    (hgood : (s.core c).tcmFails (s.rd SPIRE_LOAD_ADDR_ADDR c * 4) 4 = false) :
    ∃ t, exec (.spireLoadData req c false data) s = .next t ∧
      t.reply = ⟨OK, memLe (s.core c).tcm (s.rd SPIRE_LOAD_ADDR_ADDR c * 4) 4, false⟩ ∧
      t.rd SPIRE_LOAD_ADDR_ADDR c = (s.rd SPIRE_LOAD_ADDR_ADDR c + 1) % 2 ^ 16 ∧ (t.core c).tcm = (s.core c).tcm := by
  have hcorr := corrected_tcmCorrect s c (loadOff s c) 4
  refine ⟨_, congrArg Host.Outcome.next (readCmd_loadData h hgood), rfl, ?_, ?_⟩
  · rw [← hcorr.only.regs _ c 0 (loadAddr_apart c).1]
    exact State.rd_wr_same ..
  · exact hcorr.eq (f := (·.tcm)) fun _ _ => rfl

/-! ### The host's mailbox (R168, R171) -/

/-- MBOX_HI holds no value of its own. -/
theorem pieces_mboxHi : ((Blk.spire.pieces 0x01C).filter fun p => !p.silent 0xFFFFFFFF) = [] := by decide +kernel

/-- A write of MBOX_HI sends the message. -/
theorem spireMboxSend_sends {data : BitVec 32} (h : Accepts s req .spire c 0x01C data.toNat 0xFFFFFFFF) :
    ∃ t, exec (.spireMboxSend req c data) s = .next t ∧ AnsweredOk t ∧ RegsBut (SPIRE_MBOX_HI_DATA.key c 0 :: coreKeys c) s t ∧
      t = { s with regs := t.regs, cores := t.cores, reply := t.reply } ∧ (∀ n, n ≠ c.val → t.core n = s.core n) ∧
      t.core c = { s.core c with
        soon := (s.core c).soon ++ [(s.fab + 6, ⟨BitVec.ofNat 32 (s.rd SPIRE_MBOX_LO_DATA c), data, 16⟩)] } := by
  have hexec : exec (.spireMboxSend req c data) s = .next (mboxSend (s.answer OK 0) c data.toNat) := by
    show Host.Outcome.next (wordCmd s req .spire c 0x01C data.toNat 0xFFFFFFFF) = _
    rw [wordCmd_accepted h rfl, storeWord_none pieces_mboxHi (by decide) (by decide), asked_data (by decide)]
    rfl
  rw [mboxSend, sendMessage, BitVec.ofNat_toNat, BitVec.setWidth_eq] at hexec
  have honly (f : CoreSt → CoreSt) := (OnlyCore.refl (s.answer OK 0) c).updCore f
  exact ⟨_, hexec, rfl, (honly _).regs.mono fun k hk => List.mem_cons_of_mem _ hk, rfl, (honly _).cores, State.core_updCore_same ..⟩

end

/-- Settles O41, write by write. -/
theorem spireControl : Obligations.SpireControl := by
  intro s req c data
  exact ⟨spireRun_starts, spireHalt_halts, spireHalt_halted, spireHalt_fence, spireTcmInit_begins, spireTcmInitDone_ends,
    spireTcmInitDone_idle, spireLoadData_stores, spireLoadData_returns data, spireMboxSend_sends⟩

end Sys2Proof.Machine

/-!
SUPPORT. Instructions that change registers of their core alone (R173, R175 to R180): they retire with that change, or raise ILLEGAL
where a field that they do not use is not 0.
-/
namespace Sys2Proof.Machine

/-- A change of a core that neither looks at its words under a single-bit error nor changes them, and that asks for no halt. -/
structure RegsOnly (f : CoreSt → CoreSt) : Prop where
  corr : KeepsCorr f
  halt : ∀ x, (f x).haltReq = x.haltReq

/-- A value that a core's words under a single-bit error do not enter. -/
def FreeOfCorr {α : Type} (v : CoreSt → α) : Prop := ∀ x k, v { x with tcmCorr := k } = v x

section
variable {f : CoreSt → CoreSt}

/-- A value in g[rd]. -/
theorem RegsOnly.gW {v : CoreSt → BitVec 32} (hv : FreeOfCorr v) (rd : Nat) : RegsOnly fun x => x.gW rd (v x) where
  corr x k := by simp only [hv x k, gW_tcmCorr]
  halt x := by rw [gW_eq]

/-- A value in f[rd]. -/
theorem RegsOnly.fW {v : CoreSt → BitVec 32} (hv : FreeOfCorr v) (rd : Nat) : RegsOnly fun x => x.fW rd (v x) where
  corr x k := by simp only [hv x k, CoreSt.fW]
  halt _ := rfl

/-- A value in an accumulator. -/
theorem RegsOnly.acW {v : CoreSt → BitVec 72} (hv : FreeOfCorr v) (a : Nat) : RegsOnly fun x => x.acW a (v x) where
  corr x k := by simp only [hv x k, CoreSt.acW]
  halt _ := rfl

/-- A change together with flags (R180). -/
theorem RegsOnly.flag (hf : RegsOnly f) {v : CoreSt → Nat} (hv : FreeOfCorr v) : RegsOnly fun x => (f x).flag (v x) where
  corr x k := by simp only [hv x k, hf.corr x k, CoreSt.flag]
  halt x := hf.halt x

/-- A result in g[rd] with its flags. -/
theorem RegsOnly.put {r : CoreSt → FpRes} (hr : FreeOfCorr r) (rd : Nat) : RegsOnly fun x => x.put rd (r x) :=
  (RegsOnly.gW (v := fun x => BitVec.ofNat 32 (r x).val) (fun x k => by simp only [hr x k]) rd).flag (v := fun x => (r x).flags)
    fun x k => by simp only [hr x k]

/-- A result in f[rd] with its flags. -/
theorem RegsOnly.fPut {r : CoreSt → FpRes} (hr : FreeOfCorr r) (rd : Nat) :
    RegsOnly fun x => (x.fW rd (BitVec.ofNat 32 (r x).val)).flag (r x).flags :=
  (RegsOnly.fW (v := fun x => BitVec.ofNat 32 (r x).val) (fun x k => by simp only [hr x k]) rd).flag (v := fun x => (r x).flags)
    fun x k => by simp only [hr x k]

end

/-- No flag set. -/
theorem flag_zero (x : CoreSt) : x.flag 0 = x := by rw [CoreSt.flag, Nat.or_zero]

section
variable {i : Instr} {s : State} {c : Fin 16} {f g : CoreSt → CoreSt} {bad : Bool}

/-- What an instruction retires with, written otherwise. -/
theorem Retires.congr (h : Retires i s c f) (hfg : ∀ x, f x = g x) : Retires i s c g := funext hfg ▸ h

/-- An instruction that changes registers of its core alone retires with that change. -/
theorem spReg_retires (hex : Executes s c) (hexec : exec i s = .next (spReg s c i bad f)) (hbad : bad = false) (hf : RegsOnly f) :
    Retires i s c f :=
  retires_setCore hex (fun hi => exec_executes hex hi hexec hbad) hf.corr hf.halt

/-- An instruction with an unused field that is not 0 takes ILLEGAL outside an exception (R173, R161). -/
theorem spire_entersIllegal (hex : Executes s c) (hinx : (s.core c).inx = false) {body : State → CoreSt → SpRes}
    (hexec : exec i s = .next (spire s c i bad body)) (hbad : bad = true) :
    LeavesCore i s c ((s.core c).entered 2 0 (s.core c).pc none) := by
  intro hi
  obtain ⟨hruns, hfetch, hquiet⟩ := hex
  rw [hbad, spire_illegal hruns hfetch hi] at hexec
  exact (corrected_afterFetch s c).exc hquiet hinx (after := false) hexec

end

end Sys2Proof.Machine

/-!
The ALU instructions that do not saturate (R175).
-/
namespace Sys2Proof.Machine

section
variable {i : Instr} {s : State} {c : Fin 16} {rd rs1 rs2 : BitVec 5} {r : CoreSt → BitVec 32}

/-- An ALU instruction of two g registers retires with its function of them. -/
theorem alu3_retires (hex : Executes s c) {f : BitVec 32 → BitVec 32 → BitVec 32} (hexec : exec i s = alu3 s c i rd rs1 rs2 f)
    (hr : ∀ x, f (x.gR rs1.toNat) (x.gR rs2.toNat) = r x) : Retires i s c fun x => x.gW rd.toNat (r x) :=
  (spReg_retires hex hexec rfl (.gW (fun _ _ => rfl) _)).congr fun x => by rw [hr]

/-- An ALU instruction of one g register retires with its function of it, its rs2 field being 0. -/
theorem alu2_retires (hex : Executes s c) {f : BitVec 32 → BitVec 32} (hexec : exec i s = alu2 s c i rd rs1 0 f)
    (hr : ∀ x, f (x.gR rs1.toNat) = r x) : Retires i s c fun x => x.gW rd.toNat (r x) :=
  (spReg_retires hex hexec rfl (.gW (fun _ _ => rfl) _)).congr fun x => by rw [hr]

/-- An ALU instruction with an immediate retires with its function of the register. -/
theorem aluImm_retires (hex : Executes s c) {f : BitVec 32 → BitVec 32} (hexec : exec i s = aluImm s c i rd rs1 f)
    (hr : ∀ x, f (x.gR rs1.toNat) = r x) : Retires i s c fun x => x.gW rd.toNat (r x) :=
  (spReg_retires hex hexec rfl (.gW (fun _ _ => rfl) _)).congr fun x => by rw [hr]

end

section
variable (a b : BitVec 32)

/-- A comparison as a word. -/
theorem flagWord_slt : flagWord (a.slt b) = if a.toInt < b.toInt then 1 else 0 := by simp [flagWord, BitVec.slt]
theorem flagWord_ult : flagWord (a.ult b) = if a.toNat < b.toNat then 1 else 0 := by simp [flagWord, BitVec.ult]

/-- A choice by a comparison. -/
theorem ite_slt {α : Type} (v w : α) : (if a.slt b then v else w) = if a.toInt < b.toInt then v else w := by simp [BitVec.slt]
theorem ite_ult {α : Type} (v w : α) : (if a.ult b then v else w) = if a.toNat < b.toNat then v else w := by simp [BitVec.ult]

/-- A comparison with a sign-extended immediate. -/
theorem flagWord_slt_signExtend (imm : BitVec 16) :
    flagWord (a.slt (imm.signExtend 32)) = if a.toInt < imm.toInt then 1 else 0 := by
  rw [flagWord_slt, BitVec.toInt_signExtend_of_le (by decide)]

/-- The count of leading zeros as a word. -/
theorem ofNat_clz : BitVec.ofNat 32 (clz a) = if a = 0 then 32 else BitVec.ofNat 32 (31 - Nat.log2 a.toNat) := by
  unfold clz
  split <;> rfl

/-- The low half of a word, zero-extended, is the word under a mask. -/
theorem low_half_eq_and : (a.setWidth 16).setWidth 32 = a &&& 0xFFFF := by
  apply BitVec.eq_of_toNat_eq
  rw [BitVec.toNat_setWidth, BitVec.toNat_setWidth, BitVec.toNat_and]
  have hmask : (0xFFFF : BitVec 32).toNat = 2 ^ 16 - 1 := rfl
  rw [hmask, Nat.and_two_pow_sub_one_eq_mod]
  omega

end

/-- Settles O1: each instruction has one of three shapes, and its function is that of R175. -/
theorem spireAluResults : Obligations.SpireAluResults := by
  intro s c rd rs1 rs2 imm hex
  have hreg {i : Instr} {r : CoreSt → BitVec 32} (f : BitVec 32 → BitVec 32 → BitVec 32)
      (hexec : exec i s = alu3 s c i rd rs1 rs2 f) := alu3_retires (r := r) hex hexec
  have hone {i : Instr} {r : CoreSt → BitVec 32} (f : BitVec 32 → BitVec 32) (hexec : exec i s = alu2 s c i rd rs1 0 f) :=
    alu2_retires (r := r) hex hexec
  have himm {i : Instr} {r : CoreSt → BitVec 32} (f : BitVec 32 → BitVec 32) (hexec : exec i s = aluImm s c i rd rs1 f) :=
    aluImm_retires (r := r) hex hexec
  exact ⟨hreg (· + ·) rfl fun _ => rfl, hreg (· - ·) rfl fun _ => rfl, hreg (· &&& ·) rfl fun _ => rfl,
    hreg (· ||| ·) rfl fun _ => rfl, hreg (· ^^^ ·) rfl fun _ => rfl, hreg (fun a b => ~~~(a ||| b)) rfl fun _ => rfl,
    hreg (fun a b => flagWord (a.slt b)) rfl fun _ => flagWord_slt ..,
    hreg (fun a b => flagWord (a.ult b)) rfl fun _ => flagWord_ult ..,
    hreg (fun a b => a <<< (b.toNat % 32)) rfl fun _ => rfl, hreg (fun a b => a >>> (b.toNat % 32)) rfl fun _ => rfl,
    hreg (fun a b => a.sshiftRight (b.toNat % 32)) rfl fun _ => rfl,
    himm (· <<< rs2.toNat) rfl fun _ => rfl, himm (· >>> rs2.toNat) rfl fun _ => rfl,
    himm (·.sshiftRight rs2.toNat) rfl fun _ => rfl,
    hreg (fun a b => if a.slt b then a else b) rfl fun _ => ite_slt ..,
    hreg (fun a b => if a.slt b then b else a) rfl fun _ => ite_slt ..,
    hreg (fun a b => if a.ult b then a else b) rfl fun _ => ite_ult ..,
    hreg (fun a b => if a.ult b then b else a) rfl fun _ => ite_ult ..,
    hone (fun a => BitVec.ofNat 32 (clz a)) rfl fun _ => ofNat_clz _, hone (fun a => (a.setWidth 8).signExtend 32) rfl fun _ => rfl,
    hone (fun a => (a.setWidth 16).signExtend 32) rfl fun _ => rfl,
    hone (fun a => (a.setWidth 16).setWidth 32) rfl fun _ => low_half_eq_and _,
    himm (· + imm.signExtend 32) rfl fun _ => rfl, himm (· &&& imm.setWidth 32) rfl fun _ => rfl,
    himm (· ||| imm.setWidth 32) rfl fun _ => rfl, himm (· ^^^ imm.setWidth 32) rfl fun _ => rfl,
    himm (fun a => flagWord (a.slt (imm.signExtend 32))) rfl fun _ => flagWord_slt_signExtend ..,
    himm (fun a => flagWord (a.ult (imm.signExtend 32))) rfl fun _ => flagWord_ult ..,
    spReg_retires hex rfl rfl (.gW (v := fun _ => imm.setWidth 32 <<< 16) (fun _ _ => rfl) _)⟩

end Sys2Proof.Machine

/-!
SUPPORT. Results with flags as the statements write them (R176 to R180): codes of integers, clamped results, accumulators.
-/
namespace Sys2Proof.Machine

section
variable {w : Nat}

/-- The word of its own number. -/
theorem ofNat_toNat_word (a : BitVec w) : BitVec.ofNat w a.toNat = a := by rw [BitVec.ofNat_toNat, BitVec.setWidth_eq]

/-- The code of an integer is its word. -/
theorem ofNat_uz (z : Int) : BitVec.ofNat w (uz w z) = BitVec.ofInt w z := by
  apply BitVec.eq_of_toNat_eq
  have hpos : ((2 ^ w : Nat) : Int) ≠ 0 := by have := Nat.two_pow_pos w; omega
  have hlt : uz w z < 2 ^ w := by
    have := Int.emod_lt_of_pos z (b := (2 ^ w : Nat)) (by have := Nat.two_pow_pos w; omega)
    have := Int.emod_nonneg z hpos
    unfold uz
    omega
  rw [BitVec.toNat_ofNat, BitVec.toNat_ofInt, Nat.mod_eq_of_lt hlt, uz]

/-- A number cut to w bits and read with its sign is the word's integer. -/
theorem sx_eq_toInt (hw : 0 < w) (n : Nat) : sx w n = (BitVec.ofNat w n).toInt := by
  obtain ⟨k, rfl⟩ : ∃ k, w = k + 1 := ⟨w - 1, by omega⟩
  rw [sx, BitVec.toInt_eq_toNat_cond, BitVec.toNat_ofNat, Nat.add_sub_cancel]
  have : (2 : Nat) ^ (k + 1) = 2 * 2 ^ k := Nat.pow_succ'
  by_cases h : n % 2 ^ (k + 1) < 2 ^ k
  · rw [if_pos h, if_pos (by omega)]
  · rw [if_neg h, if_neg (by omega)]
    push_cast
    rfl

/-- Clamping as a minimum and a maximum. -/
theorem satS_eq_max_min (v : Int) : satS w v = max (-2 ^ (w - 1)) (min (2 ^ (w - 1) - 1) v) := by
  have : (0 : Int) < 2 ^ (w - 1) := by positivity
  unfold satS clampInt
  split
  · omega
  · split <;> omega

end

section
variable (x : CoreSt) (rd : Nat)

/-- A result without flags. -/
theorem put_plain (v : Nat) : x.put rd (plain v) = x.gW rd (BitVec.ofNat 32 v) := flag_zero _

/-- The flags of a clamped result: SAT exactly where it was clamped. -/
theorem outS_flags (w : Nat) (v : Int) :
    (if outS w v then SAT else 0) = if v < -2 ^ (w - 1) ∨ 2 ^ (w - 1) - 1 < v then 256 else 0 := by
  simp only [outS, SAT, Bool.or_eq_true, decide_eq_true_eq]

/-- A result clamped to 32 bits. -/
theorem put_sat32 (v : Int) : x.put rd (sat32 v) =
    (x.gW rd (BitVec.ofInt 32 (max (-2 ^ 31) (min (2 ^ 31 - 1) v)))).withArith
      (if v < -2 ^ 31 ∨ 2 ^ 31 - 1 < v then 256 else 0) := by
  rw [CoreSt.put, sat32, ofNat_uz, satS_eq_max_min, outS_flags]
  rfl

/-- An accumulator clamped to 72 bits. -/
theorem acW_sat72 (v : Int) : (x.acW rd (BitVec.ofNat 72 (sat72 v).val)).flag (sat72 v).flags =
    (x.acW rd (BitVec.ofInt 72 (max (-2 ^ 71) (min (2 ^ 71 - 1) v)))).withArith
      (if v < -2 ^ 71 ∨ 2 ^ 71 - 1 < v then 256 else 0) := by
  rw [sat72, ofNat_uz, satS_eq_max_min, outS_flags]
  rfl

end

/-- The number of an accumulator in a register field. -/
theorem toNat_accField (ac : Fin 4) : (BitVec.ofNat 5 ac.val).toNat = ac.val := Nat.mod_eq_of_lt (by omega)

section
variable {i : Instr} {s : State} {c : Fin 16} {rd rs1 rs2 : BitVec 5} {bad : Bool} {n : Nat}

/-- An instruction retires with its result in g[rd] and its flags. -/
theorem put_retires (hex : Executes s c) (r : CoreSt → FpRes)
    (hexec : exec i s = .next (spReg s c i bad fun x => x.put rd.toNat (r x)))
    (hbad : bad = false) (hr : FreeOfCorr r) : Retires i s c fun x => x.put rd.toNat (r x) :=
  spReg_retires hex hexec hbad (.put hr _)

/-- An instruction retires with its result in f[rd] and its flags. -/
theorem fPut_retires (hex : Executes s c) (r : CoreSt → FpRes)
    (hexec : exec i s = .next (spReg s c i bad fun x => (x.fW rd.toNat (BitVec.ofNat 32 (r x).val)).flag (r x).flags))
    (hbad : bad = false) (hr : FreeOfCorr r) :
    Retires i s c fun x => (x.fW rd.toNat (BitVec.ofNat 32 (r x).val)).withArith (r x).flags :=
  spReg_retires hex hexec hbad (.fPut hr _)

/-- An accumulator read retires with its function of accumulator 0 to 3. -/
theorem acrd_retires (hex : Executes s c) (f : BitVec 72 → FpRes) (hexec : exec i s = acrd s c i bad rd rs1 f) (hbad : bad = false)
    (hrs1 : rs1.toNat = n) (hn : n < 4) : Retires i s c fun x => x.put rd.toNat (f (x.acR n)) := by
  subst hrs1
  exact put_retires hex (fun x => f (x.acR rs1.toNat)) hexec (by rw [hbad, decide_eq_false (by omega)]; rfl) fun _ _ => rfl

/-- An accumulator write retires with its function of accumulator 0 to 3 and of the register. -/
theorem acwr_retires (hex : Executes s c) (f : BitVec 72 → BitVec 32 → BitVec 72) (hexec : exec i s = acwr s c i bad rd rs1 f)
    (hbad : bad = false) (hrd : rd.toNat = n) (hn : n < 4) : Retires i s c fun x => x.acW n (f (x.acR n) (x.gR rs1.toNat)) := by
  subst hrd
  exact spReg_retires hex hexec (by rw [hbad, decide_eq_false (by omega)]; rfl) (.acW (fun _ _ => rfl) _)

/-- A MAC instruction retires with its function of accumulator 0 to 3 and of the registers. -/
theorem mac_retires (hex : Executes s c) (f : Int → BitVec 32 → BitVec 32 → Int) (hexec : exec i s = mac s c i rd rs1 rs2 f)
    (hrd : rd.toNat = n) (hn : n < 4) :
    Retires i s c fun x => x.acW n (BitVec.ofInt 72 (f (x.acR n).toInt (x.gR rs1.toNat) (x.gR rs2.toNat))) := by
  subst hrd
  exact spReg_retires hex hexec (decide_eq_false (by omega)) (.acW (fun _ _ => rfl) _)

/-- A saturating MAC instruction retires with its clamped function of accumulator 0 to 3 and of the registers. -/
theorem macSat_retires (hex : Executes s c) (f : Int → BitVec 32 → BitVec 32 → Int) (hexec : exec i s = macSat s c i rd rs1 rs2 f)
    (hrd : rd.toNat = n) (hn : n < 4) :
    let v (x : CoreSt) : Int := f (x.acR n).toInt (x.gR rs1.toNat) (x.gR rs2.toNat)
    Retires i s c fun x => (x.acW n (BitVec.ofInt 72 (max (-2 ^ 71) (min (2 ^ 71 - 1) (v x))))).withArith
      (if v x < -2 ^ 71 ∨ 2 ^ 71 - 1 < v x then 256 else 0) := by
  subst hrd
  exact (spReg_retires hex hexec (decide_eq_false (by omega))
    ((RegsOnly.acW (fun _ _ => rfl) _).flag fun _ _ => rfl)).congr fun x => acW_sat72 ..

/-- An instruction retires with its clamped result in g[rd]. -/
theorem sat32_retires (hex : Executes s c) (v : CoreSt → Int)
    (hexec : exec i s = .next (spReg s c i bad fun x => x.put rd.toNat (sat32 (v x)))) (hbad : bad = false) (hv : FreeOfCorr v) :
    Retires i s c fun x => (x.gW rd.toNat (BitVec.ofInt 32 (max (-2 ^ 31) (min (2 ^ 31 - 1) (v x))))).withArith
      (if v x < -2 ^ 31 ∨ 2 ^ 31 - 1 < v x then 256 else 0) :=
  (put_retires hex (fun x => sat32 (v x)) hexec hbad fun x k => by simp only [hv x k]).congr fun x => put_sat32 ..

end

end Sys2Proof.Machine

/-!
The saturating instructions, the products, the accumulator moves and the FP instructions (R175 to R180).
-/
namespace Sys2Proof.Machine

/-- Settles O2: each instruction clamps one exact result. -/
theorem spireSaturation : Obligations.SpireSaturation := by
  intro s c rd rs1 rs2 ac hex
  have hacc := toNat_accField ac
  refine ⟨sat32_retires hex (fun x => (x.gR rs1.toNat).toInt + (x.gR rs2.toNat).toInt) rfl rfl fun _ _ => rfl,
    sat32_retires hex (fun x => (x.gR rs1.toNat).toInt - (x.gR rs2.toNat).toInt) rfl rfl fun _ _ => rfl,
    sat32_retires hex (fun x => |(x.gR rs1.toNat).toInt|) ?_ rfl fun _ _ => rfl,
    sat32_retires hex (fun x => crnd ((x.gR rs1.toNat).toInt * (x.gR rs2.toNat).toInt) 31) rfl rfl fun _ _ => rfl,
    macSat_retires hex (fun v a b => v + sprod a b) rfl hacc ac.isLt,
    macSat_retires hex (fun v a b => v - sprod a b) rfl hacc ac.isLt,
    (acrd_retires hex (fun v => sat32 (crnd v.toInt rs2.toNat)) rfl rfl hacc ac.isLt).congr fun x => put_sat32 ..,
    (acrd_retires hex (fun v => sat32 (v.toInt / 2 ^ rs2.toNat)) rfl rfl hacc ac.isLt).congr fun x => put_sat32 ..⟩
  simp only [Int.abs_eq_natAbs]
  rfl

/-- Settles O3: products to a g register set no flag, sums of products wrap as words of 72 bits do. -/
theorem spireProducts : Obligations.SpireProducts := by
  intro s c rd rs1 rs2 ac hex
  have hacc := toNat_accField ac
  have hmul {i : Instr} (f : BitVec 32 → BitVec 32 → Nat) (hexec : exec i s = mul3 s c i rd rs1 rs2 fun a b => plain (f a b))
      {r : CoreSt → BitVec 32} (hr : ∀ x, BitVec.ofNat 32 (f (x.gR rs1.toNat) (x.gR rs2.toNat)) = r x) :
      Retires i s c fun x => x.gW rd.toNat (r x) :=
    (put_retires hex (fun x => plain (f (x.gR rs1.toNat) (x.gR rs2.toNat))) hexec rfl fun _ _ => rfl).congr fun x => by
      rw [put_plain, hr]
  have hmac {i : Instr} (f : Int → BitVec 32 → BitVec 32 → Int) (hexec : exec i s = mac s c i (BitVec.ofNat 5 ac.val) rs1 rs2 f) :=
    mac_retires hex f hexec hacc ac.isLt
  exact ⟨hmul (fun a b => (a * b).toNat) rfl fun x => ofNat_toNat_word _,
    hmul (fun a b => uz 32 (sprod a b / 2 ^ 32)) rfl fun x => by rw [ofNat_uz, sprod],
    hmul (fun a b => uz 32 (uprod a b / 2 ^ 32)) rfl fun x => by rw [ofNat_uz, uprod, ← BitVec.ofInt_natCast]; rfl,
    (hmac (fun v a b => v + sprod a b) rfl).congr fun x => by rw [BitVec.ofInt_add, BitVec.ofInt_toInt, sprod],
    (hmac (fun v a b => v + uprod a b) rfl).congr fun x => by
      rw [BitVec.ofInt_add, BitVec.ofInt_toInt, uprod, BitVec.ofInt_natCast],
    (hmac (fun v a b => v - sprod a b) rfl).congr fun x => by
      rw [Int.sub_eq_add_neg, BitVec.ofInt_add, BitVec.ofInt_neg, BitVec.ofInt_toInt, ← BitVec.sub_eq_add_neg, sprod]⟩

/-- Bits of an accumulator read as a word. -/
theorem ofNat_low (v : BitVec 72) : BitVec.ofNat 32 (v.toNat % 2 ^ 32) = v.extractLsb' 0 32 := by
  apply BitVec.eq_of_toNat_eq
  rw [BitVec.toNat_ofNat, BitVec.extractLsb'_toNat, Nat.mod_mod, Nat.shiftRight_zero]

/-- Bits of an accumulator as a number. -/
theorem ofNat_bits (v : BitVec 72) (lsb w : Nat) : BitVec.ofNat w (bits v.toNat lsb w) = v.extractLsb' lsb w := by
  apply BitVec.eq_of_toNat_eq
  rw [BitVec.toNat_ofNat, BitVec.extractLsb'_toNat, bits, Nat.mod_mod, Nat.shiftRight_eq_div_pow]

/-- The top bits of an accumulator, sign-extended. -/
theorem ofNat_top (v : BitVec 72) : BitVec.ofNat 32 (uz 32 (sx 8 (bits v.toNat 64 8))) = (v.extractLsb' 64 8).signExtend 32 := by
  rw [ofNat_uz, sx_eq_toInt (by decide), ofNat_bits, BitVec.signExtend]

/-- The bits of an accumulator whose bits [63:32] are replaced. -/
theorem getLsbD_replaceHigh (v : BitVec 72) (a : BitVec 32) {k : Nat} (hk : k < 72) :
    (v.extractLsb' 64 8 ++ a ++ v.extractLsb' 0 32).getLsbD k = if 32 ≤ k ∧ k < 64 then a.getLsbD (k - 32) else v.getLsbD k := by
  simp only [BitVec.getLsbD_append, BitVec.getLsbD_extractLsb', Nat.zero_add]
  by_cases hlow : k < 32
  · rw [if_pos hlow, if_neg (by omega), decide_eq_true hlow, Bool.true_and]
  · rw [if_neg hlow]
    by_cases hmid : k < 64
    · rw [if_pos (by omega), if_pos (by omega)]
    · rw [if_neg (by omega), if_neg (by omega), decide_eq_true (by omega), Bool.true_and, show 64 + (k - 32 - 32) = k by omega]

/-- The bits of an accumulator whose bits [71:64] are replaced. -/
theorem getLsbD_replaceTop (v : BitVec 72) (a : BitVec 32) {k : Nat} (hk : k < 72) :
    (a.setWidth 8 ++ v.extractLsb' 0 64).getLsbD k = if 64 ≤ k then a.getLsbD (k - 64) else v.getLsbD k := by
  simp only [BitVec.getLsbD_append, BitVec.getLsbD_extractLsb', BitVec.getLsbD_setWidth, Nat.zero_add]
  by_cases hlow : k < 64
  · rw [if_pos hlow, if_neg (by omega), decide_eq_true hlow, Bool.true_and]
  · rw [if_neg hlow, if_pos (by omega), decide_eq_true (by omega), Bool.true_and]

/-- An accumulator read after it was written, and another. -/
theorem acR_acW (x : CoreSt) (a b : Nat) (v : BitVec 72) : (x.acW a v).acR b = if b = a then v else x.acR b := Sp.get_set ..

/-- An instruction that writes one accumulator bit by bit retires with that accumulator, and leaves the others. -/
theorem Retires.acW {i : Instr} {s : State} {c : Fin 16} {a : Nat} {v : CoreSt → BitVec 72}
    (h : Retires i s c fun x => x.acW a (v x)) (hi : fetched s c = some i) {b : Nat → Bool}
    (hv : ∀ k, k < 72 → (v (s.core c)).getLsbD k = b k) :
    ∃ t, exec i s = .next t ∧ (∀ k, k < 72 → ((t.core c).acR a).getLsbD k = b k) ∧
      t.core c = { s.core c with ac := (t.core c).ac, pc := (s.core c).pc + 4, tcmCorr := (t.core c).tcmCorr } ∧
      (∀ d, d ≠ a → (t.core c).acR d = (s.core c).acR d) ∧ OnlyCore s t c := by
  obtain ⟨t, hexec, hcore, -, honly⟩ := h hi
  have hac (d : Nat) : (t.core c).acR d = if d = a then v (s.core c) else (s.core c).acR d := by
    rw [hcore, ← acR_acW]
    rfl
  refine ⟨t, hexec, fun k hk => ?_, by rw [hcore]; rfl, fun d hd => by rw [hac, if_neg hd], honly⟩
  rw [hac, if_pos rfl, hv k hk]

/-- Settles O4: an accumulator read extracts bits, a write replaces them. -/
theorem spireAccumulatorMoves : Obligations.SpireAccumulatorMoves := by
  intro s c rd rs1 ac hex
  have hread {i : Instr} (f : BitVec 72 → Nat)
      (hexec : exec i s = acrd s c i (0 != 0) rd (BitVec.ofNat 5 ac.val) fun v => plain (f v))
      {r : BitVec 72 → BitVec 32} (hr : ∀ v, BitVec.ofNat 32 (f v) = r v) :
      Retires i s c fun x => x.gW rd.toNat (r (x.acR ac.val)) :=
    (acrd_retires hex _ hexec rfl (toNat_accField ac) ac.isLt).congr fun x => by rw [put_plain, hr]
  have hwrite {i : Instr} {bad : Bool} (f : BitVec 72 → BitVec 32 → BitVec 72)
      (hexec : exec i s = acwr s c i bad (BitVec.ofNat 5 ac.val) rs1 f) (hbad : bad = false) :=
    acwr_retires hex f hexec hbad (toNat_accField ac) ac.isLt
  refine ⟨hread (·.toNat % 2 ^ 32) rfl ofNat_low, hread (bits ·.toNat 32 32) rfl (ofNat_bits · 32 32),
    hread (fun v => uz 32 (sx 8 (bits v.toNat 64 8))) rfl ofNat_top, hwrite (fun _ a => a.signExtend 72) rfl rfl,
    fun hi => ?_, fun hi => ?_, acwr_retires (rs1 := 0) hex (fun _ _ => 0) rfl rfl (toNat_accField ac) ac.isLt⟩
  · refine (hwrite (fun v a => v.extractLsb' 64 8 ++ a ++ v.extractLsb' 0 32) rfl rfl).acW hi fun k hk => ?_
    exact getLsbD_replaceHigh _ _ hk
  · refine (hwrite (fun v a => a.setWidth 8 ++ v.extractLsb' 0 64) rfl rfl).acW hi fun k hk => ?_
    exact getLsbD_replaceTop _ _ hk

/-- An f register written without flags. -/
theorem fPut_plain (x : CoreSt) (rd v : Nat) :
    (x.fW rd (BitVec.ofNat 32 (plain v).val)).withArith (plain v).flags = x.fW rd (BitVec.ofNat 32 v) := flag_zero _

/-- The magnitude of a binary32 number. -/
theorem ofNat_magnitude (a : BitVec 32) : BitVec.ofNat 32 (a.toNat % 2 ^ 31) = a &&& 0x7FFFFFFF := by
  have hmask : (0x7FFFFFFF : BitVec 32).toNat = 2 ^ 31 - 1 := rfl
  apply BitVec.eq_of_toNat_eq
  rw [BitVec.toNat_ofNat, BitVec.toNat_and, hmask, Nat.and_two_pow_sub_one_eq_mod]
  omega

/-- A binary32 number with its sign turned. -/
theorem ofNat_fpFlip (a : BitVec 32) : BitVec.ofNat 32 (fpFlip a.toNat) = a ^^^ 0x80000000 := by
  apply BitVec.eq_of_toNat_eq
  rw [fpFlip, Nat.mod_eq_of_lt a.isLt, BitVec.toNat_ofNat, BitVec.toNat_xor]
  exact Nat.mod_eq_of_lt (Nat.xor_lt_two_pow a.isLt (by decide))

/-- Settles O5: each instruction has one result with its flags, or moves bits. -/
theorem spireFloatResults : Obligations.SpireFloatResults := by
  intro s c rd rs1 rs2 hex
  have hfp3 {i : Instr} (f : Nat → Nat → FpRes) (hexec : exec i s = fp3 s c i rd rs1 rs2 f) :=
    fPut_retires hex (fun x => f (x.fR rs1.toNat).toNat (x.fR rs2.toNat).toNat) hexec rfl fun _ _ => rfl
  have hcmp {i : Instr} (f : Nat → Nat → FpRes) (hexec : exec i s = fpCmp s c i rd rs1 rs2 f) :=
    put_retires hex (fun x => f (x.fR rs1.toNat).toNat (x.fR rs2.toNat).toNat) hexec rfl fun _ _ => rfl
  have hfp2 {i : Instr} (f : BitVec 32 → FpRes) (hexec : exec i s = fp2 s c i rd rs1 0 f) :=
    fPut_retires hex (fun x => f (x.fR rs1.toNat)) hexec rfl fun _ _ => rfl
  have htoG {i : Instr} (f : Nat → FpRes) (hexec : exec i s = fpToG s c i rd rs1 0 f) :=
    put_retires hex (fun x => f (x.fR rs1.toNat).toNat) hexec rfl fun _ _ => rfl
  have hofG {i : Instr} (f : BitVec 32 → FpRes) (hexec : exec i s = gToFp s c i rd rs1 0 f) :=
    fPut_retires hex (fun x => f (x.gR rs1.toNat)) hexec rfl fun _ _ => rfl
  exact ⟨hfp3 fpAdd rfl, hfp3 fpSubtract rfl, hfp3 fpMul rfl, hfp3 fpDiv rfl, hfp3 (fpPick false) rfl, hfp3 (fpPick true) rfl,
    hfp2 (fun a => fpSqrt a.toNat) rfl,
    (hfp2 (fun a => plain (a.toNat % 2 ^ 31)) rfl).congr fun x => by rw [fPut_plain, ofNat_magnitude],
    (hfp2 (fun a => plain (fpFlip a.toNat)) rfl).congr fun x => by rw [fPut_plain, ofNat_fpFlip],
    (hfp2 (fun a => plain a.toNat) rfl).congr fun x => by rw [fPut_plain, ofNat_toNat_word],
    hcmp fpEq rfl, hcmp fpLt rfl, hcmp fpLe rfl, hofG (fun a => fpOfInt a.toInt) rfl,
    htoG (fpToInt true) rfl, htoG (fpToInt false) rfl,
    (hofG (fun a => plain a.toNat) rfl).congr fun x => by rw [fPut_plain, ofNat_toNat_word],
    (htoG plain rfl).congr fun x => by rw [put_plain, ofNat_toNat_word]⟩

end Sys2Proof.Machine

/-!
Fields that an instruction does not use (R173).
-/
namespace Sys2Proof.Machine

/-- Settles O6: each instruction's frame raises ILLEGAL where its check of the unused fields says so. -/
theorem spireUnusedFieldsIllegal : Obligations.SpireUnusedFieldsIllegal := by
  intro s c rd rs1 rs2 imm csr hex hinx
  have hill {i : Instr} {bad : Bool} {body : State → CoreSt → SpRes} (hexec : exec i s = .next (spire s c i bad body))
      (hbad : bad = true) := spire_entersIllegal hex hinx hexec hbad
  have hrs2 (h : rs2 ≠ 0) : (rs2 != 0) = true := bne_iff_ne.mpr h
  have hmac (h : 4 ≤ rd.toNat) : decide (4 ≤ rd.toNat) = true := decide_eq_true h
  have hacrd (h : 4 ≤ rs1.toNat) : (decide (4 ≤ rs1.toNat) || false) = true := by simpa using h
  have hread (h : 4 ≤ rs1.toNat ∨ rs2 ≠ 0) : (decide (4 ≤ rs1.toNat) || rs2 != 0) = true := by simpa using h
  have hwrite (h : 4 ≤ rd.toNat ∨ rs2 ≠ 0) : (decide (4 ≤ rd.toNat) || rs2 != 0) = true := by simpa using h
  have hnone (h : rd ≠ 0 ∨ rs1 ≠ 0 ∨ rs2 ≠ 0) : (rd != 0 || rs1 != 0 || rs2 != 0) = true := by simpa [or_assoc] using h
  exact ⟨fun h => hill rfl (hrs2 h), fun h => hill rfl (hrs2 h), fun h => hill rfl (hrs2 h), fun h => hill rfl (hrs2 h),
    fun h => hill rfl (hrs2 h), fun h => hill rfl (hrs2 h), fun h => hill rfl (hrs2 h), fun h => hill rfl (hrs2 h),
    fun h => hill rfl (hrs2 h), fun h => hill rfl (hrs2 h), fun h => hill rfl (hrs2 h), fun h => hill rfl (hrs2 h),
    fun h => hill rfl (hrs2 h), fun h => hill rfl (hrs2 h), fun h => hill rfl (bne_iff_ne.mpr h),
    fun h => hill rfl (hmac h), fun h => hill rfl (hmac h), fun h => hill rfl (hmac h), fun h => hill rfl (hmac h),
    fun h => hill rfl (hmac h), fun h => hill rfl (hacrd h), fun h => hill rfl (hacrd h),
    fun h => hill rfl (hread h), fun h => hill rfl (hread h), fun h => hill rfl (hread h),
    fun h => hill rfl (hwrite h), fun h => hill rfl (hwrite h), fun h => hill rfl (hwrite h),
    fun h => hill rfl (by simpa using h), fun h => hill rfl (by simpa using h),
    fun h => hill rfl (hnone h), fun h => hill rfl (hnone h), fun h => hill rfl (hnone h), fun h => hill rfl (hnone h),
    fun h => hill rfl (bne_iff_ne.mpr h), fun h => hill rfl (bne_iff_ne.mpr h)⟩

end Sys2Proof.Machine

/-!
The branches (R192).
-/
namespace Sys2Proof.Machine

section
variable {i : Instr} {s u v : State} {c : Fin 16}

/-- An instruction that goes elsewhere, with no halt asked for. -/
theorem Corrected.jump (h : Corrected s u c) (hquiet : (s.core c).haltReq = false) {f : CoreSt → CoreSt} (hf : RegsOnly f) {a : Nat}
    (hexec : exec i s = .next (spFinish c (s.core c).pc (.jump v a))) (honly : OnlyCore u v c) (hcore : v.core c = f (u.core c)) :
    Leaves i s c { f (s.core c) with pc := a } := by
  rw [spFinish_jump, atBoundary_none (by rw [State.core_updCore_same, hcore, hf.halt, h.core, hquiet])] at hexec
  refine h.leaves (f := fun x => { f x with pc := a }) (fun x k => by simp only [hf.corr x k]) hexec (honly.updCore _) ?_
  rw [State.core_updCore_same, hcore]

/-- No change. -/
theorem RegsOnly.id : RegsOnly id := ⟨fun _ _ => rfl, fun _ => rfl⟩

/-- A target in TCM is gone to. -/
theorem branchTo_inside {t : Int} (hlow : 0 ≤ t) (hhigh : t < 0x40000) : branchTo u t = .jump u t.toNat :=
  if_pos (by simp [hlow, TCM_SIZE, hhigh])

/-- A target outside TCM raises ACCESS. -/
theorem branchTo_outside {t : Int} (h : t < 0 ∨ 0x40000 ≤ t) : branchTo u t = .exc u X_ACCESS 0 (some (uz 32 t)) false :=
  if_neg (by
    have hsize : (TCM_SIZE : Int) = 0x40000 := rfl
    simp only [Bool.and_eq_true, decide_eq_true_eq]
    omega)

/-- The fetch leaves the PC, and so the target of a branch. -/
theorem relTarget_afterFetch (off : Int) : relTarget ((afterFetch s c).core c) off = ((s.core c).pc : Int) + 4 * off :=
  (corrected_afterFetch s c).eq (f := fun x => relTarget x off) fun _ _ => rfl

section
variable (hex : Executes s c) {off : BitVec 16} (taken : CoreSt → Bool) (hexec : exec i s = condBranch s c i off taken)
  (htaken : FreeOfCorr taken) {p : Prop} (hp : taken (s.core c) = true ↔ p)
include hex hexec htaken hp

/-- A branch whose condition holds goes to its target, or raises ACCESS. -/
theorem condBranch_holds (h : p) (hi : fetched s c = some i) :
    exec i s = .next (spFinish c (s.core c).pc (branchTo (afterFetch s c) (((s.core c).pc : Int) + 4 * off.toInt))) := by
  have hrun := exec_executes hex hi hexec rfl
  rwa [(corrected_afterFetch s c).eq htaken, if_pos (hp.mpr h), relTarget_afterFetch] at hrun

/-- A branch goes to its target in TCM where its condition holds, and to the next word where it does not. -/
theorem condBranch_completes :
    (p → 0 ≤ (((s.core c).pc : Int) + 4 * off.toInt) → (((s.core c).pc : Int) + 4 * off.toInt) < 0x40000 →
      LeavesCore i s c { s.core c with pc := ((((s.core c).pc : Int) + 4 * off.toInt)).toNat }) ∧
    (¬ p → Retires i s c id) := by
  have hfetch := corrected_afterFetch s c
  constructor
  · intro h hlow hhigh hi
    have hrun := condBranch_holds hex taken hexec htaken hp h hi
    rw [branchTo_inside hlow hhigh] at hrun
    exact hfetch.jump hex.2.2 .id hrun (.refl _ c) rfl
  · intro h hi
    have hrun := exec_executes hex hi hexec rfl
    rw [hfetch.eq htaken, if_neg (fun ht => h (hp.mp ht))] at hrun
    exact leaves_done hrun hfetch.only hfetch.core hex.2.2

/-- A branch whose condition holds raises ACCESS where its target lies outside TCM. -/
theorem condBranch_faults (hinx : (s.core c).inx = false) (h : p)
    (hout : (((s.core c).pc : Int) + 4 * off.toInt) < 0 ∨ 0x40000 ≤ (((s.core c).pc : Int) + 4 * off.toInt)) :
    LeavesCore i s c ((s.core c).entered 4 0 (s.core c).pc (some (uz 32 (((s.core c).pc : Int) + 4 * off.toInt)))) := by
  intro hi
  have hrun := condBranch_holds hex taken hexec htaken hp h hi
  rw [branchTo_outside hout] at hrun
  exact (corrected_afterFetch s c).exc hex.2.2 hinx hrun

end

/-- A jump that keeps the return address in a register. -/
theorem link_jumps (hex : Executes s c) {rd a : Nat}
    (hexec : exec i s = .next (spFinish c (s.core c).pc (.jump ((afterFetch s c).setCore c
      (((afterFetch s c).core c).gW rd (BitVec.ofNat 32 (((afterFetch s c).core c).pc + 4)))) a))) :
    Leaves i s c { (s.core c).gW rd (BitVec.ofNat 32 ((s.core c).pc + 4)) with pc := a } :=
  (corrected_afterFetch s c).jump hex.2.2 (.gW (v := fun x => BitVec.ofNat 32 (x.pc + 4)) (fun _ _ => rfl) rd) hexec
    ((OnlyCore.refl _ c).setCore _) (State.core_setCore_same ..)

section
variable (hex : Executes s c) {far : BitVec 26}
include hex

/-- BR and BRL to a target in TCM. -/
theorem br_jumps (hlow : 0 ≤ ((s.core c).pc : Int) + 4 * far.toInt) (hhigh : ((s.core c).pc : Int) + 4 * far.toInt < 0x40000) :
    LeavesCore (.spBr c far) s c { s.core c with pc := (((s.core c).pc : Int) + 4 * far.toInt).toNat } ∧
    LeavesCore (.spBrl c far) s c
      { (s.core c).gW 31 (BitVec.ofNat 32 ((s.core c).pc + 4)) with pc := (((s.core c).pc : Int) + 4 * far.toInt).toNat } := by
  constructor
  all_goals
    intro hi
    have hrun := exec_executes hex hi rfl rfl
    rw [relTarget_afterFetch, branchTo_inside hlow hhigh] at hrun
  · exact (corrected_afterFetch s c).jump hex.2.2 .id hrun (.refl _ c) rfl
  · exact link_jumps hex hrun

/-- BR and BRL to a target outside TCM. -/
theorem br_faults (hinx : (s.core c).inx = false)
    (hout : ((s.core c).pc : Int) + 4 * far.toInt < 0 ∨ 0x40000 ≤ ((s.core c).pc : Int) + 4 * far.toInt) :
    LeavesCore (.spBr c far) s c ((s.core c).entered 4 0 (s.core c).pc (some (uz 32 (((s.core c).pc : Int) + 4 * far.toInt)))) ∧
    LeavesCore (.spBrl c far) s c
      ((s.core c).entered 4 0 (s.core c).pc (some (uz 32 (((s.core c).pc : Int) + 4 * far.toInt)))) := by
  constructor
  all_goals
    intro hi
    have hrun := exec_executes hex hi rfl rfl
    rw [relTarget_afterFetch, branchTo_outside hout] at hrun
    exact (corrected_afterFetch s c).exc hex.2.2 hinx (after := false) hrun

end

section
variable (hex : Executes s c) {ra rb : BitVec 5} {imm : BitVec 16}
include hex

/-- JALR to an aligned target in TCM. -/
theorem jalr_jumps (hin : ((s.core c).gR rb.toNat + imm.signExtend 32).toNat < 0x40000)
    (haligned : ((s.core c).gR rb.toNat + imm.signExtend 32).toNat % 4 = 0) :
    LeavesCore (.spJalr c ra rb imm) s c { (s.core c).gW ra.toNat (BitVec.ofNat 32 ((s.core c).pc + 4)) with
      pc := ((s.core c).gR rb.toNat + imm.signExtend 32).toNat } := by
  intro hi
  have hrun := exec_executes hex hi rfl rfl
  dsimp only at hrun
  rw [gR_afterFetch, TCM_SIZE, if_neg (Nat.not_le_of_lt hin), if_neg (by rw [haligned]; decide)] at hrun
  exact link_jumps hex hrun

/-- JALR beyond TCM. -/
theorem jalr_beyond (hinx : (s.core c).inx = false) (hout : 0x40000 ≤ ((s.core c).gR rb.toNat + imm.signExtend 32).toNat) :
    LeavesCore (.spJalr c ra rb imm) s c
      ((s.core c).entered 4 0 (s.core c).pc (some ((s.core c).gR rb.toNat + imm.signExtend 32).toNat)) := by
  intro hi
  have hrun := exec_executes hex hi rfl rfl
  dsimp only at hrun
  rw [gR_afterFetch, TCM_SIZE, if_pos hout] at hrun
  exact (corrected_afterFetch s c).exc hex.2.2 hinx (after := false) hrun

/-- JALR to a misaligned target in TCM. -/
theorem jalr_misaligned (hinx : (s.core c).inx = false) (hin : ((s.core c).gR rb.toNat + imm.signExtend 32).toNat < 0x40000)
    (hodd : ((s.core c).gR rb.toNat + imm.signExtend 32).toNat % 4 ≠ 0) :
    LeavesCore (.spJalr c ra rb imm) s c
      ((s.core c).entered 5 0 (s.core c).pc (some (0xF0000000 + ((s.core c).gR rb.toNat + imm.signExtend 32).toNat))) := by
  intro hi
  have hrun := exec_executes hex hi rfl rfl
  dsimp only at hrun
  rw [gR_afterFetch, TCM_SIZE, if_neg (Nat.not_le_of_lt hin), if_pos (bne_iff_ne.mpr hodd)] at hrun
  exact (corrected_afterFetch s c).exc hex.2.2 hinx (after := false) hrun

end

end

section
variable (a b : BitVec 32) (k : BitVec 5)

/-- What the comparisons of the branches say. -/
theorem not_slt_iff : (!a.slt b) = true ↔ b.toInt ≤ a.toInt := by simp [BitVec.slt]
theorem not_ult_iff : (!a.ult b) = true ↔ b.toNat ≤ a.toNat := by simp [BitVec.ult]
theorem slt_signExtend_iff : a.slt (k.signExtend 32) = true ↔ a.toInt < k.toInt := by
  rw [BitVec.slt_iff_toInt_lt, BitVec.toInt_signExtend_of_le (by decide)]
theorem not_slt_signExtend_iff : (!a.slt (k.signExtend 32)) = true ↔ k.toInt ≤ a.toInt := by
  rw [not_slt_iff, BitVec.toInt_signExtend_of_le (by decide)]

end

/-- Settles O10, branch by branch: each has its condition. -/
theorem spireBranches : Obligations.SpireBranches := by
  intro s c ra rb off imm far hex
  have hbranch {i : Instr} (taken : CoreSt → Bool) (hexec : exec i s = condBranch s c i off taken) (htaken : FreeOfCorr taken)
      {p : Prop} (hp : taken (s.core c) = true ↔ p) := condBranch_completes hex taken hexec htaken hp
  obtain ⟨hbeq, hbeq'⟩ := hbranch (i := .spBeq c ra rb off) (fun x => x.gR ra.toNat == x.gR rb.toNat) rfl (fun _ _ => rfl)
    beq_iff_eq
  obtain ⟨hbne, hbne'⟩ := hbranch (i := .spBne c ra rb off) (fun x => x.gR ra.toNat != x.gR rb.toNat) rfl (fun _ _ => rfl)
    bne_iff_ne
  obtain ⟨hblt, hblt'⟩ := hbranch (i := .spBlt c ra rb off) (fun x => (x.gR ra.toNat).slt (x.gR rb.toNat)) rfl (fun _ _ => rfl)
    BitVec.slt_iff_toInt_lt
  obtain ⟨hbge, hbge'⟩ := hbranch (i := .spBge c ra rb off) (fun x => !(x.gR ra.toNat).slt (x.gR rb.toNat)) rfl (fun _ _ => rfl)
    (not_slt_iff ..)
  obtain ⟨hbltu, hbltu'⟩ := hbranch (i := .spBltu c ra rb off) (fun x => (x.gR ra.toNat).ult (x.gR rb.toNat)) rfl (fun _ _ => rfl)
    BitVec.ult_iff_toNat_lt
  obtain ⟨hbgeu, hbgeu'⟩ := hbranch (i := .spBgeu c ra rb off) (fun x => !(x.gR ra.toNat).ult (x.gR rb.toNat)) rfl (fun _ _ => rfl)
    (not_ult_iff ..)
  obtain ⟨hbeqi, hbeqi'⟩ := hbranch (i := .spBeqi c ra rb off) (fun x => x.gR ra.toNat == rb.signExtend 32) rfl (fun _ _ => rfl)
    beq_iff_eq
  obtain ⟨hbnei, hbnei'⟩ := hbranch (i := .spBnei c ra rb off) (fun x => x.gR ra.toNat != rb.signExtend 32) rfl (fun _ _ => rfl)
    bne_iff_ne
  obtain ⟨hblti, hblti'⟩ := hbranch (i := .spBlti c ra rb off) (fun x => (x.gR ra.toNat).slt (rb.signExtend 32)) rfl
    (fun _ _ => rfl) (slt_signExtend_iff ..)
  obtain ⟨hbgei, hbgei'⟩ := hbranch (i := .spBgei c ra rb off) (fun x => !(x.gR ra.toNat).slt (rb.signExtend 32)) rfl
    (fun _ _ => rfl) (not_slt_signExtend_iff ..)
  exact ⟨hbeq, hbeq', hbne, hbne', hblt, hblt', hbge, hbge', hbltu, hbltu', hbgeu, hbgeu', hbeqi, hbeqi', hbnei, hbnei',
    hblti, hblti', hbgei, hbgei', fun hlow hhigh => (br_jumps hex hlow hhigh).1, fun hlow hhigh => (br_jumps hex hlow hhigh).2,
    jalr_jumps hex⟩

/-- Settles O11: the target is judged before anything is written. -/
theorem spireBranchFaults : Obligations.SpireBranchFaults := by
  intro s c ra rb off imm far hex hinx
  exact ⟨br_faults hex hinx,
    condBranch_faults hex (fun x => x.gR ra.toNat == x.gR rb.toNat) rfl (fun _ _ => rfl) beq_iff_eq hinx,
    jalr_beyond hex hinx, jalr_misaligned hex hinx⟩

end Sys2Proof.Machine

/-!
SUPPORT. Lock tokens (R189, R244, R245): what each operation answers, and what it leaves of the register fields and the waiters.
-/
namespace Sys2Proof.Machine

/-- A register field of a lock token (R247). -/
abbrev Fld.OfToken (f : Fld) : Prop := f.blk = .belfry ∧ f.sub = 0x10 ∧ (0x400 ≤ f.off ∧ f.off < 0x410) ∧ f.lsb < 32

section
variable {f g : Fld}

/-- The place of a field of a token. -/
theorem Fld.OfToken.key (hf : f.OfToken) (n : Nat) : f.key 0 n = (0x20040000 + f.off + n * 0x10) * 32 + f.lsb := by
  obtain ⟨hb, hs, -⟩ := hf
  simp only [Fld.key, Fld.addr, hb, hs, Blk.inst, Blk.base, Blk.stride, reduceCtorEq, if_false]

/-- Fields of different tokens, or at different places of the token, lie apart. -/
theorem Fld.OfToken.ne (hf : f.OfToken) (hg : g.OfToken) {n k : Nat} (h : n ≠ k ∨ f.off ≠ g.off ∨ f.lsb ≠ g.lsb) :
    f.key 0 n ≠ g.key 0 k := by
  rw [hf.key, hg.key]
  obtain ⟨-, -, hfo, hfl⟩ := hf
  obtain ⟨-, -, hgo, hgl⟩ := hg
  omega

/-- The fields of the tokens lie in Belfry. -/
theorem Fld.OfToken.place (hf : f.OfToken) {n : Nat} (hn : n < 64) : belfryPlace (f.key 0 n) :=
  let ⟨hb, hs, ho, hl⟩ := hf
  belfryPlace_token ⟨hb, hs, by omega, hl⟩ hn

/-- The fields of the tokens lie behind the other registers of Belfry, BROKE and LOCK_RSP among them. -/
theorem Fld.OfToken.behind (hf : f.OfToken) (n : Nat) : 0x20040400 * 32 ≤ f.key 0 n := by
  rw [hf.key]
  obtain ⟨-, -, hfo, hfl⟩ := hf
  omega

/-- Another field of a token read after one was written. -/
theorem Fld.OfToken.rd_wr (hf : f.OfToken) (hg : g.OfToken) {n k : Nat} (h : n ≠ k ∨ f.off ≠ g.off ∨ f.lsb ≠ g.lsb)
    (s : State) (v : Nat) : (s.wr g v 0 k).rd f 0 n = s.rd f 0 n := State.rd_wr_ne _ _ _ _ _ _ _ _ (hf.ne hg h)

end

/-! ### Who holds a token -/

section
variable {s t : State} {n owner : Nat}

/-- A token's holder, as its fields show it. -/
theorem holds_congr (hheld : t.rd BELFRY_TOK_STATE_HELD 0 n = s.rd BELFRY_TOK_STATE_HELD 0 n)
    (howner : t.rd BELFRY_TOK_STATE_OWNER 0 n = s.rd BELFRY_TOK_STATE_OWNER 0 n) (owner : Nat) :
    holds t n owner = holds s n owner := by
  rw [holds, holds, State.on, State.on, hheld, howner]

/-- The fields of a token that its result word shows (R189). -/
def tokenFields : List Fld := [BELFRY_TOK_STATE_HELD, BELFRY_TOK_STATE_OWNER, BELFRY_TOK_STATE_BROKEN, BELFRY_TOK_STATE_EPOCH]

/-- They are fields of a token. -/
theorem ofToken_tokenFields : ∀ f ∈ tokenFields, f.OfToken := by decide

/-- A token's holder and its result word where the token's fields are the same. -/
theorem holds_of_fields (h : ∀ f ∈ tokenFields, t.rd f 0 n = s.rd f 0 n) (owner : Nat) : holds t n owner = holds s n owner :=
  holds_congr (h _ (by decide)) (h _ (by decide)) owner

theorem lockWord_of_fields (h : ∀ f ∈ tokenFields, t.rd f 0 n = s.rd f 0 n) (owner stat : Nat) :
    lockWord t n owner stat = lockWord s n owner stat := by
  simp only [lockWord, State.on, h BELFRY_TOK_STATE_HELD (by decide), h BELFRY_TOK_STATE_OWNER (by decide),
    h BELFRY_TOK_STATE_BROKEN (by decide), h BELFRY_TOK_STATE_EPOCH (by decide)]

/-- A token that nobody holds. -/
theorem holds_of_free (h : s.on BELFRY_TOK_STATE_HELD 0 n = false) (owner : Nat) : holds s n owner = false := by
  rw [holds, h, Bool.false_and]

end

/-! ### What each operation answers -/

section
variable {s : State} {n owner : Nat}

/-- TRY of a free token without waiters. -/
theorem lockTry_free (hheld : s.on BELFRY_TOK_STATE_HELD 0 n = false) (hwait : s.bel.waiters.get [] n = []) :
    lockTry s n owner = (giveToken s n owner, OK) := by
  rw [lockTry, holds_of_free hheld, hheld, hwait]
  rfl

/-- TRY of a token that the requester holds. -/
theorem lockTry_own (h : holds s n owner = true) : lockTry s n owner = (s, E_STATE) := by rw [lockTry, if_pos h]

/-- TRY of a token that another holds or waits for. -/
theorem lockTry_locked (h : holds s n owner = false)
    (hlocked : s.on BELFRY_TOK_STATE_HELD 0 n = true ∨ s.bel.waiters.get [] n ≠ []) : lockTry s n owner = (s, E_LOCKED) := by
  rw [lockTry, h, if_neg (by decide), if_pos (by simpa using hlocked)]

/-- REL of a token that the requester holds, and of another. -/
theorem lockRel_own (h : holds s n owner = true) : lockRel s n owner = (freeToken s n, OK) := by rw [lockRel, if_pos h]
theorem lockRel_other (h : holds s n owner = false) : lockRel s n owner = (s, E_TOKEN) := by rw [lockRel, h, if_neg (by decide)]

/-- CLR of a token that the requester holds, and of another. -/
theorem lockClr_own (h : holds s n owner = true) : lockClr s n owner = (s.clear BELFRY_TOK_STATE_BROKEN 0 n, OK) := by
  rw [lockClr, if_pos h]
theorem lockClr_other (h : holds s n owner = false) : lockClr s n owner = (s, E_TOKEN) := by rw [lockClr, h, if_neg (by decide)]

end

/-! ### What each operation leaves -/

section
variable (s : State) (n owner : Nat)

/-- A token given is held by its new owner. -/
theorem holds_giveToken (h : owner < 32) : holds (giveToken s n owner) n owner = true := by
  rw [holds, giveToken, State.on, Fld.OfToken.rd_wr (by decide) (by decide) (.inr (by decide)), State.raise, State.rd_wr_same,
    State.rd_wr_same, show owner % 2 ^ BELFRY_TOK_STATE_OWNER.width = owner from Nat.mod_eq_of_lt h, beq_self_eq_true]
  rfl

/-- A token released is not held, and has no owner. -/
theorem on_freeToken : (freeToken s n).on BELFRY_TOK_STATE_HELD 0 n = false := by
  change ((s.clear BELFRY_TOK_STATE_HELD 0 n).wr BELFRY_TOK_STATE_OWNER 0 0 n).on BELFRY_TOK_STATE_HELD 0 n = false
  rw [State.on, Fld.OfToken.rd_wr (by decide) (by decide) (.inr (by decide)), State.clear, State.rd_wr_same]
  rfl
theorem owner_freeToken : (freeToken s n).rd BELFRY_TOK_STATE_OWNER 0 n = 0 := State.rd_wr_same ..

/-- BROKEN cleared. -/
theorem on_clear_broken : (s.clear BELFRY_TOK_STATE_BROKEN 0 n).on BELFRY_TOK_STATE_BROKEN 0 n = false := by
  rw [State.on, State.clear, State.rd_wr_same]
  rfl

/-- BROKEN stays where a token is given or released. -/
theorem broken_giveToken : (giveToken s n owner).rd BELFRY_TOK_STATE_BROKEN 0 n = s.rd BELFRY_TOK_STATE_BROKEN 0 n := by
  rw [giveToken, State.raise, Fld.OfToken.rd_wr (by decide) (by decide) (.inr (by decide)),
    Fld.OfToken.rd_wr (by decide) (by decide) (.inr (by decide))]
theorem broken_freeToken : (freeToken s n).rd BELFRY_TOK_STATE_BROKEN 0 n = s.rd BELFRY_TOK_STATE_BROKEN 0 n := by
  change ((s.clear BELFRY_TOK_STATE_HELD 0 n).wr BELFRY_TOK_STATE_OWNER 0 0 n).rd BELFRY_TOK_STATE_BROKEN 0 n = _
  rw [State.clear, Fld.OfToken.rd_wr (by decide) (by decide) (.inr (by decide)),
    Fld.OfToken.rd_wr (by decide) (by decide) (.inr (by decide))]

/-- The holder stays where BROKEN is cleared. -/
theorem rd_clear_broken {f : Fld} (hf : f.OfToken) (h : f.lsb ≠ 8) : (s.clear BELFRY_TOK_STATE_BROKEN 0 n).rd f 0 n = s.rd f 0 n :=
  hf.rd_wr (by decide) (.inr (.inr h)) ..
theorem holds_clear_broken : holds (s.clear BELFRY_TOK_STATE_BROKEN 0 n) n owner = holds s n owner :=
  holds_congr (rd_clear_broken s n (by decide) (by decide)) (rd_clear_broken s n (by decide) (by decide)) owner

/-- A token given, released or cleared changes Belfry alone. -/
theorem belfryOnly_giveToken (h : n < 64) : BelfryOnly s (giveToken s n owner) :=
  ((BelfryOnly.refl s).wr (Fld.OfToken.place (by decide) h) _).wr (Fld.OfToken.place (by decide) h) _
theorem belfryOnly_clear_broken (h : n < 64) : BelfryOnly s (s.clear BELFRY_TOK_STATE_BROKEN 0 n) :=
  (BelfryOnly.refl s).wr (Fld.OfToken.place (by decide) h) _

end

/-! ### Tokens where a core alone changes -/

section
variable {s t : State} {c : Nat} (h : OnlyCore s t c)
include h

/-- The fields of a token are as before. -/
theorem OnlyCore.token {f : Fld} (hf : f.OfToken) {n : Nat} (hn : n < 64) : t.rd f 0 n = s.rd f 0 n :=
  h.regs f 0 n (not_core_of_low (Nat.lt_trans (hf.place hn).2 (by decide)) c)

/-- So are its holder, its result word and its waiters. -/
theorem OnlyCore.holds {n : Nat} (hn : n < 64) (owner : Nat) : holds t n owner = Machine.holds s n owner :=
  holds_of_fields (fun f hf => h.token (ofToken_tokenFields f hf) hn) owner
theorem OnlyCore.lockWord {n : Nat} (hn : n < 64) (owner stat : Nat) : lockWord t n owner stat = Machine.lockWord s n owner stat :=
  lockWord_of_fields (fun f hf => h.token (ofToken_tokenFields f hf) hn) owner stat
theorem OnlyCore.bel : t.bel = s.bel := by rw [h.rest]

end

end Sys2Proof.Machine

/-!
The LOCK instructions (R189, R190, R244).
-/
namespace Sys2Proof.Machine

section
variable {i : Instr} {s : State} {c : Fin 16} {rd rs1 : BitVec 5} {k : Fin 64}

/-- A token's number in an operand leaves the operand's upper bits 0. -/
theorem tokenBad_false (k : Fin 64) : tokenBad (BitVec.ofNat 12 k.val) = false := by
  simp only [tokenBad, BitVec.toNat_ofNat, bne_eq_false_iff_eq]
  omega

/-- The token that a LOCK instruction names (R189). -/
theorem tokenOf_afterFetch (s : State) (c : Fin 16) (rs1 : BitVec 5) (k : Fin 64) :
    tokenOf ((afterFetch s c).core c) rs1 (BitVec.ofNat 12 k.val) = (((s.core c).gR rs1.toNat).toNat + k.val) % 64 := by
  rw [tokenOf, gR_afterFetch, BitVec.toNat_ofNat]
  omega

/-- A LOCK operation that ends at once leaves its result word and the PC at the next word (R189). -/
theorem lock_ends (hex : Executes s c) {tok code : Nat} (htok : tok < 64) {u : State} (hu : BelfryOnly (afterFetch s c) u)
    (hrun : exec i s = .next (spFinish c (s.core c).pc
      (.done (u.updCore c fun x => x.gW rd.toNat (BitVec.ofNat 32 (lockWord u tok c code))))))
    {p : State → Prop} (hp : ∀ t, OnlyCore u t c → SameMemory s t → p t) :
    ∃ t, exec i s = .next t ∧ (t.core c).pc = (s.core c).pc + 4 ∧
      (rd ≠ 0 → (t.core c).gR rd.toNat = BitVec.ofNat 32 (lockWord t tok c code)) ∧ p t := by
  have hcore : u.core c = (afterFetch s c).core c := hu.core c
  have hquiet : (u.core c).haltReq = false := by rw [hcore, haltReq_afterFetch, hex.2.2]
  rw [spFinish_done_quiet (by rw [State.core_updCore_same, gW_eq]; exact hquiet)] at hrun
  have honly := ((OnlyCore.refl u c).updCore fun x => x.gW rd.toNat (BitVec.ofNat 32 (lockWord u tok c code))).updCore fun x =>
    { x with pc := (s.core c).pc + 4 }
  refine ⟨_, hrun, by rw [State.core_updCore_same], fun hrd => ?_, hp _ honly fun a => ?_⟩
  · rw [State.core_updCore_same, State.core_updCore_same, honly.lockWord htok]
    exact (gR_congr rfl _).trans (gR_gW_same _ (fun h => hrd (BitVec.eq_of_toNat_eq h)) _)
  · rw [honly.rest, hu.rest, (onlyCore_afterFetch s c).rest]

/-- LOCKTRY, LOCKREL and LOCKCLR end with what the operation on their token answers. -/
theorem lockInstr_ends (hex : Executes s c) {op : State → Nat → Nat → State × Nat}
    (hexec : exec i s = lockInstr s c i rd rs1 (BitVec.ofNat 12 k.val) op) (hi : fetched s c = some i) {u : State} {code : Nat}
    (hop : op (afterFetch s c) ((((s.core c).gR rs1.toNat).toNat + k.val) % 64) c = (u, code)) (hu : BelfryOnly (afterFetch s c) u)
    {p : State → Prop} (hp : ∀ t, OnlyCore u t c → SameMemory s t → p t) :
    ∃ t, exec i s = .next t ∧ (t.core c).pc = (s.core c).pc + 4 ∧ (rd ≠ 0 → (t.core c).gR rd.toNat =
      BitVec.ofNat 32 (lockWord t ((((s.core c).gR rs1.toNat).toNat + k.val) % 64) c code)) ∧ p t := by
  have hrun := exec_executes hex hi hexec (tokenBad_false k)
  dsimp only at hrun
  rw [tokenOf_afterFetch, hop] at hrun
  exact lock_ends hex (Nat.mod_lt _ (by decide)) hu hrun hp

/-- LOCKACQ of a token that is not locked ends as LOCKTRY does. -/
theorem lockacq_ends (hex : Executes s c) (hi : fetched s c = some (.spLockacq c rd rs1 (BitVec.ofNat 12 k.val)))
    {u : State} {code : Nat} (hop : lockTry (afterFetch s c) ((((s.core c).gR rs1.toNat).toNat + k.val) % 64) c = (u, code))
    (hcode : code ≠ E_LOCKED)
    (hu : BelfryOnly (afterFetch s c) u) {p : State → Prop} (hp : ∀ t, OnlyCore u t c → SameMemory s t → p t) :
    ∃ t, exec (.spLockacq c rd rs1 (BitVec.ofNat 12 k.val)) s = .next t ∧ (t.core c).pc = (s.core c).pc + 4 ∧
      (rd ≠ 0 → (t.core c).gR rd.toNat =
        BitVec.ofNat 32 (lockWord t ((((s.core c).gR rs1.toNat).toNat + k.val) % 64) c code)) ∧ p t := by
  have hrun := exec_executes hex hi rfl (tokenBad_false k)
  dsimp only at hrun
  rw [tokenOf_afterFetch, hop] at hrun
  dsimp only at hrun
  rw [if_neg hcode] at hrun
  exact lock_ends hex (Nat.mod_lt _ (by decide)) hu hrun hp

/-- A core that joins the waiters of a token is among them (R244). -/
theorem mem_lockWait (s : State) (n core : Nat) : ∃ w ∈ (lockWait s n core).bel.waiters.get [] n, w.core = core := by
  refine ⟨⟨core, s.fab⟩, ?_, rfl⟩
  rw [lockWait, setWaiters]
  simp

/-- LOCKACQ of a locked token waits for it (R244). -/
theorem lockacq_waits (hex : Executes s c) (hi : fetched s c = some (.spLockacq c rd rs1 (BitVec.ofNat 12 k.val)))
    (hop : lockTry (afterFetch s c) ((((s.core c).gR rs1.toNat).toNat + k.val) % 64) c = (afterFetch s c, E_LOCKED)) :
    ∃ t, exec (.spLockacq c rd rs1 (BitVec.ofNat 12 k.val)) s = .next t ∧ (t.core c).pc = (s.core c).pc ∧
      (t.core c).wait = some (.lock rd.toNat ((((s.core c).gR rs1.toNat).toNat + k.val) % 64)) ∧
      ∃ w ∈ t.bel.waiters.get [] ((((s.core c).gR rs1.toNat).toNat + k.val) % 64), w.core = c.val := by
  have hrun := exec_executes hex hi rfl (tokenBad_false k)
  dsimp only at hrun
  rw [tokenOf_afterFetch, hop] at hrun
  dsimp only at hrun
  rw [if_pos rfl, spFinish_hold] at hrun
  refine ⟨_, hrun, ?_, by rw [State.core_updCore_same], mem_lockWait ..⟩
  rw [State.core_updCore_same, lockWait, (belfryOnly_setWaiters (Nat.mod_lt _ (by decide)) _ _).core, core_afterFetch]

end

/-- Settles O15, case by case of what the token's state lets each operation answer. -/
theorem spireLockInstructions : Obligations.SpireLockInstructions := by
  intro s c rd rs1 k hex tok
  have htok : tok < 64 := Nat.mod_lt _ (by decide)
  have hfetch := onlyCore_afterFetch s c
  have hholds (n : Fin 64) : holds (afterFetch s c) n c = holds s n c := hfetch.holds n.isLt c
  have hown {b : Bool} (h : holds s tok c = b) : holds (afterFetch s c) tok c = b := (hfetch.holds htok c).trans h
  have hheld : (afterFetch s c).on BELFRY_TOK_STATE_HELD 0 tok = s.on BELFRY_TOK_STATE_HELD 0 tok := by
    rw [State.on, State.on, hfetch.token (by decide) htok]
  have hfree (h : s.on BELFRY_TOK_STATE_HELD 0 tok = false) (hw : s.bel.waiters.get [] tok = []) :
      lockTry (afterFetch s c) tok c = (giveToken (afterFetch s c) tok c, OK) :=
    lockTry_free (hheld.trans h) (by rw [hfetch.bel, hw])
  have hlocked (h : holds s tok c = false) (hl : s.on BELFRY_TOK_STATE_HELD 0 tok = true ∨ s.bel.waiters.get [] tok ≠ []) :
      lockTry (afterFetch s c) tok c = (afterFetch s c, E_LOCKED) :=
    lockTry_locked (hown h) (by rwa [hheld, hfetch.bel])
  have hgiven (t : State) (h : OnlyCore (giveToken (afterFetch s c) tok c) t c) (hm : SameMemory s t) :
      holds t tok c = true ∧ SameMemory s t :=
    ⟨(h.holds htok c).trans (holds_giveToken _ _ _ (by omega)), hm⟩
  have hsame (t : State) (h : OnlyCore (afterFetch s c) t c) (hm : SameMemory s t) :
      (∀ n : Fin 64, holds t n c = holds s n c) ∧ SameMemory s t :=
    ⟨fun n => (h.holds n.isLt c).trans (hholds n), hm⟩
  have hon {t u : State} (h : OnlyCore u t c) {f : Fld} (hf : f.OfToken) {b : Bool} (hb : u.on f 0 tok = b) : t.on f 0 tok = b := by
    rw [State.on, h.token hf htok]
    exact hb
  refine ⟨fun _ h hw hi => ?_, fun h hi => ?_, fun h hl hi => ?_, fun _ h hw hi => ?_, fun h hi => ?_, fun h hl hi => ?_,
    fun h hi => ?_, fun h hi => ?_, fun h hi => ?_, fun h hi => ?_⟩
  · exact lockInstr_ends hex rfl hi (hfree h hw) (belfryOnly_giveToken _ _ _ htok) hgiven
  · exact lockInstr_ends hex rfl hi (lockTry_own (hown h)) (.refl _) hsame
  · exact lockInstr_ends hex rfl hi (hlocked h hl) (.refl _) hsame
  · exact lockacq_ends hex hi (hfree h hw) (by decide) (belfryOnly_giveToken _ _ _ htok) hgiven
  · exact lockacq_ends hex hi (lockTry_own (hown h)) (by decide) (.refl _) hsame
  · exact lockacq_waits hex hi (hlocked h hl)
  · exact lockInstr_ends hex rfl hi (lockRel_own (hown h)) (belfryOnly_freeToken htok _)
      fun t ht hm => ⟨hon ht (by decide) (on_freeToken ..), hm⟩
  · exact lockInstr_ends hex rfl hi (lockRel_other (hown h)) (.refl _) hsame
  · exact lockInstr_ends hex rfl hi (lockClr_own (hown h)) (belfryOnly_clear_broken _ _ htok)
      fun t ht hm => ⟨hon ht (by decide) (on_clear_broken ..), (ht.holds htok c).trans ((holds_clear_broken ..).trans (hown h)), hm⟩
  · exact lockInstr_ends hex rfl hi (lockClr_other (hown h)) (.refl _) hsame

end Sys2Proof.Machine

/-!
The lock tokens as the host's commands and owner faults act on them (R189, R244, R245, R247).
-/
namespace Sys2Proof.Machine

/-! ### The word LOCK_CMD -/

/-- LOCK_CMD holds no value of its own. -/
theorem pieces_lockCmd : ((Blk.belfry.pieces 0x100).filter fun p => !p.silent 0x33F) = [] := by decide +kernel

section
variable {s : State} {req : Req} {k : Fin 64} {op : Nat}

/-- The word that a LOCK command asks for. -/
theorem asked_lockCmd (hop : op < 4) : s.asked .belfry 0 0x100 (k + 2 ^ 8 * op) 0x33F = k + 2 ^ 8 * op := by
  have hk : k.val < 2 ^ 8 := Nat.lt_trans k.isLt (by decide)
  refine asked_whole s _ _ _ _ _ ?_ ?_
  · rw [Nat.add_comm, show (0x33F : Nat) = 2 ^ 8 * (2 ^ 2 - 1) + (2 ^ 6 - 1) from rfl, and_two_pow_mul_add hk (by decide),
      Nat.and_two_pow_sub_one_eq_mod, Nat.and_two_pow_sub_one_eq_mod, Nat.mod_eq_of_lt hop, Nat.mod_eq_of_lt k.isLt]
  · rw [rwWord_none (by decide +kernel), clearBits, Nat.zero_and]

/-- What the host's operation leaves with its answer in LOCK_RSP. -/
def lockAnswer (n : Nat) (q : State × Nat) : State := q.1.wr BELFRY_LOCK_RSP_RESULT (lockWord q.1 n 16 q.2)

/-- An accepted LOCK command is answered OK, and acts on its token. -/
theorem lockHost_accepted (h : Accepts s req .belfry 0 0x100 (k + 2 ^ 8 * op) 0x33F) (hop : op < 4) :
    lockHost s req k op = lockCmd (s.answer OK 0) k op := by
  rw [lockHost, wordCmd_accepted h rfl, storeWord_none pieces_lockCmd (by decide) (by decide), asked_lockCmd hop]
  show lockCmd _ (bits (k + 2 ^ 8 * op) 0 6) (bits (k + 2 ^ 8 * op) 8 2) = _
  rw [show bits (k + 2 ^ 8 * op) 0 6 = k by unfold bits; omega, show bits (k + 2 ^ 8 * op) 8 2 = op by unfold bits; omega]

end

/-! ### What a LOCK command leaves -/

/-- The register fields that a LOCK command may change. -/
abbrev lockKeys (k : Nat) : List Nat :=
  [BELFRY_TOK_STATE_HELD.key 0 k, BELFRY_TOK_STATE_OWNER.key 0 k, BELFRY_TOK_STATE_BROKEN.key 0 k, BELFRY_LOCK_RSP_RESULT.key 0 0]

/-- A LOCK command has been answered: its code is in LOCK_RSP, its token is as in u, and nothing else has changed. -/
structure LockAnswered (s u t : State) (k code : Nat) : Prop where
  ok : AnsweredOk t
  code : t.rd BELFRY_LOCK_RSP_RESULT % 256 = code
  token : ∀ f : Fld, f.OfToken → t.rd f 0 k = u.rd f 0 k
  regs : RegsBut (lockKeys k) s t
  rest : t = { s with regs := t.regs, bel := { s.bel with freed := t.bel.freed }, reply := t.reply }

/-- A bit of the token is as in u. -/
theorem LockAnswered.on {s u t : State} {k code : Nat} (h : LockAnswered s u t k code) {f : Fld} (hf : f.OfToken) :
    t.on f 0 k = u.on f 0 k := by
  rw [State.on, State.on, h.token f hf]

/-- The holder of the token is as in u. -/
theorem LockAnswered.holds {s u t : State} {k code owner : Nat} (h : LockAnswered s u t k code) :
    holds t k owner = Machine.holds u k owner := holds_congr (h.token _ (by decide)) (h.token _ (by decide)) owner

section
variable {s u : State} {k code : Nat}

/-- The code of a result word. -/
theorem lockWord_code (u : State) (k owner : Nat) (h : code < 256) : lockWord u k owner code % 2 ^ 32 % 256 = code := by
  unfold lockWord
  omega

/-- The answer of an operation that has changed only the token. -/
theorem lockAnswered (hcode : code < 256) (hregs : RegsBut (lockKeys k) s u) (hreply : u.reply = ⟨OK, 0, false⟩)
    (hrest : u = { s with regs := u.regs, bel := { s.bel with freed := u.bel.freed }, reply := u.reply }) :
    LockAnswered s u (lockAnswer k (u, code)) k code where
  ok := hreply
  code := by
    rw [lockAnswer, State.rd_wr_same]
    exact lockWord_code u k 16 hcode
  token f hf := State.rd_wr_ne _ _ _ _ _ _ _ _ fun he => by
    have hbehind := hf.behind k
    have hrsp : BELFRY_LOCK_RSP_RESULT.key 0 0 < 0x20040400 * 32 := by decide
    omega
  regs := hregs.wr (by simp) _
  rest := by
    show { u with regs := _ } = _
    rw [hrest]
    rfl

end

section
variable {s : State} {req : Req} {k : Fin 64}

/-- A LOCK command answers with what its operation on the token does. -/
theorem lockHost_answers {i : Instr} {op : Nat} (hexec : exec i s = .next (lockHost s req k op))
    (h : Accepts s req .belfry 0 0x100 (k + 2 ^ 8 * op) 0x33F) (hop : op < 4) {u : State} {code : Nat}
    (hdo : lockCmd (s.answer OK 0) k op = lockAnswer k (u, code)) (hcode : code < 256) (hregs : RegsBut (lockKeys k) s u)
    (hreply : u.reply = ⟨OK, 0, false⟩)
    (hrest : u = { s with regs := u.regs, bel := { s.bel with freed := u.bel.freed }, reply := u.reply }) :
    ∃ t, exec i s = .next t ∧ LockAnswered s u t k code :=
  ⟨_, hexec.trans (congrArg Host.Outcome.next ((lockHost_accepted h hop).trans hdo)), lockAnswered hcode hregs hreply hrest⟩

/-- TRY of a free token gives it to the host. -/
theorem lockCmdTry_free (h : Accepts s req .belfry 0 0x100 (k + 2 ^ 8 * 1) 0x33F) (hheld : s.on BELFRY_TOK_STATE_HELD 0 k = false)
    (hwait : s.bel.waiters.get [] k = []) :
    ∃ t, exec (.lockCmdTry req k) s = .next t ∧ LockAnswered s (giveToken (s.answer OK 0) k 16) t k OK :=
  lockHost_answers rfl h (by decide) (congrArg (lockAnswer k) (lockTry_free hheld hwait)) (by decide)
    (((RegsBut.refl _ s).wr (by simp) _).wr (by simp) _) rfl rfl

/-- TRY of a token that is not free says who has it. -/
theorem lockCmdTry_taken (h : Accepts s req .belfry 0 0x100 (k + 2 ^ 8 * 1) 0x33F)
    (htaken : s.on BELFRY_TOK_STATE_HELD 0 k = true ∨ s.bel.waiters.get [] k ≠ []) :
    ∃ t, exec (.lockCmdTry req k) s = .next t ∧
      LockAnswered s (s.answer OK 0) t k (if holds s k 16 then E_STATE else E_LOCKED) := by
  refine lockHost_answers rfl h (by decide) (congrArg (lockAnswer k) (?_ : lockTry (s.answer OK 0) k 16 = _)) ?_ (.refl _ s) rfl rfl
  · by_cases hown : holds s k 16 = true
    · rw [if_pos hown]
      exact lockTry_own hown
    · rw [if_neg hown]
      exact lockTry_locked (Bool.eq_false_iff.mpr hown) htaken
  · split <;> decide

/-- REL of a token that the host holds releases it. -/
theorem lockCmdRel_own (h : Accepts s req .belfry 0 0x100 (k + 2 ^ 8 * 2) 0x33F) (hown : holds s k 16 = true) :
    ∃ t, exec (.lockCmdRel req k) s = .next t ∧ LockAnswered s (freeToken (s.answer OK 0) k) t k OK :=
  lockHost_answers rfl h (by decide) (congrArg (lockAnswer k) (lockRel_own hown)) (by decide)
    (((RegsBut.refl _ s).wr (by simp) _).wr (by simp) _) rfl rfl

/-- REL of another token is refused. -/
theorem lockCmdRel_other (h : Accepts s req .belfry 0 0x100 (k + 2 ^ 8 * 2) 0x33F) (hown : holds s k 16 = false) :
    ∃ t, exec (.lockCmdRel req k) s = .next t ∧ LockAnswered s (s.answer OK 0) t k E_TOKEN :=
  lockHost_answers rfl h (by decide) (congrArg (lockAnswer k) (lockRel_other hown)) (by decide) (.refl _ s) rfl rfl

/-- CLR of a token that the host holds clears BROKEN. -/
theorem lockCmdClr_own (h : Accepts s req .belfry 0 0x100 (k + 2 ^ 8 * 3) 0x33F) (hown : holds s k 16 = true) :
    ∃ t, exec (.lockCmdClr req k) s = .next t ∧
      LockAnswered s ((s.answer OK 0).clear BELFRY_TOK_STATE_BROKEN 0 k) t k OK :=
  lockHost_answers rfl h (by decide) (congrArg (lockAnswer k) (lockClr_own hown)) (by decide)
    ((RegsBut.refl _ s).wr (by simp) _) rfl rfl

/-- CLR of another token is refused. -/
theorem lockCmdClr_other (h : Accepts s req .belfry 0 0x100 (k + 2 ^ 8 * 3) 0x33F) (hown : holds s k 16 = false) :
    ∃ t, exec (.lockCmdClr req k) s = .next t ∧ LockAnswered s (s.answer OK 0) t k E_TOKEN :=
  lockHost_answers rfl h (by decide) (congrArg (lockAnswer k) (lockClr_other hown)) (by decide) (.refl _ s) rfl rfl

end

/-! ### Owner faults (R245) -/

/-- An owner's waiting request for a token withdrawn, where it has one. -/
def withdrawFrom (owner n : Nat) (s : State) : State :=
  if (s.bel.waiters.get [] n).any (fun w => w.core == owner) then lockWithdraw s n owner else s

/-- A token released and broken (R245). -/
def breakToken (s : State) (n : Nat) : State :=
  ((freeToken s n).raise BELFRY_TOK_STATE_BROKEN 0 n).count BELFRY_TOK_STATE_EPOCH 0 n

/-- What an owner fault does with one token. -/
def faultTurn (owner n : Nat) (s : State) : State :=
  if holds (withdrawFrom owner n s) n owner then breakToken (withdrawFrom owner n s) n else withdrawFrom owner n s

/-- An owner fault goes through the tokens, and sets BROKE where the owner held one. -/
theorem ownerFault_eq (s : State) (owner : Nat) :
    ownerFault s owner = (forN 64 (faultTurn owner) s).raiseIf ((upTo 64).any fun n => holds s n owner) BELFRY_STATUS_BROKE := rfl

section
variable (s : State) (n owner : Nat)

/-- A withdrawal leaves the token's fields. -/
theorem rd_withdrawFrom {f : Fld} (hf : f ∈ tokenFields) : (withdrawFrom owner n s).rd f 0 n = s.rd f 0 n := by
  have hne : ∀ f ∈ tokenFields, f.off ≠ BELFRY_TOK_WAITERS_COUNT.off := by decide
  unfold withdrawFrom
  split
  · exact (ofToken_tokenFields f hf).rd_wr (by decide) (.inr (.inl (hne f hf))) ..
  · rfl

/-- A withdrawal takes the owner, and nobody else, from the waiters. -/
theorem waiters_withdrawFrom :
    (withdrawFrom owner n s).bel.waiters.get [] n = (s.bel.waiters.get [] n).filter (fun w => w.core != owner) := by
  unfold withdrawFrom
  split
  · exact Sp.get_set_same ..
  · rename_i h
    refine (List.filter_eq_self.mpr fun w hw => ?_).symm
    exact bne_iff_ne.mpr fun he => h (List.any_eq_true.mpr ⟨w, hw, beq_iff_eq.mpr he⟩)

/-- A broken token is free, without an owner, BROKEN, and its epoch has advanced. -/
theorem rd_breakToken : (breakToken s n).on BELFRY_TOK_STATE_HELD 0 n = false ∧ (breakToken s n).rd BELFRY_TOK_STATE_OWNER 0 n = 0 ∧
    (breakToken s n).on BELFRY_TOK_STATE_BROKEN 0 n = true ∧
    (breakToken s n).rd BELFRY_TOK_STATE_EPOCH 0 n = (s.rd BELFRY_TOK_STATE_EPOCH 0 n + 1) % 2 ^ 16 := by
  have hother {f g : Fld} (hf : f.OfToken) (hg : g.OfToken) (h : f.off ≠ g.off ∨ f.lsb ≠ g.lsb) (u : State) (v : Nat) :
      (u.wr g v 0 n).rd f 0 n = u.rd f 0 n := hf.rd_wr hg (.inr h) u v
  refine ⟨?_, ?_, ?_, ?_⟩
  · rw [State.on, breakToken, State.count, State.raise, hother (by decide) (by decide) (by decide),
      hother (by decide) (by decide) (by decide)]
    exact on_freeToken s n
  · rw [breakToken, State.count, State.raise, hother (by decide) (by decide) (by decide),
      hother (by decide) (by decide) (by decide)]
    exact owner_freeToken s n
  · rw [State.on, breakToken, State.count, State.raise, hother (by decide) (by decide) (by decide), State.rd_wr_same]
    rfl
  · rw [breakToken, State.count, State.rd_wr_same, State.raise, hother (by decide) (by decide) (by decide)]
    change (((s.clear BELFRY_TOK_STATE_HELD 0 n).wr BELFRY_TOK_STATE_OWNER 0 0 n).rd BELFRY_TOK_STATE_EPOCH 0 n + 1) % 2 ^ 16 = _
    rw [State.clear, hother (by decide) (by decide) (by decide), hother (by decide) (by decide) (by decide)]

/-- The turn of a token: its owner's request withdrawn, and the token broken exactly where the owner held it. -/
theorem faultTurn_own (h : holds s n owner = true) : faultTurn owner n s = breakToken (withdrawFrom owner n s) n := by
  rw [faultTurn, holds_of_fields (fun f hf => rd_withdrawFrom s n owner hf), if_pos h]
theorem faultTurn_other (h : holds s n owner = false) : faultTurn owner n s = withdrawFrom owner n s := by
  rw [faultTurn, holds_of_fields (fun f hf => rd_withdrawFrom s n owner hf), h, if_neg (by decide)]

end

/-- Nothing has changed of the register fields but those of token n, and of the waiters but that token's. -/
structure TokenOnly (n : Nat) (s t : State) : Prop where
  rd : ∀ (f : Fld) (i j : Nat), (∀ g : Fld, g.OfToken → f.key i j ≠ g.key 0 n) → t.rd f i j = s.rd f i j
  waiters : ∀ k, k ≠ n → t.bel.waiters.get [] k = s.bel.waiters.get [] k

section
variable {s t u : State} {n k : Nat}

/-- Nothing changed. -/
theorem TokenOnly.refl (n : Nat) (s : State) : TokenOnly n s s := ⟨fun _ _ _ _ => rfl, fun _ _ => rfl⟩

/-- A field of the token written. -/
theorem TokenOnly.wr (h : TokenOnly n s t) {g : Fld} (hg : g.OfToken) (v : Nat) : TokenOnly n s (t.wr g v 0 n) where
  rd f i j hf := (State.rd_wr_ne _ _ _ _ _ _ _ _ (hf g hg)).trans (h.rd f i j hf)
  waiters := h.waiters

/-- The owner's request withdrawn. -/
theorem TokenOnly.withdrawFrom (h : TokenOnly n s t) (owner : Nat) : TokenOnly n s (withdrawFrom owner n t) := by
  unfold Machine.withdrawFrom
  split
  · exact ⟨(h.wr (g := BELFRY_TOK_WAITERS_COUNT) (by decide) _).rd, fun k hk => (Sp.get_set_ne _ _ _ _ _ hk).trans (h.waiters k hk)⟩
  · exact h

/-- The token broken. -/
theorem TokenOnly.breakToken (h : TokenOnly n s t) : TokenOnly n s (breakToken t n) := by
  have hfree : TokenOnly n s (freeToken t n) :=
    ⟨((h.wr (g := BELFRY_TOK_STATE_HELD) (by decide) _).wr (g := BELFRY_TOK_STATE_OWNER) (by decide) _).rd, h.waiters⟩
  exact (hfree.wr (by decide) _).wr (by decide) _

/-- The turn of a token changes that token alone. -/
theorem tokenOnly_faultTurn (owner n : Nat) (s : State) : TokenOnly n s (faultTurn owner n s) := by
  have hwithdrawn := (TokenOnly.refl n s).withdrawFrom owner
  unfold faultTurn
  split
  · exact hwithdrawn.breakToken
  · exact hwithdrawn

/-- The waiters of token n, and its fields, are as before. -/
structure SameToken (n : Nat) (s t : State) : Prop where
  waiters : t.bel.waiters.get [] n = s.bel.waiters.get [] n
  fields : ∀ f ∈ tokenFields, t.rd f 0 n = s.rd f 0 n

/-- One change after another. -/
theorem SameToken.trans (h : SameToken n s t) (k : SameToken n t u) : SameToken n s u :=
  ⟨k.waiters.trans h.waiters, fun f hf => (k.fields f hf).trans (h.fields f hf)⟩

/-- The turn of another token. -/
theorem TokenOnly.same (h : TokenOnly k s t) (hk : k ≠ n) : SameToken n s t :=
  ⟨h.waiters n hk.symm, fun f hf => h.rd f 0 n fun _ hg => (ofToken_tokenFields f hf).ne hg (.inl hk.symm)⟩

/-- A field of Belfry before the tokens written. -/
theorem SameToken.wr_low (h : SameToken n s t) {f : Fld} (hf : f.key 0 0 < 0x20040400 * 32) (v : Nat) :
    SameToken n s (t.wr f v 0 0) where
  waiters := h.waiters
  fields g hg := (State.rd_wr_ne _ _ _ _ _ _ _ _ fun he => by
    have := (ofToken_tokenFields g hg).behind n
    omega).trans (h.fields g hg)

end

section
variable (s : State) {n : Nat} (owner : Nat)

/-- An owner fault does with each token what its turn does. -/
theorem ownerFault_token (hn : n < 64) : ∃ u, SameToken n s u ∧ SameToken n (faultTurn owner n u) (ownerFault s owner) := by
  obtain ⟨u, hu, hend⟩ := forN_split (R := SameToken n) (fun _ => ⟨rfl, fun _ _ => rfl⟩) (fun _ _ _ => .trans) hn
    (fun k _ hk x => (tokenOnly_faultTurn owner k x).same hk) s
  refine ⟨u, hu, ?_⟩
  rw [ownerFault_eq, State.raiseIf]
  split
  · exact hend.wr_low (by decide) _
  · exact hend

/-- An owner fault withdraws the owner's requests. -/
theorem waiters_ownerFault (hn : n < 64) :
    (ownerFault s owner).bel.waiters.get [] n = (s.bel.waiters.get [] n).filter (fun w => w.core != owner) := by
  obtain ⟨u, hu, hend⟩ := ownerFault_token s owner hn
  rw [hend.waiters, ← hu.waiters, ← waiters_withdrawFrom]
  unfold faultTurn
  split <;> rfl

/-- An owner fault breaks a token that the owner holds. -/
theorem ownerFault_breaks (hn : n < 64) (h : holds s n owner = true) :
    (ownerFault s owner).on BELFRY_TOK_STATE_HELD 0 n = false ∧ (ownerFault s owner).rd BELFRY_TOK_STATE_OWNER 0 n = 0 ∧
      (ownerFault s owner).on BELFRY_TOK_STATE_BROKEN 0 n = true ∧
      (ownerFault s owner).rd BELFRY_TOK_STATE_EPOCH 0 n = (s.rd BELFRY_TOK_STATE_EPOCH 0 n + 1) % 2 ^ 16 := by
  obtain ⟨u, hu, hend⟩ := ownerFault_token s owner hn
  rw [faultTurn_own u n owner ((holds_of_fields hu.fields owner).trans h)] at hend
  have hfield {f : Fld} (hf : f ∈ tokenFields) := hend.fields f hf
  rw [State.on, State.on, hfield (by decide), hfield (by decide), hfield (by decide), hfield (by decide),
    ← hu.fields BELFRY_TOK_STATE_EPOCH (by decide), ← rd_withdrawFrom u n owner (f := BELFRY_TOK_STATE_EPOCH) (by decide)]
  exact rd_breakToken ..

/-- An owner fault leaves a token that the owner does not hold. -/
theorem ownerFault_leaves (hn : n < 64) (h : holds s n owner = false) {f : Fld} (hf : f ∈ tokenFields) :
    (ownerFault s owner).rd f 0 n = s.rd f 0 n := by
  obtain ⟨u, hu, hend⟩ := ownerFault_token s owner hn
  rw [faultTurn_other u n owner ((holds_of_fields hu.fields owner).trans h)] at hend
  exact (hend.fields f hf).trans ((rd_withdrawFrom u n owner hf).trans (hu.fields f hf))

/-- The turns of the tokens leave BROKE. -/
theorem broke_faultTurns : (forN 64 (faultTurn owner) s).rd BELFRY_STATUS_BROKE = s.rd BELFRY_STATUS_BROKE := by
  refine forN_keeps (P := fun t : State => t.rd BELFRY_STATUS_BROKE = s.rd BELFRY_STATUS_BROKE) (fun k t h => ?_) 64 rfl
  refine ((tokenOnly_faultTurn owner k t).rd _ _ _ fun g hg he => ?_).trans h
  have hbehind := hg.behind k
  have hlow : BELFRY_STATUS_BROKE.key 0 0 < 0x20040400 * 32 := by decide
  omega

/-- An owner fault sets BROKE where the owner held a token, and leaves it where it held none. -/
theorem broke_ownerFault :
    ((∃ n : Fin 64, holds s n owner = true) → (ownerFault s owner).on BELFRY_STATUS_BROKE = true) ∧
    ((∀ n : Fin 64, holds s n owner = false) → (ownerFault s owner).on BELFRY_STATUS_BROKE = s.on BELFRY_STATUS_BROKE) := by
  rw [ownerFault_eq, State.raiseIf]
  constructor
  · rintro ⟨n, hn⟩
    have hany : ((upTo 64).any fun n => holds s n owner) = true := List.any_eq_true.mpr ⟨n.val, List.mem_range.mpr n.isLt, hn⟩
    rw [if_pos hany, State.on, State.raise, State.rd_wr_same]
    rfl
  · intro hnone
    have hany : ¬ ((upTo 64).any fun n => holds s n owner) = true := by
      rw [List.any_eq_true]
      rintro ⟨n, hn, hown⟩
      exact absurd hown (by rw [hnone ⟨n, List.mem_range.mp hn⟩]; decide)
    rw [if_neg hany, State.on, State.on, broke_faultTurns]

end

/-- Settles O48: owner faults token by token, the host's commands by what the token's state lets each answer. -/
theorem lockTokens : Obligations.LockTokens := by
  intro s req k owner
  refine ⟨fun hc => ?_, fun h hheld hwait => ?_, fun h htaken => ?_, fun h hown => ?_, fun h hown => ?_, fun h hown => ?_,
    fun h hown => ?_⟩
  · obtain ⟨hbroke, hquiet⟩ := broke_ownerFault s owner
    exact ⟨_, exec_onFab hc rfl, hbroke, hquiet, fun n => ⟨waiters_ownerFault s owner n.isLt, ownerFault_breaks s owner n.isLt,
      fun hown f hf => ownerFault_leaves s owner n.isLt hown hf⟩⟩
  · obtain ⟨t, hexec, ht⟩ := lockCmdTry_free h hheld hwait
    exact ⟨t, hexec, ht.ok, ht.holds.trans (holds_giveToken _ _ _ (by decide)),
      ht.code, (ht.token _ (by decide)).trans (broken_giveToken ..), ht.regs, ht.rest⟩
  · obtain ⟨t, hexec, ht⟩ := lockCmdTry_taken h htaken
    exact ⟨t, hexec, ht.ok, ht.on (by decide), ht.token _ (by decide), ht.code, ht.token _ (by decide), ht.regs, ht.rest⟩
  · obtain ⟨t, hexec, ht⟩ := lockCmdRel_own h hown
    exact ⟨t, hexec, ht.ok, (ht.on (by decide)).trans (on_freeToken ..), (ht.token _ (by decide)).trans (owner_freeToken ..),
      ht.code, (ht.token _ (by decide)).trans (broken_freeToken ..), ht.regs, ht.rest⟩
  · obtain ⟨t, hexec, ht⟩ := lockCmdClr_own h hown
    exact ⟨t, hexec, ht.ok, (ht.on (by decide)).trans (on_clear_broken ..),
      (ht.on (by decide)).trans (congrArg (· != 0) (rd_clear_broken _ _ (by decide) (by decide))),
      (ht.token _ (by decide)).trans (rd_clear_broken _ _ (by decide) (by decide)), ht.code, ht.regs, ht.rest⟩
  · obtain ⟨t, hexec, ht⟩ := lockCmdRel_other h hown
    exact ⟨t, hexec, ht.ok, ht.on (by decide), ht.token _ (by decide), ht.code, ht.token _ (by decide), ht.regs, ht.rest⟩
  · obtain ⟨t, hexec, ht⟩ := lockCmdClr_other h hown
    exact ⟨t, hexec, ht.ok, ht.on (by decide), ht.token _ (by decide), ht.code, ht.token _ (by decide), ht.regs, ht.rest⟩

end Sys2Proof.Machine

/-!
SUPPORT. What the memories, the scan engine and the spill queues leave alone (R217 to R223, R234, R248 to R255): a packet pushed by
a hardware source changes no other block's hidden state, the ledger's and the time least of all.
-/
namespace Sys2Proof.Machine

/-- From s to t only the register file, the memories, the scan engine and the spill queues can differ. -/
def StoreOnly (s t : State) : Prop :=
  t = { s with regs := t.regs, bytes := t.bytes, lineChk := t.lineChk, mems := t.mems, scan := t.scan, queues := t.queues }

section
variable {s t u : State}

/-- Nothing changed. -/
theorem StoreOnly.refl (s : State) : StoreOnly s s := rfl

/-- One change after another. -/
theorem StoreOnly.trans (h : StoreOnly s t) (hu : StoreOnly t u) : StoreOnly s u := by
  unfold StoreOnly at h hu ⊢
  rw [h] at hu
  exact hu

/-- Parts of that kind replaced. -/
theorem StoreOnly.set (h : StoreOnly s t) (hu : u = { t with
    regs := u.regs, bytes := u.bytes, lineChk := u.lineChk, mems := u.mems, scan := u.scan, queues := u.queues }) : StoreOnly s u :=
  h.trans hu

/-- A field written. -/
theorem StoreOnly.wr (h : StoreOnly s t) (f : Fld) (v i j : Nat) : StoreOnly s (t.wr f v i j) := h.trans rfl

/-- A queue's hidden state replaced. -/
theorem StoreOnly.setQueue (h : StoreOnly s t) (k : Nat) (q : QueueSt) : StoreOnly s (t.setQueue k q) := h.trans rfl

/-- Either branch. -/
theorem StoreOnly.ite {c : Prop} [Decidable c] (ht : StoreOnly s t) (hu : StoreOnly s u) : StoreOnly s (if c then t else u) := by
  split <;> assumption

/-- Either branch of a pair. -/
theorem StoreOnly.ite_fst {α : Type} {c : Prop} [Decidable c] {p q : State × α} (hp : StoreOnly s p.1) (hq : StoreOnly s q.1) :
    StoreOnly s (if c then p else q).1 := by
  split <;> assumption

/-- The naturals below n taken in order. -/
theorem StoreOnly.forN {f : Nat → State → State} (hf : ∀ i t, StoreOnly t (f i t)) (n : Nat) (s : State) :
    StoreOnly s (forN n f s) :=
  forN_keeps (P := StoreOnly s) (fun i t h => h.trans (hf i t)) n (.refl s)

/-- A list taken in order, with a value beside. -/
theorem StoreOnly.foldl_fst {α β : Type} {f : State × α → β → State × α} (hf : ∀ p b, StoreOnly p.1 (f p b).1) (l : List β)
    (p : State × α) : StoreOnly p.1 (l.foldl f p).1 := by
  induction l generalizing p with
  | nil => exact .refl _
  | cons b l ih => exact (hf p b).trans (ih _)

/-- The ledger's hidden state is as it was. -/
theorem StoreOnly.ldg (h : StoreOnly s t) : t.ldg = s.ldg := by rw [h]

/-- The time is as it was. -/
theorem StoreOnly.ns (h : StoreOnly s t) : t.ns = s.ns := by rw [h]; rfl

end

/-! ### Memory and the scan engine -/

/-- The log of the memories. -/
theorem storeOnly_logEvent (s : State) (m : Mem) (a : Nat) (unc scrub : Bool) (syms : List Nat) :
    StoreOnly s (logEvent s m a unc scrub syms) := by
  cases m with
  | cupola | dram => exact .ite rfl rfl
  | mram => rfl

/-- A correction. -/
theorem storeOnly_corrected (s : State) (m : Mem) (line : Nat) (es : List (Nat × Nat)) (scrub : Bool) :
    StoreOnly s (corrected s m line es scrub) := by
  have hline : StoreOnly s (writeLine s (line * 64) ((correctWith (storedWord s line) es).take 64)) := rfl
  have hlog := hline.trans (storeOnly_logEvent _ m (line * 64) false scrub (es.map (·.1)))
  cases m with
  | cupola => exact (hlog.wr ..).wr ..
  | dram c =>
    unfold corrected
    refine .trans ((hlog.wr ..).wr ..) (.forN (fun d t => ?_) 9 _)
    exact .ite ((StoreOnly.refl t).wr ..) (.refl t)
  | mram => exact hlog

/-- A queue's status fields. -/
theorem storeOnly_queueStatus (s : State) (k : Nat) : StoreOnly s (queueStatus s k) := rfl

/-- A queue emptied. -/
theorem storeOnly_queueClear (s : State) (k : Nat) : StoreOnly s (queueClear s k) :=
  ((StoreOnly.refl s).setQueue k _).trans (storeOnly_queueStatus ..)

/-- CH_FAIL empties the spill queues. -/
theorem storeOnly_enterChFail (s : State) (c : Nat) : StoreOnly s (enterChFail s c) :=
  ((StoreOnly.refl s).wr MEMC_STATUS_CH_FAIL 1 c 0).trans (.forN (fun k t => storeOnly_queueClear t k) 32 _)

/-- An uncorrectable event. -/
theorem storeOnly_uncorrected (s : State) (m : Mem) (line : Nat) (scrub : Bool) : StoreOnly s (uncorrected s m line scrub) := by
  have hlog := storeOnly_logEvent s m (line * 64) true scrub []
  cases m with
  | cupola => exact (hlog.wr ..).wr ..
  | dram c =>
    have hcount (x : Sp MemSt) (n : Nat) : StoreOnly s { (((logEvent s (.dram c) (line * 64) true scrub []).wr MEMC_STATUS_UE 1 c).wr
        MEMC_UE_CNT_COUNT n c) with mems := x } := ((hlog.wr ..).wr ..).trans rfl
    exact .ite ((hcount ..).trans (storeOnly_enterChFail ..)) (hcount ..)
  | mram => exact hlog.wr ..

/-- A retried access. -/
theorem storeOnly_caRetry (s : State) (m : Mem) : StoreOnly s (caRetry s m).1 := by
  cases m <;> rfl

/-- A line read and decoded. -/
theorem storeOnly_decodeLine (s : State) (m : Mem) (line : Nat) (scrub : Bool) : StoreOnly s (decodeLine s m line scrub).1 := by
  have hretry := storeOnly_caRetry s m
  unfold decodeLine
  split
  · exact .refl s
  · generalize caRetry s m = p at hretry ⊢
    obtain ⟨t, ca⟩ := p
    dsimp only at hretry ⊢
    split
    · exact hretry.trans (storeOnly_uncorrected ..)
    · split
      · exact hretry.trans (storeOnly_uncorrected ..)
      · exact hretry
      · exact hretry.trans (storeOnly_corrected ..)

/-- A read of memory. -/
theorem storeOnly_memRead (s : State) (a n : Nat) : StoreOnly s (memRead s a n).1 := by
  unfold memRead
  split
  · exact .refl s
  · split
    · exact .refl s
    · exact storeOnly_decodeLine ..

/-- A line of a scan. -/
theorem storeOnly_scanLine (s : State) : StoreOnly s (scanLine s) := by
  have hread := storeOnly_memRead s s.scan.addr (min s.scan.left (64 - s.scan.addr % 64))
  unfold scanLine
  refine .ite (.refl s) ?_
  dsimp only
  generalize memRead s s.scan.addr (min s.scan.left (64 - s.scan.addr % 64)) = p at hread ⊢
  obtain ⟨t, ans⟩ := p
  cases ans with
  | ok => exact hread.set rfl
  | ecc | no | bus => exact ((hread.wr ..).wr ..).wr ..

/-- A scan that keeps up with the present edge. -/
theorem storeOnly_scanAdvance (s : State) : StoreOnly s (scanAdvance s) := .ite (.forN (fun _ => storeOnly_scanLine) _ _) (.refl s)

/-- A refusal recorded. -/
theorem storeOnly_recordErr (s : State) (f : Fld) (i code off : Nat) : StoreOnly s (s.recordErr f i code off) := .ite rfl rfl

/-- A line stored by a requester. -/
theorem storeOnly_storeLine (s : State) (q a : Nat) (bs : List Nat) : StoreOnly s (storeLine s q a bs).1 := by
  have hscan := storeOnly_scanAdvance s
  unfold storeLine
  split
  · exact .refl s
  · rename_i m hm
    dsimp only
    generalize scanAdvance s = t at hscan ⊢
    refine hscan.trans (.ite_fst ?_ (.ite_fst (.refl t) (.ite_fst (.refl t) (.ite_fst ?_ ?_))))
    · exact (storeOnly_recordErr ..).wr ..
    · have hretry := storeOnly_caRetry t m
      generalize caRetry t m = p at hretry ⊢
      exact .ite_fst (hretry.trans (storeOnly_uncorrected ..)) (hretry.set rfl)
    · have hline := storeOnly_decodeLine t m (lineOf a) false
      generalize decodeLine t m (lineOf a) false = p at hline ⊢
      exact .ite_fst hline (hline.set rfl)

/-- Bytes stored by a requester. -/
theorem storeOnly_storeBytes (s : State) (q a : Nat) (bs : List Nat) : StoreOnly s (storeBytes s q a bs).1 := by
  unfold storeBytes
  refine .foldl_fst (fun p w => ?_) _ (s, OK)
  exact storeOnly_storeLine p.1 q w.1 w.2

/-! ### The spill queues -/

/-- A granule written to the ring. -/
theorem storeOnly_spillGranule (s : State) (k n : Nat) : StoreOnly s (spillGranule s k n) := by
  unfold spillGranule
  exact (storeOnly_storeBytes ..).setQueue ..

/-- The moves of a queue's words. -/
theorem storeOnly_queueSettle (n k : Nat) (s : State) : StoreOnly s (queueSettle n s k) := by
  induction n generalizing s with
  | zero => exact .refl s
  | succ n ih =>
    unfold queueSettle
    dsimp only
    exact .ite (((StoreOnly.refl s).setQueue ..).trans (ih _)) (.ite ((storeOnly_spillGranule s k 7).trans (ih _)) (.refl s))

/-- A flush. -/
theorem storeOnly_queueFlush (s : State) (k : Nat) : StoreOnly s (queueFlush s k) := by
  unfold queueFlush
  have hspill := StoreOnly.forN (f := fun _ s =>
      let q := s.queue k
      if q.tail.isEmpty || ringSize s k ≤ q.ring.length then s else spillGranule s k (min 7 q.tail.length))
    (fun _ t => .ite (.refl t) (storeOnly_spillGranule ..)) (((s.queue k).tail.length + 6) / 7) s
  exact .ite (.refl s) (.ite (hspill.setQueue ..) hspill)

/-- A queue after any change. -/
theorem storeOnly_queueUpdate (s : State) (k : Nat) : StoreOnly s (queueUpdate s k) := by
  unfold queueUpdate
  exact (((storeOnly_queueSettle 64 k s).trans (storeOnly_queueFlush _ k)).setQueue ..).trans (storeOnly_queueStatus ..)

/-- An abort of the open packet. -/
theorem storeOnly_queueAbort (s : State) (k : Nat) : StoreOnly s (queueAbort s k) := by
  unfold queueAbort
  exact (((StoreOnly.refl s).setQueue ..).wr ..).trans (storeOnly_queueUpdate _ k)

/-- A word committed to a queue. -/
theorem storeOnly_queuePut (s : State) (k val valid : Nat) (fin : Bool) : StoreOnly s (queuePut s k val valid fin) := by
  unfold queuePut
  exact .ite (.refl s) (((StoreOnly.refl s).setQueue ..).trans (storeOnly_queueUpdate _ k))

/-- The words of a packet pushed one after another. -/
theorem storeOnly_queuePacket_go (k : Nat) (ws : List (Nat × Nat)) (s : State) : StoreOnly s (queuePacket.go k s ws).1 := by
  induction ws generalizing s with
  | nil => exact .refl s
  | cons w ws ih =>
    unfold queuePacket.go
    exact .ite_fst (((storeOnly_queueAbort s k).wr ..).wr ..) ((storeOnly_queuePut ..).trans (ih _))

/-- A packet pushed by a hardware source. -/
theorem storeOnly_queuePacket (s : State) (k src : Nat) (ws : List (Nat × Nat)) : StoreOnly s (queuePacket s k src ws).1 :=
  .ite_fst (.refl s) (.ite_fst (storeOnly_recordErr ..) (storeOnly_queuePacket_go ..))

end Sys2Proof.Machine

/-!
Pages signed and offered, and acknowledgements (R206, R208, R209).
-/
namespace Sys2Proof.Machine

/-! ### Lists of pages -/

/-- The first page that the test selects is the one changed. -/
theorem updPage_first {sel : Page → Bool} {pre : List Page} {p : Page} (hpre : ∀ q ∈ pre, sel q = false) (hp : sel p = true)
    (f : Page → Page) (post : List Page) : updPage sel f (pre ++ p :: post) = pre ++ f p :: post := by
  induction pre with
  | nil => simp [updPage, hp]
  | cons q pre ih =>
    have hq := hpre q List.mem_cons_self
    simp [updPage, hq, ih fun r hr => hpre r (List.mem_cons_of_mem _ hr)]

/-- The page offered longest ago is one of the list, with its time. -/
theorem mem_of_oldestOffer {l : List Page} {p : Page} {e : Nat} (h : oldestOffer l = some (p, e)) :
    p ∈ l ∧ p.lastOffer = some e := by
  induction l with
  | nil => cases h
  | cons q l ih =>
    unfold oldestOffer at h
    split at h
    · exact (ih h).imp (List.mem_cons_of_mem _) id
    · cases h
      exact ⟨List.mem_cons_self, ‹_›⟩
    · rename_i hrest
      split at h <;> cases h
      · exact ⟨List.mem_cons_self, ‹_›⟩
      · exact (ih hrest).imp (List.mem_cons_of_mem _) id

/-- A page offered before all those ahead of it and no later than those behind it is the one offered longest ago. -/
theorem oldestOffer_of_split {pre post : List Page} {p : Page} {e : Nat} (hp : p.lastOffer = some e)
    (hpre : ∀ q ∈ pre, ∀ o ∈ q.lastOffer, e < o) (hpost : ∀ q ∈ post, ∀ o ∈ q.lastOffer, e ≤ o) :
    oldestOffer (pre ++ p :: post) = some (p, e) := by
  induction pre with
  | nil =>
    rw [List.nil_append, oldestOffer, hp]
    cases hrest : oldestOffer post with
    | none => rfl
    | some r =>
      obtain ⟨q, o⟩ := r
      obtain ⟨hq, ho⟩ := mem_of_oldestOffer hrest
      exact if_pos (hpost q hq o ho)
  | cons q pre ih =>
    have hrest := ih fun r hr => hpre r (List.mem_cons_of_mem _ hr)
    rw [List.cons_append, oldestOffer, hrest]
    cases ho : q.lastOffer with
    | none => rfl
    | some o => exact if_neg (Nat.not_le_of_lt (hpre q List.mem_cons_self o ho))

/-! ### Signing (R206) -/

section
variable {s : State} {pre post : List Page} {p : Page}

/-- The oldest issued page without signatures is signed. -/
theorem pageSign_signs (hpages : s.ldg.pages = pre ++ p :: post) (hpre : ∀ q ∈ pre, (q.issued && !q.signed) = false)
    (hissued : p.issued = true) (hsigned : p.signed = false) :
    pageSign s = offerPages { s with ldg := { s.ldg with
      pages := pre ++ { p with signed := true, signature := signBlock LEDGER_SLOT p.body } :: post } } := by
  have hp : (p.issued && !p.signed) = true := by rw [hissued, hsigned]; rfl
  have hfind : s.ldg.pages.find? (fun p => p.issued && !p.signed) = some p := by
    rw [hpages, List.find?_eq_some_iff_append]
    exact ⟨hp, pre, post, rfl, fun q hq => by rw [hpre q hq]; rfl⟩
  unfold pageSign
  rw [hfind]
  dsimp only [State.updLdg]
  rw [hpages, updPage_first hpre hp]

/-- With no such page nothing is signed. -/
theorem pageSign_none (h : ∀ q ∈ s.ldg.pages, (q.issued && !q.signed) = false) : pageSign s = s := by
  have hfind : s.ldg.pages.find? (fun p => p.issued && !p.signed) = none := List.find?_eq_none.mpr fun q hq => by simp [h q hq]
  unfold pageSign
  rw [hfind]

/-! ### Offering again (R208) -/

/-- What an offer leaves: the page's time of offer, and its packet on the ledger's queue. -/
theorem offerPage_leaves (hpages : s.ldg.pages = pre ++ p :: post) (hpre : ∀ q ∈ pre, q.ctx ≠ p.ctx ∨ q.seq ≠ p.seq) :
    (offerPage s p).ldg.pages = pre ++ { p with lastOffer := some s.ns } :: post ∧
      (offerPage s p).queues =
        (queuePacket s (s.rd SYS_LDG_CTRL_QUEUE) LEDGER_SOURCE (packetWords (p.body ++ p.table ++ p.signature))).1.queues := by
  have hpacket := storeOnly_queuePacket s (s.rd SYS_LDG_CTRL_QUEUE) LEDGER_SOURCE (packetWords (p.body ++ p.table ++ p.signature))
  unfold offerPage
  generalize queuePacket s (s.rd SYS_LDG_CTRL_QUEUE) LEDGER_SOURCE (packetWords (p.body ++ p.table ++ p.signature)) = r at hpacket ⊢
  refine ⟨?_, rfl⟩
  dsimp only [State.updLdg]
  rw [hpacket.ldg, hpacket.ns, hpages]
  refine updPage_first (fun q hq => ?_) (by simp) _ _
  obtain h | h := hpre q hq <;> simp [h]

/-- The page offered longest ago is offered again once RESEND_S has passed. -/
theorem pageResend_offers {e : Nat} (htoken : holdsToken s = true) (hen : s.on SYS_LDG_CTRL_EN = true)
    (hpages : s.ldg.pages = pre ++ p :: post) (hp : (p.issued && p.signed) = true) (hoffer : p.lastOffer = some e)
    (hdue : s.reached (e + s.rd SYS_LDG_CFG_RESEND_S * SEC) = true) (hpre : ∀ q ∈ pre, ∀ o ∈ q.lastOffer, e < o)
    (hpost : ∀ q ∈ post, ∀ o ∈ q.lastOffer, e ≤ o) : pageResend s = offerPage s p := by
  have hold : oldestOffer (s.ldg.pages.filter (fun p => p.issued && p.signed)) = some (p, e) := by
    rw [hpages, List.filter_append, List.filter_cons, if_pos hp]
    exact oldestOffer_of_split hoffer (fun q hq => hpre q (List.mem_of_mem_filter hq)) fun q hq => hpost q (List.mem_of_mem_filter hq)
  unfold pageResend
  rw [htoken, hen, hold]
  simp [hdue]

/-- A standby, or a ledger that is disabled, offers nothing. -/
theorem pageResend_idle (h : holdsToken s = false ∨ s.on SYS_LDG_CTRL_EN = false) : pageResend s = s :=
  if_pos (by obtain h | h := h <;> simp [h])

end

/-! ### Acknowledgement (R209) -/

/-- A write of LDG_ACK stores nothing of its word. -/
theorem pieces_ldgAck : ((Blk.sys.pieces 0x314).filter fun p => !p.silent 0xFFFFFFFF) = [] := by decide +kernel

section
variable {s : State} {req : Req} {data : BitVec 32}

/-- A write of LDG_ACK that is carried out acknowledges for the context in its low byte. -/
theorem exec_ldgAck (h : Accepts s req .sys 0 0x314 data.toNat 0xFFFFFFFF) :
    exec (.ldgAck req data) s = .next (ldgAck (s.answer OK 0) (data.toNat % 256)) := by
  refine congrArg Host.Outcome.next ((wordCmd_accepted h rfl).trans ?_)
  rw [storeWord_none pieces_ldgAck (by decide) (by decide), asked_data (by decide +kernel)]
  rfl

/-- At a standby the answer is E_TOKEN at once, and nothing is submitted. -/
theorem ldgAck_standby (h : Accepts s req .sys 0 0x314 data.toNat 0xFFFFFFFF) (htoken : holdsToken s = false) :
    ∃ t, exec (.ldgAck req data) s = .next t ∧
      AnsweredOk t ∧ t.rd SYS_LDG_ACK_RSP_STAT = E_TOKEN ∧ t.on SYS_LDG_ACK_RSP_VALID = true ∧
      RegsBut [SYS_LDG_ACK_RSP_STAT.key 0 0, SYS_LDG_ACK_RSP_VALID.key 0 0] s t ∧ t = { s with regs := t.regs, reply := t.reply } := by
  have hstandby : ldgAck (s.answer OK 0) (data.toNat % 256) =
      ((s.answer OK 0).wr SYS_LDG_ACK_RSP_STAT E_TOKEN).raise SYS_LDG_ACK_RSP_VALID := if_pos (by rw [Bool.not_eq_true']; exact htoken)
  refine ⟨_, (exec_ldgAck h).trans (congrArg _ hstandby), rfl, ?_, ?_, ?_, rfl⟩
  · rw [State.raise, State.rd_wr_ne _ _ _ _ _ _ _ _ (by decide), State.rd_wr_same]
    rfl
  · rw [State.raise, State.on, State.rd_wr_same]
    rfl
  · have hanswer : RegsBut [SYS_LDG_ACK_RSP_STAT.key 0 0, SYS_LDG_ACK_RSP_VALID.key 0 0] s (s.answer OK 0) := .refl _ s
    exact (hanswer.wr (by simp) _).wr (by simp) _

/-- At the holder, or standalone, it is submitted with the result formed at submission. -/
theorem ldgAck_holder (h : Accepts s req .sys 0 0x314 data.toNat 0xFFFFFFFF) (htoken : holdsToken s = true) :
    let ctx := data.toNat % 256
    let seq := s.rd SYS_LDG_ACK_SEQ_SEQ
    let r := ackResult s ctx seq
    exec (.ldgAck req data) s = .next (submit { s.answer OK 0 with ldg := { s.ldg with ackPending := true } }
      ⟨RG_LEDGER, pageKey ctx seq, leBytes 8 ctx ++ leBytes 8 seq ++ leBytes 48 r, .ack ctx seq r⟩) := by
  refine (exec_ldgAck h).trans (congrArg _ (if_neg ?_))
  rw [Bool.not_eq_true', Bool.not_eq_false]
  exact htoken

/-- Reading LDG_ACK_RSP answers with its word. -/
theorem exec_ldgAckRspRead (h : Reads s req .sys 0 0x320) :
    exec (.ldgAckRspRead req) s = .next ((ldgAckRspRead s).1.answer OK ((ldgAckRspRead s).2 % 2 ^ 32)) :=
  congrArg Host.Outcome.next (readCmd_eq h (by decide) (by decide +kernel) (by decide) (by decide))

/-- A result that is read clears VALID and ends the pending state. -/
theorem ldgAckRspRead_valid (h : Reads s req .sys 0 0x320) (hvalid : s.on SYS_LDG_ACK_RSP_VALID = true) :
    ∃ t, exec (.ldgAckRspRead req) s = .next t ∧
      t.reply = ⟨OK, s.readWord .sys 0 0x320 % 2 ^ 32, false⟩ ∧ t.on SYS_LDG_ACK_RSP_VALID = false ∧
      RegsBut [SYS_LDG_ACK_RSP_VALID.key 0 0] s t ∧
      t = { s with regs := t.regs, ldg := { s.ldg with ackPending := false }, reply := t.reply } := by
  have hread : ldgAckRspRead s = ((s.clear SYS_LDG_ACK_RSP_VALID).updLdg (fun g => { g with ackPending := false }),
      s.readWord .sys 0 0x320) := if_pos hvalid
  rw [exec_ldgAckRspRead h, hread]
  refine ⟨_, rfl, rfl, ?_, ?_, rfl⟩
  · show (s.clear SYS_LDG_ACK_RSP_VALID).on SYS_LDG_ACK_RSP_VALID = false
    rw [State.clear, State.on, State.rd_wr_same]
    rfl
  · exact (RegsBut.refl [SYS_LDG_ACK_RSP_VALID.key 0 0] s).wr (by simp) 0

/-- Without a result the read changes nothing. -/
theorem ldgAckRspRead_idle (h : Reads s req .sys 0 0x320) (hvalid : s.on SYS_LDG_ACK_RSP_VALID = false) :
    exec (.ldgAckRspRead req) s = .next (s.answer OK (s.readWord .sys 0 0x320 % 2 ^ 32)) := by
  have hread : ldgAckRspRead s = (s, s.readWord .sys 0 0x320) := if_neg (by rw [hvalid]; decide)
  rw [exec_ldgAckRspRead h, hread]

end

end Sys2Proof.Machine

/-!
Writes that wait for the tick: the control words of a context and of the ledger (R198, R200, R212, R215).
-/
namespace Sys2Proof.Machine

/-! ### Values that wait -/

/-- A value staged after the answer: it waits in its field, and nothing else has changed. -/
theorem stagedWrite_stage (s : State) (f : Fld) (v i j : Nat) :
    StagedWrite s ((s.answer OK 0).stage f v i j) f i j (v % 2 ^ f.width) := by
  refine ⟨rfl, ?_, fun k hk => ?_, rfl⟩
  · simp [State.written, State.stage, findKey_set]
  · show findKey (Sp.set s.staged _ _) k = _
    rw [findKey_set, if_neg hk]

/-- A part of an RW field that is loaded at the tick waits for it; a value that is the one last written is not staged again. -/
theorem storePiece_tick {s : State} {i data m : Nat} {p : Piece} (hc : p.carried m ≠ 0) (hn : p.fld ∉ unstored)
    (ha : p.fld.acc = .rw) (hl : p.fld.cls = .tick) :
    storePiece i data m s p =
      if s.after i p data m = s.written p.fld i p.idx then s else s.stage p.fld (s.after i p data m) i p.idx := by
  simp only [List.mem_cons, List.not_mem_nil, or_false, not_or] at hn
  obtain ⟨h1, h2, h3⟩ := hn
  unfold storePiece
  simp [hc, h1, h2, h3, ha, hl]

/-- A write of such a part: the value waits, and nothing else has changed. -/
theorem stagedWrite_tick {s : State} {i data m : Nat} {p : Piece} (hc : p.carried m ≠ 0) (hn : p.fld ∉ unstored)
    (ha : p.fld.acc = .rw) (hl : p.fld.cls = .tick) :
    StagedWrite s ((storePiece i data m s p).answer OK 0) p.fld i p.idx (s.after i p data m % 2 ^ p.fld.width) := by
  rw [storePiece_tick hc hn ha hl]
  split
  case isTrue h => exact ⟨rfl, congrArg (· % 2 ^ p.fld.width) h.symm, fun _ _ => rfl, rfl⟩
  case isFalse => exact stagedWrite_stage s p.fld _ i p.idx

/-! ### The control word of a context (R198, R200, R215) -/

/-- A bit written by itself in a control word of a context, at its place there. -/
theorem pieces_leaseEn : ((Blk.lease.pieces 0x000).filter fun p => !p.silent 1) = [⟨LEASE_CTRL_EN, 0, 0, 0, 1⟩] := by decide +kernel
theorem pieces_leaseSuspend : ((Blk.lease.pieces 0x000).filter fun p => !p.silent 2) = [⟨LEASE_CTRL_SUSPEND, 0, 1, 0, 1⟩] := by
  decide +kernel

/-- The one-shot bits are not stored. -/
theorem pieces_closeNow : ((Blk.lease.pieces 0x000).filter fun p => !p.silent 8) = [] := by decide +kernel
theorem pieces_curveLoad : ((Blk.lease.pieces 0x000).filter fun p => !p.silent 16) = [] := by decide +kernel

section
variable {s : State} {req : Req} {n : Fin 256} {set : Bool}

/-- The RW bits of a context's control word lie below its one-shot bits. -/
theorem bit_rwWord_lease {k : Nat} (hk : 3 ≤ k) (s : State) (n : Nat) : bit (s.rwWord .lease n 0x000) k = false := by
  have hword : s.rwWord .lease n 0x000 = bits (s.written LEASE_CTRL_EN n 0) 0 1 + (bits (s.written LEASE_CTRL_SUSPEND n 0) 0 1 * 2 +
      bits (s.written LEASE_CTRL_EXH_ACTION n 0) 0 1 * 4) := by
    have hp : Blk.lease.pieces 0x000 = [⟨LEASE_CTRL_EN, 0, 0, 0, 1⟩, ⟨LEASE_CTRL_SUSPEND, 0, 1, 0, 1⟩, ⟨LEASE_CTRL_EXH_ACTION, 0, 2, 0, 1⟩,
      ⟨LEASE_CTRL_CLOSE_NOW, 0, 3, 0, 1⟩, ⟨LEASE_CTRL_CURVE_LOAD, 0, 4, 0, 1⟩] := by decide +kernel
    unfold State.rwWord
    rw [hp]
    simp [sumOf, LEASE_CTRL_EN, LEASE_CTRL_SUSPEND, LEASE_CTRL_EXH_ACTION, LEASE_CTRL_CLOSE_NOW, LEASE_CTRL_CURVE_LOAD]
  have hb : ∀ v, bits v 0 1 < 2 := fun v => Nat.mod_lt _ (by decide)
  have hlt : s.rwWord .lease n 0x000 < 2 ^ 3 := by
    have h1 := hb (s.written LEASE_CTRL_EN n 0)
    have h2 := hb (s.written LEASE_CTRL_SUSPEND n 0)
    have h3 := hb (s.written LEASE_CTRL_EXH_ACTION n 0)
    omega
  exact Nat.testBit_lt_two_pow (Nat.lt_of_lt_of_le hlt (Nat.pow_le_pow_right (by decide) hk))

/-- A one-shot bit is asked for where the write carries it and gives it as 1. -/
theorem bit_asked_lease {k : Nat} (hk : 3 ≤ k) (s : State) (n data m : Nat) :
    bit (s.asked .lease n 0x000 data m) k = (bit m k && bit data k) := by
  rw [bit_asked, bit_rwWord_lease hk]
  cases bit m k <;> rfl

/-- A write of the control word without its one-shot bits stores the bit it carries. -/
theorem leaseCtrl_stores {data m : Nat} {p : Piece} (h : Accepts s req .lease n 0x000 data m)
    (hp : ((Blk.lease.pieces 0x000).filter fun p => !p.silent m) = [p]) (hm : bit m 3 = false ∧ bit m 4 = false) :
    wordCmd s req .lease n 0x000 data m = (storePiece n data m s p).answer OK 0 := by
  rw [wordCmd_accepted h rfl, storeWord_one hp (by decide) (by decide)]
  simp only [blockEffect, leaseEffect, bit_asked_lease (le_refl 3), bit_asked_lease (Nat.le_succ 3), hm.1, hm.2, Bool.false_and,
    Bool.false_eq_true, if_false]

/-- The value a bit of the control word takes: the bit written, modulo its width. -/
theorem after_ctrlBit {f : Fld} {k : Nat} (ha : f.acc = .rw) (s : State) (i : Nat) (set : Bool) :
    s.after i ⟨f, 0, k, 0, 1⟩ (b2n set * 2 ^ k) (1 * 2 ^ k) % 2 = b2n set := by
  have hcut : ∀ v, bits (v * 2 ^ k) k 1 = v % 2 := fun v => by rw [bits, Nat.mul_div_cancel _ (Nat.two_pow_pos k)]; rfl
  have heven := clearBits_one_mod_two (s.written f i 0)
  unfold State.after Piece.carried
  rw [ha]
  dsimp only
  rw [hcut, hcut]
  cases set <;> simp [b2n] <;> omega

/-- A bit of the control word, EN or SUSPEND, waits for the tick. -/
theorem ctrlBit_waits {f : Fld} {k : Nat} (hf : f.blk = .lease ∧ f.off = 0 ∧ f.sub = 0 ∧ f.lsb = k ∧ f.width = 1 ∧ f.acc = .rw ∧ f.cls = .tick)
    (hk : k < 3) (hn : f ∉ unstored) (h : Accepts s req .lease n 0x000 (b2n set * 2 ^ k) (1 * 2 ^ k))
    (hp : ((Blk.lease.pieces 0x000).filter fun p => !p.silent (1 * 2 ^ k)) = [⟨f, 0, k, 0, 1⟩]) :
    StagedWrite s (fieldCmd s req f n 0 (b2n set)) f n 0 (b2n set) := by
  obtain ⟨hblk, hoff, hsub, hlsb, hwidth, hacc, hcls⟩ := hf
  have hlow : ∀ k < 3, bit (1 * 2 ^ k) 3 = false ∧ bit (1 * 2 ^ k) 4 = false := by decide
  have hcarried : Piece.carried ⟨f, 0, k, 0, 1⟩ (1 * 2 ^ k) ≠ 0 := by
    rw [Piece.carried, bits, Nat.mul_div_cancel _ (Nat.two_pow_pos k)]
    exact Nat.one_ne_zero
  have hstaged := stagedWrite_tick (s := s) (i := n) (data := b2n set * 2 ^ k) hcarried hn hacc hcls
  rw [← leaseCtrl_stores h hp (hlow k hk), hwidth, Nat.pow_one, after_ctrlBit hacc] at hstaged
  unfold fieldCmd
  rw [hblk, hoff, hsub, hlsb, hwidth]
  exact hstaged

/-- EN waits for the tick (R200). -/
theorem leaseEnWrite_waits (h : Accepts s req .lease n 0x000 (b2n set) 1) :
    ∃ t, exec (.leaseEnWrite req n set) s = .next t ∧ StagedWrite s t LEASE_CTRL_EN n 0 (b2n set) :=
  ⟨_, rfl, ctrlBit_waits (k := 0) (by decide) (by decide) (by decide) (by rwa [Nat.pow_zero, Nat.mul_one]) pieces_leaseEn⟩

/-- SUSPEND waits for the tick (R198). -/
theorem leaseSuspend_waits (h : Accepts s req .lease n 0x000 (b2n set * 2) 2) :
    ∃ t, exec (.leaseSuspend req n set) s = .next t ∧ StagedWrite s t LEASE_CTRL_SUSPEND n 0 (b2n set) :=
  ⟨_, rfl, ctrlBit_waits (k := 1) (by decide) (by decide) (by decide) h pieces_leaseSuspend⟩

/-- CLOSE_NOW waits for the tick (R200). -/
theorem closeNow_waits (h : Accepts s req .lease n 0x000 8 8) :
    ∃ t, exec (.closeNow req n) s = .next t ∧ StagedWrite s t LEASE_CTRL_CLOSE_NOW n 0 1 := by
  have hcmd : bitCmd s req .lease n 0x000 8 = (s.answer OK 0).stage LEASE_CTRL_CLOSE_NOW 1 n 0 := by
    rw [bitCmd, wordCmd_accepted h rfl, storeWord_none pieces_closeNow (by decide) (by decide)]
    simp only [blockEffect, leaseEffect, bit_asked_lease (le_refl 3), bit_asked_lease (Nat.le_succ 3)]
    rfl
  exact ⟨_, congrArg Host.Outcome.next hcmd, stagedWrite_stage s LEASE_CTRL_CLOSE_NOW 1 n 0⟩

/-- CURVE_LOAD waits for the tick (R215). -/
theorem curveLoad_waits (h : Accepts s req .lease n 0x000 16 16) :
    ∃ t, exec (.curveLoad req n) s = .next t ∧ StagedWrite s t LEASE_CTRL_CURVE_LOAD n 0 1 := by
  have hcmd : bitCmd s req .lease n 0x000 16 = (s.answer OK 0).stage LEASE_CTRL_CURVE_LOAD 1 n 0 := by
    rw [bitCmd, wordCmd_accepted h rfl, storeWord_none pieces_curveLoad (by decide) (by decide)]
    simp only [blockEffect, leaseEffect, bit_asked_lease (le_refl 3), bit_asked_lease (Nat.le_succ 3)]
    rfl
  exact ⟨_, congrArg Host.Outcome.next hcmd, stagedWrite_stage s LEASE_CTRL_CURVE_LOAD 1 n 0⟩

end

/-! ### The control word of the ledger (R212, R214) -/

/-- The one-shot bits of LDG_CTRL are not stored. -/
theorem pieces_ckptNow : ((Blk.sys.pieces 0x300).filter fun p => !p.silent 4) = [] := by decide +kernel
theorem pieces_restore : ((Blk.sys.pieces 0x300).filter fun p => !p.silent 2) = [] := by decide +kernel

section
variable {s : State} {req : Req}

/-- No RW bit of LDG_CTRL lies at a one-shot bit. -/
theorem bit_rwWord_ldgCtrl {k : Nat} (hk : k = 1 ∨ k = 2) (s : State) : bit (s.rwWord .sys 0 0x300) k = false := by
  have hword : s.rwWord .sys 0 0x300 = bits (s.written SYS_LDG_CTRL_EN 0 0) 0 1 + bits (s.written SYS_LDG_CTRL_QUEUE 0 0) 0 5 * 256 := by
    have hp : Blk.sys.pieces 0x300 = [⟨SYS_LDG_CTRL_EN, 0, 0, 0, 1⟩, ⟨SYS_LDG_CTRL_RESTORE, 0, 1, 0, 1⟩,
      ⟨SYS_LDG_CTRL_CKPT_NOW, 0, 2, 0, 1⟩, ⟨SYS_LDG_CTRL_QUEUE, 0, 8, 0, 5⟩] := by decide +kernel
    unfold State.rwWord
    rw [hp]
    simp [sumOf, SYS_LDG_CTRL_EN, SYS_LDG_CTRL_RESTORE, SYS_LDG_CTRL_CKPT_NOW, SYS_LDG_CTRL_QUEUE]
  have hen : bits (s.written SYS_LDG_CTRL_EN 0 0) 0 1 < 2 := Nat.mod_lt _ (by decide)
  rw [bit, hword, Nat.testBit_eq_decide_div_mod_eq]
  obtain rfl | rfl := hk <;> refine decide_eq_false ?_ <;> omega

/-- A one-shot bit of LDG_CTRL is asked for where the write carries it. -/
theorem bit_asked_ldgCtrl {k : Nat} (hk : k = 1 ∨ k = 2) (s : State) (m : Nat) : bit (s.asked .sys 0 0x300 m m) k = bit m k := by
  rw [bit_asked, bit_rwWord_ldgCtrl hk]
  cases bit m k <;> rfl

/-- CKPT_NOW asks for a checkpoint (R212). -/
theorem exec_ckptNow (h : Accepts s req .sys 0 0x300 4 4) : exec (.ckptNow req) s = .next (ckptRequest (s.answer OK 0)) := by
  refine congrArg Host.Outcome.next ?_
  rw [bitCmd, wordCmd_accepted h rfl, storeWord_none pieces_ckptNow (by decide) (by decide)]
  simp only [blockEffect, sysEffect, bit_asked_ldgCtrl (.inl rfl), bit_asked_ldgCtrl (.inr rfl)]
  rfl

/-- RESTORE starts a restore (R214). -/
theorem exec_ldgRestore (h : Accepts s req .sys 0 0x300 2 2) : exec (.ldgRestore req) s = .next (restoreStart (s.answer OK 0)) := by
  refine congrArg Host.Outcome.next ?_
  rw [bitCmd, wordCmd_accepted h rfl, storeWord_none pieces_restore (by decide) (by decide)]
  simp only [blockEffect, sysEffect, bit_asked_ldgCtrl (.inl rfl), bit_asked_ldgCtrl (.inr rfl)]
  rfl

end
end Sys2Proof.Machine

/-!
Periods closed at a tick (R200 to R203).
-/
namespace Sys2Proof.Machine

/-! ### Fields of one context -/

/-- A field of a context after another of its fields was written. -/
theorem rd_wr_lease_ne {f g : Fld} (h : g.Apart f) (s : State) (v n : Nat) : (s.wr f v n).rd g n = s.rd g n := rd_wr_ring_ne h s v n

/-- From s to t only registers and contexts can differ. -/
def ContextOnly (s t : State) : Prop := t = { s with regs := t.regs, leases := t.leases }

/-- Nothing changed. -/
theorem ContextOnly.refl (s : State) : ContextOnly s s := rfl

/-- One change after another. -/
theorem ContextOnly.trans {s t u : State} (h : ContextOnly s t) (hu : ContextOnly t u) : ContextOnly s u := by
  unfold ContextOnly at h hu ⊢
  rw [h] at hu
  exact hu

/-- A field written. -/
theorem ContextOnly.wr {s t : State} (h : ContextOnly s t) (f : Fld) (v i j : Nat) : ContextOnly s (t.wr f v i j) := h.trans rfl

/-- A context changed. -/
theorem ContextOnly.updLease {s t : State} (h : ContextOnly s t) (n : Nat) (f : LeaseSt → LeaseSt) : ContextOnly s (t.updLease n f) :=
  h.trans rfl

/-- The entries are as they were. -/
theorem ContextOnly.entry {s t : State} (h : ContextOnly s t) (c : Nat) : t.entry c = s.entry c := by
  rw [h]
  rfl

/-- A field written leaves the contexts' hidden state. -/
theorem lease_wr (s : State) (f : Fld) (v i j n : Nat) : (s.wr f v i j).lease n = s.lease n := rfl

/-- The counts that a period begins with at 0 (R201). -/
abbrev periodCounts : List Fld :=
  [LEASE_DIS_J, LEASE_CHG_J, LEASE_EST_J, LEASE_CORRUPT_CYC, LEASE_T_EXC_CYC, LEASE_C_EXC_CYC, LEASE_EXH_CYC, LEASE_CYCLES]

/-- Fields of a context cleared one after another. -/
def clearFields (fs : List Fld) (s : State) (n : Nat) : State := fs.foldl (fun s f => s.wr f 0 n) s

/-- Clearing fields leaves the contexts' hidden state and everything beside them. -/
theorem clearFields_leaves (fs : List Fld) (s : State) (n : Nat) :
    ContextOnly s (clearFields fs s n) ∧ (clearFields fs s n).leases = s.leases := by
  induction fs generalizing s with
  | nil => exact ⟨.refl s, rfl⟩
  | cons f fs ih =>
    obtain ⟨honly, hleases⟩ := ih (s.wr f 0 n)
    exact ⟨((ContextOnly.refl s).wr f 0 n 0).trans honly, hleases⟩

/-- A field apart from those cleared is as it was. -/
theorem rd_clearFields_ne {fs : List Fld} {g : Fld} (h : ∀ f ∈ fs, g.Apart f) (s : State) (n : Nat) :
    (clearFields fs s n).rd g n = s.rd g n := by
  induction fs generalizing s with
  | nil => rfl
  | cons f fs ih =>
    exact (ih (fun f hf => h f (List.mem_cons_of_mem _ hf)) (s.wr f 0 n)).trans (rd_wr_lease_ne (h f List.mem_cons_self) s 0 n)

/-- Where they lie apart from each other, each reads 0. -/
theorem rd_clearFields {fs : List Fld} (ha : fs.Pairwise fun f g => f.Apart g) {f : Fld} (hf : f ∈ fs) (s : State) (n : Nat) :
    (clearFields fs s n).rd f n = 0 := by
  induction fs generalizing s with
  | nil => exact absurd hf List.not_mem_nil
  | cons g fs ih =>
    obtain ⟨hg, ha⟩ := List.pairwise_cons.mp ha
    obtain rfl | hf := List.mem_cons.mp hf
    · exact (rd_clearFields_ne hg (s.wr f 0 n) n).trans ((State.rd_wr_same ..).trans (Nat.zero_mod _))
    · exact ih ha hf _

section
variable (s : State) (n t : Nat)

/-! ### A period opened (R200, R201) -/

/-- Clearing a period. -/
theorem clearPeriod_eq : clearPeriod s n =
    (((clearFields periodCounts s n).wr LEASE_WEIGHT_LW_MIN 0xFFFF n).wr LEASE_CRATE_TEMP_PEAK 0x8000 n).updLease n
      (fun l => { l with budChanged := false }) := rfl

/-- It changes registers and the context only. -/
theorem contextOnly_clearPeriod : ContextOnly s (clearPeriod s n) := by
  rw [clearPeriod_eq]
  exact (((clearFields_leaves periodCounts s n).1.wr ..).wr ..).updLease n _

/-- The context forgets that a budget was written. -/
theorem lease_clearPeriod : (clearPeriod s n).lease n = { s.lease n with budChanged := false } := by
  rw [clearPeriod_eq, State.lease_updLease, if_pos rfl, State.lease, State.wr_leases, State.wr_leases, (clearFields_leaves ..).2]
  rfl

/-- Fields beside the period's are as they were. -/
theorem rd_clearPeriod_ne {g : Fld} (h : ∀ f ∈ LEASE_WEIGHT_LW_MIN :: LEASE_CRATE_TEMP_PEAK :: periodCounts, g.Apart f) :
    (clearPeriod s n).rd g n = s.rd g n := by
  have hrest : (clearPeriod s n).rd g n =
      (((clearFields periodCounts s n).wr LEASE_WEIGHT_LW_MIN 0xFFFF n).wr LEASE_CRATE_TEMP_PEAK 0x8000 n).rd g n := rfl
  rw [hrest, rd_wr_lease_ne (h _ (by simp)), rd_wr_lease_ne (h _ (by simp)),
    rd_clearFields_ne fun f hf => h f (List.mem_cons_of_mem _ (List.mem_cons_of_mem _ hf))]

/-- The counts read 0. -/
theorem rd_clearPeriod_count {f : Fld} (hf : f ∈ periodCounts) : (clearPeriod s n).rd f n = 0 := by
  have hapart : ∀ f ∈ periodCounts, f.Apart LEASE_CRATE_TEMP_PEAK ∧ f.Apart LEASE_WEIGHT_LW_MIN := by decide
  obtain ⟨hpeak, hmin⟩ := hapart f hf
  have hrest : (clearPeriod s n).rd f n =
      (((clearFields periodCounts s n).wr LEASE_WEIGHT_LW_MIN 0xFFFF n).wr LEASE_CRATE_TEMP_PEAK 0x8000 n).rd f n := rfl
  rw [hrest, rd_wr_lease_ne hpeak, rd_wr_lease_ne hmin, rd_clearFields (by decide) hf]

/-- LW_MIN is at its bound. -/
theorem rd_clearPeriod_min : (clearPeriod s n).rd LEASE_WEIGHT_LW_MIN n = 0xFFFF := by
  have hrest : (clearPeriod s n).rd LEASE_WEIGHT_LW_MIN n =
      (((clearFields periodCounts s n).wr LEASE_WEIGHT_LW_MIN 0xFFFF n).wr LEASE_CRATE_TEMP_PEAK 0x8000 n).rd LEASE_WEIGHT_LW_MIN n := rfl
  rw [hrest, rd_wr_lease_ne (by decide), State.rd_wr_same]
  rfl

/-- The next boundary depends on the period and the phase alone. -/
theorem firstB_congr {s u : State} {n : Nat} (hperiod : u.rd LEASE_PERIOD_S n = s.rd LEASE_PERIOD_S n)
    (hphase : u.rd LEASE_PHASE_S n = s.rd LEASE_PHASE_S n) (t : Nat) : firstB u n t = firstB s n t := by
  unfold firstB
  rw [hperiod, hphase]

/-- The registers of an opening beside those of the cleared period. -/
theorem openPeriod_eq : openPeriod s n t =
    (((((clearPeriod s n).wr LEASE_STATUS_OPEN 1 n).wr LEASE_CTRL_CLOSE_NOW 0 n).wr LEASE_START_NS t n).wr LEASE_NOM_END_NS
      (firstB s n t) n) := by
  have hfirst : firstB (((clearPeriod s n).wr LEASE_STATUS_OPEN 1 n).wr LEASE_CTRL_CLOSE_NOW 0 n) n t = firstB s n t := by
    refine firstB_congr ?_ ?_ t
    all_goals rw [rd_wr_lease_ne (by decide), rd_wr_lease_ne (by decide), rd_clearPeriod_ne _ _ (by decide)]
  unfold openPeriod State.raise State.clear
  dsimp only
  rw [hfirst]

/-- The state after a close (R201): the next period opened, or none where EN = 0 caused the close. -/
def afterClose (final : Bool) : State := if final then (clearPeriod s n).clear LEASE_STATUS_OPEN n else openPeriod s n t

/-- The state after the last close, and the one after any other. -/
theorem afterClose_last : afterClose s n t true = (clearPeriod s n).wr LEASE_STATUS_OPEN 0 n := rfl
theorem afterClose_next : afterClose s n t false =
    (((((clearPeriod s n).wr LEASE_STATUS_OPEN 1 n).wr LEASE_CTRL_CLOSE_NOW 0 n).wr LEASE_START_NS t n).wr LEASE_NOM_END_NS
      (firstB s n t) n) := openPeriod_eq s n t

section
variable (final : Bool)

/-- It changes registers and the context only. -/
theorem contextOnly_afterClose : ContextOnly s (afterClose s n t final) := by
  have hclear := contextOnly_clearPeriod s n
  cases final with
  | true => rw [afterClose_last]; exact hclear.wr ..
  | false => rw [afterClose_next]; exact (((hclear.wr ..).wr ..).wr ..).wr ..

/-- The context forgets that a budget was written. -/
theorem lease_afterClose : (afterClose s n t final).lease n = { s.lease n with budChanged := false } := by
  rw [← lease_clearPeriod]
  cases final with
  | true => rw [afterClose_last, lease_wr]
  | false => rw [afterClose_next, lease_wr, lease_wr, lease_wr, lease_wr]

/-- A field beside OPEN, CLOSE_NOW and the bounds of the period is as clearing the period leaves it. -/
theorem rd_afterClose {g : Fld} (h : ∀ f ∈ [LEASE_STATUS_OPEN, LEASE_CTRL_CLOSE_NOW, LEASE_START_NS, LEASE_NOM_END_NS], g.Apart f) :
    (afterClose s n t final).rd g n = (clearPeriod s n).rd g n := by
  cases final with
  | true => rw [afterClose_last, rd_wr_lease_ne (h _ (by simp))]
  | false =>
    rw [afterClose_next, rd_wr_lease_ne (h _ (by simp)), rd_wr_lease_ne (h _ (by simp)), rd_wr_lease_ne (h _ (by simp)),
      rd_wr_lease_ne (h _ (by simp))]

/-- The period's counts begin at 0. -/
theorem rd_afterClose_count {f : Fld} (hf : f ∈ periodCounts) : (afterClose s n t final).rd f n = 0 := by
  have hapart : ∀ f ∈ periodCounts, ∀ g ∈ [LEASE_STATUS_OPEN, LEASE_CTRL_CLOSE_NOW, LEASE_START_NS, LEASE_NOM_END_NS], f.Apart g := by
    decide
  rw [rd_afterClose s n t final (hapart f hf), rd_clearPeriod_count s n hf]

/-- OPEN shows whether the next period is open. -/
theorem on_afterClose_open : (afterClose s n t final).on LEASE_STATUS_OPEN n = !final := by
  cases final with
  | true =>
    rw [afterClose_last, State.on, State.rd_wr_same]
    rfl
  | false =>
    rw [afterClose_next, State.on, rd_wr_lease_ne (by decide), rd_wr_lease_ne (by decide), rd_wr_lease_ne (by decide), State.rd_wr_same]
    rfl

/-- The bounds of a period that opens. -/
theorem rd_afterClose_bounds : (afterClose s n t false).rd LEASE_START_NS n = t % 2 ^ 64 ∧
    (afterClose s n t false).rd LEASE_NOM_END_NS n = firstB s n t % 2 ^ 64 := by
  rw [afterClose_next, rd_wr_lease_ne (by decide), State.rd_wr_same, State.rd_wr_same]
  exact ⟨rfl, rfl⟩

end

/-! ### The page formed (R201, R203, R204) -/

/-- EC_ADJ of cells cleared. -/
def clearAdj (cells : List Nat) (s : State) : State := cells.foldl (fun s c => s.updEntry c (fun e => { e with ecAdj := false })) s

/-- Nothing but entries changes. -/
theorem clearAdj_rest (cells : List Nat) (s : State) : clearAdj cells s = { s with entries := (clearAdj cells s).entries } := by
  induction cells generalizing s with
  | nil => rfl
  | cons c cells ih => exact (ih (s.updEntry c _)).trans rfl

/-- The entries of those cells lose the bit, the others are as they were. -/
theorem entry_clearAdj (cells : List Nat) (s : State) (c : Nat) :
    (clearAdj cells s).entry c = if c ∈ cells then { s.entry c with ecAdj := false } else s.entry c := by
  induction cells generalizing s with
  | nil => rfl
  | cons d cells ih =>
    refine (ih (s.updEntry d _)).trans ?_
    rw [State.entry_updEntry]
    by_cases hd : c = d
    · subst hd
      simp
    · simp [hd]

/-- The page of a closing period. -/
def closingPage : Page :=
  let cells := capturedCells s n
  let table := cells.flatMap (cellRecord s)
  let seq := s.rd LEASE_NEXT_SEQ n + unissued s n
  { ctx := n, seq := seq, body := pageBody s n t seq table (cells.any (fun c => (s.entry c).ecAdj)), table := table }

/-- The state in which the page has joined those retained and the context is freed of what the close ends (R201). -/
def pageKept : State :=
  ((clearAdj (capturedCells s n) s).updLdg (fun g => { g with pages := g.pages ++ [closingPage s n t] })).updLease n
    (fun l => { l with closeFinal := false, restart := false, gapNs := 0, exhSusp := false
                       prevDigest := sha384 (closingPage s n t).body })

/-- The registers are as they were. -/
theorem regs_pageKept : (pageKept s n t).regs = s.regs := by
  rw [pageKept, State.updLease_regs, clearAdj_rest]
  rfl

/-- The entries are those with EC_ADJ cleared. -/
theorem entries_pageKept : (pageKept s n t).entries = (clearAdj (capturedCells s n) s).entries := by
  rw [pageKept, State.updLease_entries, State.updLdg]

/-- The same with the context's status as it is then. -/
def pageFormed : State := suspShown (((pageKept s n t).clear LEASE_CTRL_CLOSE_NOW n).clear LEASE_STATUS_HELD n) n

/-- A close is the page formed and the period after it. -/
theorem closePeriod_eq : closePeriod s n t =
    afterClose (pageFormed s n t) n t ((s.lease n).closeFinal || !(s.on LEASE_CTRL_EN n)) := rfl

/-- The page joins those retained. -/
theorem pages_pageFormed : (pageFormed s n t).ldg.pages = s.ldg.pages ++ [closingPage s n t] := by
  have hkept : (pageFormed s n t).ldg.pages = (clearAdj (capturedCells s n) s).ldg.pages ++ [closingPage s n t] := rfl
  rw [hkept, clearAdj_rest]

/-- The context remembers the page's digest, and is suspended by exhaustion no longer. -/
theorem lease_pageFormed : (pageFormed s n t).lease n =
    { s.lease n with closeFinal := false, restart := false, gapNs := 0, exhSusp := false
                     prevDigest := sha384 (closingPage s n t).body } := by
  show (pageKept s n t).lease n = _
  rw [pageKept, State.lease_updLease, if_pos rfl, clearAdj_rest]
  rfl

/-- EC_ADJ of the captured cells is cleared, of no other. -/
theorem entry_pageFormed (c : Nat) : (pageFormed s n t).entry c =
    if c ∈ capturedCells s n then { s.entry c with ecAdj := false } else s.entry c := by
  rw [← entry_clearAdj, State.entry, State.entry, pageFormed, suspShown, State.clear, State.clear, State.wr_entries, State.wr_entries,
    State.wr_entries, entries_pageKept]

/-- Fields of the context beside SUSP, HELD and CLOSE_NOW are as they were. -/
theorem rd_pageFormed_ne {g : Fld} (h : ∀ f ∈ [LEASE_STATUS_SUSP, LEASE_STATUS_HELD, LEASE_CTRL_CLOSE_NOW], g.Apart f) :
    (pageFormed s n t).rd g n = s.rd g n := by
  unfold pageFormed suspShown
  rw [rd_wr_lease_ne (h _ (by simp)), State.clear, rd_wr_lease_ne (h _ (by simp)), State.clear, rd_wr_lease_ne (h _ (by simp)),
    State.rd, State.rd, regs_pageKept]

/-- HELD is clear. -/
theorem rd_pageFormed_held : (pageFormed s n t).rd LEASE_STATUS_HELD n = 0 := by
  unfold pageFormed suspShown
  rw [rd_wr_lease_ne (by decide), State.clear, State.rd_wr_same]
  rfl

end

/-! ### A close that is due (R200, R202) -/

/-- A context with EN = 0 and an open period is marked for its last close. -/
def markFinal (s : State) (n : Nat) : State :=
  if s.on LEASE_STATUS_OPEN n && !(s.on LEASE_CTRL_EN n) then s.updLease n (fun l => { l with closeFinal := true }) else s

section
variable (s : State) (n t : Nat)

/-- The mark is all that changes. -/
theorem markFinal_rest : markFinal s n = { s with leases := (markFinal s n).leases } := by
  unfold markFinal
  split <;> rfl

/-- So the contexts' hidden state alone can differ. -/
theorem contextOnly_markFinal : ContextOnly s (markFinal s n) := by
  unfold markFinal
  split <;> rfl

/-- No entry depends on it, nor the cells a close captures. -/
theorem entry_markFinal (c : Nat) : (markFinal s n).entry c = s.entry c := by
  rw [markFinal_rest]
  rfl
theorem capturedCells_markFinal : capturedCells (markFinal s n) n = capturedCells s n := by
  have hrings : ringCells (markFinal s n) = ringCells s := by
    rw [markFinal_rest]
    rfl
  unfold capturedCells
  simp only [hrings, entry_markFinal]

/-- The context with the mark it has then. -/
theorem lease_markFinal : (markFinal s n).lease n =
    { s.lease n with closeFinal := (s.lease n).closeFinal || (s.on LEASE_STATUS_OPEN n && !(s.on LEASE_CTRL_EN n)) } := by
  unfold markFinal
  split
  case isTrue h => rw [State.lease_updLease, if_pos rfl, h, Bool.or_true]
  case isFalse h => rw [Bool.eq_false_iff.mpr h, Bool.or_false]

/-- The close is the last one as much with the mark as without. -/
theorem final_markFinal : (((markFinal s n).lease n).closeFinal || !((markFinal s n).on LEASE_CTRL_EN n)) =
    ((s.lease n).closeFinal || !(s.on LEASE_CTRL_EN n)) := by
  rw [lease_markFinal, markFinal_rest]
  show ((s.lease n).closeFinal || (s.on LEASE_STATUS_OPEN n && !(s.on LEASE_CTRL_EN n)) || !(s.on LEASE_CTRL_EN n)) = _
  cases s.on LEASE_CTRL_EN n <;> simp

/-- The page does not depend on the mark. -/
theorem closingPage_markFinal : closingPage (markFinal s n) n t = closingPage s n t := by
  have hbody : ∀ seq table ecAdj, pageBody (markFinal s n) n t seq table ecAdj = pageBody s n t seq table ecAdj := by
    intro seq table ecAdj
    unfold pageBody
    dsimp only
    rw [final_markFinal, lease_markFinal, markFinal_rest]
    rfl
  unfold closingPage
  dsimp only
  rw [hbody, markFinal_rest]
  rfl

/-- A close is as due with the mark as without. -/
theorem closeDue_markFinal : closeDue (markFinal s n) n t = closeDue s n t := by
  unfold closeDue
  rw [lease_markFinal, markFinal_rest]
  show (s.on LEASE_STATUS_OPEN n && (decide (s.rd LEASE_NOM_END_NS n ≤ t) || s.on LEASE_CTRL_CLOSE_NOW n || !(s.on LEASE_CTRL_EN n)
    || ((s.lease n).closeFinal || (s.on LEASE_STATUS_OPEN n && !(s.on LEASE_CTRL_EN n))))) = _
  cases s.on LEASE_STATUS_OPEN n <;> cases s.on LEASE_CTRL_EN n <;> simp

/-- The conditions that defer a close (R202). -/
def closeHeld : Bool :=
  s.on CAMPANILE_STATUS_LOST || regionShort s (capturedCells s n).length || !(s.on SYS_LDG_CTRL_EN)

/-- They do not depend on the mark. -/
theorem closeHeld_markFinal : closeHeld (markFinal s n) n = closeHeld s n := by
  rw [markFinal_rest]
  rfl

/-- The judgement of a close: it is deferred or carried out where it is due, and HELD is cleared where it is not. -/
theorem closeAt_eq : closeAt s n t =
    if closeDue (markFinal s n) n t then
      if closeHeld (markFinal s n) n then
        ((markFinal s n).raise LEASE_STATUS_HELD n, (markFinal s n).on CAMPANILE_STATUS_LOST,
          regionShort (markFinal s n) (capturedCells (markFinal s n) n).length)
      else (closePeriod (markFinal s n) n t, false, false)
    else ((markFinal s n).clear LEASE_STATUS_HELD n, false, false) := rfl

section
variable {s n t}

/-- A due close that is deferred sets HELD. -/
theorem closeAt_held (hdue : closeDue s n t = true) (hheld : closeHeld s n = true) :
    (closeAt s n t).1 = (markFinal s n).raise LEASE_STATUS_HELD n := by
  rw [closeAt_eq, closeDue_markFinal, closeHeld_markFinal, if_pos hdue, if_pos hheld]

/-- One that nothing defers is carried out. -/
theorem closeAt_closes (hdue : closeDue s n t = true) (hheld : closeHeld s n = false) :
    (closeAt s n t).1 = afterClose (pageFormed (markFinal s n) n t) n t ((s.lease n).closeFinal || !(s.on LEASE_CTRL_EN n)) := by
  rw [closeAt_eq, closeDue_markFinal, closeHeld_markFinal, if_pos hdue, if_neg (Bool.not_eq_true _ ▸ hheld), closePeriod_eq,
    final_markFinal]

end

end

/-! ### The event (R201, R202) -/

section
variable {s : State} {n : Fin 256}

/-- At a tick's edge a due close is judged, and what may be submitted and offered follows. -/
theorem exec_periodClose (hc : clocked s = true) (hrun : s.pipe.running = true) (hfab : s.fab = s.pipe.tickEdge)
    (hdue : closeDue s n s.tickNs = true) :
    exec (.periodClose n) s = .next (offerPages (submitPages (closeAt s n s.tickNs).1)) := by
  have hopen : s.on LEASE_STATUS_OPEN n = true := by
    unfold closeDue at hdue
    exact (Bool.and_eq_true_iff.mp hdue).1
  exact (exec_onFab hc rfl).trans (congrArg _ (if_pos (by simp [hopen, hrun, hfab])))

/-- On another edge, and without an open period, nothing closes. -/
theorem periodClose_idle (hc : clocked s = true)
    (h : s.on LEASE_STATUS_OPEN n = false ∨ s.pipe.running = false ∨ s.fab ≠ s.pipe.tickEdge) : exec (.periodClose n) s = .next s := by
  refine (exec_onFab hc rfl).trans (congrArg _ (if_neg ?_))
  obtain h | h | h := h <;> simp [h]

/-- A due close that is deferred sets HELD, and changes no count. -/
theorem periodClose_held (hc : clocked s = true) (hrun : s.pipe.running = true) (hfab : s.fab = s.pipe.tickEdge)
    (hdue : closeDue s n s.tickNs = true) (hheld : closeHeld s n = true) :
    ∃ u, exec (.periodClose n) s = .next (offerPages (submitPages u)) ∧ u.on LEASE_STATUS_HELD n = true ∧
      RegsBut [LEASE_STATUS_HELD.key n 0] s u ∧ u = { s with regs := u.regs, leases := u.leases } := by
  refine ⟨(markFinal s n).raise LEASE_STATUS_HELD n, ?_, ?_, ?_, ?_⟩
  · rw [exec_periodClose hc hrun hfab hdue, closeAt_held hdue hheld]
  · rw [State.raise, State.on, State.rd_wr_same]
    rfl
  · have hmark : RegsBut [LEASE_STATUS_HELD.key n 0] s (markFinal s n) := by
      rw [markFinal_rest]
      exact fun _ _ _ _ => rfl
    exact hmark.wr (by simp) 1
  · exact ContextOnly.wr (contextOnly_markFinal s n) LEASE_STATUS_HELD 1 n 0

/-- A due close that nothing defers: the page, and the period after it. -/
theorem periodClose_closes (hc : clocked s = true) (hrun : s.pipe.running = true) (hfab : s.fab = s.pipe.tickEdge)
    (hdue : closeDue s n s.tickNs = true) (hheld : closeHeld s n = false) :
    let final := (s.lease n).closeFinal = true ∨ s.on LEASE_CTRL_EN n = false
    let page := closingPage s n s.tickNs
    ∃ u, exec (.periodClose n) s = .next (offerPages (submitPages u)) ∧
      u.ldg.pages = s.ldg.pages ++ [page] ∧ (u.lease n).prevDigest = sha384 page.body ∧
      (∀ f ∈ periodCounts, u.rd f n = 0) ∧ u.rd LEASE_WEIGHT_LW_MIN n = 0xFFFF ∧ (u.lease n).exhSusp = false ∧
      u.on LEASE_STATUS_HELD n = false ∧ (∀ c ∈ capturedCells s n, u.entry c = { s.entry c with ecAdj := false }) ∧
      (∀ c, c ∉ capturedCells s n → u.entry c = s.entry c) ∧ (final → u.on LEASE_STATUS_OPEN n = false) ∧
      (¬ final → u.on LEASE_STATUS_OPEN n = true ∧ u.rd LEASE_START_NS n = s.tickNs % 2 ^ 64 ∧
        u.rd LEASE_NOM_END_NS n = firstB s n s.tickNs % 2 ^ 64) := by
  intro final page
  have hfinal : final ↔ ((s.lease n).closeFinal || !(s.on LEASE_CTRL_EN n)) = true := by
    rw [Bool.or_eq_true, Bool.not_eq_true']
  have hpage : closingPage (markFinal s n) n s.tickNs = page := closingPage_markFinal s n s.tickNs
  have hformed := entry_pageFormed (markFinal s n) n s.tickNs
  simp only [capturedCells_markFinal, entry_markFinal] at hformed
  have hfirst : firstB (pageFormed (markFinal s n) n s.tickNs) n s.tickNs = firstB s n s.tickNs := by
    refine firstB_congr ?_ ?_ _
    all_goals
      rw [rd_pageFormed_ne _ _ _ (by decide), markFinal_rest]
      rfl
  refine ⟨_, (exec_periodClose hc hrun hfab hdue).trans (by rw [closeAt_closes hdue hheld]), ?_⟩
  generalize ((s.lease n).closeFinal || !(s.on LEASE_CTRL_EN n)) = last at hfinal
  have hother := contextOnly_afterClose (pageFormed (markFinal s n) n s.tickNs) n s.tickNs last
  refine ⟨?_, ?_, fun f hf => rd_afterClose_count _ _ _ _ hf, ?_, ?_, ?_, fun c hcell => ?_, fun c hcell => ?_, fun h => ?_, fun h => ?_⟩
  · rw [hother, pages_pageFormed, hpage, markFinal_rest]
  · rw [lease_afterClose, lease_pageFormed, hpage]
  · rw [rd_afterClose _ _ _ _ (by decide), rd_clearPeriod_min]
  · rw [lease_afterClose, lease_pageFormed]
  · rw [State.on, rd_afterClose _ _ _ _ (by decide), rd_clearPeriod_ne _ _ (by decide), rd_pageFormed_held]
    rfl
  · rw [hother.entry, hformed, if_pos hcell]
  · rw [hother.entry, hformed, if_neg hcell]
  · rw [on_afterClose_open, hfinal.mp h]
    rfl
  · rw [hfinal, Bool.not_eq_true] at h
    subst h
    obtain ⟨hstart, hend⟩ := rd_afterClose_bounds (pageFormed (markFinal s n) n s.tickNs) n s.tickNs
    exact ⟨on_afterClose_open _ _ _ _, hstart, hend.trans (by rw [hfirst])⟩

end

/-- Settles O42: what waits for the tick by the word written, a close by the page formed and the period after it, signing and
offering by the list of pages, acknowledgements by the unit's part in the twin. -/
theorem ledgerPages : Obligations.LedgerPages := by
  intro s req n set data pre post p e
  refine ⟨leaseEnWrite_waits, leaseSuspend_waits, closeNow_waits, curveLoad_waits, periodClose_idle,
    fun hc hrun hfab hdue hlost hshort hen => periodClose_closes hc hrun hfab hdue (by simp [closeHeld, hlost, hshort, hen]),
    fun hc hrun hfab hdue h => periodClose_held hc hrun hfab hdue (by obtain h | h | h := h <;> simp [closeHeld, h]),
    fun hc hpages hpre hissued hsigned => (exec_onFab hc rfl).trans (congrArg _ (pageSign_signs hpages hpre hissued hsigned)),
    fun hc h => (exec_onFab hc rfl).trans (congrArg _ (pageSign_none h)),
    fun hc htoken hen hpages hp hoffer hdue hpre hpost => ?_,
    fun hc h => (exec_onFab hc rfl).trans (congrArg _ (pageResend_idle h)),
    ldgAck_standby, ldgAck_holder, ldgAckRspRead_valid, ldgAckRspRead_idle⟩
  have hresend := pageResend_offers htoken hen hpages hp hoffer hdue (fun q hq => (hpre q hq).2) hpost
  exact ⟨_, (exec_onFab hc rfl).trans (congrArg _ hresend), offerPage_leaves hpages fun q hq => (hpre q hq).1⟩

end Sys2Proof.Machine

/-!
Checkpoints: asked for, captured and written (R212, R213).
-/
namespace Sys2Proof.Machine

/-! ### Bytes stored in the MRAM (R225) -/

/-- Bytes stored one block behind another. -/
theorem memPutBytes_append (m : List Host.Cell) (a : Nat) (xs ys : List Nat) :
    memPutBytes m a (xs ++ ys) = memPutBytes (memPutBytes m a xs) (a + xs.length) ys := by
  induction xs generalizing m a with
  | nil => rfl
  | cons x xs ih =>
    rw [List.cons_append, memPutBytes, ih, memPutBytes, List.length_cons, show a + 1 + xs.length = a + (xs.length + 1) by omega]

/-- Outside the bytes stored a memory reads as before. -/
theorem memGet_memPutBytes_ne {m : List Host.Cell} (h : Memory.wf m = true) (bs : List Nat) {a b : Nat}
    (hb : b < a ∨ a + bs.length ≤ b) : memGet (memPutBytes m a bs) b = memGet m b := by
  induction bs generalizing m a with
  | nil => rfl
  | cons x bs ih =>
    rw [List.length_cons] at hb
    rw [memPutBytes, ih (memSet_wf m a _ h) (by omega), memGet_memSet m a b _ h, if_neg (by omega)]

/-- Where they were stored they read back. -/
theorem memGet_memPutBytes {m : List Host.Cell} (h : Memory.wf m = true) {bs : List Nat} (a : Nat) {k x : Nat} (hx : bs[k]? = some x) :
    memGet (memPutBytes m a bs) (a + k) = BitVec.ofNat 8 x := by
  induction bs generalizing m a k with
  | nil => cases hx
  | cons y bs ih =>
    rw [memPutBytes]
    cases k with
    | zero =>
      cases hx
      rw [memGet_memPutBytes_ne (memSet_wf m a _ h) bs (by omega), memGet_memSet m a (a + 0) _ h, if_pos (Nat.add_zero a)]
    | succ k => rw [show a + (k + 1) = a + 1 + k by omega, ih (memSet_wf m a _ h) (a + 1) hx]

/-- A block cut at a line boundary is stored as the part before it and the part behind it. -/
theorem memPutBytes_cut (m : List Host.Cell) (a k : Nat) (bs : List Nat) :
    memPutBytes (memPutBytes m a (bs.take k)) (a + k) (bs.drop k) = memPutBytes m a bs := by
  conv_rhs => rw [← List.take_append_drop k bs, memPutBytes_append]
  by_cases hk : k ≤ bs.length
  · rw [List.length_take, Nat.min_eq_left hk]
  · rw [List.drop_eq_nil_of_le (by omega)]
    rfl

/-- The pieces of a block stored line by line are the block stored. -/
theorem bytes_linePieces (n : Nat) {a : Nat} {bs : List Nat} (hn : bs.length + a % 64 ≤ 64 * n) (s : State) :
    ((linePieces n a bs).foldl (fun s w => writeLine s w.1 w.2) s).bytes = memPutBytes s.bytes a bs := by
  induction n generalizing a bs s with
  | zero =>
    obtain rfl : bs = [] := List.eq_nil_of_length_eq_zero (by omega)
    rfl
  | succ n ih =>
    unfold linePieces
    split
    case isTrue h =>
      rw [List.isEmpty_iff.mp h]
      rfl
    case isFalse =>
      exact (ih (by rw [List.length_drop]; omega) (writeLine s a (bs.take (64 - a % 64)))).trans (memPutBytes_cut ..)

/-- Lines written one after another change bytes and check symbols only. -/
theorem foldl_writeLine_rest (ws : List (Nat × List Nat)) (s : State) :
    let t := ws.foldl (fun s w => writeLine s w.1 w.2) s
    t = { s with bytes := t.bytes, lineChk := t.lineChk } := by
  induction ws generalizing s with
  | nil => rfl
  | cons w ws ih => exact (ih (writeLine s w.1 w.2)).trans rfl

/-- Words written while no scan runs: the bytes, with fresh check symbols (R225). -/
theorem writeWords_idle {s : State} (h : s.on SCAN_STATUS_BUSY = false) (a : Nat) (bs : List Nat) :
    (writeWords s a bs).bytes = memPutBytes s.bytes a bs ∧
      writeWords s a bs = { s with bytes := (writeWords s a bs).bytes, lineChk := (writeWords s a bs).lineChk } := by
  have hscan : scanAdvance s = s := if_neg (by rw [h]; decide)
  unfold writeWords
  rw [hscan]
  exact ⟨bytes_linePieces _ (by omega) s, foldl_writeLine_rest _ s⟩

/-! ### A checkpoint captured (R212) -/

/-- The image of a generation does not show the ledger engine's own state. -/
theorem ckptImage_updLdg (s : State) (f : LdgSt → LdgSt) (gen : Nat) : ckptImage (s.updLdg f) gen = ckptImage s gen := rfl

/-- A capture: the image of the next generation as the state stands, CKPT_NOW taken back. -/
theorem ckptCapture_leaves (s : State) (ns : Nat) :
    let t := ckptCapture s ns
    t.ldg = { s.ldg with ckptBusy := true, ckptNs := ns, ckptImage := ckptImage t (s.rd SYS_LDG_CKPT_GEN_GEN + 1) } ∧
      t.on SYS_LDG_CTRL_CKPT_NOW = false ∧ RegsBut [SYS_LDG_CTRL_CKPT_NOW.key 0 0] s t ∧ t = { s with ldg := t.ldg, regs := t.regs } := by
  have hgen : (s.clear SYS_LDG_CTRL_CKPT_NOW).rd SYS_LDG_CKPT_GEN_GEN = s.rd SYS_LDG_CKPT_GEN_GEN :=
    State.rd_wr_ne _ _ _ _ _ _ _ _ (by decide)
  have hcapture : ckptCapture s ns = (s.clear SYS_LDG_CTRL_CKPT_NOW).updLdg (fun g => { g with
      ckptBusy := true, ckptNs := ns, ckptImage := ckptImage (s.clear SYS_LDG_CTRL_CKPT_NOW) (s.rd SYS_LDG_CKPT_GEN_GEN + 1) }) := by
    rw [← hgen]
    rfl
  dsimp only
  rw [hcapture, ckptImage_updLdg]
  refine ⟨rfl, ?_, (RegsBut.refl _ s).wr (by simp) 0, rfl⟩
  show (s.clear SYS_LDG_CTRL_CKPT_NOW).on SYS_LDG_CTRL_CKPT_NOW = false
  rw [State.clear, State.on, State.rd_wr_same]
  rfl

/-- Asked for while the pipeline runs, a checkpoint waits for the tick; while it stands it is captured at once. -/
theorem ckptRequest_running {s : State} (h : s.pipe.running = true) : ckptRequest s = s.stage SYS_LDG_CTRL_CKPT_NOW 1 0 0 := if_pos h
theorem ckptRequest_stopped {s : State} (h : s.pipe.running = false) : ckptRequest s = ckptCapture s s.ns :=
  if_neg (by rw [h]; decide)

section
variable {s : State} {req : Req}

/-- The timer once CKPT_S has passed: a checkpoint is asked for where none is. -/
theorem ckptTimer_due (hdue : s.reached (s.ldg.ckptNs + s.rd SYS_LDG_CFG_CKPT_S * SEC) = true) :
    ckptTimer s = if ckptBusy s then s else ckptRequest s := by
  unfold ckptTimer
  simp only [hdue, if_true]

/-- None is begun while one is asked for or written. -/
theorem checkpointTimer_busy (hc : clocked s = true) (hdue : s.reached (s.ldg.ckptNs + s.rd SYS_LDG_CFG_CKPT_S * SEC) = true)
    (hbusy : ckptBusy s = true) : exec .checkpointTimer s = .next s :=
  (exec_onFab hc rfl).trans (congrArg _ ((ckptTimer_due hdue).trans (if_pos hbusy)))

/-- Else one is asked for. -/
theorem checkpointTimer_asks (hc : clocked s = true) (hdue : s.reached (s.ldg.ckptNs + s.rd SYS_LDG_CFG_CKPT_S * SEC) = true)
    (hbusy : ckptBusy s = false) : exec .checkpointTimer s = .next (ckptRequest s) :=
  (exec_onFab hc rfl).trans (congrArg _ ((ckptTimer_due hdue).trans (if_neg (by rw [hbusy]; decide))))

/-- CKPT_NOW while the pipeline runs waits for the tick. -/
theorem ckptNow_waits (h : Accepts s req .sys 0 0x300 4 4) (hrun : s.pipe.running = true) :
    ∃ t, exec (.ckptNow req) s = .next t ∧ StagedWrite s t SYS_LDG_CTRL_CKPT_NOW 0 0 1 :=
  ⟨_, (exec_ckptNow h).trans (congrArg _ (ckptRequest_running hrun)), stagedWrite_stage s SYS_LDG_CTRL_CKPT_NOW 1 0 0⟩

/-- While it stands the checkpoint is captured at once. -/
theorem ckptNow_captures (h : Accepts s req .sys 0 0x300 4 4) (hrun : s.pipe.running = false) :
    ∃ t, exec (.ckptNow req) s = .next t ∧
      AnsweredOk t ∧ t.ldg = { s.ldg with ckptBusy := true, ckptNs := s.ns, ckptImage := ckptImage t (s.rd SYS_LDG_CKPT_GEN_GEN + 1) } ∧
      t.on SYS_LDG_CTRL_CKPT_NOW = false ∧ RegsBut [SYS_LDG_CTRL_CKPT_NOW.key 0 0] s t ∧
      t = { s with ldg := t.ldg, regs := t.regs, reply := t.reply } := by
  obtain ⟨hldg, hon, hregs, hrest⟩ := ckptCapture_leaves (s.answer OK 0) s.ns
  refine ⟨_, (exec_ckptNow h).trans (congrArg _ (ckptRequest_stopped hrun)), rfl, hldg, hon, hregs, ?_⟩
  exact hrest

/-! ### A checkpoint written (R212, R213) -/

/-- The last record written: the next generation lies in its slot byte for byte. -/
theorem checkpointComplete_good (hc : clocked s = true) (hbusy : s.ldg.ckptBusy = true) (hwf : Memory.wf s.bytes = true)
    (hscan : s.on SCAN_STATUS_BUSY = false) : ∃ t, exec (.checkpointComplete true) s = .next t ∧
      t.rd SYS_LDG_CKPT_GEN_GEN = (s.rd SYS_LDG_CKPT_GEN_GEN + 1) % 2 ^ 64 ∧
      t.rd SYS_LDG_LAST_CKPT_NS_NS = s.ldg.ckptNs % 2 ^ 64 ∧ t.ldg.ckptBusy = false ∧
      (∀ k x, s.ldg.ckptImage[k]? = some x → memGet t.bytes (slotBase s (s.rd SYS_LDG_CKPT_GEN_GEN + 1) + k) = BitVec.ofNat 8 x) ∧
      (∀ a, a < slotBase s (s.rd SYS_LDG_CKPT_GEN_GEN + 1) ∨ slotBase s (s.rd SYS_LDG_CKPT_GEN_GEN + 1) + s.ldg.ckptImage.length ≤ a →
        memGet t.bytes a = memGet s.bytes a) := by
  obtain ⟨hbytes, hrest⟩ := writeWords_idle (s := s.updLdg (fun g => { g with ckptBusy := false, ckptImage := [] })) hscan
    (slotBase s (s.rd SYS_LDG_CKPT_GEN_GEN + 1)) s.ldg.ckptImage
  generalize hu : writeWords (s.updLdg (fun g => { g with ckptBusy := false, ckptImage := [] }))
    (slotBase s (s.rd SYS_LDG_CKPT_GEN_GEN + 1)) s.ldg.ckptImage = u at hbytes hrest
  have hcomplete : ckptComplete s true =
      ((u.wr SYS_LDG_CKPT_GEN_GEN (s.rd SYS_LDG_CKPT_GEN_GEN + 1)).wr SYS_LDG_LAST_CKPT_NS_NS s.ldg.ckptNs).updLdg
        (fun g => { g with ckptTimes := g.ckptTimes.set ((s.rd SYS_LDG_CKPT_GEN_GEN + 1) % 4) s.ldg.ckptNs }) := by
    rw [← hu]
    exact if_neg (by rw [hbusy]; decide)
  have hldg : u.ldg = { s.ldg with ckptBusy := false, ckptImage := [] } := by rw [hrest]; rfl
  refine ⟨_, (exec_onFab hc rfl).trans (congrArg _ hcomplete), ?_, ?_, ?_, fun k x hx => ?_, fun a ha => ?_⟩
  · exact (State.rd_wr_ne _ _ _ _ _ _ _ _ (by decide)).trans (State.rd_wr_same ..)
  · exact State.rd_wr_same ..
  · exact congrArg LdgSt.ckptBusy hldg
  · exact (congrArg (memGet · _) hbytes).trans (memGet_memPutBytes hwf _ hx)
  · exact (congrArg (memGet · _) hbytes).trans (memGet_memPutBytes_ne hwf _ ha)

/-- A failed write sets CKPT_FAIL (R212). -/
theorem checkpointComplete_failed (hc : clocked s = true) (hbusy : s.ldg.ckptBusy = true) :
    ∃ t, exec (.checkpointComplete false) s = .next t ∧
      t.on SYS_LDG_STATUS_CKPT_FAIL = true ∧ t.ldg = { s.ldg with ckptBusy := false, ckptImage := [] } ∧
      RegsBut [SYS_LDG_STATUS_CKPT_FAIL.key 0 0] s t ∧ t = { s with ldg := t.ldg, regs := t.regs } := by
  have hcomplete : ckptComplete s false =
      (s.updLdg (fun g => { g with ckptBusy := false, ckptImage := [] })).raise SYS_LDG_STATUS_CKPT_FAIL :=
    if_neg (by rw [hbusy]; decide)
  refine ⟨_, (exec_onFab hc rfl).trans (congrArg _ hcomplete), ?_, rfl, ?_, rfl⟩
  · rw [State.raise, State.on, State.rd_wr_same]
    rfl
  · exact (RegsBut.refl [SYS_LDG_STATUS_CKPT_FAIL.key 0 0] s).wr (by simp) 1

/-- With none being written nothing completes. -/
theorem checkpointComplete_idle (good : Bool) (hc : clocked s = true) (hbusy : s.ldg.ckptBusy = false) :
    exec (.checkpointComplete good) s = .next s := by
  have hidle : ckptComplete s good = s := if_pos (by rw [hbusy]; rfl)
  exact (exec_onFab hc rfl).trans (congrArg _ hidle)

end

end Sys2Proof.Machine

/-!
A restore from the newest valid generation (R214).
-/
namespace Sys2Proof.Machine

/-! ### The slots read and corrected (R220, R221) -/

/-- A read of a line of the MRAM: a good line leaves the state, an uncorrectable one is reported, any other is corrected. -/
theorem decodeLine_mram_cases (s : State) (line : Nat) (scrub : Bool) :
    (decodeLine s .mram line scrub).1 = s ∨ (decodeLine s .mram line scrub).1 = s.raise JOURNAL_STATUS_ECC ∨
      ∃ bs, (decodeLine s .mram line scrub).1 = writeLine s (line * 64) bs := by
  unfold decodeLine
  split
  · exact .inl rfl
  · dsimp only [caRetry]
    rw [if_neg (by decide)]
    split
    · exact .inr (.inl rfl)
    · exact .inl rfl
    · exact .inr (.inr ⟨_, rfl⟩)

/-- It does not depend on the ledger engine's own state. -/
theorem decodeLine_mram_ldg (s : State) (g : LdgSt) (line : Nat) (scrub : Bool) :
    (decodeLine { s with ldg := g } .mram line scrub).1 = { (decodeLine s .mram line scrub).1 with ldg := g } := by
  have hfail : chFail { s with ldg := g } (line * 64) = chFail s (line * 64) := rfl
  have hfixes : lineFixes { s with ldg := g } line = lineFixes s line := rfl
  unfold decodeLine
  dsimp only [caRetry]
  rw [hfail, hfixes]
  split
  · rfl
  · rw [if_neg (by decide), if_neg (by decide)]
    split <;> rfl

/-- From s to t only memory and JOURNAL.STATUS.ECC can differ. -/
structure Scanned (s t : State) : Prop where
  rest : t = { s with regs := t.regs, bytes := t.bytes, lineChk := t.lineChk }
  regs : RegsBut [JOURNAL_STATUS_ECC.key 0 0] s t

/-- Nothing changed. -/
theorem Scanned.refl (s : State) : Scanned s s := ⟨rfl, .refl _ s⟩

/-- One change after another. -/
theorem Scanned.trans {s t u : State} (h : Scanned s t) (hu : Scanned t u) : Scanned s u := by
  refine ⟨?_, h.regs.trans hu.regs⟩
  have hrest := hu.rest
  rw [h.rest] at hrest
  exact hrest

/-- A read of a line of the MRAM. -/
theorem scanned_decodeLine (s : State) (line : Nat) (scrub : Bool) : Scanned s (decodeLine s .mram line scrub).1 := by
  obtain h | h | ⟨bs, h⟩ := decodeLine_mram_cases s line scrub <;> rw [h]
  · exact .refl s
  · exact ⟨rfl, (RegsBut.refl _ s).wr (by simp) 1⟩
  · exact ⟨rfl, fun _ _ _ _ => rfl⟩

/-- The words of the MRAM in a range read one after another. -/
theorem scanned_mramScan (s : State) (a n : Nat) : Scanned s (mramScan s a n) := by
  unfold mramScan
  generalize s.lineChk.filter _ = l
  induction l generalizing s with
  | nil => exact .refl s
  | cons p l ih => exact (scanned_decodeLine s p.1 false).trans (ih _)

/-- They do not depend on the ledger engine's own state. -/
theorem mramScan_ldg (s : State) (g : LdgSt) (a n : Nat) : mramScan { s with ldg := g } a n = { mramScan s a n with ldg := g } := by
  unfold mramScan
  dsimp only
  generalize s.lineChk.filter _ = l
  induction l generalizing s with
  | nil => rfl
  | cons p l ih => rw [List.foldl_cons, List.foldl_cons, decodeLine_mram_ldg, ih]

/-! ### A number within a number of memory -/

/-- A number of bytes is that of its low bytes and that of those behind them. -/
theorem memLe_add (m : List Host.Cell) (a p q : Nat) : memLe m a (p + q) = memLe m a p + 256 ^ p * memLe m (a + p) q := by
  induction p generalizing a with
  | zero => simp [memLe]
  | succ p ih =>
    rw [show p + 1 + q = (p + q) + 1 by omega, memLe, memLe, ih, Nat.pow_succ', show a + 1 + p = a + (p + 1) by omega]
    ring

/-- Whole bytes of a number of memory are the number they hold. -/
theorem bits_memLe (m : List Host.Cell) (a p k r : Nat) : bits (memLe m a (p + (k + r))) (8 * p) (8 * k) = memLe m (a + p) k := by
  have hpow : ∀ n, 2 ^ (8 * n) = 256 ^ n := fun n => Nat.pow_mul 2 8 n
  have hp := memLe_lt m a p
  have hk := memLe_lt m (a + p) k
  rw [bits, hpow, hpow, memLe_add, Nat.add_mul_div_left _ _ (by positivity), Nat.div_eq_of_lt hp, Nat.zero_add, memLe_add,
    Nat.add_mul_mod_self_left, Nat.mod_eq_of_lt hk]

/-! ### Words put back into their fields (R214) -/

/-- One field given its part of the words. -/
def putField (i off v nbytes : Nat) (s : State) (f : Fld) : State :=
  forN f.cnt (fun j s =>
    let a := f.off + j * f.sub
    if off ≤ a && a + (f.lsb + f.width + 7) / 8 ≤ off + nbytes && f.acc != .wo then
      s.wr f (bits v (8 * (a - off) + f.lsb) f.width) i j
    else s) s

/-- A predicate that every turn of a loop keeps, at the turns it takes. -/
theorem forN_keeps_lt {σ : Type} {P : σ → Prop} {f : Nat → σ → σ} {n : Nat} (hf : ∀ k < n, ∀ x, P x → P (f k x)) {x : σ} (hx : P x) :
    P (forN n f x) := by
  induction n with
  | zero => exact hx
  | succ n ih => exact hf n (Nat.lt_succ_self n) _ (ih fun k hk => hf k (by omega))

section
variable {b : Blk} {i off v nbytes : Nat} {s : State}

/-- All fields of the block in turn. -/
theorem putWords_eq : s.putWords b i off v nbytes = b.fields.foldl (putField i off v nbytes) s := rfl

/-- Putting a field changes the register file only. -/
theorem putField_rest (f : Fld) : putField i off v nbytes s f = { s with regs := (putField i off v nbytes s f).regs } := by
  refine forN_keeps (P := fun t : State => t = { s with regs := t.regs }) (fun j t ht => ?_) f.cnt rfl
  dsimp only
  split
  · exact (congrArg (State.wr · f _ i j) ht).trans rfl
  · exact ht

/-- So does putting all of them. -/
theorem foldl_putField_rest (fs : List Fld) :
    fs.foldl (putField i off v nbytes) s = { s with regs := (fs.foldl (putField i off v nbytes) s).regs } := by
  induction fs generalizing s with
  | nil => rfl
  | cons f fs ih =>
    have hfield := putField_rest (i := i) (off := off) (v := v) (nbytes := nbytes) (s := s) f
    rw [List.foldl_cons]
    generalize putField i off v nbytes s f = t at hfield ⊢
    have hfields := ih (s := t)
    rw [hfield] at hfields
    rw [hfield]
    exact hfields

/-- A field put leaves the value of any other place. -/
theorem rd_putField_ne {f g : Fld} {i' j' : Nat} (h : ∀ j < f.cnt, g.key i' j' ≠ f.key i j) :
    (putField i off v nbytes s f).rd g i' j' = s.rd g i' j' := by
  refine forN_keeps_lt (P := fun t : State => t.rd g i' j' = s.rd g i' j') (fun j hj t ht => ?_) rfl
  dsimp only
  split
  · exact (State.rd_wr_ne _ _ _ _ _ _ _ _ (h j hj)).trans ht
  · exact ht

/-- So do all of them. -/
theorem rd_foldl_putField_ne {fs : List Fld} {g : Fld} {i' j' : Nat} (h : ∀ f ∈ fs, ∀ j < f.cnt, g.key i' j' ≠ f.key i j) :
    (fs.foldl (putField i off v nbytes) s).rd g i' j' = s.rd g i' j' := by
  induction fs generalizing s with
  | nil => rfl
  | cons f fs ih =>
    exact (ih fun f' hf' => h f' (List.mem_cons_of_mem f hf')).trans (rd_putField_ne (h f List.mem_cons_self))

/-- A field without a second index takes its bits of the words. -/
theorem rd_putField_same {f : Fld} (hcnt : f.cnt = 1) (hoff : off ≤ f.off) (hend : f.off + (f.lsb + f.width + 7) / 8 ≤ off + nbytes)
    (hacc : f.acc ≠ .wo) : (putField i off v nbytes s f).rd f i = bits v (8 * (f.off - off) + f.lsb) f.width := by
  have hput : putField i off v nbytes s f = s.wr f (bits v (8 * (f.off - off) + f.lsb) f.width) i 0 := by
    rw [putField, hcnt]
    show (if _ then _ else _) = _
    rw [Nat.zero_mul, Nat.add_zero, if_pos (by simp [hoff, hend, hacc])]
    rfl
  rw [hput, State.rd_wr_same]
  exact Nat.mod_eq_of_lt (Nat.mod_lt _ (by positivity))

/-- Among the block's other fields, which lie apart from it, it keeps them. -/
theorem rd_putWords_same {f : Fld} (hb : b.fields.Pairwise Fld.Apart) (hf : f ∈ b.fields) (hcnt : f.cnt = 1) (hoff : off ≤ f.off)
    (hend : f.off + (f.lsb + f.width + 7) / 8 ≤ off + nbytes) (hacc : f.acc ≠ .wo) :
    (s.putWords b i off v nbytes).rd f i = bits v (8 * (f.off - off) + f.lsb) f.width := by
  obtain ⟨pre, post, hsplit⟩ := List.append_of_mem hf
  rw [hsplit] at hb
  have hpost : ∀ g ∈ post, f.Apart g := (List.pairwise_cons.mp (List.pairwise_append.mp hb).2.1).1
  rw [putWords_eq, hsplit, List.foldl_append, List.foldl_cons,
    rd_foldl_putField_ne fun g hg j hj => (hpost g hg).key_ne i (by omega) (by omega)]
  exact rd_putField_same hcnt hoff hend hacc

end

/-! ### The fields of a context -/

/-- The fields of LEASE lie apart. -/
theorem lease_fields_apart : Blk.lease.fields.Pairwise Fld.Apart := by decide +kernel

/-- They lie in the 256 bytes of their context. -/
theorem lease_fields_within : ∀ f ∈ Blk.lease.fields, f.blk = .lease ∧ f.lsb < 32 ∧ f.off + (f.cnt - 1) * f.sub < 0x100 := by
  decide +kernel

/-- So do their places in the register file. -/
theorem lease_key_within {f : Fld} (hf : f ∈ Blk.lease.fields) (n : Nat) {j : Nat} (hj : j < f.cnt) :
    (0x20400000 + n * 0x100) * 32 ≤ f.key n j ∧ f.key n j < (0x20400000 + (n + 1) * 0x100) * 32 := by
  obtain ⟨hb, hlsb, hoff⟩ := lease_fields_within f hf
  have hidx : j * f.sub ≤ (f.cnt - 1) * f.sub := Nat.mul_le_mul_right _ (by omega)
  have hinst : f.blk.inst n = 0x20400000 + n * 0x100 := by rw [hb]; rfl
  rw [Fld.key, Fld.addr, hinst]
  omega

/-- A field of one context is no field of another. -/
theorem lease_key_ne {f g : Fld} (hf : f ∈ Blk.lease.fields) (hg : g ∈ Blk.lease.fields) {n m j k : Nat} (hn : n ≠ m)
    (hj : j < f.cnt) (hk : k < g.cnt) : g.key m k ≠ f.key n j := by
  obtain ⟨hlo, hhi⟩ := lease_key_within hf n hj
  obtain ⟨hlo', hhi'⟩ := lease_key_within hg m hk
  omega

/-- The words of a context put back: NEXT_SEQ of that context is the one they hold, that of another is as it was. -/
theorem rd_nextSeq_putWords (s : State) (n a : Nat) :
    (s.putWords .lease n 0 (s.mem a 192) 192).rd LEASE_NEXT_SEQ n = s.mem (a + 0xB0) 8 :=
  (rd_putWords_same lease_fields_apart (by decide) rfl (by decide) (by decide) (by decide)).trans (bits_memLe s.bytes a 0xB0 8 8)

theorem rd_nextSeq_putWords_ne (s : State) {n m : Nat} (v : Nat) (h : n ≠ m) :
    (s.putWords .lease n 0 v 192).rd LEASE_NEXT_SEQ m = s.rd LEASE_NEXT_SEQ m :=
  rd_foldl_putField_ne fun _ hf _ hj => lease_key_ne hf (by decide) h hj (by decide)

/-! ### One context restored (R214) -/

/-- Putting words back changes the register file only. -/
theorem putWords_rest (s : State) (n : Nat) (b : Blk) (off v nbytes : Nat) :
    s.putWords b n off v nbytes = { s with regs := (s.putWords b n off v nbytes).regs } := foldl_putField_rest b.fields

/-- What was staged in a context is dropped. -/
def unstaged (s : State) (n : Nat) : State :=
  { s with staged := s.staged.filter (fun g => !(g.2.inst == n
    && decide (LEASE_CTRL_EN.key n 0 ≤ g.1) && decide (g.1 < LEASE_CTRL_EN.key (n + 1) 0))) }

/-- A context's words as its record holds them. -/
def contextWords (s : State) (base n : Nat) : State :=
  (unstaged s n).putWords .lease n 0 (s.mem (base + 0x40000 + n * 256) 192) 192

/-- Its registers as restored: those words, the sequences of the journal where they are later. -/
def contextRegs (s : State) (base n : Nat) : State :=
  let t := contextWords s base n
  (t.wr LEASE_NEXT_SEQ (max (s.rd LEASE_NEXT_SEQ n) (t.rd LEASE_NEXT_SEQ n)) n).wr LEASE_ACKED_SEQ
    (max (s.rd LEASE_ACKED_SEQ n) (t.rd LEASE_ACKED_SEQ n)) n

/-- What its hidden state is restored to. -/
def contextHidden (s : State) (base n : Nat) (l : LeaseSt) : LeaseSt :=
  let t := contextRegs s base n
  { l with
    restart := true
    prevDigest := if decide ((contextWords s base n).rd LEASE_NEXT_SEQ n < s.rd LEASE_NEXT_SEQ n) then (s.lease n).prevDigest
      else memBytes t.bytes (base + 0x40000 + n * 256 + 192) 48
    budChanged := false, budDis := t.rd LEASE_BUD_DIS_WH n, budChg := t.rd LEASE_BUD_CHG_WH n, closeFinal := false
    exhSusp := t.on LEASE_STATUS_SUSP n
      && (!(t.on LEASE_CTRL_SUSPEND n) || (t.on LEASE_STATUS_EXHAUSTED n && t.on LEASE_CTRL_EXH_ACTION n)) }

section
variable (s : State) (base n : Nat)

/-- A restored context: its registers, then its hidden state. -/
theorem restoreContext_eq : restoreContext s base n = (contextRegs s base n).updLease n (contextHidden s base n) := rfl

/-- The words put back change registers only, and what was staged. -/
theorem contextWords_rest : contextWords s base n = { unstaged s n with regs := (contextWords s base n).regs } :=
  putWords_rest (unstaged s n) n .lease 0 (s.mem (base + 0x40000 + n * 256) 192) 192

/-- So do all of its registers. -/
theorem contextRegs_rest : contextRegs s base n = { unstaged s n with regs := (contextRegs s base n).regs } := by
  have hrest := contextWords_rest s base n
  unfold contextRegs
  generalize contextWords s base n = t at hrest ⊢
  rw [hrest]
  rfl

/-- They are not the contexts' hidden state, nor memory. -/
theorem contextRegs_leases : (contextRegs s base n).leases = s.leases := by
  rw [contextRegs_rest]
  rfl
theorem contextRegs_bytes : (contextRegs s base n).bytes = s.bytes := by
  rw [contextRegs_rest]
  rfl

/-- The words hold the record's NEXT_SEQ. -/
theorem rd_nextSeq_contextWords : (contextWords s base n).rd LEASE_NEXT_SEQ n = s.mem (base + 0x40000 + n * 256 + 0xB0) 8 :=
  rd_nextSeq_putWords (unstaged s n) n _

/-- They leave NEXT_SEQ of another context. -/
theorem rd_nextSeq_contextWords_ne {m : Nat} (h : n ≠ m) : (contextWords s base n).rd LEASE_NEXT_SEQ m = s.rd LEASE_NEXT_SEQ m :=
  rd_nextSeq_putWords_ne (unstaged s n) (s.mem (base + 0x40000 + n * 256) 192) h

/-- So do all of its registers. -/
theorem rd_nextSeq_contextRegs_ne {m : Nat} (h : n ≠ m) : (contextRegs s base n).rd LEASE_NEXT_SEQ m = s.rd LEASE_NEXT_SEQ m := by
  unfold contextRegs
  dsimp only
  rw [State.rd_wr_ne _ _ _ _ _ _ _ _ (lease_key_ne (by decide) (by decide) h (by decide) (by decide)),
    State.rd_wr_ne _ _ _ _ _ _ _ _ (lease_key_ne (by decide) (by decide) h (by decide) (by decide))]
  exact rd_nextSeq_contextWords_ne s base n h

/-- A context's hidden state is no register. -/
theorem rd_updLease (f : LeaseSt → LeaseSt) (g : Fld) (i j : Nat) : (s.updLease n f).rd g i j = s.rd g i j := rfl

/-- So does the restored context. -/
theorem rd_nextSeq_restoreContext_ne {m : Nat} (h : n ≠ m) : (restoreContext s base n).rd LEASE_NEXT_SEQ m = s.rd LEASE_NEXT_SEQ m := by
  rw [restoreContext_eq, rd_updLease, rd_nextSeq_contextRegs_ne s base n h]

/-- The contexts' hidden state apart from that one's is as it was. -/
theorem lease_restoreContext_ne {m : Nat} (h : n ≠ m) : (restoreContext s base n).lease m = s.lease m := by
  rw [restoreContext_eq, State.lease_updLease, if_neg (Ne.symm h), State.lease, contextRegs_leases, State.lease]

/-- The context is restarted. -/
theorem restart_restoreContext : ((restoreContext s base n).lease n).restart = true := by
  rw [restoreContext_eq, State.lease_updLease, if_pos rfl]
  rfl

/-- It takes the record's digest where the journal has brought NEXT_SEQ no further. -/
theorem prevDigest_restoreContext (h : s.rd LEASE_NEXT_SEQ n ≤ s.mem (base + 0x40000 + n * 256 + 0xB0) 8) :
    ((restoreContext s base n).lease n).prevDigest = memBytes s.bytes (base + 0x40000 + n * 256 + 192) 48 := by
  have hlater : ¬ decide ((contextWords s base n).rd LEASE_NEXT_SEQ n < s.rd LEASE_NEXT_SEQ n) = true := by
    rw [decide_eq_true_iff, rd_nextSeq_contextWords]
    omega
  rw [restoreContext_eq, State.lease_updLease, if_pos rfl, contextHidden, if_neg hlater, contextRegs_bytes]

end

/-! ### All contexts restored -/

/-- Restoring contexts changes their registers and hidden state and nothing else that a restore reads. -/
structure ContextsRestored (s t : State) : Prop where
  entries : t.entries = s.entries
  bytes : t.bytes = s.bytes
  ldg : t.ldg = s.ldg

/-- Nothing restored. -/
theorem ContextsRestored.refl (s : State) : ContextsRestored s s := ⟨rfl, rfl, rfl⟩

/-- One context. -/
theorem contextsRestored_restoreContext {s t : State} (h : ContextsRestored s t) (base n : Nat) :
    ContextsRestored s (restoreContext t base n) := by
  have hrest := contextRegs_rest t base n
  rw [restoreContext_eq]
  generalize contextRegs t base n = u at hrest ⊢
  rw [hrest]
  exact ⟨h.entries, h.bytes, h.ldg⟩

/-- All of them in turn. -/
def restoreContexts (s : State) (base : Nat) : State := forN 256 (fun n s => restoreContext s base n) s

/-- They keep what one keeps. -/
theorem contextsRestored_all (s : State) (base : Nat) : ContextsRestored s (restoreContexts s base) :=
  forN_keeps (P := ContextsRestored s) (fun n _ h => contextsRestored_restoreContext h base n) 256 (.refl s)

/-- What restoring context n reads and sets is the same. -/
def SameContext (n : Nat) (s t : State) : Prop :=
  t.lease n = s.lease n ∧ t.rd LEASE_NEXT_SEQ n = s.rd LEASE_NEXT_SEQ n ∧ t.bytes = s.bytes

/-- Among all of them, each is restored as by itself. -/
theorem lease_restoreContexts (s : State) (base : Nat) {n : Nat} (hn : n < 256) :
    ∃ t, SameContext n s t ∧ (restoreContexts s base).lease n = (restoreContext t base n).lease n := by
  obtain ⟨t, hbefore, hafter⟩ := forN_split (R := SameContext n) (f := fun n s => restoreContext s base n) (fun _ => ⟨rfl, rfl, rfl⟩)
    (fun _ _ _ h k => ⟨k.1.trans h.1, k.2.1.trans h.2.1, k.2.2.trans h.2.2⟩) hn
    (fun k _ hk x => ⟨lease_restoreContext_ne x base k hk, rd_nextSeq_restoreContext_ne x base k hk,
      (contextsRestored_restoreContext (.refl x) base k).bytes⟩) s
  exact ⟨t, hbefore, hafter.1⟩

/-- Each is restarted. -/
theorem restart_restoreContexts (s : State) (base : Nat) {n : Nat} (hn : n < 256) :
    ((restoreContexts s base).lease n).restart = true := by
  obtain ⟨t, -, h⟩ := lease_restoreContexts s base hn
  rw [h, restart_restoreContext]

/-- Each takes its record's digest where the journal has brought NEXT_SEQ no further. -/
theorem prevDigest_restoreContexts (s : State) (base : Nat) {n : Nat} (hn : n < 256)
    (hseq : s.rd LEASE_NEXT_SEQ n ≤ s.mem (base + 0x40000 + n * 256 + 0xB0) 8) :
    ((restoreContexts s base).lease n).prevDigest = memBytes s.bytes (base + 0x40000 + n * 256 + 192) 48 := by
  obtain ⟨t, ⟨-, hnext, hbytes⟩, h⟩ := lease_restoreContexts s base hn
  have hread : t.rd LEASE_NEXT_SEQ n ≤ t.mem (base + 0x40000 + n * 256 + 0xB0) 8 := by
    rw [hnext, State.mem, hbytes]
    exact hseq
  rw [h, prevDigest_restoreContext t base n hread, hbytes]

/-! ### EC_ADJ of every cell restored -/

/-- One cell's EC_ADJ as its record holds it. -/
def restoreCell (base c : Nat) (s : State) : State :=
  s.updEntry c (fun e => { e with ecAdj := bit (s.mem (base + c * 64 + 3) 1) 0 })

/-- Cells restored leave the contexts' hidden state and the ledger's. -/
theorem leases_restoreCells (s : State) (base n : Nat) : (forN n (restoreCell base) s).leases = s.leases :=
  forN_keeps (P := fun t : State => t.leases = s.leases) (f := restoreCell base) (fun _ _ h => h) n rfl
theorem ldg_restoreCells (s : State) (base n : Nat) : (forN n (restoreCell base) s).ldg = s.ldg :=
  forN_keeps (P := fun t : State => t.ldg = s.ldg) (f := restoreCell base) (fun _ _ h => h) n rfl

/-- What restoring cell c reads and sets is the same. -/
def SameCell (c : Nat) (s t : State) : Prop := t.entry c = s.entry c ∧ t.bytes = s.bytes

/-- A restored cell leaves another's entry. -/
theorem sameCell_restoreCell (s : State) (base : Nat) {c k : Nat} (h : k ≠ c) : SameCell c s (restoreCell base k s) := by
  refine ⟨?_, rfl⟩
  rw [restoreCell, State.entry_updEntry, if_neg (Ne.symm h)]

/-- Every entry keeps all but EC_ADJ, which is as in its cell's record. -/
theorem entry_restoreCells (s : State) (base : Nat) {c : Nat} (hc : c < 4096) :
    (forN 4096 (restoreCell base) s).entry c = { s.entry c with ecAdj := bit (s.mem (base + c * 64 + 3) 1) 0 } := by
  obtain ⟨t, ⟨hentry, hbytes⟩, hafter, -⟩ := forN_split (R := SameCell c) (f := restoreCell base) (fun _ => ⟨rfl, rfl⟩)
    (fun _ _ _ h k => ⟨k.1.trans h.1, k.2.trans h.2⟩) hc (fun k _ hk x => sameCell_restoreCell x base hk) s
  rw [hafter, restoreCell, State.entry_updEntry, if_pos rfl, hentry, State.mem, hbytes, State.mem]

/-! ### Acknowledged pages released (R209) -/

/-- Contexts, entries and the state of the restore are as they were. -/
structure RestoreKept (s t : State) : Prop where
  entries : t.entries = s.entries
  leases : t.leases = s.leases
  restoring : t.ldg.restoring = s.ldg.restoring

/-- The journal's levels are registers. -/
theorem storeOnly_journalLevels (s : State) : StoreOnly s (journalLevels s) :=
  ((StoreOnly.forN (fun _ t => (((StoreOnly.refl t).wr ..).wr ..).wr ..) 3 s).wr ..).wr ..

/-- Each context, and each entry. -/
theorem RestoreKept.lease {s t : State} (h : RestoreKept s t) (n : Nat) : t.lease n = s.lease n := by
  rw [State.lease, h.leases, State.lease]
theorem RestoreKept.entry {s t : State} (h : RestoreKept s t) (c : Nat) : t.entry c = s.entry c := by
  rw [State.entry, h.entries, State.entry]

/-- What changes stores and registers leaves them. -/
theorem RestoreKept.storeOnly {s t u : State} (h : RestoreKept s t) (hu : StoreOnly t u) : RestoreKept s u := by
  obtain ⟨hentries, hleases, hrestoring⟩ := h
  refine ⟨?_, ?_, ?_⟩
  · rw [← hentries, hu]
  · rw [← hleases, hu]
  · rw [← hrestoring, hu]

/-- So does what changes the journal. -/
theorem RestoreKept.jrn {s t : State} (h : RestoreKept s t) (x : JrnSt) : RestoreKept s { t with jrn := x } :=
  ⟨h.entries, h.leases, h.restoring⟩

/-- Records of the journal marked as released, and the head of their ring moved up. -/
theorem RestoreKept.releaseWhere {s t : State} (h : RestoreKept s t) (r : Nat) (p : JrnRec → Bool) :
    RestoreKept s (releaseWhere t r p) := by
  unfold Machine.releaseWhere releaseHead
  exact ((h.jrn _).jrn _).storeOnly (storeOnly_journalLevels _)

/-- Pages of a context released. -/
theorem RestoreKept.releasePages {s t : State} (h : RestoreKept s t) (n q : Nat) : RestoreKept s (releasePages t n q) := by
  have hpages : RestoreKept s ((t.wr LEASE_ACKED_SEQ q n).updLdg
    (fun g => { g with pages := g.pages.filter (fun p => !(p.ctx == n && decide (p.seq ≤ q) && p.issued)) })) :=
    ⟨h.entries, h.leases, h.restoring⟩
  exact (hpages.releaseWhere RG_LEDGER _).storeOnly ((StoreOnly.refl _).wr ..)

/-! ### The restore completes (R214) -/

/-- A restore ends, the slots' words read and corrected as they would be while it is under way. -/
theorem mramScan_restored (s : State) (a n : Nat) :
    mramScan (s.updLdg (fun g => { g with restoring := false })) a n =
      (mramScan s a n).updLdg (fun g => { g with restoring := false }) := by
  have hldg : (mramScan s a n).ldg = s.ldg := by rw [(scanned_mramScan s a n).rest]
  unfold State.updLdg
  rw [mramScan_ldg, hldg]

/-- Pages of every context released as far as they are acknowledged. -/
def releaseAcked (s : State) : State := forN 256 (fun n s => releasePages s n (s.rd LEASE_ACKED_SEQ n)) s

/-- It keeps contexts and entries. -/
theorem restoreKept_releaseAcked (s : State) : RestoreKept s (releaseAcked s) :=
  forN_keeps (P := RestoreKept s) (fun n _ h => h.releasePages n _) 256 ⟨rfl, rfl, rfl⟩

/-- The registers show the generation restored and its capture time. -/
def showRestored (s : State) (gen ns : Nat) : State :=
  (((s.wr SYS_LDG_CKPT_GEN_GEN gen).wr SYS_LDG_LAST_CKPT_NS_NS ns).raise SYS_LDG_STATUS_RESTORED).updLdg
    (fun g => { g with gapFrom := some ns })

/-- Contexts and entries are as they were. -/
theorem RestoreKept.showRestored {s t : State} (h : RestoreKept s t) (gen ns : Nat) : RestoreKept s (showRestored t gen ns) :=
  ⟨h.entries, h.leases, h.restoring⟩

/-- GEN is the generation. -/
theorem rd_gen_showRestored (s : State) (gen ns : Nat) : (showRestored s gen ns).rd SYS_LDG_CKPT_GEN_GEN = gen % 2 ^ 64 := by
  show (((s.wr SYS_LDG_CKPT_GEN_GEN gen).wr SYS_LDG_LAST_CKPT_NS_NS ns).wr SYS_LDG_STATUS_RESTORED 1).rd SYS_LDG_CKPT_GEN_GEN = _
  rw [State.rd_wr_ne _ _ _ _ _ _ _ _ (by decide), State.rd_wr_ne _ _ _ _ _ _ _ _ (by decide), State.rd_wr_same]
  rfl

/-- RESTORED is set. -/
theorem on_restored_showRestored (s : State) (gen ns : Nat) : (showRestored s gen ns).on SYS_LDG_STATUS_RESTORED = true := by
  show (((s.wr SYS_LDG_CKPT_GEN_GEN gen).wr SYS_LDG_LAST_CKPT_NS_NS ns).wr SYS_LDG_STATUS_RESTORED 1).on SYS_LDG_STATUS_RESTORED = true
  rw [State.on, State.rd_wr_same]
  rfl

/-- Contexts and cells as a slot's records have them. -/
def restoreRecords (v : State) (base : Nat) : State :=
  forN 4096 (restoreCell base) (restoreContexts v base)

/-- What a restore makes of a generation. -/
def restoredFrom (v : State) (gen : Nat) : State :=
  showRestored (releaseAcked (restoreRecords v (slotBase v gen))) gen (v.ldg.ckptTimes.get 0 (gen % 4))

/-- The records' contexts and entries stay. -/
theorem restoreKept_restoredFrom (v : State) (gen : Nat) : RestoreKept (restoreRecords v (slotBase v gen)) (restoredFrom v gen) :=
  (restoreKept_releaseAcked _).showRestored ..

/-- The slots read and corrected, and the restore no longer under way. -/
def scannedSlots (s : State) : State :=
  (mramScan s (s.rd SYS_LDG_CKPT_BASE_ADDR) 0x140000).updLdg (fun g => { g with restoring := false })

/-- A restore that is under way completes with the newest valid generation, or with E_ECC. -/
theorem restoreComplete_eq {s : State} (h : s.ldg.restoring = true) :
    restoreComplete s = match newestGen (mramScan s (s.rd SYS_LDG_CKPT_BASE_ADDR) 0x140000) with
      | none => (scannedSlots s).recordErr SYS_LDG_ERR_CODE 0 E_ECC 0x300
      | some gen => offerAgain (restoredFrom (scannedSlots s) gen) := by
  have hbusy : ¬ (!s.ldg.restoring) = true := by rw [h]; decide
  unfold restoreComplete scannedSlots
  rw [if_neg hbusy, mramScan_restored]
  generalize mramScan s _ _ = v
  have hgen : newestGen (v.updLdg (fun g => { g with restoring := false })) = newestGen v := rfl
  dsimp only
  rw [hgen]
  cases newestGen v with
  | none => rfl
  | some gen => rfl

/-- Of one that is not under way nothing completes. -/
theorem restoreComplete_idle {s : State} (h : s.ldg.restoring = false) : restoreComplete s = s := if_pos (by rw [h]; rfl)

section
variable (v : State) (base : Nat)

/-- The cells leave the contexts. -/
theorem lease_restoreRecords (n : Nat) : (restoreRecords v base).lease n = (restoreContexts v base).lease n := by
  simp only [State.lease, restoreRecords, leases_restoreCells]

/-- Every context of the records is restarted. -/
theorem restart_restoreRecords {n : Nat} (hn : n < 256) : ((restoreRecords v base).lease n).restart = true := by
  rw [lease_restoreRecords, restart_restoreContexts v base hn]

/-- Each has its record's digest where the journal has brought NEXT_SEQ no further. -/
theorem prevDigest_restoreRecords {n : Nat} (hn : n < 256)
    (hseq : v.rd LEASE_NEXT_SEQ n ≤ v.mem (base + 0x40000 + n * 256 + 0xB0) 8) :
    ((restoreRecords v base).lease n).prevDigest = memBytes v.bytes (base + 0x40000 + n * 256 + 192) 48 := by
  rw [lease_restoreRecords, prevDigest_restoreContexts v base hn hseq]

/-- Each cell has its record's EC_ADJ. -/
theorem entry_restoreRecords {c : Nat} (hc : c < 4096) :
    (restoreRecords v base).entry c = { v.entry c with ecAdj := bit (v.mem (base + c * 64 + 3) 1) 0 } := by
  obtain ⟨hentries, hbytes, -⟩ := contextsRestored_all v base
  rw [restoreRecords, entry_restoreCells _ base hc, State.entry, hentries, State.entry, State.mem, hbytes, State.mem]

/-- The ledger's own state is as it was. -/
theorem ldg_restoreRecords : (restoreRecords v base).ldg = v.ldg := by
  rw [restoreRecords, ldg_restoreCells, (contextsRestored_all v base).ldg]

end

/-! ### What the scan of the slots leaves -/

/-- NEXT_SEQ of every context. -/
theorem rd_nextSeq_scannedSlots (s : State) (n : Nat) : (scannedSlots s).rd LEASE_NEXT_SEQ n = s.rd LEASE_NEXT_SEQ n := by
  refine (scanned_mramScan s (s.rd SYS_LDG_CKPT_BASE_ADDR) 0x140000).regs LEASE_NEXT_SEQ n 0 ?_
  have hkey := (lease_key_within (f := LEASE_NEXT_SEQ) (by decide) n (j := 0) (by decide)).1
  have hecc : JOURNAL_STATUS_ECC.key 0 0 < 0x20400000 * 32 := by decide
  rw [List.mem_singleton]
  omega

/-- The code of the ledger's refusals. -/
theorem rd_errCode_scannedSlots (s : State) : (scannedSlots s).rd SYS_LDG_ERR_CODE = s.rd SYS_LDG_ERR_CODE :=
  (scanned_mramScan s (s.rd SYS_LDG_CKPT_BASE_ADDR) 0x140000).regs SYS_LDG_ERR_CODE 0 0 (by decide)

/-- The entries, the contexts, and the ledger's own state but for the restore. -/
theorem scannedSlots_hidden (s : State) : (scannedSlots s).entries = s.entries ∧ (scannedSlots s).leases = s.leases ∧
    (scannedSlots s).ldg = { s.ldg with restoring := false } := by
  have hrest := (scanned_mramScan s (s.rd SYS_LDG_CKPT_BASE_ADDR) 0x140000).rest
  unfold scannedSlots
  generalize mramScan s _ _ = v at hrest ⊢
  rw [hrest]
  exact ⟨rfl, rfl, rfl⟩

end Sys2Proof.Machine

/-!
Restores, and checkpoints as a whole (R212 to R214).
-/
namespace Sys2Proof.Machine

section
variable {s : State} {gen : Nat}

/-- A restore from the newest valid generation. -/
theorem restoreComplete_valid (hc : clocked s = true) (h : s.ldg.restoring = true)
    (hgen : newestGen (mramScan s (s.rd SYS_LDG_CKPT_BASE_ADDR) 0x140000) = some gen) :
    let v := mramScan s (s.rd SYS_LDG_CKPT_BASE_ADDR) 0x140000
    ∃ u, exec .restoreComplete s = .next (offerAgain u) ∧
      u.rd SYS_LDG_CKPT_GEN_GEN = gen % 2 ^ 64 ∧ u.on SYS_LDG_STATUS_RESTORED = true ∧ u.ldg.restoring = false ∧
      (∀ n, n < 256 → (u.lease n).restart = true) ∧
      (∀ n, n < 256 → s.rd LEASE_NEXT_SEQ n ≤ v.mem (slotBase v gen + 0x40000 + n * 256 + 0xB0) 8 →
        (u.lease n).prevDigest = memBytes v.bytes (slotBase v gen + 0x40000 + n * 256 + 192) 48) ∧
      (∀ c, c < 4096 → u.entry c = { s.entry c with ecAdj := bit (v.mem (slotBase v gen + c * 64 + 3) 1) 0 }) := by
  obtain ⟨hentries, -, hldg⟩ := scannedSlots_hidden s
  have hkept := restoreKept_restoredFrom (scannedSlots s) gen
  have hrestore := restoreComplete_eq h
  rw [hgen] at hrestore
  refine ⟨_, (exec_onFab hc rfl).trans (congrArg _ hrestore), rd_gen_showRestored .., on_restored_showRestored .., ?_,
    fun n hn => ?_, fun n hn hseq => ?_, fun c hc => ?_⟩
  · rw [hkept.restoring, ldg_restoreRecords, hldg]
  · rw [hkept.lease, restart_restoreRecords _ _ hn]
  · rw [← rd_nextSeq_scannedSlots] at hseq
    rw [hkept.lease]
    exact prevDigest_restoreRecords (scannedSlots s) _ hn hseq
  · rw [hkept.entry, entry_restoreRecords _ _ hc, State.entry, hentries]
    rfl

/-- Without a valid generation: E_ECC, and no entry or context changes. -/
theorem restoreComplete_invalid (hc : clocked s = true) (h : s.ldg.restoring = true)
    (hgen : newestGen (mramScan s (s.rd SYS_LDG_CKPT_BASE_ADDR) 0x140000) = none) (herr : s.rd SYS_LDG_ERR_CODE = 0) :
    ∃ t, exec .restoreComplete s = .next t ∧ t.rd SYS_LDG_ERR_CODE = E_ECC ∧ t.entries = s.entries ∧ t.leases = s.leases ∧
      t.ldg = { s.ldg with restoring := false } ∧ t.bytes = (mramScan s (s.rd SYS_LDG_CKPT_BASE_ADDR) 0x140000).bytes := by
  obtain ⟨hentries, hleases, hldg⟩ := scannedSlots_hidden s
  obtain ⟨hrest, -, hfirst, -⟩ := recordErr_leaves (scannedSlots s) (f := SYS_LDG_ERR_CODE) rfl rfl 0 0x300 (code := E_ECC) (by decide)
  have hcode := (hfirst ((rd_errCode_scannedSlots s).trans herr)).1
  have hrestore := restoreComplete_eq h
  rw [hgen] at hrestore
  refine ⟨_, (exec_onFab hc rfl).trans (congrArg _ hrestore), hcode, ?_, ?_, ?_, ?_⟩
  · rw [hrest, hentries]
  · rw [hrest, hleases]
  · rw [hrest, hldg]
  · rw [hrest]
    rfl

end

/-- Settles O43: the timer and CKPT_NOW, the capture, the write, and the restore. -/
theorem checkpoints : Obligations.Checkpoints := by
  intro s req good gen v
  refine ⟨fun hc hdue hbusy hrun => ?_, fun hc hdue hbusy hrun => ?_, checkpointTimer_busy, ckptNow_waits, ckptNow_captures,
    checkpointComplete_good, checkpointComplete_failed, checkpointComplete_idle good, exec_ldgRestore, restoreComplete_valid,
    restoreComplete_invalid, fun hc h => (exec_onFab hc rfl).trans (congrArg _ (restoreComplete_idle h))⟩
  · rw [checkpointTimer_asks hc hdue hbusy, ckptRequest_running hrun]
  · rw [checkpointTimer_asks hc hdue hbusy, ckptRequest_stopped hrun]
    exact ⟨_, rfl, ckptCapture_leaves s s.ns⟩

end Sys2Proof.Machine

/-!
A scan whose range has been read, and SCAN_ECC_STOP (R234).
-/
namespace Sys2Proof.Machine

/-! ### A line behind the last byte read -/

/-- A scan of the first 32 bytes of Cupola has read all of them and its end has not come; their line has since become
uncorrectable. -/
def scanRead : State :=
  { (State.reset.wr SYS_CLK_STATUS_LOCK 1).wr SCAN_STATUS_BUSY 1 with
    scan := { addr := 32, left := 0, total := 32 }
    lineChk := [(0, [])] }

/-- No line remains to be read, so none stops the scan. -/
theorem scanStop_scanRead_busy : (scanStop scanRead).on SCAN_STATUS_BUSY = true := by decide +kernel

/-- Refutes O45: its clause on the stop counts the line of the next byte as one of the range even where no byte remains, and in
`scanRead` that line, read before it became uncorrectable, stops nothing. -/
theorem not_scanEngine : ¬ Obligations.ScanEngine := by
  unfold Obligations.ScanEngine
  intro h
  obtain ⟨-, -, -, -, -, hstop, -⟩ := h scanRead .host 0
  obtain ⟨t, hexec, hbusy, -⟩ := hstop (by decide +kernel) (by decide +kernel) (by decide) (by decide) (by decide) (by decide +kernel)
    (fun _ => Nat.zero_lt_two) (fun a _ ha => absurd ha (Nat.not_lt_zero a))
  rw [exec_onFab (by decide +kernel) rfl] at hexec
  rw [← Host.Outcome.next.inj hexec, scanStop_scanRead_busy] at hbusy
  exact absurd hbusy (by decide)

end Sys2Proof.Machine

/-!
SUPPORT. The lines of the memories: lists with entries left out, a number counted, the reports of a line read (R219 to R223).
-/
namespace Sys2Proof.Machine

/-! ### Lists with entries left out -/

/-- A byte of a memory of which only the addresses that a test selects are kept. -/
theorem memGet_filter (p : Nat → Bool) (m : List Host.Cell) (a : Nat) :
    memGet (m.filter fun c => p c.1) a = if p a then memGet m a else memDefault := by
  induction m with
  | nil => simp [memGet]
  | cons c m ih =>
    obtain ⟨k, v⟩ := c
    by_cases hk : a = k
    · subst hk
      cases hp : p a <;> simp [hp, memGet, ih]
    · cases hp : p k <;> simp [hp, memGet, hk, ih]

/-- An entry of a table of which only the keys that a test selects are kept. -/
theorem findKey_filter {α : Type} (p : Nat → Bool) (m : Sp α) (k : Nat) :
    findKey (m.filter fun q => p q.1) k = if p k then findKey m k else none := by
  induction m with
  | nil => simp [findKey]
  | cons q m ih =>
    obtain ⟨j, v⟩ := q
    by_cases hk : k = j
    · subst hk
      cases hp : p k <;> simp [hp, findKey, ih]
    · cases hp : p j <;> simp [hp, findKey, hk, ih]

/-- Bytes stored read back, cut to bytes. -/
theorem memBytes_memPutBytes {m : List Host.Cell} (h : Memory.wf m = true) (a : Nat) (bs : List Nat) :
    memBytes (memPutBytes m a bs) a bs.length = bs.map (· % 256) := by
  induction bs generalizing m a with
  | nil => rfl
  | cons b bs ih =>
    have hfirst : memGet (memPutBytes m a (b :: bs)) a = BitVec.ofNat 8 b := memGet_memPutBytes h a (k := 0) rfl
    rw [List.length_cons, memBytes, hfirst, memPutBytes, ih (memSet_wf m a _ h) (a + 1), List.map_cons, BitVec.toNat_ofNat]

/-! ### Fields raised and counted -/

/-- A field of one bit that was set reads 1. -/
theorem on_raise {f : Fld} (h : f.width = 1) (s : State) (i j : Nat) : (s.raise f i j).on f i j = true := by
  rw [State.raise, State.on, State.rd_wr_same, h]
  rfl

/-- One that was cleared reads 0. -/
theorem on_clear (s : State) (f : Fld) (i j : Nat) : (s.clear f i j).on f i j = false := by
  rw [State.clear, State.on, State.rd_wr_same, Nat.zero_mod]
  rfl

/-- A saturating counter after a count. -/
theorem rd_countSat (s : State) (f : Fld) (i j n : Nat) : (s.countSat f i j n).rd f i j = satU f.width (s.rd f i j + n) := by
  have hlt : satU f.width (s.rd f i j + n) < 2 ^ f.width :=
    Nat.lt_of_le_of_lt (Nat.min_le_right ..) (Nat.sub_lt (Nat.two_pow_pos _) Nat.one_pos)
  rw [State.countSat, State.rd_wr_same, Nat.mod_eq_of_lt hlt]

/-! ### Changes of register fields alone -/

/-- From s to t only the register file can differ. -/
def FieldsOnly (s t : State) : Prop := t = { s with regs := t.regs }

section
variable {s t u : State}

/-- Nothing changed. -/
theorem FieldsOnly.refl (s : State) : FieldsOnly s s := rfl

/-- One change after another. -/
theorem FieldsOnly.trans (h : FieldsOnly s t) (hu : FieldsOnly t u) : FieldsOnly s u := by
  unfold FieldsOnly at h hu ⊢
  rw [h] at hu
  exact hu

/-- A field written. -/
theorem FieldsOnly.wr (h : FieldsOnly s t) (f : Fld) (v i j : Nat) : FieldsOnly s (t.wr f v i j) := h.trans rfl

/-- Either branch. -/
theorem FieldsOnly.ite {c : Prop} [Decidable c] (ht : FieldsOnly s t) (hu : FieldsOnly s u) : FieldsOnly s (if c then t else u) := by
  split <;> assumption

/-- The naturals below n taken in order. -/
theorem FieldsOnly.forN {f : Nat → State → State} (hf : ∀ i t, FieldsOnly t (f i t)) (n : Nat) (s : State) :
    FieldsOnly s (forN n f s) :=
  forN_keeps (P := FieldsOnly s) (fun i t h => h.trans (hf i t)) n (.refl s)

end

/-! ### The log of a memory (R223) -/

/-- The channel whose registers report on a memory, 0 where it has none. -/
def Mem.inst : Mem → Nat
  | .dram c => c
  | _ => 0

/-- The fields that an event of a memory is logged in. -/
def logFields : Mem → List Fld
  | .cupola => [SYS_CUP_STATUS_LOG_VALID, SYS_CUP_LOG_ADDR_ADDR, SYS_CUP_LOG_INFO_KIND, SYS_CUP_LOG_INFO_NSYM, SYS_CUP_LOG_INFO_FIRST,
      SYS_CUP_LOG_INFO_LAST, SYS_CUP_LOG_INFO_SCRUB]
  | .dram _ => [MEMC_STATUS_LOG_VALID, MEMC_LOG_ADDR_ADDR, MEMC_LOG_INFO_KIND, MEMC_LOG_INFO_NSYM, MEMC_LOG_INFO_FIRST,
      MEMC_LOG_INFO_LAST, MEMC_LOG_INFO_SCRUB]
  | .mram => []

/-- A field apart from the log of the first channel is apart from that of every channel. -/
theorem apart_logFields_dram {f : Fld} (h : ∀ g ∈ logFields (.dram 0), f.Apart g) (c : Nat) : ∀ g ∈ logFields (.dram c), f.Apart g := h

section
variable (s : State) (m : Mem) (a : Nat) (unc scrub : Bool) (syms : List Nat)

/-- Logging an event changes register fields only. -/
theorem fieldsOnly_logEvent : FieldsOnly s (logEvent s m a unc scrub syms) := by
  cases m with
  | cupola | dram => exact .ite rfl rfl
  | mram => rfl

/-- A field apart from those is as it was. -/
theorem rd_logEvent {f : Fld} (h : ∀ g ∈ logFields m, f.Apart g) :
    (logEvent s m a unc scrub syms).rd f m.inst = s.rd f m.inst := by
  cases m with
  | mram => rfl
  | cupola | dram =>
    unfold logEvent
    dsimp only
    split
    · rfl
    · iterate 7 refine (rd_wr_ring_ne (h _ (by simp [logFields])) _ _ _).trans ?_
      rfl

end

/-! ### A line corrected (R221) -/

/-- What a line holds once corrected. -/
def correctedData (s : State) (line : Nat) (es : List (Nat × Nat)) : List Nat := (correctWith (storedWord s line) es).take 64

/-- Corrections keep the length of a word. -/
theorem length_correctWith (c : List Nat) (es : List (Nat × Nat)) : (correctWith c es).length = c.length := by
  unfold correctWith
  induction es generalizing c with
  | nil => rfl
  | cons e es ih => rw [List.foldl_cons, ih, List.length_set]

/-- The number of bytes read. -/
theorem length_memBytes (m : List Host.Cell) (a n : Nat) : (memBytes m a n).length = n := by
  induction n generalizing a with
  | zero => rfl
  | succ n ih => rw [memBytes, List.length_cons, ih]

/-- A line holds 64 bytes. -/
theorem length_correctedData (s : State) (line : Nat) (es : List (Nat × Nat)) : (correctedData s line es).length = 64 := by
  rw [correctedData, List.length_take, length_correctWith, storedWord, List.length_append, length_memBytes]
  omega

section
variable (s : State) (line : Nat) (es : List (Nat × Nat)) (scrub : Bool)

/-- A symbol counted with its device. -/
def countDevice (syms : List Nat) (c d : Nat) (s : State) : State :=
  if syms.any (fun x => x / 8 == d) then s.countSat MEMC_DEV_CE_COUNT c d else s

/-- A correction: the line stored afresh, then the event in the registers. -/
theorem fieldsOnly_corrected (m : Mem) :
    FieldsOnly (writeLine s (line * 64) (correctedData s line es)) (corrected s m line es scrub) := by
  have hlog := fieldsOnly_logEvent (writeLine s (line * 64) (correctedData s line es)) m (line * 64) false scrub (es.map (·.1))
  cases m with
  | cupola => exact (hlog.wr ..).wr ..
  | dram c =>
    refine FieldsOnly.trans ((hlog.wr ..).wr ..) (.forN (f := countDevice (es.map (·.1)) c) (fun d t => ?_) 9 _)
    exact .ite ((FieldsOnly.refl t).wr ..) (.refl t)
  | mram => exact hlog

/-- A correction in Cupola is reported and counted. -/
theorem corrected_cupola_counts : (corrected s .cupola line es scrub).on SYS_CUP_STATUS_CE = true ∧
    (corrected s .cupola line es scrub).rd SYS_CUP_CE_CNT_COUNT = satU 32 (s.rd SYS_CUP_CE_CNT_COUNT + 1) := by
  have hlog := rd_logEvent (writeLine s (line * 64) (correctedData s line es)) .cupola (line * 64) false scrub (es.map (·.1))
    (f := SYS_CUP_CE_CNT_COUNT) (by decide)
  generalize hv : logEvent (writeLine s (line * 64) (correctedData s line es)) .cupola (line * 64) false scrub (es.map (·.1)) = v at hlog
  have heq : corrected s .cupola line es scrub = (v.raise SYS_CUP_STATUS_CE).countSat SYS_CUP_CE_CNT_COUNT := by rw [← hv]; rfl
  rw [heq]
  refine ⟨?_, ?_⟩
  · rw [State.countSat, State.on, rd_wr_ring_ne (by decide)]
    exact on_raise rfl v 0 0
  · rw [rd_countSat, State.raise, rd_wr_ring_ne (by decide)]
    exact congrArg (fun n => satU 32 (n + 1)) hlog

/-- A correction in a channel of DRAM is reported and counted. -/
theorem corrected_dram_counts (c : Nat) : (corrected s (.dram c) line es scrub).on MEMC_STATUS_CE c = true ∧
    (corrected s (.dram c) line es scrub).rd MEMC_CE_CNT_COUNT c = satU 32 (s.rd MEMC_CE_CNT_COUNT c + 1) := by
  have hlog := rd_logEvent (writeLine s (line * 64) (correctedData s line es)) (.dram c) (line * 64) false scrub (es.map (·.1))
    (f := MEMC_CE_CNT_COUNT) (apart_logFields_dram (by decide) c)
  generalize hv : logEvent (writeLine s (line * 64) (correctedData s line es)) (.dram c) (line * 64) false scrub (es.map (·.1)) = v
    at hlog
  have hdev {f : Fld} (h : f.Apart MEMC_DEV_CE_COUNT) (t : State) : (forN 9 (countDevice (es.map (·.1)) c) t).rd f c = t.rd f c := by
    refine forN_keeps_lt (P := fun x : State => x.rd f c = t.rd f c) (fun d hd x hx => ?_) rfl
    unfold countDevice
    split
    · exact (State.rd_wr_ne _ _ _ _ _ _ _ _ (h.key_ne c (Nat.zero_le _) (Nat.le_of_lt_succ hd))).trans hx
    · exact hx
  have heq : corrected s (.dram c) line es scrub =
      forN 9 (countDevice (es.map (·.1)) c) ((v.raise MEMC_STATUS_CE c).countSat MEMC_CE_CNT_COUNT c) := by rw [← hv]; rfl
  rw [heq, State.on, hdev (by decide), hdev (by decide)]
  refine ⟨?_, ?_⟩
  · rw [State.countSat, rd_wr_ring_ne (by decide)]
    exact on_raise rfl v c 0
  · rw [rd_countSat, State.raise, rd_wr_ring_ne (by decide)]
    exact congrArg (fun n => satU 32 (n + 1)) hlog

end

/-! ### CH_FAIL and the queues (R222, R255) -/

/-- A queue emptied changes register fields and queues only. -/
theorem queueClear_rest (s : State) (k : Nat) :
    queueClear s k = { s with regs := (queueClear s k).regs, queues := (queueClear s k).queues } := rfl

/-- The places below the queues' registers are as they were. -/
theorem rd_queueClear {f : Fld} {i j : Nat} (h : f.key i j < 0x20500000 * 32) (s : State) (k : Nat) :
    (queueClear s k).rd f i j = s.rd f i j := by
  have hkey {g : Fld} (hg : g.blk = .queue) : f.key i j ≠ g.key k 0 := by
    simp only [Fld.key, Fld.addr, Blk.inst, hg, Blk.base, Blk.stride] at h ⊢
    simp only [reduceCtorEq, if_false]
    omega
  unfold queueClear queueStatus
  iterate 7 refine (State.rd_wr_ne _ _ _ _ _ _ _ _ (hkey rfl)).trans ?_
  rfl

/-- A queue after one was emptied. -/
theorem queue_queueClear (s : State) (k n : Nat) : (queueClear s k).queue n =
    if n = k then { pushTag := (s.queue k).pushTag, pushLo := (s.queue k).pushLo } else s.queue n := Sp.get_set ..

section
variable (s : State) (c : Nat)

/-- CH_FAIL changes register fields and queues only. -/
theorem enterChFail_rest :
    enterChFail s c = { s with regs := (enterChFail s c).regs, queues := (enterChFail s c).queues } :=
  forN_keeps (P := fun t : State => t = { s with regs := t.regs, queues := t.queues }) (f := fun k s => queueClear s k)
    (fun k t ht => by rw [queueClear_rest, ht]) 32 rfl

/-- Of the places below the queues' it changes CH_FAIL. -/
theorem rd_enterChFail {f : Fld} {i j : Nat} (h : f.key i j < 0x20500000 * 32) :
    (enterChFail s c).rd f i j = (s.raise MEMC_STATUS_CH_FAIL c).rd f i j :=
  forN_keeps (P := fun t : State => t.rd f i j = (s.raise MEMC_STATUS_CH_FAIL c).rd f i j) (f := fun k s => queueClear s k)
    (fun k t ht => (rd_queueClear h t k).trans ht) 32 rfl

/-- Every queue is empty. -/
theorem queue_enterChFail {k : Nat} (hk : k < 32) : ((enterChFail s c).queue k).all = [] ∧ ((enterChFail s c).queue k).visible = 0 := by
  obtain ⟨t, -, hend⟩ := forN_split (R := fun x y : State => y.queue k = x.queue k) (fun _ => rfl) (fun _ _ _ h g => g.trans h)
    (f := fun k s => queueClear s k) hk (fun n _ hn x => (queue_queueClear x n k).trans (if_neg (Ne.symm hn)))
    (s.raise MEMC_STATUS_CH_FAIL c)
  have hqueue : (enterChFail s c).queue k = _ := hend.trans (queue_queueClear t k k)
  rw [hqueue, if_pos rfl]
  exact ⟨rfl, rfl⟩

end

/-! ### A line that is uncorrectable (R221 to R223) -/

/-- A field of a channel of DRAM lies below the queues'. -/
theorem key_memc_lt {f : Fld} (hf : f.blk = .memc ∧ f.off < 0x8000 ∧ f.lsb < 32) {c : Nat} (hc : c < 2) :
    f.key c 0 < 0x20500000 * 32 := by
  obtain ⟨hb, ho, hl⟩ := hf
  simp only [Fld.key, Fld.addr, Blk.inst, hb, Blk.base, Blk.stride]
  simp only [reduceCtorEq, if_false]
  omega

section
variable (s : State) (line : Nat) (scrub : Bool)

/-- An uncorrectable line of Cupola is reported and counted, nothing else changes. -/
theorem uncorrected_cupola : FieldsOnly s (uncorrected s .cupola line scrub) ∧ (uncorrected s .cupola line scrub).on SYS_CUP_STATUS_UE = true ∧
    (uncorrected s .cupola line scrub).rd SYS_CUP_UE_CNT_COUNT = satU 32 (s.rd SYS_CUP_UE_CNT_COUNT + 1) := by
  have hfields := fieldsOnly_logEvent s .cupola (line * 64) true scrub []
  have hlog := rd_logEvent s .cupola (line * 64) true scrub [] (f := SYS_CUP_UE_CNT_COUNT) (by decide)
  generalize hv : logEvent s .cupola (line * 64) true scrub [] = v at hfields hlog
  have heq : uncorrected s .cupola line scrub = (v.raise SYS_CUP_STATUS_UE).countSat SYS_CUP_UE_CNT_COUNT := by rw [← hv]; rfl
  rw [heq]
  refine ⟨(hfields.wr ..).wr .., ?_, ?_⟩
  · rw [State.countSat, State.on, rd_wr_ring_ne (by decide)]
    exact on_raise rfl v 0 0
  · rw [rd_countSat, State.raise, rd_wr_ring_ne (by decide)]
    exact congrArg (fun n => satU 32 (n + 1)) hlog

/-- An uncorrectable line of a channel of DRAM is reported and counted; at UE_LIMIT the channel goes into CH_FAIL. -/
theorem uncorrected_dram {c : Nat} (hc : c < 2) :
    let t := uncorrected s (.dram c) line scrub
    t.bytes = s.bytes ∧ t.lineChk = s.lineChk ∧ t.on MEMC_STATUS_UE c = true ∧
      t.rd MEMC_UE_CNT_COUNT c = satU 32 (s.rd MEMC_UE_CNT_COUNT c + 1) ∧
      (s.rd MEMC_CFG_UE_LIMIT c ≤ (s.mems.get {} c).passUe + 1 → t.on MEMC_STATUS_CH_FAIL c = true) := by
  have hfields := fieldsOnly_logEvent s (.dram c) (line * 64) true scrub []
  have hcount := rd_logEvent s (.dram c) (line * 64) true scrub [] (f := MEMC_UE_CNT_COUNT) (apart_logFields_dram (by decide) c)
  have hlimit := rd_logEvent s (.dram c) (line * 64) true scrub [] (f := MEMC_CFG_UE_LIMIT) (apart_logFields_dram (by decide) c)
  generalize hv : logEvent s (.dram c) (line * 64) true scrub [] = v at hfields hcount hlimit
  have hmems : v.mems = s.mems := by rw [hfields]
  generalize hw : ({ (v.raise MEMC_STATUS_UE c).countSat MEMC_UE_CNT_COUNT c with
    mems := s.mems.set c { s.mems.get {} c with passUe := (s.mems.get {} c).passUe + 1 } } : State) = w
  have hregs : w.regs = ((v.raise MEMC_STATUS_UE c).countSat MEMC_UE_CNT_COUNT c).regs := by rw [← hw]
  have hrd (f : Fld) : w.rd f c = ((v.raise MEMC_STATUS_UE c).countSat MEMC_UE_CNT_COUNT c).rd f c := by rw [State.rd, hregs, State.rd]
  have hbytes : w.bytes = s.bytes ∧ w.lineChk = s.lineChk := by
    have hv' : v.bytes = s.bytes ∧ v.lineChk = s.lineChk := by rw [hfields]; exact ⟨rfl, rfl⟩
    rw [← hw]
    exact hv'
  have hue : w.on MEMC_STATUS_UE c = true := by
    rw [State.on, hrd, State.countSat, rd_wr_ring_ne (by decide)]
    exact on_raise rfl v c 0
  have hcnt : w.rd MEMC_UE_CNT_COUNT c = satU 32 (s.rd MEMC_UE_CNT_COUNT c + 1) := by
    rw [hrd, rd_countSat, State.raise, rd_wr_ring_ne (by decide)]
    exact congrArg (fun n => satU 32 (n + 1)) hcount
  have hlim : w.rd MEMC_CFG_UE_LIMIT c = s.rd MEMC_CFG_UE_LIMIT c := by
    rw [hrd, State.countSat, rd_wr_ring_ne (by decide), State.raise, rd_wr_ring_ne (by decide)]
    exact hlimit
  have heq : uncorrected s (.dram c) line scrub =
      if s.rd MEMC_CFG_UE_LIMIT c ≤ (s.mems.get {} c).passUe + 1 then enterChFail w c else w := by
    rw [← hlim, ← hw, ← hmems, ← hv]
    rfl
  dsimp only
  rw [heq]
  split
  case isFalse h => exact ⟨hbytes.1, hbytes.2, hue, hcnt, fun hle => absurd hle h⟩
  case isTrue =>
    have hfail {f : Fld} (hf : f.blk = .memc ∧ f.off < 0x8000 ∧ f.lsb < 32) :
        (enterChFail w c).rd f c = (w.raise MEMC_STATUS_CH_FAIL c).rd f c := rd_enterChFail w c (key_memc_lt hf hc)
    refine ⟨?_, ?_, ?_, ?_, fun _ => ?_⟩
    · rw [enterChFail_rest, hbytes.1]
    · rw [enterChFail_rest, hbytes.2]
    · rw [State.on, hfail (by decide), State.raise, rd_wr_ring_ne (by decide)]
      exact hue
    · rw [hfail (by decide), State.raise, rd_wr_ring_ne (by decide)]
      exact hcnt
    · rw [State.on, hfail (by decide)]
      exact on_raise rfl w c 0

end

end Sys2Proof.Machine

/-!
The scrubbers (R222): the patrol's request, its line read, and the commands of the memory engines (R218, R222, R233).
-/
namespace Sys2Proof.Machine

/-! ### A line decoded (R220 to R222) -/

section
variable {s : State} {m : Mem} {line : Nat} {scrub : Bool}

/-- In CH_FAIL nothing is read. -/
theorem decodeLine_chFail (h : chFail s (line * 64) = true) : (decodeLine s m line scrub).1 = s := by
  rw [decodeLine, if_pos h]

/-- A codeword leaves no report. -/
theorem decodeLine_good (h : chFail s (line * 64) = false) (hca : (caRetry s m).2 = false)
    (hfix : lineFixes (caRetry s m).1 line = some []) : (decodeLine s m line scrub).1 = (caRetry s m).1 := by
  simp [decodeLine, h, hca, hfix]

/-- A line within reach of a codeword is corrected. -/
theorem decodeLine_corrects {es : List (Nat × Nat)} (h : chFail s (line * 64) = false) (hca : (caRetry s m).2 = false)
    (hfix : lineFixes (caRetry s m).1 line = some es) (hne : es ≠ []) :
    (decodeLine s m line scrub).1 = corrected (caRetry s m).1 m line es scrub := by
  obtain ⟨e, es, rfl⟩ := List.exists_cons_of_ne_nil hne
  simp [decodeLine, h, hca, hfix]

/-- Any other is reported. -/
theorem decodeLine_fails (h : chFail s (line * 64) = false) (hfix : lineFixes (caRetry s m).1 line = none) :
    (decodeLine s m line scrub).1 = uncorrected (caRetry s m).1 m line scrub := by
  unfold decodeLine
  rw [if_neg (by simp [h])]
  dsimp only
  split
  · rfl
  · rw [hfix]

/-- A retry changes the errors to come of one channel. -/
theorem caRetry_rest (s : State) (m : Mem) : (caRetry s m).1 = { s with mems := (caRetry s m).1.mems } := by
  cases m <;> rfl

/-- The line and the count of each scrubber are as they were. -/
theorem mems_caRetry (s : State) (m : Mem) (i : Nat) : ((caRetry s m).1.mems.get {} i).line = (s.mems.get {} i).line ∧
    ((caRetry s m).1.mems.get {} i).passUe = (s.mems.get {} i).passUe := by
  cases m with
  | cupola | mram => exact ⟨rfl, rfl⟩
  | dram c =>
    simp only [caRetry, Sp.get_set]
    split
    · next h => subst h; exact ⟨rfl, rfl⟩
    · exact ⟨rfl, rfl⟩

end

/-! ### The lines of a scrubber (R218, R222) -/

/-- The memory of a scrubber. -/
def scrubMem (i : Nat) : Mem := if i < 2 then .dram i else .cupola

/-- The clocks between its reads. -/
def patrolInterval (s : State) (i : Nat) : Nat := if i < 2 then s.rd MEMC_SCRUB_INT i else s.rd SYS_CUP_SCRUB_INT

/-- The line it reads next. -/
def patrolLine (s : State) (i : Nat) : Nat := scrubAddr i (s.mems.get {} i).line

/-- A scrubber's line lies in its memory. -/
theorem memOf_scrubAddr {i line : Nat} (hi : i < 3) (hl : line < scrubLines i) : memOf (scrubAddr i line * 64) = some (scrubMem i) := by
  unfold scrubLines at hl
  unfold memOf scrubAddr scrubMem
  by_cases h : i < 2
  · rw [if_pos h] at hl
    have haddr : ((0x800000000 + (line / 64 * 2 + i) * 4096) / 64 + line % 64) * 64 =
        0x800000000 + (line / 64 * 2 + i) * 4096 + line % 64 * 64 := by omega
    have hch : (0x800000000 + (line / 64 * 2 + i) * 4096 + line % 64 * 64 - 0x800000000) / 4096 % 2 = i := by omega
    rw [if_pos h, if_pos h, haddr, hch, if_neg (by omega), if_neg (by simp; omega), if_pos (by simp; omega)]
  · rw [if_neg h] at hl
    rw [if_neg h, if_neg h, if_pos (by omega)]

/-- The resource of a scrubber's line is one that it uses. -/
theorem usesResource_scrub {i line r : Nat} (hi : i < 3) (hl : line < scrubLines i) (hr : resourceOf (scrubAddr i line * 64) = some r) :
    usesResource (scrubReq i) r = true := by
  rw [resourceOf, memOf_scrubAddr hi hl] at hr
  obtain rfl | rfl | rfl : i = 0 ∨ i = 1 ∨ i = 2 := by omega
  · obtain rfl : 32 + 0 = r := Option.some.inj hr
    rfl
  · obtain rfl : 32 + 1 = r := Option.some.inj hr
    rfl
  · obtain rfl : scrubAddr 2 line * 64 / 64 % 32 = r := Option.some.inj hr
    exact decide_eq_true (Nat.mod_lt _ (by decide))

/-! ### The patrol's request (R222, R237) -/

/-- The request of a patrol read. -/
def patrolReq (s : State) (i : Nat) : BelReq := { req := scrubReq i, edge := s.fab + patrolInterval s i, total := 1 }

/-- The state once its interval has passed. -/
def patrolDue (s : State) (i : Nat) : State := s.edges (patrolInterval s i)

/-- A grant covers one granule at least. -/
theorem one_le_grantRoom (r a : Nat) : 1 ≤ grantRoom r a := by
  unfold grantRoom
  split <;> omega

/-- A patrol read that may presents its request behind those waiting. -/
theorem belRequest_patrol {s : State} {i r : Nat} (hi : i < 3) (hl : (s.mems.get {} i).line < scrubLines i)
    (hr : resourceOf (patrolLine s i * 64) = some r) (hp : presented (s.res r) (scrubReq i) = false) :
    belRequest (patrolDue s i) (scrubReq i) (patrolLine s i * 64) 1 =
      (patrolDue s i).setRes r { s.res r with waiting := (s.res r).waiting ++ [patrolReq s i] } := by
  have hreq : ¬ scrubReq i < 16 := by unfold scrubReq; split <;> omega
  have hmay : mayPresent (patrolDue s i) r (scrubReq i) = true := by
    rw [mayPresent, usesResource_scrub hi hl hr, if_neg hreq]
    exact congrArg (! ·) hp
  have htotal : min (max 1 1) (grantRoom r (patrolLine s i * 64)) = 1 := Nat.min_eq_left (one_le_grantRoom _ _)
  simp only [belRequest, hr, hmay, htotal]
  rfl

/-- A patrol read, by what its request meets. -/
theorem scrubRead_eq {s : State} {i r : Nat} (hon : scrubOn s i = true) (hr : resourceOf (patrolLine s i * 64) = some r) :
    scrubRead s i =
      match ((belRequest (patrolDue s i) (scrubReq i) (patrolLine s i * 64) 1).res r).waiting with
      | [w] =>
        if (s.res r).waiting.isEmpty && (s.res r).holder.isNone && decide ((s.res r).busyEdge ≤ (patrolDue s i).fab) then
          scrubLine ((grantTo (belRequest (patrolDue s i) (scrubReq i) (patrolLine s i * 64) 1) r w).setRes r
            { (grantTo (belRequest (patrolDue s i) (scrubReq i) (patrolLine s i * 64) 1) r w).res r with holder := none }) i
        else belRequest (patrolDue s i) (scrubReq i) (patrolLine s i * 64) 1
      | _ => belRequest (patrolDue s i) (scrubReq i) (patrolLine s i * 64) 1 := by
  have hr' : resourceOf (scrubAddr i ((s.edges (patrolInterval s i)).mems.get {} i).line * 64) = some r := hr
  unfold scrubRead
  rw [if_neg (by simp [hon])]
  dsimp only
  rw [show (if i < 2 then s.rd MEMC_SCRUB_INT i else s.rd SYS_CUP_SCRUB_INT) = patrolInterval s i from rfl, hr']
  rfl

/-- A resource after it was replaced. -/
theorem res_setRes (s : State) (r : Nat) (x : BelRes) : (s.setRes r x).res r = x := Sp.get_set_same ..

/-- Where its resource is not idle the request waits. -/
theorem scrubRead_waits {s : State} {i r : Nat} (hi : i < 3) (hon : scrubOn s i = true) (hl : (s.mems.get {} i).line < scrubLines i)
    (hr : resourceOf (patrolLine s i * 64) = some r)
    (hbusy : (s.res r).waiting ≠ [] ∨ (s.res r).holder ≠ none ∨ (patrolDue s i).fab < (s.res r).busyEdge)
    (hp : presented (s.res r) (scrubReq i) = false) :
    scrubRead s i = (patrolDue s i).setRes r { s.res r with waiting := (s.res r).waiting ++ [patrolReq s i] } := by
  have hidle : ((s.res r).waiting.isEmpty && (s.res r).holder.isNone && decide ((s.res r).busyEdge ≤ (patrolDue s i).fab)) = false := by
    obtain h | h | h := hbusy
    · simp [h]
    · simp [h]
    · simp [h]
  rw [scrubRead_eq hon hr, belRequest_patrol hi hl hr hp, hidle]
  split <;> rfl

/-! ### The patrol's read on an idle resource -/

/-- A place apart from SLEWING and from the registers of Belfry. -/
def besidePatrol (k : Nat) : Prop := k ≠ CAMPANILE_STATUS_SLEWING.key 0 0 ∧ (k < 0x20040000 * 32 ∨ 0x20050000 * 32 ≤ k)

/-- The channels of DRAM lie behind Belfry. -/
theorem le_key_memc {f : Fld} (hf : f.blk = .memc) (i j : Nat) : 0x20050000 * 32 ≤ f.key i j := by
  simp only [Fld.key, Fld.addr, Blk.inst, hf, Blk.base]
  simp only [reduceCtorEq, if_false]
  omega

/-- A field of a channel of DRAM is one. -/
theorem besidePatrol_memc {f : Fld} (hf : f.blk = .memc) (i j : Nat) : besidePatrol (f.key i j) :=
  ⟨fun h => absurd (h ▸ le_key_memc hf i j) (by decide), .inr (le_key_memc hf i j)⟩

/-- From s to t the interval of a patrol read passed, and its request was granted. -/
structure PatrolGranted (s t : State) : Prop where
  rest : t = { s with regs := t.regs, fab := t.fab, time := t.time, camp := t.camp, bel := t.bel }
  regs : ∀ (f : Fld) (i j : Nat), besidePatrol (f.key i j) → t.rd f i j = s.rd f i j

/-- The state in which an idle resource serves the patrol's line: its request presented, granted and gone. -/
def patrolServed (s : State) (i r : Nat) : State :=
  let u := grantTo ((patrolDue s i).setRes r { s.res r with waiting := (s.res r).waiting ++ [patrolReq s i] }) r (patrolReq s i)
  u.setRes r { u.res r with holder := none }

/-- It leaves the rest of the state. -/
theorem patrolGranted_served (s : State) (i r : Nat) : PatrolGranted s (patrolServed s i r) where
  rest := rfl
  regs f a j hk := by
    have hreq : scrubReq i < 29 := by unfold scrubReq; split <;> omega
    have hmax : f.key a j ≠ BELFRY_PRI_MAXWAIT.key 0 (scrubReq i) := fun h => by
      have hkey : BELFRY_PRI_MAXWAIT.key 0 (scrubReq i) = (0x20040000 + 0x40 + scrubReq i * 4) * 32 + 16 := rfl
      have hout := hk.2
      rw [h, hkey] at hout
      omega
    exact (State.rd_wr_ne _ _ _ _ _ _ _ _ hmax).trans (State.rd_wr_ne _ _ _ _ _ _ _ _ hk.1)

section
variable {s t : State}

/-- An idle resource serves the patrol's line at once. -/
theorem scrubRead_serves {i r : Nat} (hi : i < 3) (hon : scrubOn s i = true) (hl : (s.mems.get {} i).line < scrubLines i)
    (hr : resourceOf (patrolLine s i * 64) = some r) (hw : (s.res r).waiting = []) (hh : (s.res r).holder = none)
    (hb : (s.res r).busyEdge ≤ (patrolDue s i).fab) : scrubRead s i = scrubLine (patrolServed s i r) i := by
  have hp : presented (s.res r) (scrubReq i) = false := by rw [presented, hw, hh]; rfl
  have hidle : ((s.res r).waiting.isEmpty && (s.res r).holder.isNone && decide ((s.res r).busyEdge ≤ (patrolDue s i).fab)) = true := by
    simp [hw, hh, hb]
  have hone : (s.res r).waiting ++ [patrolReq s i] = [patrolReq s i] := by rw [hw]; rfl
  rw [scrubRead_eq hon hr, belRequest_patrol hi hl hr hp, res_setRes, hidle]
  dsimp only
  rw [hone, patrolServed, hone]
  rfl

section
variable (h : PatrolGranted s t)
include h

/-- The lines are as they were. -/
theorem PatrolGranted.lines : t.bytes = s.bytes ∧ t.lineChk = s.lineChk ∧ t.mems = s.mems := by
  rw [h.rest]
  exact ⟨rfl, rfl, rfl⟩

/-- CH_FAIL is as it was. -/
theorem PatrolGranted.chFail (a : Nat) : chFail t a = chFail s a := by
  unfold Machine.chFail
  split
  · exact congrArg (· != 0) (h.regs _ _ _ (besidePatrol_memc rfl _ _))
  · rfl

end
end

/-! ### The scrubber moves on (R222) -/

/-- A scrubber after its line was read. -/
def patrolAdvance (s : State) (i : Nat) : State :=
  let g := s.mems.get {} i
  if g.line + 1 < scrubLines i then { s with mems := s.mems.set i { g with line := g.line + 1 } }
  else
    let s := { s with mems := s.mems.set i { g with line := 0, passUe := 0 } }
    if i < 2 then s.raise MEMC_STATUS_PASS i else s.raise SYS_CUP_STATUS_PASS

/-- A scrubber's read in two steps. -/
theorem scrubLine_eq (s : State) (i : Nat) :
    scrubLine s i = patrolAdvance (decodeLine s (scrubMem i) (patrolLine s i) true).1 i := rfl

section
variable (s : State) (i : Nat)

/-- Moving on changes the scrubbers and the register file only. -/
theorem patrolAdvance_rest : patrolAdvance s i = { s with mems := (patrolAdvance s i).mems, regs := (patrolAdvance s i).regs } := by
  unfold patrolAdvance
  dsimp only
  split
  · rfl
  · split <;> rfl

/-- Of the fields it can change PASS. -/
theorem rd_patrolAdvance {f : Fld} {k j : Nat} (hm : f.key k j ≠ MEMC_STATUS_PASS.key i 0) (hc : f.key k j ≠ SYS_CUP_STATUS_PASS.key 0 0) :
    (patrolAdvance s i).rd f k j = s.rd f k j := by
  unfold patrolAdvance
  dsimp only
  split
  · rfl
  · split
    · exact State.rd_wr_ne _ _ _ _ _ _ _ _ hm
    · exact State.rd_wr_ne _ _ _ _ _ _ _ _ hc

/-- The line read next. -/
theorem line_patrolAdvance : ((patrolAdvance s i).mems.get {} i).line =
    if (s.mems.get {} i).line + 1 < scrubLines i then (s.mems.get {} i).line + 1 else 0 := by
  unfold patrolAdvance
  dsimp only
  split
  · exact congrArg MemSt.line (Sp.get_set_same ..)
  · split <;> exact congrArg MemSt.line (Sp.get_set_same ..)

/-- The end of a pass. -/
theorem pass_patrolAdvance (h : (s.mems.get {} i).line + 1 = scrubLines i) : ((patrolAdvance s i).mems.get {} i).passUe = 0 ∧
    (if i < 2 then (patrolAdvance s i).on MEMC_STATUS_PASS i else (patrolAdvance s i).on SYS_CUP_STATUS_PASS) = true := by
  unfold patrolAdvance
  dsimp only
  rw [if_neg (by omega)]
  by_cases hi : i < 2
  · simp only [if_pos hi]
    exact ⟨congrArg MemSt.passUe (Sp.get_set_same ..), on_raise rfl _ _ _⟩
  · simp only [if_neg hi]
    exact ⟨congrArg MemSt.passUe (Sp.get_set_same ..), on_raise rfl _ _ _⟩

end

end Sys2Proof.Machine

/-!
MEMORY ENGINES: the patrol reads, CH_FAIL, the initialisation of a channel and its refresh (R218, R222, R223, R233).
-/
namespace Sys2Proof.Machine

/-! ### What a patrol read finds -/

section
variable {s t : State} {i : Nat} {scrub : Bool}

/-- The lines that a patrol read meets, after the retry of its commands, are those of the state in which it fell due. -/
theorem PatrolGranted.retried (h : PatrolGranted s t) (m : Mem) :
    (caRetry t m).1.bytes = s.bytes ∧ (caRetry t m).1.lineChk = s.lineChk ∧ (caRetry t m).1.fab = t.fab ∧ (caRetry t m).1.regs = t.regs := by
  obtain ⟨hbytes, hchk, -⟩ := h.lines
  rw [caRetry_rest]
  exact ⟨hbytes, hchk, rfl, rfl⟩

/-- The decoder finds in a line what its bytes and check symbols say. -/
theorem lineFixes_congr {u : State} (hb : u.bytes = s.bytes) (hc : u.lineChk = s.lineChk) (line : Nat) :
    lineFixes u line = lineFixes s line ∧ storedWord u line = storedWord s line := by
  simp only [lineFixes, storedWord, hb, hc, and_self]

/-- A channel with no error of its commands to come reads at once. -/
theorem caRetry_patrol (hca : i < 2 → (t.mems.get {} i).caErrs < 2) : (caRetry t (scrubMem i)).2 = false := by
  unfold scrubMem
  split
  · next h => exact decide_eq_false (Nat.not_le.mpr (hca h))
  · rfl

/-- A line in CH_FAIL or without errors leaves its memory, and the scrubber, as they were. -/
theorem decodeLine_patrol_good (h : PatrolGranted s t)
    (hgood : chFail s (patrolLine s i * 64) = true ∨ ((i < 2 → (s.mems.get {} i).caErrs < 2) ∧ lineFixes s (patrolLine s i) = some [])) :
    let u := (decodeLine t (scrubMem i) (patrolLine s i) scrub).1
    u.bytes = s.bytes ∧ u.lineChk = s.lineChk ∧ u.fab = t.fab ∧ (u.mems.get {} i).line = (s.mems.get {} i).line := by
  obtain ⟨hbytes, hchk, hmems⟩ := h.lines
  obtain ⟨hb, hc, hf, -⟩ := h.retried (scrubMem i)
  by_cases hfail : chFail s (patrolLine s i * 64) = true
  · rw [decodeLine_chFail ((h.chFail _).trans hfail)]
    exact ⟨hbytes, hchk, rfl, by rw [hmems]⟩
  · obtain ⟨hca, hfix⟩ := hgood.resolve_left hfail
    have hfix' := (lineFixes_congr hb hc (patrolLine s i)).1.trans hfix
    dsimp only
    rw [decodeLine_good ((h.chFail _).trans (Bool.not_eq_true _ ▸ hfail)) (caRetry_patrol (by rwa [hmems])) hfix',
      (mems_caRetry t (scrubMem i) i).1, hmems]
    exact ⟨hb, hc, hf, rfl⟩

/-- A correctable line is corrected. -/
theorem decodeLine_patrol_corrects (h : PatrolGranted s t) {fixes : List (Nat × Nat)} (hfail : chFail s (patrolLine s i * 64) = false)
    (hca : i < 2 → (s.mems.get {} i).caErrs < 2) (hfix : lineFixes s (patrolLine s i) = some fixes) (hne : fixes ≠ []) :
    (decodeLine t (scrubMem i) (patrolLine s i) scrub).1 =
      corrected (caRetry t (scrubMem i)).1 (scrubMem i) (patrolLine s i) fixes scrub := by
  obtain ⟨hb, hc, -⟩ := h.retried (scrubMem i)
  have hca' : i < 2 → (t.mems.get {} i).caErrs < 2 := by rwa [h.lines.2.2]
  exact decodeLine_corrects ((h.chFail _).trans hfail) (caRetry_patrol hca') ((lineFixes_congr hb hc _).1.trans hfix) hne

/-- An uncorrectable line is reported. -/
theorem decodeLine_patrol_fails (h : PatrolGranted s t) (hfail : chFail s (patrolLine s i * 64) = false)
    (hfix : lineFixes s (patrolLine s i) = none) :
    (decodeLine t (scrubMem i) (patrolLine s i) scrub).1 = uncorrected (caRetry t (scrubMem i)).1 (scrubMem i) (patrolLine s i) scrub := by
  obtain ⟨hb, hc, -⟩ := h.retried (scrubMem i)
  exact decodeLine_fails ((h.chFail _).trans hfail) ((lineFixes_congr hb hc _).1.trans hfix)

/-- A field of Cupola's registers in SYS is apart from the places of a patrol read. -/
theorem PatrolGranted.rd_retried (h : PatrolGranted s t) {f : Fld} {k j : Nat} (hf : besidePatrol (f.key k j)) (m : Mem) :
    (caRetry t m).1.rd f k j = s.rd f k j := by
  rw [State.rd, (h.retried m).2.2.2]
  exact h.regs f k j hf

end

/-! ### A line corrected and a line reported, in the scrubber's memory -/

section
variable {s t : State} {i : Nat}

/-- A correction of a scrubber stores the line and counts. -/
theorem corrected_scrub (s : State) (line : Nat) (es : List (Nat × Nat)) :
    let t := corrected s (scrubMem i) line es true
    FieldsOnly (writeLine s (line * 64) (correctedData s line es)) t ∧
      (i < 2 → t.on MEMC_STATUS_CE i = true ∧ t.rd MEMC_CE_CNT_COUNT i = satU 32 (s.rd MEMC_CE_CNT_COUNT i + 1)) ∧
      (i = 2 → t.on SYS_CUP_STATUS_CE = true ∧ t.rd SYS_CUP_CE_CNT_COUNT = satU 32 (s.rd SYS_CUP_CE_CNT_COUNT + 1)) := by
  refine ⟨fieldsOnly_corrected s line es true _, fun h => ?_, fun h => ?_⟩
  · rw [scrubMem, if_pos h]
    exact corrected_dram_counts s line es true i
  · subst h
    exact corrected_cupola_counts s line es true

/-- A report of a scrubber counts; the lines are as they were. -/
theorem uncorrected_scrub (hi : i < 3) (s : State) (line : Nat) :
    let t := uncorrected s (scrubMem i) line true
    t.bytes = s.bytes ∧ t.lineChk = s.lineChk ∧
      (i < 2 → t.on MEMC_STATUS_UE i = true ∧ t.rd MEMC_UE_CNT_COUNT i = satU 32 (s.rd MEMC_UE_CNT_COUNT i + 1) ∧
        (s.rd MEMC_CFG_UE_LIMIT i ≤ (s.mems.get {} i).passUe + 1 → t.on MEMC_STATUS_CH_FAIL i = true)) ∧
      (i = 2 → t.on SYS_CUP_STATUS_UE = true ∧ t.rd SYS_CUP_UE_CNT_COUNT = satU 32 (s.rd SYS_CUP_UE_CNT_COUNT + 1)) := by
  by_cases h : i < 2
  · obtain ⟨hb, hc, hue, hcnt, hlim⟩ := uncorrected_dram s line true h
    rw [scrubMem, if_pos h]
    exact ⟨hb, hc, fun _ => ⟨hue, hcnt, hlim⟩, fun h2 => absurd h2 (by omega)⟩
  · obtain rfl : i = 2 := by omega
    obtain ⟨hrest, hue, hcnt⟩ := uncorrected_cupola s line true
    have hlines : (uncorrected s .cupola line true).bytes = s.bytes ∧ (uncorrected s .cupola line true).lineChk = s.lineChk := by
      rw [hrest]
      exact ⟨rfl, rfl⟩
    exact ⟨hlines.1, hlines.2, fun h2 => absurd h2 h, fun _ => ⟨hue, hcnt⟩⟩

/-- A field of a channel other than PASS is left by a scrubber that moves on. -/
theorem rd_patrolAdvance_memc {f : Fld} (hf : f.blk = .memc) (hp : f.Apart MEMC_STATUS_PASS) (s : State) (i : Nat) :
    (patrolAdvance s i).rd f i = s.rd f i :=
  rd_patrolAdvance s i (hp.key_ne i (Nat.zero_le _) (Nat.zero_le _)) fun h =>
    absurd (h ▸ le_key_memc hf i 0) (by decide)

/-- A field of Cupola other than PASS too. -/
theorem rd_patrolAdvance_cupola {f : Fld} (hf : f.key 0 0 < 0x20050000 * 32) (hp : f.key 0 0 ≠ SYS_CUP_STATUS_PASS.key 0 0) (s : State)
    (i : Nat) : (patrolAdvance s i).rd f = s.rd f :=
  rd_patrolAdvance s i (fun h => absurd (h ▸ le_key_memc (f := MEMC_STATUS_PASS) rfl i 0) (Nat.not_le.mpr hf)) hp

/-- The lines are as they were. -/
theorem lines_patrolAdvance (s : State) (i : Nat) : (patrolAdvance s i).bytes = s.bytes ∧ (patrolAdvance s i).lineChk = s.lineChk ∧
    (patrolAdvance s i).fab = s.fab := by
  rw [patrolAdvance_rest]
  exact ⟨rfl, rfl, rfl⟩

end

/-! ### Patrol reads -/

/-- A patrol read that its resource serves at once (R222, R237). -/
structure PatrolIdle (s : State) (i r : Nat) : Prop where
  index : i < 3
  runs : scrubOn s i = true
  line : (s.mems.get {} i).line < scrubLines i
  resource : resourceOf (patrolLine s i * 64) = some r
  alone : (s.res r).waiting = []
  free : (s.res r).holder = none
  edge : (s.res r).busyEdge ≤ (patrolDue s i).fab

section
variable {s : State} {i r : Nat} (h : PatrolIdle s i r)
include h

/-- It decodes its line and moves on. -/
theorem PatrolIdle.scrubRead_eq :
    scrubRead s i = patrolAdvance (decodeLine (patrolServed s i r) (scrubMem i) (patrolLine s i) true).1 i :=
  (scrubRead_serves h.index h.runs h.line h.resource h.alone h.free h.edge).trans (scrubLine_eq _ _)

/-- A line without errors, or in CH_FAIL, only moves the scrubber on. -/
theorem PatrolIdle.good
    (hgood : chFail s (patrolLine s i * 64) = true ∨ ((i < 2 → (s.mems.get {} i).caErrs < 2) ∧ lineFixes s (patrolLine s i) = some [])) :
    let t := scrubRead s i
    (t.mems.get {} i).line = (if (s.mems.get {} i).line + 1 < scrubLines i then (s.mems.get {} i).line + 1 else 0) ∧
      ((s.mems.get {} i).line + 1 = scrubLines i →
        (t.mems.get {} i).passUe = 0 ∧ (if i < 2 then t.on MEMC_STATUS_PASS i else t.on SYS_CUP_STATUS_PASS) = true) ∧
      t.fab = (patrolDue s i).fab ∧ t.lineChk = s.lineChk ∧ SameMemory s t := by
  obtain ⟨hb, hc, hf, hl⟩ := decodeLine_patrol_good (scrub := true) (patrolGranted_served s i r) hgood
  rw [h.scrubRead_eq]
  generalize (decodeLine (patrolServed s i r) (scrubMem i) (patrolLine s i) true).1 = u at hb hc hf hl
  obtain ⟨hb', hc', hf'⟩ := lines_patrolAdvance u i
  refine ⟨?_, fun hend => pass_patrolAdvance u i (by rwa [hl]), hf'.trans hf, hc'.trans hc, fun a => ?_⟩
  · rw [line_patrolAdvance, hl]
  · rw [hb', hb]

/-- A correctable line holds its codeword's data and is counted. -/
theorem PatrolIdle.corrects {fixes : List (Nat × Nat)} (hfail : chFail s (patrolLine s i * 64) = false)
    (hca : i < 2 → (s.mems.get {} i).caErrs < 2) (hfix : lineFixes s (patrolLine s i) = some fixes) (hne : fixes ≠ [])
    (hwf : Memory.wf s.bytes = true) :
    let t := scrubRead s i
    findKey t.lineChk (patrolLine s i) = none ∧
      memBytes t.bytes (patrolLine s i * 64) 64 = ((correctWith (storedWord s (patrolLine s i)) fixes).take 64).map (· % 256) ∧
      (∀ a, lineOf a ≠ patrolLine s i → memGet t.bytes a = memGet s.bytes a) ∧
      (i < 2 → t.on MEMC_STATUS_CE i = true ∧ t.rd MEMC_CE_CNT_COUNT i = satU 32 (s.rd MEMC_CE_CNT_COUNT i + 1)) ∧
      (i = 2 → t.on SYS_CUP_STATUS_CE = true ∧ t.rd SYS_CUP_CE_CNT_COUNT = satU 32 (s.rd SYS_CUP_CE_CNT_COUNT + 1)) := by
  have hgrant := patrolGranted_served s i r
  obtain ⟨hb, hc, -⟩ := hgrant.retried (scrubMem i)
  have hce (f : Fld) (hf : f.blk = .memc) := hgrant.rd_retried (besidePatrol_memc hf i 0) (scrubMem i)
  have hcup := hgrant.rd_retried (f := SYS_CUP_CE_CNT_COUNT) (k := 0) (j := 0) (by unfold besidePatrol; decide) (scrubMem i)
  rw [h.scrubRead_eq, decodeLine_patrol_corrects hgrant hfail hca hfix hne]
  generalize (caRetry (patrolServed s i r) (scrubMem i)).1 = u at hb hc hce hcup
  obtain ⟨hrest, hdram, hcupola⟩ := corrected_scrub (i := i) u (patrolLine s i) fixes
  generalize corrected u (scrubMem i) (patrolLine s i) fixes true = v at hrest hdram hcupola
  obtain ⟨hb', hc', -⟩ := lines_patrolAdvance v i
  have hdata : correctedData u (patrolLine s i) fixes = correctedData s (patrolLine s i) fixes := by
    rw [correctedData, (lineFixes_congr hb hc _).2, correctedData]
  have hbytes : v.bytes = memPutBytes s.bytes (patrolLine s i * 64) (correctedData s (patrolLine s i) fixes) := by
    rw [hrest, ← hdata, ← hb]
    rfl
  have hchk : v.lineChk = s.lineChk.filter fun p => p.1 != lineOf (patrolLine s i * 64) := by
    rw [hrest, ← hc]
    rfl
  have hline : lineOf (patrolLine s i * 64) = patrolLine s i := Nat.mul_div_cancel _ (by decide)
  refine ⟨?_, ?_, fun a ha => ?_, fun hi => ?_, fun hi => ?_⟩
  · rw [hc', hchk, hline]
    exact (findKey_filter (fun k => k != patrolLine s i) s.lineChk _).trans (if_neg (by simp))
  · rw [hb', hbytes]
    have hput := memBytes_memPutBytes hwf (patrolLine s i * 64) (correctedData s (patrolLine s i) fixes)
    rw [length_correctedData] at hput
    exact hput
  · rw [hb', hbytes]
    refine memGet_memPutBytes_ne hwf _ ?_
    rw [length_correctedData]
    unfold lineOf at ha
    omega
  · obtain ⟨hon, hcnt⟩ := hdram hi
    rw [State.on, rd_patrolAdvance_memc rfl (by decide), rd_patrolAdvance_memc rfl (by decide), hcnt, hce _ rfl]
    exact ⟨hon, rfl⟩
  · obtain ⟨hon, hcnt⟩ := hcupola hi
    rw [State.on, rd_patrolAdvance_cupola (by decide) (by decide), rd_patrolAdvance_cupola (by decide) (by decide), hcnt, hcup]
    exact ⟨hon, rfl⟩

/-- An uncorrectable line is counted; at UE_LIMIT its channel goes into CH_FAIL. -/
theorem PatrolIdle.fails (hfail : chFail s (patrolLine s i * 64) = false) (hfix : lineFixes s (patrolLine s i) = none) :
    let t := scrubRead s i
    t.lineChk = s.lineChk ∧ SameMemory s t ∧
      (i < 2 → t.on MEMC_STATUS_UE i = true ∧ t.rd MEMC_UE_CNT_COUNT i = satU 32 (s.rd MEMC_UE_CNT_COUNT i + 1) ∧
        (s.rd MEMC_CFG_UE_LIMIT i ≤ (s.mems.get {} i).passUe + 1 → t.on MEMC_STATUS_CH_FAIL i = true)) ∧
      (i = 2 → t.on SYS_CUP_STATUS_UE = true ∧ t.rd SYS_CUP_UE_CNT_COUNT = satU 32 (s.rd SYS_CUP_UE_CNT_COUNT + 1)) := by
  have hgrant := patrolGranted_served s i r
  obtain ⟨hb, hc, -⟩ := hgrant.retried (scrubMem i)
  have hpass := (mems_caRetry (patrolServed s i r) (scrubMem i) i).2
  have hue (f : Fld) (hf : f.blk = .memc) := hgrant.rd_retried (besidePatrol_memc hf i 0) (scrubMem i)
  have hcup := hgrant.rd_retried (f := SYS_CUP_UE_CNT_COUNT) (k := 0) (j := 0) (by unfold besidePatrol; decide) (scrubMem i)
  rw [h.scrubRead_eq, decodeLine_patrol_fails hgrant hfail hfix]
  generalize (caRetry (patrolServed s i r) (scrubMem i)).1 = u at hb hc hue hcup hpass
  obtain ⟨hvb, hvc, hdram, hcupola⟩ := uncorrected_scrub h.index u (patrolLine s i)
  generalize uncorrected u (scrubMem i) (patrolLine s i) true = v at hvb hvc hdram hcupola
  obtain ⟨hb', hc', -⟩ := lines_patrolAdvance v i
  refine ⟨by rw [hc', hvc, hc], fun a => by rw [hb', hvb, hb], fun hi => ?_, fun hi => ?_⟩
  · obtain ⟨hon, hcnt, hlim⟩ := hdram hi
    simp only [State.on]
    rw [rd_patrolAdvance_memc rfl (by decide), rd_patrolAdvance_memc rfl (by decide), rd_patrolAdvance_memc rfl (by decide), hcnt,
      hue _ rfl]
    refine ⟨hon, rfl, fun hle => hlim ?_⟩
    rw [hue _ rfl, hpass]
    exact hle
  · obtain ⟨hon, hcnt⟩ := hcupola hi
    rw [State.on, rd_patrolAdvance_cupola (by decide) (by decide), rd_patrolAdvance_cupola (by decide) (by decide), hcnt, hcup]
    exact ⟨hon, rfl⟩

end

/-! ### The commands of a channel (R222, R233) -/

/-- The one-shot bits of a channel's control word are not stored. -/
theorem pieces_markFail : ((Blk.memc.pieces 0x000).filter fun p => !p.silent 8) = [] := by decide +kernel
theorem pieces_memcInit : ((Blk.memc.pieces 0x000).filter fun p => !p.silent 4) = [] := by decide +kernel

/-- No RW bit of the control word lies at MARK_FAIL. -/
theorem bit_rwWord_memc (s : State) (c : Nat) : bit (s.rwWord .memc c 0x000) 3 = false := by
  have hword : s.rwWord .memc c 0x000 = bits (s.written MEMC_CTRL_EN c 0) 0 1 + bits (s.written MEMC_CTRL_SCRUB_EN c 0) 0 1 * 2 := by
    have hp : Blk.memc.pieces 0x000 = [⟨MEMC_CTRL_EN, 0, 0, 0, 1⟩, ⟨MEMC_CTRL_SCRUB_EN, 0, 1, 0, 1⟩, ⟨MEMC_CTRL_INIT, 0, 2, 0, 1⟩,
      ⟨MEMC_CTRL_MARK_FAIL, 0, 3, 0, 1⟩] := by decide +kernel
    unfold State.rwWord
    rw [hp]
    simp [sumOf, MEMC_CTRL_EN, MEMC_CTRL_SCRUB_EN, MEMC_CTRL_INIT, MEMC_CTRL_MARK_FAIL]
  have hb : ∀ v, bits v 0 1 < 2 := fun v => Nat.mod_lt _ (by decide)
  have h1 := hb (s.written MEMC_CTRL_EN c 0)
  have h2 := hb (s.written MEMC_CTRL_SCRUB_EN c 0)
  exact Nat.testBit_lt_two_pow (by omega)

/-- A write of the control word acts on the channel by its one-shot bits; the bit that enables it marks the edge in the hidden
state. -/
theorem memcEffect_ctrl (s old : State) (c ask : Nat) : ∃ x : Sp MemSt, memcEffect s c 0x000 ask old =
    let t := if bit ask 2 then memcInit { s with mems := x } c else { s with mems := x }
    if bit ask 3 then enterChFail t c else t := by
  unfold memcEffect
  rw [if_pos rfl]
  dsimp only
  by_cases h : (bit ask 0 && !old.on MEMC_CTRL_EN c) = true
  · exact ⟨s.mems.set c { s.mems.get {} c with refreshed := s.fab }, by rw [if_pos h]⟩
  · exact ⟨s.mems, by rw [if_neg h]⟩

section
variable {s : State} {req : Req} {c : Nat}

/-- MARK_FAIL. -/
theorem markFail_answers (h : Accepts s req .memc c 0x000 8 8) (hc : c < 2) : let t := bitCmd s req .memc c 0x000 8
    AnsweredOk t ∧ t.on MEMC_STATUS_CH_FAIL c = true ∧ SameMemory s t ∧
      ∀ k : Fin 32, (t.queue k).all = [] ∧ (t.queue k).visible = 0 := by
  have heff : ∃ u : State, bitCmd s req .memc c 0x000 8 = enterChFail u c ∧ u.reply = ⟨OK, 0, false⟩ ∧ u.bytes = s.bytes := by
    obtain ⟨x, heff⟩ := memcEffect_ctrl (s.answer OK 0) s c (s.asked .memc c 0x000 8 8)
    rw [bit_asked_carried (m := 8) (k := 3) rfl] at heff
    rw [bitCmd, wordCmd_accepted h rfl, storeWord_none pieces_markFail (by decide) (by decide)]
    refine ⟨_, heff, ?_⟩
    split <;> exact ⟨rfl, rfl⟩
  obtain ⟨u, heq, hreply, hbytes⟩ := heff
  have hfail := rd_enterChFail u c (f := MEMC_STATUS_CH_FAIL) (key_memc_lt (by decide) hc)
  rw [heq]
  refine ⟨?_, ?_, fun a => ?_, fun k => queue_enterChFail u c k.isLt⟩
  · rw [AnsweredOk, enterChFail_rest, hreply]
  · rw [State.on, hfail]
    exact on_raise rfl u c 0
  · rw [enterChFail_rest, hbytes]

/-- INIT. -/
theorem memcInit_answers (h : Accepts s req .memc c 0x000 4 4) : let t := bitCmd s req .memc c 0x000 4
    AnsweredOk t ∧ t.on MEMC_STATUS_INIT_DONE c = false ∧ (t.mems.get {} c).initBusy = true ∧
      RegsBut [MEMC_STATUS_INIT_DONE.key c 0] s t ∧ t = { s with mems := t.mems, regs := t.regs, reply := t.reply } := by
  have hfail : bit (s.asked .memc c 0x000 4 4) 3 = false := by
    rw [bit_asked, bit_rwWord_memc]
    rfl
  have heff : ∃ x : Sp MemSt, bitCmd s req .memc c 0x000 4 = memcInit { s.answer OK 0 with mems := x } c := by
    obtain ⟨x, heff⟩ := memcEffect_ctrl (s.answer OK 0) s c (s.asked .memc c 0x000 4 4)
    rw [bit_asked_carried (m := 4) (k := 2) rfl, hfail] at heff
    rw [bitCmd, wordCmd_accepted h rfl, storeWord_none pieces_memcInit (by decide) (by decide)]
    exact ⟨x, heff⟩
  obtain ⟨x, heq⟩ := heff
  rw [heq]
  exact ⟨rfl, on_clear _ _ _ _, congrArg MemSt.initBusy (Sp.get_set_same ..), (RegsBut.refl _ s).wr (by simp) 0, rfl⟩

end

/-! ### The end of an initialisation, and a refresh (R218, R233, R242) -/

/-- A line lies in the memory of its first byte. -/
theorem memOf_lineOf (a : Nat) : memOf (lineOf a * 64) = memOf a := by
  have hcup : a / 64 * 64 < 0x4000000 ↔ a < 0x4000000 := by omega
  have hmram : (0x10000000 ≤ a / 64 * 64 ↔ 0x10000000 ≤ a) ∧ (a / 64 * 64 < 0x11000000 ↔ a < 0x11000000) := by omega
  have hdram : (0x800000000 ≤ a / 64 * 64 ↔ 0x800000000 ≤ a) ∧ (a / 64 * 64 < 0x1000000000 ↔ a < 0x1000000000) := by omega
  have hch : (a / 64 * 64 - 0x800000000) / 4096 % 2 = (a - 0x800000000) / 4096 % 2 := by omega
  simp only [memOf, lineOf, hcup, hmram, hdram, hch]

section
variable (s : State) (c : Nat)

/-- The end of an initialisation. -/
theorem memcInitDone_leaves (h : (s.mems.get {} c).initBusy = true) : let t := memcInitDone s c
    t.on MEMC_STATUS_INIT_DONE c = true ∧ (t.mems.get {} c).initBusy = false ∧
      (∀ a, memOf a = some (.dram c) → memGet t.bytes a = memDefault ∧ findKey t.lineChk (lineOf a) = none) ∧
      (∀ a, memOf a ≠ some (.dram c) → memGet t.bytes a = memGet s.bytes a ∧ findKey t.lineChk (lineOf a) = findKey s.lineChk (lineOf a)) ∧
      RegsBut [MEMC_STATUS_INIT_DONE.key c 0] s t := by
  have hbytes (a : Nat) := memGet_filter (fun a => !inChannel c a) s.bytes a
  have hlines (a : Nat) := findKey_filter (fun l => !inChannel c (l * 64)) s.lineChk (lineOf a)
  have hin (a : Nat) : inChannel c (lineOf a * 64) = inChannel c a := by rw [inChannel, memOf_lineOf, inChannel]
  simp only [hin] at hlines
  unfold memcInitDone
  rw [if_pos h]
  refine ⟨on_raise rfl _ _ _, congrArg MemSt.initBusy (Sp.get_set_same ..), fun a ha => ?_, fun a ha => ?_, (RegsBut.refl _ s).wr (by simp) 1⟩
  · have hmem : inChannel c a = true := by simp [inChannel, ha]
    exact ⟨(hbytes a).trans (if_neg (by simp [hmem])), (hlines a).trans (if_neg (by simp [hmem]))⟩
  · have hmem : inChannel c a = false := by simp [inChannel, ha]
    exact ⟨(hbytes a).trans (if_pos (by simp [hmem])), (hlines a).trans (if_pos (by simp [hmem]))⟩

/-- A refresh holds its channel. -/
theorem dramRefresh_leaves (h : s.on MEMC_CTRL_EN c = true) : let t := dramRefresh s c
    t.fab = max s.fab ((s.mems.get {} c).refreshed + (if s.on MEMC_CFG_TREF2X c then 2437 else 4875)) ∧
      (t.mems.get {} c).refreshed = t.fab ∧ (∀ k, k ≠ 32 + c → t.bel.res.get {} k = s.bel.res.get {} k) ∧
      (t.bel.res.get {} (32 + c)).busyEdge = max (s.bel.res.get {} (32 + c)).busyEdge t.fab + (if s.on MEMC_CFG_DENSITY c then 344 else 219) ∧
      SameMemory s t := by
  have hdens (e : Nat) : refreshTime (s.toEdge e) c = if s.on MEMC_CFG_DENSITY c then 344 else 219 := by
    rw [refreshTime, State.on, rd_toEdge (besidePatrol_memc rfl c 0).1]
    rfl
  unfold dramRefresh
  rw [if_pos h]
  refine ⟨fab_toEdge _ _, congrArg MemSt.refreshed (Sp.get_set_same ..), fun k hk => Sp.get_set_ne _ _ _ _ _ hk, ?_, fun _ => rfl⟩
  exact (congrArg BelRes.busyEdge (Sp.get_set_same ..)).trans (congrArg _ (hdens _))

end

/-- Settles O44, by the memory of the scrubber and what its line holds. -/
theorem memoryEngines : Obligations.MemoryEngines := by
  unfold Obligations.MemoryEngines
  intro s req i c r fixes
  have hscrub (hc : clocked s = true) : exec (.scrubRead i) s = .next (scrubRead s i) := exec_onFab (f := fun s => scrubRead s i) hc rfl
  refine ⟨fun hc hoff => ?_, fun hc hon hl hr hbusy hp => ?_, fun hc hon hl hr hw hh hb hgood => ?_,
    fun hc hon hl hr hw hh hb hfail hca hfix hne hwf => ?_, fun hc hon hl hr hw hh hb hfail hfix => ?_, fun h => ?_, fun h => ?_,
    fun hc h => ?_, fun hc h => ?_, fun hc h => ?_, fun hc h => ?_⟩
  · rw [hscrub hc, scrubRead, if_pos (by simp [hoff])]
  · refine ⟨_, (hscrub hc).trans (congrArg _ (scrubRead_waits i.isLt hon hl hr hbusy hp)), ?_, rfl, rfl, fun _ => rfl⟩
    rw [res_setRes]
    rfl
  · exact ⟨_, hscrub hc, PatrolIdle.good ⟨i.isLt, hon, hl, hr, hw, hh, hb⟩ hgood⟩
  · exact ⟨_, hscrub hc, PatrolIdle.corrects ⟨i.isLt, hon, hl, hr, hw, hh, hb⟩ hfail hca hfix hne hwf⟩
  · exact ⟨_, hscrub hc, PatrolIdle.fails ⟨i.isLt, hon, hl, hr, hw, hh, hb⟩ hfail hfix⟩
  · exact ⟨_, rfl, markFail_answers h c.isLt⟩
  · exact ⟨_, rfl, memcInit_answers h⟩
  · exact ⟨_, exec_onFab hc rfl, memcInitDone_leaves s c h⟩
  · exact (exec_onFab hc rfl).trans (congrArg _ (if_neg (by simp [h])))
  · exact ⟨_, exec_onFab hc rfl, dramRefresh_leaves s c h⟩
  · exact (exec_onFab hc rfl).trans (congrArg _ (if_neg (by simp [h])))

end Sys2Proof.Machine

/-!
SUPPORT. What stores, a running scan and packets on the queues leave of the journal and of the twin's registers (R217 to R225, R234,
R248 to R255).
-/
namespace Sys2Proof.Machine

/-! ### What is held -/

/-- The places of JOURNAL, but for its ECC bit, and of TWIN. -/
def heldPlace (k : Nat) : Prop :=
  (0x20060000 * 32 ≤ k ∧ k < 0x20070000 * 32 ∧ k ≠ JOURNAL_STATUS_ECC.key 0 0) ∨ (0x20090000 * 32 ≤ k ∧ k < 0x200A0000 * 32)

/-- A place of those is given by numbers. -/
theorem heldPlace_iff (k : Nat) : heldPlace k ↔
    ((0x20060000 * 32 ≤ k ∧ k < 0x20070000 * 32 ∧ k ≠ JOURNAL_STATUS_ECC.key 0 0) ∨ (0x20090000 * 32 ≤ k ∧ k < 0x200A0000 * 32)) := Iff.rfl

/-- From s to t only memory, the scan, the queues and registers at other places can differ; memory keeps its form. -/
structure StoreHeld (s t : State) : Prop where
  rest : StoreOnly s t
  regs : ∀ (f : Fld) (i j : Nat), heldPlace (f.key i j) → t.rd f i j = s.rd f i j
  wf : Memory.wf s.bytes = true → Memory.wf t.bytes = true

section
variable {s t u : State}

/-- Nothing changed. -/
theorem StoreHeld.refl (s : State) : StoreHeld s s := ⟨.refl s, fun _ _ _ _ => rfl, id⟩

/-- One change after another. -/
theorem StoreHeld.trans (h : StoreHeld s t) (hu : StoreHeld t u) : StoreHeld s u :=
  ⟨h.rest.trans hu.rest, fun f i j hk => (hu.regs f i j hk).trans (h.regs f i j hk), hu.wf ∘ h.wf⟩

/-- Other parts of that kind replaced. -/
theorem StoreHeld.set (h : StoreHeld s t) (hu : StoreOnly t u) (hregs : u.regs = t.regs) (hbytes : u.bytes = t.bytes) : StoreHeld s u :=
  h.trans ⟨hu, fun f i j _ => by rw [State.rd, hregs, State.rd], by rw [hbytes]; exact id⟩

/-- A field written at another place. -/
theorem StoreHeld.wr (h : StoreHeld s t) {f : Fld} {i j : Nat} (hk : ¬ heldPlace (f.key i j)) (v : Nat) : StoreHeld s (t.wr f v i j) :=
  h.trans ⟨rfl, fun _ _ _ hp => State.rd_wr_ne _ _ _ _ _ _ _ _ fun e => hk (e ▸ hp), id⟩

/-- A queue's hidden state replaced. -/
theorem StoreHeld.setQueue (h : StoreHeld s t) (k : Nat) (q : QueueSt) : StoreHeld s (t.setQueue k q) := h.set rfl rfl rfl

/-- Either branch. -/
theorem StoreHeld.ite {c : Prop} [Decidable c] (ht : StoreHeld s t) (hu : StoreHeld s u) : StoreHeld s (if c then t else u) := by
  split <;> assumption

/-- Either branch of a pair. -/
theorem StoreHeld.ite_fst {α : Type} {c : Prop} [Decidable c] {p q : State × α} (hp : StoreHeld s p.1) (hq : StoreHeld s q.1) :
    StoreHeld s (if c then p else q).1 := by
  split <;> assumption

/-- The naturals below n taken in order. -/
theorem StoreHeld.forN {f : Nat → State → State} {n : Nat} (hf : ∀ i < n, ∀ t, StoreHeld t (f i t)) (s : State) : StoreHeld s (forN n f s) :=
  forN_keeps_lt (P := StoreHeld s) (fun i hi t h => h.trans (hf i hi t)) (.refl s)

/-- A list taken in order. -/
theorem StoreHeld.foldl {β : Type} {f : State → β → State} (hf : ∀ t b, StoreHeld t (f t b)) (l : List β) (s : State) :
    StoreHeld s (l.foldl f s) := by
  induction l generalizing s with
  | nil => exact .refl s
  | cons b l ih => exact (hf s b).trans (ih _)

/-- A list taken in order, with a value beside. -/
theorem StoreHeld.foldl_fst {α β : Type} {f : State × α → β → State × α} (hf : ∀ p b, StoreHeld p.1 (f p b).1) (l : List β)
    (p : State × α) : StoreHeld p.1 (l.foldl f p).1 := by
  induction l generalizing p with
  | nil => exact .refl _
  | cons b l ih => exact (hf p b).trans (ih _)

/-- The journal's hidden state is as it was. -/
theorem StoreHeld.jrn (h : StoreHeld s t) : t.jrn = s.jrn := by rw [h.rest]

/-- Bytes stored. -/
theorem storeHeld_writeLine (s : State) (a : Nat) (bs : List Nat) : StoreHeld s (writeLine s a bs) :=
  ⟨rfl, fun _ _ _ _ => rfl, memPutBytes_wf _ _ _⟩

end

/-! ### Other places -/

/-- A field of a channel of DRAM. -/
theorem off_held_memc {f : Fld} {c j : Nat} (hc : c < 2) (hj : j < 9)
    (hf : f.blk = .memc ∧ f.lsb < 32 ∧ f.off < 0x100 ∧ f.sub ≤ 0x20 := by decide) : ¬ heldPlace (f.key c j) := by
  obtain ⟨hb, hl, ho, hs⟩ := hf
  have hm : j * f.sub ≤ 8 * 0x20 := Nat.mul_le_mul (by omega) hs
  have hlt : f.key c j < 0x20060000 * 32 := by
    simp only [Fld.key, Fld.addr, Blk.inst, hb, Blk.base, Blk.stride]
    simp only [reduceCtorEq, if_false]
    omega
  rw [heldPlace_iff]
  omega

/-- A place behind SECURE. -/
theorem off_held_high {k : Nat} (h : 0x20100000 * 32 ≤ k) : ¬ heldPlace k := by
  rw [heldPlace_iff]
  omega

/-- A field of a queue or of a context. -/
theorem le_key_high {f : Fld} (hb : f.blk = .queue ∨ f.blk = .lease) (i j : Nat) : 0x20100000 * 32 ≤ f.key i j := by
  obtain hb | hb := hb <;> simp only [Fld.key, Fld.addr, Blk.inst, hb, Blk.base, Blk.stride] <;>
    simp only [reduceCtorEq, if_false] <;> omega

/-- A field of a queue. -/
theorem off_held_queue {f : Fld} (hb : f.blk = .queue) (i j : Nat) : ¬ heldPlace (f.key i j) := off_held_high (le_key_high (.inl hb) i j)

/-- A field of Cupola, of Belfry or of SCAN lies below JOURNAL, or between it and TWIN. -/
theorem off_held {k : Nat} (h : k < 0x20060000 * 32 ∨ (0x20070000 * 32 ≤ k ∧ k < 0x20090000 * 32) ∨ k = JOURNAL_STATUS_ECC.key 0 0) :
    ¬ heldPlace k := by
  have hecc : JOURNAL_STATUS_ECC.key 0 0 = 0x20060004 * 32 + 4 := rfl
  rw [heldPlace_iff]
  omega

/-! ### Memory and the scan engine -/

/-- The log of the memories. -/
theorem storeHeld_logEvent (s : State) {m : Mem} {b : Nat} (hm : memOf b = some m) (a : Nat) (unc scrub : Bool) (syms : List Nat) :
    StoreHeld s (logEvent s m a unc scrub syms) := by
  have h := StoreHeld.refl s
  cases m with
  | cupola =>
    refine h.ite ?_
    iterate 7 refine StoreHeld.wr ?_ (off_held (.inl (by decide))) _
    exact h
  | dram c =>
    refine h.ite ?_
    iterate 7 refine StoreHeld.wr ?_ (off_held_memc (memOf_dram hm) (by decide)) _
    exact h
  | mram => exact h

/-- A queue's status fields. -/
theorem storeHeld_queueStatus (s : State) (k : Nat) : StoreHeld s (queueStatus s k) := by
  unfold queueStatus
  iterate 7 refine StoreHeld.wr ?_ (off_held_queue rfl _ _) _
  exact .refl s

/-- A queue emptied. -/
theorem storeHeld_queueClear (s : State) (k : Nat) : StoreHeld s (queueClear s k) :=
  ((StoreHeld.refl s).setQueue k _).trans (storeHeld_queueStatus ..)

/-- CH_FAIL empties the spill queues. -/
theorem storeHeld_enterChFail (s : State) {c : Nat} (hc : c < 2) : StoreHeld s (enterChFail s c) :=
  ((StoreHeld.refl s).wr (off_held_memc hc (by decide)) 1).trans (.forN (fun k _ t => storeHeld_queueClear t k) _)

/-- A correction. -/
theorem storeHeld_corrected (s : State) {m : Mem} {b : Nat} (hm : memOf b = some m) (line : Nat) (es : List (Nat × Nat)) (scrub : Bool) :
    StoreHeld s (corrected s m line es scrub) := by
  have hlog := (storeHeld_writeLine s (line * 64) ((correctWith (storedWord s line) es).take 64)).trans
    (storeHeld_logEvent _ hm (line * 64) false scrub (es.map (·.1)))
  cases m with
  | cupola => exact (hlog.wr (off_held (.inl (by decide))) _).wr (off_held (.inl (by decide))) _
  | dram c =>
    have hc := memOf_dram hm
    refine .trans ((hlog.wr (off_held_memc hc (by decide)) _).wr (off_held_memc hc (by decide)) _) (.forN (fun d hd t => ?_) _)
    exact .ite (.wr (.refl t) (off_held_memc hc hd) _) (.refl t)
  | mram => exact hlog

/-- An uncorrectable event. -/
theorem storeHeld_uncorrected (s : State) {m : Mem} {b : Nat} (hm : memOf b = some m) (line : Nat) (scrub : Bool) :
    StoreHeld s (uncorrected s m line scrub) := by
  have hlog := storeHeld_logEvent s hm (line * 64) true scrub []
  cases m with
  | cupola => exact (hlog.wr (off_held (.inl (by decide))) _).wr (off_held (.inl (by decide))) _
  | dram c =>
    have hc := memOf_dram hm
    have hcount (n : Nat) (x : Sp MemSt) : StoreHeld s { ((logEvent s (.dram c) (line * 64) true scrub []).wr MEMC_STATUS_UE 1 c).wr
        MEMC_UE_CNT_COUNT n c with mems := x } :=
      ((hlog.wr (off_held_memc hc (by decide)) _).wr (off_held_memc hc (by decide)) _).set rfl rfl rfl
    exact .ite ((hcount _ _).trans (storeHeld_enterChFail _ hc)) (hcount _ _)
  | mram => exact hlog.wr (off_held (.inr (.inr rfl))) _

/-- A retried access. -/
theorem storeHeld_caRetry (s : State) (m : Mem) : StoreHeld s (caRetry s m).1 := by
  cases m <;> exact (StoreHeld.refl s).set rfl rfl rfl

/-- A line read and decoded. -/
theorem storeHeld_decodeLine (s : State) {m : Mem} {b : Nat} (hm : memOf b = some m) (line : Nat) (scrub : Bool) :
    StoreHeld s (decodeLine s m line scrub).1 := by
  have hretry := storeHeld_caRetry s m
  unfold decodeLine
  split
  · exact .refl s
  · generalize caRetry s m = p at hretry ⊢
    obtain ⟨t, ca⟩ := p
    dsimp only at hretry ⊢
    split
    · exact hretry.trans (storeHeld_uncorrected t hm line scrub)
    · split
      · exact hretry.trans (storeHeld_uncorrected t hm line scrub)
      · exact hretry
      · exact hretry.trans (storeHeld_corrected t hm line _ scrub)

/-- A read of memory. -/
theorem storeHeld_memRead (s : State) (a n : Nat) : StoreHeld s (memRead s a n).1 := by
  unfold memRead
  split
  · exact .refl s
  · next m hm =>
    split
    · exact .refl s
    · exact storeHeld_decodeLine s hm (lineOf a) false

/-- A line of a scan. -/
theorem storeHeld_scanLine (s : State) : StoreHeld s (scanLine s) := by
  have hread := storeHeld_memRead s s.scan.addr (min s.scan.left (64 - s.scan.addr % 64))
  unfold scanLine
  refine .ite (.refl s) ?_
  dsimp only
  generalize memRead s s.scan.addr (min s.scan.left (64 - s.scan.addr % 64)) = p at hread ⊢
  obtain ⟨t, ans⟩ := p
  have hoff {f : Fld} (h : 0x20070000 * 32 ≤ f.key 0 0 ∧ f.key 0 0 < 0x20090000 * 32) : ¬ heldPlace (f.key 0 0) := off_held (.inr (.inl h))
  cases ans with
  | ok => exact hread.set rfl rfl rfl
  | ecc | no | bus => exact ((hread.wr (hoff (by decide)) _).wr (hoff (by decide)) _).wr (hoff (by decide)) _

/-- A scan that keeps up with the present edge. -/
theorem storeHeld_scanAdvance (s : State) : StoreHeld s (scanAdvance s) := .ite (.forN (fun _ _ => storeHeld_scanLine) _) (.refl s)

/-- Words of the MRAM written. -/
theorem storeHeld_writeWords (s : State) (a : Nat) (bs : List Nat) : StoreHeld s (writeWords s a bs) :=
  (storeHeld_scanAdvance s).trans
    (.foldl (f := fun s (w : Nat × List Nat) => writeLine s w.1 w.2) (fun t w => storeHeld_writeLine t w.1 w.2) _ _)

/-- A refusal recorded in an ERR register elsewhere. -/
theorem storeHeld_recordErr (s : State) {f : Fld} {i : Nat} (hf : ∀ lsb < 32, ¬ heldPlace (f.addr i 0 * 32 + lsb)) (hl : f.lsb < 32)
    (code off : Nat) : StoreHeld s (s.recordErr f i code off) := by
  have h := StoreHeld.refl s
  refine .ite (((h.wr (hf _ hl) _).wr ?_ _).wr ?_ _) (h.wr ?_ _)
  · exact hf 8 (by decide)
  · exact hf 20 (by decide)
  · exact hf 31 (by decide)

/-- A store that a guard refuses. -/
theorem storeHeld_guardRefuse (s : State) (a : Nat) : StoreHeld s (guardRefuse s a) := by
  refine (storeHeld_recordErr s (fun lsb hl => off_held (.inl ?_)) (by decide) _ _).wr (off_held (.inl (by decide))) _
  have haddr : BELFRY_ERR_CODE.addr 0 0 < 0x20050000 := by decide
  omega

/-- A line stored by a requester. -/
theorem storeHeld_storeLine (s : State) (q a : Nat) (bs : List Nat) : StoreHeld s (storeLine s q a bs).1 := by
  have hscan := storeHeld_scanAdvance s
  unfold storeLine
  split
  · exact .refl s
  · rename_i m hm
    dsimp only
    generalize scanAdvance s = t at hscan ⊢
    refine hscan.trans (.ite_fst (storeHeld_guardRefuse t a) (.ite_fst (.refl t) (.ite_fst (.refl t) (.ite_fst ?_ ?_))))
    · have hretry := storeHeld_caRetry t m
      generalize caRetry t m = p at hretry ⊢
      exact .ite_fst (hretry.trans (storeHeld_uncorrected _ hm _ _)) (hretry.trans (storeHeld_writeLine ..))
    · have hline := storeHeld_decodeLine t hm (lineOf a) false
      generalize decodeLine t m (lineOf a) false = p at hline ⊢
      exact .ite_fst hline (hline.trans (storeHeld_writeLine ..))

/-- Bytes stored by a requester. -/
theorem storeHeld_storeBytes (s : State) (q a : Nat) (bs : List Nat) : StoreHeld s (storeBytes s q a bs).1 := by
  unfold storeBytes
  refine .foldl_fst (fun p w => ?_) _ (s, OK)
  exact storeHeld_storeLine p.1 q w.1 w.2

/-! ### Packets on the queues -/

/-- A granule written to the ring. -/
theorem storeHeld_spillGranule (s : State) (k n : Nat) : StoreHeld s (spillGranule s k n) := by
  unfold spillGranule
  exact (storeHeld_storeBytes ..).setQueue ..

/-- The moves of a queue's words. -/
theorem storeHeld_queueSettle (n k : Nat) (s : State) : StoreHeld s (queueSettle n s k) := by
  induction n generalizing s with
  | zero => exact .refl s
  | succ n ih =>
    unfold queueSettle
    dsimp only
    exact .ite (((StoreHeld.refl s).setQueue ..).trans (ih _)) (.ite ((storeHeld_spillGranule s k 7).trans (ih _)) (.refl s))

/-- A flush. -/
theorem storeHeld_queueFlush (s : State) (k : Nat) : StoreHeld s (queueFlush s k) := by
  unfold queueFlush
  have hspill := StoreHeld.forN (n := ((s.queue k).tail.length + 6) / 7) (f := fun _ s =>
      let q := s.queue k
      if q.tail.isEmpty || ringSize s k ≤ q.ring.length then s else spillGranule s k (min 7 q.tail.length))
    (fun _ _ t => .ite (.refl t) (storeHeld_spillGranule ..)) s
  exact .ite (.refl s) (.ite (hspill.setQueue ..) hspill)

/-- A queue after any change. -/
theorem storeHeld_queueUpdate (s : State) (k : Nat) : StoreHeld s (queueUpdate s k) := by
  unfold queueUpdate
  exact (((storeHeld_queueSettle 64 k s).trans (storeHeld_queueFlush _ k)).setQueue ..).trans (storeHeld_queueStatus ..)

/-- An abort of the open packet. -/
theorem storeHeld_queueAbort (s : State) (k : Nat) : StoreHeld s (queueAbort s k) := by
  unfold queueAbort
  exact (((StoreHeld.refl s).setQueue ..).wr (off_held_queue rfl _ _) _).trans (storeHeld_queueUpdate _ k)

/-- A word committed to a queue. -/
theorem storeHeld_queuePut (s : State) (k val valid : Nat) (fin : Bool) : StoreHeld s (queuePut s k val valid fin) := by
  unfold queuePut
  exact .ite (.refl s) (((StoreHeld.refl s).setQueue ..).trans (storeHeld_queueUpdate _ k))

/-- The words of a packet pushed one after another. -/
theorem storeHeld_queuePacket_go (k : Nat) (ws : List (Nat × Nat)) (s : State) : StoreHeld s (queuePacket.go k s ws).1 := by
  induction ws generalizing s with
  | nil => exact .refl s
  | cons w ws ih =>
    unfold queuePacket.go
    exact .ite_fst (((storeHeld_queueAbort s k).wr (off_held_queue rfl _ _) _).wr (off_held_queue rfl _ _) _)
      ((storeHeld_queuePut ..).trans (ih _))

/-- A packet pushed by a hardware source. -/
theorem storeHeld_queuePacket (s : State) (k src : Nat) (ws : List (Nat × Nat)) : StoreHeld s (queuePacket s k src ws).1 := by
  refine .ite_fst (.refl s) (.ite_fst (storeHeld_recordErr s (fun lsb _ => off_held_high ?_) (by decide) _ _) (storeHeld_queuePacket_go ..))
  have hkey := le_key_high (f := QUEUE_ERR_CODE) (.inl rfl) k 0
  have hcode := key_code (f := QUEUE_ERR_CODE) rfl k 0
  omega

end Sys2Proof.Machine

/-!
SUPPORT. The journal's records: the one a region looks for, one replaced, trailers started, the levels of the rings, words written
(R227 to R230, R232).
-/
namespace Sys2Proof.Machine

/-! ### The records of a region -/

section
variable {s : State} {r : Nat} {p : JrnRec → Bool} {x : JrnRec} {pre post : List JrnRec}

/-- The record found is one of the region that the test selects. -/
theorem mem_of_firstRec (h : firstRec s r p = some x) : x ∈ s.jrn.recs ∧ x.region = r ∧ p x = true := by
  have hmem := List.mem_of_find?_eq_some h
  obtain ⟨hrecs, hreg⟩ := List.mem_filter.mp hmem
  exact ⟨hrecs, by simpa using hreg, List.find?_some h⟩

/-- None is found where the test selects none. -/
theorem firstRec_eq_none : firstRec s r p = none ↔ ∀ y ∈ s.jrn.recs, y.region = r → p y = false := by
  simp [firstRec, regionRecs]

/-- The record found is the one before which the test selects none. -/
theorem firstRec_of_split (h : s.jrn.recs = pre ++ x :: post) (hr : x.region = r) (hp : p x = true)
    (hpre : ∀ y ∈ pre, y.region = r → p y = false) : firstRec s r p = some x := by
  have hnone : (pre.filter fun y => y.region == r).find? p = none := by simpa using hpre
  rw [firstRec, regionRecs, h, List.filter_append, List.find?_append, hnone, List.filter_cons_of_pos (by simp [hr]),
    List.find?_cons_of_pos hp]
  rfl

/-- A record whose JSEQ no other of its region has is found by it. -/
theorem firstRec_of_unique (hx : x ∈ s.jrn.recs) (hr : x.region = r) (hp : p x = true)
    (h : ∀ y ∈ s.jrn.recs, y.region = r → p y = true → y = x) : firstRec s r p = some x := by
  cases hf : firstRec s r p with
  | none => exact absurd hp (by rw [firstRec_eq_none.mp hf x hx hr]; decide)
  | some y =>
    obtain ⟨hy, hyr, hyp⟩ := mem_of_firstRec hf
    rw [h y hy hyr hyp]

/-- A record replaced whose JSEQ no other of its region has. -/
theorem recs_updRec_split (h : s.jrn.recs = pre ++ x :: post) (hr : x.region = r)
    (huniq : ∀ y ∈ pre ++ post, y.region = r → y.jseq ≠ x.jseq) (f : JrnRec → JrnRec) :
    (updRec s r x.jseq f).jrn.recs = pre ++ f x :: post := by
  have hother (l : List JrnRec) (hl : ∀ y ∈ l, y.region = r → y.jseq ≠ x.jseq) :
      l.map (fun y => if y.region = r && y.jseq = x.jseq then f y else y) = l :=
    (List.map_congr_left (g := id) fun y hy => if_neg (by simpa using hl y hy)).trans (List.map_id l)
  have hsame : (if x.region = r && x.jseq = x.jseq then f x else x) = f x := if_pos (by simp [hr])
  unfold updRec
  dsimp only
  rw [h, List.map_append, List.map_cons, hother pre fun y hy => huniq y (List.mem_append_left _ hy),
    hother post fun y hy => huniq y (List.mem_append_right _ hy), hsame]

end

/-! ### Trailers started (R229, R230) -/

/-- Every prepare of a record that needs one is complete. -/
def trailerReady (s : State) (x : JrnRec) : Bool := x.localDone && !x.foreign && (x.remote || x.solo || !(needsRemote s))

/-- A record whose turn has come. -/
def JrnRec.begun (s : State) (x : JrnRec) : JrnRec :=
  { x with trailer := trailerReady s x, solo := x.solo || (s.jrn.solo && trailerReady s x && !x.remote) }

section
variable {s : State} {r : Nat}

/-- The first record of the region whose trailer has not started takes its turn. -/
theorem startTrailers_go_first {l : List JrnRec} {n : Nat} {x : JrnRec} (hx : l[n]? = some x) (hr : x.region = r) (ht : x.trailer = false)
    (hpre : ∀ i < n, ∀ y, l[i]? = some y → y.region = r → y.trailer = true) :
    (startTrailers.go s r true l)[n]? = some (x.begun s) := by
  induction l generalizing n with
  | nil => cases hx
  | cons y l ih =>
    unfold startTrailers.go
    cases n with
    | zero =>
      obtain rfl : y = x := Option.some.inj hx
      rw [if_neg (by simp [hr]), if_neg (by simp [ht])]
      rfl
    | succ n =>
      have hrest := ih hx fun i hi z hz => hpre (i + 1) (Nat.succ_lt_succ hi) z hz
      by_cases hy : y.region = r
      · rw [if_neg (by simp [hy]), if_pos (hpre 0 (Nat.succ_pos n) y rfl hy)]
        exact hrest
      · rw [if_pos (by simpa using hy)]
        exact hrest

/-- The records of another region are as they were. -/
theorem startTrailers_go_other {k : Nat} (hk : k ≠ r) (ok : Bool) (l : List JrnRec) (i : Nat) {z : JrnRec} (hz : z.region = r) :
    (startTrailers.go s k ok l)[i]? = some z ↔ l[i]? = some z := by
  induction l generalizing ok i with
  | nil => rfl
  | cons y l ih =>
    unfold startTrailers.go
    cases i with
    | zero =>
      have hne (w : JrnRec) (hw : w.region = k) : some w ≠ some z := fun h => hk (by rw [← hw, Option.some.inj h, hz])
      by_cases hy : y.region = k
      · rw [if_neg (by simp [hy])]
        split
        · rfl
        · simp only [List.getElem?_cons_zero]
          exact iff_of_false (hne _ hy) (hne _ hy)
      · rw [if_pos (by simpa using hy)]
        rfl
    | succ i =>
      split
      · exact ih ..
      · split <;> exact ih ..

/-- A list cut at a record, by places. -/
theorem getElem?_of_split {l pre post : List JrnRec} {x : JrnRec} (h : l = pre ++ x :: post) : l[pre.length]? = some x := by
  rw [h, List.getElem?_append_right (Nat.le_refl _), Nat.sub_self]
  rfl

/-- The first record of the region whose trailer has not started, in a list cut there. -/
theorem startTrailers_split {pre post : List JrnRec} {x : JrnRec} (h : s.jrn.recs = pre ++ x :: post) (hr : x.region = r)
    (ht : x.trailer = false) (hpre : ∀ y ∈ pre, y.region = r → y.trailer = true) :
    (startTrailers s r).jrn.recs[pre.length]? = some (x.begun s) := by
  refine startTrailers_go_first (getElem?_of_split h) hr ht fun i hi y hy hyr => hpre y ?_ hyr
  rw [h, List.getElem?_append_left hi] at hy
  exact List.mem_of_getElem? hy

end

/-! ### The levels of the rings (R232) -/

/-- The places of the levels. -/
def levelKeys : List Nat :=
  [JOURNAL_REGION_FREE.key 0 0, JOURNAL_REGION_FREE.key 0 1, JOURNAL_REGION_FREE.key 0 2, JOURNAL_REGION_INFLIGHT.key 0 0,
    JOURNAL_REGION_INFLIGHT.key 0 1, JOURNAL_REGION_INFLIGHT.key 0 2, JOURNAL_REGION_OLDEST_JSEQ.key 0 0,
    JOURNAL_REGION_OLDEST_JSEQ.key 0 1, JOURNAL_REGION_OLDEST_JSEQ.key 0 2, JOURNAL_STATUS_FULL.key 0 0, SYS_LDG_FREE_KIB.key 0 0]

/-- The levels of one ring. -/
def ringLevels (r : Nat) (s : State) : State :=
  let s := (s.wr JOURNAL_REGION_FREE (regionFree s r) 0 r).wr JOURNAL_REGION_INFLIGHT (inFlight s r) 0 r
  s.wr JOURNAL_REGION_OLDEST_JSEQ (match regionRecs s r with | [] => s.rd JOURNAL_REGION_NEXT_JSEQ 0 r | x :: _ => x.jseq) 0 r

/-- The levels change register fields only. -/
theorem fieldsOnly_journalLevels (s : State) : FieldsOnly s (journalLevels s) :=
  ((FieldsOnly.forN (f := ringLevels) (fun _ t => (((FieldsOnly.refl t).wr ..).wr ..).wr ..) 3 s).wr ..).wr ..

/-- They change their own places. -/
theorem regsBut_journalLevels (s : State) : RegsBut levelKeys s (journalLevels s) := by
  have hring (r : Nat) (hr : r < 3) (t : State) (ht : RegsBut levelKeys s t) : RegsBut levelKeys s (ringLevels r t) := by
    obtain rfl | rfl | rfl : r = 0 ∨ r = 1 ∨ r = 2 := by omega
    all_goals exact ((ht.wr (by decide) _).wr (by decide) _).wr (by decide) _
  exact ((forN_keeps_lt (P := RegsBut levelKeys s) (f := ringLevels) hring (.refl _ s)).wr (by decide) _).wr (by decide) _

/-- The journal, the bytes and the time are as they were. -/
theorem FieldsOnly.jrn {s t : State} (h : FieldsOnly s t) : t.jrn = s.jrn := by rw [h]
theorem FieldsOnly.bytes {s t : State} (h : FieldsOnly s t) : t.bytes = s.bytes := by rw [h]

/-! ### Words written (R225) -/

/-- The bytes of words written. -/
theorem bytes_writeWords (s : State) (a : Nat) (bs : List Nat) : (writeWords s a bs).bytes = memPutBytes (scanAdvance s).bytes a bs :=
  bytes_linePieces _ (by omega) _

/-- A header is one word. -/
theorem length_header (x : JrnRec) : x.header.length = 64 := by
  simp [JrnRec.header]

/-- The bytes of a record's payload words. -/
def JrnRec.padded (x : JrnRec) : List Nat := x.payload ++ List.replicate (payloadWords x.payload * 64 - x.payload.length) 0

/-- They fill them. -/
theorem length_padded (x : JrnRec) : x.padded.length = payloadWords x.payload * 64 := by
  have hle : x.payload.length ≤ payloadWords x.payload * 64 := by
    unfold payloadWords ceilDiv
    omega
  rw [JrnRec.padded, List.length_append, List.length_replicate]
  omega

end Sys2Proof.Machine

/-!
Records prepared (R229, R230): LOCAL_PREPARE_DONE, PREPARED and its timeout.
-/
namespace Sys2Proof.Machine

/-! ### A record's turn in a list cut there -/

/-- A list of records cut at the first record of a region whose trailer has not started. -/
structure TurnAt (s : State) (r : Nat) (pre post : List JrnRec) (x : JrnRec) : Prop where
  recs : s.jrn.recs = pre ++ x :: post
  region : x.region = r
  trailer : x.trailer = false
  foreign : x.foreign = false
  before : ∀ y ∈ pre, y.region = r → y.trailer = true ∧ y.localDone = true
  unique : ∀ y ∈ pre ++ post, y.region = r → y.jseq ≠ x.jseq

section
variable {s : State} {r : Nat} {pre post : List JrnRec} {x : JrnRec} (h : TurnAt s r pre post x)
include h

/-- The record changed, then the trailers of the region started. -/
theorem TurnAt.update {t : State} (hjrn : t.jrn = s.jrn) (f : JrnRec → JrnRec) (hf : (f x).region = r ∧ (f x).trailer = false) :
    (startTrailers (updRec t r x.jseq f) r).jrn.recs[pre.length]? = some ((f x).begun t) :=
  startTrailers_split (recs_updRec_split (by rw [hjrn, h.recs]) h.region h.unique f) hf.1 hf.2 fun y hy hyr => (h.before y hy hyr).1

/-- It is the one its region looks for by its JSEQ. -/
theorem TurnAt.firstRec_jseq : firstRec s r (fun y => y.jseq == x.jseq) = some x :=
  firstRec_of_split h.recs h.region (by simp) fun y hy hyr => by
    simpa using h.unique y (List.mem_append_left _ hy) hyr

end

/-! ### LOCAL_PREPARE_DONE (R229) -/

section
variable {s : State} {r : Nat}

/-- The header and the payload words of a record written, and counted. -/
def writePrepare (s : State) (r : Nat) (x : JrnRec) : State :=
  countWrites (writeWords s (regionBase r + x.word * 64) (x.header ++ x.padded)) r (payloadWords x.payload + 1)

/-- The record looked for is written, and the trailers that have become ready start. -/
theorem localPrepare_of_firstRec {x : JrnRec} (h : firstRec s r (fun y => !y.localDone && !y.foreign) = some x) :
    localPrepare s r = startTrailers (updRec (writePrepare s r x) r x.jseq fun y => { y with localDone := true }) r := by
  unfold localPrepare
  rw [h]
  rfl

/-- While no scan runs, the words of a record are the header and the payload at its place. -/
theorem writePrepare_idle (hscan : s.on SCAN_STATUS_BUSY = false) (x : JrnRec) :
    (writePrepare s r x).bytes = memPutBytes s.bytes (regionBase r + x.word * 64) (x.header ++ x.padded) ∧
      (writePrepare s r x).jrn = s.jrn ∧ RegsBut [JOURNAL_REGION_WRITES.key 0 r] s (writePrepare s r x) ∧
      (writePrepare s r x).rd JOURNAL_REGION_WRITES 0 r = (s.rd JOURNAL_REGION_WRITES 0 r + (payloadWords x.payload + 1)) % 2 ^ 64 := by
  obtain ⟨hbytes, hrest⟩ := writeWords_idle hscan (regionBase r + x.word * 64) (x.header ++ x.padded)
  have hregs (f : Fld) (i j : Nat) :
      (writeWords s (regionBase r + x.word * 64) (x.header ++ x.padded)).rd f i j = s.rd f i j := by rw [hrest]; rfl
  refine ⟨hbytes, ?_, ?_, ?_⟩
  · rw [writePrepare, hrest]
    rfl
  · exact RegsBut.wr (fun f i j _ => hregs f i j) (by simp) _
  · rw [writePrepare, countWrites, State.count, State.rd_wr_same, hregs]
    rfl

/-- The oldest unprepared record gets its words, and its trailer its turn. -/
theorem localPrepare_leaves {pre post : List JrnRec} {x : JrnRec} (h : TurnAt s r pre post x) (hx : x.localDone = false)
    (hscan : s.on SCAN_STATUS_BUSY = false) (hwf : Memory.wf s.bytes = true) :
    let t := localPrepare s r
    (let ready := x.remote || x.solo || !(needsRemote s)
     t.jrn.recs[pre.length]? = some { x with localDone := true, trailer := ready, solo := x.solo || (s.jrn.solo && ready && !x.remote) }) ∧
      t.rd JOURNAL_REGION_WRITES 0 r = (s.rd JOURNAL_REGION_WRITES 0 r + (payloadWords x.payload + 1)) % 2 ^ 64 ∧
      (∀ k v, (x.header ++ x.payload)[k]? = some v → memGet t.bytes (regionBase r + x.word * 64 + k) = BitVec.ofNat 8 v) ∧
      (∀ a, a < regionBase r + x.word * 64 ∨ regionBase r + (x.word + 1 + payloadWords x.payload) * 64 ≤ a →
        memGet t.bytes a = memGet s.bytes a) := by
  have hfirst : firstRec s r (fun y => !y.localDone && !y.foreign) = some x :=
    firstRec_of_split h.recs h.region (by simp [hx, h.foreign]) fun y hy hyr => by simp [(h.before y hy hyr).2]
  obtain ⟨hbytes, hjrn, hregs, hwrites⟩ := writePrepare_idle (r := r) hscan x
  have hneeds : needsRemote (writePrepare s r x) = needsRemote s := by
    have hstate := hregs TWIN_STATUS_STATE 0 0 (by
      have hkey : JOURNAL_REGION_WRITES.key 0 r = (0x20060000 + 0x58 + r * 0x20) * 32 := rfl
      have htwin : TWIN_STATUS_STATE.key 0 0 = 0x20090008 * 32 := rfl
      simp only [List.mem_singleton]
      omega)
    rw [needsRemote, standalone, hjrn, hstate, needsRemote, standalone]
  have hturn := h.update hjrn (fun y => { y with localDone := true }) ⟨h.region, h.trailer⟩
  dsimp only
  rw [localPrepare_of_firstRec hfirst]
  generalize writePrepare s r x = u at hbytes hjrn hwrites hneeds hturn
  refine ⟨hturn.trans ?_, hwrites, fun k v hk => ?_, fun a ha => ?_⟩
  · rw [JrnRec.begun, trailerReady, hneeds, hjrn]
    simp [h.foreign]
  · refine (congrArg (memGet · _) hbytes).trans (memGet_memPutBytes hwf _ ?_)
    rw [JrnRec.padded, ← List.append_assoc]
    exact List.getElem?_append_left (List.getElem?_eq_some_iff.mp hk).1 |>.trans hk
  · refine (congrArg (memGet · _) hbytes).trans (memGet_memPutBytes_ne hwf _ ?_)
    rw [List.length_append, length_header, length_padded]
    omega

/-- With every record prepared nothing is done. -/
theorem localPrepare_none (h : ∀ y ∈ s.jrn.recs, y.region = r → (y.localDone || y.foreign) = true) : localPrepare s r = s := by
  have hnone : firstRec s r (fun y => !y.localDone && !y.foreign) = none :=
    firstRec_eq_none.mpr fun y hy hyr => by
      have hdone := h y hy hyr
      cases hl : y.localDone
      · rw [hl] at hdone
        simpa using hdone
      · rfl
  unfold localPrepare
  rw [hnone]

/-! ### PREPARED (R229) -/

/-- PREPARED marks the record as held by the standby, and its trailer starts once it is prepared here. -/
theorem preparedReceive_leaves {pre post : List JrnRec} {x : JrnRec} (h : TurnAt s r pre post x) :
    (preparedReceive s r x.jseq).jrn.recs[pre.length]? = some { x with remote := true, trailer := x.localDone } := by
  have hsame : (if x.foreign then x else { x with remote := true }) = { x with remote := true } := if_neg (by rw [h.foreign]; decide)
  have hturn := h.update (t := s) rfl (fun y => if y.foreign then y else { y with remote := true })
    (by rw [hsame]; exact ⟨h.region, h.trailer⟩)
  refine hturn.trans ?_
  rw [hsame, JrnRec.begun, trailerReady]
  simp [h.foreign]

end

end Sys2Proof.Machine

/-!
SUPPORT. Records appended, by this unit and as FAULT records, and the timeout of PREPARED (R227 to R230, R342).
-/
namespace Sys2Proof.Machine

/-! ### What the journal's own writes leave -/

/-- From s to t the edge and the fields at the places held, those of the list apart, are as they were; memory keeps its form. -/
structure JournalHeld (ks : List Nat) (s t : State) : Prop where
  regs : ∀ (f : Fld) (i j : Nat), heldPlace (f.key i j) → f.key i j ∉ ks → t.rd f i j = s.rd f i j
  fab : t.fab = s.fab
  wf : Memory.wf s.bytes = true → Memory.wf t.bytes = true

section
variable {ks : List Nat} {s t u : State}

/-- Nothing changed. -/
theorem JournalHeld.refl (ks : List Nat) (s : State) : JournalHeld ks s s := ⟨fun _ _ _ _ _ => rfl, rfl, id⟩

/-- One change after another. -/
theorem JournalHeld.trans (h : JournalHeld ks s t) (hu : JournalHeld ks t u) : JournalHeld ks s u :=
  ⟨fun f i j hp hk => (hu.regs f i j hp hk).trans (h.regs f i j hp hk), hu.fab.trans h.fab, hu.wf ∘ h.wf⟩

/-- A longer list. -/
theorem JournalHeld.mono (h : JournalHeld ks s t) {ls : List Nat} (hl : ks ⊆ ls) : JournalHeld ls s t :=
  ⟨fun f i j hp hk => h.regs f i j hp fun hm => hk (hl hm), h.fab, h.wf⟩

/-- A field written at a place of the list. -/
theorem JournalHeld.wr (h : JournalHeld ks s t) {f : Fld} {i j : Nat} (hk : f.key i j ∈ ks) (v : Nat) : JournalHeld ks s (t.wr f v i j) :=
  h.trans ⟨fun _ _ _ _ hn => State.rd_wr_ne _ _ _ _ _ _ _ _ fun e => hn (e ▸ hk), rfl, id⟩

/-- A counter advanced at a place of the list. -/
theorem JournalHeld.count (h : JournalHeld ks s t) {f : Fld} {i j : Nat} (hk : f.key i j ∈ ks) (n : Nat) :
    JournalHeld ks s (t.count f i j n) := h.wr hk _

/-- The hidden state of the journal replaced. -/
theorem JournalHeld.jrn (h : JournalHeld ks s t) (x : JrnSt) : JournalHeld ks s { t with jrn := x } :=
  h.trans ⟨fun _ _ _ _ _ => rfl, rfl, id⟩

/-- Other parts of the state replaced. -/
theorem JournalHeld.rest (h : JournalHeld ks s t) (hregs : u.regs = t.regs) (hfab : u.fab = t.fab) (hbytes : u.bytes = t.bytes) :
    JournalHeld ks s u :=
  h.trans ⟨fun f i j _ _ => by rw [State.rd, hregs, State.rd], hfab, by rw [hbytes]; exact id⟩

/-- What stores and scans do. -/
theorem StoreHeld.journal (h : StoreHeld s t) (ks : List Nat) : JournalHeld ks s t :=
  ⟨fun f i j hp _ => h.regs f i j hp, by rw [h.rest], h.wf⟩

/-- The levels. -/
theorem journalHeld_levels (hl : levelKeys ⊆ ks) (s : State) : JournalHeld ks s (journalLevels s) := by
  have hfields := fieldsOnly_journalLevels s
  refine ⟨fun f i j _ hk => regsBut_journalLevels s f i j fun hm => hk (hl hm), ?_, ?_⟩
  · rw [hfields]
  · rw [hfields.bytes]
    exact id

end

/-! ### A record appended (R227) -/

/-- The places that a record appended to a region changes. -/
def appendKeys (r : Nat) : List Nat := JOURNAL_REGION_NEXT_JSEQ.key 0 r :: JOURNAL_REGION_WRITES.key 0 r :: levelKeys

/-- The levels are among them. -/
theorem levelKeys_subset (r : Nat) : levelKeys ⊆ appendKeys r := fun _ h => List.mem_cons_of_mem _ (List.mem_cons_of_mem _ h)

section
variable (s : State) (j : JrnSub)

/-- The record that a submission becomes. -/
def appendedRec : JrnRec :=
  let span := recordSpan j.region j.payload
  let pad := padFor s j.region span
  { region := j.region, jseq := s.rd JOURNAL_REGION_NEXT_JSEQ 0 j.region, key := j.key
    epoch := s.rd TWIN_EPOCH_EPOCH, unit := unitCode s, timeNs := s.ns, payload := j.payload
    word := if pad = 0 then s.jrn.tail.get 0 j.region else 0, pad := pad, span := span, edge := s.fab, work := j.work }

/-- The state with the PAD words written where the record does not fit before the end of its ring. -/
def padWritten : State :=
  let span := recordSpan j.region j.payload
  let pad := padFor s j.region span
  if pad = 0 then s
  else countWrites (writeWords s (regionBase j.region + s.jrn.tail.get 0 j.region * 64) (padHeader j.region pad)) j.region 1

/-- They change the count of writes. -/
theorem padWritten_leaves : (padWritten s j).jrn = s.jrn ∧ JournalHeld [JOURNAL_REGION_WRITES.key 0 j.region] s (padWritten s j) := by
  have hwords := storeHeld_writeWords s (regionBase j.region + s.jrn.tail.get 0 j.region * 64)
    (padHeader j.region (padFor s j.region (recordSpan j.region j.payload)))
  unfold padWritten
  dsimp only
  split
  · exact ⟨rfl, .refl _ s⟩
  · exact ⟨hwords.jrn, (hwords.journal _).wr (by simp) _⟩

/-- The ring's records and tail with the record. -/
def appendJrn : JrnSt :=
  { s.jrn with
    recs := s.jrn.recs ++ [appendedRec s j]
    tail := s.jrn.tail.set j.region (((appendedRec s j).word + (appendedRec s j).span) % regionWords j.region) }

/-- A record appended in steps. -/
theorem appendRec_eq :
    appendRec s j = journalLevels ({ padWritten s j with jrn := appendJrn s j }.count JOURNAL_REGION_NEXT_JSEQ 0 j.region) := by
  have hsteps : appendRec s j = journalLevels (State.count { padWritten s j with
      jrn := { (padWritten s j).jrn with
        recs := (padWritten s j).jrn.recs ++ [appendedRec s j]
        tail := (padWritten s j).jrn.tail.set j.region (((appendedRec s j).word + (appendedRec s j).span) % regionWords j.region) } }
      JOURNAL_REGION_NEXT_JSEQ 0 j.region) := rfl
  rw [hsteps, (padWritten_leaves s j).1]
  rfl

/-- A record appended stands behind the others of the ring. -/
theorem appendRec_leaves : (appendRec s j).jrn = appendJrn s j ∧ JournalHeld (appendKeys j.region) s (appendRec s j) := by
  have hpad := (padWritten_leaves s j).2.mono (ls := appendKeys j.region) (by simp [appendKeys])
  rw [appendRec_eq]
  generalize padWritten s j = u at hpad ⊢
  have hnext : JOURNAL_REGION_NEXT_JSEQ.key 0 j.region ∈ appendKeys j.region := List.mem_cons_self
  exact ⟨(fieldsOnly_journalLevels _).jrn, ((hpad.jrn _).count hnext 1).trans (journalHeld_levels (levelKeys_subset _) _)⟩

end

/-! ### A FAULT record (R225, R342) -/

/-- The places that a FAULT record changes. -/
def faultKeys : List Nat := JOURNAL_STATUS_FAULT_FULL.key 0 0 :: appendKeys RG_FAULT

/-- Those of a record are among them. -/
theorem appendKeys_subset : appendKeys RG_FAULT ⊆ faultKeys := fun _ h => List.mem_cons_of_mem _ h

/-- From s to t the records go on, SOLO commits are as they were, and no other place held has changed. -/
structure FaultRecorded (s t : State) : Prop where
  recs : ∃ more, t.jrn.recs = s.jrn.recs ++ more
  solo : t.jrn.solo = s.jrn.solo
  held : JournalHeld faultKeys s t

/-- Nothing is recorded. -/
theorem FaultRecorded.none {s t : State} (hjrn : t.jrn.recs = s.jrn.recs ∧ t.jrn.solo = s.jrn.solo) (hheld : JournalHeld faultKeys s t) :
    FaultRecorded s t := ⟨⟨[], by rw [hjrn.1, List.append_nil]⟩, hjrn.2, hheld⟩

/-- Either branch. -/
theorem FaultRecorded.ite {c : Prop} [Decidable c] {s t u : State} (ht : FaultRecorded s t) (hu : FaultRecorded s u) :
    FaultRecorded s (if c then t else u) := by
  split <;> assumption

/-- A submission to FAULT is appended, or it waits. -/
theorem faultRecorded_submit (s : State) {j : JrnSub} (hj : j.region = RG_FAULT) : FaultRecorded s (submit s j) := by
  obtain ⟨hjrn, hheld⟩ := appendRec_leaves s j
  rw [hj] at hheld
  refine .ite (.none ?_ ?_) ⟨⟨[appendedRec s j], by rw [hjrn]; rfl⟩, by rw [hjrn]; rfl, hheld.mono appendKeys_subset⟩
  · rw [(fieldsOnly_journalLevels _).jrn]
    exact ⟨rfl, rfl⟩
  · exact ((JournalHeld.refl _ s).jrn _).trans (journalHeld_levels (fun _ h => appendKeys_subset (levelKeys_subset _ h)) _)

/-- One change after another. -/
theorem FaultRecorded.trans {s t u : State} (h : FaultRecorded s t) (hu : FaultRecorded t u) : FaultRecorded s u := by
  obtain ⟨⟨more, hrecs⟩, hsolo, hheld⟩ := h
  obtain ⟨⟨more', hrecs'⟩, hsolo', hheld'⟩ := hu
  exact ⟨⟨more ++ more', by rw [hrecs', hrecs, List.append_assoc]⟩, hsolo'.trans hsolo, hheld.trans hheld'⟩

/-- A submission with its number. -/
theorem faultRecorded_submitFault (s : State) (payload : List Nat) : FaultRecorded s (submitFault s payload) := by
  have hnumber : FaultRecorded s { s with jrn := { s.jrn with faults := s.jrn.faults + 1 } } :=
    .none ⟨rfl, rfl⟩ ((JournalHeld.refl _ s).jrn _)
  refine .ite (.none ⟨rfl, rfl⟩ (.refl _ s)) (.ite (hnumber.trans (faultRecorded_submit _ rfl)) (.none ⟨rfl, rfl⟩ ?_))
  exact (JournalHeld.refl _ s).wr (by simp [faultKeys]) _

/-- A FAULT record. -/
theorem faultRecorded_faultRecord (s : State) : FaultRecorded s (faultRecord s) := by
  have hfree : FaultRecorded s { s with free := s.free + 1 } := .none ⟨rfl, rfl⟩ ((JournalHeld.refl _ s).rest rfl rfl rfl)
  exact .ite (.none ⟨rfl, rfl⟩ (.refl _ s)) (hfree.trans (faultRecorded_submitFault _ _))

/-! ### SOLO commits begin (R230) -/

/-- The records of one region are as they were, and so is what decides whether the standby is asked. -/
def SameRegion (r : Nat) (s t : State) : Prop :=
  (∀ (i : Nat) (z : JrnRec), z.region = r → (t.jrn.recs[i]? = some z ↔ s.jrn.recs[i]? = some z)) ∧ t.jrn.solo = s.jrn.solo

/-- The trailers of another region started. -/
theorem sameRegion_startTrailers {r k : Nat} (h : k ≠ r) (s : State) : SameRegion r s (startTrailers s k) :=
  ⟨fun i _ hz => startTrailers_go_other h true s.jrn.recs i hz, rfl⟩

/-- What waits for the standby in a region gets its trailer with SOLO. -/
theorem goSolo_leaves {s : State} {r n : Nat} {x : JrnRec} (hr : r < 3) (hx : s.jrn.recs[n]? = some x) (hreg : x.region = r)
    (ht : x.trailer = false) (hfor : x.foreign = false) (hrem : x.remote = false)
    (hpre : ∀ i < n, ∀ y, s.jrn.recs[i]? = some y → y.region = r → y.trailer = true) :
    (goSolo s).jrn.recs[n]? = some { x with solo := x.solo || x.localDone, trailer := x.localDone } := by
  obtain ⟨t, ⟨hsame, hsolo⟩, hafter, -⟩ := forN_split (R := SameRegion r) (fun _ => ⟨fun _ _ _ => Iff.rfl, rfl⟩)
    (fun _ _ _ h g => ⟨fun i z hz => (g.1 i z hz).trans (h.1 i z hz), g.2.trans h.2⟩) (f := fun k s => startTrailers s k) hr
    (fun k _ hk s => sameRegion_startTrailers hk s) { s with jrn := { s.jrn with solo := true, rejoined := false } }
  have hbegun : x.begun t = { x with solo := x.solo || x.localDone, trailer := x.localDone } := by
    have htsolo : t.jrn.solo = true := hsolo
    simp [JrnRec.begun, trailerReady, needsRemote, htsolo, hfor, hrem]
  rw [← hbegun]
  exact (hafter n (x.begun t) hreg).mpr (startTrailers_go_first ((hsame n x hreg).mpr hx) hreg ht
    fun i hi y hy hyr => hpre i hi y ((hsame i y hyr).mp hy) hyr)

/-- The registers and the edge are as they were. -/
theorem rd_goSolo (s : State) (f : Fld) (i j : Nat) : (goSolo s).rd f i j = s.rd f i j := rfl
theorem fab_goSolo (s : State) : (goSolo s).fab = s.fab := rfl

/-- SOLO commits have begun. -/
theorem goSolo_solo (s : State) : (goSolo s).jrn.solo = true := rfl

/-! ### PREPARE_TIMEOUT (R230) -/

section
variable {s : State} {r : Nat}

/-- A journal that does not ask the standby has no timeout. -/
theorem prepareTimeout_alone (h : needsRemote s = false) (jseq : Nat) : prepareTimeout s r jseq = s := by
  unfold prepareTimeout
  split
  · rfl
  · rw [if_pos (by simp [h])]

/-- The twin has not answered within ACK_TO. -/
theorem prepareTimeout_leaves (hr : r < 3) {pre post : List JrnRec} {x : JrnRec} (h : TurnAt s r pre post x) (hrem : x.remote = false)
    (hstate : x.state = 0) (hneeds : needsRemote s = true) :
    let t := prepareTimeout s r x.jseq
    t.on JOURNAL_STATUS_TWIN_LOST = true ∧ t.on TWIN_STATUS_LINK_EV = true ∧ t.jrn.solo = true ∧
      t.fab = max s.fab (x.edge + s.rd JOURNAL_CFG_ACK_TO) ∧
      t.jrn.recs[pre.length]? = some { x with solo := x.solo || x.localDone, trailer := x.localDone } := by
  generalize hu : ((s.toEdge (x.edge + s.rd JOURNAL_CFG_ACK_TO)).raise JOURNAL_STATUS_TWIN_LOST).raise TWIN_STATUS_LINK_EV = u
  obtain ⟨⟨more, hrecs⟩, hsolo, hregs, hfab, -⟩ := faultRecorded_faultRecord u
  have hlost : u.on JOURNAL_STATUS_TWIN_LOST = true := by
    rw [← hu, State.raise, State.on, State.rd_wr_ne _ _ _ _ _ _ _ _ (by decide)]
    exact on_raise rfl _ 0 0
  have hev : u.on TWIN_STATUS_LINK_EV = true := by rw [← hu]; exact on_raise rfl _ 0 0
  have hstd : u.rd TWIN_STATUS_STATE = s.rd TWIN_STATUS_STATE := by
    rw [← hu, State.raise, State.rd_wr_ne _ _ _ _ _ _ _ _ (by decide), State.raise, State.rd_wr_ne _ _ _ _ _ _ _ _ (by decide),
      rd_toEdge (by decide)]
  have hujrn : u.jrn = s.jrn := by rw [← hu]; rfl
  have hufab : u.fab = max s.fab (x.edge + s.rd JOURNAL_CFG_ACK_TO) := by rw [← hu]; exact fab_toEdge s _
  have hheld (f : Fld) (hf : heldPlace (f.key 0 0)) (hk : f.key 0 0 ∉ faultKeys) : (faultRecord u).rd f = u.rd f := hregs f 0 0 hf hk
  obtain ⟨hstandalone, halone⟩ : standalone s = false ∧ s.jrn.solo = false := by simpa [needsRemote] using hneeds
  have hcond : (standalone (faultRecord u) || (faultRecord u).jrn.solo) = false := by
    have hsame : standalone (faultRecord u) = standalone s := by
      rw [standalone, hheld _ (by unfold heldPlace; decide) (by decide), hstd, standalone]
    rw [hsame, hsolo, hujrn, hstandalone, halone]
    rfl
  have hgo : prepareTimeout s r x.jseq = goSolo (faultRecord u) := by
    unfold prepareTimeout
    rw [h.firstRec_jseq]
    dsimp only
    rw [if_neg (by simp [hrem, hstate, h.foreign, hneeds])]
    unfold twinLost twinFault
    rw [hu]
    dsimp only
    rw [hcond]
    rfl
  have hsplit : (faultRecord u).jrn.recs = pre ++ x :: (post ++ more) := by
    rw [hrecs, hujrn, h.recs, List.append_assoc, List.cons_append]
  have hlost' := (hheld JOURNAL_STATUS_TWIN_LOST (by unfold heldPlace; decide) (by decide))
  have hev' := (hheld TWIN_STATUS_LINK_EV (by unfold heldPlace; decide) (by decide))
  dsimp only
  rw [hgo]
  generalize faultRecord u = v at hfab hsplit hlost' hev'
  refine ⟨?_, ?_, goSolo_solo v, (fab_goSolo v).trans (hfab.trans hufab), ?_⟩
  · rw [State.on, rd_goSolo, hlost']
    exact hlost
  · rw [State.on, rd_goSolo, hev']
    exact hev
  · refine goSolo_leaves hr (getElem?_of_split hsplit) h.region h.trailer h.foreign hrem fun i hi y hy hyr => ?_
    rw [hsplit, List.getElem?_append_left hi] at hy
    exact (h.before y (List.mem_of_getElem? hy) hyr).1

end

end Sys2Proof.Machine

/-!
Records accepted, and the standby's part (R228, R229).
-/
namespace Sys2Proof.Machine

/-! ### A trailer written (R228) -/

/-- A record whose trailer says that it is committed. -/
def JrnRec.committed (x : JrnRec) : JrnRec := { x with state := 1, trailer := true }

section
variable {s : State} {r : Nat}

/-- The word of a trailer written, and counted. -/
def writeTrailerWord (s : State) (r : Nat) (x : JrnRec) : State :=
  countWrites (writeWords s (regionBase r + (x.word + payloadWords x.payload + 1) * 64) (x.trailerBytes s.ns)) r 1

/-- A trailer written for the record its region looks for. -/
theorem writeTrailer_of_firstRec {jseq : Nat} {x : JrnRec} (h : firstRec s r (fun y => y.jseq == jseq) = some x) (state : Nat) :
    writeTrailer s r jseq state =
      journalLevels (updRec (writeTrailerWord s r { x with state := state, trailer := true }) r jseq fun _ =>
        { x with state := state, trailer := true }) := by
  unfold writeTrailer
  rw [h]
  rfl

/-- The word leaves the journal, and its bytes are those of the trailer. -/
theorem writeTrailerWord_leaves (s : State) (r : Nat) (x : JrnRec) : (writeTrailerWord s r x).jrn = s.jrn ∧
    JournalHeld [JOURNAL_REGION_WRITES.key 0 r] s (writeTrailerWord s r x) ∧
    (Memory.wf s.bytes = true → ∀ k v, (x.trailerBytes s.ns)[k]? = some v →
      memGet (writeTrailerWord s r x).bytes (regionBase r + (x.word + payloadWords x.payload + 1) * 64 + k) = BitVec.ofNat 8 v) := by
  have hwords := storeHeld_writeWords s (regionBase r + (x.word + payloadWords x.payload + 1) * 64) (x.trailerBytes s.ns)
  refine ⟨hwords.jrn, (hwords.journal _).count (by simp) _, fun hwf k v hk => ?_⟩
  have hbytes : (writeTrailerWord s r x).bytes = _ := bytes_writeWords s (regionBase r + (x.word + payloadWords x.payload + 1) * 64)
    (x.trailerBytes s.ns)
  rw [hbytes]
  exact memGet_memPutBytes ((storeHeld_scanAdvance s).wf hwf) _ hk

/-- A record whose JSEQ no other of its region has becomes committed. -/
theorem writeTrailer_commits {jseq : Nat} {x : JrnRec} (hx : x ∈ s.jrn.recs) (hreg : x.region = r) (hjseq : x.jseq = jseq)
    (huniq : ∀ z ∈ s.jrn.recs, z.region = r → z.jseq = jseq → z = x) :
    (writeTrailer s r jseq 1).jrn.recs = s.jrn.recs.map (fun z => if z.region = r ∧ z.jseq = jseq then x.committed else z) ∧
      (Memory.wf s.bytes = true → ∀ k v, (x.committed.trailerBytes s.ns)[k]? = some v →
        memGet (writeTrailer s r jseq 1).bytes (regionBase r + (x.word + payloadWords x.payload + 1) * 64 + k) = BitVec.ofNat 8 v) := by
  have hfirst : firstRec s r (fun y => y.jseq == jseq) = some x :=
    firstRec_of_unique hx hreg (by simp [hjseq]) fun y hy hyr hyj => huniq y hy hyr (by simpa using hyj)
  obtain ⟨hjrn, -, hmem⟩ := writeTrailerWord_leaves s r x.committed
  have hfields (t : State) := fieldsOnly_journalLevels t
  rw [writeTrailer_of_firstRec hfirst, (hfields _).jrn, (hfields _).bytes, ← JrnRec.committed]
  generalize writeTrailerWord s r x.committed = u at hjrn hmem
  refine ⟨?_, hmem⟩
  unfold updRec
  dsimp only
  rw [hjrn]
  simp only [Bool.and_eq_true, decide_eq_true_eq]

/-! ### JOURNAL_ACCEPT and COMMIT at the standby (R229) -/

/-- The oldest trailer completes: the record is committed, its work acts, and a waiting submission takes the place. -/
theorem journalAccept_leaves {x : JrnRec} (hdue : trailerDue s r = some x) (huniq : ∀ z ∈ s.jrn.recs, z.region = r → z.jseq = x.jseq → z = x)
    (hwf : Memory.wf s.bytes = true) : ∃ u, journalAccept s r = submitPages (admitWaiting (acceptWork u x.committed) r) ∧
      u.jrn.recs = s.jrn.recs.map (fun z => if z.region = r ∧ z.jseq = x.jseq then x.committed else z) ∧
      (∀ k v, (x.committed.trailerBytes s.ns)[k]? = some v →
        memGet u.bytes (regionBase r + (x.word + payloadWords x.payload + 1) * 64 + k) = BitVec.ofNat 8 v) := by
  obtain ⟨hx, hreg, -⟩ := mem_of_firstRec hdue
  obtain ⟨hrecs, hmem⟩ := writeTrailer_commits hx hreg rfl huniq
  refine ⟨writeTrailer s r x.jseq 1, ?_, hrecs, hmem hwf⟩
  unfold journalAccept
  rw [hdue]
  rfl

/-- With no trailer started nothing is done. -/
theorem journalAccept_none (h : trailerDue s r = none) : journalAccept s r = s := by
  unfold journalAccept
  rw [h]

/-- COMMIT for a record of the holder commits it here, and its work acts. -/
theorem remoteCommit_leaves {jseq : Nat} {x : JrnRec} (h : firstRec s r (fun z => z.jseq == jseq && z.foreign && z.state == 0) = some x)
    (huniq : ∀ z ∈ s.jrn.recs, z.region = r → z.jseq = jseq → z = x) : ∃ u, remoteCommit s r jseq = acceptWork u x.committed ∧
      u.jrn.recs = s.jrn.recs.map (fun z => if z.region = r ∧ z.jseq = x.jseq then x.committed else z) := by
  obtain ⟨hx, hreg, hsel⟩ := mem_of_firstRec h
  obtain ⟨⟨hjseq, -⟩, -⟩ : (x.jseq = jseq ∧ x.foreign = true) ∧ x.state = 0 := by simpa using hsel
  refine ⟨writeTrailer s r jseq 1, ?_, ?_⟩
  · unfold remoteCommit
    rw [h]
    rfl
  · rw [hjseq]
    exact (writeTrailer_commits hx hreg hjseq huniq).1

/-- With no such record nothing is done. -/
theorem remoteCommit_none {jseq : Nat} (h : firstRec s r (fun z => z.jseq == jseq && z.foreign && z.state == 0) = none) :
    remoteCommit s r jseq = s := by
  unfold remoteCommit
  rw [h]

end

/-! ### REMOTE_PREPARE (R229) -/

/-- A record as the holder sent it. -/
def receivedRec (x : JrnRec) (epoch unit timeNs : Nat) : JrnRec :=
  { x with epoch := epoch, unit := unit, timeNs := timeNs, localDone := true, foreign := true }

section
variable {s : State} {r jseq key epoch unit timeNs : Nat} {payload : List Nat} {work : Work}

/-- The code that a record of the holder is refused with. -/
def remoteCode (s : State) (r jseq epoch : Nat) (payload : List Nat) : Nat :=
  if sx 16 (uz 16 ((epoch : Int) - s.rd TWIN_EPOCH_EPOCH)) < 0 then E_TOKEN
  else if jseq ≠ s.rd JOURNAL_REGION_NEXT_JSEQ 0 r then E_SEQ
  else if regionFits s r (recordSpan r payload) = false then E_FULL else OK

/-- A record refused is answered with its code. -/
theorem remotePrepare_refused (h : remoteCode s r jseq epoch payload ≠ OK) :
    remotePrepare s r jseq key epoch unit timeNs payload work = s.refuse .journal 0 0 (remoteCode s r jseq epoch payload) := by
  unfold remoteCode at h ⊢
  unfold remotePrepare
  by_cases hold : sx 16 (uz 16 ((epoch : Int) - s.rd TWIN_EPOCH_EPOCH)) < 0
  · simp only [if_pos hold]
  · by_cases hseq : jseq = s.rd JOURNAL_REGION_NEXT_JSEQ 0 r
    · by_cases hfit : regionFits s r (recordSpan r payload) = true
      · simp [hold, hseq, hfit] at h
      · simp [hold, hseq, hfit]
    · simp [hold, hseq]

/-- The state with the record received behind the others. -/
def receivedState (s : State) (r jseq key epoch unit timeNs : Nat) (payload : List Nat) (work : Work) : State :=
  updRec (appendRec s ⟨r, key, payload, work⟩) r jseq fun x => receivedRec x epoch unit timeNs

/-- A record taken is appended with the holder's header. -/
theorem recs_receivedState (hseq : jseq = s.rd JOURNAL_REGION_NEXT_JSEQ 0 r)
    (huniq : ∀ z ∈ s.jrn.recs, z.region = r → z.jseq ≠ jseq) :
    (receivedState s r jseq key epoch unit timeNs payload work).jrn.recs =
      s.jrn.recs ++ [receivedRec (appendedRec s ⟨r, key, payload, work⟩) epoch unit timeNs] := by
  have happ : (appendRec s ⟨r, key, payload, work⟩).jrn.recs = s.jrn.recs ++ appendedRec s ⟨r, key, payload, work⟩ :: [] := by
    rw [(appendRec_leaves s _).1]
    rfl
  have hx : (appendedRec s ⟨r, key, payload, work⟩).jseq = jseq := hseq.symm
  have hsplit := recs_updRec_split happ rfl (fun y hy hyr => by rw [hx]; exact huniq y (by simpa using hy) hyr)
    fun x => receivedRec x epoch unit timeNs
  rw [hx] at hsplit
  exact hsplit

/-- A record replaced leaves the registers. -/
theorem rd_updRec (s : State) (r jseq : Nat) (g : JrnRec → JrnRec) (f : Fld) (i j : Nat) : (updRec s r jseq g).rd f i j = s.rd f i j := rfl

/-- The next JSEQ of a region is held, and no level or count of writes. -/
theorem heldPlace_nextJseq {r : Nat} (hr : r < 3) : heldPlace (JOURNAL_REGION_NEXT_JSEQ.key 0 r) ∧
    JOURNAL_REGION_NEXT_JSEQ.key 0 r ∉ levelKeys ∧ JOURNAL_REGION_NEXT_JSEQ.key 0 r ∉ [JOURNAL_REGION_WRITES.key 0 r] := by
  unfold heldPlace
  obtain rfl | rfl | rfl : r = 0 ∨ r = 1 ∨ r = 2 := by omega
  all_goals decide

/-- A record appended takes the next JSEQ. -/
theorem next_appendRec (s : State) {j : JrnSub} (hr : j.region < 3) : (appendRec s j).rd JOURNAL_REGION_NEXT_JSEQ 0 j.region =
    (s.rd JOURNAL_REGION_NEXT_JSEQ 0 j.region + 1) % 2 ^ 64 := by
  obtain ⟨hplace, hlevel, hwrites⟩ := heldPlace_nextJseq hr
  have hpad := (padWritten_leaves s j).2.regs JOURNAL_REGION_NEXT_JSEQ 0 j.region hplace hwrites
  rw [appendRec_eq, regsBut_journalLevels _ _ _ _ hlevel, State.count, State.rd_wr_same, ← hpad]
  rfl

/-- The words of a record received leave the journal and the next JSEQ. -/
theorem writePrepare_held (s : State) (x : JrnRec) {r : Nat} (hr : r < 3) : (writePrepare s r x).jrn = s.jrn ∧
    (writePrepare s r x).rd JOURNAL_REGION_NEXT_JSEQ 0 r = s.rd JOURNAL_REGION_NEXT_JSEQ 0 r := by
  have hwords := storeHeld_writeWords s (regionBase r + x.word * 64) (x.header ++ x.padded)
  obtain ⟨hplace, -, hwrites⟩ := heldPlace_nextJseq hr
  exact ⟨hwords.jrn, ((hwords.journal _).count (List.mem_singleton_self _) _).regs _ _ _ hplace hwrites⟩

/-- No code stands against a record that is the next, of no older epoch, with room. -/
theorem remoteCode_ok (h : remoteCode s r jseq epoch payload = OK) : ¬ sx 16 (uz 16 ((epoch : Int) - s.rd TWIN_EPOCH_EPOCH)) < 0 ∧
    jseq = s.rd JOURNAL_REGION_NEXT_JSEQ 0 r ∧ regionFits s r (recordSpan r payload) = true := by
  unfold remoteCode at h
  split_ifs at h with hold hseq hfit
  · exact absurd h (by decide)
  · exact absurd h (by decide)
  · exact absurd h (by decide)
  · exact ⟨hold, not_not.mp hseq, by simpa using hfit⟩

/-- A record taken is received, then its words are written. -/
theorem remotePrepare_taken (h : remoteCode s r jseq epoch payload = OK) :
    remotePrepare s r jseq key epoch unit timeNs payload work =
      match firstRec (receivedState s r jseq key epoch unit timeNs payload work) r (fun x => x.jseq == jseq) with
      | none => receivedState s r jseq key epoch unit timeNs payload work
      | some x => (writePrepare (receivedState s r jseq key epoch unit timeNs payload work) r x).answer OK 0 := by
  obtain ⟨hold, hseq, hfit⟩ := remoteCode_ok h
  unfold remotePrepare
  rw [if_neg hold, if_neg (by simp [hseq]), if_neg (by simp [hfit])]
  rfl

/-- The place of a record received among the records. -/
theorem receivedRec_place (s : State) (j : JrnSub) (epoch unit timeNs : Nat) :
    (receivedRec (appendedRec s j) epoch unit timeNs).region = j.region ∧
      (receivedRec (appendedRec s j) epoch unit timeNs).jseq = s.rd JOURNAL_REGION_NEXT_JSEQ 0 j.region := ⟨rfl, rfl⟩

/-- It is the one its region looks for by its JSEQ. -/
theorem remotePrepare_eq (h : remoteCode s r jseq epoch payload = OK) (huniq : ∀ z ∈ s.jrn.recs, z.region = r → z.jseq ≠ jseq) :
    remotePrepare s r jseq key epoch unit timeNs payload work =
      (writePrepare (receivedState s r jseq key epoch unit timeNs payload work) r
        (receivedRec (appendedRec s ⟨r, key, payload, work⟩) epoch unit timeNs)).answer OK 0 := by
  obtain ⟨-, hseq, -⟩ := remoteCode_ok h
  have hrecs := recs_receivedState (key := key) (epoch := epoch) (unit := unit) (timeNs := timeNs) (payload := payload) (work := work)
    hseq huniq
  obtain ⟨hreg, hjseq⟩ := receivedRec_place s ⟨r, key, payload, work⟩ epoch unit timeNs
  have hfirst := firstRec_of_split (r := r) (p := fun x => x.jseq == jseq) hrecs hreg (beq_iff_eq.mpr (hjseq.trans hseq.symm))
    fun y hy hyr => beq_eq_false_iff_ne.mpr (huniq y hy hyr)
  rw [remotePrepare_taken h, hfirst]

/-- A record taken. -/
theorem remotePrepare_leaves (h : remoteCode s r jseq epoch payload = OK) (hr : r < 3)
    (huniq : ∀ z ∈ s.jrn.recs, z.region = r → z.jseq ≠ jseq) :
    let t := remotePrepare s r jseq key epoch unit timeNs payload work
    AnsweredOk t ∧ t.jrn.recs = s.jrn.recs ++ [receivedRec (appendedRec s ⟨r, key, payload, work⟩) epoch unit timeNs] ∧
      t.rd JOURNAL_REGION_NEXT_JSEQ 0 r = (jseq + 1) % 2 ^ 64 := by
  obtain ⟨-, hseq, -⟩ := remoteCode_ok h
  have hrecs := recs_receivedState (key := key) (epoch := epoch) (unit := unit) (timeNs := timeNs) (payload := payload) (work := work)
    hseq huniq
  have hnext : (receivedState s r jseq key epoch unit timeNs payload work).rd JOURNAL_REGION_NEXT_JSEQ 0 r =
      (s.rd JOURNAL_REGION_NEXT_JSEQ 0 r + 1) % 2 ^ 64 := by
    rw [receivedState, rd_updRec]
    exact next_appendRec s (j := ⟨r, key, payload, work⟩) hr
  dsimp only
  rw [remotePrepare_eq h huniq]
  generalize receivedState s r jseq key epoch unit timeNs payload work = u at hrecs hnext
  obtain ⟨hjrn, hheld⟩ := writePrepare_held u (receivedRec (appendedRec s ⟨r, key, payload, work⟩) epoch unit timeNs) hr
  generalize writePrepare u r (receivedRec (appendedRec s ⟨r, key, payload, work⟩) epoch unit timeNs) = v at hjrn hheld
  refine ⟨rfl, (congrArg JrnSt.recs hjrn).trans hrecs, ?_⟩
  rw [hseq, ← hnext, ← hheld]
  rfl

end

end Sys2Proof.Machine

/-!
RECOVER, FORMAT and the stores to USER (R225, R226, R231, R232).
-/
namespace Sys2Proof.Machine

/-! ### The one-shot bits of JOURNAL.CTRL -/

/-- They are not stored. -/
theorem pieces_recover : ((Blk.journal.pieces 0x000).filter fun p => !p.silent 4) = [] := by decide +kernel
theorem pieces_format : ((Blk.journal.pieces 0x000).filter fun p => !p.silent 2) = [] := by decide +kernel

/-- No RW bit of the control word lies at one of them. -/
theorem bit_rwWord_journal {k : Nat} (hk : 1 ≤ k) (s : State) : bit (s.rwWord .journal 0 0x000) k = false := by
  have hword : s.rwWord .journal 0 0x000 = bits (s.written JOURNAL_CTRL_EN 0 0) 0 1 := by
    have hp : Blk.journal.pieces 0x000 = [⟨JOURNAL_CTRL_EN, 0, 0, 0, 1⟩, ⟨JOURNAL_CTRL_FORMAT, 0, 1, 0, 1⟩,
      ⟨JOURNAL_CTRL_RECOVER, 0, 2, 0, 1⟩] := by decide +kernel
    unfold State.rwWord
    rw [hp]
    simp [sumOf, JOURNAL_CTRL_EN, JOURNAL_CTRL_FORMAT, JOURNAL_CTRL_RECOVER]
  have hlt : s.rwWord .journal 0 0x000 < 2 ^ 1 := by
    rw [hword]
    exact Nat.mod_lt _ (by decide)
  exact Nat.testBit_lt_two_pow (Nat.lt_of_lt_of_le hlt (Nat.pow_le_pow_right (by decide) hk))

/-- A one-shot bit is asked for where the write carries it. -/
theorem bit_asked_journal {k : Nat} (hk : 1 ≤ k) (s : State) (m : Nat) : bit (s.asked .journal 0 0x000 m m) k = bit m k := by
  rw [bit_asked, bit_rwWord_journal hk]
  cases bit m k <;> rfl

section
variable {s : State} {req : Req}

/-- RECOVER (R231). -/
theorem journalRecover_answers (h : Accepts s req .journal 0 0x000 4 4) :
    bitCmd s req .journal 0 0x000 4 = recoverStart (s.answer OK 0) := by
  rw [bitCmd, wordCmd_accepted h rfl, storeWord_none pieces_recover (by decide) (by decide)]
  simp only [blockEffect, journalEffect, if_true, bit_asked_journal (le_refl 1), bit_asked_journal (Nat.le_succ 1)]
  rfl

/-- FORMAT (R232). -/
theorem exec_journalFormat (h : Accepts s req .journal 0 0x000 2 2) :
    bitCmd s req .journal 0 0x000 2 = journalFormat (s.answer OK 0) := by
  rw [bitCmd, wordCmd_accepted h rfl, storeWord_none pieces_format (by decide) (by decide)]
  simp only [blockEffect, journalEffect, if_true, bit_asked_journal (le_refl 1), bit_asked_journal (Nat.le_succ 1)]
  rfl

end

/-! ### What FORMAT writes (R225, R232) -/

/-- A byte stored leaves every other, whatever the form of the list. -/
theorem memGet_memSet_ne (m : List Host.Cell) {a b : Nat} (h : b ≠ a) (x : Byte) : memGet (memSet m a x) b = memGet m b := by
  induction m with
  | nil =>
    unfold memSet
    split <;> simp [memGet, h]
  | cons c m ih =>
    obtain ⟨k, v⟩ := c
    unfold memSet
    split
    · split <;> simp [memGet, h]
    · split
      · next heq =>
        subst heq
        split <;> simp [memGet, h]
      · simp [memGet, ih]

/-- Bytes stored leave the others. -/
theorem memGet_memPutBytes_out (m : List Host.Cell) {a b : Nat} (bs : List Nat) (h : b < a ∨ a + bs.length ≤ b) :
    memGet (memPutBytes m a bs) b = memGet m b := by
  induction bs generalizing m a with
  | nil => rfl
  | cons x bs ih =>
    rw [List.length_cons] at h
    rw [memPutBytes, ih _ (by omega), memGet_memSet_ne m (by omega)]

/-- A byte outside CTRL and the rings. -/
def outsideRings (a : Nat) : Prop :=
  (a < 0x10000000 ∨ 0x10000100 ≤ a) ∧ ∀ k : Fin 3, a < regionBase k ∨ regionBase k + regionWords k * 64 ≤ a

/-- The places of the counts of writes. -/
def writesKeys : List Nat := [JOURNAL_REGION_WRITES.key 0 0, JOURNAL_REGION_WRITES.key 0 1, JOURNAL_REGION_WRITES.key 0 2]

/-- From s to t the journal, the answer, every register but the counts of writes and every byte outside CTRL and the rings are as
they were. -/
structure Formatting (s t : State) : Prop where
  jrn : t.jrn = s.jrn
  reply : t.reply = s.reply
  regs : RegsBut writesKeys s t
  bytes : ∀ a, outsideRings a → memGet t.bytes a = memGet s.bytes a

section
variable {s t u : State}

/-- One change after another. -/
theorem Formatting.trans (h : Formatting s t) (hu : Formatting t u) : Formatting s u :=
  ⟨hu.jrn.trans h.jrn, hu.reply.trans h.reply, h.regs.trans hu.regs, fun a ha => (hu.bytes a ha).trans (h.bytes a ha)⟩

/-- Every ring, or every word of CTRL. -/
theorem Formatting.forN {f : Nat → State → State} {n : Nat} (hf : ∀ r < n, ∀ t, Formatting s t → Formatting t (f r t)) :
    Formatting s (forN n f s) :=
  forN_keeps_lt (P := Formatting s) (fun r hr t h => h.trans (hf r hr t h)) ⟨rfl, rfl, .refl _ s, fun _ _ => rfl⟩

/-- A ring cleared. -/
theorem formatting_clearRing (s : State) {r : Nat} (hr : r < 3) : Formatting s (clearRing s r) := by
  have hkey : JOURNAL_REGION_WRITES.key 0 r ∈ writesKeys := by
    obtain rfl | rfl | rfl : r = 0 ∨ r = 1 ∨ r = 2 := by omega
    all_goals decide
  refine ⟨rfl, rfl, (RegsBut.refl _ s).wr hkey _, fun a ha => ?_⟩
  refine (memGet_filter (fun a => !(decide (regionBase r ≤ a) && decide (a < regionBase r + regionWords r * 64))) s.bytes a).trans
    (if_pos ?_)
  have hout : a < regionBase r ∨ regionBase r + regionWords r * 64 ≤ a := ha.2 ⟨r, hr⟩
  simp only [Bool.not_eq_true', Bool.and_eq_false_iff, decide_eq_false_iff_not]
  omega

/-- Words of CTRL written while no scan runs. -/
theorem formatting_writeWords (hscan : s.on SCAN_STATUS_BUSY = false) {a : Nat} {bs : List Nat}
    (ha : 0x10000000 ≤ a ∧ a + bs.length ≤ 0x10000100) : Formatting s (writeWords s a bs) := by
  obtain ⟨hbytes, hrest⟩ := writeWords_idle hscan a bs
  refine ⟨by rw [hrest], by rw [hrest], fun f i j _ => by rw [hrest]; rfl, fun b hb => ?_⟩
  rw [hbytes]
  exact memGet_memPutBytes_out _ _ (by have := hb.1; omega)

/-- No scan runs afterwards either. -/
theorem Formatting.scan (h : Formatting s t) (hscan : s.on SCAN_STATUS_BUSY = false) : t.on SCAN_STATUS_BUSY = false :=
  (congrArg (· != 0) (h.regs SCAN_STATUS_BUSY 0 0 (by decide))).trans hscan

end

/-- The journal without its records. -/
def emptied (j : JrnSt) : JrnSt := { j with recs := [], waiting := [], tail := [] }

/-- A descriptor is one word. -/
theorem length_regionDescriptor (s : State) (r : Nat) : (regionDescriptor s r).length = 64 := by
  simp [regionDescriptor]

/-- The words of CTRL. -/
def writeCtrl (s : State) : State :=
  forN 3 (fun r s => writeWords s (0x10000000 + 64 * (r + 1)) (regionDescriptor s r))
    (writeWords s 0x10000000 (leBytes 8 (s.mem 0x10000000 8 + 1) ++ List.replicate 56 0))

/-- FORMAT in steps. -/
theorem journalFormat_eq (s : State) : journalFormat s =
    journalLevels (writeCtrl { forN 3 (fun r s => clearRing s r) s with jrn := emptied (forN 3 (fun r s => clearRing s r) s).jrn }) := rfl

section
variable {s : State} (hscan : s.on SCAN_STATUS_BUSY = false)
include hscan

/-- CTRL written. -/
theorem formatting_writeCtrl : Formatting s (writeCtrl s) := by
  have hfirst : Formatting s (writeWords s 0x10000000 (leBytes 8 (s.mem 0x10000000 8 + 1) ++ List.replicate 56 0)) :=
    formatting_writeWords hscan (by simp)
  refine hfirst.trans (.forN fun r hr t ht => formatting_writeWords (ht.scan (hfirst.scan hscan)) ?_)
  rw [length_regionDescriptor]
  omega

/-- What FORMAT leaves. -/
theorem journalFormat_leaves : ∃ u, journalFormat s = journalLevels u ∧ u.jrn = emptied s.jrn ∧ u.reply = s.reply ∧
    RegsBut writesKeys s u ∧ ∀ a, outsideRings a → memGet u.bytes a = memGet s.bytes a := by
  have hclear : Formatting s (forN 3 (fun r s => clearRing s r) s) := .forN fun r hr t _ => formatting_clearRing t hr
  rw [journalFormat_eq]
  generalize forN 3 (fun r s => clearRing s r) s = t at hclear
  have hctrl := formatting_writeCtrl (s := { t with jrn := emptied t.jrn }) (hclear.scan hscan)
  refine ⟨_, rfl, ?_, hctrl.reply.trans hclear.reply, hclear.regs.trans hctrl.regs, fun a ha => (hctrl.bytes a ha).trans (hclear.bytes a ha)⟩
  rw [hctrl.jrn, hclear.jrn]

end

/-! ### The levels of an empty journal (R232) -/

/-- The journal and the levels of one ring are as they were. -/
def SameLevels (k : Nat) (s t : State) : Prop :=
  t.jrn = s.jrn ∧ t.rd JOURNAL_REGION_FREE 0 k = s.rd JOURNAL_REGION_FREE 0 k ∧
    t.rd JOURNAL_REGION_INFLIGHT 0 k = s.rd JOURNAL_REGION_INFLIGHT 0 k

/-- The places of the levels of ring r. -/
theorem key_levels (r : Nat) : JOURNAL_REGION_FREE.key 0 r = (0x20060050 + r * 0x20) * 32 ∧
    JOURNAL_REGION_INFLIGHT.key 0 r = (0x20060054 + r * 0x20) * 32 ∧
    JOURNAL_REGION_OLDEST_JSEQ.key 0 r = (0x20060048 + r * 0x20) * 32 := ⟨rfl, rfl, rfl⟩

/-- The levels of another ring. -/
theorem sameLevels_ringLevels {r k : Nat} (h : r ≠ k) (s : State) : SameLevels k s (ringLevels r s) := by
  obtain ⟨hfree, hin, hold⟩ := key_levels r
  obtain ⟨hfree', hin', -⟩ := key_levels k
  refine ⟨rfl, ?_, ?_⟩
  · iterate 3 refine (State.rd_wr_ne _ _ _ _ _ _ _ _ (by omega)).trans ?_
    rfl
  · iterate 3 refine (State.rd_wr_ne _ _ _ _ _ _ _ _ (by omega)).trans ?_
    rfl

/-- Every word of an empty ring is free. -/
theorem journalLevels_empty {s : State} (h : s.jrn.recs = []) {k : Nat} (hk : k < 3) :
    (journalLevels s).rd JOURNAL_REGION_FREE 0 k = regionWords k ∧ (journalLevels s).rd JOURNAL_REGION_INFLIGHT 0 k = 0 := by
  obtain ⟨t, ⟨hjrn, -⟩, -, hfree, hin⟩ := forN_split (R := SameLevels k) (fun _ => ⟨rfl, rfl, rfl⟩)
    (fun _ _ _ h g => ⟨g.1.trans h.1, g.2.1.trans h.2.1, g.2.2.trans h.2.2⟩) (f := ringLevels) hk
    (fun r _ hr x => sameLevels_ringLevels hr x) s
  have hrecs : t.jrn.recs = [] := by rw [hjrn, h]
  have hrest {f : Fld} (hf : f.key 0 k ≠ JOURNAL_STATUS_FULL.key 0 0 ∧ f.key 0 k ≠ SYS_LDG_FREE_KIB.key 0 0) :
      (journalLevels s).rd f 0 k = (forN 3 ringLevels s).rd f 0 k :=
    (State.rd_wr_ne _ _ _ _ _ _ _ _ hf.2).trans (State.rd_wr_ne _ _ _ _ _ _ _ _ hf.1)
  obtain ⟨hkf, hki, hko⟩ := key_levels k
  have hfull : JOURNAL_STATUS_FULL.key 0 0 = 0x20060004 * 32 + 8 := rfl
  have hkib : SYS_LDG_FREE_KIB.key 0 0 = 0x20000324 * 32 := rfl
  have hused : regionFree t k = regionWords k := by simp [regionFree, regionUsed, regionRecs, hrecs, sumOf]
  have hflight : inFlight t k = 0 := by simp [inFlight, regionRecs, hrecs]
  rw [hrest ⟨by omega, by omega⟩, hrest ⟨by omega, by omega⟩, hfree, hin]
  unfold ringLevels
  dsimp only
  refine ⟨?_, ?_⟩
  · rw [State.rd_wr_ne _ _ _ _ _ _ _ _ (by omega), State.rd_wr_ne _ _ _ _ _ _ _ _ (by omega), State.rd_wr_same, hused]
    obtain rfl | rfl | rfl : k = 0 ∨ k = 1 ∨ k = 2 := by omega
    all_goals rfl
  · rw [State.rd_wr_ne _ _ _ _ _ _ _ _ (by omega), State.rd_wr_same, hflight]
    rfl

/-- FORMAT's answer: the regions empty, JSEQ going on. -/
theorem journalFormat_answers {s : State} {req : Req} (h : Accepts s req .journal 0 0x000 2 2) (hscan : s.on SCAN_STATUS_BUSY = false) :
    let t := bitCmd s req .journal 0 0x000 2
    AnsweredOk t ∧ t.jrn = emptied s.jrn ∧ (∀ a, outsideRings a → memGet t.bytes a = memGet s.bytes a) ∧
      (∀ k : Fin 3, t.rd JOURNAL_REGION_FREE 0 k = regionWords k ∧ t.rd JOURNAL_REGION_INFLIGHT 0 k = 0 ∧
        t.rd JOURNAL_REGION_NEXT_JSEQ 0 k = s.rd JOURNAL_REGION_NEXT_JSEQ 0 k) := by
  obtain ⟨u, heq, hjrn, hreply, hregs, hbytes⟩ := journalFormat_leaves (s := s.answer OK 0) hscan
  have hlevels := fieldsOnly_journalLevels u
  dsimp only
  rw [exec_journalFormat h, heq]
  refine ⟨?_, hlevels.jrn.trans hjrn, fun a ha => ?_, fun k => ?_⟩
  · rw [AnsweredOk, hlevels, hreply]
    rfl
  · rw [hlevels.bytes]
    exact hbytes a ha
  · obtain ⟨hfree, hin⟩ := journalLevels_empty (s := u) (by rw [hjrn]; rfl) k.isLt
    refine ⟨hfree, hin, ?_⟩
    have hnext : ∀ k : Fin 3, JOURNAL_REGION_NEXT_JSEQ.key 0 k ∉ levelKeys ∧ JOURNAL_REGION_NEXT_JSEQ.key 0 k ∉ writesKeys := by
      decide
    exact (regsBut_journalLevels u _ _ _ (hnext k).1).trans (hregs _ _ _ (hnext k).2)

/-! ### A store to USER (R226) -/

/-- A number stored byte by byte. -/
theorem memPutBytes_leBytes (m : List Host.Cell) (a n v : Nat) : memPutBytes m a (leBytes n v) = memPut m a n v := by
  induction n generalizing m a v with
  | zero => rfl
  | succ n ih =>
    have hbyte : BitVec.ofNat 8 (v % 256) = BitVec.ofNat 8 v := by
      apply BitVec.eq_of_toNat_eq
      simp
    rw [leBytes, memPutBytes, ih, memPut, hbyte]

/-- An address of USER lies in the MRAM. -/
theorem memOf_inUser {a : Nat} (h : inUser a = true) : memOf a = some .mram := by
  obtain ⟨hlo, hhi⟩ : 0x10A90000 ≤ a ∧ a < 0x11000000 := by simpa [inUser] using h
  unfold memOf
  rw [if_neg (by omega), if_pos (by simp; omega)]

section
variable {s : State} {a : Nat}

/-- A word of the MRAM is not of a channel. -/
theorem chFail_mram {line : Nat} (h : memOf (line * 64) = some .mram) : chFail s (line * 64) = false := by
  unfold chFail
  rw [h]

/-- A good word of the MRAM. -/
theorem decodeLine_mram_good {line : Nat} (h : memOf (line * 64) = some .mram) (hfix : lineFixes s line = some []) (scrub : Bool) :
    decodeLine s .mram line scrub = (s, false) := by
  simp [decodeLine, chFail_mram h, caRetry, hfix]

/-- An uncorrectable one. -/
theorem decodeLine_mram_bad {line : Nat} (h : memOf (line * 64) = some .mram) (hfix : uncorrectable s line = true) (scrub : Bool) :
    decodeLine s .mram line scrub = (s.raise JOURNAL_STATUS_ECC, true) := by
  have hnone : lineFixes s line = none := by simpa [uncorrectable] using hfix
  unfold decodeLine
  rw [if_neg (by simp [chFail_mram h])]
  dsimp only [caRetry]
  rw [if_neg (by decide), hnone]
  rfl

section
variable {req : Req} {n v : Nat} (huser : inUser a = true) (hp : powered s .mem = true) (hopen : openTo s req a = true)
include huser hp hopen

/-- A store to USER through the bus. -/
theorem busWrite_user : busWrite s req a n v = (userStore s a n v).1.answer (userStore s a n v).2 0 := by
  have ht : target a = .mem := by rw [target, memOf_inUser huser]; rfl
  unfold busWrite
  simp only [ht, hp, hopen, memStore, memOf_inUser huser]
  rfl

/-- Into a good word, while no scan runs, it changes its bytes. -/
theorem userStore_good (hfix : lineFixes s (lineOf a) = some []) (hscan : s.on SCAN_STATUS_BUSY = false) :
    busWrite s req a n v = ((writeLine s a (leBytes n v)).count JOURNAL_USER_WRITES_COUNT).answer OK 0 := by
  have hadv : scanAdvance s = s := if_neg (by rw [hscan]; decide)
  rw [busWrite_user huser hp hopen]
  unfold userStore
  rw [if_neg (by simp [huser]), hadv, decodeLine_mram_good ((memOf_lineOf a).trans (memOf_inUser huser)) hfix]
  rfl

/-- Into an uncorrectable one it is refused. -/
theorem userStore_bad (hbad : uncorrectable s (lineOf a) = true) (hscan : s.on SCAN_STATUS_BUSY = false) :
    busWrite s req a n v = (s.raise JOURNAL_STATUS_ECC).answer E_ECC 0 := by
  have hadv : scanAdvance s = s := if_neg (by rw [hscan]; decide)
  rw [busWrite_user huser hp hopen]
  unfold userStore
  rw [if_neg (by simp [huser]), hadv, decodeLine_mram_bad ((memOf_lineOf a).trans (memOf_inUser huser)) hbad]
  rfl

end

/-- The bytes of a store of a number cut to its size. -/
theorem memGet_store {m : List Host.Cell} (h : Memory.wf m = true) (a n v b : Nat) : memGet (memPutBytes m a (leBytes n (v % 2 ^ (8 * n)))) b =
    if a ≤ b ∧ b < a + n then BitVec.ofNat 8 (v / 256 ^ (b - a)) else memGet m b := by
  rw [memPutBytes_leBytes, memGet_memPut h]
  split
  · exact byte_of_cut (by omega) v
  · rfl

end

end Sys2Proof.Machine

/-!
SUPPORT. What the work of accepted records leaves of the journal (R207 to R209, R227, R231, R406 to R410).
-/
namespace Sys2Proof.Machine

/-! ### Records kept -/

/-- Every record of t stands in s, in the same region, of the same unit and in the same state. -/
def RecordsFrom (s t : State) : Prop :=
  ∀ z ∈ t.jrn.recs, ∃ y ∈ s.jrn.recs, y.region = z.region ∧ y.unit = z.unit ∧ y.state = z.state

/-- From s to t READY and the recovery are as they were, and records can only have left. -/
structure RecordsKept (s t : State) : Prop where
  ready : t.rd JOURNAL_STATUS_READY = s.rd JOURNAL_STATUS_READY
  recovering : t.jrn.recovering = s.jrn.recovering
  takeover : t.jrn.takeover = s.jrn.takeover
  recs : RecordsFrom s t

section
variable {s t u : State}

/-- Nothing changed. -/
theorem RecordsFrom.refl (s : State) : RecordsFrom s s := fun z hz => ⟨z, hz, rfl, rfl, rfl⟩

/-- One change after another. -/
theorem RecordsFrom.trans (h : RecordsFrom s t) (hu : RecordsFrom t u) : RecordsFrom s u := fun z hz => by
  obtain ⟨y, hy, hreg, hunit, hstate⟩ := hu z hz
  obtain ⟨x, hx, hreg', hunit', hstate'⟩ := h y hy
  exact ⟨x, hx, hreg'.trans hreg, hunit'.trans hunit, hstate'.trans hstate⟩

/-- Nothing changed. -/
theorem RecordsKept.refl (s : State) : RecordsKept s s := ⟨rfl, rfl, rfl, .refl s⟩

/-- One change after another. -/
theorem RecordsKept.trans (h : RecordsKept s t) (hu : RecordsKept t u) : RecordsKept s u :=
  ⟨hu.ready.trans h.ready, hu.recovering.trans h.recovering, hu.takeover.trans h.takeover, h.recs.trans hu.recs⟩

/-- The journal is as it was. -/
theorem RecordsKept.of_jrn (hjrn : t.jrn = s.jrn) (hready : t.rd JOURNAL_STATUS_READY = s.rd JOURNAL_STATUS_READY) : RecordsKept s t :=
  ⟨hready, by rw [hjrn], by rw [hjrn], by rw [RecordsFrom, hjrn]; exact RecordsFrom.refl s⟩

/-- Other parts of the state replaced. -/
theorem RecordsKept.rest (h : RecordsKept s t) (hjrn : u.jrn = t.jrn) (hregs : u.regs = t.regs) : RecordsKept s u :=
  h.trans (.of_jrn hjrn (by rw [State.rd, hregs, State.rd]))

/-- The ledger engine's hidden state, and that of PORT, replaced. -/
theorem RecordsKept.updLdg (h : RecordsKept s t) (f : LdgSt → LdgSt) : RecordsKept s (t.updLdg f) := h.rest rfl rfl
theorem RecordsKept.updPort (h : RecordsKept s t) (f : PortSt → PortSt) : RecordsKept s (t.updPort f) := h.rest rfl rfl

/-- A context's hidden state replaced. -/
theorem RecordsKept.updLease (h : RecordsKept s t) (n : Nat) (f : LeaseSt → LeaseSt) : RecordsKept s (t.updLease n f) := h.rest rfl rfl

/-- A field other than READY written. -/
theorem RecordsKept.wr (h : RecordsKept s t) {f : Fld} {i j : Nat} (hk : JOURNAL_STATUS_READY.key 0 0 ≠ f.key i j) (v : Nat) :
    RecordsKept s (t.wr f v i j) := h.trans (.of_jrn rfl (State.rd_wr_ne _ _ _ _ _ _ _ _ hk))

/-- Either branch. -/
theorem RecordsKept.ite {c : Prop} [Decidable c] (ht : RecordsKept s t) (hu : RecordsKept s u) : RecordsKept s (if c then t else u) := by
  split <;> assumption

/-- A list taken in order. -/
theorem RecordsKept.foldl {β : Type} {f : State → β → State} (hf : ∀ t b, RecordsKept t (f t b)) (l : List β) (s : State) :
    RecordsKept s (l.foldl f s) := by
  induction l generalizing s with
  | nil => exact .refl s
  | cons b l ih => exact (hf s b).trans (ih _)

/-- The naturals below n taken in order. -/
theorem RecordsKept.forN {f : Nat → State → State} (hf : ∀ i t, RecordsKept t (f i t)) (n : Nat) (s : State) : RecordsKept s (forN n f s) :=
  forN_keeps (P := RecordsKept s) (fun i t h => h.trans (hf i t)) n (.refl s)

/-- Stores and packets on the queues. -/
theorem StoreHeld.records (h : StoreHeld s t) : RecordsKept s t :=
  .of_jrn h.jrn (h.regs _ _ _ (by unfold heldPlace; decide))

/-- A field of a context is not READY. -/
theorem ready_ne_lease {f : Fld} (hb : f.blk = .lease) (i j : Nat) : JOURNAL_STATUS_READY.key 0 0 ≠ f.key i j := fun h =>
  absurd (h ▸ le_key_high (.inr hb) i j) (by decide)

/-! ### Records released (R227) -/

/-- The levels. -/
theorem recordsKept_journalLevels (s : State) : RecordsKept s (journalLevels s) :=
  .of_jrn (fieldsOnly_journalLevels s).jrn (regsBut_journalLevels s _ _ _ (by decide))

/-- What the head of a ring leaves is among what stood in it. -/
theorem releaseHead_go_subset (r : Nat) (l : List JrnRec) : releaseHead.go r l ⊆ l := by
  induction l with
  | nil => exact fun _ h => h
  | cons x l ih =>
    unfold releaseHead.go
    split
    · split
      · exact fun _ h => List.mem_cons_of_mem _ (ih h)
      · exact fun _ h => h
    · exact List.cons_subset_cons x ih

/-- Records marked as released, and the head moved up. -/
theorem recordsKept_releaseWhere (s : State) (r : Nat) (p : JrnRec → Bool) : RecordsKept s (releaseWhere s r p) := by
  have hleft : RecordsKept s { s with jrn := { s.jrn with
      recs := releaseHead.go r (s.jrn.recs.map fun x => if x.region = r && p x then { x with released := true } else x) } } := by
    refine ⟨rfl, rfl, rfl, fun z hz => ?_⟩
    obtain ⟨y, hy, rfl⟩ := List.mem_map.mp (releaseHead_go_subset r _ hz)
    refine ⟨y, hy, ?_⟩
    split <;> exact ⟨rfl, rfl, rfl⟩
  exact hleft.trans (recordsKept_journalLevels _)

/-- Pages retained, counted. -/
theorem RecordsKept.pagePending (h : RecordsKept s t) : RecordsKept s (pagePending t) := h.wr (by decide) _

/-- Pages released. -/
theorem recordsKept_releasePages (s : State) (ctx seq : Nat) : RecordsKept s (releasePages s ctx seq) :=
  ((((RecordsKept.refl s).wr (ready_ne_lease rfl ctx 0) seq).updLdg _).trans (recordsKept_releaseWhere _ _ _)).pagePending

/-- The SEQ of the oldest record. -/
theorem RecordsKept.oldestSeq (h : RecordsKept s t) : RecordsKept s (oldestSeq t) := h.wr (by decide) _

/-- CMD records released. -/
theorem recordsKept_releaseCmds (s : State) : RecordsKept s (releaseCmds s) := (recordsKept_releaseWhere _ _ _).oldestSeq

/-! ### Pages and acknowledgements (R207 to R209) -/

/-- A page offered. -/
theorem recordsKept_offerPage (s : State) (p : Page) : RecordsKept s (offerPage s p) := by
  unfold offerPage
  exact (storeHeld_queuePacket ..).records.updLdg _

/-- The pages to be offered. -/
theorem recordsKept_offerPages (s : State) : RecordsKept s (offerPages s) := .ite (.refl s) (.foldl recordsKept_offerPage _ _)

/-- Those to be offered again. -/
theorem recordsKept_offerAgain (s : State) : RecordsKept s (offerAgain s) := ((RecordsKept.refl s).updLdg _).trans (recordsKept_offerPages _)

/-- A page issued. -/
theorem recordsKept_pageIssue (s : State) (ctx seq : Nat) : RecordsKept s (pageIssue s ctx seq) := by
  refine .ite (RecordsKept.pagePending (.wr (.wr (.wr ((RecordsKept.refl s).updLdg _) ?_ _) ?_ _) (by decide) _)) (.refl s)
  · exact ready_ne_lease rfl ctx 0
  · exact ready_ne_lease rfl ctx 0

/-- A page of the holder. -/
theorem recordsKept_installPage (s : State) (ctx seq : Nat) (payload : List Nat) : RecordsKept s (installPage s ctx seq payload) := by
  have h := RecordsKept.refl s
  unfold installPage
  dsimp only
  split
  · refine RecordsKept.updLdg (RecordsKept.ite ?_ (.updLease ?_ _ _)) _
    · exact .ite (h.wr (by decide) _) h
    · exact .ite (h.wr (by decide) _) h
  · exact (h.updLease _ _).updLdg _

/-- An acknowledgement. -/
theorem recordsKept_ackAccepted (s : State) (ctx seq result : Nat) (mine : Bool) : RecordsKept s (ackAccepted s ctx seq result mine) := by
  have hrsp : RecordsKept s (if mine then (s.wr SYS_LDG_ACK_RSP_STAT result).raise SYS_LDG_ACK_RSP_VALID else s) :=
    .ite (((RecordsKept.refl s).wr (by decide) _).wr (by decide) _) (.refl s)
  exact hrsp.trans (.trans (.ite (recordsKept_releasePages ..) (.refl _)) (recordsKept_releaseWhere ..))

/-! ### Commands (R406 to R410) -/

/-- A DELIVER record pushed. -/
theorem recordsKept_deliver (s : State) (flags : Nat) (x : JrnRec) : RecordsKept s (deliver s flags x) :=
  (storeHeld_queuePacket ..).records

/-- What an accepted command does. -/
theorem recordsKept_cmdAccepted (s : State) (x : JrnRec) (seq op result : Nat) : RecordsKept s (cmdAccepted s x seq op result) := by
  have hnext := ((RecordsKept.refl s).wr (f := PORT_NEXT_SEQ_SEQ) (i := 0) (j := 0) (by decide) (seq + 1)).updPort
    (fun p => { p with subSeq := max p.subSeq ((seq + 1) % 2 ^ 64) })
  unfold cmdAccepted
  dsimp only
  refine .trans (.updPort (hnext.trans ?_) _) (recordsKept_releaseCmds _)
  split
  · exact recordsKept_deliver ..
  · exact .ite (recordsKept_releasePages ..) (.refl _)
  · exact .ite (recordsKept_releaseWhere ..) (.refl _)
  · exact .refl _

/-- What the work of a record does. -/
theorem recordsKept_acceptWork (s : State) (x : JrnRec) : RecordsKept s (acceptWork s x) := by
  unfold acceptWork
  split
  · exact recordsKept_cmdAccepted ..
  · exact ((RecordsKept.ite (recordsKept_installPage ..) (.refl s)).trans (recordsKept_pageIssue ..)).trans (recordsKept_offerPages _)
  · exact recordsKept_ackAccepted ..
  · exact .refl s

/-! ### What a recovery finds (R231) -/

/-- A record taken over is this unit's own. -/
theorem recordsKept_updRec_foreign (s : State) (r jseq : Nat) : RecordsKept s (updRec s r jseq fun y => { y with foreign := false }) := by
  refine ⟨rfl, rfl, rfl, fun z hz => ?_⟩
  obtain ⟨y, hy, rfl⟩ := List.mem_map.mp hz
  refine ⟨y, hy, ?_⟩
  split <;> exact ⟨rfl, rfl, rfl⟩

/-- Work of records rolled forward. -/
theorem recordsKept_rollForward (s : State) : RecordsKept s (rollForward s) := by
  refine .foldl (fun t x => ?_) _ s
  dsimp only
  refine .trans ?_ (recordsKept_updRec_foreign ..)
  split
  · exact .refl t
  · exact recordsKept_cmdAccepted ..
  · exact recordsKept_acceptWork ..

/-- Pages rebuilt. -/
theorem recordsKept_rebuildPages (s : State) : RecordsKept s (rebuildPages s) := by
  unfold rebuildPages
  refine RecordsKept.pagePending (((RecordsKept.refl s).updLdg _).trans (.foldl (fun t p => ?_) _ _))
  exact .ite (.updLease (.wr (.refl t) (ready_ne_lease rfl p.ctx 0) _) _ _) (.refl t)

/-- The acknowledgement that a committed record carries. -/
def ackFound (s : State) (x : JrnRec) : State :=
  match ackOf x.work x.payload with
  | some (c, q) => if s.rd LEASE_ACKED_SEQ c < q then s.wr LEASE_ACKED_SEQ q c else s
  | none => s

/-- The FAULT records that it releases. -/
def faultsFound (s : State) (x : JrnRec) : State :=
  match x.work with
  | .cmd _ 3 _ 0 => releaseWhere s RG_FAULT (fun y => y.state != 0 && decide (y.jseq ≤ leNat ((x.payload.drop 16).take 8)))
  | _ => s

/-- Neither changes what is kept. -/
theorem recordsKept_ackFound (s : State) (x : JrnRec) : RecordsKept s (ackFound s x) := by
  unfold ackFound
  split
  · exact .ite ((RecordsKept.refl s).wr (ready_ne_lease rfl _ _) _) (.refl s)
  · exact .refl s
theorem recordsKept_faultsFound (s : State) (x : JrnRec) : RecordsKept s (faultsFound s x) := by
  unfold faultsFound
  split
  · exact recordsKept_releaseWhere ..
  · exact .refl s

/-- What committed records release. -/
theorem recordsKept_releaseFound (s : State) : RecordsKept s (releaseFound s) := by
  unfold releaseFound
  refine .trans (.trans (.foldl (fun t x => ?_) _ s) (.forN (fun n t => ?_) 256 _)) (recordsKept_releaseWhere ..)
  · exact (recordsKept_ackFound t x).trans (recordsKept_faultsFound _ x)
  · exact .ite (.refl t) (recordsKept_releasePages ..)

/-- Entries dropped. -/
theorem recordsKept_completeDropped (s : State) : RecordsKept s (completeDropped s) := by
  unfold completeDropped
  exact RecordsKept.updPort (.ite (((RecordsKept.refl s).wr (by decide) _).wr (by decide) _) (.refl s)) _

/-- NEXT_SEQ rebuilt. -/
theorem recordsKept_rebuildSeq (s : State) : RecordsKept s (rebuildSeq s) := by
  unfold rebuildSeq
  dsimp only
  refine RecordsKept.oldestSeq (RecordsKept.updPort ?_ _)
  split
  · exact (RecordsKept.refl s).wr (by decide) _
  · exact .refl s

/-- DELIVER records pushed again. -/
theorem recordsKept_redeliver (s : State) (takeover : Bool) : RecordsKept s (redeliver s takeover) :=
  .foldl (fun t _ => .ite (recordsKept_deliver ..) (.refl t)) _ s

/-- What a recovery does behind the rings it has resolved, up to the pages it submits. -/
def recoverWork (s : State) (takeover : Bool) : State :=
  let s := if takeover then rollForward s else s
  let s := releaseFound (rebuildPages s)
  let s := releaseCmds (redeliver (rebuildSeq (completeDropped s)) takeover)
  if takeover then offerAgain s else offerPages s

/-- It keeps the journal but for records that leave. -/
theorem recordsKept_recoverWork (s : State) (takeover : Bool) : RecordsKept s (recoverWork s takeover) := by
  have hroll : RecordsKept s (if takeover then rollForward s else s) := .ite (recordsKept_rollForward s) (.refl s)
  unfold recoverWork
  dsimp only
  generalize (if takeover then rollForward s else s) = t at hroll ⊢
  have hfound := (hroll.trans (recordsKept_rebuildPages t)).trans (recordsKept_releaseFound _)
  generalize releaseFound (rebuildPages t) = u at hfound ⊢
  have hcmds := (((hfound.trans (recordsKept_completeDropped u)).trans (recordsKept_rebuildSeq _)).trans
    (recordsKept_redeliver _ takeover)).trans (recordsKept_releaseCmds _)
  exact hcmds.trans (.ite (recordsKept_offerAgain _) (recordsKept_offerPages _))

end

end Sys2Proof.Machine

/-!
A recovery completes (R231): the rings rebuilt, their records resolved.
-/
namespace Sys2Proof.Machine

/-! ### The records that a ring holds (R227, R228) -/

/-- A record found in a ring is one of its region. -/
theorem region_ringScan (s : State) (r n w : Nat) (last : Option Nat) : ∀ x ∈ (ringScan s r n w last).found, x.region = r := by
  induction n generalizing w last with
  | zero => exact fun x hx => absurd hx List.not_mem_nil
  | succ n ih =>
    have hnil : ∀ x ∈ ([] : List JrnRec), x.region = r := fun x hx => absurd hx List.not_mem_nil
    unfold ringScan
    dsimp only
    split
    · exact hnil
    · split
      · exact hnil
      · split
        · exact hnil
        · split
          · exact hnil
          · split
            · exact hnil
            · exact List.forall_mem_cons.mpr ⟨rfl, ih _ _⟩

/-- What the tail has not reached yet of the round before. -/
def oldScan (s : State) (r : Nat) : RingScan :=
  match firstHeader s r (ringScan s r (regionWords r) 0 none).next with
  | some w => ringScan s r (regionWords r) w none
  | none => {}

/-- The newest records of a ring behind those of the round before. -/
def joinScans (r : Nat) (new old : RingScan) : RingScan :=
  match new.found, old.found.getLast? with
  | [], _ => { old with broken := new.broken || old.broken, next := if old.found.isEmpty then new.next else old.next }
  | x :: t, some y =>
    if y.jseq + 1 = x.jseq then
      { new with found := old.found ++ { x with pad := if old.pad then regionWords r - old.next else 0 } :: t }
    else new
  | _, none => new

/-- A whole ring in steps. -/
theorem ringFound_eq (s : State) (r : Nat) : ringFound s r = joinScans r (ringScan s r (regionWords r) 0 none) (oldScan s r) := rfl

/-- The records of both rounds, and no other, are found. -/
theorem region_joinScans {r : Nat} {new old : RingScan} (hnew : ∀ x ∈ new.found, x.region = r) (hold : ∀ x ∈ old.found, x.region = r) :
    ∀ x ∈ (joinScans r new old).found, x.region = r := by
  unfold joinScans
  split
  · exact hold
  · next x l y hfound _ =>
    split
    · rw [hfound] at hnew
      obtain ⟨hx, hl⟩ := List.forall_mem_cons.mp hnew
      exact fun z hz => (List.mem_append.mp hz).elim (hold z) fun h => (List.mem_cons.mp h).elim (fun h => h ▸ hx) (hl z)
    · exact hnew
  · exact hnew

/-- So is one of the whole ring. -/
theorem region_ringFound (s : State) (r : Nat) : ∀ x ∈ (ringFound s r).found, x.region = r := by
  rw [ringFound_eq]
  refine region_joinScans (fun x => region_ringScan _ _ _ _ _ x) ?_
  unfold oldScan
  split
  · exact fun x => region_ringScan _ _ _ _ _ x
  · exact fun x hx => absurd hx List.not_mem_nil

/-! ### A unit alone that does not take over -/

/-- The twin is OFF, and no token is taken. -/
def Alone (s : State) : Prop := standalone s = true ∧ s.jrn.takeover = false

/-- No record of region k that this unit wrote alone is unresolved. -/
def Resolved (k : Nat) (s : State) : Prop := ∀ z ∈ s.jrn.recs, z.region = k → z.unit = 2 → z.state ≠ 0

/-- From s to t a unit alone stays alone, and every record of region k stood in s. -/
def RegionFrom (k : Nat) (s t : State) : Prop :=
  Alone s → Alone t ∧ ∀ z ∈ t.jrn.recs, z.region = k → ∃ y ∈ s.jrn.recs, y.region = z.region ∧ y.unit = z.unit ∧ y.state = z.state

section
variable {k r : Nat} {s t u : State}

/-- Nothing changed. -/
theorem RegionFrom.refl (k : Nat) (s : State) : RegionFrom k s s := fun h => ⟨h, fun z hz _ => ⟨z, hz, rfl, rfl, rfl⟩⟩

/-- One change after another. -/
theorem RegionFrom.trans (h : RegionFrom k s t) (hu : RegionFrom k t u) : RegionFrom k s u := fun ha => by
  obtain ⟨hat, hst⟩ := h ha
  obtain ⟨hau, htu⟩ := hu hat
  refine ⟨hau, fun z hz hk => ?_⟩
  obtain ⟨y, hy, hreg, hunit, hstate⟩ := htu z hz hk
  obtain ⟨x, hx, hreg', hunit', hstate'⟩ := hst y hy (hreg.trans hk)
  exact ⟨x, hx, hreg'.trans hreg, hunit'.trans hunit, hstate'.trans hstate⟩

/-- What is resolved stays so. -/
theorem RegionFrom.resolved (h : RegionFrom k s t) (ha : Alone s) (hr : Resolved k s) : Resolved k t := fun z hz hk hunit => by
  obtain ⟨y, hy, hreg, hyu, hys⟩ := (h ha).2 z hz hk
  exact hys ▸ hr y hy (hreg.trans hk) (hyu.trans hunit)

/-- The twin's STATE and the recovery as they were. -/
theorem Alone.of_state (h : Alone s) (hstate : t.rd TWIN_STATUS_STATE = s.rd TWIN_STATUS_STATE) (hjrn : t.jrn.takeover = s.jrn.takeover) :
    Alone t := by
  obtain ⟨halone, htake⟩ := h
  exact ⟨by rw [standalone, hstate]; exact halone, hjrn.trans htake⟩

/-- Records that leave. -/
theorem RecordsKept.region (h : RecordsKept s t) (hstate : t.rd TWIN_STATUS_STATE = s.rd TWIN_STATUS_STATE) (k : Nat) : RegionFrom k s t :=
  fun ha => ⟨ha.of_state hstate h.takeover, fun z hz _ => h.recs z hz⟩

/-- Aborted records leave. -/
theorem regionFrom_releaseAborted (s : State) (r k : Nat) : RegionFrom k s (releaseAborted s r) :=
  (recordsKept_releaseWhere ..).region (regsBut_journalLevels _ _ _ _ (by decide)) k

/-! ### One record resolved (R231) -/

/-- The trailer that a record found gets, where it gets one. -/
def resolveRec (held : List (Nat × Nat)) (r : Nat) (takeover : Bool) (s : State) (x : JrnRec) : State :=
  if x.state = 2 || (x.state = 1 && x.localDone) then s
  else
    let st := resolveState s takeover (held.contains (r, x.jseq)) x
    if st = 0 then s
    else
      let s := if st = 1 then
          (updRec s r x.jseq (fun x => { x with rollfwd := takeover, remote := true })).raiseIf takeover JOURNAL_STATUS_ROLLFWD
        else s.raise JOURNAL_STATUS_ABORTED
      writeTrailer s r x.jseq st

/-- A unit alone aborts its own records and those without their payload, and leaves the others. -/
theorem resolveState_alone (h : Alone s) (held : Bool) (x : JrnRec) :
    resolveState s false held x = if !x.localDone || x.unit = 2 then 2 else 0 := by
  obtain ⟨halone, -⟩ := h
  unfold resolveState
  cases x.localDone
  · rfl
  · simp [halone]

/-- A trailer that says ABORTED: every record with its JSEQ is aborted, the others are as they were. -/
theorem writeTrailer_aborts (s : State) (r jseq : Nat) : ∀ z ∈ (writeTrailer s r jseq 2).jrn.recs,
    (z ∈ s.jrn.recs ∧ (z.region = r → z.jseq ≠ jseq)) ∨ (z.region = r ∧ z.state = 2) := by
  cases hfirst : firstRec s r (fun y => y.jseq == jseq) with
  | none =>
    have hsame : writeTrailer s r jseq 2 = s := by
      unfold writeTrailer
      rw [hfirst]
    rw [hsame]
    exact fun z hz => .inl ⟨hz, fun hreg => by simpa using firstRec_eq_none.mp hfirst z hz hreg⟩
  | some x =>
    obtain ⟨-, hreg, -⟩ := mem_of_firstRec hfirst
    rw [writeTrailer_of_firstRec hfirst, (fieldsOnly_journalLevels _).jrn]
    obtain ⟨hjrn, -⟩ := writeTrailerWord_leaves s r { x with state := 2, trailer := true }
    generalize writeTrailerWord s r { x with state := 2, trailer := true } = u at hjrn
    intro z hz
    obtain ⟨y, hy, rfl⟩ := List.mem_map.mp hz
    rw [hjrn] at hy
    split
    · exact .inr ⟨hreg, rfl⟩
    · next hne => exact .inl ⟨hy, fun hr hj => hne (by simp [hr, hj])⟩

/-- It leaves a unit alone. -/
theorem alone_writeTrailer (h : Alone s) (r jseq state : Nat) : Alone (writeTrailer s r jseq state) := by
  cases hfirst : firstRec s r (fun y => y.jseq == jseq) with
  | none =>
    have hsame : writeTrailer s r jseq state = s := by
      unfold writeTrailer
      rw [hfirst]
    rwa [hsame]
  | some x =>
    obtain ⟨hjrn, hheld, -⟩ := writeTrailerWord_leaves s r { x with state := state, trailer := true }
    rw [writeTrailer_of_firstRec hfirst]
    have hkey : TWIN_STATUS_STATE.key 0 0 ∉ [JOURNAL_REGION_WRITES.key 0 r] := by
      have hw : JOURNAL_REGION_WRITES.key 0 r = (0x20060058 + r * 0x20) * 32 := rfl
      have ht : TWIN_STATUS_STATE.key 0 0 = 0x20090008 * 32 := rfl
      simp only [List.mem_singleton]
      omega
    have hstate := hheld.regs TWIN_STATUS_STATE 0 0 (by unfold heldPlace; decide) hkey
    generalize writeTrailerWord s r { x with state := state, trailer := true } = v at hjrn hstate
    refine h.of_state ((regsBut_journalLevels _ _ _ _ (by decide)).trans hstate) ?_
    have htake : v.jrn.takeover = s.jrn.takeover := congrArg JrnSt.takeover hjrn
    rw [(fieldsOnly_journalLevels _).jrn]
    exact htake

/-- What resolving a record leaves at a unit alone: it stays alone; a record unresolved stood unresolved before, and if it is this
unit's own it is not the one resolved. -/
theorem resolveRec_alone (h : Alone s) (held : List (Nat × Nat)) (r : Nat) (x : JrnRec) : Alone (resolveRec held r false s x) ∧
    ∀ z ∈ (resolveRec held r false s x).jrn.recs,
      (z ∈ s.jrn.recs ∧ (z.region = r → x.unit = 2 → x.state = 0 → z.jseq ≠ x.jseq)) ∨ (z.region = r ∧ z.state = 2) := by
  unfold resolveRec
  dsimp only
  split
  case isTrue hdone =>
    refine ⟨h, fun z hz => .inl ⟨hz, fun _ _ hstate => ?_⟩⟩
    rw [hstate] at hdone
    simp at hdone
  case isFalse =>
    rw [resolveState_alone h]
    by_cases hown : (!x.localDone || x.unit = 2) = true
    · have habort : Alone (s.raise JOURNAL_STATUS_ABORTED) := h.of_state (State.rd_wr_ne _ _ _ _ _ _ _ _ (by decide)) rfl
      rw [if_pos hown, if_neg (by decide), if_neg (by decide)]
      exact ⟨alone_writeTrailer habort .., fun z hz => (writeTrailer_aborts _ r x.jseq z hz).imp_left fun hz =>
        ⟨hz.1, fun hr _ _ => hz.2 hr⟩⟩
    · rw [if_neg hown, if_pos rfl]
      exact ⟨h, fun z hz => .inl ⟨hz, fun _ hunit _ => absurd hown (by simp [hunit])⟩⟩

/-- The records of a list resolved one after another. -/
theorem resolveRecs_alone (h : Alone s) (held : List (Nat × Nat)) (r : Nat) (l : List JrnRec) :
    Alone (l.foldl (resolveRec held r false) s) ∧ ∀ z ∈ (l.foldl (resolveRec held r false) s).jrn.recs,
      (z ∈ s.jrn.recs ∧ (z.region = r → ∀ x ∈ l, x.unit = 2 → x.state = 0 → z.jseq ≠ x.jseq)) ∨ (z.region = r ∧ z.state = 2) := by
  induction l generalizing s with
  | nil => exact ⟨h, fun z hz => .inl ⟨hz, fun _ x hx => absurd hx List.not_mem_nil⟩⟩
  | cons x l ih =>
    obtain ⟨hone, hrec⟩ := resolveRec_alone h held r x
    obtain ⟨hall, hrecs⟩ := ih hone
    refine ⟨hall, fun z hz => ?_⟩
    obtain ⟨hz, hl⟩ | haborted := hrecs z hz
    · refine (hrec z hz).imp_left fun hx => ⟨hx.1, fun hr => List.forall_mem_cons.mpr ⟨hx.2 hr, hl hr⟩⟩
    · exact .inr haborted

/-! ### A region resolved -/

/-- A ring's scan met a word that is broken, or a record without its payload. -/
def RingScan.damaged (scan : RingScan) : Bool := scan.broken || scan.found.any (fun x => !x.localDone)

/-- It is noted as an ECC event. -/
def damageNoted (s : State) (r : Nat) : State := s.raiseIf (ringFound s r).damaged JOURNAL_STATUS_ECC

/-- The records of a ring from its oldest retained one on. -/
def ringKept (s : State) (r : Nat) : List JrnRec :=
  (ringFound s r).found.filter (fun x => decide ((damageNoted s r).rd JOURNAL_REGION_OLDEST_JSEQ 0 r ≤ x.jseq))

/-- A ring rebuilt from what its scan found. -/
def ringRebuilt (s : State) (r : Nat) : State :=
  let scan := ringFound s r
  let s' := damageNoted s r
  let next := match scan.found.getLast? with | some x => x.jseq + 1 | none => max 1 (s'.mem (0x10000000 + 64 * (r + 1) + 16) 8)
  { s' with jrn := { s'.jrn with
    recs := s'.jrn.recs.filter (fun (x : JrnRec) => x.region != r) ++ ringKept s r
    tail := s'.jrn.tail.set r scan.next } }.wr JOURNAL_REGION_NEXT_JSEQ next 0 r

/-- A region resolved in steps. -/
theorem resolveRegion_eq (s : State) (held : List (Nat × Nat)) (r : Nat) :
    let u := mramScan s (regionBase r) (regionWords r * 64)
    resolveRegion s held r = (ringKept u r).foldl (resolveRec held r u.jrn.takeover) (ringRebuilt u r) := rfl

/-- A ring rebuilt: its records are those retained, the other regions' are as they were. -/
theorem ringRebuilt_leaves (s : State) (r : Nat) :
    (ringRebuilt s r).jrn.recs = s.jrn.recs.filter (fun (x : JrnRec) => x.region != r) ++ ringKept s r ∧
      (ringRebuilt s r).jrn.takeover = s.jrn.takeover ∧ (ringRebuilt s r).rd TWIN_STATUS_STATE = s.rd TWIN_STATUS_STATE := by
  have hkey : TWIN_STATUS_STATE.key 0 0 ≠ JOURNAL_REGION_NEXT_JSEQ.key 0 r := by
    have hw : JOURNAL_REGION_NEXT_JSEQ.key 0 r = (0x20060040 + r * 0x20) * 32 := rfl
    have ht : TWIN_STATUS_STATE.key 0 0 = 0x20090008 * 32 := rfl
    omega
  obtain ⟨hjrn, hstate⟩ : (damageNoted s r).jrn = s.jrn ∧ (damageNoted s r).rd TWIN_STATUS_STATE = s.rd TWIN_STATUS_STATE := by
    unfold damageNoted
    cases (ringFound s r).damaged
    · exact ⟨rfl, rfl⟩
    · exact ⟨rfl, State.rd_wr_ne _ _ _ _ _ _ _ _ (by decide)⟩
  unfold ringRebuilt
  dsimp only
  generalize damageNoted s r = u at hjrn hstate
  have htake : u.jrn.takeover = s.jrn.takeover := congrArg JrnSt.takeover hjrn
  refine ⟨?_, htake, (State.rd_wr_ne _ _ _ _ _ _ _ _ hkey).trans hstate⟩
  rw [← hjrn]
  rfl

/-- A record that a ring retains is one of its region. -/
theorem region_ringKept (s : State) (r : Nat) : ∀ x ∈ ringKept s r, x.region = r := fun x hx =>
  region_ringFound s r x (List.mem_filter.mp hx).1

/-- At a unit alone a region is resolved, the others are as they were. -/
theorem resolveRegion_alone (h : Alone s) (held : List (Nat × Nat)) (r : Nat) : Alone (resolveRegion s held r) ∧
    Resolved r (resolveRegion s held r) ∧
    ∀ z ∈ (resolveRegion s held r).jrn.recs, z.region ≠ r → z ∈ s.jrn.recs := by
  have hscan := scanned_mramScan s (regionBase r) (regionWords r * 64)
  rw [resolveRegion_eq]
  generalize mramScan s (regionBase r) (regionWords r * 64) = u at hscan
  have hjrn : u.jrn = s.jrn := by rw [hscan.rest]
  have hu : Alone u := h.of_state (hscan.regs _ _ _ (by decide)) (by rw [hjrn])
  obtain ⟨hrecs, htake, hstate⟩ := ringRebuilt_leaves u r
  have hkept := region_ringKept u r
  rw [hu.2]
  generalize ringRebuilt u r = v at hrecs htake hstate
  generalize ringKept u r = l at hrecs hkept
  obtain ⟨halone, hres⟩ := resolveRecs_alone (hu.of_state hstate htake) held r l
  refine ⟨halone, fun z hz hreg hunit hzero => ?_, fun z hz hreg => ?_⟩
  · obtain ⟨hv, hl⟩ | ⟨-, haborted⟩ := hres z hz
    · rw [hrecs, List.mem_append, List.mem_filter] at hv
      obtain ⟨-, hne⟩ | hmem := hv
      · exact absurd hreg (by simpa using hne)
      · exact hl hreg z hmem hunit hzero rfl
    · exact absurd (haborted.symm.trans hzero) (by decide)
  · obtain ⟨hv, -⟩ | ⟨hr, -⟩ := hres z hz
    · rw [hrecs, List.mem_append, List.mem_filter] at hv
      obtain ⟨hs, -⟩ | hmem := hv
      · exact hjrn ▸ hs
      · exact absurd (hkept z hmem) hreg
    · exact absurd hr hreg

/-- A region recovered: resolved, without its aborted records. -/
def recoverRegion (held : List (Nat × Nat)) (r : Nat) (s : State) : State := releaseAborted (resolveRegion s held r) r

/-- It leaves the other regions. -/
theorem regionFrom_recoverRegion (held : List (Nat × Nat)) (hk : r ≠ k) (s : State) : RegionFrom k s (recoverRegion held r s) := by
  refine .trans (fun ha => ?_) (regionFrom_releaseAborted _ r k)
  obtain ⟨halone, -, hothers⟩ := resolveRegion_alone ha held r
  exact ⟨halone, fun z hz hz' => ⟨z, hothers z hz fun h => hk (h.symm.trans hz'), rfl, rfl, rfl⟩⟩

/-- The three regions recovered: none of this unit's own records is left unresolved. -/
theorem recoverRegions_resolved (h : Alone s) (held : List (Nat × Nat)) (hk : k < 3) : Resolved k (forN 3 (recoverRegion held) s) := by
  obtain ⟨t, hbefore, hafter⟩ := forN_split (R := RegionFrom k) (RegionFrom.refl k) (fun _ _ _ => RegionFrom.trans)
    (f := recoverRegion held) hk (fun r _ hr x => regionFrom_recoverRegion held hr x) s
  obtain ⟨halone, hres, -⟩ := resolveRegion_alone (hbefore h).1 held k
  have hrelease := regionFrom_releaseAborted (resolveRegion t held k) k k
  exact hafter.resolved (hrelease halone).1 (hrelease.resolved halone hres)

end

/-! ### The recovery completes -/

section
variable {s : State}

/-- The journal once its recovery has ended. -/
def recoverEnd (s : State) (faults : Nat) : State :=
  journalLevels { (s.raise JOURNAL_STATUS_READY) with jrn := { s.jrn with recovering := false, takeover := false, faults := faults } }

/-- The rings recovered, and READY set. -/
theorem recoverDone_eq (s : State) (held : List (Nat × Nat)) : ∃ faults,
    recoverDone s held = recoverEnd (forN 3 (recoverRegion held) s) faults := by
  have hstep : (fun r s => releaseAborted (resolveRegion s held r) r) = recoverRegion held := rfl
  unfold recoverDone
  rw [hstep]
  generalize forN 3 (recoverRegion held) s = t
  unfold recoverEnd
  exact ⟨_, rfl⟩

/-- READY is set, the recovery has ended, the records are as they were. -/
theorem recoverEnd_leaves (s : State) (faults : Nat) : (recoverEnd s faults).on JOURNAL_STATUS_READY = true ∧
    (recoverEnd s faults).jrn.recovering = false ∧ (recoverEnd s faults).jrn.takeover = false ∧
    (recoverEnd s faults).jrn.recs = s.jrn.recs := by
  unfold recoverEnd
  refine ⟨?_, ?_⟩
  · rw [State.on, regsBut_journalLevels _ _ _ _ (by decide)]
    exact on_raise rfl s 0 0
  · rw [(fieldsOnly_journalLevels _).jrn]
    exact ⟨rfl, rfl, rfl⟩

/-- Without a recovery nothing completes. -/
theorem recoveryComplete_idle (h : s.jrn.recovering = false) (held : List (Nat × Nat)) : recoveryComplete s held = s := by
  unfold recoveryComplete
  rw [if_pos (by simp [h])]

/-- A recovery ends: READY, no record of a unit alone left unresolved. -/
theorem recoveryComplete_leaves (h : s.jrn.recovering = true) (held : List (Nat × Nat)) :
    ∃ u, recoveryComplete s held = submitPages u ∧ u.on JOURNAL_STATUS_READY = true ∧
      u.jrn.recovering = false ∧ u.jrn.takeover = false ∧
      (standalone s = true → s.jrn.takeover = false → ∀ z ∈ u.jrn.recs, z.region < 3 → z.unit = 2 → z.state ≠ 0) := by
  obtain ⟨faults, hdone⟩ := recoverDone_eq s held
  obtain ⟨hready, hgoing, htaking, hrecs⟩ := recoverEnd_leaves (forN 3 (recoverRegion held) s) faults
  have hwork := recordsKept_recoverWork (recoverDone s held) s.jrn.takeover
  rw [hdone] at hwork
  refine ⟨recoverWork (recoverDone s held) s.jrn.takeover, ?_, ?_, ?_, ?_, fun halone htake z hz hreg hunit => ?_⟩
  · unfold recoveryComplete recoverWork
    rw [if_neg (by simp [h])]
  · rw [hdone, State.on, hwork.ready]
    exact hready
  · rw [hdone, hwork.recovering, hgoing]
  · rw [hdone, hwork.takeover, htaking]
  · rw [hdone] at hz
    obtain ⟨y, hy, hyreg, hyunit, hystate⟩ := hwork.recs z hz
    rw [hrecs] at hy
    rw [← hystate]
    exact recoverRegions_resolved ⟨halone, htake⟩ held hreg y hy hyreg (hyunit.trans hunit)

end

end Sys2Proof.Machine

/-!
THE JOURNAL'S COMMANDS: records prepared, committed, refused, recovered and emptied; stores to USER (R226 to R232).
-/
namespace Sys2Proof.Machine

/-- REMOTE_PREPARE while the FAB clock runs. -/
theorem exec_remotePrepare {s : State} (hc : clocked s = true) (r : Fin 3) (jseq key : BitVec 64) (epoch : BitVec 32) (unit : BitVec 2)
    (timeNs : BitVec 64) (payload : List (BitVec 8)) : exec (.remotePrepare r jseq key epoch unit timeNs payload) s =
      .next (remotePrepare s r jseq.toNat key.toNat epoch.toNat unit.toNat timeNs.toNat (nats payload) (workOf r (nats payload))) :=
  exec_onFab (f := fun s => remotePrepare s r jseq.toNat key.toNat epoch.toNat unit.toNat timeNs.toNat (nats payload)
    (workOf r (nats payload))) hc rfl

/-- A refusal of the journal keeps its records and every byte. -/
theorem refuse_journal_leaves (s : State) (code : Nat) : (s.refuse .journal 0 0 code).reply = ⟨code, 0, false⟩ ∧
    (s.refuse .journal 0 0 code).jrn = s.jrn ∧ SameMemory s (s.refuse .journal 0 0 code) := by
  have hrest : FieldsOnly s (s.recordErr JOURNAL_ERR_CODE 0 code 0) := .ite rfl rfl
  exact ⟨rfl, hrest.jrn, fun a => congrArg (memGet · a) hrest.bytes⟩

/-- A store to USER while the FAB clock runs. -/
theorem exec_userStore {s : State} (hc : clocked s = true) {addr : BitVec 40} (h : inUser addr.toNat = true) (req : Req) (size : Fin 4)
    (val : BitVec 64) : exec (.userStore req addr size val) s =
      .next (busWrite s req addr.toNat (2 ^ size.val) (val.toNat % 2 ^ (8 * 2 ^ size.val))) :=
  (exec_onFab (f := fun s => if inUser addr.toNat then
    busWrite s req addr.toNat (2 ^ size.val) (val.toNat % 2 ^ (8 * 2 ^ size.val)) else s) hc rfl).trans (congrArg _ (if_pos h))

/-- Settles O46, command by command. -/
theorem journalCommands : Obligations.JournalCommands := by
  unfold Obligations.JournalCommands
  intro s req r jseq key epoch unit timeNs payload addr size val pre post x held
  have hnat (h : x.jseq < 2 ^ 64) : (BitVec.ofNat 64 x.jseq).toNat = x.jseq := by
    rw [BitVec.toNat_ofNat, Nat.mod_eq_of_lt h]
  refine ⟨fun hc hrecs hreg ht hf hpre huniq hl hscan hwf => ?_, fun hc h => ?_, fun hc hrecs hreg ht hf hpre huniq hlt => ?_,
    fun hc hrecs hreg ht hf hpre huniq hlt hrem hstate hneeds => ?_, fun hc h => ?_, fun hc hdue huniq hwf => ?_, fun hc h => ?_,
    fun hc h huniq => ?_, fun hc h => ?_, fun hc => ?_, fun h => ?_, fun hc h => ?_, fun hc h => ?_, fun h hscan => ?_,
    fun hc huser hp hopen hfix hscan hwf => ?_, fun hc huser hp hopen hbad hscan => ?_⟩
  · exact ⟨_, exec_onFab hc rfl, localPrepare_leaves ⟨hrecs, hreg, ht, hf, hpre, huniq⟩ hl hscan hwf⟩
  · exact (exec_onFab hc rfl).trans (congrArg _ (localPrepare_none h))
  · have hprep := preparedReceive_leaves ⟨hrecs, hreg, ht, hf, hpre, huniq⟩
    refine ⟨preparedReceive s r x.jseq, (exec_onFab hc rfl).trans ?_, hprep, rfl⟩
    rw [hnat hlt]
  · have htime := prepareTimeout_leaves r.isLt ⟨hrecs, hreg, ht, hf, hpre, huniq⟩ hrem hstate hneeds
    refine ⟨prepareTimeout s r x.jseq, (exec_onFab hc rfl).trans ?_, htime⟩
    rw [hnat hlt]
  · exact (exec_onFab hc rfl).trans (congrArg _ (prepareTimeout_alone h _))
  · obtain ⟨u, heq, hleaves⟩ := journalAccept_leaves hdue huniq hwf
    exact ⟨u, (exec_onFab hc rfl).trans (congrArg _ heq), hleaves⟩
  · exact (exec_onFab hc rfl).trans (congrArg _ (journalAccept_none h))
  · obtain ⟨u, heq, hleaves⟩ := remoteCommit_leaves h huniq
    exact ⟨u, (exec_onFab hc rfl).trans (congrArg _ heq), hleaves⟩
  · exact (exec_onFab hc rfl).trans (congrArg _ (remoteCommit_none h))
  · have hexec := exec_remotePrepare hc r jseq key epoch unit timeNs payload
    refine ⟨fun hcode => ?_, fun hcode huniq => ?_⟩
    · have hleaves := refuse_journal_leaves s (remoteCode s r jseq.toNat epoch.toNat (nats payload))
      exact ⟨_, hexec.trans (congrArg _ (remotePrepare_refused hcode)), hleaves⟩
    · obtain ⟨hok, hrecs, hnext⟩ := remotePrepare_leaves (key := key.toNat) (unit := unit.toNat) (timeNs := timeNs.toNat)
        (work := workOf r (nats payload)) hcode r.isLt huniq
      obtain ⟨-, hseq, -⟩ := remoteCode_ok hcode
      exact ⟨_, _, hexec, hok, hrecs, hnext, rfl, hseq.symm, rfl, rfl, rfl, rfl, rfl, rfl, rfl, rfl⟩
  · exact congrArg Host.Outcome.next (journalRecover_answers h)
  · exact (exec_onFab hc rfl).trans (congrArg _ (recoveryComplete_idle h _))
  · obtain ⟨u, heq, hleaves⟩ := recoveryComplete_leaves h (held.map fun h => (h.1.val, h.2.toNat))
    exact ⟨u, (exec_onFab hc rfl).trans (congrArg _ heq), hleaves⟩
  · obtain ⟨hok, hjrn, hbytes, hlevels⟩ := journalFormat_answers h hscan
    exact ⟨_, rfl, hok, hjrn, fun a ha hk => hbytes a ⟨ha, hk⟩, hlevels⟩
  · refine ⟨_, (exec_userStore hc huser req size val).trans (congrArg _ (userStore_good huser hp hopen hfix hscan)), rfl,
      State.rd_wr_same .., RegsBut.wr (RegsBut.refl _ s) (List.mem_singleton_self _) _, fun b => memGet_store hwf ..⟩
  · exact (exec_userStore hc huser req size val).trans (congrArg _ (userStore_bad huser hp hopen hbad hscan))

end Sys2Proof.Machine
